-- ==== Sys2Proof/Word.lean ====
section
/-!
DEFINITION. The word types of the TZM-6416 (R7: little-endian 64-bit words, bit 0 least significant) and the
index types of its numbered blocks.
-/

namespace Sys2Proof

/-- A 64-bit word of DRAM, host memory, a docket or a register (R7). -/
abbrev Word := BitVec 64

/-- A byte (R7). -/
abbrev Byte := BitVec 8

/-- A host channel HMB0 to HMB7 (R516). -/
abbrev Chan := Fin 8

/-- A head port HP00 to HP31 (R22). -/
abbrev HeadPort := Fin 32

/-- A fabric port FP00 to FP31 (R22). -/
abbrev FabPort := Fin 32

/-- A lane L00 to L63 (R22). -/
abbrev LaneNo := Fin 64

/-- An axis AX0 to AX3 (R332). -/
abbrev AxisNo := Fin 4

/-- A camera port CP0 to CP3 (R356). -/
abbrev CamNo := Fin 4

/-- An encoder interface ENC0 or ENC1 (R304). -/
abbrev EncNo := Fin 2

/-- A furrow engine F0 to F15 (R29). -/
abbrev EngineNo := Fin 16

/-- A product-detect input PTRIG0 to PTRIG3 with its MARK_MISS output (R61, R68). -/
abbrev TrigNo := Fin 4

/-- A switch input SW00 to SW15 (R341). -/
abbrev SwitchNo := Fin 16

/-- A compare trigger TB_CMP0 to TB_CMP7 (R497). -/
abbrev CmpNo := Fin 8

/-- A headrace slot; at most eight parcels are in flight (R79). -/
abbrev SlotNo := Fin 8

/-- A fabric node number (R439). -/
abbrev NodeNo := BitVec 12

/-- A page identifier (R97). -/
abbrev PageId := BitVec 32

/-- A layer identifier (R87). -/
abbrev LayerId := BitVec 32

end Sys2Proof
end

