-- ==== Sys2Proof/Syntax.lean ====
section
/-!
DEFINITION. The commands of the block: one constructor of Instr for every row of spec/opcode_table.json
(95_what_each_step_holds.md: each step is whole and indivisible). The operands of a command carry what comes from
outside the device in that step: a command word's argument and docket, a frame, a sample, the outcome of a read.
-/

namespace Sys2Proof

/-- How the DOCKET parcel that carries an embedded command was authenticated (R544, R565, R603). -/
inductive ParcelAuth where
  /-- verified under the session key of a host channel -/
  | session (ch : Chan)
  /-- verified under the pair key, mirrored from the partner unit -/
  | mirror
  /-- verified under the pair key, offered by BULK_OFFER from the partner or the configured ditch-rider -/
  | offered
deriving DecidableEq, Repr

/-- Where a command came from (R516, R454, R543). The session names the channel session it was taken in (R524, R454). -/
inductive Origin where
  | host (ch : Chan) (session : Byte)
  | peer (node : NodeNo) (session : BitVec 32)
  | parcel (auth : ParcelAuth)
deriving DecidableEq, Repr

/-- What a read of one DRAM burst meets (R584): the symbols in error of its four codewords of 20 symbols, and whether a fault of the
command or address path brought another burst. -/
structure DramRead where
  symbols   : List (Fin 4 × Fin 20) := []
  elsewhere : Bool := false
deriving DecidableEq, Repr

/-- A burst that a step reads and that does not stand as it was written, with what the read meets. -/
structure BurstRead where
  burst : BitVec 30
  read  : DramRead := {}
deriving DecidableEq, Repr

/-- A command word as firmware handles it (R532): its tag, DOCKET flag and ARG, with what the device read from host
memory for it. docket: the words of the docket it names. tables: the words at the addresses inside the docket, in docket order
(R540, R291, R555). writeFail: the address at which a result write ended in an error, if one did (R514). reads: bursts with errors that
the command's reads of DRAM meet (R584, R587). -/
structure Cmd where
  origin     : Origin
  tag        : BitVec 5
  docketFlag : Bool := false
  arg        : BitVec 48 := 0
  docket     : List Word := []
  tables     : List (List Word) := []
  writeFail  : Option Word := none
  reads      : List BurstRead := []
deriving DecidableEq, Repr

/-- Which bytes of an 8-byte register a read takes (R425). -/
inductive ReadPart where
  | full | low | high
deriving DecidableEq, Repr

/-- What the board configuration record says (R23, R407, R457, R582, R598, R411). Its layout is not given. -/
structure BoardRecord where
  g6Fabric      : Bool := false
  g7Fabric      : Bool := false
  x4            : Bool := false
  laneFitted    : Word := 0
  population    : Fin 6 := 0
  perstDevice   : Bool := false
  boardId       : BitVec 32 := 0
  rootEligible  : Bool := false
  preferredNode : NodeNo := 0
  eqTable       : List Word := []
deriving DecidableEq, Repr

/-- A kernel of an image (R171): its code, and its signature r ‖ s in twelve words. -/
structure KernelRead where
  code      : List Word
  signature : List Word
deriving DecidableEq, Repr

/-- The kernels of an image (R171), in the order of their indexes, with the public key that signs them and the hash of that key that the
image holds. Where they lie in the image is not given. -/
structure KernelSet where
  kernels : List KernelRead := []
  key     : List Word := []
  keyHash : BitVec 384 := 0
deriving DecidableEq, Repr

/-- One image slot as the boot ROM reads it from the flash (R557): the 64 header words, the rest of the image, and
the board configuration record and the kernels the image carries. -/
structure ImageRead where
  header  : List Word
  body    : List Word
  board   : BoardRecord
  kernels : KernelSet := {}
deriving DecidableEq, Repr

/-- Outcome of stage ROM (R604). -/
inductive RomOutcome where
  | pass
  | lockkeeperFail
  | otherSramFail (unit : BitVec 5)
deriving DecidableEq, Repr

/-- A DRAM training failure (R592): subchannel, rank, step. -/
structure TrainFail where
  subchannel : BitVec 2
  rank       : Bool
  step       : BitVec 4
deriving DecidableEq, Repr

/-- What a boot stage found (R604). temps: the on-die sensors of the THERMAL test, in 1/16 °C (R617). fails: training steps that failed;
dqs: readings of the DQS interval oscillators (R592). bootMs: milliseconds since the release of RESET_N (R608). timeUp: the stage's time
limit has passed. -/
inductive BootResult where
  | rom (o : RomOutcome)
  | image (preferred other : Option ImageRead)
  | firmware (temps : Vector Int 8)
  | dram (fails : List TrainFail) (dqs : List Nat)
  | lanes (bootMs : BitVec 12) (timeUp : Bool)
  | fabric (bootMs : BitVec 12) (timeUp : Bool)
deriving DecidableEq, Repr

/-- A level at an input pin, and for how many samples it has held (R310). -/
structure HeldLevel where
  level : Bool
  held  : Nat
deriving DecidableEq, Repr

/-- An index input's level and how long it has held, and how many ns it stands behind the last ADC sample (R310,
R316). -/
structure IndexEdge where
  input : HeldLevel
  after : Fin 51
deriving DecidableEq, Repr

/-- What a lane's receiver has counted within 125 µs: invalid sync headers, on a camera lane code and disparity errors, and overflows and
underflows of the elastic buffer (R425, R426). -/
structure LaneCounts where
  invalid : BitVec 16
  elastic : Byte
deriving DecidableEq, Repr

/-- What a coil's comparator shows: for how many ns the coil has been in its state, and the sense voltage in 1/256 of a DAC code
(R349). -/
structure ChopSense where
  lasted : Nat
  sense  : Nat
deriving DecidableEq, Repr

/-- A furrow engine at the end of a phase, with the words of its local memory at which one error was corrected in the phase (R136). -/
structure EngineEnd where
  engine    : EngineNo
  corrected : List (BitVec 16)
deriving DecidableEq, Repr

/-- The fatal faults of R610, with the unit that failed; for the junction temperature the eight on-die sensors in 1/16 °C. -/
inductive FatalCause where
  | firePll
  | otherPll (unit : BitVec 5)
  | lockstep
  | engine (k : EngineNo) (word : BitVec 16)
  | dramFirmware (burst : BitVec 30)
  | sram (unit : BitVec 5)
  | overTemperature (temps : Vector Int 8)
deriving DecidableEq, Repr

/-- What arrives for an outstanding read of a parcel (R80, steps 5 to 7): ciphertext words, or an error completion. -/
inductive Completion where
  | data (words : List Word)
  | error
deriving DecidableEq, Repr

/-- What the preparation of a page meets in the page table, the layer table and the object store (R587): bursts with errors, and the
references whose layers need what those of the last two hold. -/
structure ObjectRead where
  reads : List BurstRead := []
  refs  : List Nat := []
deriving DecidableEq, Repr

/-- What the publication of a parcel reads (R587, R544): bursts with errors of its staging; for a DOCKET parcel
the words at the addresses inside each embedded docket, in order, and the address at which a write of the result buffer failed. -/
structure PublishRead where
  reads     : List BurstRead := []
  tables    : List (List (List Word)) := []
  writeFail : Option Word := none
deriving DecidableEq, Repr

/-- A JTAG instruction, told apart as R580 tells them apart. -/
inductive JtagInstruction where
  | bypass | idcode | samplePreload | other
deriving DecidableEq, Repr

/-- A fabric frame as received (R428 to R430): header word, data words, trailer word. -/
structure FabFrame where
  header  : Word
  data    : List Word
  trailer : Word
deriving DecidableEq, Repr

/-- What a loopback's checker found (R424). -/
structure LoopbackResult where
  bitErrors : Nat
  gained    : Bool
  lost      : Bool
deriving DecidableEq, Repr

/-- Coil A or coil B of an axis. -/
inductive Coil where
  | a | b
deriving DecidableEq, Repr

/-- The two reasons of a coil fault (R352). -/
inductive CoilFaultReason where
  | openCoil | short
deriving DecidableEq, Repr

/-- The pixel formats of R378. -/
inductive PixelFormat where
  | mono8 | mono10 | mono12
deriving DecidableEq, Repr

/-- What the camera's bootstrap registers report (R357, step 3). -/
structure Bootstrap where
  twoLanes : Bool
  cxp12    : Bool
  format   : PixelFormat
  width    : Nat
deriving DecidableEq, Repr

/-- A stream packet as received (R366, R382): its size in bytes, its samples, and whether its CRC and image header pass. -/
structure StreamPacket where
  bytes    : Nat
  samples  : Nat
  crcOk    : Bool
  headerOk : Bool
deriving DecidableEq, Repr

/-- A compressor context (R125): one for each tap source, one for the print-log export. -/
inductive CompressorContext where
  | tap (p : CamNo) (point : Fin 4)
  | logExport
deriving DecidableEq, Repr

/-- A calibration procedure with its target (R403). -/
inductive CalProc where
  | nozzle (p : HeadPort)
  | density
  | encTrim (e : EncNo)
  | chopper (ax : AxisNo)
deriving DecidableEq, Repr

/-- What a calibration procedure measured (R405). leftPpm, leftMdeg: what the fit leaves, in millionths of the amplitude and in
thousandths of a degree (R309). Times in ns. -/
inductive CalMeasure where
  | strips
  | trim (ofsS ofsC gainC phase : Int) (leftPpm leftMdeg : Nat)
  | chops (tOn1 tOff1 tOn2 tOff2 : Nat)
deriving DecidableEq, Repr

/-- What test 3 finds of an encoder ADC (R617): gain error in 1/100 %, offset in codes, and whether a code is missing. -/
structure AdcRead where
  enc     : EncNo
  gainErr : Int
  offset  : Int
  missing : Bool
deriving DecidableEq, Repr

/-- What a self-test measured (R617): a failing memory, engines whose signature differs, the ADCs, the trip points of the coils as codes
from nominal, the lanes' checkers, or the on-die sensors in 1/16 °C. -/
inductive TestFound where
  | cells (bad : Option Byte)
  | signatures (bad : List EngineNo)
  | adcs (reads : List AdcRead)
  | trips (reads : List (AxisNo × Coil × Int))
  | links (reads : List (LaneNo × LoopbackResult))
  | temperatures (temps : Vector Int 8)
deriving DecidableEq, Repr

/-- One run of a self-test (R616, R617): VDD_CORE in µV, SYSCLK in Hz, what was measured, the duration. -/
structure TestRun where
  test       : Fin 16
  microvolts : Nat
  sysclkHz   : Nat
  found      : TestFound
  durationMs : Nat
deriving DecidableEq, Repr

/-- The outcome of a docket read (R514). -/
inductive DocketRead where
  | words (ws : List Word)
  | error (address : Word)
deriving DecidableEq, Repr

/-- The commands: one constructor per row of spec/opcode_table.json. -/
inductive Instr where
  /-- ECHO (R545): System command that returns ARG bits [39:0] unchanged. -/
  | echo (c : Cmd)
  /-- VERSION (R545): System command that returns stepping, firmware version, kernel set version and lifecycle state. -/
  | version (c : Cmd)
  /-- INFO (R545): System command that writes the device identity, board, DRAM and lane-role block into a result buffer. -/
  | info (c : Cmd)
  /-- EVENT_MASK (R535): Sets the event class mask of the commanding channel and returns the previous mask. -/
  | eventMask (c : Cmd)
  /-- PAGE_COMMIT (R49): Checks a page commit in order and, if it passes, enters the page into the committed-page queue with its permitted rate and start rules. -/
  | pageCommit (c : Cmd)
  /-- PAGE_CANCEL (R46): Removes a COMMITTED page from the queue and makes it MISSED. -/
  | pageCancel (c : Cmd)
  /-- PAGE_DELETE (R545): Deletes a page that is not queued or printing, and ends the fallback designation when the page is the fallback page. -/
  | pageDelete (c : Cmd)
  /-- PAGE_ABORT (R649): Aborts the PRINTING page at the last bar line allocated, subject to the abort-line limits. -/
  | pageAbort (c : Cmd)
  /-- PAGE_STATUS (R551): Writes the page counter, the flip time and the queue entries, all taken at one instant, into a result buffer. -/
  | pageStatus (c : Cmd)
  /-- PAGE_DEFECTS (R552): Writes the defect records of a page into a result buffer. -/
  | pageDefects (c : Cmd)
  /-- FALLBACK_SET (R66): Designates a READY page of at most 64 lines as the fallback page, or clears the designation. -/
  | fallbackSet (c : Cmd)
  /-- PRINT_START (R547): Checks the print-start conditions and starts printing with bar line 0 at the tracked position. -/
  | printStart (c : Cmd)
  /-- PRINT_STOP (R546): Stops allocation of page starts and ends printing at the stop point selected by FLUSH, HOLD, ABORT and NOW. -/
  | printStop (c : Cmd)
  /-- WAVE_LOAD (R291): Loads a waveform table for one depth onto the named head ports. -/
  | waveLoad (c : Cmd)
  /-- PARCEL_LOAD (R80): Starts the pull of a parcel described by a scatter-list docket; answered with the parcel's final outcome. -/
  | parcelLoad (c : Cmd)
  /-- LAYER_DELETE (R96): Frees a layer that no queued, printing or fallback page references, and returns the pages that refer to it to DEFINED. -/
  | layerDelete (c : Cmd)
  /-- PARCEL_TIMEOUT (R82): Sets the parcel timeout and returns the previous value. -/
  | parcelTimeout (c : Cmd)
  /-- STORE_INFO (R545): Returns the free layer store and the counts of layers and pages held. -/
  | storeInfo (c : Cmd)
  /-- GENERATOR_DEFINE (R158): Secure command that defines or redefines a TEXT or DATAMATRIX generator. -/
  | generatorDefine (c : Cmd)
  /-- GENERATOR_DELETE (R545): Deletes a generator that no queued page uses. -/
  | generatorDelete (c : Cmd)
  /-- CAMERA_CONFIG (R378): Settings command for the camera ports, writing direct settings and shadowed settings. -/
  | cameraConfig (c : Cmd)
  /-- CAMERA_COMMIT (R379): Commits a port's shadow set as a new generation that applies from the next frame. -/
  | cameraCommit (c : Cmd)
  /-- STATS_READ (R549): Copies, in frame order, the whole unreleased statistics records of a port that fit into a result buffer. -/
  | statsRead (c : Cmd)
  /-- STATS_RELEASE (R549): Releases a port's statistics records up to the named frame. -/
  | statsRelease (c : Cmd)
  /-- TAP_READ (R549): Copies whole tap frames of a tap source into a result buffer. -/
  | tapRead (c : Cmd)
  /-- TAP_RELEASE (R549): Releases tap frames of a tap source up to the named frame. -/
  | tapRelease (c : Cmd)
  /-- HEALTH_READ (R549): Writes the health state of every nozzle of a head port into a result buffer. -/
  | healthRead (c : Cmd)
  /-- HEALTH_FORCE (R549): Makes a nozzle FORCED, or returns it to OK, and raises the matching event with cause 3. -/
  | healthForce (c : Cmd)
  /-- HEALTH_CONFIG (R406): Settings command for the strip and calibration settings, accepted only while printing is stopped. -/
  | healthConfig (c : Cmd)
  /-- NOZZLE_REPORT (R399): Takes a verdict or a strip end from a peer; at a strip end applies the kept verdicts to the health map. -/
  | nozzleReport (c : Cmd)
  /-- AXIS_CONFIG (R354): Settings command for the axis, switch-input and chopper settings. -/
  | axisConfig (c : Cmd)
  /-- MOVE (R336): Starts a POSITION or SPEED move on an axis, at once or at a compare trigger. -/
  | move (c : Cmd)
  /-- STOP (R335): Stops an axis with its own deceleration, or with the limit deceleration when FAST is set. -/
  | stop (c : Cmd)
  /-- HOME (R345): Starts the homing procedure of an axis. -/
  | home (c : Cmd)
  /-- ENCODER_CONFIG (R330): Settings command for the encoder interfaces, relays, cross-check and switch sets. -/
  | encoderConfig (c : Cmd)
  /-- SLUICE_CONFIG (R263): Settings command for the sluice settings. -/
  | sluiceConfig (c : Cmd)
  /-- TRIGGER_CONFIG (R542): Settings command for the product-detect inputs and MARK_MISS outputs, accepted only while printing is stopped. -/
  | triggerConfig (c : Cmd)
  /-- GOVERNOR_CONFIG (R216): Settings command for the speed governor and the weir levels. -/
  | governorConfig (c : Cmd)
  /-- FABRIC_CONFIG (R457): Settings command for the fabric settings. -/
  | fabricConfig (c : Cmd)
  /-- PEER_POST (R550): Opens a fabric channel to a node if needed, posts a command word there and returns the peer's response word. -/
  | peerPost (c : Cmd)
  /-- PEER_CLOSE (R545): Closes the fabric channel to a node. -/
  | peerClose (c : Cmd)
  /-- BULK_OFFER (R550): Offers a bulk parcel transfer; the receiver allocates and answers with the parcel's outcome. -/
  | bulkOffer (c : Cmd)
  /-- PAIR_CONFIG (R489): Settings command for the redundancy-unit settings; with RIDER NONE, unit A takes its own claim. -/
  | pairConfig (c : Cmd)
  /-- RIDER_CONFIG (R490): Settings command for the ditch-rider role, for up to 8 pairs. -/
  | riderConfig (c : Cmd)
  /-- CLAIM_GRANT (R482): Secure command that delivers a host-agent grant; the unit checks it and forwards it to its partner. -/
  | claimGrant (c : Cmd)
  /-- SWAP (R479): Asks the ditch-rider to grant the claim of a pair to its standby. -/
  | swap (c : Cmd)
  /-- TIME_CONFIG (R505): Settings command for the network-time settings. -/
  | timeConfig (c : Cmd)
  /-- TRIGGER_ARM (R497): Arms a compare trigger with a value and a period, replacing any earlier arming. -/
  | triggerArm (c : Cmd)
  /-- TRIGGER_DISARM (R545): Disarms a compare trigger and returns its firing count. -/
  | triggerDisarm (c : Cmd)
  /-- TIME_STEP (R496): Steps the timebase OFFSET; a backward step is refused while printing. -/
  | timeStep (c : Cmd)
  /-- PPS_SECOND (R504): Sets the whole-second number of the next PPS second. -/
  | ppsSecond (c : Cmd)
  /-- IDENTITY_READ (R556): Writes the device identity, lifecycle, public key and certificate chain into a result buffer. -/
  | identityRead (c : Cmd)
  /-- SESSION_OPEN (R563): Authenticates the host and derives a channel session key and salt. -/
  | sessionOpen (c : Cmd)
  /-- SESSION_CLOSE (R564): Ends the channel's session and zeroises its keys. -/
  | sessionClose (c : Cmd)
  /-- PAIR_KEY_ESTABLISH (R566): Runs the pair-key exchange with the partner and the ditch-rider. -/
  | pairKeyEstablish (c : Cmd)
  /-- SERIAL_JOB_OPEN (R571): Opens a serialisation job slot with its unwrapped job key and serial range. -/
  | serialJobOpen (c : Cmd)
  /-- SERIAL_JOB_CLOSE (R573): Closes a job slot and zeroises its job key. -/
  | serialJobClose (c : Cmd)
  /-- LOG_EXPORT (R578): Exports print-log lines as Ryuli blocks into a result buffer. -/
  | logExport (c : Cmd)
  /-- LOG_RELEASE (R578): Frees the lines of an export and of all earlier exports. -/
  | logRelease (c : Cmd)
  /-- FW_ACTIVATE (R560): Writes the staged image to the other QSPI slot, selects that slot and restarts the Lockkeeper on it. -/
  | fwActivate (c : Cmd)
  /-- LIFECYCLE_SET (R554): Advances the lifecycle to RETURNED and zeroises pair keys, job keys and the owner hash. -/
  | lifecycleSet (c : Cmd)
  /-- DEBUG_UNLOCK (R581): Zeroises volatile secrets, locks the MRAM key region and enables debug. -/
  | debugUnlock (c : Cmd)
  /-- PROVISION (R555): Runs one provisioning step: GENERATE, CERTIFY or OWNER. -/
  | provision (c : Cmd)
  /-- CAL_NOZZLE (R405): Starts nozzle detection for a head port. -/
  | calNozzle (c : Cmd)
  /-- CAL_DENSITY (R405): Starts density calibration. -/
  | calDensity (c : Cmd)
  /-- CAL_ENC_TRIM (R405): Starts the encoder ADC trim procedure for an interface. -/
  | calEncTrim (c : Cmd)
  /-- CAL_CHOPPER (R405): Starts the chopper trim procedure for an axis. -/
  | calChopper (c : Cmd)
  /-- CAL_CANCEL (R404): Cancels a running procedure, which ends CAL_FAIL with reason 9. -/
  | calCancel (c : Cmd)
  /-- LANE_CONTROL (R420): Enables a fitted vendor lane, or takes it to DOWN. -/
  | laneControl (c : Cmd)
  /-- LOOPBACK (R422): Starts a loopback test on a lane for a set duration. -/
  | loopback (c : Cmd)
  /-- SELFTEST_RUN (R617): Runs one self-test and returns its result word; test 15 orders a device reset. -/
  | selftestRun (c : Cmd)
  /-- COUNTERS_READ (R545): Writes the error counters and the self-test summary word into a result buffer. -/
  | countersRead (c : Cmd)
  /-- POWER_STATE (R614): Orders a change to RUN, IDLE or DORMANT. -/
  | powerState (c : Cmd)
  /-- MEMORY_INFO (R545): Returns the DRAM capacity and the layer store size. -/
  | memoryInfo (c : Cmd)
  /-- HMB_IN_POST (R516): 8-byte host write to HMB_IN that posts a command word and sets IN_FULL. -/
  | hmbInPost (ch : Chan) (word : Word)
  /-- HMB_OUT_READ (R518): Host read of HMB_OUT that takes the oldest outbound word, or returns EMPTY when none waits. -/
  | hmbOutRead (ch : Chan)
  /-- HOST_RESET (R524): Write of HOST_RESET 1 that resets the host end of a channel and queues MAILBOX_ABORTED. -/
  | hostReset (ch : Chan)
  /-- IRQ_MASK_WRITE (R528): Write of IRQ_MASK that sends the MSI-X message of any vector whose mask bit is set while its cause is pending. -/
  | irqMaskWrite (value : Word)
  /-- AXIS_LATCH_READ (R342): Read-takes read of DEV_AXn_LATCH, which consumes the latched position. -/
  | axisLatchRead (ax : AxisNo)
  /-- LANE_ERR_READ (R425): Read-takes read of DEV_LANEn_ERR, which consumes the lane error counters. -/
  | laneErrRead (lane : LaneNo) (part : ReadPart)
  /-- REGISTER_WRITE (R509): Write to a BAR0 register that has no row of its own: W1C clears, RW fields, or no effect on RO and unassigned offsets. -/
  | registerWrite (offset : BitVec 16) (wide : Bool) (value : Word)
  /-- FIRMWARE_TAKES_WORD (R517): Firmware takes a posted word from HMB_IN, clears IN_FULL and starts handling the command. -/
  | firmwareTakesWord (ch : Chan)
  /-- ENGINE_CHANNEL_POST (R529): A furrow engine posts a fault or completion word to the Lockkeeper on its internal channel. -/
  | engineChannelPost (k : EngineNo) (word : Word)
  /-- SUPPLY_MONITOR_RESET (R599): Device reset while a monitored supply is below its threshold, at power-on or on a fall during operation. -/
  | supplyMonitorReset
  /-- RESET_N (R600): Board reset input that resets the device, keeping only fuses, MRAM and flash. -/
  | resetN
  /-- PERST_N (R598): Platform reset that acts as a Function Level Reset, or as a device reset, by PERST_ACTION. -/
  | perstN
  /-- FUNCTION_LEVEL_RESET (R515): Host-end reset of every channel; ends every DMA and clears the IRQ registers, while printing continues. -/
  | functionLevelReset
  /-- PCIE_POWER_STATE (R515): The function enters D3hot or returns to D0, which suspends or resumes DMA and MSI-X while printing continues. -/
  | pciePowerState (d3hot : Bool)
  /-- COMMANDED_RESET (R603): Device reset that begins 10 µs after an authenticated test 15 is taken. -/
  | commandedReset
  /-- BOOT_STAGE_DONE (R604): Completion of a boot stage, which advances BOOT_STAGE, or halts or stops boot on failure. -/
  | bootStageDone (r : BootResult)
  /-- WATCHDOG_EXPIRY (R613): Lockkeeper watchdog expiry that acts on the fire path and restarts the Lockkeeper from ROM. -/
  | watchdogExpiry
  /-- WATCHDOG_RESET (R613): Completion of a Lockkeeper restart, after a watchdog expiry or FW_ACTIVATE, with the firmware-end mailbox rules. -/
  | watchdogReset (preferred other : Option ImageRead)
  /-- FATAL_FAULT (R611): Detection of a fatal fault: stops tokens, asserts FAULT_N and MARK_MISS, sets SPDLIM to zero and ends pages. -/
  | fatalFault (f : FatalCause)
  /-- FIRE_PLL_RELOCK (R492): Relock of the fire PLL; the timebase counter resumes from its held value. -/
  | firePllRelock
  /-- DORMANT_ENTRY (R594): Completes entry to DORMANT after parcels drain and axes rest, putting DRAM into self-refresh. -/
  | dormantEntry
  /-- DORMANT_EXIT (R594): Completes a wake from DORMANT, restoring DRAM and returning to RUN. -/
  | dormantExit
  /-- PARCEL_SLOT_START (R79): A free headrace slot is given to the oldest waiting parcel load that the limits permit, and its header is requested. -/
  | parcelSlotStart
  /-- PARCEL_HEADER_ARRIVAL (R80): The parcel header arrives and is checked for header faults, replay and allocation. -/
  | parcelHeaderArrival (slot : SlotNo) (header : List Word)
  /-- PARCEL_COMPLETION (R80): A read completion of a parcel's payload or trailer is decrypted in line into its allocation, or a DMA error discards the parcel. -/
  | parcelCompletion (slot : SlotNo) (r : Completion)
  /-- PARCEL_TIMER_EXPIRY (R82): The parcel timeout expires at its 1 ms evaluation and the parcel is discarded. -/
  | parcelTimerExpiry (slot : SlotNo)
  /-- PARCEL_TAG_CHECK (R80): Verifies the GCM tag of a whole parcel, advances its sequence space and applies its content checks. -/
  | parcelTagCheck (slot : SlotNo)
  /-- PARCEL_PUBLISH (R83): Publishes a verified parcel's content atomically, one parcel at a time in order of verification. -/
  | parcelPublish (r : PublishRead)
  /-- PARCEL_MIRROR (R485): The active unit mirrors a verified parcel to the standby as BULK transfers. -/
  | parcelMirror
  /-- PAGE_PREPARATION (R56): Preparation of a page's first band begins at the later of the trailing edge and its commit line, fixing its failed set, map and screens. -/
  | pagePreparation (fallback : Bool) (o : ObjectRead)
  /-- BLOCK_FETCH_DONE (R118): A fetched block arrives and the decompressor verifies and decodes it. -/
  | blockFetchDone (k : EngineNo) (ref : BitVec 9) (second : Bool) (reads : List BurstRead)
  /-- ENGINE_EDGE_EXCHANGE (R134): An engine ends phase 1, sends its edge codes and waits for its neighbours' edge codes. -/
  | engineEdgeExchange (e : EngineEnd)
  /-- ENGINE_BAND_HANDOVER (R133): An engine ends phase 2, hands the band to the mapper and starts its next band. -/
  | engineBandHandover (e : EngineEnd)
  /-- MAPPER_WRITE_DONE (R207): The mapper's write stage completes a band, which becomes present in the cistern. -/
  | mapperWriteDone
  /-- ENCODER_ADC_SAMPLE (R306): An analogue encoder sample is corrected, qualified and converted into a count change. -/
  | encoderAdcSample (e : EncNo) (a b : BitVec 14)
  /-- QUADRATURE_TRANSITION (R311): A qualified quadrature change moves the position by a count, or counts an impossible transition. -/
  | quadratureTransition (e : EncNo) (a b : HeldLevel)
  /-- INDEX_EVENT (R317): A qualified index edge references the angle counter or sets, clears or refuses a pending correction. -/
  | indexEvent (e : EncNo) (edge : IndexEdge)
  /-- TRACKING_LOOP_UPDATE (R234): Alpha-beta tracking loop update of the sluice, which may allocate a line and issue tokens. -/
  | trackingLoopUpdate (e : EncNo) (at_ : Word)
  /-- REST_ENTRY (R243): The sluice enters REST after the raw position has stayed within two counts for 1 ms. -/
  | restEntry
  /-- LINE_BOUNDARY (R14): Core blocks take a new bar line number from the sluice through the crossing and act on it. -/
  | lineBoundary (at_ : Word)
  /-- MARK_MISS_PULSE_END (R68): A MARK_MISS pulse width expires and the output is released. -/
  | markMissPulseEnd (n : TrigNo)
  /-- PRODUCT_DETECT (R62): A qualified PTRIG edge is refused or binds the queue head, the fallback page or nothing. -/
  | productDetect (n : TrigNo)
  /-- KEEP_WET_TICKLE (R247): Sends TICKLE to every head port after KEEP_WET without a line boundary, and every TICKLE_PERIOD after that. -/
  | keepWetTickle (at_ : Word)
  /-- HOLD_LIMIT_EXPIRY (R248): A page becomes INTERRUPTED after HOLD_LIMIT without a line boundary, and is aborted or continued by its policy. -/
  | holdLimitExpiry
  /-- STATUS_SEND (R281): Sends STATUS with the claim on every port in use every 2 µs. -/
  | statusSend
  /-- LAT_PROBE_SEND (R288): Sends a latency probe on a port. -/
  | latProbeSend (p : HeadPort) (sentAt : Nat)
  /-- LAT_PROBE_TIMEOUT (R288): Drops a probe unanswered within 10 µs. -/
  | latProbeTimeout (p : HeadPort) (seq : Byte)
  /-- LAT_ECHO (R288): Receives a latency echo and updates λ from the median of the measurements. -/
  | latEcho (p : HeadPort) (block : Word) (arrival : Nat)
  /-- ALIVE (R294): Receives an ALIVE report, tracks HIGHEST and renews claims where MAXCLAIM requires it. -/
  | alive (p : HeadPort) (block : Word)
  /-- ALIVE_TIMEOUT (R303): No ALIVE for 100 µs; the port is treated as down. -/
  | aliveTimeout (p : HeadPort)
  /-- LINE_ACK (R303): Receives a line outcome, counting misses and disagreements and updating BAR_SILENT. -/
  | lineAck (p : HeadPort) (block : Word)
  /-- TEMP (R255): Receives a head temperature report and takes derate, hard-limit or clear decisions from a bar line. -/
  | temp (p : HeadPort) (block : Word)
  /-- HD_EVENT (R303): Receives a head-driver thermal cut-off or fault report and raises its event. -/
  | hdEvent (p : HeadPort) (block : Word)
  /-- CAPS (R301): Receives head-driver capabilities, checks them against the map and judges the health map. -/
  | caps (p : HeadPort) (control : Word) (data : Option Word)
  /-- WAVE_LOAD_SEND (R292): Sends a held waveform load once no page of its depth is printing or prepared. -/
  | waveLoadSend (p : HeadPort)
  /-- WAVE_ACK (R293): Receives the outcome of a waveform load. -/
  | waveAck (p : HeadPort) (block : Word)
  /-- WAVE_ACK_TIMEOUT (R293): No WAVE_ACK within 10 ms of the trailer; the load fails. -/
  | waveAckTimeout (p : HeadPort)
  /-- RECEIVER_DETECT_PULSE (R416): Sends a receiver-detect pulse in DETECT every 1 ms. -/
  | receiverDetectPulse (lane : LaneNo) (found : Bool)
  /-- TRAINING_BLOCK (R415): Receives training blocks, which advance bring-up, gain block lock or restart an ACTIVE lane. -/
  | trainingBlock (lane : LaneNo) (sync : BitVec 2) (block : Word) (count : Nat)
  /-- CDR_LOCK (R416): The receive CDR locks in frequency and the lane moves from TRAIN to LOCK. -/
  | cdrLock (lane : LaneNo)
  /-- LANE_STATE_TIMEOUT (R418): A bring-up state times out and the lane goes to WAIT with backoff. -/
  | laneStateTimeout (lane : LaneNo)
  /-- ELECTRICAL_IDLE (R418): Electrical idle for 10 µs fails the attempt, or takes an ACTIVE lane to DETECT. -/
  | electricalIdle (lane : LaneNo)
  /-- BACKOFF_WAIT_END (R418): A WAIT ends and the lane returns to DETECT. -/
  | backoffWaitEnd (lane : LaneNo)
  /-- BLOCK_LOCK_LOSS (R419): Block lock is lost and an ACTIVE lane returns to DETECT. -/
  | blockLockLoss (lane : LaneNo)
  /-- LANE_ERRORS (R426): Count of 16 invalid sync headers within 125 µs starts an error episode. -/
  | laneErrors (lane : LaneNo) (count : LaneCounts)
  /-- LOOPBACK_END (R424): A loopback test ends, is answered, and the lane returns to DETECT. -/
  | loopbackEnd (lane : LaneNo) (r : LoopbackResult)
  /-- JTAG_INSTRUCTION (R580): Loading a JTAG instruction other than BYPASS, IDCODE or SAMPLE/PRELOAD stops token issue. -/
  | jtagInstruction (i : JtagInstruction)
  /-- FABRIC_FRAME (R431): Receives a fabric frame, checks it, and delivers, forwards or discards it. -/
  | fabricFrame (p : FabPort) (f : FabFrame)
  /-- CREDIT (R433): Receives a CREDIT block and updates the sender's credit. -/
  | credit (p : FabPort) (block : Word)
  /-- CREDIT_SEND (R433): Sends a CREDIT block every 1 µs, or after freeing 32 blocks. -/
  | creditSend (p : FabPort)
  /-- FABRIC_CAPS (R437): Receives a fabric CAPS exchange, completing CAPS or detecting a loop. -/
  | fabricCaps (p : FabPort) (control data : Word)
  /-- ANNOUNCE (R441): Receives a root-election ANNOUNCE and recomputes the root, root port and tree ports. -/
  | announce (p : FabPort) (w0 w1 w2 : Word)
  /-- ANNOUNCE_SEND (R440): Sends ANNOUNCE on every ACTIVE port every 100 µs. -/
  | announceSend
  /-- ELECTION_SETTLED (R443): The root view is unchanged for 1 ms; the node sends REPORT. -/
  | electionSettled
  /-- FABRIC_NO_ROOT (R442): No root known 10 ms after a fabric port became ACTIVE. -/
  | fabricNoRoot
  /-- REPORT (R443): Receives or forwards a discovery REPORT, recording the reporter's arrival port. -/
  | report (p : FabPort) (words : List Word)
  /-- ROUTE_COMPUTE (R449): The root assigns node numbers and computes route tables after REPORTs quiet down. -/
  | routeCompute
  /-- ASSIGN (R445): Receives an ASSIGN naming a node's identity and takes the node number. -/
  | assign (p : FabPort) (w0 w1 : Word)
  /-- ROUTES (R448): Receives a route-table chunk and applies a complete generation. -/
  | routes (words : List Word)
  /-- ROUTES_ACK (R448): The root receives the ack of a route-table generation. -/
  | routesAck (src : NodeNo) (w0 : Word)
  /-- ROUTES_RESEND (R448): The root resends an unacknowledged table every 10 ms. -/
  | routesResend
  /-- MAILBOX_OPEN (R455): Receives an OPEN of a fabric channel. -/
  | mailboxOpen (src : NodeNo) (w0 : Word)
  /-- MAILBOX_WORD (R455): Receives a WORD on a fabric channel and delivers it once. -/
  | mailboxWord (src : NodeNo) (w0 w1 : Word)
  /-- MAILBOX_ACK (R455): Receives an ACK on a fabric channel. -/
  | mailboxAck (src : NodeNo) (w0 : Word)
  /-- MAILBOX_CLOSE (R455): Receives a CLOSE of a fabric channel. -/
  | mailboxClose (src : NodeNo) (w0 : Word)
  /-- MAILBOX_RESEND (R455): Resends an unacknowledged WORD after 1 ms, and closes the channel after 10 sends. -/
  | mailboxResend (peer : NodeNo)
  /-- CHANNEL_IDLE (R455): Closes a fabric channel after CHANNEL_IDLE without a word. -/
  | channelIdle (peer : NodeNo)
  /-- ENC_EVENT (R451): Receives a peer's encoder event and raises PEER_ENC_EVENT. -/
  | encEvent (src : NodeNo) (w0 w1 : Word)
  /-- BULK (R453): Receives a BULK frame and places its data by offset. -/
  | bulk (src : NodeNo) (words : List Word)
  /-- GOVERNOR_MESSAGE (R225): Receives and keeps a peer's governor message. -/
  | governorMessage (src : NodeNo) (w0 : Word)
  /-- GOVERNOR_MESSAGE_SEND (R225): Sends the governor message every 1 ms, or on a change. -/
  | governorMessageSend
  /-- GOVERNOR_PEER_LOST (R225): A peer's kept message expires after 10 ms. -/
  | governorPeerLost (src : NodeNo)
  /-- SPDLIM_PERIOD (R221): Start of a SPDLIM PWM period, which applies the current limit and frequency. -/
  | spdlimPeriod
  /-- HOLD_REQ_RELEASE (R222): Releases HOLD_REQ after at least 1 ms of assertion once no cause remains. -/
  | holdReqRelease
  /-- HEARTBEAT (R471): Receives a partner's beat; as ditch-rider, decides grants by the decision steps. -/
  | heartbeat (src : NodeNo) (header w0 w1 w2 w3 : Word)
  /-- SCHEDULE_RECORD (R477): The standby receives and applies a schedule record, or becomes DIVERGED. -/
  | scheduleRecord (src : NodeNo) (header w0 w1 w2 w3 : Word)
  /-- GRANT (R465): Receives a GRANT, checks it, and becomes active or standby. -/
  | grant (src : NodeNo) (header w0 w1 w2 w3 : Word)
  /-- ACCEPT (R464): Receives the ACCEPT of a grant. -/
  | accept (src : NodeNo) (header w0 w1 w2 w3 : Word)
  /-- HEALTH (R473): Receives a partner's health report. -/
  | health (src : NodeNo) (header : Word) (words : List Word)
  /-- HEARTBEAT_SEND (R470): Sends a beat every 10 µs, or on a change. -/
  | heartbeatSend
  /-- HEALTH_SEND (R473): Sends a health report every 100 ms. -/
  | healthSend
  /-- PAIR_PARTNER_LOST (R471): No valid partner beat for HB_TIMEOUT. -/
  | pairPartnerLost
  /-- GRANT_RESEND (R481): The ditch-rider resends a grant every 20 µs until the grantee's beat shows it. -/
  | grantResend (pair : Fin 8)
  /-- CLAIM_RELEASE (R467): A demoted unit announces claim 0 after every port reports the new claim, or after 1 ms. -/
  | claimRelease
  /-- COMPARE_TRIGGER (R497): A compare trigger fires and starts its consumer. -/
  | compareTrigger (n : CmpNo) (at_ : Word)
  /-- PPS_IN_EDGE (R504): Captures the raw counter at a PPS_IN edge. -/
  | ppsInEdge (at_ : Word)
  /-- PPS_OUT_SECOND (R504): PPS_OUT rises when T crosses a whole second. -/
  | ppsOutSecond (at_ : Word)
  /-- TIME_REQ_SEND (R502): A follower sends a time REQ every 62.5 ms. -/
  | timeReqSend (at_ : Word)
  /-- TIME_REQ (R501): The master receives a REQ and sends RESP. -/
  | timeReq (src : NodeNo) (w0 w1 : Word) (at_ : Word)
  /-- TIME_RESP (R501): A follower receives a RESP and computes offset and delay. -/
  | timeResp (src : NodeNo) (w0 w1 w2 w3 : Word) (at_ : Word)
  /-- TIME_SERVO (R502): Each second a follower steps or slews its time from the best exchange. -/
  | timeServo (at_ : Word)
  /-- TIME_LOST (R503): No usable exchange for 5 s; the follower becomes FREE. -/
  | timeLost
  /-- SWITCH_QUALIFIED (R341): A switch input level qualifies, latching positions and acting on limits and homing. -/
  | switchQualified (sw : SwitchNo) (held : Nat)
  /-- SWITCH_SET_BAD (R325): A forbidden switch-set combination holds for SETTLE. -/
  | switchSetBad (set : Fin 5)
  /-- PROFILE_UPDATE (R334): 32 kHz update of an axis profile, which may end a move. -/
  | profileUpdate (ax : AxisNo)
  /-- HOLD_DELAY (R348): HOLD_DELAY after a move ends switches the coil current to HOLD_CURRENT. -/
  | holdDelay (ax : AxisNo)
  /-- CHOPPER_TRANSITION (R349): A coil's comparator switches between DRIVE and DECAY, with adaptive offset. -/
  | chopperTransition (ax : AxisNo) (coil : Coil) (shows : ChopSense)
  /-- COIL_FAULT (R352): An open or short coil fault disables the axis. -/
  | coilFault (ax : AxisNo) (coil : Coil) (reason : CoilFaultReason)
  /-- ENC_SIGNAL_RESTORED (R308): A signal-loss episode ends after 1 ms of accepted samples. -/
  | encSignalRestored (e : EncNo)
  /-- RELAY_TRANSITION (R327): The relay emits an owed output transition. -/
  | relayTransition (e : EncNo)
  /-- CAM_CONNECTION_RESET (R357): Starts camera link bring-up with a connection reset. -/
  | camConnectionReset (p : CamNo)
  /-- CHARACTER_LOCK (R357): Character lock at the configured rate, or its 50 ms timeout. -/
  | characterLock (p : CamNo) (locked : Bool)
  /-- CAM_BOOTSTRAP_REPLY (R357): Receives the camera bootstrap registers and writes the connection configuration. -/
  | camBootstrapReply (p : CamNo) (r : Bootstrap)
  /-- CAM_WRITE_ACK (R380): The camera acknowledges a write. -/
  | camWriteAck (p : CamNo)
  /-- CAM_WRITE_FAIL (R381): A camera write fails or is not acknowledged within 100 ms. -/
  | camWriteFail (p : CamNo) (timeout : Bool)
  /-- CAM_LOCK_LOSS (R358): Lock is lost for 100 µs and the port restarts bring-up. -/
  | camLockLoss (p : CamNo)
  /-- STREAM_PACKET (R382): Receives a stream packet and charges it to the port's credit bucket. -/
  | streamPacket (p : CamNo) (k : StreamPacket)
  /-- CAMERA_LINE (R368): Processes a camera line through unpack, flat-field, mapping, comparison and statistics. -/
  | cameraLine (p : CamNo) (samples : List (BitVec 12)) (reads : List BurstRead)
  /-- FRAME_TIMEOUT (R366): A trigger outstanding longer than FRAME_TIMEOUT truncates its frame. -/
  | frameTimeout (p : CamNo)
  /-- TIME_MODE_LINE (R362): Triggers the next line of a TIME-mode frame at LINE_PERIOD. -/
  | timeModeLine (p : CamNo)
  /-- COMPRESSOR_TOKEN (R128): The compressor writes a held token once its ring has room. -/
  | compressorToken (x : CompressorContext)
  /-- STATS_RECORD_PROCESS (R376): Firmware reads a statistics record and applies it to the health map. -/
  | statsRecordProcess (p : CamNo)
  /-- NOZZLE_REPORT_LOST (R399): No response to a nozzle report within 10 ms. -/
  | nozzleReportLost (slot : Fin 8) (node : NodeNo)
  /-- HEALTH_MAP_PERSIST (R396): Writes changed health records to MRAM at most once per second. -/
  | healthMapPersist
  /-- CAL_TIMEOUT (R404): CAL_TIMEOUT passes without enough strips; the procedure fails. -/
  | calTimeout (proc : CalProc)
  /-- CAL_PROCEDURE_END (R403): A calibration procedure completes with CAL_PASS or CAL_FAIL. -/
  | calProcedureEnd (proc : CalProc) (m : CalMeasure)
  /-- PATROL_SCRUB_BURST (R588): The patrol scrub reads a burst and rewrites it if corrected. -/
  | patrolScrubBurst (r : DramRead)
  /-- DQS_DRIFT_UPDATE (R593): Reads the DQS oscillators every 100 ms and applies drift. -/
  | dqsDriftUpdate (readings : List Nat)
  /-- REFRESH_RATE_READ (R591): Reads the refresh-rate mode every 16 ms. -/
  | refreshRateRead (doubled : List Bool)
  /-- SELFTEST_BACKGROUND (R620): Runs a background self-test and raises SELFTEST_ERROR on failure. -/
  | selftestBackground (r : TestRun)
  /-- ENGINE_SLICE (R618): Runs one ENGINE logic-BIST slice when the engine waits and the lead is at least W1. -/
  | engineSlice (k : EngineNo) (matches_ : Bool)
  /-- SWITCH_RAW_CHANGE (R342): At a 1 MHz switch sample where an input's raw level changes, the device records the position of every axis for a later latch. -/
  | switchRawChange (sw : SwitchNo) (level : Bool)
  /-- SELFTEST_RUN_END (R619): A commanded self-test finishes after its duration and SELFTEST_RUN is answered with its result word. -/
  | selftestRunEnd (r : TestRun)
  /-- DRIVING_BEGINS (R629): 10 µs after accepting a grant, the new claim holder begins to drive SPDLIM, HOLD_REQ and MARK_MISS0-MARK_MISS3, starting its PWM periods. -/
  | drivingBegins
  /-- PPS_OUT_PULSE_END (R504): PPS_OUT falls when PPS_WIDTH has elapsed after its rising edge. -/
  | ppsOutPulseEnd
  /-- DOCKET_READ_COMPLETION (R514): A docket read from host memory completes, or ends in an error completion or timeout that answers HOST_DMA_ERROR. -/
  | docketReadCompletion (ch : Chan) (tag : BitVec 5) (r : DocketRead)
deriving DecidableEq, Repr

end Sys2Proof
end

