-- ==== Sys2Proof/Decode.lean ====
section
/-! DEFINITION. The words of the opcode table: its rows give no bits, so no word spells a command (log 8). -/

namespace Sys2Proof

/-- The command that a word spells by the table's bits: none, since every row of the table is without bits. -/
def decodeTableWord (_nbits _w : Nat) : Option Instr := none

end Sys2Proof
end

