-- ==== Sys2Proof/Machine/Bits.lean ====
section
/-!
DEFINITION. Bit fields of words, packed tables and byte order (R7, R34, R143): the helpers every layout is read and
written with.
-/

namespace Sys2Proof.Machine

/-- Bits [hi:lo] of a word as a number. -/
def bits (w : Word) (hi lo : Nat) : Nat := (w.toNat / 2 ^ lo) % 2 ^ (hi + 1 - lo)

/-- Bit i of a word. -/
def bitAt (w : Word) (i : Nat) : Bool := w.getLsbD i

/-- A Bool as the bit of a field. -/
def b2n (b : Bool) : Nat := if b then 1 else 0

/-- A number placed in a field of width n at bit lo. -/
def fld (lo n v : Nat) : Nat := (v % 2 ^ n) <<< lo

/-- A two's complement field of width n at bit lo. -/
def fldI (lo n : Nat) (v : Int) : Nat := fld lo n (BitVec.ofInt n v).toNat

/-- A word from the sum of its fields. -/
def word (l : List Nat) : Word := BitVec.ofNat 64 l.sum

/-- A 40-bit RESULT or event detail from the sum of its fields (R533, R534). -/
def pack40 (l : List Nat) : BitVec 40 := BitVec.ofNat 40 l.sum

/-- The low 40 bits of a number (RESULT and detail fields hold bits [39:0]). -/
def low40 (n : Nat) : BitVec 40 := BitVec.ofNat 40 n

/-- Bits [hi:lo] of a word read as two's complement. -/
def sbits (w : Word) (hi lo : Nat) : Int := (BitVec.ofNat (hi + 1 - lo) (bits w hi lo)).toInt

/-- Word i of a list, 0 beyond its end. -/
def wordAt (ws : List Word) (i : Nat) : Word := ws.getD i 0

/-- n words of a list from word i on. -/
def slice (ws : List Word) (i n : Nat) : List Word := (ws.drop i).take n

/-- Entry e of a table packed with 64 / n entries of n bits to a word (R34, R143). -/
def packedAt (n : Nat) (ws : List Word) (e : Nat) : Nat :=
  let per := 64 / n
  (wordAt ws (e / per)).toNat / 2 ^ (n * (e % per)) % 2 ^ n

/-- The number of words that hold c entries of n bits (R34). -/
def packedWords (n c : Nat) : Nat := (c + 64 / n - 1) / (64 / n)

/-- One word of entries of n bits, the first entry in the lowest bits (R34). -/
def packWord (n : Nat) (es : List Nat) : Word :=
  BitVec.ofNat 64 (es.foldr (fun e acc => e % 2 ^ n + 2 ^ n * acc) 0)

/-- Entries of n bits packed into words (R34); k is the number of words. -/
def packList (n : Nat) (es : List Nat) : Nat → List Word
  | 0 => []
  | k + 1 => packWord n (es.take (64 / n)) :: packList n (es.drop (64 / n)) k

/-- All entries of n bits packed into as many words as they need. -/
def packAll (n : Nat) (es : List Nat) : List Word := packList n es (packedWords n es.length)

/-- The eight bytes of a word, lowest address first (R7). -/
def wordBytes (w : Word) : List Byte :=
  (List.range 8).map (fun i => BitVec.ofNat 8 (w.toNat / 2 ^ (8 * i)))

/-- The bytes of words in memory order (R7). -/
def bytesOf (ws : List Word) : List Byte := ws.flatMap wordBytes

/-- Words from bytes in memory order, zero-padded to a whole word (R7). -/
def wordsOfBytes (bs : List Byte) : List Word := packAll 8 (bs.map BitVec.toNat)

/-- All words of a list are zero. -/
def allZero (ws : List Word) : Bool := ws.all (· == 0)

/-- a divided by b, rounded up. -/
def ceilDiv (a b : Nat) : Nat := (a + b - 1) / b

/-- Entry i of a list replaced. -/
def setAt {α : Type} (l : List α) (i : Nat) (a : α) : List α := l.set i a

/-- An entry put before the first one it does not follow. -/
def insertBy {α : Type} (le : α → α → Bool) (x : α) : List α → List α
  | [] => [x]
  | y :: ys => if le x y then x :: y :: ys else y :: insertBy le x ys

/-- A list in ascending order; entries that stand equal keep their order. -/
def sortBy {α : Type} (le : α → α → Bool) (l : List α) : List α := l.foldr (insertBy le) []

/-- Entry i of a vector changed by a function. -/
def upd {α : Type} {n : Nat} (v : Vector α n) (i : Fin n) (f : α → α) : Vector α n := v.set i (f v[i])

end Sys2Proof.Machine
end

