-- ==== Sys2Proof/Machine/Parts/MotionPart.lean ====
section
/-!
DEFINITION. State of motion control, the switch inputs and the choppers (11_motion_control.md).
-/

namespace Sys2Proof.Machine

/-- ROLE of an axis (R354). -/
inductive AxisRole where
  | none | lift | sled | shift | carriage
deriving DecidableEq, Repr

/-- The axis settings of R354. -/
structure AxisSettings where
  /-- ENABLE [1; R354; reset 0] -/
  enable      : Bool := false
  /-- ROLE [3; R354; reset NONE] -/
  role        : AxisRole := .none
  /-- MICRO [9; R354; reset 16] -/
  micro       : Nat := 16
  /-- DIR_INVERT [1; R354; reset 0] -/
  dirInvert   : Bool := false
  /-- V_MAX in microunits/s [27; R354; reset 256,000] -/
  vMax        : Nat := 256000
  /-- A_MAX in microunits/s² [32; R354; reset 2,560,000] -/
  aMax        : Nat := 2560000
  /-- D_MAX in microunits/s² [32; R354; reset 2,560,000] -/
  dMax        : Nat := 2560000
  /-- J_MAX in microunits/s³ [40; R354; reset 51,200,000] -/
  jMax        : Nat := 51200000
  /-- LIMIT_DECEL in microunits/s² [32; R354; reset 10,240,000] -/
  limitDecel  : Nat := 10240000
  /-- LIMIT_JERK in microunits/s³ [40; R354; reset 1,024,000,000] -/
  limitJerk   : Nat := 1024000000
  /-- RUN_CURRENT in codes [8; R354; reset 64] -/
  runCurrent  : Nat := 64
  /-- HOLD_CURRENT in codes [8; R354; reset 32] -/
  holdCurrent : Nat := 32
  /-- HOLD_DELAY in ps [R354; reset 200 ms] -/
  holdDelayPs : Nat := 200000000000
  /-- HYST in codes [7; R354; reset 8] -/
  hyst        : Nat := 8
  /-- BLANK in 62.5 ns [7; R354; reset 16 = 1.0 µs] -/
  blank       : Nat := 16
  /-- D in ns [11; R354; reset 500] -/
  delayNs     : Nat := 500
  /-- ADAPT [1; R354; reset 1] -/
  adapt       : Bool := true
  /-- LIMIT_NEG [4; R354; reset none] -/
  limitNeg    : Option SwitchNo := none
  /-- LIMIT_POS [4; R354; reset none] -/
  limitPos    : Option SwitchNo := none
  /-- HOME [4; R354; reset none] -/
  homeInput   : Option SwitchNo := none
  /-- HOME_DIR positive [1; R354; reset negative] -/
  homePosDir  : Bool := false
  /-- HOME_EDGE: the home level is inactive [1; R354; reset active] -/
  homeInactive : Bool := false
  /-- HOME_SPEED in microunits/s [27; R354; reset 25,600] -/
  homeSpeed   : Nat := 25600
  /-- HOME_POS in microunits [64, signed; R354; reset 0] -/
  homePos     : Int := 0
  /-- HOME_TRAVEL in microunits [49; R354; reset 2^32] -/
  homeTravel  : Nat := 4294967296
  /-- HOME_RETURN [1; R354; reset 1] -/
  homeReturn  : Bool := true
  /-- INTERLOCK [1; R354; reset 0] -/
  interlock   : Bool := false
  /-- CARR_NUM [32; R354; reset 1] -/
  carrNum     : Nat := 1
  /-- CARR_DEN [32; R354; reset 1] -/
  carrDen     : Nat := 1
deriving DecidableEq, Repr

/-- The limits a move latches (R336). -/
structure MoveLimits where
  /-- V_MAX [27; R336; none at reset] -/
  v : Nat
  /-- A_MAX [32; R336; none at reset] -/
  a : Nat
  /-- D_MAX [32; R336; none at reset] -/
  d : Nat
  /-- J_MAX [40; R336; none at reset] -/
  j : Nat
deriving DecidableEq, Repr

/-- What a move does (R335): to a target in microunits, at a signed speed in microunits/s, or to rest. -/
inductive MoveKind where
  | position (target : Int)
  | speed (v : Int)
  | stop
deriving DecidableEq, Repr

/-- A move with its limits. -/
structure Move where
  /-- kind, target or speed [R335; none at reset] -/
  kind : MoveKind
  /-- latched limits [R336; none at reset] -/
  lim  : MoveLimits
deriving DecidableEq, Repr

/-- Steps of a homing command (R345). -/
inductive HomeStep where
  /-- step 1: leaving the home level -/
  | leave
  /-- step 2: seeking the home level -/
  | seek
  /-- step 3 done: the position is re-based at the next update -/
  | rebase (latched : Int)
  /-- step 4: stopping -/
  | halt (latched : Int)
  /-- step 5: return to HOME_POS -/
  | back (latched : Int)
deriving DecidableEq, Repr

/-- What a chop cycle takes from the axis settings when it begins (R354). -/
structure ChopSettings where
  /-- HYST in codes [7; R354; reset 8] -/
  hyst    : Nat := 8
  /-- BLANK in 62.5 ns [7; R354; reset 16 = 1.0 µs] -/
  blank   : Nat := 16
  /-- D in ns [11; R354; reset 500] -/
  delayNs : Nat := 500
  /-- ADAPT [1; R354; reset 1] -/
  adapt   : Bool := true
deriving DecidableEq, Repr

/-- What a homing command takes from the axis settings when it begins (R354). -/
structure HomeSettings where
  /-- HOME_SPEED in microunits/s [27; R354; reset 25,600] -/
  speed  : Nat := 25600
  /-- HOME_POS in microunits [64, signed; R354; reset 0] -/
  pos    : Int := 0
  /-- HOME_TRAVEL in microunits [49; R354; reset 2^32] -/
  travel : Nat := 4294967296
  /-- HOME_RETURN [1; R354; reset 1] -/
  back   : Bool := true
deriving DecidableEq, Repr

/-- A coil (R348 to R352). -/
structure CoilState where
  /-- target T in DAC codes [8; R348; reset 0, no torque, R353] -/
  target : Nat := 0
  /-- PH level [1; R348; DESIGN CHOICE 0, log 18] -/
  ph     : Bool := false
  /-- the coil is in DRIVE: EN high [1; R349; reset 0, R353] -/
  drive  : Bool := false
  /-- OFS in 1/16 code [10, signed; R350; reset 0] -/
  ofs    : Int := 0
  /-- OFS is at a clamp [1; R350; reset 0] -/
  clamp  : Bool := false
  /-- DRIVE time of the cycle in progress in ns; none where no whole cycle is under way [R350; reset none] -/
  tOn    : Option Nat := none
  /-- settings of the cycle in progress [R354] -/
  cyc    : ChopSettings := {}
  /-- OFS as the thresholds of the cycle in progress apply it, in whole codes [6, signed; R349; reset 0] -/
  ofsNow : Int := 0
  /-- sum of what the rounding of OFS has left out, in 1/16 code [5, signed; R349; reset 0] -/
  ofsRem : Int := 0
deriving DecidableEq, Repr

/-- DEV_AXn_LATCH (R355). -/
structure AxisLatch where
  /-- POSITION [56, signed; R355; none at reset] -/
  position : Int
  /-- INPUT [4; R355; none at reset] -/
  input    : SwitchNo
  /-- LEVEL [1; R355; none at reset] -/
  level    : Bool
  /-- OVERRUN [1; R355; none at reset] -/
  overrun  : Bool
deriving DecidableEq, Repr

/-- An axis. -/
structure AxisState where
  /-- settings [R354] -/
  set        : AxisSettings := {}
  /-- position in microunits with 32 fractional bits [64 + 32, signed; R333, R334; reset 0] -/
  pos        : Int := 0
  /-- speed in microunits/s × 32,000² [signed; R334; reset 0] -/
  vel        : Int := 0
  /-- acceleration in microunits/s² × 32,000 [signed; R334; reset 0] -/
  acc        : Int := 0
  /-- move that runs [R335; reset none] -/
  move       : Option Move := none
  /-- move that starts at the next update, or at the first update after its trigger fires [R336, R339; reset none] -/
  next       : Option (Move × Option CmpNo) := none
  /-- homing step [R345; reset none] -/
  homing     : Option HomeStep := none
  /-- settings of the homing command that runs [R354] -/
  home       : HomeSettings := {}
  /-- when the POSITION move that runs began, its stop reached past the target [1; R334; reset 0] -/
  beyond     : Bool := false
  /-- travel of steps 1 and 2 in microunits with 32 fractional bits [R347; reset 0] -/
  travel     : Nat := 0
  /-- a limit deceleration runs [1; R344; reset 0] -/
  limitDecel : Bool := false
  /-- the limit deceleration that runs ended a homing command [1; R347; reset 0] -/
  homeFail   : Bool := false
  /-- HOMED [1; R355; reset 0] -/
  homed      : Bool := false
  /-- a coil fault holds the axis [1; R352; reset 0] -/
  coilFault  : Bool := false
  /-- HOLD_CURRENT applies [1; R348; DESIGN CHOICE 1, log 18] -/
  holding    : Bool := true
  /-- a move has ended at rest and HOLD_DELAY runs [1; R348; reset 0] -/
  holdWait   : Bool := false
  /-- position of the last output step in microunits [R348; reset 0] -/
  stepAt     : Int := 0
  /-- coil A -/
  coilA      : CoilState := {}
  /-- coil B -/
  coilB      : CoilState := {}
  /-- position latch; VALID is read from it [64, RT; R355; reset none] -/
  latch      : Option AxisLatch := none
deriving DecidableEq, Repr

/-- A switch input (R341, R342). -/
structure SwitchState where
  /-- POLARITY active low [1; R354; reset active high] -/
  activeLow : Bool := false
  /-- FILTER in samples [8; R354; reset 16] -/
  filter    : Nat := 16
  /-- qualified level after polarity [1; R355; reset 0] -/
  level     : Bool := false
  /-- raw level at the last sample [1; R342; DESIGN CHOICE 0, log 18] -/
  raw       : Bool := false
  /-- positions of AX0 to AX3 in microunits at the last change of the raw level [56 each; R342; DESIGN CHOICE 0, log 18] -/
  recorded  : Vector Int 4 := Vector.replicate 4 0
deriving DecidableEq, Repr

/-- Motion control. -/
structure MotionPart where
  /-- AX0 to AX3 -/
  axes     : Vector AxisState 4 := Vector.replicate 4 {}
  /-- SW00 to SW15 -/
  switches : Vector SwitchState 16 := Vector.replicate 16 {}
deriving DecidableEq, Repr

end Sys2Proof.Machine
end

