-- ==== Sys2Proof/Machine/MotionOps.lean ====
section
/-!
DEFINITION. Motion as computations on one axis (11_motion_control.md): the profile update, coil targets, the adaptive offset.
-/

namespace Sys2Proof.Machine

/-- cos(2π k / 1,024) in units of 2^−40, k = 0 to 256 (R348). -/
def cosTable : List Nat :=
  [1099511627776, 1099490929780, 1099428836573, 1099325350491, 1099180475430, 1098994216847] ++
  [1098766581752, 1098497578716, 1098187217867, 1097835510891, 1097442471028, 1097008113076] ++
  [1096532453388, 1096015509874, 1095457301995, 1094857850768, 1094217178761, 1093535310096] ++
  [1092812270445, 1092048087030, 1091242788621, 1090396405538, 1089508969647, 1088580514358] ++
  [1087611074629, 1086600686958, 1085549389384, 1084457221490, 1083324224394, 1082150440754] ++
  [1080935914761, 1079680692142, 1078384820155, 1077048347589, 1075671324761, 1074253803517] ++
  [1072795837223, 1071297480773, 1069758790578, 1068179824569, 1066560642194, 1064901304413] ++
  [1063201873700, 1061462414037, 1059682990914, 1057863671326, 1056004523768, 1054105618237] ++
  [1052167026225, 1050188820720, 1048171076199, 1046113868629, 1044017275463, 1041881375637] ++
  [1039706249566, 1037491979142, 1035238647732, 1032946340172, 1030615142766, 1028245143282] ++
  [1025836430950, 1023389096456, 1020903231941, 1018378930996, 1015816288660, 1013215401415] ++
  [1010576367183, 1007899285322, 1005184256622, 1002431383303, 999640769010, 996812518806] ++
  [993946739174, 991043538010, 988103024616, 985125309702, 982110505377, 979058725146] ++
  [975970083908, 972844697947, 969682684934, 966484163916, 963249255315, 959978080924] ++
  [956670763901, 953327428764, 949948201389, 946533209000, 943082580171, 939596444817] ++
  [936074934187, 932518180865, 928926318760, 925299483105, 921637810447, 917941438646] ++
  [914210506869, 910445155583, 906645526552, 902811762829, 898944008753, 895042409944] ++
  [891107113293, 887138266964, 883136020380, 879100524224, 875031930431, 870930392179] ++
  [866796063891, 862629101221, 858429661053, 854197901493, 849933981865, 845638062703] ++
  [841310305745, 836950873931, 832559931389, 828137643436, 823684176569, 819199698458] ++
  [814684377941, 810138385019, 805561890844, 800955067719, 796318089088, 791651129531] ++
  [786954364757, 782227971596, 777472127994, 772687013005, 767872806788, 763029690593] ++
  [758157846761, 753257458716, 748328710952, 743371789036, 738386879591, 733374170299] ++
  [728333849883, 723266108109, 718171135775, 713049124704, 707900267736, 702724758724] ++
  [697522792521, 692294564979, 687040272939, 681760114220, 676454287619, 671122992895] ++
  [665766430771, 660384802916, 654978311948, 649547161415, 644091555800, 638611700501] ++
  [633107801833, 627580067013, 622028704159, 616453922276, 610855931251, 605234941846] ++
  [599591165687, 593924815259, 588236103898, 582525245780, 576792455916, 571037950142] ++
  [565261945112, 559464658289, 553646307938, 547807113116, 541947293666, 536067070207] ++
  [530166664126, 524246297569, 518306193436, 512346575367, 506367667740, 500369695655] ++
  [494352884935, 488317462108, 482263654404, 476191689747, 470101796741, 463994204669] ++
  [457869143477, 451726843771, 445567536804, 439391454471, 433198829298, 426989894435] ++
  [420764883643, 414524031291, 408267572343, 401995742352, 395708777449, 389406914334] ++
  [383090390269, 376759443067, 370414311084, 364055233213, 357682448868, 351296197980] ++
  [344896720990, 338484258832, 332059052934, 325621345200, 319171378006, 312709394191] ++
  [306235637043, 299750350297, 293253778120, 286746165103, 280227756256, 273698796992] ++
  [267159533123, 260610210848, 254051076747, 247482377765, 240904361213, 234317274747] ++
  [227721366368, 221116884409, 214504077523, 207883194681, 201254485153, 194618198509] ++
  [187974584598, 181323893552, 174666375762, 168002281883, 161331862813, 154655369689] ++
  [147973053878, 141285166965, 134591960745, 127893687215, 121190598559, 114482947145] ++
  [107770985514, 101054966365, 94335142555, 87611767079, 80885093070, 74155373783] ++
  [67422862588, 60687812960, 53950478471, 47211112776, 40469969610, 33727302772] ++
  [26983366121, 20238413561, 13492699036, 6746476518, 0]

/-- |cos θ| in units of 2^−40 for an electrical angle of n / 1,024 turn (R348). -/
def absCos (n : Nat) : Nat :=
  let k := n % 512
  cosTable.getD (if k ≤ 256 then k else 512 - k) 0

/-- cos θ is negative for an electrical angle of n / 1,024 turn. -/
def cosNeg (n : Nat) : Bool := let k := n % 1024; decide (256 < k) && decide (k < 768)

/-- round(I × |cos θ|) (R348). -/
def coilTarget (i n : Nat) : Nat := (2 * i * absCos n + 2 ^ 40) / 2 ^ 41

/-- Position in whole microunits (R333). -/
def AxisState.micro (x : AxisState) : Int := x.pos / 2 ^ 32

/-- Speed in whole microunits/s, toward minus infinity (R355). -/
def AxisState.speed (x : AxisState) : Int := x.vel / 1024000000

/-- The axis stands still: no move runs. -/
def AxisState.still (x : AxisState) : Bool := x.vel == 0 && x.acc == 0 && x.move.isNone

/-- The axis is at rest, and no move or homing waits (R336, R339). -/
def AxisState.atRest (x : AxisState) : Bool := x.still && x.next.isNone && x.homing.isNone

/-- The limits a move latches now (R336). -/
def AxisSettings.limits (s : AxisSettings) : MoveLimits := { v := s.vMax, a := s.aMax, d := s.dMax, j := s.jMax }

/-- The limits of a limit deceleration (R343). -/
def AxisSettings.limitLimits (s : AxisSettings) : MoveLimits :=
  { v := s.vMax, a := s.aMax, d := s.limitDecel, j := s.limitJerk }

/-- Coil current I in force (R348). -/
def AxisState.current (x : AxisState) : Nat := if x.holding then x.set.holdCurrent else x.set.runCurrent

/-- A coil with a new target; a coil whose target is 0 does not chop, which cuts its cycle off (R348, R350). -/
def CoilState.aim (c : CoilState) (t : Nat) (ph : Bool) : CoilState :=
  { c with target := t, ph := ph, drive := c.drive && t != 0, tOn := if t = 0 then none else c.tOn }

/-- The coil targets and phases at the last output step (R348). A disabled or faulted axis drives no coil (R332, R352). -/
def AxisState.drive (x : AxisState) : AxisState :=
  let th := (x.stepAt % 1024).toNat
  let on := x.set.enable && !x.coilFault
  let i := if on then x.current else 0
  { x with
    coilA := x.coilA.aim (coilTarget i th) (xor (cosNeg th) x.set.dirInvert)
    coilB := x.coilB.aim (coilTarget i (th + 768)) (xor (cosNeg (th + 768)) x.set.dirInvert) }

/-- The last output step after the position has moved to p: the last multiple of 256/MICRO crossed (R333). -/
def AxisState.stepTo (x : AxisState) (p : Int) : AxisState :=
  let g : Int := 256 / (max 1 x.set.micro)
  let s := if x.stepAt ≤ p then p / g * g else -((-p) / g * g)
  { x with stepAt := s }.drive

/-- Jerk chosen at an update: +J, −J or 0 (R334). "Toward" the goal is read (DEDUCED, log 19): while the speed reached by
ramping the acceleration to 0 falls short of the goal the jerk points to the goal, and while it passes the goal the jerk points
back; within one update of that line the spec does not state the choice, and it is free. An axis that moves at its goal without
acceleration keeps doing so. Units of one update. -/
def jerkToward (free : Nat) (goal v a j : Int) : Int :=
  let short := 2 * j * (goal - v) - a * a.natAbs
  let band := 2 * j * (a.natAbs + j)
  if v = goal ∧ a = 0 then 0
  else if band < short then j
  else if short < -band then -j
  else match free % 3 with
    | 0 => 0
    | 1 => j
    | _ => -j

/-- Greatest root whose square is at most n, below 2 ^ bits. -/
def rootFloor : Nat → Nat → Nat → Nat
  | 0, r, _ => r
  | b + 1, r, n => rootFloor b (if (r + 2 ^ b) ^ 2 ≤ n then r + 2 ^ b else r) n

/-- Six times j² times the travel of a jerk-limited stop from speed v > 0 and acceleration a, at deceleration d and jerk j, all in
units of one update (R334); the peak deceleration of a stop that does not reach d is rounded down to a whole unit. None where the
stop passes through 0 on its way. -/
def stopTravel (v a d j : Int) : Option Int :=
  let reach := 2 * j * v + a * a
  if v ≤ 0 ∨ j ≤ 0 ∨ d ≤ 0 ∨ a < -d ∨ (a < 0 ∧ 2 * j * v < a * a) then none
  else
    let p : Int := if 2 * d * d ≤ reach then d else rootFloor 96 0 (reach / 2).toNat
    let ramp := a + p
    let first := ramp * (6 * j * v + 3 * a * ramp - ramp * ramp)
    let v1 := reach - p * p
    let hold := if 2 * d * d ≤ reach then 3 * (v1 * v1 - p * p * p * p) / (4 * p) else 0
    some (first + hold + p * p * p)

/-- stop_distance ≥ |gap| (R334): decided where the stop's travel differs from the gap by more than two updates' motion, else
none: the spec gives stop_distance no formula for one update (log 19). The gap is in microunits with 32 fractional bits, one unit of
travel is 131,072 / 10⁹ of that. -/
def stopReaches (gap : Nat) (v a d j : Int) : Option Bool :=
  let (v, a) := if v < 0 then (-v, -a) else (v, a)
  if v = 0 ∧ a = 0 then some (gap == 0)
  else match stopTravel v a d j with
    | none => none
    | some t =>
      let far := 6 * j * j * gap * 1000000000
      let near := t * 131072
      let slack := 12 * j * j * (v + a.natAbs + j) * 131072
      if far + slack < near then some true else if near + slack < far then some false else none

/-- The acceleration after a jerk step, kept within A while speeding up and D while slowing down (R334). Units of
1/32,000 microunit/s². -/
def clampAcc (v a : Int) (lim : MoveLimits) : Int :=
  let hi : Int := (if 0 ≤ v then lim.a else lim.d) * 32000
  let lo : Int := (if 0 < v then lim.d else lim.a) * 32000
  max (-lo) (min hi a)

/-- OFS of a cycle in 1/16 code, as numerator and denominator (R350); none: the cycle is ignored. H in codes, D, t_on and
t_off in ns. -/
def ofsCycle (h d tOn tOff : Nat) : Option (Int × Nat) :=
  if 2 * (d * (tOn + tOff)) < tOn * tOff then
    some (16 * (d * h : Nat) * ((tOff : Int) - tOn), 2 * (tOn * tOff - d * (tOn + tOff)))
  else none

/-- OFS moved by 1/16 of its distance to OFS_cycle, in 1/16 code, before the clamp (R350). The spec does not say how the result is
rounded to 1/16 code: up chooses one of the two neighbouring values, and OFS moves by at least 1/16 code until it lies less than
that from OFS_cycle, where it has converged (log 19). -/
def moveOfs (ofs : Int) (cyc : Int × Nat) (up : Bool) : Int :=
  let num := cyc.1 - ofs * cyc.2
  let q := num / (16 * cyc.2)
  let m := if up ∧ num % (16 * cyc.2) ≠ 0 then q + 1 else q
  if num.natAbs < cyc.2 then ofs else ofs + (if m = 0 then num.sign else m)

/-- OFS rounded to a whole code for one cycle, and the sum of what the rounding has left out (R349): down or up, free where both keep
that sum below one code either way, so that the running mean equals OFS (log 137). -/
def roundOfs (ofs rem : Int) (up : Bool) : Int × Int :=
  let f := ofs % 16
  if f = 0 then (ofs / 16, rem)
  else if 0 < rem + f ∧ (up ∨ 16 ≤ rem + f) then (ofs / 16 + 1, rem + f - 16)
  else (ofs / 16, rem + f)

/-- A threshold as an 8-bit DAC code (R349). -/
def dacCode (v : Int) : Nat := (max 0 (min 255 v)).toNat

/-- UP (R349). -/
def CoilState.upper (c : CoilState) : Nat := dacCode (c.target + c.cyc.hyst / 2 - c.ofsNow)

/-- LO (R349). -/
def CoilState.lower (c : CoilState) : Nat := dacCode (c.target - c.cyc.hyst / 2 - c.ofsNow)

/-- What a chop cycle that begins now takes from the settings (R354). -/
def AxisSettings.chop (t : AxisSettings) : ChopSettings := { hyst := t.hyst, blank := t.blank, delayNs := t.delayNs, adapt := t.adapt }

/-- A cycle begins: DRIVE, with the settings and the rounding of OFS for this cycle (R349, R354). -/
def CoilState.begin (c : CoilState) (t : ChopSettings) (up : Bool) : CoilState :=
  let r := roundOfs c.ofs c.ofsRem up
  { c with drive := true, tOn := none, cyc := t, ofsNow := r.1, ofsRem := r.2 }

/-- ±32 codes in 1/16 code (R350). -/
def clampOfs (o : Int) : Int := max (-512) (min 512 o)

end Sys2Proof.Machine
end

