-- ==== Sys2Proof/Machine/Parts/CamPart.lean ====
section
/-!
DEFINITION. State of the camera ports and the image pipeline (12_camera_ports_and_image_pipeline.md), with the compressor contexts
of the taps (04_ryuli_block_format.md).
-/

namespace Sys2Proof.Machine

/-- The settings of a camera port that a write changes directly (R378). -/
structure CamDirect where
  /-- ENABLE [1; R378; reset 0] -/
  enable     : Bool := false
  /-- LANES: two lanes [1; R378; reset two] -/
  twoLanes   : Bool := true
  /-- RATE CXP-12 [1; R378; reset CXP-12] -/
  cxp12      : Bool := true
  /-- PIXEL_FORMAT [2; R378; reset Mono8] -/
  format     : PixelFormat := .mono8
  /-- WIDTH in pixels [15; R378; reset 16,384] -/
  width      : Nat := 16384
  /-- TRIG_MODE TIME [1; R378; reset ENCODER] -/
  timeMode   : Bool := false
  /-- CAM_DIV [7; R378; reset 2] -/
  div        : Nat := 2
  /-- CAM_PHASE [6; R378; reset 0] -/
  phase      : Nat := 0
  /-- CAM_DIST in lines [16; R378; reset 1,024] -/
  dist       : Nat := 1024
  /-- CAM_DIST_REV in lines [16; R378; reset 1,024] -/
  distRev    : Nat := 1024
  /-- CAM_MAX_RATE in lines/s [R378; reset 200,000] -/
  maxRate    : Nat := 200000
  /-- TRIG_OFFSET in ps [R378; reset 0] -/
  trigOffset : Int := 0
  /-- TRIG_LAT in ps [R378; reset 0] -/
  trigLat    : Nat := 0
  /-- FRAME_LINES [13; R378; reset 4,096] -/
  frameLines : Nat := 4096
  /-- LINE_PERIOD in ps [R378; reset 100,000] -/
  linePeriod : Nat := 100000000
  /-- compare trigger of TIME mode [3; R378; reset 0] -/
  trigger    : CmpNo := 0
  /-- BUDGET in 0.1 G samples/s [R378; reset 25] -/
  budget     : Nat := 25
  /-- FRAME_TIMEOUT in ps [R378; reset 1,000] -/
  timeoutPs  : Nat := 1000000000
deriving DecidableEq, Repr

/-- The shadowed settings of a camera port (R378). -/
structure CamShadow where
  /-- EXPOSURE in 250 ps [R378; reset 8,000 = 2 µs] -/
  exposure    : Nat := 8000
  /-- OFFSET in 2^−16 position [signed; R378; reset 0] -/
  offset      : Int := 0
  /-- SCALE in 2^−24 position per pixel [R378; reset 1] -/
  scale       : Nat := 16777216
  /-- SKEW in 2^−24 line per pixel [signed; R378; reset 0] -/
  skew        : Int := 0
  /-- DARK entries that differ from 0: pixel and value [12 each; R368; reset 0] -/
  dark        : List (Nat × Nat) := []
  /-- GAIN entries that differ from 4,096: pixel and value [16 each; R368; reset 4,096] -/
  gain        : List (Nat × Nat) := []
  /-- LUT entries that differ from 255 − ⌊R ÷ 16⌋: index and value [8 each; R368; reset 255 − ⌊R ÷ 16⌋] -/
  lut         : List (Nat × Nat) := []
  /-- STREAK_LINES [11; R378; reset 64] -/
  streakLines : Nat := 64
  /-- STREAK_THRESH [8; R378; reset 24] -/
  streakThresh : Nat := 24
  /-- camera register list: address and value [32 each, at most 32; R378; reset empty] -/
  regs        : List (BitVec 32 × BitVec 32) := []
  /-- count of the register list [6; R540; reset 0] -/
  regCount    : Nat := 0
  /-- TAP_ENABLE [4; R378; reset 0] -/
  tapEnable   : BitVec 4 := 0
  /-- TAP_EVERY in frames [16; R378; reset 1] -/
  tapEvery    : Nat := 1
deriving DecidableEq, Repr

/-- Phases of the link bring-up of R357. -/
inductive CamLink where
  /-- not enabled -/
  | disabled
  /-- waits to send the connection reset of step 1 -/
  | waitReset
  /-- step 2: connection reset sent, character lock awaited -/
  | waitLock
  /-- step 3: bootstrap registers being read -/
  | waitBootstrap
  /-- step 4: connection configuration written, acknowledgement awaited -/
  | waitAck
  | active
deriving DecidableEq, Repr

/-- An outstanding trigger (R363). -/
structure CamTrigger where
  /-- bar line that triggered the line [64; R359; none at reset] -/
  barLine : Nat
  /-- imaged line [64, signed; R360; none at reset] -/
  imaged  : Int
  /-- frame to which the line belongs; none for a line of no inspected page [48; R364; none at reset] -/
  frame   : Option Nat
deriving DecidableEq, Repr

/-- Accumulator of one column of a frame (R374, R375). -/
structure ColAcc where
  /-- SUM_D [32, signed; R374; none at reset] -/
  sum      : Int := 0
  /-- N [13; R374; none at reset] -/
  n        : Nat := 0
  /-- NO_SAMPLE [1; R369; none at reset] -/
  noSample : Bool := false
  /-- first streak: start line and sign (lighter) [12 and 1; R375; none at reset] -/
  streak   : Option (Nat × Bool) := none
  /-- D of the last counted lines, newest first [9 each, signed; R375; none at reset] -/
  window   : List Int := []
deriving DecidableEq, Repr

/-- A page whose camera lines are still to come, kept from its flip (R364). -/
structure CamPage where
  /-- PAGE_ID [32; R364; none at reset] -/
  id         : PageId
  /-- HOST_TAG [64; R374; none at reset] -/
  hostTag    : Word
  /-- first bar line [64; R364; none at reset] -/
  first      : Nat
  /-- trailing edge, once it is fixed [64; R364; none at reset] -/
  trailing   : Nat
  /-- LENGTH [25; R370; none at reset] -/
  length     : Nat
  /-- CARRIAGE REV page [1; R360; none at reset] -/
  reverse    : Bool
  /-- CHECK_STRIP [1; R373; none at reset] -/
  checkStrip : Bool
  /-- G_P [5; R369; none at reset] -/
  gp         : Nat
  /-- G_L [5; R369; none at reset] -/
  gl         : Nat
  /-- P of the page's map [18; R369; none at reset] -/
  p          : Nat
  /-- print mode [4; R404; none at reset] -/
  mode       : BitVec 4
  /-- heads forced to spares [32; R181, R405; none at reset] -/
  forced     : BitVec 32
  /-- positions that the loss of a head blanks: port, position, and, where another head takes over, the lags of the two
  candidates and that head [R191, R372; none at reset] -/
  blanks     : List (HeadPort × Nat × Option (Nat × Nat × HeadPort))
  /-- preparation that wrote its expected-density records; none where it has no context [R370; none at reset] -/
  prep       : Option Nat
  /-- the page's map has spares [1; R373, R388; none at reset] -/
  spares     : Bool
deriving DecidableEq, Repr

/-- An open frame (R364, R374). -/
structure Frame where
  /-- FRAME [48; R365; none at reset] -/
  number    : Nat
  /-- page of the frame; none in TIME mode [R374; none at reset] -/
  page      : Option CamPage
  /-- settings of the frame [R380; none at reset] -/
  set       : CamShadow
  /-- triggers sent [13; R364; none at reset] -/
  issued    : Nat
  /-- imaged line of its first trigger [64, signed; R364; none at reset] -/
  firstIm   : Int
  /-- imaged line of its last trigger, sent or skipped [64, signed; R364; none at reset] -/
  lastIm    : Int
  /-- no further trigger belongs to the frame [1; R364; none at reset] -/
  full      : Bool
  /-- GENERATION [16; R374; none at reset] -/
  gen       : BitVec 16
  /-- FIRST_BAR_LINE [64; R374; none at reset] -/
  firstBar  : Nat
  /-- camera lines processed [13; R374; none at reset] -/
  lines     : Nat
  /-- strip rows, oldest first: page line and column values [8 each; R373; none at reset] -/
  strip     : List (Int × List Nat)
  /-- SKIPPED [13; R374; none at reset] -/
  skipped   : Nat
  /-- EXCUSED [13; R372; none at reset] -/
  excused   : Nat
  /-- UNCERTAIN [1; R380; none at reset] -/
  uncertain : Bool
  /-- NO_EXPECT [1; R371; none at reset] -/
  noExpect  : Bool
  /-- EXPOSURE_CLIPPED [1; R361; none at reset] -/
  clipped   : Bool
  /-- RESYNC [1; R367; none at reset] -/
  resync    : Bool
  /-- a packet found too little credit: the rest of the frame is discarded [1; R383; none at reset] -/
  dropped   : Bool
  /-- triggers of the frame not yet sent; none in ENCODER mode [13; R362; none at reset] -/
  timeLeft  : Option Nat
  /-- columns [R374; none at reset] -/
  cols      : List ColAcc
  /-- G_P in force for the frame [5; R369; none at reset] -/
  gp        : Nat
  /-- P in force for the frame [18; R369; none at reset] -/
  p         : Nat
deriving DecidableEq, Repr

/-- A statistics record (R374). -/
structure StatsRec where
  /-- FRAME [48; R374; none at reset] -/
  frame     : Nat
  /-- STATUS [2; R366; none at reset] -/
  status    : BitVec 2
  /-- the record's words [64 each; R374; none at reset] -/
  words     : List Word
  /-- firmware has applied it to the health map, so it is offered to the host [1; R376; none at reset] -/
  processed : Bool
  /-- a newer record has overwritten it [1; R377; none at reset] -/
  lost      : Bool
  /-- page lines of the strip rows, for the strip judgement [R391; none at reset] -/
  stripLines : List Int
  /-- least and greatest page line of the frame's triggers [64, signed; R391, R392; none at reset] -/
  reach     : Int × Int
  /-- FIRST_COL [18; R374; none at reset] -/
  firstCol  : Nat
  /-- page of the frame [R374; none at reset] -/
  page      : Option CamPage
  /-- UNCERTAIN [1; R374; none at reset] -/
  uncertain : Bool
deriving DecidableEq, Repr

/-- A token, a block header or a block trailer that a tap context has yet to write whole (R128). -/
structure HeldToken where
  /-- the words [64 each; R109; none at reset] -/
  words : List Word
  /-- a trailer, which ends its block [1; R107; none at reset] -/
  last  : Bool
  /-- raw words it covers [24; R109; none at reset] -/
  raw   : Nat
deriving DecidableEq, Repr

/-- A tap frame being written (R126 to R130). -/
structure TapFrame where
  /-- frame number [48; R108; none at reset] -/
  number : Nat
  /-- whole blocks written to the ring [64 each; R129; none at reset] -/
  blocks : List (List Word) := []
  /-- words of the block being written to the ring [64 each; R129; none at reset] -/
  words  : List Word := []
  /-- headers, tokens and trailers not yet written, whole [64 each; R128; none at reset] -/
  held   : List HeldToken := []
  /-- block number of the next block [18; R108; none at reset] -/
  block  : Nat := 0
  /-- raw lines of the block being gathered, oldest first [64 each; R126; none at reset] -/
  lines  : List (List Word) := []
  /-- the frame has closed, and ends in the ring once its tokens are written [1; R129; none at reset] -/
  closed : Bool := false
deriving DecidableEq, Repr

/-- A compressor context of a tap source with its ring (R125, R384, R385). -/
structure TapCtx where
  /-- ring size in words, allocated at the last print start; 0: no ring [R385; reset 0] -/
  ring    : Nat := 0
  /-- whole frames readable and not yet released: frame number and blocks [64 each; R129; reset empty] -/
  frames  : List (Nat × List (List Word)) := []
  /-- frames being written, oldest first [R129; reset none] -/
  writing : List TapFrame := []
  /-- the next token found no room or no credit, and is held [1; R128, R386; reset 0] -/
  stuck   : Bool := false
  /-- raw words delivered while a token is held, in the staging buffer [R130; reset 0] -/
  staged  : Nat := 0
  /-- frame dropped by an overrun that TAP_OVERRUN has not yet told [48; R130; reset none] -/
  overrun : Option Nat := none
deriving DecidableEq, Repr

/-- How the camera-held settings stand (R380, R381). -/
inductive CamCertainty where
  /-- frames are certain -/
  | certain
  /-- writes are outstanding -/
  | writing
  /-- the last write is acknowledged; a further whole frame must open and close -/
  | acked
  /-- a further whole frame is open -/
  | further (frame : Nat)
  /-- a write failed -/
  | failed
deriving DecidableEq, Repr

/-- A camera port. -/
structure CamState where
  /-- direct settings [R378] -/
  direct     : CamDirect := {}
  /-- shadow set [R378] -/
  shadow     : CamShadow := {}
  /-- settings committed and not yet applied, oldest first: GENERATION and set [16; R379; reset empty] -/
  commits    : List (BitVec 16 × CamShadow) := []
  /-- settings in force [R380] -/
  active     : CamShadow := {}
  /-- GENERATION last committed [16; R387; reset 0] -/
  gen        : BitVec 16 := 0
  /-- GENERATION in force [16; R374; reset 0] -/
  genActive  : BitVec 16 := 0
  /-- phase of the bring-up; LINK is read from it [R387; reset disabled] -/
  link       : CamLink := .disabled
  /-- CAM_LINK_DOWN has been raised in the failure episode [1; R357; reset 0] -/
  downTold   : Bool := false
  /-- FRAME: frame open or last frame closed [48; R387; reset 0] -/
  frameNow   : Nat := 0
  /-- number of the next frame [48; R365; reset 0] -/
  frameNext  : Nat := 0
  /-- open frames, oldest first [R364; reset none] -/
  frames     : List Frame := []
  /-- the last frame of the page closed TRUNCATED or CORRUPT, so the next carries RESYNC: PAGE_ID [32; R367; reset none] -/
  resync     : Option PageId := none
  /-- triggers not sent before the first frame of a page opened, or between two of its frames: first bar line of the page, and their
  number [64 and 13; R361; reset none] -/
  early      : Option (Nat × Nat) := none
  /-- outstanding triggers, oldest first, at most 64 [R363; reset empty] -/
  triggers   : List CamTrigger := []
  /-- bar lines whose triggers were forgotten, whose lines are discarded when they arrive [R367; reset 0] -/
  forgotten  : Nat := 0
  /-- UNMATCHED [16, saturating; R387; reset 0] -/
  unmatched  : Nat := 0
  /-- time of the last rising edge sent, in ps of the raw counter [R361; reset none] -/
  lastEdge   : Option Rat := none
  /-- falling edge of the last trigger sent, in ps of the raw counter, and the frame of its line [R361; reset none] -/
  lastFall   : Option (Rat × Option Nat) := none
  /-- camera writes not yet acknowledged, oldest first: GENERATION, address and value [16, 32, 32; R380; reset empty] -/
  writes     : List (BitVec 16 × BitVec 32 × BitVec 32) := []
  /-- how the camera-held settings stand [R380; reset certain] -/
  certainty  : CamCertainty := .certain
  /-- credit in tenths of a sample, and the raw counter at which it was brought up to date [R383; DESIGN CHOICE full, log 20] -/
  credit     : Nat × Word := (25000000, 0)
  /-- pages whose camera lines are still to come, oldest first [R364; reset empty] -/
  pages      : List CamPage := []
  /-- statistics records not yet released, oldest first [R376; reset empty] -/
  stats      : List StatsRec := []
  /-- tap contexts of tap points 0 to 3 [R384; reset empty] -/
  taps       : Vector TapCtx 4 := Vector.replicate 4 {}
deriving DecidableEq, Repr

/-- The camera ports and the image pipeline. -/
structure CamPart where
  /-- CP0 to CP3 -/
  ports   : Vector CamState 4 := Vector.replicate 4 {}
  /-- G_P [5; R378; reset 4] -/
  gp      : Nat := 4
  /-- G_L [5; R378; reset 8] -/
  gl      : Nat := 8
  /-- TAP_RATE in 0.1 GB/s [R378; reset 50] -/
  tapRate : Nat := 50
  /-- tap throttle: tenths of a byte in the bucket of 64 KiB, and the raw counter at which it was brought up to date
  [R386; DESIGN CHOICE full, log 20] -/
  tapCredit : Nat × Word := (655360, 0)
deriving DecidableEq, Repr

end Sys2Proof.Machine
end

