-- ==== Sys2Proof/Machine/Parts/MapperPart.lean ====
section
/-!
DEFINITION. The nozzle map and the state of the nozzle mapper (06_nozzle_mapper.md).
-/

namespace Sys2Proof.Machine

/-- A nozzle of a head port. -/
structure Nozzle where
  /-- head port [5; R175] -/
  port  : HeadPort
  /-- nozzle index within the head [13; R175] -/
  index : Nat
deriving DecidableEq, Repr

/-- A row record (R198). -/
structure RowRec where
  /-- LAG_FWD [7; R182] -/
  lagFwd : Nat
  /-- LAG_REV [7; R182] -/
  lagRev : Nat
  /-- SUBLINE_FWD [8; R184] -/
  subFwd : Nat
  /-- SUBLINE_REV [8; R184] -/
  subRev : Nat
deriving DecidableEq, Repr

/-- A head record (R198). -/
structure HeadRec where
  /-- PORT [5; R198] -/
  port    : HeadPort
  /-- NOZZLES [14; R198] -/
  nozzles : Nat
  /-- DERATE remap [64; R189] -/
  derate  : Word
  /-- rows [at most 8; R198] -/
  rows    : List RowRec
deriving DecidableEq, Repr

/-- A stitch zone (R185). -/
structure Zone where
  /-- FIRST [17; R198] -/
  first : Nat
  /-- WIDTH [9; R198] -/
  width : Nat
deriving DecidableEq, Repr

/-- A candidate of a position (R175). -/
structure Cand where
  /-- head port and nozzle index [18; R198] -/
  nozzle : Nozzle
  /-- curve index [6; R187] -/
  curve  : Nat
  /-- row [3; R198] -/
  row    : Nat
deriving DecidableEq, Repr

/-- A position entry (R198). -/
structure PosEntry where
  /-- candidate A [R175] -/
  a : Cand
  /-- candidate B [R175] -/
  b : Option Cand
deriving DecidableEq, Repr

/-- A nozzle map (R198). -/
structure NozzleMap where
  /-- MAP_ID [32; R198] -/
  id        : BitVec 32
  /-- ORGANISATION 1: with spares [1; R28] -/
  spares    : Bool
  /-- ROLLOUT [1; R200] -/
  rollout   : Bool
  /-- ROLLOUT_K [8; R195] -/
  rolloutK  : Nat
  /-- POS_DIR [1; R30] -/
  posDir    : Bool
  /-- PITCH_NM [20; R198] -/
  pitchNm   : Nat
  /-- curve words 0 to 63 [64 each; R187] -/
  curves    : List Word
  /-- head records [R198] -/
  heads     : List HeadRec
  /-- stitch zones in ascending order [R185] -/
  zones     : List Zone
  /-- position entries 0 to P − 1 [R198] -/
  positions : List PosEntry
deriving DecidableEq, Repr

/-- A running rollout of gradual corrections (R194). -/
structure Rollout where
  /-- affected nozzles a0 to am−1 with the curve each used before [64 each; R194, R197; none at reset] -/
  old  : List (Nozzle × Word)
  /-- K [7; R195; none at reset] -/
  k    : Nat
  /-- rollout pages prepared so far [7; R195; none at reset] -/
  page : Nat
  /-- it began after the publication of the map that is published and not yet in force [1; R197, R200; none at reset] -/
  ofNext : Bool
  /-- rollout page K, until it has printed [32; R196; none at reset] -/
  lastPage : Option PageId
deriving DecidableEq, Repr

/-- The nozzle mapper. -/
structure MapperPart where
  /-- nozzle map in force [R200; reset none, R202] -/
  inForce   : Option NozzleMap := none
  /-- map most recently published and not yet in force [R200; reset none] -/
  published : Option NozzleMap := none
  /-- the publication of that map started a rollout [1; R200; reset 0] -/
  rolls     : Bool := false
  /-- the curves that the last page of the queue prepared used, or the map in force gives where it has taken effect since
  [64 each; R194, R197; reset none] -/
  used      : List (Nozzle × Word) := []
  /-- curve indices that density corrections gave nozzles of the map most recently published [6 each; R194, R405; reset none] -/
  curveIdx  : List (Nozzle × Nat) := []
  /-- rollout that runs [R194; reset none] -/
  rollout   : Option Rollout := none
  /-- heads forced to spares, applied to pages whose preparation begins later [32; R181; reset 0] -/
  forced    : BitVec 32 := 0
  /-- heads for which SPARE_TAKEOVER has been raised in their present hard-limit state [32; R192; reset 0] -/
  takeover  : BitVec 32 := 0
deriving DecidableEq, Repr

end Sys2Proof.Machine
end

