-- ==== Sys2Proof/Machine/Parts/StorePart.lean ====
section
/-!
DEFINITION. State of the headrace and the page store (03_page_store_and_parcels.md) with the objects parcels
publish: layers, pages, screens (05_furrow_engines.md), glyph sets and generators.
-/

namespace Sys2Proof.Machine

/-- Where a parcel comes from (R81): codes 0 to 7, 8 and 9. -/
inductive ParcelSource where
  | host (ch : Chan)
  | partner
  | peer (node : NodeNo)
deriving DecidableEq, Repr

/-- A parcel load that waits for a slot or holds one (R79). -/
structure LoadReq where
  /-- source of the parcel [R81; none at reset] -/
  src        : ParcelSource
  /-- who receives the response [R80; none at reset] -/
  origin     : Origin
  /-- TAG of the command [5; R532; none at reset] -/
  tag        : BitVec 5
  /-- OPCODE of the command: PARCEL_LOAD or BULK_OFFER [8; R545; none at reset] -/
  opcode     : Byte
  /-- bytes of the parcel by its docket or offer [R548; none at reset] -/
  total      : Nat
  /-- result buffer of a DOCKET parcel: address [64; R548; none at reset] -/
  bufAddr    : Word
  /-- result buffer of a DOCKET parcel: length in bytes [R548; none at reset] -/
  bufLen     : Nat
  /-- transfer named by the offer [32; R453, R550; none at reset] -/
  xfer       : Option (BitVec 32)
deriving DecidableEq, Repr

/-- A parcel in flight in a headrace slot (R80). -/
structure Flight where
  /-- the load it serves [R79; none at reset] -/
  req      : LoadReq
  /-- the header words, once they have arrived and passed steps 2 to 4 [8 × 64; R75; none at reset] -/
  header   : Option (List Word)
  /-- AES-256-GCM key taken at step 2 [256; R75, R563, R567; none at reset] -/
  key      : BitVec 256
  /-- salt of the nonce [32; R76; none at reset] -/
  salt     : BitVec 32
  /-- payload and trailer words received, ciphertext [64 each; R80 step 5; none at reset] -/
  got      : List Word
  /-- layer-store allocation in units of 64 KiB [R104; none at reset] -/
  alloc    : Nat
  /-- first unit of the allocation [R104; none at reset; log 31] -/
  base     : Nat := 0
  /-- the read requests of what comes next, header or payload and trailer, have been issued [1; R79, R80, R210; none at reset] -/
  asked    : Bool := true
  /-- the tag and the content checks have passed; publication or a DOCKET parcel's commands remain [1; R80 step 9; none at reset] -/
  verified : Bool
deriving DecidableEq, Repr

/-- A parcel whose tag and content checks have passed, waiting for publication (R83). -/
structure Verified where
  /-- the slot it holds until its publication [3; R79; none at reset] -/
  slot    : SlotNo
  /-- the load it serves [R79; none at reset] -/
  req     : LoadReq
  /-- the header words [8 × 64; R75; none at reset] -/
  header  : List Word
  /-- the payload in the clear [64 each; R80; none at reset] -/
  payload : List Word
  /-- its layer-store allocation: first unit and units of 64 KiB [R104; none at reset] -/
  alloc   : Nat × Nat := (0, 0)
deriving DecidableEq, Repr

/-- A published DOCKET parcel whose embedded commands run one at a time (R544). -/
structure DocketRun where
  /-- the parcel [R544; none at reset] -/
  parcel    : Verified
  /-- how it was authenticated [R544; none at reset] -/
  auth      : ParcelAuth
  /-- embedded commands still to run: command word, docket words, and the words at the addresses in the docket [R543; none at reset] -/
  remaining : List (Word × List Word × List (List Word))
  /-- response words written so far [R544; none at reset] -/
  responses : List Word
  /-- an embedded command has started and is not yet answered: its opcode and tag [R544; none at reset] -/
  waiting   : Option (Byte × BitVec 5)
deriving DecidableEq, Repr

/-- The layer kinds of R87. -/
inductive LayerKind where
  | base | overlay | contone | stamp
deriving DecidableEq, Repr

/-- A layer descriptor (R87). -/
structure LayerDesc where
  /-- LAYER_ID [32; R87] -/
  id        : LayerId
  /-- KIND [2; R87] -/
  kind      : LayerKind
  /-- DEPTH code [2; R87] -/
  depth     : BitVec 2
  /-- SOURCE 1: generated on the device [1; R87] -/
  generated : Bool
  /-- MASKED [1; R87] -/
  masked    : Bool
  /-- LINES [25; R87] -/
  lines     : Nat
  /-- POS_OFFSET [17; R87] -/
  posOffset : Nat
  /-- POSITIONS [18; R87] -/
  positions : Nat
  /-- GENERATOR_ID [32; R87] -/
  generator : BitVec 32
deriving DecidableEq, Repr

/-- A published block with its index entry (R89, R95). -/
structure LayerBlock where
  /-- SEGMENT [4; R92] -/
  segment  : Nat
  /-- BAND [18; R92] -/
  band     : Nat
  /-- WORD_ADDR of the index entry [36; R95] -/
  wordAddr : BitVec 36
  /-- WORDS of the index entry, as the part-index entry gave it [24; R95, R648] -/
  count    : Nat
  /-- the block's words [64 each; R105] -/
  words    : List Word
deriving DecidableEq, Repr

/-- A layer of the layer table (R87, R95). -/
structure Layer where
  /-- descriptor [256; R87] -/
  desc   : LayerDesc
  /-- blocks present [R95] -/
  blocks : List LayerBlock
  /-- layer-store allocations of its parts: first unit and units of 64 KiB [R104; log 31] -/
  allocs : List (Nat × Nat) := []
  /-- first 8-byte entry of its block index in the block-index region, and the entries it has [R95, R103; log 31] -/
  index  : Nat × Nat := (0, 0)
deriving DecidableEq, Repr

/-- A layer reference of a page (R97). -/
structure LayerRef where
  /-- LAYER_ID [32; R97] -/
  layer      : LayerId
  /-- LINE_OFFSET [24; R97] -/
  lineOffset : Nat
  /-- MASK_MODE [2; R97] -/
  maskMode   : BitVec 2
  /-- ARRAY [3; R97] -/
  array      : Fin 8
deriving DecidableEq, Repr

/-- A page descriptor (R97). -/
structure PageDesc where
  /-- PAGE_ID [32; R97] -/
  id         : PageId
  /-- LENGTH in lines [25; R42] -/
  length     : Nat
  /-- MODE [4; R35] -/
  mode       : BitVec 4
  /-- TRANSPORT: 1 CARRIAGE [1; R38] -/
  carriage   : Bool
  /-- DIRECTION: 1 REV [1; R39] -/
  reverse    : Bool
  /-- GAP [20; R57] -/
  gap        : Nat
  /-- SERIALISED [1; R97] -/
  serialised : Bool
  /-- CHECK_STRIP [1; R97] -/
  checkStrip : Bool
  /-- INSPECT [1; R97] -/
  inspect    : Bool
  /-- HOLD_POLICY: 1 abort [1; R97] -/
  holdAbort  : Bool
  /-- SERIAL_SLOT [4; R97] -/
  slot       : Fin 16
  /-- HOST_TAG [64; R97] -/
  hostTag    : Word
  /-- layer references in priority order [R97] -/
  refs       : List LayerRef
deriving DecidableEq, Repr

/-- The page states of R43. -/
inductive PageState where
  | defined | ready | committed | printing | done | defective | missed
deriving DecidableEq, Repr

/-- An entry of the page table (R99). -/
structure PageEntry where
  /-- descriptor [R97] -/
  desc  : PageDesc
  /-- state code [3; R43] -/
  state : PageState
  /-- which of the 4,096 descriptor places of the page-table region holds it [12; R103; log 31] -/
  place : Nat := 0
deriving DecidableEq, Repr

/-- A threshold array with its tone curve (R142, R143). -/
structure ThresholdArray where
  /-- X_PHASE [8; R142] -/
  xPhase : Nat
  /-- Y_PHASE [8; R142] -/
  yPhase : Nat
  /-- Curve[0] to Curve[255] [12 each; R143] -/
  curve  : List Nat
  /-- thresholds, entry 256 × row + column [12 each; R143] -/
  thresholds : List Nat
deriving DecidableEq, Repr

/-- A glyph set (R154). -/
structure GlyphSet where
  /-- GLYPH_SET_ID [32; R154] -/
  id    : BitVec 32
  /-- CELL_W [7; R154] -/
  cellW : Nat
  /-- CELL_H [7; R154] -/
  cellH : Nat
  /-- glyph rows, CELL_H words for each character from 0x20 [64 each; R154] -/
  rows  : List Word
deriving DecidableEq, Repr

/-- A generator (R156). -/
structure Generator where
  /-- GENERATOR_ID [32; R156] -/
  id         : BitVec 32
  /-- TYPE 2 DATAMATRIX, else TEXT [4; R156] -/
  datamatrix : Bool
  /-- INK [4; R156] -/
  ink        : Nat
  /-- ROTATE180 [1; R156] -/
  rotate     : Bool
  /-- GLYPH_SET_ID [32; R156] -/
  glyphSet   : BitVec 32
  /-- SYMBOL_SIZE [8; R156] -/
  symbolSize : Nat
  /-- MODULE_W [4; R156] -/
  moduleW    : Nat
  /-- MODULE_H [4; R156] -/
  moduleH    : Nat
  /-- QUIET [4; R156] -/
  quiet      : Nat
  /-- SERIAL_DIGITS [4; R156] -/
  digits     : Nat
  /-- template bytes [8 each; R157] -/
  template   : List Byte
deriving DecidableEq, Repr

/-- The redistribution curves and density weights in force for new pages (R143, R146). -/
structure ScreenSets where
  /-- REDIST entries, 16 for each of the depths 1, 2, 4 [16 each; R143; reset INC1(c) = ⌈c/2⌉, R146] -/
  redist  : List Nat := (List.range 48).map (fun i => (i % 16 + 1) / 2)
  /-- WEIGHTS entries, 16 for each of the depths 1, 2, 4 [8 each; R143; reset ⌊255 v / (2^d − 1)⌋, R146] -/
  weights : List Nat := (List.range 48).map (fun i =>
    let n := if i / 16 = 0 then 1 else if i / 16 = 1 then 3 else 15
    255 * (min (i % 16) n) / n)
deriving DecidableEq, Repr

/-- An object of the page store that a parcel brought. -/
inductive ObjKey where
  | map | screen
  | glyphSet (id : BitVec 32)
  | generator (id : BitVec 32)
  | layer (id : LayerId)
deriving DecidableEq, Repr

/-- The headrace and the page store. -/
structure StorePart where
  /-- parcels in flight [8 slots; R79; reset none] -/
  flights    : Vector (Option Flight) 8 := Vector.replicate 8 none
  /-- loads that wait, oldest first [R79; reset empty] -/
  waiting    : List LoadReq := []
  /-- verified parcels, in order of verification [R83; reset empty] -/
  verified   : List Verified := []
  /-- published DOCKET parcels whose commands have not all been answered, oldest first [R544; reset empty] -/
  docketRuns : List DocketRun := []
  /-- parcel timeout in ms [16; R82; reset 2000] -/
  timeoutMs  : Nat := 2000
  /-- layer table, at most 65,536 [R93; reset empty] -/
  layers     : List Layer := []
  /-- page table, at most 4,096 [R99; reset empty] -/
  pages      : List PageEntry := []
  /-- threshold arrays 0 to 7 [R142, R146; reset none loaded] -/
  arrays     : Vector (Option ThresholdArray) 8 := Vector.replicate 8 none
  /-- REDIST and WEIGHTS sets [R146] -/
  sets       : ScreenSets := {}
  /-- glyph sets, at most 64 [R154; reset empty] -/
  glyphs     : List GlyphSet := []
  /-- generators, at most 256 [R158; reset empty] -/
  generators : List Generator := []
  /-- the objects of the page store as the active sends them again: header and payload in the clear [R487 step 3; reset empty; log 52] -/
  kept       : List (ObjKey × List Word) := []
  /-- the staged firmware image: PARCEL_ID and words [R559; reset none] -/
  staged     : Option (BitVec 32 × List Word) := none
deriving DecidableEq, Repr

end Sys2Proof.Machine
end

