-- ==== Sys2Proof/Machine/Parts/EnginePart.lean ====
section
/-!
DEFINITION. State of the furrow engines and of the pages in preparation (05_furrow_engines.md, 07_cistern_and_speed_governor.md):
what a page fixes when its preparation begins, the bands in the engines, and the bands in the cistern.
-/

namespace Sys2Proof.Machine

/-- The outcome of one block fetch of a band (R118, R119). -/
structure Fetch where
  /-- engine, which is the segment [4; R133; none at reset] -/
  seg    : EngineNo
  /-- index of the layer reference [9; R121; none at reset] -/
  ref    : Nat
  /-- the second block of the band [1; R98; none at reset] -/
  second : Bool
  /-- reason of R118 when the block failed, else 0 [4; R118; none at reset] -/
  reason : Nat
  /-- verified raw words; empty when the block failed [64 each; R119; none at reset] -/
  words  : List Word
deriving DecidableEq, Repr

/-- A band in the engines. Codes are held as one list of codes per page line of the band, lowest page line first. -/
structure BandWork where
  /-- index of the band in firing order [18; R133; none at reset] -/
  order   : Nat
  /-- block fetches that have ended [R133 step 2; none at reset] -/
  fetches : List Fetch
  /-- phase-1 codes of each engine that has ended phase 1, edges sent [4 each; R133 step 4, R134; none at reset] -/
  phase1  : Vector (Option (List (List Nat))) 16
  /-- phase-2 codes of each engine that has handed the band over [4 each; R133 step 6; none at reset] -/
  phase2  : Vector (Option (List (List Nat))) 16
deriving DecidableEq, Repr

/-- A band present in the cistern: for each page line, lowest first, and each position, the codes in the slots of its
candidates A and B (R176). -/
structure CisternBand where
  /-- index of the band in firing order [18; R204; none at reset] -/
  order : Nat
  /-- codes of A and B by line and position [4 each; R176, R203; none at reset] -/
  lines : List (List (Nat × Nat))
deriving DecidableEq, Repr

/-- A rendered block of a generated layer (R164). -/
structure Rendered where
  /-- index of the layer reference [9; R164; none at reset] -/
  ref     : Nat
  /-- segment [4; R164; none at reset] -/
  segment : Nat
  /-- layer band [18; R164; none at reset] -/
  band    : Nat
  /-- the RAW block [64 each; R164; none at reset] -/
  words   : List Word
deriving DecidableEq, Repr

/-- A failed fetch whose first affected line has not yet been allocated (R121). -/
structure BadFetch where
  /-- index of the layer reference [9; R121; none at reset] -/
  ref     : Nat
  /-- LAYER_ID [32; R552; none at reset] -/
  layer   : LayerId
  /-- segment [4; R121; none at reset] -/
  segment : Nat
  /-- layer band [18; R121; none at reset] -/
  band    : Nat
  /-- reason of R118 [4; R121; none at reset] -/
  reason  : Nat
  /-- first composed line affected [64; R121; none at reset] -/
  first   : Nat
  /-- last composed line affected [64; R121; none at reset] -/
  last    : Nat
deriving DecidableEq, Repr

/-- A page in preparation or printing, with everything fixed when its preparation began (R145, R147, R150, R178, R200). -/
structure PageCtx where
  /-- number of the preparation, counted from reset [R145, R370; none at reset] -/
  prep      : Nat
  /-- descriptor [R97; none at reset] -/
  desc      : PageDesc
  /-- nozzle map of the page [R200; none at reset] -/
  map       : NozzleMap
  /-- the map was not in force when the preparation began [1; R200; none at reset] -/
  fresh     : Bool
  /-- the publication of that map started a rollout [1; R200; none at reset] -/
  rolls     : Bool
  /-- failed-nozzle set [R178; none at reset] -/
  failed    : List Nozzle
  /-- heads forced to spares [32; R181; none at reset] -/
  forced    : BitVec 32
  /-- curves that differ from the map's for this page, by nozzle [64 each; R195; none at reset] -/
  curves    : List (Nozzle × Word)
  /-- threshold arrays in force [R145; none at reset] -/
  arrays    : Vector (Option ThresholdArray) 8
  /-- REDIST and WEIGHTS sets in force [R145; none at reset] -/
  sets      : ScreenSets
  /-- G_P [5; R150; none at reset] -/
  gp        : Nat
  /-- G_L [5; R150; none at reset] -/
  gl        : Nat
  /-- serial and MAC drawn for the page [48 and 40; R163; none at reset] -/
  serial    : Option (BitVec 48 × BitVec 40)
  /-- width and height of the rendered image of each generated layer reference [R162; none at reset] -/
  images    : List (Nat × Nat × Nat)
  /-- references whose burst of the page table read uncorrectable at preparation [9 each; R587; none at reset] -/
  lost      : List Nat
  /-- rendered blocks [R164; none at reset] -/
  rendered  : List Rendered
  /-- next band each engine starts, in firing order [18 each; R133; none at reset] -/
  next      : Vector Nat 16
  /-- bands in the engines, in firing order [R133; none at reset] -/
  bands     : List BandWork
  /-- bands present in the cistern [at most 3; R203, R207; none at reset] -/
  cistern   : List CisternBand
  /-- failed fetches not yet raised as BLOCK_BAD [R121; none at reset] -/
  bad       : List BadFetch
  /-- the lead fell below W2 while the band to be handed over next was prepared [1; R220; none at reset] -/
  lowLead   : Bool
  /-- the lead stayed at or above W1 while that band was prepared [1; R220; none at reset] -/
  goodLead  : Bool
deriving DecidableEq, Repr

/-- A furrow engine (R29, R133). -/
structure Engine where
  /-- band being prepared: of the fallback page or not, and its index in firing order [R133; reset none] -/
  busy : Option (Bool × Nat) := none
deriving DecidableEq, Repr

/-- An expected-density record (R152). -/
structure DensityRec where
  /-- the preparation that wrote it [R151, R370; none at reset] -/
  prep    : Nat
  /-- SEGMENT [4; R152; none at reset] -/
  segment : Nat
  /-- BAND [18; R152; none at reset] -/
  band    : Nat
  /-- header word and rows [64 each; R152; none at reset] -/
  words   : List Word
deriving DecidableEq, Repr

/-- The furrow engines. -/
structure EnginePart where
  /-- F0 to F15 [R133; reset idle] -/
  engines     : Vector Engine 16 := Vector.replicate 16 {}
  /-- page of the queue in preparation or printing [R56; reset none] -/
  queueCtx    : Option PageCtx := none
  /-- fallback page in preparation or printing [R67; reset none] -/
  fallbackCtx : Option PageCtx := none
  /-- first kernel whose signature failed at boot; every engine is halted [4; R173; reset none] -/
  kernelFail  : Option (BitVec 4) := none
  /-- kernel code region of every engine, alike in all: the code of each kernel loaded, write-protected [64 each; R135, R171, R172; reset
  empty, until stage FIRMWARE] -/
  kernels     : List (List Word) := []
  /-- expected-density records in the ring, oldest first [R152, R370; reset empty] -/
  density     : List DensityRec := []
  /-- page preparations begun, which number them [R56, R370; reset 0] -/
  preps       : Nat := 0
deriving DecidableEq, Repr

end Sys2Proof.Machine
end

