-- ==== Sys2Proof/Machine/Parts/HealthPart.lean ====
section
/-!
DEFINITION. State of nozzle health, corrections and calibration (13_nozzle_health_and_calibration.md).
-/

namespace Sys2Proof.Machine

/-- States of a nozzle (R393). -/
inductive NozzleState where
  | ok | weak | failed | forced
deriving DecidableEq, Repr

/-- Verdicts of the strip judgement (R391). -/
inductive Verdict where
  | ok | weak | missing
deriving DecidableEq, Repr

/-- A nozzle of the health map (R393). -/
structure NozzleRec where
  /-- state [2; R393; reset OK, R397] -/
  state : NozzleState := .ok
  /-- miss counter [4; R393; reset 0] -/
  miss  : Nat := 0
  /-- OK counter [8; R393; reset 0] -/
  okRun : Nat := 0
deriving DecidableEq, Repr

/-- The health record of a head port in MRAM (R396). -/
structure HealthRecord where
  /-- DRIVER_ID [64; R396; none at factory] -/
  driverId : Word
  /-- MAP_ID [32; R396; none at factory] -/
  mapId    : BitVec 32
  /-- NOZZLES [14; R396; none at factory] -/
  nozzles  : Nat
  /-- states [2 each; R396; none at factory] -/
  states   : List NozzleState
deriving DecidableEq, Repr

/-- Health state of a head port. -/
structure HealthPort where
  /-- nozzles 0 to NOZZLES − 1 of the head record in force [R393; reset none, no map in force] -/
  nozzles  : List NozzleRec := []
  /-- DRIVER_ID last judged since the map took effect [64; R397; reset none] -/
  judged   : Option Word := none
  /-- record in MRAM [R396; kept through reset; DESIGN CHOICE none at the factory, log 21] -/
  record   : Option HealthRecord := none
  /-- states have changed since the record was written [1; R396; reset 0] -/
  changed  : Bool := false
deriving DecidableEq, Repr

/-- The settings of R406. -/
structure HealthSettings where
  /-- BAR_SLOTS [4; R406; reset 1] -/
  barSlots    : Nat := 1
  /-- BAR_SLOT [3; R406; reset 0] -/
  barSlot     : Nat := 0
  /-- SLOT_NODES: two node numbers for each slot [12 each; R406; reset 0x000] -/
  slotNodes   : Vector (NodeNo × NodeNo) 8 := Vector.replicate 8 (0, 0)
  /-- PHASE_LINES [7; R406; reset 8] -/
  phaseLines  : Nat := 8
  /-- MIN_SIGNAL [8; R406; reset 8] -/
  minSignal   : Nat := 8
  /-- MISS_FRAC in 1/256 [8; R406; reset 64] -/
  missFrac    : Nat := 64
  /-- WEAK_FRAC in 1/256 [8; R406; reset 153] -/
  weakFrac    : Nat := 153
  /-- FAIL_COUNT [4; R406; reset 2] -/
  failCount   : Nat := 2
  /-- RECOVER_COUNT [8; R406; reset 8] -/
  recoverCount : Nat := 8
  /-- CAPPED_SW [4; R406; reset none] -/
  cappedSw    : Option SwitchNo := none
  /-- CAL_MIN_RATE in lines/s [R406; reset 2,000] -/
  calMinRate  : Nat := 2000
  /-- CAL_TIMEOUT in ps [R406; reset 60] -/
  calTimeoutPs : Nat := 60000000000000
  /-- DET_PAGES [7; R406; reset 4] -/
  detPages    : Nat := 4
  /-- DC_PAGES [7; R406; reset 8] -/
  dcPages     : Nat := 8
  /-- DC_STEP in 0.5 % [5; R406; reset 4] -/
  dcStep      : Nat := 4
deriving DecidableEq, Repr

/-- What a running calibration procedure has gathered for one candidate (R405). -/
structure CalTally where
  /-- nozzle [18; R405; none at reset] -/
  nozzle  : Nozzle
  /-- strips in which it was MISSING [7; R405; none at reset] -/
  missing : Nat
  /-- strips in which it was OK [7; R405; none at reset] -/
  okay    : Nat
  /-- sum of S ÷ R_med and the number of values [R405; none at reset] -/
  ratio   : Rat × Nat
deriving DecidableEq, Repr

/-- A calibration procedure that runs (R403). -/
structure CalRun where
  /-- procedure and target [3 and 5; R403; none at reset] -/
  proc    : CalProc
  /-- who receives the response [R403; none at reset] -/
  origin  : Origin
  /-- TAG [5; R532; none at reset] -/
  tag     : BitVec 5
  /-- OPCODE [8; R532; none at reset] -/
  opcode  : Byte
  /-- print mode requested, for a density calibration [4; R404; none at reset] -/
  mode    : BitVec 4
  /-- strips judged so far [7; R405; none at reset] -/
  strips  : Nat
  /-- tallies by candidate [R405; none at reset] -/
  tally   : List CalTally
  /-- position of the interface at the start, for an encoder trim [64; R404; none at reset] -/
  start   : Int
deriving DecidableEq, Repr

/-- A verdict kept for a candidate of this device (R399). -/
structure KeptVerdict where
  /-- position [17; R398; none at reset] -/
  position : Nat
  /-- candidate B [1; R398; none at reset] -/
  candB    : Bool
  /-- verdict [2; R398; none at reset] -/
  verdict  : Verdict
deriving DecidableEq, Repr

/-- A verdict last sent for a candidate of another bar (R398). -/
structure SentVerdict where
  /-- slot [3; R398; none at reset] -/
  slot     : Nat
  /-- position [17; R398; none at reset] -/
  position : Nat
  /-- candidate B [1; R398; none at reset] -/
  candB    : Bool
  /-- verdict [2; R398; none at reset] -/
  verdict  : Verdict
deriving DecidableEq, Repr

/-- A change of state that waits for its page in a redundant bar (R400). -/
structure HealthSync where
  /-- nozzle [18; R400; none at reset] -/
  nozzle : Nozzle
  /-- new state [2; R400; none at reset] -/
  state  : NozzleState
  /-- page X [32; R400; none at reset] -/
  page   : PageId
  /-- preparations of later pages begun since X; none where that of X has not begun [2; R400; none at reset] -/
  begun  : Option Nat
deriving DecidableEq, Repr

/-- A strip whose frames are being read (R391, R392). -/
structure StripGather where
  /-- PAGE_ID [32; R391; none at reset] -/
  page     : PageId
  /-- first bar line of the page [64; R391; none at reset] -/
  first    : Nat
  /-- strip rows: page line and column values [8 each; R373; none at reset] -/
  rows     : List (Int × List Nat)
  /-- a frame of the strip was not VALID [1; R392; none at reset] -/
  bad      : Bool
  /-- a frame of the strip carried UNCERTAIN [1; R405; none at reset] -/
  uncertain : Bool
deriving DecidableEq, Repr

/-- Nozzle health and calibration. -/
structure HealthPart where
  /-- settings [R406] -/
  set      : HealthSettings := {}
  /-- HP00 to HP31 -/
  ports    : Vector HealthPort 32 := Vector.replicate 32 {}
  /-- verdicts kept by this device as a receiver [R399; reset empty] -/
  kept     : List KeptVerdict := []
  /-- verdicts last sent to other bars [R398; reset empty] -/
  sentV    : List SentVerdict := []
  /-- slots for which a report was lost: every verdict is sent at the next strip [8; R399; reset 0] -/
  resend   : BitVec 8 := 0
  /-- reports that wait to be posted: node, slot and argument [12, 3 and 48; R398; reset empty] -/
  reports  : List (NodeNo × Nat × BitVec 48) := []
  /-- reports posted and not yet answered: slot and node [3 and 12; R399; reset empty] -/
  awaiting : List (Nat × NodeNo) := []
  /-- strips of CP0 to CP3 being gathered [R391; reset none] -/
  strips   : Vector (Option StripGather) 4 := Vector.replicate 4 none
  /-- procedures that run [R403; reset none] -/
  runs     : List CalRun := []
  /-- changes of state that wait for their page [R400; reset empty] -/
  syncs    : List HealthSync := []
  /-- queue pages whose preparation began last, newest first, at most 8 [32 each; R400; reset none] -/
  preps    : List PageId := []
deriving DecidableEq, Repr

end Sys2Proof.Machine
end

