-- ==== Sys2Proof/Machine/CamOps.lean ====
section
/-!
DEFINITION. The image pipeline and the strip judgement as computations (12_camera_ports_and_image_pipeline.md,
13_nozzle_health_and_calibration.md).
-/

namespace Sys2Proof.Machine

/-- The first and the second lane of a camera port (R22). -/
def camLane (p : CamNo) (second : Bool) : LaneNo := ⟨48 + 2 * p.val + (if second then 1 else 0), by split <;> omega⟩

/-- The entry of a table of exceptions, or its default. -/
def exceptAt (l : List (Nat × Nat)) (i d : Nat) : Nat :=
  match l.find? (fun p => p.1 == i) with
  | some p => p.2
  | none => d

/-- A table of exceptions with entry i set to v, its default d leaving no entry. -/
def exceptSet (l : List (Nat × Nat)) (i v d : Nat) : List (Nat × Nat) :=
  let l := l.filter (fun p => p.1 != i)
  if v = d then l else (i, v) :: l

/-- Stage 1: a sample as a 12-bit code (R368). -/
def unpackCode (f : PixelFormat) (s : BitVec 12) : Nat :=
  match f with
  | .mono8 => s.toNat % 256 * 16
  | .mono10 => s.toNat % 1024 * 4
  | .mono12 => s.toNat

/-- Stage 2: coverage u of pixel x (R368). -/
def coverage (a : CamShadow) (x r : Nat) : Nat :=
  let v := (((r : Int) - exceptAt a.dark x 0) * exceptAt a.gain x 4096) / 4096
  let v := (max 0 (min 4095 v)).toNat
  exceptAt a.lut v (255 - v / 16)

/-- The bar position of pixel x, rounded down (R369). -/
def pixelPos (a : CamShadow) (x : Nat) : Int := (a.offset * 512 + (a.scale * (2 * x + 1) : Nat)) / 2 ^ 25

/-- The pixels in use with the column each falls into (R369). -/
def pixelCols (a : CamShadow) (width p gp : Nat) : List (Nat × Nat) :=
  (List.range width).filterMap (fun x =>
    let q := pixelPos a x
    if 0 ≤ q ∧ q < p then some (x, q.toNat / gp) else none)

/-- First column and number of columns of the camera's view (R374). -/
def viewCols (a : CamShadow) (width p gp : Nat) : Nat × Nat :=
  match (pixelCols a width p gp).map (·.2) with
  | [] => (0, 0)
  | k :: ks => (k, (ks.getLast?.getD k) + 1 - k)

/-- Stage 3: the columns of the view, each with its first pixel and its value; none is NO_SAMPLE (R369). u: coverage by
pixel. -/
def columnValues (a : CamShadow) (width p gp : Nat) (u : List Nat) : List (Option (Nat × Nat)) :=
  let px := pixelCols a width p gp
  let (k0, n) := viewCols a width p gp
  (List.range n).map (fun i =>
    let mine := px.filter (fun e => e.2 == k0 + i)
    match mine with
    | [] => none
    | e :: _ =>
      let s := (mine.map (fun e => u.getD e.1 0)).sum
      some (e.1, (2 * s + mine.length) / (2 * mine.length)))

/-- round(SKEW × x) (R369). -/
def skewLines (a : CamShadow) (x : Nat) : Int := (a.skew * x + 2 ^ 23) / 2 ^ 24

/-- E for column k on page line y, by the records that a preparation wrote (R370); none: the record is absent (R371). -/
def expectAt (recs : List DensityRec) (prep : Option Nat) (p length gp gl k : Nat) (y : Int) : Option Nat :=
  if y < 0 ∨ (length : Int) ≤ y then some 0
  else
    let y := y.toNat
    let bins := p / 16 / gp
    match recs.find? (fun r => some r.prep == prep && r.segment == k / bins && r.band == y / 64) with
    | none => none
    | some r =>
      let roww := packedWords 8 bins
      some (packedAt 8 (slice r.words (1 + (y % 64 / gl) * roww) roww) (k % bins))

/-- One counted line on a column accumulator (R374, R375). i: camera line index within the frame. -/
def ColAcc.count (a : CamShadow) (c : ColAcc) (i : Nat) (d : Int) : ColAcc :=
  let w := (d :: c.window).take a.streakLines
  let s := w.sum
  let found := c.streak.isNone && decide (a.streakThresh * a.streakLines ≤ s.natAbs)
  { c with sum := c.sum + d, n := c.n + 1, window := w
           streak := if found then some (i, decide (s < 0)) else c.streak }

/-- A column entry (R374). -/
def ColAcc.entry (c : ColAcc) : Word :=
  word [fldI 0 32 c.sum, fld 32 13 c.n, fld 45 1 (b2n c.noSample), fld 46 1 (b2n c.streak.isSome),
    fld 47 1 (b2n (match c.streak with | some s => s.2 | none => false)),
    fld 48 12 (match c.streak with | some s => s.1 | none => 0)]

/-- The words of a statistics record (R374). -/
def statsWords (port : CamNo) (status : Nat) (f : Frame) (firstCol : Nat) : List Word :=
  let valid := status = 0
  let cols := if valid then f.cols else []
  let strip := if valid then f.strip else []
  [word [fld 0 48 f.number, fld 48 2 port.val, fld 50 2 status, fld 52 1 (b2n f.uncertain), fld 53 1 (b2n f.noExpect),
     fld 54 1 (b2n f.clipped), fld 55 1 (b2n f.resync), fld 56 1 (b2n f.page.isNone)],
   word [fld 0 32 (match f.page with | some g => g.id.toNat | none => 0), fld 32 16 f.gen.toNat],
   (match f.page with | some g => g.hostTag | none => 0), BitVec.ofNat 64 f.firstBar,
   word [fld 0 13 f.lines, fld 13 13 strip.length, fld 26 13 f.skipped, fld 39 13 f.excused],
   word [fld 0 18 firstCol, fld 18 18 cols.length], 0, 0]
  ++ cols.map ColAcc.entry ++ strip.flatMap (fun r => packAll 8 r.2)

/-- Page line of a line of the page's own numbering, counted from its first bar line (R39, R370). -/
def CamPage.pageLine (g : CamPage) (rel : Int) : Int := if g.reverse then (g.length : Int) - 1 - rel else rel

/-- The least and greatest page line that a frame's triggers image. -/
def Frame.reach (f : Frame) : Int × Int :=
  match f.page with
  | none => (0, 0)
  | some g =>
    let a := g.pageLine (f.firstIm - g.first)
    let b := g.pageLine (f.lastIm - g.first)
    (min a b, max a b)

/-- The raw line of a tap point (R384): at point 0 Mono8 samples as bytes, the others as the 12-bit codes of Unpack. samples: the
samples as received; u, vals and ds after stages 2, 3 and 4. -/
def tapLine (f : PixelFormat) (point : Nat) (samples : List (BitVec 12)) (u vals : List Nat) (ds : List Int) : List Word :=
  match point with
  | 0 =>
    if f = .mono8 then packAll 8 (samples.map BitVec.toNat)
    else (List.range (ceilDiv samples.length 5)).map (fun i =>
      BitVec.ofNat 64 (((samples.drop (5 * i)).take 5).foldr (fun s acc => unpackCode f s + 4096 * acc) 0))
  | 1 => packAll 8 u
  | 2 => packAll 8 vals
  | _ => packAll 8 (ds.map (fun d => ((max (-128) (min 127 d)) % 256).toNat))

/-! ### The strip judgement (R388 to R392) -/

/-- PH of a bar (R388). -/
def phasesOf (spares : Bool) : Nat := if spares then 32 else 16

/-- Page lines of the whole strip (R388). -/
def HealthSettings.stripLines (s : HealthSettings) (spares : Bool) : Nat :=
  s.barSlots * (phasesOf spares + 1) * s.phaseLines

/-- The code that fires on a strip line for position p: codes of candidates A and B at full code n (R389). -/
def stripCodes (s : HealthSettings) (spares : Bool) (line p n : Nat) : Nat × Nat :=
  let block := line / s.phaseLines
  let ph := phasesOf spares
  if block / (ph + 1) ≠ s.barSlot then (0, 0)
  else
    match block % (ph + 1) with
    | 0 => (0, 0)
    | k + 1 =>
      if k < 16 then (if p % 16 = k then n else 0, 0)
      else (0, if p % 16 = k - 16 then n else 0)

/-- Page line y is an interior line of strip block b (R391). -/
def interior (s : HealthSettings) (b : Nat) (y : Int) : Bool :=
  decide ((b * s.phaseLines : Nat) < y) && decide (y < ((b + 1) * s.phaseLines : Nat) - 1)

/-- Mean column value over the interior lines of a block; none without such a line (R391). -/
def blockMean (s : HealthSettings) (rows : List (Int × List Nat)) (b col : Nat) : Option Rat :=
  let vs := (rows.filter (fun r => interior s b r.1)).map (fun r => r.2.getD col 0)
  if vs = [] then none else some ((vs.sum : Rat) / vs.length)

/-- A judged candidate: position, candidate B, signal S (R391). -/
structure StripSignal where
  position : Nat
  candB    : Bool
  signal   : Rat
deriving DecidableEq, Repr

/-- The signals of one slot (R391, R392). A phase with a line at or beyond LENGTH is not judged (R388). cols: the columns of the record; noSample of each. -/
def stripSignals (s : HealthSettings) (m : NozzleMap) (rows : List (Int × List Nat)) (firstCol gp slot : Nat)
    (noSample : List Bool) (length : Nat) : List StripSignal :=
  let ph := phasesOf m.spares
  let b0 := slot * (ph + 1)
  (List.range m.positions.length).flatMap (fun p =>
    let col := p / gp
    if col < firstCol ∨ noSample.length ≤ col - firstCol ∨ noSample.getD (col - firstCol) true then []
    else
      let c := col - firstCol
      (if m.spares then [false, true] else [false]).filterMap (fun b =>
        let block := b0 + 1 + p % 16 + (if b then 16 else 0)
        if length < (block + 1) * s.phaseLines then none
        else match blockMean s rows block c, blockMean s rows b0 c with
          | some v, some z => some { position := p, candB := b, signal := v - z }
          | _, _ => none))

/-- Median of rationals: with an even number of them the mean of the middle two (log 13). -/
def medianRat (l : List Rat) : Option Rat :=
  let s := sortBy (fun a b => decide (a ≤ b)) l
  if s = [] then none else some ((s.getD ((s.length - 1) / 2) 0 + s.getD (s.length / 2) 0) / 2)

/-- R_med for a candidate: same slot and class, positions within 256 (R391). -/
def rMed (all : List StripSignal) (x : StripSignal) : Option Rat :=
  medianRat ((all.filter (fun y => y.candB == x.candB && decide (y.position ≤ x.position + 256)
    && decide (x.position ≤ y.position + 256))).map (·.signal))

/-- The verdict of a candidate, with S ÷ R_med (R391). -/
def verdictOf (s : HealthSettings) (all : List StripSignal) (x : StripSignal) : Option (Verdict × Rat) :=
  match rMed all x with
  | none => none
  | some r =>
    if r < s.minSignal ∨ r ≤ 0 then none
    else
      let v := if x.signal < (s.missFrac : Rat) / 256 * r then Verdict.missing
        else if x.signal < (s.weakFrac : Rat) / 256 * r then .weak else .ok
      some (v, x.signal / r)

/-- One verdict on a nozzle of the health map (R393). -/
def NozzleRec.apply (s : HealthSettings) (n : NozzleRec) (v : Verdict) : NozzleRec :=
  if n.state = .forced then n
  else match v with
    | .missing =>
      { n with miss := min (n.miss + 1) s.failCount, okRun := 0
               state := if s.failCount ≤ n.miss + 1 then .failed else n.state }
    | .weak => { n with miss := 0, okRun := 0, state := if n.state = .ok then .weak else n.state }
    | .ok =>
      { n with miss := 0, okRun := min (n.okRun + 1) s.recoverCount
               state := if s.recoverCount ≤ n.okRun + 1 then .ok else n.state }

end Sys2Proof.Machine
end

