-- ==== Sys2Proof/Machine/Codes.lean ====
section
/-!
DEFINITION. The status and event codes (24_status_and_event_codes.md): every code a response or an event word can carry,
with its number and its class.
-/

namespace Sys2Proof.Machine

/-- The codes of R644. -/
inductive Code where
  /-- OK (0x000), defined in This chapter. -/
  | ok
  /-- MAILBOX_ABORTED (0x010), defined in Host Link and Mailboxes. -/
  | mailboxAborted
  /-- MAILBOX_PEER_RESET (0x011), defined in Host Link and Mailboxes. -/
  | mailboxPeerReset
  /-- EVENTS_LOST (0x012), defined in Host Link and Mailboxes. -/
  | eventsLost
  /-- LATE_COMMIT (0x021), defined in Print Model: Positions, Pages, Modes and Boundaries. -/
  | lateCommit
  /-- FALLBACK_PRINTED (0x022), defined in Print Model: Positions, Pages, Modes and Boundaries. -/
  | fallbackPrinted
  /-- PAGE_START (0x024), defined in Print Model: Positions, Pages, Modes and Boundaries. -/
  | pageStart
  /-- PAGE_DONE (0x025), defined in Print Model: Positions, Pages, Modes and Boundaries. -/
  | pageDone
  /-- PARCEL_VERIFIED (0x030), defined in Headrace and Page Store. -/
  | parcelVerified
  /-- PAGE_READY (0x031), defined in Headrace and Page Store. -/
  | pageReady
  /-- RATE_CAPPED (0x040), defined in Furrow Engines: Composition, Screening and Position Compensation. -/
  | rateCapped
  /-- NOZZLE_MAP_APPLIED (0x050), defined in Nozzle Mapper. -/
  | nozzleMapApplied
  /-- ROLLOUT_DONE (0x051), defined in Nozzle Mapper. -/
  | rolloutDone
  /-- SPARE_TAKEOVER (0x052), defined in Nozzle Mapper. -/
  | spareTakeover
  /-- GOVERNOR_LIMIT (0x060), defined in Cistern, Weirs and Speed Governor. -/
  | governorLimit
  /-- GOVERNOR_HOLD (0x061), defined in Cistern, Weirs and Speed Governor. -/
  | governorHold
  /-- WEIR_CRITICAL (0x062), defined in Cistern, Weirs and Speed Governor. -/
  | weirCritical
  /-- OVERSPEED (0x063), defined in Cistern, Weirs and Speed Governor. -/
  | overspeed
  /-- GOVERNOR_PEER_LOST (0x064), defined in Cistern, Weirs and Speed Governor. -/
  | governorPeerLost
  /-- WEB_REVERSAL (0x070), defined in Sluice: Fire Timing. -/
  | webReversal
  /-- KEEP_WET_STARTED (0x071), defined in Sluice: Fire Timing. -/
  | keepWetStarted
  /-- PAGE_INTERRUPTED (0x072), defined in Sluice: Fire Timing. -/
  | pageInterrupted
  /-- HEAD_TEMP_WARN (0x073), defined in Sluice: Fire Timing. -/
  | headTempWarn
  /-- HEAD_TEMP_CLEAR (0x074), defined in Sluice: Fire Timing. -/
  | headTempClear
  /-- ENCODER_SWITCHED (0x075), defined in Sluice: Fire Timing. -/
  | encoderSwitched
  /-- HEAD_LINK_UP (0x080), defined in Head Link Protocol and Head-Driver Obligations. -/
  | headLinkUp
  /-- WAVE_LOADED (0x081), defined in Head Link Protocol and Head-Driver Obligations. -/
  | waveLoaded
  /-- HEAD_CUTOFF_CLEAR (0x082), defined in Head Link Protocol and Head-Driver Obligations. -/
  | headCutoffClear
  /-- INDEX_SLIP (0x090), defined in Position Feedback and Encoder Relay. -/
  | indexSlip
  /-- INDEX_REREF (0x091), defined in Position Feedback and Encoder Relay. -/
  | indexReref
  /-- ENC_SIGNAL_RESTORED (0x092), defined in Position Feedback and Encoder Relay. -/
  | encSignalRestored
  /-- MOVE_DONE (0x0A0), defined in Motion Control and Coil Current. -/
  | moveDone
  /-- HOME_DONE (0x0A1), defined in Motion Control and Coil Current. -/
  | homeDone
  /-- COIL_OFFSET_LIMIT (0x0A2), defined in Motion Control and Coil Current. -/
  | coilOffsetLimit
  /-- CAM_LINK_UP (0x0B0), defined in Camera Ports and Image Pipeline. -/
  | camLinkUp
  /-- CAM_SETTINGS_APPLIED (0x0B1), defined in Camera Ports and Image Pipeline. -/
  | camSettingsApplied
  /-- NOZZLE_FAILED (0x0C0), defined in Nozzle Health, Corrections and Calibration. -/
  | nozzleFailed
  /-- NOZZLE_RECOVERED (0x0C1), defined in Nozzle Health, Corrections and Calibration. -/
  | nozzleRecovered
  /-- CAL_PASS (0x0C2), defined in Nozzle Health, Corrections and Calibration. -/
  | calPass
  /-- HEALTH_RESTORED (0x0C3), defined in Nozzle Health, Corrections and Calibration. -/
  | healthRestored
  /-- STREAK_FOUND (0x0C4), defined in Nozzle Health, Corrections and Calibration. -/
  | streakFound
  /-- LANE_EQ_DEFAULT (0x0D0), defined in Serial Lanes. -/
  | laneEqDefault
  /-- DRAM_CORRECTED (0x0D4), defined in DRAM Controller. -/
  | dramCorrected
  /-- DEVICE_READY (0x0D5), defined in Reset, Boot, Power States and Self-Test. -/
  | deviceReady
  /-- POWER_STATE_CHANGED (0x0D6), defined in Reset, Boot, Power States and Self-Test. -/
  | powerStateChanged
  /-- TIME_LOCKED (0x0D8), defined in Timebase and Network Time. -/
  | timeLocked
  /-- TIME_STEPPED (0x0D9), defined in Timebase and Network Time. -/
  | timeStepped
  /-- TB_TRIGGER_LATE (0x0DA), defined in Timebase and Network Time. -/
  | tbTriggerLate
  /-- FABRIC_NODE_ASSIGNED (0x0E0), defined in Canal Fabric. -/
  | fabricNodeAssigned
  /-- FABRIC_ROUTES_APPLIED (0x0E1), defined in Canal Fabric. -/
  | fabricRoutesApplied
  /-- FABRIC_PEER_RESET (0x0E2), defined in Canal Fabric. -/
  | fabricPeerReset
  /-- FABRIC_ROOT_CHANGED (0x0E3), defined in Canal Fabric. -/
  | fabricRootChanged
  /-- PEER_ENC_EVENT (0x0E4), defined in Canal Fabric. -/
  | peerEncEvent
  /-- PAIR_READY (0x0F0), defined in Redundancy and Fail-Over. -/
  | pairReady
  /-- CLAIM_TAKEN (0x0F1), defined in Redundancy and Fail-Over. -/
  | claimTaken
  /-- CLAIM_LOST (0x0F2), defined in Redundancy and Fail-Over. -/
  | claimLost
  /-- PAIR_ALIGNED (0x0F3), defined in Redundancy and Fail-Over. -/
  | pairAligned
  /-- RESYNC_STARTED (0x0F4), defined in Redundancy and Fail-Over. -/
  | resyncStarted
  /-- FAILOVER_GRANTED (0x0F5), defined in Redundancy and Fail-Over. -/
  | failoverGranted
  /-- LOG_CHECKPOINT (0x0F8), defined in Security. -/
  | logCheckpoint
  /-- SERIAL_JOB_END (0x0F9), defined in Security. -/
  | serialJobEnd
  /-- LOG_LOW (0x0FA), defined in Security. -/
  | logLow
  /-- LIFECYCLE_CHANGED (0x0FB), defined in Security. -/
  | lifecycleChanged
  /-- PAIR_KEY_INSTALLED (0x0FC), defined in Security. -/
  | pairKeyInstalled
  /-- DEBUG_UNLOCKED (0x0FD), defined in Security. -/
  | debugUnlocked
  /-- UNKNOWN_OPCODE (0x100), defined in Narman Command Reference. -/
  | unknownOpcode
  /-- SECURE_REQUIRED (0x101), defined in Narman Command Reference. -/
  | secureRequired
  /-- PRINT_ACTIVE (0x102), defined in Narman Command Reference. -/
  | printActive
  /-- PRINT_STOPPED (0x103), defined in Narman Command Reference. -/
  | printStopped
  /-- NOT_FOUND (0x104), defined in Narman Command Reference. -/
  | notFound
  /-- ARG_BAD (0x105), defined in Narman Command Reference. -/
  | argBad
  /-- PAGE_BUSY (0x106), defined in Narman Command Reference. -/
  | pageBusy
  /-- PAGE_IDLE (0x107), defined in Narman Command Reference. -/
  | pageIdle
  /-- BUFFER_SMALL (0x108), defined in Narman Command Reference. -/
  | bufferSmall
  /-- QUEUE_FULL (0x140), defined in Print Model: Positions, Pages, Modes and Boundaries. -/
  | queueFull
  /-- LAYER_LIMIT (0x141), defined in Print Model: Positions, Pages, Modes and Boundaries. -/
  | layerLimit
  /-- PAGE_NOT_READY (0x142), defined in Print Model: Positions, Pages, Modes and Boundaries. -/
  | pageNotReady
  /-- PAGE_DEFECTIVE (0x160), defined in Print Model: Positions, Pages, Modes and Boundaries. -/
  | pageDefective
  /-- PAGE_MISSED (0x161), defined in Print Model: Positions, Pages, Modes and Boundaries. -/
  | pageMissed
  /-- TRIGGER_EARLY (0x162), defined in Print Model: Positions, Pages, Modes and Boundaries. -/
  | triggerEarly
  /-- TRIGGER_NO_PAGE (0x163), defined in Print Model: Positions, Pages, Modes and Boundaries. -/
  | triggerNoPage
  /-- TRIGGER_OVERFLOW (0x164), defined in Print Model: Positions, Pages, Modes and Boundaries. -/
  | triggerOverflow
  /-- FALLBACK_BAD (0x165), defined in Narman Command Reference. -/
  | fallbackBad
  /-- TRIGGER_CONFIG_BAD (0x166), defined in Narman Command Reference. -/
  | triggerConfigBad
  /-- PARCEL_HEADER_BAD (0x180), defined in Headrace and Page Store. -/
  | parcelHeaderBad
  /-- PARCEL_AUTH_FAIL (0x181), defined in Headrace and Page Store. -/
  | parcelAuthFail
  /-- PARCEL_REPLAY (0x182), defined in Headrace and Page Store. -/
  | parcelReplay
  /-- PARCEL_TIMEOUT (0x183), defined in Headrace and Page Store. -/
  | parcelTimeout
  /-- PARCEL_DMA_ERROR (0x184), defined in Headrace and Page Store. -/
  | parcelDmaError
  /-- PAGE_STORE_FULL (0x185), defined in Headrace and Page Store. -/
  | pageStoreFull
  /-- LAYER_TABLE_FULL (0x186), defined in Headrace and Page Store. -/
  | layerTableFull
  /-- LAYER_EXISTS (0x187), defined in Headrace and Page Store. -/
  | layerExists
  /-- LAYER_IN_USE (0x188), defined in Headrace and Page Store. -/
  | layerInUse
  /-- LAYER_PART_BAD (0x189), defined in Headrace and Page Store. -/
  | layerPartBad
  /-- LAYER_MISMATCH (0x18A), defined in Headrace and Page Store. -/
  | layerMismatch
  /-- PAGE_TABLE_FULL (0x18B), defined in Headrace and Page Store. -/
  | pageTableFull
  /-- PAGE_ID_IN_USE (0x18C), defined in Headrace and Page Store. -/
  | pageIdInUse
  /-- BLOCK_BAD (0x1A0), defined in Ryuli Block Format and the Compression Engine. -/
  | blockBad
  /-- TAP_OVERRUN (0x1A1), defined in Ryuli Block Format and the Compression Engine. -/
  | tapOverrun
  /-- SCREEN_BAD (0x1B0), defined in Furrow Engines: Composition, Screening and Position Compensation. -/
  | screenBad
  /-- GLYPH_SET_BAD (0x1B1), defined in Furrow Engines: Composition, Screening and Position Compensation. -/
  | glyphSetBad
  /-- GENERATOR_BAD (0x1B2), defined in Furrow Engines: Composition, Screening and Position Compensation. -/
  | generatorBad
  /-- OBJECT_IN_USE (0x1B3), defined in Furrow Engines: Composition, Screening and Position Compensation. -/
  | objectInUse
  /-- KERNEL_AUTH_FAIL (0x1B4), defined in Furrow Engines: Composition, Screening and Position Compensation. -/
  | kernelAuthFail
  /-- ENGINE_FAULT (0x1B5), defined in Furrow Engines: Composition, Screening and Position Compensation. -/
  | engineFault
  /-- NOZZLE_MAP_BAD (0x1C0), defined in Nozzle Mapper. -/
  | nozzleMapBad
  /-- NOZZLE_MAP_ABSENT (0x1C1), defined in Nozzle Mapper. -/
  | nozzleMapAbsent
  /-- CISTERN_DRY (0x1D0), defined in Cistern, Weirs and Speed Governor. -/
  | cisternDry
  /-- GOVERNOR_CONFIG_BAD (0x1D1), defined in Narman Command Reference. -/
  | governorConfigBad
  /-- FIRE_LATE (0x1E0), defined in Sluice: Fire Timing. -/
  | fireLate
  /-- HEAD_TEMP_HARD (0x1E1), defined in Sluice: Fire Timing. -/
  | headTempHard
  /-- SLUICE_BUSY (0x1E2), defined in Sluice: Fire Timing. -/
  | sluiceBusy
  /-- SLUICE_CONFIG_BAD (0x1E3), defined in Sluice: Fire Timing. -/
  | sluiceConfigBad
  /-- HEAD_LINE_MISS (0x1F0), defined in Head Link Protocol and Head-Driver Obligations. -/
  | headLineMiss
  /-- HEAD_LINK_DOWN (0x1F1), defined in Head Link Protocol and Head-Driver Obligations. -/
  | headLinkDown
  /-- LINE_DISAGREE (0x1F2), defined in Head Link Protocol and Head-Driver Obligations. -/
  | lineDisagree
  /-- HEAD_CUTOFF (0x1F3), defined in Head Link Protocol and Head-Driver Obligations. -/
  | headCutoff
  /-- WAVE_LOAD_FAIL (0x1F4), defined in Head Link Protocol and Head-Driver Obligations. -/
  | waveLoadFail
  /-- HEAD_CAPS_BAD (0x1F5), defined in Head Link Protocol and Head-Driver Obligations. -/
  | headCapsBad
  /-- HEAD_DRIVER_FAULT (0x1F6), defined in Head Link Protocol and Head-Driver Obligations. -/
  | headDriverFault
  /-- QUAD_ERROR (0x200), defined in Position Feedback and Encoder Relay. -/
  | quadError
  /-- INDEX_FAULT (0x201), defined in Position Feedback and Encoder Relay. -/
  | indexFault
  /-- ENC_SIGNAL_LOSS (0x202), defined in Position Feedback and Encoder Relay. -/
  | encSignalLoss
  /-- ENC_OVERRATE (0x203), defined in Position Feedback and Encoder Relay. -/
  | encOverrate
  /-- SWITCH_SET_BAD (0x204), defined in Position Feedback and Encoder Relay. -/
  | switchSetBad
  /-- ENC_DISAGREE (0x205), defined in Position Feedback and Encoder Relay. -/
  | encDisagree
  /-- ENC_CONFIG_BAD (0x206), defined in Position Feedback and Encoder Relay. -/
  | encConfigBad
  /-- LIMIT_DURING_HOME (0x210), defined in Motion Control and Coil Current. -/
  | limitDuringHome
  /-- LIMIT_STOP (0x211), defined in Motion Control and Coil Current. -/
  | limitStop
  /-- HOME_NOT_FOUND (0x212), defined in Motion Control and Coil Current. -/
  | homeNotFound
  /-- MOTION_CONFIG_BAD (0x213), defined in Motion Control and Coil Current. -/
  | motionConfigBad
  /-- AXIS_BUSY (0x214), defined in Motion Control and Coil Current. -/
  | axisBusy
  /-- COIL_FAULT (0x215), defined in Motion Control and Coil Current. -/
  | coilFault
  /-- AXIS_BLOCKED (0x216), defined in Motion Control and Coil Current. -/
  | axisBlocked
  /-- HOME_ABORTED (0x217), defined in Motion Control and Coil Current. -/
  | homeAborted
  /-- CAM_LINK_DOWN (0x220), defined in Camera Ports and Image Pipeline. -/
  | camLinkDown
  /-- FRAME_DROPPED (0x221), defined in Camera Ports and Image Pipeline. -/
  | frameDropped
  /-- FRAME_TRUNCATED (0x222), defined in Camera Ports and Image Pipeline. -/
  | frameTruncated
  /-- FRAME_CORRUPT (0x223), defined in Camera Ports and Image Pipeline. -/
  | frameCorrupt
  /-- CAM_WRITE_FAIL (0x224), defined in Camera Ports and Image Pipeline. -/
  | camWriteFail
  /-- STATS_LOST (0x225), defined in Camera Ports and Image Pipeline. -/
  | statsLost
  /-- CAM_CONFIG_BAD (0x226), defined in Camera Ports and Image Pipeline. -/
  | camConfigBad
  /-- CAM_BUSY (0x227), defined in Camera Ports and Image Pipeline. -/
  | camBusy
  /-- CAL_FAIL (0x230), defined in Nozzle Health, Corrections and Calibration. -/
  | calFail
  /-- CAL_BUSY (0x231), defined in Nozzle Health, Corrections and Calibration. -/
  | calBusy
  /-- HEALTH_CONFIG_BAD (0x232), defined in Nozzle Health, Corrections and Calibration. -/
  | healthConfigBad
  /-- NOZZLE_REPORT_LOST (0x233), defined in Nozzle Health, Corrections and Calibration. -/
  | nozzleReportLost
  /-- HEALTH_SYNC_LATE (0x234), defined in Nozzle Health, Corrections and Calibration. -/
  | healthSyncLate
  /-- LINK_TRAIN_FAIL (0x240), defined in Serial Lanes. -/
  | linkTrainFail
  /-- LANE_ERRORS (0x241), defined in Serial Lanes. -/
  | laneErrors
  /-- LOOPBACK_FAIL (0x242), defined in Serial Lanes. -/
  | loopbackFail
  /-- LANE_CONFIG_BAD (0x243), defined in Serial Lanes. -/
  | laneConfigBad
  /-- LANE_BUSY (0x244), defined in Serial Lanes. -/
  | laneBusy
  /-- NO_CHANNEL (0x250), defined in Canal Fabric. -/
  | noChannel
  /-- FABRIC_CHANNEL_ABORTED (0x251), defined in Canal Fabric. -/
  | fabricChannelAborted
  /-- NODE_UNREACHABLE (0x252), defined in Canal Fabric. -/
  | nodeUnreachable
  /-- FABRIC_NUMBER_CONFLICT (0x253), defined in Canal Fabric. -/
  | fabricNumberConflict
  /-- FABRIC_LOOP (0x254), defined in Canal Fabric. -/
  | fabricLoop
  /-- FABRIC_NUMBERS_EXHAUSTED (0x255), defined in Canal Fabric. -/
  | fabricNumbersExhausted
  /-- FABRIC_CONFIG_BAD (0x256), defined in Canal Fabric. -/
  | fabricConfigBad
  /-- CHANNEL_OVERRUN (0x257), defined in Canal Fabric. -/
  | channelOverrun
  /-- FABRIC_NO_ROOT (0x258), defined in Canal Fabric. -/
  | fabricNoRoot
  /-- PAIR_STANDBY (0x260), defined in Redundancy and Fail-Over. -/
  | pairStandby
  /-- PAIR_PARTNER_LOST (0x261), defined in Redundancy and Fail-Over. -/
  | pairPartnerLost
  /-- CLAIM_REJECTED (0x262), defined in Redundancy and Fail-Over. -/
  | claimRejected
  /-- PAIR_DIVERGED (0x263), defined in Redundancy and Fail-Over. -/
  | pairDiverged
  /-- STANDBY_NOT_READY (0x264), defined in Redundancy and Fail-Over. -/
  | standbyNotReady
  /-- ALIGN_FAULT (0x265), defined in Redundancy and Fail-Over. -/
  | alignFault
  /-- PAIR_CONFIG_BAD (0x266), defined in Redundancy and Fail-Over. -/
  | pairConfigBad
  /-- TIME_LOST (0x270), defined in Timebase and Network Time. -/
  | timeLost
  /-- TB_TRIGGER_MISSED (0x271), defined in Timebase and Network Time. -/
  | tbTriggerMissed
  /-- TB_CONFIG_BAD (0x272), defined in Timebase and Network Time. -/
  | tbConfigBad
  /-- HOST_DMA_ERROR (0x280), defined in Host Link and Mailboxes. -/
  | hostDmaError
  /-- BUS_MASTER_OFF (0x281), defined in Host Link and Mailboxes. -/
  | busMasterOff
  /-- COMMAND_LOST (0x283), defined in Host Link and Mailboxes. -/
  | commandLost
  /-- SESSION_FAIL (0x290), defined in Security. -/
  | sessionFail
  /-- LIFECYCLE_DENIED (0x291), defined in Security. -/
  | lifecycleDenied
  /-- SLOT_BUSY (0x292), defined in Security. -/
  | slotBusy
  /-- SLOT_IDLE (0x293), defined in Security. -/
  | slotIdle
  /-- FW_REJECTED (0x294), defined in Security. -/
  | fwRejected
  /-- SERIAL_PAGE_HELD (0x295), defined in Security. -/
  | serialPageHeld
  /-- LOG_RECORDS_LOST (0x296), defined in Security. -/
  | logRecordsLost
  /-- SELFTEST_FAIL (0x2A0), defined in Reset, Boot, Power States and Self-Test. -/
  | selftestFail
  /-- SELFTEST_NOT_RUN (0x2A1), defined in Reset, Boot, Power States and Self-Test. -/
  | selftestNotRun
  /-- BOOT_INCOMPLETE (0x2A2), defined in Reset, Boot, Power States and Self-Test. -/
  | bootIncomplete
  /-- FATAL_FAULT (0x2A3), defined in Reset, Boot, Power States and Self-Test. -/
  | fatalFault
  /-- SELFTEST_ERROR (0x2A4), defined in Reset, Boot, Power States and Self-Test. -/
  | selftestError
  /-- WATCHDOG_RESET (0x2A5), defined in Reset, Boot, Power States and Self-Test. -/
  | watchdogReset
  /-- DRAM_UNCORRECTABLE (0x2B0), defined in DRAM Controller. -/
  | dramUncorrectable
  /-- DRAM_TRAIN_FAIL (0x2B1), defined in DRAM Controller. -/
  | dramTrainFail
  /-- DRAM_ERROR (0x2B2), defined in DRAM Controller. -/
  | dramError
deriving DecidableEq, Repr

/-- The 10-bit code (R644). -/
def Code.num : Code → Nat
  | .ok => 0x000
  | .mailboxAborted => 0x010
  | .mailboxPeerReset => 0x011
  | .eventsLost => 0x012
  | .lateCommit => 0x021
  | .fallbackPrinted => 0x022
  | .pageStart => 0x024
  | .pageDone => 0x025
  | .parcelVerified => 0x030
  | .pageReady => 0x031
  | .rateCapped => 0x040
  | .nozzleMapApplied => 0x050
  | .rolloutDone => 0x051
  | .spareTakeover => 0x052
  | .governorLimit => 0x060
  | .governorHold => 0x061
  | .weirCritical => 0x062
  | .overspeed => 0x063
  | .governorPeerLost => 0x064
  | .webReversal => 0x070
  | .keepWetStarted => 0x071
  | .pageInterrupted => 0x072
  | .headTempWarn => 0x073
  | .headTempClear => 0x074
  | .encoderSwitched => 0x075
  | .headLinkUp => 0x080
  | .waveLoaded => 0x081
  | .headCutoffClear => 0x082
  | .indexSlip => 0x090
  | .indexReref => 0x091
  | .encSignalRestored => 0x092
  | .moveDone => 0x0A0
  | .homeDone => 0x0A1
  | .coilOffsetLimit => 0x0A2
  | .camLinkUp => 0x0B0
  | .camSettingsApplied => 0x0B1
  | .nozzleFailed => 0x0C0
  | .nozzleRecovered => 0x0C1
  | .calPass => 0x0C2
  | .healthRestored => 0x0C3
  | .streakFound => 0x0C4
  | .laneEqDefault => 0x0D0
  | .dramCorrected => 0x0D4
  | .deviceReady => 0x0D5
  | .powerStateChanged => 0x0D6
  | .timeLocked => 0x0D8
  | .timeStepped => 0x0D9
  | .tbTriggerLate => 0x0DA
  | .fabricNodeAssigned => 0x0E0
  | .fabricRoutesApplied => 0x0E1
  | .fabricPeerReset => 0x0E2
  | .fabricRootChanged => 0x0E3
  | .peerEncEvent => 0x0E4
  | .pairReady => 0x0F0
  | .claimTaken => 0x0F1
  | .claimLost => 0x0F2
  | .pairAligned => 0x0F3
  | .resyncStarted => 0x0F4
  | .failoverGranted => 0x0F5
  | .logCheckpoint => 0x0F8
  | .serialJobEnd => 0x0F9
  | .logLow => 0x0FA
  | .lifecycleChanged => 0x0FB
  | .pairKeyInstalled => 0x0FC
  | .debugUnlocked => 0x0FD
  | .unknownOpcode => 0x100
  | .secureRequired => 0x101
  | .printActive => 0x102
  | .printStopped => 0x103
  | .notFound => 0x104
  | .argBad => 0x105
  | .pageBusy => 0x106
  | .pageIdle => 0x107
  | .bufferSmall => 0x108
  | .queueFull => 0x140
  | .layerLimit => 0x141
  | .pageNotReady => 0x142
  | .pageDefective => 0x160
  | .pageMissed => 0x161
  | .triggerEarly => 0x162
  | .triggerNoPage => 0x163
  | .triggerOverflow => 0x164
  | .fallbackBad => 0x165
  | .triggerConfigBad => 0x166
  | .parcelHeaderBad => 0x180
  | .parcelAuthFail => 0x181
  | .parcelReplay => 0x182
  | .parcelTimeout => 0x183
  | .parcelDmaError => 0x184
  | .pageStoreFull => 0x185
  | .layerTableFull => 0x186
  | .layerExists => 0x187
  | .layerInUse => 0x188
  | .layerPartBad => 0x189
  | .layerMismatch => 0x18A
  | .pageTableFull => 0x18B
  | .pageIdInUse => 0x18C
  | .blockBad => 0x1A0
  | .tapOverrun => 0x1A1
  | .screenBad => 0x1B0
  | .glyphSetBad => 0x1B1
  | .generatorBad => 0x1B2
  | .objectInUse => 0x1B3
  | .kernelAuthFail => 0x1B4
  | .engineFault => 0x1B5
  | .nozzleMapBad => 0x1C0
  | .nozzleMapAbsent => 0x1C1
  | .cisternDry => 0x1D0
  | .governorConfigBad => 0x1D1
  | .fireLate => 0x1E0
  | .headTempHard => 0x1E1
  | .sluiceBusy => 0x1E2
  | .sluiceConfigBad => 0x1E3
  | .headLineMiss => 0x1F0
  | .headLinkDown => 0x1F1
  | .lineDisagree => 0x1F2
  | .headCutoff => 0x1F3
  | .waveLoadFail => 0x1F4
  | .headCapsBad => 0x1F5
  | .headDriverFault => 0x1F6
  | .quadError => 0x200
  | .indexFault => 0x201
  | .encSignalLoss => 0x202
  | .encOverrate => 0x203
  | .switchSetBad => 0x204
  | .encDisagree => 0x205
  | .encConfigBad => 0x206
  | .limitDuringHome => 0x210
  | .limitStop => 0x211
  | .homeNotFound => 0x212
  | .motionConfigBad => 0x213
  | .axisBusy => 0x214
  | .coilFault => 0x215
  | .axisBlocked => 0x216
  | .homeAborted => 0x217
  | .camLinkDown => 0x220
  | .frameDropped => 0x221
  | .frameTruncated => 0x222
  | .frameCorrupt => 0x223
  | .camWriteFail => 0x224
  | .statsLost => 0x225
  | .camConfigBad => 0x226
  | .camBusy => 0x227
  | .calFail => 0x230
  | .calBusy => 0x231
  | .healthConfigBad => 0x232
  | .nozzleReportLost => 0x233
  | .healthSyncLate => 0x234
  | .linkTrainFail => 0x240
  | .laneErrors => 0x241
  | .loopbackFail => 0x242
  | .laneConfigBad => 0x243
  | .laneBusy => 0x244
  | .noChannel => 0x250
  | .fabricChannelAborted => 0x251
  | .nodeUnreachable => 0x252
  | .fabricNumberConflict => 0x253
  | .fabricLoop => 0x254
  | .fabricNumbersExhausted => 0x255
  | .fabricConfigBad => 0x256
  | .channelOverrun => 0x257
  | .fabricNoRoot => 0x258
  | .pairStandby => 0x260
  | .pairPartnerLost => 0x261
  | .claimRejected => 0x262
  | .pairDiverged => 0x263
  | .standbyNotReady => 0x264
  | .alignFault => 0x265
  | .pairConfigBad => 0x266
  | .timeLost => 0x270
  | .tbTriggerMissed => 0x271
  | .tbConfigBad => 0x272
  | .hostDmaError => 0x280
  | .busMasterOff => 0x281
  | .commandLost => 0x283
  | .sessionFail => 0x290
  | .lifecycleDenied => 0x291
  | .slotBusy => 0x292
  | .slotIdle => 0x293
  | .fwRejected => 0x294
  | .serialPageHeld => 0x295
  | .logRecordsLost => 0x296
  | .selftestFail => 0x2A0
  | .selftestNotRun => 0x2A1
  | .bootIncomplete => 0x2A2
  | .fatalFault => 0x2A3
  | .selftestError => 0x2A4
  | .watchdogReset => 0x2A5
  | .dramUncorrectable => 0x2B0
  | .dramTrainFail => 0x2B1
  | .dramError => 0x2B2

/-- The class of the chapter that defines the code (R535, R645); 0 for OK, which is never an event. -/
def Code.cls : Code → Nat
  | .ok => 0x00
  | .mailboxAborted => 0x00
  | .mailboxPeerReset => 0x00
  | .eventsLost => 0x00
  | .lateCommit => 0x01
  | .fallbackPrinted => 0x01
  | .pageStart => 0x01
  | .pageDone => 0x01
  | .parcelVerified => 0x02
  | .pageReady => 0x02
  | .rateCapped => 0x02
  | .nozzleMapApplied => 0x02
  | .rolloutDone => 0x02
  | .spareTakeover => 0x02
  | .governorLimit => 0x01
  | .governorHold => 0x01
  | .weirCritical => 0x01
  | .overspeed => 0x01
  | .governorPeerLost => 0x01
  | .webReversal => 0x03
  | .keepWetStarted => 0x03
  | .pageInterrupted => 0x03
  | .headTempWarn => 0x03
  | .headTempClear => 0x03
  | .encoderSwitched => 0x03
  | .headLinkUp => 0x03
  | .waveLoaded => 0x03
  | .headCutoffClear => 0x03
  | .indexSlip => 0x05
  | .indexReref => 0x05
  | .encSignalRestored => 0x05
  | .moveDone => 0x06
  | .homeDone => 0x06
  | .coilOffsetLimit => 0x06
  | .camLinkUp => 0x04
  | .camSettingsApplied => 0x04
  | .nozzleFailed => 0x04
  | .nozzleRecovered => 0x04
  | .calPass => 0x04
  | .healthRestored => 0x04
  | .streakFound => 0x04
  | .laneEqDefault => 0x07
  | .dramCorrected => 0x0B
  | .deviceReady => 0x0B
  | .powerStateChanged => 0x0B
  | .timeLocked => 0x09
  | .timeStepped => 0x09
  | .tbTriggerLate => 0x09
  | .fabricNodeAssigned => 0x07
  | .fabricRoutesApplied => 0x07
  | .fabricPeerReset => 0x07
  | .fabricRootChanged => 0x07
  | .peerEncEvent => 0x07
  | .pairReady => 0x08
  | .claimTaken => 0x08
  | .claimLost => 0x08
  | .pairAligned => 0x08
  | .resyncStarted => 0x08
  | .failoverGranted => 0x08
  | .logCheckpoint => 0x0A
  | .serialJobEnd => 0x0A
  | .logLow => 0x0A
  | .lifecycleChanged => 0x0A
  | .pairKeyInstalled => 0x0A
  | .debugUnlocked => 0x0A
  | .unknownOpcode => 0x00
  | .secureRequired => 0x00
  | .printActive => 0x00
  | .printStopped => 0x00
  | .notFound => 0x00
  | .argBad => 0x00
  | .pageBusy => 0x00
  | .pageIdle => 0x00
  | .bufferSmall => 0x00
  | .queueFull => 0x01
  | .layerLimit => 0x01
  | .pageNotReady => 0x01
  | .pageDefective => 0x01
  | .pageMissed => 0x01
  | .triggerEarly => 0x01
  | .triggerNoPage => 0x01
  | .triggerOverflow => 0x01
  | .fallbackBad => 0x00
  | .triggerConfigBad => 0x00
  | .parcelHeaderBad => 0x02
  | .parcelAuthFail => 0x02
  | .parcelReplay => 0x02
  | .parcelTimeout => 0x02
  | .parcelDmaError => 0x02
  | .pageStoreFull => 0x02
  | .layerTableFull => 0x02
  | .layerExists => 0x02
  | .layerInUse => 0x02
  | .layerPartBad => 0x02
  | .layerMismatch => 0x02
  | .pageTableFull => 0x02
  | .pageIdInUse => 0x02
  | .blockBad => 0x02
  | .tapOverrun => 0x02
  | .screenBad => 0x02
  | .glyphSetBad => 0x02
  | .generatorBad => 0x02
  | .objectInUse => 0x02
  | .kernelAuthFail => 0x02
  | .engineFault => 0x02
  | .nozzleMapBad => 0x02
  | .nozzleMapAbsent => 0x02
  | .cisternDry => 0x01
  | .governorConfigBad => 0x00
  | .fireLate => 0x03
  | .headTempHard => 0x03
  | .sluiceBusy => 0x03
  | .sluiceConfigBad => 0x03
  | .headLineMiss => 0x03
  | .headLinkDown => 0x03
  | .lineDisagree => 0x03
  | .headCutoff => 0x03
  | .waveLoadFail => 0x03
  | .headCapsBad => 0x03
  | .headDriverFault => 0x03
  | .quadError => 0x05
  | .indexFault => 0x05
  | .encSignalLoss => 0x05
  | .encOverrate => 0x05
  | .switchSetBad => 0x05
  | .encDisagree => 0x05
  | .encConfigBad => 0x05
  | .limitDuringHome => 0x06
  | .limitStop => 0x06
  | .homeNotFound => 0x06
  | .motionConfigBad => 0x06
  | .axisBusy => 0x06
  | .coilFault => 0x06
  | .axisBlocked => 0x06
  | .homeAborted => 0x06
  | .camLinkDown => 0x04
  | .frameDropped => 0x04
  | .frameTruncated => 0x04
  | .frameCorrupt => 0x04
  | .camWriteFail => 0x04
  | .statsLost => 0x04
  | .camConfigBad => 0x04
  | .camBusy => 0x04
  | .calFail => 0x04
  | .calBusy => 0x04
  | .healthConfigBad => 0x04
  | .nozzleReportLost => 0x04
  | .healthSyncLate => 0x04
  | .linkTrainFail => 0x07
  | .laneErrors => 0x07
  | .loopbackFail => 0x07
  | .laneConfigBad => 0x07
  | .laneBusy => 0x07
  | .noChannel => 0x07
  | .fabricChannelAborted => 0x07
  | .nodeUnreachable => 0x07
  | .fabricNumberConflict => 0x07
  | .fabricLoop => 0x07
  | .fabricNumbersExhausted => 0x07
  | .fabricConfigBad => 0x07
  | .channelOverrun => 0x07
  | .fabricNoRoot => 0x07
  | .pairStandby => 0x08
  | .pairPartnerLost => 0x08
  | .claimRejected => 0x08
  | .pairDiverged => 0x08
  | .standbyNotReady => 0x08
  | .alignFault => 0x08
  | .pairConfigBad => 0x08
  | .timeLost => 0x09
  | .tbTriggerMissed => 0x09
  | .tbConfigBad => 0x09
  | .hostDmaError => 0x00
  | .busMasterOff => 0x00
  | .commandLost => 0x00
  | .sessionFail => 0x0A
  | .lifecycleDenied => 0x0A
  | .slotBusy => 0x0A
  | .slotIdle => 0x0A
  | .fwRejected => 0x0A
  | .serialPageHeld => 0x0A
  | .logRecordsLost => 0x0A
  | .selftestFail => 0x0B
  | .selftestNotRun => 0x0B
  | .bootIncomplete => 0x0B
  | .fatalFault => 0x0B
  | .selftestError => 0x0B
  | .watchdogReset => 0x0B
  | .dramUncorrectable => 0x0B
  | .dramTrainFail => 0x0B
  | .dramError => 0x0B

end Sys2Proof.Machine
end

