-- ==== Sys2Proof/Machine/Parts/HostPart.lean ====
section
/-!
DEFINITION. State of the host link: mailbox channels, interrupt registers, the MSI-X table, the engine channels
(18_host_link_and_mailboxes.md), and what each channel keeps for its commands (19_narman_command_reference.md).
A field's docstring ends with its width, the rule that names it and its reset value.
-/

namespace Sys2Proof.Machine

/-- One 66-bit block on a lane: its sync header and payload (R266). -/
structure LinkBlock where
  /-- sync header 0b01, a data block [2; R266; none at reset] -/
  isData  : Bool
  /-- payload [64; R266; none at reset] -/
  payload : Word
deriving DecidableEq, Repr

/-- A command word firmware has taken and not yet started (R517), with the docket once it has been read (R514). -/
structure TakenCmd where
  /-- OPCODE [8; R532; none held at reset] -/
  opcode     : Byte
  /-- TAG [5; R532; none held at reset] -/
  tag        : BitVec 5
  /-- DOCKET flag [1; R532; none held at reset] -/
  docketFlag : Bool
  /-- ARG [48; R532; none held at reset] -/
  arg        : BitVec 48
  /-- docket words read so far [list of 64; R514; none held at reset] -/
  docket     : Option (List Word)
deriving DecidableEq, Repr

/-- A mailbox channel HMBn (R516). -/
structure HmbChannel where
  /-- HMB_IN with IN_FULL: the posted word that awaits firmware [64 and 1; R516; reset none, IN_FULL 0] -/
  inWord      : Option Word := none
  /-- outbound queue, HMB_OUT first, at most 256 words; OUT_FULL and OUT_COUNT are read from it [64 each; R519; reset empty] -/
  outQ        : List Word := []
  /-- HMB_STAT.ABORTED [1, W1C; R516; reset 0] -/
  aborted     : Bool := false
  /-- HMB_STAT.PEER_RESET [1, W1C; R516; reset 0] -/
  peerReset   : Bool := false
  /-- HMB_STAT.EVT_OVF [1, W1C; R516; reset 0] -/
  evtOvf      : Bool := false
  /-- HMB_STAT.SESSION [8; R516; reset 0] -/
  session     : Byte := 0
  /-- HMB_STAT.EVT_LOST [16, saturating; R516; reset 0] -/
  evtLost     : Nat := 0
  /-- HMB_CTL.IN_NOTIFY [1; R516; reset 0] -/
  inNotify    : Bool := false
  /-- TAG and OPCODE of each command outstanding in this session, kept by the host link; OUTSTANDING counts them
  [list; R520, R525; reset empty] -/
  outstanding : List (BitVec 5 × Byte) := []
  /-- commands whose response is not yet queued, in the order firmware took them [list; R517; reset empty] -/
  taken       : List TakenCmd := []
  /-- commands started and not yet answered [tags; R526; reset empty] -/
  running     : List (BitVec 5) := []
  /-- events dropped since the last EVENTS_LOST admitted in the session [16, saturating; R521; reset 0] -/
  dropped     : Nat := 0
  /-- event class mask [16; R535; after a host-end reset all ones on HMB0 and zero on HMB1-HMB7] -/
  mask        : BitVec 16 := 0
deriving DecidableEq, Repr

/-- One MSI-X table entry (R510, in the layout of the PCI Express Base Specification). -/
structure MsixEntry where
  /-- message address [64; R510; DESIGN CHOICE 0, log 2] -/
  address : Word := 0
  /-- message data [32; R510; DESIGN CHOICE 0, log 2] -/
  data    : BitVec 32 := 0
  /-- vector mask bit [1; R528; PRESUMED 1 masked, as the standard's tables reset, log 2] -/
  masked  : Bool := true
deriving DecidableEq, Repr

/-- The channel between an engine and the Lockkeeper (R529): one register each way. -/
structure EngineChannel where
  /-- word posted by the engine and not yet taken [64 and full flag; R529; reset none] -/
  toLockkeeper : Option Word := none
  /-- word posted by firmware and not yet taken [64 and full flag; R529; reset none] -/
  toEngine     : Option Word := none
deriving DecidableEq, Repr

/-- The host link (18_host_link_and_mailboxes.md). -/
structure HostPart where
  /-- HMB0 to HMB7 [R516] -/
  channels    : Vector HmbChannel 8 :=
    (Vector.replicate 8 {}).set 0 { mask := 0xFFFF }
  /-- IRQ_PENDING [19, W1C; R528; reset 0] -/
  irqPending  : BitVec 19 := 0
  /-- IRQ_MASK [19; R528; reset 0] -/
  irqMask     : BitVec 19 := 0
  /-- MSI-X table [32 entries; R510; log 2] -/
  msix        : Vector MsixEntry 32 := Vector.replicate 32 {}
  /-- MSI-X pending bit array: a message held back by a mask [32; R510; reset 0] -/
  msixPending : BitVec 32 := 0
  /-- Bus Master Enable of the PCI Express function [1; R514; DESIGN CHOICE 1, log 3] -/
  busMaster   : Bool := true
  /-- the function is in D3hot [1; R515; reset D0] -/
  d3hot       : Bool := false
  /-- channels of F0 to F15 to the Lockkeeper [R529; reset empty] -/
  engineCh    : Vector EngineChannel 16 := Vector.replicate 16 {}
  /-- events raised in the step in progress and not yet queued; empty between steps [the model's own, R647; reset empty] -/
  batch       : List (Code × BitVec 40) := []
deriving DecidableEq, Repr

end Sys2Proof.Machine
end

