-- ==== Sys2Proof/Machine/Parts/FabPart.lean ====
section
/-!
DEFINITION. State of the Canal fabric (15_canal_fabric.md).
-/

namespace Sys2Proof.Machine

/-- The last ANNOUNCE of a port (R440, R441). -/
structure Announce where
  /-- ROOT_ID [64; R440; none at reset] -/
  root     : Word
  /-- UPSTREAM_ID [64; R440; none at reset] -/
  upstream : Word
  /-- DIST [6; R440; none at reset] -/
  dist     : Nat
  /-- SEQ [32; R440; none at reset] -/
  seq      : BitVec 32
  /-- raw counter at its arrival [64; R441; none at reset] -/
  at_      : Word
  /-- raw counter at the last advance of SEQ for its root [64; R441; none at reset] -/
  seqAt    : Word
deriving DecidableEq, Repr

/-- A frame that waits on an output port for its slot and for credit (R432, R434). -/
structure WaitFrame where
  /-- CLASS [2; R429; none at reset] -/
  cls   : Fin 4
  /-- words of the frame [64 each; R428; none at reset] -/
  words : List Word
  /-- port whose buffer holds it; none for a frame of this device [5; R432; none at reset] -/
  src   : Option FabPort
deriving DecidableEq, Repr

/-- A fabric port. -/
structure FabPortState where
  /-- device identity of the neighbour, from CAPS [64; R437; reset none] -/
  neighbour : Option Word := none
  /-- a valid CAPS has been received on this lane: PEER_SEEN sent [1; R437; reset 0] -/
  seen      : Bool := false
  /-- CAPS sent with PEER_SEEN as it now stands [1; R437; reset 0] -/
  capsSent  : Bool := false
  /-- FABRIC_LOOP has been raised for the lane [1; R438; reset 0] -/
  loopTold  : Bool := false
  /-- blocks sent of classes 0 to 3, modulo 4,096 [12 each; R433; reset 0] -/
  sent      : Vector Nat 4 := Vector.replicate 4 0
  /-- blocks the neighbour has freed of classes 0 to 3, modulo 4,096 [12 each; R433; reset 0] -/
  freed     : Vector Nat 4 := Vector.replicate 4 0
  /-- blocks received of classes 0 to 3, modulo 4,096 [12 each; R432; reset 0] -/
  got       : Vector Nat 4 := Vector.replicate 4 0
  /-- blocks freed here of classes 0 to 3, modulo 4,096 [12 each; R433; reset 0] -/
  given     : Vector Nat 4 := Vector.replicate 4 0
  /-- counts of the last CREDIT sent [12 each; R433; reset 0] -/
  told      : Vector Nat 4 := Vector.replicate 4 0
  /-- last ANNOUNCE [R441; reset none] -/
  announce  : Option Announce := none
  /-- frames not yet begun, oldest first [R432, R434; reset empty] -/
  waiting   : List WaitFrame := []
  /-- blocks not yet sent of a class 0 frame begun [R434; reset empty] -/
  rest0     : List LinkBlock := []
  /-- blocks not yet sent of a frame begun of another class [R434; reset empty] -/
  rest      : List LinkBlock := []
  /-- CREDIT blocks due and not yet sent [R434; reset empty] -/
  due       : List LinkBlock := []
  /-- next block slot to be sent, counted from reset [R434; DESIGN CHOICE 0, log 141] -/
  slot      : Nat := 0
  /-- block slot from which the next SKIP is due [R434; DESIGN CHOICE 0, log 141] -/
  skipFrom  : Nat := 0
deriving DecidableEq, Repr

/-- A discovery report kept at the root (R443). -/
structure NodeReport where
  /-- identity of the reporter [64; R443; none at reset] -/
  id         : Word
  /-- CURRENT [12; R443; none at reset] -/
  current    : NodeNo
  /-- PREFERRED [12; R443; none at reset] -/
  preferred  : NodeNo
  /-- ROOT_ELIGIBLE [1; R443; none at reset] -/
  eligible   : Bool
  /-- REPORT_SEQ [32; R443; none at reset] -/
  seq        : BitVec 32
  /-- ACTIVE ports with the identity of each neighbour [R443; none at reset] -/
  links      : List (Nat × Word)
deriving DecidableEq, Repr

/-- A number held by a node, kept at the root (R445). -/
structure Assigned where
  /-- identity [64; R445; none at reset] -/
  id   : Word
  /-- node number [12; R445; none at reset] -/
  node : NodeNo
  /-- raw counter at which the node left, while the number stays reserved [64; R445; none at reset] -/
  left : Option Word
deriving DecidableEq, Repr

/-- A route table the root computed for a node (R448, R449). -/
structure RouteGrant where
  /-- identity of the node [64; R449; none at reset] -/
  id    : Word
  /-- GEN [32; R448; none at reset] -/
  gen   : BitVec 32
  /-- words of the table [1,024 × 64; R447; none at reset] -/
  table : List Word
  /-- ROUTES_ACK has been received [1; R448; none at reset] -/
  acked : Bool
deriving DecidableEq, Repr

/-- States of a fabric channel (R455). -/
inductive FabChState where
  | opening | openCh
deriving DecidableEq, Repr

/-- A command this device posted on a fabric channel, which awaits its response (R550). -/
structure PeerPost where
  /-- TAG of the word posted [5; R532; none at reset] -/
  peerTag : BitVec 5
  /-- OPCODE of the word posted [8; R532; none at reset] -/
  opcode  : Byte
  /-- the PEER_POST that asked; none for a report of this device (R398) [R550; none at reset] -/
  asker   : Option Cmd
  /-- slot of a nozzle report, or XFER_ID of a BULK_OFFER [3 or 24; R398, R550; none at reset] -/
  slot    : Option Nat
deriving DecidableEq, Repr

/-- A fabric mailbox channel (R454, R455). -/
structure FabChannel where
  /-- peer node [12; R454; none at reset] -/
  peer      : NodeNo
  /-- SESSION [32; R454; none at reset] -/
  session   : BitVec 32
  /-- opening or open [1; R455; none at reset] -/
  st        : FabChState
  /-- SEQ of the next WORD sent [8; R455; none at reset] -/
  sendSeq   : Byte
  /-- SEQ of the last WORD delivered [8; R455; none at reset] -/
  recvSeq   : Option Byte
  /-- word sent and not acknowledged, with the number of sends [64 and 4; R455; none at reset] -/
  unacked   : Option (Word × Nat)
  /-- sends of an OPEN not acknowledged [4; R455; none at reset] -/
  openSends : Nat
  /-- words that wait to be sent, oldest first [64 each; R456; none at reset] -/
  outQ      : List Word
  /-- commands taken from the channel and not yet started [R456; none at reset] -/
  taken     : List TakenCmd
  /-- commands of the peer started and not yet answered [tags; R456; none at reset] -/
  running   : List (BitVec 5)
  /-- event class mask, zero until the peer sets it [16; R535; none at reset] -/
  mask      : BitVec 16
  /-- events dropped since the last EVENTS_LOST [16; R456, R521; none at reset] -/
  dropped   : Nat
  /-- commands posted here that await a response [R550; none at reset] -/
  posts     : List PeerPost
  /-- TAG of the next word posted [5; R550; none at reset] -/
  nextTag   : BitVec 5
deriving DecidableEq, Repr

/-- A bulk transfer being received (R453). -/
structure BulkIn where
  /-- source node [12; R453; none at reset] -/
  src   : NodeNo
  /-- XFER_ID [32; R453; none at reset] -/
  xfer  : BitVec 32
  /-- words placed, by offset [R453; none at reset] -/
  parts : List (Nat × List Word)
  /-- words of the transfer [22; R550; none at reset] -/
  total : Nat
deriving DecidableEq, Repr

/-- A bulk transfer being offered or sent (R453, R485, R550). -/
structure BulkOut where
  /-- destination node [12; R453; none at reset] -/
  dest   : NodeNo
  /-- XFER_ID [32; R453; none at reset] -/
  xfer   : BitVec 32
  /-- words of the parcel: header, payload, trailer [R485; none at reset] -/
  words  : List Word
  /-- the offer has been accepted and the frames sent [1; R453; none at reset] -/
  sent   : Bool
deriving DecidableEq, Repr

/-- The fabric. -/
structure FabPart where
  /-- DEVICE_ID [64, fused; R458; DESIGN CHOICE 1, log 23] -/
  id           : Word := 1
  /-- ROOT_ELIGIBLE [1; R457; reset from the board record, 0 before it is read] -/
  eligible     : Bool := false
  /-- PREFERRED_NODE in force [12; R457; reset from the board record, 0 before it is read] -/
  preferred    : NodeNo := 0
  /-- PREFERRED_NODE that applies from the next reset [12; R457; reset from the board record; DESIGN CHOICE kept through reset, log 23] -/
  preferredSet : Option NodeNo := none
  /-- CHANNEL_IDLE in ps [R457; reset 10 s] -/
  channelIdlePs : Nat := 10000000000000
  /-- ENC_EVENT_NODES, 16 places, 0 for an empty one [12 each; R457; reset none] -/
  encNodes     : List NodeNo := List.replicate 16 0
  /-- ENC_EVENTS [6; R457; reset 0] -/
  encEvents    : BitVec 6 := 0
  /-- FP00 to FP31 -/
  ports        : Vector FabPortState 32 := Vector.replicate 32 {}
  /-- NODE [12; R439; reset 0x000] -/
  node         : NodeNo := 0
  /-- root known: identity, distance, root port (none at the root itself), SEQ [R441; reset none] -/
  root         : Option (Word × Nat × Option FabPort × BitVec 32) := none
  /-- SEQ of this device's own ANNOUNCE as root [32; R440; DESIGN CHOICE 0, log 23] -/
  ownSeq       : BitVec 32 := 0
  /-- root last reported by FABRIC_ROOT_CHANGED [64; R443; reset none] -/
  rootTold     : Option Word := none
  /-- the election has settled on the present view [1; R443; reset 0] -/
  settled      : Bool := false
  /-- FABRIC_NO_ROOT has been raised [1; R442; reset 0] -/
  noRootTold   : Bool := false
  /-- REPORT_SEQ of the next REPORT [32; R443; DESIGN CHOICE 0, log 23] -/
  reportSeq    : BitVec 32 := 0
  /-- identity and arrival port of each reporter forwarded [R443 step 4; reset empty] -/
  arrivals     : List (Word × FabPort) := []
  /-- numbers learned from ASSIGN: identity and node [R443, R444; reset empty] -/
  assigns      : List (Word × NodeNo) := []
  /-- reports held at the root [R443; reset empty] -/
  reports      : List NodeReport := []
  /-- numbers held, at the root [R445; reset empty] -/
  held         : List Assigned := []
  /-- tables computed at the root [R448; reset empty] -/
  grants       : List RouteGrant := []
  /-- GEN of the last tables computed here [32; R448; DESIGN CHOICE 0, log 23] -/
  genOut       : BitVec 32 := 0
  /-- route table in force, 1,024 words, empty for all zero [R447; reset empty] -/
  table        : List Word := []
  /-- GEN in force [32; R448; reset 0, R458] -/
  gen          : BitVec 32 := 0
  /-- partial generation: GEN and chunks received [R448; reset none] -/
  partialGen   : Option (BitVec 32 × List (Nat × List Word)) := none
  /-- next port of each bundle for class 3, by bundle port [R452; DESIGN CHOICE the lowest, log 23] -/
  bundleNext   : List (Nat × Nat) := []
  /-- frames delivered to firmware and not yet handled, oldest first [R444; reset empty] -/
  inbox        : List (FabPort × Word × List Word) := []
  /-- channels, at most 64 [R454; reset empty] -/
  channels     : List FabChannel := []
  /-- SESSION of the next channel opened here [32; R454; DESIGN CHOICE 1, log 23] -/
  nextSession  : BitVec 32 := 1
  /-- transfers being received [R453; reset empty] -/
  bulkIn       : List BulkIn := []
  /-- BULK frames received that wait while a band fetch goes first: source and data words [64 each; R210; reset empty] -/
  bulkHeld     : List (NodeNo × List Word) := []
  /-- transfers offered or sent [R453; reset empty] -/
  bulkOut      : List BulkOut := []
  /-- XFER_ID of the next transfer opened here [32; R453; DESIGN CHOICE 1, log 23] -/
  nextXfer     : BitVec 32 := 1
deriving DecidableEq, Repr

end Sys2Proof.Machine
end

