-- ==== Sys2Proof/Machine/Ryuli.lean ====
section
/-!
DEFINITION. The Ryuli block format (04_ryuli_block_format.md): the header, the token stream, the CRC, the checks of the
decompressor, and the compressor.
-/

namespace Sys2Proof.Machine

/-- One bit step of the reflected CRC-32C (R115). -/
def crcStep (c : BitVec 32) : BitVec 32 :=
  if c.getLsbD 0 then (c >>> 1) ^^^ 0x82F63B78#32 else c >>> 1

/-- n bit steps. -/
def crcSteps : Nat → BitVec 32 → BitVec 32
  | 0, c => c
  | n + 1, c => crcSteps n (crcStep c)

/-- The CRC register after one byte (R115). -/
def crcByte (c : BitVec 32) (b : Byte) : BitVec 32 := crcSteps 8 (c ^^^ b.zeroExtend 32)

/-- The CRC register after one word, its bytes in little-endian order (R114). -/
def crcWord (c : BitVec 32) (w : Word) : BitVec 32 :=
  crcSteps 32 (crcSteps 32 (c ^^^ w.truncate 32) ^^^ (w >>> 32).truncate 32)

/-- CRC-32C of a list of words (R114, R115). -/
def crc32c (ws : List Word) : BitVec 32 := ws.foldl crcWord 0xFFFFFFFF#32 ^^^ 0xFFFFFFFF#32

/-- CRC-32C of a list of bytes (R115). -/
def crc32cBytes (bs : List Byte) : BitVec 32 := bs.foldl crcByte 0xFFFFFFFF#32 ^^^ 0xFFFFFFFF#32

/-- What an index entry promises of a block (R118): its identity and geometry. -/
structure BlockExpect where
  layer     : Nat
  segment   : Nat
  band      : Nat
  lineWords : Nat
  lines     : Nat
  stamp     : Bool
deriving DecidableEq, Repr

/-- A token (R109, R110). -/
inductive Token where
  | lit (ws : List Word)
  | zero (n : Nat)
  | rep (n : Nat) (w : Word)
  | copy (n dist : Nat)
deriving DecidableEq, Repr

/-- Raw words a token produces. -/
def Token.count : Token → Nat
  | .lit ws => ws.length
  | .zero n => n
  | .rep n _ => n
  | .copy n _ => n

/-- WORDS is at most this (R116). -/
def expansionBound (rawWords : Nat) : Nat := rawWords + ceilDiv rawWords 63 + 3

/-- The token stream of a body, or the reason of R118 that fails: 5 for a bad token, 6 when the last token does not end
where the body ends. k is the output index, fuel bounds the number of tokens. -/
def parseTokens (lineWords : Nat) : Nat → Nat → List Word → Except Nat (List Token)
  | _, _, [] => .ok []
  | 0, _, _ :: _ => .error 6
  | fuel + 1, k, h :: rest =>
    let op := bits h 3 0
    let n := bits h 31 8
    let dist := bits h 37 32
    if bits h 7 4 ≠ 0 ∨ bits h 63 38 ≠ 0 ∨ n = 0 ∨ op = 0 ∨ 4 < op then .error 5
    else if op = 4 ∧ (dist = 0 ∨ k < dist * lineWords) then .error 5
    else if op ≠ 4 ∧ dist ≠ 0 then .error 5
    else if op = 1 ∧ 63 < n then .error 5
    else if op = 1 then
      if rest.length < n then .error 6
      else (parseTokens lineWords fuel (k + n) (rest.drop n)).map (.lit (rest.take n) :: ·)
    else if op = 2 then (parseTokens lineWords fuel (k + n) rest).map (.zero n :: ·)
    else if op = 3 then
      match rest with
      | [] => .error 6
      | w :: rest' => (parseTokens lineWords fuel (k + n) rest').map (.rep n w :: ·)
    else (parseTokens lineWords fuel (k + n) rest).map (.copy n dist :: ·)

/-- COPY, one word at a time; rev is the output so far, newest first (R111). -/
def copyWords (d : Nat) : Nat → List Word → List Word
  | 0, rev => rev
  | n + 1, rev => copyWords d n (rev.getD (d - 1) 0 :: rev)

/-- The output after one token; rev is the output so far, newest first (R110). -/
def runToken (lineWords : Nat) (rev : List Word) : Token → List Word
  | .lit ws => ws.reverse ++ rev
  | .zero n => List.replicate n 0 ++ rev
  | .rep n w => List.replicate n w ++ rev
  | .copy n dist => copyWords (dist * lineWords) n rev

/-- The raw words a token stream produces (R110). -/
def runTokens (lineWords : Nat) (ts : List Token) : List Word :=
  (ts.foldl (runToken lineWords) []).reverse

/-- The header checks of R118, reasons 1 to 4, on a block of at least 3 words. none: all pass. -/
def headerReason (e : BlockExpect) (indexWords : Nat) (blk : List Word) : Option Nat :=
  let h0 := wordAt blk 0
  let h1 := wordAt blk 1
  let rawWords := bits h1 63 40
  let raw := bitAt h0 24
  if indexWords < 3 ∨ expansionBound rawWords < indexWords ∨ (raw ∧ indexWords ≠ rawWords + 3) then some 1
  else if bits h0 15 0 ≠ 0x7952 ∨ bits h0 19 16 ≠ 1 ∨ bits h0 26 25 ≠ 0 ∨ bits h0 31 27 ≠ 0
      ∨ bits h1 19 18 ≠ 0 ∨ bits h1 39 39 ≠ 0 then some 2
  else if bits h0 63 32 ≠ e.layer ∨ bits h0 23 20 ≠ e.segment ∨ bits h1 17 0 ≠ e.band then some 3
  else if bits h1 31 20 ≠ e.lineWords ∨ bits h1 38 32 ≠ e.lines ∨ rawWords ≠ e.lines * e.lineWords then some 4
  else none

/-- The decompressor (R118): the verified raw words, or the reason that fails. poisoned: the DRAM controller reports an
uncorrectable error in a word of the fetch. -/
def decodeBlock (e : BlockExpect) (indexWords : Nat) (blk : List Word) (poisoned : Bool) :
    Except Nat (List Word) :=
  match headerReason e indexWords blk with
  | some r => .error r
  | none =>
    let rawWords := e.lines * e.lineWords
    let body := slice blk 2 (indexWords - 3)
    let trailer := wordAt blk (indexWords - 1)
    let raw := bitAt (wordAt blk 0) 24
    let tokens := if raw then .ok [] else parseTokens e.lineWords body.length 0 body
    match tokens with
    | .error r => .error r
    | .ok ts =>
      if ¬ raw ∧ (ts.map Token.count).sum ≠ rawWords then .error 6
      else
        let out := if raw then body else runTokens e.lineWords ts
        if crc32c out ≠ trailer.truncate 32 then .error 7
        else if bits trailer 63 32 ≠ ts.length then .error 8
        else if e.stamp ∧ ¬ raw then .error 9
        else if poisoned then .error 10
        else .ok out

/-- Header words 0 and 1 (R107, R108). -/
def blockHeader (segment : Nat) (raw : Bool) (origin layer band lineWords lines : Nat) : List Word :=
  [word [fld 0 16 0x7952, fld 16 4 1, fld 20 4 segment, fld 24 1 (b2n raw), fld 25 2 origin, fld 32 32 layer],
   word [fld 0 18 band, fld 20 12 lineWords, fld 32 7 lines, fld 40 24 (lines * lineWords)]]

/-- The trailer (R114). -/
def blockTrailer (raw : List Word) (tokens : Nat) : Word :=
  word [fld 0 32 (crc32c raw).toNat, fld 32 32 tokens]

/-- A RAW block (R112, R164). -/
def rawBlock (segment layer band lineWords lines : Nat) (raw : List Word) : List Word :=
  blockHeader segment true 0 layer band lineWords lines ++ raw ++ [blockTrailer raw 0]

/-- The words of a token (R109). -/
def Token.words : Token → List Word
  | .lit ws => word [fld 0 4 1, fld 8 24 ws.length] :: ws
  | .zero n => [word [fld 0 4 2, fld 8 24 n]]
  | .rep n w => [word [fld 0 4 3, fld 8 24 n], w]
  | .copy n d => [word [fld 0 4 4, fld 8 24 n, fld 32 6 d]]

/-- Length of the run of words that pass p at the head of a list, at most 16,777,215 (R127). -/
def runLength (p : Word → Bool) (ws : List Word) : Nat := min (ws.takeWhile p).length 16777215

/-- Length of the run of words equal to the words of prev (R127, copy_run). -/
def copyRun (prev ws : List Word) : Nat :=
  min ((prev.zip ws).takeWhile (fun p => p.1 == p.2)).length 16777215

/-- The token algorithm of R127. rev: raw words already passed, newest first; lit: pending literals, newest first. -/
def compressTokens (lineWords : Nat) : Nat → List Word → List Word → List Word → List Token
  | 0, _, lit, _ => if lit = [] then [] else [.lit lit.reverse]
  | _ + 1, _, lit, [] => if lit = [] then [] else [.lit lit.reverse]
  | fuel + 1, rev, lit, w :: ws =>
    let z := runLength (· == 0) (w :: ws)
    let c := if rev.length < lineWords then 0
      else copyRun ((rev.take lineWords).reverse ++ w :: ws) (w :: ws)
    let r := runLength (· == w) (w :: ws)
    let flushed : List Token := if lit = [] then [] else [.lit lit.reverse]
    let after (n : Nat) := compressTokens lineWords fuel (((w :: ws).take n).reverse ++ rev) [] ((w :: ws).drop n)
    if 2 ≤ z then flushed ++ .zero z :: after z
    else if 2 ≤ c then flushed ++ .copy c 1 :: after c
    else if 3 ≤ r then flushed ++ .rep r w :: after r
    else if lit.length = 62 then
      .lit (w :: lit).reverse :: compressTokens lineWords fuel (w :: rev) [] ws
    else compressTokens lineWords fuel (w :: rev) (w :: lit) ws

/-- The token stream of a compressor block (R127). -/
def compress (lineWords : Nat) (raw : List Word) : List Token :=
  compressTokens lineWords raw.length [] [] raw

/-- A whole compressor block (R107, R108, R126, R127). -/
def compressedBlock (segment origin layer band lineWords lines : Nat) (raw : List Word) : List Word :=
  let ts := compress lineWords raw
  blockHeader segment false origin layer band lineWords lines ++ ts.flatMap Token.words
    ++ [blockTrailer raw ts.length]

end Sys2Proof.Machine
end

