-- ==== Sys2Proof/Machine/FabOps.lean ====
section
/-!
DEFINITION. Fabric frames, credits, the election and route tables as computations (15_canal_fabric.md).
-/

namespace Sys2Proof.Machine

/-- The XOR of bytes 1 to 6 of a word (R429, R433). -/
def headCheck (w : Word) : Nat := (List.range 6).foldl (fun acc i => Nat.xor acc (bits w (8 * i + 15) (8 * i + 8))) 0

/-- Buffer of a class in blocks (chapter table). -/
def classBuffer (c : Nat) : Nat := match c with | 0 => 256 | 1 => 512 | 2 => 256 | _ => 3072

/-- Greatest LENGTH of a class (chapter table). -/
def classLength (c : Nat) : Nat := match c with | 0 => 4 | 1 => 72 | 2 => 8 | _ => 256

/-- Class of a KIND; none for a reserved KIND (R430). -/
def kindClass (k : Nat) : Option Nat :=
  match k with
  | 0 | 1 | 2 | 3 => some 0
  | 4 | 5 | 6 | 7 | 8 | 9 | 12 => some 1
  | 10 => some 2
  | 11 => some 3
  | _ => none

/-- A frame header (R429). -/
def frameHeader (cls kind ttl : Nat) (dest src : NodeNo) (len : Nat) : Word :=
  let w := word [fld 0 8 0xA0, fld 8 2 cls, fld 10 4 kind, fld 14 6 ttl, fld 20 12 dest.toNat, fld 32 12 src.toNat, fld 44 9 len]
  word [w.toNat, fld 56 8 (headCheck w)]

/-- CRC of a frame: over the header with TTL and HCHK zero, then the data (R430). -/
def frameCrc (header : Word) (data : List Word) : BitVec 32 :=
  crc32c ((header &&& 0x00FFFFFFFFF03FFF#64) :: data)

/-- The words of a frame: header, data, trailer (R428 to R430). -/
def frameWords (kind : Nat) (dest src : NodeNo) (data : List Word) : List Word :=
  let h := frameHeader ((kindClass kind).getD 1) kind 63 dest src data.length
  h :: data ++ [word [fld 0 8 0xAF, fld 32 32 (frameCrc h data).toNat]]

/-- A forwarded frame: TTL − 1 and its check; BAD is set in a class 0 frame that fails its CRC (R430, R431, R444). -/
def forwardWords (f : FabFrame) (bad : Bool) : List Word :=
  let h := frameHeader (bits f.header 9 8) (bits f.header 13 10) (bits f.header 19 14 - 1)
    (BitVec.ofNat 12 (bits f.header 31 20)) (BitVec.ofNat 12 (bits f.header 43 32)) (bits f.header 52 44)
  h :: f.data ++ [if bad then f.trailer ||| 0x100#64 else f.trailer]

/-- CREDIT with four running counts (R433). -/
def creditBlock (v : Vector Nat 4) : Word :=
  let w := word [fld 0 8 0xB0, fld 8 12 v[0], fld 20 12 v[1], fld 32 12 v[2], fld 44 12 v[3]]
  word [w.toNat, fld 56 8 (headCheck w)]

/-- The counts of a CREDIT block; none when its check is wrong (R433). -/
def parseCredit (w : Word) : Option (Vector Nat 4) :=
  if bits w 63 56 = headCheck w then some #v[bits w 19 8, bits w 31 20, bits w 43 32, bits w 55 44] else none

/-- The sender's credit for a class (R433). -/
def FabPortState.credit (p : FabPortState) (c : Fin 4) : Int :=
  (classBuffer c : Int) - ((p.sent[c] : Int) - p.freed[c]) % 4096

/-- The credit that the frames already waiting leave (R432). -/
def FabPortState.spare (p : FabPortState) (c : Fin 4) : Int :=
  p.credit c - ((p.waiting.filter (fun f => f.cls == c)).map (fun f => (f.words.length : Int))).sum

/-- A received frame of n blocks exceeds the credit the sender holds (R431 step 3, R432). -/
def FabPortState.exceeds (p : FabPortState) (c : Fin 4) (n : Nat) : Bool :=
  decide ((classBuffer c : Int) < ((p.got[c] : Int) - p.told[c]) % 4096 + n)

/-- CAPS blocks (R437). -/
def fabCaps (eligible : Bool) (port : FabPort) (seen : Bool) : Word :=
  word [fld 0 8 0xC0, fld 8 1 (b2n eligible), fld 9 5 port.val, fld 14 1 (b2n seen)]

/-- Entry n of a route table held as words; 0 beyond the words (R447). -/
def routeEntry (table : List Word) (n : Nat) : Nat := packedAt 16 table n

/-- A candidate of the election: root, distance, neighbour, port (none: this node), SEQ (R441). -/
structure Candidate where
  root      : Word
  dist      : Nat
  neighbour : Word
  port      : Option FabPort
  seq       : BitVec 32
deriving DecidableEq, Repr

/-- a is better than b (R441): lowest root, then distance, then neighbour, then port. -/
def Candidate.better (a b : Candidate) : Bool :=
  if a.root ≠ b.root then decide (a.root < b.root)
  else if a.dist ≠ b.dist then decide (a.dist < b.dist)
  else if a.neighbour ≠ b.neighbour then decide (a.neighbour < b.neighbour)
  else match a.port, b.port with
    | none, some _ => true
    | some p, some q => decide (p < q)
    | _, none => false

/-- The best of a list of candidates. -/
def bestCandidate : List Candidate → Option Candidate
  | [] => none
  | c :: cs => match bestCandidate cs with
    | none => some c
    | some d => if d.better c then some d else some c

/-- An ANNOUNCE still counts: not older than 300 µs, DIST below 63, SEQ advanced within 1 ms (R441). -/
def Announce.fresh (a : Announce) (raw : Word) : Bool :=
  decide ((raw - a.at_).toNat ≤ 300000) && decide (a.dist < 63) && decide ((raw - a.seqAt).toNat ≤ 1000000)

/-! ### Route computation at the root (R449) -/

/-- The links of a node in order of neighbour identity, then port. -/
def linksOf (reports : List NodeReport) (id : Word) : List (Nat × Word) :=
  match reports.find? (fun r => r.id == id) with
  | none => []
  | some r => sortBy (fun a b => decide (a.2 < b.2) || (a.2 == b.2 && decide (a.1 ≤ b.1)))
      (r.links.filter (fun l => reports.any (fun q => q.id == l.2)))

/-- Lowest port of a node that leads to a neighbour (R452). -/
def bundleLowest (reports : List NodeReport) (id nb : Word) : Nat :=
  match (linksOf reports id).filter (fun l => l.2 == nb) with
  | [] => 0
  | l :: _ => l.1

/-- One node taken from the queue: its unvisited neighbours get a distance and a first port (R449). -/
def bfsVisit (reports : List NodeReport) (s u : Word) (seen : List (Word × Nat × Nat)) :
    List (Word × Nat × Nat) × List Word :=
  let du := match seen.find? (fun x => x.1 == u) with | some x => x.2.1 | none => 0
  let fu := match seen.find? (fun x => x.1 == u) with | some x => x.2.2 | none => 0
  (linksOf reports u).foldl (fun (acc : List (Word × Nat × Nat) × List Word) l =>
    if acc.1.any (fun x => x.1 == l.2) ∨ 63 < du + 1 then acc
    else (acc.1 ++ [(l.2, du + 1, if u = s then bundleLowest reports s l.2 else fu)], acc.2 ++ [l.2])) (seen, [])

/-- The breadth-first search; fuel is the number of nodes (R449). -/
def bfs (reports : List NodeReport) (s : Word) : Nat → List Word → List (Word × Nat × Nat) → List (Word × Nat × Nat)
  | 0, _, seen => seen
  | _ + 1, [], seen => seen
  | fuel + 1, u :: q, seen =>
    let r := bfsVisit reports s u seen
    bfs reports s fuel (q ++ r.2) r.1

/-- The route table of a node (R447, R449). -/
def routeTable (reports : List NodeReport) (num : Word → Option NodeNo) (s : Word) : List Word :=
  let seen := bfs reports s (reports.length + 1) [s] [(s, 0, 0)]
  let es := seen.filterMap (fun x => (num x.1).map (fun n => (n.toNat, 32768 + x.2.1 * 32 + x.2.2)))
  packList 16 ((List.range 4096).map (fun n =>
    if n = 0 ∨ n = 4095 then 0 else match es.find? (fun e => e.1 == n) with | some e => e.2 | none => 0)) 1024

/-- The mailbox word 0 (R454). -/
def mailboxWord0 (op status : Nat) (seq : Byte) (session : BitVec 32) : Word :=
  word [fld 0 2 op, fld 2 2 status, fld 8 8 seq.toNat, fld 32 32 session.toNat]

/-! ### Block slots (R269, R434) -/

/-- A control block. -/
def control (w : Word) : LinkBlock := ⟨false, w⟩

/-- A data block. -/
def dataBlock (w : Word) : LinkBlock := ⟨true, w⟩

/-- SKIP: the control block of TYPE 0x01 (R267, R428). -/
def skipBlock : Word := word [fld 0 8 0x01]

/-- The blocks of a frame: the first and the last are control blocks (R268, R428). -/
def frameBlocks (ws : List Word) : List LinkBlock :=
  ws.zipIdx.map (fun (w, i) => if i = 0 ∨ i + 1 = ws.length then control w else dataBlock w)

/-- The oldest waiting frame of a class, when the credit held lets it begin (R432). -/
def FabPortState.next (q : FabPortState) (c : Fin 4) : Option WaitFrame :=
  (q.waiting.find? (fun f => f.cls == c)).filter (fun f => decide ((f.words.length : Int) ≤ q.credit c))

/-- A frame begins: its blocks count as sent, and its first block leaves (R432, R434). -/
def FabPortState.begin (q : FabPortState) (f : WaitFrame) : FabPortState × Option LinkBlock :=
  let bs := frameBlocks f.words
  ({ q with waiting := q.waiting.erase f, sent := upd q.sent f.cls (fun n => (n + bs.length) % 4096)
            rest0 := if f.cls = 0 then bs.tail else q.rest0, rest := if f.cls = 0 then q.rest else bs.tail }, bs.head?)

/-- The frame that may begin in a slot: class 0; behind a frame begun none; else classes 2, 1, 3 (R434). -/
def FabPortState.ready (q : FabPortState) : Option WaitFrame :=
  (q.next 0).or (if q.rest = [] then (q.next 2).or ((q.next 1).or (q.next 3)) else none)

/-- A slot of the port in which nothing but SKIP can be sent. -/
def FabPortState.idle (q : FabPortState) : Bool :=
  q.rest0.isEmpty && q.rest.isEmpty && q.due.isEmpty && q.ready.isNone

/-- The block of slot k, if it is no IDLE, the frame that begins in it, and the port after it: the list of R434. -/
def FabPortState.sendSlot (q : FabPortState) (k : Nat) : FabPortState × Option LinkBlock × Option WaitFrame :=
  let q := { q with slot := k + 1 }
  match q.rest0 with
  | b :: bs => ({ q with rest0 := bs }, some b, none)
  | [] =>
    if q.skipFrom ≤ k then ({ q with skipFrom := (k / 4096 + 1) * 4096 }, some (control skipBlock), none)
    else match q.due, q.ready, q.rest with
      | b :: bs, _, _ => ({ q with due := bs }, some b, none)
      | [], some f, _ => let r := q.begin f; (r.1, r.2, some f)
      | [], none, b :: bs => ({ q with rest := bs }, some b, none)
      | [], none, [] => (q, none, none)

/-- The blocks of the slots up to one, oldest first, and the frames that begin in them. A stretch in which nothing is ready is crossed
at once: its slots carry IDLE. fuel: more than the blocks and SKIPs it can send. -/
def FabPortState.sendSlots (to_ : Nat) : Nat → FabPortState → FabPortState × List LinkBlock × List WaitFrame
  | 0, q => (q, [], [])
  | fuel + 1, q =>
    let k := if q.idle then max q.slot q.skipFrom else q.slot
    if to_ ≤ k then ({ q with slot := max q.slot to_ }, [], [])
    else
      let r := q.sendSlot k
      let t := FabPortState.sendSlots to_ fuel r.1
      (t.1, r.2.1.toList ++ t.2.1, r.2.2.toList ++ t.2.2)

/-- The port at a block slot (R434). -/
def FabPortState.slotsTo (q : FabPortState) (to_ : Nat) : FabPortState × List LinkBlock × List WaitFrame :=
  q.sendSlots to_ (((q.waiting.map (fun f => f.words.length)).sum + q.rest0.length + q.rest.length + q.due.length)
    + (to_ - q.slot) / 4096 + 3)

/-- Blocks of a frame that has begun are freed from the buffer of the port it came in on (R433). -/
def FabPart.freed (f : FabPart) (w : WaitFrame) : FabPart :=
  match w.src with
  | some p => { f with ports := upd f.ports p (fun q => { q with given := upd q.given w.cls (fun g => (g + w.words.length) % 4096) }) }
  | none => f

/-- A port at a block slot: the blocks that leave, and the fabric after them (R433, R434). -/
def FabPart.slotsTo (f : FabPart) (p : FabPort) (to_ : Nat) : FabPart × List LinkBlock :=
  let r := f.ports[p].slotsTo to_
  (r.2.2.foldl (fun f w => f.freed w) { f with ports := f.ports.set p r.1 }, r.2.1)

end Sys2Proof.Machine
end

