-- ==== Sys2Proof/Config.lean ====
section
/-!
DEFINITION. What the spec leaves open or takes from other standards without stating it: constants without a body, so that
no statement can rest on their value. Log entries 5 to 9 name them.
-/

namespace Sys2Proof.Config

/-- The n-th free value: a value the spec does not state, drawn by a step that advances State.draws (log 5). -/
opaque freeValue : Nat → Word

/-- Module (row, column) of the data region of a Data Matrix ECC 200 symbol of a size, for its data codewords: the check codewords and
the placement of ISO/IEC 16022 (R159, log 6). -/
opaque dataMatrix (size : Nat) (codewords : List Nat) (row col : Nat) : Bool

/-- SHA-384 of a byte string (log 7). -/
opaque sha384 : List Byte → BitVec 384

/-- HMAC-SHA-384 under a key (log 7). -/
opaque hmacSha384 : List Byte → List Byte → BitVec 384

/-- HKDF-SHA-384: secret, salt, info and the number of bytes wanted (log 7). -/
opaque hkdf (secret salt info : List Byte) (n : Nat) : BitVec 384

/-- ECDSA P-384 verification of a signature over a hash under a public key (log 7). -/
opaque ecdsaVerify (key : BitVec 768) (hash : BitVec 384) (sig : BitVec 768) : Bool

/-- ECDSA P-384 signature of a hash under a private key (log 7). -/
opaque ecdsaSign (key : BitVec 384) (hash : BitVec 384) : BitVec 768

/-- The P-384 public key of a private key (log 7). -/
opaque publicKey (key : BitVec 384) : BitVec 768

/-- The P-384 Diffie-Hellman secret of a private and a public key (log 7). -/
opaque ecdh (key : BitVec 384) (pub : BitVec 768) : BitVec 384

/-- AES-256-GCM decryption of words: key, nonce, ciphertext (log 7). -/
opaque gcmDecrypt (key : BitVec 256) (nonce : BitVec 96) (text : List Word) : List Word

/-- AES-256-GCM tag: key, nonce, additional data, ciphertext (log 7). -/
opaque gcmTag (key : BitVec 256) (nonce : BitVec 96) (aad text : List Word) : BitVec 128

/-- AES-256 encryption of one 16-byte block (log 7). -/
opaque aesBlock (key : BitVec 256) (block : List Byte) : BitVec 128

/-- Line rate in Mbit/s that a lane of the endpoint's link trained to; 0 for a lane it does not use (R425, R507; log 2). -/
opaque pcieRate : Nat → BitVec 16

/-- The preset or coefficient set that the root port requests last in phase 3 of an equalisation, of a lane and a rate class (R414; log 131). -/
opaque rootRequest : Nat → Nat → BitVec 18

/-- The kind of the record with which a unit forwards a change of a nozzle's state: the spec gives it none (R400, R477; log 105). -/
opaque changeKind : Nat

/-- Words 1 and 2 of that record, from port, nozzle, state and page X (R400; log 105). -/
opaque changeWords (port index state : Nat) (page : BitVec 32) : Word × Word

/-- Port, nozzle, state and page X that such words name (R400; log 105). -/
opaque changeOf : Word → Word → Option (Nat × Nat × Nat × BitVec 32)

/-- Rounding of a θ of half a ns in TB_STAT: to the greater side (R506; log 25). -/
opaque thetaUp : Int → Bool

/-- A public key is a point of P-384 (R562, log 7). -/
opaque onCurve : BitVec 768 → Bool

/-- A certificate chain ends at the device CA key of a hash, and its leaf certifies a public key and a device identity (R555, log 7). -/
opaque chainValid (caHash : BitVec 384) (chain : List Byte) (key : BitVec 768) (device : Word) : Bool

/-- The bytes over which CONFIG_DIGEST is taken, from the MAP_ID in force and the settings, each a number (R473, log 54). -/
opaque settingsBytes : List Int → List Byte

/-- Tramuzel's JEDEC manufacturer identity, bits [11:1] of IDCODE (R580): no rule gives its number (log 146). -/
opaque jedec : BitVec 11

end Sys2Proof.Config
end

