-- ==== Sys2Proof/Machine/Parts/CisternPart.lean ====
section
/-!
DEFINITION. State of the weirs and of the speed governor (07_cistern_and_speed_governor.md). The bands in the cistern stand
with the page they belong to (EnginePart.lean).
-/

namespace Sys2Proof.Machine

/-- The cistern's lead, weirs and judgements. -/
structure CisternPart where
  /-- W1 in lines [8; R210; reset 48] -/
  w1       : Nat := 48
  /-- W2 in lines [8; R210; reset 24] -/
  w2       : Nat := 24
  /-- W3 in lines [8; R210; reset 12] -/
  w3       : Nat := 12
  /-- lead L [8; R209; reset 0xFF, R228] -/
  lead     : Nat := 255
  /-- urgency level [2; R210; reset 0] -/
  level    : Nat := 0
  /-- next bar line to be judged [64; R213; reset 0] -/
  judgedTo : Nat := 0
  /-- bar lines judged blank and still of use [64 each; R213; reset empty] -/
  blank    : List Nat := []
  /-- run of blank lines not yet ended: page, first line, last line [R214, R215; reset none] -/
  dryRun   : Option (PageId × Nat × Nat) := none
  /-- runs that ended before their page's flip: first and last line [64 each; R214; reset empty] -/
  early    : List (Nat × Nat) := []
deriving DecidableEq, Repr

/-- A message of a governor peer (R225). -/
structure PeerLimit where
  /-- node [12; R225; none at reset] -/
  node  : NodeNo
  /-- LIMIT × 2,000 [R225; none at reset] -/
  limit : Nat
  /-- HOLD [1; R225; none at reset] -/
  hold  : Bool
  /-- SEQ [16; R225; none at reset] -/
  seq   : BitVec 16
deriving DecidableEq, Repr

/-- The settings of R216 as GOVERNOR_CONFIG has written them: an evaluation puts them in force. -/
structure GovSettings where
  /-- V_MAX in lines/s [19; R216; reset 400,000] -/
  vMax        : Nat := 400000
  /-- DECEL_TIME in ps [R216; reset 2,000] -/
  decelPs     : Nat := 2000000000000
  /-- T_RESP in ps [R216; reset 20] -/
  respPs      : Nat := 20000000000
  /-- MARGIN in lines [20; R216; reset 1,024] -/
  margin      : Nat := 1024
  /-- HOLD_ON_EMPTY [1; R216; reset 0] -/
  holdOnEmpty : Bool := false
  /-- PWM_FREQ in Hz [17; R216; reset 10,000] -/
  pwmHz       : Nat := 10000
  /-- PEERS, 16 places, 0 for an empty one [12 each; R216; reset none] -/
  peers       : List NodeNo := List.replicate 16 0
deriving DecidableEq, Repr

/-- The speed governor. Its first seven fields are the settings in force since the last evaluation (R216). -/
structure GovPart where
  /-- V_MAX in lines/s [R216; reset 400,000] -/
  vMax        : Nat := 400000
  /-- DECEL_TIME in ps [R216; reset 2,000] -/
  decelPs     : Nat := 2000000000000
  /-- T_RESP in ps [R216; reset 20] -/
  respPs      : Nat := 20000000000
  /-- MARGIN in lines [20; R216; reset 1,024] -/
  margin      : Nat := 1024
  /-- HOLD_ON_EMPTY [1; R216; reset 0] -/
  holdOnEmpty : Bool := false
  /-- PWM_FREQ in Hz [17; R216; reset 10,000] -/
  pwmHz       : Nat := 10000
  /-- PEERS, 16 places, 0 for an empty one [12 each; R216; reset none] -/
  peers       : List NodeNo := List.replicate 16 0
  /-- the settings written, used from the next evaluation [R216] -/
  next        : GovSettings := {}
  /-- limit in lines/s [R219; reset 400,000, R228] -/
  limit       : Nat := 400000
  /-- own limit before peers are combined, in lines/s [R225; reset 400,000] -/
  ownLimit    : Nat := 400000
  /-- reason of the own limit [4; R225; reset 0] -/
  ownReason   : Nat := 0
  /-- reason of the limit [4; R226; reset 0] -/
  reason      : Nat := 0
  /-- raw counter at which the limit in force was set [64; R227; DESIGN CHOICE 0, log 4] -/
  limitRaw    : Word := 0
  /-- shortfall factor F [5; R220; reset 16] -/
  factor      : Nat := 16
  /-- consecutive handovers with L at or above W1 [6; R220; reset 0] -/
  goodRun     : Nat := 0
  /-- asserted hold causes, bit c for cause c of R222 [5; R222; reset 0] -/
  causes      : BitVec 5 := 0
  /-- page that owns the late band of cause 2 [32; R222; reset none] -/
  latePage    : Option PageId := none
  /-- HOLD_REQ [1; R222; reset 0] -/
  holdReq     : Bool := false
  /-- cause whose clearing left no cause, while the 1 ms of assertion runs [3; R226; reset none] -/
  releaseWait : Option Nat := none
  /-- SPDLIM duty code of the PWM period in progress [16; R221; reset 0, R609] -/
  duty        : Nat := 0
  /-- PWM frequency of the period in progress in Hz [17; R221; reset 10,000] -/
  pwmNow      : Nat := 10000
  /-- a fatal fault has set SPDLIM to zero [1; R611; reset 0] -/
  zeroed      : Bool := false
  /-- messages kept of the governor peers [R225; reset none] -/
  kept        : List PeerLimit := []
  /-- last SEQ received of each peer node [16; R225; reset none] -/
  lastSeq     : List (NodeNo × BitVec 16) := []
  /-- SEQ of the last governor message sent [16; R225; DESIGN CHOICE 0, log 4] -/
  seq         : BitVec 16 := 0
  /-- an OVERSPEED episode runs [1; R227; reset 0] -/
  overspeed   : Bool := false
deriving DecidableEq, Repr

end Sys2Proof.Machine
end

