-- ==== Sys2Proof/Machine/Parts/DramPart.lean ====
section
/-!
DEFINITION. State of the DRAM controller (21_dram_controller.md). DRAM content stands with the objects it holds; no interface
gives an address access to it (R508).
-/

namespace Sys2Proof.Machine

/-- The DRAM controller. -/
structure DramPart where
  /-- training and zero fill have passed [1; R592; reset 0] -/
  trained     : Bool := false
  /-- training failure [R592; reset none] -/
  failure     : Option TrainFail := none
  /-- bursts that hold poison [30 each; R585, R588; reset none] -/
  poisoned    : List (BitVec 30) := []
  /-- corrected-error counter, saturating [64; R596; reset 0] -/
  corrected   : Nat := 0
  /-- uncorrectable-error counter, saturating [64; R596; reset 0] -/
  uncorrected : Nat := 0
  /-- corrected errors of the last second, newest first: raw counter and subchannel, at most 256 [64 and 2; R596; reset empty] -/
  recent      : List (Word × Nat) := []
  /-- a DRAM_CORRECTED episode: raw counter at its last corrected error [64; R596; reset none] -/
  episode     : Option Word := none
  /-- next burst of the patrol scrub [30; R588; reset 0] -/
  scrubNext   : Nat := 0
  /-- DRAM is in self-refresh [1; R594; reset 0] -/
  selfRefresh : Bool := false
  /-- refresh at the doubled rate, by device [1 each; R591; reset empty] -/
  doubled     : List Bool := []
  /-- DQS oscillator baselines, by device [R592; reset empty] -/
  dqsBase     : List Nat := []
  /-- drift applied to the write delays, by device [signed; R593; reset empty] -/
  dqsDrift    : List Int := []
deriving DecidableEq, Repr

end Sys2Proof.Machine
end

