-- ==== Sys2Proof/Machine/Parts/EncPart.lean ====
section
/-!
DEFINITION. State of position feedback and the encoder relays (10_position_feedback.md).
-/

namespace Sys2Proof.Machine

/-- MODE of an encoder interface (R304). -/
inductive EncMode where
  | off | analogue | digital
deriving DecidableEq, Repr

/-- RELAY_MODE (R326). -/
inductive RelayMode where
  | off | pass | divide
deriving DecidableEq, Repr

/-- The trim settings of R306 step 2. -/
structure EncTrim where
  /-- OFS_S in codes [12, signed; R330; reset 0] -/
  ofsS  : Int := 0
  /-- OFS_C in codes [12, signed; R330; reset 0] -/
  ofsC  : Int := 0
  /-- GAIN_C in units of 2^−14 [R330; reset 16,384 = 1.0] -/
  gainC : Nat := 16384
  /-- PHASE in units of 2^−16 [R330; reset 0] -/
  phase : Int := 0
deriving DecidableEq, Repr

/-- An encoder interface with its relay. -/
structure EncState where
  /-- MODE [2; R304; reset OFF] -/
  mode       : EncMode := .off
  /-- DIR_INVERT [1; R330; reset 0] -/
  dirInvert  : Bool := false
  /-- FILTER in samples [6; R330; reset 8] -/
  filter     : Nat := 8
  /-- IDX_POLARITY active low [1; R330; reset active high] -/
  idxLow     : Bool := false
  /-- trim in force [R306] -/
  trim       : EncTrim := {}
  /-- trim that applies from the next page boundary [R330; reset none] -/
  trimNext   : Option EncTrim := none
  /-- SIG_MIN in codes [13; R330; reset 1,024] -/
  sigMin     : Nat := 1024
  /-- SIG_MAX in codes [13; R330; reset 7,680] -/
  sigMax     : Nat := 7680
  /-- POSITION [64, signed; R314; reset 0] -/
  position   : BitVec 64 := 0
  /-- CPR [41; R315; reset 0] -/
  cpr        : Nat := 0
  /-- ANGLE [40; R315; reset 0] -/
  angle      : Nat := 0
  /-- REFERENCED [1; R331; reset 0] -/
  referenced : Bool := false
  /-- pending correction δ; PENDING is read from it [41, signed; R317; reset none] -/
  pending    : Option Int := none
  /-- IDX_TOL in counts [11; R330; reset 2] -/
  idxTol     : Nat := 2
  /-- REREF_POLICY [1; R330; reset 1] -/
  reref      : Bool := true
  /-- REREF_POLICY in force since the last index event [1; R318, R330; reset 1] -/
  rerefNow   : Bool := true
  /-- φ_prev [12; R306; DESIGN CHOICE 0, log 14] -/
  phiPrev    : Nat := 0
  /-- change of the count at the last ADC sample, for the extrapolation of R316 [13, signed; R316; DESIGN CHOICE 0, log 14] -/
  lastDelta  : Int := 0
  /-- the last count was increasing [1; R316; DESIGN CHOICE 0, log 14] -/
  lastUp     : Bool := false
  /-- qualified level of A [1; R311; DESIGN CHOICE 0, log 14] -/
  a          : Bool := false
  /-- qualified level of B [1; R311; DESIGN CHOICE 0, log 14] -/
  b          : Bool := false
  /-- qualified level of IDX before IDX_POLARITY [1; R310, R316; DESIGN CHOICE 0, log 14] -/
  idx        : Bool := false
  /-- the last ADC sample was accepted [1; R331; reset 0] -/
  accepted   : Bool := false
  /-- QUAD_ERR [1, W1C; R331; reset 0] -/
  quadErr    : Bool := false
  /-- OVERRATE [1, W1C; R331; reset 0] -/
  overrate   : Bool := false
  /-- SIG_LOSS [1, W1C; R331; reset 0] -/
  sigLoss    : Bool := false
  /-- INDEX_FAULT [1, W1C; R331; reset 0] -/
  indexFault : Bool := false
  /-- QUAD_COUNT [16, saturating; R331; reset 0] -/
  quadCount  : Nat := 0
  /-- AMPLITUDE [8; R331; reset 0] -/
  amplitude  : Nat := 0
  /-- an ENC_SIGNAL_LOSS episode is open [1; R308; reset 0] -/
  lossEp     : Bool := false
  /-- raw counter at the last sample of step 7 in the open ENC_OVERRATE episode [64; R308; reset none] -/
  overEp     : Option Word := none
  /-- QUAD_ERROR episode: raw counter at its last impossible transition, and their number [64 and 16; R313; reset none] -/
  quadEp     : Option (Word × Nat) := none
  /-- RELAY_MODE [2; R326; reset OFF] -/
  relay      : RelayMode := .off
  /-- RELAY_N [25; R330; reset 1] -/
  relayN     : Nat := 1
  /-- RELAY_M [25; R330; reset 1] -/
  relayM     : Nat := 1
  /-- relay accumulator [26, signed; R327; reset 0] -/
  acc        : Int := 0
  /-- owed output counts [64, signed; R327; reset 0] -/
  owed       : Int := 0
  /-- level of ENCk_OUT_A [1; R326; reset low] -/
  outA       : Bool := false
  /-- level of ENCk_OUT_B [1; R326; reset low] -/
  outB       : Bool := false
  /-- index events that await their output transition: for each the transitions that come before it [R328; reset none] -/
  idxOwed    : List Nat := []
  /-- raw counter at which ENCk_OUT_I falls; the output is high until then [64; R328; reset low] -/
  outI       : Option Word := none
deriving DecidableEq, Repr

/-- A switch set (R324, R325). -/
structure SwitchSet where
  /-- INPUTS: the three inputs; none when the set is unused [4 each; R324; reset unused] -/
  inputs       : Option (SwitchNo × SwitchNo × SwitchNo) := none
  /-- ALLOWED [8; R324; PRESUMED 0, log 15] -/
  allowed      : Byte := 0
  /-- SETTLE in ps [ R330; PRESUMED 0, log 15] -/
  settlePs     : Nat := 0
  /-- AXIS [2; R330; reset none] -/
  axis         : Option AxisNo := none
  /-- ACTION: report and stop [1; R330; PRESUMED 0, log 15] -/
  stop         : Bool := false
  /-- a SWITCH_SET_BAD episode has begun and has not been seen to end [1; R325; reset 0] -/
  episode      : Bool := false
  /-- raw counter since which allowed combinations hold [64; R325; reset none] -/
  allowedSince : Option Word := none
deriving DecidableEq, Repr

/-- Position feedback. -/
structure EncPart where
  /-- ENC0 and ENC1 -/
  encs      : Vector EncState 2 := Vector.replicate 2 {}
  /-- DIS_LIMIT in 1/256 line [15; R330; reset 256] -/
  disLimit  : Nat := 256
  /-- DIS_TIME in ps [R330; reset 20 µs] -/
  disTimePs : Nat := 20000000
  /-- SURVIVOR [1; R330; reset ENC0] -/
  survivor  : EncNo := 0
  /-- cross-checking is armed [1; R322; reset 0] -/
  armed     : Bool := false
  /-- baseline positions b of ENC0 and ENC1 in counts with 16 fractional bits [R320; reset 0] -/
  base      : Vector Int 2 := Vector.replicate 2 0
  /-- raw counter since which every comparison has exceeded DIS_LIMIT [64; R321; reset none] -/
  disSince  : Option Word := none
  /-- switch sets 0 to 4 [R324; reset unused] -/
  sets      : Vector SwitchSet 5 := Vector.replicate 5 {}
deriving DecidableEq, Repr

end Sys2Proof.Machine
end

