-- ==== Sys2Proof/Machine/Parts/HeadPart.lean ====
section
/-!
DEFINITION. State of the head links (09_head_link.md).
-/

namespace Sys2Proof.Machine

/-- Head-driver capabilities (R299). -/
structure HeadCaps where
  /-- DUAL_PORT [1; R299; none at reset] -/
  dualPort  : Bool
  /-- PORT_INDEX [1; R299; none at reset] -/
  portIndex : Bool
  /-- NOZZLES [14; R299; none at reset] -/
  nozzles   : Nat
  /-- ROWS [4; R299; none at reset] -/
  rows      : Nat
  /-- LOG2_SLOTS [3; R299; none at reset] -/
  log2Slots : Nat
  /-- DRIVER_ID [64; R299; none at reset] -/
  driverId  : Word
deriving DecidableEq, Repr

/-- A waveform load of a port (R291 to R293). -/
structure WaveLoad where
  /-- SEQ [8; R291; none at reset] -/
  seq   : Byte
  /-- DEPTH code [2; R291; none at reset] -/
  depth : Nat
  /-- waveform words [64 each; R291; none at reset] -/
  words : List Word
  /-- sent, so that its WAVE_ACK is awaited [1; R293; none at reset] -/
  sent  : Bool
  /-- who receives the response of its command [R545; none at reset] -/
  origin : Origin
  /-- TAG of its command [5; R532; none at reset] -/
  tag    : BitVec 5
deriving DecidableEq, Repr

/-- A WAVE_LOAD command whose loads have not all ended (R545). -/
structure WaveWait where
  /-- who receives the response [R545; none at reset] -/
  origin : Origin
  /-- TAG [5; R532; none at reset] -/
  tag    : BitVec 5
  /-- mask of failed ports [32; R545; none at reset] -/
  failed : BitVec 32
deriving DecidableEq, Repr

/-- An item ready to be sent on a head port, with its place in the list of R269. -/
structure TxItem where
  /-- place in the list: 0 a FIRE begun, 1 tokens, 3 STATUS, 4 TICKLE, 5 LAT_PROBE, 6 line frame, 7 waveform load; 2 is SKIP
  [R269; none at reset] -/
  rank   : Nat
  /-- bar line of a token, else 0 [64; R269; none at reset] -/
  line   : Nat
  /-- 0 FIRE, 1 REVISE, 2 HOLD, else 0 [R269; none at reset] -/
  kind   : Nat
  /-- the blocks not yet sent [R268; none at reset] -/
  blocks : List LinkBlock
deriving DecidableEq, Repr

/-- State of one head port. -/
structure HeadState where
  /-- HEAD_LINK_UP has been raised and the link has not gone down since [1; R303; reset 0] -/
  up         : Bool := false
  /-- ALIVE has been received within 100 µs [1; R282, R303; reset 0] -/
  alive      : Bool := false
  /-- HEAD_LINK_DOWN has been raised for an absent ALIVE and none has come since [1; R303; reset 0] -/
  silent     : Bool := false
  /-- MAXCLAIM of the last ALIVE [32; R294; reset 0] -/
  maxClaim   : BitVec 32 := 0
  /-- SELECTED of the last ALIVE [1; R294; reset 0] -/
  selected   : Bool := false
  /-- STOPPED of the last ALIVE [1; R294; reset 0] -/
  stopped    : Bool := false
  /-- LAST_FIRED of the last ALIVE [16; R294; reset 0] -/
  lastFired  : BitVec 16 := 0
  /-- λ in 125 ps [20; R288; reset none] -/
  lam        : Option Nat := none
  /-- the last five measurements in 125 ps, newest first [R288; reset empty] -/
  meas       : List Nat := []
  /-- measurements of the present CAPS state in 125 ps [at most 16; R288; reset empty] -/
  capsMeas   : List Nat := []
  /-- probes sent in the present CAPS state [5; R288; reset 0] -/
  capsSent   : Nat := 0
  /-- probes not yet answered: SEQ and t_d in 250 ps [R287; reset empty] -/
  probes     : List (Byte × Nat) := []
  /-- SEQ of the next probe [8; R287; DESIGN CHOICE 0, log 12] -/
  probeSeq   : Byte := 0
  /-- CAPS has been received in the present CAPS state [1; R416; reset 0] -/
  capsSeen   : Bool := false
  /-- capabilities of the last CAPS [R299; reset none] -/
  caps       : Option HeadCaps := none
  /-- the caps check failed when a map took effect, so the port receives no frames or tokens [1; R301; reset 0] -/
  capsBad    : Bool := false
  /-- bar lines for which FIRE has been sent to the port, newest first, at most 64 [64 each; R303; reset empty] -/
  fires      : List Nat := []
  /-- HEAD_LINE_MISS episode: consecutive fired lines since the last miss [7; R303; reset none] -/
  miss       : Option Nat := none
  /-- LINE_DISAGREE episode: consecutive agreeing lines since the last disagreement [7; R303; reset none] -/
  disagree   : Option Nat := none
  /-- waveform loads held or awaiting WAVE_ACK, oldest first [R292; reset empty] -/
  waves      : List WaveLoad := []
  /-- SEQ of the next waveform load [8; R291; DESIGN CHOICE 0, log 12] -/
  waveSeq    : Byte := 0
  /-- first bar line for which the port is sent frames [64; R303; reset 0] -/
  framesFrom : Nat := 0
  /-- items ready and not yet sent, in the order of R269 [R269; reset empty] -/
  queue      : List TxItem := []
  /-- next block slot to be sent, counted from reset [R269; DESIGN CHOICE 0, log 141] -/
  slot       : Nat := 0
  /-- block slot from which the next SKIP is due [R269; DESIGN CHOICE 0, log 141] -/
  skipFrom   : Nat := 0
deriving DecidableEq, Repr

/-- The head links. -/
structure HeadPart where
  /-- HP00 to HP31 -/
  ports      : Vector HeadState 32 := Vector.replicate 32 {}
  /-- announced CLAIM [32; R281; reset 0, R282] -/
  claim      : BitVec 32 := 0
  /-- first bar line to which the announced CLAIM applies, FROM_LINE [64; R281; DESIGN CHOICE 0, log 12] -/
  fromLine   : Nat := 0
  /-- a device that is no redundancy unit has taken a claim since reset [1; R282; reset 0] -/
  ownClaim   : Bool := false
  /-- WAVE_LOAD commands not yet answered [R545; reset empty] -/
  waveWaits  : List WaveWait := []
  /-- next bar line to be assembled [64; R273; reset 0] -/
  assembleTo : Nat := 0
deriving DecidableEq, Repr

end Sys2Proof.Machine
end

