-- ==== Sys2Proof/Machine/Parts/LanePart.lean ====
section
/-!
DEFINITION. State of the serial lanes (14_serial_lanes.md).
-/

namespace Sys2Proof.Machine

/-- ROLE of a lane (R425). -/
inductive LaneRole where
  | powerDown | head | fabric | camera | pcie
deriving DecidableEq, Repr

/-- States of a vendor lane (R416, R425). -/
inductive LaneSt where
  | down | detect | train | lock | caps | active | wait | loopback
deriving DecidableEq, Repr

/-- A loopback test that runs (R422, R424). -/
structure LoopTest where
  /-- mode 1 to 4 [3; R422; none at reset] -/
  mode   : Nat
  /-- who receives the response [R424; none at reset] -/
  origin : Origin
  /-- TAG [5; R532; none at reset] -/
  tag    : BitVec 5
  /-- OPCODE [8; R532; none at reset] -/
  opcode : Byte
deriving DecidableEq, Repr

/-- A lane. -/
structure LaneState where
  /-- ROLE [3; R425; reset 0] -/
  role       : LaneRole := .powerDown
  /-- STATE [3; R425; reset 0] -/
  st         : LaneSt := .down
  /-- LANE_FITTED bit of the lane [1; R407; reset 0, read at boot] -/
  fitted     : Bool := false
  /-- enabled by LANE_CONTROL [1; R420; DESIGN CHOICE 1, log 22] -/
  enabled    : Bool := true
  /-- receive polarity in force is inverted from the table's [1; R413, R425; reset 0] -/
  inverted   : Bool := false
  /-- polarity was inverted in the present attempt [1; R417; reset 0] -/
  tried      : Bool := false
  /-- EQ_DEFAULT [1; R425; reset 0] -/
  eqDefault  : Bool := false
  /-- the table's entry words of the five rate classes [64 each; R411; reset the default entry] -/
  entries    : Vector Word 5 := Vector.replicate 5 0x0000E000410C7E80
  /-- transmitter setting a root port's equalisation applied, by rate class [18 each; R414; reset none] -/
  txRoot     : Vector (Option (BitVec 18)) 5 := Vector.replicate 5 none
  /-- failures in the present backoff cycle, at most 11; BACKOFF_STEP is read from it [4; R418, R425; reset 0] -/
  backoff    : Nat := 0
  /-- consecutive receiver detections [2; R416; reset 0] -/
  detections : Nat := 0
  /-- TRAIN_FAILS [16, saturating; R425; reset 0] -/
  trainFails : Nat := 0
  /-- block lock is held [1; R416; reset 0] -/
  blockLock  : Bool := false
  /-- consecutive training blocks of one polarity in LOCK, at most 64 [7; R417; reset 0] -/
  lockRun    : Nat := 0
  /-- consecutive blocks received with STATE 3, at most 16 [5; R416; reset 0] -/
  readyRun   : Nat := 0
  /-- CODE_ERR [16, saturating, RT; R425; reset 0] -/
  codeErr    : Nat := 0
  /-- LOCK_LOSS [8, saturating, RT; R425; reset 0] -/
  lockLoss   : Nat := 0
  /-- FRAME_ERR [16, saturating, RT; R425; reset 0] -/
  frameErr   : Nat := 0
  /-- ELASTIC [8, saturating, RT; R425; reset 0] -/
  elastic    : Nat := 0
  /-- LANE_ERRORS episode: raw counter at the last invalid header [64; R426; reset none] -/
  errEp      : Option Word := none
  /-- loopback test that runs [R422; reset none] -/
  test       : Option LoopTest := none
deriving DecidableEq, Repr

/-- The serial lanes. -/
structure LanePart where
  /-- L00 to L63 -/
  lanes   : Vector LaneState 64 := Vector.replicate 64 {}
  /-- BOARD_ID of the equalisation table [32; R411; reset 0] -/
  boardId : BitVec 32 := 0
deriving DecidableEq, Repr

end Sys2Proof.Machine
end

