-- ==== Sys2Proof/Machine/Parts/PairPart.lean ====
section
/-!
DEFINITION. State of redundancy and fail-over (16_redundancy_and_failover.md).
-/

namespace Sys2Proof.Machine

/-- RIDER (R489). -/
inductive Rider where
  | none | host
  | node (n : NodeNo)
deriving DecidableEq, Repr

/-- STATE of a unit (R470). -/
inductive PairSt where
  | idle | active | sync | ready | diverged
deriving DecidableEq, Repr

/-- A beat as the ditch-rider keeps it (R470, R479). -/
structure BeatRec where
  /-- STATE code [3; R470; none at reset] -/
  st        : Nat
  /-- BAR_SILENT [1; R470; none at reset] -/
  barSilent : Bool
  /-- FAULT [1; R470; none at reset] -/
  fault     : Bool
  /-- PARTNER_AGE in µs [16; R470; none at reset] -/
  age       : Nat
  /-- HB_SEQ [32; R470; none at reset] -/
  seq       : BitVec 32
  /-- CLAIM [32; R470; none at reset] -/
  claim     : BitVec 32
  /-- HIGHEST [32; R470; none at reset] -/
  highest   : BitVec 32
  /-- raw counter at its arrival [64; R479; none at reset] -/
  at_       : Word
deriving DecidableEq, Repr

/-- A health report as the ditch-rider keeps it (R473, R479). -/
structure HealthMsg where
  /-- SELFTEST_OK [1; R473; none at reset] -/
  selfOk   : Bool
  /-- DISAGREE [32; R473; none at reset] -/
  disagree : Nat
deriving DecidableEq, Repr

/-- A pair of which this device is the ditch-rider (R490). -/
structure RiderPair where
  /-- NODE_A [12; R490; reset 0x000] -/
  nodeA     : NodeNo := 0
  /-- NODE_B [12; R490; reset 0x000] -/
  nodeB     : NodeNo := 0
  /-- PREFERRED is B [1; R490; reset A] -/
  preferB   : Bool := false
  /-- HB_TIMEOUT in ps [R490; reset 250 µs] -/
  timeoutPs : Nat := 250000000
  /-- DISAGREE_POLICY [1; R490; reset 1] -/
  policy    : Bool := true
  /-- last valid beat of unit A [R479; reset none] -/
  beatA     : Option BeatRec := none
  /-- last valid beat of unit B [R479; reset none] -/
  beatB     : Option BeatRec := none
  /-- HB_SEQs taken from unit A, newest first [32 each; R471; reset empty; log 51] -/
  seqsA     : List (BitVec 32) := []
  /-- HB_SEQs taken from unit B, newest first [32 each; R471; reset empty; log 51] -/
  seqsB     : List (BitVec 32) := []
  /-- last health report of unit A [R479; reset none] -/
  healthA   : Option HealthMsg := none
  /-- last health report of unit B [R479; reset none] -/
  healthB   : Option HealthMsg := none
  /-- last claim granted here [32; R481; reset 0] -/
  granted   : BitVec 32 := 0
  /-- grant sent and not yet shown by the grantee's beat: unit B, claim, previous claim [R481; reset none] -/
  open_     : Option (Bool × BitVec 32 × BitVec 32) := none
  /-- a STANDBY_NOT_READY episode runs [1; R480; reset 0] -/
  notReady  : Bool := false
deriving DecidableEq, Repr

/-- The pair. -/
structure PairPart where
  /-- PAIRED [1; R489; reset 0] -/
  paired      : Bool := false
  /-- UNIT B [1; R489; reset A] -/
  unitB       : Bool := false
  /-- PARTNER [12; R489; reset 0x000] -/
  partner     : NodeNo := 0
  /-- RIDER [R489; reset NONE] -/
  rider       : Rider := .none
  /-- HB_TIMEOUT in ps [R489; reset 250 µs] -/
  timeoutPs   : Nat := 250000000
  /-- READY_LINES [17; R489; reset 4,096] -/
  readyLines  : Nat := 4096
  /-- RESYNC_RATE in GB/s [4; R489; reset 13] -/
  resyncRate  : Nat := 13
  /-- CLAIM held; 0 if none [32; R491; reset 0] -/
  claim       : BitVec 32 := 0
  /-- HIGHEST in MRAM [32; R462; kept through reset; DESIGN CHOICE 0 at the factory, log 24] -/
  highest     : BitVec 32 := 0
  /-- STATE [3; R491; reset IDLE] -/
  st          : PairSt := .idle
  /-- ALIGNED [1; R491; reset 0] -/
  aligned     : Bool := false
  /-- offset held: standby's count minus the active's [64, signed; R476; reset none] -/
  offset      : Option Int := none
  /-- JOINED [1; R491; reset 0] -/
  joined      : Bool := false
  /-- CONFIG_DIGEST of the partner's last report [64; R473; reset none] -/
  partnerDigest : Option Word := none
  /-- CONFIG_MATCH [1; R491; reset 0] -/
  configMatch : Bool := false
  /-- BAR_SILENT [1; R491; reset 0] -/
  barSilent   : Bool := false
  /-- consecutive bar lines reported not fired with REASON 1, 4 or 6, by head port, with the last of them [R472; reset 0] -/
  silentRun   : Vector (Nat × Nat) 32 := Vector.replicate 32 (0, 0)
  /-- head ports that reported a line fired since BAR_SILENT was set [32; R472; reset 0] -/
  firedSince  : BitVec 32 := 0
  /-- PARTNER_SEEN [1; R491; reset 0] -/
  partnerSeen : Bool := false
  /-- raw counter at the last valid beat of the partner [64; R470; reset none] -/
  partnerAt   : Option Word := none
  /-- HB_SEQs taken from the partner, newest first, of the last 2^31 [32 each; R471; reset empty; log 51] -/
  partnerSeqs : List (BitVec 32) := []
  /-- STATE code of the partner's last beat [3; R470; reset 0] -/
  partnerSt   : Nat := 0
  /-- CLAIM of the partner's last beat [32; R467; reset 0] -/
  partnerClaim : BitVec 32 := 0
  /-- PAIR_PARTNER_LOST has been raised in the episode [1; R471; reset 0] -/
  lostTold    : Bool := false
  /-- AGREE_RUN [16, saturating; R491; reset 0] -/
  agreeRun    : Nat := 0
  /-- last bar line counted in AGREE_RUN [64; R488, R491; reset 0] -/
  agreeLine   : Nat := 0
  /-- consecutive lines since joining that each port in use reported BOTH 1 and AGREE 1 [17; R488; reset 0] -/
  readyRun    : Nat := 0
  /-- lines being reported: bar line, and the ports that reported BOTH 1 and AGREE 1, newest first, at most 64 [64 and 32; R488, R491; reset empty] -/
  acks        : List (Nat × BitVec 32) := []
  /-- last bar line counted in DISAGREE [64; R473; reset none] -/
  disLine     : Option Nat := none
  /-- last bar line counted in LINE_MISS [64; R473; reset none] -/
  missLine    : Option Nat := none
  /-- BACKLOG of the partner's last report in KiB [40; R473, R488; reset 0] -/
  partnerBacklog : Nat := 0
  /-- verified parcels to be mirrored: header and payload in the clear; BACKLOG is read from here, from resyncQ and from the transfers
  under way [R485, R486, R491; reset empty] -/
  mirrorQ     : List (List Word) := []
  /-- resynchronisation backlog: header and payload of the parcels still to be sent [R486, R487 step 3; reset empty] -/
  resyncQ     : List (List Word) := []
  /-- raw counter from which RESYNC_RATE lets the next mirroring read begin [64; R486; reset none] -/
  mirrorFrom  : Option Word := none
  /-- HB_SEQ of the next beat [32; R470; DESIGN CHOICE 0, log 24] -/
  hbSeq       : BitVec 32 := 0
  /-- SCHED_SEQ of the last record sent or applied [24; R470, R477; reset 0] -/
  schedSeq    : BitVec 24 := 0
  /-- REPORT_SEQ of the next health report [32; R473; DESIGN CHOICE 0, log 24] -/
  reportSeq   : BitVec 32 := 0
  /-- lines reported AGREE 0 with BOTH 1 since the last report [32; R473; reset 0] -/
  disagree    : Nat := 0
  /-- lines reported FIRED 0 since the last report [32; R473; reset 0] -/
  lineMiss    : Nat := 0
  /-- a self-test has failed since the last report [1; R473; reset 0] -/
  selfFail    : Bool := false
  /-- greater claim learned by a demoted unit, which still announces its old claim [32; R467; reset none] -/
  releasing   : Option (BitVec 32) := none
  /-- the claim holder's outputs are to be driven after 10 µs [1; R629; reset 0] -/
  drivePending : Bool := false
  /-- this device drives SPDLIM, HOLD_REQ and MARK_MISS0 to MARK_MISS3 [1; R468, R609; reset 0] -/
  driving     : Bool := false
  /-- index events of this unit not yet paired: interface, count, raw counter [R476; reset empty] -/
  indexes     : List (EncNo × Int × Word) := []
  /-- ALIGN records not yet paired: interface, position, raw counter [R476; reset empty] -/
  aligns      : List (EncNo × Int × Word) := []
  /-- a standby computes and sends line frames and tokens, from the preparation of page J on [1; R487; reset 0] -/
  sending     : Bool := false
  /-- bar line from which a demoted unit sends no more: FROM_LINE of the new active's ACCEPT [64; R466, R467, R483; reset none] -/
  sendUntil   : Option Nat := none
  /-- SCHED_SEQ of the active has been taken from its beat or a record since SYNC was entered [1; R471, R477; reset 0] -/
  schedSeen   : Bool := false
  /-- the active is to send step 4 of R487 once no more than this many resynchronisation parcels wait [R487; reset none] -/
  joinDue     : Option Nat := none
  /-- triggers a standby has seen and whose TRIGGER record has not come: input and trigger line [2 and 64; R475, R484; reset empty] -/
  shadowTrigs : List (TrigNo × Nat) := []
  /-- abort line a standby has computed and whose ABORT record has not come [64; R475, R484; reset none] -/
  shadowAbort : Option Nat := none
  /-- JOIN_LINE: page J and bar line b [32 and 64; R477; reset none] -/
  joinLine    : Option (PageId × Nat) := none
  /-- JOIN_POS: whole count and remainder of X(b) [64 and 64; R477; reset none] -/
  joinPos     : Option (Int × Nat) := none
  /-- serials received by SERIAL records: page, serial, MAC [32, 48, 40; R477; reset empty] -/
  serials     : List (PageId × BitVec 48 × BitVec 40) := []
  /-- pairs of which this device is the ditch-rider [8; R490; reset unused] -/
  riders      : Vector RiderPair 8 := Vector.replicate 8 {}
deriving DecidableEq, Repr

end Sys2Proof.Machine
end

