-- ==== Sys2Proof/Machine/Parts/PrintPart.lean ====
section
/-!
DEFINITION. State of the print model (02_print_model.md): the committed-page queue, page starts, triggers, the
fallback page, MARK_MISS outputs, defect records (R552) and the page registers.
-/

namespace Sys2Proof.Machine

/-- The KINDs of a defect record (R552). -/
inductive DefectKind where
  | blockFailed (ref : Nat) (segment : Nat) (reason : Nat) (layer : LayerId)
  | cisternDry
  | headHardLimit (port : HeadPort)
  | holdAbort | pageAbort | printStop | interruption | fatal
deriving DecidableEq, Repr

/-- A defect record (R552). -/
structure DefectRecord where
  /-- KIND and its fields [64; R552] -/
  kind      : DefectKind
  /-- FIRST bar line concerned [64; R552] -/
  first     : Int
  /-- LAST bar line concerned [64; R552] -/
  last      : Int
  /-- lowest page line concerned [25; R650] -/
  lowLine   : Nat
  /-- highest page line concerned [25; R650] -/
  highLine  : Nat
deriving DecidableEq, Repr

/-- An entry of the committed-page queue (R47). The descriptor is firmware's own copy (R587). -/
structure QEntry where
  /-- descriptor [R97] -/
  desc       : PageDesc
  /-- permitted line rate [R168] -/
  rate       : Nat
  /-- commit line; none for a commit made while printing was stopped [R50] -/
  commitLine : Option Nat
  /-- start line assigned or scheduled [64; R59] -/
  start      : Option Nat
  /-- input of the trigger that bound the page [2; R62] -/
  bound      : Option TrigNo
  /-- draw of its serial was refused: R579 reason [2; R579; none at reset] -/
  held       : Option Nat
  /-- serial and MAC drawn for it [48 and 40; R163; none at reset] -/
  serial     : Option (BitVec 48 × BitVec 40)
deriving DecidableEq, Repr

/-- The page whose span is running: PRINTING, or a print of the fallback page (R208, R233). -/
structure Span where
  /-- descriptor [R97] -/
  desc      : PageDesc
  /-- a print of the fallback page [1; R66] -/
  fallback  : Bool
  /-- first bar line [64; R204] -/
  first     : Nat
  /-- last fired line, at most first + LENGTH − 1 [64; R53] -/
  last      : Nat
  /-- trailing edge [64; R53] -/
  trailing  : Nat
  /-- abort line in force [64; R248, R649] -/
  abort     : Option Nat
  /-- input whose trigger started it [2; R68] -/
  trig      : Option TrigNo
  /-- defect records kept, oldest first, at most 4,096 [R552] -/
  defects   : List DefectRecord
  /-- defect records not kept [16; R552] -/
  notKept   : Nat
  /-- INTERRUPTED: the page has passed HOLD_LIMIT [1; R248, R264] -/
  interrupted : Bool
  /-- some line within a generated layer's effective extent has fired [1; R576] -/
  codeFired : Bool
deriving DecidableEq, Repr

/-- A page that has ended, with its defect records (R552). -/
structure EndedPage where
  /-- PAGE_ID [32; R552] -/
  id      : PageId
  /-- first bar line of the print; 0 for a page that did not print [64; R372] -/
  first   : Nat
  /-- final state [3; R43] -/
  state   : PageState
  /-- defect records [R552] -/
  defects : List DefectRecord
  /-- records not kept [16; R552] -/
  notKept : Nat
deriving DecidableEq, Repr

/-- Settings of a product-detect input and its MARK_MISS output (R542). -/
structure TrigSettings where
  /-- POLARITY: active low [1; R542; default active high] -/
  activeLow   : Bool := false
  /-- FILTER in samples [8; R61; default 4] -/
  filter      : Nat := 4
  /-- DELAY, D of R61, in lines [20; R542; default 1] -/
  delay       : Nat := 1
  /-- MM_OFFSET in lines [20; R68; default 0] -/
  mmOffset    : Nat := 0
  /-- MM_WIDTH in ps [R68; default 5 ms] -/
  mmWidth     : Nat := 5000000000
  /-- MM_ON_FALLBACK [1; R542; default 1] -/
  onFallback  : Bool := true
  /-- MM_ON_DEFECTIVE [1; R68; default 1] -/
  onDefective : Bool := true
deriving DecidableEq, Repr

/-- A product-detect input with its MARK_MISS output (R61, R68). -/
structure TrigState where
  /-- settings [R542] -/
  set      : TrigSettings := {}
  /-- scheduled starts pending, oldest first, at most 16 [R62; reset empty] -/
  pending  : List Nat := []
  /-- start lines of MARK_MISS pulses still to come [R68; reset empty] -/
  pulses   : List Nat := []
  /-- MARK_MISSn is asserted by a pulse [1; R68; reset 0] -/
  asserted : Bool := false
deriving DecidableEq, Repr

/-- A start bound to a trigger and not yet begun (R62, R63). -/
structure BoundStart where
  /-- input [2; R62] -/
  trig     : TrigNo
  /-- scheduled start [64; R61] -/
  start    : Nat
  /-- page bound; none for the fallback page [32; R62] -/
  page     : Option PageId
deriving DecidableEq, Repr

/-- A PRINT_STOP that waits for its stop point (R546). -/
structure StopWait where
  /-- who receives the response [R546] -/
  origin : Origin
  /-- TAG [5; R532] -/
  tag    : BitVec 5
deriving DecidableEq, Repr

/-- A commit scheduled at a compare trigger (R499, R545). -/
structure SchedCommit where
  /-- compare trigger [3; R499] -/
  trigger : CmpNo
  /-- PAGE_ID [32; R545] -/
  page    : PageId
  /-- who receives the response [R545] -/
  origin  : Origin
  /-- TAG [5; R532] -/
  tag     : BitVec 5
deriving DecidableEq, Repr

/-- The print model. -/
structure PrintPart where
  /-- printing is started [1; R52, R547; reset 0] -/
  started    : Bool := false
  /-- a print stop has been taken and allocation has not ended [1; R546; reset 0] -/
  stopping   : Bool := false
  /-- PRINT_STOP commands that wait for the stop point [R546; reset empty] -/
  stopWaits  : List StopWait := []
  /-- start source: TRIGGER [1; R52; reset DISTANCE] -/
  trigMode   : Bool := false
  /-- print mode of the print-start command [4; R231; reset 0] -/
  startMode  : BitVec 4 := 0
  /-- inputs enabled by the print-start command [4; R545; reset 0] -/
  trigEnable : BitVec 4 := 0
  /-- committed-page queue, at most 1,024; the PRINTING page first [R47; reset empty] -/
  queue      : List QEntry := []
  /-- the page is PRINTING: the head of the queue has started [R47; reset none] -/
  span       : Option Span := none
  /-- starts bound to triggers, in order of start [R62; reset empty] -/
  bounds     : List BoundStart := []
  /-- trailing edge of the last page of the queue that printed since print start, plus 1 (E of R57) [64; R57; reset 0] -/
  edge       : Nat := 0
  /-- a queue page has printed since print start [1; R56; reset 0] -/
  anyPrinted : Bool := false
  /-- trailing edge + 1 of the last page started or scheduled, fallback prints included; 0 when none since print start
  [64; R62 step 2, R63; reset 0] -/
  schedEdge  : Nat := 0
  /-- designated fallback page and its permitted rate [32; R66, R219; reset none] -/
  fallback   : Option (PageId × Nat) := none
  /-- serial and MAC drawn for the fallback print that is prepared [48 and 40; R67, R163; reset none] -/
  fallbackSerial : Option (BitVec 48 × BitVec 40) := none
  /-- fallback prints bound or running [R545 PAGE_DELETE; reset 0] -/
  fallbackBusy : Nat := 0
  /-- product-detect inputs and MARK_MISS outputs [R61, R68] -/
  trigs      : Vector TrigState 4 := Vector.replicate 4 {}
  /-- MARK_MISS0 to MARK_MISS3 asserted continuously by a fatal fault [1; R611; reset 0] -/
  markAll    : Bool := false
  /-- pages that ended, newest first, at most 1,024 [R552; reset empty] -/
  ended      : List EndedPage := []
  /-- PAGE_COUNT [64; R73; reset 0] -/
  pageCount  : Word := 0
  /-- raw counter captured at the last flip [64; R72; reset 0] -/
  flipRaw    : Word := 0
  /-- DEV_PAGE_NOW.PAGE_ID [32; R73; reset 0] -/
  nowId      : PageId := 0
  /-- DEV_PAGE_NOW.STATE [3; R73; reset 0] -/
  nowState   : PageState := .defined
  /-- commits waiting for a compare trigger [R499; reset empty] -/
  sched      : List SchedCommit := []
deriving DecidableEq, Repr

end Sys2Proof.Machine
end

