-- ==== Sys2Proof/Machine/Parts/SecPart.lean ====
section
/-!
DEFINITION. State of security (20_security.md): fuses, MRAM key and counter regions, sessions, the pair key, the job slots
and the print log.
-/

namespace Sys2Proof.Machine

/-- A host session (R563, R564). -/
structure Session where
  /-- AES-256-GCM key [256; R563; none at reset] -/
  key     : BitVec 256
  /-- salt of R76 [32; R563; none at reset] -/
  salt    : BitVec 32
  /-- highest verified SEQUENCE [64; R564; none at reset] -/
  highest : Nat
deriving DecidableEq, Repr

/-- The pair key (R566, R569). -/
structure PairKey where
  /-- PK [256; R566; none at the factory] -/
  pk      : BitVec 256
  /-- KEY_ID [32; R566; none at the factory] -/
  keyId   : BitVec 32
  /-- next SEQUENCE of this unit [64; R569; none at the factory] -/
  next    : Nat
  /-- bound in MRAM [64; R569; none at the factory] -/
  bound   : Nat
  /-- highest SEQUENCE verified from the partner [64; R569; none at the factory] -/
  highest : Nat
  /-- highest SEQUENCE verified of this unit's own space [63; R80, R485; none at the factory; log 134] -/
  own     : Nat := 0
deriving DecidableEq, Repr

/-- An export whose tokens the compressor's export context holds (R125, R128, R132). -/
structure ExportCtx where
  /-- the command it answers [R578; none at reset] -/
  cmd    : Cmd
  /-- line of the log ring it starts at [23; R578; none at reset] -/
  start  : Nat
  /-- the blocks of the export: the lines and the words of each [64 each; R578; none at reset] -/
  blocks : List (Nat × List Word)
  /-- headers, tokens and trailers not yet written, whole [64 each; R128; none at reset] -/
  held   : List (List Word)
  /-- words written to the export ring [64 each; R125, R129; none at reset] -/
  ring   : List Word
deriving DecidableEq, Repr

/-- A job slot (R570, R575). -/
structure Job where
  /-- the slot is open [1; R570; kept through reset with K_JOB, log 26; closed at the factory] -/
  isOpen      : Bool := false
  /-- JOB_ID [32; R570; kept through reset; DESIGN CHOICE 0 at the factory, log 26] -/
  jobId       : BitVec 32 := 0
  /-- NEXT [48; R570; kept through reset; DESIGN CHOICE 0 at the factory, log 26] -/
  next        : Nat := 0
  /-- RESERVED_END [48; R570; kept through reset; DESIGN CHOICE 0 at the factory, log 26] -/
  reservedEnd : Nat := 0
  /-- LAST [48; R570; kept through reset; DESIGN CHOICE 0 at the factory, log 26] -/
  last        : Nat := 0
  /-- K_JOB [256, wrapped in MRAM; R571; kept through reset; none at the factory] -/
  key         : Option (BitVec 256) := none
  /-- LAST_LOGGED; −1 before any job [48; R575; kept through reset; DESIGN CHOICE −1 at the factory, log 26] -/
  lastLogged  : Int := -1
  /-- last serial received in a SERIAL record [48; R574; reset none] -/
  lastRecord  : Option Nat := none
deriving DecidableEq, Repr

/-- Security. -/
structure SecPart where
  /-- lifecycle [2, fuses; R553; kept through reset; 0 BLANK as manufactured] -/
  lifecycle  : BitVec 2 := 0
  /-- anti-rollback counter [7, fuses; R558; kept through reset; DESIGN CHOICE 0, log 26] -/
  svn        : Nat := 0
  /-- image key hash [384, fuses; R557; kept through reset; DESIGN CHOICE 0, log 26] -/
  imageKey   : BitVec 384 := 0
  /-- device CA key hash [384, fuses; R555; kept through reset; DESIGN CHOICE 0, log 26] -/
  caKey      : BitVec 384 := 0
  /-- identity private key [384, MRAM; R555; kept through reset; none as manufactured] -/
  identity   : Option (BitVec 384) := none
  /-- certificate chain, bytes [at most 8,192, MRAM; R555; kept through reset; none as manufactured] -/
  chain      : List Byte := []
  /-- owner key hash [384, MRAM; R555; kept through reset; none as manufactured] -/
  ownerHash  : Option (BitVec 384) := none
  /-- owner public key, which is public [768, MRAM; R555, R562; kept through reset; none, log 26] -/
  ownerKey   : Option (BitVec 768) := none
  /-- the MRAM key region is locked until power-on [1; R581; reset 0] -/
  keyLocked  : Bool := false
  /-- internal scan and the debug port are enabled [1; R581; reset 0] -/
  debug      : Bool := false
  /-- a JTAG instruction other than BYPASS, IDCODE or SAMPLE/PRELOAD is loaded [1; R580; reset 0] -/
  jtagStop   : Bool := false
  /-- preferred image slot, bit 0 of the boot-select word in flash [1; R557; kept through reset; DESIGN CHOICE 0, log 26] -/
  preferred  : Bool := false
  /-- sessions of HMB0 to HMB7 [R561; reset none] -/
  sessions   : Vector (Option Session) 8 := Vector.replicate 8 none
  /-- SESSION_OPEN commands that wait for parcels in flight [R563; reset empty] -/
  openWaits  : List (Chan × Cmd) := []
  /-- the pair key [R566; kept through reset; none as manufactured] -/
  pair       : Option PairKey := none
  /-- the working copy of the pair key has been zeroised by DEBUG_UNLOCK [1; R581; reset 0] -/
  pairLost   : Bool := false
  /-- job slots 0 to 15 [R570] -/
  jobs       : Vector Job 16 := Vector.replicate 16 {}
  /-- COUNT of chained lines [64, MRAM; R575; kept through reset; 0 as manufactured] -/
  count      : Nat := 0
  /-- H, none before the first line [384, MRAM; R575; kept through reset; none as manufactured] -/
  chainHash  : Option (BitVec 384) := none
  /-- RELEASED [64, MRAM; R575; kept through reset; 0 as manufactured] -/
  released   : Nat := 0
  /-- lines in the ring, oldest unreleased first: four words each, and whether the line begins a checkpoint [at most 8,388,608; R575; reset empty] -/
  ring       : List (List Word × Bool) := []
  /-- place in the print-log region of the oldest line of the ring [23; R575; reset 0; log 31] -/
  logHead    : Nat := 0
  /-- an export whose tokens the export context holds [R125, R132; reset none] -/
  exportCtx  : Option ExportCtx := none
  /-- lines of the ring already exported [R578; reset 0] -/
  exported   : Nat := 0
  /-- export sequence number of the last export [32; R578; DESIGN CHOICE 0, log 26] -/
  exportSeq  : Nat := 0
  /-- exports not released: sequence number, and the lines from the oldest unreleased line to its end [R578; reset empty] -/
  exports    : List (Nat × Nat) := []
  /-- lines reserved by draws whose page has not ended [R579; reset 0] -/
  reserved   : Nat := 0
  /-- a RESUME checkpoint is due before the first chained line [1; R577; reset 1] -/
  resumeDue  : Bool := true
  /-- LOG_LOW has been raised and free lines have stayed below 524,288 [1; R579; reset 0] -/
  logLow     : Bool := false
  /-- a SERIAL_PAGE_HELD episode runs [1; R579; reset 0] -/
  heldEp     : Bool := false
deriving DecidableEq, Repr

end Sys2Proof.Machine
end

