-- ==== Sys2Proof/Machine/Parts/SluicePart.lean ====
section
/-!
DEFINITION. State of the sluice (08_fire_timing.md): settings, tracking loops, allocated lines, head temperatures.
-/

namespace Sys2Proof.Machine

/-- Settings of one head port's temperature thresholds (R255, R263). -/
structure HeadThresholds where
  /-- T_WARN in °C [8, signed; R263; reset 55] -/
  warn : Int := 55
  /-- T_HARD in °C [8, signed; R263; reset 65] -/
  hard : Int := 65
deriving DecidableEq, Repr

/-- The sluice settings of R263. -/
structure SluiceSettings where
  /-- SOURCE [1; R263; reset ENC0] -/
  source     : EncNo := 0
  /-- CROSSCHECK [1; R263; reset off] -/
  crosscheck : Bool := false
  /-- CPI_NUM0, CPI_NUM1 [32 each; R263; reset 1] -/
  cpiNum     : Vector Nat 2 := Vector.replicate 2 1
  /-- CPI_DEN0, CPI_DEN1 [32 each; R263; reset 1] -/
  cpiDen     : Vector Nat 2 := Vector.replicate 2 1
  /-- FWD_SIGN: decreasing counts are forward [1; R263; reset 0 increasing] -/
  fwdNeg     : Bool := false
  /-- ALPHA in units of 2^−16 [16; R263; reset 16,384] -/
  alpha      : Nat := 16384
  /-- BETA in units of 2^−16 [16; R263; reset 2,048] -/
  beta       : Nat := 2048
  /-- LEAD in 250 ps [R263; reset 8,000 = 2.0 µs] -/
  lead       : Nat := 8000
  /-- REVISE_STEP in ps [R263; reset 1,000 = 1 ns] -/
  reviseStep : Nat := 1000
  /-- DEBT_LIMIT in lines [R263; reset 8] -/
  debtLimit  : Nat := 8
  /-- KEEP_WET in ps [R263; reset 200] -/
  keepWetPs  : Nat := 200000000000
  /-- TICKLE_PERIOD in ps [R263; reset 200] -/
  ticklePs   : Nat := 200000000000
  /-- HOLD_LIMIT in ps [R263; reset 10] -/
  holdLimitPs : Nat := 10000000000000
  /-- CARRIAGE_ORIGIN in counts [64, signed; R263; reset 0] -/
  origin     : Int := 0
  /-- ALIGN_FWD in 1/256 line [24, signed; R263; reset 0] -/
  alignFwd   : Int := 0
  /-- ALIGN_REV in 1/256 line [24, signed; R263; reset 0] -/
  alignRev   : Int := 0
  /-- CARR_MIN of M0 to M9 in lines/s [R254; reset the defaults of R254] -/
  carrMin    : Vector Nat 10 := #v[2362, 2362, 2362, 4724, 4724, 4724, 6299, 9449, 9449, 1417]
  /-- thresholds of HP00 to HP31 [R263] -/
  temps      : Vector HeadThresholds 32 := Vector.replicate 32 {}
  /-- T_HYST in °C [R263; reset 3] -/
  hyst       : Nat := 3
  /-- THERM_DEFER in lines [R263; reset 16] -/
  thermDefer : Nat := 16
  /-- THERM_CAP in lines/s [R263; reset 200,000] -/
  thermCap   : Nat := 200000
deriving DecidableEq, Repr

/-- A tracking loop (R234, R243). -/
structure Loop where
  /-- x̂ in counts with 16 fractional bits [R234; DESIGN CHOICE 0, log 11] -/
  xh     : Int := 0
  /-- v̂ in counts per ns with 32 fractional bits [R234; DESIGN CHOICE 0, log 11] -/
  vh     : Int := 0
  /-- REST [1; R243; DESIGN CHOICE 0, log 11] -/
  rest   : Bool := false
  /-- hysteresis position h in counts [64; R243; DESIGN CHOICE 0, log 11] -/
  hyst   : Int := 0
deriving DecidableEq, Repr

/-- The token of a line on one head port (R237, R239). -/
structure PortSent where
  /-- head port [5; R237; none at reset] -/
  port : HeadPort
  /-- sub-line offsets of the head's rows [8 each; R276; none at reset] -/
  subs : List Nat
  /-- fire time last sent, in ps of the raw counter [R239; none at reset] -/
  tf   : Rat
  /-- the line is held on this port: HOLD was the last token sent [1; R240; none at reset] -/
  held : Bool
  /-- REVISE and HOLD tokens sent for the line [6; R280; none at reset] -/
  revs : Nat
deriving DecidableEq, Repr

/-- A fired line allocated and not yet fired (R235 to R240). -/
structure AllocLine where
  /-- bar line number [64; R232; none at reset] -/
  n       : Nat
  /-- position X(n) in counts [R230; none at reset] -/
  x       : Rat
  /-- Q of the line in counts [R230, R37; none at reset] -/
  q       : Rat
  /-- forward for the line means counts that decrease [1; R229, R250; none at reset] -/
  down    : Bool
  /-- least line rate of a CARRIAGE line, 0 in WEB transport, in lines/s [R251; none at reset] -/
  minRate : Nat
  /-- fire time of the line before it, in ps [R236; none at reset] -/
  base    : Option Rat
  /-- fire time in ps of the raw counter [R236; none at reset] -/
  tf      : Rat
  /-- allocated before an encoder switch: it receives no further revisions [1; R261; none at reset] -/
  frozen  : Bool
  /-- it belongs to a CARRIAGE page [1; R251; none at reset] -/
  carriage : Bool
  /-- the carriage has moved past its position below CARR_MIN: it fires only at a later crossing [1; R251; none at reset] -/
  slipped : Bool
  /-- it has counted as late [1; R236, R241; none at reset] -/
  late    : Bool
  /-- what each head port has been sent [R237; none at reset] -/
  sent    : List PortSent
deriving DecidableEq, Repr

/-- Temperature state of a head port (R255 to R259). -/
structure HeadTemp where
  /-- in warning, so in derate from the line decided [1; R257, R264; reset 0] -/
  warn    : Bool := false
  /-- in hard-limit state [1; R258, R264; reset 0] -/
  hard    : Bool := false
  /-- derate for lines before the changes below [1; R189; reset 0] -/
  derate  : Bool := false
  /-- derate changes by bar line, in order [R189, R255; reset empty] -/
  changes : List (Nat × Bool) := []
  /-- first bar line from which the head fires nothing [64; R190; reset none] -/
  out     : Option Nat := none
  /-- bar line from which the hard-limit state is cleared; the head returns at the first page boundary after it
  [64; R259; reset none] -/
  back    : Option Nat := none
deriving DecidableEq, Repr

/-- The sluice. -/
structure SluicePart where
  /-- settings [R263] -/
  set       : SluiceSettings := {}
  /-- encoder in use [1; R264; reset ENC0] -/
  source    : EncNo := 0
  /-- tracking loops of ENC0 and ENC1 [R234] -/
  loops     : Vector Loop 2 := Vector.replicate 2 {}
  /-- last bar line allocated, DEV_BAR_LINE [64; R264; reset 0] -/
  barLine   : Nat := 0
  /-- last bar line the core blocks have taken [64; R14; reset 0] -/
  coreLine  : Nat := 0
  /-- position of the last bar line allocated in counts [R230; DESIGN CHOICE 0, log 11] -/
  lastX     : Rat := 0
  /-- along-web pitch in force in lines per inch [R37, R231; DESIGN CHOICE 600, log 11] -/
  lpi       : Nat := 600
  /-- transport of the last page started is CARRIAGE [1; R252; DESIGN CHOICE 0, log 11] -/
  carriage  : Bool := false
  /-- path length of x̂ since the last idle line of a carriage, in counts [R252; reset 0] -/
  path      : Rat := 0
  /-- the position of the next line of a CARRIAGE page has been passed below CARR_MIN [1; R251; reset 0] -/
  slipped   : Bool := false
  /-- X_hi in counts [R244; DESIGN CHOICE 0, log 11] -/
  xHi       : Rat := 0
  /-- fire time of the last bar line allocated, in ps [R236; DESIGN CHOICE none, log 11] -/
  lastTf    : Option Rat := none
  /-- fire times, as they stand, of allocated lines that have not triggered their camera lines, oldest first, in ps [R359; reset empty] -/
  tfs       : List (Nat × Rat) := []
  /-- lines allocated and not yet fired, oldest first [R240; reset empty] -/
  lines     : List AllocLine := []
  /-- raw counter at the last 64 line boundaries, newest first [64 each; R242; reset empty] -/
  times     : List Word := []
  /-- FIRE_LATE episode: first late line, greatest lateness in ps, fired lines since the last late one [R236; reset none] -/
  late      : Option (Nat × Rat × Nat) := none
  /-- WEB_REVERSAL episode: greatest debt in lines [R245; reset none] -/
  reversal  : Option Nat := none
  /-- raw counter at the last tickle [64; R247; reset none] -/
  tickled   : Option Word := none
  /-- KEEP_WET_STARTED has been raised in this stop [1; R247; reset 0] -/
  wetTold   : Bool := false
  /-- HOLD_LIMIT has passed in this stop [1; R248; reset 0] -/
  holdTold  : Bool := false
  /-- temperature state of HP00 to HP31 [R255] -/
  temps     : Vector HeadTemp 32 := Vector.replicate 32 {}
  /-- survivor named, and bar line n of the switch [1 and 64; R261; reset none] -/
  switchTo  : Option (EncNo × Nat) := none
  /-- PAGE_ID for which LATE_COMMIT was raised at a carriage crossing passed over [32; R253; reset none] -/
  passedOver : Option PageId := none
deriving DecidableEq, Repr

end Sys2Proof.Machine
end

