-- ==== Sys2Proof/Machine/Parts/SysPart.lean ====
section
/-!
DEFINITION. State of reset, boot, power and self-test (22_reset_boot_power_and_self_test.md) and of the roles that the
board configuration record sets (01_architecture.md).
-/

namespace Sys2Proof.Machine

/-- Power states (R511). -/
inductive Power where
  | run | idle | dormant
deriving DecidableEq, Repr

/-- Sources of a power state change (R615). -/
inductive PowerSource where
  | command | post
  | ptrig (n : TrigNo)
deriving DecidableEq, Repr

/-- A POWER_STATE command that waits for DORMANT to be entered (R545, R537). -/
structure PowerWait where
  /-- who receives the response [R545; none at reset] -/
  origin : Origin
  /-- TAG [5; R532; none at reset] -/
  tag    : BitVec 5
deriving DecidableEq, Repr

/-- A self-test ordered by command that has not ended (R617). -/
structure TestWait where
  /-- test [4; R617; none at reset] -/
  test   : Fin 16
  /-- who receives the response [R545; none at reset] -/
  origin : Origin
  /-- TAG [5; R532; none at reset] -/
  tag    : BitVec 5
  /-- the units that the run condition allowed when the command was taken [8 each; R617; none at reset] -/
  units  : List Nat
deriving DecidableEq, Repr

/-- The image that runs (R557). -/
structure RunningImage where
  /-- FW_MINOR [8; R511; none at reset] -/
  minor     : Nat
  /-- FW_MAJOR [8; R511; none at reset] -/
  major     : Nat
  /-- SVN [8; R557; none at reset] -/
  svn       : Nat
  /-- COMMIT_SVN [1; R558; none at reset] -/
  commit    : Bool
  /-- slot booted [1; R608; none at reset] -/
  slot      : Bool
  /-- KERNEL_SET of the image [8; R557; none at reset] -/
  kernelSet : Nat
  /-- kernels, their key and its hash [R171; none at reset] -/
  kernels   : KernelSet := {}
deriving DecidableEq, Repr

/-- Reset, boot, power and self-test. -/
structure SysPart where
  /-- BOOT_STAGE [4; R511; reset 1 ROM, log 28] -/
  stage      : Nat := 1
  /-- boot stopped at this stage [1; R606; reset 0] -/
  stopped    : Bool := false
  /-- the device has halted [1; R605; reset 0] -/
  halted     : Bool := false
  /-- reset cause [3; R608; 1 power-on, log 28] -/
  cause      : Nat := 1
  /-- boot time in ms [12; R608; reset 0] -/
  bootMs     : Nat := 0
  /-- DEVICE_READY is due at the first host-end reset of HMB0 after boot [1; R608; reset 1] -/
  readyDue   : Bool := true
  /-- image that runs [R557; reset none] -/
  image      : Option RunningImage := none
  /-- kernel set loaded [8; R545; reset none] -/
  kernelSet  : Nat := 0
  /-- board configuration record [R23, R407; reset none read] -/
  board      : Option BoardRecord := none
  /-- POWER [2; R511; reset RUN] -/
  power      : Power := .run
  /-- DORMANT is being entered: the commands that ordered it, answered at its entry [R594; reset empty] -/
  entering   : List PowerWait := []
  /-- a wake has arrived: its source [R615; reset none] -/
  wake       : Option PowerSource := none
  /-- POWER_STATE commands that wait for RUN [R545; reset empty] -/
  runWaits   : List (PowerWait × Power) := []
  /-- fatal fault: cause and unit [4 and 5; R611; reset none] -/
  fatal      : Option (Nat × Nat) := none
  /-- step 5 of R611 is still to be taken, once firmware runs [1; R611; reset 0] -/
  endPages   : Bool := false
  /-- FAULT_N is asserted [1; R609; reset 1] -/
  faultN     : Bool := true
  /-- token issue and STATUS are stopped by R611 [1; R611; reset 0] -/
  fireStop   : Bool := false
  /-- the Lockkeeper is restarting after a watchdog expiry, with the bar line of the expiry [R613; reset none] -/
  watchdog   : Option Nat := none
  /-- the Lockkeeper is restarting for FW_ACTIVATE [1; R560; reset 0] -/
  restart    : Bool := false
  /-- a commanded reset has been ordered [1; R603; reset 0] -/
  resetDue   : Bool := false
  /-- last outcome of tests 1 to 6 [2 each; R621; reset 0] -/
  outcomes   : Vector Nat 6 := Vector.replicate 6 0
  /-- FAILS [16, saturating; R621; reset 0] -/
  fails      : Nat := 0
  /-- complete ENGINE passes of F0 to F15 [16 each, saturating; R621; reset 0] -/
  passes     : Vector Nat 16 := Vector.replicate 16 0
  /-- slices done in the present pass of F0 to F15 [8 each; R617; reset 0] -/
  slices     : Vector Nat 16 := Vector.replicate 16 0
  /-- a background test has failed since the device reset [1; R620; reset 0] -/
  testFault  : Bool := false
  /-- self-tests ordered by command [R617; reset empty] -/
  tests      : List TestWait := []
  /-- temperature sensors excluded from R610 [8; R617; reset 0] -/
  excluded   : Byte := 0
  /-- corrected local-SRAM errors of F0 to F15 [64 each, saturating; R136, R545; reset 0] -/
  sramErrors : Vector Nat 16 := Vector.replicate 16 0
  /-- corrected errors of all other SRAM [64, saturating; R545; reset 0] -/
  otherSram  : Nat := 0
deriving DecidableEq, Repr

end Sys2Proof.Machine
end

