-- ==== Sys2Proof/Machine/Parts/TimePart.lean ====
section
/-!
DEFINITION. State of the timebase and of network time (17_timebase_and_network_time.md).
-/

namespace Sys2Proof.Machine

/-- SYNC of TB_STAT (R506). -/
inductive TimeSync where
  | free | converging | locked | master
deriving DecidableEq, Repr

/-- A compare trigger TB_CMPn (R497). -/
structure CmpTrigger where
  /-- ARMED [1; R506; reset 0] -/
  armed  : Bool := false
  /-- VALUE in corrected ns [64; R497; reset 0] -/
  value  : Nat := 0
  /-- PERIOD in ns, 0 single [48; R497; reset 0] -/
  period : Nat := 0
  /-- LATE [1, W1C; R498; reset 0] -/
  late   : Bool := false
  /-- MISSED [1, W1C; R499; reset 0] -/
  missed : Bool := false
  /-- FIRED, wrapping [8; R506; reset 0] -/
  fired  : Byte := 0
  /-- the arming, or a forward step, set the value at or below T [1; R498; reset 0] -/
  passed : Bool := false
deriving DecidableEq, Repr

/-- The timebase and network time. -/
structure TimePart where
  /-- raw counter [64; R492; reset 0] -/
  raw       : Word := 0
  /-- the fire-domain PLL is locked; TB_STAT.VALID [1; R492; reset 0] -/
  locked    : Bool := false
  /-- OFFSET in ns [64, signed; R493; reset 0] -/
  offset    : Int := 0
  /-- RATE in units of 2^−32 [32, signed; R493; reset 0] -/
  rate      : Int := 0
  /-- EPOCH [64; R493; reset 0] -/
  epoch     : Word := 0
  /-- TB_CMP0 to TB_CMP7 [R497] -/
  triggers  : Vector CmpTrigger 8 := Vector.replicate 8 {}
  /-- TIME_MASTER [12; R505; reset 0x000] -/
  master    : NodeNo := 0
  /-- TIME_SOURCE is PPS [1; R505; reset FREE] -/
  pps       : Bool := false
  /-- STEP_LIMIT in ps [40; R505; reset 100 µs] -/
  stepLimit : Nat := 100000000
  /-- PPS_WIDTH in ps [39; R505; reset 100 µs] -/
  ppsWidth  : Nat := 100000000
  /-- PPS_OUT_ENABLE [1; R505; reset 0] -/
  ppsEnable : Bool := false
  /-- SYNC [2; R506; reset 0 FREE] -/
  sync      : TimeSync := .free
  /-- last θ in half ns [33, signed; R501, R506; reset 0] -/
  theta2    : Int := 0
  /-- integral of the servo in units of 1/32 ns/s [signed; R502; reset 0] -/
  integ     : Int := 0
  /-- consecutive seconds with |θ| at most 1 µs [2; R503; reset 0] -/
  goodSecs  : Nat := 0
  /-- exchange of least δ of this second: 2θ and δ in ns [R502; reset none] -/
  best      : Option (Int × Int) := none
  /-- SEQ and raw counter of the last REQ sent [16 and 64; R501; reset none] -/
  lastReq   : Option (BitVec 16 × Word) := none
  /-- SEQ of the next REQ [16; R501; DESIGN CHOICE 0, log 25] -/
  reqSeq    : BitVec 16 := 0
  /-- TB_PPS_IN.CAPTURE [64; R504; reset 0] -/
  capture   : Word := 0
  /-- whole-second number of the next PPS second [48; R504; reset none] -/
  ppsSecond : Option Nat := none
  /-- PPS_OUT [1; R504; reset low] -/
  ppsOut    : Bool := false
deriving DecidableEq, Repr

end Sys2Proof.Machine
end

