-- ==== Sys2Proof/Machine/State.lean ====
section
/-!
DEFINITION. The state of the TZM-6416 as plain data, the reasons a step can stop, and the state after reset. A field's
docstring ends with its width, the rule that names it and its reset value; the parts stand in Machine/Parts.
-/

namespace Sys2Proof.Machine

/-- What leaves the device in a step (R512, R269, R428, R359, R380, R528). The record of it is the model's own: no rule reads it. -/
inductive Emission where
  /-- the MSI-X message of a vector (R528) -/
  | msix (vector : Nat) (address : Word) (data : BitVec 32)
  /-- a write into a result buffer: address and words (R512, R538) -/
  | hostWrite (address : Word) (words : List Word)
  /-- the read requests for a parcel's header (R79) -/
  | parcelRead (slot : Nat)
  /-- a block on a head port, other than IDLE (R266, R269) -/
  | headBlock (p : HeadPort) (block : LinkBlock)
  /-- a block on a fabric port, other than IDLE (R428, R434, R437) -/
  | fabBlock (p : FabPort) (block : LinkBlock)
  /-- a camera trigger packet: port, frame line, and the times in ps of the raw counter at which the edges leave, TRIG_LAT before they
  reach the camera (R359, R362) -/
  | camTrigger (p : CamNo) (line : Nat) (rise fall : Rat)
  /-- a falling edge of a camera trigger that is brought forward to a time (R361) -/
  | camClip (p : CamNo) (fall : Rat)
  /-- a write to a camera: address and value (R357, R380) -/
  | camWrite (p : CamNo) (address : BitVec 32) (value : BitVec 32)
  /-- a connection reset to a camera (R357) -/
  | camReset (p : CamNo)
  /-- a read of the camera's bootstrap registers, on the uplink (R357 step 2) -/
  | camBootstrap (p : CamNo)
  /-- the connection configuration, on the uplink: lanes and rate (R357 step 3) -/
  | camConnect (p : CamNo) (twoLanes cxp12 : Bool)
  /-- what a host read of a register with read side effects returns: BAR0 offset and value (R509) -/
  | readReturn (offset : Nat) (value : Word)
  /-- a receiver-detect pulse on a lane (R416) -/
  | detectPulse (lane : LaneNo)
  /-- the transmitter preset requested of the root port in phase 2 on a lane, at a rate class (R414) -/
  | presetRequest (lane : LaneNo) (rate : Nat) (preset : Nat)
  /-- the training blocks that a lane sends from now on, with their STATE (R415) -/
  | training (lane : LaneNo) (state : Nat)
  /-- a level of a relay output: interface, signal 0 A, 1 B, 2 I (R326) -/
  | relay (e : EncNo) (signal : Nat) (level : Bool)
  /-- ENCk_OUT_I is high until the raw counter reaches a value (R328) -/
  | relayIndex (e : EncNo) (until_ : Word)
  /-- IDCODE, in the scan path of JTAG (R580) -/
  | idcode (value : BitVec 32)
  /-- an image written to a flash slot (R560) -/
  | flashWrite (slot : Bool) (words : List Word)
deriving DecidableEq, Repr

/-- The TZM-6416 (R27): its blocks, and the commands that wait. -/
structure State where
  /-- commands that wait, first in first out [the model's queue; reset empty] -/
  pending : List Instr := []
  /-- host link (18) -/
  host    : HostPart := {}
  /-- headrace and page store (03) -/
  store   : StorePart := {}
  /-- print model (02) -/
  print   : PrintPart := {}
  /-- furrow engines (05) -/
  eng     : EnginePart := {}
  /-- nozzle mapper (06) -/
  mapper  : MapperPart := {}
  /-- cistern and weirs (07) -/
  cist    : CisternPart := {}
  /-- speed governor (07) -/
  gov     : GovPart := {}
  /-- sluice (08) -/
  sluice  : SluicePart := {}
  /-- head links (09) -/
  heads   : HeadPart := {}
  /-- position feedback and relays (10) -/
  enc     : EncPart := {}
  /-- motion control (11) -/
  motion  : MotionPart := {}
  /-- camera ports (12) -/
  cam     : CamPart := {}
  /-- nozzle health and calibration (13) -/
  health  : HealthPart := {}
  /-- serial lanes (14) -/
  lanes   : LanePart := {}
  /-- canal fabric (15) -/
  fab     : FabPart := {}
  /-- redundancy (16) -/
  pair    : PairPart := {}
  /-- timebase (17) -/
  time    : TimePart := {}
  /-- security (20) -/
  sec     : SecPart := {}
  /-- DRAM controller (21) -/
  dram    : DramPart := {}
  /-- reset, boot, power, self-test (22) -/
  sys     : SysPart := {}
  /-- what has left the device, newest first [the model's own record; reset empty] -/
  sent    : List Emission := []
  /-- free values drawn so far [the model's own counter; DESIGN CHOICE 0, log 5] -/
  draws   : Nat := 0
deriving DecidableEq, Repr

/-- Faults of the model: none. Every command answers a next state; the device's own faults are state (R610, R611). -/
inductive Fault where
deriving DecidableEq, Repr

/-- Refusals of the model. -/
inductive Refusal where
  /-- raised by the arm of a command that has no meaning yet; safe, since no claim can be proved about its effect -/
  | notModelled (mnemonic : String)
deriving DecidableEq, Repr

/-- The outcome of a step of the model. -/
abbrev Out := Host.Outcome State Fault Refusal

/-- The machine right after a power-on reset (R600, R609, and the reset columns of the register tables). -/
def State.reset : State := {}

end Sys2Proof.Machine
end

