-- ==== Sys2Proof/Machine/Ops.lean ====
section
/-!
DEFINITION. Named operations over the state that every block uses: time, what leaves the device, interrupts, events,
responses, and frames on the fabric.
-/

namespace Sys2Proof.Machine

/-! ### Time -/

/-- A cycle of the fire clock (R492). -/
def State.tick (s : State) : State :=
  if s.time.locked then { s with time := { s.time with raw := s.time.raw + 1 } } else s

/-- The raw counter has reached a value; it never goes back and stands while the fire PLL is out of lock (R492). -/
def State.reach (s : State) (at_ : Word) : State :=
  if s.time.locked ∧ s.time.raw < at_ then { s with time := { s.time with raw := at_ } } else s

/-- Corrected time T at a raw value (R493). -/
def TimePart.correct (t : TimePart) (raw : Word) : Int :=
  (raw.toNat : Int) + t.offset + (t.rate * ((raw.toNat : Int) - t.epoch.toNat)) / 4294967296

/-- Corrected time now (R493). -/
def State.now (s : State) : Int := s.time.correct s.time.raw

/-! ### What leaves the device, and free values -/

/-- Something leaves the device. -/
def State.emit (s : State) (e : Emission) : State := { s with sent := e :: s.sent }

/-- The next free value (log 5). -/
def State.free (s : State) : Word := Config.freeValue s.draws

/-- The next free value has been used. -/
def State.drew (s : State) : State := { s with draws := s.draws + 1 }

/-! ### Roles -/

/-- A redundancy unit that is not the active one (R468, R469). -/
def State.standby (s : State) : Bool := s.pair.paired && s.pair.st != .active

/-- G7 does not serve as fabric ports: the device has an endpoint and the host channels (R25). -/
def State.hostLink (s : State) : Bool := match s.sys.board with | some b => !b.g7Fabric | none => true

/-- The PCI Express endpoint exists (R25, R604, R605, R607). -/
def State.endpoint (s : State) : Bool := decide (3 ≤ s.sys.stage) && !s.sys.halted && s.hostLink

/-- No token and no STATUS leaves: after a fault (R611), or while a JTAG instruction silences the sluice (R580, log 37). -/
def State.silenced (s : State) : Bool := s.sys.fireStop || s.sec.jtagStop

/-- The host's access reaches BAR0 (R515). -/
def State.bar0 (s : State) : Bool := s.endpoint && !s.host.d3hot

/-- The device is in DORMANT or enters it (R594). -/
def State.asleep (s : State) : Bool := s.sys.power == .dormant || !s.sys.entering.isEmpty

/-- A wake while POWER is DORMANT, or while DORMANT is being entered: the first one counts (R523, R615). -/
def State.wakeBy (s : State) (src : PowerSource) : State :=
  if s.asleep && s.sys.wake.isNone then { s with sys := { s.sys with wake := some src } } else s

/-- Bits [11:0] of the self-test summary word: the last outcomes of tests 1 to 6 (R621). -/
def SysPart.summaryLow (y : SysPart) : Nat := ((List.finRange 6).map (fun i => fld (2 * i.val) 2 y.outcomes[i])).sum

/-- The self-test summary word (R621): the passes of the engine that has the fewest are those of all sixteen. -/
def SysPart.summary (y : SysPart) : Word :=
  word [y.summaryLow, fld 16 16 y.fails, fld 32 16 (y.passes.toList.foldl min 65535)]

/-! ### Interrupts (R528) -/

/-- The function may send the message of a vector now (R514, R515, R528). -/
def State.msixOpen (s : State) (v : Nat) : Bool :=
  s.bar0 && s.host.busMaster && !(s.host.msix.toList.getD v {}).masked

/-- The MSI-X message of a vector is sent, or held pending while masked or suspended. -/
def State.sendMsix (s : State) (v : Nat) : State :=
  let e := s.host.msix.toList.getD v {}
  if s.msixOpen v then s.emit (.msix v e.address e.data)
  else { s with host := { s.host with msixPending := s.host.msixPending ||| (1#32 <<< v) } }

/-- A cause of a vector: its pending bit is set, and the message is sent when the bit rises while enabled. -/
def State.irq (s : State) (v : Nat) : State :=
  let s1 := { s with host := { s.host with irqPending := s.host.irqPending ||| (1#19 <<< v) } }
  if !s.host.irqPending.getLsbD v && s.host.irqMask.getLsbD v then s1.sendMsix v else s1

/-- Messages held pending leave once nothing holds them back (R515, R528). -/
def State.releaseMsix (s : State) : State :=
  (List.range 32).foldl (fun s v =>
    if s.host.msixPending.getLsbD v && s.msixOpen v then
      { s with host := { s.host with msixPending := s.host.msixPending &&& ~~~(1#32 <<< v) } }.sendMsix v
    else s) s

/-! ### Host channels (R516 to R521) -/

/-- A host channel changed. -/
def State.setChan (s : State) (n : Chan) (f : HmbChannel → HmbChannel) : State :=
  { s with host := { s.host with channels := upd s.host.channels n f } }

/-- Words enter the outbound queue of a channel; the cause of its vector is set when it was empty (R519, R528). -/
def State.pushHost (s : State) (n : Chan) (ws : List Word) : State :=
  let was := s.host.channels[n].outQ
  let s1 := s.setChan n (fun h => { h with outQ := h.outQ ++ ws })
  if was.isEmpty && !ws.isEmpty then s1.irq n.val else s1

/-- An event word (R534). -/
def eventWord (e : Code × BitVec 40) : Word :=
  word [e.2.toNat, fld 40 10 e.1.num, fld 50 1 1, fld 56 8 e.1.cls]

/-- A response word (R533). -/
def responseWord (opcode : Byte) (tag : BitVec 5) (st : Code) (result : BitVec 40) : Word :=
  word [result.toNat, fld 40 10 st.num, fld 51 5 tag.toNat, fld 56 8 opcode.toNat]

/-- The words an event puts on a queue that holds used words after dropped drops; none when it is dropped (R521). -/
def takeIn (used dropped : Nat) (e : Code × BitVec 40) : Option (List Word) :=
  if dropped = 0 then if used < 224 then some [eventWord e] else none
  else if used < 223 then some [eventWord (.eventsLost, low40 (min dropped 65535)), eventWord e] else none

/-- An event on a host channel whose mask admits its class, where there are host channels (R25, R521, R534). -/
def State.eventHost (s : State) (e : Code × BitVec 40) (n : Chan) : State :=
  let h := s.host.channels[n]
  if s.hostLink && h.mask.getLsbD e.1.cls then
    match takeIn h.outQ.length h.dropped e with
    | some ws => (s.setChan n (fun h => { h with dropped := 0 })).pushHost n ws
    | none => s.setChan n (fun h =>
        { h with dropped := h.dropped + 1, evtOvf := true, evtLost := min 65535 (h.evtLost + 1) })
  else s

/-! ### Frames on the fabric (R428 to R434, R444) -/

/-- A lane changed. -/
def State.setLane (s : State) (n : LaneNo) (f : LaneState → LaneState) : State :=
  { s with lanes := { s.lanes with lanes := upd s.lanes.lanes n f } }

/-- The lane of a fabric port (R22, R427). -/
def fabLane (p : FabPort) : LaneNo := ⟨32 + p.val, by omega⟩

/-- A fabric port is ACTIVE (R416, R427). -/
def State.fabActive (s : State) (p : FabPort) : Bool :=
  s.lanes.lanes[fabLane p].role == .fabric && s.lanes.lanes[fabLane p].st == .active

/-- A fabric port changed. -/
def State.setPort (s : State) (p : FabPort) (f : FabPortState → FabPortState) : State :=
  { s with fab := { s.fab with ports := upd s.fab.ports p f } }

/-- Blocks of a class are freed from the buffer of the port they came in on (R433). -/
def State.fabFreed (s : State) (src : Option FabPort) (cls : Fin 4) (n : Nat) : State :=
  match src with
  | some p => s.setPort p (fun q => { q with given := upd q.given cls (fun g => (g + n) % 4096) })
  | none => s

/-- The block slot that has begun by now: 4.125 ns each, counted from reset (R266, log 141). -/
def State.slotNow (s : State) : Nat := s.time.raw.toNat * 1000 / 4125

/-- The block slots of a port that have gone by are sent (R434). -/
def State.fabSlots (s : State) (p : FabPort) : State :=
  let r := s.fab.slotsTo p s.slotNow
  { s with fab := r.1, sent := (r.2.map (fun b => Emission.fabBlock p b)).reverse ++ s.sent }

/-- The block slots of every ACTIVE port that have gone by are sent (R434). -/
def State.allFabSlots (s : State) : State := (List.finRange 32).foldl (fun s p => if s.fabActive p then s.fabSlots p else s) s

/-- A frame of a class takes its place on a port, where it begins as R434 lists and its credit allows; it is discarded on a port that is
not ACTIVE (R432, R434, R444). -/
def State.fabOutFrom (s : State) (src : Option FabPort) (p : FabPort) (cls : Fin 4) (ws : List Word) : State :=
  if !s.fabActive p then s.fabFreed src cls ws.length
  else (s.fabSlots p).setPort p (fun q => { q with waiting := q.waiting ++ [⟨cls, ws, src⟩] })

/-- A frame of this device on a port. -/
def State.fabOut (s : State) (p : FabPort) (cls : Fin 4) (ws : List Word) : State := s.fabOutFrom none p cls ws

/-- The class of a KIND as an index. -/
def kindFin (kind : Nat) : Fin 4 := Fin.ofNat 4 ((kindClass kind).getD 1)

/-- This node is the root (R441). -/
def FabPart.isRoot (f : FabPart) : Bool :=
  match f.root with | some (_, _, none, _) => true | _ => false

/-- The port a route table names for a node; none when the entry is invalid (R447). -/
def FabPart.routePort (f : FabPart) (n : NodeNo) : Option FabPort :=
  let e := routeEntry f.table n.toNat
  if 32768 ≤ e then some (Fin.ofNat 32 e) else none

/-- A node can be reached: this node itself, or a valid entry (R447). -/
def FabPart.reaches (f : FabPart) (n : NodeNo) : Bool := n == f.node || (f.routePort n).isSome

/-- The ports of the bundle of a port, lowest first, at most eight (R452). -/
def State.bundle (s : State) (p : FabPort) : List FabPort :=
  match s.fab.ports[p].neighbour with
  | none => [p]
  | some id => ((List.finRange 32).filter (fun q => s.fabActive q && s.fab.ports[q].neighbour == some id)).take 8

/-- Round-robin choice of a bundle port with credit for n blocks of class 3 (R452). -/
def State.bundlePick (s : State) (p : FabPort) (n : Nat) : FabPort :=
  let ps := s.bundle p
  let key := match ps with | [] => p.val | q :: _ => q.val
  let nxt := match s.fab.bundleNext.find? (fun x => x.1 == key) with | some x => x.2 | none => 0
  let order := ps.drop nxt ++ ps.take nxt
  match order.find? (fun q => decide ((n : Int) ≤ s.fab.ports[q].spare 3)) with
  | some q => q
  | none => order.headD p

/-- The bundle's next port after one was used (R452). -/
def State.bundleStep (s : State) (p used : FabPort) : State :=
  let ps := s.bundle p
  let key := match ps with | [] => p.val | q :: _ => q.val
  let nxt := if ps.isEmpty then 0 else (ps.idxOf used + 1) % ps.length
  { s with fab := { s.fab with bundleNext := (key, nxt) :: s.fab.bundleNext.filter (fun x => x.1 != key) } }

/-- Words of a frame leave on the port the route table names for a destination; discarded where it names none (R444, R452). -/
def State.fabRoute (s : State) (src : Option FabPort) (cls : Fin 4) (dest : NodeNo) (ws : List Word) : State :=
  match s.fab.routePort dest with
  | none => s.fabFreed src cls ws.length
  | some p =>
    if cls = 3 then
      let q := s.bundlePick p ws.length
      (s.bundleStep p q).fabOutFrom src q cls ws
    else s.fabOutFrom src p cls ws

/-- Words of a frame leave on the root port (R444). -/
def State.fabUp (s : State) (src : Option FabPort) (cls : Fin 4) (ws : List Word) : State :=
  match s.fab.root with
  | some (_, _, some p, _) => s.fabOutFrom src p cls ws
  | _ => s.fabFreed src cls ws.length

/-- A frame of this device to a node, other than ANNOUNCE: a frame to its own number is delivered here, and none leaves until a root
exists (R442, R444). -/
def State.fabSend (s : State) (kind : Nat) (dest : NodeNo) (data : List Word) : State :=
  let ws := frameWords kind dest s.fab.node data
  if dest ≠ 0 ∧ dest = s.fab.node then { s with fab := { s.fab with inbox := s.fab.inbox ++ [(0, ws.headD 0, data)] } }
  else if s.fab.root.isNone then s
  else if dest = 0 then s.fabUp none (kindFin kind) ws
  else s.fabRoute none (kindFin kind) dest ws

/-! ### Fabric channels (R454 to R456) -/

/-- The channel with a peer. -/
def FabPart.chanOf (f : FabPart) (n : NodeNo) : Option FabChannel := f.channels.find? (fun x => x.peer == n)

/-- The channel with a peer changed. -/
def State.setFabChan (s : State) (n : NodeNo) (f : FabChannel → FabChannel) : State :=
  { s with fab := { s.fab with channels := s.fab.channels.map (fun x => if x.peer == n then f x else x) } }

/-- The next word of a channel is sent when none is unacknowledged (R455). -/
def State.fabPump (s : State) (n : NodeNo) : State :=
  match s.fab.chanOf n with
  | none => s
  | some k =>
    match k.st, k.unacked, k.outQ with
    | .openCh, none, w :: ws =>
      (s.setFabChan n (fun k => { k with unacked := some (w, 1), outQ := ws })).fabSend 4 n
        [mailboxWord0 1 0 k.sendSeq k.session, w]
    | _, _, _ => s

/-- Words enter the outbound queue of a fabric channel (R456, R530). -/
def State.pushFab (s : State) (n : NodeNo) (ws : List Word) : State :=
  (s.setFabChan n (fun k => { k with outQ := k.outQ ++ ws })).fabPump n

/-- Words waiting on a fabric channel, the unacknowledged one included (R530). -/
def FabChannel.used (k : FabChannel) : Nat := k.outQ.length + (if k.unacked.isSome then 1 else 0)

/-- An event on a fabric channel whose mask admits its class (R456, R530, R535). -/
def State.eventFab (s : State) (e : Code × BitVec 40) (n : NodeNo) : State :=
  match s.fab.chanOf n with
  | none => s
  | some k =>
    if k.mask.getLsbD e.1.cls then
      match takeIn k.used k.dropped e with
      | some ws => (s.setFabChan n (fun k => { k with dropped := 0 })).pushFab n ws
      | none => s.setFabChan n (fun k => { k with dropped := k.dropped + 1 })
    else s

/-! ### Events and responses (R533, R534, R647) -/

/-- An event is raised; it is queued at the end of the step or before the step's response. A standby raises no page,
trigger or governor event (R468): class 0x01. -/
def State.raise (s : State) (e : Code) (detail : BitVec 40) : State :=
  if s.standby && e.cls == 1 then s
  else { s with host := { s.host with batch := s.host.batch ++ [(e, detail)] } }

/-- An event with the sum of its detail fields. -/
def State.raiseF (s : State) (e : Code) (l : List Nat) : State := s.raise e (pack40 l)

/-- One event is queued on every channel that admits it. -/
def State.deliver (s : State) (e : Code × BitVec 40) : State :=
  let s1 := (List.finRange 8).foldl (fun s n => s.eventHost e n) s
  (s1.fab.channels.map (fun k => k.peer)).foldl (fun s n => s.eventFab e n) s1

/-- The events of the step are queued in ascending order of code (R647). -/
def State.flush (s : State) : State :=
  match s.host.batch with
  | [] => s
  | b => (sortBy (fun x y => decide (x.1.num ≤ y.1.num)) b).foldl (fun s e => s.deliver e)
      { s with host := { s.host with batch := [] } }

/-- The state at the end of a step: the events it raised are queued. -/
def State.settle (s : State) : State := { s.flush with host := { s.flush.host with batch := [] } }

/-- The end of a step. -/
def State.done (s : State) : Host.Outcome State Fault Refusal := .next s.settle

/-- The oldest DOCKET parcel that waits for a command's end goes on, with the response words given (R544). -/
def answerRun (a : ParcelAuth) (cmd : Byte × BitVec 5) (ws : List Word) : List DocketRun → List DocketRun
  | [] => []
  | r :: rs =>
    if r.auth = a ∧ r.waiting = some cmd then { r with responses := r.responses ++ ws, waiting := none } :: rs
    else r :: answerRun a cmd ws rs

/-- The response of a command. A response of an ended session is discarded (R455, R526); one of an embedded command is
written after those before it (R544). -/
def State.respond (s : State) (o : Origin) (opcode : Byte) (tag : BitVec 5) (st : Code) (result : BitVec 40) : State :=
  let s := s.flush
  let w := responseWord opcode tag st result
  match o with
  | .host n session =>
    if s.hostLink ∧ s.host.channels[n].session = session then
      (s.setChan n (fun h => { h with running := h.running.erase tag })).pushHost n [w]
    else s
  | .peer n session =>
    match s.fab.chanOf n with
    | some k =>
      if k.session = session then (s.setFabChan n (fun k => { k with running := k.running.erase tag })).pushFab n [w]
      else s
    | none => s
  | .parcel a =>
    { s with store := { s.store with docketRuns := answerRun a (opcode, tag) [w] s.store.docketRuns } }

/-- A response of a command word. -/
def State.answer (s : State) (x : Cmd) (opcode : Byte) (st : Code) (result : BitVec 40) : State :=
  s.respond x.origin opcode x.tag st result

/-- Firmware reads no more than it answers: the outcome of a command, a status with its RESULT. -/
abbrev Resp := Code × BitVec 40

/-- The response OK with RESULT 0. -/
def okResp : Option Resp := some (.ok, 0)

/-- A status with a RESULT given as a number. -/
def resp (c : Code) (n : Nat) : Option Resp := some (c, low40 n)

end Sys2Proof.Machine
end

