-- ==== Sys2Proof/Machine/DramOps.lean ====
section
/-!
DEFINITION. Reads and writes of DRAM (21_dram_controller.md): the regions, the outcome of a read by its symbol errors, poison, and what a
write of a whole burst or a merge does to it.
-/

namespace Sys2Proof.Machine

/-! ### Regions (R103, R583, R597) -/

/-- Sizes in MiB of the regions of R103 before the layer store, in order. -/
def regionSizes : List Nat := [256, 64, 4, 512, 128, 512, 512, 256]

/-- First burst of region i, counted from 0 (R103). A MiB holds 16,384 bursts. -/
def regionBase (i : Nat) : Nat := 16384 * (regionSizes.take i).sum

/-- The region of a burst, 1 to 9 (R597). -/
def regionOf (burst : Nat) : Nat := ((List.range 8).filter (fun i => decide (regionBase (i + 1) ≤ burst))).length + 1

/-- RESULT of DRAM_ERROR for a burst, and bits [33:0] of the detail of its event (R597). -/
def burstResult (b : BitVec 30) : Nat := fld 0 30 b.toNat + fld 30 4 (regionOf b.toNat)

/-- The subchannel of a burst: granules of 256 bytes in the order SC0A, SC1A, SC0B, SC1B, as the codes of R592 (R583). -/
def subchannel (burst : Nat) : Nat :=
  match (burst / 4) % 4 with
  | 0 => 0 | 1 => 2 | 2 => 1 | _ => 3

/-- A DRAM_CORRECTED episode still runs: it ends after 60 s without a corrected error (R596). -/
def DramPart.inEpisode (d : DramPart) (raw : Word) : Bool := d.episode.any (fun t => decide ((raw - t).toNat < 60000000000))

/-- A corrected error: counted, and DRAM_CORRECTED once per episode when 256 lie within one second (R596; log 46). -/
def State.correctedError (s : State) (burst : Nat) : State :=
  let raw := s.time.raw
  let rs := (raw, subchannel burst) :: s.dram.recent.filter (fun r => decide ((raw - r.1).toNat ≤ 1000000000))
  let d := { s.dram with corrected := min (2 ^ 64 - 1) (s.dram.corrected + 1) }
  if s.dram.inEpisode raw then { s with dram := { d with episode := some raw, recent := [] } }
  else if rs.length < 256 then { s with dram := { d with episode := none, recent := rs } }
  else ({ s with dram := { d with episode := some raw, recent := [] } }).raiseF .dramCorrected
    [min 65535 rs.length, fld 16 2 ((rs.getLast?.elim 0 (fun (x : Word × Nat) => x.2)))]

/-! ### Outcomes of reads (R584, R585, R587, R596) -/

/-- An uncorrectable read: counted, and its event (R585, R596, R597). The burst stays poisoned until it is written (R586). -/
def State.uncorrectable (s : State) (burst : BitVec 30) (source : Nat) : State :=
  ({ s with dram := { s.dram with
      poisoned := if s.dram.poisoned.contains burst then s.dram.poisoned else burst :: s.dram.poisoned
      uncorrected := min (2 ^ 64 - 1) (s.dram.uncorrected + 1) } }).raiseF .dramUncorrectable [burstResult burst, fld 34 2 source]

/-- What the code finds (R584, R585). -/
inductive Ecc where
  | clean | corrected | uncorrectable
deriving DecidableEq, Repr

/-- Symbols in error of the codeword that has most of them (R584). -/
def worstCodeword (r : DramRead) : Nat :=
  ((List.finRange 4).map (fun c => ((List.finRange 20).filter (fun n => r.symbols.contains (c, n))).length)).foldl max 0

/-- The outcome of a read (R584): one symbol of a codeword is corrected, two or three are detected, and so is the burst of another
address, which the check symbols cover. Of more symbols the rule says nothing: what the code finds is free (log 5). -/
def readOutcome (r : DramRead) (free : Nat) : Ecc :=
  if r.elsewhere then .uncorrectable
  else match worstCodeword r with
    | 0 => .clean
    | 1 => .corrected
    | 2 => .uncorrectable
    | 3 => .uncorrectable
    | _ => if free % 2 = 0 then .uncorrectable else .corrected

/-- A burst is read for a source of R597; poison reads uncorrectable (R585, R586). Tells whether it is lost. -/
def State.readBurst (s : State) (source : Nat) (b : BurstRead) : State × Bool :=
  let s1 := if 3 < worstCodeword b.read then s.drew else s
  match (if s.dram.poisoned.contains b.burst then Ecc.uncorrectable else readOutcome b.read s.free.toNat) with
  | .clean => (s1, false)
  | .corrected => (s1.correctedError b.burst.toNat, false)
  | .uncorrectable => (s1.uncorrectable b.burst source, true)

/-- Bursts are read for a client: those that are lost, each with its event (R587). -/
def State.readBursts (s : State) (bs : List BurstRead) : State × List (BitVec 30) :=
  bs.foldl (fun (p : State × List (BitVec 30)) b =>
    let r := p.1.readBurst 1 b
    (r.1, if r.2 then p.2 ++ [b.burst] else p.2)) (s, [])

/-- Groups of reads one after the other, up to the first of them that loses a burst: which group, and the burst. i: groups before. -/
def State.readUntil (s : State) (i : Nat) : List (List BurstRead) → State × Option (Nat × BitVec 30)
  | [] => (s, none)
  | g :: gs =>
    let r := s.readBursts g
    match r.2 with
    | b :: _ => (r.1, some (i, b))
    | [] => r.1.readUntil (i + 1) gs

/-- A burst lies in a range of n bursts from a on. -/
def inRange (a n : Nat) (b : BitVec 30) : Bool := decide (a ≤ b.toNat ∧ b.toNat < a + n)

/-- The bursts of a range that do not read as they were written: those a command names, and those that hold poison. -/
def State.rangeReads (s : State) (a n : Nat) (rs : List BurstRead) : List BurstRead :=
  rs.filter (fun r => inRange a n r.burst) ++
  (s.dram.poisoned.filter (fun b => inRange a n b && !rs.any (fun r => r.burst == b))).map (fun b => { burst := b })

/-- A burst of a region that holds poison (R587). -/
def State.poisonIn (s : State) (region : Nat) : Option (BitVec 30) := s.dram.poisoned.find? (fun b => regionOf b.toNat == region)

/-- The bursts a command names in a region, where the place of what it reads there is not given (log 31). -/
def regionReads (region : Nat) (rs : List BurstRead) : List BurstRead := rs.filter (fun r => regionOf r.burst.toNat == region)

/-! ### Writes (R586) -/

/-- Whole bursts are written: fresh check symbols, and no poison (R586). -/
def State.wrote (s : State) (a n : Nat) : State :=
  if s.dram.poisoned.isEmpty then s
  else { s with dram := { s.dram with poisoned := s.dram.poisoned.filter (fun b => !inRange a n b) } }

/-- Whole bursts are written in a region at places that are not given: which poison there they clear is free (R586; log 5, 31). -/
def State.wroteIn (s : State) (region : Nat) : State :=
  if s.dram.poisoned.any (fun b => regionOf b.toNat == region) then
    { s.drew with dram := { s.dram with poisoned :=
        (s.dram.poisoned.zipIdx.filter (fun p => regionOf p.1.toNat != region || bitAt s.free (p.2 % 64))).map (fun p => p.1) } }
  else s

/-- A write of part of a burst is merged (R586): where the read is uncorrectable nothing is written. Tells whether it is lost. -/
def State.merge (s : State) (a : Nat) : State × Bool :=
  if s.dram.poisoned.contains (BitVec.ofNat 30 a) then s.readBurst 3 { burst := BitVec.ofNat 30 a } else (s, false)

/-- n words are written from a word address on: whole bursts, and merges at the ends (R586). Tells whether a merge is lost. -/
def State.writeWords (s : State) (w n : Nat) : State × Bool :=
  if s.dram.poisoned.isEmpty then (s, false)
  else
    let first := ceilDiv w 8
    let last := (w + n) / 8
    let s1 := s.wrote first (last - first)
    let head := if w % 8 = 0 then (s1, false) else s1.merge (w / 8)
    if (w + n) % 8 = 0 ∨ (w % 8 ≠ 0 ∧ w / 8 = last) then head
    else
      let tail := head.1.merge last
      (tail.1, head.2 || tail.2)

/-! ### Places (R103, R104; log 31) -/

/-- The lowest start of n places that no place in use overlaps; used: starts and lengths. -/
def firstFit (used : List (Nat × Nat)) (n : Nat) : Nat :=
  let free (a : Nat) : Bool := used.all (fun u => decide (a + n ≤ u.1 ∨ u.1 + u.2 ≤ a))
  ((0 :: used.map (fun u => u.1 + u.2)).filter free).foldl min ((used.map (fun u => u.1 + u.2)).foldl max 0)

end Sys2Proof.Machine
end

