-- ==== Sys2Proof/Machine/LogOps.lean ====
section
/-!
DEFINITION. Serial draws and the print log (R570 to R579), and the byte strings of the key derivations (R563, R567, R570).
-/

namespace Sys2Proof.Machine

/-- Bytes of an ASCII string. -/
def asciiBytes (t : String) : List Byte := t.toList.map (fun ch => BitVec.ofNat 8 ch.toNat)

/-- n bytes of a number, lowest first. -/
def leBytes (n v : Nat) : List Byte := (List.range n).map (fun i => BitVec.ofNat 8 (v / 256 ^ i))

/-- n bytes of a number, highest first (the integers of R555). -/
def beBytes (n v : Nat) : List Byte := (leBytes n v).reverse

/-- A number from bytes, highest first. -/
def beNat (bs : List Byte) : Nat := bs.foldl (fun acc b => 256 * acc + b.toNat) 0

/-- n words of a byte string in memory order. -/
def bytesWords (bs : List Byte) : List Word := wordsOfBytes bs

/-- Lines of the print-log region (R575). -/
def logLines : Nat := 8388608

/-- Lines neither used nor reserved (R579). -/
def SecPart.freeLines (x : SecPart) : Nat := logLines - x.ring.length - x.reserved

/-- H: the stored value, or its start (R575). -/
def State.logHash (s : State) : BitVec 384 :=
  s.sec.chainHash.getD (Config.sha384 (asciiBytes "TZM-LOG" ++ leBytes 8 s.fab.id.toNat))

/-- Bytes 0 to 7 of H, byte 0 in bits [7:0] (R575). -/
def hashHead (h : BitVec 384) : Word := wordAt (bytesWords ((beBytes 48 h.toNat).take 8)) 0

/-- LOG_LOW once each time free lines fall below 524,288 (R579). -/
def State.logLowCheck (s : State) : State :=
  if s.sec.freeLines < 524288 then
    if s.sec.logLow then s
    else ({ s with sec := { s.sec with logLow := true } }).raiseF .logLow [fld 0 24 s.sec.freeLines]
  else { s with sec := { s.sec with logLow := false } }

/-- The burst of the print-log region that holds line i of the ring (R103, R575). -/
def SecPart.lineBurst (x : SecPart) (i : Nat) : Nat := regionBase 7 + ((x.logHead + i) % logLines) / 2

/-- Lines enter the ring unchained. A line of 32 bytes is merged into its burst (R575, R586). -/
def State.logAppend (s : State) (ls : List (List Word × Bool)) : State :=
  let n := s.sec.ring.length
  let s1 := (List.range ls.length).foldl (fun (s : State) i => (s.merge (s.sec.lineBurst (n + i))).1) s
  ({ s1 with sec := { s1.sec with ring := s1.sec.ring ++ ls } }).logLowCheck

/-- Word 0 of checkpoint line i (R577). -/
def checkpointWord (i kind : Nat) : Word := word [fld 0 4 (if i = 0 then kind else 0), fld 52 3 i, fld 56 4 2]

/-- The eight lines of a checkpoint: KIND and words 1 to 3 of line 3 (R577). -/
def State.checkpointLines (s : State) (kind : Nat) (l3 : List Word) : List (List Word) :=
  let h := bytesWords (beBytes 48 s.logHash.toNat)
  let first := [[checkpointWord 0 kind, BitVec.ofNat 64 s.sec.count, BitVec.ofInt 64 s.now, s.fab.id],
    checkpointWord 1 kind :: slice h 0 3, checkpointWord 2 kind :: slice h 3 3, checkpointWord 3 kind :: l3]
  let sig := bytesWords (beBytes 96
    (Config.ecdsaSign (s.sec.identity.getD 0) (Config.sha384 (bytesOf first.flatten))).toNat)
  first ++ (List.range 4).map (fun i => checkpointWord (4 + i) kind :: slice sig (3 * i) 3)

/-- A checkpoint with its event (R577). -/
def State.checkpoint (s : State) (kind : Nat) (l3 : List Word) : State :=
  (s.logAppend ((s.checkpointLines kind l3).zipIdx.map (fun l => (l.1, l.2 == 0)))).raise .logCheckpoint (low40 s.sec.count)

/-- A chained line: H, COUNT, and the PERIODIC checkpoint after every 4,096 lines (R575, R577). -/
def State.chainLine (s : State) (w0 w1 w2 : Word) : State :=
  let h := Config.sha384 (beBytes 48 s.logHash.toNat ++ bytesOf [w0, w1, w2])
  let s1 := ({ s with sec := { s.sec with chainHash := some h, count := s.sec.count + 1 } }).logAppend
    [([w0, w1, w2, hashHead h], false)]
  if s1.sec.count % 4096 = 0 then s1.checkpoint 1 [BitVec.ofNat 64 s1.sec.freeLines, 0, 0] else s1

/-- UNIT of a log line (R575). -/
def State.logUnit (s : State) : Nat := b2n (s.pair.paired && s.pair.unitB)

/-- The SKIP line of an open slot whose range is not empty (R577). -/
def State.skipLine (s : State) (n : Fin 16) : State :=
  let j := s.sec.jobs[n]
  let first := (j.lastLogged + 1).toNat
  if j.isOpen ∧ first < j.reservedEnd then
    s.chainLine (word [fld 0 48 first, fld 48 4 n.val, fld 55 1 s.logUnit, fld 56 4 3])
      (word [fld 0 40 (j.reservedEnd - 1), fld 40 24 j.jobId.toNat]) (word [fld 32 8 ((j.reservedEnd - 1) / 2 ^ 40)])
  else s

/-- The RESUME checkpoint and its SKIP lines, once after each device reset (R577). -/
def State.resumeLog (s : State) : State :=
  if s.sec.resumeDue then
    let lost := s.sec.count - s.sec.released
    let s1 := ({ s with sec := { s.sec with resumeDue := false } }).checkpoint 2
      [BitVec.ofNat 64 lost, BitVec.ofNat 64 s.sec.released, 0]
    let s2 := (List.finRange 16).foldl (fun s n => s.skipLine n) s1
    if lost = 0 then s2 else s2.raiseF .logRecordsLost [fld 0 32 (min lost 4294967295)]
  else s

/-- A serial drawn for a page is logged when its page posts its end event: OUTCOME 1 PRINTED, 2 DEFECTIVE, 3 UNPRINTED
(R576). Only the claim holder writes the log (R575). -/
def State.codeLine (s : State) (slot : Fin 16) (serial : BitVec 48) (mac : BitVec 40) (page : PageId) (tag : Word)
    (outcome : Nat) : State :=
  if s.standby then s
  else
    let s := s.resumeLog
    let s := s.chainLine
      (word [fld 0 48 serial.toNat, fld 48 4 slot.val, fld 52 3 outcome, fld 55 1 s.logUnit, fld 56 4 1])
      (word [fld 0 40 (if outcome = 3 then 0 else mac.toNat), fld 40 24 s.sec.jobs[slot].jobId.toNat])
      (word [fld 0 32 page.toNat, fld 32 32 (bits tag 31 0)])
    { s with sec := { s.sec with
        reserved := 0
        jobs := upd s.sec.jobs slot (fun j => { j with lastLogged := max j.lastLogged serial.toNat }) } }

/-- Lines a draw reserves: 1, and 8 more when that line completes a group of 4,096 (R579). -/
def SecPart.drawLines (x : SecPart) : Nat := if (x.count + 1) % 4096 = 0 then 9 else 1

/-- Why the key vault refuses a draw from a slot: 1 log full, 2 key region locked, 3 slot not open (R579, R581). -/
def SecPart.drawRefused (x : SecPart) (slot : Fin 16) : Option Nat :=
  if x.keyLocked then some 2
  else if !x.jobs[slot].isOpen || decide (x.jobs[slot].last < x.jobs[slot].next) then some 3
  else if x.freeLines < 16 + x.drawLines then some 1
  else none

/-- NEXT has reached RESERVED_END: 256 more are reserved first (R572 step 1). -/
def Job.reserve (j : Job) : Job := if j.next = j.reservedEnd then { j with reservedEnd := j.reservedEnd + 256 } else j

/-- The MAC of a serial under K_JOB (R572 step 3). -/
def serialMac (j : Job) (slot : Fin 16) (serial : Nat) : BitVec 40 :=
  let m := Config.hmacSha384 (leBytes 32 (j.key.getD 0).toNat)
    (leBytes 8 serial ++ leBytes 8 (j.jobId.toNat + 4294967296 * slot.val))
  BitVec.ofNat 40 (beNat ((beBytes 48 m.toNat).take 5))

/-- A draw that is not refused: serial and MAC, the counters, and the end of the job (R572). -/
def State.draw (s : State) (slot : Fin 16) : State × (BitVec 48 × BitVec 40) :=
  let j := s.sec.jobs[slot].reserve
  let serial := j.next
  let s1 := { s with sec := { s.sec with
    reserved := s.sec.reserved + s.sec.drawLines
    heldEp := false
    jobs := upd s.sec.jobs slot (fun _ => { j with next := j.next + 1 }) } }
  let s2 := if serial = j.last then s1.raiseF .serialJobEnd [fld 0 4 slot.val, fld 4 2 1] else s1
  (s2.logLowCheck, (BitVec.ofNat 48 serial, serialMac j slot serial))

/-- SERIAL_PAGE_HELD once per episode (R579). -/
def State.serialHeld (s : State) (page : PageId) (reason trig : Nat) : State :=
  if s.sec.heldEp then s
  else ({ s with sec := { s.sec with heldEp := true } }).raiseF .serialPageHeld
    [page.toNat, fld 32 4 reason, fld 36 2 trig]

end Sys2Proof.Machine
end

