-- ==== Sys2Proof/Machine/PairOps.lean ====
section
/-!
DEFINITION. Operations of the pair (16_redundancy_and_failover.md): the pair key's keys and tags (R567), schedule records
(R477) and beats (R470).
-/

namespace Sys2Proof.Machine

/-- The first n bytes HKDF gives, from a secret and an info string with no salt (R567). -/
def hkdfBytes (secret salt info : List Byte) (n : Nat) : List Byte := beBytes n (Config.hkdf secret salt info n).toNat

/-- A 32-byte key as bytes. -/
def keyBytes (k : BitVec 256) : List Byte := leBytes 32 k.toNat

/-- A key from bytes. -/
def bytesKey (bs : List Byte) : BitVec 256 := BitVec.ofNat 256 (beNat (bs.take 32).reverse)

/-- The pair key in use: none is held, or its working copy is zeroised (R566, R581). -/
def SecPart.pairKey (x : SecPart) : Option PairKey := if x.pairLost then none else x.pair

/-- A TAG under K_MAC over the header, with TTL and HCHK taken as zero, and words (R464, R567). -/
def PairKey.tag (k : PairKey) (header : Word) (ws : List Word) : Word :=
  let m := Config.hmacSha384 (hkdfBytes (keyBytes k.pk) [] (asciiBytes "TZM-P-MAC") 48)
    (bytesOf ((header &&& 0x00FFFFFFFFF03FFF#64) :: ws))
  wordAt (bytesWords ((beBytes 48 m.toNat).take 8)) 0

/-- Keystream of a SERIAL record (R567): words 1 and 2. -/
def PairKey.recordStream (k : PairKey) (seq : BitVec 24) (claim : BitVec 32) : Word × Word :=
  let key := bytesKey (hkdfBytes (keyBytes k.pk) [] (asciiBytes "TZM-P-REC") 32)
  let block := leBytes 4 k.keyId.toNat ++ leBytes 3 seq.toNat ++ [0] ++ leBytes 4 claim.toNat ++ leBytes 4 0
  let b := beBytes 16 (Config.aesBlock key block).toNat
  (wordAt (bytesWords b) 0, wordAt (bytesWords b) 1)

/-- A tagged frame of a KIND to a node; no frame leaves without a pair key, or for a node not set (R464, R470, R473). Once the working
copy of the key is zeroised the TAGs fail: such a TAG is free (R581, log 147). -/
def State.sendTagged (s : State) (kind : Nat) (dest : NodeNo) (ws : List Word) : State :=
  match s.sec.pair with
  | none => s
  | some k =>
    if dest = 0 then s
    else if s.sec.pairLost then s.drew.fabSend kind dest (ws ++ [s.free])
    else
      let h := frameHeader ((kindClass kind).getD 1) kind 63 dest s.fab.node (ws.length + 1)
      s.fabSend kind dest (ws ++ [k.tag h ws])

/-- A schedule record, sent by the active to its partner (R477). -/
def State.record (s : State) (rkind : Nat) (w1 w2 : Word) : State :=
  if s.pair.paired && s.pair.st == .active then
    match s.sec.pair with
    | none => s
    | some k =>
      let seq := s.pair.schedSeq + 1
      let s1 := { s with pair := { s.pair with schedSeq := seq } }
      let ks := if rkind = 9 then k.recordStream seq s.pair.claim else (0, 0)
      s1.sendTagged 0 s.pair.partner
        [word [fld 0 4 2, fld 4 4 rkind, fld 8 24 seq.toNat, fld 32 32 s.pair.claim.toNat], w1 ^^^ ks.1, w2 ^^^ ks.2]
  else s

/-- STATE as a code (R470). -/
def PairSt.code : PairSt → Nat
  | .idle => 0 | .active => 1 | .sync => 2 | .ready => 3 | .diverged => 4

/-- The nodes that receive beats and reports: the partner, and the ditch-rider where RIDER names a node (R470). -/
def PairPart.audience (q : PairPart) : List NodeNo :=
  q.partner :: (match q.rider with | .node n => [n] | _ => [])

/-- Microseconds since the last valid beat of the partner, saturating (R470). -/
def State.partnerAge (s : State) : Nat :=
  match s.pair.partnerAt with
  | none => 65535
  | some t => min 65535 ((s.time.raw - t).toNat / 1000)

/-- Bytes of verified parcels still to be mirrored: those that wait, and those of transfers not yet answered (R473, R485, R486). -/
def State.backlogBytes (s : State) : Nat :=
  8 * (((s.pair.mirrorQ ++ s.pair.resyncQ).map List.length).sum +
    ((s.fab.bulkOut.filter (fun b => b.dest == s.pair.partner)).map (fun b => b.words.length)).sum)

/-- A beat to the partner and the ditch-rider (R470). -/
def State.beat (s : State) : State :=
  if !s.pair.paired then s
  else
    let q := s.pair
    let ws := [word [fld 0 4 1, fld 4 1 (b2n q.unitB), fld 5 3 q.st.code, fld 8 1 (b2n q.aligned),
        fld 9 1 (b2n s.print.started), fld 10 1 (b2n q.barSilent), fld 11 1 (b2n (s.sys.testFault || s.sys.fatal.isSome)),
        fld 16 16 s.partnerAge, fld 32 32 q.hbSeq.toNat],
      word [fld 0 32 q.claim.toNat, fld 32 32 q.highest.toNat],
      word [fld 0 40 s.sluice.barLine, fld 40 24 q.schedSeq.toNat]]
    q.audience.foldl (fun s n => s.sendTagged 0 n ws) { s with pair := { q with hbSeq := q.hbSeq + 1 } }

/-- A paired unit that is not the active one takes these decisions only from schedule records (R475). -/
def State.shadow (s : State) : Bool := s.pair.paired && s.pair.st != .active

/-- A standby becomes DIVERGED, with the page concerned and the cause (R478). -/
def State.diverge (s : State) (page : PageId) (cause : Nat) : State :=
  if s.pair.paired ∧ (s.pair.st = .sync ∨ s.pair.st = .ready) then
    ({ s with pair := { s.pair with st := .diverged } }.raiseF .pairDiverged [page.toNat, fld 32 4 cause]).beat
  else s

end Sys2Proof.Machine
end

