-- ==== Sys2Proof/Machine/Layers.lean ====
section
/-!
DEFINITION. Print modes, layers, layer parts and page descriptors as words (02_print_model.md, 03_page_store_and_parcels.md):
their layouts, their checks and the geometry of blocks.
-/

namespace Sys2Proof.Machine

/-- Depth in bits of a print mode (R35). DESIGN CHOICE: the reserved modes 10 to 15 have none in the spec and count as 1 bit, as mode 9
(R6, log 90). -/
def modeDepth (m : BitVec 4) : Nat :=
  match m.toNat with
  | 0 => 1 | 1 => 2 | 2 => 4 | 3 => 1 | 4 => 2 | 5 => 4 | 6 => 2 | 7 => 1 | 8 => 2 | _ => 1

/-- Along-web pitch in lines per inch of a print mode (R35). DESIGN CHOICE: the reserved modes 10 to 15 have none in the spec and count as
360, as mode 9 (R6, log 90). -/
def modeLpi (m : BitVec 4) : Nat :=
  match m.toNat with
  | 0 | 1 | 2 => 600
  | 3 | 4 | 5 => 1200
  | 6 => 1600
  | 7 | 8 => 2400
  | _ => 360

/-- 2^d − 1 (R32). -/
def maxCode (d : Nat) : Nat := 2 ^ d - 1

/-- The greatest row lag of a map (R31, R53, R182). -/
def NozzleMap.greatestLag (m : NozzleMap) : Nat :=
  (m.heads.flatMap (fun h => h.rows.flatMap (fun r => [r.lagFwd, r.lagRev]))).foldl max 0

/-- P of a map; 0 while no map is in force (R91, R202). -/
def mapPositions : Option NozzleMap → Nat
  | none => 0
  | some m => m.positions.length

/-- Positions of one segment (R29). -/
def segWidth (p : Nat) : Nat := p / 16

/-! ### Layer descriptors -/

/-- Bits of a code of a layer's depth field; 8 for tone (R87). -/
def depthBits (d : BitVec 2) : Nat :=
  match d.toNat with
  | 0 => 1 | 1 => 2 | 2 => 4 | _ => 8

/-- KIND of a layer descriptor (R87). -/
def layerKindOf (n : Nat) : LayerKind :=
  match n with
  | 0 => .base | 1 => .overlay | 2 => .contone | _ => .stamp

/-- The combinations of R88. -/
def kindValid (k : LayerKind) (depth : Nat) (generated masked : Bool) : Bool :=
  match k with
  | .base => depth < 3 && !generated && !masked
  | .overlay => depth < 3 && !generated
  | .contone => depth == 3 && !generated && !masked
  | .stamp => depth < 3 && !masked

/-- The layer descriptor of four words, if it is valid by R87 and R88. -/
def parseLayerDesc (ws : List Word) : Option LayerDesc :=
  let w0 := wordAt ws 0
  let w1 := wordAt ws 1
  let w2 := wordAt ws 2
  let w3 := wordAt ws 3
  let id := bits w0 31 0
  let kind := layerKindOf (bits w0 33 32)
  let depth := bits w0 35 34
  let generated := bitAt w0 36
  let masked := bitAt w0 37
  let lines := bits w1 24 0
  let positions := bits w2 17 0
  let gen := bits w3 31 0
  if id = 0 ∨ id = 0xFFFFFFFF ∨ bits w0 63 38 ≠ 0 ∨ lines = 0 ∨ 16777216 < lines ∨ bits w1 31 25 ≠ 0
      ∨ bits w1 63 49 ≠ 0 ∨ positions = 0 ∨ 131072 < positions ∨ bits w2 63 18 ≠ 0 ∨ bits w3 63 32 ≠ 0
      ∨ (¬ generated ∧ gen ≠ 0) ∨ ¬ kindValid kind depth generated masked then none
  else some {
    id := BitVec.ofNat 32 id, kind := kind, depth := BitVec.ofNat 2 depth, generated := generated
    masked := masked, lines := lines, posOffset := bits w1 48 32, positions := positions
    generator := BitVec.ofNat 32 gen }

/-- Bands of a number of lines (R41, R91). -/
def bandsOf (lines : Nat) : Nat := ceilDiv lines 64

/-- Lines of band j of a number of lines (R41, R89). -/
def linesOfBand (lines j : Nat) : Nat := min 64 (lines - 64 * j)

/-- First and last position of a layer. -/
def LayerDesc.firstPos (d : LayerDesc) : Nat := d.posOffset
/-- Last position of a layer. -/
def LayerDesc.lastPos (d : LayerDesc) : Nat := d.posOffset + d.positions - 1

/-- The layer covers segment s under P positions (R91); every segment while no map is in force. -/
def LayerDesc.covers (d : LayerDesc) (p s : Nat) : Bool :=
  if p = 0 then true
  else decide (d.firstPos / segWidth p ≤ s) && decide (s ≤ d.lastPos / segWidth p) && decide (s < 16)

/-- First and last position of the layer within segment s; first > last when it does not reach it. -/
def LayerDesc.inSegment (d : LayerDesc) (p s : Nat) : Nat × Nat :=
  (max d.firstPos (s * segWidth p), min d.lastPos ((s + 1) * segWidth p - 1))

/-- Words of one segment line that hold at least one position of [lo, hi], n bits to a position; the first of them is
the first word (R89). -/
def coveredWords (n segStart lo hi : Nat) : Nat × Nat :=
  let per := 64 / n
  ((lo - segStart) / per, (hi - segStart) / per + 1 - (lo - segStart) / per)

/-- Line length in words of a block of segment s: code words, then mask words (R89, R90). -/
def LayerDesc.lineWords (d : LayerDesc) (p s : Nat) : Nat × Nat :=
  let (lo, hi) := d.inSegment p s
  if hi < lo then (0, 0)
  else
    let code := (coveredWords (depthBits d.depth) (s * segWidth p) lo hi).2
    (code, if d.masked then (coveredWords 1 (s * segWidth p) lo hi).2 else 0)

/-- The place of the entry of segment s and band j in a layer's block index: (s − s_first) × ⌈LINES/64⌉ + j (R95). -/
def LayerDesc.entryPlace (d : LayerDesc) (p s j : Nat) : Nat := (s - d.firstPos / segWidth p) * bandsOf d.lines + j

/-- An index entry (R95). -/
def LayerBlock.entry (b : LayerBlock) : Word := word [fld 0 36 b.wordAddr.toNat, fld 36 24 b.count, fld 63 1 1]

/-- The block whose entry stands at a place of the layer's index, if it is present (R95). -/
def Layer.blockAt (l : Layer) (p place : Nat) : Option LayerBlock :=
  l.blocks.find? (fun b => l.desc.entryPlace p b.segment b.band == place)

/-- The entry at a place of a layer's index; zero where the block is not published (R95). -/
def Layer.entryAt (l : Layer) (p place : Nat) : Word := match l.blockAt p place with | some b => b.entry | none => 0

/-- The layer is complete under a map (R91). -/
def Layer.complete (l : Layer) (map : Option NozzleMap) : Bool :=
  let p := mapPositions map
  if p = 0 ∨ p ≤ l.desc.lastPos then false
  else if l.desc.generated then true
  else (List.range 16).all (fun s => !l.desc.covers p s ||
    (List.range (bandsOf l.desc.lines)).all (fun j => l.blocks.any (fun b => b.segment == s && b.band == j)))

/-! ### Layer parts -/

/-- A part-index entry (R92). -/
structure PartEntry where
  segment : Nat
  band    : Nat
  offset  : Nat
  count   : Nat
  resvd   : Bool
deriving DecidableEq, Repr

/-- The n part-index entries of a LAYER payload (R92). -/
def partEntries (payload : List Word) (n : Nat) : List PartEntry :=
  (List.range n).map (fun i =>
    let a := wordAt payload (8 + 2 * i)
    let b := wordAt payload (9 + 2 * i)
    { segment := bits a 3 0, band := bits a 21 4, offset := bits b 23 0, count := bits b 47 24
      resvd := bits a 63 22 ≠ 0 || bits b 63 48 ≠ 0 })

/-- No two entries name one block. -/
def entriesDistinct : List PartEntry → Bool
  | [] => true
  | e :: es => es.all (fun f => f.segment ≠ e.segment || f.band ≠ e.band) && entriesDistinct es

/-- The blocks a part publishes; the place of each in DRAM is given by addr (R95). -/
def partBlocks (payload : List Word) (es : List PartEntry) (addr : Nat → BitVec 36) : List LayerBlock :=
  es.map (fun e => { segment := e.segment, band := e.band, wordAddr := addr e.offset, count := e.count
                     words := slice payload e.offset e.count })

/-! ### Page descriptors -/

/-- Number of words of the page descriptor at the head of a list, padded to a multiple of 64 bytes (R77, R97). -/
def pageDescWords (ws : List Word) : Nat := ceilDiv (8 + 2 * bits (wordAt ws 0) 31 16) 8 * 8

/-- A page descriptor (R97). -/
def parsePageDesc (ws : List Word) : PageDesc :=
  let w0 := wordAt ws 0
  let w1 := wordAt ws 1
  let w2 := wordAt ws 2
  { id := BitVec.ofNat 32 (bits w0 63 32)
    length := bits w1 24 0
    mode := BitVec.ofNat 4 (bits w1 28 25)
    carriage := bitAt w1 29
    reverse := bitAt w1 30
    gap := bits w1 51 32
    serialised := bitAt w2 0
    checkStrip := bitAt w2 1
    inspect := bitAt w2 2
    holdAbort := bitAt w2 3
    slot := ⟨bits w2 11 8, Nat.mod_lt _ (by decide)⟩
    hostTag := wordAt ws 3
    refs := (List.range (bits w0 31 16)).map (fun i =>
      let a := wordAt ws (8 + 2 * i)
      let b := wordAt ws (9 + 2 * i)
      { layer := BitVec.ofNat 32 (bits a 31 0), lineOffset := bits a 55 32
        maskMode := BitVec.ofNat 2 (bits a 57 56), array := ⟨bits b 2 0, Nat.mod_lt _ (by decide)⟩ }) }

/-- The page descriptors of a PAGE payload: 1 to 64 of them (R77). fuel is the number of descriptors still allowed. A
descriptor whose first word is zero is padding. -/
def parsePages : Nat → List Word → List PageDesc
  | 0, _ => []
  | fuel + 1, ws =>
    if ws = [] ∨ wordAt ws 0 = 0 then []
    else parsePageDesc ws :: parsePages fuel (ws.drop (pageDescWords ws))

/-- Firing order: the page line of composed line y (R39, R183). -/
def PageDesc.lineOf (d : PageDesc) (y : Nat) : Nat :=
  if d.carriage && d.reverse then d.length - 1 - y else y

/-- Bursts of a page descriptor: the header, and four layer references to a burst (R97). -/
def PageDesc.bursts (d : PageDesc) : Nat := 1 + ceilDiv d.refs.length 4

/-- Number of bands of a page (R41). -/
def PageDesc.bands (d : PageDesc) : Nat := bandsOf d.length

/-- The page band that is the i-th in firing order (R39). -/
def PageDesc.bandAt (d : PageDesc) (i : Nat) : Nat :=
  if d.carriage && d.reverse then d.bands - 1 - i else i

/-- First composed line of the i-th band in firing order. -/
def PageDesc.bandStart (d : PageDesc) (i : Nat) : Nat :=
  if d.carriage && d.reverse then (if i = 0 then 0 else linesOfBand d.length (d.bands - 1) + 64 * (i - 1))
  else 64 * i

/-- The band in firing order that holds composed line y. -/
def PageDesc.bandOfLine (d : PageDesc) (y : Nat) : Nat :=
  let b := d.lineOf y / 64
  if d.carriage && d.reverse then d.bands - 1 - b else b

/-- Lag of a row in the page's direction (R182). -/
def RowRec.lag (r : RowRec) (d : PageDesc) : Nat := if d.carriage && d.reverse then r.lagRev else r.lagFwd

/-- Sub-line offset of a row in the page's direction (R184). -/
def RowRec.sub (r : RowRec) (d : PageDesc) : Nat := if d.carriage && d.reverse then r.subRev else r.subFwd

/-- The layer blocks a page band draws on for one reference: layer bands, the first in page-line order (R98). A block
is drawn on when at least one of its lines falls on a line of the band within the page. -/
def drawnBands (d : PageDesc) (r : LayerRef) (lines b : Nat) : List Nat :=
  let lo := max (64 * b) r.lineOffset
  let hi := min (min (64 * b + 64) d.length) (r.lineOffset + lines)
  if hi ≤ lo then []
  else
    let j0 := (lo - r.lineOffset) / 64
    let j1 := (hi - 1 - r.lineOffset) / 64
    if j0 = j1 then [j0] else [j0, j1]

end Sys2Proof.Machine
end

