-- ==== Sys2Proof/Machine/Mapper.lean ====
section
/-!
DEFINITION. The nozzle mapper (06_nozzle_mapper.md): the nozzle map as words and its checks, dead positions, selection, density
curves, and the rollout of gradual corrections.
-/

namespace Sys2Proof.Machine

/-- A number below 32 as a head port. -/
def headPort (n : Nat) : HeadPort := ⟨n % 32, Nat.mod_lt _ (by decide)⟩

/-! ### The nozzle map parcel (R198, R199) -/

/-- A row record (R198). -/
def parseRow (n : Nat) : RowRec :=
  { lagFwd := n % 128, lagRev := n / 256 % 128, subFwd := n / 65536 % 256, subRev := n / 16777216 % 256 }

/-- Row record r of a head record of six words. -/
def rowBits (ws : List Word) (r : Nat) : Nat := bits (wordAt ws (2 + r / 2)) (32 * (r % 2) + 31) (32 * (r % 2))

/-- A head record (R198). -/
def parseHead (ws : List Word) : HeadRec :=
  let w0 := wordAt ws 0
  { port := headPort (bits w0 4 0), nozzles := bits w0 21 8, derate := wordAt ws 1
    rows := (List.range (bits w0 25 22)).map (fun r => parseRow (rowBits ws r)) }

/-- A head record breaks the layout of R198. -/
def headBad (ws : List Word) : Bool :=
  let w0 := wordAt ws 0
  let nz := bits w0 21 8
  let rows := bits w0 25 22
  decide (bits w0 7 5 ≠ 0) || decide (bits w0 63 26 ≠ 0) || decide (nz = 0) || decide (8192 < nz)
    || decide (rows = 0) || decide (8 < rows)
    || (List.range 8).any (fun r =>
      let n := rowBits ws r
      if r < rows then n / 128 % 2 ≠ 0 || n / 32768 % 2 ≠ 0 else n ≠ 0)

/-- A position entry (R198). -/
def parsePos (w : Word) : PosEntry :=
  { a := { nozzle := ⟨headPort (bits w 4 0), bits w 17 5⟩, curve := bits w 23 18, row := bits w 26 24 }
    b := if bitAt w 27 then
        some { nozzle := ⟨headPort (bits w 32 28), bits w 45 33⟩, curve := bits w 51 46, row := bits w 54 52 }
      else none }

/-- A position entry breaks the layout of R198. -/
def posBad (w : Word) : Bool := decide (bits w 63 55 ≠ 0) || (!bitAt w 27 && decide (bits w 54 28 ≠ 0))

/-- HEADS of a NOZZLE_MAP payload (R198). -/
def mapHeads (ws : List Word) : Nat := bits (wordAt ws 0) 38 33
/-- STITCH_ZONES of a NOZZLE_MAP payload (R198). -/
def mapZones (ws : List Word) : Nat := bits (wordAt ws 1) 23 18
/-- POSITIONS of a NOZZLE_MAP payload (R198). -/
def mapP (ws : List Word) : Nat := bits (wordAt ws 1) 17 0
/-- Words of the parts of a NOZZLE_MAP payload (R198). -/
def mapWords (ws : List Word) : Nat := 68 + 6 * mapHeads ws + 2 * mapZones ws + mapP ws

/-- The nozzle map of a payload (R198). -/
def parseMap (ws : List Word) : NozzleMap :=
  let w0 := wordAt ws 0
  let w1 := wordAt ws 1
  let zoneAt := 68 + 6 * mapHeads ws
  { id := BitVec.ofNat 32 (bits w0 31 0), spares := bitAt w0 32, rollout := bitAt w0 39
    rolloutK := bits w0 47 40, posDir := bitAt w1 24, pitchNm := bits w1 51 32
    curves := slice ws 4 64
    heads := (List.range (mapHeads ws)).map (fun h => parseHead (slice ws (68 + 6 * h) 6))
    zones := (List.range (mapZones ws)).map (fun z =>
      { first := bits (wordAt ws (zoneAt + 2 * z)) 16 0, width := bits (wordAt ws (zoneAt + 2 * z + 1)) 8 0 })
    positions := (slice ws (zoneAt + 2 * mapZones ws) (mapP ws)).map parsePos }

/-- Reason 1 of R199. -/
def mapLayoutBad (ws : List Word) : Bool :=
  let w0 := wordAt ws 0
  let w1 := wordAt ws 1
  let k := bits w0 47 40
  let pitch := bits w1 51 32
  let zoneAt := 68 + 6 * mapHeads ws
  decide (bits w0 31 0 = 0) || decide (mapHeads ws = 0) || decide (32 < mapHeads ws) || decide (k = 0) || decide (64 < k)
    || decide (bits w0 63 48 ≠ 0) || decide (31 < mapZones ws) || decide (bits w1 31 25 ≠ 0)
    || decide (pitch < 1000) || decide (1000000 < pitch) || decide (bits w1 63 52 ≠ 0)
    || decide (wordAt ws 2 ≠ 0) || decide (wordAt ws 3 ≠ 0) || decide (ws.length < mapWords ws)
    || (List.range (mapHeads ws)).any (fun h => headBad (slice ws (68 + 6 * h) 6))
    || (List.range (mapZones ws)).any (fun z =>
      let a := wordAt ws (zoneAt + 2 * z)
      let b := wordAt ws (zoneAt + 2 * z + 1)
      bits a 63 17 ≠ 0 || bits b 63 9 ≠ 0 || bits b 8 0 < 2 || 256 < bits b 8 0)
    || (slice ws (zoneAt + 2 * mapZones ws) (mapP ws)).any posBad
    || !allZero (ws.drop (mapWords ws))

/-- The head record of a port. -/
def NozzleMap.head (m : NozzleMap) (p : HeadPort) : Option HeadRec := m.heads.find? (fun h => h.port == p)

/-- The candidates of a position entry. -/
def PosEntry.cands (e : PosEntry) : List Cand := e.a :: e.b.toList

/-- The map names a nozzle that its head records do not hold (R199, reason 3). -/
def candBad (m : NozzleMap) (c : Cand) : Bool :=
  match m.head c.nozzle.port with
  | none => true
  | some h => decide (h.nozzles ≤ c.nozzle.index) || decide (h.rows.length ≤ c.row)

/-- A zone lies within the map, in order, on two heads, with the other candidates of those heads on the right side (R185,
R199 reason 7). prevEnd: one past the last position of the zone before. -/
def zoneBad (m : NozzleMap) (z : Zone) (prevEnd : Nat) : Bool :=
  let p := m.positions.length
  let zone := (m.positions.drop z.first).take z.width
  let below := m.positions.take z.first
  let above := m.positions.drop (z.first + z.width)
  decide (z.first < prevEnd) || decide (p < z.first + z.width)
    || match zone.head?, zone.head?.bind PosEntry.b with
      | some e, some b =>
        let lower := e.a.nozzle.port
        let upper := b.nozzle.port
        decide (lower = upper)
          || zone.any (fun e => e.a.nozzle.port ≠ lower || (e.b.map (·.nozzle.port)) ≠ some upper)
          || above.any (fun e => e.cands.any (fun c => c.nozzle.port == lower))
          || below.any (fun e => e.cands.any (fun c => c.nozzle.port == upper))
      | _, _ => true

/-- Reason 7 of R199 over all zones. -/
def zonesBad (m : NozzleMap) : List Zone → Nat → Bool
  | [], _ => false
  | z :: zs, prevEnd => zoneBad m z prevEnd || zonesBad m zs (z.first + z.width)

/-- The reason of R199, first that applies; none: the map passes. -/
def mapReason (ws : List Word) : Option Nat :=
  let m := parseMap ws
  let p := mapP ws
  let cands := m.positions.flatMap PosEntry.cands
  if mapLayoutBad ws then some 1
  else if p % 1024 ≠ 0 ∨ p < 1024 ∨ (if m.spares then 65536 else 131072) < p then some 2
  else if ¬ (m.heads.map (·.port)).Nodup ∨ cands.any (candBad m) then some 3
  else if ¬ (cands.map (·.nozzle)).Nodup then some 4
  else if m.positions.any (fun e => e.b.isSome ≠ m.spares) then some 5
  else if m.heads.any (fun h => h.rows.any (fun r => decide (64 < r.lagFwd) || decide (64 < r.lagRev))) then some 6
  else if (m.zones ≠ [] ∧ ¬ m.spares) ∨ zonesBad m m.zones 0 then some 7
  else if m.curves.any (fun c => bits c 3 0 ≠ 0) ∨ m.heads.any (fun h => bits h.derate 3 0 ≠ 0) then some 8
  else none

/-- Two maps differ only in their curve words and curve indices, apart from identifier and rollout fields (R200). -/
def sameGeometry (a b : NozzleMap) : Bool :=
  decide (a.spares = b.spares ∧ a.posDir = b.posDir ∧ a.pitchNm = b.pitchNm ∧ a.heads = b.heads ∧ a.zones = b.zones)
    && decide (a.positions.map (fun e => (e.a.nozzle, e.a.row, e.b.map (fun b => (b.nozzle, b.row))))
      = b.positions.map (fun e => (e.a.nozzle, e.a.row, e.b.map (fun b => (b.nozzle, b.row)))))

/-! ### Curves and rollout -/

/-- Entry c of a packed 16-entry curve (R198). -/
def curveAt (w : Word) (c : Nat) : Nat := bits w (4 * (c % 16) + 3) (4 * (c % 16))

/-- The curve a map gives each candidate it names, in order of head port, then nozzle index (R194). -/
def NozzleMap.curveList (m : NozzleMap) : List (Nozzle × Word) :=
  sortBy (fun a b => decide (a.1.port < b.1.port) || (decide (a.1.port = b.1.port) && decide (a.1.index ≤ b.1.index)))
    (m.positions.flatMap (fun e => e.cands.map (fun c => (c.nozzle, wordAt m.curves c.curve))))

/-- The value a list gives a nozzle, if it names it. -/
def lookupNozzle {α : Type} (l : List (Nozzle × α)) (n : Nozzle) : Option α := (l.find? (fun p => p.1 == n)).map (·.2)

/-- The 16 bits of a number reversed (R195). -/
def bitrev16 (n : Nat) : Nat := (List.range 16).foldl (fun acc i => acc + (n / 2 ^ i % 2) * 2 ^ (15 - i)) 0

/-- The page on which nozzle t switches (R195). -/
def rolloutPage (t k : Nat) : Nat := 1 + bitrev16 (t % 65536) * k / 65536

/-- The nozzles that still use their old curve on rollout page i, with it (R195). -/
def Rollout.oldOn (r : Rollout) (i : Nat) : List (Nozzle × Word) :=
  (r.old.zipIdx.filter (fun p => decide (i < rolloutPage p.2 r.k))).map (·.1)

/-- The affected nozzles of a rollout from one set of effective curves to another (R194), each with its old curve. -/
def affected (old new : List (Nozzle × Word)) : List (Nozzle × Word) :=
  new.filterMap (fun p => match lookupNozzle old p.1 with
    | some w => if w = p.2 then none else some (p.1, w)
    | none => none)

/-- The curve of a candidate on a page: the page's own where it differs from the map's (R187, R195). -/
def PageCtx.curve (c : PageCtx) (k : Cand) : Word :=
  (lookupNozzle c.curves k.nozzle).getD (wordAt c.map.curves k.curve)

/-- The write stage's code for one candidate (R176, R187). -/
def PageCtx.written (c : PageCtx) (k : Cand) (code : Nat) : Nat :=
  min (curveAt (c.curve k) code) (maxCode (modeDepth c.desc.mode))

/-- The write stage for one line of positions (R176). -/
def PageCtx.writeLine (c : PageCtx) (codes : List Nat) : List (Nat × Nat) :=
  (c.map.positions.zip codes).map (fun p =>
    (c.written p.1.a p.2, match p.1.b with
      | some b => c.written b p.2
      | none => 0))

/-! ### Dead positions and selection -/

/-- The nozzle is in the page's failed set (R178). -/
def PageCtx.failedNozzle (c : PageCtx) (k : Cand) : Bool := c.failed.contains k.nozzle

/-- A position is dead (R179). -/
def PageCtx.deadEntry (c : PageCtx) (e : PosEntry) : Bool :=
  c.failedNozzle e.a && match e.b with
    | none => true
    | some b => c.failedNozzle b

/-- The stitch zone that holds position p. -/
def NozzleMap.zoneOf (m : NozzleMap) (p : Nat) : Option Zone :=
  m.zones.find? (fun z => decide (z.first ≤ p) && decide (p < z.first + z.width))

/-- The ordered-dither matrix D (R186). -/
def ditherD (y p : Nat) : Nat :=
  let a := Nat.xor (p % 16) (y % 16)
  let b := y % 16
  (List.range 4).foldl (fun acc k => acc + (a / 2 ^ k % 2) * 2 ^ (7 - 2 * k) + (b / 2 ^ k % 2) * 2 ^ (6 - 2 * k)) 0

/-- The stitch mask names B for position p on page line y (R186). -/
def stitchB (z : Zone) (y p : Nat) : Bool := decide (ditherD y p < (p - z.first + 1) * 256 / (z.width + 1))

/-- Which candidate fires (R180). -/
inductive Pick where
  | none | a | b
deriving DecidableEq, Repr

/-- The selected candidate of position p on page line y (R180). -/
def PageCtx.select (c : PageCtx) (p : Nat) (e : PosEntry) (y : Nat) : Pick :=
  if c.deadEntry e then .none
  else
    let aBad := c.failedNozzle e.a
    match e.b with
    | none => .a
    | some b =>
      let bBad := c.failedNozzle b
      if c.forced.getLsbD e.a.nozzle.port.val ∧ ¬ bBad then .b
      else match c.map.zoneOf p with
        | some z =>
          if stitchB z y p then (if bBad then .a else .b) else (if aBad then .b else .a)
        | none => if aBad then .b else .a

/-- The row record of a candidate. -/
def NozzleMap.rowOf (m : NozzleMap) (k : Cand) : RowRec :=
  match m.head k.nozzle.port with
  | some h => h.rows.getD k.row ⟨0, 0, 0, 0⟩
  | none => ⟨0, 0, 0, 0⟩

/-- Lag of a candidate in the page's direction (R183). -/
def PageCtx.lag (c : PageCtx) (k : Cand) : Nat := (c.map.rowOf k).lag c.desc

/-- The codes the cistern holds for position p on composed line y, if its band is present (R183, R208). -/
def PageCtx.slotCodes (c : PageCtx) (p y : Nat) : Option (Nat × Nat) :=
  (c.cistern.find? (fun b => b.order == c.desc.bandOfLine y)).map (fun b =>
    (b.lines.getD (c.desc.lineOf y % 64) []).getD p (0, 0))

/-- The band that holds composed line y is present in the cistern, or y lies outside the page (R208). -/
def PageCtx.present (c : PageCtx) (y : Int) : Bool :=
  if y < 0 ∨ (c.desc.length : Int) ≤ y then true
  else c.cistern.any (fun b => b.order == c.desc.bandOfLine y.toNat)

/-- The lags of every row of the map in the page's direction. -/
def PageCtx.lags (c : PageCtx) : List Nat := c.map.heads.flatMap (fun h => h.rows.map (fun r => r.lag c.desc))

end Sys2Proof.Machine
end

