-- ==== Sys2Proof/Machine/Compose.lean ====
section
/-!
DEFINITION. What a furrow engine computes (05_furrow_engines.md): composition, screening, dead-position redistribution, the
expected-density record, and the permitted line rate.
-/

namespace Sys2Proof.Machine

/-- The layer of an identifier. -/
def findLayer (layers : List Layer) (id : LayerId) : Option Layer := layers.find? (fun l => l.desc.id == id)

/-- Effective extent of a reference of a page, in lines and last position (R162): the layer's rectangle, cut to the
rendered image for a generated layer. none: a generated layer that does not apply to the page (R163). -/
def extent (c : PageCtx) (ref : Nat) (d : LayerDesc) : Option (Nat × Nat) :=
  if d.generated then
    (c.images.find? (fun i => i.1 == ref)).map (fun i => (min d.lines i.2.2, min d.lastPos (d.posOffset + i.2.1 - 1)))
  else some (d.lines, d.lastPos)

/-- The layer descriptor cut to its effective extent (R138, R162). -/
def cutDesc (c : PageCtx) (ref : Nat) (d : LayerDesc) : Option LayerDesc :=
  (extent c ref d).map (fun e => { d with lines := e.1, positions := e.2 + 1 - d.posOffset })

/-- The block fetches of engine s for page band b: reference index, second block, layer band, descriptor (R98, R133 step 2). -/
def fetchPlan (c : PageCtx) (layers : List Layer) (s b : Nat) : List (Nat × Bool × Nat × LayerDesc) :=
  c.desc.refs.zipIdx.flatMap (fun (r, i) =>
    match findLayer layers r.layer with
    | none => []
    | some l =>
      match cutDesc c i l.desc with
      | none => []
      | some cut =>
        if cut.covers c.map.positions.length s then
          (drawnBands c.desc r cut.lines b).zipIdx.map (fun (j, n) => (i, n == 1, j, l.desc))
        else [])

/-- What the index entry of a fetch promises of its block (R118). -/
def fetchExpect (p s j : Nat) (d : LayerDesc) : BlockExpect :=
  let lw := d.lineWords p s
  { layer := d.id.toNat, segment := s, band := j, lineWords := lw.1 + lw.2, lines := linesOfBand d.lines j
    stamp := d.kind == .stamp }

/-- The code of a depth-n entry of a line of words, for position p when the words start at position base (R34). -/
def codeIn (n : Nat) (ws : List Word) (base p : Nat) : Nat := packedAt n ws (p - base)

/-- Position of the first entry of the first word that holds position lo, n bits to a position (R89). -/
def wordBase (n segStart lo : Nat) : Nat := segStart + (lo - segStart) / (64 / n) * (64 / n)

/-- A tone screened to a code of depth d (R140). -/
def screenCode (a : ThresholdArray) (d page p tone : Nat) : Nat :=
  let v := a.curve.getD tone 0
  let t := a.thresholds.getD (256 * ((page + a.yPhase) % 256) + (p + a.xPhase) % 256) 0
  let s := v * maxCode d
  let q := s / 4095
  if t < s % 4095 then q + 1 else q

/-- The new code of a position from its code and the layer's code and mask bit (R137). -/
def mergeCode (k : LayerKind) (masked : Bool) (mode : Nat) (c x : Nat) (m : Bool) : Nat :=
  match k with
  | .overlay =>
    if masked && !m then c else if mode = 2 then max c x else x
  | _ => x

/-- One reference composed over the code c of position p on page line y of segment s (R137 to R139). fetch gives the
verified raw words of a layer band, if its block passed. -/
def composeRef (ctx : PageCtx) (s y p : Nat) (d cut : LayerDesc) (r : LayerRef)
    (fetch : Nat → Option (List Word)) (c : Nat) : Nat :=
  if y < r.lineOffset ∨ r.lineOffset + cut.lines ≤ y ∨ p < cut.firstPos ∨ cut.lastPos < p then c
  else
    let ll := y - r.lineOffset
    match fetch (ll / 64) with
    | none => c
    | some raw =>
      let pp := ctx.map.positions.length
      let (codeW, maskW) := d.lineWords pp s
      let line := slice raw ((ll % 64) * (codeW + maskW)) (codeW + maskW)
      let segStart := s * segWidth pp
      let lo := (d.inSegment pp s).1
      let n := depthBits d.depth
      let x := codeIn n (line.take codeW) (wordBase n segStart lo) p
      let m := if d.masked then codeIn 1 (line.drop codeW) (wordBase 1 segStart lo) p = 1 else true
      let x := if d.kind = .contone then
          match ctx.arrays[r.array] with
          | some a => screenCode a (modeDepth ctx.desc.mode) y p x
          | none => 0
        else x
      mergeCode d.kind d.masked r.maskMode.toNat c x m

/-- The verified raw words a band of an engine holds for a layer band of a reference (R119). -/
def fetched (w : BandWork) (plan : List (Nat × Bool × Nat × LayerDesc)) (s ref j : Nat) : Option (List Word) :=
  match plan.find? (fun e => e.1 == ref && e.2.2.1 == j) with
  | none => none
  | some e =>
    match w.fetches.find? (fun f => f.seg.val == s && f.ref == ref && f.second == e.2.1) with
    | some f => if f.reason = 0 then some f.words else none
    | none => none

/-- Phase 1 of engine s for a band: one list of codes per page line of the band (R133 step 3, R137). -/
def phase1Codes (ctx : PageCtx) (layers : List Layer) (w : BandWork) (s : Nat) : List (List Nat) :=
  let b := ctx.desc.bandAt w.order
  let sw := segWidth ctx.map.positions.length
  let plan := fetchPlan ctx layers s b
  let refs := ctx.desc.refs.zipIdx.filterMap (fun (r, i) =>
    match findLayer layers r.layer with
    | none => none
    | some l => (cutDesc ctx i l.desc).map (fun cut => (r, i, l.desc, cut)))
  (List.range (linesOfBand ctx.desc.length b)).map (fun ln =>
    (List.range sw).map (fun q =>
      refs.foldl (fun c (r, i, d, cut) =>
        composeRef ctx s (64 * b + ln) (s * sw + q) d cut r (fetched w plan s i) c) 0))

/-- INC_k of a REDIST curve of depth d for code c (R143). -/
def redistInc (sets : ScreenSets) (d k c : Nat) : Nat :=
  let t := if d = 1 then 0 else if d = 2 then 1 else 2
  sets.redist.getD (16 * t + c) 0 / 16 ^ (k - 1) % 16

/-- Redistribution of one line (R148): row holds the phase-1 codes of positions lo to lo + row.length − 1, own those
of the segment, which starts at start. -/
def redistribute (sets : ScreenSets) (d : Nat) (dead : Nat → Bool) (row : Nat → Option Nat) (q c : Nat) : Nat :=
  if dead q then 0
  else
    let inc (k : Nat) (p : Option Nat) : Nat :=
      match p with
      | none => 0
      | some p => if dead p then redistInc sets d k ((row p).getD 0) else 0
    let sum := (List.range 4).foldl (fun acc i =>
      let k := i + 1
      acc + inc k (if k ≤ q then some (q - k) else none) + inc k (some (q + k))) 0
    min (maxCode d) (c + sum)

/-- Phase 2 of engine s for a band: the codes handed to the nozzle mapper (R133 step 5, R148). phase1 holds the codes of
every engine that has ended phase 1. -/
def phase2Codes (ctx : PageCtx) (phase1 : Nat → Option (List (List Nat))) (s : Nat) : List (List Nat) :=
  let sw := segWidth ctx.map.positions.length
  let p := ctx.map.positions.length
  let dead := fun q => match ctx.map.positions[q]? with
    | some e => ctx.deadEntry e
    | none => false
  let own := (phase1 s).getD []
  own.zipIdx.map (fun (line, ln) =>
    let row := fun (q : Nat) => if p ≤ q then none else ((phase1 (q / sw)).getD []).getD ln [] |>.getD (q % sw) 0 |> some
    line.zipIdx.map (fun (c, i) =>
      redistribute ctx.sets (modeDepth ctx.desc.mode) (fun q => decide (q < p) && dead q) row (s * sw + i) c))

/-- log2 of 1, 2, 4, 8 or 16. -/
def log2Of (n : Nat) : Nat :=
  if n ≤ 1 then 0 else if n ≤ 2 then 1 else if n ≤ 4 then 2 else if n ≤ 8 then 3 else 4

/-- Weight w(v) at depth d (R146). -/
def weightOf (sets : ScreenSets) (d v : Nat) : Nat :=
  let t := if d = 1 then 0 else if d = 2 then 1 else 2
  sets.weights.getD (16 * t + v) 0

/-- Value of one bin (R151). lines: the codes of the bin's lines within the page, restricted to its positions. -/
def binValue (sets : ScreenSets) (d : Nat) (lines : List (List Nat)) : Nat :=
  let s := (lines.map (fun l => (l.map (weightOf sets d)).sum)).sum
  let n := (lines.map List.length).sum
  (s + n / 2) / n

/-- The expected-density record of a band and segment (R150 to R152). -/
def densityRecord (ctx : PageCtx) (s b : Nat) (codes : List (List Nat)) : DensityRec :=
  let d := modeDepth ctx.desc.mode
  let sw := segWidth ctx.map.positions.length
  let header := word [fld 0 32 ctx.desc.id.toNat, fld 32 4 s, fld 36 18 b, fld 54 3 (log2Of ctx.gp),
    fld 57 3 (log2Of ctx.gl)]
  let rows := (List.range (ceilDiv codes.length ctx.gl)).flatMap (fun g =>
    let lines := (codes.drop (g * ctx.gl)).take ctx.gl
    packAll 8 ((List.range (sw / ctx.gp)).map (fun i =>
      binValue ctx.sets d (lines.map (fun l => (l.drop (i * ctx.gp)).take ctx.gp)))))
  { prep := ctx.prep, segment := s, band := b, words := header :: rows }

/-! ### Engine cost and permitted rate (R166 to R168) -/

/-- What the permitted rate of a page is computed from (R170). image: width and height of the rendered image of a
generated reference at its worst case, none where the layer does not apply. -/
structure CostCtx where
  desc   : PageDesc
  p      : Nat
  layers : List Layer
  image  : Nat → Option (Nat × Nat)
  isDm   : Nat → Bool

/-- The references of a page with their layers and extents. -/
def CostCtx.refs (c : CostCtx) : List (LayerRef × Nat × Layer × LayerDesc) :=
  c.desc.refs.zipIdx.filterMap (fun (r, i) =>
    match findLayer c.layers r.layer with
    | none => none
    | some l =>
      if l.desc.generated then
        (c.image i).map (fun wh => (r, i, l, { l.desc with
          lines := min l.desc.lines wh.2, positions := min l.desc.positions wh.1 }))
      else some (r, i, l, l.desc))

/-- Lines of page band b that a reference covers. -/
def coveredLines (d : PageDesc) (r : LayerRef) (lines b : Nat) : Nat :=
  min (min (64 * b + 64) d.length) (r.lineOffset + lines) - max (64 * b) r.lineOffset

/-- Words of one line of segment s that hold a position of the extent, at n bits. -/
def extentWords (d : LayerDesc) (p s n : Nat) : Nat :=
  let (lo, hi) := d.inSegment p s
  if hi < lo then 0 else (coveredWords n (s * segWidth p) lo hi).2

/-- Cycles of one covered word (R166). -/
def refCost (k : LayerKind) (masked : Bool) (depth : Nat) : Nat :=
  match k with
  | .contone => if depth = 1 then 10 else if depth = 2 then 6 else 4
  | _ => if masked then 3 else 2

/-- E1 of band b in segment s (R166): covered words are words of the segment line, at the page's depth. -/
def CostCtx.e1 (c : CostCtx) (s b : Nat) : Nat :=
  let depth := modeDepth c.desc.mode
  3000 + 40 * linesOfBand c.desc.length b + (c.refs.map (fun (r, _, l, cut) =>
    refCost l.desc.kind l.desc.masked depth * coveredLines c.desc r cut.lines b * extentWords cut c.p s depth)).sum

/-- E2 of band b (R166). -/
def CostCtx.e2 (c : CostCtx) (b : Nat) : Nat :=
  linesOfBand c.desc.length b * packedWords (modeDepth c.desc.mode) (segWidth c.p)
    * (if c.desc.inspect then 3 else 2)

/-- The blocks band b draws on in segment s: RAW_WORDS, and WORDS of the index for a host block (R166). -/
def CostCtx.blocks (c : CostCtx) (s b : Nat) : List (Nat × Option Nat) :=
  c.refs.flatMap (fun (r, _, l, cut) =>
    if cut.covers c.p s then
      (drawnBands c.desc r cut.lines b).map (fun j =>
        let lw := l.desc.lineWords c.p s
        (linesOfBand l.desc.lines j * (lw.1 + lw.2),
          if l.desc.generated then none
          else (l.blocks.find? (fun k => k.segment == s && k.band == j)).map (·.count)))
    else [])

/-- Decompressor cost (R166). -/
def CostCtx.dec (c : CostCtx) (s b : Nat) : Nat :=
  ((c.blocks s b).map (fun k => k.1 + k.2.getD 3)).sum

/-- C_b (R167). -/
def CostCtx.band (c : CostCtx) (b : Nat) : Nat :=
  ((List.range 16).map (fun s => max (c.e1 s b) (c.dec s b))).foldl max 0 + c.e2 b

/-- F_b in bytes (R168). -/
def CostCtx.fetch (c : CostCtx) (b : Nat) : Nat :=
  8 * ((List.range 16).map (fun s => ((c.blocks s b).map (fun k => k.2.getD (k.1 + 3))).sum)).sum

/-- Greatest rendering cost of any engine (R166, R168). DESIGN CHOICE: the words that count as rendered, 4 cycles each, are those of the
reference's effective extent, while F_b takes the blocks of the whole layer; the spec does not say which (log 10). -/
def CostCtx.render (c : CostCtx) : Nat :=
  ((List.range 16).map (fun s => (c.refs.map (fun (_, i, l, cut) =>
    if l.desc.generated ∧ cut.covers c.p s then
      (if c.isDm i then 40000 else 10000) + 4 * cut.lines * extentWords cut c.p s (depthBits l.desc.depth)
    else 0)).sum)).foldl max 0

/-- The permitted line rate of a page (R168). -/
def CostCtx.rate (c : CostCtx) : Nat :=
  let rate := (List.range c.desc.bands).foldl (fun rate b =>
    let cyc := c.band b + if b = 0 then c.render else 0
    let window := if b = 0 then 96 else 64
    let rate := min rate (1600000000 * window / cyc)
    let f := c.fetch b
    if f = 0 then rate else min rate (27000000000 * window / f)) 400000
  max 2000 (rate - rate % 2000)

end Sys2Proof.Machine
end

