-- ==== Sys2Proof/Machine/Render.lean ====
section
/-!
DEFINITION. Glyph sets, generators and generated stamps (05_furrow_engines.md, R154 to R165).
-/

namespace Sys2Proof.Machine

/-! ### Glyph sets (R154, R155) -/

/-- The glyph set of a GLYPH_SET payload, if it obeys R154. -/
def parseGlyphSet (ws : List Word) : Option GlyphSet :=
  let w0 := wordAt ws 0
  let id := bits w0 31 0
  let cw := bits w0 38 32
  let ch := bits w0 46 40
  let total := 4 + 95 * ch
  let rows := slice ws 4 (95 * ch)
  if id = 0 ∨ id = 0xFFFFFFFF ∨ cw = 0 ∨ 64 < cw ∨ ch = 0 ∨ 64 < ch ∨ bits w0 39 39 ≠ 0 ∨ bits w0 63 47 ≠ 0
      ∨ ¬ allZero (slice ws 1 3) ∨ ws.length ≠ ceilDiv total 8 * 8 ∨ ¬ allZero (ws.drop total)
      ∨ rows.any (fun r => decide (2 ^ cw ≤ r.toNat)) then none
  else some { id := BitVec.ofNat 32 id, cellW := cw, cellH := ch, rows := rows }

/-! ### Generators (R156 to R158) -/

/-- The square ECC 200 sizes 10 to 52 with their data capacity in codewords (R156, R158; log 6). -/
def symbolCapacity (size : Nat) : Option Nat :=
  match size with
  | 10 => some 3 | 12 => some 5 | 14 => some 8 | 16 => some 12 | 18 => some 18 | 20 => some 22 | 22 => some 30
  | 24 => some 36 | 26 => some 44 | 32 => some 62 | 36 => some 86 | 40 => some 114 | 44 => some 144 | 48 => some 174
  | 52 => some 204 | _ => none

/-- The template bytes of a define-generator docket (R156). -/
def templateBytes (ws : List Word) : List Byte := (bytesOf (ws.drop 4)).take (bits (wordAt ws 2) 6 0)

/-- A field of the define-generator docket breaks R156. -/
def generatorFieldBad (ws : List Word) : Bool :=
  let w0 := wordAt ws 0
  let w1 := wordAt ws 1
  let w2 := wordAt ws 2
  let id := bits w0 31 0
  let typ := bits w0 35 32
  let len := bits w2 6 0
  let dig := bits w2 11 8
  decide (id = 0) || decide (id = 0xFFFFFFFF) || decide (typ = 0) || decide (2 < typ) || decide (bits w0 39 36 = 0)
    || decide (bits w0 63 41 ≠ 0) || decide (bits w1 63 52 ≠ 0) || decide (len = 0) || decide (96 < len)
    || decide (bits w2 7 7 ≠ 0) || decide (dig = 0) || decide (bits w2 63 12 ≠ 0) || decide (wordAt ws 3 ≠ 0)
    || decide (ws.length ≠ 4 + ceilDiv len 8)
    || !((bytesOf (ws.drop 4)).drop len).all (· == 0)
    || (if typ = 2 then decide (bits w1 31 0 ≠ 0) || (symbolCapacity (bits w1 39 32)).isNone
          || decide (bits w1 43 40 = 0) || decide (bits w1 47 44 = 0)
        else decide (bits w1 51 32 ≠ 0))

/-- The generator of a define-generator docket (R156). -/
def parseGenerator (ws : List Word) : Generator :=
  let w0 := wordAt ws 0
  let w1 := wordAt ws 1
  { id := BitVec.ofNat 32 (bits w0 31 0), datamatrix := bits w0 35 32 == 2, ink := bits w0 39 36
    rotate := bitAt w0 40, glyphSet := BitVec.ofNat 32 (bits w1 31 0), symbolSize := bits w1 39 32
    moduleW := bits w1 43 40, moduleH := bits w1 47 44, quiet := bits w1 51 48
    digits := bits (wordAt ws 2) 11 8, template := templateBytes ws }

/-- A template byte that is neither printable nor a placeholder (R157, R158 reason 2). -/
def templateByteBad (b : Byte) : Bool := !((0x20 ≤ b && b ≤ 0x7E) || b == 1 || b == 2)

/-- Codewords of the worst-case string (R158 reason 3). -/
def worstLength (t : List Byte) : Nat := (t.map (fun b => if b = 1 then 15 else if b = 2 then 8 else 1)).sum

/-- The template holds a placeholder (R157, R163). -/
def Generator.placeholder (g : Generator) : Bool := g.template.any (fun b => b == 1 || b == 2)

/-- The decimal digits of a number, most significant first. -/
def decimal : Nat → Nat → List Nat
  | 0, _ => []
  | fuel + 1, n => if n < 10 then [n] else decimal fuel (n / 10) ++ [n % 10]

/-- The serial as characters: decimal, with leading zeros to a number of digits (R157). -/
def serialText (digits : Nat) (serial : BitVec 48) : List Byte :=
  let ds := decimal 15 serial.toNat
  (List.replicate (digits - ds.length) 0 ++ ds).map (fun d => BitVec.ofNat 8 (0x30 + d))

/-- The alphabet of the code MAC (R157). -/
def macAlphabet : List Nat :=
  [0x30, 0x31, 0x32, 0x33, 0x34, 0x35, 0x36, 0x37, 0x38, 0x39, 0x41, 0x42, 0x43, 0x44, 0x45, 0x46] ++
  [0x47, 0x48, 0x4A, 0x4B, 0x4D, 0x4E, 0x50, 0x51, 0x52, 0x53, 0x54, 0x56, 0x57, 0x58, 0x59, 0x5A]

/-- The MAC as 8 characters, most significant 5 bits first (R157). -/
def macText (mac : BitVec 40) : List Byte :=
  (List.range 8).map (fun i => BitVec.ofNat 8 (macAlphabet.getD (mac.toNat / 32 ^ (7 - i) % 32) 0))

/-- The string of a template for a serial and its MAC (R157). -/
def Generator.text (g : Generator) (s : BitVec 48 × BitVec 40) : List Byte :=
  g.template.flatMap (fun b => if b = 1 then serialText g.digits s.1 else if b = 2 then macText s.2 else [b])

/-- Width and height of the image of a string of n characters (R159, R160). -/
def Generator.imageSize (g : Generator) (glyphs : List GlyphSet) (n : Nat) : Nat × Nat :=
  if g.datamatrix then
    ((g.symbolSize + 2 * g.quiet) * g.moduleW, (g.symbolSize + 2 * g.quiet) * g.moduleH)
  else
    match glyphs.find? (fun s => s.id == g.glyphSet) with
    | some s => (n * s.cellW, s.cellH)
    | none => (0, 0)

/-- A digit 0 to 9. -/
def isDigit (b : Byte) : Bool := 0x30 ≤ b && b ≤ 0x39

/-- ASCII encodation: a pair of digits in one codeword, any other character in one of its own (R159; the values are PRESUMED from ISO/IEC
16022, log 6). -/
def asciiCodewords : List Byte → List Nat
  | a :: b :: rest =>
    if isDigit a && isDigit b then (130 + 10 * (a.toNat - 48) + (b.toNat - 48)) :: asciiCodewords rest
    else (a.toNat + 1) :: asciiCodewords (b :: rest)
  | [a] => [a.toNat + 1]
  | [] => []

/-- The pad codeword at a position counted from 1: 129 first, then its randomised form (R159; PRESUMED from ISO/IEC 16022, log 6). -/
def padCodeword (first : Bool) (pos : Nat) : Nat :=
  if first then 129
  else
    let v := 130 + (149 * pos) % 253
    if 254 < v then v - 254 else v

/-- The data codewords of a symbol: the string, then padding up to the symbol's capacity (R159). -/
def dataCodewords (size : Nat) (text : List Byte) : List Nat :=
  let cs := asciiCodewords text
  let cap := (symbolCapacity size).getD 0
  cs ++ (List.range (cap - cs.length)).map (fun i => padCodeword (i == 0) (cs.length + i + 1))

/-- Modules per side of a data region with its finder: four regions from 32 modules on (R159; PRESUMED from ISO/IEC 16022, log 6). -/
def regionSide (size : Nat) : Nat := if size < 32 then size else size / 2

/-- A dark module: the solid finder at column 0 and at the last row of a region, the alternating clock track at its row 0 and its last
column, and between them the data (R159). -/
def darkModule (size : Nat) (text : List Byte) (row col : Nat) : Bool :=
  let n := regionSide size
  let r := row % n
  let c := col % n
  if c = 0 ∨ r + 1 = n then true
  else if r = 0 then c % 2 == 0
  else if c + 1 = n then r % 2 == 1
  else Config.dataMatrix size (dataCodewords size text) row col

/-- Ink at image position i of image line j before rotation (R159, R160). -/
def Generator.inkAt (g : Generator) (glyphs : List GlyphSet) (text : List Byte) (i j : Nat) : Bool :=
  if g.datamatrix then
    let row := j / g.moduleH
    let col := i / g.moduleW
    decide (g.quiet ≤ row) && decide (row < g.quiet + g.symbolSize) && decide (g.quiet ≤ col)
      && decide (col < g.quiet + g.symbolSize) && darkModule g.symbolSize text (row - g.quiet) (col - g.quiet)
  else
    match glyphs.find? (fun s => s.id == g.glyphSet) with
    | none => false
    | some s =>
      let ch := (text.getD (i / s.cellW) 0x20).toNat
      bitAt (wordAt s.rows ((ch - 0x20) * s.cellH + j)) (i % s.cellW)

/-- The code at image position i of image line j (R161). -/
def Generator.codeAt (g : Generator) (glyphs : List GlyphSet) (text : List Byte) (depth i j : Nat) : Nat :=
  let (w, h) := g.imageSize glyphs text.length
  let (i, j) := if g.rotate then (w - 1 - i, h - 1 - j) else (i, j)
  if g.inkAt glyphs text i j then min g.ink (maxCode depth) else 0

/-- One reference of a page that a generated layer serves, with the layer, its generator and its string. none: the layer
does not apply to the page (R163). -/
def generatedRef (layers : List Layer) (gens : List Generator) (serial : Option (BitVec 48 × BitVec 40)) (r : LayerRef) :
    Option (Layer × Generator × List Byte) :=
  match findLayer layers r.layer with
  | none => none
  | some l =>
    if l.desc.generated then
      match gens.find? (fun g => g.id == l.desc.generator) with
      | none => none
      | some g =>
        match serial with
        | some s => some (l, g, g.text s)
        | none => if g.placeholder then none else some (l, g, g.text (0, 0))
    else none

/-- Width and height of the image of each generated reference that applies (R162). -/
def imagesOf (d : PageDesc) (layers : List Layer) (gens : List Generator) (glyphs : List GlyphSet)
    (serial : Option (BitVec 48 × BitVec 40)) : List (Nat × Nat × Nat) :=
  d.refs.zipIdx.filterMap (fun (r, i) =>
    (generatedRef layers gens serial r).map (fun (_, g, t) => (i, g.imageSize glyphs t.length)))

/-- The rendered blocks of a page (R164). -/
def renderBlocks (c : PageCtx) (layers : List Layer) (gens : List Generator) (glyphs : List GlyphSet) : List Rendered :=
  let p := c.map.positions.length
  let depth := modeDepth c.desc.mode
  c.desc.refs.zipIdx.flatMap (fun (r, i) =>
    match generatedRef layers gens c.serial r with
    | none => []
    | some (l, g, t) =>
      match cutDesc c i l.desc with
      | none => []
      | some cut =>
        ((List.range 16).filter (cut.covers p)).flatMap (fun s =>
          let lw := l.desc.lineWords p s
          let (lo, _) := l.desc.inSegment p s
          let base := wordBase depth (s * segWidth p) lo
          (List.range (bandsOf cut.lines)).map (fun j =>
            let lines := linesOfBand l.desc.lines j
            let raw := (List.range lines).flatMap (fun ln =>
              packList depth ((List.range (lw.1 * (64 / depth))).map (fun q =>
                let pos := base + q
                if pos < cut.firstPos ∨ cut.lastPos < pos ∨ cut.lines ≤ 64 * j + ln then 0
                else g.codeAt glyphs t depth (pos - cut.firstPos) (64 * j + ln))) lw.1)
            { ref := i, segment := s, band := j
              words := rawBlock s l.desc.id.toNat j lw.1 lines raw })))

/-- Width and height of the image of a generated reference at the worst-case string of R158, for the engine cost (R166, R170; log 10);
none where the layer does not apply to the page (R163). -/
def worstImage (d : PageDesc) (layers : List Layer) (gens : List Generator) (glyphs : List GlyphSet) (i : Nat) :
    Option (Nat × Nat) :=
  match d.refs[i]? with
  | none => none
  | some r =>
    match findLayer layers r.layer with
    | none => none
    | some l =>
      match gens.find? (fun g => g.id == l.desc.generator) with
      | none => none
      | some g =>
        if g.placeholder && !d.serialised then none else some (g.imageSize glyphs (worstLength g.template))

/-- The generator of a reference is a DATAMATRIX generator. -/
def isDatamatrix (d : PageDesc) (layers : List Layer) (gens : List Generator) (i : Nat) : Bool :=
  match d.refs[i]? with
  | none => false
  | some r =>
    match findLayer layers r.layer with
    | none => false
    | some l => match gens.find? (fun g => g.id == l.desc.generator) with
      | none => false
      | some g => g.datamatrix

/-! ### Screen parcels (R142 to R144) -/

/-- A section of a SCREEN payload (R142, R143). -/
inductive Section where
  | array (index : Fin 8) (a : ThresholdArray)
  | redist (es : List Nat)
  | weights (es : List Nat)
deriving DecidableEq, Repr

/-- Entry 0 of each of three curves is zero and so is every entry above 2^d − 1 (R144). -/
def tableBad (es : List Nat) : Bool :=
  es.zipIdx.any (fun (v, i) =>
    decide (v ≠ 0) && (decide (i % 16 = 0) || decide ((if i / 16 = 0 then 1 else if i / 16 = 1 then 3 else 15) < i % 16)))

/-- The sections of a SCREEN payload, if they obey R142 to R144; fuel is SECTIONS. -/
def parseSections : Nat → List Word → Option (List Section)
  | 0, ws => if allZero ws then some [] else none
  | fuel + 1, ws =>
    match ws with
    | [] => none
    | h :: body =>
      let typ := bits h 7 0
      let idx := bits h 10 8
      let xy := bits h 31 16
      if bits h 15 11 ≠ 0 ∨ bits h 63 32 ≠ 0 then none
      else if typ = 1 then
        if body.length < 16448 then none
        else
          let curve := (List.range 256).map (packedAt 16 (body.take 64))
          let th := (List.range 65536).map (packedAt 16 (slice body 64 16384))
          if curve.any (fun v => decide (4096 ≤ v)) ∨ th.any (fun v => decide (4094 < v)) then none
          else (parseSections fuel (body.drop 16448)).map
            (.array ⟨idx % 8, Nat.mod_lt _ (by decide)⟩
              { xPhase := xy % 256, yPhase := xy / 256, curve := curve, thresholds := th } :: ·)
      else if idx ≠ 0 ∨ xy ≠ 0 then none
      else if typ = 2 then
        let es := (List.range 48).map (packedAt 16 (body.take 12))
        if body.length < 12 ∨ tableBad es then none
        else (parseSections fuel (body.drop 12)).map (.redist es :: ·)
      else if typ = 3 then
        let es := (List.range 48).map (packedAt 8 (body.take 6))
        if body.length < 6 ∨ tableBad es then none
        else (parseSections fuel (body.drop 6)).map (.weights es :: ·)
      else none

/-- What two sections must not share (R144). -/
def Section.key : Section → Nat
  | .array i _ => i.val
  | .redist _ => 8
  | .weights _ => 9

/-- The sections of a SCREEN payload, or none where SCREEN_BAD applies (R144). -/
def parseScreen (ws : List Word) : Option (List Section) :=
  let w0 := wordAt ws 0
  let n := bits w0 7 0
  if n = 0 ∨ 10 < n ∨ bits w0 63 8 ≠ 0 ∨ ¬ allZero (slice ws 1 3) then none
  else match parseSections n (ws.drop 4) with
    | none => none
    | some ss => if (ss.map Section.key).Nodup then some ss else none

end Sys2Proof.Machine
end

