-- ==== Sys2Proof/Machine/StoreOps.lean ====
section
/-!
DEFINITION. The page table and the layer table (03_page_store_and_parcels.md): page states and the evaluation of pages.
-/

namespace Sys2Proof.Machine

/-! ### Band fetches and the clients that yield to them (R133, R210) -/

/-- Every fetch of an engine's band has ended (R133 step 2). -/
def PageCtx.fetchesDone (c : PageCtx) (layers : List Layer) (k : EngineNo) (w : BandWork) : Bool :=
  (fetchPlan c layers k.val (c.desc.bandAt w.order)).all (fun e =>
    w.fetches.any (fun f => f.seg == k && f.ref == e.1 && f.second == e.2.1))

/-- An engine waits for a fetch of its band. -/
def State.bandFetchPending (s : State) : Bool :=
  (List.finRange 16).any (fun k => match s.eng.engines[k].busy with
    | none => false
    | some (fb, order) => match (if fb then s.eng.fallbackCtx else s.eng.queueCtx) with
      | none => false
      | some c => match c.bands.find? (fun w => w.order == order) with
        | none => false
        | some w => w.phase1[k].isNone && !c.fetchesDone s.store.layers k w)

/-- Mirroring reads, tap writes, print-log export writes and bulk transfers issue nothing now: a band fetch is pending at urgency level 2 or
3 (R210). -/
def State.yields (s : State) : Bool := decide (2 ≤ s.cist.level) && s.bandFetchPending

/-! ### Read requests of the headrace (R79, R210, R515) -/

/-- The headrace may issue read requests on the host link for a load now: not at urgency level 3, nor in D3hot (R210, R515). A transfer
asks for nothing there (R453). -/
def State.mayAsk (s : State) (r : LoadReq) : Bool := r.xfer.isSome || (s.cist.level != 3 && !s.host.d3hot)

/-- The header's request of a load is issued (R79, R82). -/
def State.askHeader (s : State) (k : SlotNo) (f : Flight) : State :=
  let s1 := { s with store := { s.store with flights := s.store.flights.set k (some { f with asked := true }) } }
  if f.req.xfer.isNone then s1.emit (.parcelRead k.val) else s1

/-- Requests held back are issued once the headrace may ask again (R210, R515). -/
def State.askHeld (s : State) : State :=
  (List.finRange 8).foldl (fun (s : State) k => match s.store.flights[k] with
    | some f =>
      if f.asked || !s.mayAsk f.req then s
      else if f.header.isNone then s.askHeader k f
      else { s with store := { s.store with flights := s.store.flights.set k (some { f with asked := true }) } }
    | none => s) s

/-! ### Pages -/

/-- STATE as a code (R43). -/
def PageState.code : PageState → Nat
  | .defined => 0 | .ready => 1 | .committed => 2 | .printing => 3 | .done => 4 | .defective => 5 | .missed => 6

/-- The page-table entry of a page (R99). -/
def StorePart.page (x : StorePart) (id : PageId) : Option PageEntry := x.pages.find? (fun e => e.desc.id == id)

/-- First burst of a page's descriptor (R97, R103). -/
def PageEntry.base (e : PageEntry) : Nat := regionBase 1 + 256 * e.place

/-- A page's entry changed. -/
def State.setPage (s : State) (id : PageId) (f : PageEntry → PageEntry) : State :=
  { s with store := { s.store with pages := s.store.pages.map (fun e => if e.desc.id == id then f e else e) } }

/-- A page takes a state. -/
def State.setPageState (s : State) (id : PageId) (st : PageState) : State := s.setPage id (fun e => { e with state := st })

/-- A page leaves the page table (R99). -/
def State.dropPage (s : State) (id : PageId) : State :=
  { s with store := { s.store with pages := s.store.pages.filter (fun e => e.desc.id != id) } }

/-- The page refers to a layer. -/
def PageDesc.refers (d : PageDesc) (id : LayerId) : Bool := d.refs.any (fun r => r.layer == id)

/-- Every referenced layer exists and is complete (R100, first condition). -/
def State.layersComplete (s : State) (d : PageDesc) : Bool :=
  d.refs.all (fun r => match findLayer s.store.layers r.layer with
    | some l => l.complete s.mapper.inForce
    | none => false)

/-- A reference to a BASE, OVERLAY or STAMP layer has the depth of MODE (R100, second condition). -/
def depthMatches (d : PageDesc) (l : LayerDesc) : Bool := l.kind == .contone || depthBits l.depth == modeDepth d.mode

/-- MASK_MODE of a reference matches the kind of its layer (R97, R100, third condition). -/
def maskMatches (r : LayerRef) (l : LayerDesc) : Bool :=
  match l.kind with
  | .overlay => r.maskMode == 1 || r.maskMode == 2
  | _ => r.maskMode == 0

/-- Index of the first reference whose layer breaks a condition. -/
def State.firstRef (s : State) (d : PageDesc) (bad : LayerRef → LayerDesc → Bool) : Option Nat :=
  d.refs.findIdx? (fun r => (findLayer s.store.layers r.layer).any (fun l => bad r l.desc))

/-- Index of the first reference that breaks the first condition to fail: the depth, then MASK_MODE (R100, R101). -/
def State.mismatch (s : State) (d : PageDesc) : Option Nat :=
  match s.firstRef d (fun _ l => !depthMatches d l) with
  | some i => some i
  | none => s.firstRef d (fun r l => !maskMatches r l)

/-- The arrays and generators the page needs are there (R100). -/
def State.objectsThere (s : State) (d : PageDesc) : Bool :=
  d.refs.all (fun r => match findLayer s.store.layers r.layer with
    | some l =>
      (l.desc.kind != .contone || s.store.arrays[r.array].isSome) &&
      (!l.desc.generated || s.store.generators.any (fun g => g.id == l.desc.generator))
    | none => false)

/-- One page evaluated (R91, R100, R101). -/
def State.evalPage (s : State) (e : PageEntry) : State :=
  match e.state with
  | .defined =>
    if !s.layersComplete e.desc then s
    else match s.mismatch e.desc with
      | some i => s.raiseF .layerMismatch [e.desc.id.toNat, fld 32 8 (min i 255)]
      | none => if s.objectsThere e.desc then
          (s.setPageState e.desc.id .ready).raiseF .pageReady [e.desc.id.toNat] else s
  | .ready => if s.layersComplete e.desc then s else s.setPageState e.desc.id .defined
  | _ => s

/-- Every page evaluated, after a publication, a deletion, or a map taking effect (R101). -/
def State.evalPages (s : State) : State := s.store.pages.foldl (fun s e => s.evalPage e) s

/-- Pages COMMITTED or PRINTING, from firmware's own copies (R47, R587). -/
def State.queuedDescs (s : State) : List PageDesc := s.print.queue.map (fun q => q.desc)

/-- The layer is referenced by a COMMITTED or PRINTING page or by the designated fallback page (R66, R96). -/
def State.layerUsed (s : State) (id : LayerId) : Bool :=
  s.queuedDescs.any (fun d => d.refers id) ||
  (match s.print.fallback with
    | some (f, _) => (match s.store.page f with | some e => e.desc.refers id | none => false)
    | none => false)

/-- A READY page that refers to a layer returns to DEFINED (R43, R96). -/
def PageEntry.undefine (e : PageEntry) (id : LayerId) : PageEntry :=
  if e.desc.refers id && e.state == .ready then { e with state := .defined } else e

/-- A layer is freed, and every page that refers to it returns to DEFINED (R96). -/
def State.freeLayer (s : State) (id : LayerId) : State :=
  let x := { s.store with layers := s.store.layers.filter (fun l => l.desc.id != id)
                          pages := s.store.pages.map (fun e => e.undefine id) }
  ({ s with store := x }).evalPages

/-- The generators a page's layers use (R158). -/
def State.usesGenerator (s : State) (d : PageDesc) (g : BitVec 32) : Bool :=
  d.refs.any (fun r => match findLayer s.store.layers r.layer with
    | some l => l.desc.generated && l.desc.generator == g
    | none => false)

end Sys2Proof.Machine
end

