-- ==== Sys2Proof/Machine/CameraOps.lean ====
section
/-!
DEFINITION. Operations of the camera ports (12_camera_ports_and_image_pipeline.md): triggers, frames that open and close, statistics
records, and the taps' frames.
-/

namespace Sys2Proof.Machine

/-- A camera port changed. -/
def State.setCam (s : State) (p : CamNo) (f : CamState → CamState) : State :=
  { s with cam := { s.cam with ports := upd s.cam.ports p f } }

/-- Camera ports exist while G6 holds its camera role (R23, R356). -/
def State.camExists (s : State) : Bool := match s.sys.board with | some b => !b.g6Fabric | none => true

/-! ### Taps (R126 to R131, R384, R385) -/

/-- A tap context changed. -/
def CamState.setTap (q : CamState) (k : Fin 4) (f : TapCtx → TapCtx) : CamState := { q with taps := upd q.taps k f }

/-- The gathered lines become a compressor block, whose header, tokens and trailer wait to be written (R108, R126, R127). -/
def TapFrame.endBlock (f : TapFrame) (port : CamNo) (point : Fin 4) : TapFrame :=
  match f.lines with
  | [] => f
  | l :: _ =>
    let raw := f.lines.flatten
    let ts := compress l.length raw
    { f with
      held := f.held ++ [⟨blockHeader (port.val + 4 * point.val) false 1 f.number f.block l.length f.lines.length, false, 0⟩] ++
        ts.map (fun t => ⟨t.words, false, t.count⟩) ++ [⟨[blockTrailer raw ts.length], true, 0⟩]
      block := f.block + 1, lines := [] }

/-- A raw line enters the frame's block; a block holds at most 64 lines (R126). -/
def TapFrame.addLine (f : TapFrame) (port : CamNo) (point : Fin 4) (l : List Word) : TapFrame :=
  let g := { f with lines := f.lines ++ [l] }
  if g.lines.length = 64 then g.endBlock port point else g

/-- A frame of a number in a context changed. -/
def TapCtx.setFrame (c : TapCtx) (n : Nat) (f : TapFrame → TapFrame) : TapCtx :=
  { c with writing := c.writing.map (fun (x : TapFrame) => if x.number == n then f x else x) }

/-- Frame n is rewound (R130, R383): its blocks are freed, and its held token and what of it waits in the staging buffer are discarded. -/
def TapCtx.rewind (c : TapCtx) (n : Nat) : TapCtx :=
  let rest := c.writing.filter (fun (x : TapFrame) => x.number != n)
  { c with writing := rest, stuck := c.stuck && rest.any (fun x => !x.held.isEmpty), staged := 0 }

/-- A raw line of frame n reaches a context: the staging buffer of 4,096 words takes it while a token is held, and a full one drops
the frame (R130). -/
def TapCtx.take (c : TapCtx) (port : CamNo) (point : Fin 4) (n : Nat) (l : List Word) : TapCtx :=
  if !c.writing.any (fun x => x.number == n) then c
  else
    let staged := if c.stuck ∨ 0 < c.staged then c.staged + l.length else 0
    if 4096 < staged then { c.rewind n with overrun := some n }
    else { (c.setFrame n (fun x => x.addLine port point l)) with staged := staged }

/-- Frames that have closed and whose tokens are written become readable, oldest first (R129). -/
def TapCtx.readable (c : TapCtx) : TapCtx :=
  match c.writing with
  | f :: fs => if f.closed && f.held.isEmpty then { c with frames := c.frames ++ [(f.number, f.blocks)], writing := fs } else c
  | [] => c

/-- The tap frame of frame n ends: kept, or rewound when the frame is DROPPED (R129, R383). -/
def TapCtx.finish (c : TapCtx) (port : CamNo) (point : Fin 4) (n : Nat) (keep : Bool) : TapCtx :=
  if keep then (c.setFrame n (fun x => { x.endBlock port point with closed := true })).readable
  else c.rewind n

/-- The tap rings are divided at a print start among the sources then enabled, by the last commit made: 448 MiB in equal rings (R385). -/
def State.camStart (s : State) : State :=
  let on (q : CamState) (k : Fin 4) : Bool :=
    q.direct.enable && (match q.commits.getLast? with | some c => c.2 | none => q.active).tapEnable.getLsbD k.val
  let n := (s.cam.ports.toList.map (fun q => ((List.finRange 4).filter (fun k => on q k)).length)).sum
  { s with cam := { s.cam with ports := s.cam.ports.map (fun q =>
      { q with taps := Vector.ofFn (fun k => { ring := if on q k then 58720256 / n else 0 }), triggers := q.triggers
               pages := [], lastEdge := none, lastFall := none }) } }

/-- A frame of a number begins on the taps that its settings name (R384); TAP_OVERRUN for one dropped before (R130, R131). -/
def State.tapsBegin (s : State) (p : CamNo) (set : CamShadow) (n : Nat) : State :=
  (List.finRange 4).foldl (fun s k =>
    let c := s.cam.ports[p].taps[k]
    if !set.tapEnable.getLsbD k.val || n % (max 1 set.tapEvery) != 0 || c.ring == 0 then s
    else
      let s1 := s.setCam p (fun q => q.setTap k (fun c => { c with writing := c.writing ++ [{ number := n }], overrun := none }))
      match c.overrun with
      | some m => s1.raiseF .tapOverrun [fld 0 32 m, fld 32 2 p.val, fld 34 2 k.val]
      | none => s1) s

/-! ### Frames that open (R364, R365, R379, R380) -/

/-- The frames are certain. -/
def CamCertainty.isCertain : CamCertainty → Bool
  | .certain => true
  | _ => false

/-- A write to the camera leaves when none is outstanding (R380, R381). -/
def State.camWriteNext (s : State) (p : CamNo) : State :=
  match s.cam.ports[p].writes with
  | (_, a, v) :: _ => s.emit (.camWrite p a v)
  | [] => s

/-- Camera-held settings of a generation are to be written (R357 step 4, R380). -/
def State.camWrites (s : State) (p : CamNo) (gen : BitVec 16) (regs : List (BitVec 32 × BitVec 32)) : State :=
  if regs.isEmpty then s
  else
    let idle := s.cam.ports[p].writes.isEmpty
    let s1 := s.setCam p (fun q => { q with writes := q.writes ++ regs.map (fun r => (gen, r.1, r.2)), certainty := .writing })
    if idle then s1.camWriteNext p else s1

/-- Columns of a frame before its first line (R369, R374). -/
def newCols (a : CamShadow) (width p gp : Nat) : List ColAcc :=
  (columnValues a width p gp []).map (fun v => { noSample := v.isNone })

/-- The bar line that a page's camera lines image at bar line n (R360). -/
def CamState.images (q : CamState) (g : CamPage) (n : Nat) : Int := (n : Int) - (if g.reverse then q.direct.distRev else q.direct.dist)

/-- A frame opens with a bar line n, of a page or in TIME mode: the commits made before it apply together (R364, R365, R379, R380). -/
def State.openFrame (s : State) (p : CamNo) (g : Option CamPage) (n positions gp : Nat) (time : Option Nat) : State :=
  let q := s.cam.ports[p]
  let (gen, set) := (q.commits.getLast?).getD (q.genActive, q.active)
  let s1 := s.setCam p (fun q => { q with commits := [], active := set, genActive := gen, frameNow := q.frameNext
                                          frameNext := (q.frameNext + 1) % 2 ^ 48 })
  let s2 := if q.commits.isEmpty then s1 else s1.camWrites p gen (set.regs.take set.regCount)
  let cert := match s2.cam.ports[p].certainty with | .acked => CamCertainty.further q.frameNext | c => c
  let f : Frame := { number := q.frameNext, page := g, set := set, issued := 0
                     firstIm := (match g with | some g => q.images g n | none => 0), lastIm := 0, full := false, gen := gen
                     firstBar := n, lines := 0, strip := []
                     skipped := (match g, q.early with | some g, some e => if e.1 = g.first then e.2 else 0 | _, _ => 0)
                     excused := 0, uncertain := !cert.isCertain
                     noExpect := false, clipped := false
                     resync := g.any (fun g => q.resync == some g.id), dropped := false, timeLeft := time
                     cols := newCols set q.direct.width positions gp, gp := gp, p := positions }
  (s2.setCam p (fun q => { q with certainty := cert, resync := none, early := none, frames := q.frames ++ [f] })).tapsBegin p set q.frameNext

/-! ### Frames that close (R366, R367, R374, R376, R377, R380) -/

/-- A record enters the ring of 16 MiB; the oldest unreleased ones give way, each with STATS_LOST (R377). One that firmware has not
processed is kept for that alone. -/
def State.addStats (s : State) (p : CamNo) (r : StatsRec) : State :=
  let room := 2097152 - r.words.length
  let used (l : List StatsRec) : Nat := ((l.filter (fun x => !x.lost)).map (fun x => x.words.length)).sum
  let drop := s.cam.ports[p].stats.foldl (fun (acc : List Nat × Nat) x =>
    if x.lost ∨ acc.2 ≤ room then acc else (acc.1 ++ [x.frame], acc.2 - x.words.length)) ([], used s.cam.ports[p].stats)
  let s1 := s.setCam p (fun q => { q with stats :=
    ((q.stats.map (fun (x : StatsRec) => if drop.1.contains x.frame then { x with lost := true } else x)).filter
      (fun x => !(x.lost && x.processed))) ++ [r] })
  drop.1.foldl (fun s n => s.raiseF .statsLost [fld 0 32 n, fld 32 2 p.val]) (s1.wroteIn 7)

/-- A frame closes with a status (R366): 0 VALID, 1 TRUNCATED, 2 DROPPED, 3 CORRUPT. cause: of the event. -/
def State.closeFrame (s : State) (p : CamNo) (f : Frame) (status cause : Nat) : State :=
  let q := s.cam.ports[p]
  let first := (viewCols f.set q.direct.width f.p f.gp).1
  let r : StatsRec := { frame := f.number, status := BitVec.ofNat 2 status, words := statsWords p status f first
                        processed := false, lost := false, stripLines := f.strip.map (·.1), reach := f.reach
                        firstCol := first, page := f.page, uncertain := f.uncertain }
  let ended := q.certainty == .further f.number && status == 0
  let mine := (q.triggers.filter (fun t => t.frame == some f.number)).length
  let s1 := s.setCam p (fun q => { q with
    frames := q.frames.filter (fun x => x.number != f.number)
    resync := if status = 1 ∨ status = 3 then f.page.map (fun g => g.id) else q.resync
    triggers := q.triggers.filter (fun t => t.frame != some f.number)
    forgotten := q.forgotten + mine
    certainty := if ended then .certain else if q.certainty = .further f.number then .acked else q.certainty
    taps := Vector.ofFn (fun k => q.taps[k].finish p k f.number (status != 2)) })
  let d := [fld 0 32 f.number, fld 32 2 p.val]
  let s2 := match status with
    | 1 => s1.raiseF .frameTruncated (d ++ [fld 34 2 cause])
    | 2 => s1.raiseF .frameDropped d
    | 3 => s1.raiseF .frameCorrupt (d ++ [fld 34 2 cause])
    | _ => s1
  let s3 := if ended then s2.raiseF .camSettingsApplied [fld 0 2 p.val, fld 2 16 q.genActive.toNat, fld 18 22 f.number] else s2
  s3.addStats p r

/-- Frames that no further trigger belongs to and that await no line close, VALID or DROPPED (R364, R383). -/
def State.settleFrames (s : State) (p : CamNo) : State :=
  (s.cam.ports[p].frames).foldl (fun s f =>
    if f.full && !(s.cam.ports[p].triggers.any (fun t => t.frame == some f.number)) then
      s.closeFrame p f (if f.dropped then 2 else 0) 0
    else s) s

/-- A frame of a port changed. -/
def CamState.setFrame (q : CamState) (n : Nat) (f : Frame → Frame) : CamState :=
  { q with frames := q.frames.map (fun (x : Frame) => if x.number == n then f x else x) }

/-! ### Triggers (R359 to R363) -/

/-- A trigger at a time in ps is due less than 1 ÷ CAM_MAX_RATE after the one before, or 64 are outstanding (R361, R363). -/
def CamState.tooSoon (q : CamState) (t : Rat) : Bool :=
  q.lastEdge.any (fun e => decide ((t - e) * q.direct.maxRate < 1000000000000)) || decide (64 ≤ q.triggers.length)

/-- The trigger ends the exposure before it early (R361). -/
def CamState.clips (q : CamState) (t : Rat) : Bool := q.lastFall.any (fun e => decide (t < e.1 + 250000))

/-- The frame of the exposure that a trigger ends early carries EXPOSURE_CLIPPED (R361). -/
def CamState.clipFrame (q : CamState) : CamState :=
  match q.lastFall with
  | some (_, some n) => q.setFrame n (fun x => { x with clipped := true })
  | _ => q

/-- A trigger of a frame, or of no frame, at a time in ps (R359, R361). -/
def State.sendTrigger (s : State) (p : CamNo) (fr : Option Nat) (n : Nat) (im : Int) (t : Rat) (last : Bool) : State :=
  let q := s.cam.ports[p]
  let soon := q.tooSoon t
  let clip := q.clips t
  let mark (x : Frame) : Frame :=
    let y := { x with lastIm := im, full := last || (!soon && x.issued + 1 == 4096)
                      timeLeft := x.timeLeft.map (fun k => k - 1) }
    if soon then { y with skipped := x.skipped + 1 } else { y with issued := x.issued + 1 }
  let fall : Rat := t + 250 * q.active.exposure
  let s1 := s.setCam p (fun q =>
    let q1 := match fr with | some k => q.setFrame k mark | none => q
    if soon then q1
    else { (if clip then q1.clipFrame else q1) with
           lastEdge := some t, lastFall := some (fall, fr)
           triggers := q1.triggers ++ [{ barLine := n, imaged := im, frame := fr }] })
  if soon then s1.settleFrames p
  else
    let s2 := if clip then s1.emit (.camClip p (t - 250000 - q.direct.trigLat)) else s1
    s2.emit (.camTrigger p (match fr with
      | some k => (match q.frames.find? (fun x => x.number == k) with | some x => x.issued | none => 0)
      | none => 0) (t - q.direct.trigLat) (fall - q.direct.trigLat))

/-- The open frame that takes the next camera line of a page (R364). -/
def CamState.frameFor (q : CamState) (g : CamPage) : Option Frame :=
  q.frames.find? (fun f => !f.full && f.page.any (fun h => h.id == g.id && h.first == g.first))

/-- A trigger is not sent while no frame of its page is open: the page's next frame counts it (R361). -/
def CamState.skipEarly (q : CamState) (first : Nat) : CamState :=
  { q with early := some (first, match q.early with | some e => if e.1 = first then e.2 + 1 else 1 | none => 1) }

/-- The camera trigger of a port at bar line n, due at a fire time (R359, R360, R364). -/
def State.camTrigger (s : State) (p : CamNo) (n : Nat) (tf : Rat) : State :=
  let q := s.cam.ports[p]
  if !q.direct.enable || q.direct.timeMode || q.link != .active || n % q.direct.div != q.direct.phase then s
  else
    let t := tf + q.direct.trigOffset
    let keep := q.pages.filter (fun g => decide (q.images g n ≤ (g.trailing : Int)))
    let s1 := (s.setCam p (fun q => { q with
      pages := keep
      frames := q.frames.map (fun (f : Frame) => match f.page with
        | some g => { f with full := f.full || !keep.any (fun h => h.id == g.id && h.first == g.first) }
        | none => f) })).settleFrames p
    match keep.find? (fun g => decide ((g.first : Int) ≤ q.images g n)) with
    | none => s1.sendTrigger p none n ((n : Int) - q.direct.dist) t false
    | some g =>
      let im := q.images g n
      let last := decide ((g.trailing : Int) < im + q.direct.div)
      match s1.cam.ports[p].frameFor g with
      | some f => s1.sendTrigger p (some f.number) n im t last
      | none =>
        if q.tooSoon t then s1.setCam p (fun q => q.skipEarly g.first)
        else
          let k := q.frameNext
          (s1.openFrame p (some g) n g.p g.gp none).sendTrigger p (some k) n im t last

/-- Camera triggers of a bar line (R359). -/
def State.camTriggers (s : State) (n : Nat) (tf : Rat) : State := (List.finRange 4).foldl (fun s p => s.camTrigger p n tf) s

/-- Frames of a page whose trailing edge has moved close once nothing more is to come (R364). -/
def State.camSettle (s : State) (id : PageId) (first trailing : Nat) : State :=
  (List.finRange 4).foldl (fun s p =>
    (s.setCam p (fun q => { q with frames := q.frames.map (fun (f : Frame) =>
      if f.page.any (fun g => g.id == id && g.first == first) then
        { f with full := f.full || decide ((trailing : Int) < f.lastIm + q.direct.div) }
      else f) })).settleFrames p) s

end Sys2Proof.Machine
end

