-- ==== Sys2Proof/Machine/EncOps.lean ====
section
/-!
DEFINITION. Encoder counting as computations on one interface (10_position_feedback.md): the analogue sample, quadrature, the
angle counter and the relay accumulator.
-/

namespace Sys2Proof.Machine

/-- atan(2^−i) as a part of a turn in units of 2^−56, i = 0 to 39. -/
def atanTable : List Int :=
  [9007199254740992, 5317260203651848, 2809494260081567, 1426143154396570, 715839029270683] ++
  [358268477703266, 179177955010598, 89594445026371, 44797906047171, 22399038468267] ++
  [11199529914810, 5599766292493, 2799883313132, 1399941677427, 699970841321] ++
  [349985420986, 174992710534, 87496355272, 43748177637, 21874088818] ++
  [10937044409, 5468522205, 2734261102, 1367130551, 683565276] ++
  [341782638, 170891319, 85445659, 42722830, 21361415] ++
  [10680707, 5340354, 2670177, 1335088, 667544] ++
  [333772, 166886, 83443, 41722, 20861]

/-- Rotation of (x, y) onto the x axis in x > 0; z gathers the angle in 2^−56 turns. -/
def rotateToAxis : List Int → Nat → Int → Int → Int → Int
  | [], _, _, _, z => z
  | t :: ts, i, x, y, z =>
    if 0 ≤ y then rotateToAxis ts (i + 1) (x + y / 2 ^ i) (y - x / 2 ^ i) (z + t)
    else rotateToAxis ts (i + 1) (x - y / 2 ^ i) (y + x / 2 ^ i) (z - t)

/-- atan2(s, c) as a part of a turn in units of 2^−56, from 0 up to a turn (R306 step 5). -/
def atan2Turn (s c : Int) : Int :=
  let k : Int := 2 ^ 40
  let z := if 0 ≤ c then rotateToAxis atanTable 0 (c * k) (s * k) 0
    else rotateToAxis atanTable 0 (-c * k) (-s * k) (2 ^ 55)
  z % 2 ^ 56

/-- φ where the angle lies exactly on a 12-bit value: at the multiples of an eighth of a turn, the only ones a pair of whole numbers
has. -/
def exactPhase (s c : Int) : Option Nat :=
  if s = 0 then some (if 0 ≤ c then 0 else 2048)
  else if c = 0 then some (if 0 < s then 1024 else 3072)
  else if s = c then some (if 0 < s then 512 else 2560)
  else if s = -c then some (if 0 < s then 1536 else 3584)
  else none

/-- φ as a 12-bit phase (R306 step 5). The spec does not say how an angle between two 12-bit values is rounded: up chooses one of the
two (log 16). -/
def phase12 (s c : Int) (up : Bool) : Nat :=
  let f := atan2Turn s c / 2 ^ 44
  (exactPhase s c).getD ((if up then f + 1 else f) % 4096).toNat

/-- s′ and c″ of R306 step 2, both in units of 2^−30. -/
def trimmed (t : EncTrim) (a b : BitVec 14) : Int × Int :=
  let s := a.toInt - t.ofsS
  let c := b.toInt - t.ofsC
  (s * 2 ^ 30, c * t.gainC * 2 ^ 16 - t.phase * s * 2 ^ 14)

/-- The square of the amplitude in units of 2^−60 (R306 step 3). -/
def amplitudeSq (p : Int × Int) : Nat := (p.1 * p.1 + p.2 * p.2).toNat

/-- Δ of R306 step 6. -/
def phaseStep (phi prev : Nat) : Int := ((phi : Int) - prev + 2048) % 4096 - 2048

/-- The angle after n counts (R315). -/
def moveAngle (cpr angle : Nat) (n : Int) : Nat := if cpr = 0 then 0 else (((angle : Int) + n) % cpr).toNat

/-- Relay ratio N and M in force (R326, R327); none when the relay is OFF. -/
def EncState.ratio (e : EncState) : Option (Nat × Nat) :=
  match e.relay with
  | .off => none
  | .pass => if e.mode = .analogue then some (1, 1024) else some (1, 1)
  | .divide => some (e.relayN, e.relayM)

/-- The relay accumulator after n counts in one sense (R327): counts are added one by one, so the sum crosses M the same
number of times as if they were added together. -/
def EncState.relayCounts (e : EncState) (n : Int) : EncState :=
  match e.ratio with
  | none => e
  | some (num, den) =>
    let sum := e.acc + n * num
    { e with acc := sum.tmod den, owed := e.owed + sum.tdiv den }

/-- The interface after n counts: position, angle, sense and relay (R307, R311, R315, R327). n is already in the sense
of DIR_INVERT. -/
def EncState.count (e : EncState) (n : Int) : EncState :=
  if n = 0 then e
  else
    { e with position := e.position + BitVec.ofInt 64 n, angle := moveAngle e.cpr e.angle n
             lastUp := decide (0 < n) }.relayCounts n

/-- A count step in the sense of DIR_INVERT (R307, R311). -/
def EncState.sense (e : EncState) (n : Int) : Int := if e.dirInvert then -n else n

/-- Place of a quadrature state in the increasing order 00, 10, 11, 01 (R311). -/
def quadIndex (a b : Bool) : Int :=
  match a, b with
  | false, false => 0
  | true, false => 1
  | true, true => 2
  | false, true => 3

/-- The quadrature state after (a, b) in the increasing or the decreasing sense (R311). -/
def quadNext (a b up : Bool) : Bool × Bool := if up then (!b, a) else (b, !a)

/-- δ of an index event: the angle taken in −CPR/2 to CPR/2 − 1 (R317). -/
def indexDeviation (cpr : Nat) (angle : Nat) : Int :=
  if (angle : Int) < ((cpr : Int) + 1) / 2 then angle else (angle : Int) - cpr

/-- δ as a saturating 16-bit value (R319). -/
def sat16 (d : Int) : Int := max (-32768) (min 32767 d)

end Sys2Proof.Machine
end

