-- ==== Sys2Proof/Machine/HealthOps.lean ====
section
/-!
DEFINITION. The health map under a nozzle map (R178, R393 to R397) and the capability check of head ports (R301).
-/

namespace Sys2Proof.Machine

/-- The map that the next page to be prepared takes (R200). -/
def MapperPart.mapNext (m : MapperPart) : Option NozzleMap :=
  match m.published with | some n => some n | none => m.inForce

/-- The corrected curve words of nozzles of that map (R187, R405). -/
def MapperPart.curveSet (m : MapperPart) : List (Nozzle × Word) :=
  match m.mapNext with
  | some f => m.curveIdx.map (fun p => (p.1, f.curves.getD p.2 0))
  | none => []

/-- All nozzles OK. -/
def freshNozzles (n : Nat) : List NozzleRec := List.replicate n {}

/-- The record of a port matches a map, its last CAPS and its head record (R397). -/
def HealthRecord.fits (r : HealthRecord) (m : NozzleMap) (h : HeadRec) (driver : Word) : Bool :=
  r.mapId == m.id && r.driverId == driver && r.nozzles == h.nozzles

/-- The states a port holds once a map takes effect, and whether it is judged and reset (R178, R397). -/
def State.judged (s : State) (m : NozzleMap) (h : HeadRec) : List NozzleRec × Bool :=
  match s.heads.ports[h.port].caps, s.health.ports[h.port].record with
  | some k, some r =>
    if r.fits m h k.driverId then (r.states.map (fun t => { state := t }), false) else (freshNozzles h.nozzles, true)
  | some _, none => (freshNozzles h.nozzles, true)
  | none, _ => (freshNozzles h.nozzles, false)

/-- A port is judged under the map in force; its record is rewritten when it is reset (R397). -/
def State.judgePort (s : State) (m : NozzleMap) (h : HeadRec) : State × Nat :=
  let j := s.judged m h
  match s.heads.ports[h.port].caps with
  | none =>
    ({ s with health := { s.health with ports := upd s.health.ports h.port (fun q =>
        { q with nozzles := j.1, judged := none, changed := false }) } }, 0)
  | some k =>
    ({ s with health := { s.health with ports := upd s.health.ports h.port (fun q =>
        { q with nozzles := j.1, judged := some k.driverId, changed := false
                 record := if j.2 then some { driverId := k.driverId, mapId := m.id, nozzles := h.nozzles
                                              states := j.1.map (·.state) } else q.record }) } },
      if j.2 then 2 ^ h.port.val else 0)

/-- Every head port of a map that takes effect is judged (R397). -/
def State.judgeAll (s : State) (m : NozzleMap) : State :=
  let cleared := { s with health := { s.health with ports := s.health.ports.map (fun q =>
    { q with nozzles := [], judged := none }) } }
  let r := m.heads.foldl (fun (acc : State × Nat) h =>
    let j := acc.1.judgePort m h
    (j.1, acc.2 + j.2)) (cleared, 0)
  if m.heads.any (fun h => s.heads.ports[h.port].caps.isSome) then r.1.raise .healthRestored (low40 r.2) else r.1

/-- State of a nozzle under the map in force. -/
def State.nozzleState (s : State) (n : Nozzle) : NozzleState :=
  ((s.health.ports[n.port].nozzles.getD n.index {}).state)

/-- A state puts a nozzle into the failed set (R393). -/
def NozzleState.fails (t : NozzleState) : Bool := t == .failed || t == .forced

/-- The failed set of a page prepared now under a map (R178, R395). -/
def State.failedSet (s : State) (m : NozzleMap) : List Nozzle :=
  m.heads.flatMap (fun h =>
    let l := if s.mapper.inForce = some m ∧ s.mapper.published ≠ some m then s.health.ports[h.port].nozzles else (s.judged m h).1
    (l.zipIdx.filter (fun p => p.1.state.fails)).map (fun p => ⟨h.port, p.2⟩))

/-! ### Changes of state in a redundant bar (R400) -/

/-- X: the page whose preparation began last; 0 before the first. -/
def State.lastPrepared (s : State) : PageId := s.health.preps.head?.getD 0

/-- Preparations begun since that of X; none where that of X has not begun here. -/
def State.prepsSince (s : State) (x : PageId) : Option Nat :=
  if x = 0 then some s.health.preps.length
  else if s.health.preps.contains x then some (s.health.preps.takeWhile (fun p => p != x)).length
  else none

/-- A change of state waits for the second page after X, in place of an earlier one. Where that page's preparation has begun, it waits for
the next, and HEALTH_SYNC_LATE names the page (R400). -/
def State.syncChange (s : State) (n : Nozzle) (t : NozzleState) (x : PageId) : State :=
  let since := s.prepsSince x
  let s1 := { s with health := { s.health with syncs := s.health.syncs.filter (fun y => y.nozzle != n) ++
    [{ nozzle := n, state := t, page := x, begun := since.map (min 1) }] } }
  match since with
  | some k => if 2 ≤ k then s1.raiseF .healthSyncLate [(s.health.preps.getD (k - 2) 0).toNat] else s1
  | none => s1

/-- State of a nozzle as a code of depth 2 (R549). -/
def NozzleState.code : NozzleState → Nat
  | .ok => 0 | .weak => 1 | .failed => 2 | .forced => 3

/-- The state of a code. -/
def nozzleStateAt (n : Nat) : NozzleState := match n % 4 with | 0 => .ok | 1 => .weak | 2 => .failed | _ => .forced

/-- The change goes to the partner: a record of a kind and form that the spec does not give (R400, R477, log 105). -/
def State.sendChange (s : State) (n : Nozzle) (t : NozzleState) (x : PageId) : State :=
  let w := Config.changeWords n.port.val n.index t.code x
  s.record Config.changeKind w.1 w.2

/-- A change of the partner's, from a record of that kind; one that names no nozzle of the map changes nothing (R400, log 105). -/
def State.changeAs (s : State) (w1 w2 : Word) : State :=
  match Config.changeOf w1 w2 with
  | none => s
  | some (p, i, t, x) =>
    let n : Nozzle := ⟨Fin.ofNat 32 p, i⟩
    if s.health.ports[n.port].nozzles.length ≤ n.index then s else s.syncChange n (nozzleStateAt t) x

/-- The preparation of a queue page begins: changes of state that wait for it are applied, and it counts for the others, once
however often it is prepared (R400). -/
def State.applySyncs (s : State) (id : PageId) : State :=
  if s.health.preps.head? = some id then s
  else
    let due := s.health.syncs.filter (fun y => y.begun.any (fun k => decide (1 ≤ k)))
    let ports := due.foldl (fun (v : Vector HealthPort 32) y =>
      upd v y.nozzle.port (fun q =>
        { q with nozzles := q.nozzles.modify y.nozzle.index (fun r => { r with state := y.state }), changed := true }))
      s.health.ports
    { s with health := { s.health with
        ports := ports
        preps := (id :: s.health.preps).take 8
        syncs := (s.health.syncs.filter (fun y => !y.begun.any (fun k => decide (1 ≤ k)))).map (fun y =>
          { y with begun := match y.begun with | some k => some (k + 1) | none => if y.page = id then some 0 else none }) } }

/-- The caps check of a head port: reason 1 NOZZLES, 2 ROWS, 3 LOG2_SLOTS, 4 DUAL_PORT; none where it passes or no CAPS has
arrived (R301). -/
def State.capsFault (s : State) (h : HeadRec) : Option Nat :=
  match s.heads.ports[h.port].caps with
  | none => none
  | some k =>
    if k.nozzles < h.nozzles then some 1
    else if k.rows < h.rows.length then some 2
    else if k.log2Slots < 4 ∨ 6 < k.log2Slots then some 3
    else if s.pair.paired ∧ ¬ k.dualPort then some 4
    else none

/-- Detail of HEAD_CAPS_BAD (R301). -/
def capsDetail (p : HeadPort) (reason : Nat) : Nat := p.val + 32 * reason

/-- The caps of every port are checked when a map takes effect while printing (R301). -/
def State.checkCaps (s : State) (m : NozzleMap) : State :=
  m.heads.foldl (fun s h =>
    let set (s : State) (b : Bool) : State :=
      { s with heads := { s.heads with ports := upd s.heads.ports h.port (fun q => { q with capsBad := b }) } }
    match s.capsFault h with
    | some r => (set s true).raise .headCapsBad (low40 (capsDetail h.port r))
    | none => set s false) s

end Sys2Proof.Machine
end

