-- ==== Sys2Proof/Machine/GovOps.lean ====
section
/-!
DEFINITION. Page spans, the cistern lead and the urgency ladder, and the speed governor (07_cistern_and_speed_governor.md).
-/

namespace Sys2Proof.Machine

/-! ### Pages in the queue and their spans (R204, R208, R218) -/

/-- The page of the running span is a page of the queue. -/
def PrintPart.queuePrinting (p : PrintPart) : Bool := match p.span with | some sp => !sp.fallback | none => false

/-- Queued pages that have not started. -/
def PrintPart.waitingQ (p : PrintPart) : List QEntry := if p.queuePrinting then p.queue.drop 1 else p.queue

/-- The map that the next page to be prepared takes (R200). -/
def State.mapNext (s : State) : Option NozzleMap := s.mapper.mapNext

/-- Greatest row lag of that map (R53). -/
def State.lagMax (s : State) : Nat := match s.mapNext with | some m => m.greatestLag | none => 0

/-- Lags of the rows that some position names, in a page's direction (R183, R208). -/
def usedLags (m : NozzleMap) (d : PageDesc) : List Nat :=
  ((m.positions.flatMap PosEntry.cands).map (fun k => (m.rowOf k).lag d)).eraseDups

/-- The context prepared for a page, of the queue or the fallback page. -/
def State.ctxFor (s : State) (fallback : Bool) (id : PageId) : Option PageCtx :=
  (if fallback then s.eng.fallbackCtx else s.eng.queueCtx).filter (fun c => c.desc.id == id)

/-- The context of the running span's page. -/
def State.spanCtx (s : State) : Option PageCtx := s.print.span.bind (fun sp => s.ctxFor sp.fallback sp.desc.id)

/-- The greatest row lag of a page's own map, or of the map it would be prepared under (R53, R63, R200). -/
def State.lagOf (s : State) (c : Option PageCtx) : Nat := match c with | some c => c.map.greatestLag | none => s.lagMax

/-- A page's place on the bar lines: first line, composed lines it prints, trailing edge, and its context. -/
structure Place where
  page     : PageId
  desc     : PageDesc
  first    : Nat
  lines    : Nat
  trailing : Nat
  ctx      : Option PageCtx
deriving DecidableEq, Repr

/-- Bar line n is covered by a page's bands (R208). -/
def Place.covered (q : Place) (map : Option NozzleMap) (n : Nat) : Bool :=
  decide (n < q.first) || decide (q.trailing < n) ||
  (match q.ctx with
    | some c => (usedLags c.map q.desc).all (fun l =>
        let y : Int := (n : Int) - q.first - l
        decide (y < 0) || decide ((q.lines : Int) ≤ y) || c.present y)
    | none => match map with
      | some m => (usedLags m q.desc).all (fun l =>
          let y : Int := (n : Int) - q.first - l
          decide (y < 0) || decide ((q.lines : Int) ≤ y))
      | none => false)

/-- The place of the running span. -/
def State.spanPlace (s : State) : List Place :=
  match s.print.span with
  | none => []
  | some sp => [⟨sp.desc.id, sp.desc, sp.first, sp.last - sp.first + 1, sp.trailing, s.spanCtx⟩]

/-- The descriptor of the designated fallback page. -/
def State.fallbackDesc (s : State) : Option PageDesc :=
  match s.print.fallback with
  | some (id, _) => (s.store.pages.find? (fun e => e.desc.id == id)).map (fun e => e.desc)
  | none => none

/-- Places of the bound fallback starts. -/
def State.fallbackPlaces (s : State) : List Place :=
  match s.fallbackDesc with
  | none => []
  | some d =>
    let c := s.ctxFor true d.id
    (s.print.bounds.filter (fun b => b.page.isNone)).map (fun b =>
      ⟨d.id, d, b.start, d.length, b.start + d.length - 1 + s.lagOf c, c⟩)

/-- Earliest starts of the pages that have not started, each behind the one ahead (R218). prev: earliest trailing edge of
the page ahead. -/
def earliestStarts (trig : Bool) (barLine lag : Nat) : Int → List QEntry → List (QEntry × Nat)
  | _, [] => []
  | prev, q :: qs =>
    let b : Int := match q.start with
      | some n => n
      | none => if trig then prev + 97 else prev + 1 + q.desc.gap
    let b : Nat := if b ≤ (barLine : Int) then barLine + 1 else b.toNat
    (q, b) :: earliestStarts trig barLine lag ((b + q.desc.length + lag : Nat) - 1 : Int) qs

/-- Trailing edge ahead of the first page that has not started; −1 when none has printed (R57, R63). -/
def State.edgeAhead (s : State) : Int :=
  match s.print.span with
  | some sp => if sp.fallback then max (sp.trailing : Int) ((s.print.edge : Int) - 1) else sp.trailing
  | none => (s.print.edge : Int) - 1

/-- The forecast of R218. -/
def State.forecast (s : State) : List (QEntry × Nat) :=
  earliestStarts (s.print.started && s.print.trigMode) s.sluice.barLine s.lagMax s.edgeAhead s.print.waitingQ

/-- The context prepared for the queue head, when the queue's page has not started. -/
def State.headCtx (s : State) : Option PageCtx := if s.print.queuePrinting then none else s.eng.queueCtx

/-- Every place that decides coverage, in order of bar lines (R208). -/
def State.places (s : State) : List Place :=
  s.spanPlace ++ s.fallbackPlaces ++ s.forecast.map (fun p =>
    let c := s.headCtx.filter (fun c => c.desc.id == p.1.desc.id)
    ⟨p.1.desc.id, p.1.desc, p.2, p.1.desc.length, p.2 + p.1.desc.length - 1 + s.lagOf c, c⟩)

/-- Bar line n is covered (R208). -/
def State.covered (s : State) (ps : List Place) (n : Nat) : Bool := ps.all (fun q => q.covered s.mapNext n)

/-- Covered lines from n on, at most fuel of them. -/
def State.coveredRun (s : State) (ps : List Place) : Nat → Nat → Nat
  | 0, _ => 0
  | fuel + 1, n => if s.covered ps n then s.coveredRun ps fuel (n + 1) + 1 else 0

/-- The lead L (R209); 255 while no line can be allocated for a page. -/
def State.leadNow (s : State) : Nat :=
  if s.print.started then s.coveredRun s.places 255 (s.sluice.barLine + 1) else 255

/-- The urgency level of a lead (R210). -/
def CisternPart.levelOf (w : CisternPart) (l : Nat) : Nat :=
  if w.w1 ≤ l then 0 else if w.w2 ≤ l then 1 else if w.w3 ≤ l then 2 else 3

/-! ### HOLD_REQ (R222, R226) -/

/-- The lowest-numbered cause of a set, 0 for none. -/
def lowCause (v : BitVec 5) : Nat := ((List.range 5).find? (fun i => v.getLsbD i)).getD 0

/-- The causes of HOLD_REQ become a new set; GOVERNOR_HOLD at an assertion, and the cause kept for the release (R226). -/
def State.setCauses (s : State) (v : BitVec 5) : State :=
  let old := s.gov.causes
  let s1 := { s with gov := { s.gov with causes := v } }
  if v ≠ 0 then
    if s.gov.holdReq then { s1 with gov := { s1.gov with releaseWait := none } }
    else (({ s1 with gov := { s1.gov with holdReq := true, releaseWait := none } }).irq 18).raiseF .governorHold
      [1, fld 1 3 (lowCause (v &&& ~~~old))]
  else if old ≠ 0 then { s1 with gov := { s1.gov with releaseWait := some (lowCause old) } }
  else s1

/-- A cause is asserted or cleared. -/
def State.setCause (s : State) (n : Nat) (b : Bool) : State :=
  s.setCauses (if b then s.gov.causes ||| (1#5 <<< n) else s.gov.causes &&& ~~~(1#5 <<< n))

/-- The set with a cause set or cleared. -/
def withCause (v : BitVec 5) (n : Nat) (b : Bool) : BitVec 5 :=
  if b then v ||| (1#5 <<< n) else v &&& ~~~(1#5 <<< n)

/-! ### Lead and weirs -/

/-- The lead and the level at a line boundary, with WEIR_CRITICAL at an entry into level 3 (R209 to R212); what the band in
preparation has seen of the lead (R220), and the release of cause 2 at a lead of 128 (R222). -/
def State.evalLead (s : State) : State :=
  let l := s.leadNow
  let lvl := s.cist.levelOf l
  let mark (k : PageCtx) : PageCtx :=
    { k with lowLead := k.lowLead || decide (l < s.cist.w2), goodLead := k.goodLead && decide (s.cist.w1 ≤ l) }
  let s1 := { s with
    cist := { s.cist with lead := l, level := lvl }
    eng := { s.eng with queueCtx := s.eng.queueCtx.map mark, fallbackCtx := s.eng.fallbackCtx.map mark } }
  let s2 := if 128 ≤ l ∧ s1.gov.causes.getLsbD 2 then
      ({ s1 with gov := { s1.gov with latePage := none } }).setCause 2 false else s1
  if lvl = 3 ∧ s.cist.level ≠ 3 then
    let n := s.sluice.barLine + 1 + l
    match s.places.find? (fun q => !q.covered s.mapNext n) with
    | some q => s2.raiseF .weirCritical [q.page.toNat, fld 32 8 l]
    | none => s2
  else s2

/-! ### The speed limit (R216 to R219) -/

/-- The measured line rate (R242). -/
def State.measured (s : State) : Nat :=
  match s.sluice.times[63]? with
  | none => 0
  | some t => 64000000000 / (s.time.raw - t).toNat

/-- A head is in derate on bar line n (R189, R255). -/
def HeadTemp.derateAt (t : HeadTemp) (n : Nat) : Bool :=
  match (t.changes.filter (fun c => decide (c.1 ≤ n))).getLast? with
  | some c => c.2
  | none => t.derate

/-- Any head is in warning (R257). -/
def State.anyWarn (s : State) : Bool := s.sluice.temps.toList.any (fun t => t.warn)

/-- r(printing): the permitted rate of the running page up to its last line, capped while any head is in warning (R219, R257). -/
def State.printingRate (s : State) : Option Nat :=
  match s.print.span with
  | none => none
  | some sp =>
    if sp.last < s.sluice.barLine then none
    else
    let r := if sp.fallback then (s.print.fallback.map (fun f => f.2)).getD 400000
      else (s.print.queue.head?.map (fun q => q.rate)).getD 400000
    some (if s.anyWarn then min r s.sluice.set.thermCap else r)

/-- Distances in lines are held times 2 × 10^12 × V_MAX. -/
def GovPart.scale (g : GovPart) : Nat := 2000000000000 * g.vMax

/-- A distance in lines times the scale: the stopping distance from speed v to speed r with the reaction distance,
MARGIN and 64 lines (R219). -/
def GovPart.distance (g : GovPart) (v r : Nat) : Nat :=
  (v * v - r * r) * g.decelPs + 2 * g.vMax * (v * g.respPs) + (g.margin + 64) * g.scale

/-- The horizon times the scale (R219). -/
def GovPart.horizon (g : GovPart) : Nat := g.distance g.vMax 0

/-- The pages ahead that lower the limit, in queue order until the horizon (R219). -/
def GovPart.ahead (g : GovPart) (v n : Nat) : List (QEntry × Nat) → Nat × Nat → Nat × Nat
  | [], acc => acc
  | (q, b) :: qs, (lim, why) =>
    if g.horizon < (b - n) * g.scale then (lim, why)
    else g.ahead v n qs (if q.rate < lim ∧ (b - n) * g.scale ≤ g.distance v q.rate then (q.rate, 2) else (lim, why))

/-- The device's own limit with its reason, before peers (R219). -/
def State.ownLimitNow (s : State) : Nat × Nat :=
  let g := s.gov
  let v := max s.measured g.limit
  let a := match s.printingRate with | some r => (min g.vMax r, 1) | none => (g.vMax, 0)
  let b := g.ahead v s.sluice.barLine s.forecast a
  let f := match s.print.fallback with
    | some (_, r) => if s.print.started ∧ s.print.trigMode ∧ r < b.1 then (r, 3) else b
    | none => b
  let lim := f.1 * g.factor / 16
  let why := if g.factor < 16 ∧ f.2 = 0 then 4 else f.2
  (lim - lim % 2000, why)

/-- The least LIMIT among the kept messages of PEERS, if any (R225). -/
def GovPart.peerMin (g : GovPart) : Option Nat :=
  ((g.kept.filter (fun k => g.peers.contains k.node)).map (fun k => k.limit)).min?

/-- Cause 1 of HOLD_REQ (R222). -/
def State.queueEmptyHold (s : State) : Bool :=
  if !s.print.started || !s.print.waitingQ.isEmpty then false
  else match s.print.span with
    | some sp => s.gov.causes.getLsbD 1 || (s.gov.holdOnEmpty && !s.print.trigMode && !sp.fallback &&
        decide ((sp.trailing - s.sluice.barLine) * s.gov.scale ≤ s.gov.distance (max s.measured s.gov.limit) 0))
    | none => s.gov.causes.getLsbD 1

/-- A limit is put in force; GOVERNOR_LIMIT and the interrupt at each change (R226, R228). -/
def State.setLimit (s : State) (lim why : Nat) : State :=
  let s1 := { s with gov := { s.gov with limit := lim, reason := why } }
  if lim = s.gov.limit then s1
  else (({ s1 with gov := { s1.gov with limitRaw := s.time.raw, overspeed := false } }).irq 18).raiseF .governorLimit
    [fld 0 8 (lim / 2000), fld 8 4 why, fld 12 28 s.sluice.barLine]

/-- The settings written are in force (R216). -/
def GovPart.adopt (g : GovPart) : GovPart :=
  let n := g.next
  { g with vMax := n.vMax, decelPs := n.decelPs, respPs := n.respPs, margin := n.margin, holdOnEmpty := n.holdOnEmpty
           pwmHz := n.pwmHz, peers := n.peers }

/-- An evaluation of the governor, with the settings written before it (R216, R217, R219, R222). -/
def State.evalGov (s : State) : State :=
  let s := { s with gov := s.gov.adopt }
  let o := s.ownLimitNow
  let s1 := { s with gov := { s.gov with ownLimit := o.1, ownReason := o.2 } }
  let s2 := match s.gov.peerMin with
    | some p => if p < o.1 then s1.setLimit p 5 else s1.setLimit o.1 o.2
    | none => s1.setLimit o.1 o.2
  s2.setCause 1 s2.queueEmptyHold

/-- The duty code of SPDLIM (R221). -/
def GovPart.dutyNow (g : GovPart) : Nat := if g.zeroed then 0 else min 65535 (65536 * g.limit / g.vMax)

/-- OVERSPEED at a line boundary (R227). -/
def State.checkOverspeed (s : State) : State :=
  let fast := decide (51 * s.gov.limit < 50 * s.measured)
  let late := decide (s.gov.respPs + s.gov.decelPs < 1000 * (s.time.raw - s.gov.limitRaw).toNat)
  if s.gov.overspeed then { s with gov := { s.gov with overspeed := fast } }
  else if fast && late then
    ({ s with gov := { s.gov with overspeed := true } }).raiseF .overspeed
      [fld 0 8 (s.measured / 2000), fld 8 8 (s.gov.limit / 2000)]
  else s

end Sys2Proof.Machine
end

