-- ==== Sys2Proof/Machine/PrintOps.lean ====
section
/-!
DEFINITION. Operations of the print model (02_print_model.md): MARK_MISS pulses, defect records, page starts, flips, maps taking
effect, aborts, ends of pages and the print stop.
-/

namespace Sys2Proof.Machine

/-! ### MARK_MISS outputs (R68) -/

/-- A product-detect input changed. -/
def State.setTrig (s : State) (n : TrigNo) (f : TrigState → TrigState) : State :=
  { s with print := { s.print with trigs := upd s.print.trigs n f } }

/-- A pulse starts, or extends the assertion. -/
def State.markNow (s : State) (n : TrigNo) : State := s.setTrig n (fun t => { t with asserted := true })

/-- A pulse due at the line boundary of a bar line; at once where that line is past or printing has stopped (R68). -/
def State.pulse (s : State) (n : TrigNo) (line : Nat) : State :=
  if line ≤ s.sluice.coreLine || !s.print.started then s.markNow n
  else s.setTrig n (fun t => { t with pulses := t.pulses ++ [line] })

/-- The pulse of a trigger with a scheduled start. -/
def State.pulseFor (s : State) (n : TrigNo) (start : Nat) : State := s.pulse n (start + s.print.trigs[n].set.mmOffset)

/-- Pulses whose start line is bar line n start (R68). -/
def State.pulsesAt (s : State) (n : Nat) : State :=
  (List.finRange 4).foldl (fun s k =>
    if s.print.trigs[k].pulses.contains n then
      (s.setTrig k (fun t => { t with pulses := t.pulses.filter (fun l => l != n) })).markNow k
    else s) s

/-- Pulses still to come start at the instant printing stops (R68). -/
def State.pulsesStop (s : State) : State :=
  (List.finRange 4).foldl (fun s k =>
    if s.print.trigs[k].pulses.isEmpty then s
    else (s.setTrig k (fun t => { t with pulses := [] })).markNow k) s

/-! ### Defect records (R45, R552, R650) -/

/-- The least row lag of a map. -/
def NozzleMap.leastLag (m : NozzleMap) : Nat :=
  ((m.heads.flatMap (fun h => h.rows.flatMap (fun r => [r.lagFwd, r.lagRev]))).min?).getD 0

/-- Page lines of composed lines lo to hi, clamped to the page (R39, R650). -/
def PageDesc.pageLines (d : PageDesc) (lo hi : Int) : Nat × Nat :=
  let cl (y : Int) : Nat := (max 0 (min y ((d.length : Int) - 1))).toNat
  let a := d.lineOf (cl lo)
  let b := d.lineOf (cl hi)
  (min a b, max a b)

/-- The map of the running page. -/
def State.spanMap (s : State) : Option NozzleMap :=
  match s.spanCtx with | some c => some c.map | none => s.mapper.inForce

/-- A record is a defect: every KIND but 7 (R552). -/
def DefectKind.isDefect : DefectKind → Bool
  | .interruption => false
  | _ => true

/-- The page of the span has a recorded defect. -/
def Span.defective (sp : Span) : Bool := decide (0 < sp.notKept) || sp.defects.any (fun r => r.kind.isDefect)

/-- A record is kept for the running page; the first defect of a triggered page pulses MARK_MISS (R68, R552). -/
def State.addDefect (s : State) (r : DefectRecord) : State :=
  match s.print.span with
  | none => s
  | some sp =>
    let sp1 := if sp.defects.length < 4096 then { sp with defects := sp.defects ++ [r] }
      else { sp with notKept := min 65535 (sp.notKept + 1) }
    let s1 := { s with print := { s.print with span := some sp1 } }
    match sp.trig with
    | some n => if r.kind.isDefect && !sp.defective && s.print.trigs[n].set.onDefective then s1.pulseFor n sp.first else s1
    | none => s1

/-- A record of the running page, with the page lines of R650. -/
def State.defectOf (s : State) (sp : Span) (k : DefectKind) (first last : Int) : DefectRecord :=
  let g : Nat := match s.spanMap with | some m => m.greatestLag | none => 0
  let l : Nat := match s.spanMap with | some m => m.leastLag | none => 0
  let p := sp.desc.pageLines (first - sp.first - g) (last - sp.first - l)
  ⟨k, first, last, p.1, p.2⟩

/-- A record is taken. -/
def State.defect (s : State) (k : DefectKind) (first last : Int) : State :=
  match s.print.span with
  | none => s
  | some sp => s.addDefect (s.defectOf sp k first last)

/-- A run of blank lines ends: its record and CISTERN_DRY (R214, R215). -/
def State.dryEnd (s : State) : State :=
  match s.cist.dryRun with
  | none => s
  | some (page, first, last) =>
    let s1 := ({ s with cist := { s.cist with dryRun := none } }).raiseF .cisternDry
      [page.toNat, fld 32 8 (min 255 (last - first + 1))]
    if s.print.span.any (fun sp => sp.desc.id == page) then s1.defect .cisternDry first last
    else { s1 with cist := { s1.cist with early := s1.cist.early ++ [(first, last)] } }

/-- Runs that ended before the flip are recorded at it (R214). -/
def State.dryEarly (s : State) : State :=
  s.cist.early.foldl (fun s r => s.defect .cisternDry r.1 r.2) { s with cist := { s.cist with early := [] } }

/-- A start is given up: what was judged of its lines is judged again for whatever they then belong to (R213, R214). -/
def State.forgetJudged (s : State) (start : Nat) : State :=
  { s with cist := { s.cist with
      blank := s.cist.blank.filter (fun n => decide (n < start))
      early := s.cist.early.filter (fun r => decide (r.1 < start))
      dryRun := s.cist.dryRun.filter (fun r => decide (r.2.1 < start)) } }

/-! ### Ends of pages (R48, R55, R99, R576) -/

/-- The end event of a page (R48). -/
def State.endEvent (s : State) (id : PageId) (st shown : PageState) : State :=
  let c := match st with | .defective => Code.pageDefective | .missed => Code.pageMissed | _ => Code.pageDone
  s.raiseF c [id.toNat, fld 32 3 shown.code]

/-- A page that has ended is kept for PAGE_DEFECTS (R552). -/
def State.keepEnded (s : State) (e : EndedPage) : State :=
  { s with print := { s.print with ended := (e :: s.print.ended).take 1024 } }

/-- The context of a page drains, and its engines are free (R55). -/
def State.dropCtx (s : State) (fallback : Bool) : State :=
  let e := { s.eng with engines := s.eng.engines.map (fun (k : Engine) => match k.busy with
    | some (f, _) => if f == fallback then { busy := none } else k
    | none => k) }
  { s with eng := if fallback then { e with fallbackCtx := none } else { e with queueCtx := none } }

/-- The CODE line of a drawn serial (R576). -/
def State.logCode (s : State) (d : PageDesc) (serial : Option (BitVec 48 × BitVec 40)) (outcome : Nat) : State :=
  match serial with
  | some (n, mac) => s.codeLine d.slot n mac d.id d.hostTag outcome
  | none => s

/-- A start leaves the pending-start list of its input (R62). -/
def State.unpend (s : State) (n : Option TrigNo) (start : Nat) : State :=
  match n with
  | some n => s.setTrig n (fun t => { t with pending := t.pending.filter (fun l => l != start) })
  | none => s

/-- A running rollout is over once its page K has printed, or has ended without (R196). -/
def State.rolloutEnd (s : State) (id : PageId) : State :=
  match s.mapper.rollout with
  | none => s
  | some r =>
    if r.lastPage = some id then
      ({ s with mapper := { s.mapper with rollout := none } }).raiseF .rolloutDone [fld 0 18 r.old.length, fld 18 7 r.k]
    else s

/-- A page leaves the queue without any line fired (R46). -/
def State.missPage (s : State) (q : QEntry) : State :=
  let s0 := match q.start with
    | some b => s.unpend q.bound b |>.forgetJudged b
    | none => s
  let s1 := { s0 with print := { s0.print with queue := s0.print.queue.filter (fun x => x.desc.id != q.desc.id)
                                               bounds := s0.print.bounds.filter (fun b => b.page != some q.desc.id) } }
  let s2 := if s1.eng.queueCtx.any (fun c => c.desc.id == q.desc.id) && !s.print.queuePrinting then s1.dropCtx false else s1
  let s3 := ((s2.dropPage q.desc.id).keepEnded ⟨q.desc.id, 0, .missed, [], 0⟩).endEvent q.desc.id .missed .missed
  (s3.logCode q.desc q.serial 3).rolloutEnd q.desc.id

/-! ### Page starts under DISTANCE (R57 to R59) -/

/-- The first boundary whose cut-off a commit meets, and whether it is later than B0. -/
def startFor (edge gap : Nat) (commitLine : Option Nat) : Nat × Bool :=
  let b0 := edge + gap
  match commitLine with
  | none => (b0, false)
  | some n => if n + 128 ≤ b0 then (b0, false) else (b0 + 96 * ceilDiv (n + 128 - b0) 96, true)

/-- E: the trailing edge of the page ahead of the first waiting page, plus 1 (R57). -/
def State.edgeNow (s : State) : Nat :=
  match s.print.span with
  | some sp => if sp.fallback then s.print.edge else sp.trailing + 1
  | none => s.print.edge

/-- An entry of the queue changed. -/
def State.setQ (s : State) (id : PageId) (f : QEntry → QEntry) : State :=
  { s with print := { s.print with queue := s.print.queue.map (fun q => if q.desc.id == id then f q else q) } }

/-- The first waiting page takes its start line from the trailing edge now known, at a boundary whose cut-off a line meets; LATE_COMMIT
where its commit meets only a boundary after the first. A CARRIAGE page starts at a crossing (R253), a TRIGGER page at its trigger. -/
def State.assignBy (s : State) (line : QEntry → Option Nat) : State :=
  match s.print.waitingQ with
  | [] => s
  | q :: _ =>
    if !s.print.started || s.print.stopping || s.print.trigMode || q.desc.carriage || s.shadow then s
    else
      let b := (startFor s.edgeNow q.desc.gap (line q)).1
      let s1 := (s.setQ q.desc.id (fun q => { q with start := some b })).record 5
        (word [q.desc.id.toNat]) (BitVec.ofNat 64 b)
      if (startFor s.edgeNow q.desc.gap q.commitLine).2 then s1.raiseF .lateCommit [q.desc.id.toNat] else s1

/-- The first waiting page takes its start line by its commit line (R57 to R59). -/
def State.assignNext (s : State) : State := s.assignBy (fun q => q.commitLine)

/-! ### A map takes effect (R194 to R200) -/

/-- The curves a map gives its candidates, with those that replace some of them (R187, R194, R195). -/
def NozzleMap.curvesWith (m : NozzleMap) (set : List (Nozzle × Word)) : List (Nozzle × Word) :=
  m.curveList.map (fun p => (p.1, (lookupNozzle set p.1).getD p.2))

/-- The curve each candidate uses: the map's, or the correction's (R187, R194). -/
def State.curvesNow (s : State) (m : NozzleMap) : List (Nozzle × Word) := m.curvesWith s.mapper.curveSet

/-- A rollout starts from the curves the last page prepared used (R194, R197). It belongs to the map published and not yet in force, if
there is one (R200). -/
def State.startRollout (s : State) (new : List (Nozzle × Word)) (k : Nat) : State :=
  { s with mapper := { s.mapper with rollout := some { old := affected s.mapper.used new, k := k, page := 0
                                                       ofNext := s.mapper.published.isSome, lastPage := none } } }

/-- The map of the last page prepared that has not ended, or the map in force (R200). -/
def State.mapBefore (s : State) : Option NozzleMap :=
  match s.eng.queueCtx, s.eng.fallbackCtx with
  | some c, _ => some c.map
  | none, some c => if c.fresh then some c.map else s.mapper.inForce
  | none, none => s.mapper.inForce

/-- A map rolls out against the map that it follows: the map in force, or one under which a page is prepared (R200). -/
def State.rollsOut (s : State) (m : NozzleMap) : Bool := m.rollout && s.mapBefore.any (fun f => sameGeometry m f)

/-- Bands prepared and not yet printing are discarded (R200). -/
def State.discardPrepared (s : State) : State :=
  let s1 := if s.print.queuePrinting then s else s.dropCtx false
  match s.print.span with
  | some sp => if sp.fallback then s1 else s1.dropCtx true
  | none => s1.dropCtx true

/-- What becomes of the mapper when a map takes effect: the published one, or one published before it under which a page was
prepared (R200). A rollout that began before its publication ends (R197). The curves in use are the map's own, unless its rollout
keeps old ones. rolls: its publication started a rollout. -/
def MapperPart.takes (q : MapperPart) (m : NozzleMap) (rolls : Bool) : MapperPart :=
  let now := decide (q.published = some m)
  let q1 := { q with inForce := some m, used := if rolls then q.used else m.curveList }
  if now then
    { q1 with published := none, rolls := false
              rollout := (q.rollout.filter (fun r => r.ofNext)).map (fun r => { r with ofNext := false }) }
  else q1

/-- A map takes effect (R200): its event, the health map (R397), the capability check while printing (R301), and the pages
(R101). rolls: its publication started a rollout. -/
def State.mapTakesEffect (s : State) (m : NozzleMap) (rolls : Bool) : State :=
  let s1 := { s with mapper := s.mapper.takes m rolls }
  let s2 := (s1.raiseF .nozzleMapApplied [m.id.toNat, fld 32 1 (b2n rolls)]).judgeAll m
  let s3 := if s.print.started then s2.checkCaps m else s2.discardPrepared
  s3.evalPages

/-- A map is published (R200): it takes effect at once while printing is stopped, and its rollout starts (R194). One that replaces a map
published before it ends that one's rollout. -/
def State.publishMap (s : State) (m : NozzleMap) : State :=
  let rolls := s.rollsOut m
  let s1 := { s with mapper := { s.mapper with published := some m, rolls := rolls, curveIdx := []
                                               rollout := s.mapper.rollout.map (fun r => { r with ofNext := false }) } }
  let s2 := if rolls then s1.startRollout m.curveList m.rolloutK else s1
  if s.print.started then s2 else s2.mapTakesEffect m rolls

/-! ### The page boundary (R72) -/

/-- A pending correction is applied (R318). -/
def State.encCorrect (s : State) (k : EncNo) : State :=
  let e := s.enc.encs[k]
  match e.pending with
  | some d =>
    if e.rerefNow then
      ({ s with enc := { s.enc with encs := upd s.enc.encs k (fun e =>
        { e with angle := moveAngle e.cpr e.angle (-d), pending := none }) } }).raiseF .indexReref
          [fld 0 1 k.val, fldI 2 16 (sat16 d)]
    else s
  | none => s

/-- What a page boundary does to an encoder interface: its trim (R330) and its pending correction (R318). -/
def State.encBoundary (s : State) (k : EncNo) : State :=
  ({ s with enc := { s.enc with encs := upd s.enc.encs k (fun e =>
    { e with trim := e.trimNext.getD e.trim, trimNext := none }) } }).encCorrect k

/-- The baseline of cross-checking: each interface's position, with 16 fractional bits (R314, R320). -/
def State.baseline (s : State) : State :=
  { s with enc := { s.enc with base := s.enc.encs.map (fun (e : EncState) => e.position.toInt * 65536) } }

/-- Heads cleared before bar line n return to use (R193, R259). -/
def HeadTemp.returned (t : HeadTemp) (n : Nat) : HeadTemp :=
  match t.back with
  | some b => if b < n then { t with back := none, out := none } else t
  | none => t

/-- The candidates of a position that some page line selects (R180). -/
def PageCtx.selectable (c : PageCtx) (p : Nat) (e : PosEntry) : List Cand :=
  match e.b with
  | none => if c.failedNozzle e.a then [] else [e.a]
  | some b =>
    let ok := [e.a, b].filter (fun k => !c.failedNozzle k)
    if c.forced.getLsbD e.a.nozzle.port.val && !c.failedNozzle b then [b]
    else if (c.map.zoneOf p).isSome then ok
    else ok.take 1

/-- The other candidate of a position. -/
def PosEntry.other (e : PosEntry) (x : Cand) : Option Cand := e.cands.find? (fun o => o.nozzle != x.nozzle)

/-- What the loss of a head does to a page: positions print blank to its end; the greatest number of bar lines, from the one at which the
head is lost, on which a position prints blank though it is taken over; and some position is taken over (R190 to R192). -/
structure HeadLoss where
  whole : Bool := false
  lines : Nat := 0
  taken : Bool := false
deriving DecidableEq, Repr

/-- Two losses together. -/
def HeadLoss.and (a b : HeadLoss) : HeadLoss := ⟨a.whole || b.whole, max a.lines b.lines, a.taken || b.taken⟩

/-- What the loss of a head from bar line n does to a position whose selected candidate X lies on it (R190), on a page whose first line is
first. Where the other candidate's head is out as well the position prints blank. -/
def PageCtx.lossOf (c : PageCtx) (out : HeadPort → Bool) (first n : Nat) (e : PosEntry) (x : Cand) : HeadLoss :=
  match e.other x with
  | none => { whole := true }
  | some o =>
    if o.nozzle.port = x.nozzle.port ∨ c.failedNozzle o ∨ out o.nozzle.port = true then { whole := true }
    else { lines := if first + c.lag o < n then c.lag x - c.lag o else 0, taken := true }

/-- The loss of head p ends the take-over of a position whose selected candidate lies on another head that is out (R190). -/
def PageCtx.endsTakeover (c : PageCtx) (out : HeadPort → Bool) (p : HeadPort) (e : PosEntry) (x : Cand) : Bool :=
  x.nozzle.port != p && out x.nozzle.port && (e.other x).any (fun o => o.nozzle.port == p && !c.failedNozzle o)

/-- What the loss of a head from bar line n does to a page whose first line is first (R190 to R192). out: the other heads that are out. -/
def PageCtx.headLoss (c : PageCtx) (out : HeadPort → Bool) (p : HeadPort) (first n : Nat) : HeadLoss :=
  c.map.positions.zipIdx.foldl (fun acc (e, i) =>
    (c.selectable i e).foldl (fun acc x =>
      acc.and (if x.nozzle.port = p then c.lossOf out first n e x else { whole := c.endsTakeover out p e x })) acc) {}

/-- Bar line from which a head fires nothing of a page (R190); one cleared before the page's first line has returned (R193). -/
def HeadTemp.outOn (t : HeadTemp) (first : Nat) : Option Nat := if t.back.any (fun b => decide (b < first)) then none else t.out

/-- A head fires nothing of a page on bar line n. -/
def State.headOutBy (s : State) (first n : Nat) (p : HeadPort) : Bool := (s.sluice.temps[p].outOn first).any (fun k => decide (k ≤ n))

/-- The record of a head's loss: the bar lines on which some position prints blank for it (R191). -/
def State.lossDefect (s : State) (sp : Span) (p : HeadPort) (n : Nat) (r : HeadLoss) : State :=
  if r.whole then s.defect (.headHardLimit p) (max n sp.first : Nat) sp.trailing
  else if r.lines = 0 then s
  else s.defect (.headHardLimit p) n (min (n + r.lines - 1) sp.trailing : Nat)

/-- SPARE_TAKEOVER, once for each time a head reaches its hard limit, when some position is taken over (R192). -/
def State.tellTakeover (s : State) (p : HeadPort) (n : Nat) (take : Bool) : State :=
  if take && !s.mapper.takeover.getLsbD p.val then
    ({ s with mapper := { s.mapper with takeover := s.mapper.takeover ||| BitVec.ofNat 32 (2 ^ p.val) } }).raiseF .spareTakeover
      [fld 0 5 p.val, fld 5 35 n]
  else s

/-- The loss of a head from bar line n on the running page: its record and its take-over (R190 to R192). -/
def State.loseHead (s : State) (sp : Span) (c : PageCtx) (p : HeadPort) (n : Nat) : State :=
  if sp.trailing < n then s
  else
    let r := c.headLoss (s.headOutBy sp.first n) p sp.first n
    (s.tellTakeover p n r.taken).lossDefect sp p n r

/-- The heads that are out when a page starts, or go out before its trailing edge: their records and take-overs (R190 to R193). -/
def State.headsOutAtFlip (s : State) : State :=
  match s.print.span, s.spanCtx with
  | some sp, some c =>
    (List.finRange 32).foldl (fun s p => match s.sluice.temps[p].outOn sp.first with
      | some n => s.loseHead sp c p n
      | none => s) s
  | _, _ => s

/-- The positions that the loss of each head blanks, with the lags of the candidate lost and of the one that takes over, and that
one's head (R190, R191). -/
def PageCtx.blankedBy (c : PageCtx) : List (HeadPort × Nat × Option (Nat × Nat × HeadPort)) :=
  c.map.positions.zipIdx.flatMap (fun (e, i) => (c.selectable i e).map (fun x =>
    match (c.lossOf (fun _ => false) 0 0 e x).taken, e.other x with
    | true, some o => (x.nozzle.port, i, some (c.lag x, c.lag o, o.nozzle.port))
    | _, _ => (x.nozzle.port, i, none)))

/-- A page whose camera lines are to come is noted on each port that triggers by bar lines (R359, R364). -/
def State.camPage (s : State) (sp : Span) (c : Option PageCtx) : State :=
  if !sp.desc.inspect then s
  else
    let g : CamPage := { id := sp.desc.id, hostTag := sp.desc.hostTag, first := sp.first, trailing := sp.trailing
                         length := sp.desc.length, reverse := sp.desc.carriage && sp.desc.reverse
                         checkStrip := sp.desc.checkStrip
                         gp := (c.map (fun c => c.gp)).getD s.cam.gp, gl := (c.map (fun c => c.gl)).getD s.cam.gl
                         p := mapPositions (match c with | some c => some c.map | none => s.mapper.inForce)
                         mode := sp.desc.mode, forced := (c.map (fun c => c.forced)).getD 0
                         blanks := (c.map (fun c => c.blankedBy)).getD []
                         prep := c.map (fun c => c.prep)
                         spares := (match c with | some c => some c.map | none => s.mapper.inForce).any (fun (m : NozzleMap) => m.spares) }
    { s with cam := { s.cam with ports := s.cam.ports.map (fun q =>
        if q.direct.enable && !q.direct.timeMode then { q with pages := q.pages ++ [g] } else q) } }

/-- The trailing edge of the running page has moved: the camera's copy follows (R364). -/
def State.camTrailing (s : State) (id : PageId) (first trailing : Nat) : State :=
  let move (g : CamPage) : CamPage := if g.id == id && g.first == first then { g with trailing := trailing } else g
  let s1 : State := { s with cam := { s.cam with ports := s.cam.ports.map (fun q => { q with pages := q.pages.map move }) } }
  s1.camSettle id first trailing

end Sys2Proof.Machine
end

