-- ==== Sys2Proof/Machine/CalOps.lean ====
section
/-!
DEFINITION. The end of a calibration procedure (R403, R404).
-/

namespace Sys2Proof

/-- Procedure number (R403). -/
def CalProc.num : CalProc → Nat
  | .nozzle _ => 1 | .density => 2 | .encTrim _ => 3 | .chopper _ => 4

/-- Target number: head port, interface or axis; 0 for density (R403). -/
def CalProc.target : CalProc → Nat
  | .nozzle p => p.val | .density => 0 | .encTrim e => e.val | .chopper a => a.val

end Sys2Proof

namespace Sys2Proof.Machine

/-- The run of a procedure on its target. -/
def HealthPart.run (h : HealthPart) (p : CalProc) : Option CalRun := h.runs.find? (fun r => r.proc == p)

/-- A run leaves, and the forcing it started ends (R181, R404). -/
def State.dropRun (s : State) (p : CalProc) : State :=
  let s1 := { s with health := { s.health with runs := s.health.runs.filter (fun r => r.proc != p) } }
  match p with
  | .nozzle h => { s1 with mapper := { s1.mapper with forced := s1.mapper.forced &&& ~~~(1#32 <<< h.val) } }
  | _ => s1

/-- A procedure ends: its event and the one response of its command (R403). -/
def State.calAnswer (s : State) (r : CalRun) (st : Code) (n : Nat) : State :=
  let d := pack40 [fld 0 3 r.proc.num, fld 3 5 r.proc.target, fld 8 18 n]
  ((s.dropRun r.proc).raise st d).respond r.origin r.opcode r.tag st d

/-- A procedure fails with a reason (R404). -/
def State.calFail (s : State) (r : CalRun) (reason : Nat) : State := s.calAnswer r .calFail reason

/-- A camera port is ACTIVE, triggers by bar lines and has pixels on the bar; the slots lie along the web, so it images this device's slot
with the strip (R388, R404). -/
def State.imagesStrip (s : State) (q : CamState) : Bool :=
  q.link == .active && !q.direct.timeMode && decide (pixelPos q.active 0 < mapPositions s.mapper.inForce) &&
    decide (0 ≤ pixelPos q.active (q.direct.width - 1))

/-- The first assumption that does not hold for a procedure that needs printing: reasons 1 to 3 (R404). -/
def State.printFault (s : State) : Option Nat :=
  if !s.print.started || decide (s.measured < s.health.set.calMinRate) then some 1
  else if s.health.set.cappedSw.any (fun w => s.motion.switches[w].level) then some 2
  else if !s.cam.ports.toList.any (fun q => s.imagesStrip q) then some 3
  else none

/-- The first assumption of a procedure that does not hold now (R404). -/
def State.calFault (s : State) (p : CalProc) : Option Nat :=
  match p with
  | .nozzle _ => s.printFault
  | .density => s.printFault
  | .encTrim e =>
    let k := s.enc.encs[e]
    if k.mode != .analogue || k.lossEp then some 6 else none
  | .chopper a =>
    let x := s.motion.axes[a]
    if !x.set.enable || !x.atRest || x.coilFault || decide (x.set.runCurrent < 91) then some 7 else none

/-- Procedures whose assumptions no longer hold fail. They are checked at every line boundary, at each profile update and coil fault of
the axis, and as an ENC_SIGNAL_LOSS episode opens (R404, log 140). -/
def State.calCheck (s : State) (of : CalProc → Bool) : State :=
  (s.health.runs.filter (fun r => of r.proc)).foldl (fun s r => match s.calFault r.proc with
    | some n => s.calFail r n
    | none => s) s

/-- Printing stops: procedures that need printing fail with reason 1, the others with reason 9 (R404). -/
def State.calPrintStop (s : State) : State :=
  s.health.runs.foldl (fun s r => s.calFail r (if r.proc.num ≤ 2 then 1 else 9)) s

end Sys2Proof.Machine
end

