-- ==== Sys2Proof/Machine/HeadLink.lean ====
section
/-!
DEFINITION. The blocks of the head link as words (09_head_link.md).
-/

namespace Sys2Proof.Machine

/-- LINE of a block: bits [15:0] of a bar line number. -/
def lineField (n : Nat) : Nat := n % 65536

/-- LINE_HEADER (R270). -/
def lineHeader (n depth : Nat) (blank : Bool) (nozzles : Nat) : Word :=
  word [fld 0 8 0x10, fld 8 16 (lineField n), fld 24 2 (if depth = 1 then 0 else if depth = 2 then 1 else 2),
    fld 26 1 (b2n blank), fld 32 14 nozzles]

/-- LINE_TRAILER (R272). -/
def lineTrailer (n : Nat) (data : List Word) : Word :=
  word [fld 0 8 0x1F, fld 8 16 (lineField n), fld 32 32 (if data = [] then 0 else (crc32c data).toNat)]

/-- A line frame (R268, R271): codes of nozzles 0 to NOZZLES − 1 at a depth, or a blank frame. -/
def lineFrame (n depth nozzles : Nat) (codes : Option (List Nat)) : List Word :=
  match codes with
  | none => [lineHeader n depth true nozzles, lineTrailer n []]
  | some cs =>
    let data := packList depth cs (packedWords depth nozzles)
    lineHeader n depth false nozzles :: data ++ [lineTrailer n data]

/-- Token kinds (R276). -/
inductive TokenKind where
  | fire | revise | hold
deriving DecidableEq, Repr

/-- The control block of a token (R276). delay and period in 250 ps. -/
def tokenBlock (k : TokenKind) (n delay period : Nat) : Word :=
  match k with
  | .fire => word [fld 0 8 0x41, fld 8 16 (lineField n), fld 24 18 delay, fld 42 22 (min period 4194303)]
  | .revise => word [fld 0 8 0x42, fld 8 16 (lineField n), fld 24 18 delay, fld 42 22 (min period 4194303)]
  | .hold => word [fld 0 8 0x43, fld 8 16 (lineField n)]

/-- The offsets data block of a FIRE (R276). -/
def offsetsBlock (subs : List Nat) : Word := packWord 8 (subs.take 8)

/-- STATUS (R281). -/
def statusBlock (unitB paired : Bool) (fromLine : Nat) (claim : BitVec 32) : Word :=
  word [fld 0 8 0x60, fld 8 1 (b2n unitB), fld 9 1 (b2n paired), fld 16 16 fromLine, fld 32 32 claim.toNat]

/-- LAT_PROBE (R287). -/
def latProbe (seq : Byte) : Word := word [fld 0 8 0x70, fld 8 8 seq.toNat]

/-- TICKLE (R290). -/
def tickleBlock : Word := word [fld 0 8 0x50]

/-- A waveform load (R291). -/
def waveFrame (w : WaveLoad) : List Word :=
  word [fld 0 8 0x30, fld 8 2 w.depth, fld 16 8 w.seq.toNat, fld 24 16 w.words.length] :: w.words
    ++ [word [fld 0 8 0x3F, fld 16 8 w.seq.toNat, fld 32 32 (crc32c w.words).toNat]]

/-! ### Block slots (R268, R269) -/

/-- A token as an item; a FIRE carries its offsets block (R269, R276). -/
def tokenItem (k : TokenKind) (n : Nat) (b : Word) (subs : List Nat) : TxItem :=
  match k with
  | .fire => ⟨1, n, 0, [control b, dataBlock (offsetsBlock subs)]⟩
  | .revise => ⟨1, n, 1, [control b]⟩
  | .hold => ⟨1, n, 2, [control b]⟩

/-- STATUS, TICKLE, LAT_PROBE, a line frame and a waveform load as items (R269). -/
def statusItem (b : Word) : TxItem := ⟨3, 0, 0, [control b]⟩
def tickleItem : TxItem := ⟨4, 0, 0, [control tickleBlock]⟩
def probeItem (seq : Byte) : TxItem := ⟨5, 0, 0, [control (latProbe seq)]⟩
def lineItem (ws : List Word) : TxItem := ⟨6, 0, 0, frameBlocks ws⟩
def waveItem (w : WaveLoad) : TxItem := ⟨7, 0, 0, frameBlocks (waveFrame w)⟩

/-- An item goes ahead of another: rank, then the lowest line, then FIRE before REVISE before HOLD (R269). -/
def TxItem.ahead (a b : TxItem) : Bool :=
  decide (a.rank < b.rank) || (a.rank == b.rank && (decide (a.line < b.line) || (a.line == b.line && decide (a.kind < b.kind))))

/-- An item takes its place behind those that it does not go ahead of. -/
def placeItem (x : TxItem) : List TxItem → List TxItem
  | [] => [x]
  | y :: rest => if x.ahead y then x :: y :: rest else y :: placeItem x rest

/-- What is left of the first item after one of its blocks: a FIRE begun goes before everything (R269). -/
def TxItem.left (x : TxItem) : List TxItem :=
  match x.blocks.tail with
  | [] => []
  | bs => [{ x with rank := if x.rank = 1 then 0 else x.rank, blocks := bs }]

/-- The block of slot k, if it is no IDLE, and the port after it (R269): SKIP is due from slot skipFrom on, behind tokens. -/
def HeadState.sendSlot (h : HeadState) (k : Nat) : HeadState × Option LinkBlock :=
  let skip := ({ h with slot := k + 1, skipFrom := (k / 4096 + 1) * 4096 }, some (control skipBlock))
  match h.queue with
  | [] => if h.skipFrom ≤ k then skip else ({ h with slot := k + 1 }, none)
  | x :: rest =>
    if 2 < x.rank ∧ h.skipFrom ≤ k then skip
    else ({ h with slot := k + 1, queue := x.left ++ rest }, x.blocks.head?)

/-- The blocks of the slots up to one, oldest first. A stretch in which nothing is ready is crossed at once: its slots carry IDLE.
fuel: more than the blocks and SKIPs it can send. -/
def HeadState.sendSlots (to_ : Nat) : Nat → HeadState → HeadState × List LinkBlock
  | 0, h => (h, [])
  | fuel + 1, h =>
    let k := if h.queue = [] then max h.slot h.skipFrom else h.slot
    if to_ ≤ k then ({ h with slot := max h.slot to_ }, [])
    else
      let r := h.sendSlot k
      let t := HeadState.sendSlots to_ fuel r.1
      (t.1, r.2.toList ++ t.2)

/-- The port at a block slot (R269). -/
def HeadState.slotsTo (h : HeadState) (to_ : Nat) : HeadState × List LinkBlock :=
  h.sendSlots to_ ((h.queue.map (fun (x : TxItem) => x.blocks.length)).sum + (to_ - h.slot) / 4096 + 3)

/-- The bar line nearest to last whose low 16 bits are v, the earlier of two equally near (R302). -/
def expandLine (last v : Nat) : Nat :=
  let up := (v + 65536 - last % 65536) % 65536
  if up < 32768 then last + up
  else if 65536 - up ≤ last then last + up - 65536 else last + up

/-- The capabilities of a CAPS pair (R299). -/
def parseCaps (control data : Word) : HeadCaps :=
  { dualPort := bitAt control 8, portIndex := bitAt control 9, nozzles := bits control 29 16
    rows := bits control 33 30, log2Slots := bits control 36 34, driverId := data }

/-- The median of measurements; with an even number of them, the mean of the middle two rounded down (R288, log 13). -/
def median (l : List Nat) : Option Nat :=
  let s := sortBy (fun a b => decide (a ≤ b)) l
  if s = [] then none
  else some ((s.getD ((s.length - 1) / 2) 0 + s.getD (s.length / 2) 0) / 2)

end Sys2Proof.Machine
end

