-- ==== Sys2Proof/Machine/LineOps.lean ====
section
/-!
DEFINITION. Bar lines and pages: assembling and judging a bar line (R183, R213, R273), the flip, aborts, the trailing edge
and the print stop.
-/

namespace Sys2Proof.Machine

/-! ### The frame of a bar line (R183, R189, R190, R270 to R273) -/

/-- The lane of a head port (R266). -/
def headLane (p : HeadPort) : LaneNo := ⟨p.val, by omega⟩

/-- The lane of a head port is ACTIVE (R266). -/
def State.headActive (s : State) (p : HeadPort) : Bool :=
  s.lanes.lanes[headLane p].role == .head && s.lanes.lanes[headLane p].st == .active

/-- A port is in use: its lane is ACTIVE with a latency, and it has not failed the capability check (R301, R303). -/
def State.portUsed (s : State) (p : HeadPort) : Bool :=
  s.headActive p && s.heads.ports[p].lam.isSome && !s.heads.ports[p].capsBad

/-- A head port changed. -/
def State.setHead (s : State) (p : HeadPort) (f : HeadState → HeadState) : State :=
  { s with heads := { s.heads with ports := upd s.heads.ports p f } }

/-- A head lane carries the blocks of the head link: ACTIVE, or in CAPS (R266, R288). -/
def State.headCarries (s : State) (p : HeadPort) : Bool :=
  s.lanes.lanes[headLane p].role == .head &&
    (s.lanes.lanes[headLane p].st == .active || s.lanes.lanes[headLane p].st == .caps)

/-- The block slots of a port that have gone by are sent (R269). -/
def State.portSlots (s : State) (p : HeadPort) : State :=
  if !s.headCarries p then s
  else
    let r := s.heads.ports[p].slotsTo s.slotNow
    { s with heads := { s.heads with ports := s.heads.ports.set p r.1 }
             sent := (r.2.map (fun b => Emission.headBlock p b)).reverse ++ s.sent }

/-- An item is ready on a port from the present slot on (R269). -/
def State.offer (s : State) (p : HeadPort) (x : TxItem) : State :=
  (s.portSlots p).setHead p (fun h => { h with queue := placeItem x h.queue })

/-- The block slots of every port that have gone by are sent (R269). -/
def State.headSlots (s : State) : State := (List.finRange 32).foldl (fun s p => s.portSlots p) s

/-- The block slots of every head and fabric port that have gone by are sent (R269, R434). -/
def State.allSlots (s : State) : State := s.headSlots.allFabSlots

/-- A paired unit sends the frames and tokens of bar line n as the active, once it has joined and page J is prepared, or, demoted, up
to the switch line (R483, R487). -/
def State.sendsLine (s : State) (n : Nat) : Bool :=
  !s.pair.paired || s.pair.st == .active || (s.pair.sending && (match s.pair.sendUntil with | some k => decide (n < k) | none => true))

/-- The page lines of a page's check strip (R388); 0 where it has none. -/
def State.stripOf (s : State) (d : PageDesc) (m : NozzleMap) : Nat :=
  if d.checkStrip then s.health.set.stripLines m.spares else 0

/-- The code candidate k of position p fires on bar line n, before derate (R180, R183, R190, R389). lines: composed lines the
page prints; the page's first bar line is first. -/
def State.fireCode (s : State) (c : PageCtx) (first lines n p : Nat) (e : PosEntry) (k : Cand) : Nat :=
  let y : Int := (n : Int) - first - c.lag k
  if y < 0 ∨ (lines : Int) ≤ y ∨ s.headOutBy first n k.nozzle.port then 0
  else
    let y := y.toNat
    let code := match c.slotCodes p y with
      | some (a, b) => if e.a.nozzle = k.nozzle then a else b
      | none => 0
    let line := c.desc.lineOf y
    if line < s.stripOf c.desc c.map then code
    else
      match c.select p e line, e.b with
      | .none, _ => 0
      | .a, none => code
      | .b, none => 0
      | sel, some b =>
        let x := if sel = .a then e.a else b
        let o := if sel = .a then b else e.a
        if k.nozzle = x.nozzle then code
        else if o.nozzle.port != x.nozzle.port && !c.failedNozzle o
            && (s.sluice.temps[x.nozzle.port].outOn first).any (fun t => decide (t ≤ first + y + c.lag x) && decide (t ≤ n)) then code
        else 0

/-- The codes of the nozzles of a head on bar line n, with derate (R183, R189). -/
def State.headCodes (s : State) (c : PageCtx) (first lines n : Nat) (h : HeadRec) : List Nat :=
  let cells := (c.map.positions.zipIdx.flatMap (fun (e, p) =>
    (e.cands.filter (fun k => k.nozzle.port == h.port)).map (fun k => (k.nozzle.index, s.fireCode c first lines n p e k))))
  let dim (v : Nat) : Nat := if s.sluice.temps[h.port].derateAt n
    then min (curveAt h.derate v) (maxCode (modeDepth c.desc.mode)) else v
  (List.range h.nozzles).map (fun j => match cells.find? (fun x => x.1 == j) with | some x => dim x.2 | none => 0)

/-- The place whose page owns bar line n (R208). -/
def State.owner (s : State) (n : Nat) : Option Place :=
  s.places.find? (fun q => decide (q.first ≤ n) && decide (n ≤ q.trailing))

/-- The places that decide a judgement: the running page, bound fallback prints, and pages whose start is fixed. -/
def State.fixedPlaces (s : State) : List Place :=
  s.places.filter (fun q => s.print.span.any (fun sp => sp.desc.id == q.page) ||
    s.print.bounds.any (fun b => b.start == q.first) ||
    s.print.waitingQ.any (fun w => w.desc.id == q.page && w.start == some q.first && w.held.isNone))

/-- A bar line's frame is sent on every port in use (R273). codes: none for a blank line. -/
def State.sendFrames (s : State) (m : NozzleMap) (depth n : Nat) (codes : Option (HeadRec → List Nat)) : State :=
  if !s.sendsLine n then s
  else m.heads.foldl (fun s h =>
    if s.portUsed h.port ∧ s.heads.ports[h.port].framesFrom ≤ n then
      s.offer h.port (lineItem (lineFrame n depth h.nozzles (codes.map (fun f => f h))))
    else s) s

/-- The frame of bar line n of a place, as it stands (R183, R274). -/
def State.sendLine (s : State) (q : Place) (n : Nat) : State :=
  let depth := modeDepth q.desc.mode
  if s.cist.blank.contains n then
    match q.ctx, s.mapNext with
    | some c, _ => s.sendFrames c.map depth n none
    | none, some m => s.sendFrames m depth n none
    | none, none => s
  else
    match q.ctx with
    | some c => s.sendFrames c.map depth n (some (fun h => s.headCodes c q.first q.lines n h))
    | none => s

/-- Bar line n is judged blank: the run it belongs to grows or begins (R213, R215). -/
def State.judgeBlank (s : State) (page : PageId) (n : Nat) : State :=
  let s1 := match s.cist.dryRun with
    | some (p, _, l) => if p = page ∧ l + 1 = n then s else s.dryEnd
    | none => s
  let f := match s1.cist.dryRun with | some (_, f, _) => f | none => n
  { s1 with cist := { s1.cist with dryRun := some (page, f, n), blank := n :: s1.cist.blank.take 255 } }

/-- Bar line n is judged and assembled (R213, R273). -/
def State.assemble (s : State) (n : Nat) : State :=
  match s.fixedPlaces.find? (fun q => decide (q.first ≤ n) && decide (n ≤ q.trailing)) with
  | none => s
  | some q =>
    if q.covered s.mapNext n then (s.dryEnd).sendLine q n
    else (s.judgeBlank q.page n).sendLine q n

/-- Lines of a page whose start has been fixed after their judgement instant are judged and assembled now (R213, R274). -/
def State.assembleAgain (s : State) (a b : Nat) : State :=
  (List.range (b - a)).foldl (fun s i => s.assemble (a + i)) s

/-- A page start has been fixed: its lines that come after their judgement are judged and assembled now (R213, R273). -/
def State.fixStart (s : State) (start : Nat) : State := s.assembleAgain start s.heads.assembleTo

/-- Bar lines from the next one to be assembled up to n are judged and assembled (R273). -/
def State.assembleUpTo (s : State) (n : Nat) : State :=
  let s1 := s.assembleAgain s.heads.assembleTo (n + 1)
  let k := max s.heads.assembleTo (n + 1)
  { s1 with heads := { s1.heads with assembleTo := k }, cist := { s1.cist with judgedTo := k } }

/-- A committed page is eligible for a line (R50, R62, R253). -/
def QEntry.eligible (q : QEntry) (line : Nat) : Bool :=
  match q.commitLine with | some n => decide (n + 128 ≤ line) | none => true

/-! ### The trailing edge (R48, R55) -/

/-- The page table of the print model after a print stop: nothing runs, and pages that stay in the queue have no start. -/
def PrintPart.halt (p : PrintPart) : PrintPart :=
  { p with started := false, stopping := false, stopWaits := [], bounds := [], edge := 0, schedEdge := 0
           anyPrinted := false, fallbackBusy := 0, span := none
           queue := p.queue.map (fun q => { q with start := none, bound := none, commitLine := none })
           trigs := p.trigs.map (fun (t : TrigState) => { t with pending := [] }) }

/-- A changed health record is written to MRAM (R396); none of a port not judged under the map in force (R397). -/
def HealthPort.write (q : HealthPort) : HealthPort :=
  match q.record with
  | some r => if q.changed && q.judged.isSome then { q with record := some { r with states := q.nozzles.map (fun n => n.state) }, changed := false }
      else q
  | none => q

/-- Changed health records are written to MRAM (R396). -/
def State.writeHealth (s : State) : State :=
  { s with health := { s.health with ports := s.health.ports.map HealthPort.write } }

/-- Printing stops: the sluice stops allocating (R546). -/
def State.stopNow (s : State) : State :=
  let s1 := s.pulsesStop
  let s2 := ({ s1 with print := s1.print.halt
                       cist := { s1.cist with blank := [], dryRun := none, early := [] } }).writeHealth
  let s3 := match s2.mapper.published with
    | some m => s2.mapTakesEffect m s2.mapper.rolls
    | none => s2
  let s4 := ((s3.encCorrect 0).encCorrect 1).evalGov.calPrintStop
  s.print.stopWaits.foldl (fun s w => s.respond w.origin 0x19 w.tag .ok (low40 s.sluice.barLine)) s4

/-- A page ends: its end event, its records, its CODE line, and everything of it drains (R48, R53, R55, R99). The fallback page never
changes state, so it tells READY (R66, log 71). -/
def State.endPage (s : State) : State :=
  match s.print.span with
  | none => s
  | some _ =>
    let s := s.dryEnd
    match s.print.span with
    | none => s
    | some sp =>
      let st := if sp.defective then PageState.defective else PageState.done
      let shown := if sp.fallback then PageState.ready else st
      let id := sp.desc.id
      let serial := (s.spanCtx).bind (fun c => c.serial)
      let s1 := ((s.dropCtx sp.fallback).keepEnded ⟨id, sp.first, shown, sp.defects, sp.notKept⟩).endEvent id st shown
      let s2 := { s1 with print := { s1.print with
        span := none, nowState := shown
        schedEdge := sp.trailing + 1
        edge := if sp.fallback then s1.print.edge else sp.trailing + 1
        anyPrinted := s1.print.anyPrinted || !sp.fallback
        fallbackBusy := if sp.fallback then s1.print.fallbackBusy - 1 else s1.print.fallbackBusy
        queue := if sp.fallback then s1.print.queue else s1.print.queue.drop 1 } }
      let s3 := if sp.fallback then s2 else (s2.dropPage id).rolloutEnd id
      let s4 := s3.logCode sp.desc serial (if st = .done then 1 else if sp.codeFired then 2 else 3)
      let s5 := if s4.gov.latePage = some id then
          ({ s4 with gov := { s4.gov with latePage := none } }).setCause 2 false else s4
      if s5.print.stopping then s5.stopNow else s5

/-! ### Aborts (R248, R546, R649) -/

/-- An abort at bar line a with its KIND; a page already aborted keeps its abort line (R649). -/
def State.abortAt (s : State) (a : Nat) (k : DefectKind) : State :=
  match s.print.span with
  | none => s
  | some sp =>
    if sp.abort.isSome then s
    else
      let line := min a sp.last
      let cut := decide (line < sp.last)
      let g : Nat := match s.spanMap with | some m => m.greatestLag | none => 0
      let s1 := s.defect k (if cut then line + 1 else line) (if cut then sp.trailing else line)
      let tr := if cut then line + g else sp.trailing
      let s2 := match s1.print.span with
        | some q => { s1 with print := { s1.print with span := some { q with abort := some line, last := line, trailing := tr } } }
        | none => s1
      let s2 := (s2.camTrailing sp.desc.id sp.first tr).record 7 (word [sp.desc.id.toNat]) (BitVec.ofNat 64 line)
      let s3 := if cut then s2.assignNext else s2
      let s4 := if cut then (List.range (min s3.heads.assembleTo (tr + 1) - (line + 1))).foldl (fun s i =>
          match s.spanPlace with
          | q :: _ => s.sendLine q (line + 1 + i)
          | [] => s) s3 else s3
      if tr ≤ s4.sluice.coreLine then s4.endPage else s4

/-- An end with the lines after bar line a unfired, lagged rows included (R546 with NOW, R611). -/
def State.cutPage (s : State) (a : Nat) (k : DefectKind) : State :=
  match s.print.span with
  | none => s
  | some sp =>
    let s1 := s.defect k (min (a + 1) sp.trailing : Nat) sp.trailing
    let s2 := match s1.print.span with
      | some q => { s1 with print := { s1.print with span := some { q with last := min a q.last, trailing := min a q.trailing } } }
      | none => s1
    (s2.camTrailing sp.desc.id sp.first (min a sp.trailing)).endPage

/-! ### The flip (R59, R70 to R74, R193, R200, R204) -/

/-- A queue page begins: it stands at the queue head. Pages ahead of it wait on, but a standby that joins at page J has not printed those
ahead of J, and they leave (R487). -/
def State.toFront (s : State) (id : PageId) : State :=
  let ahead := s.print.queue.takeWhile (fun q => q.desc.id != id)
  let rest := s.print.queue.dropWhile (fun q => q.desc.id != id)
  if s.shadow then ahead.foldl (fun s q => s.dropPage q.desc.id) { s with print := { s.print with queue := rest } }
  else { s with print := { s.print with queue := rest.take 1 ++ ahead ++ rest.drop 1 } }

/-- The raw counter at which bar line n was allocated (R14, R72). -/
def State.boundaryRaw (s : State) (n : Nat) : Word := s.sluice.times.getD (s.sluice.barLine - n) s.time.raw

/-- The running page begins at bar line n. -/
def State.flip (s : State) (d : PageDesc) (fallback : Bool) (trig : Option TrigNo) (n : Nat) : State :=
  let ctx := s.ctxFor fallback d.id
  let g := s.lagOf ctx
  let sp : Span := { desc := d, fallback := fallback, first := n, last := n + d.length - 1, trailing := n + d.length - 1 + g
                     abort := none, trig := trig, defects := [], notKept := 0, interrupted := false, codeFired := false }
  let p := { s.print with
    fallbackSerial := if fallback then none else s.print.fallbackSerial
    span := some sp, pageCount := s.print.pageCount + 1, flipRaw := s.boundaryRaw n, nowId := d.id, nowState := if fallback then .ready else .printing
    bounds := s.print.bounds.filter (fun b => b.start != n)
    trigs := s.print.trigs.map (fun (t : TrigState) => { t with pending := t.pending.filter (fun l => l != n) }) }
  let s1 := { s with print := p
                     sluice := { s.sluice with temps := s.sluice.temps.map (fun (t : HeadTemp) => t.returned n) } }
  let s2 := if fallback then s1 else (s1.toFront d.id).setPageState d.id .printing
  let s3 := ((s2.raiseF .pageStart [d.id.toNat, fld 32 3 (if fallback then 1 else 3)]).irq 9).camPage sp ctx
  let s4 := match ctx with
    | some c => if c.fresh && (s3.mapper.inForce != some c.map || s3.mapper.published == some c.map)
        then s3.mapTakesEffect c.map c.rolls else s3
    | none => s3
  let s5 := ((s4.encBoundary 0).encBoundary 1).baseline
  let s6 := (s5.dryEarly).headsOutAtFlip
  if fallback then s6 else (s6.dropCtx true).assignNext

/-- Start of a page at bar line n: the queue's head with that start line, or a bound fallback print. A serialised page whose
draw was refused does not start under DISTANCE: its start moves to the next boundary (R579). -/
def State.startsAt (s : State) (n : Nat) : State :=
  if !s.print.started || s.print.stopping || s.print.span.isSome then s
  else match s.print.waitingQ.find? (fun q => q.start == some n) with
    | some q =>
      if q.held.isSome then s.setQ q.desc.id (fun q => { q with start := some (n + 96) })
      else s.flip q.desc false q.bound n
    | none => match s.print.bounds.find? (fun b => b.start == n && b.page.isNone), s.print.fallback with
      | some b, some (id, _) => match s.store.page id with
        | some e => s.flip e.desc true (some b.trig) n
        | none => s
      | _, _ => s

end Sys2Proof.Machine
end

