-- ==== Sys2Proof/Machine/Operands.lean ====
section
/-!
DEFINITION. Operand forms of the commands: command words, dockets, result buffers, settings dockets (R532, R538 to R541),
uncorrectable reads (R587), and the checks and course common to every command (R526, R536, R606, R614).
-/

namespace Sys2Proof

/-- Bits [hi:lo] of ARG. -/
def Cmd.argBits (x : Cmd) (hi lo : Nat) : Nat := (x.arg.toNat / 2 ^ lo) % 2 ^ (hi + 1 - lo)

/-- Bits [31:0] of ARG. -/
def Cmd.arg32 (x : Cmd) : BitVec 32 := BitVec.ofNat 32 x.arg.toNat

/-- Word i of the docket. -/
def Cmd.dw (x : Cmd) (i : Nat) : Word := Machine.wordAt x.docket i

/-- Words that the table at docket position i gives; empty when none was read. -/
def Cmd.table (x : Cmd) (i : Nat) : List Word := x.tables.getD i []

end Sys2Proof

namespace Sys2Proof.Machine

/-! ### Result buffers (R514, R538) -/

/-- Words zero-padded to a multiple of 64 bytes. -/
def pad64 (ws : List Word) : List Word := ws ++ List.replicate ((8 - ws.length % 8) % 8) 0

/-- Bytes of a block with its padding. -/
def blockBytes (ws : List Word) : Nat := 8 * (pad64 ws).length

/-- A result buffer whose address or length breaks R538. -/
def bufferBad (addr : Word) (len : Word) : Bool := bits addr 5 0 != 0 || bits len 31 0 % 64 != 0

/-- A block is written into a result buffer: BUFFER_SMALL when it does not fit, HOST_DMA_ERROR when a write fails, else
the response given (R514, R538). -/
def State.writeBlock (s : State) (x : Cmd) (addr len : Word) (ws : List Word) (ok : Nat) : State × Option Resp :=
  if bits len 31 0 < blockBytes ws then (s, resp .bufferSmall (blockBytes ws))
  else match x.writeFail with
    | some a => (s, resp .hostDmaError (a.toNat / 64))
    | none => (s.emit (.hostWrite addr (pad64 ws)), resp .ok ok)

/-- A command whose result is one block in a buffer named by two docket words (R538). -/
def State.writeResult (s : State) (x : Cmd) (i : Nat) (ws : List Word) : State × Option Resp :=
  if bufferBad (x.dw i) (x.dw (i + 1)) then (s, resp .argBad 0)
  else s.writeBlock x (x.dw i) (x.dw (i + 1)) ws (blockBytes ws)

/-! ### Settings dockets (R539 to R541) -/

/-- An entry of a settings docket (R539). -/
structure Entry where
  row   : Nat
  index : Nat
  elem  : Nat
  value : Word
  table : List Word
deriving DecidableEq, Repr

/-- VALUE as a two's complement integer (R540). -/
def Entry.int (e : Entry) : Int := e.value.toInt

/-- VALUE as an unsigned integer. -/
def Entry.nat (e : Entry) : Nat := e.value.toNat

/-- VALUE lies within a range. -/
def Entry.within (e : Entry) (lo hi : Int) : Bool := decide (lo ≤ e.int) && decide (e.int ≤ hi)

/-- VALUE is a duration in ps that is a whole number of units within a range of that unit. -/
def Entry.duration (e : Entry) (unit lo hi : Int) : Bool := decide (lo * unit ≤ e.int) && decide (e.int ≤ hi * unit)

/-- The entries of a settings docket with the tables they name; none when ENTRIES is out of range or the docket ends
before them (R539). -/
def parseEntries (isTable : Nat → Nat → Bool) (x : Cmd) : Option (List Entry) :=
  let n := bits (x.dw 0) 15 0
  if n = 0 ∨ 256 < n ∨ x.docket.length < 1 + 2 * n then none
  else some ((List.range n).foldl (fun (acc : List Entry × Nat) i =>
    let a := x.dw (1 + 2 * i)
    let row := bits a 7 0
    let elem := bits a 23 16
    let t := isTable row elem
    (acc.1 ++ [⟨row, bits a 15 8, elem, x.dw (2 + 2 * i), if t then x.table acc.2 else []⟩],
      if t then acc.2 + 1 else acc.2)) ([], 0)).1

/-- A settings table: the reason of a value out of range, what a first-pass fault of an entry is by itself, its fault beside the other
settings of the docket (the state here is the one that the entries in range would leave), the second-pass refusal of an entry, and its
effect. -/
structure Settings where
  bad     : Code
  range   : Nat := 1
  isTable : Nat → Nat → Bool
  check   : State → Entry → Option Nat
  whole   : State → Entry → Option Nat
  busy    : State → Entry → Option Resp
  apply   : State → Entry → State

/-- The state that the entries of a docket in range would leave. -/
def Settings.after (t : Settings) (s : State) (es : List Entry) : State := (es.filter (fun e => (t.check s e).isNone)).foldl t.apply s

/-- The reason for which an entry fails the first pass of R541. -/
def Settings.fault (t : Settings) (s : State) (es : List Entry) (e : Entry) : Option Nat :=
  match t.check s e with
  | some r => some r
  | none => t.whole (t.after s es) e

/-- First entry with a fault, as reason and row. -/
def firstFault (f : Entry → Option Nat) (es : List Entry) : Option (Nat × Nat) :=
  es.findSome? (fun e => (f e).map (fun r => (r, e.row)))

/-- The two passes of R541, then the entries in docket order. -/
def runSettings (t : Settings) (x : Cmd) (s : State) : State × Option Resp :=
  match parseEntries t.isTable x with
  | none => (s, resp t.bad t.range)
  | some es =>
    match firstFault (t.fault s es) es with
    | some (r, row) => (s, resp t.bad (r + 256 * row))
    | none => match es.findSome? (t.busy s) with
      | some r => (s, some r)
      | none => (es.foldl t.apply s, okResp)

/-! ### The course of a command (R526, R536, R606, R614) -/

/-- The channel session a command was taken in still runs; where G7 serves as fabric ports there is no host channel (R25, R455, R526). -/
def State.live (s : State) (o : Origin) : Bool :=
  match o with
  | .host n session => s.hostLink && s.host.channels[n].session == session
  | .peer n session => match s.fab.chanOf n with | some k => k.session == session | none => false
  | .parcel _ => true

/-- The Lockkeeper restarts, after a watchdog expiry or for FW_ACTIVATE (R560, R613). -/
def SysPart.restarting (y : SysPart) : Bool := y.restart || y.watchdog.isSome

/-- Firmware serves commands: after READY, or where boot has stopped, and while it does not restart (R606, R607, R613). -/
def State.serves (s : State) : Bool := !s.sys.halted && !s.sys.restarting && (s.sys.stage == 7 || s.sys.stopped)

/-- Commands that need neither DRAM nor lanes nor engines, so that they are answered in DORMANT (R523, log 38). -/
def servedDormant (opcode : Byte) : Bool :=
  decide (opcode.toNat ≤ 0x03) || opcode == 0x32 || decide (0x60 ≤ opcode.toNat ∧ opcode.toNat ≤ 0x63) ||
  decide (0x90 ≤ opcode.toNat ∧ opcode.toNat ≤ 0x94) || opcode == 0xA0 || opcode == 0xA2 || opcode == 0xA4 || opcode == 0xA5 ||
  opcode == 0xA9 || opcode == 0xAA || decide (0xD3 ≤ opcode.toNat)

/-- A command firmware still serves where boot has stopped (R606). -/
def servedWhenStopped (opcode : Byte) (x : Cmd) : Bool :=
  opcode == 0x00 || opcode == 0x01 || opcode == 0x02 || opcode == 0x03 || opcode == 0xD3 ||
  (opcode == 0xD2 && (x.argBits 3 0 == 3 || x.argBits 3 0 == 4 || x.argBits 3 0 == 6))

/-- The command leaves the storage of its channel and runs (R517, R526). -/
def State.start (s : State) (x : Cmd) : State :=
  match x.origin with
  | .host n _ => s.setChan n (fun h =>
      { h with taken := h.taken.filter (fun t => t.tag != x.tag), running := h.running ++ [x.tag] })
  | .peer n _ => s.setFabChan n (fun k =>
      { k with taken := k.taken.filter (fun t => t.tag != x.tag), running := k.running ++ [x.tag] })
  | .parcel _ => s

/-- The command arrived inside a DOCKET parcel that may carry secure commands (R565). -/
def secureOrigin (o : Origin) : Bool :=
  match o with
  | .parcel (.session _) => true
  | .parcel .mirror => true
  | _ => false

/-- Where step 3 of R536 lets a secure command pass without a parcel: DEBUG_UNLOCK in RETURNED (R554), and CLAIM_GRANT,
whose own check of the parcel is R568. -/
def State.secureExempt (s : State) (opcode : Byte) : Bool := opcode == 0xAA && s.sec.lifecycle == 3

/-- The unit is a standby, or a paired unit that holds no claim (R469). -/
def State.noClaim (s : State) : Bool := s.pair.paired && (s.pair.st != .active || s.pair.claim == 0)

/-- R469 refuses a command: groups 0x10 to 0x3F on such a unit. A parcel load is judged when its CONTENT is known
(FIRMWARE is excepted), and the commands of a mirrored parcel are exempt (R544). -/
def State.standbyRefuses (s : State) (opcode : Byte) (x : Cmd) : Bool :=
  s.noClaim && decide (0x10 ≤ opcode.toNat ∧ opcode.toNat ≤ 0x3F) && opcode != 0x30 &&
  (match x.origin with | .parcel .mirror => false | _ => true)

/-- Steps 2 to 5 of R536; none when all pass. In RETURNED a secure command answers LIFECYCLE_DENIED (R554). A docket named on a fabric
channel cannot be read (log 29). -/
def State.precheck (s : State) (opcode : Byte) (docket secure : Bool) (x : Cmd) : Option Resp :=
  if s.sys.stopped && !servedWhenStopped opcode x then resp .bootIncomplete s.sys.stage
  else if x.docketFlag != docket then resp .argBad 0
  else if secure && s.sec.lifecycle == 3 && !s.secureExempt opcode then resp .lifecycleDenied 0
  else if secure && !secureOrigin x.origin && !s.secureExempt opcode then resp .secureRequired 0
  else if s.standbyRefuses opcode x then resp .pairStandby 0
  else if docket then
    match x.origin with
    | .host _ _ => if s.host.busMaster then none else resp .busMasterOff 0
    | .peer _ _ => resp .hostDmaError x.arg.toNat
    | .parcel _ => none
  else none

/-- Opcodes that need a block that IDLE gates: engines, decompressors, image pipeline (R614, log 30). -/
def needsGated (opcode : Byte) : Bool :=
  opcode == 0x18 || opcode == 0xC0 || opcode == 0xC1 || opcode == 0xA6 || opcode == 0xD2

/-- POWER as a code (R511). -/
def Power.code : Power → Nat
  | .run => 0 | .idle => 1 | .dormant => 2

/-- A change of power state with its event (R615). -/
def State.setPower (s : State) (p : Power) (src : PowerSource) : State :=
  let d := match src with
    | .command => [fld 4 2 0]
    | .post => [fld 4 2 1]
    | .ptrig n => [fld 4 2 2, fld 6 2 n.val]
  ({ s with sys := { s.sys with power := p } }).raiseF .powerStateChanged ([fld 0 2 p.code, fld 2 2 s.sys.power.code] ++ d)

/-- From IDLE to RUN before a command that needs a gated block (R614). -/
def State.wakeFor (s : State) (opcode : Byte) : State :=
  if s.sys.power = .idle && needsGated opcode then s.setPower .run .command else s

/-- Commands that read the layer table or the object store (R103, R587). -/
def readsObjects (opcode : Byte) : Bool :=
  opcode == 0x10 || opcode == 0x16 || opcode == 0x18 || opcode == 0x31 || opcode == 0x35 || opcode == 0x36 || opcode == 0x46

/-- A command whose read of the layer table or the object store is uncorrectable answers DRAM_ERROR (R587). -/
def guardObjects (opcode : Byte) (f : Cmd → State → State × Option Resp) (x : Cmd) (s : State) : State × Option Resp :=
  if readsObjects opcode then
    let r := s.readBursts (regionReads 3 x.reads ++ regionReads 5 x.reads)
    match r.2 with
    | b :: _ => (r.1, resp .dramError (burstResult b))
    | [] => f x r.1
  else f x s

/-- The course of a command: one of an ended session is dropped (R526), words wait until firmware serves them (R607), the
checks of R536 stand in order, and the command's own effect gives its response, or none yet (kind L, R537). In DORMANT a command that
needs what is off waits for RUN (R523). -/
def runCommand (opcode : Byte) (docket secure : Bool) (f : Cmd → State → State × Option Resp) (x : Cmd) (s : State) : State :=
  if !s.live x.origin || !s.serves || (s.sys.power == .dormant && !servedDormant opcode) then s
  else
    let s := s.start x
    match s.precheck opcode docket secure x with
    | some (st, r) => s.answer x opcode st r
    | none =>
      let p := guardObjects opcode f x (s.wakeFor opcode)
      match p.2 with
      | none => p.1
      | some (st, r) => p.1.answer x opcode st r

end Sys2Proof.Machine
end

