-- ==== Sys2Proof/Machine/EngineOps.lean ====
section
/-!
DEFINITION. Operations of the furrow engines: the preparation of a page, the bands engines start, and the bands they hand over
(05_furrow_engines.md).
-/

namespace Sys2Proof.Machine

/-! ### Local memory (R135, R136) -/

/-- The regions of an engine's local memory, in order (R135). Their contents stand in State by what they are, and not by address (log 136):
the kernel code in EnginePart.kernels, the kernel data in PageCtx, the band buffer and the edge context in BandWork.phase1 and phase2, the
input ring in Fetch.words, the threshold rows in PageCtx.arrays, the accumulators in the record of ENGINE_BAND_HANDOVER, and the render
scratch in PageCtx.rendered. -/
inductive SramRegion where
  | kernelCode | kernelData | bandBuffer | inputRing | thresholdRows | edgeContext | accumulators | renderScratch
deriving DecidableEq, Repr

/-- Sizes of the regions in KiB (R135). -/
def sramSizes : List (SramRegion × Nat) :=
  [(.kernelCode, 64), (.kernelData, 32), (.bandBuffer, 256), (.inputRing, 64), (.thresholdRows, 16), (.edgeContext, 10)
   , (.accumulators, 16), (.renderScratch, 54)]

/-- The region that holds a local word, byte address ÷ 8, in the order of R135. -/
def sramRegionFrom (word : Nat) : List (SramRegion × Nat) → Option SramRegion
  | [] => none
  | (r, n) :: rest => if word < 128 * n then some r else sramRegionFrom (word - 128 * n) rest

/-- The region of a local word of ENGINE_FAULT (R135, R136). -/
def sramRegion (word : BitVec 16) : Option SramRegion := sramRegionFrom word.toNat sramSizes

/-! ### Contexts -/

/-- The context of the queue's page or of the fallback page. -/
def EnginePart.ctx (e : EnginePart) (fallback : Bool) : Option PageCtx := if fallback then e.fallbackCtx else e.queueCtx

/-- A context changed. -/
def State.setCtx (s : State) (fallback : Bool) (f : PageCtx → PageCtx) : State :=
  { s with eng := if fallback then { s.eng with fallbackCtx := s.eng.fallbackCtx.map f }
                  else { s.eng with queueCtx := s.eng.queueCtx.map f } }

/-- The band of an index, begun if it was not. -/
def PageCtx.withBand (c : PageCtx) (i : Nat) : PageCtx :=
  if c.bands.any (fun w => w.order == i) then c
  else { c with bands := c.bands ++ [{ order := i, fetches := [], phase1 := Vector.replicate 16 none
                                       phase2 := Vector.replicate 16 none }] }

/-- The band of an index changed. -/
def PageCtx.setBand (c : PageCtx) (i : Nat) (f : BandWork → BandWork) : PageCtx :=
  { c with bands := c.bands.map (fun w => if w.order == i then f w else w) }

/-- The composition kernel of a page, selected from its mode: kernels 0, 1 and 2 are those of 1, 2 and 4 bits, kernel 3 renders (R171;
the order is log 132). -/
def EnginePart.kernelOf (e : EnginePart) (d : PageDesc) : Option (List Word) :=
  e.kernels[match modeDepth d.mode with | 1 => 0 | 2 => 1 | _ => 2]?

/-- An idle engine starts the next band of the queue's page, else of the fallback page (R133), by the kernel of the page (R171). -/
def State.startEngine (s : State) (k : EngineNo) : State :=
  if s.eng.kernelFail.isSome || s.eng.engines[k].busy.isSome then s
  else
    let go (fb : Bool) (c : PageCtx) : State := if (s.eng.kernelOf c.desc).isNone then s else
      let i := c.next[k]
      let s1 := s.setCtx fb (fun c => { c.withBand i with next := c.next.set k (i + 1) })
      { s1 with eng := { s1.eng with engines := s1.eng.engines.set k { busy := some (fb, i) } } }
    match s.eng.queueCtx, s.eng.fallbackCtx with
    | some c, f =>
      if c.next[k] < c.desc.bands then go false c
      else match f with
        | some d => if d.next[k] < d.desc.bands then go true d else s
        | none => s
    | none, some d => if d.next[k] < d.desc.bands then go true d else s
    | none, none => s

/-- Every idle engine starts a band if one is to be prepared (R133). -/
def State.startEngines (s : State) : State := (List.finRange 16).foldl (fun s k => s.startEngine k) s

/-! ### Preparation of a page (R56, R67, R133 step 1, R145, R147, R163, R178, R195, R200, R400) -/

/-- The rollout that acts on pages prepared now: a whole map published since it began ends it for them (R197, R200). -/
def MapperPart.rolling (q : MapperPart) : Option Rollout := q.rollout.filter (fun r => q.published.isNone || r.ofNext)

/-- The curves that differ from the map's for a page prepared now (R187, R195): the correction's, and the old curves a
rollout keeps. -/
def State.pageCurves (s : State) : List (Nozzle × Word) :=
  match s.mapper.rolling with
  | none => s.mapper.curveSet
  | some r =>
    let old := r.oldOn r.page
    old ++ s.mapper.curveSet.filter (fun p => (lookupNozzle old p.1).isNone)

/-- A queue page counts as the next rollout page; page K is the last (R195, R196). A page prepared again counts again (log 130). -/
def State.rolloutStep (s : State) (id : PageId) : State :=
  match s.mapper.rolling with
  | none => s
  | some r =>
    let r1 := { r with page := r.page + 1, lastPage := if r.page + 1 = r.k then some id else r.lastPage }
    { s with mapper := { s.mapper with rollout := some r1 } }

/-- Everything a page fixes when its preparation begins, with the serial drawn for it. A page prepared again, after a map discarded its
bands, fixes all but its serial anew (R145, R200; log 130). -/
def State.newCtx (s : State) (e : PageEntry) (m : NozzleMap) (serial : Option (BitVec 48 × BitVec 40)) : PageCtx :=
  let d := e.desc
  let c : PageCtx :=
    { prep := s.eng.preps, desc := d, map := m, fresh := s.mapper.published.isSome, rolls := s.mapper.rolls, failed := s.failedSet m, forced := s.mapper.forced
      curves := s.pageCurves, arrays := s.store.arrays, sets := s.store.sets, gp := s.cam.gp, gl := s.cam.gl
      serial := serial, images := imagesOf d s.store.layers s.store.generators s.store.glyphs serial
      lost := [], rendered := [], next := Vector.replicate 16 0, bands := [], cistern := [], bad := []
      lowLead := false, goodLead := true }
  { c with rendered := renderBlocks c s.store.layers s.store.generators s.store.glyphs }

/-- The serial of a page: drawn by the active, received by a standby (R163, R475, R579). -/
inductive DrawOutcome where
  | none
  | serial (n : BitVec 48 × BitVec 40)
  | held (reason : Nat)
deriving DecidableEq, Repr

/-- The draw for a page whose preparation begins, once for a page: a page prepared again keeps its serial (R67, R163, R572, R579). -/
def State.drawFor (s : State) (d : PageDesc) (kept : Option (BitVec 48 × BitVec 40)) : State × DrawOutcome :=
  if !d.serialised then (s, .none)
  else if let some x := kept then (s, .serial x)
  else if s.shadow then
    match s.pair.serials.find? (fun x => x.1 == d.id) with
    | some x => (s, .serial x.2)
    | none => (s, .none)
  else match s.sec.drawRefused d.slot with
    | some r => (s, .held r)
    | none =>
      let p := s.draw d.slot
      let mac := p.2.2.toNat
      (p.1.record 9 (word [d.id.toNat, fld 32 32 mac]) (word [p.2.1.toNat, fld 48 8 (mac / 4294967296)]), .serial p.2)

/-- A start joins the starts bound, in their order, and the pending-start list of its input; its lines that come after their judgement
are judged now (R62, R213). -/
def State.bindStart (s : State) (b : BoundStart) : State :=
  let before (x : BoundStart) : Bool := decide (x.start ≤ b.start)
  let s1 := { s with print := { s.print with bounds := s.print.bounds.takeWhile before ++ b :: s.print.bounds.dropWhile before } }
  (s1.setTrig b.trig (fun t => { t with
    pending := t.pending.takeWhile (fun l => decide (l ≤ b.start)) ++ b.start :: t.pending.dropWhile (fun l => decide (l ≤ b.start))
    })).fixStart b.start

/-- A trigger is handled from step 5 of R62: the fallback page, or nothing. -/
def State.bindFallback (s : State) (n : TrigNo) (start : Nat) : State :=
  let detail := [fld 0 32 start, fld 38 2 n.val]
  match s.print.fallback with
  | some _ =>
    let s0 := { s with print := { s.print with fallbackBusy := s.print.fallbackBusy + 1 } }
    let s1 := (s0.bindStart ⟨n, start, none⟩).raiseF .fallbackPrinted detail
    if s.print.trigs[n].set.onFallback then s1.pulseFor n start else s1
  | none => (s.raiseF .triggerNoPage detail).pulseFor n start

/-- A bound start is given up: it leaves the starts bound and the pending-start list, the page it was bound to waits unbound, and what
was judged of its lines is forgotten (R64). -/
def State.giveUpStart (s : State) (b : BoundStart) : State :=
  let s1 := { s with print := { s.print with bounds := s.print.bounds.filter (fun x => x != b) } }
  let s2 := match b.page with
    | some id => s1.setQ id (fun q => { q with start := none, bound := none })
    | none => { s1 with print := { s1.print with fallbackBusy := s1.print.fallbackBusy - 1 } }
  (s2.unpend (some b.trig) b.start).forgetJudged b.start

/-- A draw is refused: the page is held at the queue head and is not bound (R64, R579). Its trigger is handled from step 5 of R62, and so
are those of the pages bound behind it, which would leave the queue before it (R47, log 128). -/
def State.holdPage (s : State) (q : QEntry) (reason : Nat) : State :=
  let trig : Nat := match q.bound with | some n => n.val | none => 0
  let s1 := (s.setQ q.desc.id (fun q => { q with held := some reason })).serialHeld q.desc.id reason trig
  if q.bound.isNone then s1
  else (s1.print.bounds.filter (fun b => b.page.isSome)).foldl (fun s b => (s.giveUpStart b).bindFallback b.trig b.start) s1

/-- A standby that has joined sends frames and tokens from the preparation of page J on (R487 step 6). -/
def State.sendFrom (s : State) (id : PageId) : State :=
  let here : Bool := match s.pair.joinLine with | some (j, _) => s.pair.joined && j == id | none => false
  { s with pair := { s.pair with sending := s.pair.sending || here } }

/-- Preparation of the queue's next page (R56). -/
def State.prepareQueue (s : State) (q : QEntry) (m : NozzleMap) : State :=
  let r := s.drawFor q.desc q.serial
  match r.2 with
  | .held reason => r.1.holdPage q reason
  | o =>
    let serial := match o with | .serial n => some n | _ => none
    let s1 := ((r.1.setQ q.desc.id (fun q => { q with held := none, serial := serial })).applySyncs q.desc.id).rolloutStep q.desc.id
    let e := (s1.store.page q.desc.id).getD { desc := q.desc, state := .defined }
    let c := s1.newCtx e m serial
    let s2 := { s1 with eng := { s1.eng with queueCtx := some c, preps := s1.eng.preps + 1 }
                        mapper := { s1.mapper with used := m.curvesWith c.curves } }
    let s3 := s2.sendFrom q.desc.id
    (if s3.shadow && e.state == .defined then s3.diverge q.desc.id 3 else s3).startEngines

/-- Preparation of the fallback page (R67, R206). -/
def State.prepareFallback (s : State) (m : NozzleMap) : State :=
  match s.print.fallback with
  | none => s
  | some (id, _) => match s.store.page id with
    | none => s
    | some e =>
      let r := s.drawFor e.desc s.print.fallbackSerial
      match r.2 with
      | .held reason => r.1.serialHeld id reason 0
      | o =>
        let serial := match o with | .serial n => some n | _ => none
        let c := r.1.newCtx e m serial
        ({ r.1 with eng := { r.1.eng with fallbackCtx := some c, preps := r.1.eng.preps + 1 }, print := { r.1.print with fallbackSerial := serial } }).startEngines

/-! ### Fetches and phases (R118 to R121, R133) -/

/-- The block of a fetch, found through the layer's index: words of its index entry and the block (R95). -/
def PageCtx.blockOf (c : PageCtx) (layers : List Layer) (s ref j : Nat) (d : LayerDesc) : Nat × List Word :=
  if d.generated then
    match c.rendered.find? (fun r => r.ref == ref && r.segment == s && r.band == j) with
    | some r => (r.words.length, r.words)
    | none => (0, [])
  else match findLayer layers d.id with
    | some l => match l.blockAt c.map.positions.length (d.entryPlace c.map.positions.length s j) with
      | some b => (b.count, b.words)
      | none => (0, [])
    | none => (0, [])

/-- Composed lines of page band b on which layer band j of a reference falls (R98, R120). -/
def PageDesc.fetchLines (d : PageDesc) (r : LayerRef) (lines b j : Nat) : Nat × Nat :=
  let lo := max (64 * b) (r.lineOffset + 64 * j)
  let hi := min (min (64 * b + 64) d.length) (r.lineOffset + min lines (64 * j + 64)) - 1
  let a := d.lineOf lo
  let z := d.lineOf hi
  (min a z, max a z)

/-- A failed fetch as it waits for its first line (R121). -/
def PageCtx.badFetch (c : PageCtx) (order : Nat) (k : EngineNo) (e : Nat × Bool × Nat × LayerDesc) (reason : Nat) : List BadFetch :=
  match c.desc.refs[e.1]? with
  | none => []
  | some r =>
    let l := c.desc.fetchLines r ((cutDesc c e.1 e.2.2.2).getD e.2.2.2).lines (c.desc.bandAt order) e.2.2.1
    [{ ref := e.1, layer := e.2.2.2.id, segment := k.val, band := e.2.2.1, reason := reason, first := l.1, last := l.2 }]

/-- Phase 1 with the check strip: no layer applies on its lines (R137, R389). -/
def State.composePhase1 (s : State) (c : PageCtx) (w : BandWork) (k : Nat) : List (List Nat) :=
  let strip := s.stripOf c.desc c.map
  let b := c.desc.bandAt w.order
  (phase1Codes c s.store.layers w k).zipIdx.map (fun (l, ln) => if 64 * b + ln < strip then l.map (fun _ => 0) else l)

/-- What the write stage stores for a page line of a band: the strip's codes, or the engines' through each candidate's curve
(R176, R187, R389). -/
def State.writeLine (s : State) (c : PageCtx) (line : Nat) (codes : List Nat) : List (Nat × Nat) :=
  if line < s.stripOf c.desc c.map then
    let n := maxCode (modeDepth c.desc.mode)
    c.map.positions.zipIdx.map (fun (e, p) =>
      let x := stripCodes s.health.set c.map.spares line p n
      (c.written e.a x.1, match e.b with | some b => c.written b x.2 | none => 0))
  else c.writeLine codes

/-- The bands the cistern has slots for: the draining band of a running page is d, and bands d − 1 to d + 1 fit (R204, R205). -/
def State.drainBand (s : State) (fallback : Bool) (c : PageCtx) : Option Nat :=
  match s.print.span with
  | some sp =>
    if sp.fallback = fallback then
      let f := s.sluice.coreLine - sp.first
      some (c.desc.bandOfLine (min f (c.desc.length - 1)))
    else none
  | none => none

/-- A band may be written into the cistern now (R204, R205). -/
def State.slotFree (s : State) (fallback : Bool) (c : PageCtx) (order : Nat) : Bool :=
  match s.drainBand fallback c with
  | some d => decide (order ≤ d + 1)
  | none => decide (order = 0)

/-- The shortfall factor at a band handover (R220). -/
def State.shortfall (s : State) (c : PageCtx) : State :=
  let s1 := if c.goodLead then
      let run := s.gov.goodRun + 1
      if run = 64 then { s with gov := { s.gov with goodRun := 0, factor := min 16 (s.gov.factor + 1) } }
      else { s with gov := { s.gov with goodRun := run } }
    else { s with gov := { s.gov with goodRun := 0 } }
  if c.lowLead then
    if s1.gov.factor = 8 then
      ({ s1 with gov := { s1.gov with latePage := some c.desc.id } }).setCause 2 true
    else { s1 with gov := { s1.gov with factor := s1.gov.factor - 1 } }
  else s1

end Sys2Proof.Machine
end

