-- ==== Sys2Proof/Machine/PageCommands.lean ====
section
/-!
DEFINITION. Meanings of the page commands: PAGE_COMMIT, PAGE_CANCEL, PAGE_DELETE, PAGE_ABORT, PAGE_STATUS, PAGE_DEFECTS and
FALLBACK_SET (02_print_model.md, R545, R551, R552).
-/

namespace Sys2Proof.Machine

/-! ### PAGE_COMMIT (R49) -/

/-- What the permitted rate of a page is computed from (R166, R168, R170). An image counts at its worst case (log 10). -/
def State.costCtx (s : State) (d : PageDesc) : CostCtx :=
  { desc := d, p := mapPositions s.mapNext, layers := s.store.layers
    image := worstImage d s.store.layers s.store.generators s.store.glyphs
    isDm := isDatamatrix d s.store.layers s.store.generators }

/-- The layer count of a segment (R102). -/
def State.layerCount (s : State) (d : PageDesc) (k : Nat) : Nat :=
  (d.refs.filter (fun r => match findLayer s.store.layers r.layer with
    | some l => l.desc.covers (mapPositions s.mapper.inForce) k
    | none => false)).length

/-- R573: the slot is not open, or holds too few serials for the committed pages that have drawn none, this one included. -/
def State.slotShort (s : State) (d : PageDesc) : Bool :=
  let j := s.sec.jobs[d.slot]
  let n := (s.print.queue.filter (fun q => q.desc.serialised && q.desc.slot == d.slot && q.serial.isNone)).length + 1
  d.serialised && (!j.isOpen || decide (j.last + 1 < j.next + n))

/-- What a commit reads of the page table: the bursts of the descriptor with errors (R97, R587). -/
def State.commitReads (s : State) (e : PageEntry) (rs : List BurstRead) : List BurstRead := s.rangeReads e.base e.desc.bursts rs

/-- Checks of R49 with R573 and R587; none when all pass. lost: the bursts of the descriptor that are lost. -/
def State.commitRefused (s : State) (id : PageId) (e : PageEntry) (lost : List (BitVec 30)) : Option (Code × Nat) :=
  if s.print.fallback.any (fun f => f.1 == id) then some (.fallbackBad, 3)
  else if e.state != .ready then some (.pageNotReady, 0)
  else if (List.range 16).any (fun k => decide (32 < s.layerCount e.desc k)) then some (.layerLimit, 0)
  else if 1024 ≤ s.print.queue.length then some (.queueFull, 0)
  else if s.slotShort e.desc then some (.slotIdle, e.desc.slot.val)
  else match lost with
    | b :: _ => some (.dramError, burstResult b)
    | [] => none

/-- The page enters the queue (R49 steps 4 and 5, R50, R169). -/
def State.enqueue (s : State) (d : PageDesc) : State :=
  let rate := (s.costCtx d).rate
  let s1 := if rate < 400000 then s.raiseF .rateCapped [d.id.toNat, fld 32 8 (rate / 2000)] else s
  let line := if s.print.started then some s.sluice.barLine else none
  let s2 := (s1.setPageState d.id .committed).record 3 (word [d.id.toNat])
    (match line with | some n => BitVec.ofNat 64 n | none => s1.free)
  let s3 := if line.isSome then s2 else s2.drew
  { s3 with print := { s3.print with queue := s3.print.queue ++ [{ desc := d, rate := rate, commitLine := line, start := none
                                                                   bound := none, held := none, serial := none }] } }

/-- The status of an accepted commit: LATE_COMMIT where only a later boundary is met, and the start line assigned (R58, R59). -/
def State.commitResult (s : State) (id : PageId) : Code × BitVec 40 :=
  match s.print.waitingQ with
  | q :: _ =>
    if q.desc.id != id then (.ok, 0)
    else match q.start with
      | none => (.ok, 0)
      | some n => (if (startFor s.edgeNow q.desc.gap q.commitLine).2 then .lateCommit else .ok, low40 n)
  | [] => (.ok, 0)

/-- A commit is made (R49, R59, R65, R217, R222). Lines of a page whose start it fixes after their judgement are judged now (R213). -/
def State.commit (s : State) (id : PageId) (rs : List BurstRead) : State × Resp :=
  match s.store.page id with
  | none => (s, .notFound, 0)
  | some e =>
    let r := s.readBursts (s.commitReads e rs)
    match s.commitRefused id e r.2 with
    | some (c, n) => (if c = .dramError then r.1 else s, c, low40 n)
    | none =>
      let s1 := r.1.enqueue e.desc
      let s2 := if s1.print.waitingQ.length = 1 then s1.assignNext else s1
      let s3 := match s2.print.waitingQ with
        | [q] => match q.start with
          | some n => s2.fixStart n
          | none => s2
        | _ => s2
      (s3.evalGov, s2.commitResult id)

/-- PAGE_COMMIT's effect (R545). With SCHED it waits for its compare trigger (R499). -/
def cmdPageCommit (x : Cmd) (s : State) : State × Option Resp :=
  let id : PageId := x.arg32
  if x.arg.getLsbD 32 then
    let n : CmpNo := Fin.ofNat 8 (x.argBits 35 33)
    if s.time.triggers[n].armed then
      ({ s with print := { s.print with sched := s.print.sched ++ [⟨n, id, x.origin, x.tag⟩] } }, none)
    else (s, resp .argBad 0)
  else
    let r := s.commit id x.reads
    (r.1, some r.2)

/-- PAGE_COMMIT (R49). -/
def execPageCommit (x : Cmd) (s : State) : Out := (runCommand 0x10 false false cmdPageCommit x s).done

/-! ### PAGE_CANCEL, PAGE_DELETE, PAGE_ABORT (R46, R545, R649) -/

/-- PAGE_CANCEL's effect: the page becomes MISSED, and the page behind takes its start (R46, R59). The spec names no instant at which that
page's start is assigned: here it is the cancel, at a boundary whose cut-off the bar line of the cancel meets too (log 129). -/
def cmdPageCancel (x : Cmd) (s : State) : State × Option Resp :=
  let id : PageId := x.arg32
  match s.print.waitingQ.find? (fun q => q.desc.id == id) with
  | none =>
    if s.print.queue.any (fun q => q.desc.id == id) then (s, resp .pageBusy 3) else (s, resp .notFound 0)
  | some q =>
    let first := s.print.waitingQ.head?.any (fun h => h.desc.id == id)
    let s1 := (s.missPage q).record 4 (word [id.toNat]) 0
    let s2 := if first then s1.assignBy (fun q => some (max (q.commitLine.getD 0) s.sluice.barLine)) else s1
    (s2.evalGov, okResp)

/-- PAGE_CANCEL (R46). -/
def execPageCancel (x : Cmd) (s : State) : Out := (runCommand 0x11 false false cmdPageCancel x s).done

/-- The serial drawn for a fallback print that never comes is logged as unprinted (R576, log 128). -/
def State.dropFallbackSerial (s : State) : State :=
  match s.fallbackDesc with
  | some d => { s.logCode d s.print.fallbackSerial 3 with print := { (s.logCode d s.print.fallbackSerial 3).print with fallbackSerial := none } }
  | none => s

/-- Fallback starts bound and not begun are given up: nothing is designated, so their triggers are handled by step 6 of R62 (log 128). -/
def State.dropFallbackStarts (s : State) : State :=
  (s.print.bounds.filter (fun b => b.page.isNone)).foldl (fun s b => (s.giveUpStart b).bindFallback b.trig b.start) s

/-- The fallback page's prepared band drains, unless it prints (R66). -/
def State.dropFallbackBand (s : State) : State := if s.print.span.any (fun sp => sp.fallback) then s else s.dropCtx true

/-- The fallback designation ends; a fallback band prepared and not printing drains (R66, R545). -/
def State.clearFallback (s : State) : State :=
  let s0 := s.dropFallbackSerial
  let s1 := ({ s0 with print := { s0.print with fallback := none } }).record 11 0 0
  s1.dropFallbackBand.dropFallbackStarts

/-- PAGE_DELETE's effect. -/
def cmdPageDelete (x : Cmd) (s : State) : State × Option Resp :=
  let id : PageId := x.arg32
  match s.store.page id with
  | none => (s, resp .notFound 0)
  | some e =>
    let fb := s.print.fallback.any (fun f => f.1 == id)
    if e.state = .committed ∨ e.state = .printing then (s, resp .pageBusy e.state.code)
    else if fb && decide (0 < s.print.fallbackBusy) then (s, resp .pageBusy e.state.code)
    else (((if fb then s.clearFallback else s).dropPage id).evalPages, okResp)

/-- PAGE_DELETE (R545). -/
def execPageDelete (x : Cmd) (s : State) : Out := (runCommand 0x12 false false cmdPageDelete x s).done

/-- PAGE_ABORT's effect (R649). -/
def cmdPageAbort (x : Cmd) (s : State) : State × Option Resp :=
  let id : PageId := x.arg32
  match s.print.span with
  | none => match s.store.page id with
    | some e => (s, resp .pageIdle e.state.code)
    | none => (s, resp .notFound 0)
  | some sp =>
    if sp.desc.id = id ∧ ¬ sp.fallback then
      match sp.abort with
      | some a => (s, resp .ok a)
      | none => ((s.abortAt s.sluice.barLine .pageAbort).evalGov, resp .ok (min s.sluice.barLine sp.last))
    else match s.store.page id with
      | some e => (s, resp .pageIdle e.state.code)
      | none => (s, resp .notFound 0)

/-- PAGE_ABORT (R649). -/
def execPageAbort (x : Cmd) (s : State) : Out := (runCommand 0x13 false false cmdPageAbort x s).done

/-! ### PAGE_STATUS and PAGE_DEFECTS (R551, R552) -/

/-- DEV_PAGE_NOW (R73). -/
def State.pageNowWord (s : State) : Word :=
  word [s.print.nowId.toNat, fld 32 3 s.print.nowState.code, fld 36 11 s.print.queue.length]

/-- FLIP_TIME: the capture with the correction in force at the read (R72). -/
def State.flipTime (s : State) : Word := BitVec.ofInt 64 (s.time.correct s.print.flipRaw)

/-- A page of the queue as PAGE_STATUS reports it: the printing page first (R551). -/
def State.statusEntry (s : State) (q : QEntry) : List Word :=
  let printing := s.print.span.any (fun sp => !sp.fallback && sp.desc.id == q.desc.id)
  let start := if printing then (s.print.span.map (fun sp => sp.first)).getD 0 else q.start.getD 0
  [word [q.desc.id.toNat, fld 32 3 (if printing then 3 else 2), fld 35 1 (b2n q.bound.isSome), fld 36 8 (q.rate / 2000)],
    BitVec.ofNat 64 start]

/-- The block of PAGE_STATUS (R551). -/
def State.pageStatusBlock (s : State) : List Word :=
  let fb := match s.print.fallback with
    | some (id, rate) => word [id.toNat, fld 32 8 (rate / 2000)]
    | none => 0
  [s.print.pageCount, s.flipTime, s.pageNowWord, BitVec.ofNat 64 s.sluice.barLine, word [fld 0 11 s.print.queue.length], fb, 0, 0]
    ++ s.print.queue.flatMap (fun q => s.statusEntry q)

/-- PAGE_STATUS's effect. -/
def cmdPageStatus (x : Cmd) (s : State) : State × Option Resp := s.writeResult x 0 s.pageStatusBlock

/-- PAGE_STATUS (R551). -/
def execPageStatus (x : Cmd) (s : State) : Out := (runCommand 0x14 true false cmdPageStatus x s).done

/-- Word 0 of a defect record (R552). -/
def DefectKind.word : DefectKind → Word
  | .blockFailed r sg re l => Machine.word [1, fld 9 9 r, fld 18 4 sg, fld 22 4 re, fld 32 32 l.toNat]
  | .cisternDry => 2
  | .headHardLimit p => Machine.word [3, fld 4 5 p.val]
  | .holdAbort => 4
  | .pageAbort => 5
  | .printStop => 6
  | .interruption => 7
  | .fatal => 8

/-- A defect record's words (R552). -/
def DefectRecord.words (r : DefectRecord) : List Word :=
  [r.kind.word, BitVec.ofInt 64 r.first, BitVec.ofInt 64 r.last, word [fld 0 25 r.lowLine, fld 32 25 r.highLine]]

/-- The block of PAGE_DEFECTS (R552). -/
def defectsBlock (e : EndedPage) : List Word :=
  [word [e.id.toNat, fld 32 3 e.state.code], word [fld 0 16 e.defects.length, fld 16 16 e.notKept]] ++
    e.defects.flatMap DefectRecord.words

/-- The page that PAGE_DEFECTS names: the printing page, or the last one that ended under the identifier. -/
def State.defectsOf (s : State) (id : PageId) : Option EndedPage :=
  match s.print.span with
  | some sp => if sp.desc.id = id then some ⟨id, sp.first, if sp.fallback then .ready else .printing, sp.defects, sp.notKept⟩ else s.print.ended.find? (fun e => e.id == id)
  | none => s.print.ended.find? (fun e => e.id == id)

/-- PAGE_DEFECTS's effect. -/
def cmdPageDefects (x : Cmd) (s : State) : State × Option Resp :=
  if bufferBad (x.dw 1) (x.dw 2) then (s, resp .argBad 0)
  else match s.defectsOf (BitVec.ofNat 32 (bits (x.dw 0) 31 0)) with
    | none => (s, resp .notFound 0)
    | some e => s.writeResult x 1 (defectsBlock e)

/-- PAGE_DEFECTS (R552). -/
def execPageDefects (x : Cmd) (s : State) : Out := (runCommand 0x15 true false cmdPageDefects x s).done

/-! ### FALLBACK_SET (R66) -/

/-- A layer kind that R66 excludes from a fallback page. -/
def State.fallbackExcludes (s : State) (d : PageDesc) : Bool :=
  d.refs.any (fun r => match findLayer s.store.layers r.layer with
    | some l => l.desc.kind == .contone || l.desc.generated
    | none => false)

/-- A page is designated with its permitted rate (R66, R168, R219). Starts bound to the page designated before print this one, where it is
no longer; where it is longer, the spans that R62 judged would no longer hold, and the starts are given up (log 128). -/
def State.setFallback (s : State) (d : PageDesc) : State :=
  let rate := (s.costCtx d).rate
  let fits := s.fallbackDesc.any (fun e => decide (d.length ≤ e.length))
  let s0 := s.dropFallbackSerial
  let s1 := if fits then s0 else { s0 with print := { s0.print with fallback := none } }.dropFallbackStarts
  (({ s1 with print := { s1.print with fallback := some (d.id, rate) } }).record 11 (word [d.id.toNat]) 0).dropFallbackBand

/-- FALLBACK_SET's effect. -/
def cmdFallbackSet (x : Cmd) (s : State) : State × Option Resp :=
  let id : PageId := x.arg32
  if id = 0 then (s.clearFallback, okResp)
  else match s.store.page id with
    | none => (s, resp .notFound 0)
    | some e =>
      if e.state = .committed ∨ e.state = .printing then (s, resp .pageBusy e.state.code)
      else if e.state ≠ .ready then (s, resp .pageNotReady 0)
      else if 64 < e.desc.length then (s, resp .fallbackBad 1)
      else if s.fallbackExcludes e.desc then (s, resp .fallbackBad 2)
      else (s.setFallback e.desc, okResp)

/-- FALLBACK_SET (R66). -/
def execFallbackSet (x : Cmd) (s : State) : Out := (runCommand 0x16 false false cmdFallbackSet x s).done

end Sys2Proof.Machine
end

