-- ==== Sys2Proof/Machine/PrintCommands.lean ====
section
/-!
DEFINITION. Meanings of PRINT_START, PRINT_STOP, TRIGGER_CONFIG and GOVERNOR_CONFIG (R546, R547, R542, R216).
-/

namespace Sys2Proof.Machine

/-! ### PRINT_START (R547) -/

/-- The tracked position of the encoder in use, in counts (R231). -/
def SluicePart.tracked (q : SluicePart) : Rat := (q.loops[q.source].xh : Rat) / 65536

/-- Head temperature states hold from the first line of the next print (R255). -/
def HeadTemp.atStart (t : HeadTemp) : HeadTemp :=
  { t with derate := (t.changes.getLast?.map (fun c => c.2)).getD t.derate, changes := [], back := none
           out := if t.hard then some 0 else none }

/-- The sluice at a print start: bar line 0 is allocated as an idle line at a position (R231, R242, R244). Lines of the print before that
have a fire time keep it. -/
def SluicePart.atStart (q : SluicePart) (mode : BitVec 4) (x0 : Rat) (raw : Word) : SluicePart :=
  { q with barLine := 0, coreLine := 0, lastX := x0, lpi := modeLpi mode, carriage := false, path := 0, slipped := false
           xHi := q.tracked, lastTf := none, tfs := [], times := [raw], late := none
           lines := (q.lines.filter (fun (l : AllocLine) => l.sent.all (fun p => !p.held))).map (fun (l : AllocLine) => { l with frozen := true })
           reversal := none, wetTold := false, holdTold := false, temps := q.temps.map HeadTemp.atStart, switchTo := none, passedOver := none }

/-- The print model at a print start (R52, R57, R59, R63). -/
def PrintPart.atStart (p : PrintPart) (mode : BitVec 4) (trig : Bool) (en : BitVec 4) : PrintPart :=
  { p with started := true, stopping := false, startMode := mode, trigMode := trig, trigEnable := en, span := none, bounds := []
           edge := 0, schedEdge := 0, anyPrinted := false, fallbackBusy := 0
           queue := p.queue.map (fun q => { q with start := none, bound := none, commitLine := none })
           trigs := p.trigs.map (fun (t : TrigState) => { t with pending := [], pulses := [] }) }

/-- Printing starts: bar line 0 at a position, the encoder that SOURCE names in use, the first page's start line (R59), the
shortfall factor at 16 (R220), cause 4 of HOLD_REQ released (R222), cross-checking armed (R322), the tap rings (R385), and an
evaluation of the governor (R217). pos: the position, none for the tracked one. -/
def State.startPrinting (s : State) (mode : BitVec 4) (trig : Bool) (en : BitVec 4) (pos : Option Rat) : State :=
  let q0 := { s.sluice with source := s.sluice.set.source }
  let x0 := pos.getD (if s.pair.paired then (q0.tracked.floor : Rat) else q0.tracked)
  let s1 := { s with
    print := s.print.atStart mode trig en
    sluice := q0.atStart mode x0 s.time.raw
    heads := { s.heads with assembleTo := 9, ports := s.heads.ports.map (fun (h : HeadState) => { h with framesFrom := 0 }) }
    cist := { s.cist with judgedTo := 9, blank := [], dryRun := none, early := [] }
    gov := { s.gov with factor := 16, goodRun := 0 }
    enc := { s.enc with armed := q0.set.crosscheck, disSince := none } }
  let s2 := ((s1.baseline).camStart).setCause 4 false
  let s3 := (s2.record 1 (word [fld 0 4 mode.toNat, fld 4 1 (b2n trig)]) (BitVec.ofInt 64 x0.floor)).assignNext
  s3.evalLead.askHeld.evalGov

/-- A head port of the map that is not ACTIVE, lowest position in the map first (R301). -/
def State.portDown (s : State) (m : NozzleMap) : Option HeadPort := (m.heads.find? (fun h => !s.headActive h.port)).map (fun h => h.port)

/-- A head port of the map that fails the capability check, with the reason (R301). -/
def State.capsFails (s : State) (m : NozzleMap) : Option (HeadPort × Nat) :=
  m.heads.findSome? (fun h => (s.capsFault h).map (fun r => (h.port, r)))

/-- SOURCE, or its cross-check partner, is OFF (R304). -/
def State.sourceOff (s : State) : Bool :=
  s.enc.encs[s.sluice.set.source].mode == .off || (s.sluice.set.crosscheck && s.enc.encs.toList.any (fun e => e.mode == .off))

/-- LEAD is below the greatest λ of the head ports in use plus 250 ns (R241). LEAD in 250 ps, λ in 125 ps. -/
def State.leadShort (s : State) (m : NozzleMap) : Bool :=
  m.heads.any (fun h => match s.heads.ports[h.port].lam with
    | some l => s.headActive h.port && decide (2 * s.sluice.set.lead < l + 2000)
    | none => false)

/-- CAM_DIST of an enabled port is not above the greatest row lag (R360). -/
def State.camNear (s : State) (m : NozzleMap) : Bool :=
  s.cam.ports.toList.any (fun q => q.direct.enable && decide (q.direct.dist ≤ m.greatestLag))

/-- The conditions of R547, after the refusal of R612; none when all hold. Outside FIELD nothing is printed (R553, log 39). -/
def State.startRefused (s : State) : Option (Code × Nat) :=
  match s.sys.fatal with
  | some (cause, _) => some (.fatalFault, cause)
  | none =>
    if s.print.started then some (.printActive, 0)
    else if s.eng.kernelFail.isSome then some (.kernelAuthFail, 0)
    else match s.mapper.inForce with
      | none => some (.nozzleMapAbsent, 0)
      | some m =>
        if s.sourceOff then some (.encConfigBad, 4)
        else if s.leadShort m then some (.sluiceConfigBad, 1)
        else match s.portDown m, s.capsFails m with
          | some p, _ => some (.headLinkDown, p.val)
          | none, some (p, r) => some (.headCapsBad, capsDetail p r)
          | none, none =>
            if s.camNear m then some (.camConfigBad, 3) else if s.sec.lifecycle ≠ 2 then some (.lifecycleDenied, 1) else none

/-- The capability check has passed on every port of the map (R301). -/
def State.capsPassed (s : State) : State :=
  { s with heads := { s.heads with ports := s.heads.ports.map (fun q => { q with capsBad := false }) } }

/-- PRINT_START's effect. A print mode that R35 reserves starts nothing: R5 lets no host error act on pages committed (log 90). -/
def cmdPrintStart (x : Cmd) (s : State) : State × Option Resp :=
  if 10 ≤ x.argBits 3 0 then (s, resp .argBad 0)
  else match s.startRefused with
  | some (c, n) => (s, resp c n)
  | none =>
    (s.capsPassed.startPrinting (BitVec.ofNat 4 (x.argBits 3 0)) (x.arg.getLsbD 4) (BitVec.ofNat 4 (x.argBits 8 5)) none, okResp)

/-- PRINT_START (R547). -/
def execPrintStart (x : Cmd) (s : State) : Out := (runCommand 0x18 false false cmdPrintStart x s).done

/-! ### PRINT_STOP (R546) -/

/-- Bound starts not yet begun are given up: their triggers pulse MARK_MISS (R68, R546). -/
def State.giveUpBounds (s : State) : State :=
  let s1 := s.print.bounds.foldl (fun s b => s.pulseFor b.trig b.start) s
  { s1 with print := { s1.print with
      bounds := []
      fallbackBusy := if s1.print.span.any (fun sp => sp.fallback) then 1 else 0
      trigs := s1.print.trigs.map (fun (t : TrigState) => { t with pending := [] })
      queue := if s1.print.queuePrinting then
          s1.print.queue.take 1 ++ (s1.print.queue.drop 1).map (fun q => { q with start := none, bound := none })
        else s1.print.queue.map (fun q => { q with start := none, bound := none }) } }

/-- The last bar line that a print stop leaves to be allocated (R546). -/
def State.stopLine (s : State) (now : Bool) : Nat :=
  match s.print.span with
  | some sp => if now then s.sluice.barLine else sp.trailing
  | none => s.sluice.barLine

/-- A print stop acts (R546): allocation of page starts ends, waiting pages are flushed on FLUSH, and printing stops now, or
with the running page. Its record names the bar line after which allocation ends (R477). -/
def State.stopPrinting (s : State) (flush abort now : Bool) (at_ : Nat) : State :=
  let s1 := { s with print := { s.print with stopping := true } }.giveUpBounds
  let s2 := if flush then s1.print.waitingQ.foldl (fun s q => s.missPage q) s1 else s1
  let s3 := if abort && !now then s2.abortAt at_ .printStop else s2
  let s4 := s3.record 2 (word [b2n flush]) (BitVec.ofNat 64 (s3.stopLine now))
  if !s4.print.started then s4
  else match s4.print.span with
    | none => s4.stopNow
    | some _ => if now then s4.cutPage at_ .printStop else s4

/-- PRINT_STOP's effect: it is answered when printing stops. -/
def cmdPrintStop (x : Cmd) (s : State) : State × Option Resp :=
  if !s.print.started then (s, resp .printStopped 0)
  else
    let s1 := { s with print := { s.print with stopWaits := s.print.stopWaits ++ [StopWait.mk x.origin x.tag] } }
    let s2 := if x.arg.getLsbD 1 then s1.setCause 4 true else s1
    (s2.stopPrinting (x.arg.getLsbD 0) (x.arg.getLsbD 2) (x.arg.getLsbD 3) s.sluice.barLine, none)

/-- PRINT_STOP (R546). -/
def execPrintStop (x : Cmd) (s : State) : Out := (runCommand 0x19 false false cmdPrintStop x s).done

/-! ### TRIGGER_CONFIG (R542) -/

/-- An entry of the table of R542 that breaks its range, row, INDEX or ELEM: reason 1. -/
def checkTrigger (_ : State) (e : Entry) : Option Nat :=
  let ok := decide (e.index < 4) && e.elem == 0 &&
    (match e.row with
      | 0 => e.within 0 1
      | 1 => e.within 1 255
      | 2 => e.within 1 1048575
      | 3 => e.within 0 1048575
      | 4 => e.within 10000000 100000000000
      | 5 => e.within 0 1
      | 6 => e.within 0 1
      | _ => false)
  if ok then none else some 1

/-- A row of R542 takes its value. -/
def TrigSettings.put (t : TrigSettings) (row n : Nat) : TrigSettings :=
  match row with
  | 0 => { t with activeLow := n == 1 }
  | 1 => { t with filter := n }
  | 2 => { t with delay := n }
  | 3 => { t with mmOffset := n }
  | 4 => { t with mmWidth := n }
  | 5 => { t with onFallback := n == 1 }
  | 6 => { t with onDefective := n == 1 }
  | _ => t

/-- The settings table of R542. -/
def triggerTable : Settings where
  bad := .triggerConfigBad
  isTable := fun _ _ => false
  check := checkTrigger
  whole := fun _ _ => none
  busy := fun s _ => if s.print.started then resp .printActive 0 else none
  apply := fun s e => s.setTrig (Fin.ofNat 4 e.index) (fun t => { t with set := t.set.put e.row e.nat })

/-- TRIGGER_CONFIG (R542). -/
def execTriggerConfig (x : Cmd) (s : State) : Out := (runCommand 0x62 true false (runSettings triggerTable) x s).done

/-! ### GOVERNOR_CONFIG (R216, R210) -/

/-- An entry of the table of R216, with the weirs as row 7, that breaks its range, row, INDEX or ELEM: reason 1. -/
def checkGovernor (_ : State) (e : Entry) : Option Nat :=
  let z := e.index == 0
  let ok := match e.row with
    | 0 => z && e.elem == 0 && e.within 2000 400000 && e.nat % 2000 == 0
    | 1 => z && e.elem == 0 && e.within 10000000000 60000000000000
    | 2 => z && e.elem == 0 && e.within 0 1000000000000
    | 3 => z && e.elem == 0 && e.within 0 1048575
    | 4 => z && e.elem == 0 && e.within 0 1
    | 5 => z && e.elem == 0 && e.within 1000 100000
    | 6 => z && decide (e.elem < 16) && e.within 0 4094
    | 7 => z && decide (e.elem < 3)
    | _ => false
  if ok then none else some 1

/-- A row of R216 takes its value, used from the next evaluation. -/
def GovSettings.put (g : GovSettings) (e : Entry) : GovSettings :=
  match e.row with
  | 0 => { g with vMax := e.nat }
  | 1 => { g with decelPs := e.nat }
  | 2 => { g with respPs := e.nat }
  | 3 => { g with margin := e.nat }
  | 4 => { g with holdOnEmpty := e.nat == 1 }
  | 5 => { g with pwmHz := e.nat }
  | 6 => { g with peers := g.peers.set e.elem (BitVec.ofNat 12 e.nat) }
  | _ => g

/-- WEIRS takes a level (R210). -/
def CisternPart.put (w : CisternPart) (elem n : Nat) : CisternPart :=
  match elem with
  | 0 => { w with w1 := n }
  | 1 => { w with w2 := n }
  | 2 => { w with w3 := n }
  | _ => w

/-- The weir levels break R210. -/
def CisternPart.weirsBad (w : CisternPart) : Bool := !decide (1 ≤ w.w3 ∧ w.w3 < w.w2 ∧ w.w2 < w.w1 ∧ w.w1 ≤ 128)

/-- The settings table of R216 and R545: reason 2 where the weirs break R210. -/
def governorTable : Settings where
  bad := .governorConfigBad
  isTable := fun _ _ => false
  check := checkGovernor
  whole := fun s e => if e.row = 7 ∧ s.cist.weirsBad = true then some 2 else none
  busy := fun _ _ => none
  apply := fun s e => if e.row = 7 then { s with cist := s.cist.put e.elem e.nat } else { s with gov := { s.gov with next := s.gov.next.put e } }

/-- GOVERNOR_CONFIG (R216). -/
def execGovernorConfig (x : Cmd) (s : State) : Out := (runCommand 0x63 true false (runSettings governorTable) x s).done

end Sys2Proof.Machine
end

