-- ==== Sys2Proof/Machine/SluiceOps.lean ====
section
/-!
DEFINITION. Operations of the sluice (08_fire_timing.md): tracking loops, line positions, fire times, tokens, cross-checking and
the encoder switch.
-/

namespace Sys2Proof.Machine

/-! ### Encoder events on the fabric (R451) -/

/-- An ENC_EVENT frame to every node of ENC_EVENT_NODES, when the mask admits it (R451). -/
def State.encEvent (s : State) (event : Nat) (k : EncNo) : State :=
  if s.fab.encEvents.getLsbD (event - 1) then
    (s.fab.encNodes.filter (fun n => n != 0)).foldl (fun s n =>
      s.fabSend 3 n [word [fld 0 4 event, fld 4 1 k.val], s.enc.encs[k].position]) s
  else s

/-! ### The tracking loop (R234, R243) -/

/-- a divided by b > 0, to one of the two neighbouring whole numbers: the spec does not say which (log 11). -/
def roundFree (up : Bool) (a b : Int) : Int := a / b + (if up && a % b != 0 then 1 else 0)

/-- Hysteresis at rest: h follows a raw position two counts away, and leaves REST (R243). -/
def Loop.hysteresis (l : Loop) (raw : Int) : Loop :=
  if l.rest then
    if l.hyst + 2 ≤ raw then { l with hyst := raw - 1, rest := false }
    else if raw ≤ l.hyst - 2 then { l with hyst := raw + 1, rest := false }
    else l
  else l

/-- The update of R234: x̂ has 16 fractional bits, v̂ has 32; bits 0 to 2 of u round the three products. -/
def Loop.update (l : Loop) (alpha beta : Nat) (raw ts : Int) (u : Word) : Loop :=
  let l := l.hysteresis raw
  if l.rest then { l with xh := l.hyst * 65536, vh := 0 }
  else
    let xp := l.xh + roundFree (bitAt u 0) (l.vh * ts) 65536
    let e := raw * 65536 - xp
    { l with xh := xp + roundFree (bitAt u 1) (alpha * e) 65536, vh := l.vh + roundFree (bitAt u 2) (beta * e) ts }

/-- x̂ in counts. -/
def Loop.pos (l : Loop) : Rat := (l.xh : Rat) / 65536

/-- v̂ in counts per ps, in the sense of a line. -/
def Loop.speed (l : Loop) (down : Bool) : Rat := (if down then -(l.vh : Rat) else l.vh) / 4294967296000

/-- A distance in counts in the sense of a line. -/
def along (down : Bool) (d : Rat) : Rat := if down then -d else d

/-- A position as the loop compares it: 16 fractional bits, truncated toward minus infinity (R230). -/
def cut16 (x : Rat) : Rat := ((x * 65536).floor : Rat) / 65536

/-- Q of an interface at a pitch in lines per inch, in counts (R230). -/
def SluicePart.counts (q : SluicePart) (e : EncNo) (lpi : Nat) : Rat := (q.set.cpiNum[e] : Rat) / ((lpi : Rat) * q.set.cpiDen[e])

/-- The loop of the encoder in use. -/
def SluicePart.loop (q : SluicePart) : Loop := q.loops[q.source]

/-- The instant in ps of the raw counter. -/
def State.nowPs (s : State) : Rat := (s.time.raw.toNat : Rat) * 1000

/-- The reverse debt in counts (R244, R251). -/
def SluicePart.debt (q : SluicePart) (down : Bool) : Rat := along down (q.xHi - q.loop.pos)

/-- X_hi follows x̂ in a line's forward sense (R244). -/
def SluicePart.reached (q : SluicePart) (down : Bool) : SluicePart :=
  { q with xHi := if along down (q.loop.pos - q.xHi) > 0 then q.loop.pos else q.xHi }

/-- Line rate of the loop in lines/s at a ratio Q (R251). -/
def lineRate (v q : Rat) : Rat := v * 1000000000000 / q

/-- The predicted crossing t_c in ps; none where the web does not move forward (R235). -/
def crossing (l : Loop) (down : Bool) (now x : Rat) : Option Rat :=
  let d := along down (cut16 x - l.pos)
  if d ≤ 0 then some now
  else if l.speed down ≤ 0 then none
  else some (now + d / l.speed down)

/-- Motion is too slow or backward for a line: v̂ ≤ 0, or below CARR_MIN on a CARRIAGE page (R240, R251). -/
def tooSlow (l : Loop) (down : Bool) (minRate : Nat) (q : Rat) : Bool :=
  decide (l.speed down ≤ 0) || decide (lineRate (l.speed down) q < (minRate : Rat))

/-- LEAD in ps. -/
def SluicePart.leadPs (q : SluicePart) : Rat := (q.set.lead : Rat) * 250

/-- A fire time no earlier than 2,500 ns after the line before, and outside the 10 µs after a tickle (R236, R247). -/
def SluicePart.fireTime (q : SluicePart) (tc : Rat) (before : Option Rat) : Rat :=
  let t := match before with | some b => max tc (b + 2500000) | none => tc
  match q.tickled with
  | some k => if (k.toNat : Rat) * 1000 ≤ t ∧ t < (k.toNat : Rat) * 1000 + 10000000 then (k.toNat : Rat) * 1000 + 10000000 else t
  | none => t

/-! ### Tokens (R237 to R240, R276, R280) -/

/-- A wait of 0 to 2 ns for a block slot, in steps of 250 ps: the lane's block phase, which the spec leaves to the lane (R238, log 11). -/
def State.wait (s : State) : Nat := s.free.toNat % 9

/-- t_d of a token built now: 34 ns of building, crossing and serialising, and the wait for its block slot: base, the same for the tokens
of a line, and the port's own, so that they leave within 2 ns of each other (R20, R238, log 11). -/
def State.tokenTd (s : State) (base : Nat) : Rat := s.nowPs + 34000 + 250 * ((base + s.wait : Nat) : Rat)

/-- λ of a port in ps (R288). -/
def State.lamPs (s : State) (p : HeadPort) : Rat := ((s.heads.ports[p].lam.getD 0 : Nat) : Rat) * 125

/-- The nearest whole number. -/
def nearest (x : Rat) : Int := (x + 1 / 2).floor

/-- PERIOD in 250 ps: Q / v̂, saturating (R237, R276). -/
def periodUnits (l : Loop) (down : Bool) (q : Rat) : Nat :=
  if l.speed down ≤ 0 then 4194303 else min 4194303 (nearest (q / l.speed down / 250)).toNat

/-- A token is sent on one port; answers the port's record, and whether its delay would be negative (R237, R241). -/
def State.token (s : State) (base : Nat) (k : TokenKind) (n : Nat) (p : PortSent) (tf : Rat) (period : Nat) : State × PortSent × Bool :=
  let td := s.tokenTd base
  let arrive := td + s.lamPs p.port
  let delay := (nearest (max 0 (tf - arrive) / 250)).toNat
  let b := tokenBlock k n delay period
  let s1 := s.drew
  match k with
  | .fire => ((s1.setHead p.port (fun h => { h with fires := n :: (h.fires.filter (fun l => l != n)).take 63 })).offer
      p.port (tokenItem k n b p.subs), { p with tf := max tf arrive, held := false }, decide (tf < arrive))
  | .revise => (s1.offer p.port (tokenItem k n b p.subs), { p with tf := max tf arrive, revs := p.revs + 1 }, decide (tf < arrive))
  | .hold => (s1.offer p.port (tokenItem k n b p.subs), { p with held := true, revs := p.revs + 1 }, false)

/-- A revision or hold built now reaches a port at least 20 ns before the fire time it replaces (R239). -/
def State.inTime (s : State) (base : Nat) (p : PortSent) : Bool := decide (s.tokenTd base + s.lamPs p.port + 20000 ≤ p.tf)

/-- The line has fired on a port. -/
def PortSent.fired (p : PortSent) (now : Rat) : Bool := !p.held && decide (p.tf ≤ now)

/-- A port that failed the capability check receives no tokens (R301). -/
def State.tokensTo (s : State) (p : PortSent) : Bool := !s.heads.ports[p.port].capsBad

/-- A HOLD on one port (R240, R280, R301). -/
def State.holdPort (s : State) (base n : Nat) (p : PortSent) : State × PortSent × Bool :=
  if p.held || p.fired s.nowPs || decide (40 ≤ p.revs) || !s.inTime base p || !s.tokensTo p then (s, p, false)
  else s.token base .hold n p 0 0

/-- A new fire time on one port: FIRE again on a held one whose crossing lies within LEAD, REVISE where it differs by at least
REVISE_STEP and can arrive in time (R239, R240, R280, R301). Answers whether its delay would be negative (R241). -/
def State.revisePort (s : State) (base n : Nat) (p : PortSent) (tc tf : Rat) (period : Nat) : State × PortSent × Bool :=
  if !s.tokensTo p then (s, p, false)
  else if p.held then
    if tc ≤ s.nowPs + s.sluice.leadPs then s.token base .fire n p tf period else (s, p, false)
  else if p.fired s.nowPs || decide (40 ≤ p.revs) || decide (|tf - p.tf| < (s.sluice.set.reviseStep : Rat)) || !s.inTime base p then (s, p, false)
  else s.token base .revise n p tf period

/-- Ports one after the other; whether some port's answer was true. -/
def eachPort (f : State → PortSent → State × PortSent × Bool) (s : State) (ps : List PortSent) : State × List PortSent × Bool :=
  ps.foldl (fun (acc : State × List PortSent × Bool) p =>
    let r := f acc.1 p
    (r.1, acc.2.1 ++ [r.2.1], acc.2.2 || r.2.2)) (s, [], false)

/-- A fire time lies more than 1/16 of the predicted line period after the crossing (R236). -/
def lateFor (k : Loop) (down : Bool) (q tc tf : Rat) : Bool :=
  if k.speed down ≤ 0 then decide (tc < tf) else decide (q / k.speed down / 16 < tf - tc)

/-- The FIRE_LATE episode after a fired line (R236). -/
def State.lateness (s : State) (n : Nat) (late : Bool) (by_ : Rat) : State :=
  match s.sluice.late with
  | none =>
    if late then
      ({ s with sluice := { s.sluice with late := some (n, by_, 0) } }).raiseF .fireLate
        [fld 0 16 (min 65535 (by_ / 1000).floor.toNat), fld 16 24 n]
    else s
  | some (f, g, k) =>
    let e := if late then some (f, max g by_, 0) else if k + 1 = 64 then none else some (f, g, k + 1)
    { s with sluice := { s.sluice with late := e } }

/-- The carriage has moved past a line's position below CARR_MIN, and has not run back beyond it since (R251). -/
def AllocLine.slips (l : AllocLine) (k : Loop) (slow : Bool) : Bool :=
  l.carriage && decide (along l.down (cut16 l.x - k.pos) ≤ 0) && (l.slipped || slow)

/-- One allocated line at an update (R236, R239 to R241, R251). before: the fire time of the line before it. A line becomes late once. -/
def State.reviseLine (s : State) (l : AllocLine) (before : Option Rat) : State × AllocLine :=
  if l.frozen then (s, l)
  else
    let base := s.wait
    let s := s.drew
    let k := s.sluice.loop
    let slow := tooSlow k l.down l.minRate l.q
    let slip := l.slips k slow
    let far (tc : Rat) : Bool := decide (s.nowPs + 2 * s.sluice.leadPs < tc)
    let hold : State × AllocLine :=
      let r := eachPort (fun s p => s.holdPort base l.n p) s l.sent
      (r.1, { l with base := before, slipped := slip, sent := r.2.1 })
    match crossing k l.down s.nowPs l.x with
    | some tc =>
      if slow || slip || far tc then hold
      else
        let tf := s.sluice.fireTime tc before
        let r := eachPort (fun s p => s.revisePort base l.n p tc tf (periodUnits k l.down l.q)) s l.sent
        let late := !l.late && (r.2.2 || lateFor k l.down l.q tc tf)
        (if late then r.1.lateness l.n true (tf - tc) else r.1,
          { l with base := before, tf := tf, slipped := slip, late := l.late || late, sent := r.2.1 })
    | none => hold

/-- The time at which a line fires as it stands: the latest on any port (R236). -/
def AllocLine.fires (l : AllocLine) : Rat := (l.sent.filter (fun p => !p.held)).foldl (fun t p => max t p.tf) l.tf

/-- Every line allocated and not yet fired, in order (R236, R239, R240). The line allocated next follows the last of them. -/
def State.reviseLines (s : State) : State :=
  let r := s.sluice.lines.foldl (fun (acc : State × List AllocLine) l =>
    let before := match acc.2.getLast? with | some p => if p.n + 1 = l.n then some p.fires else l.base | none => l.base
    let r := acc.1.reviseLine l before
    (r.1, acc.2 ++ [r.2])) (s, [])
  let last : Option Rat := match r.2.getLast? with
    | some l => if l.n = r.1.sluice.barLine then some l.fires else r.1.sluice.lastTf
    | none => r.1.sluice.lastTf
  { r.1 with sluice := { r.1.sluice with lines := r.2, lastTf := last
                                         tfs := r.1.sluice.tfs.map (fun x => match r.2.find? (fun l => l.n == x.1) with
                                           | some l => (x.1, l.fires)
                                           | none => x) } }

/-- The line has fired on every port it was sent to. -/
def AllocLine.fired (l : AllocLine) (now : Rat) : Bool :=
  if l.sent.isEmpty then decide (l.tf ≤ now) else l.sent.all (fun p => p.fired now)

/-- Lines that have fired leave (R232), and each line whose fire time has come, fired or idle, triggers its camera lines at that time
(R359). -/
def State.retire (s : State) : State :=
  let left := s.sluice.lines.filter (fun l => !l.fired s.nowPs)
  let due (x : Nat × Rat) : Bool := decide (x.2 ≤ s.nowPs) && left.all (fun l => l.n != x.1)
  let s1 := { s with sluice := { s.sluice with lines := left, tfs := s.sluice.tfs.filter (fun x => !due x) } }
  (s.sluice.tfs.filter due).foldl (fun s x => s.camTriggers x.1 x.2) s1

/-! ### Allocation (R231 to R237, R250 to R253) -/

/-- The page that owns the next bar line, by starts already fixed (R233). -/
def State.lineOwner (s : State) (m : Nat) : Option Place :=
  s.fixedPlaces.find? (fun q => decide (q.first ≤ m) && decide (m ≤ q.trailing))

/-- Forward for a page means decreasing counts (R229, R250). -/
def State.pageDown (s : State) (d : PageDesc) : Bool := xor s.sluice.set.fwdNeg (d.carriage && d.reverse)

/-- P(y) in counts (R250). The sense of FWD_SIGN gives positions along the carriage their sign (log 32). -/
def State.pagePos (s : State) (d : PageDesc) (y : Int) : Rat :=
  let a : Int := if d.reverse then s.sluice.set.alignRev else s.sluice.set.alignFwd
  (s.sluice.set.origin : Rat) + along s.sluice.set.fwdNeg (((y : Rat) + (a : Rat) / 256) * s.sluice.counts s.sluice.source (modeLpi d.mode))

/-- CARR_MIN of a page's mode, 0 in WEB transport (R251). -/
def State.minRate (s : State) (d : PageDesc) : Nat := if d.carriage then s.sluice.set.carrMin.toList.getD d.mode.toNat 0 else 0

/-- What the next bar line would be: position, Q, sense, least rate, and the pitch from it on. -/
structure NextLine where
  x       : Rat
  q       : Rat
  lpi     : Nat
  down    : Bool
  minRate : Nat
  place   : Option Place
deriving DecidableEq, Repr

/-- The next line of a page, or an idle line of a web (R231, R250). A CARRIAGE page's first line lies at its own position, and the
lines after it one Q apart. -/
def State.nextLine (s : State) : NextLine :=
  let m := s.sluice.barLine + 1
  match s.lineOwner m with
  | some pl =>
    let d := pl.desc
    let lpi := modeLpi d.mode
    let q := s.sluice.counts s.sluice.source lpi
    let down := s.pageDown d
    let x := if d.carriage ∧ pl.first = m then s.pagePos d (if d.reverse then (d.length : Int) - 1 else 0)
      else s.sluice.lastX + along down q
    ⟨x, q, lpi, down, s.minRate d, some pl⟩
  | none =>
    let q := s.sluice.counts s.sluice.source s.sluice.lpi
    ⟨s.sluice.lastX + along s.sluice.set.fwdNeg q, q, s.sluice.lpi, s.sluice.set.fwdNeg, 0, none⟩

/-- The ports of a fired line with the offsets of their rows (R184, R237). -/
def State.linePorts (s : State) (pl : Place) (n : Nat) : List PortSent :=
  let m := match pl.ctx with | some c => some c.map | none => s.mapNext
  match m with
  | none => []
  | some m =>
    if !s.sendsLine n then []
    else (m.heads.filter (fun h => s.portUsed h.port && decide (s.heads.ports[h.port].framesFrom ≤ n))).map (fun h =>
      { port := h.port, subs := h.rows.map (fun r => r.sub pl.desc), tf := 0, held := false, revs := 0 })

/-- The tokens of a fired line (R237): FIRE on every port, and the judgement of lateness (R236, R241). -/
def State.fireLine (s : State) (n : Nat) (nl : NextLine) (pl : Place) (tc tf : Rat) : State :=
  let k := s.sluice.loop
  let period := periodUnits k nl.down nl.q
  let base := s.wait
  let r := eachPort (fun s p => s.token base .fire n p tf period) s.drew (s.linePorts pl n)
  let late := r.2.2 || lateFor k nl.down nl.q tc tf
  let l : AllocLine := { n := n, x := nl.x, q := nl.q, down := nl.down, minRate := nl.minRate, base := s.sluice.lastTf, tf := tf
                         frozen := false, carriage := pl.desc.carriage, slipped := false, late := late, sent := r.2.1 }
  let s1 := { r.1 with sluice := { r.1.sluice with lines := r.1.sluice.lines ++ [l] } }
  s1.lateness n late (tf - tc)

/-- Bar line n + 1 is allocated: its boundary, its fire time and its tokens (R232 to R237, R242). A standby has joined once it
allocates line b (R487). -/
def State.allocate (s : State) (nl : NextLine) (tc : Rat) : State :=
  let n := s.sluice.barLine + 1
  let tf := s.sluice.fireTime tc s.sluice.lastTf
  let s1 := match nl.place with
    | some pl => s.fireLine n nl pl tc tf
    | none => s
  let q := s1.sluice
  let first : Bool := match nl.place with | some pl => pl.first == n | none => false
  let car : Bool := match nl.place with | some pl => pl.desc.carriage | none => false
  let q1 := { q with barLine := n, lastX := nl.x, lpi := nl.lpi, lastTf := some tf, tfs := q.tfs ++ [(n, tf)]
                     times := s1.time.raw :: q.times.take 63, slipped := false, wetTold := false, holdTold := false }
  let q2 := if first then { q1 with carriage := car, xHi := if car then q.loop.pos else q1.xHi } else q1
  let joins : Bool := match s1.pair.joinLine with | some (_, b) => b == n && s1.pair.joinPos.isSome | none => false
  { s1 with sluice := q2, pair := { s1.pair with joined := s1.pair.joined || joins
                                                 joinPos := if joins then none else s1.pair.joinPos } }

/-- Idle lines follow the carriage's path: the next page, or with none waiting the last one, is a CARRIAGE page (R252, log 32). -/
def State.carriageIdle (s : State) : Bool :=
  match s.print.waitingQ with | q :: _ => q.desc.carriage | [] => s.sluice.carriage

/-- A frame of one more bar line fits in what a head driver holds: frames of at most 13 consecutive bar lines are outstanding on a port,
from the oldest line allocated and not fired to the newest assembled, which lies 8 lines ahead (R273, R300). -/
def State.framesFit (s : State) : Bool :=
  match (s.sluice.lines.filter (fun l => !l.sent.isEmpty)).head? with
  | some l => decide (s.sluice.barLine + 9 < l.n + 13)
  | none => true

/-- The conditions of R235 and R251 for a line: t_c when they hold. R300 bounds the lines allocated and not fired besides. -/
def State.allocatable (s : State) (nl : NextLine) : Option Rat :=
  let k := s.sluice.loop
  if 1 < s.sluice.debt nl.down ∨ k.speed nl.down ≤ 0 ∨ tooSlow k nl.down nl.minRate nl.q = true ∨ ¬ s.framesFit then none
  else match crossing k nl.down s.nowPs nl.x with
    | some tc => if tc ≤ s.nowPs + s.sluice.leadPs then some tc else none
    | none => none

/-- The next line is ahead of x̂ in its sense. -/
def State.lineAhead (s : State) (nl : NextLine) : Bool := decide (0 < along nl.down (cut16 nl.x - s.sluice.loop.pos))

/-- A line of a page or of the web at an update (R235, R251). -/
def State.tryLine (s : State) (nl : NextLine) : State :=
  let car : Bool := match nl.place with | some pl => pl.desc.carriage | none => false
  let slip := car && !s.lineAhead nl && (s.sluice.slipped || tooSlow s.sluice.loop nl.down nl.minRate nl.q)
  let s1 := { s with sluice := { s.sluice with slipped := slip } }
  if slip then s1
  else match s1.allocatable nl with
    | some tc => s1.allocate nl tc
    | none => s1

/-- An idle line of carriage travel: one for each Q of path (R252). -/
def State.tryIdle (s : State) : State :=
  let q := s.sluice.counts s.sluice.source s.sluice.lpi
  let s1 := { s with sluice := { s.sluice with xHi := s.sluice.loop.pos } }
  if q ≤ s1.sluice.path then
    ({ s1 with sluice := { s1.sluice with path := s1.sluice.path - q } }).allocate
      ⟨s1.sluice.loop.pos, q, s1.sluice.lpi, s1.sluice.set.fwdNeg, 0, none⟩ s1.nowPs
  else s1

/-- The first line of the CARRIAGE page at the head of the queue, were it the next bar line. -/
def State.startLine (s : State) (d : PageDesc) : NextLine :=
  let lpi := modeLpi d.mode
  ⟨s.pagePos d (if d.reverse then (d.length : Int) - 1 else 0), s.sluice.counts s.sluice.source lpi, lpi, s.pageDown d, s.minRate d,
    some ⟨d.id, d, s.sluice.barLine + 1, d.length, s.sluice.barLine + d.length + s.lagMax, s.headCtx⟩⟩

/-- A crossing of a CARRIAGE page's first line (R253): the page starts, is passed over with LATE_COMMIT, or is not due. -/
def State.tryStart (s : State) (q : QEntry) : Option State :=
  let nl := s.startLine q.desc
  let m := s.sluice.barLine + 1
  if !s.lineAhead nl then
    some { s with sluice := { s.sluice with passedOver := none } }.tryIdle
  else
    let s0 := { s with sluice := { s.sluice with xHi := s.sluice.loop.pos } }
    match s0.allocatable nl with
    | none => none
    | some tc =>
      if m < s0.edgeNow + q.desc.gap ∨ q.held.isSome then none
      else if q.eligible m then
        let s1 := (s0.setQ q.desc.id (fun q => { q with start := some m })).record 5 (word [q.desc.id.toNat]) (BitVec.ofNat 64 m)
        some ((s1.allocate nl tc).fixStart m)
      else if s0.sluice.passedOver = some q.desc.id then none
      else some (({ s0 with sluice := { s0.sluice with passedOver := some q.desc.id } }).raiseF .lateCommit [q.desc.id.toNat])

/-- This device allocates bar lines: it prints, fire timing runs, a page to be finished has lines left, and a standby has joined, is to
join at line b, or was demoted and the switch line is to come (R483, R487, R546, R611). -/
def State.allocates (s : State) : Bool :=
  s.print.started && !s.silenced &&
  (!s.print.stopping || (match s.print.span with | some sp => decide (s.sluice.barLine < sp.trailing) | none => false)) &&
  (s.sendsLine (s.sluice.barLine + 1) || s.pair.joined || s.pair.joinPos.isSome)

/-- At most one line is allocated at an update (R235). -/
def State.tryAllocate (s : State) : State :=
  if !s.allocates then s
  else
    let nl := s.nextLine
    match nl.place with
    | some _ => s.tryLine nl
    | none =>
      if s.carriageIdle then
        match s.print.waitingQ with
        | q :: _ =>
          if s.print.trigMode || s.print.stopping || s.shadow || !q.desc.carriage then s.tryIdle
          else match s.tryStart q with | some t => t | none => s.tryIdle
        | [] => s.tryIdle
      else s.tryLine nl

/-! ### Reversal (R245) -/

/-- WEB_REVERSAL once per episode, which ends when the debt falls to 0 (R245). -/
def State.checkReversal (s : State) (q : Rat) (down : Bool) : State :=
  let d := s.sluice.debt down
  let lines := (d / q).floor.toNat
  match s.sluice.reversal with
  | some g =>
    { s with sluice := { s.sluice with reversal := if d ≤ 0 then none else some (max g lines) } }
  | none =>
    if (s.sluice.set.debtLimit : Rat) * q < d then
      let page : Nat := match s.print.span with | some sp => if sp.fallback then 0 else sp.desc.id.toNat | none => 0
      (({ s with sluice := { s.sluice with reversal := some lines } }).raiseF .webReversal
        [page, fld 32 8 (min 255 lines)]).encEvent 6 s.sluice.source
    else s

/-! ### Cross-checking and the encoder switch (R261, R262, R320 to R323) -/

/-- An episode that ends 1 ms after its last occurrence is open (R308, R313). -/
def openSince (raw t : Word) : Bool := decide ((raw - t).toNat < 1000000)

/-- A fault of an interface is open (R321). -/
def EncState.faulty (e : EncState) (raw : Word) : Bool :=
  e.lossEp || e.overEp.any (fun t => openSince raw t) || e.quadEp.any (fun p => openSince raw p.1)

/-- The other interface. -/
def otherEnc (e : EncNo) : EncNo := if e = 0 then 1 else 0

/-- The travel of an interface since the baseline, in lines of the page's mode (R320). -/
def State.linesOf (s : State) (e : EncNo) (lpi : Nat) : Rat :=
  (((s.sluice.loops[e].xh - s.enc.base[e] : Int) : Rat) / 65536) / s.sluice.counts e lpi

/-- ENC_DISAGREE with a survivor and a reason; cross-checking is disarmed, and the sluice is to switch (R261, R322, R323). -/
def State.disagree (s : State) (survivor : EncNo) (reason : Nat) (d : Rat) : State :=
  let s1 := ({ s with enc := { s.enc with armed := false, disSince := none } }).raiseF .encDisagree
    [fld 0 1 survivor.val, fld 1 2 reason, fld 3 16 (min 65535 (d * 256).floor.toNat)]
  if survivor = s.sluice.source then s1
  else
    let n := s.sluice.barLine + 1
    ({ s1 with sluice := { s1.sluice with switchTo := some (survivor, n) } }).record 8 (word [survivor.val]) (BitVec.ofNat 64 n)

/-- Cross-checking compares: CROSSCHECK is on and armed, and a page prints or is within its trailing span (R320, R322). -/
def State.crossing? (s : State) : Bool :=
  s.sluice.set.crosscheck && s.enc.armed && s.print.started && s.print.span.isSome && !s.shadow

/-- |d| of R320. -/
def State.apart (s : State) : Rat :=
  match s.print.span with
  | none => 0
  | some sp =>
    let lpi := modeLpi sp.desc.mode
    |s.linesOf s.sluice.source lpi - s.linesOf (otherEnc s.sluice.source) lpi|

/-- A fault has opened on an interface: on the current source it names the other interface at once, where that has none (R322
steps 1 and 4). -/
def State.faultOpens (s : State) (k : EncNo) : State :=
  if s.crossing? && k == s.sluice.source && !s.enc.encs[otherEnc k].faulty s.time.raw then s.disagree (otherEnc k) 2 s.apart else s

/-- The comparison at an update of the current source (R320 to R322). -/
def State.crossCheck (s : State) : State :=
  if !s.crossing? then { s with enc := { s.enc with disSince := none } }
  else
    let d := s.apart
    if d * 256 ≤ (s.enc.disLimit : Rat) then { s with enc := { s.enc with disSince := none } }
    else
      let since := s.enc.disSince.getD s.time.raw
      let s2 := { s with enc := { s.enc with disSince := some since } }
      if 1000 * (s2.time.raw - since).toNat < s2.enc.disTimePs then s2
      else
        match s2.enc.encs[0].faulty s.time.raw, s2.enc.encs[1].faulty s.time.raw with
        | true, false => s2.disagree 1 2 d
        | false, true => s2.disagree 0 2 d
        | _, _ => s2.disagree s2.enc.survivor 1 d

/-- The switch at the boundary of bar line n: the survivor's targets are re-based (R261, R262). -/
def State.switchEncoder (s : State) : State :=
  match s.sluice.switchTo with
  | none => s
  | some (v, n) =>
    if s.sluice.barLine < n then s
    else
      let q := s.sluice
      let k := q.counts v q.lpi / q.counts q.source q.lpi
      let move (x : Rat) : Rat := q.loops[v].pos + (x - q.loop.pos) * k
      let q1 := { q with source := v, switchTo := none, lastX := move q.lastX, xHi := move q.xHi
                         lines := q.lines.map (fun (l : AllocLine) => { l with frozen := true }) }
      (({ s with sluice := q1 }).raiseF .encoderSwitched [fld 0 1 v.val, fld 1 39 s.sluice.barLine]).encEvent 2 v

end Sys2Proof.Machine
end

