-- ==== Sys2Proof/Machine/HeadOps.lean ====
section
/-!
DEFINITION. Operations of the head links (09_head_link.md): STATUS and claims, waveform loads, links that come and go, and the
standby's judgement of line reports (16_redundancy_and_failover.md).
-/

namespace Sys2Proof.Machine

/-! ### STATUS and claims (R281, R282, R462, R467) -/

/-- STATUS on every port in use, unless token issue is stopped (R281, R611). -/
def State.sendStatus (s : State) : State :=
  if s.silenced then s
  else
    let b := statusBlock (s.pair.paired && s.pair.unitB) s.pair.paired s.heads.fromLine s.heads.claim
    (List.finRange 32).foldl (fun s p => if s.portUsed p then s.offer p (statusItem b) else s) s

/-- The announced claim changes: FROM_LINE is the first bar line not yet allocated, and STATUS is sent at once (R281, R282). While
printing is stopped no bar line of the next print is allocated. -/
def State.announce (s : State) (c : BitVec 32) : State :=
  if c = s.heads.claim then s
  else ({ s with heads := { s.heads with claim := c, fromLine := if s.print.started then s.sluice.barLine + 1 else 0 } }).sendStatus

/-- A claim has been seen (R462). -/
def State.sawClaim (s : State) (c : BitVec 32) : State := { s with pair := { s.pair with highest := if s.pair.highest < c then c else s.pair.highest } }

/-- A claim is taken by this device itself (R282, R463). -/
def State.takeClaim (s : State) (c : BitVec 32) : State :=
  let s1 := (s.sawClaim c).announce c
  { s1 with pair := { s1.pair with claim := c }, heads := { s1.heads with ownClaim := true } }

/-- Every head port of the map in force is ACTIVE and has sent ALIVE (R282). -/
def State.headsAlive (s : State) : Bool :=
  match s.mapper.inForce with
  | none => false
  | some m => m.heads.all (fun h => s.headActive h.port && s.heads.ports[h.port].alive)

/-- A device that is no redundancy unit takes its first claim (R282). -/
def State.claimCheck (s : State) : State :=
  if s.pair.paired || s.heads.ownClaim || !s.headsAlive then s else s.takeClaim (s.pair.highest + 1)

/-- Head ports in use. -/
def State.usedPorts (s : State) : List HeadPort := (List.finRange 32).filter (fun p => s.portUsed p)

/-- A demoted unit announces 0 once every head port in use has reported a MAXCLAIM of at least the new claim (R467). -/
def State.releaseCheck (s : State) : State :=
  match s.pair.releasing with
  | some c =>
    if s.usedPorts.all (fun p => decide (c ≤ s.heads.ports[p].maxClaim)) then
      ({ s with pair := { s.pair with releasing := none } }).announce 0
    else s
  | none => s

/-! ### Waveform loads (R291 to R293) -/

/-- The DEPTH code of a depth. -/
def depthCode (d : Nat) : Nat := if d = 1 then 0 else if d = 2 then 1 else 2

/-- A page of a DEPTH code is PRINTING, within its trailing span, or prepared in the cistern (R292). -/
def State.depthInUse (s : State) (code : Nat) : Bool :=
  s.print.span.any (fun sp => depthCode (modeDepth sp.desc.mode) == code) ||
  [s.eng.queueCtx, s.eng.fallbackCtx].any (fun c =>
    c.any (fun c => !c.cistern.isEmpty && depthCode (modeDepth c.desc.mode) == code))

/-- A command's loads have all ended: its response (R545). -/
def State.waveAnswer (s : State) (o : Origin) (tag : BitVec 5) : State :=
  if s.heads.ports.toList.any (fun h => h.waves.any (fun w => w.origin == o && w.tag == tag)) then s
  else match s.heads.waveWaits.find? (fun w => w.origin == o && w.tag == tag) with
    | none => s
    | some w =>
      let s1 := { s with heads := { s.heads with
        waveWaits := s.heads.waveWaits.filter (fun w => !(w.origin == o && w.tag == tag)) } }
      if w.failed = 0 then s1.respond o 0x1A tag .ok 0 else s1.respond o 0x1A tag .waveLoadFail (low40 w.failed.toNat)

/-- A load ends on a port: reason 0 in force, 1 refused, 2 no ack, 3 link lost (R293). -/
def State.waveEnd (s : State) (p : HeadPort) (w : WaveLoad) (reason : Nat) : State :=
  let d := [fld 0 5 p.val, fld 5 2 w.depth, fld 7 8 w.seq.toNat]
  let s1 := s.setHead p (fun h => { h with waves := h.waves.filter (fun x => x.seq != w.seq) })
  let s2 := if reason = 0 then s1.raiseF .waveLoaded d
    else ({ s1 with heads := { s1.heads with waveWaits := s1.heads.waveWaits.map (fun (x : WaveWait) =>
        if x.origin == w.origin && x.tag == w.tag then { x with failed := x.failed ||| (1#32 <<< p.val) } else x) } }).raiseF
      .waveLoadFail (d ++ [fld 15 2 reason])
  s2.waveAnswer w.origin w.tag

/-! ### Links that come and go (R303, R397, R416) -/

/-- A head lane enters CAPS: the probes of R288 begin anew (R416). -/
def State.headCaps (s : State) (p : HeadPort) : State :=
  s.setHead p (fun h => { h with capsMeas := [], capsSent := 0, probes := [], capsSeen := false, lam := none, meas := []
                                 queue := [], slot := s.slotNow })

/-- A head lane has left ACTIVE (R293, R303). -/
def State.headLeft (s : State) (p : HeadPort) : State :=
  let s1 := s.heads.ports[p].waves.foldl (fun s w => s.waveEnd p w 3) s
  let s2 := s1.setHead p (fun h => { h with up := false, alive := false, silent := false, lam := none, meas := [], probes := []
                                            queue := [] })
  let s3 := { s2 with sluice := { s2.sluice with lines := s2.sluice.lines.map (fun (l : AllocLine) =>
    { l with sent := l.sent.filter (fun x => x.port != p) }) } }
  s3.raiseF .headLinkDown [fld 0 5 p.val, fld 5 2 1]

/-- The head record of a port in the map in force. -/
def State.headRec (s : State) (p : HeadPort) : Option (NozzleMap × HeadRec) :=
  s.mapper.inForce.bind (fun m => (m.heads.find? (fun h => h.port == p)).map (fun h => (m, h)))

/-- A port is judged under the map in force, with its event (R397). -/
def State.judgeNow (s : State) (p : HeadPort) : State :=
  match s.headRec p with
  | some (m, h) => let r := s.judgePort m h; r.1.raise .healthRestored (low40 r.2)
  | none => s

/-- HEAD_LINK_UP at the first latency in ACTIVE; frames begin with the next line to be assembled (R303). -/
def State.headUp (s : State) (p : HeadPort) : State :=
  match s.heads.ports[p].lam with
  | some l =>
    if s.heads.ports[p].up || !s.headActive p then s
    else (s.setHead p (fun h => { h with up := true, framesFrom := s.heads.assembleTo })).raiseF .headLinkUp
      [fld 0 5 p.val, fld 5 20 l]
  | none => s

/-- A head lane is in CAPS. -/
def State.headInCaps (s : State) (p : HeadPort) : Bool :=
  s.lanes.lanes[headLane p].role == .head && s.lanes.lanes[headLane p].st == .caps

/-- The bring-up of a head lane ends once CAPS has come and the 16 probes are answered or dropped (R288, R416). -/
def State.headReady (s : State) (p : HeadPort) : State :=
  let h := s.heads.ports[p]
  if s.headInCaps p && h.capsSeen && h.capsSent == 16 && h.probes.isEmpty then
    let s1 := (s.setLane (headLane p) (fun l => { l with st := .active, backoff := 0, detections := 0 })).setHead p
      (fun h => { h with lam := median h.capsMeas })
    let s2 := s1.headUp p
    match s.health.ports[p].judged, h.caps with
    | some d, some k => if d = k.driverId then s2 else s2.judgeNow p
    | _, _ => s2
  else s

/-! ### What line reports mean to a standby (R472, R478, R488) -/

/-- A standby in SYNC becomes READY (R488). -/
def State.readyCheck (s : State) : State :=
  let q := s.pair
  let portsOk : Bool := match s.mapper.inForce with
    | some m => m.heads.all (fun h => s.headActive h.port && (s.capsFault h).isNone)
    | none => false
  if q.paired && q.st == .sync && q.joined && q.aligned && q.configMatch && q.partnerBacklog == 0 && !q.selfFail &&
      s.print.queue.all (fun e => match s.store.page e.desc.id with | some p => p.state != .defined | none => false) &&
      portsOk && decide (q.readyLines ≤ q.readyRun) then
    ({ s with pair := { q with st := .ready } }.raiseF .pairReady [fld 0 1 (b2n q.unitB)]).beat
  else s

/-- A port reports whether it had both frames of a line and they agreed. A line counts once every port in use has said so, and runs are
of consecutive bar lines (R488, R491). -/
def State.agreeReport (s : State) (p : HeadPort) (n : Nat) (agree : Bool) : State :=
  let q := s.pair
  if !agree then { s with pair := { q with agreeRun := 0, readyRun := 0, acks := q.acks.filter (fun a => a.1 != n) } }
  else
    let old : BitVec 32 := match q.acks.find? (fun a => a.1 == n) with | some a => a.2 | none => 0
    let mask := old ||| (1#32 <<< p.val)
    let rest := q.acks.filter (fun a => a.1 != n)
    if s.usedPorts.all (fun u => mask.getLsbD u.val) then
      let on := decide (q.agreeLine + 1 = n)
      { s with pair := { q with acks := rest, agreeLine := n, agreeRun := if on then min 65535 (q.agreeRun + 1) else 1
                                readyRun := if !q.joined then 0 else if on then min 131071 (q.readyRun + 1) else 1 } }
    else { s with pair := { q with acks := ((n, mask) :: rest).take 64 } }

/-- BAR_SILENT after a line report (R472). -/
def State.silentReport (s : State) (p : HeadPort) (n : Nat) (fired : Bool) (reason : Nat) : State :=
  let q := s.pair
  if !s.standby || q.st == .idle then s
  else
    let old := q.silentRun[p]
    let miss := !fired && (reason == 1 || reason == 4 || reason == 6)
    let run : Nat × Nat := if !miss then (0, n) else if old.1 ≠ 0 ∧ old.2 + 1 = n then (old.1 + 1, n) else (1, n)
    let seen := if fired then q.firedSince ||| (1#32 <<< p.val) else q.firedSince
    let q1 := { q with silentRun := q.silentRun.set p run, firedSince := seen }
    if !q.barSilent && decide (2 ≤ run.1) then { s with pair := { q1 with barSilent := true, firedSince := 0 } }.beat
    else if q.barSilent && s.usedPorts.all (fun u => seen.getLsbD u.val) then
      { s with pair := { q1 with barSilent := false } }.beat
    else { s with pair := q1 }

/-- The page that owns a bar line, 0 for none. -/
def State.pageAt (s : State) (n : Nat) : PageId := match s.owner n with | some q => q.page | none => 0

end Sys2Proof.Machine
end

