-- ==== Sys2Proof/Machine/Encoders.lean ====
section
/-!
DEFINITION. Meanings of the encoder interfaces' and relays' commands (10_position_feedback.md).
-/

namespace Sys2Proof.Machine

/-- An encoder interface changed. -/
def State.setEnc (s : State) (k : EncNo) (f : EncState → EncState) : State :=
  { s with enc := { s.enc with encs := upd s.enc.encs k f } }

/-! ### ENCODER_ADC_SAMPLE (R306 to R308) -/

/-- ⌊a ÷ 32⌋ of an amplitude whose square is x, in units of 2^−60: nine bits from the highest. -/
def amplitude32 (x : Nat) : Nat :=
  [256, 128, 64, 32, 16, 8, 4, 2, 1].foldl (fun acc b => if ((acc + b) * 32 * 2 ^ 30) ^ 2 ≤ x then acc + b else acc) 0

/-- A sample outside the window is discarded (R306 step 4, R308). -/
def State.discardSample (s : State) (k : EncNo) (high : Bool) : State :=
  let s1 := s.setEnc k (fun e => { e with sigLoss := true, accepted := false, lossEp := true })
  if s.enc.encs[k].lossEp then s1
  else (((s1.raiseF .encSignalLoss [fld 0 1 k.val, fld 1 2 (if high then 2 else 1)]).encEvent 3 k).faultOpens k).calCheck
    (fun p => p == .encTrim k)

/-- An accepted sample moves the position by Δ (R306 steps 5 to 7, R307). -/
def State.acceptSample (s : State) (k : EncNo) (p : Int × Int) (up : Bool) : State :=
  let e := s.enc.encs[k]
  let phi := phase12 p.1 p.2 up
  let d := phaseStep phi e.phiPrev
  let s1 := s.setEnc k (fun e => { (e.count (e.sense d)) with phiPrev := phi, lastDelta := e.sense d, accepted := true })
  if d.natAbs ≤ 1024 then s1
  else
    let s2 := s1.setEnc k (fun e => { e with overrate := true, overEp := some s.time.raw })
    if e.overEp.any (fun t => openSince s.time.raw t) then s2
    else (s2.raiseF .encOverrate [fld 0 1 k.val, fld 1 11 d.natAbs]).faultOpens k

/-- ENCODER_ADC_SAMPLE (R306). AMPLITUDE is 8 bits: what it shows of an amplitude of 8,192 codes or more is not stated, so it is
free (log 5). -/
def execEncoderAdcSample (e : EncNo) (a b : BitVec 14) (s : State) : Out :=
  let i := s.enc.encs[e]
  if i.mode != .analogue then s.done
  else
    let p := trimmed i.trim a b
    let x := amplitudeSq p
    let amp := amplitude32 x
    let s1 := s.drew.setEnc e (fun i => { i with amplitude := if amp < 256 then amp else s.free.toNat / 2 % 256 })
    if x < (i.sigMin * 2 ^ 30) ^ 2 then (s1.discardSample e false).done
    else if (i.sigMax * 2 ^ 30) ^ 2 < x then (s1.discardSample e true).done
    else (s1.acceptSample e p (bitAt s.free 0)).done

/-! ### QUADRATURE_TRANSITION (R311, R313) -/

/-- An impossible transition: no count, the flag, the counter, and QUAD_ERROR once per episode (R311, R313). -/
def State.badQuadrature (s : State) (k : EncNo) : State :=
  let raw := s.time.raw
  let s1 := s.setEnc k (fun e => { e with quadErr := true, quadCount := min 65535 (e.quadCount + 1) })
  match s.enc.encs[k].quadEp.filter (fun p => openSince raw p.1) with
  | some (_, n) => s1.setEnc k (fun e => { e with quadEp := some (raw, min 65535 (n + 1)) })
  | none =>
    (((s1.setEnc k (fun e => { e with quadEp := some (raw, 1) })).raiseF .quadError [fld 0 1 k.val, fld 1 16 1]).encEvent 5 k).faultOpens k

/-- The qualified level of an input whose new level has held for a number of samples (R310, R341). -/
def qualify (filter : Nat) (old new : Bool) (held : Nat) : Bool := if filter ≤ held then new else old

/-- QUADRATURE_TRANSITION (R310, R311): A and B show levels that have held for some samples; each qualifies after FILTER of them. -/
def execQuadratureTransition (e : EncNo) (a b : HeldLevel) (s : State) : Out :=
  let i := s.enc.encs[e]
  let a := qualify i.filter i.a a.level a.held
  let b := qualify i.filter i.b b.level b.held
  if i.mode != .digital then s.done
  else
    let s1 := s.setEnc e (fun i => { i with a := a, b := b })
    match (quadIndex a b - quadIndex i.a i.b) % 4 with
    | 0 => s1.done
    | 1 => (s1.setEnc e (fun i => i.count (i.sense 1))).done
    | 3 => (s1.setEnc e (fun i => i.count (i.sense (-1)))).done
    | _ => (s1.badQuadrature e).done

/-! ### INDEX_EVENT (R316 to R319, R328, R451, R476) -/

/-- The nearest whole number to a ÷ b; on a tie, which the spec does not settle, up decides (R316). -/
def nearestFree (up : Bool) (a b : Int) : Int :=
  let q := a / b
  let r := 2 * (a % b)
  if r < b ∨ (r = b ∧ !up) then q else q + 1

/-- Counts from the last count to the index, in analogue mode the extrapolation from the last two samples (R316). -/
def EncState.indexAhead (e : EncState) (after : Fin 51) (up : Bool) : Int :=
  if e.mode == .analogue then nearestFree up (e.lastDelta * after.val) 50 else 0

/-- The judgement of an index event (R317): δ is the angle at the event. -/
def State.judgeIndex (s : State) (k : EncNo) (ahead : Int) : State :=
  let e := s.enc.encs[k]
  if e.cpr = 0 then s
  else if !e.referenced then
    (s.setEnc k (fun e => { e with angle := 0, referenced := true })).raiseF .indexReref [fld 0 1 k.val, fld 1 1 1]
  else
    let d := indexDeviation e.cpr (moveAngle e.cpr e.angle ahead)
    let detail := [fld 0 1 k.val, fldI 1 16 (sat16 d)]
    if d = 0 then s.setEnc k (fun e => { e with pending := none })
    else if d.natAbs ≤ e.idxTol then
      let s1 := (s.setEnc k (fun e => { e with pending := some d })).raiseF .indexSlip detail
      if s.print.started then s1 else s1.encCorrect k
    else (s.setEnc k (fun e => { e with indexFault := true })).raiseF .indexFault detail

/-- Transitions that leave the relay before the one of the index (R328): in digital PASS mode the index keeps its place. -/
def EncState.indexPlace (e : EncState) : Nat :=
  if e.relay = .pass ∧ e.mode = .digital then e.owed.natAbs - 1 else 0

/-- The offset between the units from a pair of positions (R476): ALIGNED after two that differ by at most 1 count. method: 0
INDEX, 1 REST. A later one that differs by more clears it. -/
def State.aligned (s : State) (k : EncNo) (method : Nat) (off : Int) : State :=
  match s.pair.offset with
  | none => { s with pair := { s.pair with offset := some off } }
  | some o =>
    let s1 := { s with pair := { s.pair with offset := some off } }
    if (off - o).natAbs ≤ 1 then
      if s.pair.aligned then s1
      else (({ s1 with pair := { s1.pair with aligned := true } }).raiseF .pairAligned [fld 0 1 k.val, fld 1 1 method]).readyCheck
    else if s.pair.aligned then
      (({ s1 with pair := { s1.pair with aligned := false } }).raiseF .alignFault
        [fld 0 1 k.val, fld 1 16 (min 65535 (off - o).natAbs)]).diverge 0 6
    else s1

/-- Two instants lie within 50 µs (R476). -/
def within50 (raw t : Word) : Bool := decide ((raw - t).toNat ≤ 50000)

/-- A standby's own index event: it pairs with the one ALIGN record on its interface that came within 50 µs, else it is kept for a
record still to come (R476). -/
def State.ownIndex (s : State) (k : EncNo) (count : Int) : State :=
  let raw := s.time.raw
  let q := { s.pair with indexes := (k, count, raw) :: s.pair.indexes.filter (fun x => within50 raw x.2.2)
                         aligns := s.pair.aligns.filter (fun x => within50 raw x.2.2) }
  match q.aligns.filter (fun x => x.1 == k) with
  | [a] => ({ s with pair := { q with aligns := [] } }).aligned k 0 (count - a.2.1)
  | _ => { s with pair := q }

/-- The qualified level of IDX after IDX_POLARITY (R316). -/
def EncState.idxActive (e : EncState) : Bool := xor e.idx e.idxLow

/-- INDEX_EVENT (R310, R316): IDX shows a level that has held for a number of samples. Its qualified rising edge is the index event; edges
after a decreasing count are ignored. -/
def execIndexEvent (e : EncNo) (edge : IndexEdge) (s : State) : Out :=
  let i := s.enc.encs[e]
  let j := { i with idx := qualify i.filter i.idx edge.input.level edge.input.held }
  if i.mode == .off then s.done
  else if i.idxActive || !j.idxActive || !i.lastUp then (s.setEnc e (fun _ => j)).done
  else
    let ahead := i.indexAhead edge.after (bitAt s.free 0)
    let count := i.position.toInt + ahead
    let s1 := (s.drew.setEnc e (fun _ =>
      { j with rerefNow := j.reref, idxOwed := if j.relay = .off then [] else j.idxOwed ++ [j.indexPlace] })).judgeIndex e ahead
    let s2 := s1.encEvent 1 e
    if e ≠ s.sluice.source then s2.done
    else if s.standby then (s2.ownIndex e count).done
    else (s2.record 10 (word [fld 0 1 e.val]) (BitVec.ofInt 64 count)).done

/-- ENC_SIGNAL_RESTORED (R308): 1 ms of accepted samples. -/
def execEncSignalRestored (e : EncNo) (s : State) : Out :=
  if s.enc.encs[e].lossEp then
    (((s.setEnc e (fun i => { i with lossEp := false })).raiseF .encSignalRestored [fld 0 1 e.val]).encEvent 4 e).done
  else s.done

/-! ### RELAY_TRANSITION (R326 to R328) -/

/-- The relay emits one owed transition in its sense. With the transition that an index event waits for, ENCk_OUT_I is asserted for
40 ns (R328). -/
def State.relayStep (s : State) (k : EncNo) : State :=
  let e := s.enc.encs[k]
  let up := decide (0 < e.owed)
  let n := quadNext e.outA e.outB up
  let s1 := (s.setEnc k (fun e => { e with outA := n.1, outB := n.2, owed := if up then e.owed - 1 else e.owed + 1
                                           idxOwed := (e.idxOwed.filter (fun j => decide (0 < j))).map (fun j => j - 1) })).emit
    (if n.1 != e.outA then .relay k 0 n.1 else .relay k 1 n.2)
  if e.idxOwed.contains 0 then
    (s1.setEnc k (fun e => { e with outI := some (s.time.raw + 40) })).emit (.relayIndex k (s.time.raw + 40))
  else s1

/-- RELAY_TRANSITION (R327). -/
def execRelayTransition (e : EncNo) (s : State) : Out :=
  let i := s.enc.encs[e]
  if i.relay = .off || i.owed == 0 then s.done else (s.relayStep e).done

/-! ### ENCODER_CONFIG (R330) -/

/-- Three switch inputs, or none (R540). -/
def switchInputs (v : Word) : Option (Option (SwitchNo × SwitchNo × SwitchNo)) :=
  let a := bits v 4 0
  let b := bits v 9 5
  let c := bits v 14 10
  if a < 16 ∧ b < 16 ∧ c < 16 then some (some (Fin.ofNat 16 a, Fin.ofNat 16 b, Fin.ofNat 16 c))
  else if a = 31 ∧ b = 31 ∧ c = 31 then some none
  else none

/-- An entry of the table of R330 that breaks its range, row, INDEX or ELEM: reason 1. -/
def checkEncoder (_ : State) (e : Entry) : Option Nat :=
  let per := decide (e.index < 2) && e.elem == 0
  let two := decide (e.index < 2) && decide (e.elem < 2)
  let dev := e.index == 0 && e.elem == 0
  let ok := match e.row with
    | 0 => per && e.within 0 2
    | 1 => per && e.within 0 1
    | 2 => per && e.within 1 32
    | 3 => per && e.within 0 1
    | 4 => two && e.within (-2048) 2047
    | 5 => per && e.within 8192 32768
    | 6 => per && e.within (-8192) 8192
    | 7 => two && e.within 256 8191
    | 8 => per
    | 9 => per && (e.nat == 0 || e.within 2 1099511627776)
    | 10 => per && e.within 0 1024
    | 11 => per && e.within 0 1
    | 12 => per && e.within 0 2
    | 13 => two && e.within 1 16777216
    | 14 => dev && e.within 1 16384
    | 15 => dev && e.duration 1000000 1 1000
    | 16 => dev && e.within 0 1
    | 17 => decide (e.index < 5) &&
      (match e.elem with
        | 0 => (switchInputs e.value).isSome && decide (e.nat < 32768)
        | 1 => e.within 0 255
        | 2 => e.duration 1000000000 0 1000
        | 3 => e.within 0 4
        | 4 => e.within 0 1
        | _ => false)
    | _ => false
  if ok then none else some 1

/-- A relay whose mode or ratio changes starts with its accumulator at 0; OFF holds its outputs low (R326, R327). -/
def EncState.setRelay (e : EncState) (m : RelayMode) (n d : Nat) : EncState :=
  let e1 := if e.relay = m ∧ e.relayN = n ∧ e.relayM = d then e else { e with relay := m, relayN := n, relayM := d, acc := 0 }
  if m = .off then { e1 with owed := 0, outA := false, outB := false, outI := none, idxOwed := [] } else e1

/-- A trim value: it waits for the next page boundary, or acts at once while printing is stopped (R330, R402). -/
def EncState.setTrim (e : EncState) (running : Bool) (f : EncTrim → EncTrim) : EncState :=
  let t := f (e.trimNext.getD e.trim)
  if running then { e with trimNext := some t } else { e with trim := t, trimNext := none }

/-- A row of R330 held by an interface takes its value. AMPLITUDE reads 0 in digital mode (R331). running: printing is started. -/
def EncState.put (i : EncState) (running : Bool) (e : Entry) : EncState :=
  let n := e.nat
  match e.row with
  | 0 => { i with mode := match n with | 0 => .off | 1 => .analogue | _ => .digital
                  amplitude := if n = 2 then 0 else i.amplitude }
  | 1 => { i with dirInvert := n == 1 }
  | 2 => { i with filter := n }
  | 3 => { i with idxLow := n == 1 }
  | 4 => if e.elem = 0 then i.setTrim running (fun t => { t with ofsS := e.int }) else i.setTrim running (fun t => { t with ofsC := e.int })
  | 5 => i.setTrim running (fun t => { t with gainC := n })
  | 6 => i.setTrim running (fun t => { t with phase := e.int })
  | 7 => if e.elem = 0 then { i with sigMin := n } else { i with sigMax := n }
  | 8 => { i with position := e.value }
  | 9 => if i.cpr = n then i else { i with cpr := n, angle := 0, referenced := false, pending := none }
  | 10 => { i with idxTol := n }
  | 11 => { i with reref := n == 1 }
  | 12 => i.setRelay (match n with | 0 => .off | 1 => .pass | _ => .divide) i.relayN i.relayM
  | 13 => if e.elem = 0 then i.setRelay i.relay n i.relayM else i.setRelay i.relay i.relayN n
  | _ => i

/-- A field of a switch set takes its value. -/
def SwitchSet.put (j : SwitchSet) (e : Entry) : SwitchSet :=
  match e.elem with
  | 0 =>
    let i := (switchInputs e.value).getD none
    { j with inputs := i, episode := j.episode && i.isSome, allowedSince := if i.isSome then j.allowedSince else none }
  | 1 => { j with allowed := BitVec.ofNat 8 e.nat }
  | 2 => { j with settlePs := e.nat }
  | 3 => { j with axis := if e.nat = 0 then none else some (Fin.ofNat 4 (e.nat - 1)) }
  | 4 => { j with stop := e.nat == 1 }
  | _ => j

/-- v of a switch set (R324). -/
def State.setValue (s : State) (i : SwitchNo × SwitchNo × SwitchNo) : Nat :=
  b2n s.motion.switches[i.1].level + 2 * b2n s.motion.switches[i.2.1].level + 4 * b2n s.motion.switches[i.2.2].level

/-- A SWITCH_SET_BAD episode of a set runs: allowed combinations have not yet held for SETTLE (R325). -/
def SwitchSet.runs (j : SwitchSet) (raw : Word) : Bool :=
  j.episode && !(j.allowedSince.any (fun t => decide (j.settlePs ≤ 1000 * (raw - t).toNat)))

/-- A set's combination after a change of a level, of its INPUTS or of ALLOWED (R325). -/
def State.setChanged (s : State) (j : SwitchSet) : SwitchSet :=
  match j.inputs with
  | none => j
  | some i =>
    let ended := j.episode && !j.runs s.time.raw
    let k := { j with episode := j.episode && !ended }
    if j.allowed.getLsbD (s.setValue i) then
      { k with allowedSince := some (j.allowedSince.getD s.time.raw) }
    else { k with allowedSince := none }

/-- A row of R330 takes its value. running: printing is started. -/
def EncPart.put (p : EncPart) (running : Bool) (e : Entry) : EncPart :=
  match e.row with
  | 14 => { p with disLimit := e.nat }
  | 15 => { p with disTimePs := e.nat }
  | 16 => { p with survivor := Fin.ofNat 2 e.nat }
  | 17 => { p with sets := upd p.sets (Fin.ofNat 5 e.index) (fun j => j.put e) }
  | _ => { p with encs := upd p.encs (Fin.ofNat 2 e.index) (fun i => i.put running e) }

/-- A relay that R326 does not permit in the interface's mode: any but OFF while the interface is OFF, and a DIVIDE ratio beyond its
bound. -/
def EncState.ratioBad (e : EncState) : Bool :=
  (e.relay != .off && e.mode == .off) ||
  (e.relay == .divide && (decide (e.relayM < e.relayN) || (e.mode == .analogue && decide (e.relayM < 256 * e.relayN))))

/-- Faults of an entry beside the others: reason 2, a relay that R326 does not permit; reason 3, SIG_MIN not below SIG_MAX (R330). -/
def encoderWhole (s' : State) (e : Entry) : Option Nat :=
  let i := s'.enc.encs[(Fin.ofNat 2 e.index : EncNo)]
  if (e.row = 0 ∨ e.row = 12 ∨ e.row = 13) ∧ i.ratioBad = true then some 2
  else if e.row = 7 ∧ i.sigMax ≤ i.sigMin then some 3
  else none

/-- A row of R330 marked "Stopped". -/
def encoderStopped (row : Nat) : Bool := decide (row ≤ 3) || row == 8 || row == 9 || row == 12 || row == 13

/-- A relay that turns OFF drives its outputs low (R326). -/
def State.relayLow (s : State) (k : EncNo) (e : EncState) : State :=
  let s1 := if e.outA then s.emit (.relay k 0 false) else s
  let s2 := if e.outB then s1.emit (.relay k 1 false) else s1
  if e.outI.any (fun t => decide (s.time.raw < t)) then s2.emit (.relay k 2 false) else s2

/-- An entry of R330 acts. A switch set judges the combination that it holds anew (R325). -/
def State.putEncoder (s : State) (e : Entry) : State :=
  let s1 := { s with enc := s.enc.put s.print.started e }
  if e.row = 12 ∧ e.nat = 0 then s1.relayLow (Fin.ofNat 2 e.index) s.enc.encs[(Fin.ofNat 2 e.index : EncNo)]
  else if e.row = 17 then
    { s1 with enc := { s1.enc with sets := upd s1.enc.sets (Fin.ofNat 5 e.index) (fun j => s1.setChanged j) } }
  else s1

/-- The settings table of R330. -/
def encoderTable : Settings where
  bad := .encConfigBad
  isTable := fun _ _ => false
  check := checkEncoder
  whole := encoderWhole
  busy := fun s e => if s.print.started && encoderStopped e.row then resp .sluiceBusy 0 else none
  apply := fun s e => s.putEncoder e

/-- ENCODER_CONFIG (R330). -/
def execEncoderConfig (x : Cmd) (s : State) : Out := (runCommand 0x60 true false (runSettings encoderTable) x s).done

end Sys2Proof.Machine
end

