-- ==== Sys2Proof/Machine/MailOps.lean ====
section
/-!
DEFINITION. Fabric channels as this device uses them (R454, R455, R550): opening one, posting a command word, and the nozzle reports of
R398.
-/

namespace Sys2Proof.Machine

/-- An OPEN is sent to a node that holds no channel here, when one of the 64 is free (R454, R455). -/
def State.openChan (s : State) (n : NodeNo) : State :=
  if (s.fab.chanOf n).isSome ∨ 64 ≤ s.fab.channels.length then s
  else
    let k : FabChannel := { peer := n, session := s.fab.nextSession, st := .opening, sendSeq := 0, recvSeq := none
                            unacked := none, openSends := 1, outQ := [], taken := [], running := [], mask := 0
                            dropped := 0, posts := [], nextTag := 0 }
    let s1 := { s with fab := { s.fab with channels := s.fab.channels ++ [k], nextSession := s.fab.nextSession + 1 } }
    s1.fabSend 4 n [mailboxWord0 0 0 0 k.session, 0]

/-- The TAG of the next word posted on a channel: the first from nextTag on that no word outstanding holds (R520). -/
def FabChannel.freeTag (k : FabChannel) : BitVec 5 :=
  match (List.range 32).find? (fun i => !k.posts.any (fun p => p.peerTag == k.nextTag + BitVec.ofNat 5 i)) with
  | some i => k.nextTag + BitVec.ofNat 5 i
  | none => k.nextTag

/-- A command word is posted on the channel with a node (R532, R550). -/
def State.postPeer (s : State) (n : NodeNo) (opcode : Byte) (arg : BitVec 48) (asker : Option Cmd) (slot : Option Nat) : State :=
  match s.fab.chanOf n with
  | none => s
  | some k =>
    let t := k.freeTag
    (s.setFabChan n (fun k => { k with nextTag := t + 1, posts := k.posts ++ [⟨t, opcode, asker, slot⟩] })).pushFab n
      [word [arg.toNat, fld 51 5 t.toNat, fld 56 8 opcode.toNat]]

/-! ### Nozzle reports (R398, R399) -/

/-- The oldest report that waits for a node is posted while fewer than 32 words are outstanding there (R520). -/
def State.sendReport (s : State) (n : NodeNo) : State :=
  match s.health.reports.find? (fun r => r.1 == n), s.fab.chanOf n with
  | some r, some k =>
    if k.posts.length < 32 then
      ({ s with health := { s.health with reports := s.health.reports.erase r
                                          awaiting := s.health.awaiting ++ [(r.2.1, n)] } }).postPeer n 0x49 r.2.2 none (some r.2.1)
    else s
  | _, _ => s

/-- As many reports as may be outstanding are posted. -/
def State.sendReports (s : State) (n : NodeNo) : State := (List.range 32).foldl (fun s _ => s.sendReport n) s

/-- The reports of a slot go to a node; a node that no channel reaches gives no response (R399). -/
def State.report (s : State) (n : NodeNo) (slot : Nat) (args : List (BitVec 48)) : State :=
  let s1 := if s.fab.reaches n then s.openChan n else s
  if (s1.fab.chanOf n).isSome then
    ({ s1 with health := { s1.health with reports := s1.health.reports ++ args.map (fun a => (n, slot, a)) } }).sendReports n
  else { s1 with health := { s1.health with awaiting := s1.health.awaiting ++ [(slot, n)] } }

/-- A report is lost (R399). -/
def State.reportLost (s : State) (slot : Nat) (n : NodeNo) : State :=
  ({ s with health := { s.health with
      awaiting := s.health.awaiting.erase (slot, n)
      resend := s.health.resend ||| (1#8 <<< slot) } }).raiseF .nozzleReportLost [fld 0 3 slot, fld 3 12 n.toNat]

end Sys2Proof.Machine
end

