-- ==== Sys2Proof/Machine/FabricOps.lean ====
section
/-!
DEFINITION. Operations of the Canal fabric (15_canal_fabric.md): credit, the election, discovery, numbers and route tables at the root,
and the life of a channel.
-/

namespace Sys2Proof.Machine

/-- FRAME_ERR of a fabric lane (R425, R431). -/
def State.fabErr (s : State) (p : FabPort) : State :=
  s.setLane (fabLane p) (fun l => { l with frameErr := min 65535 (l.frameErr + 1) })

/-! ### The election (R440 to R443) -/

/-- Candidates of a node: itself when eligible, and each ACTIVE port's fresh ANNOUNCE (R441). -/
def State.candidates (s : State) : List Candidate :=
  (if s.fab.eligible then [⟨s.fab.id, 0, 0, none, s.fab.ownSeq⟩] else []) ++
  (List.finRange 32).filterMap (fun p =>
    match s.fabActive p, s.fab.ports[p].announce, s.fab.ports[p].neighbour with
    | true, some a, some nb => if a.fresh s.time.raw then some ⟨a.root, a.dist + 1, nb, some p, a.seq⟩ else none
    | _, _, _ => none)

/-- The highest SEQ received for a root (R440). -/
def State.seqOf (s : State) (root : Word) : BitVec 32 :=
  ((s.candidates.filter (fun c => c.root == root)).map (fun c => c.seq)).foldl (fun a b => if a < b then b else a) 0

/-- The view of the root as it now stands (R441). -/
def State.rootView (s : State) : Option (Word × Nat × Option FabPort × BitVec 32) :=
  (bestCandidate s.candidates).map (fun c => (c.root, c.dist, c.port, s.seqOf c.root))

/-- The three words of an ANNOUNCE; none while no root is known (R440). -/
def State.announceWords (s : State) : Option (List Word) :=
  match s.fab.root with
  | none => none
  | some (root, dist, port, seq) =>
    let up : Word := match port with | some p => s.fab.ports[p].neighbour.getD 0 | none => 0
    some [root, up, word [fld 0 6 dist, fld 32 32 seq.toNat]]

/-- ANNOUNCE on every ACTIVE port; the root counts it (R440). -/
def State.announceAll (s : State) : State :=
  let s1 := if s.fab.isRoot then
      { s with fab := { s.fab with ownSeq := s.fab.ownSeq + 1
                                   root := s.fab.root.map (fun r => (r.1, r.2.1, r.2.2.1, s.fab.ownSeq + 1)) } }
    else s
  match s1.announceWords with
  | none => s1
  | some ws => (List.finRange 32).foldl (fun s p =>
      if s.fabActive p then s.fabOut p 1 (frameWords 5 0 s.fab.node ws) else s) s1

/-- Ports that are tree ports: the root port, and those whose neighbour's root port leads here (R441). -/
def State.treePorts (s : State) : List FabPort :=
  (List.finRange 32).filter (fun p => s.fabActive p &&
    ((match s.fab.root with | some (_, _, some r, _) => r == p | _ => false) ||
     s.fab.ports[p].announce.any (fun a => a.upstream == s.fab.id)))

/-- The words of this node's REPORT (R443). -/
def State.reportWords (s : State) : List Word :=
  let ps := (List.finRange 32).filter (fun p => s.fabActive p)
  [s.fab.id,
   word [fld 0 12 s.fab.node.toNat, fld 12 12 s.fab.preferred.toNat, fld 24 1 (b2n s.fab.eligible), fld 32 32 s.fab.reportSeq.toNat],
   word [fld 0 32 ((ps.map (fun p => 2 ^ p.val)).sum)]] ++
  ps.map (fun p => s.fab.ports[p].neighbour.getD 0)

/-- A REPORT as the root reads it (R443). -/
def parseReport (ws : List Word) : NodeReport :=
  let mask := bits (wordAt ws 2) 31 0
  let ps := (List.range 32).filter (fun p => mask.testBit p)
  { id := wordAt ws 0, current := BitVec.ofNat 12 (bits (wordAt ws 1) 11 0)
    preferred := BitVec.ofNat 12 (bits (wordAt ws 1) 23 12), eligible := bitAt (wordAt ws 1) 24
    seq := BitVec.ofNat 32 (bits (wordAt ws 1) 63 32)
    links := ps.zipIdx.map (fun e => (e.1, wordAt ws (3 + e.2))) }

/-- The root keeps a REPORT (R443). -/
def State.keepReport (s : State) (r : NodeReport) : State :=
  { s with fab := { s.fab with reports := s.fab.reports.filter (fun q => q.id != r.id) ++ [r] } }

/-- This node sends REPORT (R443 step 3). -/
def State.sendFabReport (s : State) : State :=
  let ws := s.reportWords
  let s1 := { s with fab := { s.fab with reportSeq := s.fab.reportSeq + 1 } }
  if s.fab.isRoot then s1.keepReport (parseReport ws) else s1.fabSend 6 0 ws

/-- Two views name the same root at the same place. -/
def sameView : Option (Word × Nat × Option FabPort × BitVec 32) → Option (Word × Nat × Option FabPort × BitVec 32) → Bool
  | none, none => true
  | some a, some b => a.1 == b.1 && a.2.1 == b.2.1 && a.2.2.1 == b.2.2.1
  | _, _ => false

/-- The view is formed anew; a change is announced at once, and unsettles the election (R440, R441). -/
def State.reelect (s : State) : State :=
  let v := s.rootView
  let s1 := { s with fab := { s.fab with root := v } }
  if sameView s.fab.root v then s1 else ({ s1 with fab := { s1.fab with settled := false } }).announceAll

/-- A change of this node's ACTIVE ports or neighbours (R443). -/
def State.portsChanged (s : State) : State :=
  let s1 := s.reelect
  if s1.fab.settled then s1.sendFabReport else s1

/-- A fabric lane has entered ACTIVE: full credit on both sides (R432). -/
def State.fabUpLane (s : State) (p : FabPort) : State :=
  let z : Vector Nat 4 := Vector.replicate 4 0
  (s.setPort p (fun q => { q with sent := z, freed := z, got := z, given := z, told := z, announce := none, waiting := []
                                  rest0 := [], rest := [], due := [], slot := s.slotNow })).portsChanged

/-- A fabric lane has left ACTIVE: the frames that wait on it are lost (R444). -/
def State.fabLeft (s : State) (p : FabPort) : State :=
  let s1 := s.fab.ports[p].waiting.foldl (fun s f => s.fabFreed f.src f.cls f.words.length) s
  (s1.setPort p (fun q => { q with neighbour := none, announce := none, waiting := [], seen := false, capsSent := false
                                   rest0 := [], rest := [], due := [] })).portsChanged

/-- A CAPS pair leaves at once; no other block is sent in CAPS (R437). -/
def State.sendFabCaps (s : State) (p : FabPort) (seen : Bool) : State :=
  (s.emit (.fabBlock p (control (fabCaps s.fab.eligible p seen)))).emit (.fabBlock p (dataBlock s.fab.id))

/-- A fabric lane enters CAPS: the first CAPS block leaves (R437). -/
def State.fabCapsStart (s : State) (p : FabPort) : State :=
  (s.setPort p (fun q => { q with seen := false, capsSent := true })).sendFabCaps p false

/-! ### Numbers (R439, R445) -/

/-- The number a node takes from an ASSIGN (R445). -/
def State.takeNumber (s : State) (n : NodeNo) : State :=
  let pref := s.fab.preferred
  let root : NodeNo := match s.fab.root with
    | some (id, _, none, _) => if id = s.fab.id then n else 0
    | some (id, _, _, _) => (match s.fab.assigns.find? (fun a => a.1 == id) with | some a => a.2 | none => 0)
    | none => 0
  let s1 := ({ s with fab := { s.fab with node := n } }).raiseF .fabricNodeAssigned
    [fld 0 12 n.toNat, fld 12 12 root.toNat, fld 24 1 (b2n (n != pref))]
  if pref ≠ 0 ∧ n ≠ pref then s1.raiseF .fabricNumberConflict [fld 0 12 pref.toNat, fld 12 12 n.toNat] else s1

/-- An ASSIGN is learnt; one that names this device gives it its number (R444, R445). -/
def State.learnAssign (s : State) (id : Word) (n : NodeNo) : State :=
  let s1 := { s with fab := { s.fab with assigns := s.fab.assigns.filter (fun a => a.1 != id && a.2 != n) ++ [(id, n)] } }
  if id = s.fab.id then s1.takeNumber n else s1

/-- Nodes the root reaches, by identity (R445, R449). -/
def State.reachable (s : State) : List NodeReport :=
  let seen := bfs s.fab.reports s.fab.id (s.fab.reports.length + 1) [s.fab.id] [(s.fab.id, 0, 0)]
  sortBy (fun a b => decide (a.id ≤ b.id)) (s.fab.reports.filter (fun r => seen.any (fun x => x.1 == r.id)))

/-- Step 1 of R445: a CURRENT number held by no other node is kept; a tie goes to the lower identity. -/
def keepCurrent (reserved : List (Word × NodeNo)) (rs : List NodeReport) : List (Word × NodeNo) :=
  rs.foldl (fun (m : List (Word × NodeNo)) (r : NodeReport) =>
    if r.current ≠ 0 ∧ !m.any (fun a => a.2 == r.current) ∧ !reserved.any (fun a => a.2 == r.current && a.1 != r.id)
    then m ++ [(r.id, r.current)] else m) []

/-- Step 2 of R445: PREFERRED where it is free or held only by a node of higher identity. -/
def givePreferred (reserved : List (Word × NodeNo)) (rs : List NodeReport) (m : List (Word × NodeNo)) : List (Word × NodeNo) :=
  rs.foldl (fun (m : List (Word × NodeNo)) (r : NodeReport) =>
    if m.any (fun a => a.1 == r.id) || r.preferred == 0 then m
    else match (m ++ reserved).find? (fun (a : Word × NodeNo) => a.2 == r.preferred && a.1 != r.id) with
      | none => m ++ [(r.id, r.preferred)]
      | some h => if r.id < h.1 then m.filter (fun (a : Word × NodeNo) => a.2 != r.preferred) ++ [(r.id, r.preferred)] else m) m

/-- Step 3 of R445: the lowest free number from 0x800. -/
def giveFree (reserved : List (Word × NodeNo)) (rs : List NodeReport) (m : List (Word × NodeNo)) : List (Word × NodeNo) :=
  rs.foldl (fun (m : List (Word × NodeNo)) (r : NodeReport) =>
    if m.any (fun a => a.1 == r.id) then m
    else match (List.range 2047).find? (fun i => !(m ++ reserved).any (fun a => a.2.toNat == 2048 + i)) with
      | some i => m ++ [(r.id, BitVec.ofNat 12 (2048 + i))]
      | none => m) m

/-- Numbers that departed nodes hold for 10 s (R445). -/
def State.reservedNumbers (s : State) (rs : List NodeReport) : List (Word × NodeNo) :=
  (s.fab.held.filter (fun h => !rs.any (fun r => r.id == h.id) &&
    (match h.left with | some t => decide ((s.time.raw - t).toNat < 10000000000) | none => true))).map (fun h => (h.id, h.node))

/-- The numbers of the nodes the root reaches (R445). -/
def State.numberNodes (s : State) (rs : List NodeReport) : List (Word × NodeNo) :=
  let res := s.reservedNumbers rs
  giveFree res rs (givePreferred res rs (keepCurrent res rs))

/-- The root holds the numbers, and those of nodes that have left (R445). -/
def State.holdNumbers (s : State) (rs : List NodeReport) (m : List (Word × NodeNo)) : State :=
  let gone := (s.fab.held.filter (fun h => !rs.any (fun r => r.id == h.id))).filterMap (fun h =>
    match h.left with
    | some t => if (s.time.raw - t).toNat < 10000000000 then some h else none
    | none => some { h with left := some s.time.raw })
  { s with fab := { s.fab with held := m.map (fun a => ⟨a.1, a.2, none⟩) ++ gone } }

/-- ASSIGN for each new or changed number, broadcast on the tree and learnt here (R443 step 5, R444). -/
def State.assignAll (s : State) (m : List (Word × NodeNo)) : State :=
  m.foldl (fun s a =>
    if s.fab.assigns.contains a then s
    else
      let ws := frameWords 7 0xFFF s.fab.node [a.1, word [a.2.toNat]]
      (s.treePorts.foldl (fun s p => s.fabOut p 1 ws) s).learnAssign a.1 a.2) s

/-! ### Route tables (R447 to R449) -/

/-- A chunk of a table as ROUTES data (R448). -/
def routesData (g : RouteGrant) (chunk : Nat) : List Word :=
  word [fld 0 32 g.gen.toNat, fld 32 4 chunk] :: (List.range 64).map (fun i => wordAt g.table (64 * chunk + i))

/-- A table in force (R443 step 7, R448). -/
def State.applyTable (s : State) (gen : BitVec 32) (table : List Word) : State :=
  ({ s with fab := { s.fab with table := table, gen := gen, partialGen := none } }).raiseF .fabricRoutesApplied [gen.toNat]

/-- The root sends a table to its node, along the tree (R444, R448). -/
def State.sendTable (s : State) (g : RouteGrant) : State :=
  match s.fab.assigns.find? (fun a => a.1 == g.id), s.fab.arrivals.find? (fun a => a.1 == g.id) with
  | some a, some q => (List.range 16).foldl (fun s c => s.fabOut q.2 1 (frameWords 8 a.2 s.fab.node (routesData g c))) s
  | _, _ => s

/-- One node's table is computed anew; a changed table takes the new GEN and is sent, or applied here (R443 step 6, R449). -/
def State.grantTable (s : State) (gen : BitVec 32) (m : List (Word × NodeNo)) (id : Word) : State :=
  let t := routeTable s.fab.reports (fun i => (m.find? (fun a => a.1 == i)).map (·.2)) id
  if s.fab.grants.any (fun g => g.id == id && g.table == t) then s
  else
    let g : RouteGrant := { id := id, gen := gen, table := t, acked := id == s.fab.id }
    let s1 := { s with fab := { s.fab with grants := s.fab.grants.filter (fun (x : RouteGrant) => x.id != id) ++ [g], genOut := gen } }
    if id = s.fab.id then s1.applyTable gen t else s1.sendTable g

/-- The root assigns numbers and computes tables (R443 steps 5 and 6). -/
def State.computeRoutes (s : State) : State :=
  let rs := s.reachable
  let m := s.numberNodes rs
  let s1 := (s.holdNumbers rs m).assignAll m
  let s2 := rs.foldl (fun s r => if m.any (fun a => a.1 == r.id) then s
    else s.raise .fabricNumbersExhausted (low40 r.id.toNat)) s1
  rs.foldl (fun s r => s.grantTable (s1.fab.genOut + 1) m r.id) s2

/-! ### Channels (R455, R456) -/

/-- The askers of posted commands are answered, and the channel is gone with the transfers offered on it (R455, R550). -/
def State.dropChan (s : State) (n : NodeNo) (st : Code) (result : Nat) : State :=
  match s.fab.chanOf n with
  | none => s
  | some k =>
    let s1 := { s with fab := { s.fab with channels := s.fab.channels.filter (fun x => x.peer != n)
                                           bulkOut := s.fab.bulkOut.filter (fun b => b.dest != n) } }
    k.posts.foldl (fun s p => match p.asker with
      | some x => s.answer x 0x71 st (low40 result)
      | none => s) s1

/-- A channel is aborted: 1 unknown session, 2 no ack (R455). -/
def State.abortChan (s : State) (n : NodeNo) (cause : Nat) : State :=
  (s.dropChan n .fabricChannelAborted (n.toNat + 4096 * cause)).raiseF .fabricChannelAborted [fld 0 12 n.toNat, fld 12 2 cause]

/-- A channel closes without an error. The cause field of an asker's FABRIC_CHANNEL_ABORTED is then free (log 5). -/
def State.closeChan (s : State) (n : NodeNo) : State :=
  s.drew.dropChan n .fabricChannelAborted (n.toNat + 4096 * (s.free.toNat % 4))

/-- An ACK of a channel (R454). -/
def State.mailAck (s : State) (n : NodeNo) (status : Nat) (seq : Byte) (session : BitVec 32) : State :=
  s.fabSend 4 n [mailboxWord0 2 status seq session, 0]

/-- A command is posted to a peer by PEER_POST or by this device, on a channel opened for it; the outcome where it cannot be (R454,
R455, R550). -/
def State.peerCheck (s : State) (n : NodeNo) : Option Resp :=
  if !s.fab.reaches n then resp .nodeUnreachable n.toNat
  else if (s.fab.chanOf n).isNone ∧ 64 ≤ s.fab.channels.length then resp .noChannel n.toNat
  else none

end Sys2Proof.Machine
end

