-- ==== Sys2Proof/Machine/Lanes.lean ====
section
/-!
DEFINITION. Meanings of the serial lanes' commands (14_serial_lanes.md).
-/

namespace Sys2Proof.Machine

/-! ### Roles of lanes (R22, R24, R407) -/

/-- A vendor lane: a fitted head or fabric lane. -/
def LaneState.vendor (l : LaneState) : Bool := l.role == .head || l.role == .fabric

/-- The head port of a lane (R22). -/
def headOfLane (n : LaneNo) : Option HeadPort := if h : n.val < 32 then some ⟨n.val, h⟩ else none

/-- The fabric port of a lane (R22). -/
def fabOfLane (n : LaneNo) : Option FabPort := if n.val < 32 then none else some (Fin.ofNat 32 (n.val - 32))

/-- The camera port of a lane (R22). -/
def camOfLane (n : LaneNo) : CamNo := Fin.ofNat 4 ((n.val - 48) / 2)

/-- A lane of G6 in its camera role (R22, R23). -/
def State.cameraLane (s : State) (n : LaneNo) : Bool := decide (48 ≤ n.val ∧ n.val < 56) && s.camExists

/-- A vendor lane has left ACTIVE (R303, R419). -/
def State.laneLeft (s : State) (n : LaneNo) (was : LaneState) : State :=
  if was.st != .active then s
  else match was.role with
    | .head => (match headOfLane n with | some p => s.headLeft p | none => s)
    | .fabric => (match fabOfLane n with | some p => s.fabLeft p | none => s)
    | _ => s

/-! ### Bring-up (R416 to R419) -/

/-- A lane begins an attempt in TRAIN with the polarity of its table entry (R413, R416). -/
def State.laneTrain (s : State) (n : LaneNo) : State :=
  (s.setLane n (fun l => { l with st := .train, detections := 0, inverted := false, tried := false, blockLock := false
                                  lockRun := 0, readyRun := 0 })).emit (.training n 1)

/-- A lane goes to DETECT with its backoff position at the start (R419). -/
def State.laneDetect (s : State) (n : LaneNo) : State :=
  let was := s.lanes.lanes[n]
  (s.setLane n (fun l => { l with st := .detect, detections := 0, backoff := 0, blockLock := false, lockRun := 0
                                  readyRun := 0 })).laneLeft n was

/-- A state that can fail, as R421 numbers it. -/
def LaneSt.failCode : LaneSt → Option Nat
  | .train => some 1 | .lock => some 2 | .caps => some 3 | _ => none

/-- An attempt fails: the lane waits, with LINK_TRAIN_FAIL at the first failure of a backoff cycle (R418, R421). -/
def State.laneFail (s : State) (n : LaneNo) (cause : Nat) : State :=
  let l := s.lanes.lanes[n]
  match l.st.failCode with
  | none => s
  | some k =>
    let first : Bool := l.backoff == 0 || decide (11 ≤ l.backoff)
    let s1 := s.setLane n (fun l => { l with st := .wait, trainFails := min 65535 (l.trainFails + 1), blockLock := false
                                             backoff := if first then 1 else l.backoff + 1 })
    if first then s1.raiseF .linkTrainFail [fld 0 6 n.val, fld 6 3 k, fld 9 3 cause, fld 12 1 (b2n l.tried)] else s1

/-- A lane enters CAPS (R416). -/
def State.laneCaps (s : State) (n : LaneNo) : State :=
  let s1 := s.setLane n (fun l => { l with st := .caps })
  match s.lanes.lanes[n].role with
  | .head => (match headOfLane n with | some p => s1.headCaps p | none => s1)
  | .fabric => (match fabOfLane n with | some p => s1.fabCapsStart p | none => s1)
  | _ => s1

/-- RECEIVER_DETECT_PULSE (R416, R418). -/
def execReceiverDetectPulse (lane : LaneNo) (found : Bool) (s : State) : Out :=
  let l := s.lanes.lanes[lane]
  if l.st != .detect || !l.vendor then s.done
  else
    let s1 := s.emit (.detectPulse lane)
    if !found then (s1.setLane lane (fun l => { l with detections := 0, backoff := 0 })).done
    else if l.detections = 0 then (s1.setLane lane (fun l => { l with detections := 1 })).done
    else (s1.laneTrain lane).done

/-- What a block with a sync header is: a training block with its STATE, and whether it is of inverted polarity (R415). -/
def trainingOf (sync : BitVec 2) (block : Word) : Option (Bool × Nat) :=
  if sync = 2 ∧ bits block 7 0 = 0x0E ∧ bits block 63 16 = 0x96A53C0FF0C3 then some (false, bits block 11 8)
  else if sync = 1 ∧ bits block 7 0 = 0xF1 ∧ bits block 63 16 = 0x695AC3F00F3C then some (true, 15 - bits block 11 8)
  else none

/-- Training blocks in LOCK (R416, R417): block lock at 64 in a row, an inversion at most once per attempt, and CAPS once the partner has
shown STATE 3 in 16 blocks. -/
def State.lockBlocks (s : State) (n : LaneNo) (inv : Bool) (st count : Nat) : State :=
  let l := s.lanes.lanes[n]
  let run := min 64 (l.lockRun + count)
  let ready := if inv || st != 3 then 0 else min 16 (l.readyRun + count)
  if run = 64 && inv && !l.blockLock then
    if l.tried then s.setLane n (fun l => { l with lockRun := 64, readyRun := 0 })
    else s.setLane n (fun l => { l with inverted := !l.inverted, tried := true, lockRun := 0, readyRun := 0 })
  else
    let lock : Bool := l.blockLock || run == 64
    let s1 := s.setLane n (fun l => { l with lockRun := run, readyRun := ready, blockLock := lock })
    let s2 := if lock && !l.blockLock then s1.emit (.training n 3) else s1
    if lock && ready == 16 then s2.laneCaps n else s2

/-- TRAINING_BLOCK (R415 to R419): count blocks alike in a row. 243 blocks of 66 bits at 16.0 Gbit/s last 1 µs. -/
def execTrainingBlock (lane : LaneNo) (sync : BitVec 2) (block : Word) (count : Nat) (s : State) : Out :=
  let l := s.lanes.lanes[lane]
  match trainingOf sync block with
  | none =>
    if l.st = .lock ∧ 0 < count then (s.setLane lane (fun l => { l with lockRun := 0, readyRun := 0 })).done else s.done
  | some (inv, st) =>
    if !l.vendor || count == 0 then s.done
    else match l.st with
      | .detect => if 243 ≤ count then (s.laneTrain lane).done else s.done
      | .wait =>
        if 243 ≤ count then
          ((s.setLane lane (fun l => { l with backoff := if 11 ≤ l.backoff then 0 else l.backoff })).laneTrain lane).done
        else s.done
      | .lock => (s.lockBlocks lane inv st count).done
      | .active => (s.laneDetect lane).done
      | _ => s.done

/-- CDR_LOCK (R416). -/
def execCdrLock (lane : LaneNo) (s : State) : Out :=
  if s.lanes.lanes[lane].st = .train then
    ((s.setLane lane (fun l => { l with st := .lock, lockRun := 0, readyRun := 0, blockLock := false })).emit (.training lane 2)).done
  else s.done

/-- LANE_STATE_TIMEOUT (R416, R418). -/
def execLaneStateTimeout (lane : LaneNo) (s : State) : Out := (s.laneFail lane 1).done

/-- ELECTRICAL_IDLE for 10 µs (R418, R419). -/
def execElectricalIdle (lane : LaneNo) (s : State) : Out :=
  if s.lanes.lanes[lane].st = .active then (s.laneDetect lane).done else (s.laneFail lane 2).done

/-- BACKOFF_WAIT_END (R418): after the eleventh wait a new cycle begins. -/
def execBackoffWaitEnd (lane : LaneNo) (s : State) : Out :=
  if s.lanes.lanes[lane].st = .wait then
    (s.setLane lane (fun l => { l with st := .detect, detections := 0, backoff := if 11 ≤ l.backoff then 0 else l.backoff })).done
  else s.done

/-- BLOCK_LOCK_LOSS (R417, R419, R425). -/
def execBlockLockLoss (lane : LaneNo) (s : State) : Out :=
  let l := s.lanes.lanes[lane]
  if !l.vendor || !l.blockLock then s.done
  else
    let s1 := s.setLane lane (fun l => { l with lockLoss := min 255 (l.lockLoss + 1), blockLock := false, lockRun := 0, readyRun := 0 })
    if l.st = .active then (s1.laneDetect lane).done
    else if l.st = .lock then (s1.emit (.training lane 2)).done else s1.done

/-- A lane whose errors are counted here: a vendor lane whose receiver is on, or a camera lane (R425). -/
def LaneState.counts (l : LaneState) : Bool := (l.vendor && l.st != .down) || l.role == .camera

/-- LANE_ERRORS (R425, R426): what a lane's receiver has counted within 125 µs. An episode of an ACTIVE vendor lane ends after 10 ms
without an invalid header. -/
def execLaneErrors (lane : LaneNo) (count : LaneCounts) (s : State) : Out :=
  let l := s.lanes.lanes[lane]
  let elastic := count.elastic
  let count := count.invalid
  if !l.counts || (count == 0 && elastic == 0) then s.done
  else
    let openEp := count != 0 && l.errEp.any (fun t => decide ((s.time.raw - t).toNat < 10000000))
    let begins := l.vendor && l.st == .active && !openEp && decide (16 ≤ count.toNat)
    let s1 := s.setLane lane (fun l => { l with
      codeErr := min 65535 (l.codeErr + count.toNat), elastic := min 255 (l.elastic + elastic.toNat)
      errEp := if count = 0 then l.errEp else if openEp || begins then some s.time.raw else none })
    if begins then (s1.raiseF .laneErrors [fld 0 6 lane.val, fld 6 16 count.toNat]).done else s1.done

/-! ### LANE_CONTROL and LOOPBACK (R420, R422 to R424) -/

/-- RESULT of LANE_CONFIG_BAD. -/
def laneBad (n : LaneNo) (reason : Nat) : Option Resp := resp .laneConfigBad (reason + 256 * n.val)

/-- A loopback test ends with its response (R424). -/
def State.loopAnswer (s : State) (n : LaneNo) (r : LoopbackResult) : State :=
  match s.lanes.lanes[n].test with
  | none => s
  | some t =>
    let s1 := s.setLane n (fun l => { l with test := none })
    let d := low40 (min 16777215 r.bitErrors + fld 24 1 (b2n (!r.gained)) + fld 25 1 (b2n r.lost))
    if t.mode = 3 then s1.respond t.origin t.opcode t.tag .ok 0
    else s1.respond t.origin t.opcode t.tag (if r.bitErrors = 0 && r.gained && !r.lost then .ok else .loopbackFail) d

/-- LANE_CONTROL (R420). A loopback that is cut short loses block lock; what its checker had counted is free (log 5). -/
def cmdLaneControl (x : Cmd) (s : State) : State × Option Resp :=
  let n : LaneNo := Fin.ofNat 64 (x.argBits 5 0)
  let on := x.argBits 6 6 == 1
  let l := s.lanes.lanes[n]
  if !on && l.role == .head && s.print.started then (s, resp .laneBusy n.val)
  else if !l.vendor then (s, laneBad n 3)
  else if on then
    (s.setLane n (fun l => { l with enabled := true, st := if l.st = .down then .detect else l.st }), okResp)
  else
    let s1 := (s.setLane n (fun l => { l with enabled := false, st := .down, backoff := 0, detections := 0, blockLock := false })).laneLeft n l
    (s1.drew.loopAnswer n ⟨s.free.toNat % 16777216, bitAt s.free 24, true⟩, okResp)

/-- LANE_CONTROL (R420). -/
def execLaneControl (x : Cmd) (s : State) : Out := (runCommand 0xD0 false false cmdLaneControl x s).done

/-- A loopback is refused for the lane as a whole (R423): PCIe lanes, head lanes while printing, lanes of an enabled camera port, and a
lane whose test still runs. -/
def State.loopBusy (s : State) (n : LaneNo) : Bool :=
  let l := s.lanes.lanes[n]
  l.role == .pcie || (l.role == .head && s.print.started) || (s.cameraLane n && s.cam.ports[camOfLane n].direct.enable) ||
  l.test.isSome || l.st == .loopback

/-- A mode permitted for the lane (R422). -/
def State.permits (s : State) (n : LaneNo) (mode : Nat) : Bool :=
  if s.lanes.lanes[n].vendor then decide (1 ≤ mode) && decide (mode ≤ 4) else s.cameraLane n && (mode == 1 || mode == 2)

/-- LOOPBACK (R422, R423). -/
def cmdLoopback (x : Cmd) (s : State) : State × Option Resp :=
  let n : LaneNo := Fin.ofNat 64 (x.argBits 5 0)
  let mode := x.argBits 8 6
  let ms := x.argBits 24 9
  let l := s.lanes.lanes[n]
  if s.loopBusy n then (s, resp .laneBusy n.val)
  else if !s.permits n mode then (s, laneBad n 1)
  else if ms = 0 ∨ 60000 < ms then (s, laneBad n 2)
  else
    let t : LoopTest := { mode := mode, origin := x.origin, tag := x.tag, opcode := 0xD1 }
    let s1 := s.setLane n (fun l => { l with test := some t, st := if l.vendor then .loopback else l.st
                                             detections := 0, backoff := 0, blockLock := false })
    (s1.laneLeft n l, none)

/-- LOOPBACK (R422). -/
def execLoopback (x : Cmd) (s : State) : Out := (runCommand 0xD1 false false cmdLoopback x s).done

/-- LOOPBACK_END (R423, R424): the lane returns to DETECT with its backoff position at the start. -/
def execLoopbackEnd (lane : LaneNo) (r : LoopbackResult) (s : State) : Out :=
  if s.lanes.lanes[lane].test.isNone then s.done
  else
    ((s.loopAnswer lane r).setLane lane (fun l =>
      if l.vendor then { l with st := .detect, detections := 0, backoff := 0 } else l)).done

end Sys2Proof.Machine
end

