-- ==== Sys2Proof/Machine/TimeOps.lean ====
section
/-!
DEFINITION. Operations of the timebase and of network time (17_timebase_and_network_time.md): steps, rate changes, compare triggers and
the time master.
-/

namespace Sys2Proof.Machine

/-! ### Steps and rate changes (R494 to R496) -/

/-- A signed 64-bit value. -/
def wrap64 (v : Int) : Int := (BitVec.ofInt 64 v).toInt

/-- The greatest RATE (R494). -/
def rateLimit : Int := 2147484

/-- A value held within a bound either way. -/
def clampTo (bound v : Int) : Int := max (-bound) (min bound v)

/-- A rate change (R495). -/
def State.setRate (s : State) (rate : Int) : State :=
  let t := s.time
  { s with time := { t with offset := wrap64 (t.offset + (t.rate * ((t.raw.toNat : Int) - t.epoch.toNat)) / 4294967296)
                            epoch := t.raw
                            rate := clampTo rateLimit rate } }

/-- A step of OFFSET by a number of ns: triggers it passes are late (R496, R498). -/
def State.stepTime (s : State) (n : Int) : State :=
  if n = 0 then s
  else
    let was := s.now
    let s1 : State := { s with time := { s.time with offset := wrap64 (s.time.offset + n) } }
    let now := s1.now
    let trigs := s1.time.triggers.map (fun (c : CmpTrigger) =>
      { c with passed := decide ((c.value : Int) ≤ now) && (c.passed || decide (was < c.value)) })
    ({ s1 with time := { s1.time with triggers := trigs } }).raiseF .timeStepped [fldI 0 40 (clampTo (2 ^ 39 - 1) n)]

/-- A step may be made: backward only while printing is stopped (R496). -/
def State.mayStep (s : State) (n : Int) : Bool := decide (0 ≤ n) || !s.print.started

/-! ### The time master (R500) -/

/-- This device is the time master: TIME_MASTER names it, or names the root and it is the root (R500). -/
def State.isMaster (s : State) : Bool :=
  if s.time.master = 0 then s.fab.isRoot else s.time.master == s.fab.node

/-- Node number of the time master; 0 while none is known (R500, R506). -/
def State.timeMaster (s : State) : NodeNo :=
  if s.time.master ≠ 0 then s.time.master
  else match s.fab.root with
    | none => 0
    | some (id, _, _, _) =>
      if id = s.fab.id then s.fab.node
      else match s.fab.assigns.find? (fun a => a.1 == id) with | some a => a.2 | none => 0

/-- A device that has become the master raises TIME_LOCKED; one that no longer is the master is FREE (R500). -/
def State.masterCheck (s : State) : State :=
  if s.isMaster then
    if s.time.sync = .master then s
    else ({ s with time := { s.time with sync := .master, best := none, goodSecs := 0 } }).raiseF .timeLocked
      [fld 0 12 s.timeMaster.toNat, fld 12 1 1]
  else if s.time.sync = .master then { s with time := { s.time with sync := .free } }
  else s

/-! ### Compare triggers (R497 to R499) -/

/-- A trigger changed. -/
def State.setCmp (s : State) (n : CmpNo) (f : CmpTrigger → CmpTrigger) : State :=
  { s with time := { s.time with triggers := upd s.time.triggers n f } }

/-- Detail of TB_TRIGGER_LATE and TB_TRIGGER_MISSED (R499). -/
def triggerDetail (n : CmpNo) (value : Nat) : List Nat := [fld 0 3 n.val, fld 3 37 value]

/-- A trigger after it has fired at time T: a single one is disarmed, a periodic one moves on to the first value above T by whole
PERIODs (R497). -/
def CmpTrigger.next (c : CmpTrigger) (now : Int) : CmpTrigger :=
  let d := { c with passed := false, fired := c.fired + 1, late := c.late || c.passed }
  if c.period = 0 then { d with armed := false }
  else { d with value := c.value + ((now - c.value).toNat / c.period + 1) * c.period }

/-- Rounding of a half: to either side, free (log 25). -/
def State.half (s : State) (v2 : Int) : Int := v2 / 2 + (if v2 % 2 = 0 then 0 else ((s.free.toNat % 2 : Nat) : Int))

end Sys2Proof.Machine
end

