-- ==== Sys2Proof/Machine/Fabric.lean ====
section
/-!
DEFINITION. Meanings of the Canal fabric's commands (15_canal_fabric.md), with the fabric commands of R545.
-/

namespace Sys2Proof.Machine

/-! ### FABRIC_FRAME (R428 to R431, R442, R444) -/

/-- The oldest frame delivered with a KIND and data is taken by firmware (R444). -/
def State.takeFrame (s : State) (kind : Nat) (data : List Word) : State :=
  match s.fab.inbox.find? (fun f => bits f.2.1 13 10 == kind && f.2.2 == data) with
  | some f => { s with fab := { s.fab with inbox := s.fab.inbox.erase f } }
  | none => s

/-- What a node does with a frame by DEST and KIND (R444). -/
inductive FrameFate where
  /-- delivered here -/
  | deliver
  /-- sent on a port -/
  | forward (p : FabPort)
  /-- sent as the route table says -/
  | route
  /-- delivered, and sent on every other tree port -/
  | broadcast
  | discard
deriving DecidableEq, Repr

/-- The fate of a frame (R442, R444). A REPORT on its way to the root is handed to firmware, which records and forwards it (R443). -/
def State.fate (s : State) (dest : NodeNo) (kind : Nat) : FrameFate :=
  if kind ≠ 5 ∧ s.fab.root.isNone = true then .discard
  else if dest ≠ 0 ∧ dest = s.fab.node then .deliver
  else if kind = 5 then (if dest = 0 then .deliver else .discard)
  else if dest = 0 then
    if kind = 6 then .deliver
    else if kind = 9 then
      if s.fab.isRoot then .deliver
      else match s.fab.root with | some (_, _, some p, _) => .forward p | _ => .discard
    else .discard
  else if dest = 0xFFF then (if kind = 7 then .broadcast else .discard)
  else if kind = 8 then
    match s.fab.assigns.find? (fun a => a.2 == dest) with
    | some a => (match s.fab.arrivals.find? (fun r => r.1 == a.1) with | some r => .forward r.2 | none => .discard)
    | none => .discard
  else .route

/-- The fate calls for a forward (R431 step 4). -/
def FrameFate.forwards : FrameFate → Bool
  | .forward _ | .route | .broadcast => true
  | _ => false

/-- DEST calls for a forward of a frame of a KIND (R431 step 4): a REPORT leaves this node again unless it is the root (R443, R444). -/
def State.leavesAgain (s : State) (fate : FrameFate) (dest : NodeNo) (kind : Nat) : Bool :=
  fate.forwards || (fate == .deliver && dest == 0 && kind == 6 && !s.fab.isRoot)

/-- The frame passes steps 1 and 2 of R431, and is whole (R428). -/
def frameSound (f : FabFrame) : Bool :=
  let kind := bits f.header 13 10
  let cls := bits f.header 9 8
  let len := bits f.header 52 44
  bits f.header 63 56 == headCheck f.header && bits f.header 55 53 == 0 && bits f.trailer 7 0 == 0xAF &&
  kindClass kind == some cls && decide (len ≤ classLength cls) && f.data.length == len

/-- A frame whose checks pass, or a class 0 frame to be forwarded with BAD set (R431 step 5), takes its way. -/
def State.frameGoes (s : State) (p : FabPort) (f : FabFrame) (cls : Fin 4) (fate : FrameFate) (bad : Bool) : State :=
  let n := f.data.length + 2
  let ws := forwardWords f bad
  let here (s : State) : State := { s with fab := { s.fab with inbox := s.fab.inbox ++ [(p, f.header, f.data)] } }
  match fate with
  | .deliver => (here s).fabFreed (some p) cls n
  | .forward q => s.fabOutFrom (some p) q cls ws
  | .route => s.fabRoute (some p) cls (BitVec.ofNat 12 (bits f.header 31 20)) ws
  | .broadcast =>
    let s1 := (s.treePorts.filter (fun q => q != p)).foldl (fun s q => s.fabOut q cls ws) s
    (here s1).fabFreed (some p) cls n
  | .discard => s.fabFreed (some p) cls n

/-- FABRIC_FRAME (R431): the checks in order. A control block of another TYPE opens no frame (R428). -/
def execFabricFrame (p : FabPort) (f : FabFrame) (s : State) : Out :=
  if !s.fabActive p || bits f.header 7 0 != 0xA0 then s.done
  else if !frameSound f then (s.fabErr p).done
  else
    let cls : Fin 4 := Fin.ofNat 4 (bits f.header 9 8)
    let n := f.data.length + 2
    if s.fab.ports[p].exceeds cls n then (s.fabErr p).done
    else
      let s1 := s.setPort p (fun q => { q with got := upd q.got cls (fun g => (g + n) % 4096) })
      let dest : NodeNo := BitVec.ofNat 12 (bits f.header 31 20)
      let fate := s1.fate dest (bits f.header 13 10)
      let crcBad := bitAt f.trailer 8 || bits f.trailer 63 32 != (frameCrc f.header f.data).toNat
      if s1.leavesAgain fate dest (bits f.header 13 10) && bits f.header 19 14 == 0 then ((s1.fabErr p).fabFreed (some p) cls n).done
      else if crcBad && !(cls == 0 && fate.forwards) then ((s1.fabErr p).fabFreed (some p) cls n).done
      else ((s1.frameGoes p f cls fate crcBad)).done

/-! ### CREDIT and CREDIT_SEND (R433) -/

/-- CREDIT (R433): a block with a wrong check is ignored. -/
def execCredit (p : FabPort) (block : Word) (s : State) : Out :=
  if !s.fabActive p then s.done
  else match parseCredit block with
    | some v => ((s.fabSlots p).setPort p (fun q => { q with freed := v })).done
    | none => s.done

/-- CREDIT_SEND (R433): a CREDIT is due. -/
def execCreditSend (p : FabPort) (s : State) : Out :=
  if s.fabActive p then
    ((s.fabSlots p).setPort p (fun q => { q with told := q.given, due := q.due ++ [control (creditBlock q.given)] })).done
  else s.done

/-! ### FABRIC_CAPS (R437, R438) -/

/-- A fabric lane completes its exchange and enters ACTIVE (R416, R432, R437). -/
def State.fabReady (s : State) (p : FabPort) : State :=
  (s.setLane (fabLane p) (fun l => { l with st := .active, backoff := 0, detections := 0 })).fabUpLane p

/-- FABRIC_CAPS (R437, R438): a CAPS of this device's own identity shows a loop. -/
def execFabricCaps (p : FabPort) (control data : Word) (s : State) : Out :=
  let l := s.lanes.lanes[fabLane p]
  if l.role != .fabric || l.st != .caps || bits control 7 0 != 0xC0 then s.done
  else if data = s.fab.id then
    let s1 := s.laneDetect (fabLane p)
    let s2 := s1.setPort p (fun q => { q with loopTold := true })
    if s.fab.ports[p].loopTold then s2.done else (s2.raiseF .fabricLoop [fld 0 6 (32 + p.val)]).done
  else
    let s1 := (s.setPort p (fun q => { q with neighbour := some data, seen := true, capsSent := true })).sendFabCaps p true
    if bitAt control 14 then (s1.fabReady p).done else s1.done

/-! ### The election (R440 to R443) -/

/-- ANNOUNCE (R441): SEQ counts as advanced when it exceeds the last one of the same root on the port. -/
def execAnnounce (p : FabPort) (w0 w1 w2 : Word) (s : State) : Out :=
  let s := s.takeFrame 5 [w0, w1, w2]
  if !s.fabActive p then s.done
  else
    let seq := BitVec.ofNat 32 (bits w2 63 32)
    let seqAt := match s.fab.ports[p].announce with
      | some a => if a.root = w0 ∧ seq ≤ a.seq then a.seqAt else s.time.raw
      | none => s.time.raw
    let a : Announce := { root := w0, upstream := w1, dist := bits w2 5 0, seq := seq, at_ := s.time.raw, seqAt := seqAt }
    ((s.setPort p (fun q => { q with announce := some a })).reelect).done

/-- ANNOUNCE_SEND (R440). -/
def execAnnounceSend (s : State) : Out :=
  let s1 := { s with fab := { s.fab with root := s.rootView, settled := s.fab.settled && sameView s.fab.root s.rootView } }
  s1.announceAll.done

/-- ELECTION_SETTLED (R443, R500 steps 2 and 3). -/
def execElectionSettled (s : State) : Out :=
  match s.fab.root with
  | none => s.done
  | some (id, dist, _, _) =>
    let node : NodeNo := if id = s.fab.id then s.fab.node
      else match s.fab.assigns.find? (fun a => a.1 == id) with | some a => a.2 | none => 0
    let s1 := { s with fab := { s.fab with settled := true, rootTold := some id } }
    let s2 := if s.fab.rootTold = some id then s1 else s1.raiseF .fabricRootChanged [fld 0 12 node.toNat, fld 12 6 dist]
    let s3 := s2.masterCheck
    if s.fab.settled then s3.done else s3.sendFabReport.done

/-- FABRIC_NO_ROOT (R442). -/
def execFabricNoRoot (s : State) : Out :=
  if s.fab.root.isNone && !s.fab.noRootTold && (List.finRange 32).any (fun p => s.fabActive p) then
    ({ s with fab := { s.fab with noRootTold := true } }.raise .fabricNoRoot 0).done
  else s.done

/-! ### Discovery (R443 to R448) -/

/-- REPORT (R443 steps 3 and 4): the arrival port is recorded; the root keeps the report, another node sends it on its root port with the
header it came with. Without that header SRC is the reporter's CURRENT, and TTL is free (log 5). -/
def execReport (p : FabPort) (words : List Word) (s : State) : Out :=
  let hdr := (s.fab.inbox.find? (fun f => bits f.2.1 13 10 == 6 && f.2.2 == words)).map (fun f => f.2.1)
  let s1 := s.takeFrame 6 words
  let r := parseReport words
  let s2 := { s1 with fab := { s1.fab with arrivals := s1.fab.arrivals.filter (fun (a : Word × FabPort) => a.1 != r.id) ++ [(r.id, p)] } }
  if s2.fab.isRoot then (s2.keepReport r).done
  else match hdr with
    | some h =>
      let f : FabFrame := { header := h, data := words, trailer := word [fld 0 8 0xAF, fld 32 32 (frameCrc h words).toNat] }
      if bits h 19 14 = 0 then s2.done else (s2.fabUp none 1 (forwardWords f false)).done
    | none =>
      let h := frameHeader 1 6 (1 + s2.free.toNat % 63) 0 r.current words.length
      let f : FabFrame := { header := h, data := words, trailer := word [fld 0 8 0xAF, fld 32 32 (frameCrc h words).toNat] }
      (s2.drew.fabUp none 1 (forwardWords f false)).done

/-- ROUTE_COMPUTE (R443 step 5, R445, R449). -/
def execRouteCompute (s : State) : Out := if s.fab.isRoot then s.computeRoutes.done else s.done

/-- ASSIGN (R444, R445). -/
def execAssign (p : FabPort) (w0 w1 : Word) (s : State) : Out :=
  let s := s.takeFrame 7 [w0, w1]
  if s.fabActive p then (s.learnAssign w0 (BitVec.ofNat 12 (bits w1 11 0))).done else s.done

/-- ROUTES (R443 step 7, R448): a chunk; all 16 of one generation make the table. -/
def execRoutes (words : List Word) (s : State) : Out :=
  let s := s.takeFrame 8 words
  let gen := BitVec.ofNat 32 (bits (wordAt words 0) 31 0)
  let chunk := bits (wordAt words 0) 35 32
  let old : BitVec 32 × List (Nat × List Word) := match s.fab.partialGen with
    | some q => if q.1 < gen then (gen, []) else q
    | none => (gen, [])
  if old.1 ≠ gen then s.done
  else
    let chunks := old.2.filter (fun c => c.1 != chunk) ++ [(chunk, slice words 1 64)]
    if chunks.length < 16 then ({ s with fab := { s.fab with partialGen := some (gen, chunks) } }).done
    else
      let table := (List.range 16).flatMap (fun i => match chunks.find? (fun c => c.1 == i) with | some c => c.2 | none => [])
      ((s.applyTable gen table).fabSend 9 0 [word [gen.toNat]]).done

/-- ROUTES_ACK (R448). -/
def execRoutesAck (src : NodeNo) (w0 : Word) (s : State) : Out :=
  let s := s.takeFrame 9 [w0]
  match s.fab.assigns.find? (fun a => a.2 == src) with
  | some a => ({ s with fab := { s.fab with grants := s.fab.grants.map (fun (g : RouteGrant) =>
      if g.id == a.1 && g.gen.toNat == bits w0 31 0 then { g with acked := true } else g) } }).done
  | none => s.done

/-- ROUTES_RESEND (R448). -/
def execRoutesResend (s : State) : Out :=
  if s.fab.isRoot then ((s.fab.grants.filter (fun g => !g.acked)).foldl (fun s g => s.sendTable g) s).done else s.done

/-! ### Mailbox channels (R454 to R456) -/

/-- A fresh open channel with a peer's session. -/
def openChannel (peer : NodeNo) (session : BitVec 32) : FabChannel :=
  { peer := peer, session := session, st := .openCh, sendSeq := 0, recvSeq := none, unacked := none, openSends := 0, outQ := []
    taken := [], running := [], mask := 0, dropped := 0, posts := [], nextTag := 0 }

/-- A peer's OPEN replaces the session of a channel: words already acknowledged stay, what was owed to the old session goes (R455). The
cause field of an asker's response is free, as for a channel that closes (log 5). -/
def State.replaceSession (s : State) (n : NodeNo) (k : FabChannel) (session : BitVec 32) : State :=
  let s1 := s.setFabChan n (fun k => { openChannel n session with taken := k.taken })
  let s2 := k.posts.foldl (fun s p => match p.asker with
    | some x => s.answer x 0x71 .fabricChannelAborted (low40 (n.toNat + 4096 * (s1.free.toNat % 4)))
    | none => s) s1.drew
  s2.raiseF .fabricPeerReset [fld 0 12 n.toNat]

/-- MAILBOX_OPEN (R455). An OPEN that repeats the session in force is acknowledged again. -/
def execMailboxOpen (src : NodeNo) (w0 : Word) (s : State) : Out :=
  let s := s.takeFrame 4 [w0, 0]
  let session := BitVec.ofNat 32 (bits w0 63 32)
  match s.fab.chanOf src with
  | none =>
    if 64 ≤ s.fab.channels.length then (s.mailAck src 1 0 session).done
    else
      let s1 := { s with fab := { s.fab with channels := s.fab.channels ++ [openChannel src session] } }
      (s1.mailAck src 0 0 session).done
  | some k =>
    match k.st with
    | .opening =>
      if s.fab.node < src then s.done
      else
        (((s.setFabChan src (fun k => { k with session := session, st := .openCh, sendSeq := 0, recvSeq := none })).mailAck
          src 0 0 session).fabPump src).done
    | .openCh =>
      if k.session = session then (s.mailAck src 0 0 session).done
      else ((s.replaceSession src k session).mailAck src 0 0 session).done

/-- Opcodes of the group tables of R545. -/
def assignedOpcodes : List Nat :=
  [0x00, 0x01, 0x02, 0x03, 0x10, 0x11, 0x12, 0x13, 0x14, 0x15, 0x16, 0x18, 0x19, 0x1A, 0x30, 0x31, 0x32, 0x33, 0x35, 0x36] ++
  [0x40, 0x41, 0x42, 0x43, 0x44, 0x45, 0x46, 0x47, 0x48, 0x49, 0x50, 0x51, 0x52, 0x53, 0x60, 0x61, 0x62, 0x63] ++
  [0x70, 0x71, 0x72, 0x73, 0x80, 0x81, 0x82, 0x83, 0x90, 0x91, 0x92, 0x93, 0x94, 0xA0, 0xA1, 0xA2, 0xA3, 0xA4, 0xA5, 0xA6] ++
  [0xA7, 0xA8, 0xA9, 0xAA, 0xAB, 0xC0, 0xC1, 0xC2, 0xC3, 0xCF, 0xD0, 0xD1, 0xD2, 0xD3, 0xE0, 0xE1]

/-- A command word as the fields of R532. -/
def takenOf (w : Word) : TakenCmd :=
  { opcode := BitVec.ofNat 8 (bits w 63 56), tag := BitVec.ofNat 5 (bits w 55 51), docketFlag := bitAt w 48
    arg := BitVec.ofNat 48 (bits w 47 0), docket := none }

/-- A transfer sent from here has its outcome at the receiver (R550). -/
def State.endBulk (s : State) (n : NodeNo) (x : Nat) : State :=
  { s with fab := { s.fab with bulkOut := s.fab.bulkOut.filter (fun (b : BulkOut) => b.dest != n || b.xfer.toNat != x) } }

/-- The response to a command posted here (R398, R399, R485, R550). -/
def State.peerResponse (s : State) (n : NodeNo) (p : PeerPost) (w : Word) : State :=
  let s1 := s.setFabChan n (fun k => { k with posts := k.posts.erase p })
  match p.asker with
  | some x =>
    let r := s1.writeBlock x (x.dw 2) (x.dw 3) [w] 0
    (match r.2 with | some (st, v) => r.1.answer x 0x71 st v | none => r.1)
  | none =>
    (match p.opcode == 0x73, p.slot with
      | true, some x => s1.endBulk n x
      | _, none => s1
      | false, some slot =>
        if bits w 49 40 < 256 then { s1 with health := { s1.health with awaiting := s1.health.awaiting.erase (slot, n) } }
        else s1.reportLost slot n).sendReports n

/-- A word delivered on a channel: a response to a command posted here, an event of the peer, or a command (R456, R532 to R534). An event
of a peer changes nothing here. -/
def State.deliverWord (s : State) (n : NodeNo) (k : FabChannel) (w : Word) : State :=
  let t := takenOf w
  match k.posts.find? (fun p => p.peerTag == t.tag && p.opcode == t.opcode && !bitAt w 50) with
  | some p => s.peerResponse n p w
  | none =>
    if bitAt w 50 then s
    else if 32 ≤ k.taken.length + k.running.length then
      s.pushFab n [responseWord t.opcode t.tag .channelOverrun 0]
    else if !assignedOpcodes.contains t.opcode.toNat then s.pushFab n [responseWord t.opcode t.tag .unknownOpcode 0]
    else s.setFabChan n (fun k => { k with taken := k.taken ++ [t] })

/-- MAILBOX_WORD (R455). -/
def execMailboxWord (src : NodeNo) (w0 w1 : Word) (s : State) : Out :=
  let s := s.takeFrame 4 [w0, w1]
  let session := BitVec.ofNat 32 (bits w0 63 32)
  let seq : Byte := BitVec.ofNat 8 (bits w0 15 8)
  match s.fab.chanOf src with
  | some k =>
    if k.session ≠ session then (s.mailAck src 2 seq session).done
    else if k.recvSeq = some seq then (s.mailAck src 0 seq session).done
    else if k.recvSeq.any (fun r => r + 1 != seq) then s.done
    else
      let s1 := (s.setFabChan src (fun k => { k with recvSeq := some seq })).mailAck src 0 seq session
      (s1.deliverWord src k w1).done
  | none => (s.mailAck src 2 seq session).done

/-- MAILBOX_ACK (R455). -/
def execMailboxAck (src : NodeNo) (w0 : Word) (s : State) : Out :=
  let s := s.takeFrame 4 [w0, 0]
  let session := BitVec.ofNat 32 (bits w0 63 32)
  let seq : Byte := BitVec.ofNat 8 (bits w0 15 8)
  match s.fab.chanOf src with
  | some k =>
    if k.session ≠ session then (s.mailAck src 2 seq session).done
    else match bits w0 3 2 with
      | 1 => (s.dropChan src .noChannel src.toNat).done
      | 2 => (s.abortChan src 1).done
      | _ =>
        match k.st with
        | .opening => ((s.setFabChan src (fun k => { k with st := .openCh, openSends := 0 })).fabPump src).done
        | .openCh =>
          if k.unacked.isSome && k.sendSeq == seq then
            ((s.setFabChan src (fun k => { k with unacked := none, sendSeq := k.sendSeq + 1 })).fabPump src).done
          else s.done
  | none => (s.mailAck src 2 seq session).done

/-- MAILBOX_CLOSE (R455). -/
def execMailboxClose (src : NodeNo) (w0 : Word) (s : State) : Out :=
  let s := s.takeFrame 4 [w0, 0]
  let session := BitVec.ofNat 32 (bits w0 63 32)
  let seq : Byte := BitVec.ofNat 8 (bits w0 15 8)
  match s.fab.chanOf src with
  | some k =>
    if k.session ≠ session then (s.mailAck src 2 seq session).done
    else ((s.closeChan src).mailAck src 0 seq session).done
  | none => (s.mailAck src 2 seq session).done

/-- MAILBOX_RESEND (R455): the word not acknowledged, or the OPEN, is sent again, up to ten times in all. -/
def execMailboxResend (peer : NodeNo) (s : State) : Out :=
  match s.fab.chanOf peer with
  | none => s.done
  | some k =>
    match k.st with
    | .opening =>
      if 10 ≤ k.openSends then (s.abortChan peer 2).done
      else ((s.setFabChan peer (fun k => { k with openSends := k.openSends + 1 })).fabSend 4 peer
        [mailboxWord0 0 0 0 k.session, 0]).done
    | .openCh =>
      match k.unacked with
      | none => s.done
      | some (w, n) =>
        if 10 ≤ n then (s.abortChan peer 2).done
        else ((s.setFabChan peer (fun k => { k with unacked := some (w, n + 1) })).fabSend 4 peer
          [mailboxWord0 1 0 k.sendSeq k.session, w]).done

/-- CHANNEL_IDLE (R455). -/
def execChannelIdle (peer : NodeNo) (s : State) : Out :=
  match s.fab.chanOf peer with
  | some _ => (s.closeChan peer).done
  | none => s.done

/-! ### ENC_EVENT (R451) -/

/-- ENC_EVENT (R451). -/
def execEncEvent (src : NodeNo) (w0 w1 : Word) (s : State) : Out :=
  ((s.takeFrame 3 [w0, w1]).raiseF .peerEncEvent
    [fld 0 12 src.toNat, fld 12 4 (bits w0 3 0), fld 16 1 (bits w0 4 4), fld 17 23 w1.toNat]).done

/-! ### FABRIC_CONFIG, PEER_POST, PEER_CLOSE (R457, R545, R550) -/

/-- An entry of the table of R457 that breaks its range, row, INDEX or ELEM: reason 1. -/
def checkFabric (_ : State) (e : Entry) : Option Nat :=
  let one := e.index == 0 && e.elem == 0
  let ok := match e.row with
    | 0 => one && e.within 0 1
    | 1 => one && e.within 0 2047
    | 2 => one && e.duration 1000000000000 1 3600
    | 3 => e.index == 0 && decide (e.elem < 16) && e.within 0 4095
    | 4 => one && e.within 0 63
    | _ => false
  if ok then none else some 1

/-- A row of R457 takes its value; PREFERRED_NODE acts from the next reset. -/
def FabPart.put (t : FabPart) (e : Entry) : FabPart :=
  let n := e.nat
  match e.row with
  | 0 => { t with eligible := n == 1 }
  | 1 => { t with preferredSet := some (BitVec.ofNat 12 n) }
  | 2 => { t with channelIdlePs := n }
  | 3 => { t with encNodes := setAt t.encNodes e.elem (BitVec.ofNat 12 n) }
  | 4 => { t with encEvents := BitVec.ofNat 6 n }
  | _ => t

/-- The settings table of R457. -/
def fabricTable : Settings where
  bad := .fabricConfigBad
  isTable := fun _ _ => false
  check := checkFabric
  whole := fun _ _ => none
  busy := fun _ _ => none
  apply := fun s e => { s with fab := s.fab.put e }

/-- FABRIC_CONFIG (R457). -/
def execFabricConfig (x : Cmd) (s : State) : Out := (runCommand 0x70 true false (runSettings fabricTable) x s).done

/-- PEER_POST (R550): ARG_BAD when DOCKET is set in the word to be posted. -/
def cmdPeerPost (x : Cmd) (s : State) : State × Option Resp :=
  let n : NodeNo := BitVec.ofNat 12 (bits (x.dw 0) 11 0)
  let w := x.dw 1
  if bitAt w 48 || bufferBad (x.dw 2) (x.dw 3) then (s, resp .argBad 0)
  else match s.peerCheck n with
    | some r => (s, some r)
    | none =>
      ((s.openChan n).postPeer n (BitVec.ofNat 8 (bits w 63 56)) (BitVec.ofNat 48 (bits w 47 0)) (some x) none, none)

/-- PEER_POST (R550). -/
def execPeerPost (x : Cmd) (s : State) : Out := (runCommand 0x71 true false cmdPeerPost x s).done

/-- PEER_CLOSE (R455, R545). -/
def cmdPeerClose (x : Cmd) (s : State) : State × Option Resp :=
  let n : NodeNo := BitVec.ofNat 12 (x.argBits 11 0)
  match s.fab.chanOf n with
  | none => (s, resp .notFound 0)
  | some k => ((s.closeChan n).fabSend 4 n [mailboxWord0 3 0 0 k.session, 0], okResp)

/-- PEER_CLOSE (R545). -/
def execPeerClose (x : Cmd) (s : State) : Out := (runCommand 0x72 false false cmdPeerClose x s).done

end Sys2Proof.Machine
end

