-- ==== Sys2Proof/Machine/Motion.lean ====
section
/-!
DEFINITION. Meanings of motion control's commands (11_motion_control.md): profiles, moves, switches, homing, choppers, and the
switch sets of R325.
-/

namespace Sys2Proof

/-- Number of a coil. -/
def Coil.num : Coil → Nat
  | .a => 0 | .b => 1

/-- A coil fault's reason (R352). -/
def CoilFaultReason.num : CoilFaultReason → Nat
  | .openCoil => 1 | .short => 2

end Sys2Proof

namespace Sys2Proof.Machine

/-- An axis changed. -/
def State.setAxis (s : State) (a : AxisNo) (f : AxisState → AxisState) : State :=
  { s with motion := { s.motion with axes := upd s.motion.axes a f } }

/-! ### Moves (R335 to R340, R343, R344) -/

/-- Detail of MOVE_DONE (R335). -/
def moveDone (a : AxisNo) (p : Int) : List Nat := [fld 0 2 a.val, fldI 2 38 p]

/-- The level of a named switch input; false for none. -/
def State.switchOn (s : State) (w : Option SwitchNo) : Bool := match w with | some k => s.motion.switches[k].level | none => false

/-- The sense of what a move seeks. -/
def AxisState.toward (x : AxisState) (k : MoveKind) : Int :=
  match k with
  | .position t => t - x.micro
  | .speed v => v
  | .stop => 0

/-- The sense of motion: of the speed, else of what the move seeks. -/
def AxisState.heading (x : AxisState) : Int :=
  if x.vel ≠ 0 then x.vel else match x.move with | some m => x.toward m.kind | none => 0

/-- The stop from here reaches past a target ahead (R334). -/
def AxisState.tooFast (x : AxisState) (k : MoveKind) (l : MoveLimits) : Bool :=
  match k with
  | .position t =>
    let d := t * 2 ^ 32 - x.pos
    decide (0 < d * x.vel) && stopReaches d.natAbs x.vel x.acc (l.d * 32000) l.j == some true
  | _ => false

/-- A move starts (R336). -/
def AxisState.startMove (x : AxisState) (k : MoveKind) (l : MoveLimits) : AxisState :=
  { x with move := some ⟨k, l⟩, holding := false, holdWait := false, beyond := x.tooFast k l }.drive

/-- The limit deceleration of an axis that moves (R343, R344), or of one that homes (R347). cause: 1 negative limit, 2 positive limit,
3 switch set, 0 a stop command, which raises no event of its own. A later cause in the deceleration that ended a homing command
raises LIMIT_DURING_HOME too, never LIMIT_STOP. -/
def State.limitStop (s : State) (a : AxisNo) (cause : Nat) : State :=
  let x := s.motion.axes[a]
  if x.atRest then s
  else
    let homing := x.homing.isSome || x.homeFail
    let s1 := s.setAxis a (fun x =>
      let y := if x.limitDecel then x else x.startMove .stop x.set.limitLimits
      { y with next := none, homing := none, limitDecel := true, homeFail := homing && cause != 0, homed := y.homed && !homing })
    if homing then
      if cause = 0 then s1.raiseF .homeAborted [fld 0 2 a.val] else s1.raiseF .limitDuringHome [fld 0 2 a.val, fld 2 2 cause]
    else if cause = 0 then s1
    else s1.raiseF .limitStop [fld 0 2 a.val, fld 2 2 cause, fldI 4 36 x.micro]

/-- A switch set with ACTION 1 keeps an axis from starting (R325). -/
def State.setHolds (s : State) (a : AxisNo) : Bool :=
  s.enc.sets.toList.any (fun j => j.stop && j.axis == some a && j.runs s.time.raw)

/-- The limit that is active in a sense of motion: 1 negative, 2 positive (R343). -/
def State.limitAhead (s : State) (a : AxisNo) (heading : Int) : Option Nat :=
  let t := s.motion.axes[a].set
  if decide (heading < 0) && s.switchOn t.limitNeg then some 1
  else if decide (0 < heading) && s.switchOn t.limitPos then some 2
  else none

/-- Why an axis takes no command that moves it (R332, R340, R343, R344, R352); free where the spec names no cause, for a switch set
(R325, log 5). heading: the sense of the first motion. -/
def State.axisBlocked (s : State) (a : AxisNo) (heading : Int) : Option Nat :=
  let x := s.motion.axes[a]
  if !x.set.enable || x.coilFault then some 0
  else if x.limitDecel then some 3
  else if x.set.interlock && s.print.started then some 2
  else if (s.limitAhead a heading).isSome then some 1
  else if s.setHolds a then some (s.free.toNat % 4)
  else none

/-- The response AXIS_BLOCKED. -/
def blocked (a : AxisNo) (cause : Nat) : Option Resp := resp .axisBlocked (fld 0 2 a.val + fld 2 2 cause)

/-- A homing command ends by another command (R347). -/
def State.abortHome (s : State) (a : AxisNo) : State :=
  if s.motion.axes[a].homing.isSome then
    (s.setAxis a (fun x => { x with homing := none, homed := false })).raiseF .homeAborted [fld 0 2 a.val]
  else s

/-- MOVE's effect (R335, R336, R339). -/
def cmdMove (x : Cmd) (s : State) : State × Option Resp :=
  let w := x.dw 0
  let a : AxisNo := Fin.ofNat 4 (bits w 1 0)
  let v := (x.dw 1).toInt
  if 2 ≤ bits w 3 2 then (s, resp .argBad 0)
  else
    let kind : MoveKind := if bits w 3 2 = 0 then .position v else .speed v
    match s.axisBlocked a (s.motion.axes[a].toward kind) with
    | some c => (s.drew, blocked a c)
    | none =>
      let trig : Option CmpNo := if bitAt w 4 then some (Fin.ofNat 8 (bits w 7 5)) else none
      ((s.abortHome a).setAxis a (fun y => { y with next := some (⟨kind, y.set.limits⟩, trig) }), okResp)

/-- MOVE (R335). -/
def execMove (x : Cmd) (s : State) : Out := (runCommand 0x51 true false cmdMove x s).done

/-- STOP's effect (R335, R344): a disabled axis starts no move. -/
def cmdStop (x : Cmd) (s : State) : State × Option Resp :=
  let a : AxisNo := Fin.ofNat 4 (x.argBits 1 0)
  let y := s.motion.axes[a]
  if y.limitDecel then (s, blocked a 3)
  else if !y.set.enable || y.coilFault then (s, okResp)
  else if x.arg.getLsbD 2 then (s.limitStop a 0, okResp)
  else ((s.abortHome a).setAxis a (fun y => { y with next := some (⟨.stop, y.set.limits⟩, none) }), okResp)

/-- STOP (R335, R344). -/
def execStop (x : Cmd) (s : State) : Out := (runCommand 0x52 false false cmdStop x s).done

/-! ### Homing (R345 to R347) -/

/-- The HOME input is at the home level (R345). -/
def State.atHome (s : State) (a : AxisNo) : Bool :=
  let t := s.motion.axes[a].set
  match t.homeInput with | some k => s.motion.switches[k].level != t.homeInactive | none => false

/-- What a homing command that begins now takes from the settings (R354). -/
def AxisSettings.home (t : AxisSettings) : HomeSettings := { speed := t.homeSpeed, pos := t.homePos, travel := t.homeTravel, back := t.homeReturn }

/-- Step 1 or step 2 begins: a SPEED move at HOME_SPEED, within the V_MAX it latches (R333, R336, R345). -/
def State.homeSeek (s : State) (a : AxisNo) : State :=
  let x := s.motion.axes[a]
  let fwd : Int := if x.set.homePosDir then x.home.speed else -x.home.speed
  if s.atHome a then s.setAxis a (fun x => { x.startMove (.speed (-fwd)) x.set.limits with homing := some .leave })
  else s.setAxis a (fun x => { x.startMove (.speed fwd) x.set.limits with homing := some .seek })

/-- HOME's effect (R345). -/
def cmdHome (x : Cmd) (s : State) : State × Option Resp :=
  let a : AxisNo := Fin.ofNat 4 (x.argBits 1 0)
  let t := s.motion.axes[a].set
  let fwd : Int := if t.homePosDir then 1 else -1
  match s.axisBlocked a (if s.atHome a then -fwd else fwd) with
  | some c => (s.drew, blocked a c)
  | none =>
    if t.homeInput.isNone then (s, resp .argBad 0)
    else ((s.setAxis a (fun y => { y with next := none, travel := 0, home := t.home })).homeSeek a, okResp)

/-- HOME (R345). -/
def execHome (x : Cmd) (s : State) : Out := (runCommand 0x53 false false cmdHome x s).done

/-- HOME_DONE (R345 step 6). -/
def State.homeDone (s : State) (a : AxisNo) (latched : Int) : State :=
  (s.setAxis a (fun x => { x with homing := none, homed := true })).raiseF .homeDone [fld 0 2 a.val, fldI 2 38 latched]

/-! ### PROFILE_UPDATE (R334, R337, R338) -/

/-- cap_now in microunits/s; none when unlimited (R338). -/
def State.capNow (s : State) (a : AxisNo) : Option Nat :=
  let t := s.motion.axes[a].set
  if t.role = .carriage then some (s.gov.limit * t.carrNum / t.carrDen) else none

/-- vgoal of a move in units of the speed (R334). Whether a POSITION move brakes is free where stopReaches does not decide it
(log 19). -/
def AxisState.goal (x : AxisState) (m : Move) (cap : Option Nat) (brake : Bool) : Int :=
  let v : Int := (match cap with | some c => min m.lim.v c | none => m.lim.v) * 1024000000
  match m.kind with
  | .stop => 0
  | .speed u => max (-v) (min v (u * 1024000000))
  | .position t =>
    let d := t * 2 ^ 32 - x.pos
    if d.natAbs < 2 ^ 32 ∨ (stopReaches d.natAbs x.vel x.acc (m.lim.d * 32000) m.lim.j).getD brake then 0 else if 0 < d then v else -v

/-- An update to a position would carry a POSITION move past its target, which the planner never lets it do where the stop fitted when
the move began (R334, log 19). -/
def AxisState.overshoots (x : AxisState) (m : Move) (p : Int) : Option Int :=
  match m.kind with
  | .position t =>
    let g := t * 2 ^ 32
    if !x.beyond && (decide (x.pos < g ∧ g < p) || decide (g < x.pos ∧ p < g)) then some t else none
  | _ => none

/-- One update of position, speed and acceleration (R333, R334): u chooses the jerk and the rounding of the position (log 19). -/
def AxisState.advance (x : AxisState) (m : Move) (cap : Option Nat) (u : Word) : AxisState :=
  let j := jerkToward (u.toNat / 4) (x.goal m cap (bitAt u 0)) x.vel x.acc m.lim.j
  let a := clampAcc x.vel (x.acc + j) m.lim
  let v := x.vel + a
  let p := x.pos + roundFree (bitAt u 1) (v * 131072) 1000000000
  match x.overshoots m p with
  | some t => { x with acc := 0, vel := 0, pos := t * 2 ^ 32 }.stepTo t
  | none => { x with acc := a, vel := v, pos := p, travel := x.travel + (p - x.pos).natAbs }.stepTo (p / 2 ^ 32)

/-- A move that has come to rest: a POSITION move takes its target exactly (R337). -/
def AxisState.arrived (x : AxisState) (m : Move) : Option AxisState :=
  if x.vel ≠ 0 ∨ x.acc ≠ 0 then none
  else
    let rest := { x with move := none, limitDecel := false, homeFail := false, holdWait := true }
    match m.kind with
    | .stop => some rest
    | .speed _ => none
    | .position t => if (t * 2 ^ 32 - x.pos).natAbs < 2 ^ 32 then some ({ rest with pos := t * 2 ^ 32 }.stepTo t) else none

/-- What follows a move at rest: a step of homing, or MOVE_DONE. -/
def State.afterMove (s : State) (a : AxisNo) : State :=
  let x := s.motion.axes[a]
  match x.homing with
  | none => s.raiseF .moveDone (moveDone a x.micro)
  | some (.halt l) =>
    if x.home.back then
      s.setAxis a (fun x => { x.startMove (.position x.home.pos) x.set.limits with homing := some (.back l) })
    else s.homeDone a l
  | some (.back l) => s.homeDone a l
  | some _ => s.homeSeek a

/-- Travel in steps 1 and 2 exceeds HOME_TRAVEL (R347). -/
def AxisState.lost (x : AxisState) : Bool :=
  (match x.homing with | some .leave => true | some .seek => true | _ => false) && decide (x.home.travel * 2 ^ 32 < x.travel)

/-- The re-base and the stop of steps 3 and 4 (R345). -/
def AxisState.rebased (x : AxisState) : AxisState :=
  match x.homing with
  | some (.rebase l) =>
    { x.startMove .stop x.set.limits with pos := x.pos + (x.home.pos - l) * 2 ^ 32, homed := true, homing := some (.halt l) }
  | _ => x

/-- A waiting move does not start yet: an axis with INTERLOCK 1 starts none while printing is started (R340), nor one that a switch set
with ACTION 1 holds (R325); a stop is not held (log 138). -/
def State.moveHeld (s : State) (a : AxisNo) (k : MoveKind) : Bool :=
  k != .stop && ((s.motion.axes[a].set.interlock && s.print.started) || s.setHolds a)

/-- The move that waits for this update starts (R336, R339); toward an active limit it ends at once (R343, log 138). -/
def State.startNext (s : State) (a : AxisNo) : State :=
  let x := s.motion.axes[a]
  match x.next with
  | some (m, none) =>
    if s.moveHeld a m.kind then s
    else match s.limitAhead a (x.toward m.kind) with
      | some c => s.limitStop a c
      | none => s.setAxis a (fun x => { x.startMove m.kind m.lim with next := none })
  | _ => s

/-- PROFILE_UPDATE (R334): a waiting move starts, the profile advances, and a move may end. In DORMANT motion is off (R353). -/
def execProfileUpdate (ax : AxisNo) (s : State) : Out :=
  if s.sys.power == .dormant then s.done
  else
  let u := s.free
  let s1 := ((s.drew.setAxis ax AxisState.rebased).startNext ax).calCheck (fun p => p == .chopper ax)
  match s1.motion.axes[ax].move with
  | none => (s1.setAxis ax AxisState.drive).done
  | some m =>
    let s2 := s1.setAxis ax (fun x => x.advance m (s1.capNow ax) u)
    let x := s2.motion.axes[ax]
    if x.lost then
      ((s2.setAxis ax (fun x => { x.startMove .stop x.set.limits with homing := none, homed := false })).raiseF
        .homeNotFound [fld 0 2 ax.val]).done
    else match x.arrived m with
      | some y => ((s2.setAxis ax (fun _ => y)).afterMove ax).done
      | none => s2.done

/-- HOLD_DELAY (R348): the time after a move ended at rest has passed. -/
def execHoldDelay (ax : AxisNo) (s : State) : Out :=
  if s.motion.axes[ax].holdWait then
    (s.setAxis ax (fun x => { x with holding := true, holdWait := false }.drive)).done
  else s.done

/-! ### Switch inputs (R341 to R343, R345) and switch sets (R324, R325) -/

/-- SWITCH_RAW_CHANGE (R342): the positions of the axes are recorded. -/
def execSwitchRawChange (sw : SwitchNo) (level : Bool) (s : State) : Out :=
  ({ s with motion := { s.motion with switches := upd s.motion.switches sw (fun w =>
    { w with raw := level, recorded := s.motion.axes.map AxisState.micro }) } }).done

/-- Homing is past its qualified edge, so the HOME input is ignored (R346). -/
def AxisState.pastEdge (x : AxisState) : Bool :=
  match x.homing with | some (.rebase _) => true | some (.halt _) => true | some (.back _) => true | _ => false

/-- The position latch of an axis that names the input (R342, R346). -/
def AxisState.latchAt (x : AxisState) (sw : SwitchNo) (level : Bool) (p : Int) : AxisState :=
  let lim := x.set.limitNeg == some sw || x.set.limitPos == some sw
  let home := x.set.homeInput == some sw && !x.pastEdge
  if lim || home then { x with latch := some { position := p, input := sw, level := level, overrun := x.latch.isSome } } else x

/-- A limit in the direction of motion (R343, R347). -/
def State.limitHit (s : State) (a : AxisNo) (sw : SwitchNo) (level : Bool) : State :=
  let x := s.motion.axes[a]
  if !level then s
  else if x.set.limitNeg == some sw && decide (x.heading < 0) then s.limitStop a 1
  else if x.set.limitPos == some sw && decide (0 < x.heading) then s.limitStop a 2
  else s

/-- A qualified change of the HOME input during homing (R345). -/
def State.homeEdge (s : State) (a : AxisNo) (sw : SwitchNo) (p : Int) : State :=
  let x := s.motion.axes[a]
  if x.set.homeInput != some sw then s
  else match x.homing with
    | some .leave => if s.atHome a then s else s.setAxis a (fun x => { x with move := some ⟨.stop, x.set.limits⟩ })
    | some .seek => if s.atHome a then s.setAxis a (fun x => { x with homing := some (.rebase p) }) else s
    | _ => s

/-- SWITCH_QUALIFIED (R341): the level after POLARITY has held for a number of samples, and qualifies after FILTER of them. -/
def execSwitchQualified (sw : SwitchNo) (held : Nat) (s : State) : Out :=
  let w := s.motion.switches[sw]
  let rec_ := w.recorded
  let level := qualify w.filter w.level (xor w.raw w.activeLow) held
  if level == w.level then s.done
  else
  let s1 := { s with motion := { s.motion with switches := upd s.motion.switches sw (fun w => { w with level := level }) } }
  let s2 := (List.finRange 4).foldl (fun s a =>
    ((s.setAxis a (fun x => x.latchAt sw level rec_[a])).limitHit a sw level).homeEdge a sw rec_[a]) s1
  ({ s2 with enc := { s2.enc with sets := s2.enc.sets.map (fun j => s2.setChanged j) } }).done

/-- SWITCH_SET_BAD (R325): a combination whose ALLOWED bit is 0 has held for SETTLE. -/
def execSwitchSetBad (set : Fin 5) (s : State) : Out :=
  let j := s.enc.sets[set]
  match j.inputs with
  | none => s.done
  | some i =>
    let v := s.setValue i
    if j.allowed.getLsbD v || j.runs s.time.raw then s.done
    else
      let s1 := ({ s with enc := { s.enc with sets := upd s.enc.sets set (fun j =>
        { j with episode := true, allowedSince := none }) } }).raiseF .switchSetBad [fld 0 3 set.val, fld 3 3 v]
      match j.axis with
      | some a => if j.stop then (s1.limitStop a 3).done else s1.done
      | none => s1.done

/-! ### The chopper (R349 to R352) -/

/-- A coil of an axis. -/
def AxisState.coil (x : AxisState) (c : Coil) : CoilState := match c with | .a => x.coilA | .b => x.coilB

/-- A coil of an axis changed. -/
def AxisState.setCoil (x : AxisState) (c : Coil) (f : CoilState → CoilState) : AxisState :=
  match c with | .a => { x with coilA := f x.coilA } | .b => { x with coilB := f x.coilB }

/-- A whole chop cycle with ADAPT 1 (R350): OFS, and whether it has just reached a clamp. -/
def CoilState.adapt (c : CoilState) (tOff : Nat) (up : Bool) : CoilState × Bool :=
  match c.tOn.bind (fun tOn => ofsCycle c.cyc.hyst c.cyc.delayNs tOn tOff) with
  | none => (c, false)
  | some cyc =>
    let o := clampOfs (moveOfs c.ofs cyc up)
    let at_ := decide (o.natAbs = 512)
    ({ c with ofs := o, clamp := at_ }, at_ && !c.clamp)

/-- The comparator is ignored for BLANK, in units of 62.5 ns, after each change of state (R349). -/
def CoilState.blanked (c : CoilState) (lasted : Nat) : Bool := decide (2 * lasted < 125 * c.cyc.blank)

/-- The coil chops: it has a target, on an axis that drives its coils (R348, R352, R353). -/
def State.chops (s : State) (ax : AxisNo) (coil : Coil) : Bool :=
  let x := s.motion.axes[ax]
  (x.coil coil).target != 0 && !x.coilFault && x.set.enable && s.sys.power != .dormant

/-- CHOPPER_TRANSITION (R349): the comparator finds the sense voltage. Above UP, DRIVE turns to DECAY; below LO, DECAY turns to DRIVE, which
ends a cycle and begins the next. -/
def execChopperTransition (ax : AxisNo) (coil : Coil) (shows : ChopSense) (s : State) : Out :=
  let x := s.motion.axes[ax]
  let c := x.coil coil
  let lasted := shows.lasted
  let sense := shows.sense
  if !s.chops ax coil || c.blanked lasted then s.done
  else if c.drive then
    if 256 * c.upper < sense then
      (s.setAxis ax (fun x => x.setCoil coil (fun c => { c with drive := false, tOn := some lasted }))).done
    else s.done
  else if sense < 256 * c.lower then
    let adapt := c.cyc.adapt && !s.health.runs.any (fun r => r.proc == .chopper ax)
    let r := if adapt then c.adapt lasted (bitAt s.free 0) else (c, false)
    let s1 := s.drew.setAxis ax (fun x => x.setCoil coil (fun _ => r.1.begin x.set.chop (bitAt s.free 1)))
    if r.2 then
      (s1.raiseF .coilOffsetLimit [fld 0 2 ax.val, fld 2 1 coil.num, fld 3 1 (b2n (decide (r.1.ofs < 0)))]).done
    else s1.done
  else s.done

/-- What the spec asks of the coil for each reason (R352): DRIVE, for an open coil with the axis at rest. -/
def State.mayFault (s : State) (ax : AxisNo) (coil : Coil) (reason : CoilFaultReason) : Bool :=
  s.chops ax coil && (s.motion.axes[ax].coil coil).drive && (reason != .openCoil || s.motion.axes[ax].still)

/-- COIL_FAULT (R352): both EN outputs low, any move ends without deceleration, and HOLD_DELAY runs from its end (R348). -/
def execCoilFault (ax : AxisNo) (coil : Coil) (reason : CoilFaultReason) (s : State) : Out :=
  if !s.mayFault ax coil reason then s.done
  else
    (((s.setAxis ax (fun x =>
      { x with coilFault := true, move := none, next := none, homing := none, limitDecel := false, homeFail := false
               holdWait := !x.holding, homed := false, vel := 0, acc := 0 }.drive)).raiseF .coilFault
      [fld 0 2 ax.val, fld 2 1 coil.num, fld 3 2 reason.num]).calCheck (fun p => p == .chopper ax)).done

/-! ### AXIS_CONFIG (R354) -/

/-- A switch input or none (R540). -/
def switchOk (e : Entry) : Bool := e.within 0 15 || e.nat == 31

/-- The switch input of a value. -/
def switchOf (n : Nat) : Option SwitchNo := if n = 31 then none else some (Fin.ofNat 16 n)

/-- An entry of the table of R354 that breaks its range, row, INDEX or ELEM: reason 1. -/
def checkAxis (_ : State) (e : Entry) : Option Nat :=
  let ax := decide (e.index < 4)
  let one := ax && e.elem == 0
  let two := ax && decide (e.elem < 2)
  let sw := decide (e.index < 16) && e.elem == 0
  let ok := match e.row with
    | 0 => one && e.within 0 1
    | 1 => one && e.within 0 4
    | 2 => one && e.within 1 256 && [1, 2, 4, 8, 16, 32, 64, 128, 256].contains e.nat
    | 3 => one && e.within 0 1
    | 4 => one && e.within 1 128000000
    | 5 => two && e.within 1 4294967295
    | 6 => one && e.within 1 1099511627775
    | 7 => one && e.within 1 4294967295
    | 8 => one && e.within 1 1099511627775
    | 9 => two && e.within 0 255
    | 10 => one && e.duration 1000000000 0 1000
    | 11 => one && e.within 2 64 && e.nat % 2 == 0
    | 12 => one && e.within 250000 4000000 && e.nat % 62500 == 0
    | 13 => one && e.within 0 2000000 && e.nat % 1000 == 0
    | 14 => one && e.within 0 1
    | 15 => ax && decide (e.elem < 3) && switchOk e
    | 16 => two && e.within 0 1
    | 17 => one && e.within 1 128000000
    | 18 => one
    | 19 => one && e.within 1 281474976710656
    | 20 => one && e.within 0 1
    | 21 => one && e.within 0 1
    | 22 => two && e.within 1 4294967295
    | 23 => sw && e.within 0 1
    | 24 => sw && e.within 1 255
    | _ => false
  if ok then none else some 1

/-- A row of R354 held by an axis takes its value. -/
def AxisSettings.put (t : AxisSettings) (e : Entry) : AxisSettings :=
  let n := e.nat
  match e.row with
  | 0 => { t with enable := n == 1 }
  | 1 => { t with role := match n with | 0 => .none | 1 => .lift | 2 => .sled | 3 => .shift | _ => .carriage }
  | 2 => { t with micro := n }
  | 3 => { t with dirInvert := n == 1 }
  | 4 => { t with vMax := n }
  | 5 => if e.elem = 0 then { t with aMax := n } else { t with dMax := n }
  | 6 => { t with jMax := n }
  | 7 => { t with limitDecel := n }
  | 8 => { t with limitJerk := n }
  | 9 => if e.elem = 0 then { t with runCurrent := n } else { t with holdCurrent := n }
  | 10 => { t with holdDelayPs := n }
  | 11 => { t with hyst := n }
  | 12 => { t with blank := n / 62500 }
  | 13 => { t with delayNs := n / 1000 }
  | 14 => { t with adapt := n == 1 }
  | 15 => match e.elem with
    | 0 => { t with limitNeg := switchOf n }
    | 1 => { t with limitPos := switchOf n }
    | _ => { t with homeInput := switchOf n }
  | 16 => if e.elem = 0 then { t with homePosDir := n == 1 } else { t with homeInactive := n == 1 }
  | 17 => { t with homeSpeed := n }
  | 18 => { t with homePos := e.int }
  | 19 => { t with homeTravel := n }
  | 20 => { t with homeReturn := n == 1 }
  | 21 => { t with interlock := n == 1 }
  | 22 => if e.elem = 0 then { t with carrNum := n } else { t with carrDen := n }
  | _ => t

/-- A row of R354 takes its value; ENABLE drives the coils or lets them go, and set again it ends a coil fault (R332, R352). -/
def MotionPart.put (p : MotionPart) (e : Entry) : MotionPart :=
  match e.row with
  | 23 => { p with switches := upd p.switches (Fin.ofNat 16 e.index) (fun w => { w with activeLow := e.nat == 1 }) }
  | 24 => { p with switches := upd p.switches (Fin.ofNat 16 e.index) (fun w => { w with filter := e.nat }) }
  | 0 => { p with axes := upd p.axes (Fin.ofNat 4 e.index) (fun x =>
      { x with set := x.set.put e, coilFault := x.coilFault && e.nat != 1 }.drive) }
  | _ => { p with axes := upd p.axes (Fin.ofNat 4 e.index) (fun x => { x with set := x.set.put e }) }

/-- Faults of an entry beside the others (R354): reason 2 V_MAX, 1 HOME_SPEED above V_MAX, 3 HOLD_CURRENT, 4 LIMIT_DECEL. A V_MAX set
below a HOME_SPEED that stands is taken: homing then runs within V_MAX (R336). -/
def axisWhole (s' : State) (e : Entry) : Option Nat :=
  let t := s'.motion.axes[(Fin.ofNat 4 e.index : AxisNo)].set
  if (e.row = 2 ∨ e.row = 4) ∧ 128000000 < t.vMax * t.micro then some 2
  else if e.row = 17 ∧ t.vMax < t.homeSpeed then some 1
  else if e.row = 9 ∧ t.runCurrent < t.holdCurrent then some 3
  else if ((e.row = 5 ∧ e.elem = 1) ∨ e.row = 7) ∧ t.limitDecel < t.dMax then some 4
  else none

/-- A row of R354 marked "At rest". -/
def axisAtRest (row : Nat) : Bool := decide (row ≤ 3) || row == 15 || row == 16 || row == 22

/-- The settings table of R354. -/
def axisTable : Settings where
  bad := .motionConfigBad
  isTable := fun _ _ => false
  check := checkAxis
  whole := axisWhole
  busy := fun s e => if axisAtRest e.row && !(s.motion.axes[(Fin.ofNat 4 e.index : AxisNo)]).atRest
    then resp .axisBusy (e.index % 4) else none
  apply := fun s e => { s with motion := s.motion.put e }

/-- AXIS_CONFIG (R354). -/
def execAxisConfig (x : Cmd) (s : State) : Out := (runCommand 0x50 true false (runSettings axisTable) x s).done

end Sys2Proof.Machine
end

