-- ==== Sys2Proof/Machine/Flags.lean ====
section
/-!
DEFINITION. Every status word the device computes: the values that the registers of BAR0 read (R73, R228, R264, R331, R355, R387, R425,
R458, R491, R506, R510, R511, R516, R528). A read of an unassigned offset gives zero (R509).
-/

namespace Sys2Proof.Machine

/-! ### Identity, pages, governor (R73, R228, R511) -/

/-- DEV_ID (R511). -/
def State.devId (s : State) : Word :=
  let v := match s.sys.image with | some i => fld 32 8 i.minor + fld 40 8 i.major | none => 0
  word [0x6416, fld 16 8 0xB0, v]

/-- FAULT of DEV_STATE: FAULT_N is asserted by a fault or by a boot that has stopped (R606, R611). While boot goes on the field reads 0,
as in the worked example of 22 (R511, R609; log 36). -/
def SysPart.faultBit (y : SysPart) : Bool := y.faultN && (y.fatal.isSome || y.fireStop || y.stopped)

/-- DEV_STATE (R511). While the Lockkeeper restarts, the stage in progress is IMAGE (R613, log 36). -/
def State.devState (s : State) : Word :=
  let stage := if s.sys.restarting then 2 else s.sys.stage
  word [b2n (stage == 7), fld 1 2 s.sys.power.code, fld 3 1 (b2n s.sys.faultBit), fld 4 4 stage]

/-- DEV_GOV (R228). -/
def State.devGov (s : State) : Word :=
  word [fld 0 8 (s.gov.limit / 2000), fld 8 8 s.cist.lead, fld 16 2 s.cist.level, fld 18 1 (b2n s.gov.holdReq),
    fld 20 4 s.gov.reason, fld 24 5 s.gov.factor, fld 32 8 (s.measured / 2000)]

/-! ### Sluice (R264) -/

/-- Reverse debt in whole lines, saturating at 4,095 (R264). -/
def State.debtLines (s : State) : Nat :=
  if s.print.started then min 4095 (s.sluice.debt s.nextLine.down / s.nextLine.q).floor.toNat else 0

/-- DEV_SLUICE (R264). -/
def State.devSluice (s : State) : Word :=
  word [if !s.print.started then 0 else if s.sluice.loop.rest then 2 else 1, fld 2 1 s.sluice.source.val,
    fld 3 1 (b2n (s.sluice.lines.any (fun l => l.sent.any (fun p => p.held)))),
    fld 4 1 (b2n (s.print.span.any (fun sp => sp.interrupted))), fld 8 12 s.debtLines]

/-- DEV_HEAD_TEMP (R264). -/
def State.headTemps (s : State) : Word :=
  word ((List.finRange 32).map (fun p => let t := s.sluice.temps[p]
    fld p.val 1 (b2n (t.warn || t.derateAt s.sluice.barLine)) + fld (32 + p.val) 1 (b2n t.hard)))

/-! ### Position feedback (R331) -/

/-- DEV_ENCk_ANGLE (R331). -/
def EncState.angleWord (e : EncState) : Word := word [fld 0 40 e.angle, fld 40 1 (b2n e.referenced), fld 41 1 (b2n e.pending.isSome)]

/-- MODE as a code (R331). -/
def EncMode.code : EncMode → Nat
  | .off => 0 | .analogue => 1 | .digital => 2

/-- DEV_ENCk_STAT (R331). -/
def EncState.stat (e : EncState) : Word :=
  let ok := match e.mode with | .off => false | .analogue => e.accepted | .digital => true
  word [e.mode.code, fld 2 1 (b2n ok), fld 3 1 (b2n e.quadErr), fld 4 1 (b2n e.overrate), fld 5 1 (b2n e.sigLoss),
    fld 6 1 (b2n e.indexFault), fld 8 16 e.quadCount, fld 24 8 e.amplitude]

/-! ### Motion (R355) -/

/-- DEV_SW (R355). -/
def State.devSw (s : State) : Word :=
  word ((List.finRange 16).map (fun k => fld k.val 1 (b2n s.motion.switches[k].level)))

/-- STATE of an axis (R355). -/
def AxisState.stateCode (x : AxisState) : Nat :=
  if x.coilFault then 5 else if !x.set.enable then 0 else if x.limitDecel then 4 else if x.homing.isSome then 3
  else if x.still then 1 else 2

/-- cap_now lies below the latched V_MAX of the move that runs (R355). -/
def State.capped (s : State) (a : AxisNo) : Bool :=
  match s.capNow a, s.motion.axes[a].move with
  | some c, some m => decide (c < m.lim.v)
  | _, _ => false

/-- DEV_AXn_STAT (R355). -/
def State.axisStat (s : State) (a : AxisNo) : Word :=
  let x := s.motion.axes[a]
  word [x.stateCode, fld 3 1 (b2n x.homed), fld 4 1 (b2n (s.switchOn x.set.limitNeg)), fld 5 1 (b2n (s.switchOn x.set.limitPos)),
    fld 6 1 (b2n (s.capped a)), fldI 8 32 x.speed, fldI 40 8 (x.coilA.ofs / 16), fldI 48 8 (x.coilB.ofs / 16)]

/-- DEV_AXn_LATCH (R355). -/
def AxisState.latchWord (x : AxisState) : Word :=
  match x.latch with
  | none => 0
  | some l => word [fldI 0 56 l.position, fld 56 4 l.input.val, fld 60 1 (b2n l.level), fld 61 1 (b2n l.overrun), fld 63 1 1]

/-! ### Camera ports (R387) -/

/-- LINK as a code (R387). -/
def CamLink.code : CamLink → Nat
  | .disabled => 0 | .active => 2 | _ => 1

/-- UNCERTAIN of the current frame, or with none open of the next one, with the commits that it will apply (R380, R387). -/
def CamState.uncertainNow (q : CamState) : Bool :=
  match q.frames.getLast? with
  | some f => f.uncertain
  | none => !q.certainty.isCertain || (match q.commits.getLast? with | some c => decide (0 < c.2.regCount) | none => false)

/-- DEV_CAMn_STAT (R387). LANES and RATE tell of the link, so they read 0 while the port is disabled, as at reset (log 139). -/
def CamState.stat (q : CamState) : Word :=
  let on := q.link != .disabled
  word [q.link.code, fld 2 1 (b2n (on && q.direct.twoLanes)), fld 3 1 (b2n (on && q.direct.cxp12)), fld 4 1 (b2n (!q.frames.isEmpty)),
    fld 5 1 (b2n q.uncertainNow), fld 6 1 (b2n (!q.writes.isEmpty)), fld 8 16 q.gen.toNat, fld 24 16 q.unmatched]

/-! ### Lanes (R425) -/

/-- ROLE as a code (R425). -/
def LaneRole.code : LaneRole → Nat
  | .powerDown => 0 | .head => 1 | .fabric => 2 | .camera => 3 | .pcie => 4

/-- STATE as a code (R425). -/
def LaneSt.code : LaneSt → Nat
  | .down => 0 | .detect => 1 | .train => 2 | .lock => 3 | .caps => 4 | .active => 5 | .wait => 6 | .loopback => 7

/-- RATE in Mbit/s (R425). -/
def State.laneRate (s : State) (n : LaneNo) : Nat :=
  let l := s.lanes.lanes[n]
  match l.role with
  | .powerDown => 0
  | .head | .fabric => match l.st with | .down | .detect | .wait => 0 | _ => 16000
  | .camera =>
    let q := s.cam.ports[(Fin.ofNat 4 ((n.val - 48) / 2) : CamNo)]
    let on := match q.link with | .disabled | .waitReset | .waitLock => false | _ => n.val % 2 == 0 || q.direct.twoLanes
    if on then (if q.direct.cxp12 then 12500 else 10000) else 0
  | .pcie => (Config.pcieRate n.val).toNat

/-- DEV_LANEn_STAT (R425). -/
def State.laneStat (s : State) (n : LaneNo) : Word :=
  let l := s.lanes.lanes[n]
  let st := match l.role with | .head | .fabric => l.st.code | _ => 0
  word [l.role.code, fld 3 3 st, fld 6 1 (b2n l.inverted), fld 7 1 (b2n l.eqDefault), fld 8 4 (l.backoff - 1), fld 16 16 l.trainFails,
    fld 32 16 (s.laneRate n)]

/-- DEV_LANEn_ERR (R425). -/
def LaneState.err (l : LaneState) : Word :=
  word [fld 0 16 l.codeErr, fld 16 8 l.lockLoss, fld 32 16 l.frameErr, fld 48 8 l.elastic]

/-! ### Fabric and pair (R458, R491) -/

/-- STATE of the fabric (R458). -/
def State.fabState (s : State) : Nat :=
  if !(List.finRange 32).any (fun p => s.fabActive p) then 0
  else if s.fab.root.isNone || !s.fab.settled then 1
  else if s.fab.isRoot then 4
  else if s.fab.node = 0 then 2
  else 3

/-- Node number of the root; 0 if unknown (R458). -/
def FabPart.rootNode (f : FabPart) : NodeNo :=
  match f.root with
  | none => 0
  | some (id, _, _, _) =>
    if id = f.id then f.node else match f.assigns.find? (fun a => a.1 == id) with | some a => a.2 | none => 0

/-- DEV_FAB (R458). -/
def State.devFab (s : State) : Word :=
  word [s.fab.node.toNat, fld 12 3 s.fabState, fld 16 12 s.fab.rootNode.toNat,
    fld 28 6 (match s.fab.root with | some (_, d, _, _) => d | none => 0),
    fld 40 7 (s.fab.channels.filter (fun k => match k.st with | .openCh => true | .opening => false)).length, fld 48 16 s.fab.gen.toNat]

/-- DEV_PAIR (R491). -/
def State.devPair (s : State) : Word :=
  let q := s.pair
  word [q.st.code, fld 3 1 (b2n q.unitB), fld 4 1 (b2n q.aligned), fld 5 1 (b2n q.joined), fld 6 1 (b2n q.configMatch),
    fld 7 1 (b2n q.barSilent), fld 8 1 (b2n q.partnerSeen), fld 16 16 q.agreeRun, fld 32 24 (min (2 ^ 24 - 1) (s.backlogBytes / 1048576))]

/-! ### Timebase (R506) -/

/-- SYNC as a code (R506). -/
def TimeSync.code : TimeSync → Nat
  | .free => 0 | .converging => 1 | .locked => 2 | .master => 3

/-- The last θ in ns, saturating (R506). -/
def TimePart.thetaNs (t : TimePart) : Int :=
  clampTo (2 ^ 31 - 1) (t.theta2 / 2 + (if t.theta2 % 2 ≠ 0 ∧ Config.thetaUp t.theta2 = true then 1 else 0))

/-- TB_STAT (R506). -/
def State.tbStat (s : State) : Word :=
  word [b2n s.time.locked, fld 1 2 s.time.sync.code, fld 4 12 s.timeMaster.toNat, fldI 16 32 s.time.thetaNs]

/-- TB_CMPn_CTL (R506). -/
def CmpTrigger.ctl (c : CmpTrigger) : Word :=
  word [b2n c.armed, fld 1 1 (b2n c.late), fld 2 1 (b2n c.missed), fld 8 8 c.fired.toNat, fld 16 48 c.period]

/-! ### Mailboxes and MSI-X (R510, R516) -/

/-- HMB_OUT: the oldest word, or EMPTY (R516, R518). -/
def HmbChannel.out (h : HmbChannel) : Word := h.outQ.headD 0xFFFFFFFFFFFFFFFF

/-- HMB_STAT (R516). -/
def HmbChannel.stat (h : HmbChannel) : Word :=
  word [b2n h.inWord.isSome, fld 1 1 (b2n (!h.outQ.isEmpty)), fld 2 1 (b2n h.aborted), fld 3 1 (b2n h.peerReset), fld 4 1 (b2n h.evtOvf),
    fld 8 8 h.session.toNat, fld 16 9 h.outQ.length, fld 32 16 h.evtLost, fld 48 6 h.outstanding.length]

/-- A register of a mailbox channel (R516). -/
def HmbChannel.read (h : HmbChannel) (o : Nat) : Word :=
  match o with
  | 0x00 => h.inWord.getD 0
  | 0x08 => h.out
  | 0x10 => h.stat
  | 0x18 => word [fld 1 1 (b2n h.inNotify)]
  | _ => 0

/-- An MSI-X table entry's address, or its data and vector control (R510). -/
def MsixEntry.read (e : MsixEntry) (upper : Bool) : Word :=
  if upper then word [e.data.toNat, fld 32 1 (b2n e.masked)] else e.address

/-! ### BAR0 (R509, R510) -/

/-- The registers below 0x0200 (R510). -/
def State.readLow (s : State) (o : Nat) : Word :=
  match o with
  | 0x00 => s.devId
  | 0x08 => s.devState
  | 0x80 => s.print.pageCount
  | 0x88 => s.flipTime
  | 0x90 => s.pageNowWord
  | 0x98 => s.devGov
  | 0xA0 => s.devSluice
  | 0xA8 => BitVec.ofNat 64 s.sluice.barLine
  | 0xB0 => s.headTemps
  | 0xC0 => s.enc.encs[(0 : EncNo)].position
  | 0xC8 => s.enc.encs[(0 : EncNo)].angleWord
  | 0xD0 => s.enc.encs[(0 : EncNo)].stat
  | 0xD8 => s.enc.encs[(1 : EncNo)].position
  | 0xE0 => s.enc.encs[(1 : EncNo)].angleWord
  | 0xE8 => s.enc.encs[(1 : EncNo)].stat
  | 0xF0 => s.devSw
  | 0x1A0 => s.devFab
  | 0x1A8 => s.fab.id
  | 0x1B0 => s.devPair
  | 0x1B8 => word [s.pair.claim.toNat, fld 32 32 s.pair.highest.toNat]
  | _ => 0

/-- The registers of the axes, from 0x0100 (R355). -/
def State.readAxis (s : State) (o : Nat) : Word :=
  let a : AxisNo := Fin.ofNat 4 ((o - 0x100) / 0x18)
  match (o - 0x100) % 0x18 with
  | 0x00 => BitVec.ofInt 64 s.motion.axes[a].micro
  | 0x08 => s.axisStat a
  | _ => s.motion.axes[a].latchWord

/-- The registers of the camera ports, from 0x0160 (R387). -/
def State.readCam (s : State) (o : Nat) : Word :=
  let p : CamNo := Fin.ofNat 4 ((o - 0x160) / 0x10)
  if o % 0x10 = 0 then s.cam.ports[p].stat else word [fld 0 48 s.cam.ports[p].frameNow]

/-- The registers of the timebase, from 0x0200 (R506). -/
def State.readTime (s : State) (o : Nat) : Word :=
  match o with
  | 0x200 => BitVec.ofInt 64 s.now
  | 0x208 => s.time.raw
  | 0x210 => BitVec.ofInt 64 s.time.offset
  | 0x218 => word [fldI 0 32 s.time.rate]
  | 0x220 => s.time.epoch
  | 0x228 => s.tbStat
  | 0x230 => s.time.capture
  | _ =>
    if o < 0x240 then 0
    else
      let c := s.time.triggers[(Fin.ofNat 8 ((o - 0x240) / 0x10) : CmpNo)]
      if o % 0x10 = 0 then BitVec.ofNat 64 c.value else c.ctl

/-- What an 8-byte read of a BAR0 offset gives; it changes nothing (R509, R510). -/
def State.readBar0 (s : State) (o : Nat) : Word :=
  if o % 8 ≠ 0 then 0
  else if 0x100 ≤ o ∧ o < 0x160 then s.readAxis o
  else if 0x160 ≤ o ∧ o < 0x1A0 then s.readCam o
  else if o < 0x200 then s.readLow o
  else if o < 0x2C0 then s.readTime o
  else if 0x400 ≤ o ∧ o < 0x800 then
    let n : LaneNo := Fin.ofNat 64 ((o - 0x400) / 0x10)
    if o % 0x10 = 0 then s.laneStat n else s.lanes.lanes[n].err
  else if o = 0x800 then word [s.host.irqPending.toNat]
  else if o = 0x808 then word [s.host.irqMask.toNat]
  else if 0x1000 ≤ o ∧ o < 0x1200 then s.host.channels[(Fin.ofNat 8 ((o - 0x1000) / 0x40) : Chan)].read (o % 0x40)
  else if 0x2000 ≤ o ∧ o < 0x2200 then (s.host.msix.toList.getD ((o - 0x2000) / 16) {}).read (decide (o % 16 = 8))
  else if o = 0x3000 then word [s.host.msixPending.toNat]
  else 0

end Sys2Proof.Machine
end

