-- ==== Sys2Proof/Machine/SecOps.lean ====
section
/-!
DEFINITION. Keys, nonces and signatures as bytes (R76, R555, R567), and the check of a firmware image (R557, R559).
-/

namespace Sys2Proof.Machine

/-- The drift of each DQS interval oscillator against its baseline (R593). -/
def DramPart.drift (d : DramPart) (readings : List Nat) : List Int :=
  (readings.zip d.dqsBase).map (fun (p : Nat × Nat) => (p.1 : Int) - p.2)

/-! ### The on-die temperature sensors (R610, R617) -/

/-- Twice the median of temperatures; with an even number of them the sum of the middle two (log 13). -/
def tempMedian2 (ts : List Int) : Int :=
  let l := sortBy (fun a b => decide (a ≤ b)) ts
  l.getD ((l.length - 1) / 2) 0 + l.getD (l.length / 2) 0

/-- Sensors that differ from the median by more than 5 °C; temperatures in 1/16 °C (R617). -/
def badSensors (t : Vector Int 8) : List Nat :=
  (List.range 8).filter (fun i => decide (160 < (2 * (t.toList.getD i 0) - tempMedian2 t.toList).natAbs))

/-- The median of the sensors not excluded lies above 125 °C (R610). -/
def overTemperature (excluded : Byte) (t : Vector Int 8) : Bool :=
  let l := ((List.range 8).filter (fun i => !excluded.getLsbD i)).map (fun i => t.toList.getD i 0)
  !l.isEmpty && decide (4000 < tempMedian2 l)

/-- A P-384 public key or a signature of 12 words: 96 bytes, big-endian (R555). -/
def big768 (ws : List Word) : BitVec 768 := BitVec.ofNat 768 (beNat ((bytesOf ws).take 96))

/-- 96 bytes of a key or a signature as 12 words (R555). -/
def words768 (v : BitVec 768) : List Word := bytesWords (beBytes 96 v.toNat)

/-- A 384-bit number as 48 bytes, big-endian (R555). -/
def bytes384 (v : BitVec 384) : List Byte := beBytes 48 v.toNat

/-- SHA-384 of words in memory order. -/
def shaWords (ws : List Word) : BitVec 384 := Config.sha384 (bytesOf ws)

/-- The GCM nonce: salt, then SEQUENCE (R76). -/
def gcmNonce (salt : BitVec 32) (seq : Nat) : BitVec 96 := BitVec.ofNat 96 (beNat (leBytes 4 salt.toNat ++ leBytes 8 seq))

/-- The tag of a parcel's trailer: bytes 0 to 15 (chapter table of 03). -/
def trailerTag (ws : List Word) : BitVec 128 := BitVec.ofNat 128 (beNat ((bytesOf ws).take 16))

/-- Key and salt of R567 for KEY_SELECT 1. -/
def PairKey.parcelKey (k : PairKey) : BitVec 256 × BitVec 32 :=
  let b := hkdfBytes (keyBytes k.pk) [] (asciiBytes "TZM-P-ENC") 36
  (bytesKey b, BitVec.ofNat 32 (beNat ((slice32 b).reverse)))
where
  /-- Bytes 32 to 35. -/
  slice32 (b : List Byte) : List Byte := (b.drop 32).take 4

/-- n free words as one number: a key of the vault's random source (R555, R563, R566; log 5). -/
def State.freeWide (s : State) (n : Nat) : Nat :=
  (List.range n).foldl (fun acc i => 2 ^ 64 * acc + (Config.freeValue (s.draws + i)).toNat) 0

/-- n free words have been used. -/
def State.drewN (s : State) (n : Nat) : State := { s with draws := s.draws + n }

/-- DEVICE_ID as bytes, lowest first. -/
def State.idBytes (s : State) : List Byte := leBytes 8 s.fab.id.toNat

/-- 768 bits as 96 bytes, big-endian (R555). -/
def bytes768 (v : BitVec 768) : List Byte := beBytes 96 v.toNat

/-- The print log's counters start afresh with a new pair key or owner (R575). -/
def SecPart.restartLog (x : SecPart) : SecPart := { x with count := 0, chainHash := none, released := 0 }

/-! ### Firmware images (R557, R559) -/

/-- LENGTH of an image header in bytes (R557). -/
def imageLength (ws : List Word) : Nat := bits (wordAt ws 1) 23 0

/-- An image with SIGNATURE taken as zero. -/
def unsigned (ws : List Word) : List Word :=
  ws.take 14 ++ List.replicate 12 0 ++ (ws.take (imageLength ws / 8)).drop 26

/-- LENGTH is a multiple of 64 from 512 to 16,777,088 that the words hold (R557). -/
def imageLengthBad (ws : List Word) : Bool :=
  let n := imageLength ws
  decide (n < 512) || decide (16777088 < n) || decide (n % 64 ≠ 0) || decide (8 * ws.length < n)

/-- The first reason that refuses an image: 1 header or LENGTH, 2 key hash, 3 signature, 4 SVN (R557, R559). -/
def SecPart.imageReason (x : SecPart) (ws : List Word) : Option Nat :=
  let key := big768 (slice ws 2 12)
  if bits (wordAt ws 0) 31 0 ≠ 0x4D52414E ∨ imageLengthBad ws then some 1
  else if shaWords (slice ws 2 12) ≠ x.imageKey then some 2
  else if !Config.ecdsaVerify key (shaWords (unsigned ws)) (big768 (slice ws 14 12)) then some 3
  else if bits (wordAt ws 0) 55 48 < x.svn then some 4
  else none

/-! ### DRAM sizes (R103, R104, R582) -/

/-- Capacity of a population in GB (R582). -/
def populationGB (p : Fin 6) : Nat := match p.val with | 0 => 8 | 1 => 16 | 2 => 32 | 3 => 48 | _ => 64

/-- DRAM capacity in GB; 0 before the board record is read. -/
def SysPart.dramGB (y : SysPart) : Nat := match y.board with | some b => populationGB b.population | none => 0

/-- DRAM capacity in bytes: R103 leaves 5,385 MiB of 8 GB, so a GB is 10^9 bytes (log 33). -/
def SysPart.dramBytes (y : SysPart) : Nat := 1000000000 * y.dramGB

/-- The layer store in MiB: what the other regions leave (R103). -/
def SysPart.layerStoreMiB (y : SysPart) : Nat := y.dramBytes / 1048576 - regionSizes.sum

/-- Allocations of the layer store: first unit and units, of layers and of parcels in flight (R104). -/
def StorePart.allocs (x : StorePart) : List (Nat × Nat) :=
  x.layers.flatMap (fun l => l.allocs) ++
  x.flights.toList.flatMap (fun f => match f with | some f => if f.alloc = 0 then [] else [(f.base, f.alloc)] | none => [])

/-- Units of 64 KiB in use (R104). -/
def StorePart.unitsUsed (x : StorePart) : Nat := (x.allocs.map (fun a => a.2)).sum

/-- Units of 64 KiB free (R104). -/
def State.unitsFree (s : State) : Nat := 16 * s.sys.layerStoreMiB - s.store.unitsUsed

end Sys2Proof.Machine
end

