-- ==== Sys2Proof/Machine/ParcelOps.lean ====
section
/-!
DEFINITION. Parcels (03_page_store_and_parcels.md): sources, outcomes, the header's checks, the content checks, and what a
publication does.
-/

namespace Sys2Proof.Machine

/-! ### Sources and outcomes (R79, R81) -/

/-- The source code of R81. -/
def ParcelSource.code : ParcelSource → Nat
  | .host c => c.val | .partner => 8 | .peer _ => 9

/-- CONTENT of a header (R75). -/
def content (h : List Word) : Nat := bits (wordAt h 0) 15 8

/-- PARCEL_ID of a header (R75). -/
def parcelId (h : List Word) : Nat := bits (wordAt h 0) 63 32

/-- LENGTH of a header in bytes (R75). -/
def parcelLength (h : List Word) : Nat := bits (wordAt h 1) 23 0

/-- SEQUENCE of a header (R75). -/
def parcelSeq (h : List Word) : Nat := (wordAt h 2).toNat

/-- The response to a load (R80, R81). -/
def State.loadAnswer (s : State) (r : LoadReq) (st : Code) (result : Nat) : State :=
  s.respond r.origin r.opcode r.tag st (low40 result)

/-- The outcome of a parcel that fails (R81): the event and the response carry PARCEL_ID with the source; extra stands in
bits [39:36] of both, and reason takes the source's place in the response of NOZZLE_MAP_BAD and FW_REJECTED. -/
def State.loadFails (s : State) (r : LoadReq) (id : Nat) (c : Code) (extra : Nat) (reason : Option Nat) : State :=
  let detail := id + fld 32 4 r.src.code + fld 36 4 extra
  let result := match reason with | some n => id + fld 32 4 n | none => detail
  (if c = .argBad ∨ c = .bufferSmall then s else s.raise c (low40 detail)).loadAnswer r c result

/-- The transfer of a load is over (R453). -/
def State.endTransfer (s : State) (r : LoadReq) : State :=
  match r.xfer with
  | none => s
  | some x => { s with fab := { s.fab with bulkIn := s.fab.bulkIn.filter (fun (b : BulkIn) => b.xfer != x || some b.src != (match r.origin with
      | .peer n _ => some n | _ => none)) } }

/-- A slot is free (R79). -/
def State.freeSlot (s : State) (k : SlotNo) : State :=
  let s1 := { s with store := { s.store with flights := s.store.flights.set k none } }
  match s.store.flights[k] with
  | some f => s1.endTransfer f.req
  | none => s1

/-- PARCEL_ID of a parcel in flight; before its header has arrived it is not known, and free (log 5). -/
def State.flightId (s : State) (f : Flight) : State × Nat :=
  match f.header with
  | some h => (s, parcelId h)
  | none => (s.drew, s.free.toNat % 2 ^ 32)

/-- A parcel in flight is discarded (R80). -/
def State.discardFlight (s : State) (k : SlotNo) (f : Flight) (c : Code) (extra : Nat) : State :=
  let p := s.flightId f
  (p.1.freeSlot k).loadFails f.req p.2 c extra none

/-- The host session of a channel ends: its keys go, and a parcel that has passed step 2 under it is discarded (R564). -/
def State.endSession (s : State) (n : Chan) : State :=
  if s.sec.sessions[n].isNone then s
  else
    (List.finRange 8).foldl (fun s k => match s.store.flights[k] with
      | some f =>
        if f.req.src == .host n && !f.verified && (match f.header with | some h => bits (wordAt h 0) 23 16 == 0 | none => false) then
          s.discardFlight k f .parcelHeaderBad 6
        else s
      | none => s) { s with sec := { s.sec with sessions := s.sec.sessions.set n none } }

/-! ### Starting a pull (R79) -/

/-- The limits of R79 let a load start. -/
def StorePart.mayStart (x : StorePart) (r : LoadReq) : Bool :=
  let srcs := x.flights.toList.filterMap (fun f => f.map (fun f => f.req.src))
  match r.src with
  | .host _ => !srcs.contains r.src
  | .partner => decide ((srcs.filter (fun q => q == .partner)).length < 4)
  | .peer _ => true

/-- The oldest waiting load that may start: older loads of its source start first (R79). -/
def StorePart.nextLoad (x : StorePart) : Option LoadReq := x.waiting.find? (fun r => x.mayStart r)

/-- The lowest free slot. -/
def StorePart.freeSlotNo (x : StorePart) : Option SlotNo := (List.finRange 8).find? (fun k => x.flights[k].isNone)

/-! ### The header (R75, R80 steps 2 to 4) -/

/-- LENGTH is out of range, or the parcel's bytes are not 128 + LENGTH (R75, R548). -/
def lengthBad (h : List Word) (total : Nat) : Bool :=
  let n := parcelLength h
  decide (n < 64) || decide (16777088 < n) || decide (n % 64 ≠ 0) || decide (total ≠ 128 + n)

/-- The key of KEY_SELECT for a source, with its salt: the session of the sending host channel, or the pair key (R75, R563, R567). -/
def State.parcelKey (s : State) (src : ParcelSource) (select : Nat) : Option (BitVec 256 × BitVec 32) :=
  if select = 0 then match src with
    | .host n => s.sec.sessions[n].map (fun k => (k.key, k.salt))
    | _ => none
  else s.sec.pairKey.map PairKey.parcelKey

/-- The failing field of step 2 (R81). Where several fields fail the rule gives no order: the one of the lowest number is told (log 135). -/
def State.headerField (s : State) (r : LoadReq) (h : List Word) : Option Nat :=
  let w0 := wordAt h 0
  if bits w0 7 0 ≠ 1 then some 1
  else if content h = 0 ∨ 7 < content h then some 2
  else if 1 < bits w0 23 16 then some 3
  else if lengthBad h r.total then some 4
  else if bits w0 31 24 ≠ 0 ∨ bits (wordAt h 1) 63 24 ≠ 0 ∨ !allZero (slice h 3 5) then some 5
  else if (s.parcelKey r.src (bits w0 23 16)).isNone then some 6
  else none

/-- The highest SEQUENCE verified in the sequence space of a header. A pair key's space is that of the unit in bit [63] (R80 step 3, R485,
R564, R569). Of this unit's own space R569 keeps only the next value to send: the model keeps what it has verified there too (log 134). -/
def State.highestSeq (s : State) (r : LoadReq) (h : List Word) : Nat :=
  if bits (wordAt h 0) 23 16 = 0 then
    match r.src with
    | .host n => (match s.sec.sessions[n] with | some k => k.highest | none => 0)
    | _ => 0
  else match s.sec.pairKey with
    | some k => if bitAt (wordAt h 2) 63 != s.pair.unitB then k.highest else k.own
    | none => 0

/-- SEQUENCE as it counts in its space (R485). -/
def seqCount (h : List Word) : Nat := if bits (wordAt h 0) 23 16 = 0 then parcelSeq h else bits (wordAt h 2) 62 0

/-- Units of 64 KiB for a payload (R80 step 4, R104). -/
def parcelUnits (h : List Word) : Nat := ceilDiv (parcelLength h) 65536

/-! ### Content checks (R80 step 9) -/

/-- A part-index entry breaks step 5 of R93. -/
def State.entryBad (s : State) (d : LayerDesc) (old : List LayerBlock) (words : Nat) (e : PartEntry) : Bool :=
  e.resvd || !d.covers (mapPositions s.mapper.inForce) e.segment || decide (bandsOf d.lines ≤ e.band) ||
  old.any (fun b => b.segment == e.segment && b.band == e.band) || decide (words < e.offset + e.count)

/-- The checks of R93. -/
def State.layerPartFault (s : State) (ws : List Word) : Option Code :=
  let w4 := wordAt ws 4
  let n := bits w4 15 0
  match parseLayerDesc (slice ws 0 4) with
  | none => some .layerPartBad
  | some d =>
    if n = 0 ∨ bits w4 63 16 ≠ 0 ∨ !allZero (slice ws 5 3) then some .layerPartBad
    else
      let old := findLayer s.store.layers d.id
      if old.any (fun l => l.complete s.mapper.inForce) then some .layerExists
      else if old.any (fun l => l.desc != d) then some .layerPartBad
      else if old.isNone ∧ 65536 ≤ s.store.layers.length then some .layerTableFull
      else
        let es := partEntries ws n
        let blocks := match old with | some l => l.blocks | none => []
        if ws.length < 8 + 2 * n ∨ es.any (s.entryBad d blocks ws.length) ∨ !entriesDistinct es then some .layerPartBad else none

/-- The checks of R99. -/
def State.pagesFault (s : State) (ws : List Word) : Option Code :=
  let ps := parsePages 64 ws
  let final (e : PageEntry) : Bool := e.state == .done || e.state == .defective || e.state == .missed
  if ¬ (ps.map (fun p => p.id)).Nodup ∨ ps.any (fun p => s.store.pages.any (fun e => e.desc.id == p.id && !final e)) then
    some .pageIdInUse
  else if 4096 < (s.store.pages.filter (fun e => !ps.any (fun p => p.id == e.desc.id))).length + ps.length then some .pageTableFull
  else none

/-- A CONTONE reference of a COMMITTED or PRINTING page names an array (R144). -/
def State.arrayUsed (s : State) (i : Fin 8) : Bool :=
  s.queuedDescs.any (fun d => d.refs.any (fun r => r.array == i && (match findLayer s.store.layers r.layer with
    | some l => l.desc.kind == .contone
    | none => false)))

/-- The checks of R144. Where SCREEN_BAD and OBJECT_IN_USE both apply the rule gives no order: SCREEN_BAD is judged first (log 135). -/
def State.screenFault (s : State) (ws : List Word) : Option Code :=
  match parseScreen ws with
  | none => some .screenBad
  | some ss => if ss.any (fun x => match x with | .array i _ => s.arrayUsed i | _ => false) then some .objectInUse else none

/-- A generator that a COMMITTED or PRINTING page uses (R155, R158). -/
def State.generatorUsed (s : State) (g : BitVec 32) : Bool := s.queuedDescs.any (fun d => s.usesGenerator d g)

/-- The checks of R155. Where GLYPH_SET_BAD and OBJECT_IN_USE both apply the rule gives no order: GLYPH_SET_BAD is judged first, but for the
number of sets (log 135). -/
def State.glyphFault (s : State) (ws : List Word) : Option Code :=
  match parseGlyphSet ws with
  | none => some .glyphSetBad
  | some g =>
    if s.store.glyphs.any (fun x => x.id == g.id) then
      if s.store.generators.any (fun q => !q.datamatrix && q.glyphSet == g.id && s.generatorUsed q.id) then some .objectInUse
      else none
    else if 64 ≤ s.store.glyphs.length then some .glyphSetBad
    else none

/-- The checks of R199 and R201, with the reason of NOZZLE_MAP_BAD. -/
def State.mapFault (s : State) (ws : List Word) : Option (Code × Option Nat) :=
  match mapReason ws with
  | some r => some (.nozzleMapBad, some r)
  | none =>
    let m := parseMap ws
    match s.mapper.inForce with
    | some f =>
      if (m.spares != f.spares ∨ m.positions.length ≠ f.positions.length) ∧ s.print.queue ≠ [] then some (.objectInUse, none)
      else none
    | none => none

/-- The embedded commands of a DOCKET payload: command word and docket words; none when they do not end within LENGTH (R543). fuel is
COUNT. -/
def embedded : Nat → List Word → Option (List (Word × List Word))
  | 0, _ => some []
  | fuel + 1, ws =>
    match ws with
    | w :: n :: rest =>
      let k := bits n 15 0
      if rest.length < k then none else (embedded fuel (rest.drop k)).map (fun l => (w, rest.take k) :: l)
    | _ => none

/-- The embedded commands of a DOCKET parcel (R543). -/
def docketCommands (ws : List Word) : Option (List (Word × List Word)) := embedded (bits (wordAt ws 0) 7 0) (ws.drop 4)

/-- The checks of R543. -/
def docketFault (r : LoadReq) (ws : List Word) : Option Code :=
  if (docketCommands ws).isNone then some .argBad
  else if r.bufAddr ≠ 0 ∧ r.bufLen < 8 * bits (wordAt ws 0) 7 0 then some .bufferSmall
  else none

/-- The content checks of a parcel: the code, and the reason where the response carries one (R80 step 9). -/
def State.contentFault (s : State) (r : LoadReq) (h ws : List Word) : Option (Code × Option Nat) :=
  let plain (c : Option Code) : Option (Code × Option Nat) := c.map (fun c => (c, none))
  match content h with
  | 1 => plain (s.pagesFault ws)
  | 2 => plain (s.layerPartFault ws)
  | 3 => plain (docketFault r ws)
  | 4 => plain (s.glyphFault ws)
  | 5 => plain (s.screenFault ws)
  | 6 => s.mapFault ws
  | _ => (s.sec.imageReason ws).map (fun n => (.fwRejected, some n))

/-! ### Publication (R80 step 10, R83, R95, R99, R145) -/

/-- Places of the block-index region in use: first entry and entries of each layer (R95, R103). -/
def StorePart.indexes (x : StorePart) : List (Nat × Nat) := x.layers.map (fun l => l.index)

/-- Entries of a layer's block index, in whole bursts of eight (R95). -/
def indexSize (d : LayerDesc) (p : Nat) : Nat :=
  8 * ceilDiv (((List.range 16).filter (fun s => d.covers p s)).length * bandsOf d.lines) 8

/-- A layer part's blocks enter the page store with its allocation: index entries are written, and no block data is copied (R93, R95,
R104). Each entry is a merge of R586. -/
def State.publishLayer (s : State) (v : Verified) (alloc : Nat × Nat) : State :=
  match parseLayerDesc (slice v.payload 0 4) with
  | none => s
  | some d =>
    let p := mapPositions s.mapper.inForce
    let es := partEntries v.payload (bits (wordAt v.payload 4) 15 0)
    let new := if d.generated then [] else partBlocks v.payload es (fun o => BitVec.ofNat 36 (8 * (regionBase 8 + 1024 * alloc.1) + o))
    let old := findLayer s.store.layers d.id
    let index := match old with
      | some l => l.index
      | none => (8 * firstFit (s.store.indexes.map (fun u => (u.1 / 8, u.2 / 8))) (indexSize d p / 8), indexSize d p)
    let layers := match old with
      | none => s.store.layers ++ [{ desc := d, blocks := new, allocs := [alloc], index := index }]
      | some _ => s.store.layers.map (fun (l : Layer) =>
          if l.desc.id == d.id then { l with blocks := l.blocks ++ new, allocs := l.allocs ++ [alloc] } else l)
    new.foldl (fun (s : State) b => (s.writeWords (8 * regionBase 3 + index.1 + d.entryPlace p b.segment b.band) 1).1)
      { s with store := { s.store with layers := layers } }

/-- The lowest free place of the page table (R103; log 31). -/
def StorePart.freePlace (x : StorePart) : Nat :=
  ((List.range 4096).find? (fun i => !x.pages.any (fun e => e.place == i))).getD 0

/-- A page descriptor enters the page table as DEFINED (R43, R99): its place is written anew (R586). -/
def State.publishPage (s : State) (d : PageDesc) : State :=
  let pages := s.store.pages.filter (fun e => e.desc.id != d.id)
  let x := { s.store with pages := pages }
  ({ s with store := { x with pages := pages ++ [{ desc := d, state := .defined, place := x.freePlace }] } } : State).wrote
    (regionBase 1 + 256 * x.freePlace) d.bursts

/-- A section of a SCREEN parcel takes effect for pages whose preparation begins later (R145). -/
def State.publishSection (s : State) (x : Section) : State :=
  match x with
  | .array i a => { s with store := { s.store with arrays := s.store.arrays.set i (some a) } }
  | .redist es => { s with store := { s.store with sets := { s.store.sets with redist := es } } }
  | .weights es => { s with store := { s.store with sets := { s.store.sets with weights := es } } }

/-- An object is kept as its parcel brought it, in place of those a test names (R487 step 3, log 52). -/
def State.keepObject (s : State) (old : ObjKey → Bool) (k : ObjKey) (ws : List Word) : State :=
  { s with store := { s.store with kept := s.store.kept.filter (fun x => !old x.1) ++ [(k, ws)] } }

/-- The object of a parcel about to be published is kept (R487 step 3). The parts of a layer are kept one after the other. -/
def State.keepParcel (s : State) (v : Verified) : State :=
  let ws := v.header ++ v.payload
  match content v.header with
  | 2 => match parseLayerDesc (slice v.payload 0 4) with
    | some d => s.keepObject (fun k => k == .layer d.id && (findLayer s.store.layers d.id).isNone) (.layer d.id) ws
    | none => s
  | 4 => match parseGlyphSet v.payload with
    | some g => s.keepObject (fun k => k == .glyphSet g.id) (.glyphSet g.id) ws
    | none => s
  | 5 => s.keepObject (fun _ => false) .screen ws
  | 6 => s.keepObject (fun k => k == .map) .map ws
  | _ => s

/-- The region a content is published into, where its place is not given (R103; log 31): layer descriptors, the staged firmware, or the
object store. -/
def contentRegion (content : Nat) : Nat := match content with | 1 => 0 | 2 => 3 | 7 => 1 | _ => 5

/-- The content of a parcel is published; pages are evaluated, once (R77, R83, R101): a map that takes effect at its publication has
done so. A DOCKET parcel's commands run in its own
way (R544). -/
def State.publishContent (s : State) (v : Verified) : State :=
  let s := s.keepParcel v
  let s1 := match content v.header with
    | 1 => (parsePages 64 v.payload).foldl (fun (s : State) d => s.publishPage d) s
    | 2 => s.publishLayer v v.alloc
    | 4 => match parseGlyphSet v.payload with
      | some g => { s with store := { s.store with glyphs := s.store.glyphs.filter (fun (x : GlyphSet) => x.id != g.id) ++ [g] } }
      | none => s
    | 5 => ((parseScreen v.payload).getD []).foldl (fun (s : State) x => s.publishSection x) s
    | 6 => s.publishMap (parseMap v.payload)
    | 7 => { s with store := { s.store with staged := some (BitVec.ofNat 32 (parcelId v.header), v.payload) } }
    | _ => s
  let s2 := s1.wroteIn (contentRegion (content v.header))
  if content v.header = 6 ∧ ¬ s.print.started then s2 else s2.evalPages

/-- PARCEL_VERIFIED and the response OK (R80 step 10, R81). -/
def State.loadVerified (s : State) (v : Verified) : State :=
  (s.raise .parcelVerified (low40 (parcelId v.header + fld 32 4 v.req.src.code))).loadAnswer v.req .ok
    (parcelId v.header + fld 32 8 (content v.header))

/-- A parcel the active verifies, of any CONTENT but FIRMWARE, is to be mirrored (R485). -/
def State.queueMirror (s : State) (v : Verified) : State :=
  if s.pair.paired && s.pair.st == .active && content v.header != 7 then
    { s with pair := { s.pair with mirrorQ := s.pair.mirrorQ ++ [v.header ++ v.payload] } }
  else s

/-- A DOCKET parcel's authentication (R544, R565, R603). -/
def State.docketAuth (s : State) (v : Verified) : Option ParcelAuth :=
  if bits (wordAt v.header 0) 23 16 = 0 then
    match v.req.src with | .host n => some (.session n) | _ => none
  else match v.req.src, v.req.origin with
    | .partner, .peer _ _ => some .mirror
    | .peer n, .peer _ _ => if s.pair.paired && s.pair.rider == .node n then some .offered else none
    | _, _ => none

end Sys2Proof.Machine
end

