-- ==== Sys2Proof/Machine/SessionOps.lean ====
section
/-!
DEFINITION. Host sessions (R561 to R564): the checks of SESSION_OPEN, the derivation of a session, and the commands that wait for the
parcels in flight.
-/

namespace Sys2Proof.Machine

/-- The host channel a command came on, itself or inside a parcel of the channel's session. -/
def hostChan (o : Origin) : Option Chan :=
  match o with
  | .host n _ => some n
  | .parcel (.session n) => some n
  | _ => none

/-- The docket of R561 breaks its ranges: VERSION, or the result buffer. -/
def sessionDocketBad (x : Cmd) : Bool :=
  x.dw 0 != 1 || bufferBad (x.dw 49) (x.dw 50) || decide (bits (x.dw 50) 31 0 < 192)

/-- The reason that refuses a session (R562). -/
def State.sessionReason (s : State) (x : Cmd) (n : Chan) : Option Nat :=
  let eh := big768 (slice x.docket 1 12)
  let sh := big768 (slice x.docket 13 12)
  if s.sec.lifecycle ≠ 2 then some 1
  else if s.sec.keyLocked then some 5
  else if !Config.onCurve eh || !Config.onCurve sh then some 4
  else if !s.sec.ownerKey.any (fun k => Config.ecdsaVerify k (Config.sha384 (bytes768 sh)) (big768 (slice x.docket 25 12))) then some 2
  else if !Config.ecdsaVerify sh (Config.sha384 (s.idBytes ++ [BitVec.ofNat 8 n.val] ++ bytes768 eh)) (big768 (slice x.docket 37 12)) then
    some 3
  else none

/-- The session's key and salt, and what is written to the host (R563). -/
def State.deriveSession (s : State) (x : Cmd) (n : Chan) : Session × List Word :=
  let eh := big768 (slice x.docket 1 12)
  let sh := big768 (slice x.docket 13 12)
  let priv : BitVec 384 := BitVec.ofNat 384 (s.freeWide 6)
  let ed := Config.publicKey priv
  let th := Config.sha384 (s.idBytes ++ [BitVec.ofNat 8 n.val] ++ bytes768 eh ++ bytes768 sh ++ bytes768 ed)
  let b := hkdfBytes (bytes384 (Config.ecdh priv eh)) (bytes384 th) (asciiBytes "TZM-S1") 36
  ({ key := bytesKey b, salt := BitVec.ofNat 32 (beNat ((b.drop 32).take 4).reverse), highest := 0 },
    words768 ed ++ words768 (Config.ecdsaSign (s.sec.identity.getD 0) th))

/-- A session is opened, which ends the one before (R563, R564). -/
def State.openSession (s : State) (x : Cmd) (n : Chan) : State × Option Resp :=
  let k := s.deriveSession x n
  let r := (s.drewN 6).writeBlock x (x.dw 49) (x.dw 50) k.2 0
  match r.2 with
  | some (.ok, _) =>
    let s1 := r.1.endSession n
    ({ s1 with sec := { s1.sec with sessions := s1.sec.sessions.set n (some k.1) } }, r.2)
  | o => (r.1, o)

/-- A parcel of the channel is in flight (R563). A DOCKET parcel whose command this is has been published. -/
def State.channelBusy (s : State) (n : Chan) : Bool :=
  (List.finRange 8).any (fun k => match s.store.flights[k] with
    | some f => f.req.src == .host n
    | none => false)

/-- One SESSION_OPEN that waits is served once no parcel of its channel is in flight (R563). It is checked again, since no session opens
in RETURNED or while the key region is locked (R553, R581). -/
def State.serveOpen (s : State) (w : Chan × Cmd) : State :=
  if s.channelBusy w.1 then s
  else
    let s1 := { s with sec := { s.sec with openWaits := s.sec.openWaits.erase w } }
    match s1.sessionReason w.2 w.1 with
    | some n => s1.answer w.2 0xA1 .sessionFail (low40 n)
    | none => match s1.openSession w.2 w.1 with
      | (s2, some (c, r)) => s2.answer w.2 0xA1 c r
      | (s2, none) => s2

/-- The SESSION_OPEN commands that wait. -/
def State.serveOpens (s : State) : State := s.sec.openWaits.foldl (fun (s : State) w => s.serveOpen w) s

end Sys2Proof.Machine
end

