-- ==== Sys2Proof/Machine/HostLink.lean ====
section
/-!
DEFINITION. Meanings of the host's accesses to BAR0 and of the mailboxes' steps (18_host_link_and_mailboxes.md).
-/

namespace Sys2Proof.Machine

/-! ### HMB_IN_POST, HMB_OUT_READ (R516, R518, R520) -/

/-- A word is posted: IN_FULL is set, and the command counts as outstanding. A post while IN_FULL is 1 is a host error: one of the two
commands is lost, and which one is free (R5, R6, R516, R520; log 5). -/
def State.post (s : State) (ch : Chan) (w : Word) : State :=
  let t := takenOf w
  let s1 := s.setChan ch (fun h => { h with outstanding := h.outstanding ++ [(t.tag, t.opcode)] })
  if s.host.channels[ch].inWord.isSome ∧ bitAt s.free 0 = true then s1.drew
  else if s.host.channels[ch].inWord.isSome then s1.drew.setChan ch (fun h => { h with inWord := some w })
  else s1.setChan ch (fun h => { h with inWord := some w })

/-- HMB_IN_POST (R516). -/
def execHmbInPost (ch : Chan) (w : Word) (s : State) : Out :=
  if s.bar0 then ((s.post ch w).wakeBy .post).done else s.done

/-- The oldest outbound word is taken; a response ends the count of its command (R518, R520). -/
def HmbChannel.takeOut (h : HmbChannel) : HmbChannel :=
  match h.outQ with
  | [] => h
  | w :: ws =>
    let t := takenOf w
    { h with outQ := ws, outstanding := if bitAt w 50 then h.outstanding else h.outstanding.erase (t.tag, t.opcode) }

/-- HMB_OUT_READ (R518). -/
def execHmbOutRead (ch : Chan) (s : State) : Out :=
  if s.bar0 then ((s.emit (.readReturn (0x1008 + 0x40 * ch.val) s.host.channels[ch].out)).setChan ch HmbChannel.takeOut).done else s.done

/-! ### FIRMWARE_TAKES_WORD, DOCKET_READ_COMPLETION, ENGINE_CHANNEL_POST (R514, R517, R529, R536) -/

/-- Firmware takes the words of the engine channels, ahead of the others (R529). What they say is not stated. -/
def State.serveEngines (s : State) : State :=
  { s with host := { s.host with engineCh := s.host.engineCh.map (fun (c : EngineChannel) => { c with toLockkeeper := none }) } }

/-- IN_FULL clears (R517, R528). -/
def State.clearIn (s : State) (ch : Chan) : State :=
  let s1 := s.setChan ch (fun h => { h with inWord := none })
  if s.host.channels[ch].inNotify then s1.irq ch.val else s1

/-- FIRMWARE_TAKES_WORD (R517): an opcode that no group assigns is answered at once (R536 step 1). -/
def execFirmwareTakesWord (ch : Chan) (s : State) : Out :=
  if !s.serves then s.done
  else
    let s := s.serveEngines
    match s.host.channels[ch].inWord with
    | none => s.done
    | some w =>
      let t := takenOf w
      let s1 := s.clearIn ch
      if assignedOpcodes.contains t.opcode.toNat then (s1.setChan ch (fun h => { h with taken := h.taken ++ [t] })).done
      else (s1.pushHost ch [responseWord t.opcode t.tag .unknownOpcode 0]).done

/-- Opcodes whose ARG is a docket address (R536 step 2; group tables of R545), without the secure ones, which no posted word carries. -/
def docketOpcodes : List Nat :=
  [0x02, 0x14, 0x15, 0x1A, 0x30, 0x40, 0x42, 0x44, 0x46, 0x48, 0x50, 0x51, 0x60, 0x61, 0x62, 0x63] ++
  [0x70, 0x71, 0x80, 0x81, 0x90, 0x91, 0x93, 0xA0, 0xA1, 0xA6, 0xAB, 0xD3]

/-- A docket read of a command is under way (R512, R514, R515, R536). -/
def State.readsDocket (s : State) (ch : Chan) (t : TakenCmd) : Bool :=
  t.docketFlag && docketOpcodes.contains t.opcode.toNat && s.host.busMaster && s.bar0 && !s.standbyRefuses t.opcode
    { origin := .host ch s.host.channels[ch].session, tag := t.tag }

/-- DOCKET_READ_COMPLETION (R514). -/
def execDocketReadCompletion (ch : Chan) (tag : BitVec 5) (r : DocketRead) (s : State) : Out :=
  match s.host.channels[ch].taken.find? (fun t => t.tag == tag) with
  | none => s.done
  | some t =>
    if !s.readsDocket ch t then s.done
    else match r with
      | .words ws => (s.setChan ch (fun h => { h with taken := h.taken.map (fun (u : TakenCmd) =>
          if u.tag == tag then { u with docket := some (u.docket.getD [] ++ ws) } else u) })).done
      | .error a =>
        ((s.setChan ch (fun h => { h with taken := h.taken.erase t })).pushHost ch
          [responseWord t.opcode t.tag .hostDmaError (low40 (a.toNat / 64))]).done

/-- ENGINE_CHANNEL_POST (R529): an engine waits until the word before has been taken. -/
def execEngineChannelPost (k : EngineNo) (w : Word) (s : State) : Out :=
  ({ s with host := { s.host with engineCh := upd s.host.engineCh k (fun c =>
    { c with toLockkeeper := some (c.toLockkeeper.getD w) }) } }).done

/-! ### Resets of the host end (R515, R524, R526, R608) -/

/-- The detail of DEVICE_READY (R608). summary: bits [11:0] of the self-test summary word. -/
def State.readyDetail (s : State) (summary : Nat) : BitVec 40 :=
  pack40 [fld 0 3 s.sys.cause, fld 3 1 (b2n (s.sys.image.any (fun i => i.slot))), fld 4 12 summary, fld 16 12 s.sys.bootMs]

/-- A host-end reset of a channel (R524, R526): the inbound word stays, the outbound words and the commands not started are dropped,
and MAILBOX_ABORTED is the first word of the new session; at the first one of HMB0 after boot DEVICE_READY follows (R608). The
channel's security session ends (R564). -/
def State.hostEndReset (s : State) (ch : Chan) : State :=
  let h := s.host.channels[ch]
  let cleared := h.outQ.length
  let s1 := s.setChan ch (fun h => { h with
    outQ := [], aborted := h.aborted || !h.outQ.isEmpty, session := h.session + 1, taken := [], running := [], dropped := 0
    outstanding := match h.inWord with | some w => [((takenOf w).tag, (takenOf w).opcode)] | none => []
    mask := if ch = 0 then 0xFFFF else 0 })
  let ready : Bool := ch == 0 && s.sys.readyDue && s.sys.stage == 7
  let aborted := eventWord (.mailboxAborted, pack40 [fld 1 9 cleared, fld 10 6 (h.taken.length + h.running.length)])
  let s2 := s1.pushHost ch (aborted :: (if ready then [eventWord (.deviceReady, s1.readyDetail s1.sys.summaryLow)] else []))
  let s3 := if ready then { s2 with sys := { s2.sys with readyDue := false } } else s2
  (s3.endSession ch).serveOpens

/-- HOST_RESET (R524): the field is written 1; IN_NOTIFY keeps its value (log 35). -/
def execHostReset (ch : Chan) (s : State) : Out := if s.bar0 then (s.hostEndReset ch).done else s.done

/-- Every read of a host's parcel ends in an error (R80 step 6, R515). -/
def State.endParcelReads (s : State) : State :=
  (List.finRange 8).foldl (fun (s : State) k => match s.store.flights[k] with
    | some f => if f.req.xfer.isNone && !f.verified then s.discardFlight k f .parcelDmaError 0 else s
    | none => s) s

/-- A Function Level Reset (R515). -/
def State.functionReset (s : State) : State :=
  let s1 := { s with host := { s.host with irqPending := 0, irqMask := 0, msixPending := 0 } }
  ((List.finRange 8).foldl (fun (s : State) n => s.hostEndReset n) s1).endParcelReads.serveOpens

/-- FUNCTION_LEVEL_RESET (R515). -/
def execFunctionLevelReset (s : State) : Out := if s.endpoint then s.functionReset.done else s.done

/-- PCIE_POWER_STATE (R515): messages and read requests held back leave at the return to D0. -/
def execPciePowerState (d3hot : Bool) (s : State) : Out :=
  if s.endpoint then ({ s with host := { s.host with d3hot := d3hot } }).releaseMsix.askHeld.done else s.done

/-! ### Register writes (R509, R528) -/

/-- IRQ_MASK takes a value: a vector whose bit is newly set while its cause is pending is sent (R528). -/
def State.writeMask (s : State) (m : BitVec 19) : State :=
  let new := m &&& ~~~s.host.irqMask &&& s.host.irqPending
  (List.range 19).foldl (fun (s : State) v => if new.getLsbD v then s.sendMsix v else s)
    { s with host := { s.host with irqMask := m } }

/-- IRQ_MASK_WRITE (R528). -/
def execIrqMaskWrite (value : Word) (s : State) : Out :=
  if s.bar0 then (s.writeMask (BitVec.ofNat 19 value.toNat)).done else s.done

/-- Writes of 1 to HMB_STAT (R516). -/
def HmbChannel.clearStat (h : HmbChannel) (v : Word) : HmbChannel :=
  { h with aborted := h.aborted && !bitAt v 2, peerReset := h.peerReset && !bitAt v 3, evtOvf := h.evtOvf && !bitAt v 4
           evtLost := if bitAt v 4 then 0 else h.evtLost }

/-- Writes of 1 to DEV_ENCk_STAT (R331). -/
def EncState.clearStat (e : EncState) (v : Word) : EncState :=
  { e with quadErr := e.quadErr && !bitAt v 3, quadCount := if bitAt v 3 then 0 else e.quadCount, overrate := e.overrate && !bitAt v 4
           sigLoss := e.sigLoss && !bitAt v 5, indexFault := e.indexFault && !bitAt v 6 }

/-- Writes of 1 to TB_CMPn_CTL (R506). -/
def CmpTrigger.clearCtl (c : CmpTrigger) (v : Word) : CmpTrigger :=
  { c with late := c.late && !bitAt v 1, missed := c.missed && !bitAt v 2 }

/-- A half of a word replaced. -/
def putHalf (w : Word) (upper : Bool) (v : Word) : Word :=
  if upper then word [bits w 31 0, fld 32 32 v.toNat] else word [4294967296 * bits w 63 32, fld 0 32 v.toNat]

/-- A write into the MSI-X table; a message held back leaves when its entry is unmasked (R510, R528). -/
def State.writeMsix (s : State) (o : Nat) (wide : Bool) (v : Word) : State :=
  match s.host.msix.toList[(o - 0x2000) / 16]? with
  | none => s
  | some e =>
    let upper : Bool := decide (8 ≤ o % 16)
    let old := e.read upper
    let w := if wide then v else putHalf old (decide (o % 8 = 4)) v
    let e1 : MsixEntry := if upper then { e with data := BitVec.ofNat 32 (bits w 31 0), masked := bitAt w 32 } else { e with address := w }
    ({ s with host := { s.host with msix := s.host.msix.set! ((o - 0x2000) / 16) e1 } }).releaseMsix

/-- A write to a register of a mailbox channel: HMB_IN takes 8 bytes only, and a 4-byte write to it is a host error that posts
nothing (R6, R509, R516). -/
def State.writeHmb (s : State) (ch : Chan) (o : Nat) (wide : Bool) (v : Word) : State :=
  match o with
  | 0x00 => if wide then (s.post ch v).wakeBy .post else s
  | 0x10 => s.setChan ch (fun h => h.clearStat v)
  | 0x18 =>
    let s1 := s.setChan ch (fun h => { h with inNotify := bitAt v 1 })
    if bitAt v 0 then s1.hostEndReset ch else s1
  | _ => s

/-- A write to BAR0 (R509): RO registers and unassigned offsets take none. Every W1C and RW field below the MSI-X table lies in the lower
half of its register. -/
def State.writeBar0 (s : State) (o : Nat) (wide : Bool) (v : Word) : State :=
  if o % 4 ≠ 0 ∨ (wide = true ∧ o % 8 ≠ 0) then s
  else if 0x2000 ≤ o ∧ o < 0x2200 then s.writeMsix o wide v
  else if o % 8 ≠ 0 then s
  else if o = 0x800 then
    { s with host := { s.host with irqPending := s.host.irqPending &&& ~~~(BitVec.ofNat 19 v.toNat) } }
  else if o = 0x808 then s.writeMask (BitVec.ofNat 19 v.toNat)
  else if 0x1000 ≤ o ∧ o < 0x1200 then s.writeHmb (Fin.ofNat 8 ((o - 0x1000) / 0x40)) (o % 0x40) wide v
  else if o = 0xD0 then s.setEnc 0 (fun e => e.clearStat v)
  else if o = 0xE8 then s.setEnc 1 (fun e => e.clearStat v)
  else if 0x248 ≤ o ∧ o < 0x2C0 ∧ o % 0x10 = 8 then s.setCmp (Fin.ofNat 8 ((o - 0x240) / 0x10)) (fun c => c.clearCtl v)
  else s

/-- REGISTER_WRITE (R509). -/
def execRegisterWrite (offset : BitVec 16) (wide : Bool) (value : Word) (s : State) : Out :=
  if s.bar0 then (s.writeBar0 offset.toNat wide value).done else s.done

/-! ### AXIS_LATCH_READ and LANE_ERR_READ (R355, R425) -/

/-- AXIS_LATCH_READ (R355): a read takes the latch. -/
def execAxisLatchRead (ax : AxisNo) (s : State) : Out :=
  if s.bar0 then
    ((s.emit (.readReturn (0x110 + 0x18 * ax.val) s.motion.axes[ax].latchWord)).setAxis ax (fun x => { x with latch := none })).done
  else s.done

/-- The fields a read of DEV_LANEn_ERR takes (R425). -/
def LaneState.takeErr (l : LaneState) (part : ReadPart) : LaneState :=
  match part with
  | .full => { l with codeErr := 0, lockLoss := 0, frameErr := 0, elastic := 0 }
  | .low => { l with codeErr := 0, lockLoss := 0 }
  | .high => { l with frameErr := 0, elastic := 0 }

/-- What the read gives, and where (R425). -/
def LaneState.readErr (l : LaneState) (n : Nat) (part : ReadPart) : Emission :=
  match part with
  | .full => .readReturn (0x408 + 0x10 * n) l.err
  | .low => .readReturn (0x408 + 0x10 * n) (word [bits l.err 31 0])
  | .high => .readReturn (0x40C + 0x10 * n) (word [bits l.err 63 32])

/-- LANE_ERR_READ (R425). -/
def execLaneErrRead (lane : LaneNo) (part : ReadPart) (s : State) : Out :=
  if s.bar0 then ((s.emit (s.lanes.lanes[lane].readErr lane.val part)).setLane lane (fun l => l.takeErr part)).done else s.done

end Sys2Proof.Machine
end

