-- ==== Sys2Proof/Machine/StripOps.lean ====
section
/-!
DEFINITION. The strip judgement on statistics records, verdicts on the health map, and what a strip gives the calibration procedures
(13_nozzle_health_and_calibration.md).
-/

namespace Sys2Proof.Machine

/-! ### A statistics record as firmware reads it (R374) -/

/-- COLS. -/
def StatsRec.cols (r : StatsRec) : Nat := bits (wordAt r.words 5) 35 18

/-- NO_SAMPLE of each column. -/
def StatsRec.noSample (r : StatsRec) : List Bool := (slice r.words 8 r.cols).map (fun w => bitAt w 45)

/-- Columns with a streak: column number and STREAK_SIGN (R375). -/
def StatsRec.streaks (r : StatsRec) : List (Nat × Bool) :=
  ((slice r.words 8 r.cols).zipIdx.filter (fun e => bitAt e.1 46)).map (fun e => (r.firstCol + e.2, bitAt e.1 47))

/-- The strip rows: page line and column values (R374). -/
def StatsRec.rows (r : StatsRec) : List (Int × List Nat) :=
  let n := packedWords 8 r.cols
  r.stripLines.zipIdx.map (fun e =>
    let ws := slice r.words (8 + r.cols + e.2 * n) n
    (e.1, (List.range r.cols).map (fun k => packedAt 8 ws k)))

/-! ### The health map (R393, R394, R400) -/

/-- The record of a nozzle with the change of state that waits for its page, if any. -/
def State.nozzleNow (s : State) (n : Nozzle) : NozzleRec :=
  let r := s.health.ports[n.port].nozzles.getD n.index {}
  match s.health.syncs.find? (fun y => y.nozzle == n) with
  | some y => { r with state := y.state }
  | none => r

/-- A nozzle's record takes a value at once. -/
def State.putNozzle (s : State) (n : Nozzle) (r : NozzleRec) : State :=
  { s with health := { s.health with ports := upd s.health.ports n.port (fun q =>
    { q with nozzles := q.nozzles.set n.index r, changed := true }) } }

/-- The event of a change of state (R394). -/
def State.nozzleEvent (s : State) (n : Nozzle) (old new : NozzleState) (cause : Nat) : State :=
  let d := [fld 0 5 n.port.val, fld 5 13 n.index, fld 18 2 cause]
  if old != .failed && new == .failed then s.raiseF .nozzleFailed d
  else if old == .failed && new == .ok then s.raiseF .nozzleRecovered d
  else s

/-- A verdict of the strip on a nozzle (R393); in a redundant bar a change of state waits for the second page after X, and goes to the
partner (R400). -/
def State.strike (s : State) (n : Nozzle) (v : Verdict) : State :=
  if s.health.ports[n.port].nozzles.length ≤ n.index then s
  else
    let old := s.nozzleNow n
    let new := old.apply s.health.set v
    let s1 :=
      if s.pair.paired then
        let s2 := s.putNozzle n { new with state := (s.health.ports[n.port].nozzles.getD n.index {}).state }
        if new.state = old.state then s2 else (s2.syncChange n new.state s.lastPrepared).sendChange n new.state s.lastPrepared
      else s.putNozzle n new
    s1.nozzleEvent n old.state new.state 1

/-- The candidate of a position of a map (R175). -/
def NozzleMap.candAt (m : NozzleMap) (position : Nat) (candB : Bool) : Option Cand :=
  match m.positions[position]? with
  | some e => if candB then e.b else some e.a
  | none => none

/-! ### Calibration on strips (R404, R405) -/

/-- A tally of a candidate takes one strip (R405). -/
def CalTally.take (t : CalTally) (v : Verdict) (ratio : Rat) : CalTally :=
  { t with missing := t.missing + (if v = .missing then 1 else 0), okay := t.okay + (if v = .ok then 1 else 0)
           ratio := (t.ratio.1 + ratio, t.ratio.2 + 1) }

/-- The tallies after a strip. -/
def tallyStrip (ts : List CalTally) (js : List (Nozzle × Verdict × Rat)) : List CalTally :=
  js.foldl (fun ts j =>
    if ts.any (fun t => t.nozzle == j.1) then ts.map (fun t => if t.nozzle == j.1 then t.take j.2.1 j.2.2 else t)
    else ts ++ [(CalTally.mk j.1 0 0 (0, 0)).take j.2.1 j.2.2]) ts

/-- The strip counts for a procedure (R405): nozzle detection takes strips printed after the forcing, density those without
UNCERTAIN. -/
def CalRun.takes (r : CalRun) (m : NozzleMap) (g : CamPage) (uncertain : Bool) : Bool :=
  match r.proc with
  | .nozzle p => !m.spares || g.forced.getLsbD p.val
  | .density => !uncertain
  | _ => false

/-- A judged strip of this device's own slot for one procedure (R404, R405). -/
def State.calStrip (s : State) (m : NozzleMap) (g : CamPage) (uncertain : Bool) (js : List (Nozzle × Verdict × Rat))
    (r : CalRun) : State :=
  if !r.takes m g uncertain then s
  else match s.printFault with
    | some n => s.calFail r n
    | none =>
      if r.proc = .density ∧ g.mode ≠ r.mode then s.calFail r 4
      else
        let mine := js.filter (fun j => match r.proc with | .nozzle p => j.1.port == p | _ => true)
        { s with health := { s.health with runs := s.health.runs.map (fun q =>
            if q.proc == r.proc then { q with strips := q.strips + 1, tally := tallyStrip q.tally mine } else q) } }

/-! ### Reports to other bars (R398) -/

/-- The argument of a NOZZLE_REPORT; verdict 3 is a strip end (R398). -/
def reportArg (slot position : Nat) (candB : Bool) (verdict : Nat) : BitVec 48 :=
  BitVec.ofNat 48 (fld 0 17 position + fld 17 1 (b2n candB) + fld 18 2 verdict + fld 20 3 slot)

/-- VERDICT as a code (R398). -/
def Verdict.code : Verdict → Nat
  | .ok => 0 | .weak => 1 | .missing => 2

/-- The verdicts of a slot go to the devices named for it: those that differ from the last sent, or all after a loss, and a strip end
(R398, R399). -/
def State.sendSlot (s : State) (slot : Nat) (js : List (StripSignal × Verdict × Rat)) : State :=
  let e := s.health.set.slotNodes.toList.getD slot (0, 0)
  let nodes := [e.1, e.2].filter (fun n => n != 0)
  if nodes.isEmpty then s
  else
    let all := s.health.resend.getLsbD slot
    let last (j : StripSignal × Verdict × Rat) : Option SentVerdict :=
      s.health.sentV.find? (fun v => v.slot == slot && v.position == j.1.position && v.candB == j.1.candB)
    let send := js.filter (fun j => all || (match last j with | some v => v.verdict != j.2.1 | none => true))
    let kept := s.health.sentV.filter (fun v => v.slot != slot || !js.any (fun j =>
      j.1.position == v.position && j.1.candB == v.candB))
    let now : List SentVerdict := js.map (fun j => ⟨slot, j.1.position, j.1.candB, j.2.1⟩)
    let s1 := { s with health := { s.health with sentV := kept ++ now, resend := s.health.resend &&& ~~~(1#8 <<< slot) } }
    let args := send.map (fun j => reportArg slot j.1.position j.1.candB j.2.1.code) ++ [reportArg slot 0 false 3]
    nodes.foldl (fun s n => s.report n slot args) s1

/-! ### A strip (R388 to R392) -/

/-- The judged candidates of a slot with verdicts and ratios (R391, R392). -/
def judgeSlot (h : HealthSettings) (m : NozzleMap) (g : CamPage) (r : StatsRec) (rows : List (Int × List Nat)) (slot : Nat) :
    List (StripSignal × Verdict × Rat) :=
  let xs := stripSignals h m rows r.firstCol g.gp slot r.noSample g.length
  xs.filterMap (fun x => (verdictOf h xs x).map (fun v => (x, v.1, v.2)))

/-- The verdicts of this device's own slot strike its nozzles and feed its calibration procedures (R393, R400, R405). -/
def State.ownSlot (s : State) (m : NozzleMap) (g : CamPage) (uncertain : Bool) (js : List (StripSignal × Verdict × Rat)) : State :=
  let ns := js.filterMap (fun j => (m.candAt j.1.position j.1.candB).map (fun c => (c.nozzle, j.2.1, j.2.2)))
  let s1 := if s.noClaim then s else ns.foldl (fun s j => s.strike j.1 j.2.1) s
  s1.health.runs.foldl (fun s r => s.calStrip m g uncertain ns r) s1

/-- A whole strip is judged, slot by slot (R391). -/
def State.judgeStrip (s : State) (g : CamPage) (r : StatsRec) (k : StripGather) : State :=
  match s.mapper.inForce with
  | none => s
  | some m =>
    (List.range s.health.set.barSlots).foldl (fun s slot =>
      let js := judgeSlot s.health.set m g r k.rows slot
      let s1 := if slot = s.health.set.barSlot then s.ownSlot m g k.uncertain js else s
      s1.sendSlot slot js) s

/-- The strip lines of a page that are printed (R388). -/
def HealthSettings.printed (h : HealthSettings) (g : CamPage) : Nat := min (h.stripLines g.spares) g.length

/-- The strip of a page has been imaged whole once a frame's triggers, sent or skipped, have reached its end: no further camera line of
it can follow (R361, R373, R388). -/
def stripWhole (h : HealthSettings) (div : Nat) (g : CamPage) (reach : Int × Int) : Bool :=
  if g.reverse then decide (reach.1 < div) else decide ((h.printed g : Int) ≤ reach.2 + div)

/-- A frame's triggers image some line of the strip. -/
def stripTouched (h : HealthSettings) (g : CamPage) (reach : Int × Int) : Bool :=
  g.checkStrip && decide (reach.1 < h.printed g) && decide (0 ≤ reach.2)

/-- A record of a frame that images strip lines is gathered, and the strip judged once it is whole (R391). A strip of which a frame is not
VALID gives no verdict (R392). -/
def State.gatherStrip (s : State) (p : CamNo) (r : StatsRec) : State :=
  match r.page with
  | none => s
  | some g =>
    let old := s.health.strips[p].filter (fun k => k.page == g.id && k.first == g.first)
    if old.isNone && !stripTouched s.health.set g r.reach then s
    else
      let k := old.getD ⟨g.id, g.first, [], false, false⟩
      let valid := r.status == 0
      let k1 := { k with rows := k.rows ++ (if valid then r.rows else []), bad := k.bad || !valid
                         uncertain := k.uncertain || r.uncertain }
      if stripWhole s.health.set s.cam.ports[p].direct.div g r.reach then
        let s1 := { s with health := { s.health with strips := upd s.health.strips p (fun _ => none) } }
        if k1.bad then s1 else s1.judgeStrip g r k1
      else { s with health := { s.health with strips := upd s.health.strips p (fun _ => some k1) } }

end Sys2Proof.Machine
end

