-- ==== Sys2Proof/Machine/Cameras.lean ====
section
/-!
DEFINITION. Meanings of the camera ports' commands (12_camera_ports_and_image_pipeline.md), and the inspection commands on statistics
records and taps (R545, R549).
-/

namespace Sys2Proof.Machine

/-! ### The link (R357, R358, R380, R381) -/

/-- A bring-up step failed: the port waits to start again, with CAM_LINK_DOWN once per failure episode (R357 step 5). -/
def State.camFail (s : State) (p : CamNo) (reason : Nat) : State :=
  let told := s.cam.ports[p].downTold
  let s1 := s.setCam p (fun q => { q with link := .waitReset, downTold := true })
  if told then s1 else s1.raiseF .camLinkDown [fld 0 2 p.val, fld 2 2 reason]

/-- The port leaves ACTIVE (R358, R366, R367): its open frames close TRUNCATED, and its triggers are forgotten. -/
def State.camLeft (s : State) (p : CamNo) : State :=
  let s1 := (s.cam.ports[p].frames).foldl (fun s f => s.closeFrame p f 1 2) s
  s1.setCam p (fun q => { q with triggers := [], forgotten := 0, lastEdge := none, lastFall := none })

/-- CAM_CONNECTION_RESET (R357 step 1). -/
def execCamConnectionReset (p : CamNo) (s : State) : Out :=
  if s.cam.ports[p].link = .waitReset ∧ s.camExists then
    ((s.setCam p (fun q => { q with link := .waitLock })).emit (.camReset p)).done
  else s.done

/-- CHARACTER_LOCK (R357 step 2): the bootstrap registers are read on the first lane. -/
def execCharacterLock (p : CamNo) (locked : Bool) (s : State) : Out :=
  if s.cam.ports[p].link != .waitLock then s.done
  else if locked then ((s.setCam p (fun q => { q with link := .waitBootstrap })).emit (.camBootstrap p)).done
  else (s.camFail p 2).done

/-- CAM_BOOTSTRAP_REPLY (R357 step 3): the connection configuration is written. -/
def execCamBootstrapReply (p : CamNo) (r : Bootstrap) (s : State) : Out :=
  let d := s.cam.ports[p].direct
  if s.cam.ports[p].link != .waitBootstrap then s.done
  else if r.twoLanes == d.twoLanes && r.cxp12 == d.cxp12 && r.format == d.format && r.width == d.width then
    ((s.setCam p (fun q => { q with link := .waitAck })).emit (.camConnect p d.twoLanes d.cxp12)).done
  else (s.camFail p 3).done

/-- The oldest write to the camera ends, and the next leaves; none left makes the settings of the last generation acknowledged (R380,
R381). -/
def State.camWriteDone (s : State) (p : CamNo) : State :=
  let rest := s.cam.ports[p].writes.drop 1
  let s1 := s.setCam p (fun q => { q with
    writes := rest
    certainty := if rest.isEmpty && q.certainty == .writing then .acked else q.certainty })
  s1.camWriteNext p

/-- CAM_WRITE_ACK (R357 step 4, R380). -/
def execCamWriteAck (p : CamNo) (s : State) : Out :=
  let q := s.cam.ports[p]
  match q.link with
  | .waitAck =>
    let s1 := (s.setCam p (fun q => { q with link := .active, downTold := false, writes := [] })).raiseF .camLinkUp
      [fld 0 2 p.val, fld 2 1 (b2n q.direct.twoLanes), fld 3 1 (b2n q.direct.cxp12)]
    (s1.camWrites p q.genActive (q.active.regs.take q.active.regCount)).done
  | .active => if q.writes.isEmpty then s.done else (s.camWriteDone p).done
  | _ => s.done

/-- CAM_WRITE_FAIL (R381): the writes of that generation are given up. A connection configuration that is not acknowledged fails step 4
of R357, for which no reason is listed: its field is free (log 5). -/
def execCamWriteFail (p : CamNo) (timeout : Bool) (s : State) : Out :=
  let q := s.cam.ports[p]
  match q.link, q.writes with
  | .waitAck, _ => (s.drew.camFail p (s.free.toNat % 4)).done
  | .active, (gen, _, _) :: _ =>
    let rest := q.writes.filter (fun w => w.1 != gen)
    let s1 := s.setCam p (fun q => { q with writes := rest, certainty := if rest.isEmpty then .failed else .writing })
    ((s1.raiseF .camWriteFail [fld 0 2 p.val, fld 2 16 gen.toNat, fld 18 2 (if timeout then 2 else 1)]).camWriteNext p).done
  | _, _ => s.done

/-- LOCK_LOSS of the lane of a port that lost character lock; of two lanes which one it was is free (R425, log 5). -/
def State.camLockCount (s : State) (p : CamNo) : State :=
  s.drew.setLane (camLane p (s.cam.ports[p].direct.twoLanes && bitAt s.free 0)) (fun x => { x with lockLoss := min 255 (x.lockLoss + 1) })

/-- CAM_LOCK_LOSS (R358). -/
def execCamLockLoss (p : CamNo) (s : State) : Out :=
  if s.cam.ports[p].link = .active then (((s.camLockCount p).camLeft p).camFail p 1).done else s.done

/-! ### Stream packets (R366, R382, R383) -/

/-- The open frame of a number. -/
def CamState.frame (q : CamState) (n : Nat) : Option Frame := q.frames.find? (fun f => f.number == n)

/-- The frame of the oldest outstanding trigger (R363). -/
def CamState.due (q : CamState) : Option Frame :=
  match q.triggers with
  | t :: _ => (match t.frame with | some n => q.frame n | none => none)
  | [] => none

/-- The frame of the oldest outstanding trigger that has one (R366). -/
def CamState.oldest (q : CamState) : Option Frame := (q.triggers.findSome? (fun t => t.frame)).bind (fun n => q.frame n)

/-- Credit of a bucket that fills at rate per ns, at a raw counter (R383, R386). -/
def bucketNow (b : Nat × Word) (rate cap : Nat) (raw : Word) : Nat := min cap (b.1 + rate * (raw - b.2).toNat)

/-- FRAME_ERR of the port's first lane (R22, R425). -/
def State.camFrameErr (s : State) (p : CamNo) : State :=
  s.setLane (camLane p false) (fun x => { x with frameErr := min 65535 (x.frameErr + 1) })

/-- A packet's frame closes CORRUPT with a cause (R366, R382); a packet of a forgotten line is discarded (R367). -/
def State.camCorrupt (s : State) (p : CamNo) (cause : Nat) : State :=
  if 0 < s.cam.ports[p].forgotten then s
  else match s.cam.ports[p].due with
    | some f => s.closeFrame p f 3 cause
    | none => s

/-- STREAM_PACKET (R382, R383): a bad packet closes its frame CORRUPT; a good one costs its samples, and one that finds too little credit
is discarded with the rest of its frame, as is one of a forgotten line (R367). -/
def execStreamPacket (p : CamNo) (k : StreamPacket) (s : State) : Out :=
  let q := s.cam.ports[p]
  if q.link != .active then s.done
  else if 16384 < k.bytes then (s.camCorrupt p 3).done
  else if !k.crcOk then ((s.camFrameErr p).camCorrupt p 1).done
  else if !k.headerOk then (s.camCorrupt p 2).done
  else
    let have_ := bucketNow q.credit q.direct.budget (1000000 * q.direct.budget) s.time.raw
    let cost := 10 * k.samples
    let of_ : Option Frame := if 0 < q.forgotten then none else q.due
    if of_.any (fun f => f.dropped) then s.done
    else if have_ < cost then
      (s.setCam p (fun q => { q with
        credit := (have_, s.time.raw)
        frames := match of_ with
          | some d => q.frames.map (fun (f : Frame) => if f.number == d.number then { f with dropped := true } else f)
          | none => q.frames })).done
    else (s.setCam p (fun q => { q with credit := (have_ - cost, s.time.raw) })).done

/-- FRAME_TIMEOUT (R366): a frame whose oldest outstanding trigger has waited longer than FRAME_TIMEOUT. -/
def execFrameTimeout (p : CamNo) (s : State) : Out :=
  match s.cam.ports[p].oldest with
  | some f => (s.closeFrame p f 1 1).done
  | none => s.done

/-! ### Camera lines (R363, R364, R368 to R375, R384) -/

/-- Defect records of one print of a page, which runs or has ended; while it runs a run of blank lines that goes on counts too (R372,
R552). -/
def State.frameDefects (s : State) (id : PageId) (first : Nat) : List DefectRecord :=
  match s.print.span.filter (fun sp => sp.desc.id == id && sp.first == first) with
  | some sp => sp.defects ++ (match s.cist.dryRun with
    | some (page, f, l) => if page = id then [s.defectOf sp .cisternDry f l] else []
    | none => [])
  | none => match s.print.ended.find? (fun e => e.id == id && e.first == first) with | some e => e.defects | none => []

/-- A defect record covers a page line. -/
def DefectRecord.covers (d : DefectRecord) (y : Int) : Bool := decide ((d.lowLine : Int) ≤ y) && decide (y ≤ d.highLine)

/-- A column of positions k·G_P on is fired blank on a line (R372). rel: the line counted from the page's first bar line. -/
def CamPage.excused (g : CamPage) (ds : List DefectRecord) (k : Nat) (rel : Int) : Bool :=
  let y := g.pageLine rel
  let isOut (p : HeadPort) : Bool := ds.any (fun d => d.kind == .headHardLimit p && d.covers y)
  ds.any (fun d => d.covers y &&
    (match d.kind with
      | .cisternDry => true
      | .headHardLimit port => g.blanks.any (fun b =>
          b.1 == port && b.2.1 / g.gp == k &&
          (match b.2.2 with
            | none => true
            | some l => isOut l.2.2 || decide (d.first - g.first - l.1 ≤ rel) && decide (rel < d.first - g.first - l.2.1)))
      | _ => false))

/-- One column of a camera line: its number, value, D and whether it is excused; none is NO_SAMPLE. -/
structure LineCol where
  col     : Nat
  value   : Nat
  expect  : Option Nat
  excused : Bool
deriving DecidableEq, Repr

/-- The columns of a camera line of a frame (R369 to R372). im: imaged line of the trigger. -/
def State.lineCols (s : State) (f : Frame) (width : Nat) (im : Int) (u : List Nat) : List (Option LineCol) :=
  let first := (viewCols f.set width f.p f.gp).1
  (columnValues f.set width f.p f.gp u).zipIdx.map (fun e => e.1.map (fun v =>
    let k := first + e.2
    match f.page with
    | none => { col := k, value := v.2, expect := some 0, excused := false }
    | some g =>
      let rel := im + skewLines f.set v.1 - g.first
      { col := k, value := v.2, excused := g.excused (s.frameDefects g.id g.first) k rel
        expect := expectAt s.eng.density g.prep f.p g.length g.gp g.gl k (g.pageLine rel) }))

/-- D of a column: without an expected value it is free (R371, R384, log 5). -/
def LineCol.d (c : LineCol) (fill : Word) : Int :=
  (c.value : Int) - (match c.expect with | some e => (e : Int) | none => (fill.toNat % 256 : Nat))

/-- The statistics of a camera line (R373 to R375). -/
def Frame.countLine (f : Frame) (cs : List (Option LineCol)) (strip : Option Int) (poisoned : Bool) : Frame :=
  let absent := poisoned || cs.any (fun c => match c with | some c => c.expect.isNone | none => false)
  let i := f.lines
  let f1 := { f with lines := f.lines + 1, noExpect := f.noExpect || absent
                     excused := if cs.any (fun c => match c with | some c => c.excused | none => false) then f.excused + 1
                       else f.excused }
  match strip with
  | some y => { f1 with strip := f.strip ++ [(y, cs.map (fun c => match c with | some c => c.value | none => 0))] }
  | none =>
    if absent then f1
    else { f1 with cols := (f.cols.zip cs).map (fun e => match e.2 with
      | some c => if c.excused then e.1 else e.1.count f.set i (c.d 0)
      | none => e.1) }

/-- The page line of a camera line that lies in the check strip (R373, R388). -/
def State.stripLine (s : State) (f : Frame) (im : Int) : Option Int :=
  match f.page with
  | none => none
  | some g =>
    let y := g.pageLine (im - g.first)
    if g.checkStrip ∧ 0 ≤ y ∧ y < s.health.set.stripLines g.spares ∧ y < g.length then some y else none

/-- A camera line of an open frame passes the pipeline (R368). -/
def State.pipeline (s : State) (p : CamNo) (f : Frame) (im : Int) (samples : List (BitVec 12)) (poisoned : Bool) : State :=
  let q := s.cam.ports[p]
  let w := q.direct.width
  let u := (samples.take w).zipIdx.map (fun e => coverage f.set e.2 (unpackCode q.direct.format e.1))
  let cs := s.lineCols f w im u
  let vals := cs.map (fun c => match c with | some c => c.value | none => 0)
  let fill := s.free
  let ds := cs.map (fun c => match c with | some c => (if poisoned then { c with expect := none } else c).d fill | none => 0)
  let line (k : Fin 4) : List Word := tapLine q.direct.format k.val (samples.take w) u vals ds
  s.drew.setCam p (fun q => { q.setFrame f.number (fun x => x.countLine cs (s.stripLine f im) poisoned) with
    taps := Vector.ofFn (fun k => q.taps[k].take p k f.number (line k)) })

/-- CAMERA_LINE (R363, R368): the line goes to the oldest outstanding trigger. A line of a forgotten trigger, of no inspected page, or of
a frame that exceeded its budget is discarded. -/
def execCameraLine (p : CamNo) (samples : List (BitVec 12)) (reads : List BurstRead) (s : State) : Out :=
  let q := s.cam.ports[p]
  if q.link != .active then s.done
  else if 0 < q.forgotten then (s.setCam p (fun q => { q with forgotten := q.forgotten - 1 })).done
  else match q.triggers with
    | [] => (s.setCam p (fun q => { q with unmatched := min 65535 (q.unmatched + 1) })).done
    | t :: ts =>
      let s1 := s.setCam p (fun q => { q with triggers := ts })
      match (match t.frame with | some n => q.frame n | none => none) with
      | none => s1.done
      | some f =>
        if f.dropped then ((s1.setCam p (fun q => q.setFrame f.number (fun x => { x with lines := x.lines + 1 }))).settleFrames p).done
        else
          let r := s1.readBursts (regionReads 6 reads)
          ((r.1.pipeline p f t.imaged samples (!r.2.isEmpty)).settleFrames p).done

/-! ### TIME mode (R362) -/

/-- The compare trigger of a TIME-mode port has fired: its frame starts (R362). -/
def State.camTimeStart (s : State) (n : CmpNo) : State :=
  (List.finRange 4).foldl (fun s p =>
    let q := s.cam.ports[p]
    let busy := q.frames.any (fun f => f.timeLeft.isSome)
    if !q.direct.enable || !q.direct.timeMode || q.direct.trigger != n || q.link != .active || busy then s
    else s.openFrame p none s.sluice.barLine (mapPositions s.mapper.inForce) s.cam.gp (some q.direct.frameLines)) s

/-- TIME_MODE_LINE (R362): the next of the frame's lines is triggered, the first at the compare trigger and the others LINE_PERIOD
apart. -/
def execTimeModeLine (p : CamNo) (s : State) : Out :=
  let q := s.cam.ports[p]
  match q.frames.find? (fun f => f.timeLeft.any (fun k => decide (0 < k))) with
  | none => s.done
  | some f =>
    let t : Rat := (s.time.raw.toNat : Rat) * 1000
    ((s.sendTrigger p (some f.number) s.sluice.barLine s.sluice.barLine t (f.timeLeft == some 1))).done

/-! ### COMPRESSOR_TOKEN (R128, R129, R386) -/

/-- Words of a ring in use. -/
def TapCtx.used (c : TapCtx) : Nat :=
  ((c.frames.flatMap (·.2)).map List.length).sum + (c.writing.map (fun f => ((f.blocks.map List.length).sum) + f.words.length)).sum

/-- A token is written to the ring, and a trailer ends its block. -/
def TapFrame.write (f : TapFrame) : TapFrame :=
  match f.held with
  | [] => f
  | t :: rest =>
    if t.last then { f with held := rest, blocks := f.blocks ++ [f.words ++ t.words], words := [] }
    else { f with held := rest, words := f.words ++ t.words }

/-- Raw words of a context that no token written covers. -/
def TapCtx.unwritten (c : TapCtx) : Nat :=
  (c.writing.map (fun f => (f.held.map (fun t => t.raw)).sum + (f.lines.map List.length).sum)).sum

/-- A tap context writes its next whole token, if its ring has room, the throttle has credit and no band fetch goes first; else it holds
it (R128, R210, R386). What waits in the staging buffer leaves it as tokens come to cover it (R130). -/
def State.tapToken (s : State) (p : CamNo) (k : Fin 4) : State :=
  let c := s.cam.ports[p].taps[k]
  match c.writing.find? (fun f => !f.held.isEmpty) with
  | none => s
  | some f =>
    let n := match f.held with | t :: _ => t.words.length | [] => 0
    let have_ := bucketNow s.cam.tapCredit s.cam.tapRate 655360 s.time.raw
    if s.yields ∨ c.ring < c.used + n ∨ have_ < 80 * n then s.setCam p (fun q => q.setTap k (fun c => { c with stuck := true }))
    else
      let s1 := { s with cam := { s.cam with tapCredit := (have_ - 80 * n, s.time.raw) } }
      (s1.setCam p (fun q => q.setTap k (fun c =>
        let d := c.setFrame f.number TapFrame.write
        { d with stuck := false, staged := min d.staged d.unwritten }.readable))).wroteIn 7

/-! ### STATS_RECORD_PROCESS (R376, R391 to R401) -/

/-- STREAK_FOUND for each streak (R401). -/
def State.streaks (s : State) (p : CamNo) (r : StatsRec) : State :=
  r.streaks.foldl (fun s k => s.raiseF .streakFound [fld 0 18 k.1, fld 18 2 p.val, fld 20 1 (b2n k.2), fld 21 19 r.frame]) s

/-- STATS_RECORD_PROCESS (R376): the oldest record not yet processed. -/
def execStatsRecordProcess (p : CamNo) (s : State) : Out :=
  match s.cam.ports[p].stats.find? (fun r => !r.processed) with
  | none => s.done
  | some r =>
    let mark (x : StatsRec) : StatsRec := if x.frame == r.frame then { x with processed := true } else x
    let s1 := s.setCam p (fun q => { q with stats := (q.stats.map mark).filter (fun x => !(x.lost && x.processed)) })
    ((s1.streaks p r).gatherStrip p r).done

/-! ### STATS_READ, STATS_RELEASE, TAP_READ, TAP_RELEASE (R549, R587) -/

/-- The most items from the front whose words fit in a buffer. -/
def fitting (len : Nat) : List (List Word) → Nat → List (List Word)
  | [], _ => []
  | x :: xs, n => if blockBytes (List.replicate (n + x.length) 0) ≤ len then x :: fitting len xs (n + x.length) else []

/-- A port named by a number. -/
def camOf (n : Nat) : CamNo := Fin.ofNat 4 n

/-- STATS_READ (R549). -/
def cmdStatsRead (x : Cmd) (s : State) : State × Option Resp :=
  if bufferBad (x.dw 1) (x.dw 2) then (s, resp .argBad 0)
  else
    let rs := (s.cam.ports[camOf (bits (x.dw 0) 1 0)].stats.filter (fun r => !r.lost)).takeWhile (fun r => r.processed)
    let len := bits (x.dw 2) 31 0
    match rs with
    | [] => (s, resp .ok 0)
    | r :: _ =>
      let ws := fitting len (rs.map (fun r => r.words)) 0
      if ws.isEmpty then (s, resp .bufferSmall (blockBytes r.words))
      else s.writeBlock x (x.dw 1) (x.dw 2) ws.flatten (fld 0 16 ws.length + fld 16 24 r.frame)

/-- STATS_READ (R549). -/
def execStatsRead (x : Cmd) (s : State) : Out := (runCommand 0x42 true false cmdStatsRead x s).done

/-- How many of a list of frame numbers, oldest first, a release frees: up to the newest with the low 32 bits named (R549). -/
def releaseCount (l : List Nat) (low : Nat) : Nat :=
  match (l.zipIdx.filter (fun e => e.1 % 2 ^ 32 == low)).getLast? with
  | some e => e.2 + 1
  | none => 0

/-- STATS_RELEASE (R549). -/
def cmdStatsRelease (x : Cmd) (s : State) : State × Option Resp :=
  let p := camOf (x.argBits 33 32)
  let rs := (s.cam.ports[p].stats.filter (fun r => !r.lost)).takeWhile (fun r => r.processed)
  let n := releaseCount (rs.map (fun r => r.frame)) (x.argBits 31 0)
  if n = 0 then (s, resp .notFound 0)
  else
    let gone := (rs.take n).map (fun r => r.frame)
    (s.setCam p (fun q => { q with stats := q.stats.filter (fun r => !gone.contains r.frame) }), resp .ok n)

/-- STATS_RELEASE (R549). -/
def execStatsRelease (x : Cmd) (s : State) : Out := (runCommand 0x43 false false cmdStatsRelease x s).done

/-- Blocks are copied into a result buffer; where a burst of theirs is lost, or the region holds poison, how many whole blocks stand before
it is free, since the place of the blocks is not given (R587, log 31). -/
def State.copyBlocks (s : State) (x : Cmd) (i : Nat) (region : Nat) (blocks : List (List Word)) (ok : Nat) : State × Option Resp :=
  let p := s.readBursts (regionReads region x.reads)
  let whole (t : State) : State × Option Resp := t.writeBlock x (x.dw i) (x.dw (i + 1)) blocks.flatten ok
  let part (t : State) (b : BitVec 30) (n : Nat) : State × Option Resp :=
    let r := t.writeBlock x (x.dw i) (x.dw (i + 1)) (blocks.take n).flatten ok
    (r.1, match r.2 with
      | some (.ok, _) => resp .dramError (burstResult b)
      | o => o)
  match p.2.head?, p.1.poisonIn region with
  | some b, _ => part p.1.drew b (p.1.free.toNat % max 1 blocks.length)
  | none, some b =>
    let n := p.1.free.toNat % (blocks.length + 1)
    if n = blocks.length then whole p.1.drew else part (p.1.drew.uncorrectable b 1) b n
  | none, none => whole p.1

/-- TAP_READ (R549): whole tap frames. -/
def cmdTapRead (x : Cmd) (s : State) : State × Option Resp :=
  if bufferBad (x.dw 1) (x.dw 2) then (s, resp .argBad 0)
  else
    let c := s.cam.ports[camOf (bits (x.dw 0) 1 0)].taps[(Fin.ofNat 4 (bits (x.dw 0) 3 2) : Fin 4)]
    match c.frames with
    | [] => (s, resp .ok 0)
    | f :: _ =>
      let n := (fitting (bits (x.dw 2) 31 0) (c.frames.map (fun f => f.2.flatten)) 0).length
      let bs := (c.frames.take n).flatMap (·.2)
      if n = 0 then (s, resp .bufferSmall (blockBytes f.2.flatten))
      else s.copyBlocks x 1 7 bs (blockBytes bs.flatten)

/-- TAP_READ (R549). -/
def execTapRead (x : Cmd) (s : State) : Out := (runCommand 0x44 true false cmdTapRead x s).done

/-- TAP_RELEASE (R549). -/
def cmdTapRelease (x : Cmd) (s : State) : State × Option Resp :=
  let p := camOf (x.argBits 33 32)
  let k : Fin 4 := Fin.ofNat 4 (x.argBits 35 34)
  let n := releaseCount (s.cam.ports[p].taps[k].frames.map (·.1)) (x.argBits 31 0)
  if n = 0 then (s, resp .notFound 0)
  else (s.setCam p (fun q => q.setTap k (fun c => { c with frames := c.frames.drop n })), resp .ok n)

/-- TAP_RELEASE (R549). -/
def execTapRelease (x : Cmd) (s : State) : Out := (runCommand 0x45 false false cmdTapRelease x s).done

/-! ### CAMERA_CONFIG and CAMERA_COMMIT (R378, R379, R540) -/

/-- Every entry of a packed table lies within a bound. -/
def tableWithin (n c hi : Nat) (t : List Word) : Bool := (List.range c).all (fun i => decide (packedAt n t i ≤ hi))

/-- An entry of the table of R378 that breaks its range, row, INDEX or ELEM: reason 1. -/
def checkCamera (s : State) (e : Entry) : Option Nat :=
  let port := decide (e.index < 4)
  let one := port && e.elem == 0
  let two := port && decide (e.elem < 2)
  let w := s.cam.ports[camOf e.index].direct.width
  let ok := match e.row with
    | 0 => one && e.within 0 1
    | 1 => two && e.within 0 1
    | 2 => two && (if e.elem = 0 then e.within 0 2 else e.within 64 16384)
    | 3 => one && e.within 0 1
    | 4 => two && (if e.elem = 0 then e.within 1 64 else e.within 0 63)
    | 5 => two && e.within 1 60000
    | 6 => one && e.within 1000 200000
    | 7 => one && e.within (-1000000) 1000000
    | 8 => one && e.within 0 2000000
    | 9 => match e.elem with
      | 0 => port && e.within 1 4096
      | 1 => port && e.duration 1000000 5 1000000
      | 2 => port && e.within 0 7
      | _ => false
    | 10 => one && e.within 1 100
    | 11 => one && e.duration 1000000 10 100000
    | 12 => one && e.within 250000 1000000000 && e.nat % 250 == 0
    | 13 => one && e.within (-8589934592) 8589869056
    | 14 => one && e.within 2097152 268435456
    | 15 => one && e.within (-1048576) 1048576
    | 16 => match e.elem with
      | 0 => port && tableWithin 16 w 4095 e.table
      | 1 => port
      | 2 => port
      | _ => false
    | 17 => two && (if e.elem = 0 then e.within 8 1024 else e.within 1 255)
    | 18 => two && (if e.elem = 0 then e.within 0 32 else true)
    | 19 => two && (if e.elem = 0 then e.within 0 15 else e.within 1 65535)
    | 20 => e.index == 0 && decide (e.elem < 2) && [1, 2, 4, 8, 16].contains e.value.toNat
    | 21 => e.index == 0 && e.elem == 0 && e.within 1 50
    | _ => false
  if ok then none else some 1

/-- A direct row of R378. -/
def CamDirect.put (t : CamDirect) (e : Entry) : CamDirect :=
  let n := e.nat
  match e.row with
  | 0 => { t with enable := n == 1 }
  | 1 => if e.elem = 0 then { t with twoLanes := n == 1 } else { t with cxp12 := n == 1 }
  | 2 => if e.elem = 0 then { t with format := match n with | 0 => .mono8 | 1 => .mono10 | _ => .mono12 } else { t with width := n }
  | 3 => { t with timeMode := n == 1 }
  | 4 => if e.elem = 0 then { t with div := n } else { t with phase := n }
  | 5 => if e.elem = 0 then { t with dist := n } else { t with distRev := n }
  | 6 => { t with maxRate := n }
  | 7 => { t with trigOffset := e.int }
  | 8 => { t with trigLat := n }
  | 9 => match e.elem with
    | 0 => { t with frameLines := n }
    | 1 => { t with linePeriod := n }
    | _ => { t with trigger := Fin.ofNat 8 n }
  | 10 => { t with budget := n }
  | 11 => { t with timeoutPs := n }
  | _ => t

/-- The exceptions of a packed table to a default. -/
def tableExceptions (n c : Nat) (t : List Word) (d : Nat → Nat) : List (Nat × Nat) :=
  ((List.range c).map (fun i => (i, packedAt n t i))).filter (fun p => p.2 != d p.1)

/-- A shadowed row of R378. width: WIDTH of the port. -/
def CamShadow.put (t : CamShadow) (width : Nat) (e : Entry) : CamShadow :=
  let n := e.nat
  match e.row with
  | 12 => { t with exposure := n / 250 }
  | 13 => { t with offset := e.int }
  | 14 => { t with scale := n }
  | 15 => { t with skew := e.int }
  | 16 => match e.elem with
    | 0 => { t with dark := tableExceptions 16 width e.table (fun _ => 0) }
    | 1 => { t with gain := tableExceptions 16 width e.table (fun _ => 4096) }
    | _ => { t with lut := tableExceptions 8 4096 e.table (fun i => 255 - i / 16) }
  | 17 => if e.elem = 0 then { t with streakLines := n } else { t with streakThresh := n }
  | 18 => if e.elem = 0 then { t with regCount := n }
    else { t with regs := (e.table.take 32).map (fun w => (BitVec.ofNat 32 (bits w 31 0), BitVec.ofNat 32 (bits w 63 32))) }
  | 19 => if e.elem = 0 then { t with tapEnable := BitVec.ofNat 4 n } else { t with tapEvery := n }
  | _ => t

/-- ENABLE set starts the link's bring-up, ENABLE cleared ends it (R357, R358). -/
def State.camEnable (s : State) (p : CamNo) : State :=
  let q := s.cam.ports[p]
  if q.direct.enable then
    if q.link = .disabled then s.setCam p (fun q => { q with link := .waitReset, downTold := false }) else s
  else (if q.link = .active then s.camLeft p else s).setCam p (fun q => { q with link := .disabled })

/-- A lane of a camera port is powered while ENABLE is set and LANES uses it (R24, R407). -/
def CamDirect.powers (t : CamDirect) (second : Bool) : LaneRole := if t.enable && (!second || t.twoLanes) then .camera else .powerDown

/-- The two lanes of a camera port follow its ENABLE and LANES (R22, R24, R407). -/
def State.camLanes (s : State) (p : CamNo) : State :=
  if !s.camExists then s
  else
    let t := s.cam.ports[p].direct
    (s.setLane (camLane p false) (fun (l : LaneState) => { l with role := t.powers false })).setLane (camLane p true)
      (fun (l : LaneState) => { l with role := t.powers true })

/-- An entry of R378 takes effect. -/
def State.camPut (s : State) (e : Entry) : State :=
  let p := camOf e.index
  match e.row with
  | 20 => { s with cam := if e.elem = 0 then { s.cam with gp := e.nat } else { s.cam with gl := e.nat } }
  | 21 => { s with cam := { s.cam with tapRate := e.nat } }
  | 0 => ((s.setCam p (fun q => { q with direct := q.direct.put e })).camEnable p).camLanes p
  | 1 => (s.setCam p (fun q => { q with direct := q.direct.put e })).camLanes p
  | _ => s.setCam p (fun q => { q with direct := q.direct.put e, shadow := q.shadow.put q.direct.width e })

/-- Budgets of the enabled ports in 0.1 G samples/s (R382). -/
def State.camBudgets (s : State) : Nat := ((s.cam.ports.toList.filter (fun q => q.direct.enable)).map (fun q => q.direct.budget)).sum

/-- Faults of an entry beside the others (R378, R382): CAM_PHASE at or above CAM_DIV, G_P × G_L below 32, and budgets of the enabled ports
above 10 G samples/s. -/
def cameraWhole (s' : State) (e : Entry) : Option Nat :=
  let t := s'.cam.ports[camOf e.index].direct
  if (e.row = 4 ∧ t.div ≤ t.phase) ∨ (e.row = 20 ∧ s'.cam.gp * s'.cam.gl < 32) then some 1
  else if (e.row = 0 ∨ e.row = 10) ∧ t.enable = true ∧ 100 < s'.camBudgets then some 2
  else none

/-- Rows marked "Stopped" and "Stopped, link" (R378). -/
def cameraBusy (s : State) (e : Entry) : Option Resp :=
  let stopped : Bool := decide (e.row ≤ 11) || e.row == 21
  let link : Bool := (e.row == 1 || e.row == 2) && s.cam.ports[camOf e.index].link == .active
  if (stopped && s.print.started) || link then resp .camBusy (e.index % 4) else none

/-- The settings table of R378. -/
def cameraTable : Settings where
  bad := .camConfigBad
  isTable := fun row elem => row == 16 || (row == 18 && elem == 1)
  check := checkCamera
  whole := cameraWhole
  busy := cameraBusy
  apply := State.camPut

/-- CAMERA_CONFIG (R378). -/
def execCameraConfig (x : Cmd) (s : State) : Out := (runCommand 0x40 true false (runSettings cameraTable) x s).done

/-- CAMERA_COMMIT (R379). -/
def cmdCameraCommit (x : Cmd) (s : State) : State × Option Resp :=
  let p := camOf (x.argBits 1 0)
  let g := s.cam.ports[p].gen + 1
  (s.setCam p (fun q => { q with gen := g, commits := q.commits ++ [(g, q.shadow)] }), resp .ok g.toNat)

/-- CAMERA_COMMIT (R379). -/
def execCameraCommit (x : Cmd) (s : State) : Out := (runCommand 0x41 false false cmdCameraCommit x s).done

end Sys2Proof.Machine
end

