-- ==== Sys2Proof/Machine/Parcels.lean ====
section
/-!
DEFINITION. Meanings of the parcel commands and of the headrace's steps up to verification (R79 to R84, R543), of bulk transfers
(R453, R485, R550), and of the commands on layers and generators (R96, R158, R545).
-/

namespace Sys2Proof.Machine

/-! ### PARCEL_LOAD, PARCEL_TIMEOUT, STORE_INFO (R82, R545, R548) -/

/-- The docket of R548 breaks its ranges. -/
def loadDocketBad (x : Cmd) : Bool :=
  let n := bits (x.dw 0) 6 0
  decide (n = 0) || decide (64 < n) || decide (x.docket.length < 4 + 2 * n) || bufferBad (x.dw 1) (x.dw 2) ||
  (List.range n).any (fun i => bits (x.dw (4 + 2 * i)) 5 0 != 0 || decide ((x.dw (5 + 2 * i)).toNat % 64 ≠ 0) || x.dw (5 + 2 * i) == 0)

/-- The source of a load (R81). A load inside a mirrored DOCKET parcel counts as the partner's (log 34). -/
def loadSource (o : Origin) : ParcelSource :=
  match o with
  | .host n _ => .host n
  | .parcel (.session n) => .host n
  | .parcel _ => .partner
  | .peer n _ => .peer n

/-- PARCEL_LOAD's effect: the load waits for a slot, and is answered with its outcome (R79, R80). -/
def cmdParcelLoad (x : Cmd) (s : State) : State × Option Resp :=
  if !s.host.busMaster then (s, resp .busMasterOff 0)
  else if loadDocketBad x then (s, resp .argBad 0)
  else
    let n := bits (x.dw 0) 6 0
    let r : LoadReq := { src := loadSource x.origin, origin := x.origin, tag := x.tag, opcode := 0x30
                         total := ((List.range n).map (fun i => (x.dw (5 + 2 * i)).toNat)).sum
                         bufAddr := x.dw 1, bufLen := bits (x.dw 2) 31 0, xfer := none }
    ({ s with store := { s.store with waiting := s.store.waiting ++ [r] } }, none)

/-- PARCEL_LOAD (R80, R545). -/
def execParcelLoad (x : Cmd) (s : State) : Out := (runCommand 0x30 true false cmdParcelLoad x s).done

/-- PARCEL_TIMEOUT's effect. -/
def cmdParcelTimeout (x : Cmd) (s : State) : State × Option Resp :=
  let n := x.argBits 15 0
  if n < 10 ∨ 60000 < n then (s, resp .argBad 0)
  else ({ s with store := { s.store with timeoutMs := n } }, resp .ok s.store.timeoutMs)

/-- PARCEL_TIMEOUT (R82). -/
def execParcelTimeout (x : Cmd) (s : State) : Out := (runCommand 0x32 false false cmdParcelTimeout x s).done

/-- STORE_INFO's effect. -/
def cmdStoreInfo (_ : Cmd) (s : State) : State × Option Resp :=
  (s, resp .ok (fld 0 24 (s.unitsFree / 16) + fld 24 8 (min 255 (s.store.layers.length / 256)) +
    fld 32 8 (min 255 (s.store.pages.length / 16))))

/-- STORE_INFO (R545). -/
def execStoreInfo (x : Cmd) (s : State) : Out := (runCommand 0x33 false false cmdStoreInfo x s).done

/-! ### LAYER_DELETE, GENERATOR_DEFINE, GENERATOR_DELETE (R96, R158, R545) -/

/-- LAYER_DELETE's effect. -/
def cmdLayerDelete (x : Cmd) (s : State) : State × Option Resp :=
  let id : LayerId := x.arg32
  if (findLayer s.store.layers id).isNone then (s, resp .notFound 0)
  else if s.layerUsed id then (s, resp .layerInUse id.toNat)
  else ((s.freeLayer id).record 12 (word [id.toNat]) 0, okResp)

/-- LAYER_DELETE (R96). -/
def execLayerDelete (x : Cmd) (s : State) : Out := (runCommand 0x31 false false cmdLayerDelete x s).done

/-- The reason of GENERATOR_BAD, first that applies (R158). -/
def State.generatorReason (s : State) (ws : List Word) : Option Nat :=
  let g := parseGenerator ws
  if generatorFieldBad ws then some 1
  else if g.template.any templateByteBad then some 2
  else if g.datamatrix && (match symbolCapacity g.symbolSize with
      | some n => decide (n < worstLength g.template)
      | none => true) then some 3
  else if !s.store.generators.any (fun h => h.id == g.id) && decide (256 ≤ s.store.generators.length) then some 4
  else if !g.datamatrix && !s.store.glyphs.any (fun h => h.id == g.glyphSet) then some 5
  else none

/-- GENERATOR_DEFINE's effect; it publishes an object, so pages are evaluated (R101). Where GENERATOR_BAD and OBJECT_IN_USE both apply the
rule gives no order: GENERATOR_BAD is judged first (log 135). -/
def cmdGeneratorDefine (x : Cmd) (s : State) : State × Option Resp :=
  let g := parseGenerator x.docket
  match s.generatorReason x.docket with
  | some r => (s, resp .generatorBad (g.id.toNat + fld 32 8 r))
  | none =>
    if s.generatorUsed g.id then (s, resp .objectInUse g.id.toNat)
    else
      let s1 := s.keepObject (fun k => k == .generator g.id) (.generator g.id) x.docket
      (({ s1 with store := { s1.store with
        generators := s.store.generators.filter (fun (h : Generator) => h.id != g.id) ++ [g] } }).evalPages, resp .ok g.id.toNat)

/-- GENERATOR_DEFINE (R158). -/
def execGeneratorDefine (x : Cmd) (s : State) : Out := (runCommand 0x35 true true cmdGeneratorDefine x s).done

/-- GENERATOR_DELETE's effect. -/
def cmdGeneratorDelete (x : Cmd) (s : State) : State × Option Resp :=
  let id := x.arg32
  if !s.store.generators.any (fun h => h.id == id) then (s, resp .notFound 0)
  else if s.generatorUsed id then (s, resp .objectInUse id.toNat)
  else (({ s with store := { s.store with generators := s.store.generators.filter (fun (h : Generator) => h.id != id) } }).evalPages, okResp)

/-- GENERATOR_DELETE (R545). -/
def execGeneratorDelete (x : Cmd) (s : State) : Out := (runCommand 0x36 false false cmdGeneratorDelete x s).done

/-! ### PARCEL_SLOT_START (R79) -/

/-- A load takes a slot: its header is requested, at once or when the headrace may ask (R79, R80 step 1, R210, R515). -/
def State.startLoad (s : State) (k : SlotNo) (r : LoadReq) : State :=
  let f : Flight := { req := r, header := none, key := 0, salt := 0, got := [], alloc := 0, verified := false, asked := false }
  let s1 := { s with store := { s.store with waiting := s.store.waiting.erase r, flights := s.store.flights.set k (some f) } }
  if s.mayAsk r then s1.askHeader k f else s1

/-- PARCEL_SLOT_START (R79): a free slot goes to the oldest waiting load that the limits permit, and requests held back are issued. No
parcel starts in DORMANT (R594). -/
def execParcelSlotStart (s : State) : Out :=
  if s.sys.power == .dormant then s.done
  else
    let s := s.askHeld
    match s.store.freeSlotNo, s.store.nextLoad with
    | some k, some r => (s.startLoad k r).done
    | _, _ => s.done

/-! ### Bulk transfers received (R453, R550) -/

/-- The transfer of a load. -/
def State.transferOf (s : State) (r : LoadReq) : Option BulkIn :=
  match r.xfer, r.origin with
  | some x, .peer n _ => s.fab.bulkIn.find? (fun b => b.xfer == x && b.src == n)
  | _, _ => none

/-- Word i of a transfer, if a frame has placed it. -/
def BulkIn.wordAt (b : BulkIn) (i : Nat) : Option Word :=
  b.parts.findSome? (fun p => if p.1 ≤ i then p.2[i - p.1]? else none)

/-- Words that arrive for a load from position i on: for a transfer, those its frames have placed (R453). -/
def State.arrived (s : State) (r : LoadReq) (i : Nat) (ws : List Word) : Bool :=
  if r.xfer.isNone then true
  else match s.transferOf r with
    | some b => ws.zipIdx.all (fun p => b.wordAt (i + p.2) == some p.1)
    | none => false

/-- The data of a BULK frame is placed by offset; a frame of no transfer offered here is dropped (R453). -/
def State.placeFrame (s : State) (src : NodeNo) (words : List Word) : State :=
  let x := BitVec.ofNat 32 (bits (wordAt words 0) 31 0)
  let o := bits (wordAt words 0) 55 32
  { s with fab := { s.fab with bulkIn := s.fab.bulkIn.map (fun (b : BulkIn) =>
    if b.src == src && b.xfer == x then { b with parts := (o, words.drop 1) :: b.parts } else b) } }

/-- Frames that waited are placed once no band fetch goes first (R210). -/
def State.placeHeld (s : State) : State :=
  if s.yields then s
  else s.fab.bulkHeld.foldl (fun (s : State) f => s.placeFrame f.1 f.2) { s with fab := { s.fab with bulkHeld := [] } }

/-- BULK (R453): its writes yield to a band fetch at urgency levels 2 and 3 (R210). -/
def execBulk (src : NodeNo) (words : List Word) (s : State) : Out :=
  let s := s.takeFrame 11 words
  ({ s with fab := { s.fab with bulkHeld := s.fab.bulkHeld ++ [(src, words)] } }).placeHeld.done

/-- BULK_OFFER's effect: the transfer waits for a slot (R79, R550). Posted on a host channel it names no sending node, and no frame
comes for it. -/
def cmdBulkOffer (x : Cmd) (s : State) : State × Option Resp :=
  let n : NodeNo := match x.origin with | .peer n _ => n | _ => 0
  let xfer := BitVec.ofNat 32 (x.argBits 23 0)
  let total := x.argBits 47 24
  let src : ParcelSource := if s.pair.paired ∧ n = s.pair.partner then .partner else .peer n
  let r : LoadReq := { src := src, origin := x.origin, tag := x.tag, opcode := 0x73, total := 8 * total, bufAddr := 0, bufLen := 0
                       xfer := some xfer }
  let b : BulkIn := { src := n, xfer := xfer, parts := [], total := total }
  ({ s with store := { s.store with waiting := s.store.waiting ++ [r] }
            fab := { s.fab with bulkIn := s.fab.bulkIn.filter (fun (b : BulkIn) => b.src != n || b.xfer != xfer) ++ [b] } }, none)

/-- BULK_OFFER (R550). -/
def execBulkOffer (x : Cmd) (s : State) : Out := (runCommand 0x73 false false cmdBulkOffer x s).done

/-! ### PARCEL_HEADER_ARRIVAL, PARCEL_COMPLETION, PARCEL_TIMER_EXPIRY (R80, R82) -/

/-- A parcel load on a unit that R469 refuses, now that its CONTENT is known. -/
def State.loadRefused (s : State) (r : LoadReq) (h : List Word) : Bool :=
  s.noClaim && r.opcode == 0x30 && content h != 7 && (match r.origin with | .parcel .mirror => false | _ => true)

/-- Steps 2 to 5 of R80. -/
def State.takeHeader (s : State) (k : SlotNo) (f : Flight) (h : List Word) : State :=
  let g := { f with header := some h }
  if s.loadRefused f.req h then (s.freeSlot k).loadAnswer f.req .pairStandby 0
  else match s.headerField f.req h with
    | some n => s.discardFlight k g .parcelHeaderBad n
    | none =>
      if seqCount h ≤ s.highestSeq f.req h then s.discardFlight k g .parcelReplay 0
      else if s.unitsFree < parcelUnits h then s.discardFlight k g .pageStoreFull 0
      else match s.parcelKey f.req.src (bits (wordAt h 0) 23 16) with
        | some key =>
          let g := { g with key := key.1, salt := key.2, alloc := parcelUnits h, base := firstFit s.store.allocs (parcelUnits h)
                            asked := s.mayAsk f.req }
          { s with store := { s.store with flights := s.store.flights.set k (some g) } }
        | none => s

/-- PARCEL_HEADER_ARRIVAL (R80 steps 1 to 5): the answer to a request that was issued. -/
def execParcelHeaderArrival (slot : SlotNo) (header : List Word) (s : State) : Out :=
  let s := s.placeHeld
  match s.store.flights[slot] with
  | some f =>
    if f.header.isSome || header.length != 8 || !f.asked || !s.arrived f.req 0 header then s.done
    else (s.takeHeader slot f header).serveOpens.done
  | none => s.done

/-- Words of payload and trailer of a parcel (R75). -/
def bodyWords (h : List Word) : Nat := parcelLength h / 8 + 8

/-- Words from position i on enter the staging of a parcel: those of the payload are written into its allocation (R80 step 5, R586). Tells
whether a merge is lost. -/
def State.stage (s : State) (f : Flight) (h : List Word) (i n : Nat) : State × Bool :=
  s.writeWords (8 * (regionBase 8 + 1024 * f.base) + i) (min n (parcelLength h / 8 - i))

/-- PARCEL_COMPLETION (R80 steps 5 and 6): the answer to requests that were issued. A merge that is lost discards the parcel (R586,
R587). -/
def execParcelCompletion (slot : SlotNo) (r : Completion) (s : State) : Out :=
  let s := s.placeHeld
  match s.store.flights[slot] with
  | some f =>
    if f.verified || !f.asked then s.done
    else match r, f.header with
      | .error, _ => if f.req.xfer.isNone then (s.discardFlight slot f .parcelDmaError 0).serveOpens.done else s.done
      | .data ws, some h =>
        if bodyWords h < f.got.length + ws.length || !s.arrived f.req (8 + f.got.length) ws then s.done
        else
          let w := s.stage f h f.got.length ws.length
          if w.2 then (w.1.discardFlight slot f .parcelDmaError 0).serveOpens.done
          else ({ w.1 with store := { w.1.store with flights := w.1.store.flights.set slot (some { f with got := f.got ++ ws }) } }).done
      | .data _, none => s.done
  | none => s.done

/-- PARCEL_TIMER_EXPIRY (R80 step 7, R82, R211): the timer runs from the first request on; nothing expires while the headrace is paused at
urgency level 3, nor once every word has arrived. -/
def execParcelTimerExpiry (slot : SlotNo) (s : State) : Out :=
  match s.store.flights[slot] with
  | some f =>
    if f.verified || (!f.asked && f.header.isNone) || s.cist.level == 3 ||
      (match f.header with | some h => f.got.length == bodyWords h | none => false) then s.done
    else (s.discardFlight slot f .parcelTimeout 0).serveOpens.done
  | none => s.done

/-! ### PARCEL_TAG_CHECK (R80 steps 8 and 9) -/

/-- The sequence space's highest SEQUENCE advances (R80 step 9, R564, R569). -/
def State.advanceSeq (s : State) (r : LoadReq) (h : List Word) : State :=
  if bits (wordAt h 0) 23 16 = 0 then
    match r.src with
    | .host n => { s with sec := { s.sec with sessions := upd s.sec.sessions n (fun k => k.map (fun (k : Session) =>
        { k with highest := parcelSeq h })) } }
    | _ => s
  else { s with sec := { s.sec with pair := s.sec.pair.map (fun (k : PairKey) =>
    if bitAt (wordAt h 2) 63 != s.pair.unitB then { k with highest := seqCount h } else { k with own := seqCount h }) } }

/-- The tag is checked, then the content; a parcel that passes waits for publication (R80 steps 8 and 9). -/
def State.checkTag (s : State) (k : SlotNo) (f : Flight) (h : List Word) : State :=
  let n := parcelLength h / 8
  let text := f.got.take n
  let nonce := gcmNonce f.salt (parcelSeq h)
  if Config.gcmTag f.key nonce h text ≠ trailerTag (f.got.drop n) then s.discardFlight k f .parcelAuthFail 0
  else
    let s1 := s.advanceSeq f.req h
    let clear := Config.gcmDecrypt f.key nonce text
    match s1.contentFault f.req h clear with
    | some (c, reason) => (s1.freeSlot k).loadFails f.req (parcelId h) c 0 reason
    | none =>
      { s1 with store := { s1.store with
          flights := s1.store.flights.set k (some { f with verified := true, got := [] })
          verified := s1.store.verified ++ [{ slot := k, req := f.req, header := h, payload := clear, alloc := (f.base, f.alloc) }] } }

/-- PARCEL_TAG_CHECK (R80). -/
def execParcelTagCheck (slot : SlotNo) (s : State) : Out :=
  match s.store.flights[slot] with
  | some f => match f.header with
    | some h => if f.verified || f.got.length != bodyWords h then s.done else (s.checkTag slot f h).serveOpens.done
    | none => s.done
  | none => s.done

/-! ### PARCEL_MIRROR (R17, R485, R486, R569) -/

/-- The header of a mirrored parcel: KEY_SELECT 1, and the sending unit's SEQUENCE (R485). -/
def mirrorHeader (h : List Word) (unitB : Bool) (seq : Nat) : List Word :=
  let w0 := wordAt h 0
  [word [bits w0 15 0, fld 16 8 1, fld 32 32 (bits w0 63 32)], wordAt h 1, word [fld 0 63 seq, fld 63 1 (b2n unitB)]] ++ slice h 3 5

/-- A parcel as it is mirrored: header, ciphertext and trailer (R17, R75). In counter mode one function serves both ways. -/
def PairKey.seal (k : PairKey) (unitB : Bool) (p : List Word) : List Word :=
  let h := mirrorHeader (p.take 8) unitB k.next
  let key := k.parcelKey
  let nonce := gcmNonce key.2 (parcelSeq h)
  let text := Config.gcmDecrypt key.1 nonce (p.drop 8)
  let tag := bytesWords (beBytes 16 (Config.gcmTag key.1 nonce h text).toNat)
  h ++ text ++ tag ++ List.replicate 6 0

/-- The next SEQUENCE has been used; the bound in MRAM is raised first when it is reached (R569). -/
def PairKey.useSeq (k : PairKey) : PairKey :=
  { k with next := k.next + 1, bound := if k.next = k.bound then k.bound + 65536 else k.bound }

/-- The data of the BULK frames of a transfer, 255 words to a frame (R453). fuel is the number of frames. -/
def bulkFrames (xfer : BitVec 32) : Nat → Nat → List Word → List (List Word)
  | 0, _, _ => []
  | fuel + 1, o, ws =>
    if ws.isEmpty then [] else (word [xfer.toNat, fld 32 24 o] :: ws.take 255) :: bulkFrames xfer fuel (o + 255) (ws.drop 255)

/-- The frames of a transfer leave (R453). -/
def State.sendBulk (s : State) (b : BulkOut) : State :=
  (bulkFrames b.xfer (b.words.length / 255 + 1) 0 b.words).foldl (fun (s : State) ws => s.fabSend 11 b.dest ws)
    { s with fab := { s.fab with bulkOut := s.fab.bulkOut.map (fun (c : BulkOut) => if c == b then { c with sent := true } else c) } }

/-- A parcel is offered to the partner (R485, R550). -/
def State.offerMirror (s : State) (k : PairKey) (p : List Word) : State :=
  let xfer := BitVec.ofNat 32 (s.fab.nextXfer.toNat % 2 ^ 24)
  let ws := k.seal s.pair.unitB p
  let b : BulkOut := { dest := s.pair.partner, xfer := xfer, words := ws, sent := false }
  let s1 := ({ s with sec := { s.sec with pair := some k.useSeq }
                      fab := { s.fab with nextXfer := s.fab.nextXfer + 1, bulkOut := s.fab.bulkOut ++ [b] } }).openChan s.pair.partner
  s1.postPeer s.pair.partner 0x73 (BitVec.ofNat 48 (xfer.toNat + fld 24 24 ws.length)) none (some xfer.toNat)

/-- The offer of a transfer has left its channel's queue and is acknowledged (R455). -/
def State.offered (s : State) (b : BulkOut) : Bool :=
  match s.fab.chanOf b.dest with
  | some k => k.outQ.isEmpty && k.unacked.isNone && (match k.st with | .openCh => true | .opening => false)
  | none => false

/-- RESYNC_RATE has passed for the last mirroring read (R486). -/
def State.mirrorFree (s : State) : Bool :=
  match s.pair.mirrorFrom with
  | none => true
  | some t => decide ((s.time.raw - t).toNat < 2 ^ 63)

/-- A parcel is read for mirroring: at RESYNC_RATE, 1 GB/s being a byte in each nanosecond, its bytes take this long (R486). -/
def State.mirrorRead (s : State) (p : List Word) : State :=
  { s with pair := { s.pair with mirrorFrom := some (s.time.raw + BitVec.ofNat 64 (ceilDiv (8 * p.length) s.pair.resyncRate)) } }

/-- PARCEL_MIRROR (R485, R486): the frames of a transfer whose offer has been taken, else the next parcel is offered, newly verified
ones first. Mirroring reads keep to RESYNC_RATE and yield to a band fetch at urgency levels 2 and 3 (R210). -/
def execParcelMirror (s : State) : Out :=
  if !s.pair.paired || s.pair.st != .active || s.yields then s.done
  else match s.fab.bulkOut.find? (fun b => !b.sent && b.dest == s.pair.partner) with
    | some b => if s.offered b then (s.sendBulk b).done else s.done
    | none =>
      match s.sec.pairKey with
      | none => s.done
      | some k =>
        if !s.fab.reaches s.pair.partner || ((s.fab.chanOf s.pair.partner).isNone && decide (64 ≤ s.fab.channels.length)) then s.done
        else if !s.mirrorFree then s.done
        else match s.pair.mirrorQ, s.pair.resyncQ with
          | p :: ps, _ => ((({ s with pair := { s.pair with mirrorQ := ps } } : State).mirrorRead p).offerMirror k p).done
          | [], p :: ps => ((({ s with pair := { s.pair with resyncQ := ps } } : State).mirrorRead p).offerMirror k p).done
          | [], [] => s.done

end Sys2Proof.Machine
end

