-- ==== Sys2Proof/Machine/Security.lean ====
section
/-!
DEFINITION. Meanings of the security commands (20_security.md): sessions, jobs, the print log's export, firmware activation, lifecycle,
and JTAG.
-/

namespace Sys2Proof.Machine

/-! ### IDENTITY_READ (R556) -/

/-- The block of R556. -/
def State.identityBlock (s : State) : List Word :=
  [s.fab.id, word [s.sec.lifecycle.toNat, fld 8 8 s.sec.svn, fld 16 16 s.sec.chain.length]] ++
  (match s.sec.identity with | some k => words768 (Config.publicKey k) | none => List.replicate 12 0) ++ wordsOfBytes s.sec.chain

/-- IDENTITY_READ's effect. -/
def cmdIdentityRead (x : Cmd) (s : State) : State × Option Resp := s.writeResult x 0 s.identityBlock

/-- IDENTITY_READ (R556). -/
def execIdentityRead (x : Cmd) (s : State) : Out := (runCommand 0xA0 true false cmdIdentityRead x s).done

/-! ### SESSION_OPEN, SESSION_CLOSE (R561 to R564) -/

/-- SESSION_OPEN's effect: it waits until no parcel of the channel is in flight. -/
def cmdSessionOpen (x : Cmd) (s : State) : State × Option Resp :=
  match hostChan x.origin with
  | none => (s, resp .argBad 0)
  | some n =>
    if sessionDocketBad x then (s, resp .argBad 0)
    else match s.sessionReason x n with
      | some r => (s, resp .sessionFail r)
      | none =>
        if s.channelBusy n then ({ s with sec := { s.sec with openWaits := s.sec.openWaits ++ [(n, x)] } }, none)
        else s.openSession x n

/-- SESSION_OPEN (R563). -/
def execSessionOpen (x : Cmd) (s : State) : Out := (runCommand 0xA1 true false cmdSessionOpen x s).done

/-- SESSION_CLOSE's effect. A SESSION_OPEN that waited for the parcels now discarded is served (R563, R564). -/
def cmdSessionClose (x : Cmd) (s : State) : State × Option Resp :=
  match hostChan x.origin with
  | none => (s, resp .notFound 0)
  | some n => if s.sec.sessions[n].isNone then (s, resp .notFound 0) else ((s.endSession n).serveOpens, okResp)

/-- SESSION_CLOSE (R564). -/
def execSessionClose (x : Cmd) (s : State) : Out := (runCommand 0xA2 false false cmdSessionClose x s).done

/-! ### PAIR_KEY_ESTABLISH (R566) -/

/-- Step 1 of R566 fails. -/
def State.pairDenied (s : State) (n : NodeNo) : Bool :=
  !s.pair.paired || s.pair.unitB || s.pair.partner != n || s.sec.lifecycle != 2

/-- A new pair key is in force: the sequence spaces restart, and so does the print log's count (R566 step 6, R569, R575). -/
def State.installPair (s : State) (pk : BitVec 256) (id : BitVec 32) : State :=
  ({ s with sec := { s.sec.restartLog with pair := some { pk := pk, keyId := id, next := 1, bound := 1, highest := 0 }, pairLost := false } }).raiseF
    .pairKeyInstalled [id.toNat]

/-- PAIR_KEY_ESTABLISH's effect. What the other devices answer is free: the exchange succeeds, or fails with reason 6, or with reason 7
where RIDER names a node (R566, log 40). -/
def cmdPairKeyEstablish (x : Cmd) (s : State) : State × Option Resp :=
  let n : NodeNo := BitVec.ofNat 12 (x.argBits 11 0)
  let rider : List NodeNo := match s.pair.rider with | .node k => [k] | _ => []
  if s.pairDenied n then (s, resp .lifecycleDenied 1)
  else if !s.fab.reaches n then (s, resp .nodeUnreachable n.toNat)
  else if bitAt s.free 0 then (s.drew, resp .sessionFail 6)
  else if rider.any (fun k => !s.fab.reaches k) then (s.drew, resp .nodeUnreachable ((rider.map BitVec.toNat).sum))
  else if bitAt s.free 1 && !rider.isEmpty then (s.drew, resp .sessionFail 7)
  else
    let s1 := s.drew
    ((s1.drewN 5).installPair (BitVec.ofNat 256 (s1.freeWide 4)) (BitVec.ofNat 32 ((s1.drewN 4).free.toNat)), okResp)

/-- PAIR_KEY_ESTABLISH (R566). -/
def execPairKeyEstablish (x : Cmd) (s : State) : Out := (runCommand 0xA3 false true cmdPairKeyEstablish x s).done

/-! ### SERIAL_JOB_OPEN, SERIAL_JOB_CLOSE (R570 to R573) -/

/-- The job key a docket carries; none when WTAG does not verify (R570). -/
def State.unwrapJob (s : State) (x : Cmd) : Option (BitVec 256) :=
  let jobId := bits (x.dw 0) 63 32
  let z := Config.ecdh (s.sec.identity.getD 0) (big768 (slice x.docket 3 12))
  let salt := bytes384 (Config.sha384 (s.idBytes ++ leBytes 4 jobId))
  let key := bytesKey (hkdfBytes (bytes384 z) salt (asciiBytes "TZM-J") 32)
  let text := slice x.docket 15 4
  if Config.gcmTag key 0 (slice x.docket 0 3) text = trailerTag (slice x.docket 19 2) then
    some (bytesKey (bytesOf (Config.gcmDecrypt key 0 text)))
  else none

/-- SERIAL_JOB_OPEN's effect. -/
def cmdSerialJobOpen (x : Cmd) (s : State) : State × Option Resp :=
  let k : Fin 16 := Fin.ofNat 16 (bits (x.dw 0) 3 0)
  let first := bits (x.dw 1) 47 0
  let last := bits (x.dw 2) 47 0
  let j := s.sec.jobs[k]
  let next := max first j.next
  if last = 2 ^ 48 - 1 then (s, resp .argBad 0)
  else if j.isOpen then (s, resp .slotBusy k.val)
  else if last < first ∨ last < next then (s, resp .argBad 0)
  else if s.sec.keyLocked then (s, resp .sessionFail 5)
  else match s.unwrapJob x with
    | none => (s, resp .sessionFail 8)
    | some key =>
      let j1 : Job := { j with isOpen := true, jobId := BitVec.ofNat 32 (bits (x.dw 0) 63 32), next := next
                               reservedEnd := max j.reservedEnd next, last := last, key := some key, lastLogged := (next : Int) - 1 }
      ({ s with sec := { s.sec with jobs := s.sec.jobs.set k j1 } }, resp .ok k.val)

/-- SERIAL_JOB_OPEN (R571). -/
def execSerialJobOpen (x : Cmd) (s : State) : Out := (runCommand 0xA4 true true cmdSerialJobOpen x s).done

/-- SERIAL_JOB_CLOSE's effect; PAGE_BUSY names the state of the first queued page that names the slot. -/
def cmdSerialJobClose (x : Cmd) (s : State) : State × Option Resp :=
  let k : Fin 16 := Fin.ofNat 16 (x.argBits 3 0)
  if !s.sec.jobs[k].isOpen then (s, resp .slotIdle k.val)
  else match s.print.queue.find? (fun q => q.desc.serialised && q.desc.slot == k) with
    | some q => (s, resp .pageBusy (match s.store.page q.desc.id with | some e => e.state.code | none => PageState.committed.code))
    | none =>
      (({ s with sec := { s.sec with jobs := upd s.sec.jobs k (fun j => { j with isOpen := false, key := none }) } }).raiseF
        .serialJobEnd [fld 0 4 k.val, fld 4 2 2], okResp)

/-- SERIAL_JOB_CLOSE (R573). -/
def execSerialJobClose (x : Cmd) (s : State) : Out := (runCommand 0xA5 false true cmdSerialJobClose x s).done

/-! ### LOG_EXPORT, LOG_RELEASE (R578, R587) -/

/-- Log lines in groups that no block splits: a checkpoint's eight lines, or one line. fuel is the number of lines. -/
def logGroups : Nat → List (List Word × Bool) → List (List (List Word))
  | 0, _ => []
  | fuel + 1, ls =>
    match ls with
    | [] => []
    | (w, false) :: rest => [w] :: logGroups fuel rest
    | (w, true) :: rest => (w :: (rest.take 7).map (·.1)) :: logGroups fuel (rest.drop 7)

/-- Groups packed into blocks of at most 64 lines, in order; cur: the lines of the block being filled. -/
def packBlocks : List (List (List Word)) → List (List Word) → List (List (List Word))
  | [], cur => if cur.isEmpty then [] else [cur]
  | g :: gs, cur => if cur.length + g.length ≤ 64 then packBlocks gs (cur ++ g) else cur :: packBlocks gs g

/-- The blocks of an export from a line of the ring on: the lines of each, and its words (R108, R578). -/
def SecPart.exportBlocks (x : SecPart) (start : Nat) : List (Nat × List Word) :=
  let ls := x.ring.drop start
  (packBlocks (logGroups ls.length ls) []).zipIdx.map (fun b =>
    (b.1.length, compressedBlock 0 2 (x.exportSeq + 1) b.2 4 b.1.length b.1.flatten))

/-- An export of n lines from a line of the ring on has been written (R578). -/
def SecPart.markExport (x : SecPart) (start n : Nat) : SecPart :=
  { x with exported := max x.exported (start + n), exportSeq := (x.exportSeq + 1) % 2 ^ 32
           exports := x.exports ++ [((x.exportSeq + 1) % 2 ^ 32, start + n)] }

/-- The lines of an export are read: the burst that reads uncorrectable, with the blocks that stand whole before it (R587). -/
def State.exportReads (s : State) (start : Nat) (bs : List (Nat × List Word)) (rs : List BurstRead) : State × Option (BitVec 30 × Nat) :=
  let at_ (i : Nat) : Nat := s.sec.lineBurst (start + i)
  let r := s.readUntil 0 ((List.range (bs.map (·.1)).sum).map (fun i =>
    if i ≠ 0 ∧ at_ i = at_ (i - 1) then [] else s.rangeReads (at_ i) 1 rs))
  (r.1, r.2.map (fun p => (p.2, ((List.range bs.length).filter (fun k => decide (((bs.take (k + 1)).map (·.1)).sum ≤ p.1))).length)))

/-- An export's blocks reach the result buffer: all of them, or those whole before an uncorrectable burst (R578, R587). -/
def State.endExport (s : State) (x : Cmd) (start : Nat) (bs : List (Nat × List Word)) : State × Option Resp :=
  let p := s.exportReads start bs x.reads
  let out := match p.2 with | some (_, n) => bs.take n | none => bs
  let lines := (out.map (·.1)).sum
  let r := p.1.writeBlock x (x.dw 0) (x.dw 1) (out.flatMap (·.2)) lines
  match r.2 with
  | some (.ok, _) =>
    let s1 := { r.1 with sec := r.1.sec.markExport start lines }
    (match p.2 with | some (b, _) => (s1, resp .dramError (burstResult b)) | none => (s1, r.2))
  | o => (r.1, o)

/-- Header, tokens and trailer of each block of an export, whole (R107, R128). -/
def exportTokens (bs : List (Nat × List Word)) : List (List Word) :=
  bs.flatMap (fun b =>
    let body := (b.2.drop 2).dropLast
    match parseTokens 4 body.length 0 body with
    | .ok ts => b.2.take 2 :: ts.map Token.words ++ [b.2.drop (b.2.length - 1)]
    | .error _ => [b.2])

/-- LOG_EXPORT's effect: whole blocks that fit. The compressor's writes go to the export ring at once, or its context holds them while
a band fetch goes first, with no time limit, and the command is answered when the last is written (R129, R132, R210; log 133). -/
def cmdLogExport (x : Cmd) (s : State) : State × Option Resp :=
  if bufferBad (x.dw 0) (x.dw 1) then (s, resp .argBad 0)
  else
    let start := if bitAt (x.dw 2) 0 then 0 else s.sec.exported
    let bs := s.sec.exportBlocks start
    let fit := bs.take (fitting (bits (x.dw 1) 31 0) (bs.map (·.2)) 0).length
    match bs, fit with
    | b :: _, [] => (s, resp .bufferSmall (blockBytes b.2))
    | _, _ =>
      if s.yields then
        ({ s with sec := { s.sec with exportCtx := some { cmd := x, start := start, blocks := fit, held := exportTokens fit, ring := [] } } }, none)
      else s.endExport x start fit

/-- LOG_EXPORT (R578). While the export context holds an earlier export, the command waits (R126). -/
def execLogExport (x : Cmd) (s : State) : Out :=
  if s.sec.exportCtx.isSome then s.done else (runCommand 0xA6 true false cmdLogExport x s).done

/-- The export context writes its next token whole; the export is readable, and the command answered, once the last is written (R128,
R129, R132). -/
def State.exportToken (s : State) : State :=
  match s.sec.exportCtx with
  | none => s
  | some c =>
    if s.yields then s
    else match c.held with
      | w :: rest@(_ :: _) => { s with sec := { s.sec with exportCtx := some { c with held := rest, ring := c.ring ++ w } } }
      | _ =>
        let r := ({ s with sec := { s.sec with exportCtx := none } }).endExport c.cmd c.start c.blocks
        match r.2 with
        | some (st, v) => r.1.answer c.cmd 0xA6 st v
        | none => r.1

/-- COMPRESSOR_TOKEN (R125, R128, R132). -/
def execCompressorToken (x : CompressorContext) (s : State) : Out :=
  match x with
  | .logExport => s.exportToken.done
  | .tap p k => (s.tapToken p k).done

/-- A line of the ring is chained: TYPE is not 2 (R575, R577). -/
def chained (l : List Word × Bool) : Bool := bits (wordAt l.1 0) 59 56 != 2

/-- The k oldest lines are freed. RELEASED is the COUNT up to the last of them (R575, R578; log 41). -/
def SecPart.releaseLines (x : SecPart) (k : Nat) : SecPart :=
  let rest := x.ring.drop k
  { x with ring := rest, logHead := (x.logHead + k) % logLines, exported := x.exported - k, released := x.count - (rest.filter chained).length
           exportCtx := x.exportCtx.map (fun (c : ExportCtx) => { c with start := c.start - k })
           exports := (x.exports.filter (fun e => decide (k < e.2))).map (fun e => (e.1, e.2 - k)) }

/-- LOG_RELEASE's effect: every line of the export named and of all earlier ones. -/
def cmdLogRelease (x : Cmd) (s : State) : State × Option Resp :=
  match s.sec.exports.findIdx? (fun e => e.1 == x.argBits 31 0) with
  | none => (s, resp .notFound 0)
  | some i =>
    let k := ((s.sec.exports.take (i + 1)).map (·.2)).foldl max 0
    let x1 := { s.sec with exports := s.sec.exports.drop (i + 1) }
    (({ s with sec := x1.releaseLines k }).logLowCheck, okResp)

/-- LOG_RELEASE (R578). -/
def execLogRelease (x : Cmd) (s : State) : Out := (runCommand 0xA7 false false cmdLogRelease x s).done

/-! ### FW_ACTIVATE (R560) -/

/-- FW_ACTIVATE's effect: the image goes to the slot that is not preferred, that slot becomes the preferred one, and the Lockkeeper
restarts once the response is queued. Whether the flash takes the image is free (step 1 and 2; log 42). -/
def cmdFwActivate (x : Cmd) (s : State) : State × Option Resp :=
  let id := x.arg32
  if s.print.started then (s, resp .printActive 0)
  else match s.store.staged with
    | none => (s, resp .fwRejected (id.toNat + fld 32 4 5))
    | some (p, ws) =>
      if p ≠ id then (s, resp .fwRejected (id.toNat + fld 32 4 5))
      else if bitAt s.free 0 || (s.sec.imageReason ws).isSome then (s.drew, resp .fwRejected (id.toNat + fld 32 4 6))
      else
        let slot := !s.sec.preferred
        let s1 := s.drew.emit (.flashWrite slot ws)
        ({ s1 with sec := { s1.sec with preferred := slot }, sys := { s1.sys with restart := true } }, okResp)

/-- FW_ACTIVATE (R560). -/
def execFwActivate (x : Cmd) (s : State) : Out := (runCommand 0xA8 false true cmdFwActivate x s).done

/-! ### LIFECYCLE_SET, DEBUG_UNLOCK, PROVISION (R553 to R555, R581) -/

/-- Every host session ends (R554, R564, R581). -/
def State.endSessions (s : State) : State := (List.finRange 8).foldl (fun (s : State) n => s.endSession n) s

/-- Entry to RETURNED (R554). -/
def State.enterReturned (s : State) : State :=
  let x := s.sec
  (({ s with sec := { x with lifecycle := 3, pair := none, ownerHash := none, ownerKey := none
                             jobs := x.jobs.map (fun (j : Job) => { j with key := none }) } }).endSessions.raiseF .lifecycleChanged [3]).serveOpens

/-- LIFECYCLE_SET's effect. -/
def cmdLifecycleSet (x : Cmd) (s : State) : State × Option Resp :=
  if x.argBits 1 0 = 3 ∧ s.sec.lifecycle = 2 then (s.enterReturned, okResp) else (s, resp .lifecycleDenied 1)

/-- LIFECYCLE_SET (R554). -/
def execLifecycleSet (x : Cmd) (s : State) : Out := (runCommand 0xA9 false true cmdLifecycleSet x s).done

/-- DEBUG_UNLOCK's effect. -/
def cmdDebugUnlock (_ : Cmd) (s : State) : State × Option Resp :=
  if s.print.started then (s, resp .lifecycleDenied 3)
  else
    let s1 := s.endSessions
    ((({ s1 with sec := { s1.sec with pairLost := true, keyLocked := true, debug := true } }).raise .debugUnlocked 0).serveOpens, okResp)

/-- DEBUG_UNLOCK (R581). -/
def execDebugUnlock (x : Cmd) (s : State) : Out := (runCommand 0xAA false true cmdDebugUnlock x s).done

/-- The reason that refuses a step of PROVISION: 1 wrong state, 2 certificate check failed, 3 printing started, 4 key region locked
(R555; their order is the model's, log 43). -/
def State.provisionReason (s : State) (right certOk : Bool) : Option Nat :=
  if !right then some 1 else if !certOk then some 2 else if s.print.started then some 3 else if s.sec.keyLocked then some 4 else none

/-- GENERATE (R555). -/
def State.generateKey (s : State) (x : Cmd) : State × Option Resp :=
  if bufferBad (x.dw 1) (x.dw 2) then (s, resp .argBad 0)
  else match s.provisionReason (s.sec.lifecycle == 0 && s.sec.identity.isNone) true with
    | some r => (s, resp .lifecycleDenied r)
    | none =>
      let key : BitVec 384 := BitVec.ofNat 384 (s.freeWide 6)
      let ws := words768 (Config.publicKey key) ++ words768 (Config.ecdsaSign key (Config.sha384 s.idBytes))
      let r := (s.drewN 6).writeBlock x (x.dw 1) (x.dw 2) ws 0
      match r.2 with
      | some (.ok, _) => ({ r.1 with sec := { r.1.sec with identity := some key } }, r.2)
      | o => (r.1, o)

/-- CERTIFY (R555). -/
def State.certify (s : State) (x : Cmd) : State × Option Resp :=
  let n := (x.dw 2).toNat
  if bits (x.dw 1) 5 0 ≠ 0 ∨ 8192 < n then (s, resp .argBad 0)
  else
    let chain := (bytesOf (x.table 0)).take n
    let key := Config.publicKey (s.sec.identity.getD 0)
    match s.provisionReason (s.sec.lifecycle == 0 && s.sec.identity.isSome) (Config.chainValid s.sec.caKey chain key s.fab.id) with
    | some r => (s, resp .lifecycleDenied r)
    | none => ({ s with sec := { s.sec with lifecycle := 1, chain := chain } }, okResp)

/-- OWNER (R555, R575). -/
def State.setOwner (s : State) (x : Cmd) : State × Option Resp :=
  match s.provisionReason (s.sec.lifecycle == 1) true with
  | some r => (s, resp .lifecycleDenied r)
  | none =>
    let ws := slice x.docket 1 12
    ({ s with sec := { s.sec.restartLog with lifecycle := 2, ownerHash := some (shaWords ws), ownerKey := some (big768 ws) } }, okResp)

/-- PROVISION's effect. -/
def cmdProvision (x : Cmd) (s : State) : State × Option Resp :=
  match bits (x.dw 0) 1 0 with
  | 1 => s.generateKey x
  | 2 => s.certify x
  | 3 => s.setOwner x
  | _ => (s, resp .argBad 0)

/-- PROVISION (R555). -/
def execProvision (x : Cmd) (s : State) : Out := (runCommand 0xAB true false cmdProvision x s).done

/-! ### JTAG_INSTRUCTION (R580) -/

/-- IDCODE (R580). -/
def idcode : BitVec 32 := BitVec.ofNat 32 (fld 0 1 1 + fld 1 11 Config.jedec.toNat + fld 12 16 0x6416 + fld 28 4 0xB)

/-- JTAG_INSTRUCTION (R580): while any instruction but these three is loaded, no token is issued. IDCODE puts its register into the
scan path. -/
def execJtagInstruction (i : JtagInstruction) (s : State) : Out :=
  let s1 := { s with sec := { s.sec with jtagStop := match i with | .other => true | _ => false } }
  (match i with | .idcode => s1.emit (.idcode idcode) | _ => s1).done

end Sys2Proof.Machine
end

