-- ==== Sys2Proof/Machine/System.lean ====
section
/-!
DEFINITION. Meanings of the system commands, the power states that commands order, and the self-tests
(19_narman_command_reference.md group 0x00, 22_reset_boot_power_and_self_test.md).
-/

namespace Sys2Proof.Machine

/-! ### ECHO, VERSION, INFO, EVENT_MASK (R535, R545) -/

/-- ECHO's effect. -/
def cmdEcho (x : Cmd) (s : State) : State × Option Resp := (s, resp .ok (x.argBits 39 0))

/-- ECHO (R545). -/
def execEcho (x : Cmd) (s : State) : Out := (runCommand 0x00 false false cmdEcho x s).done

/-- The RESULT of VERSION (R545). -/
def State.version (s : State) : Nat :=
  [0xB0, fld 8 8 (s.sys.image.elim 0 (·.minor)), fld 16 8 (s.sys.image.elim 0 (·.major)), fld 24 8 s.sys.kernelSet,
    fld 32 2 s.sec.lifecycle.toNat].sum

/-- VERSION's effect. -/
def cmdVersion (_ : Cmd) (s : State) : State × Option Resp := (s, resp .ok s.version)

/-- VERSION (R545). -/
def execVersion (x : Cmd) (s : State) : Out := (runCommand 0x01 false false cmdVersion x s).done

/-- The block of INFO (R545). -/
def State.infoBlock (s : State) : List Word :=
  let b : BoardRecord := s.sys.board.getD {}
  [s.fab.id, word [s.lanes.boardId.toNat], BitVec.ofNat 64 s.sys.dramBytes,
    word [b2n b.g6Fabric, fld 1 1 (b2n b.g7Fabric), fld 2 1 (b2n b.x4)], b.laneFitted]

/-- INFO's effect. -/
def cmdInfo (x : Cmd) (s : State) : State × Option Resp := s.writeResult x 0 s.infoBlock

/-- INFO (R545). -/
def execInfo (x : Cmd) (s : State) : Out := (runCommand 0x02 true false cmdInfo x s).done

/-- The event class mask of the channel a command came on; a parcel's command counts on the channel of its session (R535). -/
def State.maskOf (s : State) (o : Origin) : BitVec 16 :=
  match o with
  | .host n _ => s.host.channels[n].mask
  | .parcel (.session n) => s.host.channels[n].mask
  | .peer n _ => match s.fab.chanOf n with | some k => k.mask | none => 0
  | .parcel _ => 0

/-- That mask set. -/
def State.setMask (s : State) (o : Origin) (m : BitVec 16) : State :=
  match o with
  | .host n _ => s.setChan n (fun h => { h with mask := m })
  | .parcel (.session n) => s.setChan n (fun h => { h with mask := m })
  | .peer n _ => s.setFabChan n (fun k => { k with mask := m })
  | .parcel _ => s

/-- EVENT_MASK's effect. -/
def cmdEventMask (x : Cmd) (s : State) : State × Option Resp :=
  (s.setMask x.origin (BitVec.ofNat 16 x.arg.toNat), resp .ok (s.maskOf x.origin).toNat)

/-- EVENT_MASK (R535). -/
def execEventMask (x : Cmd) (s : State) : Out := (runCommand 0x03 false false cmdEventMask x s).done

/-! ### COUNTERS_READ, MEMORY_INFO (R545) -/

/-- The block of COUNTERS_READ. -/
def State.countersBlock (s : State) : List Word :=
  s.sys.sramErrors.toList.map (fun n => BitVec.ofNat 64 n) ++
  [BitVec.ofNat 64 s.sys.otherSram, BitVec.ofNat 64 s.dram.corrected, BitVec.ofNat 64 s.dram.uncorrected, s.sys.summary, 0, 0, 0, 0]

/-- COUNTERS_READ's effect. -/
def cmdCountersRead (x : Cmd) (s : State) : State × Option Resp := s.writeResult x 0 s.countersBlock

/-- COUNTERS_READ (R545). -/
def execCountersRead (x : Cmd) (s : State) : Out := (runCommand 0xD3 true false cmdCountersRead x s).done

/-- MEMORY_INFO's effect. -/
def cmdMemoryInfo (_ : Cmd) (s : State) : State × Option Resp := (s, resp .ok (fld 0 8 s.sys.dramGB + fld 8 24 s.sys.layerStoreMiB))

/-- MEMORY_INFO (R545). -/
def execMemoryInfo (x : Cmd) (s : State) : Out := (runCommand 0xE1 false false cmdMemoryInfo x s).done

/-! ### POWER_STATE (R511, R614, R615) -/

/-- IDLE and DORMANT are refused while printing is started, and on a paired unit that holds a claim (R614). -/
def State.powerRefused (s : State) : Bool := s.print.started || (s.pair.paired && s.pair.claim != 0)

/-- A change between RUN and IDLE, answered with the state before. -/
def State.powerNow (s : State) (p : Power) : State × Option Resp :=
  (if p = s.sys.power then s else s.setPower p .command, resp .ok s.sys.power.code)

/-- POWER_STATE's effect. A change that needs DORMANT to be entered or left is answered when it has been made. -/
def cmdPowerState (x : Cmd) (s : State) : State × Option Resp :=
  let w : PowerWait := { origin := x.origin, tag := x.tag }
  let t := x.argBits 1 0
  let p : Power := if t = 1 then .idle else .run
  if t = 3 then (s, resp .argBad 0)
  else if t ≠ 0 ∧ s.powerRefused = true then (s, resp .printActive 0)
  else if t = 2 then ({ s with sys := { s.sys with entering := s.sys.entering ++ [w] } }, none)
  else if s.asleep then
    ({ s with sys := { s.sys with runWaits := s.sys.runWaits ++ [(w, p)]
                                  wake := some (s.sys.wake.getD .command) } }, none)
  else s.powerNow p

/-- POWER_STATE (R614). -/
def execPowerState (x : Cmd) (s : State) : Out := (runCommand 0xE0 false false cmdPowerState x s).done

/-! ### Self-tests (R616 to R621) -/

/-- A test result word (R619). -/
def testWord (test outcome reason unit ms : Nat) : BitVec 40 :=
  pack40 [fld 0 4 test, fld 4 2 outcome, fld 6 2 reason, fld 8 8 unit, fld 16 24 (min ms (2 ^ 24 - 1))]

/-- An encoder interface on which test 3 may run (R617). -/
def State.adcFree (s : State) (e : EncNo) : Bool :=
  s.enc.encs[e].mode == .off || !s.print.started || (s.sluice.source != e && !s.sluice.set.crosscheck)

/-- A lane on which test 5 may run (R617): a fitted vendor lane in DETECT or WAIT. -/
def LaneState.testable (l : LaneState) : Bool :=
  l.fitted && (l.role == .head || l.role == .fabric) && (l.st == .detect || l.st == .wait)

/-- The units on which a test may run by the run condition of R617; of the memories any. -/
def State.testUnits (s : State) (test : Nat) : List Nat :=
  match test with
  | 1 => if !s.print.started && s.sys.power == .run then List.range 256 else []
  | 2 => if s.standby || !s.print.started then List.range 16 else []
  | 3 => ((List.finRange 2).filter (fun e => s.adcFree e)).map (fun e => e.val)
  | 4 => ((List.finRange 4).filter (fun a => !s.motion.axes[a].set.enable)).flatMap (fun a => [2 * a.val, 2 * a.val + 1])
  | 5 => ((List.finRange 64).filter (fun n => s.lanes.lanes[n].testable)).map (fun n => n.val)
  | 6 => List.range 8
  | _ => []

/-- The run condition of a test holds (R617). -/
def State.testRuns (s : State) (test : Nat) : Bool := !(s.testUnits test).isEmpty

/-- VDD_CORE lies within ±3 % of 0.75 V (R616). -/
def vddOk (r : TestRun) : Bool := decide (727500 ≤ r.microvolts ∧ r.microvolts ≤ 772500)

/-- SYSCLK lies within ±100 ppm of 25 MHz (R616). -/
def sysclkOk (r : TestRun) : Bool := decide (24997500 ≤ r.sysclkHz ∧ r.sysclkHz ≤ 25002500)

/-- An ADC fails: gain error above ±2 %, offset above ±16 codes, or a missing code (R617). -/
def adcFails (a : AdcRead) : Bool := decide (200 < a.gainErr.natAbs) || decide (16 < a.offset.natAbs) || a.missing

/-- Coil A is unit 2n of axis n, coil B unit 2n + 1 (R619). -/
def coilUnit (a : AxisNo) (c : Coil) : Nat := 2 * a.val + match c with | .a => 0 | .b => 1

/-- The units that fail a test, lowest first (R617, R619). -/
def testFailing (f : TestFound) : List Nat :=
  sortBy (fun a b => decide (a ≤ b)) (match f with
    | .cells bad => (bad.map (fun u => u.toNat)).toList
    | .signatures bad => bad.map (fun k => k.val)
    | .adcs l => (l.filter (fun a => adcFails a)).map (fun a => a.enc.val)
    | .trips l => (l.filter (fun x => decide (2 < x.2.2.natAbs))).map (fun x => coilUnit x.1 x.2.1)
    | .links l => (l.filter (fun x => x.2.bitErrors != 0 || !x.2.gained || x.2.lost)).map (fun x => x.1.val)
    | .temperatures t => badSensors t)

/-- The units that fail among those a test may run on. -/
def failingUnits (r : TestRun) (units : List Nat) : List Nat := (testFailing r.found).filter (fun u => units.contains u)

/-- The outcome of a test is kept (R621). -/
def SysPart.outcome (y : SysPart) (test v : Nat) : SysPart :=
  { y with outcomes := if h : 1 ≤ test ∧ test ≤ 6 then y.outcomes.set (test - 1) v (by omega) else y.outcomes }

/-- A test passed: an ENGINE pass counts on every engine (R621). -/
def State.testPass (s : State) (test : Nat) : State :=
  let y := s.sys.outcome test 1
  { s with sys := { y with passes := if test = 2 then y.passes.map (fun n => min 65535 (n + 1)) else y.passes } }

/-- A test failed: counted, reported to the partner, and the sensors that fail test 6 are excluded from R610 (R473, R617, R621). -/
def State.testFail (s : State) (test : Nat) (units : List Nat) : State :=
  let y := s.sys.outcome test 2
  { s with
    sys := { y with fails := min 65535 (y.fails + 1)
                    excluded := if test = 6 then units.foldl (fun (e : Byte) u => e ||| (1#8 <<< u)) y.excluded else y.excluded }
    pair := { s.pair with selfFail := true } }

/-- A failed background test (R620): FAULT stands in the heartbeats until the next device reset. -/
def State.backgroundFail (s : State) (test : Nat) (units : List Nat) (ms : Nat) : State :=
  let s1 := s.testFail test units
  ({ s1 with sys := { s1.sys with testFault := true } }).raise .selftestError (testWord test 2 0 (units.headD 0) ms)

/-- Test 15 may reset the device: the parcels of R603. -/
def resetOrigin (o : Origin) : Bool :=
  match o with
  | .parcel (.session _) => true
  | .parcel .offered => true
  | _ => false

/-- Test 5 takes the lanes it covers out of the bring-up for its near-end loopback (R423, R617). -/
def State.testLanes (s : State) (test : Nat) : State :=
  if test = 5 then { s with lanes := { s.lanes with lanes := s.lanes.lanes.map (fun (l : LaneState) =>
    if l.testable then { l with st := .loopback, detections := 0, backoff := 0 } else l) } }
  else s

/-- Test 5 is over: its lanes return to DETECT with their backoff position at the start (R423). -/
def State.testLanesEnd (s : State) (w : TestWait) : State :=
  if w.test = 5 then { s with lanes := { s.lanes with lanes := Vector.ofFn (fun n =>
    let l := s.lanes.lanes[n]
    if w.units.contains n.val && l.st == .loopback && l.test.isNone then { l with st := .detect } else l) } }
  else s

/-- SELFTEST_RUN's effect. What a reserved test answers is free: ARG_BAD or SELFTEST_NOT_RUN (log 44). An active unit refuses a test
while it prints (log 45). -/
def cmdSelftestRun (x : Cmd) (s : State) : State × Option Resp :=
  let t := x.argBits 3 0
  if t = 15 then
    if resetOrigin x.origin then
      ({ s with sys := { s.sys with resetDue := true }
                store := { s.store with docketRuns := match x.origin with
                  | .parcel a => answerRun a (0xD2, x.tag) [] s.store.docketRuns
                  | _ => s.store.docketRuns } }, none)
    else (s, resp .secureRequired 0)
  else if t = 0 ∨ 7 ≤ t then (s.drew, if bitAt s.free 0 then resp .argBad 0 else resp .selftestNotRun (testWord t 3 3 0 0).toNat)
  else if s.print.started && s.pair.paired && s.pair.st == .active then (s, resp .printActive 0)
  else (({ s with sys := { s.sys with tests := s.sys.tests ++ [TestWait.mk (Fin.ofNat 16 t) x.origin x.tag (s.testUnits t)] } }).testLanes t, none)

/-- SELFTEST_RUN (R617). -/
def execSelftestRun (x : Cmd) (s : State) : Out := (runCommand 0xD2 false false cmdSelftestRun x s).done

/-- Why a test ordered by command was not run (R616, R619). -/
def notRunReason (w : TestWait) (r : TestRun) : Option Nat :=
  if !vddOk r then some 1 else if !sysclkOk r then some 2 else if w.units.isEmpty then some 3 else none

/-- A test ordered by command has ended: its response (R619). Test 1 leaves the kernels loaded again, as they were (R172, R617). -/
def State.testEnd (s : State) (w : TestWait) (r : TestRun) : State :=
  let s0 := ({ s with sys := { s.sys with tests := s.sys.tests.erase w } }).testLanesEnd w
  match notRunReason w r, failingUnits r w.units with
  | some n, _ => ({ s0 with sys := s0.sys.outcome w.test.val 3 }).respond w.origin 0xD2 w.tag .selftestNotRun (testWord w.test.val 3 n 0 0)
  | none, u :: us =>
    (s0.testFail w.test.val (u :: us)).respond w.origin 0xD2 w.tag .selftestFail (testWord w.test.val 2 0 u r.durationMs)
  | none, [] => (s0.testPass w.test.val).respond w.origin 0xD2 w.tag .ok (testWord w.test.val 1 0 0 r.durationMs)

/-- SELFTEST_RUN_END (R619). -/
def execSelftestRunEnd (r : TestRun) (s : State) : Out :=
  match s.sys.tests.find? (fun w => w.test == r.test) with
  | some w => (s.testEnd w r).done
  | none => s.done

/-- SELFTEST_BACKGROUND (R620): tests 2 and 6, of which test 2 only on a standby or while printing is stopped. -/
def execSelftestBackground (r : TestRun) (s : State) : Out :=
  if (r.test.val ≠ 2 ∧ r.test.val ≠ 6) ∨ (!s.testRuns r.test.val || !vddOk r || !sysclkOk r) = true then s.done
  else match failingUnits r (s.testUnits r.test.val) with
    | [] => (s.testPass r.test.val).done
    | us => (s.backgroundFail r.test.val us r.durationMs).done

/-- An engine's slices: 256 make a pass (R617, R621). -/
def SysPart.slice (y : SysPart) (k : EngineNo) : SysPart :=
  if y.slices[k] + 1 < 256 then { y with slices := upd y.slices k (· + 1) }
  else { y with slices := y.slices.set k 0, passes := upd y.passes k (fun n => min 65535 (n + 1)) }

/-- All sixteen engines have completed one more pass: ENGINE has passed. -/
def SysPart.passed (y old : SysPart) : SysPart :=
  if old.passes.toList.foldl min 65535 < y.passes.toList.foldl min 65535 then y.outcome 2 1 else y

/-- ENGINE_SLICE (R618): on a standby, or while printing is stopped, when the engine waits and the lead is at least W1. The duration in
the result word of a failing slice is free (log 5). -/
def execEngineSlice (k : EngineNo) (matches_ : Bool) (s : State) : Out :=
  if s.eng.engines[k].busy.isSome || decide (s.cist.lead < s.cist.w1) || !s.testRuns 2 || s.sys.power != .run || s.sys.stage != 7 then s.done
  else if matches_ then ({ s with sys := (s.sys.slice k).passed s.sys }).done
  else (s.drew.backgroundFail 2 [k.val] (bits s.free 23 0)).done

end Sys2Proof.Machine
end

