-- ==== Sys2Proof/Machine/Boot.lean ====
section
/-!
DEFINITION. Meanings of resets, boot, fatal faults, the watchdog, and DORMANT (22_reset_boot_power_and_self_test.md, 21_dram_controller.md).
-/

namespace Sys2Proof.Machine

/-! ### Device resets (R600) -/

/-- What a device reset leaves of a job slot: NEXT restarts at RESERVED_END (R572, R600). -/
def Job.afterReset (j : Job) : Job := { j with next := j.reservedEnd, lastRecord := none }

/-- What a device reset leaves of the key vault (R569, R581, R600). A locked key region stays locked until power-on. -/
def SecPart.afterReset (x : SecPart) (powerOn : Bool) : SecPart :=
  let locked := x.keyLocked && !powerOn
  let fresh : SecPart := {}
  { fresh with
    lifecycle := x.lifecycle, svn := x.svn, imageKey := x.imageKey, caKey := x.caKey, identity := x.identity, chain := x.chain
    ownerHash := x.ownerHash, ownerKey := x.ownerKey, keyLocked := locked, debug := x.debug && !powerOn
    jtagStop := x.jtagStop && !powerOn, preferred := x.preferred, pair := x.pair.map (fun (k : PairKey) => { k with next := k.bound })
    pairLost := locked, jobs := x.jobs.map Job.afterReset, count := x.count, chainHash := x.chainHash, released := x.released }

/-- A device reset: fuses, MRAM and flash are kept, and everything else returns to its reset value (R600). cause: R608. -/
def State.deviceReset (s : State) (cause : Nat) : State :=
  let r := State.reset
  { r with
    pending := s.pending, sent := s.sent, draws := s.draws
    sec := s.sec.afterReset (cause == 1)
    pair := { r.pair with highest := s.pair.highest }
    health := { r.health with ports := s.health.ports.map (fun (q : HealthPort) => { nozzles := [], record := q.record }) }
    fab := { r.fab with id := s.fab.id, preferredSet := s.fab.preferredSet }
    sys := { r.sys with cause := cause } }

/-- The condition at which SUPPLY_MONITOR_RESET comes, from VDD_CORE, VDD_SRAM, VDDA and VDD_MRAM in mV: one of them lies below its
threshold (R599). The voltages are outside the device: the row itself tells that the condition holds (log 50). -/
def suppliesLow (core sram vdda mram : Nat) : Bool := decide (core < 680 ∨ sram < 720 ∨ vdda < 1620 ∨ mram < 1620)

/-- SUPPLY_MONITOR_RESET (R599): a monitored supply is low, at power-on or in operation. -/
def execSupplyMonitorReset (s : State) : Out := (s.deviceReset 1).done

/-- RESET_N (R600). -/
def execResetN (s : State) : Out := (s.deviceReset 2).done

/-- PERST_N (R25, R598): no effect where G7 serves as fabric ports. -/
def execPerstN (s : State) : Out :=
  let b : BoardRecord := s.sys.board.getD {}
  if b.g7Fabric then s.done
  else if b.perstDevice then (s.deviceReset 3).done
  else if s.endpoint then s.functionReset.done else s.done

/-- COMMANDED_RESET (R603). -/
def execCommandedReset (s : State) : Out := if s.sys.resetDue then (s.deviceReset 4).done else s.done

/-! ### Fatal faults (R610, R611) -/

/-- FAULT_N is asserted (R528). -/
def State.assertFault (s : State) : State :=
  let s1 := { s with sys := { s.sys with faultN := true } }
  if s.sys.faultN then s1 else s1.irq 8

/-- Steps 1 and 2 of R611: tokens and STATUS stop, FAULT_N, and on an unpaired device or the claim holder MARK_MISS and SPDLIM. -/
def State.stopFire (s : State) : State :=
  let s1 := { s with sys := { s.sys with fireStop := true } }.assertFault
  if s.noClaim then s1
  else { s1 with print := { s1.print with markAll := true }, gov := { s1.gov with zeroed := true, duty := 0 } }

/-- Step 5 of R611: the PRINTING page ends DEFECTIVE with KIND 8, and queued pages become MISSED. -/
def State.endPages (s : State) : State :=
  let s0 := { s with sys := { s.sys with endPages := false }, print := { s.print with stopping := s.print.started } }.giveUpBounds
  let s1 := s0.print.waitingQ.foldl (fun (s : State) q => s.missPage q) s0
  match s1.print.span with
  | some _ => s1.cutPage s.sluice.barLine .fatal
  | none => if s1.print.started then s1.stopNow else s1

/-- The event of step 5. -/
def State.fatalEvent (s : State) : State :=
  match s.sys.fatal with
  | some (cause, unit) => s.raiseF .fatalFault [cause, fld 4 5 unit]
  | none => s

/-- Firmware runs: Narman has started, and does not restart. -/
def SysPart.firmwareRuns (y : SysPart) : Bool := decide (4 ≤ y.stage) && !y.halted && !y.restarting

/-- Step 5 and its event, at once or when firmware runs again. -/
def State.fatalStep5 (s : State) : State :=
  if s.sys.firmwareRuns then s.endPages.fatalEvent else { s with sys := { s.sys with endPages := true } }

/-- A fatal fault (R611). The first one's cause is the one PRINT_START names (R612). -/
def State.fatal (s : State) (cause unit : Nat) : State :=
  let s1 := { s with sys := { s.sys with fatal := some (s.sys.fatal.getD (cause, unit)) } }.stopFire
  s1.beat.fatalStep5

/-- A fault that names no unit: the field is free (log 5). -/
def State.fatalAny (s : State) (cause : Nat) : State := s.drew.fatal cause (s.free.toNat % 32)

/-- FATAL_FAULT (R13, R136, R587, R610). Excluded sensors do not count (R617); which sensor the event of a
temperature names is free (log 5). A lockstep mismatch resets the Lockkeeper, so that step 5
follows in WATCHDOG_RESET. -/
def execFatalFault (f : FatalCause) (s : State) : Out :=
  match f with
  | .firePll => ({ s with time := { s.time with locked := false } }.fatalAny 1).done
  | .otherPll u => (s.fatal 2 u.toNat).done
  | .lockstep =>
    let s1 := s.drew
    ({ s1 with sys := { s1.sys with watchdog := some (s1.sys.watchdog.getD s.sluice.barLine) } }.fatal 3 (s.free.toNat % 32)).done
  | .engine k w => ((s.raiseF .engineFault [k.val, fld 4 16 w.toNat]).fatal 4 k.val).done
  | .dramFirmware b => ((s.uncorrectable b 1).fatalAny 5).done
  | .sram u => (s.fatal 6 u.toNat).done
  | .overTemperature t => if overTemperature s.sys.excluded t then (s.drew.fatal 7 (s.free.toNat % 8)).done else s.done

/-- FIRE_PLL_RELOCK (R492): the counter goes on from the value it held. -/
def execFirePllRelock (s : State) : Out :=
  if s.sys.stage = 1 then s.done else ({ s with time := { s.time with locked := true } }).done

/-! ### Boot (R604 to R609) -/

/-- A halt: every lane in electrical idle, the endpoint absent, FAULT_N asserted (R605). -/
def State.halt (s : State) : State :=
  { s with sys := { s.sys with halted := true, faultN := true }
           lanes := { s.lanes with lanes := s.lanes.lanes.map (fun (l : LaneState) => { l with st := .down, blockLock := false }) } }

/-- Stage ROM (R604). -/
def State.bootRom (s : State) (o : RomOutcome) : State :=
  let s1 := { s with time := { s.time with locked := true, raw := 0 } }
  match o with
  | .pass => { s1 with sys := { s1.sys.outcome 1 1 with stage := 2 } }
  | .lockkeeperFail => s.halt
  | .otherSramFail u =>
    let y := s1.sys.outcome 1 2
    { s1 with sys := { y with fails := min 65535 (y.fails + 1), fatal := some (6, u.toNat), fireStop := true, endPages := true, stage := 2 } }

/-- The image that a slot's words make, and its board record, when it passes R557. -/
def SecPart.slotImage (x : SecPart) (slot : Bool) (i : ImageRead) : Option (RunningImage × BoardRecord) :=
  let w0 := wordAt i.header 0
  match x.imageReason (i.header ++ i.body) with
  | some _ => none
  | none => some ({ minor := bits w0 39 32, major := bits w0 47 40, svn := bits w0 55 48, commit := bitAt w0 56, slot := slot
                    kernelSet := bits (wordAt i.header 1) 31 24, kernels := i.kernels }, i.board)

/-- The image to run: of the preferred slot, else of the other (R557). -/
def SecPart.chooseImage (x : SecPart) (preferred other : Option ImageRead) : Option (RunningImage × BoardRecord) :=
  match preferred.bind (x.slotImage x.preferred) with
  | some i => some i
  | none => other.bind (x.slotImage (!x.preferred))

/-- The role of a lane by the board record (R22 to R25, R407). A camera lane is powered by its port's ENABLE and LANES, which are at
their reset values here. -/
def laneRole (b : BoardRecord) (n : LaneNo) : LaneRole :=
  let fitted := b.laneFitted.getLsbD n.val
  let port : LaneRole := if fitted then .fabric else .powerDown
  if n.val < 32 then (if fitted then .head else .powerDown)
  else if n.val < 48 then port
  else if n.val < 56 then (if b.g6Fabric then port else .powerDown)
  else if b.g7Fabric then port
  else if b.x4 ∧ 60 ≤ n.val then .powerDown else .pcie

/-- The board configuration record is in force (R23, R407, R457). -/
def State.applyBoard (s : State) (b : BoardRecord) : State :=
  { s with
    sys := { s.sys with board := some b }
    lanes := { s.lanes with lanes := Vector.ofFn (fun n =>
      { s.lanes.lanes[n] with role := laneRole b n, fitted := b.laneFitted.getLsbD n.val }) }
    fab := { s.fab with eligible := b.rootEligible, preferred := s.fab.preferredSet.getD b.preferredNode } }

/-- Stage IMAGE (R557, R604). -/
def State.bootImage (s : State) (preferred other : Option ImageRead) : State :=
  match s.sec.chooseImage preferred other with
  | none => s.halt
  | some (i, b) => let s1 := s.applyBoard b
    { s1 with sys := { s1.sys with image := some i, stage := 3 } }

/-- The default entry of the equalisation table (R411). -/
def defaultEntry : Word := 0x0000E000410C7E80

/-- A lane and class that use PCIE_PRESET (R411). -/
def usesPreset (c n : Nat) : Bool := decide (56 ≤ n) && (c == 0 || c == 3 || c == 4)

/-- An entry of the equalisation table is replaced (R412). -/
def entryBad (c n : Nat) (w : Word) : Bool :=
  bits w 63 49 != 0 || decide (bits w 14 9 < bits w 3 0 + bits w 8 4 + 16) || (usesPreset c n && decide (10 < bits w 48 45))

/-- The table as a whole is replaced (R412). -/
def eqTableBad (t : List Word) : Bool :=
  decide (t.length < 322) || bits (wordAt t 0) 15 0 != 0x5145 || bits (wordAt t 0) 19 16 != 1 || bits (wordAt t 0) 23 20 != 5 ||
  (wordAt t 1) != word [(crc32c (slice t 2 320)).toNat]

/-- Classes and lanes whose entries are replaced. -/
def badEntries (t : List Word) : List (Nat × Nat) :=
  (List.range 320).filterMap (fun i => if entryBad (i / 64) (i % 64) (wordAt t (2 + i)) then some (i / 64, i % 64) else none)

/-- Firmware checks the equalisation table (R412): LANE_EQ_DEFAULT once. -/
def State.checkEq (s : State) : State :=
  let t := (s.sys.board.getD {}).eqTable
  if eqTableBad t then
    ({ s with lanes := { s.lanes with lanes := s.lanes.lanes.map (fun (l : LaneState) => { l with eqDefault := true }) } }).raiseF
      .laneEqDefault [1, fld 2 8 255]
  else
    let bad := badEntries t
    let lane (n : LaneNo) : LaneState :=
      { s.lanes.lanes[n] with
        eqDefault := bad.any (fun e => e.2 == n.val)
        entries := Vector.ofFn (fun (c : Fin 5) => if bad.contains (c.val, n.val) then defaultEntry else wordAt t (2 + 64 * c.val + n.val)) }
    let s1 := { s with lanes := { s.lanes with lanes := Vector.ofFn lane, boardId := BitVec.ofNat 32 (bits (wordAt t 0) 63 32) } }
    if bad.isEmpty then s1 else s1.raiseF .laneEqDefault [2, fld 2 8 (min 255 bad.length)]

/-- Equalisation of a lane of the endpoint at 8.0 and 16.0 GT/s: the entry's PCIE_PRESET is requested in phase 2, and what the root port
requests in phase 3 is applied (R414, log 131). -/
def State.equalise (s : State) (n : LaneNo) : State :=
  if s.lanes.lanes[n].role != .pcie then s
  else
    let preset (c : Fin 5) : Nat := bits s.lanes.lanes[n].entries[c] 48 45
    let root (c : Fin 5) : Option (BitVec 18) := some (Config.rootRequest n.val c.val)
    ((s.emit (.presetRequest n 3 (preset 3))).emit (.presetRequest n 0 (preset 0))).setLane n (fun l =>
      { l with txRoot := (l.txRoot.set 3 (root 3)).set 0 (root 0) })

/-- Link training of the endpoint starts (R414, R604). -/
def State.endpointTrains (s : State) : State := (List.finRange 64).foldl (fun s n => s.equalise n) s

/-- A kernel's signature stands: the image's kernel key has the hash the image holds, and it signs the code (R171). -/
def kernelGood (i : KernelSet) (k : KernelRead) : Bool :=
  shaWords i.key == i.keyHash && Config.ecdsaVerify (big768 i.key) (shaWords k.code) (big768 k.signature)

/-- Indexes of the kernels whose signature fails (R171, R173). -/
def badKernels (i : KernelSet) : List Nat := (List.range i.kernels.length).filter (fun n => i.kernels[n]?.any (fun k => !kernelGood i k))

/-- The kernels of the running image are checked and loaded into every engine as a set; one KERNEL_AUTH_FAIL for each that fails, and then
every engine stays halted (R171, R173). -/
def State.loadKernels (s : State) : State :=
  match s.sys.image with
  | none => s
  | some i =>
    match badKernels i.kernels with
    | [] => { s with eng := { s.eng with kernels := i.kernels.kernels.map (fun k => k.code) }, sys := { s.sys with kernelSet := i.kernelSet } }
    | k :: ks => (k :: ks).foldl (fun (s : State) n => s.raiseF .kernelAuthFail [fld 0 4 n])
        { s with eng := { s.eng with kernelFail := some (BitVec.ofNat 4 k) } }

/-- THERMAL runs at boot (R617), in stage FIRMWARE (log 70). -/
def State.thermalAtBoot (s : State) (t : Vector Int 8) : State :=
  match badSensors t with
  | [] => s.testPass 6
  | us => s.testFail 6 us

/-- Stage FIRMWARE (R604). A fatal fault of stage ROM is reported now that firmware runs (R611). -/
def State.bootFirmware (s : State) (temps : Vector Int 8) : State :=
  let s1 := s.loadKernels.checkEq.endpointTrains
  let s2 := if s1.sys.endPages then { s1 with sys := { s1.sys with endPages := false } }.fatalEvent else s1
  let s3 := s2.thermalAtBoot temps
  { s3 with sys := { s3.sys with stage := 4 } }

/-- Every fitted vendor lane that is enabled begins its bring-up (R416, R604). -/
def State.lanesBegin (s : State) : State :=
  { s with lanes := { s.lanes with lanes := s.lanes.lanes.map (fun (l : LaneState) =>
    if l.vendor && l.fitted && l.enabled && l.st == .down then { l with st := .detect, detections := 0, backoff := 0 } else l) } }

/-- A training failure comes before another: the earlier step, then the lower subchannel and rank. -/
def failsBefore (a b : TrainFail) : Bool :=
  decide (a.step.toNat * 8 + a.subchannel.toNat * 2 + a.rank.toNat ≤ b.step.toNat * 8 + b.subchannel.toNat * 2 + b.rank.toNat)

/-- Stage DRAM (R592, R604): the first step that fails on any subchannel stops boot (R606; log 27). The readings of the DQS oscillators
become their baseline. -/
def State.bootDram (s : State) (fails : List TrainFail) (dqs : List Nat) : State :=
  match (sortBy failsBefore fails).head? with
  | some f =>
    ({ s with dram := { s.dram with failure := some f }, sys := { s.sys with stopped := true } }).raiseF .dramTrainFail
      [f.subchannel.toNat, fld 2 1 (b2n f.rank), fld 3 4 f.step.toNat]
  | none => { s with dram := { s.dram with trained := true, dqsBase := dqs }, sys := { s.sys with stage := 5 } }.lanesBegin

/-- The fused counter follows an image with COMMIT_SVN that reaches READY (R558). -/
def State.commitSvn (s : State) : State :=
  match s.sys.image with
  | some i => if i.commit then { s with sec := { s.sec with svn := max s.sec.svn (min 64 i.svn) } } else s
  | none => s

/-- READY (R604, R609): FAULT_N is released unless a fatal fault holds it (R612), and an unpaired device drives its outputs. -/
def State.bootReady (s : State) (ms : BitVec 12) : State :=
  { s with sys := { s.sys with stage := 7, bootMs := ms.toNat, faultN := s.sys.fatal.isSome }
           pair := { s.pair with driving := !s.pair.paired } }.commitSvn

/-- A fabric lane is fitted (R604). -/
def State.fabricFitted (s : State) : Bool := s.lanes.lanes.toList.any (fun l => l.role == .fabric)

/-- Every fitted vendor lane is ACTIVE (R604). -/
def State.lanesUp (s : State) : Bool := s.lanes.lanes.toList.all (fun l => !(l.vendor && l.fitted) || l.st == .active)

/-- The device has a root and a node number (R604). -/
def State.numbered (s : State) : Bool := s.fab.root.isSome && s.fab.node != 0

/-- BOOT_STAGE_DONE (R604): the outcome of the stage in progress; of another stage, or where boot has halted or stopped, none. -/
def execBootStageDone (r : BootResult) (s : State) : Out :=
  if s.sys.halted || s.sys.stopped then s.done
  else match r, s.sys.stage with
    | .rom o, 1 => (s.bootRom o).done
    | .image p o, 2 => (s.bootImage p o).done
    | .firmware t, 3 => (s.bootFirmware t).done
    | .dram f d, 4 => (s.bootDram f d).done
    | .lanes ms up, 5 =>
      if !(s.lanesUp || up) then s.done
      else if s.fabricFitted then ({ s with sys := { s.sys with stage := 6 } }).done else (s.bootReady ms).done
    | .fabric ms up, 6 => if s.numbered || up then (s.bootReady ms).done else s.done
    | _, _ => s.done

/-! ### The watchdog and Lockkeeper restarts (R560, R613) -/

/-- WATCHDOG_EXPIRY (R613): the hardware acts on the fire path, and the Lockkeeper restarts. -/
def execWatchdogExpiry (s : State) : Out :=
  if s.sys.halted || s.sys.watchdog.isSome || decide (s.sys.stage < 3) then s.done
  else ({ s with sys := { s.sys with watchdog := some s.sluice.barLine } }.stopFire).done

/-- Commands outstanding on a channel whose response does not wait in its queue (R525). -/
def HmbChannel.lost (h : HmbChannel) : List (BitVec 5 × Byte) :=
  h.outQ.foldl (fun l w => if bitAt w 50 then l else l.erase ((takenOf w).tag, (takenOf w).opcode)) h.outstanding

/-- The firmware-end reset of a channel (R524, R525): the words that wait stay, COMMAND_LOST answers the commands outstanding, and
MAILBOX_PEER_RESET follows (log 47). The channel's security session ends (R564). -/
def State.firmwareEndReset (s : State) (ch : Chan) : State :=
  let h := s.host.channels[ch]
  let s1 := s.setChan ch (fun h => { h with
    inWord := none, aborted := h.aborted || h.inWord.isSome, peerReset := true, session := h.session + 1, taken := [], running := [] })
  (s1.pushHost ch (h.lost.map (fun t => responseWord t.2 t.1 .commandLost 0) ++
    [eventWord (.mailboxPeerReset, low40 (h.session + 1).toNat)])).endSession ch

/-- What the Lockkeeper keeps in its own memory is lost: the fabric channel table with the transfers offered, the DOCKET
parcels whose commands run, and the commands that wait for an outcome of theirs (R455, R525; log 48). -/
def State.firmwareForgets (s : State) : State :=
  { s with fab := { s.fab with channels := [], bulkOut := [] }
           sec := { s.sec with openWaits := [] }
           store := { s.store with docketRuns := [] }
           sys := { s.sys with entering := [], runWaits := [], tests := [] } }

/-- A watchdog reset is over: step 5 of R611, its event, and the release of what step 1 and 2 had stopped, unless a fatal fault holds it
(R612, R613). A lockstep mismatch is reported by FATAL_FAULT alone (log 49). -/
def State.watchdogOver (s : State) (line : Nat) : State :=
  let due := s.sys.endPages
  let s1 := s.endPages
  let s2 := if due then s1.fatalEvent else s1.raise .watchdogReset (low40 line)
  if s2.sys.fatal.isSome then s2
  else { s2 with sys := { s2.sys with fireStop := false, faultN := s2.sys.stopped }, print := { s2.print with markAll := false }
                 gov := { s2.gov with zeroed := false } }

/-- WATCHDOG_RESET (R560, R613): the image is verified again, and the kernels stay (R172). -/
def execWatchdogReset (preferred other : Option ImageRead) (s : State) : Out :=
  if !s.sys.restarting then s.done
  else match s.sec.chooseImage preferred other with
    | none => s.halt.done
    | some (i, _) =>
      let s1 := ((List.finRange 8).foldl (fun (s : State) n => s.firmwareEndReset n) s).firmwareForgets
      let wd := s.sys.watchdog
      let s2 := { s1 with sys := { s1.sys with image := some i, restart := false, watchdog := none } }
      let s3 := if s2.sys.stage = 7 then s2.commitSvn else s2
      match wd with
      | some n => (s3.watchdogOver n).done
      | none => s3.done

/-! ### DORMANT (R353, R594, R614, R615) -/

/-- The waits of R85 and R353 are over, and printing is stopped (R614). -/
def State.mayRest (s : State) : Bool :=
  !s.print.started && s.store.flights.toList.all (fun f => f.isNone) && s.motion.axes.toList.all (fun a => a.atRest)

/-- A lane goes down with DORMANT. -/
def State.laneRest (s : State) (n : LaneNo) : State :=
  let l := s.lanes.lanes[n]
  if l.vendor && l.st != .down then
    (s.setLane n (fun l => { l with st := .down, detections := 0, backoff := 0, blockLock := false, lockRun := 0, readyRun := 0 })).laneLeft n l
  else s

/-- A camera port's link goes down with DORMANT; an enabled port begins its bring-up again afterwards (R357). -/
def State.camRest (s : State) (p : CamNo) : State :=
  let s1 := if s.cam.ports[p].link = .active then s.camLeft p else s
  s1.setCam p (fun q => { q with link := if q.direct.enable then .waitReset else .disabled, downTold := false })

/-- DORMANT is entered (R353, R503, R594, R614): EN outputs low, HOMED cleared, network time FREE without an event, changed health
records written (R396). -/
def State.rest (s : State) : State :=
  let s1 := (List.finRange 64).foldl (fun (s : State) n => s.laneRest n) s
  let s2 := (List.finRange 4).foldl (fun (s : State) p => s.camRest p) s1
  { s2 with
    motion := { s2.motion with axes := s2.motion.axes.map (fun (a : AxisState) =>
      { a with homed := false, set := { a.set with enable := false } }.drive) }
    time := { s2.time with sync := .free, lastReq := none, best := none, goodSecs := 0 }
    fab := { s2.fab with root := none, settled := false }
    dram := { s2.dram with selfRefresh := true } }.writeHealth.setPower .dormant .command

/-- DORMANT_ENTRY (R594): the commands that ordered it are answered with the state before. -/
def execDormantEntry (s : State) : Out :=
  if s.sys.entering.isEmpty || s.sys.power == .dormant || !s.mayRest then s.done
  else
    let was := s.sys.power.code
    let s1 := { s with sys := { s.sys with entering := [] } }.rest
    (s.sys.entering.foldl (fun (s : State) w => s.respond w.origin 0xE0 w.tag .ok (low40 was)) s1).done

/-- The commands that waited for RUN are answered, in order; one that asked for IDLE takes the device there. -/
def State.runWait (s : State) (w : PowerWait × Power) : State :=
  let s1 := if w.2 = .idle then s.setPower .idle .command else s
  s1.respond w.1.origin 0xE0 w.1.tag .ok (low40 Power.dormant.code)

/-- What the DQS interval oscillators read at the exit from DORMANT, one for each device of the baseline: free (R594 step 6, log 5). -/
def State.dqsReadings (s : State) : List Nat :=
  (List.range s.dram.dqsBase.length).map (fun i => (Config.freeValue (s.draws + i)).toNat)

/-- DORMANT_EXIT (R594): the drift applied is that of the oscillators' readings against their baseline (R593). -/
def execDormantExit (s : State) : Out :=
  match s.sys.power, s.sys.wake with
  | .dormant, some src =>
    let s1 := ({ s with
      draws := s.draws + s.dram.dqsBase.length
      dram := { s.dram with selfRefresh := false, dqsDrift := s.dram.drift s.dqsReadings }
      sys := { s.sys with wake := none, runWaits := [] } }).lanesBegin
    (s.sys.runWaits.foldl (fun (s : State) w => s.runWait w) (s1.setPower .run src)).done
  | _, _ => s.done

end Sys2Proof.Machine
end

