-- ==== Sys2Proof/Machine/Dram.lean ====
section
/-!
DEFINITION. Meanings of the steps of the DRAM controller (21_dram_controller.md): the patrol scrub, the refresh rate and the drift of the
write delays.
-/

namespace Sys2Proof.Machine

/-- The client traffic of DRAM runs: it is trained and not in self-refresh (R592, R594). -/
def DramPart.runs (d : DramPart) : Bool := d.trained && !d.selfRefresh

/-- The scrub goes on to the next burst in ascending order (R588). -/
def State.scrubbed (s : State) : State :=
  { s with dram := { s.dram with scrubNext := if s.dram.scrubNext + 1 < s.sys.dramBytes / 64 then s.dram.scrubNext + 1 else 0 } }

/-- PATROL_SCRUB_BURST (R588): no burst at urgency levels 2 and 3, nor in self-refresh. A corrected burst is rewritten, an uncorrectable
one keeps its poison. -/
def execPatrolScrubBurst (r : DramRead) (s : State) : Out :=
  if !s.dram.runs || decide (2 ≤ s.cist.level) then s.done
  else (s.scrubbed.readBurst 2 ⟨BitVec.ofNat 30 s.dram.scrubNext, r⟩).1.done

/-- DQS_DRIFT_UPDATE (R593): the drift of each device against its baseline. -/
def execDqsDriftUpdate (readings : List Nat) (s : State) : Out :=
  if !s.dram.runs then s.done else ({ s with dram := { s.dram with dqsDrift := s.dram.drift readings } }).done

/-- REFRESH_RATE_READ (R591). -/
def execRefreshRateRead (doubled : List Bool) (s : State) : Out :=
  if !s.dram.runs then s.done else ({ s with dram := { s.dram with doubled := doubled } }).done

end Sys2Proof.Machine
end

