-- ==== Sys2Proof/Machine/Engines.lean ====
section
/-!
DEFINITION. Meanings of the commands of page preparation, the furrow engines and the nozzle mapper's write stage.
-/

namespace Sys2Proof.Machine

/-- The queue's next page may begin preparation: printing is started and no queue page prints or is prepared (R56). -/
def State.mayPrepareQueue (s : State) : Bool :=
  s.print.started && !s.print.stopping && !s.print.queuePrinting && s.eng.queueCtx.isNone && s.sys.fatal.isNone

/-- The page prepared next (R56): the queue head, and on a standby that is to join page J, once it has joined (R487). A standby's
serialised page waits for its SERIAL record (R475). -/
def State.nextPage (s : State) : Option QEntry :=
  let q := if !s.shadow || s.pair.sending then s.print.waitingQ.head?
    else match s.pair.joinLine with
      | some (j, _) => if s.pair.joined then s.print.waitingQ.find? (fun q => q.desc.id == j) else none
      | none => none
  q.filter (fun q => !s.shadow || !q.desc.serialised || s.pair.serials.any (fun x => x.1 == q.desc.id))

/-- The fallback page may begin preparation: none is prepared, and neither a queue page nor a page bound next needs its
slot (R67, R205, R206). -/
def State.mayPrepareFallback (s : State) : Bool :=
  s.print.started && !s.print.stopping && s.print.trigMode && s.eng.fallbackCtx.isNone && s.print.span.isNone
    && s.sys.fatal.isNone && (match s.print.bounds.head? with | some b => b.page.isNone | none => true)

/-- Reads at a page's preparation (R587): the layer references in lost bursts of the page table, and those whose layers need a lost burst of
the layer table or the object store, print as failed blocks. -/
def State.loseObjects (s : State) (fallback : Bool) (id : Option PageId) (o : ObjectRead) : State :=
  match id.bind s.store.page with
  | none => s
  | some e =>
    let p := s.readBursts (s.rangeReads (e.base + 1) (e.desc.bursts - 1) o.reads)
    let q := p.1.readBursts (regionReads 3 o.reads ++ regionReads 5 o.reads)
    let refs := (List.range e.desc.refs.length).filter (fun i => p.2.any (fun b => decide (b.toNat = e.base + 1 + i / 4)))
    q.1.setCtx fallback (fun c => { c with lost := c.lost ++ refs ++ (if q.2.isEmpty then [] else o.refs) })

/-- PAGE_PREPARATION (R56, R67, R133 step 1). -/
def execPagePreparation (fallback : Bool) (o : ObjectRead) (s : State) : Out :=
  match s.mapNext with
  | none => s.done
  | some m =>
    if fallback then (if s.mayPrepareFallback then ((s.prepareFallback m).loseObjects true (s.print.fallback.map (fun f => f.1)) o).done else s.done)
    else match s.mayPrepareQueue, s.nextPage with
      | true, some q => ((s.prepareQueue q m).loseObjects false (some q.desc.id) o).done
      | _, _ => s.done

/-- The fetch of a plan that a command names. -/
def PageCtx.planned (c : PageCtx) (layers : List Layer) (k : EngineNo) (order ref : Nat) (second : Bool) :
    Option (Nat × Bool × Nat × LayerDesc) :=
  (fetchPlan c layers k.val (c.desc.bandAt order)).find? (fun e => e.1 == ref && e.2.1 == second)

/-- What a fetch reads (R95, R103, R164): the bursts with errors of the block's index entry, and of the block. The place of a rendered block
is not given (log 31). -/
def State.fetchReads (s : State) (c : PageCtx) (k : EngineNo) (e : Nat × Bool × Nat × LayerDesc) (rs : List BurstRead) :
    List BurstRead × List BurstRead :=
  if e.2.2.2.generated then ([], regionReads 6 rs)
  else match findLayer s.store.layers e.2.2.2.id with
    | none => ([], [])
    | some l =>
      let place := l.desc.entryPlace c.map.positions.length k.val e.2.2.1
      let block := match l.blockAt c.map.positions.length place with
        | some b => s.rangeReads (b.wordAddr.toNat / 8) ((b.wordAddr.toNat + b.count + 7) / 8 - b.wordAddr.toNat / 8) rs
        | none => []
      (s.rangeReads (regionBase 3 + (l.index.1 + place) / 8) 1 rs, block)

/-- The outcome of a fetch: verified raw words, or the reason it fails (R118, R587, R648). index and block: a burst of either is lost. -/
def PageCtx.fetchResult (c : PageCtx) (layers : List Layer) (k : EngineNo) (e : Nat × Bool × Nat × LayerDesc) (index block : Bool) :
    Except Nat (List Word) :=
  let b := c.blockOf layers k.val e.1 e.2.2.1 e.2.2.2
  if c.lost.contains e.1 || index then .error 10
  else decodeBlock (fetchExpect c.map.positions.length k.val e.2.2.1 e.2.2.2) b.1 b.2 block

/-- A fetch enters the band of its engine; a failed one waits for its first line (R119, R121). -/
def PageCtx.addFetch (c : PageCtx) (k : EngineNo) (order : Nat) (e : Nat × Bool × Nat × LayerDesc)
    (r : Except Nat (List Word)) : PageCtx :=
  let f : Fetch := match r with
    | .ok ws => ⟨k, e.1, e.2.1, 0, ws⟩
    | .error n => ⟨k, e.1, e.2.1, n, []⟩
  let c1 := c.setBand order (fun w => { w with fetches := w.fetches ++ [f] })
  match r with
  | .ok _ => c1
  | .error n => { c1 with bad := c1.bad ++ c.badFetch order k e n }

/-- BLOCK_FETCH_DONE (R118): one fetch of the band an engine prepares, in phase 1, not yet ended. -/
def execBlockFetchDone (k : EngineNo) (ref : BitVec 9) (second : Bool) (reads : List BurstRead) (s : State) : Out :=
  match s.eng.engines[k].busy with
  | none => s.done
  | some (fb, order) =>
    match s.eng.ctx fb with
    | none => s.done
    | some c =>
      match c.planned s.store.layers k order ref.toNat second, c.bands.find? (fun w => w.order == order) with
      | some e, some w =>
        if w.phase1[k].isSome || w.fetches.any (fun f => f.seg == k && f.ref == e.1 && f.second == second) then s.done
        else
          let rs := s.fetchReads c k e reads
          let i := s.readBursts rs.1
          let b := if i.2.isEmpty then i.1.readBursts rs.2 else (i.1, [])
          (b.1.setCtx fb (fun c => c.addFetch k order e (c.fetchResult s.store.layers k e (!i.2.isEmpty) (!b.2.isEmpty)))).done
      | _, _ => s.done

/-- Words of an engine's local memory in which one bit was in error: corrected and counted (R136, R619). -/
def State.sramCorrected (s : State) (k : EngineNo) (sram : List (BitVec 16)) : State :=
  { s with sys := { s.sys with sramErrors := upd s.sys.sramErrors k (fun n => min (2 ^ 64 - 1) (n + sram.length)) } }

/-- ENGINE_EDGE_EXCHANGE (R133 steps 3 and 4, R134): phase 1 ends and the edges are sent. -/
def execEngineEdgeExchange (e : EngineEnd) (s : State) : Out :=
  let k := e.engine
  let s := s.sramCorrected k e.corrected
  match s.eng.engines[k].busy with
  | none => s.done
  | some (fb, order) =>
    match s.eng.ctx fb with
    | none => s.done
    | some c =>
      match c.bands.find? (fun w => w.order == order) with
      | none => s.done
      | some w =>
        if w.phase1[k].isSome || !c.fetchesDone s.store.layers k w then s.done
        else
          (s.setCtx fb (fun c => c.setBand order (fun w =>
            { w with phase1 := w.phase1.set k (some (s.composePhase1 c w k.val)) }))).done

/-- The neighbours of an engine have sent their edges (R133 step 4). -/
def BandWork.edgesIn (w : BandWork) (k : EngineNo) : Bool :=
  w.phase1[k].isSome
    && (match w.phase1.toList[k.val + 1]? with | some n => n.isSome | none => true)
    && (k.val == 0 || (w.phase1.toList.getD (k.val - 1) none).isSome)

/-- The mapper is free for a band: no earlier band of the page is still in the engines (R133, R204). -/
def PageCtx.mapperFree (c : PageCtx) (order : Nat) : Bool := c.bands.all (fun w => decide (order ≤ w.order))

/-- Records of the ring of 384 MiB: where a new one needs room, the oldest give way (R371). fuel: their number. -/
def densityRoom : Nat → Nat → List DensityRec → List DensityRec
  | 0, _, rs => rs
  | fuel + 1, n, rs =>
    if n + (rs.map (fun r => r.words.length)).sum ≤ 50331648 then rs else densityRoom fuel n (rs.drop 1)

/-- The expected-density record enters the ring (R152, R371). -/
def State.addDensity (s : State) (c : PageCtx) (k : EngineNo) (order : Nat) (codes : List (List Nat)) : State :=
  if c.desc.inspect then
    let r := densityRecord c k.val (c.desc.bandAt order) codes
    ({ s with eng := { s.eng with density := densityRoom s.eng.density.length r.words.length s.eng.density ++ [r] } }).wroteIn 6
  else s

/-- ENGINE_BAND_HANDOVER (R133 steps 5 and 6, R148, R150): phase 2 ends, the band goes to the mapper, and the engine
starts its next band. -/
def execEngineBandHandover (e : EngineEnd) (s : State) : Out :=
  let k := e.engine
  let s := s.sramCorrected k e.corrected
  match s.eng.engines[k].busy with
  | none => s.done
  | some (fb, order) =>
    match s.eng.ctx fb with
    | none => s.done
    | some c =>
      match c.bands.find? (fun w => w.order == order) with
      | none => s.done
      | some w =>
        if w.phase2[k].isSome || !w.edgesIn k || !c.mapperFree order then s.done
        else
          let codes := phase2Codes c (fun i => w.phase1.toList.getD i none) k.val
          let s1 := (s.setCtx fb (fun c => c.setBand order (fun w => { w with phase2 := w.phase2.set k (some codes) }))).addDensity
            c k order codes
          (({ s1 with eng := { s1.eng with engines := s1.eng.engines.set k { busy := none } } }).startEngine k).done

/-- The band the mapper holds whole. -/
def PageCtx.wholeBand (c : PageCtx) : Option BandWork := c.bands.find? (fun w => w.phase2.toList.all (fun x => x.isSome))

/-- A band as the cistern holds it (R176). -/
def State.cisternBand (s : State) (c : PageCtx) (w : BandWork) : CisternBand :=
  let b := c.desc.bandAt w.order
  let segs := w.phase2.toList.map (fun x => x.getD [])
  { order := w.order
    lines := (List.range (linesOfBand c.desc.length b)).map (fun ln =>
      s.writeLine c (64 * b + ln) (segs.flatMap (fun g => g.getD ln []))) }

/-- The write stage completes a band of a context (R176, R207). -/
def State.writeBand (s : State) (fb : Bool) (c : PageCtx) (w : BandWork) : State :=
  let oldest := match s.drainBand fb c with | some d => d - 1 | none => 0
  let s1 := s.setCtx fb (fun c => { c with
    bands := c.bands.filter (fun x => x.order != w.order)
    cistern := (c.cistern.filter (fun b => decide (oldest ≤ b.order))) ++ [s.cisternBand c w]
    lowLead := false, goodLead := true })
  s1.shortfall c

/-- MAPPER_WRITE_DONE (R207): the queue's page is served first, where its band is whole and has a slot. -/
def execMapperWriteDone (s : State) : Out :=
  let ready (fb : Bool) : Option (PageCtx × BandWork) :=
    match s.eng.ctx fb with
    | none => none
    | some c => match c.wholeBand with
      | some w => if s.slotFree fb c w.order then some (c, w) else none
      | none => none
  match ready false, ready true with
  | some (c, w), _ => (s.writeBand false c w).done
  | none, some (c, w) => (s.writeBand true c w).done
  | none, none => s.done

end Sys2Proof.Machine
end

