-- ==== Sys2Proof/Machine/Governor.lean ====
section
/-!
DEFINITION. Meanings of the governor's outputs and of its messages between peers (R221, R222, R225, R450).
-/

namespace Sys2Proof.Machine

/-- SEQ a is greater than b modulo 2^16 within half the range (R225). -/
def seqAfter (a b : BitVec 16) : Bool := a != b && decide ((a - b).toNat < 32768)

/-- Cause 3 of HOLD_REQ: a kept message of a PEERS node carries HOLD (R222). -/
def State.peerHold (s : State) : State :=
  s.setCause 3 (s.gov.kept.any (fun k => k.hold && s.gov.peers.contains k.node))

/-- A message of a peer is kept in place of its last one (R225). -/
def GovPart.keep (g : GovPart) (src : NodeNo) (w0 : Word) : GovPart :=
  let seq := BitVec.ofNat 16 (bits w0 31 16)
  let m : PeerLimit := { node := src, limit := 2000 * bits w0 7 0, hold := bitAt w0 12, seq := seq }
  { g with kept := g.kept.filter (fun k => k.node != src) ++ [m]
           lastSeq := g.lastSeq.filter (fun k => k.1 != src) ++ [(src, seq)] }

/-- GOVERNOR_MESSAGE (R225): a message of a node outside PEERS, or with a SEQ not greater than the last, is ignored. -/
def execGovernorMessage (src : NodeNo) (w0 : Word) (s : State) : Out :=
  let s := s.takeFrame 2 [w0]
  let old := (s.gov.lastSeq.find? (fun k => k.1 == src)).map (fun k => k.2)
  if src = 0 || !s.gov.peers.contains src || old.any (fun q => !seqAfter (BitVec.ofNat 16 (bits w0 31 16)) q) then s.done
  else ({ s with gov := s.gov.keep src w0 }.peerHold).done

/-- The payload of a governor message (R225). -/
def GovPart.message (g : GovPart) : Word :=
  word [fld 0 8 (g.ownLimit / 2000), fld 8 4 g.ownReason, fld 12 1 (b2n ((g.causes &&& ~~~(8#5)) != 0)),
    fld 16 16 (g.seq + 1).toNat]

/-- GOVERNOR_MESSAGE_SEND (R225, R450, R468): only a unit that holds the claim, or an unpaired unit, sends. -/
def execGovernorMessageSend (s : State) : Out :=
  if s.noClaim then s.done
  else
    let w := s.gov.message
    ((s.gov.peers.filter (fun n => n != 0)).foldl (fun (s : State) n => s.fabSend 2 n [w])
      { s with gov := { s.gov with seq := s.gov.seq + 1 } }).done

/-- GOVERNOR_PEER_LOST (R222, R225): the kept message is dropped. -/
def execGovernorPeerLost (src : NodeNo) (s : State) : Out :=
  if s.gov.kept.any (fun k => k.node == src) then
    ((({ s with gov := { s.gov with kept := s.gov.kept.filter (fun k => k.node != src) } }).raiseF .governorPeerLost
      [fld 0 12 src.toNat]).peerHold).done
  else s.done

/-- SPDLIM_PERIOD (R221): the limit and the frequency of the new period, while this device drives SPDLIM. -/
def execSpdlimPeriod (s : State) : Out :=
  if s.pair.driving then
    ({ s with gov := { s.gov with duty := s.gov.dutyNow, pwmNow := s.gov.pwmHz } }).done
  else s.done

/-- HOLD_REQ_RELEASE (R222, R226). -/
def execHoldReqRelease (s : State) : Out :=
  match s.gov.releaseWait with
  | some c =>
    if s.gov.holdReq ∧ s.gov.causes = 0 then
      ((({ s with gov := { s.gov with holdReq := false, releaseWait := none } }).irq 18).raiseF .governorHold
        [0, fld 1 3 c]).done
    else s.done
  | none => s.done

end Sys2Proof.Machine
end

