-- ==== Sys2Proof/Machine/Heads.lean ====
section
/-!
DEFINITION. Meanings of the head link's commands (09_head_link.md): STATUS, latency probes, telemetry, capabilities, waveform loads,
and the temperature decisions of the sluice (R255 to R260).
-/

namespace Sys2Proof.Machine

/-! ### STATUS_SEND (R281, R282) -/

/-- STATUS_SEND (R281): STATUS on every port in use; a device that is no redundancy unit takes its claim once it can (R282). -/
def execStatusSend (s : State) : Out := (s.claimCheck).sendStatus.done

/-! ### Latency (R287, R288) -/

/-- LAT_PROBE_SEND (R287, R288): one of the 16 probes of CAPS, or the probe of ACTIVE. sentAt: t_d in 250 ps. -/
def execLatProbeSend (p : HeadPort) (sentAt : Nat) (s : State) : Out :=
  let h := s.heads.ports[p]
  let caps := s.headInCaps p
  if !(s.headActive p || (caps && decide (h.capsSent < 16))) then s.done
  else
    ((s.setHead p (fun h => { h with probes := h.probes ++ [(h.probeSeq, sentAt)], probeSeq := h.probeSeq + 1
                                     capsSent := if caps then h.capsSent + 1 else h.capsSent })).offer
      p (probeItem h.probeSeq)).done

/-- LAT_PROBE_TIMEOUT (R288): a probe unanswered within 10 µs is dropped. -/
def execLatProbeTimeout (p : HeadPort) (seq : Byte) (s : State) : Out :=
  ((s.setHead p (fun h => { h with probes := h.probes.filter (fun x => x.1 != seq) })).headReady p).done

/-- A measurement enters the medians: that of CAPS, or that of the last five in ACTIVE (R288). -/
def State.measure (s : State) (p : HeadPort) (l : Nat) : State :=
  let s1 := s.setHead p (fun h => { h with meas := l :: h.meas.take 4
                                           capsMeas := if s.headInCaps p then h.capsMeas ++ [l] else h.capsMeas })
  if s.headActive p then (s1.setHead p (fun h => { h with lam := median h.meas })).headUp p
  else s1.headReady p

/-- LAT_ECHO (R287, R288): λ_i = (t_echo − t_d − TURN × 250 ps) ÷ 2, in 125 ps. arrival in 250 ps. -/
def execLatEcho (p : HeadPort) (block : Word) (arrival : Nat) (s : State) : Out :=
  let seq := BitVec.ofNat 8 (bits block 15 8)
  if bits block 7 0 ≠ 0x87 ∨ !(s.headActive p || s.headInCaps p) then s.done
  else match s.heads.ports[p].probes.find? (fun x => x.1 == seq) with
    | none => s.done
    | some x =>
      ((s.setHead p (fun h => { h with probes := h.probes.filter (fun y => y.1 != seq) })).measure p
        (arrival - x.2 - bits block 39 16)).done

/-! ### ALIVE (R282, R294, R303, R467) -/

/-- ALIVE (R294): the port's report; HIGHEST, a new claim where MAXCLAIM exceeds the one held (R282), and the end of an old claim
(R467). -/
def execAlive (p : HeadPort) (block : Word) (s : State) : Out :=
  if bits block 7 0 ≠ 0x80 ∨ !s.headActive p then s.done
  else
    let c := BitVec.ofNat 32 (bits block 63 32)
    let s1 := (s.setHead p (fun h =>
      { h with alive := true, silent := false, selected := bitAt block 9, stopped := bitAt block 10
               lastFired := BitVec.ofNat 16 (bits block 31 16), maxClaim := c })).sawClaim c
    if s1.pair.paired then s1.releaseCheck.done
    else if s1.heads.ownClaim then
      if s1.pair.claim < c then (s1.takeClaim (c + 1)).done else s1.done
    else s1.claimCheck.done

/-- ALIVE_TIMEOUT (R303): no ALIVE for 100 µs. -/
def execAliveTimeout (p : HeadPort) (s : State) : Out :=
  if !s.headActive p || s.heads.ports[p].silent then s.done
  else ((s.setHead p (fun h => { h with alive := false, silent := true })).raiseF .headLinkDown [fld 0 5 p.val, fld 5 2 2]).done

/-! ### LINE_ACK (R295, R303, R472, R478, R488) -/

/-- HEAD_LINE_MISS once per episode, which ends after 64 consecutive fired lines (R303). -/
def State.missReport (s : State) (p : HeadPort) (n : Nat) (fired : Bool) (reason : Nat) : State :=
  let h := s.heads.ports[p]
  if fired then
    match h.miss with
    | some k => s.setHead p (fun h => { h with miss := if 64 ≤ k + 1 then none else some (k + 1) })
    | none => s
  else if h.fires.contains n then
    let s1 := s.setHead p (fun h => { h with miss := some 0 })
    if h.miss.isSome then s1 else s1.raiseF .headLineMiss [fld 0 5 p.val, fld 5 3 reason, fld 8 32 n]
  else s

/-- LINE_DISAGREE once per episode, which ends after 64 consecutive agreeing lines (R303). -/
def State.disagreeReport (s : State) (p : HeadPort) (n : Nat) (both agree : Bool) : State :=
  let h := s.heads.ports[p]
  if both && !agree then
    let s1 := s.setHead p (fun h => { h with disagree := some 0 })
    if h.disagree.isSome then s1 else s1.raiseF .lineDisagree [fld 0 5 p.val, fld 8 32 n]
  else if agree then
    match h.disagree with
    | some k => s.setHead p (fun h => { h with disagree := if 64 ≤ k + 1 then none else some (k + 1) })
    | none => s
  else s

/-- The lines counted for the next health report (R473). -/
def PairPart.counted (q : PairPart) (n : Nat) (miss dis : Bool) : PairPart :=
  let q1 := if miss && q.missLine != some n then { q with missLine := some n, lineMiss := q.lineMiss + 1 } else q
  if dis && q1.disLine != some n then { q1 with disLine := some n, disagree := q1.disagree + 1 } else q1

/-- What a unit of a pair takes from a line report (R472, R473, R478, R488). -/
def State.pairReport (s : State) (p : HeadPort) (n : Nat) (fired : Bool) (reason : Nat) (both agree : Bool) : State :=
  if !s.pair.paired then s
  else
    let s1 := { s with pair := s.pair.counted n (!fired) (both && !agree) }
    let s2 := (s1.agreeReport p n (both && agree)).silentReport p n fired reason
    let s3 := if both && !agree then s2.diverge (s2.pageAt n) 4 else s2
    s3.readyCheck

/-- LINE_ACK (R295). -/
def execLineAck (p : HeadPort) (block : Word) (s : State) : Out :=
  if bits block 7 0 ≠ 0x81 ∨ !s.headActive p then s.done
  else
    let n := expandLine s.sluice.barLine (bits block 23 8)
    let fired := bitAt block 25
    let reason := bits block 28 26
    let both := bitAt block 29
    let agree := bitAt block 30
    (((s.missReport p n fired reason).disagreeReport p n both agree).pairReport p n fired reason both agree).done

/-! ### TEMP (R190 to R192, R255 to R260, R297) -/

/-- A head's temperature state changed. -/
def State.setTemp (s : State) (p : HeadPort) (f : HeadTemp → HeadTemp) : State :=
  { s with sluice := { s.sluice with temps := upd s.sluice.temps p f } }

/-- Detail of the temperature events (R260). -/
def tempDetail (p : HeadPort) (t : Int) (n : Nat) : List Nat := [fld 0 5 p.val, fldI 5 8 t, fld 13 27 n]

/-- Derate from bar line n, or at once while printing is stopped (R255, R257, R259). -/
def HeadTemp.derateFrom (t : HeadTemp) (started : Bool) (n : Nat) (b : Bool) : HeadTemp :=
  if started then { t with changes := t.changes ++ [(n, b)] } else { t with changes := [], derate := b }

/-- A head enters warning (R257). -/
def State.enterWarn (s : State) (p : HeadPort) (t : Int) (n : Nat) : State :=
  if s.sluice.temps[p].warn then s
  else (s.setTemp p (fun h => { h.derateFrom s.print.started n true with warn := true })).raiseF .headTempWarn (tempDetail p t n)

/-- What the mapper does when a head is out from bar line n (R190 to R192): the running page's record, and SPARE_TAKEOVER once for
each time a head reaches its hard limit. A page that starts later finds the head out at its flip. -/
def State.headOut (s : State) (p : HeadPort) (n : Nat) : State :=
  match s.print.span, s.spanCtx with
  | some sp, some c => s.loseHead sp c p n
  | _, _ => s

/-- A head enters hard-limit state (R258). -/
def State.enterHard (s : State) (p : HeadPort) (t : Int) (n : Nat) : State :=
  if s.sluice.temps[p].hard then s
  else
    let o := if s.print.started then n else 0
    let was := s.sluice.temps[p].out
    let s0 := { s with mapper := { s.mapper with takeover := s.mapper.takeover &&& ~~~(BitVec.ofNat 32 (2 ^ p.val)) } }
    let s1 := (s0.setTemp p (fun h => { h with hard := true, back := none, out := some (was.getD o) })).raiseF
      .headTempHard (tempDetail p t n)
    if s.print.started && was.isNone then s1.headOut p n else s1

/-- A head clears both states (R259). -/
def State.clearTemp (s : State) (p : HeadPort) (t : Int) (n : Nat) : State :=
  let h := s.sluice.temps[p]
  if !h.warn && !h.hard then s
  else
    (s.setTemp p (fun h =>
      { h.derateFrom s.print.started n false with
        warn := false, hard := false
        back := if s.print.started && h.out.isSome then some n else none
        out := if s.print.started then h.out else none })).raiseF .headTempClear (tempDetail p t n)

/-- A temperature report judged (R255, R257 to R259). -/
def State.judgeTemp (s : State) (p : HeadPort) (t : Int) (n : Nat) : State :=
  let k := s.sluice.set.temps[p]
  if k.hard ≤ t then ((s.enterWarn p t n).enterHard p t n)
  else if k.warn ≤ t then s.enterWarn p t n
  else if t ≤ k.warn - s.sluice.set.hyst then s.clearTemp p t n
  else s

/-- TEMP (R255, R297). While printing is stopped the decision takes effect at once and the stamp is not used: the event's n is then a
free value (R255, log 5). -/
def execTemp (p : HeadPort) (block : Word) (s : State) : Out :=
  if bits block 7 0 ≠ 0x82 ∨ !s.headActive p then s.done
  else
    let t := sbits block 31 24
    if s.print.started then
      (s.judgeTemp p t (max s.heads.assembleTo (expandLine s.sluice.barLine (bits block 23 8) + s.sluice.set.thermDefer))).done
    else (s.drew.judgeTemp p t s.free.toNat).done

/-! ### HD_EVENT (R298, R303) -/

/-- HD_EVENT (R298): cut-off entered, cut-off left, internal fault. -/
def execHdEvent (p : HeadPort) (block : Word) (s : State) : Out :=
  if bits block 7 0 ≠ 0x84 ∨ !s.headActive p then s.done
  else
    let n := expandLine s.sluice.barLine (bits block 31 16)
    let cut := [fld 0 5 p.val, fld 5 8 (bits block 39 32), fld 13 27 n]
    match bits block 15 8 with
    | 1 => (s.raiseF .headCutoff cut).done
    | 2 => (s.raiseF .headCutoffClear cut).done
    | 3 => (s.raiseF .headDriverFault [fld 0 5 p.val, fld 13 27 n]).done
    | _ => s.done

/-! ### CAPS (R299, R301, R397, R416) -/

/-- A port whose caps now pass receives frames again, from the next line to be assembled (R301). -/
def State.capsHealed (s : State) (p : HeadPort) : State :=
  match s.headRec p with
  | some (_, h) =>
    if s.heads.ports[p].capsBad && (s.capsFault h).isNone then
      s.setHead p (fun q => { q with capsBad := false, framesFrom := s.heads.assembleTo })
    else s
  | none => s

/-- CAPS (R268, R299): received in CAPS or in ACTIVE; a control block that its data block does not follow at once is discarded, and
counts in FRAME_ERR (R425). A port not judged since the map took effect is judged now (R397). -/
def execCaps (p : HeadPort) (control : Word) (data : Option Word) (s : State) : Out :=
  if bits control 7 0 ≠ 0x90 ∨ !(s.headActive p || s.headInCaps p) then s.done
  else match data with
    | none => (s.setLane (headLane p) (fun l => { l with frameErr := min 65535 (l.frameErr + 1) })).done
    | some d =>
      let s1 := (s.setHead p (fun h => { h with caps := some (parseCaps control d), capsSeen := true })).capsHealed p
      let s2 := if s1.health.ports[p].judged.isNone then s1.judgeNow p else s1
      (s2.headReady p).done

/-! ### Waveform loads (R291 to R293, R545) -/

/-- WAVE_LOAD's effect: a load for every port named. A port that is not ACTIVE cannot carry it: its link is lost. -/
def cmdWaveLoad (x : Cmd) (s : State) : State × Option Resp :=
  let mask := bits (x.dw 0) 31 0
  let depth := bits (x.dw 1) 1 0
  let n := bits (x.dw 3) 14 0
  if bits (x.dw 2) 5 0 ≠ 0 ∨ depth = 3 ∨ n = 0 ∨ 16384 < n then (s, resp .argBad 0)
  else
    let ports := (List.finRange 32).filter (fun p => mask.testBit p.val)
    let s1 := { s with heads := { s.heads with waveWaits := s.heads.waveWaits ++ [WaveWait.mk x.origin x.tag 0] } }
    let s2 := ports.foldl (fun s p => s.setHead p (fun h =>
      { h with waves := h.waves ++ [WaveLoad.mk h.waveSeq depth (slice (x.table 0) 0 n) false x.origin x.tag]
               waveSeq := h.waveSeq + 1 })) s1
    let s3 := ports.foldl (fun s p => if s.headActive p then s
      else match s.heads.ports[p].waves.find? (fun w => w.origin == x.origin && w.tag == x.tag) with
        | some w => s.waveEnd p w 3
        | none => s) s2
    (s3.waveAnswer x.origin x.tag, none)

/-- WAVE_LOAD (R291). -/
def execWaveLoad (x : Cmd) (s : State) : Out := (runCommand 0x1A true false cmdWaveLoad x s).done

/-- WAVE_LOAD_SEND (R291, R292): the oldest load of a port whose depth no page uses leaves. -/
def execWaveLoadSend (p : HeadPort) (s : State) : Out :=
  if !s.headActive p then s.done
  else match s.heads.ports[p].waves.find? (fun w => !w.sent && !s.depthInUse w.depth) with
    | none => s.done
    | some w =>
      ((s.setHead p (fun h => { h with waves := h.waves.map (fun (x : WaveLoad) =>
        if x.seq == w.seq then { x with sent := true } else x) })).offer p (waveItem w)).done

/-- WAVE_ACK (R293). -/
def execWaveAck (p : HeadPort) (block : Word) (s : State) : Out :=
  if bits block 7 0 ≠ 0x83 ∨ !s.headActive p then s.done
  else match s.heads.ports[p].waves.find? (fun w =>
      w.sent && w.seq.toNat == bits block 23 16 && w.depth == bits block 9 8) with
    | none => s.done
    | some w => (s.waveEnd p w (if bitAt block 10 then 0 else 1)).done

/-- WAVE_ACK_TIMEOUT (R293): no ack within 10 ms of the trailer of the oldest load sent. -/
def execWaveAckTimeout (p : HeadPort) (s : State) : Out :=
  match s.heads.ports[p].waves.find? (fun w => w.sent) with
  | none => s.done
  | some w => (s.waveEnd p w 2).done

end Sys2Proof.Machine
end

