-- ==== Sys2Proof/Machine/Health.lean ====
section
/-!
DEFINITION. Meanings of the nozzle health and calibration commands (13_nozzle_health_and_calibration.md; R545, R549).
-/

namespace Sys2Proof.Machine

/-! ### HEALTH_READ and HEALTH_FORCE (R549) -/

/-- The head record of a port in the map in force. -/
def State.mapHead (s : State) (p : HeadPort) : Option HeadRec := s.mapper.inForce.bind (fun m => m.head p)

/-- HEALTH_READ (R549). -/
def cmdHealthRead (x : Cmd) (s : State) : State × Option Resp :=
  let p : HeadPort := Fin.ofNat 32 (bits (x.dw 0) 4 0)
  if bufferBad (x.dw 1) (x.dw 2) then (s, resp .argBad 0)
  else match s.mapHead p with
    | none => (s, resp .notFound 0)
    | some h =>
      s.writeBlock x (x.dw 1) (x.dw 2)
        (packAll 2 ((List.range h.nozzles).map (fun i => (s.nozzleState ⟨p, i⟩).code))) h.nozzles

/-- HEALTH_READ (R549). -/
def execHealthRead (x : Cmd) (s : State) : Out := (runCommand 0x46 true false cmdHealthRead x s).done

/-- HEALTH_FORCE (R549): the change acts by R395, so it takes the place of one that waits. -/
def cmdHealthForce (x : Cmd) (s : State) : State × Option Resp :=
  let n : Nozzle := ⟨Fin.ofNat 32 (x.argBits 4 0), x.argBits 17 5⟩
  match s.mapHead n.port with
  | none => (s, resp .notFound 0)
  | some h =>
    if h.nozzles ≤ n.index then (s, resp .notFound 0)
    else
      let on := x.argBits 18 18 == 1
      let r := s.health.ports[n.port].nozzles.getD n.index {}
      let s1 := { s with health := { s.health with syncs := s.health.syncs.filter (fun y => y.nozzle != n) } }
      let s2 := s1.putNozzle n { r with state := if on then .forced else .ok }
      (s2.raiseF (if on then .nozzleFailed else .nozzleRecovered) [fld 0 5 n.port.val, fld 5 13 n.index, fld 18 2 3], okResp)

/-- HEALTH_FORCE (R549). -/
def execHealthForce (x : Cmd) (s : State) : Out := (runCommand 0x47 false false cmdHealthForce x s).done

/-! ### HEALTH_CONFIG (R406) -/

/-- An entry of the table of R406 that breaks its range, row, INDEX or ELEM: reason 1; PHASE_LINES below CAM_DIV + 2 of an enabled camera
port: reason 2. -/
def checkHealth (s : State) (e : Entry) : Option Nat :=
  let one := e.index == 0 && e.elem == 0
  let two := e.index == 0 && decide (e.elem < 2)
  let ok := match e.row with
    | 0 => two && (if e.elem = 0 then e.within 1 8 else e.within 0 7)
    | 1 => decide (e.index < 8) && decide (e.elem < 2) && e.within 0 4095
    | 2 => one && e.within 4 64
    | 3 => one && e.within 1 255
    | 4 => two && e.within 1 255
    | 5 => two && (if e.elem = 0 then e.within 1 15 else e.within 1 255)
    | 6 => one && (e.within 0 15 || e.nat == 31)
    | 7 => one && e.within 2000 400000
    | 8 => one && e.duration 1000000000000 1 3600
    | 9 => two && e.within 1 64
    | 10 => one && e.within 1 20
    | _ => false
  if !ok then some 1
  else if e.row == 2 && s.cam.ports.toList.any (fun q => q.direct.enable && decide (e.nat < q.direct.div + 2)) then some 2
  else none

/-- A row of R406 takes its value. -/
def HealthSettings.put (t : HealthSettings) (e : Entry) : HealthSettings :=
  let n := e.nat
  match e.row with
  | 0 => if e.elem = 0 then { t with barSlots := n } else { t with barSlot := n }
  | 1 => { t with slotNodes := upd t.slotNodes (Fin.ofNat 8 e.index) (fun p =>
      if e.elem = 0 then (BitVec.ofNat 12 n, p.2) else (p.1, BitVec.ofNat 12 n)) }
  | 2 => { t with phaseLines := n }
  | 3 => { t with minSignal := n }
  | 4 => if e.elem = 0 then { t with missFrac := n } else { t with weakFrac := n }
  | 5 => if e.elem = 0 then { t with failCount := n } else { t with recoverCount := n }
  | 6 => { t with cappedSw := if n = 31 then none else some (Fin.ofNat 16 n) }
  | 7 => { t with calMinRate := n }
  | 8 => { t with calTimeoutPs := n }
  | 9 => if e.elem = 0 then { t with detPages := n } else { t with dcPages := n }
  | 10 => { t with dcStep := n }
  | _ => t

/-- Faults of an entry beside the others (R406): BAR_SLOT at or above BAR_SLOTS, MISS_FRAC not below WEAK_FRAC. -/
def healthWhole (s' : State) (e : Entry) : Option Nat :=
  let t := s'.health.set
  if (e.row = 0 ∧ t.barSlots ≤ t.barSlot) ∨ (e.row = 4 ∧ t.weakFrac ≤ t.missFrac) then some 1 else none

/-- The settings table of R406. -/
def healthTable : Settings where
  bad := .healthConfigBad
  isTable := fun _ _ => false
  check := checkHealth
  whole := healthWhole
  busy := fun s _ => if s.print.started then resp .sluiceBusy 0 else none
  apply := fun s e => { s with health := { s.health with set := s.health.set.put e } }

/-- HEALTH_CONFIG (R406). -/
def execHealthConfig (x : Cmd) (s : State) : Out := (runCommand 0x48 true false (runSettings healthTable) x s).done

/-! ### NOZZLE_REPORT and NOZZLE_REPORT_LOST (R398 to R400) -/

/-- The verdict of a code (R398). -/
def verdictAt (n : Nat) : Verdict := match n with | 0 => .ok | 1 => .weak | _ => .missing

/-- A strip end: every verdict kept strikes its candidate once; in a redundant bar only at the claim holder (R399, R400). -/
def State.stripEnd (s : State) : State :=
  match s.mapper.inForce with
  | none => s
  | some m =>
    if s.noClaim then s
    else s.health.kept.foldl (fun s k => match m.candAt k.position k.candB with
      | some c => s.strike c.nozzle k.verdict
      | none => s) s

/-- NOZZLE_REPORT (R399). A report that names a candidate B on a bar without spares is ignored. -/
def cmdNozzleReport (x : Cmd) (s : State) : State × Option Resp :=
  let pos := x.argBits 16 0
  let b := x.argBits 17 17 == 1
  let v := x.argBits 19 18
  let spares := match s.mapper.inForce with | some m => m.spares | none => false
  if v = 3 then (s.stripEnd, okResp)
  else if b && !spares then (s, okResp)
  else
    let kept := s.health.kept.filter (fun k => k.position != pos || k.candB != b)
    ({ s with health := { s.health with kept := kept ++ [⟨pos, b, verdictAt v⟩] } }, okResp)

/-- NOZZLE_REPORT (R399). -/
def execNozzleReport (x : Cmd) (s : State) : Out := (runCommand 0x49 false false cmdNozzleReport x s).done

/-- NOZZLE_REPORT_LOST (R399): a report of a slot to a node has had no response for 10 ms. -/
def execNozzleReportLost (slot : Fin 8) (node : NodeNo) (s : State) : Out :=
  if s.health.awaiting.contains (slot.val, node) then (s.reportLost slot.val node).done else s.done

/-- HEALTH_MAP_PERSIST (R396). -/
def execHealthMapPersist (s : State) : Out := s.writeHealth.done

/-! ### Calibration procedures (R403 to R405) -/

/-- Counts of 16 signal periods at 4,096 counts per period (R305, R404). -/
def trimCounts : Nat := 65536

/-- What a procedure does when it starts (R181, R351, R405): a head is forced to spares, or the offset of the coil with the greater
target is cleared (on equal targets which coil is chopped is free, log 5). -/
def State.calBegin (s : State) (p : CalProc) : State :=
  match p with
  | .nozzle h =>
    let spares := match s.mapper.inForce with | some m => m.spares | none => false
    if spares then { s with mapper := { s.mapper with forced := s.mapper.forced ||| (1#32 <<< h.val) } } else s
  | .chopper a =>
    let x := s.motion.axes[a]
    let b := decide (x.coilA.target < x.coilB.target) || (x.coilA.target == x.coilB.target && bitAt s.free 0)
    let y := if b then { x with coilB := { x.coilB with ofs := 0 } } else { x with coilA := { x.coilA with ofs := 0 } }
    { s.drew with motion := { s.motion with axes := s.motion.axes.set a y } }
  | _ => s

/-- A calibration command: CAL_BUSY for a busy target; a procedure whose assumptions do not hold ends at once; else it runs (R403,
R404). -/
def cmdCal (opcode : Byte) (p : CalProc) (x : Cmd) (s : State) : State × Option Resp :=
  if (s.health.run p).isSome then (s, resp .calBusy 0)
  else
    let start : Int := match p with | .encTrim e => s.enc.encs[e].position.toInt | _ => 0
    let r : CalRun := { proc := p, origin := x.origin, tag := x.tag, opcode := opcode, mode := s.print.startMode
                        strips := 0, tally := [], start := start }
    match s.calFault p with
    | some n => (s.calFail r n, none)
    | none => ({ s.calBegin p with health := { s.health with runs := s.health.runs ++ [r] } }, none)

/-- CAL_NOZZLE (R405 procedure 1). -/
def execCalNozzle (x : Cmd) (s : State) : Out :=
  (runCommand 0xC0 false false (cmdCal 0xC0 (.nozzle (Fin.ofNat 32 (x.argBits 4 0)))) x s).done

/-- CAL_DENSITY (R405 procedure 2). -/
def execCalDensity (x : Cmd) (s : State) : Out := (runCommand 0xC1 false false (cmdCal 0xC1 .density) x s).done

/-- CAL_ENC_TRIM (R405 procedure 3). -/
def execCalEncTrim (x : Cmd) (s : State) : Out :=
  (runCommand 0xC2 false false (cmdCal 0xC2 (.encTrim (Fin.ofNat 2 (x.argBits 0 0)))) x s).done

/-- CAL_CHOPPER (R405 procedure 4). -/
def execCalChopper (x : Cmd) (s : State) : Out :=
  (runCommand 0xC3 false false (cmdCal 0xC3 (.chopper (Fin.ofNat 4 (x.argBits 1 0)))) x s).done

/-- CAL_CANCEL (R404): the procedure ends with reason 9, then the command is answered. -/
def cmdCalCancel (x : Cmd) (s : State) : State × Option Resp :=
  match s.health.runs.find? (fun r => r.proc.num == x.argBits 2 0 && r.proc.target == x.argBits 7 3) with
  | some r => (s.calFail r 9, okResp)
  | none => (s, resp .notFound 0)

/-- CAL_CANCEL (R404). -/
def execCalCancel (x : Cmd) (s : State) : Out := (runCommand 0xCF false false cmdCalCancel x s).done

/-- CAL_TIMEOUT (R404 reason 5). -/
def execCalTimeout (proc : CalProc) (s : State) : Out :=
  match s.health.run proc with
  | some r => if proc.num ≤ 2 then (s.calFail r 5).done else s.done
  | none => s.done

/-- Nozzle detection gives a nozzle its state; the counters are cleared (R405). -/
def NozzleRec.detect (n : NozzleRec) (strips : Nat) (t : CalTally) : NozzleRec :=
  { state := if n.state = .forced then .forced
      else if strips < 2 * t.missing then .failed
      else if t.okay = strips then .ok
      else n.state
    miss := 0, okRun := 0 }

/-- Nozzle detection passes (R405): the nozzles of the head, each with its tally, and how many changed. -/
def State.endDetection (s : State) (r : CalRun) (h : HeadPort) : State :=
  let res := (List.range s.health.ports[h].nozzles.length).foldl (fun (acc : State × Nat) i =>
    let n : Nozzle := ⟨h, i⟩
    let old := acc.1.health.ports[h].nozzles.getD i {}
    let new := match r.tally.find? (fun t => t.nozzle == n) with
      | some t => old.detect r.strips t
      | none => { old with miss := 0, okRun := 0 }
    ((acc.1.putNozzle n new).nozzleEvent n old.state new.state 2, acc.2 + (if new.state = old.state then 0 else 1))) (s, 0)
  res.1.calAnswer r .calPass res.2

/-- The curve index that a candidate moves to (R405); a mean ratio half way between two steps rounds by a free bit (log 5). -/
def movedCurve (step : Nat) (index : Nat) (ratio : Rat) (up : Bool) : Nat :=
  let y := (1 - ratio) * 200 / step
  let lo := (y + 1 / 2).floor
  let r := if y + 1 / 2 = (lo : Rat) ∧ !up then lo - 1 else lo
  (max 0 (min 63 ((index : Int) + r))).toNat

/-- Density calibration passes (R194, R405): the candidates that move, as new indices. -/
def State.densityMoves (s : State) (m : NozzleMap) (r : CalRun) : List (Nozzle × Nat) :=
  (m.positions.flatMap PosEntry.cands).filterMap (fun c =>
    match r.tally.find? (fun t => t.nozzle == c.nozzle) with
    | none => none
    | some t =>
      if t.ratio.2 = 0 ∨ s.nozzleState c.nozzle = .failed then none
      else
        let rho := t.ratio.1 / t.ratio.2
        if |1 - rho| ≤ (s.health.set.dcStep : Rat) / 400 then none
        else
          let i := (lookupNozzle s.mapper.curveIdx c.nozzle).getD c.curve
          let j := movedCurve s.health.set.dcStep i rho (bitAt s.free 0)
          if j = i then none else some (c.nozzle, j))

/-- Density calibration ends (R405). -/
def State.endDensity (s : State) (r : CalRun) : State :=
  match s.mapNext with
  | none => s.calFail r 1
  | some m =>
    let cands := m.positions.flatMap PosEntry.cands
    let seen := (cands.filter (fun c => r.tally.any (fun t => t.nozzle == c.nozzle))).length
    if 10 * seen < 9 * cands.length then s.calFail r 5
    else
      let moves := s.densityMoves m r
      let kept := s.mapper.curveIdx.filter (fun p => (lookupNozzle moves p.1).isNone)
      let s1 := { s.drew with mapper := { s.mapper with curveIdx := kept ++ moves } }
      (s1.startRollout (s1.curvesNow m) m.rolloutK).calAnswer r .calPass moves.length

/-- An encoder trim ends (R330, R402, R405): the values are written, or lie outside their ranges or leave too great an error. -/
def State.endTrim (s : State) (r : CalRun) (e : EncNo) (ofsS ofsC gainC phase : Int) (leftPpm leftMdeg : Nat) : State :=
  let k := s.enc.encs[e]
  if k.mode != .analogue || k.lossEp || decide ((k.position.toInt - r.start).natAbs < trimCounts) then s.calFail r 6
  else if decide (2000 < leftPpm) || decide (200 < leftMdeg) || decide (ofsS < -2048) || decide (2047 < ofsS) || decide (ofsC < -2048) || decide (2047 < ofsC) ||
      decide (gainC < 8192) || decide (32768 < gainC) || decide (phase < -8192) || decide (8192 < phase) then s.calFail r 8
  else
    let t : EncTrim := { ofsS := ofsS, ofsC := ofsC, gainC := gainC.toNat, phase := phase }
    let k1 := if s.print.started then { k with trimNext := some t } else { k with trim := t, trimNext := none }
    ({ s with enc := { s.enc with encs := s.enc.encs.set e k1 } }).calAnswer r .calPass 0

/-- The delay D in ns that the two chops give (R405); none where they give none. -/
def chopDelay (h : Nat) (tOn1 tOff1 tOn2 tOff2 : Nat) : Option Rat :=
  if tOn1 = tOn2 ∨ tOff1 = tOff2 then none
  else
    let sOn : Rat := (h : Rat) / ((tOn2 : Rat) - tOn1)
    let sOff : Rat := (h : Rat) / ((tOff2 : Rat) - tOff1)
    if sOn + sOff = 0 then none else some ((sOn * tOn1 - h) / (sOn + sOff))

/-- A chopper trim ends (R354, R405): D is written in steps of 1 ns; which way it rounds is free (log 5). -/
def State.endChop (s : State) (r : CalRun) (a : AxisNo) (tOn1 tOff1 tOn2 tOff2 : Nat) : State :=
  let x := s.motion.axes[a]
  if !x.set.enable || !x.atRest || x.coilFault || decide (x.set.runCurrent < 91) then s.calFail r 7
  else match chopDelay x.set.hyst tOn1 tOff1 tOn2 tOff2 with
    | none => s.calFail r 8
    | some d =>
      if d < 0 ∨ 2000 < d then s.calFail r 8
      else
        let lo := d.floor
        let n := if d = (lo : Rat) ∨ !bitAt s.free 0 then lo.toNat else lo.toNat + 1
        ({ s.drew with motion := { s.motion with axes := s.motion.axes.set a { x with set := { x.set with delayNs := n } } } }).calAnswer
          r .calPass 0

/-- CAL_PROCEDURE_END (R403): a procedure that has gathered what it needs completes. -/
def execCalProcedureEnd (proc : CalProc) (m : CalMeasure) (s : State) : Out :=
  match s.health.run proc with
  | none => s.done
  | some r =>
    match proc, m with
    | .nozzle h, .strips =>
      if r.strips < s.health.set.detPages then s.done
      else match s.printFault with
        | some n => (s.calFail r n).done
        | none => (s.endDetection r h).done
    | .density, .strips =>
      if r.strips < s.health.set.dcPages then s.done
      else match s.printFault with
        | some n => (s.calFail r n).done
        | none => (s.endDensity r).done
    | .encTrim e, .trim ofsS ofsC gainC phase leftPpm leftMdeg => (s.endTrim r e ofsS ofsC gainC phase leftPpm leftMdeg).done
    | .chopper a, .chops tOn1 tOff1 tOn2 tOff2 => (s.endChop r a tOn1 tOff1 tOn2 tOff2).done
    | _, _ => s.done

end Sys2Proof.Machine
end

