-- ==== Sys2Proof/Machine/Lines.lean ====
section
/-!
DEFINITION. Meanings of the commands of the line boundary, product detection and MARK_MISS.
-/

namespace Sys2Proof.Machine

/-! ### LINE_BOUNDARY (R14) -/

/-- Failed fetches whose first line is allocated raise BLOCK_BAD and are recorded (R121). DESIGN CHOICE: the first and last bar line affected,
which the spec does not reckon, are the block's first and last composed line moved by the least and the greatest lag of the rows the page
uses (log 142). -/
def State.badAt (s : State) (n : Nat) : State :=
  match s.print.span, s.spanCtx with
  | some sp, some c =>
    let lags := usedLags c.map sp.desc
    let lo := (lags.min?).getD 0
    let hi := lags.foldl max 0
    let due := c.bad.filter (fun b => decide (sp.first + b.first + lo ≤ n))
    let s1 := s.setCtx sp.fallback (fun c => { c with bad := c.bad.filter (fun b => decide (n < sp.first + b.first + lo)) })
    due.foldl (fun s b =>
      if sp.first + b.first ≤ sp.last then
        let p := sp.desc.pageLines b.first b.last
        (s.raiseF .blockBad [fld 0 18 b.band, fld 18 4 b.segment, fld 22 4 b.reason, fld 26 9 b.ref]).addDefect
          ⟨.blockFailed b.ref b.segment b.reason b.layer, (sp.first + b.first + lo : Nat), (sp.first + b.last + hi : Nat), p.1, p.2⟩
      else s) s1
  | _, _ => s

/-- A line within a generated layer's effective extent fires (R576). -/
def State.codeAt (s : State) (n : Nat) : State :=
  match s.print.span, s.spanCtx with
  | some sp, some c =>
    let hit := (usedLags c.map sp.desc).any (fun l =>
      decide (sp.first + l ≤ n) && decide (n - sp.first - l ≤ sp.last - sp.first) &&
      c.desc.refs.zipIdx.any (fun (r, i) => match findLayer s.store.layers r.layer with
        | some y => y.desc.generated && (match extent c i y.desc with
          | some e =>
            let line := c.desc.lineOf (n - sp.first - l)
            decide (r.lineOffset ≤ line) && decide (line < r.lineOffset + e.1)
          | none => false)
        | none => false))
    if hit && !s.cist.blank.contains n then
      { s with print := { s.print with span := some { sp with codeFired := true } } }
    else s
  | _, _ => s

/-- The governor is evaluated at bar line n: a rotation, the line after a page's last line, or every 64 lines while no page
prints (R217). -/
def State.govDue (s : State) (n : Nat) : Bool :=
  match s.print.span with
  | some sp => decide ((n - sp.first) % 64 = 0 ∧ n ≤ sp.last) || decide (n = sp.last + 1)
  | none => decide (n % 64 = 0) || (decide (s.print.schedEdge = n) && decide (s.lagMax = 0) && decide (0 < n))

/-- Bar line n has been taken by the core blocks. -/
def State.lineTaken (s : State) (n : Nat) : State :=
  let s1 := { s with sluice := { s.sluice with coreLine := n } }
  let s2 := (((s1.pulsesAt n).startsAt n).badAt n).codeAt n
  let s3 := s2.assembleUpTo (n + 8)
  let s5 := s3.evalLead.askHeld
  let s6 := if s5.govDue n then s5.evalGov else s5
  let s7 := s6.checkOverspeed.calCheck (fun p => decide (p.num ≤ 2))
  match s7.print.span with
  | some sp => if sp.trailing ≤ n then s7.endPage else s7
  | none => s7

/-- LINE_BOUNDARY (R14): the core blocks take the next bar line the sluice has allocated. -/
def execLineBoundary (at_ : Word) (s : State) : Out :=
  let s := (s.reach at_).allSlots
  if s.print.started && decide (s.sluice.coreLine < s.sluice.barLine) then (s.lineTaken (s.sluice.coreLine + 1)).done
  else s.done

/-! ### PRODUCT_DETECT (R61 to R69) -/

/-- Trailing edge + 1 of the last page started or scheduled; 0 when none since print start (R62 step 2, R63). -/
def State.lastEdge (s : State) : Nat :=
  match s.print.bounds.getLast? with
  | some b =>
    let len := match b.page with
      | some id => match s.print.queue.find? (fun q => q.desc.id == id) with | some q => q.desc.length | none => 0
      | none => match s.fallbackDesc with | some d => d.length | none => 0
    b.start + len + s.lagOf (s.ctxFor b.page.isNone (b.page.getD ((s.print.fallback.map (fun f => f.1)).getD 0)))
  | none => match s.print.span with
    | some sp => sp.trailing + 1
    | none => s.print.schedEdge

/-- The queue head that a trigger may bind: the first page not printing and not bound. -/
def State.unbound (s : State) : Option QEntry := s.print.waitingQ.find? (fun q => q.bound.isNone)

/-- A trigger binds a page (R62 step 3). -/
def State.bindPage (s : State) (q : QEntry) (n : TrigNo) (start : Nat) : State :=
  (s.setQ q.desc.id (fun q => { q with start := some start, bound := some n })).bindStart ⟨n, start, some q.desc.id⟩

/-- The decision of R62 for an edge at a trigger line, and the record of it (R477). -/
def State.decideTrigger (s : State) (n : TrigNo) (line : Nat) : State :=
  let start := line + s.print.trigs[n].set.delay
  let detail := [fld 0 32 start, fld 38 2 n.val]
  let told (s : State) (page : Nat) (outcome : Nat) : State :=
    s.record 6 (word [fld 0 32 page, fld 32 2 n.val, fld 34 2 outcome]) (BitVec.ofNat 64 start)
  if 16 ≤ s.print.trigs[n].pending.length then
    told ((s.raiseF .triggerOverflow detail).pulseFor n start) 0 2
  else if start < s.lastEdge + 96 then
    told ((s.raiseF .triggerEarly detail).pulseFor n start) 0 2
  else
    let other (s : State) : State :=
      let s1 := s.bindFallback n start
      told s1 (match s.print.fallback with | some (id, _) => id.toNat | none => 0) (if s.print.fallback.isSome then 1 else 2)
    match s.unbound with
    | none => other s
    | some q =>
      if q.held.isSome then other (s.serialHeld q.desc.id (q.held.getD 0) n.val)
      else if q.eligible line then told (s.bindPage q n start) q.desc.id.toNat 0
      else other (s.raiseF .lateCommit [q.desc.id.toNat])

/-- PRODUCT_DETECT (R61, R62): a qualified edge. It also wakes the device from DORMANT (R614). A standby awaits the active's decision
(R475). -/
def execProductDetect (n : TrigNo) (s : State) : Out :=
  if s.asleep then (s.wakeBy (.ptrig n)).done
  else if !s.print.started || s.print.stopping || !s.print.trigMode || !s.print.trigEnable.getLsbD n.val then s.done
  else if s.shadow then
    ({ s with pair := { s.pair with shadowTrigs := (s.pair.shadowTrigs ++ [(n, s.sluice.barLine)]).drop (s.pair.shadowTrigs.length - 63) } }).done
  else (s.decideTrigger n s.sluice.barLine).done

/-- MARK_MISS_PULSE_END (R68): the width expires. -/
def execMarkMissPulseEnd (n : TrigNo) (s : State) : Out := (s.setTrig n (fun t => { t with asserted := false })).done

/-! ### HOLD_LIMIT_EXPIRY (R248) -/

/-- HOLD_LIMIT_EXPIRY (R248): a page PRINTING, or before its trailing edge, becomes INTERRUPTED once in a stop; the fallback page is never
PRINTING. A standby keeps the abort line it computes until the active's record of it (R475, R484). -/
def execHoldLimitExpiry (s : State) : Out :=
  match s.print.span with
  | none => s.done
  | some sp =>
    let told := s.sluice.holdTold
    let s := { s with sluice := { s.sluice with holdTold := true } }
    if told || sp.fallback then s.done
    else if s.shadow then
      let s1 := { s with print := { s.print with span := some { sp with interrupted := true } } }
      if sp.desc.holdAbort then ({ s1 with pair := { s1.pair with shadowAbort := some s.sluice.barLine } }).done
      else (s1.defect .interruption s.sluice.barLine s.sluice.barLine).done
    else
      let s1 := ({ s with print := { s.print with span := some { sp with interrupted := true } } }).raiseF .pageInterrupted
        [sp.desc.id.toNat, fld 32 1 (b2n sp.desc.holdAbort)]
      if sp.desc.holdAbort then (s1.abortAt s.sluice.barLine .holdAbort).done
      else (s1.defect .interruption s.sluice.barLine s.sluice.barLine).done

end Sys2Proof.Machine
end

