-- ==== Sys2Proof/Machine/Standby.lean ====
section
/-!
DEFINITION. What a standby does with the active's schedule records (R475 to R478, R487): the decisions it takes from them, and the way
it joins the computation.
-/

namespace Sys2Proof.Machine

/-! ### The queue of a standby -/

/-- A descriptor that stands for a page whose parcel has not come. -/
def absentPage (id : PageId) : PageDesc :=
  { id := id, length := 0, mode := 0, carriage := false, reverse := false, gap := 0, serialised := false, checkStrip := false
    inspect := false, holdAbort := false, slot := 0, hostTag := 0, refs := [] }

/-- The descriptor of a page as the page table has it. -/
def State.descOf (s : State) (id : PageId) : PageDesc :=
  match s.store.page id with | some e => e.desc | none => absentPage id

/-- The queue and the fallback page take what the page store now holds: a page that was named before its parcel came, and a queued page
that has become READY (R49, R475). -/
def State.refreshQueue (s : State) : State :=
  if !s.shadow then s
  else
    let look (s : State) (q : QEntry) : QEntry := match s.store.page q.desc.id with
      | some e => if q.desc.length = 0 then { q with desc := e.desc, rate := (s.costCtx e.desc).rate } else q
      | none => q
    let s1 := { s with print := { s.print with queue := s.print.queue.map (fun q => look s q)
                                               fallback := s.print.fallback.map (fun (f : PageId × Nat) => (f.1, (s.costCtx (s.descOf f.1)).rate)) } }
    s1.print.queue.foldl (fun (s : State) (q : QEntry) => s.setPage q.desc.id (fun e =>
      if e.state == .ready then { e with state := .committed } else e)) s1

/-- ENQUEUE: the page enters the queue behind the others. A page named again, as before a join, moves behind them (R487 step 4). -/
def State.enqueueAs (s : State) (id : PageId) (line : Nat) : State :=
  if s.print.span.any (fun sp => !sp.fallback && sp.desc.id == id) then s
  else
    let d := s.descOf id
    let new : QEntry := { desc := d, rate := (s.costCtx d).rate, commitLine := if s.print.started then some line else none, start := none
                          bound := none, held := none, serial := none }
    let q := (s.print.queue.find? (fun q => q.desc.id == id)).getD new
    ({ s with print := { s.print with queue := s.print.queue.filter (fun (q : QEntry) => q.desc.id != id) ++ [q] } }.refreshQueue).evalGov

/-- CANCEL. -/
def State.cancelAs (s : State) (id : PageId) : State :=
  match s.print.waitingQ.find? (fun q => q.desc.id == id) with
  | some q => (s.missPage q).evalGov
  | none => s

/-- FALLBACK. -/
def State.fallbackAs (s : State) (id : PageId) : State := if id = 0 then s.clearFallback else s.setFallback (s.descOf id)

/-! ### Starts, stops and aborts -/

/-- START: under DISTANCE, as the print model then knows. -/
def State.startAs (s : State) (id : PageId) (n : Nat) : State :=
  ((s.setQ id (fun q => { q with start := some n })).fixStart n)

/-- TRIGGER: the page or the fallback page bound, or the trigger refused (R62, R68). The standby's own account of the trigger is over. -/
def State.triggerAs (s : State) (id : PageId) (n : TrigNo) (outcome start : Nat) : State :=
  let s1 := { s with pair := { s.pair with shadowTrigs := match s.pair.shadowTrigs.find? (fun (x : TrigNo × Nat) => x.1 == n) with
                | some x => s.pair.shadowTrigs.erase x
                | none => s.pair.shadowTrigs }
                     print := { s.print with trigMode := true, trigEnable := s.print.trigEnable ||| (1#4 <<< n.val) } }
  match outcome with
  | 0 => match s1.print.waitingQ.find? (fun (q : QEntry) => q.desc.id == id) with
    | some q => s1.bindPage q n start
    | none => s1
  | 1 => s1.bindFallback n start
  | _ => s1.pulseFor n start

/-- PRINT_START: bar line 0 at a position. The record names neither the inputs enabled nor a map: which inputs are is free until a TRIGGER
record names one (log 53). The ports are checked, and one that fails gets no frames (R301). -/
def State.printAs (s : State) (mode : BitVec 4) (trig : Bool) (x0 : Int) : State :=
  let s1 := match s.mapper.inForce with | some m => s.capsPassed.checkCaps m | none => s
  s1.drew.startPrinting mode trig (BitVec.ofNat 4 (bits s.free 3 0)) (some (x0 : Rat))

/-- PRINT_STOP: allocation ends after bar line n (R546). -/
def State.stopAs (s : State) (flush : Bool) (n : Nat) : State :=
  if !s.print.started then s
  else
    let s1 := { s with print := { s.print with stopping := true } }.giveUpBounds
    let s2 := if flush then s1.print.waitingQ.foldl (fun s q => s.missPage q) s1 else s1
    match s2.print.span with
    | none => s2.stopNow
    | some sp => if n < sp.trailing then s2.cutPage n .printStop else s2

/-- ABORT. The record does not say by which means the page was aborted: the KIND of the standby's own defect record is free (log 53). -/
def State.abortAs (s : State) (id : PageId) (a : Nat) : State :=
  let kind : DefectKind := match s.free.toNat % 3 with | 0 => .holdAbort | 1 => .pageAbort | _ => .printStop
  let s1 := { s.drew with pair := { s.pair with shadowAbort := none } }
  if s1.print.span.any (fun sp => sp.desc.id == id) then (s1.abortAt a kind).evalGov else s1

/-! ### Serials (R475, R567, R574, R575) -/

/-- A slot that another unit has drawn from: NEXT and RESERVED_END follow, and the serial counts as seen (R574, R575). -/
def Job.drawn (j : Job) (serial : Nat) : Job :=
  let next := max j.next (serial + 1)
  { j with next := next
           reservedEnd := if j.reservedEnd ≤ serial then j.reservedEnd + 256 * ((serial - j.reservedEnd) / 256 + 1) else j.reservedEnd
           lastRecord := some serial, lastLogged := max j.lastLogged serial }

/-- SERIAL: the page's serial and MAC. The slot is the page's; of a page not held here no slot is known. -/
def State.serialAs (s : State) (id : PageId) (serial : BitVec 48) (mac : BitVec 40) : State :=
  let s1 := { s with pair := { s.pair with serials := (id, serial, mac) :: (s.pair.serials.filter (fun x => x.1 != id)).take 1023 } }
  match s.store.page id with
  | some e => { s1 with sec := { s1.sec with jobs := upd s1.sec.jobs e.desc.slot (fun j => j.drawn serial.toNat) } }
  | none => s1

/-! ### Alignment (R476) -/

/-- ALIGN: an index record pairs with the one own index event on its interface within 50 µs, past or to come; with two it is ignored. A
record at rest pairs with the standby's own hysteresis position while printing is stopped and it rests. -/
def State.alignAs (s : State) (e : EncNo) (atRest : Bool) (pos : Int) : State :=
  if atRest then
    let l := s.sluice.loops[e]
    if !s.print.started && l.rest then s.aligned e 1 (l.hyst - pos) else s
  else
    let raw := s.time.raw
    let own := s.pair.indexes.filter (fun x => within50 raw x.2.2)
    match own.filter (fun x => x.1 == e) with
    | [] => { s with pair := { s.pair with indexes := own, aligns := (e, pos, raw) :: s.pair.aligns.filter (fun x => within50 raw x.2.2) } }
    | [x] => ({ s with pair := { s.pair with indexes := own.erase x } }).aligned e 0 (x.2.1 - pos)
    | _ => { s with pair := { s.pair with indexes := own } }

/-- A position of the active in this unit's counts; without an offset it stands as it is (R476, log 53). -/
def State.converted (s : State) (pos : Int) : Int := pos + s.pair.offset.getD 0

/-! ### Joining (R487) -/

/-- JOIN_LINE: page J and bar line b. A unit on which printing is stopped starts it, as the active prints; its start source is free until
a record shows it (log 53). No line is sent until J is prepared. -/
def State.joinLineAs (s : State) (id : PageId) (b : Nat) : State :=
  let s1 := if s.print.started then s
    else s.drew.printAs (s.descOf id).mode (bitAt s.free 0) (s.sluice.loops[s.sluice.source].xh / 65536)
  { s1 with pair := { s1.pair with joinLine := some (id, b), joinPos := none, joined := false, sending := false, sendUntil := none
                                   readyRun := 0 } }

/-- JOIN_POS: the next line is b, at X(b) converted (R476, R487 step 5). -/
def State.joinPosAs (s : State) (whole : Int) (rem : Nat) : State :=
  match s.pair.joinLine with
  | none => s
  | some (_, b) =>
    let x := s.converted whole
    let q := { s.sluice with barLine := b - 1, coreLine := b - 1, lines := [], tfs := [], lastTf := none, xHi := s.sluice.loop.pos }
    let s1 := { s with pair := { s.pair with joinPos := some (x, rem) }
                       sluice := q, heads := { s.heads with assembleTo := b }, cist := { s.cist with judgedTo := b } }
    let nl := s1.nextLine
    let den : Nat := q.set.cpiDen[q.source]
    let target : Rat := (x : Rat) + (rem : Rat) / ((nl.lpi * den : Nat) : Rat)
    { s1 with sluice := { s1.sluice with lastX := q.lastX + (target - nl.x) } }

/-! ### A record (R477, R478) -/

/-- A line after bar line n that a page fixed here owns has begun to be assembled. -/
def State.linesAfter (s : State) (n : Nat) : Bool :=
  decide (n + 1 < s.heads.assembleTo) && s.fixedPlaces.any (fun q => decide (n < q.trailing) && decide (q.first < s.heads.assembleTo))

/-- A record comes after the assembly or the preparation it affects has begun: the page concerned (R478 cause 1). -/
def State.lateRecord (s : State) (rkind : Nat) (w1 w2 : Word) : Option PageId :=
  let id : PageId := BitVec.ofNat 32 (bits w1 31 0)
  let n := w2.toNat
  let prepared : Bool := s.eng.queueCtx.any (fun c => c.desc.id == id)
  let late : Bool := match rkind with
    | 1 => s.print.started
    | 2 => s.linesAfter n
    | 4 => prepared
    | 5 => decide (n < s.heads.assembleTo)
    | 6 => bits w1 35 34 != 2 && decide (n < s.heads.assembleTo)
    | 7 => s.linesAfter n
    | 8 => decide (n < s.sluice.barLine)
    | 9 => prepared
    | 11 => s.eng.fallbackCtx.isSome
    | _ => false
  if s.pair.joined && late then
    some (if rkind = 1 ∨ rkind = 2 ∨ rkind = 8 then s.pageAt (n + 1) else id)
  else none

/-- A record takes effect (R475, R477). Other RKIND values are reserved. -/
def State.applyRecord (s : State) (rkind : Nat) (w1 w2 : Word) : State :=
  let id : PageId := BitVec.ofNat 32 (bits w1 31 0)
  let n := w2.toNat
  let e : EncNo := Fin.ofNat 2 (bits w1 0 0)
  match rkind with
  | 1 => (if s.print.started then s.stopNow else s).printAs (BitVec.ofNat 4 (bits w1 3 0)) (bitAt w1 4) (s.converted w2.toInt)
  | 2 => s.stopAs (bitAt w1 0) n
  | 3 => s.enqueueAs id n
  | 4 => s.cancelAs id
  | 5 => ({ s with print := { s.print with trigMode := false } }).startAs id n
  | 6 => s.triggerAs id (Fin.ofNat 4 (bits w1 33 32)) (bits w1 35 34) n
  | 7 => s.abortAs id n
  | 8 => { s with sluice := { s.sluice with switchTo := some (e, n) }, enc := { s.enc with armed := false, disSince := none } }
  | 9 => s.serialAs id (BitVec.ofNat 48 (bits w2 47 0)) (BitVec.ofNat 40 (bits w1 63 32 + fld 32 8 (bits w2 55 48)))
  | 10 => s.alignAs e (bitAt w1 1) w2.toInt
  | 11 => s.fallbackAs id
  | 12 => s.freeLayer id
  | 13 => s.joinLineAs id n
  | 14 => s.joinPosAs w2.toInt w1.toNat
  | k => if k = Config.changeKind then s.changeAs w1 w2 else s

/-- SCHED_SEQ of a record against the last one applied: a repeat, the next one, or one after a gap (R471, R478). -/
inductive SeqStep where
  | again | next | gap
deriving DecidableEq, Repr

/-- The step of SCHED_SEQ; a number less than half the range behind is one already taken. -/
def seqStep (last seq : BitVec 24) : SeqStep :=
  if seq = last + 1 then .next else if (last - seq).toNat < 8388608 then .again else .gap

/-- The words of a record as they apply: those of a SERIAL record deciphered (R477, R567). -/
def PairKey.open_ (k : PairKey) (rkind : Nat) (seq : BitVec 24) (claim : BitVec 32) (w1 w2 : Word) : Word × Word :=
  if rkind = 9 then let ks := k.recordStream seq claim; (w1 ^^^ ks.1, w2 ^^^ ks.2) else (w1, w2)

/-- A record of the active, once its TAG holds: ignored as a repeat, a gap, late, or applied (R471, R477, R478). -/
def State.takeRecord (s : State) (k : PairKey) (w0 w1 w2 : Word) : State :=
  let seq := BitVec.ofNat 24 (bits w0 31 8)
  let claim := BitVec.ofNat 32 (bits w0 63 32)
  let rkind := bits w0 7 4
  let go (s : State) : State :=
    let ws := k.open_ rkind seq claim w1 w2
    let s1 := { s with pair := { s.pair with schedSeq := seq, schedSeen := true } }
    let s2 := match s1.lateRecord rkind ws.1 ws.2 with | some id => s1.diverge id 1 | none => s1
    s2.applyRecord rkind ws.1 ws.2
  if !s.pair.schedSeen then go s
  else match seqStep s.pair.schedSeq seq with
    | .again => s
    | .next => go s
    | .gap => go (s.diverge 0 2)

end Sys2Proof.Machine
end

