-- ==== Sys2Proof/Machine/Claims.lean ====
section
/-!
DEFINITION. Claims (16_redundancy_and_failover.md): taking one, losing one, and how the active brings a standby into step (R461 to R469,
R484, R487).
-/

namespace Sys2Proof.Machine

/-! ### What the active sends to a standby in SYNC (R487 steps 3 and 4) -/

/-- The words of a page descriptor (R97). -/
def PageDesc.words (d : PageDesc) : List Word :=
  [word [1, fld 16 16 d.refs.length, fld 32 32 d.id.toNat],
    word [fld 0 25 d.length, fld 25 4 d.mode.toNat, fld 29 1 (b2n d.carriage), fld 30 1 (b2n d.reverse), fld 32 20 d.gap],
    word [fld 0 1 (b2n d.serialised), fld 1 1 (b2n d.checkStrip), fld 2 1 (b2n d.inspect), fld 3 1 (b2n d.holdAbort), fld 8 4 d.slot.val],
    d.hostTag, 0, 0, 0, 0] ++
  d.refs.flatMap (fun r => [word [fld 0 32 r.layer.toNat, fld 32 24 r.lineOffset, fld 56 2 r.maskMode.toNat], word [fld 0 3 r.array.val]])

/-- A parcel made here: header and padded payload (R75, log 52). -/
def madeParcel (content : Nat) (id : Word) (payload : List Word) : List Word :=
  let ws := payload ++ List.replicate ((8 - payload.length % 8) % 8) 0
  [word [1, fld 8 8 content, fld 32 32 id.toNat], word [fld 0 24 (8 * ws.length)], 0, 0, 0, 0, 0, 0] ++ ws

/-- The parcel of a kept object; that of a generator is a DOCKET parcel with the command that defined it (R543, R487 step 3). -/
def keptParcel (free : Word) (x : ObjKey × List Word) : List Word :=
  match x.1 with
  | .generator _ => madeParcel 3 free
      ([word [1], 0, 0, 0, word [fld 48 1 1, fld 56 8 0x35], word [fld 0 16 x.2.length]] ++ x.2)
  | _ => x.2

/-- A kept object still exists. -/
def StorePart.holds (x : StorePart) (k : ObjKey) : Bool :=
  match k with
  | .map | .screen => true
  | .glyphSet id => x.glyphs.any (fun g => g.id == id)
  | .generator id => x.generators.any (fun g => g.id == id)
  | .layer id => (findLayer x.layers id).isSome

/-- The rank of an object that goes before the pages: map, screens, glyph sets and generator dockets (R487 step 3). -/
def ObjKey.rank : ObjKey → Option Nat
  | .map => some 0 | .screen => some 1 | .glyphSet _ => some 2 | .generator _ => some 3 | .layer _ => none

/-- The objects of the page store as parcels: those sent first, and the rest (R487 step 3). -/
def State.resyncParcels (s : State) : List (List Word) × List (List Word) :=
  let have_ := s.store.kept.filter (fun x => s.store.holds x.1)
  let first := (List.range 4).flatMap (fun r => (have_.filter (fun x => x.1.rank == some r)).map (keptParcel s.free))
  let page (d : PageDesc) : List Word := madeParcel 1 s.free d.words
  let layersOf (d : PageDesc) : List (ObjKey × List Word) :=
    d.refs.flatMap (fun r => have_.filter (fun x => x.1 == .layer r.layer))
  let step (acc : List (ObjKey × List Word) × List (List Word)) (d : PageDesc) : List (ObjKey × List Word) × List (List Word) :=
    let new := ((layersOf d).filter (fun x => !acc.1.contains x)).eraseDups
    (acc.1 ++ new, acc.2 ++ new.map (keptParcel s.free) ++ [page d])
  let queued := s.queuedDescs.foldl step ([], [])
  let rest := (have_.filter (fun x => x.1.rank.isNone && !queued.1.contains x)).map (keptParcel s.free) ++
    (s.store.pages.filter (fun e => !s.queuedDescs.any (fun d => d.id == e.desc.id))).map (fun e => page e.desc)
  (first ++ queued.2, rest)

/-- The partner has entered SYNC. Whether it lacks objects the active cannot read from anything stated: free (R487 step 3, log 52). -/
def State.startResync (s : State) : State :=
  if bitAt s.free 0 then
    let s1 := s.drew
    let p := s1.resyncParcels
    ({ s1.drew with pair := { s1.pair with resyncQ := p.1 ++ p.2, joinDue := some p.2.length } }).raiseF .resyncStarted
      [fld 0 12 s.pair.partner.toNat]
  else { s.drew with pair := { s.pair with resyncQ := [], joinDue := some 0 } }

/-- Page J: the first waiting page whose preparation begins at least 64 lines later. edge: the trailing edge at which the preparation of
the first of them begins. -/
def joinPage (from64 lag : Nat) : Nat → List (QEntry × Nat) → Option PageId
  | _, [] => none
  | edge, (q, b) :: qs => if from64 ≤ edge then some q.desc.id else joinPage from64 lag (b + q.desc.length - 1 + lag) qs

/-- Lines allocated from now on, by the starts already fixed (R487 step 4, log 52). -/
def State.ahead (s : State) : Nat → State
  | 0 => s
  | n + 1 =>
    let nl := s.nextLine
    State.ahead { s with sluice := { s.sluice with barLine := s.sluice.barLine + 1, lastX := nl.x, lpi := nl.lpi } } n

/-- X(b) of the line 64 lines ahead as whole count and remainder in 1/(LPI × CPI_DEN) (R477). -/
def State.joinAt (s : State) : Nat × Int × Nat :=
  let nl := (s.ahead 63).nextLine
  let den : Nat := s.sluice.set.cpiDen[s.sluice.source]
  let whole := nl.x.floor
  (s.sluice.barLine + 64, whole, ((nl.x - whole) * ((nl.lpi * den : Nat) : Rat)).floor.toNat)

/-- The records of step 4 of R487. Starts already fixed go with them, since a standby takes them only from records (R475, log 52). -/
def State.sendJoin (s : State) (j : PageId) : State :=
  let p := s.joinAt
  let s1 := s.print.queue.foldl (fun (s : State) q =>
    let s1 := s.record 3 (word [q.desc.id.toNat]) (match q.commitLine with | some n => BitVec.ofNat 64 n | none => s.free)
    if q.commitLine.isSome then s1 else s1.drew) { s with pair := { s.pair with joinDue := none } }
  let s2 := s1.record 13 (word [j.toNat]) (BitVec.ofNat 64 p.1)
  let s3 := match s.print.span with
    | some sp => if sp.fallback then s2 else s2.record 5 (word [sp.desc.id.toNat]) (BitVec.ofNat 64 sp.first)
    | none => s2
  let s4 := s.print.waitingQ.foldl (fun (s : State) q => match q.bound, q.start with
    | none, some n => s.record 5 (word [q.desc.id.toNat]) (BitVec.ofNat 64 n)
    | _, _ => s) s3
  let s5 := s.print.bounds.foldl (fun (s : State) b =>
    s.record 6 (word [match b.page with | some id => id.toNat | none => ((s.print.fallback.map (fun f => f.1.toNat)).getD 0),
      fld 32 2 b.trig.val, fld 34 2 (if b.page.isSome then 0 else 1)]) (BitVec.ofNat 64 b.start)) s4
  s5.record 14 (BitVec.ofNat 64 p.2.2) (BitVec.ofInt 64 p.2.1)

/-- The active takes step 4 once the objects of the queued pages are held and a page J is there; judged at each beat of a partner in
SYNC (R487, log 52). -/
def State.joinCheck (s : State) : State :=
  match s.pair.joinDue with
  | none => s
  | some r =>
    if s.pair.resyncQ.length ≤ r ∧ s.print.started ∧ ¬ s.fab.bulkOut.any (fun b => b.dest == s.pair.partner) then
      match joinPage (s.sluice.barLine + 64) s.lagMax (if s.print.queuePrinting then (s.print.span.map (fun sp => sp.trailing)).getD 0 else 0)
          s.forecast with
      | some j => s.sendJoin j
      | none => s
    else s

/-! ### Losing a claim (R467, R469) -/

/-- A command word of the groups that R469 refuses to a standby; a parcel load is judged at its header, since FIRMWARE is excepted. -/
def TakenCmd.refused (t : TakenCmd) : Bool := decide (0x10 ≤ t.opcode.toNat ∧ t.opcode.toNat ≤ 0x3F) && t.opcode != 0x30

/-- Commands of a host channel that still wait to run are answered PAIR_STANDBY (R469). -/
def State.refuseHost (s : State) (n : Chan) : State :=
  let k := s.host.channels[n]
  (k.taken.filter TakenCmd.refused).foldl (fun (s : State) t => s.respond (.host n k.session) t.opcode t.tag .pairStandby 0)
    (s.setChan n (fun h => { h with taken := h.taken.filter (fun t => !t.refused) }))

/-- Commands of a fabric channel that still wait to run are answered PAIR_STANDBY (R469). -/
def State.refusePeer (s : State) (k : FabChannel) : State :=
  (k.taken.filter TakenCmd.refused).foldl (fun (s : State) t => s.respond (.peer k.peer k.session) t.opcode t.tag .pairStandby 0)
    (s.setFabChan k.peer (fun h => { h with taken := h.taken.filter (fun t => !t.refused) }))

/-- Every command of the groups 0x10 to 0x3F that still waits to run is answered, a scheduled commit among them (R469). -/
def State.refuseWaiting (s : State) : State :=
  let s1 := (List.finRange 8).foldl (fun (s : State) n => s.refuseHost n) s
  let s2 := s1.fab.channels.foldl (fun (s : State) k => s.refusePeer k) s1
  s2.print.sched.foldl (fun (s : State) w => s.respond w.origin 0x10 w.tag .pairStandby 0)
    { s2 with print := { s2.print with sched := [] } }

/-- What a unit keeps of the pair when it enters SYNC: it takes the active's decisions from now on, and joins anew (R487). sending: a
demoted unit sends on up to the switch line (R467, R483). -/
def PairPart.inSync (q : PairPart) (sending : Bool) : PairPart :=
  { q with st := .sync, joined := false, sending := sending, sendUntil := none, joinLine := none, joinPos := none, readyRun := 0
           joinDue := none, shadowTrigs := [], shadowAbort := none }

/-- The active unit learns of a greater claim: it becomes standby at once (R467). -/
def State.demote (s : State) (new : BitVec 32) : State :=
  let q := { s.pair.inSync true with claim := 0, schedSeen := false, aligned := false, offset := none, barSilent := false
                                     resyncQ := [], mirrorQ := [], driving := false, drivePending := false, releasing := some new }
  ((({ s with pair := q }).raiseF .claimLost [new.toNat]).refuseWaiting.beat).releaseCheck

/-! ### Taking a claim (R465, R466, R484) -/

/-- The words of a CLAIM frame before its TAG (R464). -/
def claimWords (op : Nat) (unitB : Bool) (claim prev : BitVec 32) (w2 : Nat) : List Word :=
  [word [fld 0 4 op, fld 4 1 (b2n unitB)], word [claim.toNat, fld 32 32 prev.toNat], word [w2]]

/-- The first failing check of R465, as its reason; tagOk: step 2. A device that is no unit has no ditch-rider. -/
def State.grantReason (s : State) (tagOk : Bool) (claim : BitVec 32) (issuer : NodeNo) : Option Nat :=
  let rider : Bool := s.pair.paired && match s.pair.rider with | .none => false | .host => issuer == 0 | .node n => issuer == n
  if s.sec.pairKey.isNone then some 4
  else if !tagOk then some 1
  else if !rider then some 3
  else if claim ≤ s.pair.highest then some 2
  else none

/-- NEXT and RESERVED_END of an open slot on the unit that takes the claim; neither decreases (R570, R574). -/
def Job.afterTakeover (j : Job) : Job :=
  match j.lastRecord with
  | some l => if j.isOpen then
      let n := max j.next (256 * ceilDiv (l + 257) 256)
      { j with next := n, reservedEnd := max j.reservedEnd (n + 256), lastRecord := none } else j
  | none => j

/-- The decisions of the shadow whose records have not come (R484): the abort, the triggers, and the next page's start. -/
def State.shadowDecides (s : State) : State :=
  let t := s.pair.shadowTrigs
  let a := s.pair.shadowAbort
  let s1 := { s with pair := { s.pair with shadowTrigs := [], shadowAbort := none } }
  let s2 := match a with | some a => s1.abortAt a .holdAbort | none => s1
  let s3 := t.foldl (fun (s : State) x => if s.print.started && !s.print.stopping then s.decideTrigger x.1 x.2 else s) s2
  if s3.print.waitingQ.head?.any (fun q => q.start.isNone) then s3.assignNext else s3

/-- A unit becomes active with a claim (R466 steps 1 to 4, R484, R629). -/
def State.takeover (s : State) (claim prev : BitVec 32) : State :=
  let was := s.pair.st == .active
  let s1 := (s.sawClaim claim).announce claim
  let ws := claimWords 2 s.pair.unitB claim prev (fld 0 40 s1.heads.fromLine)
  let ns := (match s.pair.rider with | .node n => [n] | _ => []) ++ [s.pair.partner]
  let s2 := ns.foldl (fun (s : State) n => s.sendTagged 1 n ws) s1
  let s3 := ({ s2 with pair := { s2.pair with st := .active, claim := claim, releasing := none, sendUntil := none, drivePending := true
                                              barSilent := false, joinDue := none } }).raiseF .claimTaken
    [claim.toNat, fld 32 1 (b2n s.pair.unitB)]
  let s4 := if was then s3
    else ({ s3 with sec := { s3.sec with jobs := s3.sec.jobs.map Job.afterTakeover } }).shadowDecides
  s4.beat

/-- CLAIM_REJECTED (R465). -/
def State.rejectGrant (s : State) (reason : Nat) (issuer : NodeNo) : State := s.raiseF .claimRejected [fld 0 4 reason, fld 4 12 issuer.toNat]

/-- A grant that names the partner: an active unit with a lower claim is demoted (R467). -/
def State.partnerGrant (s : State) (claim : BitVec 32) : State :=
  if s.pair.st == .active && decide (s.pair.claim < claim) then s.demote claim else s

end Sys2Proof.Machine
end

