-- ==== Sys2Proof/Machine/PairHealth.lean ====
section
/-!
DEFINITION. The health report of a unit and its CONFIG_DIGEST (R473).
-/

namespace Sys2Proof.Machine

/-- A Bool as an integer. -/
def flag (b : Bool) : Int := if b then 1 else 0

/-- The sluice settings of R263 in table order. -/
def SluiceSettings.numbers (t : SluiceSettings) : List Int :=
  [(t.source.val : Int), flag t.crosscheck] ++ (t.cpiNum.toList ++ t.cpiDen.toList).map Int.ofNat ++
  [flag t.fwdNeg, t.alpha, t.beta, t.lead, t.reviseStep, t.debtLimit, t.keepWetPs, t.ticklePs, t.holdLimitPs, t.origin, t.alignFwd,
    t.alignRev] ++ t.carrMin.toList.map Int.ofNat ++ t.temps.toList.flatMap (fun h => [h.warn, h.hard]) ++
  [(t.hyst : Int), t.thermDefer, t.thermCap]

/-- The governor settings of R216 with the weirs (R545). -/
def GovPart.numbers (g : GovPart) (w : CisternPart) : List Int :=
  let t := g.next
  [(t.vMax : Int), t.decelPs, t.respPs, t.margin, flag t.holdOnEmpty, t.pwmHz] ++ t.peers.map (fun n => (n.toNat : Int)) ++
  [(w.w1 : Int), w.w2, w.w3]

/-- MODE as a number (R304). -/
def EncMode.num : EncMode → Int
  | .off => 0 | .analogue => 1 | .digital => 2

/-- RELAY_MODE as a number (R326). -/
def RelayMode.num : RelayMode → Int
  | .off => 0 | .pass => 1 | .divide => 2

/-- The settings of an encoder interface (R330): its trim is that in force; positions are no settings. -/
def EncState.numbers (e : EncState) : List Int :=
  [e.mode.num, flag e.dirInvert, e.filter, flag e.idxLow, e.trim.ofsS, e.trim.ofsC, e.trim.gainC, e.trim.phase, e.sigMin, e.sigMax,
    e.cpr, e.idxTol, flag e.reref, e.relay.num, e.relayN, e.relayM]

/-- The settings of a switch set (R330). -/
def SwitchSet.numbers (j : SwitchSet) : List Int :=
  (match j.inputs with | some (a, b, c) => [(a.val : Int), b.val, c.val] | none => [31, 31, 31]) ++
  [(j.allowed.toNat : Int), j.settlePs, (match j.axis with | some a => a.val + 1 | none => 0), flag j.stop]

/-- The encoder settings of R330. -/
def EncPart.numbers (p : EncPart) : List Int :=
  p.encs.toList.flatMap EncState.numbers ++ [(p.disLimit : Int), p.disTimePs, p.survivor.val] ++ p.sets.toList.flatMap SwitchSet.numbers

/-- The health settings of R406. -/
def HealthSettings.numbers (h : HealthSettings) : List Int :=
  [(h.barSlots : Int), h.barSlot] ++ h.slotNodes.toList.flatMap (fun n => [(n.1.toNat : Int), n.2.toNat]) ++
  [(h.phaseLines : Int), h.minSignal, h.missFrac, h.weakFrac, h.failCount, h.recoverCount,
    (match h.cappedSw with | some k => k.val | none => 31), h.calMinRate, h.calTimeoutPs, h.detPages, h.dcPages, h.dcStep]

/-- CONFIG_DIGEST (R473): the first 8 bytes of the hash, byte 0 in bits [7:0], as a TAG stands (R567; log 54). -/
def State.configDigest (s : State) : Word :=
  let m : Int := match s.mapper.inForce with | some m => m.id.toNat | none => -1
  hashHead (Config.sha384 (Config.settingsBytes (m :: s.sluice.set.numbers ++ s.gov.numbers s.cist ++ s.enc.numbers ++ s.health.set.numbers)))

/-- The words of a health report before its TAG (R473). -/
def State.healthWords (s : State) : List Word :=
  let q := s.pair
  [word [fld 0 1 (b2n q.unitB), fld 1 3 q.st.code, fld 4 1 (b2n q.aligned), fld 5 1 (b2n q.joined), fld 6 1 (b2n q.configMatch),
      fld 7 1 (b2n (!q.selfFail)), fld 8 11 s.print.queue.length, fld 32 32 q.reportSeq.toNat],
    s.configDigest, word [fld 0 40 (ceilDiv s.backlogBytes 1024)], word [fld 0 32 q.disagree, fld 32 32 q.lineMiss], s.sys.summary,
    word [q.claim.toNat, fld 32 32 q.highest.toNat], 0]

/-- CONFIG_MATCH (R473): this unit's digest against that of the partner's last report; a standby that does not match becomes DIVERGED
(R478). -/
def State.matchConfig (s : State) : State :=
  match s.pair.partnerDigest with
  | none => s
  | some d =>
    let same := d == s.configDigest
    let s1 := { s with pair := { s.pair with configMatch := same } }
    if same then s1 else s1.diverge 0 5

/-- A health report leaves, with CONFIG_MATCH as it then is, and its counts begin anew (R473). -/
def State.sendHealth (s : State) : State :=
  if !s.pair.paired || s.sec.pair.isNone then s
  else
    let s := s.matchConfig
    s.pair.audience.foldl (fun (s : State) n => s.sendTagged 0xC n s.healthWords) s
      |> fun t => { t with pair := { t.pair with reportSeq := s.pair.reportSeq + 1, disagree := 0, lineMiss := 0, selfFail := false } }

end Sys2Proof.Machine
end

