-- ==== Sys2Proof/Machine/Rider.lean ====
section
/-!
DEFINITION. The ditch-rider (R479 to R481): the last beats and reports of the units it watches, and its decisions.
-/

namespace Sys2Proof.Machine

/-- A beat's fields (R470). -/
def parseBeat (w0 w1 : Word) (raw : Word) : BeatRec :=
  { st := bits w0 7 5, barSilent := bitAt w0 10, fault := bitAt w0 11, age := bits w0 31 16, seq := BitVec.ofNat 32 (bits w0 63 32)
    claim := BitVec.ofNat 32 (bits w1 31 0), highest := BitVec.ofNat 32 (bits w1 63 32), at_ := raw }

/-- The HB_SEQs of the last 2^31 that a new one leaves to be compared (R471, log 51). -/
def seqWindow (seq : BitVec 32) (seqs : List (BitVec 32)) : List (BitVec 32) :=
  seq :: seqs.filter (fun x => decide ((seq - x).toNat < 2147483648))

/-- An instant lies longer ago than a timeout in ps. -/
def tooOld (raw t : Word) (timeoutPs : Nat) : Bool := decide (timeoutPs < 1000 * (raw - t).toNat)

/-- The pair is used (R490). -/
def RiderPair.used (r : RiderPair) : Bool := r.nodeA != 0 && r.nodeB != 0

/-- The last beat of a unit. -/
def RiderPair.beatOf (r : RiderPair) (b : Bool) : Option BeatRec := if b then r.beatB else r.beatA

/-- The last health report of a unit. -/
def RiderPair.healthOf (r : RiderPair) (b : Bool) : Option HealthMsg := if b then r.healthB else r.healthA

/-- A unit beats: its last valid beat is no older than HB_TIMEOUT (R480). -/
def RiderPair.beats (r : RiderPair) (raw : Word) (b : Bool) : Bool :=
  match r.beatOf b with | some m => !tooOld raw m.at_ r.timeoutPs | none => false

/-- The claim of a unit's last beat. -/
def RiderPair.claimOf (r : RiderPair) (b : Bool) : BitVec 32 := match r.beatOf b with | some m => m.claim | none => 0

/-- The greatest HIGHEST reported (R479, R481). -/
def RiderPair.topHighest (r : RiderPair) : BitVec 32 :=
  let h (b : Bool) : BitVec 32 := match r.beatOf b with | some m => m.highest | none => 0
  if h false < h true then h true else h false

/-- The active unit: the one whose last beat holds the greater claim; none where neither holds one. -/
def RiderPair.active (r : RiderPair) : Option Bool :=
  if r.claimOf false = 0 ∧ r.claimOf true = 0 then none else some (decide (r.claimOf false < r.claimOf true))

/-- The active is silent (R479): here, and at the standby by its PARTNER_AGE. -/
def RiderPair.silent (r : RiderPair) (raw : Word) (a : Bool) : Bool :=
  !r.beats raw a && (match r.beatOf (!a) with
    | some m => m.age == 65535 || decide (r.timeoutPs ≤ 1000000 * m.age)
    | none => false)

/-- The first row of R479 that applies: the unit to be granted the claim and the reason. swap: the swap command is the input. -/
def RiderPair.decide_ (r : RiderPair) (raw : Word) (swap : Bool) : Option (Bool × Nat) :=
  match r.active with
  | none =>
    if r.beats raw r.preferB then some (r.preferB, 0)
    else if r.beats raw (!r.preferB) then some (!r.preferB, 0)
    else if swap then some (!r.preferB, 5) else none
  | some a =>
    let standby := r.beatOf (!a)
    let active := r.beatOf a
    let ha := r.healthOf a
    let hs := r.healthOf (!a)
    if r.silent raw a then some (!a, 1)
    else if standby.any (fun m => m.barSilent) then some (!a, 2)
    else if active.any (fun m => m.fault || decide (m.claim < r.topHighest)) then some (!a, 3)
    else if r.policy && (ha.any (fun h => h.disagree != 0) || hs.any (fun h => h.disagree != 0)) && ha.any (fun h => !h.selfOk) &&
        hs.any (fun h => h.selfOk) then some (!a, 4)
    else if swap then some (!a, 5) else none

/-- A grant of steps 2 to 6 goes only to a READY standby that beats (R480). -/
def RiderPair.mayGrant (r : RiderPair) (raw : Word) (unit : Bool) (reason : Nat) : Bool :=
  reason == 0 || (r.beats raw unit && (r.beatOf unit).any (fun m => m.st == 3))

/-- A pair of this ditch-rider changed. -/
def State.setRider (s : State) (i : Fin 8) (f : RiderPair → RiderPair) : State :=
  { s with pair := { s.pair with riders := upd s.pair.riders i f } }

/-- The GRANT of an open grant to both units (R464, R481). -/
def State.sendGrant (s : State) (i : Fin 8) : State :=
  let r := s.pair.riders[i]
  match r.open_ with
  | none => s
  | some (b, claim, prev) =>
    let ws := claimWords 1 b claim prev (fld 0 12 s.fab.node.toNat)
    (s.sendTagged 1 r.nodeA ws).sendTagged 1 r.nodeB ws

/-- A new claim is granted (R481). -/
def State.grantNow (s : State) (i : Fin 8) (b : Bool) (reason : Nat) : State :=
  let r := s.pair.riders[i]
  let top := if r.topHighest < r.granted then r.granted else r.topHighest
  let claim := top + 1
  let prev : BitVec 32 := match r.active with | some a => r.claimOf a | none => 0
  ((s.setRider i (fun r => { r with granted := claim, open_ := some (b, claim, prev), notReady := false })).sendGrant i).raiseF
    .failoverGranted [claim.toNat, fld 32 1 (b2n b), fld 33 3 reason]

/-- A decision of the ditch-rider (R479 to R481). A grant still open for the same unit stands; STANDBY_NOT_READY once per episode, which
ends when nothing calls for a grant or one is made. -/
def State.riderDecides (s : State) (i : Fin 8) (swap : Bool) : State :=
  let r := s.pair.riders[i]
  match r.decide_ s.time.raw swap with
  | none => s.setRider i (fun r => { r with notReady := false })
  | some (b, reason) =>
    if r.open_.any (fun o => o.1 == b) then s
    else if r.mayGrant s.time.raw b reason then s.grantNow i b reason
    else if r.notReady then s
    else (s.setRider i (fun r => { r with notReady := true })).raiseF .standbyNotReady [b2n b, fld 1 3 reason]

/-- A unit of a pair sends from a node: false A, true B. -/
def RiderPair.unitAt (r : RiderPair) (n : NodeNo) : Option Bool :=
  if !r.used then none else if n = r.nodeA then some false else if n = r.nodeB then some true else none

/-- A valid beat at the ditch-rider (R471, R479): a grant that it shows is no longer open. -/
def State.riderBeat (s : State) (i : Fin 8) (b : Bool) (m : BeatRec) : State :=
  let r := s.pair.riders[i]
  let seqs := if r.beats m.at_ b then (if b then r.seqsB else r.seqsA) else []
  if seqs.contains m.seq then s
  else
    let shown : Bool := match r.open_ with | some (u, c, _) => u == b && decide (c ≤ m.claim) | none => false
    let r1 := if b then { r with beatB := some m, seqsB := seqWindow m.seq seqs } else { r with beatA := some m, seqsA := seqWindow m.seq seqs }
    (s.setRider i (fun _ => { r1 with open_ := if shown then none else r1.open_ })).riderDecides i false

/-- A health report at the ditch-rider (R473, R479). -/
def State.riderHealth (s : State) (i : Fin 8) (b : Bool) (h : HealthMsg) : State :=
  (s.setRider i (fun r => if b then { r with healthB := some h } else { r with healthA := some h })).riderDecides i false

/-- What each pair that a node belongs to takes from its frame. -/
def State.eachRider (s : State) (n : NodeNo) (f : State → Fin 8 → Bool → State) : State :=
  (List.finRange 8).foldl (fun (s : State) i => match s.pair.riders[i].unitAt n with | some b => f s i b | none => s) s

end Sys2Proof.Machine
end

