-- ==== Sys2Proof/Machine/Pair.lean ====
section
/-!
DEFINITION. Meanings of the commands of redundancy and fail-over (16_redundancy_and_failover.md).
-/

namespace Sys2Proof.Machine

/-! ### HEARTBEAT (R467, R470, R471, R487) -/

/-- A frame's TAG holds under the pair key (R464). -/
def State.tagOk (s : State) (header : Word) (ws : List Word) (tag : Word) : Bool :=
  match s.sec.pairKey with | some k => k.tag header ws == tag | none => false

/-- The partner sends from a node. -/
def State.fromPartner (s : State) (n : NodeNo) : Bool := s.pair.paired && n == s.pair.partner && n != 0

/-- The standby's part in a beat: it enters SYNC with an active partner, and takes its SCHED_SEQ (R471, R487 step 1). -/
def State.standbyBeat (s : State) (m : BeatRec) (sched : BitVec 24) : State :=
  if m.st ≠ 1 then s
  else match s.pair.st with
    | .idle => ({ s with pair := { s.pair.inSync false with schedSeq := sched, schedSeen := true } }).beat
    | .diverged => ({ s with pair := { s.pair.inSync false with schedSeq := sched, schedSeen := true } }).beat
    | .active => s
    | _ => if s.pair.schedSeen then s else { s with pair := { s.pair with schedSeq := sched, schedSeen := true } }

/-- The active's part in a beat: a partner newly in SYNC is brought into step (R487 steps 3 and 4). -/
def State.activeBeat (s : State) (m : BeatRec) (before : Nat) : State :=
  if m.st ≠ 2 then { s with pair := { s.pair with joinDue := none } }
  else if before ≠ 2 then s.startResync else s.joinCheck

/-- A valid beat of the partner (R462, R467, R471). -/
def State.partnerBeat (s : State) (m : BeatRec) (sched : BitVec 24) : State :=
  let q := s.pair
  let seqs := match q.partnerAt with | some t => if tooOld m.at_ t q.timeoutPs then [] else q.partnerSeqs | none => []
  if seqs.contains m.seq then s
  else
    let s1 := (({ s with pair := { q with partnerAt := some m.at_, partnerSeen := true, lostTold := false, partnerSt := m.st
                                          partnerClaim := m.claim, partnerSeqs := seqWindow m.seq seqs } }).sawClaim m.claim).sawClaim m.highest
    if q.st == .active then
      if q.claim < m.claim then s1.demote m.claim else s1.activeBeat m q.partnerSt
    else s1.standbyBeat m sched

/-- HEARTBEAT (R470, R471): a beat with a wrong TAG is ignored; one of the partner, and one of a unit this device watches. -/
def execHeartbeat (src : NodeNo) (header w0 w1 w2 w3 : Word) (s : State) : Out :=
  let s := s.takeFrame 0 [w0, w1, w2, w3]
  if bits w0 3 0 ≠ 1 ∨ s.tagOk header [w0, w1, w2] w3 = false then s.done
  else
    let m := parseBeat w0 w1 s.time.raw
    let s1 := if s.fromPartner src then s.partnerBeat m (BitVec.ofNat 24 (bits w2 63 40)) else s
    (s1.eachRider src (fun s i b => s.riderBeat i b m)).done

/-- HEARTBEAT_SEND (R470). -/
def execHeartbeatSend (s : State) : Out := s.beat.done

/-- PAIR_PARTNER_LOST (R471): HB_TIMEOUT has passed without a valid beat, once per episode. -/
def execPairPartnerLost (s : State) : Out :=
  if !s.pair.paired || s.pair.lostTold then s.done
  else (({ s with pair := { s.pair with partnerSeen := false, lostTold := true } }).raiseF .pairPartnerLost
    [fld 0 12 s.pair.partner.toNat]).done

/-! ### SCHEDULE_RECORD (R471, R477, R478) -/

/-- SCHEDULE_RECORD (R477): a record with a wrong TAG, or with a CLAIM below this unit's, is ignored. A unit in IDLE is no standby. -/
def execScheduleRecord (src : NodeNo) (header w0 w1 w2 w3 : Word) (s : State) : Out :=
  let s := s.takeFrame 0 [w0, w1, w2, w3]
  let claim := BitVec.ofNat 32 (bits w0 63 32)
  if bits w0 3 0 ≠ 2 ∨ s.tagOk header [w0, w1, w2] w3 = false ∨ s.fromPartner src = false ∨ claim < s.pair.claim then s.done
  else match s.pair.st, s.sec.pairKey with
    | .idle, _ | _, none => s.done
    | .active, _ => ((s.sawClaim claim).partnerGrant claim).done
    | _, some k => (s.takeRecord k w0 w1 w2).done

/-! ### GRANT, ACCEPT, GRANT_RESEND, CLAIM_RELEASE, DRIVING_BEGINS (R464 to R467, R481, R629) -/

/-- GRANT (R465, R466, R467). A grant that names the partner is believed on steps 1 to 3 of R465. -/
def execGrant (src : NodeNo) (header w0 w1 w2 w3 : Word) (s : State) : Out :=
  let _ := src
  let s := s.takeFrame 1 [w0, w1, w2, w3]
  let claim := BitVec.ofNat 32 (bits w1 31 0)
  let prev := BitVec.ofNat 32 (bits w1 63 32)
  let issuer : NodeNo := BitVec.ofNat 12 (bits w2 11 0)
  if !s.pair.paired || bits w0 3 0 != 1 then s.done
  else
    let why := s.grantReason (s.tagOk header [w0, w1, w2] w3) claim issuer
    if bitAt w0 4 == s.pair.unitB then
      match why with
      | some n => (s.rejectGrant n issuer).done
      | none => (s.takeover claim prev).done
    else match why with
      | some 2 | none => (s.partnerGrant claim).done
      | _ => s.done

/-- ACCEPT (R464, R466): the switch line, up to which a demoted unit sends (R483). -/
def execAccept (src : NodeNo) (header w0 w1 w2 w3 : Word) (s : State) : Out :=
  let s := s.takeFrame 1 [w0, w1, w2, w3]
  if bits w0 3 0 ≠ 2 ∨ s.tagOk header [w0, w1, w2] w3 = false ∨ s.fromPartner src = false ∨ s.standby = false then s.done
  else
    let low := bits w2 39 0
    let d : Int := ((low : Int) - s.sluice.barLine + 549755813888) % 1099511627776 - 549755813888
    ({ s with pair := { s.pair with sendUntil := some ((s.sluice.barLine : Int) + d).toNat } }).done

/-- GRANT_RESEND (R481). -/
def execGrantResend (pair : Fin 8) (s : State) : Out := (s.sendGrant pair).done

/-- CLAIM_RELEASE (R467): after 1 ms the old claim is announced no more. -/
def execClaimRelease (s : State) : Out :=
  match s.pair.releasing with
  | some _ => (({ s with pair := { s.pair with releasing := none } }).announce 0).done
  | none => s.done

/-- This unit's outputs are driven, each at its level (R468, R629). -/
def State.drive (s : State) : State :=
  { s with pair := { s.pair with driving := true, drivePending := false }, gov := { s.gov with duty := s.gov.dutyNow, pwmNow := s.gov.pwmHz } }

/-- DRIVING_BEGINS (R629). -/
def execDrivingBegins (s : State) : Out := if s.pair.drivePending then s.drive.done else s.done

/-! ### HEALTH, HEALTH_SEND (R473, R478, R488) -/

/-- The partner's report (R473): CONFIG_MATCH, and its BACKLOG; a standby that does not match becomes DIVERGED (R478). -/
def State.partnerHealth (s : State) (words : List Word) : State :=
  ({ s with pair := { s.pair with partnerDigest := some (wordAt words 1)
                                  partnerBacklog := bits (wordAt words 2) 39 0 } } : State).matchConfig.readyCheck

/-- HEALTH (R473). -/
def execHealth (src : NodeNo) (header : Word) (words : List Word) (s : State) : Out :=
  let s := s.takeFrame 0xC words
  if words.length ≠ 8 ∨ s.tagOk header (words.take 7) (wordAt words 7) = false then s.done
  else
    let s1 := if s.fromPartner src then s.partnerHealth words else s
    let h : HealthMsg := { selfOk := bitAt (wordAt words 0) 7, disagree := bits (wordAt words 3) 31 0 }
    (s1.eachRider src (fun s i b => s.riderHealth i b h)).done

/-- HEALTH_SEND (R473). -/
def execHealthSend (s : State) : Out := s.sendHealth.done

/-! ### PAIR_CONFIG, RIDER_CONFIG (R463, R489, R490) -/

/-- RIDER as a position in its list: NONE, HOST, then the nodes from 0x001 (R489, R540; log 55). -/
def riderOf (n : Nat) : Rider := match n with | 0 => .none | 1 => .host | n + 2 => .node (BitVec.ofNat 12 (n + 1))

/-- An entry of the table of R489 that breaks its range, row, INDEX or ELEM: reason 1. -/
def checkPair (_ : State) (e : Entry) : Option Nat :=
  let one := e.index == 0 && e.elem == 0
  let ok := match e.row with
    | 0 => one && e.within 0 1
    | 1 => one && e.within 0 1
    | 2 => one && e.within 1 4094
    | 3 => one && e.within 0 4095
    | 4 => one && e.duration 1000000 50 100000
    | 5 => one && e.within 64 65536
    | 6 => one && e.within 1 13
    | _ => false
  if ok then none else some 1

/-- A row of R489 takes its value. -/
def PairPart.put (q : PairPart) (e : Entry) : PairPart :=
  match e.row with
  | 0 => { q with paired := e.nat == 1 }
  | 1 => { q with unitB := e.nat == 1 }
  | 2 => { q with partner := BitVec.ofNat 12 e.nat }
  | 3 => { q with rider := riderOf e.nat }
  | 4 => { q with timeoutPs := e.nat }
  | 5 => { q with readyLines := e.nat }
  | 6 => { q with resyncRate := e.nat }
  | _ => q

/-- The settings table of R489: rows 0 to 3 are marked "Stopped". -/
def pairTable : Settings where
  bad := .pairConfigBad
  isTable := fun _ _ => false
  check := checkPair
  whole := fun _ _ => none
  busy := fun s e => if s.print.started && decide (e.row ≤ 3) then resp .sluiceBusy 0 else none
  apply := fun s e => { s with pair := s.pair.put e }

/-- A unit whose role has changed, or a device that has become or ceased to be one: it holds no claim, and nothing of a partner
(R461, R463). -/
def PairPart.newRole (q : PairPart) : PairPart :=
  let z : PairPart := {}
  { z with paired := q.paired, unitB := q.unitB, partner := q.partner, rider := q.rider, timeoutPs := q.timeoutPs
           readyLines := q.readyLines, resyncRate := q.resyncRate, highest := q.highest, hbSeq := q.hbSeq, schedSeq := q.schedSeq
           reportSeq := q.reportSeq, riders := q.riders, driving := !q.paired }

/-- What follows a PAIR_CONFIG: a changed PAIRED, UNIT or RIDER ends the claim (R463), a changed PARTNER what is known of it, and unit A
with RIDER NONE takes its own claim while it holds none (R463). -/
def State.roleSet (s : State) (old : PairPart) : State :=
  let q := s.pair
  let s1 := if q.paired != old.paired || q.unitB != old.unitB || q.rider != old.rider then
      ({ s with pair := q.newRole, heads := { s.heads with ownClaim := false } }).announce 0
    else if q.partner != old.partner then
      { s with pair := { q with partnerAt := none, partnerSeen := false, partnerSeqs := [], partnerSt := 0, partnerClaim := 0
                                partnerDigest := none, configMatch := false, lostTold := false } }
    else s
  let s2 := if s1.pair.paired && !s1.pair.unitB && s1.pair.rider == .none && s1.pair.claim == 0 then
      let t := (s1.sawClaim (s1.pair.highest + 1)).announce (s1.pair.highest + 1)
      ({ t with pair := { t.pair with claim := s1.pair.highest + 1, st := .active } }).drive
    else s1
  if s2.pair.st != old.st || s2.pair.claim != old.claim then s2.beat else s2

/-- PAIR_CONFIG's effect. -/
def cmdPairConfig (x : Cmd) (s : State) : State × Option Resp :=
  let r := runSettings pairTable x s
  if r.2 = okResp then (r.1.roleSet s.pair, r.2) else r

/-- PAIR_CONFIG (R489). -/
def execPairConfig (x : Cmd) (s : State) : Out := (runCommand 0x80 true false cmdPairConfig x s).done

/-- An entry of the table of R490 that breaks its range, row, INDEX or ELEM: reason 1. -/
def checkRider (_ : State) (e : Entry) : Option Nat :=
  let z := decide (e.index < 8)
  let ok := match e.row with
    | 0 => z && decide (e.elem < 2) && e.within 1 4094
    | 1 => z && e.elem == 0 && e.within 0 1
    | 2 => z && e.elem == 0 && e.duration 1000000 50 100000
    | 3 => z && e.elem == 0 && e.within 0 1
    | _ => false
  if ok then none else some 1

/-- A row of R490 takes its value; a new node's beats are still to come. -/
def RiderPair.put (r : RiderPair) (e : Entry) : RiderPair :=
  let n := e.nat
  match e.row with
  | 0 =>
    if e.elem = 0 then { r with nodeA := BitVec.ofNat 12 n, beatA := none, healthA := none, seqsA := [], open_ := none }
    else { r with nodeB := BitVec.ofNat 12 n, beatB := none, healthB := none, seqsB := [], open_ := none }
  | 1 => { r with preferB := n == 1 }
  | 2 => { r with timeoutPs := n }
  | 3 => { r with policy := n == 1 }
  | _ => r

/-- The settings table of R490. -/
def riderTable : Settings where
  bad := .pairConfigBad
  isTable := fun _ _ => false
  check := checkRider
  whole := fun _ _ => none
  busy := fun _ _ => none
  apply := fun s e => s.setRider (Fin.ofNat 8 e.index) (fun r => r.put e)

/-- RIDER_CONFIG (R490). -/
def execRiderConfig (x : Cmd) (s : State) : Out := (runCommand 0x81 true false (runSettings riderTable) x s).done

/-! ### CLAIM_GRANT, SWAP (R479, R482, R545, R568) -/

/-- CLAIM_GRANT's effect: the parcel that carried it stands for its TAG (R568). A grant that passes goes on to the partner, and acts here
by the unit it names. -/
def cmdClaimGrant (x : Cmd) (s : State) : State × Option Resp :=
  let w0 := x.dw 0
  let w1 := x.dw 1
  let w2 := x.dw 2
  let claim := BitVec.ofNat 32 (bits w1 31 0)
  let issuer : NodeNo := BitVec.ofNat 12 (bits w2 11 0)
  if bits w0 3 0 ≠ 1 then (s, resp .argBad 0)
  else match s.grantReason true claim issuer with
    | some n => (s.rejectGrant n issuer, resp .claimRejected (n + fld 4 12 issuer.toNat))
    | none =>
      let s1 := s.sendTagged 1 s.pair.partner [w0, w1, w2]
      (if bitAt w0 4 == s.pair.unitB then s1.takeover claim (BitVec.ofNat 32 (bits w1 63 32)) else s1.partnerGrant claim, resp .ok claim.toNat)

/-- CLAIM_GRANT (R482). -/
def execClaimGrant (x : Cmd) (s : State) : Out := (runCommand 0x82 true true cmdClaimGrant x s).done

/-- SWAP's effect: the decision of R479 with the swap as its input. -/
def cmdSwap (x : Cmd) (s : State) : State × Option Resp :=
  let i : Fin 8 := Fin.ofNat 8 (x.argBits 2 0)
  let r := s.pair.riders[i]
  if !r.used then (s, resp .notFound 0)
  else
    let s1 := s.riderDecides i true
    match s1.pair.riders[i].open_, r.decide_ s.time.raw true with
    | some (b, claim, _), some (u, reason) =>
      if b = u then (s1, resp .ok claim.toNat) else (s1, resp .standbyNotReady (b2n u + fld 1 3 reason))
    | none, some (u, reason) => (s1, resp .standbyNotReady (b2n u + fld 1 3 reason))
    | _, none => (s1, resp .standbyNotReady 0)

/-- SWAP (R479). -/
def execSwap (x : Cmd) (s : State) : Out := (runCommand 0x83 false false cmdSwap x s).done

end Sys2Proof.Machine
end

