-- ==== Sys2Proof/Machine/Sluice.lean ====
section
/-!
DEFINITION. Meanings of the sluice's commands (08_fire_timing.md): loop updates, rest, the tickle, SLUICE_CONFIG.
-/

namespace Sys2Proof.Machine

/-! ### TRACKING_LOOP_UPDATE (R234 to R245, R251 to R253, R261, R320) -/

/-- Sample period of a mode in ns (R234). -/
def EncMode.period : EncMode → Int
  | .digital => 16
  | _ => 50

/-- The tracking loop of one interface takes its raw position (R234, R243). -/
def State.updateLoop (s : State) (e : EncNo) : State :=
  let i := s.enc.encs[e]
  let l := s.sluice.loops[e].update s.sluice.set.alpha s.sluice.set.beta i.position.toInt i.mode.period s.free
  { s.drew with sluice := { s.sluice with loops := s.sluice.loops.set e l } }

/-- The sluice follows the encoder in use: furthest position or path, reversal, cross-checking, revisions, one allocation, and a
switch at its boundary. moved: the change of x̂ in counts. After a print stop the lines allocated before it are still revised (R546). -/
def State.trackSource (s : State) (moved : Rat) : State :=
  if !s.print.started then (if s.silenced then s else s.reviseLines)
  else
    let nl := s.nextLine
    let idle : Bool := nl.place.isNone && s.carriageIdle
    let web : Bool := match nl.place with | some pl => !pl.desc.carriage | none => !s.carriageIdle
    let q := if idle then { s.sluice with path := s.sluice.path + |moved| } else { s.sluice.reached nl.down with path := 0 }
    let s1 := { s with sluice := q }
    let s2 := if web then s1.checkReversal nl.q nl.down else s1
    let s3 := s2.crossCheck
    let s4 := if s3.silenced then s3 else s3.reviseLines
    (s4.tryAllocate).switchEncoder

/-- TRACKING_LOOP_UPDATE (R234): an interface that is OFF has no loop. -/
def execTrackingLoopUpdate (e : EncNo) (at_ : Word) (s : State) : Out :=
  let s := (s.reach at_).allSlots
  if s.enc.encs[e].mode == .off then s.done
  else
    let before := s.sluice.loops[e].pos
    let s1 := s.updateLoop e
    if e = s.sluice.source then (s1.retire.trackSource (s1.sluice.loops[e].pos - before)).done
    else s1.done

/-! ### REST_ENTRY (R243, R476) -/

/-- REST_ENTRY (R243): the hysteresis position takes the raw position. The active of a pair records the position while printing is
stopped (R476). -/
def execRestEntry (s : State) : Out :=
  let e := s.sluice.source
  let raw := s.enc.encs[e].position
  let s1 := { s with sluice := { s.sluice with loops := upd s.sluice.loops e (fun l => { l with rest := true, hyst := raw.toInt }) } }
  if s.print.started then s1.done
  else (s1.record 10 (word [fld 0 1 e.val, fld 1 1 1]) raw).done

/-! ### KEEP_WET_TICKLE (R247) -/

/-- KEEP_WET_TICKLE (R247): never while a line is allocated and not yet fired. -/
def execKeepWetTickle (at_ : Word) (s : State) : Out :=
  let s := (s.reach at_).retire
  if !s.print.started || !s.sluice.lines.isEmpty || s.silenced then s.done
  else
    let s1 := (List.finRange 32).foldl (fun s p => if s.portUsed p then s.offer p tickleItem else s) s
    let s2 := { s1 with sluice := { s1.sluice with tickled := some s1.time.raw, wetTold := true } }
    if s.sluice.wetTold then s2.done
    else (s2.raise .keepWetStarted (low40 s.sluice.barLine)).done

/-! ### SLUICE_CONFIG (R263) -/

/-- An entry of the table of R263 that breaks its range, row, INDEX or ELEM: reason 2. -/
def checkSluice (_ : State) (e : Entry) : Option Nat :=
  let dev := e.index == 0 && e.elem == 0
  let pair := e.index == 0 && decide (e.elem < 2)
  let ok := match e.row with
    | 0 => dev && e.within 0 1
    | 1 => dev && e.within 0 1
    | 2 => decide (e.index < 2) && decide (e.elem < 2) && e.within 1 4294967295
    | 3 => dev && e.within 0 1
    | 4 => pair && e.within 1 65535
    | 5 => dev && e.within 500000 8000000 && e.nat % 250 == 0
    | 6 => dev && e.within 250 10000
    | 7 => dev && e.within 1 4096
    | 8 => dev && e.duration 1000000000 10 10000
    | 9 => dev && e.duration 1000000000 10 10000
    | 10 => dev && e.duration 1000000000000 1 600
    | 11 => dev
    | 12 => pair && e.within (-8388608) 8388607
    | 13 => decide (e.index < 10) && e.elem == 0 && e.within 0 400000
    | 14 => decide (e.index < 32) && decide (e.elem < 2) && e.within (-40) 127
    | 15 => dev && e.within 1 20
    | 16 => dev && e.within 1 64
    | 17 => dev && e.within 2000 400000 && e.nat % 2000 == 0
    | _ => false
  if ok then none else some 2

/-- A row of R263 takes its value. -/
def SluiceSettings.put (t : SluiceSettings) (e : Entry) : SluiceSettings :=
  let n := e.nat
  match e.row with
  | 0 => { t with source := Fin.ofNat 2 n }
  | 1 => { t with crosscheck := n == 1 }
  | 2 => if e.elem = 0 then { t with cpiNum := t.cpiNum.set (Fin.ofNat 2 e.index) n }
    else { t with cpiDen := t.cpiDen.set (Fin.ofNat 2 e.index) n }
  | 3 => { t with fwdNeg := n == 1 }
  | 4 => if e.elem = 0 then { t with alpha := n } else { t with beta := n }
  | 5 => { t with lead := n / 250 }
  | 6 => { t with reviseStep := n }
  | 7 => { t with debtLimit := n }
  | 8 => { t with keepWetPs := n }
  | 9 => { t with ticklePs := n }
  | 10 => { t with holdLimitPs := n }
  | 11 => { t with origin := e.int }
  | 12 => if e.elem = 0 then { t with alignFwd := e.int } else { t with alignRev := e.int }
  | 13 => { t with carrMin := t.carrMin.set (Fin.ofNat 10 e.index) n }
  | 14 => { t with temps := upd t.temps (Fin.ofNat 32 e.index) (fun h =>
      if e.elem = 0 then { h with warn := e.int } else { h with hard := e.int }) }
  | 15 => { t with hyst := n }
  | 16 => { t with thermDefer := n }
  | 17 => { t with thermCap := n }
  | _ => t

/-- A row of R263 marked "Stopped". -/
def sluiceStopped (row : Nat) : Bool := decide (row ≤ 5) || row == 11 || row == 12 || row == 13 || row == 16

/-- The settings table of R263: reason 2 where T_WARN is not below T_HARD on some head. SOURCE names the encoder in use at once, since
it changes only while printing is stopped (R261); CROSSCHECK arms cross-checking again (R322). -/
def sluiceTable : Settings where
  bad := .sluiceConfigBad
  range := 2
  isTable := fun _ _ => false
  check := checkSluice
  whole := fun s e => if e.row = 14 then (let h := s.sluice.set.temps[(Fin.ofNat 32 e.index : HeadPort)]
    if h.hard ≤ h.warn then some 2 else none) else none
  busy := fun s e => if s.print.started && sluiceStopped e.row then resp .sluiceBusy 0 else none
  apply := fun s e =>
    { s with sluice := { s.sluice with
               set := s.sluice.set.put e, source := if e.row = 0 then Fin.ofNat 2 e.nat else s.sluice.source }
             enc := { s.enc with armed := if e.row = 1 then e.nat == 1 else s.enc.armed } }

/-- SLUICE_CONFIG (R263). -/
def execSluiceConfig (x : Cmd) (s : State) : Out := (runCommand 0x61 true false (runSettings sluiceTable) x s).done

end Sys2Proof.Machine
end

