-- ==== Sys2Proof/Machine/Time.lean ====
section
/-!
DEFINITION. Meanings of the timebase's commands and of network time (17_timebase_and_network_time.md): compare triggers, steps, PPS,
and the exchanges with the time master.
-/

namespace Sys2Proof.Machine

/-! ### TRIGGER_ARM, TRIGGER_DISARM, TIME_STEP, PPS_SECOND (R496 to R498, R504, R545) -/

/-- TRIGGER_ARM's effect. A value already passed fires late, in the next cycle (R498). -/
def cmdTriggerArm (x : Cmd) (s : State) : State × Option Resp :=
  let n : CmpNo := Fin.ofNat 8 (bits (x.dw 0) 2 0)
  let v := (x.dw 1).toNat
  let p := (x.dw 2).toNat
  if p ≠ 0 ∧ (p < 1000 ∨ 2 ^ 48 ≤ p) then (s, resp .argBad 0)
  else (s.setCmp n (fun c => { c with armed := true, value := v, period := p, fired := 0
                                      passed := decide ((v : Int) ≤ s.now) }), okResp)

/-- TRIGGER_ARM (R497). -/
def execTriggerArm (x : Cmd) (s : State) : Out := (runCommand 0x91 true false cmdTriggerArm x s).done

/-- Scheduled commits of a trigger that is disarmed before it fires answer NOT_FOUND (R545). -/
def State.dropSched (s : State) (n : CmpNo) : State :=
  let mine := s.print.sched.filter (fun c => c.trigger == n)
  mine.foldl (fun (s : State) c => s.respond c.origin 0x10 c.tag .notFound 0)
    { s with print := { s.print with sched := s.print.sched.filter (fun c => c.trigger != n) } }

/-- TRIGGER_DISARM's effect. -/
def cmdTriggerDisarm (x : Cmd) (s : State) : State × Option Resp :=
  let n : CmpNo := Fin.ofNat 8 (x.argBits 2 0)
  let fired := s.time.triggers[n].fired.toNat
  ((s.setCmp n (fun c => { c with armed := false, passed := false })).dropSched n, resp .ok fired)

/-- TRIGGER_DISARM (R545). -/
def execTriggerDisarm (x : Cmd) (s : State) : Out := (runCommand 0x92 false false cmdTriggerDisarm x s).done

/-- TIME_STEP's effect. -/
def cmdTimeStep (x : Cmd) (s : State) : State × Option Resp :=
  if !s.mayStep (x.dw 0).toInt then (s, resp .printActive 0) else (s.stepTime (x.dw 0).toInt, okResp)

/-- TIME_STEP (R496). -/
def execTimeStep (x : Cmd) (s : State) : Out := (runCommand 0x93 true false cmdTimeStep x s).done

/-- PPS_SECOND's effect. -/
def cmdPpsSecond (x : Cmd) (s : State) : State × Option Resp :=
  ({ s with time := { s.time with ppsSecond := some x.arg.toNat } }, okResp)

/-- PPS_SECOND (R504). -/
def execPpsSecond (x : Cmd) (s : State) : Out := (runCommand 0x94 false false cmdPpsSecond x s).done

/-! ### TIME_CONFIG (R505) -/

/-- An entry of the table of R505 that breaks its range, row, INDEX or ELEM. -/
def checkTime (_ : State) (e : Entry) : Option Nat :=
  let ok := e.index == 0 && e.elem == 0 &&
    (match e.row with
      | 0 => e.within 0 0xFFE
      | 1 => e.within 0 1
      | 2 => e.within 10000000 1000000000000
      | 3 => e.within 1000000 500000000000
      | 4 => e.within 0 1
      | _ => false)
  if ok then none else some 1

/-- A row of R505 takes its value. -/
def applyTime (s : State) (e : Entry) : State :=
  let t := s.time
  { s with time := match e.row with
    | 0 => { t with master := BitVec.ofNat 12 e.nat }
    | 1 => { t with pps := e.nat == 1 }
    | 2 => { t with stepLimit := e.nat }
    | 3 => { t with ppsWidth := e.nat }
    | 4 => { t with ppsEnable := e.nat == 1 }
    | _ => t }

/-- The settings table of R505. -/
def timeTable : Settings where
  bad := .tbConfigBad
  isTable := fun _ _ => false
  check := checkTime
  whole := fun _ _ => none
  busy := fun _ _ => none
  apply := applyTime

/-- TIME_CONFIG's effect; a device that becomes the master says so at once (R500). -/
def cmdTimeConfig (x : Cmd) (s : State) : State × Option Resp :=
  let p := runSettings timeTable x s
  if p.2 = okResp then (p.1.masterCheck, p.2) else p

/-- TIME_CONFIG (R505). -/
def execTimeConfig (x : Cmd) (s : State) : Out := (runCommand 0x90 true false cmdTimeConfig x s).done

/-! ### COMPARE_TRIGGER (R497 to R499) -/

/-- A move that waits for a trigger starts at the next update (R339). -/
def State.releaseMoves (s : State) (n : CmpNo) : State :=
  { s with motion := { s.motion with axes := s.motion.axes.map (fun (a : AxisState) => match a.next with
    | some (m, some k) => if k = n then { a with next := some (m, none) } else a
    | _ => a) } }

/-- A port whose TIME-mode frame the trigger names has one still open (R362, R499). -/
def State.camMissed (s : State) (n : CmpNo) : Bool :=
  s.cam.ports.toList.any (fun (q : CamState) => q.direct.enable && q.direct.timeMode && q.direct.trigger == n && q.link == .active &&
    q.frames.any (fun f => f.timeLeft.isSome))

/-- The scheduled commits of a trigger are made, in the order they were given; a refused one answers with its own status (R50, R499). -/
def State.runSched (s : State) (n : CmpNo) : State :=
  let mine := s.print.sched.filter (fun c => c.trigger == n)
  mine.foldl (fun (s : State) c => let r := s.commit c.page []
      r.1.respond c.origin 0x10 c.tag r.2.1 r.2.2)
    { s with print := { s.print with sched := s.print.sched.filter (fun c => c.trigger != n) } }

/-- A trigger fires: its interrupt, LATE, its consumers, and MISSED (R497 to R499, R528). -/
def State.fireTrigger (s : State) (n : CmpNo) : State :=
  let c := s.time.triggers[n]
  let missed := s.camMissed n
  let s1 := (s.setCmp n (fun c => let d := c.next s.now
      { d with missed := d.missed || missed })).irq (10 + n.val)
  let s2 := if c.passed then s1.raiseF .tbTriggerLate (triggerDetail n c.value) else s1
  let s3 := if missed then s2.raiseF .tbTriggerMissed (triggerDetail n c.value) else s2
  ((s3.releaseMoves n).camTimeStart n).runSched n

/-- COMPARE_TRIGGER (R497): an armed trigger whose value is at or below T in the cycle fires. -/
def execCompareTrigger (n : CmpNo) (at_ : Word) (s : State) : Out :=
  let s := s.reach at_
  if s.time.triggers[n].armed && decide ((s.time.triggers[n].value : Int) ≤ s.now) then (s.fireTrigger n).done else s.done

/-! ### PPS (R504) -/

/-- How firmware steers RATE and OFFSET to the edges is not stated: the new RATE is free within R494, and a step is free within R496
(log 25). -/
def State.steer (s : State) : State :=
  let s1 := s.drew.setRate (s.free.toInt % (2 * rateLimit + 1) - rateLimit)
  let n := s1.free.toInt
  let s2 := s1.drew
  if s2.mayStep n then s2.stepTime n else s2

/-- PPS_IN_EDGE (R504): the raw counter is captured, and the edge's whole second has passed. A master with TIME_SOURCE PPS steers. -/
def execPpsInEdge (at_ : Word) (s : State) : Out :=
  let s := s.reach at_
  let s1 : State := { s with time := { s.time with capture := s.time.raw, ppsSecond := s.time.ppsSecond.map (fun n => (n + 1) % 2 ^ 48) } }
  if s1.time.pps && s1.isMaster then s1.steer.done else s1.done

/-- PPS_OUT_SECOND (R504). -/
def execPpsOutSecond (at_ : Word) (s : State) : Out :=
  let s := s.reach at_
  if s.time.ppsEnable then ({ s with time := { s.time with ppsOut := true } }).done else s.done

/-- PPS_OUT_PULSE_END (R504). -/
def execPpsOutPulseEnd (s : State) : Out := ({ s with time := { s.time with ppsOut := false } }).done

/-! ### Exchanges with the time master (R500 to R503) -/

/-- TIME_REQ_SEND (R501, R502): a follower sends REQ to its master; in DORMANT no exchange is made (R503). -/
def execTimeReqSend (at_ : Word) (s : State) : Out :=
  let s := (s.reach at_).masterCheck
  let m := s.timeMaster
  if s.time.sync == .master || m == 0 || s.sys.power == .dormant then s.done
  else
    let t := s.time
    (({ s with time := { t with reqSeq := t.reqSeq + 1, lastReq := some (t.reqSeq, t.raw) } }).fabSend 10 m
      [word [1, fld 16 16 t.reqSeq.toNat], BitVec.ofInt 64 s.now, 0, 0]).done

/-- TIME_REQ (R501): the master answers. Arrival and sending fall into one step, so t4 and t5 are one time (log 25). -/
def execTimeReq (src : NodeNo) (w0 w1 : Word) (at_ : Word) (s : State) : Out :=
  let s := (s.reach at_).takeFrame 10 [w0, w1, 0, 0]
  if bits w0 3 0 = 1 ∧ s.isMaster then
    let t := BitVec.ofInt 64 s.now
    (s.fabSend 10 src [word [2, fld 16 16 (bits w0 31 16)], w1, t, t]).done
  else s.done

/-- An exchange is usable: its SEQ is that of the last REQ, sent at most 10 ms before (R501). -/
def State.usable (s : State) (w0 : Word) : Bool :=
  match s.time.lastReq with
  | some (q, t) => bits w0 3 0 == 2 && bits w0 31 16 == q.toNat && decide ((s.time.raw - t).toNat ≤ 10000000)
  | none => false

/-- TIME_RESP (R501): θ and δ; the exchange of least δ of the second is kept (R502). θ is held in halves of a ns. -/
def execTimeResp (_src : NodeNo) (w0 w1 w2 w3 : Word) (at_ : Word) (s : State) : Out :=
  let s := (s.reach at_).takeFrame 10 [w0, w1, w2, w3]
  if !s.usable w0 || s.time.sync == .master then s.done
  else
    let t6 := BitVec.ofInt 64 s.now
    let theta2 := (w2 - w1).toInt + (w3 - t6).toInt
    let delta := (t6 - w1).toInt - (w3 - w2).toInt
    let best := match s.time.best with
      | some b => if b.2 ≤ delta then some b else some (theta2, delta)
      | none => some (theta2, delta)
    ({ s with time := { s.time with theta2 := theta2, best := best } }).done

/-- A rate target in units of 1/32 ns/s as RATE, rounded to either side, free (log 25). -/
def State.rateOf (s : State) (r32 : Int) : Int :=
  let n := r32 * 4294967296
  n / 32000000000 + (if n % 32000000000 = 0 then 0 else ((s.free.toNat % 2 : Nat) : Int))

/-- The servo's rules for a θ in halves of a ns (R502). integ is held in units of 1/32 ns/s. -/
def State.servo (s : State) (theta2 : Int) : State :=
  let t := s.time
  if t.sync = .free ∨ (t.stepLimit : Int) < theta2.natAbs * 500 then
    if 0 < theta2 ∨ !s.print.started then
      let s1 := s.drew.stepTime (s.half theta2)
      s1.setRate s1.time.rate
    else s.setRate (-rateLimit)
  else
    let integ := t.integ + theta2
    let target := clampTo 3200000 (theta2 * 4 + integ)
    ({ s.drew with time := { t with integ := integ } }).setRate (s.rateOf target)

/-- Four consecutive seconds with |θ| at most 1 µs lock a follower; a second's exchange makes a FREE one converge (R503). -/
def State.lockCheck (s : State) (theta2 : Int) : State :=
  let n := if theta2.natAbs ≤ 2000 then min 4 (s.time.goodSecs + 1) else 0
  let s1 : State := { s with time := { s.time with goodSecs := n, best := none
                                                   sync := if s.time.sync = .free then .converging else s.time.sync } }
  if n = 4 ∧ s1.time.sync = .converging then
    ({ s1 with time := { s1.time with sync := .locked } }).raiseF .timeLocked [fld 0 12 s.timeMaster.toNat]
  else s1

/-- TIME_SERVO (R502, R503): a second without an exchange ends the run of good seconds and changes nothing else. -/
def execTimeServo (at_ : Word) (s : State) : Out :=
  let s := s.reach at_
  if s.time.sync = .master then s.done
  else match s.time.best with
    | none => ({ s with time := { s.time with goodSecs := 0 } }).done
    | some b => ((s.servo b.1).lockCheck b.1).done

/-- TIME_LOST (R503): a follower without a usable exchange for 5 s becomes FREE and keeps its RATE. -/
def execTimeLost (s : State) : Out :=
  if s.time.sync = .converging ∨ s.time.sync = .locked then
    (({ s with time := { s.time with sync := .free, goodSecs := 0 } }).raiseF .timeLost [fld 0 12 s.timeMaster.toNat]).done
  else s.done

end Sys2Proof.Machine
end

