-- ==== Sys2Proof/Machine/Publish.lean ====
section
/-!
DEFINITION. The publication of parcels and the commands of DOCKET parcels (R83, R543, R544, R565, R603).
-/

namespace Sys2Proof.Machine

/-! ### Embedded commands (R543, R544) -/

/-- The meaning of a command by its opcode; none for an opcode no table of R545 lists. -/
def execOpcode (opcode : Byte) (x : Cmd) (s : State) : Option Out :=
  match opcode.toNat with
  | 0x00 => some (execEcho x s)
  | 0x01 => some (execVersion x s)
  | 0x02 => some (execInfo x s)
  | 0x03 => some (execEventMask x s)
  | 0x10 => some (execPageCommit x s)
  | 0x11 => some (execPageCancel x s)
  | 0x12 => some (execPageDelete x s)
  | 0x13 => some (execPageAbort x s)
  | 0x14 => some (execPageStatus x s)
  | 0x15 => some (execPageDefects x s)
  | 0x16 => some (execFallbackSet x s)
  | 0x18 => some (execPrintStart x s)
  | 0x19 => some (execPrintStop x s)
  | 0x1A => some (execWaveLoad x s)
  | 0x30 => some (execParcelLoad x s)
  | 0x31 => some (execLayerDelete x s)
  | 0x32 => some (execParcelTimeout x s)
  | 0x33 => some (execStoreInfo x s)
  | 0x35 => some (execGeneratorDefine x s)
  | 0x36 => some (execGeneratorDelete x s)
  | 0x40 => some (execCameraConfig x s)
  | 0x41 => some (execCameraCommit x s)
  | 0x42 => some (execStatsRead x s)
  | 0x43 => some (execStatsRelease x s)
  | 0x44 => some (execTapRead x s)
  | 0x45 => some (execTapRelease x s)
  | 0x46 => some (execHealthRead x s)
  | 0x47 => some (execHealthForce x s)
  | 0x48 => some (execHealthConfig x s)
  | 0x49 => some (execNozzleReport x s)
  | 0x50 => some (execAxisConfig x s)
  | 0x51 => some (execMove x s)
  | 0x52 => some (execStop x s)
  | 0x53 => some (execHome x s)
  | 0x60 => some (execEncoderConfig x s)
  | 0x61 => some (execSluiceConfig x s)
  | 0x62 => some (execTriggerConfig x s)
  | 0x63 => some (execGovernorConfig x s)
  | 0x70 => some (execFabricConfig x s)
  | 0x71 => some (execPeerPost x s)
  | 0x72 => some (execPeerClose x s)
  | 0x73 => some (execBulkOffer x s)
  | 0x80 => some (execPairConfig x s)
  | 0x81 => some (execRiderConfig x s)
  | 0x82 => some (execClaimGrant x s)
  | 0x83 => some (execSwap x s)
  | 0x90 => some (execTimeConfig x s)
  | 0x91 => some (execTriggerArm x s)
  | 0x92 => some (execTriggerDisarm x s)
  | 0x93 => some (execTimeStep x s)
  | 0x94 => some (execPpsSecond x s)
  | 0xA0 => some (execIdentityRead x s)
  | 0xA1 => some (execSessionOpen x s)
  | 0xA2 => some (execSessionClose x s)
  | 0xA3 => some (execPairKeyEstablish x s)
  | 0xA4 => some (execSerialJobOpen x s)
  | 0xA5 => some (execSerialJobClose x s)
  | 0xA6 => some (execLogExport x s)
  | 0xA7 => some (execLogRelease x s)
  | 0xA8 => some (execFwActivate x s)
  | 0xA9 => some (execLifecycleSet x s)
  | 0xAA => some (execDebugUnlock x s)
  | 0xAB => some (execProvision x s)
  | 0xC0 => some (execCalNozzle x s)
  | 0xC1 => some (execCalDensity x s)
  | 0xC2 => some (execCalEncTrim x s)
  | 0xC3 => some (execCalChopper x s)
  | 0xCF => some (execCalCancel x s)
  | 0xD0 => some (execLaneControl x s)
  | 0xD1 => some (execLoopback x s)
  | 0xD2 => some (execSelftestRun x s)
  | 0xD3 => some (execCountersRead x s)
  | 0xE0 => some (execPowerState x s)
  | 0xE1 => some (execMemoryInfo x s)
  | _ => none

/-- A DOCKET parcel's authentication lets an embedded command run (R544). -/
def permitted (a : ParcelAuth) (t : TakenCmd) : Bool :=
  match a with
  | .session _ => true
  | .mirror => decide (0x30 ≤ t.opcode.toNat ∧ t.opcode.toNat ≤ 0x3F)
  | .offered => t.opcode == 0xD2 && bits (t.arg.setWidth 64) 3 0 == 15

/-- An embedded command as firmware handles it. -/
def embeddedCmd (a : ParcelAuth) (t : TakenCmd) (docket : List Word) (tables : List (List Word)) : Cmd :=
  { origin := .parcel a, tag := t.tag, docketFlag := t.docketFlag, arg := t.arg, docket := docket, tables := tables }

/-- The first run of a list that is at a parcel changed. -/
def changeRun (v : Verified) (f : DocketRun → DocketRun) : List DocketRun → List DocketRun
  | [] => []
  | r :: rs => if r.parcel = v then f r :: rs else r :: changeRun v f rs

/-- A run changed. -/
def State.setRun (s : State) (v : Verified) (f : DocketRun → DocketRun) : State :=
  { s with store := { s.store with docketRuns := changeRun v f s.store.docketRuns } }

/-- The run of a parcel. -/
def State.runOf (s : State) (v : Verified) : Option DocketRun := s.store.docketRuns.find? (fun r => r.parcel == v)

/-- One embedded command runs: its response word joins the others, at once or at the end of its action (R537, R544). -/
def State.runEmbedded (s : State) (v : Verified) (a : ParcelAuth) (c : Word × List Word × List (List Word)) : State :=
  let t := takenOf c.1
  if !permitted a t then s
  else
    let s1 := s.setRun v (fun r => { r with waiting := some (t.opcode, t.tag) })
    match execOpcode t.opcode (embeddedCmd a t c.2.1 c.2.2) s1 with
    | some (.next u) => u
    | some _ => s
    | none => s.setRun v (fun r => { r with responses := r.responses ++ [responseWord t.opcode t.tag .unknownOpcode 0] })

/-- The embedded commands run one at a time, until one waits for its end or firmware stops serving (R544, R607). fuel: their number. -/
def State.runDocket (v : Verified) : Nat → State → State
  | 0, s => s
  | fuel + 1, s =>
    match s.runOf v with
    | none => s
    | some r =>
      match r.waiting, r.remaining with
      | none, c :: cs =>
        if s.serves then State.runDocket v fuel ((s.setRun v (fun r => { r with remaining := cs })).runEmbedded v r.auth c) else s
      | _, _ => s

/-- The end of a DOCKET parcel: its response words are in the result buffer, and its load is answered (R80 step 10, R544). -/
def State.endDocket (s : State) (v : Verified) (writeFail : Option Word) : State :=
  match s.runOf v with
  | none => s
  | some r =>
    if r.waiting.isSome || !r.remaining.isEmpty then s
    else
      let s1 := { s with store := { s.store with docketRuns := s.store.docketRuns.erase r } }
      let id := parcelId v.header
      if v.req.bufAddr = 0 ∨ r.responses = [] then s1.loadAnswer v.req .ok (id + fld 32 8 3)
      else match writeFail with
        | some a => s1.loadAnswer v.req .hostDmaError (a.toNat / 64)
        | none => (s1.emit (.hostWrite v.req.bufAddr r.responses)).loadAnswer v.req .ok (id + fld 32 8 3)

/-- A run goes on as far as it can. -/
def State.goOn (s : State) (v : Verified) (r : PublishRead) : State := (s.runDocket v 64).endDocket v r.writeFail

/-! ### PARCEL_PUBLISH (R83) -/

/-- A DOCKET parcel is published, and pages are evaluated (R101): its commands follow (R543, R544). One whose authentication permits none has none to run. -/
def State.publishDocket (s : State) (v : Verified) (r : PublishRead) : State :=
  let cs := (docketCommands v.payload).getD []
  let s1 := s.evalPages.raise .parcelVerified (low40 (parcelId v.header + fld 32 4 v.req.src.code))
  match s.docketAuth v with
  | none => s1.loadAnswer v.req .ok (parcelId v.header + fld 32 8 3)
  | some a =>
    let run : DocketRun := { parcel := v, auth := a, responses := [], waiting := none
                             remaining := cs.zipIdx.map (fun c => (c.1.1, c.1.2, r.tables.getD c.2 [])) }
    ({ s1 with store := { s1.store with docketRuns := s1.store.docketRuns ++ [run] } }).goOn v r

/-- A verified parcel is published, unless its staging reads uncorrectable or its content no longer passes (R80, R83, R587). -/
def State.publish (s : State) (v : Verified) (r : PublishRead) : State :=
  let s0 := { s with store := { s.store with verified := s.store.verified.drop 1 } }
  let q := s0.readBursts (s0.rangeReads (regionBase 8 + 1024 * v.alloc.1) (v.payload.length / 8) r.reads)
  if !q.2.isEmpty then (q.1.freeSlot v.slot).loadFails v.req (parcelId v.header) .parcelDmaError 0 none
  else
    let s0 := q.1
    match s0.contentFault v.req v.header v.payload with
    | some (c, reason) => (s0.freeSlot v.slot).loadFails v.req (parcelId v.header) c 0 reason
    | none =>
      let s1 := (s0.freeSlot v.slot).queueMirror v
      if content v.header = 3 then s1.publishDocket v r else (s1.publishContent v).loadVerified v

/-- PARCEL_PUBLISH (R83): a DOCKET parcel whose command has been answered goes on first; else the oldest verified parcel is published. -/
def execParcelPublish (r : PublishRead) (s : State) : Out :=
  match s.store.docketRuns.find? (fun d => d.waiting.isNone), s.store.verified with
  | some d, _ => ((s.goOn d.parcel r).refreshQueue.serveOpens).done
  | none, v :: _ => ((s.publish v r).refreshQueue.serveOpens).done
  | none, [] => s.done

end Sys2Proof.Machine
end

