-- ==== Sys2Proof/Machine/Dispatch.lean ====
section
/-! DEFINITION. One arm for each command: a direct call of its meaning, or its rejection by name. -/

namespace Sys2Proof.Machine

def exec (i : Instr) (s : State) : Host.Outcome State Fault Refusal :=
  match i with
  | .echo c => Sys2Proof.Machine.execEcho c s
  | .version c => Sys2Proof.Machine.execVersion c s
  | .info c => Sys2Proof.Machine.execInfo c s
  | .eventMask c => Sys2Proof.Machine.execEventMask c s
  | .pageCommit c => Sys2Proof.Machine.execPageCommit c s
  | .pageCancel c => Sys2Proof.Machine.execPageCancel c s
  | .pageDelete c => Sys2Proof.Machine.execPageDelete c s
  | .pageAbort c => Sys2Proof.Machine.execPageAbort c s
  | .pageStatus c => Sys2Proof.Machine.execPageStatus c s
  | .pageDefects c => Sys2Proof.Machine.execPageDefects c s
  | .fallbackSet c => Sys2Proof.Machine.execFallbackSet c s
  | .printStart c => Sys2Proof.Machine.execPrintStart c s
  | .printStop c => Sys2Proof.Machine.execPrintStop c s
  | .waveLoad c => Sys2Proof.Machine.execWaveLoad c s
  | .parcelLoad c => Sys2Proof.Machine.execParcelLoad c s
  | .layerDelete c => Sys2Proof.Machine.execLayerDelete c s
  | .parcelTimeout c => Sys2Proof.Machine.execParcelTimeout c s
  | .storeInfo c => Sys2Proof.Machine.execStoreInfo c s
  | .generatorDefine c => Sys2Proof.Machine.execGeneratorDefine c s
  | .generatorDelete c => Sys2Proof.Machine.execGeneratorDelete c s
  | .cameraConfig c => Sys2Proof.Machine.execCameraConfig c s
  | .cameraCommit c => Sys2Proof.Machine.execCameraCommit c s
  | .statsRead c => Sys2Proof.Machine.execStatsRead c s
  | .statsRelease c => Sys2Proof.Machine.execStatsRelease c s
  | .tapRead c => Sys2Proof.Machine.execTapRead c s
  | .tapRelease c => Sys2Proof.Machine.execTapRelease c s
  | .healthRead c => Sys2Proof.Machine.execHealthRead c s
  | .healthForce c => Sys2Proof.Machine.execHealthForce c s
  | .healthConfig c => Sys2Proof.Machine.execHealthConfig c s
  | .nozzleReport c => Sys2Proof.Machine.execNozzleReport c s
  | .axisConfig c => Sys2Proof.Machine.execAxisConfig c s
  | .move c => Sys2Proof.Machine.execMove c s
  | .stop c => Sys2Proof.Machine.execStop c s
  | .home c => Sys2Proof.Machine.execHome c s
  | .encoderConfig c => Sys2Proof.Machine.execEncoderConfig c s
  | .sluiceConfig c => Sys2Proof.Machine.execSluiceConfig c s
  | .triggerConfig c => Sys2Proof.Machine.execTriggerConfig c s
  | .governorConfig c => Sys2Proof.Machine.execGovernorConfig c s
  | .fabricConfig c => Sys2Proof.Machine.execFabricConfig c s
  | .peerPost c => Sys2Proof.Machine.execPeerPost c s
  | .peerClose c => Sys2Proof.Machine.execPeerClose c s
  | .bulkOffer c => Sys2Proof.Machine.execBulkOffer c s
  | .pairConfig c => Sys2Proof.Machine.execPairConfig c s
  | .riderConfig c => Sys2Proof.Machine.execRiderConfig c s
  | .claimGrant c => Sys2Proof.Machine.execClaimGrant c s
  | .swap c => Sys2Proof.Machine.execSwap c s
  | .timeConfig c => Sys2Proof.Machine.execTimeConfig c s
  | .triggerArm c => Sys2Proof.Machine.execTriggerArm c s
  | .triggerDisarm c => Sys2Proof.Machine.execTriggerDisarm c s
  | .timeStep c => Sys2Proof.Machine.execTimeStep c s
  | .ppsSecond c => Sys2Proof.Machine.execPpsSecond c s
  | .identityRead c => Sys2Proof.Machine.execIdentityRead c s
  | .sessionOpen c => Sys2Proof.Machine.execSessionOpen c s
  | .sessionClose c => Sys2Proof.Machine.execSessionClose c s
  | .pairKeyEstablish c => Sys2Proof.Machine.execPairKeyEstablish c s
  | .serialJobOpen c => Sys2Proof.Machine.execSerialJobOpen c s
  | .serialJobClose c => Sys2Proof.Machine.execSerialJobClose c s
  | .logExport c => Sys2Proof.Machine.execLogExport c s
  | .logRelease c => Sys2Proof.Machine.execLogRelease c s
  | .fwActivate c => Sys2Proof.Machine.execFwActivate c s
  | .lifecycleSet c => Sys2Proof.Machine.execLifecycleSet c s
  | .debugUnlock c => Sys2Proof.Machine.execDebugUnlock c s
  | .provision c => Sys2Proof.Machine.execProvision c s
  | .calNozzle c => Sys2Proof.Machine.execCalNozzle c s
  | .calDensity c => Sys2Proof.Machine.execCalDensity c s
  | .calEncTrim c => Sys2Proof.Machine.execCalEncTrim c s
  | .calChopper c => Sys2Proof.Machine.execCalChopper c s
  | .calCancel c => Sys2Proof.Machine.execCalCancel c s
  | .laneControl c => Sys2Proof.Machine.execLaneControl c s
  | .loopback c => Sys2Proof.Machine.execLoopback c s
  | .selftestRun c => Sys2Proof.Machine.execSelftestRun c s
  | .countersRead c => Sys2Proof.Machine.execCountersRead c s
  | .powerState c => Sys2Proof.Machine.execPowerState c s
  | .memoryInfo c => Sys2Proof.Machine.execMemoryInfo c s
  | .hmbInPost ch word => Sys2Proof.Machine.execHmbInPost ch word s
  | .hmbOutRead ch => Sys2Proof.Machine.execHmbOutRead ch s
  | .hostReset ch => Sys2Proof.Machine.execHostReset ch s
  | .irqMaskWrite value => Sys2Proof.Machine.execIrqMaskWrite value s
  | .axisLatchRead ax => Sys2Proof.Machine.execAxisLatchRead ax s
  | .laneErrRead lane part => Sys2Proof.Machine.execLaneErrRead lane part s
  | .registerWrite offset wide value => Sys2Proof.Machine.execRegisterWrite offset wide value s
  | .firmwareTakesWord ch => Sys2Proof.Machine.execFirmwareTakesWord ch s
  | .engineChannelPost k word => Sys2Proof.Machine.execEngineChannelPost k word s
  | .supplyMonitorReset => Sys2Proof.Machine.execSupplyMonitorReset s
  | .resetN => Sys2Proof.Machine.execResetN s
  | .perstN => Sys2Proof.Machine.execPerstN s
  | .functionLevelReset => Sys2Proof.Machine.execFunctionLevelReset s
  | .pciePowerState d3hot => Sys2Proof.Machine.execPciePowerState d3hot s
  | .commandedReset => Sys2Proof.Machine.execCommandedReset s
  | .bootStageDone r => Sys2Proof.Machine.execBootStageDone r s
  | .watchdogExpiry => Sys2Proof.Machine.execWatchdogExpiry s
  | .watchdogReset preferred other => Sys2Proof.Machine.execWatchdogReset preferred other s
  | .fatalFault f => Sys2Proof.Machine.execFatalFault f s
  | .firePllRelock => Sys2Proof.Machine.execFirePllRelock s
  | .dormantEntry => Sys2Proof.Machine.execDormantEntry s
  | .dormantExit => Sys2Proof.Machine.execDormantExit s
  | .parcelSlotStart => Sys2Proof.Machine.execParcelSlotStart s
  | .parcelHeaderArrival slot header => Sys2Proof.Machine.execParcelHeaderArrival slot header s
  | .parcelCompletion slot r => Sys2Proof.Machine.execParcelCompletion slot r s
  | .parcelTimerExpiry slot => Sys2Proof.Machine.execParcelTimerExpiry slot s
  | .parcelTagCheck slot => Sys2Proof.Machine.execParcelTagCheck slot s
  | .parcelPublish r => Sys2Proof.Machine.execParcelPublish r s
  | .parcelMirror => Sys2Proof.Machine.execParcelMirror s
  | .pagePreparation fallback o => Sys2Proof.Machine.execPagePreparation fallback o s
  | .blockFetchDone k ref second reads => Sys2Proof.Machine.execBlockFetchDone k ref second reads s
  | .engineEdgeExchange e => Sys2Proof.Machine.execEngineEdgeExchange e s
  | .engineBandHandover e => Sys2Proof.Machine.execEngineBandHandover e s
  | .mapperWriteDone => Sys2Proof.Machine.execMapperWriteDone s
  | .encoderAdcSample e a b => Sys2Proof.Machine.execEncoderAdcSample e a b s
  | .quadratureTransition e a b => Sys2Proof.Machine.execQuadratureTransition e a b s
  | .indexEvent e edge => Sys2Proof.Machine.execIndexEvent e edge s
  | .trackingLoopUpdate e at_ => Sys2Proof.Machine.execTrackingLoopUpdate e at_ s
  | .restEntry => Sys2Proof.Machine.execRestEntry s
  | .lineBoundary at_ => Sys2Proof.Machine.execLineBoundary at_ s
  | .markMissPulseEnd n => Sys2Proof.Machine.execMarkMissPulseEnd n s
  | .productDetect n => Sys2Proof.Machine.execProductDetect n s
  | .keepWetTickle at_ => Sys2Proof.Machine.execKeepWetTickle at_ s
  | .holdLimitExpiry => Sys2Proof.Machine.execHoldLimitExpiry s
  | .statusSend => Sys2Proof.Machine.execStatusSend s
  | .latProbeSend p sentAt => Sys2Proof.Machine.execLatProbeSend p sentAt s
  | .latProbeTimeout p seq => Sys2Proof.Machine.execLatProbeTimeout p seq s
  | .latEcho p block arrival => Sys2Proof.Machine.execLatEcho p block arrival s
  | .alive p block => Sys2Proof.Machine.execAlive p block s
  | .aliveTimeout p => Sys2Proof.Machine.execAliveTimeout p s
  | .lineAck p block => Sys2Proof.Machine.execLineAck p block s
  | .temp p block => Sys2Proof.Machine.execTemp p block s
  | .hdEvent p block => Sys2Proof.Machine.execHdEvent p block s
  | .caps p control data => Sys2Proof.Machine.execCaps p control data s
  | .waveLoadSend p => Sys2Proof.Machine.execWaveLoadSend p s
  | .waveAck p block => Sys2Proof.Machine.execWaveAck p block s
  | .waveAckTimeout p => Sys2Proof.Machine.execWaveAckTimeout p s
  | .receiverDetectPulse lane found => Sys2Proof.Machine.execReceiverDetectPulse lane found s
  | .trainingBlock lane sync block count => Sys2Proof.Machine.execTrainingBlock lane sync block count s
  | .cdrLock lane => Sys2Proof.Machine.execCdrLock lane s
  | .laneStateTimeout lane => Sys2Proof.Machine.execLaneStateTimeout lane s
  | .electricalIdle lane => Sys2Proof.Machine.execElectricalIdle lane s
  | .backoffWaitEnd lane => Sys2Proof.Machine.execBackoffWaitEnd lane s
  | .blockLockLoss lane => Sys2Proof.Machine.execBlockLockLoss lane s
  | .laneErrors lane count => Sys2Proof.Machine.execLaneErrors lane count s
  | .loopbackEnd lane r => Sys2Proof.Machine.execLoopbackEnd lane r s
  | .jtagInstruction ins => Sys2Proof.Machine.execJtagInstruction ins s
  | .fabricFrame p f => Sys2Proof.Machine.execFabricFrame p f s
  | .credit p block => Sys2Proof.Machine.execCredit p block s
  | .creditSend p => Sys2Proof.Machine.execCreditSend p s
  | .fabricCaps p control data => Sys2Proof.Machine.execFabricCaps p control data s
  | .announce p w0 w1 w2 => Sys2Proof.Machine.execAnnounce p w0 w1 w2 s
  | .announceSend => Sys2Proof.Machine.execAnnounceSend s
  | .electionSettled => Sys2Proof.Machine.execElectionSettled s
  | .fabricNoRoot => Sys2Proof.Machine.execFabricNoRoot s
  | .report p words => Sys2Proof.Machine.execReport p words s
  | .routeCompute => Sys2Proof.Machine.execRouteCompute s
  | .assign p w0 w1 => Sys2Proof.Machine.execAssign p w0 w1 s
  | .routes words => Sys2Proof.Machine.execRoutes words s
  | .routesAck src w0 => Sys2Proof.Machine.execRoutesAck src w0 s
  | .routesResend => Sys2Proof.Machine.execRoutesResend s
  | .mailboxOpen src w0 => Sys2Proof.Machine.execMailboxOpen src w0 s
  | .mailboxWord src w0 w1 => Sys2Proof.Machine.execMailboxWord src w0 w1 s
  | .mailboxAck src w0 => Sys2Proof.Machine.execMailboxAck src w0 s
  | .mailboxClose src w0 => Sys2Proof.Machine.execMailboxClose src w0 s
  | .mailboxResend peer => Sys2Proof.Machine.execMailboxResend peer s
  | .channelIdle peer => Sys2Proof.Machine.execChannelIdle peer s
  | .encEvent src w0 w1 => Sys2Proof.Machine.execEncEvent src w0 w1 s
  | .bulk src words => Sys2Proof.Machine.execBulk src words s
  | .governorMessage src w0 => Sys2Proof.Machine.execGovernorMessage src w0 s
  | .governorMessageSend => Sys2Proof.Machine.execGovernorMessageSend s
  | .governorPeerLost src => Sys2Proof.Machine.execGovernorPeerLost src s
  | .spdlimPeriod => Sys2Proof.Machine.execSpdlimPeriod s
  | .holdReqRelease => Sys2Proof.Machine.execHoldReqRelease s
  | .heartbeat src header w0 w1 w2 w3 => Sys2Proof.Machine.execHeartbeat src header w0 w1 w2 w3 s
  | .scheduleRecord src header w0 w1 w2 w3 => Sys2Proof.Machine.execScheduleRecord src header w0 w1 w2 w3 s
  | .grant src header w0 w1 w2 w3 => Sys2Proof.Machine.execGrant src header w0 w1 w2 w3 s
  | .accept src header w0 w1 w2 w3 => Sys2Proof.Machine.execAccept src header w0 w1 w2 w3 s
  | .health src header words => Sys2Proof.Machine.execHealth src header words s
  | .heartbeatSend => Sys2Proof.Machine.execHeartbeatSend s
  | .healthSend => Sys2Proof.Machine.execHealthSend s
  | .pairPartnerLost => Sys2Proof.Machine.execPairPartnerLost s
  | .grantResend pair => Sys2Proof.Machine.execGrantResend pair s
  | .claimRelease => Sys2Proof.Machine.execClaimRelease s
  | .compareTrigger n at_ => Sys2Proof.Machine.execCompareTrigger n at_ s
  | .ppsInEdge at_ => Sys2Proof.Machine.execPpsInEdge at_ s
  | .ppsOutSecond at_ => Sys2Proof.Machine.execPpsOutSecond at_ s
  | .timeReqSend at_ => Sys2Proof.Machine.execTimeReqSend at_ s
  | .timeReq src w0 w1 at_ => Sys2Proof.Machine.execTimeReq src w0 w1 at_ s
  | .timeResp src w0 w1 w2 w3 at_ => Sys2Proof.Machine.execTimeResp src w0 w1 w2 w3 at_ s
  | .timeServo at_ => Sys2Proof.Machine.execTimeServo at_ s
  | .timeLost => Sys2Proof.Machine.execTimeLost s
  | .switchQualified sw held => Sys2Proof.Machine.execSwitchQualified sw held s
  | .switchSetBad set => Sys2Proof.Machine.execSwitchSetBad set s
  | .profileUpdate ax => Sys2Proof.Machine.execProfileUpdate ax s
  | .holdDelay ax => Sys2Proof.Machine.execHoldDelay ax s
  | .chopperTransition ax coil shows => Sys2Proof.Machine.execChopperTransition ax coil shows s
  | .coilFault ax coil reason => Sys2Proof.Machine.execCoilFault ax coil reason s
  | .encSignalRestored e => Sys2Proof.Machine.execEncSignalRestored e s
  | .relayTransition e => Sys2Proof.Machine.execRelayTransition e s
  | .camConnectionReset p => Sys2Proof.Machine.execCamConnectionReset p s
  | .characterLock p locked => Sys2Proof.Machine.execCharacterLock p locked s
  | .camBootstrapReply p r => Sys2Proof.Machine.execCamBootstrapReply p r s
  | .camWriteAck p => Sys2Proof.Machine.execCamWriteAck p s
  | .camWriteFail p timeout => Sys2Proof.Machine.execCamWriteFail p timeout s
  | .camLockLoss p => Sys2Proof.Machine.execCamLockLoss p s
  | .streamPacket p k => Sys2Proof.Machine.execStreamPacket p k s
  | .cameraLine p samples reads => Sys2Proof.Machine.execCameraLine p samples reads s
  | .frameTimeout p => Sys2Proof.Machine.execFrameTimeout p s
  | .timeModeLine p => Sys2Proof.Machine.execTimeModeLine p s
  | .compressorToken x => Sys2Proof.Machine.execCompressorToken x s
  | .statsRecordProcess p => Sys2Proof.Machine.execStatsRecordProcess p s
  | .nozzleReportLost slot node => Sys2Proof.Machine.execNozzleReportLost slot node s
  | .healthMapPersist => Sys2Proof.Machine.execHealthMapPersist s
  | .calTimeout proc => Sys2Proof.Machine.execCalTimeout proc s
  | .calProcedureEnd proc m => Sys2Proof.Machine.execCalProcedureEnd proc m s
  | .patrolScrubBurst r => Sys2Proof.Machine.execPatrolScrubBurst r s
  | .dqsDriftUpdate readings => Sys2Proof.Machine.execDqsDriftUpdate readings s
  | .refreshRateRead doubled => Sys2Proof.Machine.execRefreshRateRead doubled s
  | .selftestBackground r => Sys2Proof.Machine.execSelftestBackground r s
  | .engineSlice k matches_ => Sys2Proof.Machine.execEngineSlice k matches_ s
  | .switchRawChange sw level => Sys2Proof.Machine.execSwitchRawChange sw level s
  | .selftestRunEnd r => Sys2Proof.Machine.execSelftestRunEnd r s
  | .drivingBegins => Sys2Proof.Machine.execDrivingBegins s
  | .ppsOutPulseEnd => Sys2Proof.Machine.execPpsOutPulseEnd s
  | .docketReadCompletion ch tag r => Sys2Proof.Machine.execDocketReadCompletion ch tag r s

end Sys2Proof.Machine
end

