-- ==== Sys2Proof/WellFormed.lean ====
section
/-!
DEFINITION. Which commands are well formed: what comes from outside has the size its format gives it. The machine is total on
ill-formed commands too; a well-formed command is one that the formats of the spec can carry.
-/

namespace Sys2Proof

/-- A command without the DOCKET flag names no docket, and so no table; a docket holds at most 2^16 - 1 words (R532, R543). -/
def Cmd.wf (c : Cmd) : Bool :=
  (c.docketFlag || (c.docket.isEmpty && c.tables.isEmpty)) && decide (c.docket.length < 65536)

/-- An image has 64 header words (R557). -/
def ImageRead.wf (i : ImageRead) : Bool := i.header.length == 64

/-- The images read in a boot stage are well formed (R557). -/
def BootResult.wf : BootResult → Bool
  | .image a b => a.all ImageRead.wf && b.all ImageRead.wf
  | .rom _ => true
  | .firmware _ => true
  | .dram _ _ => true
  | .lanes _ _ => true
  | .fabric _ _ => true

/-- A frame holds at most 2^9 - 1 data words, the greatest LENGTH of a header (R429). -/
def FabFrame.wf (f : FabFrame) : Bool := decide (f.data.length < 512)

/-- A procedure's measurement is of its own kind (R405). -/
def measureFits (p : CalProc) (m : CalMeasure) : Bool :=
  match p, m with
  | .encTrim _, .trim .. => true
  | .chopper _, .chops .. => true
  | .nozzle _, .strips => true
  | .density, .strips => true
  | _, _ => false

/-- A self-test's measurement is of its own kind (R617). -/
def TestRun.fits (r : TestRun) : Bool :=
  match r.test.val, r.found with
  | 1, .cells _ => true
  | 2, .signatures _ => true
  | 3, .adcs _ => true
  | 4, .trips _ => true
  | 5, .links _ => true
  | 6, .temperatures _ => true
  | _, _ => false

/-- The command word of a command that is one. -/
def Instr.cmd? (i : Instr) : Option Cmd :=
  match i with
  | .echo c => some c
  | .version c => some c
  | .info c => some c
  | .eventMask c => some c
  | .pageCommit c => some c
  | .pageCancel c => some c
  | .pageDelete c => some c
  | .pageAbort c => some c
  | .pageStatus c => some c
  | .pageDefects c => some c
  | .fallbackSet c => some c
  | .printStart c => some c
  | .printStop c => some c
  | .waveLoad c => some c
  | .parcelLoad c => some c
  | .layerDelete c => some c
  | .parcelTimeout c => some c
  | .storeInfo c => some c
  | .generatorDefine c => some c
  | .generatorDelete c => some c
  | .cameraConfig c => some c
  | .cameraCommit c => some c
  | .statsRead c => some c
  | .statsRelease c => some c
  | .tapRead c => some c
  | .tapRelease c => some c
  | .healthRead c => some c
  | .healthForce c => some c
  | .healthConfig c => some c
  | .nozzleReport c => some c
  | .axisConfig c => some c
  | .move c => some c
  | .stop c => some c
  | .home c => some c
  | .encoderConfig c => some c
  | .sluiceConfig c => some c
  | .triggerConfig c => some c
  | .governorConfig c => some c
  | .fabricConfig c => some c
  | .peerPost c => some c
  | .peerClose c => some c
  | .bulkOffer c => some c
  | .pairConfig c => some c
  | .riderConfig c => some c
  | .claimGrant c => some c
  | .swap c => some c
  | .timeConfig c => some c
  | .triggerArm c => some c
  | .triggerDisarm c => some c
  | .timeStep c => some c
  | .ppsSecond c => some c
  | .identityRead c => some c
  | .sessionOpen c => some c
  | .sessionClose c => some c
  | .pairKeyEstablish c => some c
  | .serialJobOpen c => some c
  | .serialJobClose c => some c
  | .logExport c => some c
  | .logRelease c => some c
  | .fwActivate c => some c
  | .lifecycleSet c => some c
  | .debugUnlock c => some c
  | .provision c => some c
  | .calNozzle c => some c
  | .calDensity c => some c
  | .calEncTrim c => some c
  | .calChopper c => some c
  | .calCancel c => some c
  | .laneControl c => some c
  | .loopback c => some c
  | .selftestRun c => some c
  | .countersRead c => some c
  | .powerState c => some c
  | .memoryInfo c => some c
  | .hmbInPost _ _ => none
  | .hmbOutRead _ => none
  | .hostReset _ => none
  | .irqMaskWrite _ => none
  | .axisLatchRead _ => none
  | .laneErrRead _ _ => none
  | .registerWrite _ _ _ => none
  | .firmwareTakesWord _ => none
  | .engineChannelPost _ _ => none
  | .supplyMonitorReset => none
  | .resetN => none
  | .perstN => none
  | .functionLevelReset => none
  | .pciePowerState _ => none
  | .commandedReset => none
  | .bootStageDone _ => none
  | .watchdogExpiry => none
  | .watchdogReset _ _ => none
  | .fatalFault _ => none
  | .firePllRelock => none
  | .dormantEntry => none
  | .dormantExit => none
  | .parcelSlotStart => none
  | .parcelHeaderArrival _ _ => none
  | .parcelCompletion _ _ => none
  | .parcelTimerExpiry _ => none
  | .parcelTagCheck _ => none
  | .parcelPublish _ => none
  | .parcelMirror => none
  | .pagePreparation _ _ => none
  | .blockFetchDone _ _ _ _ => none
  | .engineEdgeExchange _ => none
  | .engineBandHandover _ => none
  | .mapperWriteDone => none
  | .encoderAdcSample _ _ _ => none
  | .quadratureTransition _ _ _ => none
  | .indexEvent _ _ => none
  | .trackingLoopUpdate _ _ => none
  | .restEntry => none
  | .lineBoundary _ => none
  | .markMissPulseEnd _ => none
  | .productDetect _ => none
  | .keepWetTickle _ => none
  | .holdLimitExpiry => none
  | .statusSend => none
  | .latProbeSend _ _ => none
  | .latProbeTimeout _ _ => none
  | .latEcho _ _ _ => none
  | .alive _ _ => none
  | .aliveTimeout _ => none
  | .lineAck _ _ => none
  | .temp _ _ => none
  | .hdEvent _ _ => none
  | .caps _ _ _ => none
  | .waveLoadSend _ => none
  | .waveAck _ _ => none
  | .waveAckTimeout _ => none
  | .receiverDetectPulse _ _ => none
  | .trainingBlock _ _ _ _ => none
  | .cdrLock _ => none
  | .laneStateTimeout _ => none
  | .electricalIdle _ => none
  | .backoffWaitEnd _ => none
  | .blockLockLoss _ => none
  | .laneErrors _ _ => none
  | .loopbackEnd _ _ => none
  | .jtagInstruction _ => none
  | .fabricFrame _ _ => none
  | .credit _ _ => none
  | .creditSend _ => none
  | .fabricCaps _ _ _ => none
  | .announce _ _ _ _ => none
  | .announceSend => none
  | .electionSettled => none
  | .fabricNoRoot => none
  | .report _ _ => none
  | .routeCompute => none
  | .assign _ _ _ => none
  | .routes _ => none
  | .routesAck _ _ => none
  | .routesResend => none
  | .mailboxOpen _ _ => none
  | .mailboxWord _ _ _ => none
  | .mailboxAck _ _ => none
  | .mailboxClose _ _ => none
  | .mailboxResend _ => none
  | .channelIdle _ => none
  | .encEvent _ _ _ => none
  | .bulk _ _ => none
  | .governorMessage _ _ => none
  | .governorMessageSend => none
  | .governorPeerLost _ => none
  | .spdlimPeriod => none
  | .holdReqRelease => none
  | .heartbeat _ _ _ _ _ _ => none
  | .scheduleRecord _ _ _ _ _ _ => none
  | .grant _ _ _ _ _ _ => none
  | .accept _ _ _ _ _ _ => none
  | .health _ _ _ => none
  | .heartbeatSend => none
  | .healthSend => none
  | .pairPartnerLost => none
  | .grantResend _ => none
  | .claimRelease => none
  | .compareTrigger _ _ => none
  | .ppsInEdge _ => none
  | .ppsOutSecond _ => none
  | .timeReqSend _ => none
  | .timeReq _ _ _ _ => none
  | .timeResp _ _ _ _ _ _ => none
  | .timeServo _ => none
  | .timeLost => none
  | .switchQualified _ _ => none
  | .switchSetBad _ => none
  | .profileUpdate _ => none
  | .holdDelay _ => none
  | .chopperTransition _ _ _ => none
  | .coilFault _ _ _ => none
  | .encSignalRestored _ => none
  | .relayTransition _ => none
  | .camConnectionReset _ => none
  | .characterLock _ _ => none
  | .camBootstrapReply _ _ => none
  | .camWriteAck _ => none
  | .camWriteFail _ _ => none
  | .camLockLoss _ => none
  | .streamPacket _ _ => none
  | .cameraLine _ _ _ => none
  | .frameTimeout _ => none
  | .timeModeLine _ => none
  | .compressorToken _ => none
  | .statsRecordProcess _ => none
  | .nozzleReportLost _ _ => none
  | .healthMapPersist => none
  | .calTimeout _ => none
  | .calProcedureEnd _ _ => none
  | .patrolScrubBurst _ => none
  | .dqsDriftUpdate _ => none
  | .refreshRateRead _ => none
  | .selftestBackground _ => none
  | .engineSlice _ _ => none
  | .switchRawChange _ _ => none
  | .selftestRunEnd _ => none
  | .drivingBegins => none
  | .ppsOutPulseEnd => none
  | .docketReadCompletion _ _ _ => none

/-- The frame, block or record that a command carries has the length its format gives: headers of 8 words (R75), reports of at least
3 (R443), route chunks of 65 (R448), bulk frames of 1 to 256 (R453), health reports of 8 (R473); a register of BAR0 is written
at a multiple of its width (R509); a read completion brings data (R80). -/
def Instr.payloadWf (i : Instr) : Bool :=
  match i with
  | .echo _ => true
  | .version _ => true
  | .info _ => true
  | .eventMask _ => true
  | .pageCommit _ => true
  | .pageCancel _ => true
  | .pageDelete _ => true
  | .pageAbort _ => true
  | .pageStatus _ => true
  | .pageDefects _ => true
  | .fallbackSet _ => true
  | .printStart _ => true
  | .printStop _ => true
  | .waveLoad _ => true
  | .parcelLoad _ => true
  | .layerDelete _ => true
  | .parcelTimeout _ => true
  | .storeInfo _ => true
  | .generatorDefine _ => true
  | .generatorDelete _ => true
  | .cameraConfig _ => true
  | .cameraCommit _ => true
  | .statsRead _ => true
  | .statsRelease _ => true
  | .tapRead _ => true
  | .tapRelease _ => true
  | .healthRead _ => true
  | .healthForce _ => true
  | .healthConfig _ => true
  | .nozzleReport _ => true
  | .axisConfig _ => true
  | .move _ => true
  | .stop _ => true
  | .home _ => true
  | .encoderConfig _ => true
  | .sluiceConfig _ => true
  | .triggerConfig _ => true
  | .governorConfig _ => true
  | .fabricConfig _ => true
  | .peerPost _ => true
  | .peerClose _ => true
  | .bulkOffer _ => true
  | .pairConfig _ => true
  | .riderConfig _ => true
  | .claimGrant _ => true
  | .swap _ => true
  | .timeConfig _ => true
  | .triggerArm _ => true
  | .triggerDisarm _ => true
  | .timeStep _ => true
  | .ppsSecond _ => true
  | .identityRead _ => true
  | .sessionOpen _ => true
  | .sessionClose _ => true
  | .pairKeyEstablish _ => true
  | .serialJobOpen _ => true
  | .serialJobClose _ => true
  | .logExport _ => true
  | .logRelease _ => true
  | .fwActivate _ => true
  | .lifecycleSet _ => true
  | .debugUnlock _ => true
  | .provision _ => true
  | .calNozzle _ => true
  | .calDensity _ => true
  | .calEncTrim _ => true
  | .calChopper _ => true
  | .calCancel _ => true
  | .laneControl _ => true
  | .loopback _ => true
  | .selftestRun _ => true
  | .countersRead _ => true
  | .powerState _ => true
  | .memoryInfo _ => true
  | .hmbInPost _ _ => true
  | .hmbOutRead _ => true
  | .hostReset _ => true
  | .irqMaskWrite _ => true
  | .axisLatchRead _ => true
  | .laneErrRead _ _ => true
  | .registerWrite o w _ => o.toNat % (if w then 8 else 4) == 0
  | .firmwareTakesWord _ => true
  | .engineChannelPost _ _ => true
  | .supplyMonitorReset => true
  | .resetN => true
  | .perstN => true
  | .functionLevelReset => true
  | .pciePowerState _ => true
  | .commandedReset => true
  | .bootStageDone r => r.wf
  | .watchdogExpiry => true
  | .watchdogReset a b => a.all ImageRead.wf && b.all ImageRead.wf
  | .fatalFault _ => true
  | .firePllRelock => true
  | .dormantEntry => true
  | .dormantExit => true
  | .parcelSlotStart => true
  | .parcelHeaderArrival _ h => h.length == 8
  | .parcelCompletion _ r => match r with | .data ws => !ws.isEmpty | .error => true
  | .parcelTimerExpiry _ => true
  | .parcelTagCheck _ => true
  | .parcelPublish _ => true
  | .parcelMirror => true
  | .pagePreparation _ _ => true
  | .blockFetchDone _ _ _ _ => true
  | .engineEdgeExchange _ => true
  | .engineBandHandover _ => true
  | .mapperWriteDone => true
  | .encoderAdcSample _ _ _ => true
  | .quadratureTransition _ _ _ => true
  | .indexEvent _ _ => true
  | .trackingLoopUpdate _ _ => true
  | .restEntry => true
  | .lineBoundary _ => true
  | .markMissPulseEnd _ => true
  | .productDetect _ => true
  | .keepWetTickle _ => true
  | .holdLimitExpiry => true
  | .statusSend => true
  | .latProbeSend _ _ => true
  | .latProbeTimeout _ _ => true
  | .latEcho _ _ _ => true
  | .alive _ _ => true
  | .aliveTimeout _ => true
  | .lineAck _ _ => true
  | .temp _ _ => true
  | .hdEvent _ _ => true
  | .caps _ _ _ => true
  | .waveLoadSend _ => true
  | .waveAck _ _ => true
  | .waveAckTimeout _ => true
  | .receiverDetectPulse _ _ => true
  | .trainingBlock _ _ _ _ => true
  | .cdrLock _ => true
  | .laneStateTimeout _ => true
  | .electricalIdle _ => true
  | .backoffWaitEnd _ => true
  | .blockLockLoss _ => true
  | .laneErrors _ _ => true
  | .loopbackEnd _ _ => true
  | .jtagInstruction _ => true
  | .fabricFrame _ f => f.wf
  | .credit _ _ => true
  | .creditSend _ => true
  | .fabricCaps _ _ _ => true
  | .announce _ _ _ _ => true
  | .announceSend => true
  | .electionSettled => true
  | .fabricNoRoot => true
  | .report _ ws => decide (3 ≤ ws.length)
  | .routeCompute => true
  | .assign _ _ _ => true
  | .routes ws => ws.length == 65
  | .routesAck _ _ => true
  | .routesResend => true
  | .mailboxOpen _ _ => true
  | .mailboxWord _ _ _ => true
  | .mailboxAck _ _ => true
  | .mailboxClose _ _ => true
  | .mailboxResend _ => true
  | .channelIdle _ => true
  | .encEvent _ _ _ => true
  | .bulk _ ws => decide (1 ≤ ws.length ∧ ws.length ≤ 256)
  | .governorMessage _ _ => true
  | .governorMessageSend => true
  | .governorPeerLost _ => true
  | .spdlimPeriod => true
  | .holdReqRelease => true
  | .heartbeat _ _ _ _ _ _ => true
  | .scheduleRecord _ _ _ _ _ _ => true
  | .grant _ _ _ _ _ _ => true
  | .accept _ _ _ _ _ _ => true
  | .health _ _ ws => ws.length == 8
  | .heartbeatSend => true
  | .healthSend => true
  | .pairPartnerLost => true
  | .grantResend _ => true
  | .claimRelease => true
  | .compareTrigger _ _ => true
  | .ppsInEdge _ => true
  | .ppsOutSecond _ => true
  | .timeReqSend _ => true
  | .timeReq _ _ _ _ => true
  | .timeResp _ _ _ _ _ _ => true
  | .timeServo _ => true
  | .timeLost => true
  | .switchQualified _ _ => true
  | .switchSetBad _ => true
  | .profileUpdate _ => true
  | .holdDelay _ => true
  | .chopperTransition _ _ _ => true
  | .coilFault _ _ _ => true
  | .encSignalRestored _ => true
  | .relayTransition _ => true
  | .camConnectionReset _ => true
  | .characterLock _ _ => true
  | .camBootstrapReply _ _ => true
  | .camWriteAck _ => true
  | .camWriteFail _ _ => true
  | .camLockLoss _ => true
  | .streamPacket _ _ => true
  | .cameraLine _ _ _ => true
  | .frameTimeout _ => true
  | .timeModeLine _ => true
  | .compressorToken _ => true
  | .statsRecordProcess _ => true
  | .nozzleReportLost _ _ => true
  | .healthMapPersist => true
  | .calTimeout _ => true
  | .calProcedureEnd p m => measureFits p m
  | .patrolScrubBurst _ => true
  | .dqsDriftUpdate _ => true
  | .refreshRateRead _ => true
  | .selftestBackground r => r.fits
  | .engineSlice _ _ => true
  | .switchRawChange _ _ => true
  | .selftestRunEnd r => r.fits
  | .drivingBegins => true
  | .ppsOutPulseEnd => true
  | .docketReadCompletion _ _ _ => true

/-- A command is well formed: its command word and docket, and whatever else it carries. -/
def Instr.wf (i : Instr) : Bool := i.cmd?.all Cmd.wf && i.payloadWf

end Sys2Proof
end

