-- ==== Sys2Proof/Safety.lean ====
section
/-!
DEFINITION. What counts as a safe run, in the terms the claims use: when a command word runs, when the device prints, and what no step
may undo. No step of this machine stops: safety is what the states keep, not the absence of faults.
-/

namespace Sys2Proof.Machine

/-- The state in which the own effect of a running command begins: it has left its channel's storage, a power state that gates what it
needs has been left (R517, R614), and what it reads of the page store has been read (R587). -/
def State.begun (s : State) (opcode : Byte) (c : Cmd) : State :=
  let t := (s.start c).wakeFor opcode
  if readsObjects opcode then (t.readBursts (regionReads 3 c.reads ++ regionReads 5 c.reads)).1 else t

/-- The bursts that a running command's reads of the page store lose (R587). -/
def State.lostReads (s : State) (opcode : Byte) (c : Cmd) : List (BitVec 30) :=
  if readsObjects opcode then
    (((s.start c).wakeFor opcode).readBursts (regionReads 3 c.reads ++ regionReads 5 c.reads)).2
  else []

/-- A command word runs: its session is alive (R526), firmware serves it (R606, R607), DORMANT does not hold it back (R523), the checks
of R536 pass, and what it reads of the page store is good (R587). -/
structure Runs (s : State) (opcode : Byte) (docket secure : Bool) (c : Cmd) : Prop where
  live     : s.live c.origin = true
  serves   : s.serves = true
  awake    : s.sys.power = .dormant → servedDormant opcode = true
  admitted : s.precheck opcode docket secure c = none
  readable : s.lostReads opcode c = []

/-- A row of the group tables: OPCODE, whether ARG is a docket address, whether the row is marked S, and the command. -/
abbrev CommandRow := Byte × Bool × Bool × (Cmd → Instr)

/-- The rows of the group tables: OPCODE, whether ARG is a docket address, whether the row is marked S, and the command (R536 and the group
tables of 19_narman_command_reference.md). -/
def commandRows : List CommandRow :=
  ([(0x00, false, false, Instr.echo), (0x01, false, false, Instr.version), (0x02, true, false, Instr.info), (0x03, false, false, Instr.eventMask),
    (0x10, false, false, Instr.pageCommit), (0x11, false, false, Instr.pageCancel), (0x12, false, false, Instr.pageDelete),
    (0x13, false, false, Instr.pageAbort)] : List CommandRow) ++
  ([(0x14, true, false, Instr.pageStatus), (0x15, true, false, Instr.pageDefects), (0x16, false, false, Instr.fallbackSet),
    (0x18, false, false, Instr.printStart), (0x19, false, false, Instr.printStop), (0x1A, true, false, Instr.waveLoad),
    (0x30, true, false, Instr.parcelLoad), (0x31, false, false, Instr.layerDelete)] : List CommandRow) ++
  ([(0x32, false, false, Instr.parcelTimeout), (0x33, false, false, Instr.storeInfo), (0x35, true, true, Instr.generatorDefine),
    (0x36, false, false, Instr.generatorDelete), (0x40, true, false, Instr.cameraConfig), (0x41, false, false, Instr.cameraCommit),
    (0x42, true, false, Instr.statsRead), (0x43, false, false, Instr.statsRelease)] : List CommandRow) ++
  ([(0x44, true, false, Instr.tapRead), (0x45, false, false, Instr.tapRelease), (0x46, true, false, Instr.healthRead),
    (0x47, false, false, Instr.healthForce), (0x48, true, false, Instr.healthConfig), (0x49, false, false, Instr.nozzleReport),
    (0x50, true, false, Instr.axisConfig), (0x51, true, false, Instr.move)] : List CommandRow) ++
  ([(0x52, false, false, Instr.stop), (0x53, false, false, Instr.home), (0x60, true, false, Instr.encoderConfig),
    (0x61, true, false, Instr.sluiceConfig), (0x62, true, false, Instr.triggerConfig), (0x63, true, false, Instr.governorConfig),
    (0x70, true, false, Instr.fabricConfig), (0x71, true, false, Instr.peerPost)] : List CommandRow) ++
  ([(0x72, false, false, Instr.peerClose), (0x73, false, false, Instr.bulkOffer), (0x80, true, false, Instr.pairConfig),
    (0x81, true, false, Instr.riderConfig), (0x82, true, true, Instr.claimGrant), (0x83, false, false, Instr.swap),
    (0x90, true, false, Instr.timeConfig), (0x91, true, false, Instr.triggerArm)] : List CommandRow) ++
  ([(0x92, false, false, Instr.triggerDisarm), (0x93, true, false, Instr.timeStep), (0x94, false, false, Instr.ppsSecond),
    (0xA0, true, false, Instr.identityRead), (0xA1, true, false, Instr.sessionOpen), (0xA2, false, false, Instr.sessionClose),
    (0xA3, false, true, Instr.pairKeyEstablish), (0xA4, true, true, Instr.serialJobOpen)] : List CommandRow) ++
  ([(0xA5, false, true, Instr.serialJobClose), (0xA6, true, false, Instr.logExport), (0xA7, false, false, Instr.logRelease),
    (0xA8, false, true, Instr.fwActivate), (0xA9, false, true, Instr.lifecycleSet), (0xAA, false, true, Instr.debugUnlock),
    (0xAB, true, false, Instr.provision), (0xC0, false, false, Instr.calNozzle)] : List CommandRow) ++
  ([(0xC1, false, false, Instr.calDensity), (0xC2, false, false, Instr.calEncTrim), (0xC3, false, false, Instr.calChopper),
    (0xCF, false, false, Instr.calCancel), (0xD0, false, false, Instr.laneControl), (0xD1, false, false, Instr.loopback),
    (0xD2, false, false, Instr.selftestRun), (0xD3, true, false, Instr.countersRead)] : List CommandRow) ++
  ([(0xE0, false, false, Instr.powerState), (0xE1, false, false, Instr.memoryInfo)] : List CommandRow)

/-- The state at the end of a step in which a command is answered (R533). -/
def State.reply (s : State) (c : Cmd) (opcode : Byte) (st : Code) (result : BitVec 40) : State :=
  (s.answer c opcode st result).settle

/-- A result buffer named by docket words i and i + 1 takes a block: address and length as R538 asks, room for it, and every write
completes (R514). -/
structure Writes (c : Cmd) (i : Nat) (block : List Word) : Prop where
  aligned : bufferBad (c.dw i) (c.dw (i + 1)) = false
  room    : blockBytes block ≤ bits (c.dw (i + 1)) 31 0
  written : c.writeFail = none

/-- The entries of a settings docket pass both passes of R541 from a state. -/
structure Passes (T : Settings) (s : State) (c : Cmd) (es : List Entry) : Prop where
  parsed : parseEntries T.isTable c = some es
  valid  : ∀ e ∈ es, T.check s e = none
  whole  : ∀ e ∈ es, T.whole (es.foldl T.apply s) e = none
  free   : ∀ e ∈ es, T.busy s e = none

/-- No event of a finished step waits to be queued (R647). -/
abbrev State.quiet (s : State) : Prop := s.host.batch = []

/-- A step never goes back in the lifecycle (R554). -/
abbrev lifecycleKept (s t : State) : Prop := s.sec.lifecycle.toNat ≤ t.sec.lifecycle.toNat

end Sys2Proof.Machine
end

