-- ==== Sys2Proof/Certificates/Slice0/Obligations.lean ====
section
/-! DEFINITION. The statements for the provers, one `Prop` each, in the order of OBLIGATIONS.json. -/

open Sys2Proof Sys2Proof.Machine

/-! ### The whole machine -/

/-- A step takes the command at the front of the queue and is its execution on the state with the queue's rest. The queue of waiting
commands is the model's own (log 8). -/
def Obligations.StepRunsTheFrontCommand : Prop :=
  ∀ (s : State) (c : Instr) (rest : List Instr), step { s with pending := c :: rest } = exec c { s with pending := rest }

/-- With no command waiting, a step is one cycle of the fire clock: the raw counter advances by 1 while the fire-domain PLL is locked and
holds otherwise (R492); that such a step is the idle step is the model's choice (log 1). -/
def Obligations.EmptyQueueCountsTheClock : Prop :=
  ∀ (s : State), s.pending = [] → ∃ t : State, step s = .next t ∧
    t.time.raw = (if s.time.locked then s.time.raw + 1 else s.time.raw) ∧ t = { s with time := { s.time with raw := t.time.raw } }

/-- Right after reset nothing waits, printing is stopped, no map, page or layer is held, the timebase stands at 0, the unit is in no pair,
the lifecycle is that of manufacture, and the invariants of the machine hold (R59, R103, R492, R506, R511, R516, R553). The lifecycle of a
device no one has provisioned is the model's choice of a device as it is made (log 26). -/
def Obligations.ResetLeavesTheMachineAtRest : Prop :=
  State.reset.pending = [] ∧ State.reset.quiet ∧ State.reset.print.started = false ∧ State.reset.print.queue = [] ∧
  State.reset.store.pages = [] ∧ State.reset.store.layers = [] ∧ State.reset.mapper.inForce = none ∧ State.reset.time.raw = 0 ∧
  State.reset.time.offset = 0 ∧ State.reset.time.rate = 0 ∧ State.reset.time.locked = false ∧ State.reset.pair.paired = false ∧
  State.reset.pair.claim = 0 ∧ State.reset.sec.lifecycle = 0 ∧ (∀ n : Chan, State.reset.host.channels[n].outQ = []) ∧
  (∀ l : LaneNo, State.reset.lanes.lanes[l].st = .down)

/-- No step stops: each answers a next state, and leaves no event of its own unqueued (R534, R647). -/
def Obligations.EveryStepCompletesAndQueuesItsEvents : Prop :=
  ∀ s : State, s.quiet → ∃ t : State, step s = .next t ∧ t.quiet

/-- A step takes one command from the front of the queue and puts none into it. The queue of waiting commands is the model's own (log 8).
-/
def Obligations.StepsTakeOneCommandEach : Prop :=
  ∀ s t : State, step s = .next t → t.pending = s.pending.tail

/-- The lifecycle and the anti-rollback counter only advance, and the fused hashes never change, whatever command runs (R553, R555, R557,
R558). -/
def Obligations.FusesNeverGoBack : Prop :=
  ∀ s t : State, step s = .next t → lifecycleKept s t ∧ s.sec.svn ≤ t.sec.svn ∧ t.sec.imageKey = s.sec.imageKey ∧ t.sec.caKey = s.sec.caKey

/-- The checks of R536 that come before a command's own stand in their order for every command word, each with its status and no other
effect; a word of an ended session, or one firmware does not serve, does nothing (R469, R514, R526, R536, R554, R565, R606). Which
commands a device in DORMANT or with its boot stopped serves is read in log 38 and R606. -/
def Obligations.EveryCommandIsCheckedInOrder : Prop :=
  ∀ row ∈ commandRows, ∀ (s : State) (c : Cmd), (row.1 = 0xA6 → s.sec.exportCtx = none) →
    let op := row.1
    let docket := row.2.1
    let secure := row.2.2.1
    let no (st : Code) (r : Nat) : Prop := exec (row.2.2.2 c) s = .next ((s.start c).reply c op st (low40 r))
    (s.quiet → (s.live c.origin = false ∨ s.serves = false ∨ (s.sys.power = .dormant ∧ servedDormant op = false)) →
      exec (row.2.2.2 c) s = .next s) ∧
    (s.live c.origin = true → s.serves = true → (s.sys.power = .dormant → servedDormant op = true) →
      (s.sys.stopped = true → servedWhenStopped op c = false → no .bootIncomplete s.sys.stage) ∧
      (s.sys.stopped = false →
        let carried : Prop := secure = true → s.sec.lifecycle ≠ 3 ∧ secureOrigin c.origin = true
        let refused : Prop := s.noClaim = true ∧ (0x10 ≤ op.toNat ∧ op.toNat ≤ 0x3F) ∧ op ≠ 0x30 ∧ c.origin ≠ .parcel .mirror
        (c.docketFlag ≠ docket → no .argBad 0) ∧
        (c.docketFlag = docket → secure = true → s.sec.lifecycle = 3 → op ≠ 0xAA → no .lifecycleDenied 0) ∧
        (c.docketFlag = docket → secure = true → s.sec.lifecycle ≠ 3 → secureOrigin c.origin = false → no .secureRequired 0) ∧
        (c.docketFlag = docket → carried → refused → no .pairStandby 0) ∧
        (c.docketFlag = docket → carried → ¬ refused → docket = true → (∃ n k, c.origin = .host n k) → s.host.busMaster = false →
          no .busMasterOff 0) ∧
        (c.docketFlag = docket → carried → ¬ refused → docket = true → (∃ n k, c.origin = .peer n k) → no .hostDmaError c.arg.toNat)))

/-- A response of a live session enters its channel's queue with OPCODE, TAG, STATUS and RESULT in their places, after the events before
it; an event enters every channel whose mask admits its class, is counted as lost where a queue is full, and on no other (R521, R533 to
R535). -/
def Obligations.ResponsesAndEventsEnterTheirQueues : Prop :=
  (∀ (op : Byte) (tag : BitVec 5) (st : Code) (r : BitVec 40),
    let w := responseWord op tag st r
    bits w 63 56 = op.toNat ∧ bits w 55 51 = tag.toNat ∧ bitAt w 50 = false ∧ bits w 49 40 = st.num ∧ bits w 39 0 = r.toNat) ∧
  (∀ (e : Code) (d : BitVec 40),
    let w := eventWord (e, d)
    bits w 63 56 = e.cls ∧ bits w 55 51 = 0 ∧ bitAt w 50 = true ∧ bits w 49 40 = e.num ∧ bits w 39 0 = d.toNat) ∧
  (∀ (s : State) (n : Chan) (k : Byte) (op : Byte) (tag : BitVec 5) (st : Code) (r : BitVec 40), s.quiet →
    let t := s.respond (.host n k) op tag st r
    (s.hostLink = false ∨ s.host.channels[n].session ≠ k → t = s) ∧
    (s.hostLink = true → s.host.channels[n].session = k → t.host.channels[n].outQ = s.host.channels[n].outQ ++ [responseWord op tag st r] ∧
      t.host.channels[n].running = s.host.channels[n].running.erase tag ∧
      (∀ m : Chan, m ≠ n → t.host.channels[m] = s.host.channels[m]) ∧ t.print = s.print ∧ t.fab = s.fab)) ∧
  (∀ (s : State) (e : Code) (d : BitVec 40) (n : Chan),
    let h := s.host.channels[n]
    let t := s.eventHost (e, d) n
    (s.hostLink = false ∨ h.mask.getLsbD e.cls = false → t = s) ∧
    (s.hostLink = true → h.mask.getLsbD e.cls = true → h.dropped = 0 → h.outQ.length < 224 → t.host.channels[n].outQ = h.outQ ++ [eventWord (e, d)] ∧
      t.host.channels[n].dropped = 0) ∧
    (s.hostLink = true → h.mask.getLsbD e.cls = true → 0 < h.dropped → h.outQ.length < 223 → t.host.channels[n].outQ =
      h.outQ ++ [eventWord (.eventsLost, low40 (min h.dropped 65535)), eventWord (e, d)] ∧ t.host.channels[n].dropped = 0) ∧
    (s.hostLink = true → h.mask.getLsbD e.cls = true → (224 ≤ h.outQ.length ∨ 0 < h.dropped ∧ 223 ≤ h.outQ.length) → t.host.channels[n].outQ = h.outQ ∧
      t.host.channels[n].dropped = h.dropped + 1 ∧ t.host.channels[n].evtOvf = true ∧
      t.host.channels[n].evtLost = min 65535 (h.evtLost + 1)) ∧
    (∀ m : Chan, m ≠ n → t.host.channels[m] = s.host.channels[m])) ∧
  (∀ (s : State) (e : Code) (d : BitVec 40), (s.standby = false ∨ e.cls ≠ 1) →
    (s.raise e d).host.batch = s.host.batch ++ [(e, d)] ∧ (s.raise e d).fab = s.fab ∧ (s.raise e d).print = s.print)

/-! ### System, mailboxes and registers -/

/-- ECHO, VERSION and MEMORY_INFO answer OK with the fields their rows give (R545). INFO and COUNTERS_READ write their blocks, padded to
64 bytes, and answer the length (R538, R545, R596, R621). EVENT_MASK sets the class mask of the channel it came on and answers with the
mask before (R535, R545). What EVENT_MASK does in a parcel of no session channel is the model's reading (log 56). -/
def Obligations.SystemCommandsAnswerTheirResults : Prop :=
  (∀ (s : State) (c : Cmd),
     (Runs s 0x00 false false c → exec (.echo c) s = .next ((s.start c).reply c 0x00 .ok (c.arg.setWidth 40))) ∧
     (∀ i, s.sys.image = some i → Runs s 0x01 false false c →
       exec (.version c) s = .next ((s.start c).reply c 0x01 .ok (pack40 [0xB0, fld 8 8 i.minor, fld 16 8 i.major,
         fld 24 8 s.sys.kernelSet, fld 32 2 s.sec.lifecycle.toNat]))) ∧
     (Runs s 0xE1 false false c → exec (.memoryInfo c) s =
       .next ((s.start c).reply c 0xE1 .ok (pack40 [fld 0 8 s.sys.dramGB, fld 8 24 s.sys.layerStoreMiB])))) ∧
  (∀ (s : State) (c : Cmd),
     (∀ b block, s.sys.board = some b →
       block = [s.fab.id, s.lanes.boardId.setWidth 64, BitVec.ofNat 64 s.sys.dramBytes,
         word [b2n b.g6Fabric, fld 1 1 (b2n b.g7Fabric), fld 2 1 (b2n b.x4)], b.laneFitted] →
       Runs s 0x02 true false c → Writes c 0 block →
       exec (.info c) s = .next (((s.start c).emit (.hostWrite (c.dw 0) (pad64 block))).reply c 0x02 .ok (low40 (blockBytes block)))) ∧
     (∀ block, block = s.sys.sramErrors.toList.map (fun n => BitVec.ofNat 64 n) ++ [BitVec.ofNat 64 s.sys.otherSram,
         BitVec.ofNat 64 s.dram.corrected, BitVec.ofNat 64 s.dram.uncorrected, s.sys.summary, 0, 0, 0, 0] →
       Runs s 0xD3 true false c → Writes c 0 block →
       exec (.countersRead c) s =
         .next (((s.start c).emit (.hostWrite (c.dw 0) (pad64 block))).reply c 0xD3 .ok (low40 (blockBytes block))))) ∧
  (∀ (s : State) (c : Cmd), Runs s 0x03 false false c →
     match c.origin with
     | .host n _ | .parcel (.session n) => exec (.eventMask c) s =
         .next (((s.start c).setChan n (fun h => { h with mask := c.arg.setWidth 16 })).reply c 0x03 .ok
           ((s.host.channels[n].mask).setWidth 40))
     | .peer n _ => ∀ k, s.fab.chanOf n = some k → exec (.eventMask c) s =
         .next (((s.start c).setFabChan n (fun k => { k with mask := c.arg.setWidth 16 })).reply c 0x03 .ok (k.mask.setWidth 40))
     | .parcel _ => exec (.eventMask c) s = .next ((s.start c).reply c 0x03 .ok 0))

/-- POWER_STATE orders RUN and IDLE at once, answered with the state before, and puts an order of DORMANT in front of the entry; it is
refused while printing is started and while a paired unit holds a claim (R614). -/
def Obligations.PowerStateChangesOrWaits : Prop :=
  ∀ (s : State) (c : Cmd), Runs s 0xE0 false false c →
    (c.arg.extractLsb' 0 2 = 3 → exec (.powerState c) s = .next ((s.start c).reply c 0xE0 .argBad 0)) ∧
    (c.arg.extractLsb' 0 2 ≠ 0 → c.arg.extractLsb' 0 2 ≠ 3 → (s.print.started = true ∨ (s.pair.paired = true ∧ s.pair.claim ≠ 0)) →
      exec (.powerState c) s = .next ((s.start c).reply c 0xE0 .printActive 0)) ∧
    (∀ p, (c.arg.extractLsb' 0 2 = 0 ∧ p = Power.run ∨ c.arg.extractLsb' 0 2 = 1 ∧ p = Power.idle) →
      s.print.started = false → (s.pair.paired = false ∨ s.pair.claim = 0) → s.asleep = false →
      (p = s.sys.power → exec (.powerState c) s = .next ((s.start c).reply c 0xE0 .ok (pack40 [p.code]))) ∧
      (p ≠ s.sys.power → exec (.powerState c) s =
        .next ((({ s.start c with sys := { s.sys with power := p } }).raise .powerStateChanged
          (pack40 [fld 0 2 p.code, fld 2 2 s.sys.power.code, fld 4 2 0])).reply c 0xE0 .ok (pack40 [s.sys.power.code])))) ∧
    (c.arg.extractLsb' 0 2 = 2 → s.print.started = false → (s.pair.paired = false ∨ s.pair.claim = 0) →
      exec (.powerState c) s = .next (State.settle { s.start c with sys := { s.sys with
        entering := s.sys.entering ++ [{ origin := c.origin, tag := c.tag }] } }))

/-- SELFTEST_RUN takes a test of R616 in its order, and test 15 in a parcel that may reset the device orders the reset (R603, R617). A
commanded test that ends is answered with its result word and kept; a background test that fails raises SELFTEST_ERROR and stands as a
fault; an engine slice that matches counts, and 256 of them make a pass (R617 to R621). The instant at which PRINT_ACTIVE is judged is the
model's reading (log 45). -/
def Obligations.SelftestsRunAndEnd : Prop :=
  (∀ (s : State) (c : Cmd), Runs s 0xD2 false false c →
     (∀ t : Fin 16, 1 ≤ t.val → t.val ≤ 6 → c.arg.extractLsb' 0 4 = BitVec.ofNat 4 t.val →
       (s.print.started = false ∨ s.pair.paired = false ∨ s.pair.st ≠ .active) →
       exec (.selftestRun c) s = .next (State.settle (({ s.begun 0xD2 c with sys := { (s.begun 0xD2 c).sys with
         tests := s.sys.tests ++ [⟨t, c.origin, c.tag, (s.begun 0xD2 c).testUnits t.val⟩] } } : State).testLanes t.val))) ∧
     (c.arg.extractLsb' 0 4 = 15 → ((∃ ch, c.origin = .parcel (.session ch)) ∨ c.origin = .parcel .offered) →
       ∃ t : State, exec (.selftestRun c) s = .next t ∧ t.sys.resetDue = true) ∧
     (c.arg.extractLsb' 0 4 = 15 → (∀ ch, c.origin ≠ .parcel (.session ch)) → c.origin ≠ .parcel .offered →
       exec (.selftestRun c) s = .next ((s.begun 0xD2 c).reply c 0xD2 .secureRequired 0))) ∧
  ((∀ (s : State) (r : TestRun) (w : TestWait), s.sys.tests.find? (fun w => w.test == r.test) = some w →
       vddOk r = true → sysclkOk r = true → w.units ≠ [] → ∀ h : 1 ≤ r.test.val ∧ r.test.val ≤ 6,
       ∃ t : State, exec (.selftestRunEnd r) s = .next t ∧ t.sys.tests = s.sys.tests.erase w ∧
         t.sys.outcomes[r.test.val - 1] = (if failingUnits r w.units ≠ [] then 2 else 1) ∧
         t.sys.fails = (if failingUnits r w.units ≠ [] then min 65535 (s.sys.fails + 1) else s.sys.fails) ∧ t.mapper = s.mapper) ∧
   (∀ (s : State) (r : TestRun) (h : r.test.val = 2 ∨ r.test.val = 6), s.testRuns r.test.val = true → vddOk r = true → sysclkOk r = true →
       ∃ t : State, exec (.selftestBackground r) s = .next t ∧
         t.sys.outcomes[r.test.val - 1] = (if failingUnits r (s.testUnits r.test.val) ≠ [] then 2 else 1) ∧
         t.sys.testFault = (decide (failingUnits r (s.testUnits r.test.val) ≠ []) || s.sys.testFault) ∧ t.print = s.print) ∧
   (∀ (s : State) (k : EngineNo), s.eng.engines[k].busy = none → s.cist.w1 ≤ s.cist.lead → s.testRuns 2 = true → s.sys.power = .run →
       s.sys.stage = 7 → ∃ t : State, exec (.engineSlice k true) s = .next t ∧
         (s.sys.slices[k] + 1 < 256 → t.sys.slices[k] = s.sys.slices[k] + 1 ∧ t.sys.passes = s.sys.passes) ∧
         (256 ≤ s.sys.slices[k] + 1 → t.sys.slices[k] = 0 ∧ t.sys.passes[k] = min 65535 (s.sys.passes[k] + 1)) ∧ t.eng = s.eng))

/-- A posted word fills HMB_IN and counts as outstanding, a read of HMB_OUT takes the oldest word or gives EMPTY, and each leaves
everything else as it was; of two words posted one after the other one is lost, and which one is free (R5, R6, R516, R518, R520, log 5).
Writes and takes of registers: IRQ_MASK takes its value, IRQ_PENDING clears the bits written 1, a write to a register that takes none has
no effect, and reads of an axis latch and of lane error counters give the register and consume it (R355, R425, R509, R528). -/
def Obligations.MailboxAndRegisterAccesses : Prop :=
  ((∀ (s : State) (ch : Chan) (w : Word), s.quiet → s.bar0 = true → s.asleep = false → s.host.channels[ch].inWord = none →
     exec (.hmbInPost ch w) s = .next (s.setChan ch (fun h => { h with
       inWord := some w, outstanding := h.outstanding ++ [(w.extractLsb' 51 5, w.extractLsb' 56 8)] }))) ∧
   (∀ (s : State) (ch : Chan) (v w : Word), s.quiet → s.bar0 = true → s.asleep = false → s.host.channels[ch].inWord = some v →
     ∃ t : State, exec (.hmbInPost ch w) s = .next t ∧
       (t.host.channels[ch].inWord = some v ∨ t.host.channels[ch].inWord = some w) ∧ t.print = s.print ∧ t.sec = s.sec ∧ t.pair = s.pair) ∧
   (∀ (s : State) (ch : Chan) (w : Word) (ws : List Word), s.quiet → s.bar0 = true → s.host.channels[ch].outQ = w :: ws →
     exec (.hmbOutRead ch) s = .next ((s.emit (.readReturn (0x1008 + 0x40 * ch.val) w)).setChan ch (fun h => { h with
       outQ := ws
       outstanding := if w.getLsbD 50 then h.outstanding else h.outstanding.erase (w.extractLsb' 51 5, w.extractLsb' 56 8) }))) ∧
   (∀ (s : State) (ch : Chan), s.quiet → s.bar0 = true → s.host.channels[ch].outQ = [] →
     exec (.hmbOutRead ch) s = .next (s.emit (.readReturn (0x1008 + 0x40 * ch.val) 0xFFFFFFFFFFFFFFFF)))) ∧
  ((∀ (s : State) (v : Word), s.quiet → s.bar0 = true → ∃ t : State, exec (.irqMaskWrite v) s = .next t ∧
     t.host.irqMask = v.setWidth 19 ∧ t.host.irqPending = s.host.irqPending ∧ t.host.channels = s.host.channels ∧ t.print = s.print) ∧
   (∀ (s : State) (v : Word), s.quiet → s.bar0 = true → exec (.registerWrite 0x800 true v) s =
     .next { s with host := { s.host with irqPending := s.host.irqPending &&& ~~~(v.setWidth 19) } }) ∧
   (∀ (s : State) (o : BitVec 16) (v : Word), s.quiet → s.bar0 = true → o.toNat % 8 = 0 →
     (o.toNat < 0xD0 ∨ 0x400 ≤ o.toNat ∧ o.toNat < 0x800 ∨ 0x2200 ≤ o.toNat) → exec (.registerWrite o true v) s = .next s) ∧
   (∀ (s : State) (ax : AxisNo), s.quiet → s.bar0 = true → exec (.axisLatchRead ax) s =
     .next ((s.emit (.readReturn (0x110 + 0x18 * ax.val) s.motion.axes[ax].latchWord)).setAxis ax (fun x => { x with latch := none }))) ∧
   (∀ (s : State) (n : LaneNo) (part : ReadPart), s.quiet → s.bar0 = true → ∃ t : State, exec (.laneErrRead n part) s = .next t ∧
     (part ≠ .high → t.lanes.lanes[n].codeErr = 0 ∧ t.lanes.lanes[n].lockLoss = 0) ∧
     (part ≠ .low → t.lanes.lanes[n].frameErr = 0 ∧ t.lanes.lanes[n].elastic = 0) ∧
     (part = .full → t.sent = .readReturn (0x408 + 0x10 * n.val) s.lanes.lanes[n].err :: s.sent) ∧
     (∀ m, m ≠ n → t.lanes.lanes[m] = s.lanes.lanes[m])))

/-- Firmware takes the posted word and clears IN_FULL: an assigned opcode enters the channel's storage, any other is answered
UNKNOWN_OPCODE behind the words that wait (R517, R536). A docket read brings its words, or ends the command with HOST_DMA_ERROR and the
failing address (R514). An engine's word waits for the Lockkeeper (R529). -/
def Obligations.FirmwareTakesWordsAndDockets : Prop :=
  (∀ (s : State) (ch : Chan) (w : Word), s.quiet → s.serves = true → s.host.channels[ch].inWord = some w →
    ∃ t : State, exec (.firmwareTakesWord ch) s = .next t ∧ t.host.channels[ch].inWord = none ∧
      t.host.channels[ch].outstanding = s.host.channels[ch].outstanding ∧
      (if (bits w 63 56) ∈ assignedOpcodes then
        t.host.channels[ch].taken = s.host.channels[ch].taken ++ [⟨w.extractLsb' 56 8, w.extractLsb' 51 5, w.getLsbD 48, w.extractLsb' 0 48, none⟩] ∧
        t.host.channels[ch].outQ = s.host.channels[ch].outQ
      else t.host.channels[ch].taken = s.host.channels[ch].taken ∧
        t.host.channels[ch].outQ = s.host.channels[ch].outQ ++ [responseWord (w.extractLsb' 56 8) (w.extractLsb' 51 5) .unknownOpcode 0])) ∧
  (∀ (s : State) (ch : Chan) (tag : BitVec 5) (u : TakenCmd) (r : DocketRead), s.quiet →
    s.host.channels[ch].taken.find? (fun t => t.tag == tag) = some u → s.readsDocket ch u = true →
    ∃ t : State, exec (.docketReadCompletion ch tag r) s = .next t ∧
      match r with
      | .words ws => t.host.channels[ch].taken.find? (fun t => t.tag == tag) = some { u with docket := some (u.docket.getD [] ++ ws) } ∧
          t.host.channels[ch].outQ = s.host.channels[ch].outQ
      | .error a => t.host.channels[ch].taken = s.host.channels[ch].taken.erase u ∧
          t.host.channels[ch].outQ = s.host.channels[ch].outQ ++ [responseWord u.opcode u.tag .hostDmaError (low40 (a.toNat / 64))]) ∧
  (∀ (s : State) (k : EngineNo) (w : Word), s.quiet → ∃ t : State, exec (.engineChannelPost k w) s = .next t ∧
    t.host.engineCh[k].toLockkeeper = some (s.host.engineCh[k].toLockkeeper.getD w) ∧
    t.host.engineCh[k].toEngine = s.host.engineCh[k].toEngine ∧ t.host.channels = s.host.channels)

/-- A host-end reset begins a new session: SESSION counts up, the word in HMB_IN stays, no command of the old session remains, and
MAILBOX_ABORTED is the first word of the new one (R524, R526). A Function Level Reset is a host-end reset of every channel that clears the
interrupt mask while printing continues; D3hot and D0 are entered without touching printing (R515). That a host-end reset keeps a word
posted before it is read in log 35. -/
def Obligations.ChannelResetsSparePrinting : Prop :=
  (∀ (s : State) (ch : Chan), s.quiet → s.bar0 = true →
     ∃ t : State, exec (.hostReset ch) s = .next t ∧ t.host.channels[ch].session = s.host.channels[ch].session + 1 ∧
       t.host.channels[ch].inWord = s.host.channels[ch].inWord ∧ t.host.channels[ch].taken = [] ∧ t.host.channels[ch].running = [] ∧
       t.host.channels[ch].outQ.head? = some (eventWord (.mailboxAborted, pack40 [fld 1 9 s.host.channels[ch].outQ.length,
         fld 10 6 (s.host.channels[ch].taken.length + s.host.channels[ch].running.length)])) ∧
       (s.host.channels[ch].outQ ≠ [] → t.host.channels[ch].aborted = true) ∧
       (s.sec.openWaits = [] → t.sec.sessions[ch] = none) ∧ t.print = s.print) ∧
  ((∀ s : State, s.quiet → s.endpoint = true → ∃ t : State, exec .functionLevelReset s = .next t ∧ t.host.irqMask = 0 ∧
     (∀ ch : Chan, t.host.channels[ch].session = s.host.channels[ch].session + 1 ∧
       t.host.channels[ch].inWord = s.host.channels[ch].inWord) ∧ t.print = s.print ∧ t.sluice = s.sluice) ∧
   (∀ (s : State) (d : Bool), s.endpoint = true → ∃ t : State, exec (.pciePowerState d) s = .next t ∧ t.host.d3hot = d ∧
     t.print = s.print ∧ t.sluice = s.sluice ∧ (d = true → s.quiet → t.sent = s.sent)))

/-! ### Pages and print -/

/-- PAGE_COMMIT of a page that passes the checks of R49 puts it at the end of the queue as COMMITTED, with its permitted rate and the bar
line of the commit; with SCHED it waits for its armed compare trigger (R49, R50, R168, R499, R545). The checks of PAGE_COMMIT stand in the
order of R545, R49, R573 and R587: the first that fails gives its status, and the command has no other effect than what reads of DRAM
count. -/
def Obligations.PageCommitChecksAndQueues : Prop :=
  (∀ (s : State) (c : Cmd) (id : PageId) (e : PageEntry), Runs s 0x10 false false c → id = c.arg.setWidth 32 →
     (c.arg.getLsbD 32 = false → s.store.page id = some e → e.state = .ready → (∀ f, s.print.fallback ≠ some (id, f)) →
       (∀ k, k < 16 → s.layerCount e.desc k ≤ 32) → s.print.queue.length < 1024 → s.slotShort e.desc = false →
       ((s.begun 0x10 c).readBursts ((s.begun 0x10 c).commitReads e c.reads)).2 = [] →
       (∀ q ∈ s.print.queue, q.desc.id ≠ id) →
       ∃ (u : State) (st : Code) (r : BitVec 40), exec (.pageCommit c) s = .next (u.reply c 0x10 st r) ∧ (st = .ok ∨ st = .lateCommit) ∧
         (s.print.started = false → st = .ok ∧ r = 0) ∧
         u.print.queue.map (fun q => (q.desc, q.rate)) = s.print.queue.map (fun q => (q.desc, q.rate)) ++ [(e.desc, (s.costCtx e.desc).rate)] ∧
         (u.print.queue.getLast?.bind (fun q => q.commitLine)) = (if s.print.started then some s.sluice.barLine else none) ∧
         (∀ x ∈ u.store.pages, x.desc.id = id → x.state = .committed)) ∧
     (c.arg.getLsbD 32 = true → s.time.triggers[Fin.ofNat 8 (c.argBits 35 33)].armed = true →
       ∃ u : State, exec (.pageCommit c) s = .next u.settle ∧
         u.print.sched = s.print.sched ++ [⟨Fin.ofNat 8 (c.argBits 35 33), id, c.origin, c.tag⟩] ∧ u.print.queue = s.print.queue)) ∧
  (∀ (s : State) (c : Cmd) (id : PageId), Runs s 0x10 false false c → id = c.arg.setWidth 32 → c.arg.getLsbD 32 = false →
     (s.store.page id = none → exec (.pageCommit c) s = .next ((s.begun 0x10 c).reply c 0x10 .notFound 0)) ∧
     (∀ e, s.store.page id = some e →
       (∀ f, s.print.fallback = some (id, f) → exec (.pageCommit c) s = .next ((s.begun 0x10 c).reply c 0x10 .fallbackBad 3)) ∧
       ((∀ f, s.print.fallback ≠ some (id, f)) → e.state ≠ .ready →
         exec (.pageCommit c) s = .next ((s.begun 0x10 c).reply c 0x10 .pageNotReady 0)) ∧
       ((∀ f, s.print.fallback ≠ some (id, f)) → e.state = .ready → (∃ k, k < 16 ∧ 32 < s.layerCount e.desc k) →
         exec (.pageCommit c) s = .next ((s.begun 0x10 c).reply c 0x10 .layerLimit 0)) ∧
       ((∀ f, s.print.fallback ≠ some (id, f)) → e.state = .ready → (∀ k, k < 16 → s.layerCount e.desc k ≤ 32) →
         1024 ≤ s.print.queue.length → exec (.pageCommit c) s = .next ((s.begun 0x10 c).reply c 0x10 .queueFull 0)) ∧
       ((∀ f, s.print.fallback ≠ some (id, f)) → e.state = .ready → (∀ k, k < 16 → s.layerCount e.desc k ≤ 32) →
         s.print.queue.length < 1024 →
         (s.slotShort e.desc = true →
           exec (.pageCommit c) s = .next ((s.begun 0x10 c).reply c 0x10 .slotIdle (low40 e.desc.slot.val))) ∧
         (s.slotShort e.desc = false → ∀ b bs,
           ((s.begun 0x10 c).readBursts ((s.begun 0x10 c).commitReads e c.reads)).2 = b :: bs →
           exec (.pageCommit c) s = .next ((((s.begun 0x10 c).readBursts ((s.begun 0x10 c).commitReads e c.reads)).1).reply c 0x10
             .dramError (low40 (burstResult b)))))))

/-- PAGE_CANCEL makes a committed page MISSED, PAGE_DELETE takes a page that is neither queued nor printing out of the page table, and
FALLBACK_SET designates a READY page of at most 64 lines or ends the designation (R46, R66, R545, R552). PAGE_ABORT fixes the abort line
of the printing page at the last bar line allocated, at most its last line, and answers with it; a page already aborted keeps its line
(R545, R649). -/
def Obligations.PageEndsAndFallback : Prop :=
  ((∀ (s : State) (c : Cmd) (q : QEntry), Runs s 0x11 false false c →
     s.print.waitingQ.find? (fun q => q.desc.id == c.arg.setWidth 32) = some q →
     ∃ u : State, exec (.pageCancel c) s = .next (u.reply c 0x11 .ok 0) ∧ u.store.page q.desc.id = none ∧
       (∀ x ∈ u.print.queue, x.desc.id ≠ q.desc.id) ∧ u.print.ended.head? = some ⟨q.desc.id, 0, .missed, [], 0⟩) ∧
   (∀ (s : State) (c : Cmd) (e : PageEntry), Runs s 0x12 false false c → s.store.page (c.arg.setWidth 32) = some e →
     e.state ≠ .committed → e.state ≠ .printing → (s.print.fallbackBusy = 0 ∨ ∀ f, s.print.fallback ≠ some (c.arg.setWidth 32, f)) →
     ∃ u : State, exec (.pageDelete c) s = .next (u.reply c 0x12 .ok 0) ∧ u.store.page (c.arg.setWidth 32) = none ∧
       (∀ f, u.print.fallback ≠ some (c.arg.setWidth 32, f)) ∧
       u.store.pages.map (fun x => x.desc) = (s.store.pages.filter (fun x => x.desc.id != c.arg.setWidth 32)).map (fun x => x.desc) ∧
       u.print.queue = s.print.queue) ∧
   (∀ (s : State) (c : Cmd), Runs s 0x16 false false c → c.arg.setWidth 32 = (0 : BitVec 32) →
     ∃ u : State, exec (.fallbackSet c) s = .next (u.reply c 0x16 .ok 0) ∧ u.print.fallback = none ∧ u.store = s.store) ∧
   (∀ (s : State) (c : Cmd) (e : PageEntry), Runs s 0x16 false false c → c.arg.setWidth 32 ≠ (0 : BitVec 32) →
     s.store.page (c.arg.setWidth 32) = some e → e.state = .ready → e.desc.length ≤ 64 → s.fallbackExcludes e.desc = false →
     ∃ u : State, exec (.fallbackSet c) s = .next (u.reply c 0x16 .ok 0) ∧ u.print.fallback = some (e.desc.id, (s.costCtx e.desc).rate) ∧
       u.store = s.store ∧ u.print.queue = s.print.queue)) ∧
  (∀ (s : State) (c : Cmd) (sp : Span), Runs s 0x13 false false c → s.print.span = some sp → sp.desc.id = c.arg.setWidth 32 →
     sp.fallback = false →
     (∀ a, sp.abort = some a → exec (.pageAbort c) s = .next ((s.start c).reply c 0x13 .ok (low40 a))) ∧
     (sp.abort = none → ∃ u : State, exec (.pageAbort c) s = .next (u.reply c 0x13 .ok (low40 (min s.sluice.barLine sp.last))) ∧
       (∀ sp', u.print.span = some sp' → sp'.abort = some (min s.sluice.barLine sp.last) ∧ sp'.first = sp.first ∧
         sp'.last = min s.sluice.barLine sp.last)))

/-- PAGE_STATUS and PAGE_DEFECTS write their blocks (R551, R552). -/
def Obligations.PageStatusAndDefectsWriteTheirBlocks : Prop :=
  (∀ (s : State) (c : Cmd) (block : List Word), Runs s 0x14 true false c →
    block = [s.print.pageCount, s.flipTime, word [s.print.nowId.toNat, fld 32 3 s.print.nowState.code, fld 36 11 s.print.queue.length],
        BitVec.ofNat 64 s.sluice.barLine, word [fld 0 11 s.print.queue.length],
        (match s.print.fallback with | some (id, rate) => word [id.toNat, fld 32 8 (rate / 2000)] | none => 0), 0, 0] ++
      s.print.queue.flatMap (fun q => s.statusEntry q) →
    Writes c 0 block → exec (.pageStatus c) s =
      .next (((s.start c).emit (.hostWrite (c.dw 0) (pad64 block))).reply c 0x14 .ok (low40 (blockBytes block)))) ∧
  (∀ (s : State) (c : Cmd) (e : EndedPage) (block : List Word), Runs s 0x15 true false c →
    s.defectsOf ((c.dw 0).setWidth 32) = some e →
    block = [word [e.id.toNat, fld 32 3 e.state.code], word [fld 0 16 e.defects.length, fld 16 16 e.notKept]] ++
      e.defects.flatMap (fun r => [r.kind.word, BitVec.ofInt 64 r.first, BitVec.ofInt 64 r.last,
        word [fld 0 25 r.lowLine, fld 32 25 r.highLine]]) →
    Writes c 1 block → exec (.pageDefects c) s =
      .next (((s.start c).emit (.hostWrite (c.dw 1) (pad64 block))).reply c 0x15 .ok (low40 (blockBytes block))))

/-- PRINT_START, where every check of R547 passes, starts printing with bar line 0 allocated, in the mode, source and inputs of its word
(R52, R231, R545, R547). The checks of PRINT_START stand in the order of R547; the first that fails gives its status and starts nothing. A
print mode that R35 reserves is refused before them (the model's choice, log 90). PRINT_STOP waits for the point at which printing stops:
it takes its place among the commands answered then, no page may start any more, and with no page printing, or with NOW, printing has
stopped already (R546). While printing is stopped it answers PRINT_STOPPED. That the source of SLUICE_CONFIG is taken anew at print start
is the model's reading (log 57). -/
def Obligations.PrintStartsAndStops : Prop :=
  (∀ (s : State) (c : Cmd) (m : NozzleMap), Runs s 0x18 false false c → c.argBits 3 0 < 10 → s.sys.fatal = none →
     s.print.started = false → s.eng.kernelFail = none → s.mapper.inForce = some m → s.sourceOff = false → s.leadShort m = false →
     (∀ h ∈ m.heads, s.headActive h.port = true) → (∀ h ∈ m.heads, s.capsFault h = none) → s.camNear m = false →
     s.sec.lifecycle = 2 →
     ∃ u : State, exec (.printStart c) s = .next (u.reply c 0x18 .ok 0) ∧ u.print.started = true ∧
       u.print.startMode = c.arg.extractLsb' 0 4 ∧ u.print.trigMode = c.arg.getLsbD 4 ∧ u.print.trigEnable = c.arg.extractLsb' 5 4 ∧
       u.print.span = none ∧ u.sluice.barLine = 0 ∧ (∀ l ∈ u.sluice.lines, l.frozen = true) ∧ u.sluice.source = s.sluice.set.source) ∧
  (∀ (s : State) (c : Cmd), Runs s 0x18 false false c → s.sys.fatal = none →
     let no (st : Code) (n : Nat) : Prop := exec (.printStart c) s = .next ((s.begun 0x18 c).reply c 0x18 st (low40 n))
     (10 ≤ c.argBits 3 0 → no .argBad 0) ∧ (c.argBits 3 0 < 10 →
     (s.print.started = true → no .printActive 0) ∧
     (s.print.started = false → (∃ k, s.eng.kernelFail = some k) → no .kernelAuthFail 0) ∧
     (s.print.started = false → s.eng.kernelFail = none →
       (s.mapper.inForce = none → no .nozzleMapAbsent 0) ∧
       (∀ m, s.mapper.inForce = some m →
         (s.sourceOff = true → no .encConfigBad 4) ∧
         (s.sourceOff = false → s.leadShort m = true → no .sluiceConfigBad 1) ∧
         (s.sourceOff = false → s.leadShort m = false → ∀ p, s.portDown m = some p → no .headLinkDown p.val))))) ∧
  (∀ (s : State) (c : Cmd), Runs s 0x19 false false c →
     (s.print.started = false → exec (.printStop c) s = .next ((s.start c).reply c 0x19 .printStopped 0)) ∧
     (s.print.started = true → ∃ u : State, exec (.printStop c) s = .next u.settle ∧
       (u.print.started = true → u.print.stopping = true ∧ ⟨c.origin, c.tag⟩ ∈ u.print.stopWaits) ∧
       (s.print.span = none ∨ c.arg.getLsbD 3 = true → u.print.started = false ∧ u.print.span = none ∧ u.print.stopWaits = [])))

/-- PARCEL_LOAD with a sound docket waits for a slot, with the bytes of its scatter list (R79, R548); BULK_OFFER's transfer waits in the
same way (R550); neither is answered yet. A free slot goes to the oldest load that the limits permit. Its header is requested, and so is
what other loads were held back from, where the headrace may ask: not at urgency level 3 nor in D3hot, but for a transfer (R79, R80 step
1, R210, R515). -/
def Obligations.LoadsWaitAndGetSlots : Prop :=
  ((∀ (s : State) (c : Cmd), Runs s 0x30 true false c → s.host.busMaster = true → loadDocketBad c = false →
     ∃ r : LoadReq, exec (.parcelLoad c) s = .next (State.settle { s.start c with store := { s.store with waiting := s.store.waiting ++ [r] } }) ∧
       r.origin = c.origin ∧ r.tag = c.tag ∧ r.opcode = 0x30 ∧ r.xfer = none ∧ r.bufAddr = c.dw 1 ∧ r.bufLen = bits (c.dw 2) 31 0 ∧
       r.total = ((List.range (bits (c.dw 0) 6 0)).map (fun i => (c.dw (5 + 2 * i)).toNat)).sum ∧
       (∀ n e, c.origin = .host n e → r.src = .host n)) ∧
   (∀ (s : State) (c : Cmd) (n : NodeNo) (e : BitVec 32), Runs s 0x73 false false c → c.origin = .peer n e →
     ∃ (u : State) (r : LoadReq) (b : BulkIn), exec (.bulkOffer c) s = .next u.settle ∧ u.store.waiting = s.store.waiting ++ [r] ∧
       r.xfer = some ((c.arg.extractLsb' 0 24).setWidth 32) ∧ r.total = 8 * (c.arg.extractLsb' 24 24).toNat ∧
       (r.src = .partner ∨ r.src = .peer n) ∧ b ∈ u.fab.bulkIn ∧ b.src = n ∧ b.xfer = (c.arg.extractLsb' 0 24).setWidth 32 ∧
       b.parts = [] ∧ b.total = (c.arg.extractLsb' 24 24).toNat)) ∧
  (∀ (s : State) (k : SlotNo) (r : LoadReq), s.quiet → s.store.freeSlotNo = some k → s.store.nextLoad = some r → s.sys.power ≠ .dormant →
     ∃ t : State, exec .parcelSlotStart s = .next t ∧
       (∃ f, t.store.flights[k] = some f ∧ f.req = r ∧ f.header = none ∧ f.verified = false ∧ f.asked = s.mayAsk r) ∧
       (∀ j, j ≠ k → t.store.flights[j] = s.store.flights[j].map (fun f => if s.mayAsk f.req then { f with asked := true } else f)) ∧
       t.store.waiting = s.store.waiting.erase r ∧
       (r.xfer = none → s.cist.level ≠ 3 → s.host.d3hot = false → t.sent.head? = some (.parcelRead k.val)) ∧
       ((∀ (j : SlotNo) f, s.store.flights[j] = some f → f.asked = true) → r.xfer ≠ none ∨ s.cist.level = 3 ∨ s.host.d3hot = true →
         t.sent = s.sent))

/-- PARCEL_TIMEOUT sets the timeout and answers with the one before; STORE_INFO answers with the free store and the counts held (R82,
R545). LAYER_DELETE frees a layer that nothing in use refers to; GENERATOR_DEFINE puts a sound generator in place of one with its
identifier; GENERATOR_DELETE removes one. What is in use stays (R96, R158, R545). -/
def Obligations.ParcelStoreCommandsAnswer : Prop :=
  (∀ (s : State) (c : Cmd),
     (Runs s 0x32 false false c → 10 ≤ (c.arg.extractLsb' 0 16).toNat → (c.arg.extractLsb' 0 16).toNat ≤ 60000 →
       exec (.parcelTimeout c) s = .next (({ s.start c with store := { s.store with timeoutMs := (c.arg.extractLsb' 0 16).toNat } }).reply c
         0x32 .ok (low40 s.store.timeoutMs))) ∧
     (Runs s 0x32 false false c → ((c.arg.extractLsb' 0 16).toNat < 10 ∨ 60000 < (c.arg.extractLsb' 0 16).toNat) →
       exec (.parcelTimeout c) s = .next ((s.start c).reply c 0x32 .argBad 0)) ∧
     (Runs s 0x33 false false c → exec (.storeInfo c) s = .next ((s.start c).reply c 0x33 .ok (pack40 [fld 0 24 (s.unitsFree / 16),
       fld 24 8 (min 255 (s.store.layers.length / 256)), fld 32 8 (min 255 (s.store.pages.length / 16))])))) ∧
  (∀ (s : State) (c : Cmd) (id : BitVec 32), id = c.arg.setWidth 32 →
     (∀ l, Runs s 0x31 false false c → findLayer s.store.layers id = some l → s.layerUsed id = false →
       ∃ u : State, exec (.layerDelete c) s = .next (u.reply c 0x31 .ok 0) ∧
         u.store.layers = s.store.layers.filter (fun l => l.desc.id != id) ∧ u.print = s.print) ∧
     (∀ l, Runs s 0x31 false false c → findLayer s.store.layers id = some l → s.layerUsed id = true →
       exec (.layerDelete c) s = .next ((s.begun 0x31 c).reply c 0x31 .layerInUse (id.setWidth 40))) ∧
     (Runs s 0x35 true true c → s.generatorReason c.docket = none → s.generatorUsed (parseGenerator c.docket).id = false →
       ∃ u : State, exec (.generatorDefine c) s = .next (u.reply c 0x35 .ok ((parseGenerator c.docket).id.setWidth 40)) ∧
         u.store.generators = s.store.generators.filter (fun g => g.id != (parseGenerator c.docket).id) ++ [parseGenerator c.docket] ∧
         u.store.layers = s.store.layers ∧ u.print = s.print) ∧
     (∀ g ∈ s.store.generators, Runs s 0x36 false false c → g.id = id → s.generatorUsed id = false →
       ∃ u : State, exec (.generatorDelete c) s = .next (u.reply c 0x36 .ok 0) ∧
         u.store.generators = s.store.generators.filter (fun g => g.id != id) ∧ u.store.layers = s.store.layers ∧ u.print = s.print))

/-- A header that passes steps 2 to 4 of R80 is kept with its key and its place in the page store; one with a field that fails, a SEQUENCE
not above the highest verified, or more units than are free, discards the parcel (R80, R81). Which place it gets is the model's choice
(log 31). Words of a parcel are kept in order; an error completion, a write into its place that is lost, the parcel timeout (which does
not run out at urgency level 3) and a tag that does not match discard the parcel whole; a tag that matches, with content that passes,
makes it wait for publication (R80 steps 5 to 9, R82, R211, R586). -/
def Obligations.ParcelsAreKeptOrDiscardedWhole : Prop :=
  (∀ (s : State) (k : SlotNo) (f : Flight) (h : List Word), s.quiet → s.sec.openWaits = [] → s.store.flights[k] = some f →
     f.header = none → f.asked = true → h.length = 8 → s.placeHeld.arrived f.req 0 h = true → s.loadRefused f.req h = false →
     (∀ key, s.headerField f.req h = none → s.highestSeq f.req h < seqCount h → parcelUnits h ≤ s.unitsFree →
       s.parcelKey f.req.src (bits (wordAt h 0) 23 16) = some key →
       ∃ t : State, exec (.parcelHeaderArrival k h) s = .next t ∧
         t.store.flights[k] = some { f with header := some h, key := key.1, salt := key.2, alloc := parcelUnits h
                                            base := firstFit s.store.allocs (parcelUnits h), asked := s.mayAsk f.req }) ∧
     (∀ n, s.headerField f.req h = some n → ∃ t : State, exec (.parcelHeaderArrival k h) s = .next t ∧ t.store.flights[k] = none) ∧
     (s.headerField f.req h = none → seqCount h ≤ s.highestSeq f.req h → ∃ t : State,
       exec (.parcelHeaderArrival k h) s = .next t ∧ t.store.flights[k] = none) ∧
     (s.headerField f.req h = none → s.highestSeq f.req h < seqCount h → s.unitsFree < parcelUnits h → ∃ t : State,
       exec (.parcelHeaderArrival k h) s = .next t ∧ t.store.flights[k] = none)) ∧
  (∀ (s : State) (k : SlotNo) (f : Flight) (h : List Word), s.quiet → s.sec.openWaits = [] → s.store.flights[k] = some f →
     f.header = some h → f.asked = true → f.verified = false →
     let gone (i : Instr) : Prop := ∃ t : State, exec i s = .next t ∧ t.store.flights[k] = none ∧ t.store.layers = s.store.layers ∧
       t.store.pages = s.store.pages
     (∀ ws, f.got.length + ws.length ≤ bodyWords h → s.placeHeld.arrived f.req (8 + f.got.length) ws = true →
       ((s.placeHeld.stage f h f.got.length ws.length).2 = false → ∃ t : State, exec (.parcelCompletion k (.data ws)) s = .next t ∧
         t.store = { s.store with flights := s.store.flights.set k (some { f with got := f.got ++ ws }) }) ∧
       ((s.placeHeld.stage f h f.got.length ws.length).2 = true → gone (.parcelCompletion k (.data ws)))) ∧
     (f.req.xfer = none → gone (.parcelCompletion k .error)) ∧
     (f.got.length < bodyWords h → s.cist.level ≠ 3 → gone (.parcelTimerExpiry k)) ∧
     (s.cist.level = 3 → exec (.parcelTimerExpiry k) s = .next s) ∧
     (f.got.length = bodyWords h →
       Config.gcmTag f.key (gcmNonce f.salt (parcelSeq h)) h (f.got.take (parcelLength h / 8)) ≠ trailerTag (f.got.drop (parcelLength h / 8)) →
       ∃ t : State, exec (.parcelTagCheck k) s = .next t ∧ t.store.flights[k] = none ∧ t.store.verified = s.store.verified) ∧
     (f.got.length = bodyWords h →
       Config.gcmTag f.key (gcmNonce f.salt (parcelSeq h)) h (f.got.take (parcelLength h / 8)) = trailerTag (f.got.drop (parcelLength h / 8)) →
       ∃ t : State, exec (.parcelTagCheck k) s = .next t ∧
         match (s.advanceSeq f.req h).contentFault f.req h
           (Config.gcmDecrypt f.key (gcmNonce f.salt (parcelSeq h)) (f.got.take (parcelLength h / 8))) with
         | none => t.store.flights[k] = some { f with verified := true, got := [] } ∧
             t.store.verified = s.store.verified ++ [⟨k, f.req, h,
               Config.gcmDecrypt f.key (gcmNonce f.salt (parcelSeq h)) (f.got.take (parcelLength h / 8)), (f.base, f.alloc)⟩]
         | some _ => t.store.flights[k] = none ∧ t.store.verified = s.store.verified))

/-- The oldest verified parcel is published and its slot freed: the pages of a PAGE parcel stand in the page table, a layer part's place
belongs to its layer, a glyph set replaces the one with its identifier, a firmware image is staged (R77, R83, R99, R155, R559). One whose
staging reads uncorrectable is discarded whole (R587). -/
def Obligations.PublicationIsAtomicPerParcel : Prop :=
  ∀ (s : State) (v : Verified) (rest : List Verified) (r : PublishRead), s.sec.openWaits = [] →
    (∀ d ∈ s.store.docketRuns, d.waiting ≠ none) → s.store.verified = v :: rest →
    let s0 : State := { s with store := { s.store with verified := rest } }
    let reads := s0.rangeReads (regionBase 8 + 1024 * v.alloc.1) (v.payload.length / 8) r.reads
    ((s0.readBursts reads).2 = [] → content v.header ≠ 3 → s0.contentFault v.req v.header v.payload = none →
      ∃ t : State, exec (.parcelPublish r) s = .next t ∧ t.store.verified = rest ∧ t.store.flights[v.slot] = none ∧
        (content v.header = 1 → ∀ d ∈ parsePages 64 v.payload, ∃ e ∈ t.store.pages, e.desc = d) ∧
        (content v.header = 2 → ∀ d, parseLayerDesc (slice v.payload 0 4) = some d →
          ∃ l ∈ t.store.layers, l.desc = d ∧ v.alloc ∈ l.allocs) ∧
        (content v.header = 4 → ∀ g, parseGlyphSet v.payload = some g → g ∈ t.store.glyphs) ∧
        (content v.header = 7 → t.store.staged = some (BitVec.ofNat 32 (parcelId v.header), v.payload))) ∧
    ((s0.readBursts reads).2 ≠ [] →
      ∃ t : State, exec (.parcelPublish r) s = .next t ∧ t.store.verified = rest ∧ t.store.flights[v.slot] = none ∧
        t.store.layers = s.store.layers ∧ t.store.glyphs = s.store.glyphs ∧ t.store.staged = s.store.staged ∧
        t.store.pages.map (fun e => e.desc) = s.store.pages.map (fun e => e.desc))

/-- Every settings command whose entries pass both passes of R541 applies them in docket order and answers OK (R539, R541); those of a
pair, of the ditch-rider's pairs and of time apply them to their own part. A settings docket that has a count of entries out of its range,
or with an entry that breaks its range, row, INDEX or ELEM, or a relation of its table (judged with the entries that are in range),
changes nothing: its status names the ROW of the first such entry in bits [15:8], and comes before any busy status; and where the first
entry that may not act now is one of a good docket, its busy status is the answer (R541). That a count of entries out of its range has the
reason of a value out of range, and row 0, is the model's reading (log 149). -/
def Obligations.SettingsPassBothPassesOrNothing : Prop :=
  (∀ (s : State) (c : Cmd) (es : List Entry),
     (Runs s 0x40 true false c → Passes cameraTable (s.start c) c es →
       exec (.cameraConfig c) s = .next ((es.foldl cameraTable.apply (s.start c)).reply c 0x40 .ok 0)) ∧
     (Runs s 0x48 true false c → Passes healthTable (s.start c) c es →
       exec (.healthConfig c) s = .next ((es.foldl healthTable.apply (s.start c)).reply c 0x48 .ok 0)) ∧
     (Runs s 0x50 true false c → Passes axisTable (s.start c) c es →
       exec (.axisConfig c) s = .next ((es.foldl axisTable.apply (s.start c)).reply c 0x50 .ok 0)) ∧
     (Runs s 0x60 true false c → Passes encoderTable (s.start c) c es →
       exec (.encoderConfig c) s = .next ((es.foldl encoderTable.apply (s.start c)).reply c 0x60 .ok 0)) ∧
     (Runs s 0x61 true false c → Passes sluiceTable (s.start c) c es →
       exec (.sluiceConfig c) s = .next ((es.foldl sluiceTable.apply (s.start c)).reply c 0x61 .ok 0)) ∧
     (Runs s 0x62 true false c → Passes triggerTable (s.start c) c es →
       exec (.triggerConfig c) s = .next ((es.foldl triggerTable.apply (s.start c)).reply c 0x62 .ok 0)) ∧
     (Runs s 0x63 true false c → Passes governorTable (s.start c) c es →
       exec (.governorConfig c) s = .next ((es.foldl governorTable.apply (s.start c)).reply c 0x63 .ok 0)) ∧
     (Runs s 0x70 true false c → Passes fabricTable (s.start c) c es →
       exec (.fabricConfig c) s = .next ((es.foldl fabricTable.apply (s.start c)).reply c 0x70 .ok 0)) ∧
     (Runs s 0x81 true false c → Passes riderTable (s.start c) c es →
       exec (.riderConfig c) s = .next ((es.foldl riderTable.apply (s.start c)).reply c 0x81 .ok 0)) ∧
     (Runs s 0x80 true false c → Passes pairTable (s.start c) c es → ∃ u : State,
       exec (.pairConfig c) s = .next (u.reply c 0x80 .ok 0) ∧
       u.pair.paired = (es.foldl pairTable.apply (s.start c)).pair.paired ∧ u.pair.unitB = (es.foldl pairTable.apply (s.start c)).pair.unitB ∧
       u.pair.partner = (es.foldl pairTable.apply (s.start c)).pair.partner ∧ u.pair.rider = (es.foldl pairTable.apply (s.start c)).pair.rider ∧
       u.pair.timeoutPs = (es.foldl pairTable.apply (s.start c)).pair.timeoutPs) ∧
     (Runs s 0x90 true false c → Passes timeTable (s.start c) c es → ∃ u : State,
       exec (.timeConfig c) s = .next (u.reply c 0x90 .ok 0) ∧
       u.time.master = (es.foldl timeTable.apply (s.start c)).time.master ∧
       u.time.stepLimit = (es.foldl timeTable.apply (s.start c)).time.stepLimit ∧
       u.time.ppsWidth = (es.foldl timeTable.apply (s.start c)).time.ppsWidth)) ∧
  (∀ (s : State) (c : Cmd),
     ∀ k ∈ [((0x40 : Byte), cameraTable, Instr.cameraConfig), (0x48, healthTable, .healthConfig), (0x50, axisTable, .axisConfig),
       (0x60, encoderTable, .encoderConfig), (0x61, sluiceTable, .sluiceConfig), (0x62, triggerTable, .triggerConfig),
       (0x63, governorTable, .governorConfig), (0x70, fabricTable, .fabricConfig), (0x80, pairTable, .pairConfig),
       (0x81, riderTable, .riderConfig), (0x90, timeTable, .timeConfig)], Runs s k.1 true false c →
     let T : Settings := k.2.1
     let no (st : Code) (r : BitVec 40) : Prop := exec (k.2.2 c) s = .next ((s.start c).reply c k.1 st r)
     (parseEntries T.isTable c = none → no T.bad (low40 T.range)) ∧
     (∀ (es before after : List Entry) (e : Entry), parseEntries T.isTable c = some es → es = before ++ e :: after →
       let t := (es.filter (fun x => (T.check (s.start c) x).isNone)).foldl T.apply (s.start c)
       ((∀ x ∈ before, T.check (s.start c) x = none ∧ T.whole t x = none) → ∀ reason : Nat,
         T.check (s.start c) e = some reason ∨ (T.check (s.start c) e = none ∧ T.whole t e = some reason) →
         no T.bad (low40 (reason + 256 * e.row))) ∧
       ((∀ x ∈ es, T.check (s.start c) x = none ∧ T.whole t x = none) → (∀ x ∈ before, T.busy (s.start c) x = none) →
         ∀ (st : Code) (r : BitVec 40), T.busy (s.start c) e = some (st, r) → st ≠ .ok → no st r)))

/-- A row of each settings table puts its value into the setting it names, and into no other part (R216, R263, R330, R354, R378, R406,
R457, R490, R505, R542): WEIRS and V_MAX, LEAD, DIS_LIMIT, V_MAX of an axis, BUDGET, MIN_SIGNAL, ROOT_ELIGIBLE, HB_TIMEOUT, STEP_LIMIT and
DELAY. That the values of a row are positions in its list where the list has no order is the model's reading (log 58). -/
def Obligations.SettingsRowsPutTheirValue : Prop :=
  ∀ (s : State) (i el : Nat) (v : Word) (t : List Word),
    governorTable.apply s ⟨0, i, el, v, t⟩ = { s with gov := { s.gov with next := { s.gov.next with vMax := v.toNat } } } ∧
    governorTable.apply s ⟨7, i, 0, v, t⟩ = { s with cist := { s.cist with w1 := v.toNat } } ∧
    governorTable.apply s ⟨7, i, 1, v, t⟩ = { s with cist := { s.cist with w2 := v.toNat } } ∧
    governorTable.apply s ⟨7, i, 2, v, t⟩ = { s with cist := { s.cist with w3 := v.toNat } } ∧
    (sluiceTable.apply s ⟨5, i, el, v, t⟩).sluice.set.lead = v.toNat / 250 ∧
    (encoderTable.apply s ⟨14, i, el, v, t⟩) = { s with enc := { s.enc with disLimit := v.toNat } } ∧
    (∀ a : AxisNo, i = a.val → ((axisTable.apply s ⟨4, i, el, v, t⟩).motion.axes[a]).set.vMax = v.toNat ∧
      ∀ b : AxisNo, b ≠ a → (axisTable.apply s ⟨4, i, el, v, t⟩).motion.axes[b] = s.motion.axes[b]) ∧
    (∀ p : CamNo, i = p.val → ((cameraTable.apply s ⟨10, i, el, v, t⟩).cam.ports[p]).direct.budget = v.toNat ∧
      ∀ q : CamNo, q ≠ p → (cameraTable.apply s ⟨10, i, el, v, t⟩).cam.ports[q] = s.cam.ports[q]) ∧
    healthTable.apply s ⟨3, i, el, v, t⟩ = { s with health := { s.health with set := { s.health.set with minSignal := v.toNat } } } ∧
    fabricTable.apply s ⟨0, i, el, v, t⟩ = { s with fab := { s.fab with eligible := v.toNat == 1 } } ∧
    pairTable.apply s ⟨4, i, el, v, t⟩ = { s with pair := { s.pair with timeoutPs := v.toNat } } ∧
    (∀ k : Fin 8, i = k.val → ((riderTable.apply s ⟨2, i, el, v, t⟩).pair.riders[k]).timeoutPs = v.toNat) ∧
    timeTable.apply s ⟨2, i, el, v, t⟩ = { s with time := { s.time with stepLimit := v.toNat } } ∧
    (∀ n : TrigNo, i = n.val → ((triggerTable.apply s ⟨2, i, el, v, t⟩).print.trigs[n]).set.delay = v.toNat ∧
      ∀ m : TrigNo, m ≠ n → (triggerTable.apply s ⟨2, i, el, v, t⟩).print.trigs[m] = s.print.trigs[m])

/-! ### Reset, boot, power and DRAM -/

/-- A device reset keeps the fuses, MRAM and flash, and returns everything else to its reset value (R599, R600, R603); PERST_N has no
effect where G7 serves as fabric ports (R598). That job slots stay open across a reset is the model's reading (log 26). -/
def Obligations.DeviceResetsKeepWhatSurvives : Prop :=
  (∀ (s : State) (i : Instr) (cause : Nat),
    ((i = .supplyMonitorReset ∧ cause = 1) ∨ (i = .resetN ∧ cause = 2) ∨ (i = .commandedReset ∧ cause = 4 ∧ s.sys.resetDue = true) ∨
      (i = .perstN ∧ cause = 3 ∧ ∃ b, s.sys.board = some b ∧ b.g7Fabric = false ∧ b.perstDevice = true)) →
    ∃ t : State, exec i s = .next t ∧ t.pending = s.pending ∧ t.sys = { State.reset.sys with cause := cause } ∧
      t.host = State.reset.host ∧ t.store = State.reset.store ∧ t.print = State.reset.print ∧ t.eng = State.reset.eng ∧
      t.mapper = State.reset.mapper ∧ t.cist = State.reset.cist ∧ t.gov = State.reset.gov ∧ t.sluice = State.reset.sluice ∧
      t.heads = State.reset.heads ∧ t.enc = State.reset.enc ∧ t.motion = State.reset.motion ∧ t.cam = State.reset.cam ∧
      t.lanes = State.reset.lanes ∧ t.time = State.reset.time ∧ t.dram = State.reset.dram ∧
      t.fab = { State.reset.fab with id := s.fab.id, preferredSet := s.fab.preferredSet } ∧
      t.pair = { State.reset.pair with highest := s.pair.highest } ∧ (∀ p : HeadPort, t.health.ports[p].record = s.health.ports[p].record) ∧
      t.sec.lifecycle = s.sec.lifecycle ∧ t.sec.svn = s.sec.svn ∧ t.sec.imageKey = s.sec.imageKey ∧ t.sec.caKey = s.sec.caKey ∧
      t.sec.identity = s.sec.identity ∧ t.sec.chain = s.sec.chain ∧ t.sec.ownerHash = s.sec.ownerHash ∧
      t.sec.count = s.sec.count ∧ t.sec.chainHash = s.sec.chainHash ∧ t.sec.released = s.sec.released ∧ t.sec.ring = [] ∧
      (∀ n : Chan, t.sec.sessions[n] = none) ∧
      (∀ j : Fin 16, t.sec.jobs[j].next = s.sec.jobs[j].reservedEnd ∧ t.sec.jobs[j].reservedEnd = s.sec.jobs[j].reservedEnd)) ∧
  (∀ (s : State) (b : BoardRecord), s.quiet → s.sys.board = some b → b.g7Fabric = true → exec .perstN s = .next s)

/-- Boot goes from stage to stage: firmware's kernels are loaded as a set or all engines stay halted, training that fails stops boot where
the earliest step failed, a stage of lanes or fabric ends when they are up or its time is; it halts with FAULT_N asserted where nothing
can be run, and at READY releases FAULT_N and lets an unpaired device drive its outputs (R171, R173, R592, R604, R605, R606, R609, R612).
-/
def Obligations.BootGoesStageByStage : Prop :=
  ∀ s : State, s.sys.halted = false → s.sys.stopped = false →
    (s.sys.stage = 1 → ∃ t : State, exec (.bootStageDone (.rom .pass)) s = .next t ∧ t.sys.stage = 2 ∧ t.time.locked = true ∧ t.time.raw = 0) ∧
    (s.sys.stage = 1 → ∃ t : State, exec (.bootStageDone (.rom .lockkeeperFail)) s = .next t ∧ t.sys.halted = true ∧ t.sys.faultN = true ∧
      t.endpoint = false ∧ ∀ n : LaneNo, t.lanes.lanes[n].st = .down) ∧
    (s.sys.stage = 2 → ∀ p o : Option ImageRead, ∃ t : State, exec (.bootStageDone (.image p o)) s = .next t ∧
      match s.sec.chooseImage p o with
      | some (i, b) => t.sys.stage = 3 ∧ t.sys.image = some i ∧ t.sys.board = some b ∧ t.fab.eligible = b.rootEligible ∧ t.sec = s.sec
      | none => t.sys.halted = true ∧ t.sys.faultN = true) ∧
    (s.sys.stage = 3 → ∀ temps, ∃ t : State, exec (.bootStageDone (.firmware temps)) s = .next t ∧ t.sys.stage = 4 ∧ t.print = s.print ∧
      (∀ i, s.sys.image = some i → badKernels i.kernels = [] → t.eng.kernelFail = s.eng.kernelFail ∧
        t.eng.kernels = i.kernels.kernels.map (fun k => k.code)) ∧
      (∀ i k ks, s.sys.image = some i → badKernels i.kernels = k :: ks → t.eng.kernelFail = some (BitVec.ofNat 4 k) ∧
        t.eng.kernels = s.eng.kernels)) ∧
    (s.sys.stage = 4 → ∀ fails dqs, fails ≠ [] → ∃ (t : State) (f : TrainFail), exec (.bootStageDone (.dram fails dqs)) s = .next t ∧
      f ∈ fails ∧ (∀ g ∈ fails, f.step.toNat ≤ g.step.toNat) ∧ t.sys.stopped = true ∧ t.sys.stage = 4 ∧ t.dram.failure = some f ∧
      t.dram.trained = s.dram.trained ∧ t.serves = (!s.sys.restarting)) ∧
    (s.sys.stage = 4 → s.quiet → ∀ dqs, ∃ t : State, exec (.bootStageDone (.dram [] dqs)) s = .next t ∧ t.sys.stage = 5 ∧
      t.dram.trained = true ∧ t.dram.dqsBase = dqs ∧ t.host = s.host) ∧
    (s.sys.stage = 5 → s.quiet → ∀ ms up,
      (s.fabricFitted = true → s.lanesUp = true ∨ up = true → exec (.bootStageDone (.lanes ms up)) s =
        .next { s with sys := { s.sys with stage := 6 } }) ∧
      (s.lanesUp = false → up = false → exec (.bootStageDone (.lanes ms up)) s = .next s)) ∧
    (s.sys.stage = 6 → s.quiet → s.numbered = false → ∀ ms, exec (.bootStageDone (.fabric ms false)) s = .next s) ∧
    (∀ (ms : BitVec 12) (up : Bool) (r : BootResult),
      (s.sys.stage = 6 ∧ r = .fabric ms up ∧ (s.numbered = true ∨ up = true)) ∨
        (s.sys.stage = 5 ∧ s.fabricFitted = false ∧ r = .lanes ms up ∧ (s.lanesUp = true ∨ up = true)) →
      ∃ t : State, exec (.bootStageDone r) s = .next t ∧ t.sys.stage = 7 ∧ t.sys.bootMs = ms.toNat ∧ t.sys.faultN = s.sys.fatal.isSome ∧
        t.pair.driving = !s.pair.paired ∧ t.sec.lifecycle = s.sec.lifecycle ∧ t.print = s.print)

/-- A fatal fault stops token issue and STATUS and asserts FAULT_N; on a device that is unpaired or holds the claim it asserts MARK_MISS
and sets SPDLIM to duty code 0; the first cause stays (R611, R612). Temperatures of the sensors not excluded (R617) at or below 125 °C
raise none. Out of lock, the raw counter stands; after relock it goes on from there (R492). A watchdog expiry acts on the fire path and
restarts the Lockkeeper; the restart keeps the layers of the page store, DRAM and the lanes, ends the sessions of all eight mailboxes, and
releases FAULT_N and MARK_MISS unless a fatal fault holds them (R613). What a restart of the Lockkeeper forgets is the model's reading
(log 48), and FAULT_N while it restarts (log 36). -/
def Obligations.FatalFaultsAndWatchdogStopFiring : Prop :=
  ((∀ (s : State) (f : FatalCause) (cause : Nat),
     ((f = .firePll ∧ cause = 1) ∨ ((∃ u, f = .otherPll u) ∧ cause = 2) ∨ (f = .lockstep ∧ cause = 3) ∨ ((∃ k w, f = .engine k w) ∧ cause = 4) ∨
       ((∃ b, f = .dramFirmware b) ∧ cause = 5) ∨ ((∃ u, f = .sram u) ∧ cause = 6) ∨
       ((∃ n, f = .overTemperature n ∧ overTemperature s.sys.excluded n = true) ∧ cause = 7)) →
     ∃ t : State, exec (.fatalFault f) s = .next t ∧ t.sys.fireStop = true ∧ t.sys.faultN = true ∧
       (s.sys.fatal = none → t.sys.fatal.map (fun x => x.1) = some cause) ∧ (∀ x, s.sys.fatal = some x → t.sys.fatal = some x) ∧
       (s.noClaim = false → t.print.markAll = true ∧ t.gov.zeroed = true ∧ t.gov.duty = 0) ∧
       (f = .firePll → t.time.locked = false ∧ t.time.raw = s.time.raw)) ∧
   (∀ (s : State) (n : Vector Int 8), s.quiet → (∀ i : Fin 8, s.sys.excluded.getLsbD i.val = true ∨ n[i] ≤ 2000) →
     exec (.fatalFault (.overTemperature n)) s = .next s) ∧
   (∀ s : State, s.quiet → s.sys.stage ≠ 1 → exec .firePllRelock s = .next { s with time := { s.time with locked := true } })) ∧
  ((∀ s : State, s.quiet → s.sys.halted = false → s.sys.watchdog = none → 3 ≤ s.sys.stage → ∃ t : State, exec .watchdogExpiry s = .next t ∧
     t.sys.watchdog = some s.sluice.barLine ∧ t.sys.fireStop = true ∧ t.sys.faultN = true ∧ t.serves = false ∧
     (s.noClaim = false → t.print.markAll = true ∧ t.gov.duty = 0) ∧ t.store = s.store ∧ t.lanes = s.lanes ∧ t.dram = s.dram) ∧
   (∀ (s : State) (p o : Option ImageRead), s.sys.restarting = true → ∃ t : State, exec (.watchdogReset p o) s = .next t ∧
     match s.sec.chooseImage p o with
     | none => t.sys.halted = true ∧ t.sys.faultN = true
     | some (i, _) => t.sys.restarting = false ∧
       t.sys.image = some i ∧ t.sys.board = s.sys.board ∧ t.dram = s.dram ∧ t.lanes = s.lanes ∧ t.store.layers = s.store.layers ∧
       (∀ n : Chan, t.host.channels[n].session = s.host.channels[n].session + 1 ∧ t.host.channels[n].inWord = none ∧
         t.host.channels[n].peerReset = true ∧ t.sec.sessions[n] = none) ∧
       (s.sys.watchdog.isSome = true → s.sys.fatal = none → t.sys.fireStop = false ∧ t.sys.faultN = s.sys.stopped ∧
         t.print.markAll = false)))

/-- DORMANT is entered once printing has stopped and the waits of R85 and R353 are over: every vendor lane down, DRAM in self-refresh,
axes not homed; its exit applies the drift and returns to RUN (R594, R614, R615). That the entry clears the axes' ENABLE is the model's
reading (log 59). -/
def Obligations.DormantIsEnteredAndLeft : Prop :=
  (∀ s : State, s.sys.entering ≠ [] → s.sys.power ≠ .dormant → s.mayRest = true →
    ∃ t : State, exec .dormantEntry s = .next t ∧ t.sys.power = .dormant ∧ t.sys.entering = [] ∧ t.dram.selfRefresh = true ∧
      t.time.sync = .free ∧ t.time.raw = s.time.raw ∧ (∀ ax : AxisNo, t.motion.axes[ax].homed = false ∧ t.motion.axes[ax].set.enable = false) ∧
      (∀ n : LaneNo, s.lanes.lanes[n].vendor = true → t.lanes.lanes[n].st = .down) ∧ t.print.queue = s.print.queue) ∧
  (∀ s : State, s.quiet → s.sys.entering = [] ∨ s.mayRest = false → exec .dormantEntry s = .next s) ∧
  (∀ (s : State) (src : PowerSource), s.sys.power = .dormant → s.sys.wake = some src → s.sys.runWaits = [] →
    ∃ (t : State) (readings : List Nat), exec .dormantExit s = .next t ∧ readings.length = s.dram.dqsBase.length ∧ t.sys.power = .run ∧ t.sys.wake = none ∧ t.dram.selfRefresh = false ∧
      t.dram.dqsDrift = (readings.zip s.dram.dqsBase).map (fun p => (p.1 : Int) - p.2) ∧ t.time = s.time ∧ t.print = s.print ∧
      (∀ n : LaneNo, s.lanes.lanes[n].vendor = true → s.lanes.lanes[n].fitted = true → s.lanes.lanes[n].enabled = true →
        s.lanes.lanes[n].st = .down → t.lanes.lanes[n].st = .detect))

/-- The DRAM controller reads and records: the patrol scrub reads the next burst in ascending order unless the urgency level is 2 or 3 or
DRAM is in self-refresh, and counts what it finds: a codeword with one symbol in error is corrected, two or three, the burst of another
address and poison are uncorrectable; each device's drift stands against its baseline; the refresh rate follows each device (R584, R585,
R586, R588, R591, R593, R596). What four or more symbols read as is free (log 5). -/
def Obligations.DramStepsFollowTheController : Prop :=
  (∀ (s : State) (r : DramRead), s.dram.runs = true → s.cist.level < 2 → ∃ t : State, exec (.patrolScrubBurst r) s = .next t ∧
    let b := BitVec.ofNat 30 s.dram.scrubNext
    t.dram.scrubNext = (if s.dram.scrubNext + 1 < s.sys.dramBytes / 64 then s.dram.scrubNext + 1 else 0) ∧
    (b ∉ s.dram.poisoned → r.elsewhere = false → worstCodeword r = 0 → t.dram.corrected = s.dram.corrected ∧
      t.dram.uncorrected = s.dram.uncorrected ∧ t.dram.poisoned = s.dram.poisoned) ∧
    (b ∉ s.dram.poisoned → r.elsewhere = false → worstCodeword r = 1 → t.dram.corrected = min (2 ^ 64 - 1) (s.dram.corrected + 1) ∧
      t.dram.uncorrected = s.dram.uncorrected ∧ t.dram.poisoned = s.dram.poisoned) ∧
    (b ∈ s.dram.poisoned ∨ r.elsewhere = true ∨ worstCodeword r = 2 ∨ worstCodeword r = 3 → t.dram.corrected = s.dram.corrected ∧
      t.dram.uncorrected = min (2 ^ 64 - 1) (s.dram.uncorrected + 1) ∧ b ∈ t.dram.poisoned) ∧
    t.print = s.print ∧ t.time = s.time) ∧
  (∀ (s : State) (r : DramRead), s.quiet → s.dram.runs = false ∨ 2 ≤ s.cist.level → exec (.patrolScrubBurst r) s = .next s) ∧
  (∀ (s : State) (ns : List Nat), s.quiet → s.dram.runs = true → exec (.dqsDriftUpdate ns) s =
    .next { s with dram := { s.dram with dqsDrift := (ns.zip s.dram.dqsBase).map (fun p => (p.1 : Int) - p.2) } }) ∧
  (∀ (s : State) (l : List Bool), s.quiet → s.dram.runs = true → exec (.refreshRateRead l) s =
    .next { s with dram := { s.dram with doubled := l } })

/-! ### Engines, lines, governor and encoders -/

/-- A page's preparation fixes its map, failed set, threshold arrays and gains for good, and an unprepared page changes nothing (R56, R67,
R145, R178, R200). What its reads of DRAM meet changes none of that (R587). An engine's band goes through the steps of R133: each fetch
ends once, verified or with its reason, a lost burst of the index or of the block among them; phase 1 ends when every fetch has; phase 2
waits for the neighbours' edges and the band is handed over, each band in the map of its page; errors corrected in the engine's memory are
counted (R95, R118, R133, R134, R136, R207, R587). The order of the checks on a poisoned block is the model's reading (log 60). -/
def Obligations.PagesArePreparedBandByBand : Prop :=
  ((∀ (s : State) (q : QEntry) (m : NozzleMap), s.mapNext = some m → s.mayPrepareQueue = true → s.nextPage = some q → q.desc.serialised = false →
     ∀ o : ObjectRead, ∃ t : State, exec (.pagePreparation false o) s = .next t ∧ (∃ c, t.eng.queueCtx = some c ∧
       c.desc = ((s.store.page q.desc.id).map (fun e => e.desc)).getD q.desc ∧ c.map = m ∧ c.fresh = s.mapper.published.isSome ∧
       c.forced = s.mapper.forced ∧ c.arrays = s.store.arrays ∧ c.sets = s.store.sets ∧ c.gp = s.cam.gp ∧ c.gl = s.cam.gl ∧
       c.cistern = []) ∧ t.eng.fallbackCtx.map (fun c => c.desc) = s.eng.fallbackCtx.map (fun c => c.desc) ∧ t.sluice = s.sluice) ∧
   (∀ (s : State) (id : PageId) (rate : Nat) (e : PageEntry) (m : NozzleMap), s.mapNext = some m → s.mayPrepareFallback = true →
     s.print.fallback = some (id, rate) → s.store.page id = some e → e.desc.serialised = false →
     ∀ o : ObjectRead, ∃ t : State, exec (.pagePreparation true o) s = .next t ∧ (∃ c, t.eng.fallbackCtx = some c ∧ c.desc = e.desc ∧
       c.map = m ∧ c.arrays = s.store.arrays ∧ c.sets = s.store.sets ∧ c.cistern = []) ∧
       t.print = { s.print with fallbackSerial := none } ∧ t.sluice = s.sluice) ∧
   (∀ (s : State) (fb : Bool) (o : ObjectRead), s.quiet →
     s.mapNext = none ∨ (fb = true ∧ s.mayPrepareFallback = false) ∨ (fb = false ∧ s.mayPrepareQueue = false) →
     exec (.pagePreparation fb o) s = .next s)) ∧
  ((∀ (s : State) (k : EngineNo) (ref : BitVec 9) (second : Bool) (rs : List BurstRead) (fb : Bool) (order : Nat) (c : PageCtx) (w : BandWork)
       (e : Nat × Bool × Nat × LayerDesc),
     s.eng.engines[k].busy = some (fb, order) → s.eng.ctx fb = some c → c.planned s.store.layers k order ref.toNat second = some e →
     c.bands.find? (fun w => w.order == order) = some w → w.phase1[k] = none →
     w.fetches.any (fun f => f.seg == k && f.ref == e.1 && f.second == second) = false →
     let rd := s.fetchReads c k e rs
     let i := s.readBursts rd.1
     ∃ (t : State) (c' : PageCtx) (f : Fetch), exec (.blockFetchDone k ref second rs) s = .next t ∧ t.eng.ctx fb = some c' ∧
       c'.bands.find? (fun w => w.order == order) = some { w with fetches := w.fetches ++ [f] } ∧
       f.seg = k ∧ f.ref = ref.toNat ∧ f.second = second ∧
       (match c.fetchResult s.store.layers k e (!i.2.isEmpty) (!(i.1.readBursts rd.2).2.isEmpty) with
         | .ok ws => f.reason = 0 ∧ f.words = ws ∧ c'.bad = c.bad
         | .error n => f.reason = n ∧ f.words = []) ∧
       (i.2 ≠ [] → f.reason = 10) ∧ (rd = ([], []) → t.dram = s.dram) ∧
       t.eng.ctx (!fb) = s.eng.ctx (!fb) ∧ t.eng.engines = s.eng.engines ∧ t.print = s.print) ∧
   (∀ (s : State) (k : EngineNo) (sram : List (BitVec 16)) (fb : Bool) (order : Nat) (c : PageCtx) (w : BandWork),
     s.eng.engines[k].busy = some (fb, order) → s.eng.ctx fb = some c → c.bands.find? (fun w => w.order == order) = some w →
     let u : State := { s with sys := { s.sys with
       sramErrors := upd s.sys.sramErrors k (fun n => min (2 ^ 64 - 1) (n + sram.length)) } }
     (w.phase1[k] = none → c.fetchesDone s.store.layers k w = true → s.quiet → exec (.engineEdgeExchange ⟨k, sram⟩) s =
       .next (u.setCtx fb (fun c => c.setBand order (fun w => { w with phase1 := w.phase1.set k (some (s.composePhase1 c w k.val)) })))) ∧
     (c.fetchesDone s.store.layers k w = false → s.quiet → exec (.engineEdgeExchange ⟨k, sram⟩) s = .next u) ∧
     (w.phase2[k] = none → w.edgesIn k = true → c.mapperFree order = true → order < c.next[k] → ∃ (t : State) (c' : PageCtx) (w' : BandWork),
       exec (.engineBandHandover ⟨k, sram⟩) s = .next t ∧ t.eng.ctx fb = some c' ∧ c'.bands.find? (fun w => w.order == order) = some w' ∧
       w'.phase2[k] = some (phase2Codes c (fun i => w.phase1.toList.getD i none) k.val) ∧ w'.phase1 = w.phase1 ∧
       t.eng.engines[k].busy ≠ some (fb, order) ∧ (∀ j : EngineNo, j ≠ k → t.eng.engines[j] = s.eng.engines[j] ∧ w'.phase2[j] = w.phase2[j]) ∧
       (c.desc.inspect = false → t.eng.density = s.eng.density) ∧ t.sys = u.sys ∧ t.print = s.print) ∧
     (w.edgesIn k = false → s.quiet → exec (.engineBandHandover ⟨k, sram⟩) s = .next u)) ∧
   (∀ (s : State) (c : PageCtx) (w : BandWork), s.eng.queueCtx = some c → c.wholeBand = some w → s.slotFree false c w.order = true →
     ∃ (t : State) (c' : PageCtx), exec .mapperWriteDone s = .next t ∧ t.eng.queueCtx = some c' ∧
       c'.bands = c.bands.filter (fun x => x.order != w.order) ∧ c'.cistern.getLast? = some (s.cisternBand c w) ∧
       t.eng.fallbackCtx = s.eng.fallbackCtx ∧ t.eng.engines = s.eng.engines ∧ t.print = s.print))

/-- The core blocks take the bar lines the sluice has allocated one at a time, and nothing while none is waiting (R14). A MARK_MISS pulse
ends on its own output alone (R68); a tickle goes to every port in use once no line waits to fire; the hold limit interrupts a page
PRINTING once in a stop, and never the fallback page (R66, R247, R248). -/
def Obligations.BarLinesAreTakenOneByOne : Prop :=
  (∀ (s : State) (a : Word), s.print.started = true → s.sluice.coreLine < s.sluice.barLine →
    ∃ t : State, exec (.lineBoundary a) s = .next t ∧ t.sluice.coreLine = s.sluice.coreLine + 1 ∧ t.sluice.barLine = s.sluice.barLine ∧
      t.time = (s.reach a).time ∧ t.lanes = s.lanes) ∧
  (∀ (s : State) (a : Word), s.quiet → s.print.started = false ∨ s.sluice.barLine ≤ s.sluice.coreLine →
    ∃ t : State, exec (.lineBoundary a) s = .next t ∧ t.sluice = s.sluice ∧ t.print = s.print ∧ t.time = (s.reach a).time ∧
      t.eng = s.eng ∧ t.cist = s.cist ∧ t.gov = s.gov) ∧
  (∀ (s : State) (n : TrigNo), s.quiet → exec (.markMissPulseEnd n) s = .next (s.setTrig n (fun t => { t with asserted := false }))) ∧
  (∀ (s : State) (a : Word), s.print.started = true → (s.reach a).retire.sluice.lines = [] → s.silenced = false →
    ∃ t : State, exec (.keepWetTickle a) s = .next t ∧ t.sluice.tickled = some (s.reach a).time.raw ∧ t.sluice.wetTold = true ∧
      (∀ p : HeadPort, s.portUsed p = true → tickleItem ∈ t.heads.ports[p].queue) ∧ t.sluice.barLine = s.sluice.barLine ∧ t.print = s.print) ∧
  (∀ (s : State) (sp : Span), s.print.span = some sp → sp.fallback = false → s.sluice.holdTold = false → s.shadow = false → sp.desc.holdAbort = false →
    ∃ (t : State) (sp' : Span), exec .holdLimitExpiry s = .next t ∧ t.print.span = some sp' ∧ sp'.interrupted = true ∧
      sp'.abort = sp.abort ∧ sp'.last = sp.last ∧ t.sluice = { s.sluice with holdTold := true }) ∧
  (∀ (s : State) (sp : Span), s.quiet → s.print.span = some sp → sp.fallback = true ∨ s.sluice.holdTold = true →
    exec .holdLimitExpiry s = .next { s with sluice := { s.sluice with holdTold := true } }) ∧
  (∀ s : State, s.quiet → s.print.span = none → exec .holdLimitExpiry s = .next s)

/-- A qualified product-detect edge wakes a sleeping device, is ignored on an input that is not enabled, is refused where sixteen starts
are pending or the start is too early, and otherwise binds the first eligible page to trigger line + D (R61, R62, R614). With no page
started the trailing edge counts as line −1 (log 61). -/
def Obligations.ProductDetectBindsAPage : Prop :=
  (∀ (s : State) (n : TrigNo), s.quiet → s.asleep = true → exec (.productDetect n) s =
    .next { s with sys := { s.sys with wake := some (s.sys.wake.getD (.ptrig n)) } }) ∧
  (∀ (s : State) (n : TrigNo), s.quiet → s.asleep = false →
    s.print.started = false ∨ s.print.stopping = true ∨ s.print.trigMode = false ∨ s.print.trigEnable.getLsbD n.val = false → exec (.productDetect n) s = .next s) ∧
  (∀ (s : State) (n : TrigNo), s.asleep = false → s.print.started = true → s.print.stopping = false → s.print.trigMode = true →
    s.print.trigEnable.getLsbD n.val = true → s.shadow = false →
    let start := s.sluice.barLine + s.print.trigs[n].set.delay
    (16 ≤ s.print.trigs[n].pending.length ∨ start < s.lastEdge + 96 → ∃ t : State, exec (.productDetect n) s = .next t ∧
      t.print.bounds = s.print.bounds ∧ t.print.queue = s.print.queue ∧ t.print.trigs[n].pending = s.print.trigs[n].pending) ∧
    (∀ q, s.print.trigs[n].pending.length < 16 → s.lastEdge + 96 ≤ start → s.unbound = some q → q.held = none →
      q.eligible s.sluice.barLine = true → ∃ t : State, exec (.productDetect n) s = .next t ∧
        (∃ before after, s.print.bounds = before ++ after ∧ t.print.bounds = before ++ ⟨n, start, some q.desc.id⟩ :: after ∧
          ∀ b ∈ before, b.start ≤ start) ∧
        (∃ before after, s.print.trigs[n].pending = before ++ after ∧ t.print.trigs[n].pending = before ++ start :: after ∧
          ∀ l ∈ before, l ≤ start) ∧
        (∃ q' ∈ t.print.queue, q'.desc = q.desc ∧ q'.start = some start ∧ q'.bound = some n) ∧ t.sluice.barLine = s.sluice.barLine))

/-- SPDLIM takes the limit and frequency at the start of a period while this device drives it; HOLD_REQ is released when no cause remains;
an output begins to be driven once; a peer's message of a newer SEQ replaces the one kept, and is dropped when it expires (R221, R222,
R225, R468, R629). The number of the first message is a free choice (log 4). -/
def Obligations.GovernorOutputsAndPeers : Prop :=
  (∀ s : State, s.quiet → s.pair.driving = true → exec .spdlimPeriod s =
    .next { s with gov := { s.gov with duty := s.gov.dutyNow, pwmNow := s.gov.pwmHz } }) ∧
  (∀ s : State, s.quiet → s.pair.driving = false → exec .spdlimPeriod s = .next s) ∧
  (∀ (s : State) (c : Nat), s.gov.releaseWait = some c → s.gov.holdReq = true → s.gov.causes = 0 → ∃ t : State, exec .holdReqRelease s = .next t ∧
    t.gov = { s.gov with holdReq := false, releaseWait := none } ∧ t.print = s.print) ∧
  (∀ s : State, s.quiet → s.gov.causes ≠ 0 → exec .holdReqRelease s = .next s) ∧
  (∀ s : State, s.quiet → s.pair.drivePending = true → ∃ t : State, exec .drivingBegins s = .next t ∧ t.pair.driving = true ∧
    t.pair.drivePending = false ∧ t.gov.duty = s.gov.dutyNow ∧ t.gov.limit = s.gov.limit ∧ t.print = s.print) ∧
  (∀ (s : State) (src : NodeNo) (w : Word), src ≠ 0 → s.gov.peers.contains src = true →
    (∀ q, s.gov.lastSeq.find? (fun k => k.1 == src) = some q → seqAfter (BitVec.ofNat 16 (bits w 31 16)) q.2 = true) →
    ∃ t : State, exec (.governorMessage src w) s = .next t ∧
      t.gov.kept.find? (fun k => k.node == src) = some ⟨src, 2000 * bits w 7 0, bitAt w 12, BitVec.ofNat 16 (bits w 31 16)⟩ ∧
      t.gov.limit = s.gov.limit ∧ t.print = s.print) ∧
  (∀ (s : State) (src : NodeNo) (w : Word), s.quiet → src = 0 ∨ s.gov.peers.contains src = false → exec (.governorMessage src w) s =
    .next (s.takeFrame 2 [w])) ∧
  (∀ s : State, s.noClaim = false → ∃ t : State, exec .governorMessageSend s = .next t ∧ t.gov.seq = s.gov.seq + 1 ∧
    t.gov.limit = s.gov.limit ∧ t.print = s.print) ∧
  (∀ (s : State) (src : NodeNo), s.gov.kept.any (fun k => k.node == src) = true → ∃ t : State, exec (.governorPeerLost src) s = .next t ∧
    t.gov.kept = s.gov.kept.filter (fun k => k.node != src) ∧ t.print = s.print)

/-- An ADC sample outside the window leaves the position where it is; one inside it moves the position by the phase step, in the sense of
DIR_INVERT (R306, R307, R308). A level that has held for FILTER samples qualifies (R310); each qualified change of one line counts one,
and an impossible transition counts nothing but QUAD_COUNT (R311). An interface in another mode takes neither (R304). A fault that opens
changes nothing of the sluice but a switch to the other interface (R322). A φ that falls between two codes rounds either way (log 16). -/
def Obligations.EncodersCountTheirInputs : Prop :=
  (∀ (s : State) (e : EncNo) (a b : BitVec 14), s.quiet → s.enc.encs[e].mode ≠ .analogue → exec (.encoderAdcSample e a b) s = .next s) ∧
  (∀ (s : State) (e : EncNo) (a b : BitVec 14), s.enc.encs[e].mode = .analogue →
    let i := s.enc.encs[e]
    let p := trimmed i.trim a b
    let out : Prop := amplitudeSq p < (i.sigMin * 2 ^ 30) ^ 2 ∨ (i.sigMax * 2 ^ 30) ^ 2 < amplitudeSq p
    ∃ (t : State) (up : Bool), exec (.encoderAdcSample e a b) s = .next t ∧
      (out → t.enc.encs[e].position = i.position ∧ t.enc.encs[e].phiPrev = i.phiPrev ∧ t.enc.encs[e].sigLoss = true ∧
        t.enc.encs[e].lossEp = true) ∧
      (¬ out → t.enc.encs[e].position = i.position + BitVec.ofInt 64 (i.sense (phaseStep (phase12 p.1 p.2 up) i.phiPrev)) ∧
        t.enc.encs[e].phiPrev = phase12 p.1 p.2 up ∧ t.enc.encs[e].sigLoss = i.sigLoss ∧
        t.enc.encs[e].overrate = (i.overrate || decide (1024 < (phaseStep (phase12 p.1 p.2 up) i.phiPrev).natAbs))) ∧
      (∀ k : EncNo, k ≠ e → t.enc.encs[k] = s.enc.encs[k]) ∧ t.sluice = { s.sluice with switchTo := t.sluice.switchTo } ∧
      t.print = s.print) ∧
  (∀ (s : State) (e : EncNo) (a b : Bool) (ha hb : Nat), s.quiet → s.enc.encs[e].mode ≠ .digital →
    exec (.quadratureTransition e ⟨a, ha⟩ ⟨b, hb⟩) s = .next s) ∧
  (∀ (s : State) (e : EncNo) (a b : Bool) (ha hb : Nat), s.enc.encs[e].mode = .digital →
    let i := s.enc.encs[e]
    let a' := if i.filter ≤ ha then a else i.a
    let b' := if i.filter ≤ hb then b else i.b
    ∃ t : State, exec (.quadratureTransition e ⟨a, ha⟩ ⟨b, hb⟩) s = .next t ∧ t.enc.encs[e].a = a' ∧ t.enc.encs[e].b = b' ∧
      ((a', b') = (i.a, i.b) → t.enc.encs[e].position = i.position ∧ t.enc.encs[e].quadCount = i.quadCount) ∧
      ((a', b') = quadNext i.a i.b true → t.enc.encs[e].position = i.position + BitVec.ofInt 64 (i.sense 1) ∧
        t.enc.encs[e].quadCount = i.quadCount) ∧
      ((a', b') = quadNext i.a i.b false → t.enc.encs[e].position = i.position + BitVec.ofInt 64 (i.sense (-1)) ∧
        t.enc.encs[e].quadCount = i.quadCount) ∧
      ((a' ≠ i.a ∧ b' ≠ i.b) → t.enc.encs[e].position = i.position ∧ t.enc.encs[e].quadCount = min 65535 (i.quadCount + 1) ∧
        t.enc.encs[e].quadErr = true) ∧
      (∀ k : EncNo, k ≠ e → t.enc.encs[k] = s.enc.encs[k]) ∧ t.sluice = { s.sluice with switchTo := t.sluice.switchTo } ∧
      t.print = s.print)

/-- An index event is a rise of IDX, once its level has held for FILTER samples; after a decreasing count it is ignored (R310, R316). The
first one sets the angle to 0, and each later one is judged by its deviation, in analogue mode with the counts from the last sample to the
event, without moving the position (R316, R317, R318). A restored signal ends its episode (R308). A relay emits one owed transition at a
time in its sense (R327). A forbidden combination of a switch set begins one episode (R325). Each update moves the tracking loop of its
own interface as R234 states; only that of the encoder in use can allocate a bar line, at most one, while printing is started (R234,
R235). REST entry takes the raw position as the hysteresis position (R243). The rounding inside the loop is a free choice (log 11). -/
def Obligations.IndexRelaysAndTrackingLoops : Prop :=
  ((∀ (s : State) (e : EncNo) (l : Bool) (h : Nat) (n : Fin 51), s.quiet → s.enc.encs[e].mode = .off →
     exec (.indexEvent e ⟨⟨l, h⟩, n⟩) s = .next s) ∧
   (∀ (s : State) (e : EncNo) (l : Bool) (h : Nat) (n : Fin 51), s.enc.encs[e].mode ≠ .off →
     let i := s.enc.encs[e]
     let idx := if i.filter ≤ h then l else i.idx
     let rise : Prop := xor i.idx i.idxLow = false ∧ xor idx i.idxLow = true ∧ i.lastUp = true
     (¬ rise → s.quiet → exec (.indexEvent e ⟨⟨l, h⟩, n⟩) s =
       .next { s with enc := { s.enc with encs := upd s.enc.encs e (fun i => { i with idx := idx }) } }) ∧
     (rise → ∃ (t : State) (ahead : Int), exec (.indexEvent e ⟨⟨l, h⟩, n⟩) s = .next t ∧ (i.mode = .digital → ahead = 0) ∧
       (i.mode = .analogue → (50 * ahead - i.lastDelta * n.val).natAbs ≤ 25) ∧
       let d := indexDeviation i.cpr (moveAngle i.cpr i.angle ahead)
       t.enc.encs[e].position = i.position ∧ t.enc.encs[e].idx = idx ∧
       (i.cpr ≠ 0 → i.referenced = false → t.enc.encs[e].angle = 0 ∧ t.enc.encs[e].referenced = true) ∧
       (i.cpr ≠ 0 → i.referenced = true → d = 0 → t.enc.encs[e].pending = none ∧ t.enc.encs[e].angle = i.angle) ∧
       (i.cpr ≠ 0 → i.referenced = true → d ≠ 0 → d.natAbs ≤ i.idxTol → s.print.started = true ∨ i.reref = false →
         t.enc.encs[e].pending = some d ∧ t.enc.encs[e].angle = i.angle) ∧
       (i.cpr ≠ 0 → i.referenced = true → d ≠ 0 → d.natAbs ≤ i.idxTol → s.print.started = false → i.reref = true →
         t.enc.encs[e].pending = none ∧ t.enc.encs[e].angle = moveAngle i.cpr i.angle (-d)) ∧
       (i.cpr ≠ 0 → i.referenced = true → i.idxTol < d.natAbs → t.enc.encs[e].indexFault = true ∧ t.enc.encs[e].pending = i.pending ∧
         t.enc.encs[e].angle = i.angle) ∧
       (∀ k : EncNo, k ≠ e → t.enc.encs[k] = s.enc.encs[k]) ∧ t.sluice = s.sluice ∧ t.print = s.print)) ∧
   (∀ (s : State) (e : EncNo), s.enc.encs[e].lossEp = true → ∃ t : State, exec (.encSignalRestored e) s = .next t ∧
     t.enc.encs[e] = { s.enc.encs[e] with lossEp := false } ∧ t.sluice = s.sluice ∧ t.print = s.print) ∧
   (∀ (s : State) (e : EncNo), s.quiet → s.enc.encs[e].relay = .off ∨ s.enc.encs[e].owed = 0 → exec (.relayTransition e) s = .next s) ∧
   (∀ (s : State) (e : EncNo), s.enc.encs[e].relay ≠ .off → s.enc.encs[e].owed ≠ 0 →
     let i := s.enc.encs[e]
     let up := decide (0 < i.owed)
     ∃ t : State, exec (.relayTransition e) s = .next t ∧ (t.enc.encs[e].outA, t.enc.encs[e].outB) = quadNext i.outA i.outB up ∧
       t.enc.encs[e].owed = i.owed - (if up then 1 else -1) ∧ t.enc.encs[e].position = i.position ∧ t.sluice = s.sluice ∧
       t.print = s.print) ∧
   (∀ (s : State) (j : Fin 5) (i : SwitchNo × SwitchNo × SwitchNo), s.enc.sets[j].inputs = some i → s.enc.sets[j].allowed.getLsbD (s.setValue i) = false →
     s.enc.sets[j].runs s.time.raw = false → ∃ t : State, exec (.switchSetBad j) s = .next t ∧ t.enc.sets[j].episode = true ∧
       t.enc.encs = s.enc.encs ∧ (s.enc.sets[j].stop = false → t.motion = s.motion) ∧ t.print = s.print) ∧
   (∀ (s : State) (j : Fin 5), s.quiet → s.enc.sets[j].inputs = none → exec (.switchSetBad j) s = .next s)) ∧
  ((∀ (s : State) (e : EncNo) (a : Word), s.quiet → s.enc.encs[e].mode = .off → ∃ t : State,
     exec (.trackingLoopUpdate e a) s = .next t ∧ t.sluice = s.sluice ∧ t.enc = s.enc ∧ t.print = s.print ∧ t.time = (s.reach a).time) ∧
   (∀ (s : State) (e : EncNo) (a : Word), s.enc.encs[e].mode ≠ .off →
     let i := s.enc.encs[e]
     ∃ t : State, exec (.trackingLoopUpdate e a) s = .next t ∧
       t.sluice.loops[e] = s.sluice.loops[e].update s.sluice.set.alpha s.sluice.set.beta i.position.toInt i.mode.period s.free ∧
       (∀ k : EncNo, k ≠ e → t.sluice.loops[k] = s.sluice.loops[k]) ∧ t.enc.encs = s.enc.encs ∧ t.sluice.set = s.sluice.set ∧
       (t.sluice.barLine = s.sluice.barLine ∨ t.sluice.barLine = s.sluice.barLine + 1) ∧
       (s.print.started = false ∨ s.silenced = true ∨ e ≠ s.sluice.source → t.sluice.barLine = s.sluice.barLine) ∧
       t.sluice.coreLine = s.sluice.coreLine) ∧
   (∀ s : State, ∃ t : State, exec .restEntry s = .next t ∧
     t.sluice.loops[s.sluice.source].rest = true ∧ t.sluice.loops[s.sluice.source].hyst = s.enc.encs[s.sluice.source].position.toInt ∧
     t.sluice.loops[s.sluice.source].xh = s.sluice.loops[s.sluice.source].xh ∧
     (∀ k : EncNo, k ≠ s.sluice.source → t.sluice.loops[k] = s.sluice.loops[k]) ∧ t.enc = s.enc ∧ t.print = s.print))

/-! ### Head links and lanes -/

/-- What a head driver reports enters the state of its own port, and no other's but for blocks that leave there; a block of another TYPE,
or on a port that is not ACTIVE, has no effect (R257 to R259, R268, R294, R295, R298, R299, R303). A probe is sent in ACTIVE, and at most
sixteen times in CAPS; its echo gives (t_echo − t_d − TURN) as a measurement of λ, in ACTIVE the median of the last five; an unanswered
probe is dropped (R287, R288). STATUS goes to every port in use and carries the announced claim; a device that is no redundancy unit takes
its claim then, and none is sent while token issue is stopped (R281, R282, R611). That JTAG and a fatal stop silence STATUS as well is the
model's reading (log 37); the median of an even number of measurements is log 13. -/
def Obligations.HeadReportsAndProbes : Prop :=
  ((∀ (s : State) (p : HeadPort) (w : Word) (d : Option Word), s.quiet →
     (bits w 7 0 ≠ 0x80 ∨ s.headActive p = false → exec (.alive p w) s = .next s) ∧
     (bits w 7 0 ≠ 0x81 ∨ s.headActive p = false → exec (.lineAck p w) s = .next s) ∧
     (bits w 7 0 ≠ 0x82 ∨ s.headActive p = false → exec (.temp p w) s = .next s) ∧
     (bits w 7 0 ≠ 0x84 ∨ s.headActive p = false → exec (.hdEvent p w) s = .next s) ∧
     (bits w 7 0 ≠ 0x90 ∨ (s.headActive p = false ∧ s.headInCaps p = false) → exec (.caps p w d) s = .next s)) ∧
   (∀ (s : State) (p : HeadPort) (w : Word), s.headActive p = true →
     (bits w 7 0 = 0x80 → ∃ t : State, exec (.alive p w) s = .next t ∧ t.heads.ports[p].alive = true ∧ t.heads.ports[p].silent = false ∧
       t.heads.ports[p].selected = bitAt w 9 ∧ t.heads.ports[p].stopped = bitAt w 10 ∧
       t.heads.ports[p].maxClaim = BitVec.ofNat 32 (bits w 63 32) ∧ (∀ q : HeadPort, q ≠ p →
         { t.heads.ports[q] with queue := s.heads.ports[q].queue, slot := s.heads.ports[q].slot, skipFrom := s.heads.ports[q].skipFrom } =
           s.heads.ports[q]) ∧ t.print = s.print) ∧
     (s.heads.ports[p].silent = false → ∃ t : State, exec (.aliveTimeout p) s = .next t ∧ t.heads.ports[p].alive = false ∧
       t.heads.ports[p].silent = true ∧ (∀ q : HeadPort, q ≠ p → t.heads.ports[q] = s.heads.ports[q]) ∧ t.print = s.print) ∧
     (bits w 7 0 = 0x81 → ∃ t : State, exec (.lineAck p w) s = .next t ∧
       (bitAt w 25 = false → s.heads.ports[p].fires.contains (expandLine s.sluice.barLine (bits w 23 8)) = true →
         t.heads.ports[p].miss = some 0) ∧
       (bitAt w 25 = true → s.heads.ports[p].miss = none → t.heads.ports[p].miss = none) ∧
       (bitAt w 29 = true → bitAt w 30 = false → t.heads.ports[p].disagree = some 0) ∧
       t.heads.ports[p].lam = s.heads.ports[p].lam ∧ (∀ q : HeadPort, q ≠ p → t.heads.ports[q] = s.heads.ports[q]) ∧ t.print = s.print) ∧
     (bits w 7 0 = 0x82 → ∃ t : State, exec (.temp p w) s = .next t ∧
       (s.sluice.set.temps[p].hard ≤ sbits w 31 24 → t.sluice.temps[p].hard = true ∧ t.sluice.temps[p].warn = true) ∧
       (sbits w 31 24 < s.sluice.set.temps[p].hard → s.sluice.set.temps[p].warn ≤ sbits w 31 24 →
         t.sluice.temps[p].warn = true ∧ t.sluice.temps[p].hard = s.sluice.temps[p].hard) ∧
       (sbits w 31 24 < s.sluice.set.temps[p].hard → sbits w 31 24 < s.sluice.set.temps[p].warn →
         (sbits w 31 24 ≤ s.sluice.set.temps[p].warn - s.sluice.set.hyst →
           t.sluice.temps[p].warn = false ∧ t.sluice.temps[p].hard = false) ∧
         (s.sluice.set.temps[p].warn - s.sluice.set.hyst < sbits w 31 24 → t.sluice.temps[p] = s.sluice.temps[p])) ∧
       (∀ q : HeadPort, q ≠ p → t.sluice.temps[q] = s.sluice.temps[q]) ∧ t.heads = s.heads) ∧
     (bits w 7 0 = 0x84 → ∃ t : State, exec (.hdEvent p w) s = .next t ∧ t.heads = s.heads ∧ t.sluice = s.sluice ∧ t.print = s.print ∧
       (bits w 15 8 = 0 → s.quiet → t = s))) ∧
   (∀ (s : State) (p : HeadPort) (w : Word), bits w 7 0 = 0x90 → s.headActive p = true ∨ s.headInCaps p = true →
     (∀ d, ∃ t : State, exec (.caps p w (some d)) s = .next t ∧ t.heads.ports[p].caps = some (parseCaps w d) ∧
       t.heads.ports[p].capsSeen = true ∧ (∀ q : HeadPort, q ≠ p → t.heads.ports[q] = s.heads.ports[q]) ∧ t.print = s.print) ∧
     (∃ t : State, exec (.caps p w none) s = .next t ∧ t.heads = s.heads ∧ t.print = s.print ∧
       t.lanes.lanes[headLane p].frameErr = min 65535 (s.lanes.lanes[headLane p].frameErr + 1)))) ∧
  ((∀ (s : State) (p : HeadPort) (n : Nat),
     (s.headActive p = true ∨ (s.headInCaps p = true ∧ s.heads.ports[p].capsSent < 16) → ∃ t : State,
       exec (.latProbeSend p n) s = .next t ∧ t.heads.ports[p].probes = s.heads.ports[p].probes ++ [(s.heads.ports[p].probeSeq, n)] ∧
       t.heads.ports[p].probeSeq = s.heads.ports[p].probeSeq + 1 ∧ probeItem s.heads.ports[p].probeSeq ∈ t.heads.ports[p].queue ∧
       t.heads.ports[p].capsSent = s.heads.ports[p].capsSent + (if s.headInCaps p = true then 1 else 0) ∧
       (∀ q : HeadPort, q ≠ p → t.heads.ports[q] = s.heads.ports[q]) ∧ t.print = s.print) ∧
     (s.quiet → s.headActive p = false → s.headInCaps p = false ∨ 16 ≤ s.heads.ports[p].capsSent →
       exec (.latProbeSend p n) s = .next s)) ∧
   (∀ (s : State) (p : HeadPort) (q : Byte), ∃ t : State, exec (.latProbeTimeout p q) s = .next t ∧
     t.heads.ports[p].probes = s.heads.ports[p].probes.filter (fun x => x.1 != q) ∧
     (∀ k : HeadPort, k ≠ p → t.heads.ports[k] = s.heads.ports[k]) ∧ t.print = s.print) ∧
   (∀ (s : State) (p : HeadPort) (w : Word) (a : Nat) (x : Byte × Nat), bits w 7 0 = 0x87 → s.headActive p = true →
     s.heads.ports[p].probes.find? (fun y => y.1 == BitVec.ofNat 8 (bits w 15 8)) = some x →
     ∃ t : State, exec (.latEcho p w a) s = .next t ∧
       t.heads.ports[p].meas = (a - x.2 - bits w 39 16) :: s.heads.ports[p].meas.take 4 ∧
       t.heads.ports[p].lam = median ((a - x.2 - bits w 39 16) :: s.heads.ports[p].meas.take 4) ∧
       (∀ k : HeadPort, k ≠ p → t.heads.ports[k] = s.heads.ports[k]) ∧ t.print = s.print) ∧
   (∀ (s : State) (p : HeadPort) (w : Word) (a : Nat), s.quiet →
     bits w 7 0 ≠ 0x87 ∨ s.heads.ports[p].probes.find? (fun y => y.1 == BitVec.ofNat 8 (bits w 15 8)) = none →
     exec (.latEcho p w a) s = .next s) ∧
   (∀ s : State, ∃ t : State, exec .statusSend s = .next t ∧
     (s.silenced = false → ∀ p : HeadPort, s.portUsed p = true →
       statusItem (statusBlock (s.pair.paired && s.pair.unitB) s.pair.paired t.heads.fromLine t.heads.claim) ∈ t.heads.ports[p].queue) ∧
     (s.silenced = true → s.quiet → t.sent = s.sent) ∧
     (s.pair.paired = false → s.heads.ownClaim = false → s.headsAlive = true → t.heads.ownClaim = true ∧
       t.pair.claim = s.pair.highest + 1) ∧ (∀ q : HeadPort,
         { t.heads.ports[q] with queue := s.heads.ports[q].queue, slot := s.heads.ports[q].slot, skipFrom := s.heads.ports[q].skipFrom } =
           s.heads.ports[q]) ∧ t.print = s.print))

/-- WAVE_LOAD queues its table on every port it names; a port's oldest load leaves once no page uses its depth, and ends at its WAVE_ACK
or 10 ms after it, refused loads and missing acks being counted against the command (R291 to R293, R545). -/
def Obligations.WaveformLoadsGoToTheirPorts : Prop :=
  (∀ (s : State) (c : Cmd), Runs s 0x1A true false c →
    let n := bits (c.dw 3) 14 0
    let depth := bits (c.dw 1) 1 0
    (bits (c.dw 2) 5 0 ≠ 0 ∨ depth = 3 ∨ n = 0 ∨ 16384 < n → exec (.waveLoad c) s = .next ((s.start c).reply c 0x1A .argBad 0)) ∧
    (bits (c.dw 2) 5 0 = 0 → depth ≠ 3 → 1 ≤ n → n ≤ 16384 → (∃ p : HeadPort, (bits (c.dw 0) 31 0).testBit p.val = true) →
      (∀ p : HeadPort, (bits (c.dw 0) 31 0).testBit p.val = true → s.headActive p = true) →
      ∃ t : State, exec (.waveLoad c) s = .next t ∧ t.heads.waveWaits = s.heads.waveWaits ++ [⟨c.origin, c.tag, 0⟩] ∧
        (∀ p : HeadPort, t.heads.ports[p].waves = (if (bits (c.dw 0) 31 0).testBit p.val then
          s.heads.ports[p].waves ++ [⟨s.heads.ports[p].waveSeq, depth, slice (c.table 0) 0 n, false, c.origin, c.tag⟩]
          else s.heads.ports[p].waves)) ∧ t.print = s.print)) ∧
  (∀ (s : State) (p : HeadPort) (w : WaveLoad), s.quiet → s.headActive p = true →
    s.heads.ports[p].waves.find? (fun w => !w.sent && !s.depthInUse w.depth) = some w →
    ∃ t : State, exec (.waveLoadSend p) s = .next t ∧ t.heads.ports[p].waves = s.heads.ports[p].waves.map (fun x =>
      if x.seq = w.seq then { x with sent := true } else x) ∧ waveItem w ∈ t.heads.ports[p].queue ∧
      (∀ q : HeadPort, q ≠ p → t.heads.ports[q] = s.heads.ports[q]) ∧ t.heads.waveWaits = s.heads.waveWaits ∧ t.print = s.print) ∧
  (∀ (s : State) (p : HeadPort), s.quiet → s.headActive p = false ∨
    s.heads.ports[p].waves.find? (fun w => !w.sent && !s.depthInUse w.depth) = none → exec (.waveLoadSend p) s = .next s) ∧
  (∀ (s : State) (p : HeadPort) (b : Word) (w : WaveLoad) (i : Instr) (bad : Bool),
    (i = .waveAck p b ∧ bits b 7 0 = 0x83 ∧ s.headActive p = true ∧ bad = !bitAt b 10 ∧ s.heads.ports[p].waves.find? (fun w =>
      w.sent && w.seq.toNat == bits b 23 16 && w.depth == bits b 9 8) = some w) ∨
    (i = .waveAckTimeout p ∧ bad = true ∧ s.heads.ports[p].waves.find? (fun w => w.sent) = some w) →
    ∃ t : State, exec i s = .next t ∧ t.heads.ports[p].waves = s.heads.ports[p].waves.filter (fun x => x.seq != w.seq) ∧
      (∀ q : HeadPort, q ≠ p → t.heads.ports[q] = s.heads.ports[q]) ∧
      ((∃ q : HeadPort, ∃ x ∈ t.heads.ports[q].waves, x.origin = w.origin ∧ x.tag = w.tag) →
        t.heads.waveWaits = s.heads.waveWaits.map (fun (x : WaveWait) => if bad && (x.origin == w.origin && x.tag == w.tag) then
          { x with failed := x.failed ||| (1#32 <<< p.val) } else x)) ∧ t.print = s.print)

/-- A vendor lane goes through the states of R416 to R419: two detections or 1 µs of training blocks begin an attempt, CDR lock and block
lock carry it on, a failure waits with its place in the backoff cycle, and an ACTIVE lane that loses its partner goes to DETECT. No other
lane moves (R415 to R419, R425, R426). What a lane's state does not take leaves the device as it was (R416, R418, R419). -/
def Obligations.LaneBringUpFollowsItsStates : Prop :=
  (∀ (s : State) (n : LaneNo), s.lanes.lanes[n].vendor = true →
     let l := s.lanes.lanes[n]
     let goes (i : Instr) (P : LaneState → Prop) : Prop :=
       ∃ t : State, exec i s = .next t ∧ P t.lanes.lanes[n] ∧ (∀ m : LaneNo, m ≠ n → t.lanes.lanes[m] = s.lanes.lanes[m]) ∧ t.print = s.print
     (l.st = .detect → goes (.receiverDetectPulse n false) (fun x => x.st = .detect ∧ x.detections = 0 ∧ x.backoff = 0)) ∧
     (l.st = .detect → l.detections = 0 → goes (.receiverDetectPulse n true) (fun x => x.st = .detect ∧ x.detections = 1)) ∧
     (l.st = .detect → l.detections ≠ 0 → goes (.receiverDetectPulse n true) (fun x => x.st = .train)) ∧
     (l.st = .train → goes (.cdrLock n) (fun x => x.st = .lock ∧ x.blockLock = false)) ∧
     (∀ (sync : BitVec 2) (b : Word) (k inv st), trainingOf sync b = some (inv, st) →
       (243 ≤ k → l.st = .detect ∨ l.st = .wait → goes (.trainingBlock n sync b k) (fun x => x.st = .train)) ∧
       (64 ≤ k → l.st = .lock → inv = false → st = 3 → goes (.trainingBlock n sync b k) (fun x => x.st = .caps ∧ x.blockLock = true)) ∧
       (64 ≤ k → l.st = .lock → inv = true → l.blockLock = false → l.tried = false →
         goes (.trainingBlock n sync b k) (fun x => x.st = .lock ∧ x.inverted = !l.inverted ∧ x.tried = true)) ∧
       (0 < k → l.st = .active → goes (.trainingBlock n sync b k) (fun x => x.st = .detect ∧ x.backoff = 0))) ∧
     (∀ i, (i = .laneStateTimeout n ∨ i = .electricalIdle n) → l.st = .train ∨ l.st = .lock ∨ l.st = .caps →
       goes i (fun x => x.st = .wait ∧ x.trainFails = min 65535 (l.trainFails + 1) ∧
         x.backoff = (if l.backoff = 0 ∨ 11 ≤ l.backoff then 1 else l.backoff + 1))) ∧
     (l.st = .active → goes (.electricalIdle n) (fun x => x.st = .detect ∧ x.backoff = 0)) ∧
     (l.st = .wait → goes (.backoffWaitEnd n) (fun x => x.st = .detect ∧ x.backoff = (if 11 ≤ l.backoff then 0 else l.backoff))) ∧
     (l.blockLock = true → goes (.blockLockLoss n) (fun x => x.lockLoss = min 255 (l.lockLoss + 1) ∧ x.blockLock = false ∧
       x.st = (if l.st = .active then .detect else l.st) ∧ x.backoff = (if l.st = .active then 0 else l.backoff))) ∧
     (∀ (k : BitVec 16) (el : Byte), l.st ≠ .down → k ≠ 0 ∨ el ≠ 0 → goes (.laneErrors n ⟨k, el⟩) (fun x => x.st = l.st ∧
       x.codeErr = min 65535 (l.codeErr + k.toNat) ∧ x.elastic = min 255 (l.elastic + el.toNat)))) ∧
  (∀ (s : State) (n : LaneNo), s.quiet →
     (s.lanes.lanes[n].st ≠ .detect → ∀ found, exec (.receiverDetectPulse n found) s = .next s) ∧
     (s.lanes.lanes[n].st ≠ .train → exec (.cdrLock n) s = .next s) ∧
     (s.lanes.lanes[n].st = .down → ∀ sync b k, exec (.trainingBlock n sync b k) s = .next s) ∧
     (s.lanes.lanes[n].st = .down ∨ s.lanes.lanes[n].st = .wait ∨ s.lanes.lanes[n].st = .loopback → exec (.laneStateTimeout n) s = .next s ∧
       exec (.electricalIdle n) s = .next s) ∧
     (s.lanes.lanes[n].st ≠ .wait → exec (.backoffWaitEnd n) s = .next s) ∧
     (s.lanes.lanes[n].blockLock = false → exec (.blockLockLoss n) s = .next s) ∧
     (s.lanes.lanes[n].vendor = false ∨ s.lanes.lanes[n].st = .down → s.lanes.lanes[n].role ≠ .camera → ∀ k el,
       exec (.laneErrors n ⟨k, el⟩) s = .next s) ∧
     (s.lanes.lanes[n].test = none → ∀ r, exec (.loopbackEnd n r) s = .next s))

/-- LANE_CONTROL disables and enables a vendor lane; LOOPBACK takes one out of the bring-up until its test ends, and is answered then;
both refuse what R420 and R423 refuse. A JTAG instruction other than the three of R580 stops the tokens, and IDCODE puts its register into
the scan path. -/
def Obligations.LaneCommandsAndLoopback : Prop :=
  (∀ (s : State) (c : Cmd), Runs s 0xD0 false false c →
    let n : LaneNo := Fin.ofNat 64 (c.argBits 5 0)
    let l := s.lanes.lanes[n]
    (c.argBits 6 6 = 0 → l.role = .head → s.print.started = true →
      exec (.laneControl c) s = .next ((s.start c).reply c 0xD0 .laneBusy (low40 n.val))) ∧
    (c.argBits 6 6 = 1 ∨ l.role ≠ .head ∨ s.print.started = false →
      (l.vendor = false → exec (.laneControl c) s = .next ((s.start c).reply c 0xD0 .laneConfigBad (low40 (3 + 256 * n.val)))) ∧
      (l.vendor = true → c.argBits 6 6 = 1 → exec (.laneControl c) s = .next (((s.start c).setLane n (fun l =>
        { l with enabled := true, st := if l.st = .down then .detect else l.st })).reply c 0xD0 .ok 0)) ∧
      (l.vendor = true → c.argBits 6 6 = 0 → ∃ u : State, exec (.laneControl c) s = .next (u.reply c 0xD0 .ok 0) ∧
        u.lanes.lanes[n].st = .down ∧ u.lanes.lanes[n].enabled = false ∧ u.lanes.lanes[n].test = none ∧
        (∀ m : LaneNo, m ≠ n → u.lanes.lanes[m] = s.lanes.lanes[m]) ∧ u.print = s.print))) ∧
  (∀ (s : State) (c : Cmd), Runs s 0xD1 false false c →
    let n : LaneNo := Fin.ofNat 64 (c.argBits 5 0)
    let l := s.lanes.lanes[n]
    let mode := c.argBits 8 6
    let ms := c.argBits 24 9
    let no (st : Code) (r : Nat) : Prop := exec (.loopback c) s = .next ((s.start c).reply c 0xD1 st (low40 r))
    (s.loopBusy n = true → no .laneBusy n.val) ∧
    (s.loopBusy n = false → s.permits n mode = false → no .laneConfigBad (1 + 256 * n.val)) ∧
    (s.loopBusy n = false → s.permits n mode = true → ms = 0 ∨ 60000 < ms → no .laneConfigBad (2 + 256 * n.val)) ∧
    (s.loopBusy n = false → s.permits n mode = true → 1 ≤ ms → ms ≤ 60000 → ∃ t : State, exec (.loopback c) s = .next t ∧
      t.lanes.lanes[n].test = some ⟨mode, c.origin, c.tag, 0xD1⟩ ∧ t.lanes.lanes[n].st = (if l.vendor then .loopback else l.st) ∧
      (∀ m : LaneNo, m ≠ n → t.lanes.lanes[m] = s.lanes.lanes[m]) ∧ t.print = s.print)) ∧
  (∀ (s : State) (n : LaneNo) (r : LoopbackResult) (x : LoopTest), s.lanes.lanes[n].test = some x →
    ∃ t : State, exec (.loopbackEnd n r) s = .next t ∧ t.lanes.lanes[n].test = none ∧
      (s.lanes.lanes[n].vendor = true → t.lanes.lanes[n].st = .detect ∧ t.lanes.lanes[n].backoff = 0) ∧
      (s.lanes.lanes[n].vendor = false → t.lanes.lanes[n].st = s.lanes.lanes[n].st) ∧
      (∀ m : LaneNo, m ≠ n → t.lanes.lanes[m] = s.lanes.lanes[m]) ∧ t.print = s.print) ∧
  (∀ (s : State) (i : JtagInstruction), s.quiet → exec (.jtagInstruction i) s =
    .next { s with sec := { s.sec with jtagStop := match i with | .other => true | _ => false }
                   sent := (match i with | .idcode => [.idcode idcode] | _ => []) ++ s.sent })

/-! ### Canal fabric -/

/-- A frame that fails a check of R431 counts FRAME_ERR and is delivered to nobody; one that passes and is for this node is handed to
firmware; one that leaves again waits on its port for its slot and credit; credit and CAPS are per port (R431 to R434, R437, R438, R444).
That a frame discarded for its route is not counted in FRAME_ERR is the model's reading (log 63). -/
def Obligations.FabricFramesPassTheirChecks : Prop :=
  (∀ (s : State) (p : FabPort) (f : FabFrame), s.quiet → s.fabActive p = false ∨ bits f.header 7 0 ≠ 0xA0 →
    exec (.fabricFrame p f) s = .next s) ∧
  (∀ (s : State) (p : FabPort) (f : FabFrame), s.quiet → s.fabActive p = true → bits f.header 7 0 = 0xA0 →
    (frameSound f = false ∨ s.fab.ports[p].exceeds (Fin.ofNat 4 (bits f.header 9 8)) (f.data.length + 2) = true) →
    exec (.fabricFrame p f) s = .next (s.fabErr p)) ∧
  (∀ (s : State) (p : FabPort) (f : FabFrame), s.quiet → s.fabActive p = true → bits f.header 7 0 = 0xA0 → frameSound f = true →
    s.fab.ports[p].exceeds (Fin.ofNat 4 (bits f.header 9 8)) (f.data.length + 2) = false →
    let cls : Fin 4 := Fin.ofNat 4 (bits f.header 9 8)
    let fate := s.fate (BitVec.ofNat 12 (bits f.header 31 20)) (bits f.header 13 10)
    let again := s.leavesAgain fate (BitVec.ofNat 12 (bits f.header 31 20)) (bits f.header 13 10)
    let spent : Prop := again = true ∧ bits f.header 19 14 = 0
    let bad : Prop := bitAt f.trailer 8 = true ∨ bits f.trailer 63 32 ≠ (frameCrc f.header f.data).toNat
    ∃ t : State, exec (.fabricFrame p f) s = .next t ∧ t.print = s.print ∧ t.fab.channels = s.fab.channels ∧ t.fab.root = s.fab.root ∧
      (fate = .deliver → ¬ bad → ¬ spent → t.fab.inbox = s.fab.inbox ++ [(p, f.header, f.data)] ∧
        t.fab.ports[p].given[cls] = (s.fab.ports[p].given[cls] + (f.data.length + 2)) % 4096) ∧
      (fate = .discard → t.fab.inbox = s.fab.inbox ∧
        t.fab.ports[p].given[cls] = (s.fab.ports[p].given[cls] + (f.data.length + 2)) % 4096) ∧
      (∀ q : FabPort, fate = .forward q → s.fabActive q = true → ¬ spent → (bad → cls = 0) → t.fab.inbox = s.fab.inbox ∧
        t.fab.ports[q].waiting.getLast? = some ⟨cls, forwardWords f (bitAt f.trailer 8 ||
          bits f.trailer 63 32 != (frameCrc f.header f.data).toNat), some p⟩) ∧
      (fate.forwards = false ∨ cls ≠ 0 → bad → t.fab.inbox = s.fab.inbox ∧
        t.lanes.lanes[fabLane p].frameErr = min 65535 (s.lanes.lanes[fabLane p].frameErr + 1)) ∧
      (spent → t.fab.inbox = s.fab.inbox ∧
        t.lanes.lanes[fabLane p].frameErr = min 65535 (s.lanes.lanes[fabLane p].frameErr + 1)) ∧
      (¬ bad → ¬ spent → t.lanes = s.lanes)) ∧
  (∀ (s : State) (p : FabPort) (b : Word), s.quiet → (s.fabActive p = false ∨ parseCredit b = none → exec (.credit p b) s = .next s) ∧
    (∀ v, s.fabActive p = true → parseCredit b = some v → ∃ t : State, exec (.credit p b) s = .next t ∧ t.fab.ports[p].freed = v ∧
      (∀ q : FabPort, q ≠ p → t.fab.ports[q].freed = s.fab.ports[q].freed) ∧ t.fab.root = s.fab.root ∧ t.lanes = s.lanes) ∧
    (s.fabActive p = true → exec (.creditSend p) s =
      .next ((s.fabSlots p).setPort p (fun q => { q with told := q.given, due := q.due ++ [control (creditBlock q.given)] }))) ∧
    (s.fabActive p = false → exec (.creditSend p) s = .next s)) ∧
  (∀ (s : State) (p : FabPort) (w d : Word), s.lanes.lanes[fabLane p].role = .fabric → s.lanes.lanes[fabLane p].st = .caps →
    bits w 7 0 = 0xC0 →
    (d = s.fab.id → ∃ t : State, exec (.fabricCaps p w d) s = .next t ∧ t.lanes.lanes[fabLane p].st = .detect ∧
      t.fab.ports[p].loopTold = true ∧ t.print = s.print) ∧
    (d ≠ s.fab.id → ∃ t : State, exec (.fabricCaps p w d) s = .next t ∧ t.fab.ports[p].neighbour = some d ∧ t.fab.ports[p].seen = true ∧
      t.lanes.lanes[fabLane p].st = (if bitAt w 14 then .active else .caps) ∧
      (bitAt w 14 = true → t.fab.ports[p].announce = none) ∧ t.print = s.print)) ∧
  (∀ (s : State) (p : FabPort) (w d : Word), s.quiet → s.lanes.lanes[fabLane p].role ≠ .fabric ∨ s.lanes.lanes[fabLane p].st ≠ .caps ∨
    bits w 7 0 ≠ 0xC0 → exec (.fabricCaps p w d) s = .next s)

/-- Each ACTIVE port's last ANNOUNCE is a candidate for the root, and a settled election is reported once for each root (R440 to R443). -/
def Obligations.ElectionFollowsTheAnnouncements : Prop :=
  (∀ (s : State) (p : FabPort) (a b c : Word), s.fabActive p = true → ∃ (t : State) (x : Announce), exec (.announce p a b c) s = .next t ∧
    t.fab.ports[p].announce = some x ∧ x.root = a ∧ x.upstream = b ∧ x.dist = bits c 5 0 ∧ x.seq = BitVec.ofNat 32 (bits c 63 32) ∧
    x.at_ = s.time.raw ∧ (∀ q : FabPort, q ≠ p → t.fab.ports[q].announce = s.fab.ports[q].announce) ∧ t.fab.node = s.fab.node ∧
    t.fab.table = s.fab.table ∧ t.print = s.print) ∧
  (∀ (s : State) (p : FabPort) (a b c : Word), s.quiet → s.fabActive p = false → exec (.announce p a b c) s = .next (s.takeFrame 5 [a, b, c])) ∧
  (∀ s : State, s.quiet → s.rootView = none → exec .announceSend s = .next { s with fab := { s.fab with
    root := none, settled := s.fab.settled && sameView s.fab.root none } }) ∧
  (∀ (s : State) (r : Word × Nat × Option FabPort × BitVec 32), s.rootView = some r → ∃ t : State, exec .announceSend s = .next t ∧
    (t.fab.root.map (fun x => (x.1, x.2.1, x.2.2.1))) = some (r.1, r.2.1, r.2.2.1) ∧
    t.fab.ownSeq = (if r.2.2.1.isNone then s.fab.ownSeq + 1 else s.fab.ownSeq) ∧ t.fab.node = s.fab.node ∧ t.print = s.print) ∧
  (∀ s : State, s.quiet → s.fab.root = none → exec .electionSettled s = .next s) ∧
  (∀ (s : State) (r : Word × Nat × Option FabPort × BitVec 32), s.fab.root = some r → ∃ t : State, exec .electionSettled s = .next t ∧
    t.fab.settled = true ∧ t.fab.rootTold = some r.1 ∧ t.fab.root = s.fab.root ∧ t.fab.node = s.fab.node ∧ t.print = s.print) ∧
  (∀ s : State, s.fab.root = none → s.fab.noRootTold = false → (∃ p, s.fabActive p = true) → ∃ t : State, exec .fabricNoRoot s = .next t ∧
    t.fab.noRootTold = true ∧ t.fab.ports.map (fun q => q.announce) = s.fab.ports.map (fun q => q.announce) ∧ t.print = s.print) ∧
  (∀ s : State, s.quiet → s.fab.root.isSome = true ∨ s.fab.noRootTold = true → exec .fabricNoRoot s = .next s)

/-- Reports, numbers and route tables: each reporter's arrival port is recorded, the root holds the numbers it gives, a node takes the
number an ASSIGN names for its identity, and applies a table once it holds all sixteen chunks of one generation (R443, R445, R448). -/
def Obligations.DiscoveryNumbersAndRoutes : Prop :=
  (∀ (s : State) (p : FabPort) (ws : List Word), ∃ t : State, exec (.report p ws) s = .next t ∧
    t.fab.arrivals.find? (fun a => a.1 == wordAt ws 0) = some (wordAt ws 0, p) ∧
    (s.fab.isRoot = true → parseReport ws ∈ t.fab.reports) ∧ (s.fab.isRoot = false → t.fab.reports = s.fab.reports) ∧
    t.fab.root = s.fab.root ∧ t.fab.table = s.fab.table ∧ t.print = s.print) ∧
  (∀ s : State, s.fab.isRoot = true → ∃ t : State, exec .routeCompute s = .next t ∧
    (∀ a ∈ s.numberNodes s.reachable, ⟨a.1, a.2, none⟩ ∈ t.fab.held) ∧ t.fab.reports = s.fab.reports ∧ t.fab.root = s.fab.root ∧
    t.print = s.print) ∧
  (∀ s : State, s.quiet → s.fab.isRoot = false → exec .routeCompute s = .next s ∧ exec .routesResend s = .next s) ∧
  (∀ s : State, s.fab.isRoot = true → ∃ t : State, exec .routesResend s = .next t ∧ t.fab.grants = s.fab.grants ∧ t.fab.table = s.fab.table ∧
    t.print = s.print) ∧
  (∀ (s : State) (p : FabPort) (a b : Word), s.fabActive p = true → ∃ t : State, exec (.assign p a b) s = .next t ∧
    (a, BitVec.ofNat 12 (bits b 11 0)) ∈ t.fab.assigns ∧
    t.fab.node = (if a = s.fab.id then BitVec.ofNat 12 (bits b 11 0) else s.fab.node) ∧ t.fab.table = s.fab.table ∧ t.print = s.print) ∧
  (∀ (s : State) (p : FabPort) (a b : Word), s.quiet → s.fabActive p = false → exec (.assign p a b) s = .next (s.takeFrame 7 [a, b])) ∧
  (∀ (s : State) (ws : List Word),
    let gen := BitVec.ofNat 32 (bits (wordAt ws 0) 31 0)
    let chunk := bits (wordAt ws 0) 35 32
    (∀ g cs, s.fab.partialGen = some (g, cs) → gen < g → s.quiet → exec (.routes ws) s = .next (s.takeFrame 8 ws)) ∧
    (∀ cs, (s.fab.partialGen = some (gen, cs) ∨ s.fab.partialGen = none ∧ cs = [] ∨ (∃ g old, s.fab.partialGen = some (g, old) ∧ g < gen) ∧ cs = []) →
      let all := cs.filter (fun c => c.1 != chunk) ++ [(chunk, slice ws 1 64)]
      ∃ t : State, exec (.routes ws) s = .next t ∧ t.print = s.print ∧ t.fab.root = s.fab.root ∧
        (all.length < 16 → t.fab.partialGen = some (gen, all) ∧ t.fab.table = s.fab.table ∧ t.fab.gen = s.fab.gen) ∧
        (16 ≤ all.length → t.fab.partialGen = none ∧ t.fab.gen = gen ∧ t.fab.table = (List.range 16).flatMap (fun i =>
          match all.find? (fun c => c.1 == i) with | some c => c.2 | none => [])))) ∧
  (∀ (s : State) (src : NodeNo) (w : Word) (a : Word × NodeNo), s.quiet → s.fab.assigns.find? (fun a => a.2 == src) = some a →
    ∃ t : State, exec (.routesAck src w) s = .next t ∧ t.fab.grants = s.fab.grants.map (fun (g : RouteGrant) =>
      if g.id == a.1 && g.gen.toNat == bits w 31 0 then { g with acked := true } else g) ∧ t.print = s.print)

/-- Mailbox channels between nodes follow the rows of R455: opening, expected and repeated words, acks, unknown sessions, ten sends, and
closing; a word delivered is a command of the peer's (R455, R456). PEER_POST posts its word on the channel with the node, opened for it
where there is none, and is answered by the peer's response; PEER_CLOSE closes the channel (R454, R455, R550). A peer's ENC_EVENT is
reported and does nothing else (R451). That a repeated OPEN is acknowledged again and that a closing without error is answered as aborted
are the model's readings (log 64). -/
def Obligations.FabricChannelsAndPeerCommands : Prop :=
  ((∀ (s : State) (n : NodeNo) (w : Word), s.quiet → s.fab.chanOf n = none → ∃ t : State, exec (.mailboxOpen n w) s = .next t ∧
     t.fab.channels = (if 64 ≤ s.fab.channels.length then s.fab.channels else s.fab.channels ++ [openChannel n (BitVec.ofNat 32 (bits w 63 32))]) ∧
     t.print = s.print) ∧
   (∀ (s : State) (n : NodeNo) (w : Word) (k : FabChannel), s.fab.chanOf n = some k →
     let session := BitVec.ofNat 32 (bits w 63 32)
     (k.st = .opening → s.fab.node < n → s.quiet → exec (.mailboxOpen n w) s = .next (s.takeFrame 4 [w, 0])) ∧
     (k.st = .opening → n ≤ s.fab.node → ∃ (t : State) (x : FabChannel), exec (.mailboxOpen n w) s = .next t ∧ t.fab.chanOf n = some x ∧
       x.session = session ∧ x.st = .openCh ∧ t.print = s.print) ∧
     (s.quiet → k.st = .openCh → k.session = session → ∃ t : State, exec (.mailboxOpen n w) s = .next t ∧ t.fab.channels = s.fab.channels ∧
       t.print = s.print) ∧
     (k.st = .openCh → k.session ≠ session → ∃ (t : State) (x : FabChannel), exec (.mailboxOpen n w) s = .next t ∧
       t.fab.chanOf n = some x ∧ x.session = session ∧ x.taken = k.taken ∧ x.posts = [] ∧ t.print = s.print)) ∧
   (∀ (s : State) (n : NodeNo) (a b : Word),
     let session := BitVec.ofNat 32 (bits a 63 32)
     let seq : Byte := BitVec.ofNat 8 (bits a 15 8)
     (s.quiet → (∀ k, s.fab.chanOf n = some k → k.session ≠ session ∨ k.recvSeq = some seq) → ∃ t : State, exec (.mailboxWord n a b) s = .next t ∧
       t.fab.channels = s.fab.channels ∧ t.print = s.print) ∧
     (∀ k, s.fab.chanOf n = some k → k.session = session → k.recvSeq = some (seq - 1) ∨ k.recvSeq = none →
       k.posts = [] → bitAt b 50 = false → bits b 63 56 ∈ assignedOpcodes → k.taken.length + k.running.length < 32 →
       ∃ (t : State) (x : FabChannel), exec (.mailboxWord n a b) s = .next t ∧ t.fab.chanOf n = some x ∧ x.recvSeq = some seq ∧
         x.taken = k.taken ++ [takenOf b] ∧ t.print = s.print)) ∧
   (∀ (s : State) (n : NodeNo) (w : Word) (k : FabChannel), s.fab.chanOf n = some k → k.session = BitVec.ofNat 32 (bits w 63 32) →
     ((bits w 3 2 = 1 ∨ bits w 3 2 = 2) → ∃ t : State, exec (.mailboxAck n w) s = .next t ∧ t.fab.chanOf n = none ∧ t.print = s.print) ∧
     (s.quiet → bits w 3 2 = 0 → k.st = .openCh → k.unacked.isSome = true → k.sendSeq = BitVec.ofNat 8 (bits w 15 8) →
       ∃ (t : State) (x : FabChannel), exec (.mailboxAck n w) s = .next t ∧ t.fab.chanOf n = some x ∧ x.sendSeq = k.sendSeq + 1 ∧
         (k.outQ = [] → x.unacked = none) ∧ (∀ v vs, k.outQ = v :: vs → x.unacked = some (v, 1) ∧ x.outQ = vs) ∧ t.print = s.print) ∧
     (∃ t : State, exec (.mailboxClose n w) s = .next t ∧ t.fab.chanOf n = none ∧ t.print = s.print)) ∧
   (∀ (s : State) (n : NodeNo) (k : FabChannel), s.fab.chanOf n = some k →
     (k.st = .openCh → k.unacked = none → s.quiet → exec (.mailboxResend n) s = .next s) ∧
     (∀ v i, k.st = .openCh → k.unacked = some (v, i) → ∃ t : State, exec (.mailboxResend n) s = .next t ∧ t.print = s.print ∧
       (10 ≤ i → t.fab.chanOf n = none) ∧ (i < 10 → ∃ x, t.fab.chanOf n = some x ∧ x.unacked = some (v, i + 1))) ∧
     (k.st = .opening → ∃ t : State, exec (.mailboxResend n) s = .next t ∧ t.print = s.print ∧
       (10 ≤ k.openSends → t.fab.chanOf n = none) ∧ (k.openSends < 10 → ∃ x, t.fab.chanOf n = some x ∧ x.openSends = k.openSends + 1)) ∧
     (∃ t : State, exec (.channelIdle n) s = .next t ∧ t.fab.chanOf n = none ∧ t.print = s.print)) ∧
   (∀ (s : State) (n : NodeNo), s.quiet → s.fab.chanOf n = none → exec (.mailboxResend n) s = .next s ∧ exec (.channelIdle n) s = .next s)) ∧
  ((∀ (s : State) (c : Cmd), Runs s 0x71 true false c →
     let n : NodeNo := BitVec.ofNat 12 (bits (c.dw 0) 11 0)
     let no (st : Code) (r : Nat) : Prop := exec (.peerPost c) s = .next ((s.start c).reply c 0x71 st (low40 r))
     let bad : Prop := bitAt (c.dw 1) 48 = true ∨ bufferBad (c.dw 2) (c.dw 3) = true
     (bad → no .argBad 0) ∧
     (¬ bad → s.fab.reaches n = false → no .nodeUnreachable n.toNat) ∧
     (¬ bad → s.fab.reaches n = true → s.fab.chanOf n = none → 64 ≤ s.fab.channels.length → no .noChannel n.toNat) ∧
     (¬ bad → s.fab.reaches n = true → ∀ k, s.fab.chanOf n = some k → ∃ (t : State) (x : FabChannel), exec (.peerPost c) s = .next t ∧
       t.fab.chanOf n = some x ∧ x.posts = k.posts ++ [⟨k.freeTag, BitVec.ofNat 8 (bits (c.dw 1) 63 56), some c, none⟩] ∧ t.print = s.print) ∧
     (¬ bad → s.fab.reaches n = true → s.fab.chanOf n = none → s.fab.channels.length < 64 → ∃ (t : State) (x : FabChannel),
       exec (.peerPost c) s = .next t ∧ t.fab.chanOf n = some x ∧ x.st = .opening ∧ x.session = s.fab.nextSession ∧
       x.posts = [⟨0, BitVec.ofNat 8 (bits (c.dw 1) 63 56), some c, none⟩] ∧ t.print = s.print)) ∧
   (∀ (s : State) (c : Cmd), Runs s 0x72 false false c →
     let n : NodeNo := BitVec.ofNat 12 (c.argBits 11 0)
     (s.fab.chanOf n = none → exec (.peerClose c) s = .next ((s.start c).reply c 0x72 .notFound 0)) ∧
     (∀ k, s.fab.chanOf n = some k → ∃ u : State, exec (.peerClose c) s = .next (u.reply c 0x72 .ok 0) ∧ u.fab.chanOf n = none ∧
       u.print = s.print)) ∧
   (∀ (s : State) (n : NodeNo) (a b : Word), ∃ t : State, exec (.encEvent n a b) s = .next t ∧ t.enc = s.enc ∧ t.sluice = s.sluice ∧
     t.print = s.print ∧ t.gov = s.gov))

/-! ### Redundancy -/

/-- A grant that names this unit is checked in the order of R465 and taken or rejected; one that names the partner demotes an active unit
with a lower claim; an ACCEPT gives a demoted unit its last line (R465, R466, R467). -/
def Obligations.GrantsAreCheckedInOrder : Prop :=
  (∀ (s : State) (src : NodeNo) (h w0 w1 w2 w3 : Word), s.pair.paired = true → bits w0 3 0 = 1 →
    let claim := BitVec.ofNat 32 (bits w1 31 0)
    let issuer : NodeNo := BitVec.ofNat 12 (bits w2 11 0)
    let ours : Prop := bitAt w0 4 = s.pair.unitB
    let rider : Prop := (s.pair.rider = .host ∧ issuer = 0) ∨ s.pair.rider = .node issuer
    let no (n : Nat) : Prop := exec (.grant src h w0 w1 w2 w3) s = .next ((s.takeFrame 1 [w0, w1, w2, w3]).raiseF .claimRejected
      [fld 0 4 n, fld 4 12 issuer.toNat]).settle
    (ours → s.sec.pairKey = none → no 4) ∧
    (∀ k, s.sec.pairKey = some k →
      (ours → k.tag h [w0, w1, w2] ≠ w3 → no 1) ∧
      (ours → k.tag h [w0, w1, w2] = w3 → ¬ rider → no 3) ∧
      (ours → k.tag h [w0, w1, w2] = w3 → rider → claim ≤ s.pair.highest → no 2) ∧
      (ours → k.tag h [w0, w1, w2] = w3 → rider → s.pair.highest < claim → ∃ t : State, exec (.grant src h w0 w1 w2 w3) s = .next t ∧
        t.pair.st = .active ∧ t.pair.claim = claim ∧ t.pair.highest = claim ∧ t.heads.claim = claim ∧ t.pair.drivePending = true ∧
        t.pair.riders = s.pair.riders) ∧
      (¬ ours → k.tag h [w0, w1, w2] = w3 → rider → s.pair.st = .active → s.pair.claim < claim → ∃ t : State,
        exec (.grant src h w0 w1 w2 w3) s = .next t ∧ t.pair.st = .sync ∧ t.pair.claim = 0 ∧ t.pair.driving = false ∧
        t.pair.highest = s.pair.highest ∧ t.print = { s.print with sched := [] } ∧
        ((∃ p ∈ s.usedPorts, s.heads.ports[p].maxClaim < claim) → t.heads.claim = s.heads.claim ∧ t.pair.releasing = some claim) ∧
        ((∀ p ∈ s.usedPorts, claim ≤ s.heads.ports[p].maxClaim) → t.heads.claim = 0 ∧ t.pair.releasing = none))) ∧
    (s.quiet → ¬ ours → (s.tagOk h [w0, w1, w2] w3 = false ∨ ¬ rider ∨ s.pair.st ≠ .active) →
      exec (.grant src h w0 w1 w2 w3) s = .next (s.takeFrame 1 [w0, w1, w2, w3]))) ∧
  (∀ (s : State) (src : NodeNo) (h w0 w1 w2 w3 : Word), s.quiet → (s.pair.paired = false ∨ bits w0 3 0 ≠ 1) →
    exec (.grant src h w0 w1 w2 w3) s = .next (s.takeFrame 1 [w0, w1, w2, w3])) ∧
  (∀ (s : State) (src : NodeNo) (h w0 w1 w2 w3 : Word), s.quiet →
    let ok : Prop := bits w0 3 0 = 2 ∧ s.tagOk h [w0, w1, w2] w3 = true ∧ s.fromPartner src = true ∧ s.standby = true
    (¬ ok → exec (.accept src h w0 w1 w2 w3) s = .next (s.takeFrame 1 [w0, w1, w2, w3])) ∧
    (ok → ∃ (t : State) (n : Nat), exec (.accept src h w0 w1 w2 w3) s = .next t ∧ t.pair = { s.pair with sendUntil := some n } ∧
      (s.sluice.barLine < 2 ^ 39 → bits w2 39 0 < s.sluice.barLine + 2 ^ 39 → n = bits w2 39 0) ∧ t.print = s.print)) ∧
  (∀ s : State, (s.quiet → s.pair.releasing = none → exec .claimRelease s = .next s) ∧
    (∀ c, s.pair.releasing = some c → ∃ t : State, exec .claimRelease s = .next t ∧ t.pair = { s.pair with releasing := none } ∧
      t.heads.claim = 0 ∧ t.print = s.print)) ∧
  (∀ (s : State) (i : Fin 8), (s.quiet → s.pair.riders[i].open_ = none → exec (.grantResend i) s = .next s) ∧
    (∀ b claim prev, s.pair.riders[i].open_ = some (b, claim, prev) →
      let ws := claimWords 1 b claim prev (fld 0 12 s.fab.node.toNat)
      exec (.grantResend i) s = .next ((s.sendTagged 1 s.pair.riders[i].nodeA ws).sendTagged 1 s.pair.riders[i].nodeB ws).settle))

/-- CLAIM_GRANT is checked by R465 with the parcel that carried it in the place of its TAG, forwarded and taken (R482); SWAP asks the
ditch-rider, which grants only to a READY standby that beats (R479 to R481). The status of a grant with another OP and of one on an
unpaired device is the model's reading (log 65). -/
def Obligations.ClaimGrantAndSwap : Prop :=
  (∀ (s : State) (c : Cmd), Runs s 0x82 true true c →
    let claim := BitVec.ofNat 32 (bits (c.dw 1) 31 0)
    let issuer : NodeNo := BitVec.ofNat 12 (bits (c.dw 2) 11 0)
    let ours : Prop := bitAt (c.dw 0) 4 = s.pair.unitB
    (bits (c.dw 0) 3 0 ≠ 1 → exec (.claimGrant c) s = .next ((s.start c).reply c 0x82 .argBad 0)) ∧
    (bits (c.dw 0) 3 0 = 1 → ∀ n, s.grantReason true claim issuer = some n → ∃ u : State,
      exec (.claimGrant c) s = .next (u.reply c 0x82 .claimRejected (low40 (n + fld 4 12 issuer.toNat))) ∧ u.pair = s.pair ∧
      u.print = s.print ∧ u.heads = s.heads) ∧
    (bits (c.dw 0) 3 0 = 1 → s.grantReason true claim issuer = none → ∃ u : State,
      exec (.claimGrant c) s = .next (u.reply c 0x82 .ok (low40 claim.toNat)) ∧
      (ours → u.pair.st = .active ∧ u.pair.claim = claim ∧ u.pair.highest = claim ∧ u.heads.claim = claim) ∧
      (¬ ours → s.pair.st = .active → s.pair.claim < claim → u.pair.st = .sync ∧ u.pair.claim = 0) ∧
      (¬ ours → s.pair.st ≠ .active → u.pair = s.pair ∧ u.print = s.print))) ∧
  (∀ (s : State) (c : Cmd), Runs s 0x83 false false c →
    let i : Fin 8 := Fin.ofNat 8 (c.argBits 2 0)
    let r := s.pair.riders[i]
    let raw := s.time.raw
    let top := if r.topHighest < r.granted then r.granted else r.topHighest
    (r.used = false → exec (.swap c) s = .next ((s.start c).reply c 0x83 .notFound 0)) ∧
    (r.used = true → ∃ (b : Bool) (reason : Nat), r.decide_ raw true = some (b, reason) ∧
      (∀ claim prev, r.open_ = some (b, claim, prev) → exec (.swap c) s = .next ((s.start c).reply c 0x83 .ok (low40 claim.toNat))) ∧
      ((∀ o, r.open_ = some o → o.1 ≠ b) → r.mayGrant raw b reason = true → ∃ u : State,
        exec (.swap c) s = .next (u.reply c 0x83 .ok (low40 (top + 1).toNat)) ∧ u.pair.riders[i].granted = top + 1 ∧
        (∃ prev, u.pair.riders[i].open_ = some (b, top + 1, prev)) ∧ u.print = s.print ∧ u.pair.claim = s.pair.claim) ∧
      ((∀ o, r.open_ = some o → o.1 ≠ b) → r.mayGrant raw b reason = false → ∃ u : State,
        exec (.swap c) s = .next (u.reply c 0x83 .standbyNotReady (low40 (b2n b + fld 1 3 reason))) ∧
        u.pair.riders[i] = { r with notReady := true } ∧ u.print = s.print ∧ u.pair.claim = s.pair.claim))) ∧
  (∀ (r : RiderPair) (raw : Word) (swap a : Bool), r.active = some a →
    (r.silent raw a = true → r.decide_ raw swap = some (!a, 1)) ∧
    (∀ m, r.silent raw a = false → r.beatOf (!a) = some m → m.barSilent = true → r.decide_ raw swap = some (!a, 2)) ∧
    (∀ m, r.silent raw a = false → (∀ n, r.beatOf (!a) = some n → n.barSilent = false) → r.beatOf a = some m →
      (m.fault = true ∨ m.claim < r.topHighest) → r.decide_ raw swap = some (!a, 3)))

/-- Beats and health reports of the partner, and of the units a ditch-rider watches (R462, R467, R470, R471, R473, R478). Which HB_SEQ
counts as a repeat is the model's reading (log 51). -/
def Obligations.BeatsAndReportsKeepThePairInStep : Prop :=
  (∀ (s : State) (src : NodeNo) (h w0 w1 w2 w3 : Word), s.quiet → (bits w0 3 0 ≠ 1 ∨ s.tagOk h [w0, w1, w2] w3 = false) →
    exec (.heartbeat src h w0 w1 w2 w3) s = .next (s.takeFrame 0 [w0, w1, w2, w3])) ∧
  (∀ (s : State) (src : NodeNo) (h w0 w1 w2 w3 : Word), bits w0 3 0 = 1 → s.tagOk h [w0, w1, w2] w3 = true →
    let m := parseBeat w0 w1 s.time.raw
    let new : Prop := ∀ x ∈ s.pair.partnerSeqs, x ≠ m.seq
    ∃ t : State, exec (.heartbeat src h w0 w1 w2 w3) s = .next t ∧
      (s.fromPartner src = false → t.pair = { s.pair with riders := t.pair.riders } ∧ t.print = s.print) ∧
      (s.fromPartner src = true → new →
        t.pair.partnerAt = some s.time.raw ∧ t.pair.partnerSeen = true ∧ t.pair.lostTold = false ∧ t.pair.partnerSt = m.st ∧
        t.pair.partnerClaim = m.claim ∧ t.pair.highest.toNat = max (max s.pair.highest.toNat m.claim.toNat) m.highest.toNat ∧
        (s.pair.st = .active → s.pair.claim < m.claim → t.pair.st = .sync ∧ t.pair.claim = 0 ∧ t.print = { s.print with sched := [] }) ∧
        (s.pair.st = .active → ¬ s.pair.claim < m.claim → t.pair.st = .active ∧ t.pair.claim = s.pair.claim ∧ t.print = s.print) ∧
        ((s.pair.st = .idle ∨ s.pair.st = .diverged) → t.pair.st = (if m.st = 1 then .sync else s.pair.st) ∧ t.print = s.print) ∧
        ((s.pair.st = .sync ∨ s.pair.st = .ready) → t.pair.st = s.pair.st ∧ t.print = s.print)) ∧
      (s.fromPartner src = true → (∃ x ∈ s.pair.partnerSeqs, x = m.seq) →
        (∀ a, s.pair.partnerAt = some a → tooOld s.time.raw a s.pair.timeoutPs = false) → s.pair.partnerAt.isSome = true →
        t.pair = { s.pair with riders := t.pair.riders } ∧ t.print = s.print) ∧
      (∀ (i : Fin 8) (b : Bool), s.pair.riders[i].unitAt src = some b →
        (∀ x ∈ (if b then s.pair.riders[i].seqsB else s.pair.riders[i].seqsA), x ≠ m.seq) → t.pair.riders[i].beatOf b = some m)) ∧
  (∀ (s : State) (src : NodeNo) (h : Word) (ws : List Word),
    let ok : Prop := ws.length = 8 ∧ s.tagOk h (ws.take 7) (wordAt ws 7) = true
    (s.quiet → ¬ ok → exec (.health src h ws) s = .next (s.takeFrame 0xC ws)) ∧
    (ok → ∃ t : State, exec (.health src h ws) s = .next t ∧ t.print = s.print ∧ t.pair.claim = s.pair.claim ∧
      (s.fromPartner src = false → t.pair.st = s.pair.st ∧ t.pair.configMatch = s.pair.configMatch) ∧
      (s.fromPartner src = true → t.pair.partnerDigest = some (wordAt ws 1) ∧ t.pair.configMatch = (wordAt ws 1 == s.configDigest) ∧
        t.pair.partnerBacklog = bits (wordAt ws 2) 39 0 ∧
        (wordAt ws 1 ≠ s.configDigest → (s.pair.st = .sync ∨ s.pair.st = .ready) → t.pair.st = .diverged)) ∧
      (∀ (i : Fin 8) (b : Bool), s.pair.riders[i].unitAt src = some b → t.pair.riders[i].healthOf b =
        some { selfOk := bitAt (wordAt ws 0) 7, disagree := bits (wordAt ws 3) 31 0 }))) ∧
  (∀ s : State, ∃ t : State, exec .heartbeatSend s = .next t ∧ t.print = s.print ∧
    t.pair = (if s.pair.paired then { s.pair with hbSeq := s.pair.hbSeq + 1 } else s.pair)) ∧
  (∀ s : State, (s.quiet → (s.pair.paired = false ∨ s.sec.pair = none) → exec .healthSend s = .next s) ∧
    (∀ k, s.pair.paired = true → s.sec.pair = some k →
      let differs : Prop := ∃ d, s.pair.partnerDigest = some d ∧ d ≠ s.configDigest
      ∃ t : State, exec .healthSend s = .next t ∧ t.print = s.print ∧ t.pair.reportSeq = s.pair.reportSeq + 1 ∧ t.pair.disagree = 0 ∧
        t.pair.lineMiss = 0 ∧ t.pair.selfFail = false ∧ t.pair.claim = s.pair.claim ∧ t.pair.riders = s.pair.riders ∧
        (∀ d, s.pair.partnerDigest = some d → t.pair.configMatch = (d == s.configDigest)) ∧
        (s.pair.partnerDigest = none → t.pair.configMatch = s.pair.configMatch) ∧
        (differs → (s.pair.st = .sync ∨ s.pair.st = .ready) → t.pair.st = .diverged) ∧
        (¬ (differs ∧ (s.pair.st = .sync ∨ s.pair.st = .ready)) → t.pair.st = s.pair.st))) ∧
  (∀ s : State, (s.quiet → (s.pair.paired = false ∨ s.pair.lostTold = true) → exec .pairPartnerLost s = .next s) ∧
    (s.pair.paired = true → s.pair.lostTold = false → exec .pairPartnerLost s =
      .next (({ s with pair := { s.pair with partnerSeen := false, lostTold := true } } : State).raise .pairPartnerLost
        (low40 s.pair.partner.toNat)).settle))

/-- A standby applies each schedule record once, in the order of SCHED_SEQ; a wrong TAG or a lower claim applies nothing, a gap makes it
DIVERGED (R471, R475, R477, R478). What counts as a repeat and what as a gap is the model's reading (log 55). -/
def Obligations.ScheduleRecordsApplyOnceInOrder : Prop :=
  (∀ (s : State) (src : NodeNo) (h w0 w1 w2 w3 : Word), s.quiet → (bits w0 3 0 ≠ 2 ∨ s.tagOk h [w0, w1, w2] w3 = false ∨
      s.fromPartner src = false ∨ BitVec.ofNat 32 (bits w0 63 32) < s.pair.claim ∨ s.pair.st = .idle) →
    exec (.scheduleRecord src h w0 w1 w2 w3) s = .next (s.takeFrame 0 [w0, w1, w2, w3])) ∧
  (∀ (s : State) (src : NodeNo) (h w0 w1 w2 w3 : Word) (k : PairKey), bits w0 3 0 = 2 → s.sec.pairKey = some k →
    k.tag h [w0, w1, w2] = w3 → s.fromPartner src = true → s.pair.claim ≤ BitVec.ofNat 32 (bits w0 63 32) →
    let claim := BitVec.ofNat 32 (bits w0 63 32)
    let seq := BitVec.ofNat 24 (bits w0 31 8)
    let rkind := bits w0 7 4
    let s0 := s.takeFrame 0 [w0, w1, w2, w3]
    let ws := k.open_ rkind seq claim w1 w2
    let took (x : State) : State := { x with pair := { x.pair with schedSeq := seq, schedSeen := true } }
    let run (x : State) : State := ((match (took x).lateRecord rkind ws.1 ws.2 with
      | some id => (took x).diverge id 1 | none => took x).applyRecord rkind ws.1 ws.2).settle
    let go := exec (.scheduleRecord src h w0 w1 w2 w3) s
    (s.pair.st = .active → s.pair.claim < claim → ∃ t : State, go = .next t ∧ t.pair.st = .sync ∧ t.pair.claim = 0) ∧
    (s.pair.st ≠ .active → s.pair.st ≠ .idle →
      (s.pair.schedSeen = false ∨ seq = s.pair.schedSeq + 1 → go = .next (run s0)) ∧
      (s.quiet → s.pair.schedSeen = true → seq ≠ s.pair.schedSeq + 1 → (s.pair.schedSeq - seq).toNat < 2 ^ 23 → go = .next s0) ∧
      (s.pair.schedSeen = true → seq ≠ s.pair.schedSeq + 1 → 2 ^ 23 ≤ (s.pair.schedSeq - seq).toNat → go = .next (run (s0.diverge 0 2))) ∧
      (s.pair.schedSeen = false ∨ seq = s.pair.schedSeq + 1 → s.pair.joined = false →
        (rkind = 8 → ∃ t : State, go = .next t ∧ t.sluice.switchTo = some (Fin.ofNat 2 (bits w1 0 0), w2.toNat) ∧ t.enc.armed = false ∧
          t.pair.schedSeq = seq ∧ t.pair.st = s.pair.st ∧ t.print = s.print) ∧
        (rkind = 9 → ∃ t : State, go = .next t ∧ t.pair.schedSeq = seq ∧ t.pair.st = s.pair.st ∧ t.print = s.print ∧
          t.pair.serials.head? = some (BitVec.ofNat 32 (bits ws.1 31 0), BitVec.ofNat 48 (bits ws.2 47 0),
            BitVec.ofNat 40 (bits ws.1 63 32 + fld 32 8 (bits ws.2 55 48)))) ∧
        (rkind = 13 → s.print.started = true → ∃ t : State, go = .next t ∧
          t.pair.joinLine = some (BitVec.ofNat 32 (bits w1 31 0), w2.toNat) ∧ t.pair.schedSeq = seq ∧ t.pair.st = s.pair.st ∧
          t.print = s.print))))

/-- The active unit offers the next parcel to its partner, in order, and the data of a BULK frame is placed by its offset, once no band
fetch goes first (R210, R453, R485, R486). -/
def Obligations.MirroringOffersAndPlacesParcels : Prop :=
  (∀ (s : State) (k : PairKey) (p : List Word) (ps : List (List Word)), s.pair.paired = true → s.pair.st = .active → s.yields = false → s.mirrorFree = true →
    (∀ b ∈ s.fab.bulkOut, b.sent = true ∨ b.dest ≠ s.pair.partner) → s.sec.pairKey = some k → s.fab.reaches s.pair.partner = true →
    ((s.fab.chanOf s.pair.partner).isSome = true ∨ s.fab.channels.length < 64) → s.pair.mirrorQ = p :: ps →
    ∃ (t : State) (b : BulkOut), exec .parcelMirror s = .next t ∧ t.pair.mirrorQ = ps ∧ t.fab.bulkOut = s.fab.bulkOut ++ [b] ∧
      b.dest = s.pair.partner ∧ b.sent = false ∧ b.words = k.seal s.pair.unitB p ∧ t.sec.pair = some k.useSeq) ∧
  (∀ (s : State) (src : NodeNo) (words : List Word), s.quiet → ∃ t : State, exec (.bulk src words) s = .next t ∧ t.store = s.store ∧
    (s.yields = true → t.fab.bulkHeld = s.fab.bulkHeld ++ [(src, words)] ∧ t.fab.bulkIn = s.fab.bulkIn) ∧
    (s.yields = false → t.fab.bulkHeld = [] ∧ t.fab.bulkIn = (s.fab.bulkHeld ++ [(src, words)]).foldl (fun bs f => bs.map (fun b =>
      if b.src = f.1 ∧ b.xfer = (wordAt f.2 0).extractLsb' 0 32 then { b with parts := (bits (wordAt f.2 0) 55 32, f.2.drop 1) :: b.parts }
      else b)) s.fab.bulkIn))

/-! ### Time -/

/-- TRIGGER_ARM, TRIGGER_DISARM, TIME_STEP and PPS_SECOND (R496, R497, R504, R545). An armed compare trigger whose value is at or below T
fires: a single one disarms, a periodic one moves by whole PERIODs to the first value above T; PPS_IN captures the raw counter and PPS_OUT
follows its enable (R497, R498, R504). How firmware steers to PPS is open, so RATE is only bounded here; the saturation of a step is the
model's reading (log 25). -/
def Obligations.TriggersPpsAndTimeCommands : Prop :=
  ((∀ (s : State) (c : Cmd), Runs s 0x91 true false c →
     let n : CmpNo := Fin.ofNat 8 (bits (c.dw 0) 2 0)
     let p := (c.dw 2).toNat
     ((p ≠ 0 ∧ (p < 1000 ∨ 2 ^ 48 ≤ p)) → exec (.triggerArm c) s = .next ((s.start c).reply c 0x91 .argBad 0)) ∧
     ((p = 0 ∨ (1000 ≤ p ∧ p < 2 ^ 48)) → ∃ u : State, exec (.triggerArm c) s = .next (u.reply c 0x91 .ok 0) ∧
       u.time.triggers[n] = { s.time.triggers[n] with armed := true, value := (c.dw 1).toNat, period := p, fired := 0
                                                      passed := decide (((c.dw 1).toNat : Int) ≤ s.now) } ∧
       (∀ m : CmpNo, m ≠ n → u.time.triggers[m] = s.time.triggers[m]) ∧ u.now = s.now ∧ u.print = s.print)) ∧
   (∀ (s : State) (c : Cmd), Runs s 0x92 false false c →
     let n : CmpNo := Fin.ofNat 8 (c.argBits 2 0)
     ∃ u : State, exec (.triggerDisarm c) s = .next (u.reply c 0x92 .ok (low40 s.time.triggers[n].fired.toNat)) ∧
       u.time.triggers[n] = { s.time.triggers[n] with armed := false, passed := false } ∧
       (∀ m : CmpNo, m ≠ n → u.time.triggers[m] = s.time.triggers[m]) ∧
       u.print = { s.print with sched := s.print.sched.filter (fun w => w.trigger != n) }) ∧
   (∀ (s : State) (c : Cmd), Runs s 0x93 true false c →
     let v := (c.dw 0).toInt
     (v < 0 → s.print.started = true → exec (.timeStep c) s = .next ((s.start c).reply c 0x93 .printActive 0)) ∧
     ((0 ≤ v ∨ s.print.started = false) → ∃ u : State, exec (.timeStep c) s = .next (u.reply c 0x93 .ok 0) ∧
       (s.time.offset = wrap64 s.time.offset → u.time.offset = wrap64 (s.time.offset + v)) ∧
       u.time.rate = s.time.rate ∧ u.time.epoch = s.time.epoch ∧ u.time.raw = s.time.raw ∧
       u.time.triggers.map (fun x => (x.armed, x.value, x.fired)) = s.time.triggers.map (fun x => (x.armed, x.value, x.fired)) ∧
       (v ≠ 0 → u.host.batch = s.host.batch ++ [(.timeStepped, low40 (fldI 0 40 (clampTo (2 ^ 39 - 1) v)))]) ∧ u.print = s.print)) ∧
   (∀ (s : State) (c : Cmd), Runs s 0x94 false false c → ∃ u : State, exec (.ppsSecond c) s = .next (u.reply c 0x94 .ok 0) ∧
     u.time = { s.time with ppsSecond := some c.arg.toNat } ∧ u.print = s.print)) ∧
  ((∀ (s : State) (n : CmpNo) (a : Word),
     let r := s.reach a
     let c := s.time.triggers[n]
     (s.quiet → (c.armed = false ∨ r.now < (c.value : Int)) → exec (.compareTrigger n a) s = .next r) ∧
     (c.armed = true → (c.value : Int) ≤ r.now → ∃ t : State, exec (.compareTrigger n a) s = .next t ∧
       t.time.triggers[n].fired = c.fired + 1 ∧ t.time.triggers[n].late = (c.late || c.passed) ∧ t.time.triggers[n].passed = false ∧
       t.time.triggers[n].period = c.period ∧
       (c.period = 0 → t.time.triggers[n].armed = false ∧ t.time.triggers[n].value = c.value) ∧
       (c.period ≠ 0 → t.time.triggers[n].armed = true ∧ r.now < (t.time.triggers[n].value : Int) ∧
         (t.time.triggers[n].value : Int) ≤ r.now + c.period ∧ ∃ k, t.time.triggers[n].value = c.value + k * c.period) ∧
       (∀ m : CmpNo, m ≠ n → t.time.triggers[m] = s.time.triggers[m]) ∧
       t.motion = (r.releaseMoves n).motion ∧ t.print.sched = s.print.sched.filter (fun w => w.trigger != n))) ∧
   (∀ (s : State) (a : Word), s.quiet →
     let r := s.reach a
     let next := s.time.ppsSecond.map (fun n => (n + 1) % 2 ^ 48)
     ((s.time.pps && s.isMaster) = false → exec (.ppsInEdge a) s =
       .next { r with time := { r.time with capture := r.time.raw, ppsSecond := next } }) ∧
     ((s.time.pps && s.isMaster) = true → ∃ t : State, exec (.ppsInEdge a) s = .next t ∧ t.time.capture = r.time.raw ∧
       t.time.ppsSecond = next ∧ t.time.raw = r.time.raw ∧ t.time.epoch = r.time.raw ∧ t.time.rate.natAbs ≤ 2147484 ∧ t.print = s.print) ∧
     (s.time.ppsEnable = false → exec (.ppsOutSecond a) s = .next r) ∧
     (s.time.ppsEnable = true → exec (.ppsOutSecond a) s = .next { r with time := { r.time with ppsOut := true } }) ∧
     exec .ppsOutPulseEnd s = .next { s with time := { s.time with ppsOut := false } }))

/-- Exchanges with the time master: a follower sends REQ, the master answers, a usable RESP gives an exchange, and the servo and the
states follow R502 and R503 (R500 to R503). The rounding of RATE and t4 = t5 within one step are the model's (log 25). -/
def Obligations.NetworkTimeFollowsTheMaster : Prop :=
  (∀ (s : State) (a : Word), ∃ t : State, exec (.timeReqSend a) s = .next t ∧ t.print = s.print ∧ t.time.rate = s.time.rate ∧
    t.time.offset = s.time.offset ∧
    (s.isMaster = true → t.time.sync = .master ∧ t.time.reqSeq = s.time.reqSeq ∧ t.time.lastReq = s.time.lastReq) ∧
    (s.isMaster = false → t.time.sync = (if s.time.sync = .master then .free else s.time.sync) ∧
      ((s.timeMaster = 0 ∨ s.sys.power = .dormant) → t.time.reqSeq = s.time.reqSeq ∧ t.time.lastReq = s.time.lastReq) ∧
      (s.timeMaster ≠ 0 → s.sys.power ≠ .dormant → t.time.reqSeq = s.time.reqSeq + 1 ∧
        t.time.lastReq = some (s.time.reqSeq, (s.reach a).time.raw)))) ∧
  (∀ (s : State) (src : NodeNo) (w0 w1 a : Word),
    let r := (s.reach a).takeFrame 10 [w0, w1, 0, 0]
    let now := BitVec.ofInt 64 (s.reach a).now
    (bits w0 3 0 = 1 → s.isMaster = true → exec (.timeReq src w0 w1 a) s =
      .next ((r.fabSend 10 src [word [2, fld 16 16 (bits w0 31 16)], w1, now, now]).settle)) ∧
    (s.quiet → (bits w0 3 0 ≠ 1 ∨ s.isMaster = false) → exec (.timeReq src w0 w1 a) s = .next r)) ∧
  (∀ (s : State) (src : NodeNo) (w0 w1 w2 w3 a : Word), s.quiet →
    let r := (s.reach a).takeFrame 10 [w0, w1, w2, w3]
    let now := BitVec.ofInt 64 (s.reach a).now
    let theta2 := (w2 - w1).toInt + (w3 - now).toInt
    let delta := (now - w1).toInt - (w3 - w2).toInt
    let ok : Prop := bits w0 3 0 = 2 ∧ s.time.sync ≠ .master ∧ ∃ q t0, s.time.lastReq = some (q, t0) ∧ bits w0 31 16 = q.toNat ∧
      ((s.reach a).time.raw - t0).toNat ≤ 10000000
    (¬ ok → exec (.timeResp src w0 w1 w2 w3 a) s = .next r) ∧
    (ok → ∃ t : State, exec (.timeResp src w0 w1 w2 w3 a) s = .next t ∧ t.time.theta2 = theta2 ∧ t.print = s.print ∧
      t.time.offset = s.time.offset ∧ t.time.rate = s.time.rate ∧
      (s.time.best = none → t.time.best = some (theta2, delta)) ∧
      (∀ b, s.time.best = some b → t.time.best = (if delta < b.2 then some (theta2, delta) else some b)))) ∧
  (∀ (s : State) (a : Word), s.quiet → s.time.sync = .master → exec (.timeServo a) s = .next (s.reach a)) ∧
  (∀ (s : State) (a : Word), s.quiet → s.time.sync ≠ .master → s.time.best = none →
    exec (.timeServo a) s = .next { s.reach a with time := { (s.reach a).time with goodSecs := 0 } }) ∧
  (∀ (s : State) (a : Word) (theta2 delta : Int), s.time.sync ≠ .master → s.time.best = some (theta2, delta) →
    let steps : Prop := s.time.sync = .free ∨ (s.time.stepLimit : Int) < theta2.natAbs * 500
    let good := if theta2.natAbs ≤ 2000 then min 4 (s.time.goodSecs + 1) else 0
    ∃ t : State, exec (.timeServo a) s = .next t ∧ t.print = s.print ∧ t.time.best = none ∧ t.time.goodSecs = good ∧
      t.time.epoch = (s.reach a).time.raw ∧
      t.time.sync = (if s.time.sync = .locked then .locked else if good = 4 then .locked else .converging) ∧
      (steps → (0 < theta2 ∨ s.print.started = false) → t.time.rate = clampTo 2147484 s.time.rate ∧ t.time.integ = s.time.integ) ∧
      (steps → theta2 ≤ 0 → s.print.started = true → t.time.rate = -2147484 ∧ t.time.integ = s.time.integ ∧
        (let x := s.time.offset + (s.time.rate * (((s.reach a).time.raw.toNat : Int) - s.time.epoch.toNat)) / 4294967296
         x = wrap64 x → t.now = (s.reach a).now)) ∧
      (¬ steps → t.time.integ = s.time.integ + theta2 ∧
        let n := clampTo 3200000 (4 * theta2 + t.time.integ) * 4294967296
        n / 32000000000 ≤ t.time.rate ∧ t.time.rate ≤ n / 32000000000 + 1)) ∧
  (∀ s : State, (s.quiet → (s.time.sync = .free ∨ s.time.sync = .master) → exec .timeLost s = .next s) ∧
    ((s.time.sync = .converging ∨ s.time.sync = .locked) → ∃ t : State, exec .timeLost s = .next t ∧
      t.time = { s.time with sync := .free, goodSecs := 0 } ∧ t.print = s.print))

/-! ### Motion -/

/-- MOVE, STOP and HOME: who is blocked, and what an accepted command sets (R335, R336, R339, R340, R343 to R345, R347). The order of the
causes of AXIS_BLOCKED is the model's reading (log 66). -/
def Obligations.MotionCommandsAreBlockedOrTaken : Prop :=
  (∀ (s : State) (a : AxisNo) (d : Int),
    let x := s.motion.axes[a]
    ((x.set.enable = false ∨ x.coilFault = true) → s.axisBlocked a d = some 0) ∧
    (x.set.enable = true → x.coilFault = false → x.limitDecel = true → s.axisBlocked a d = some 3) ∧
    (x.set.enable = true → x.coilFault = false → x.limitDecel = false → x.set.interlock = true → s.print.started = true →
      s.axisBlocked a d = some 2) ∧
    (∀ k, x.set.enable = true → x.coilFault = false → x.limitDecel = false → (x.set.interlock && s.print.started) = false →
      s.motion.switches[k].level = true → (d < 0 ∧ x.set.limitNeg = some k ∨ 0 < d ∧ x.set.limitPos = some k) →
      s.axisBlocked a d = some 1) ∧
    (x.set.enable = true → x.coilFault = false → x.limitDecel = false → (x.set.interlock && s.print.started) = false →
      s.limitAhead a d = none → (s.setHolds a = false → s.axisBlocked a d = none) ∧
        (s.setHolds a = true → ∃ k, k < 4 ∧ s.axisBlocked a d = some k))) ∧
  (∀ (s : State) (c : Cmd), Runs s 0x51 true false c →
    let a : AxisNo := Fin.ofNat 4 (bits (c.dw 0) 1 0)
    let x := s.motion.axes[a]
    let v := (c.dw 1).toInt
    let kind : MoveKind := if bits (c.dw 0) 3 2 = 0 then .position v else .speed v
    let d := if bits (c.dw 0) 3 2 = 0 then v - x.micro else v
    (2 ≤ bits (c.dw 0) 3 2 → exec (.move c) s = .next ((s.start c).reply c 0x51 .argBad 0)) ∧
    (bits (c.dw 0) 3 2 < 2 → ∀ k, s.axisBlocked a d = some k →
      exec (.move c) s = .next ((s.start c).drew.reply c 0x51 .axisBlocked (low40 (fld 0 2 a.val + fld 2 2 k)))) ∧
    (bits (c.dw 0) 3 2 < 2 → s.axisBlocked a d = none → ∃ u : State, exec (.move c) s = .next (u.reply c 0x51 .ok 0) ∧
      u.motion.axes[a] = { x with
        next := some (⟨kind, x.set.limits⟩, if bitAt (c.dw 0) 4 then some (Fin.ofNat 8 (bits (c.dw 0) 7 5)) else none)
        homing := none, homed := x.homed && x.homing.isNone } ∧
      (∀ b : AxisNo, b ≠ a → u.motion.axes[b] = s.motion.axes[b]) ∧ u.print = s.print)) ∧
  (∀ (s : State) (c : Cmd), Runs s 0x52 false false c →
    let a : AxisNo := Fin.ofNat 4 (c.argBits 1 0)
    let x := s.motion.axes[a]
    let on : Prop := x.limitDecel = false ∧ x.set.enable = true ∧ x.coilFault = false
    (x.limitDecel = true → exec (.stop c) s = .next ((s.start c).reply c 0x52 .axisBlocked (low40 (fld 0 2 a.val + 12)))) ∧
    (x.limitDecel = false → (x.set.enable = false ∨ x.coilFault = true) → exec (.stop c) s = .next ((s.start c).reply c 0x52 .ok 0)) ∧
    (on → c.arg.getLsbD 2 = true → ∃ u : State, exec (.stop c) s = .next (u.reply c 0x52 .ok 0) ∧
      (x.atRest = true → u.motion = s.motion) ∧
      (x.atRest = false → u.motion.axes[a].limitDecel = true ∧ u.motion.axes[a].move = some ⟨.stop, x.set.limitLimits⟩ ∧
        u.motion.axes[a].next = none ∧ u.motion.axes[a].homing = none ∧ u.motion.axes[a].homed = (x.homed && x.homing.isNone && !x.homeFail) ∧
        u.motion.axes[a].homeFail = false ∧ u.motion.axes[a].pos = x.pos) ∧ (∀ b : AxisNo, b ≠ a → u.motion.axes[b] = s.motion.axes[b]) ∧ u.print = s.print) ∧
    (on → c.arg.getLsbD 2 = false → ∃ u : State, exec (.stop c) s = .next (u.reply c 0x52 .ok 0) ∧
      u.motion.axes[a] = { x with next := some (⟨.stop, x.set.limits⟩, none), homing := none, homed := x.homed && x.homing.isNone } ∧
      (∀ b : AxisNo, b ≠ a → u.motion.axes[b] = s.motion.axes[b]) ∧ u.print = s.print)) ∧
  (∀ (s : State) (c : Cmd), Runs s 0x53 false false c →
    let a : AxisNo := Fin.ofNat 4 (c.argBits 1 0)
    let x := s.motion.axes[a]
    let fwd : Int := if x.set.homePosDir then 1 else -1
    let d := if s.atHome a then -fwd else fwd
    (∀ k, s.axisBlocked a d = some k →
      exec (.home c) s = .next ((s.start c).drew.reply c 0x53 .axisBlocked (low40 (fld 0 2 a.val + fld 2 2 k)))) ∧
    (s.axisBlocked a d = none → x.set.homeInput = none → exec (.home c) s = .next ((s.start c).reply c 0x53 .argBad 0)) ∧
    (s.axisBlocked a d = none → x.set.homeInput.isSome = true → ∃ u : State, exec (.home c) s = .next (u.reply c 0x53 .ok 0) ∧
      u.motion.axes[a].homing = some (if s.atHome a then .leave else .seek) ∧ u.motion.axes[a].next = none ∧
      u.motion.axes[a].move = some ⟨.speed (d * x.set.homeSpeed), x.set.limits⟩ ∧ u.motion.axes[a].travel = 0 ∧
      u.motion.axes[a].home = { speed := x.set.homeSpeed, pos := x.set.homePos, travel := x.set.homeTravel, back := x.set.homeReturn } ∧
      u.motion.axes[a].pos = x.pos ∧ (∀ b : AxisNo, b ≠ a → u.motion.axes[b] = s.motion.axes[b]) ∧ u.print = s.print))

/-- Each 32 kHz update moves one axis by its acceleration and speed, within the limits its move latched; switch inputs latch positions and
stop or home axes; the choppers and coil faults act on one axis (R333, R334, R337, R341 to R346, R348 to R350, R352). Where the jerk and
the roundings are open they are free (log 19). -/
def Obligations.AxesSwitchesAndCoilsFollowTheirRules : Prop :=
  (∀ (s : State) (ax : AxisNo), s.quiet → s.sys.power = .dormant → exec (.profileUpdate ax) s = .next s) ∧
  (∀ (s : State) (ax : AxisNo), s.sys.power ≠ .dormant → ∃ t : State, exec (.profileUpdate ax) s = .next t ∧ t.print = s.print ∧
    t.motion.switches = s.motion.switches ∧ (∀ b : AxisNo, b ≠ ax → t.motion.axes[b] = s.motion.axes[b]) ∧
    let x := s.motion.axes[ax]
    let y := t.motion.axes[ax]
    let waits : Prop := ∀ m, x.next = some (m, none) → s.moveHeld ax m.kind = true
    let starts (m : Move) : Prop := x.next = some (m, none) ∧ s.moveHeld ax m.kind = false
    y.set = x.set ∧
    (∀ l, x.homing = some (.rebase l) → waits → y.homed = true) ∧
    ((∀ l, x.homing ≠ some (.rebase l)) → x.move = none → waits →
      y.pos = x.pos ∧ y.vel = x.vel ∧ y.acc = x.acc ∧ y.move = none ∧ y.next = x.next) ∧
    (∀ (m : Move) (c : Nat), (∀ l, x.homing ≠ some (.rebase l)) → starts m → s.limitAhead ax (x.toward m.kind) = some c →
      x.limitDecel = false → x.vel = 0 → x.acc = 0 → y.next = none ∧ y.homing = none ∧ y.move = none ∧ y.pos = x.pos ∧ y.vel = 0) ∧
    (∀ m : Move, (∀ l, x.homing ≠ some (.rebase l)) →
      (starts m ∧ s.limitAhead ax (x.toward m.kind) = none ∨ waits ∧ x.move = some m) →
      ∃ (j d : Int), (j = 0 ∨ j = m.lim.j ∨ j = -(m.lim.j : Int)) ∧
        let acc := clampAcc x.vel (x.acc + j) m.lim
        let vel := x.vel + acc
        (1000000000 * d - 131072 * vel).natAbs < 1000000000 ∧
        ((y.acc = acc ∧ y.vel = vel ∧ y.pos = x.pos + d) ∨
          ∃ p, m.kind = .position p ∧ y.vel = 0 ∧ y.acc = 0 ∧ y.pos = p * 2 ^ 32 ∧
            ((y.pos - (x.pos + d)).natAbs < 2 ^ 32 ∨ (x.pos < y.pos ∧ y.pos < x.pos + d) ∨ (y.pos < x.pos ∧ x.pos + d < y.pos))) ∧
        (m.kind = .stop → y.vel = 0 → y.acc = 0 → x.homing = none → y.move = none ∧ y.limitDecel = false ∧ y.holdWait = true))) ∧
  (∀ (s : State) (sw : SwitchNo) (level : Bool), s.quiet → exec (.switchRawChange sw level) s =
    .next { s with motion := { s.motion with switches := upd s.motion.switches sw (fun w =>
      { w with raw := level, recorded := s.motion.axes.map AxisState.micro }) } }) ∧
  (∀ (s : State) (sw : SwitchNo) (held : Nat),
    let w := s.motion.switches[sw]
    let level := qualify w.filter w.level (xor w.raw w.activeLow) held
    s.quiet → level = w.level → exec (.switchQualified sw held) s = .next s) ∧
  (∀ (s : State) (sw : SwitchNo) (held : Nat),
    let w := s.motion.switches[sw]
    let level := qualify w.filter w.level (xor w.raw w.activeLow) held
    level ≠ w.level → ∃ t : State, exec (.switchQualified sw held) s = .next t ∧ t.print = s.print ∧
    t.motion.switches[sw] = { s.motion.switches[sw] with level := level } ∧
    (∀ k : SwitchNo, k ≠ sw → t.motion.switches[k] = s.motion.switches[k]) ∧
    (∀ a : AxisNo,
      let x := s.motion.axes[a]
      let y := t.motion.axes[a]
      let named : Prop := x.set.limitNeg = some sw ∨ x.set.limitPos = some sw
      (¬ named → x.set.homeInput ≠ some sw → y = x) ∧
      (named → y.latch = some { position := s.motion.switches[sw].recorded[a], input := sw, level := level, overrun := x.latch.isSome }) ∧
      (x.atRest = false → level = true → (x.set.limitNeg = some sw ∧ x.heading < 0 ∨ x.set.limitPos = some sw ∧ 0 < x.heading) →
        y.limitDecel = true ∧ y.next = none ∧ y.homing = none ∧ y.pos = x.pos) ∧
      (¬ named → x.set.homeInput = some sw → x.homing = some .seek → level ≠ x.set.homeInactive →
        y.homing = some (.rebase s.motion.switches[sw].recorded[a]) ∧ y.pos = x.pos))) ∧
  (∀ (s : State) (ax : AxisNo), s.quiet →
    (s.motion.axes[ax].holdWait = false → exec (.holdDelay ax) s = .next s) ∧
    (s.motion.axes[ax].holdWait = true → ∃ t : State, exec (.holdDelay ax) s = .next t ∧
      t.motion.axes[ax] = ({ s.motion.axes[ax] with holding := true, holdWait := false } : AxisState).drive ∧
      (∀ b : AxisNo, b ≠ ax → t.motion.axes[b] = s.motion.axes[b]) ∧ t.print = s.print)) ∧
  (∀ (s : State) (ax : AxisNo) (coil : Coil) (lasted sense : Nat),
    let x := s.motion.axes[ax]
    let c := x.coil coil
    let off : Prop := s.chops ax coil = false ∨ c.blanked lasted = true ∨ (c.drive = true ∧ sense ≤ 256 * c.upper) ∨
      (c.drive = false ∧ 256 * c.lower ≤ sense)
    (s.quiet → off → exec (.chopperTransition ax coil ⟨lasted, sense⟩) s = .next s) ∧
    (¬ off → ∃ t : State, exec (.chopperTransition ax coil ⟨lasted, sense⟩) s = .next t ∧ t.print = s.print ∧
      (∀ b : AxisNo, b ≠ ax → t.motion.axes[b] = s.motion.axes[b]) ∧ t.motion.axes[ax].pos = x.pos ∧
      let d := t.motion.axes[ax].coil coil
      d.target = c.target ∧ d.ph = c.ph ∧
      (c.drive = true → d = { c with drive := false, tOn := some lasted }) ∧
      (c.drive = false → d.drive = true ∧ d.tOn = none ∧ d.cyc = x.set.chop ∧
        (∃ up, roundOfs d.ofs c.ofsRem up = (d.ofsNow, d.ofsRem)) ∧
        (c.cyc.adapt = false ∨ c.tOn = none ∨ (∀ n, c.tOn = some n → n * lasted ≤ 2 * (c.cyc.delayNs * (n + lasted))) → d.ofs = c.ofs) ∧
        (c.cyc.adapt = true → (∀ r ∈ s.health.runs, r.proc ≠ .chopper ax) → ∀ n cyc, c.tOn = some n →
          ofsCycle c.cyc.hyst c.cyc.delayNs n lasted = some cyc → ∃ up, d.ofs = clampOfs (moveOfs c.ofs cyc up))))) ∧
  (∀ (s : State) (ax : AxisNo) (coil : Coil) (r : CoilFaultReason),
    let x := s.motion.axes[ax]
    (s.quiet → s.mayFault ax coil r = false → exec (.coilFault ax coil r) s = .next s) ∧
    (s.mayFault ax coil r = true → ∃ t : State, exec (.coilFault ax coil r) s = .next t ∧ t.print = s.print ∧
      (∀ b : AxisNo, b ≠ ax → t.motion.axes[b] = s.motion.axes[b]) ∧
      let y := t.motion.axes[ax]
      y.coilFault = true ∧ y.move = none ∧ y.next = none ∧ y.homing = none ∧ y.homed = false ∧ y.vel = 0 ∧ y.acc = 0 ∧ y.pos = x.pos ∧
      y.coilA.target = 0 ∧ y.coilA.drive = false ∧ y.coilB.target = 0 ∧ y.coilB.drive = false))

/-! ### Cameras, health and calibration -/

/-- CAMERA_COMMIT queues the shadow set under the next GENERATION; the reads give whole records and frames and the releases free the
oldest up to the one they name (R379, R549, R587). -/
def Obligations.CameraCommandsCommitReadAndRelease : Prop :=
  (∀ (s : State) (c : Cmd), Runs s 0x41 false false c →
    let p := camOf (c.argBits 1 0)
    let q := s.cam.ports[p]
    ∃ u : State, exec (.cameraCommit c) s = .next (u.reply c 0x41 .ok (low40 (q.gen + 1).toNat)) ∧
      u.cam.ports[p] = { q with gen := q.gen + 1, commits := q.commits ++ [(q.gen + 1, q.shadow)] } ∧
      (∀ r : CamNo, r ≠ p → u.cam.ports[r] = s.cam.ports[r]) ∧ u.print = s.print) ∧
  (∀ (s : State) (c : Cmd), Runs s 0x42 true false c →
    let rs := (s.cam.ports[camOf (bits (c.dw 0) 1 0)].stats.filter (fun r => !r.lost)).takeWhile (fun r => r.processed)
    let ws := fitting (bits (c.dw 2) 31 0) (rs.map (fun r => r.words)) 0
    (bufferBad (c.dw 1) (c.dw 2) = true → exec (.statsRead c) s = .next ((s.start c).reply c 0x42 .argBad 0)) ∧
    (bufferBad (c.dw 1) (c.dw 2) = false →
      (rs = [] → exec (.statsRead c) s = .next ((s.start c).reply c 0x42 .ok 0)) ∧
      (∀ r l, rs = r :: l → (ws = [] → exec (.statsRead c) s =
          .next ((s.start c).reply c 0x42 .bufferSmall (low40 (blockBytes r.words)))) ∧
        (ws ≠ [] → Writes c 1 ws.flatten → exec (.statsRead c) s = .next (((s.start c).emit (.hostWrite (c.dw 1) (pad64 ws.flatten))).reply c
          0x42 .ok (low40 (fld 0 16 ws.length + fld 16 24 r.frame))))))) ∧
  (∀ (s : State) (c : Cmd), Runs s 0x43 false false c →
    let p := camOf (c.argBits 33 32)
    let rs := (s.cam.ports[p].stats.filter (fun r => !r.lost)).takeWhile (fun r => r.processed)
    let n := releaseCount (rs.map (fun r => r.frame)) (c.argBits 31 0)
    (n = 0 → exec (.statsRelease c) s = .next ((s.start c).reply c 0x43 .notFound 0)) ∧
    (n ≠ 0 → ∃ u : State, exec (.statsRelease c) s = .next (u.reply c 0x43 .ok (low40 n)) ∧
      (∀ x ∈ u.cam.ports[p].stats, x ∈ s.cam.ports[p].stats ∧ ∀ y ∈ rs.take n, x.frame ≠ y.frame) ∧
      (∀ r : CamNo, r ≠ p → u.cam.ports[r] = s.cam.ports[r]) ∧ u.print = s.print)) ∧
  (∀ (s : State) (c : Cmd), Runs s 0x44 true false c →
    let x := s.cam.ports[camOf (bits (c.dw 0) 1 0)].taps[(Fin.ofNat 4 (bits (c.dw 0) 3 2) : Fin 4)]
    let n := (fitting (bits (c.dw 2) 31 0) (x.frames.map (fun f => f.2.flatten)) 0).length
    let bs := ((x.frames.take n).flatMap (fun f => f.2)).flatten
    let d := (s.start c).readBursts (regionReads 7 c.reads)
    (bufferBad (c.dw 1) (c.dw 2) = true → exec (.tapRead c) s = .next ((s.start c).reply c 0x44 .argBad 0)) ∧
    (bufferBad (c.dw 1) (c.dw 2) = false →
      (x.frames = [] → exec (.tapRead c) s = .next ((s.start c).reply c 0x44 .ok 0)) ∧
      (∀ f l, x.frames = f :: l → (n = 0 → exec (.tapRead c) s =
          .next ((s.start c).reply c 0x44 .bufferSmall (low40 (blockBytes f.2.flatten)))) ∧
        (n ≠ 0 → d.2 = [] → d.1.poisonIn 7 = none → Writes c 1 bs → exec (.tapRead c) s =
          .next ((d.1.emit (.hostWrite (c.dw 1) (pad64 bs))).reply c 0x44 .ok (low40 (blockBytes bs)))) ∧
        (∀ b l', n ≠ 0 → d.2 = b :: l' → Writes c 1 bs → ∃ u : State, exec (.tapRead c) s =
          .next (u.reply c 0x44 .dramError (burstResult b)) ∧ u.cam = s.cam ∧ u.print = s.print)))) ∧
  (∀ (s : State) (c : Cmd), Runs s 0x45 false false c →
    let p := camOf (c.argBits 33 32)
    let k : Fin 4 := Fin.ofNat 4 (c.argBits 35 34)
    let n := releaseCount (s.cam.ports[p].taps[k].frames.map (fun f => f.1)) (c.argBits 31 0)
    (n = 0 → exec (.tapRelease c) s = .next ((s.start c).reply c 0x45 .notFound 0)) ∧
    (n ≠ 0 → ∃ u : State, exec (.tapRelease c) s = .next (u.reply c 0x45 .ok (low40 n)) ∧
      u.cam.ports[p].taps[k] = { s.cam.ports[p].taps[k] with frames := s.cam.ports[p].taps[k].frames.drop n } ∧
      (∀ r : CamNo, r ≠ p → u.cam.ports[r] = s.cam.ports[r]) ∧ u.cam.ports[p].stats = s.cam.ports[p].stats ∧ u.print = s.print))

/-- The bring-up of a camera link takes each event in its own phase and no other, and a port that leaves ACTIVE closes its frames (R357,
R358, R380, R381). -/
def Obligations.CameraLinksComeUpAndFall : Prop :=
  ∀ (s : State) (p : CamNo),
    let q := s.cam.ports[p]
    let d := q.direct
    let goes (c : Instr) (l : CamLink) : Prop := ∃ t : State, exec c s = .next t ∧ t.cam.ports[p] = { q with link := l } ∧
      (∀ r : CamNo, r ≠ p → t.cam.ports[r] = s.cam.ports[r]) ∧ t.print = s.print
    let fails (c : Instr) : Prop := ∃ t : State, exec c s = .next t ∧ t.cam.ports[p] = { q with link := .waitReset, downTold := true } ∧
      (∀ r : CamNo, r ≠ p → t.cam.ports[r] = s.cam.ports[r]) ∧ t.print = s.print
    let not (c : Instr) : Prop := s.quiet → exec c s = .next s
    let same (r : Bootstrap) : Bool := r.twoLanes == d.twoLanes && r.cxp12 == d.cxp12 && r.format == d.format && r.width == d.width
    (q.link = .waitReset → s.camExists = true → goes (.camConnectionReset p) .waitLock) ∧
    ((q.link ≠ .waitReset ∨ s.camExists = false) → not (.camConnectionReset p)) ∧
    (q.link = .waitLock → goes (.characterLock p true) .waitBootstrap ∧ fails (.characterLock p false)) ∧
    (q.link ≠ .waitLock → ∀ b, not (.characterLock p b)) ∧
    (q.link = .waitBootstrap → ∀ r, (same r = true → goes (.camBootstrapReply p r) .waitAck) ∧ (same r = false → fails (.camBootstrapReply p r))) ∧
    (q.link ≠ .waitBootstrap → ∀ r, not (.camBootstrapReply p r)) ∧
    (q.link = .waitAck → ∃ t : State, exec (.camWriteAck p) s = .next t ∧ t.cam.ports[p].link = .active ∧ t.cam.ports[p].downTold = false ∧
      t.cam.ports[p].writes = (q.active.regs.take q.active.regCount).map (fun r => (q.genActive, r.1, r.2)) ∧ t.print = s.print) ∧
    (q.link = .waitAck → ∀ b, fails (.camWriteFail p b)) ∧
    (q.link = .active → q.writes = [] → not (.camWriteAck p) ∧ ∀ b, not (.camWriteFail p b)) ∧
    (∀ w ws, q.link = .active → q.writes = w :: ws → ∃ t : State, exec (.camWriteAck p) s = .next t ∧ t.cam.ports[p].writes = ws ∧
      t.cam.ports[p].certainty = (if ws = [] ∧ q.certainty = .writing then .acked else q.certainty) ∧ t.cam.ports[p].link = .active ∧
      t.print = s.print) ∧
    (∀ w ws b, q.link = .active → q.writes = w :: ws → ∃ t : State, exec (.camWriteFail p b) s = .next t ∧
      t.cam.ports[p].writes = ws.filter (fun x => x.1 != w.1) ∧
      t.cam.ports[p].certainty = (if ws.filter (fun x => x.1 != w.1) = [] then .failed else .writing) ∧ t.cam.ports[p].link = .active ∧
      t.print = s.print) ∧
    (q.link ≠ .waitAck → q.link ≠ .active → not (.camWriteAck p) ∧ ∀ b, not (.camWriteFail p b)) ∧
    (q.link = .active → ∃ t : State, exec (.camLockLoss p) s = .next t ∧ t.cam.ports[p].link = .waitReset ∧ t.cam.ports[p].frames = [] ∧
      t.cam.ports[p].triggers = [] ∧ t.cam.ports[p].lastEdge = none ∧ (∀ r : CamNo, r ≠ p → t.cam.ports[r] = s.cam.ports[r]) ∧
      t.print = s.print) ∧
    (q.link ≠ .active → not (.camLockLoss p))

/-- A packet is checked and charged, a line goes to the oldest outstanding trigger, and a frame closes with its status as a record; the
compressor and the statistics go on one token and one record at a time (R128, R362, R363, R366, R376, R382, R383, R386). The full buckets
at reset are a choice (log 20), and forgotten lines are discarded by count (log 67). -/
def Obligations.FramesTakePacketsAndLines : Prop :=
  (∀ (s : State) (p : CamNo) (k : StreamPacket),
    let q := s.cam.ports[p]
    let good : Prop := k.bytes ≤ 16384 ∧ k.crcOk = true ∧ k.headerOk = true
    let have_ := bucketNow q.credit q.direct.budget (1000000 * q.direct.budget) s.time.raw
    (s.quiet → q.link ≠ .active → exec (.streamPacket p k) s = .next s) ∧
    let of_ : Option Frame := if 0 < q.forgotten then none else q.due
    (q.link = .active → ¬ good → ∃ t : State, exec (.streamPacket p k) s = .next t ∧ t.print = s.print ∧
      (k.bytes ≤ 16384 → k.crcOk = false → t.lanes.lanes[camLane p false].frameErr =
        min 65535 (s.lanes.lanes[camLane p false].frameErr + 1)) ∧
      (∀ f, of_ = some f → (∀ x ∈ t.cam.ports[p].frames, x.number ≠ f.number) ∧ ∃ r, t.cam.ports[p].stats.getLast? = some r ∧
        r.frame = f.number ∧ r.status = 3) ∧
      (of_ = none → t.cam = s.cam)) ∧
    (q.link = .active → good → (∀ f, of_ = some f → f.dropped = false) → 10 * k.samples ≤ have_ → s.quiet →
      exec (.streamPacket p k) s = .next (s.setCam p (fun q => { q with credit := (have_ - 10 * k.samples, s.time.raw) }))) ∧
    (q.link = .active → good → (∀ f, of_ = some f → f.dropped = false) → have_ < 10 * k.samples → ∃ t : State,
      exec (.streamPacket p k) s = .next t ∧ t.cam.ports[p].credit = (have_, s.time.raw) ∧ t.print = s.print ∧
      ∀ f, of_ = some f → ∀ x ∈ t.cam.ports[p].frames, x.number = f.number → x.dropped = true) ∧
    (s.quiet → q.link = .active → good → (∃ f, of_ = some f ∧ f.dropped = true) → exec (.streamPacket p k) s = .next s)) ∧
  (∀ (s : State) (p : CamNo) (v : List (BitVec 12)) (r : List BurstRead),
    let q := s.cam.ports[p]
    let takes (f : CamState → CamState) : Prop := s.quiet → exec (.cameraLine p v r) s = .next (s.setCam p f)
    (s.quiet → q.link ≠ .active → exec (.cameraLine p v r) s = .next s) ∧
    (q.link = .active → 0 < q.forgotten → takes (fun q => { q with forgotten := q.forgotten - 1 })) ∧
    (q.link = .active → q.forgotten = 0 → q.triggers = [] → takes (fun q => { q with unmatched := min 65535 (q.unmatched + 1) })) ∧
    (∀ t ts, q.link = .active → q.forgotten = 0 → q.triggers = t :: ts →
      ((t.frame = none ∨ ∃ n, t.frame = some n ∧ q.frame n = none) → takes (fun q => { q with triggers := ts })) ∧
      (∀ n f, t.frame = some n → q.frame n = some f → ∃ u : State, exec (.cameraLine p v r) s = .next u ∧ u.print = s.print ∧
        ((∀ g ∈ q.frames, g.full = false) → u.cam.ports[p].triggers = ts ∧
          ∃ x ∈ u.cam.ports[p].frames, x.number = n ∧ x.lines = f.lines + 1) ∧
        (q.frames = [f] → f.full = true → (∀ y ∈ ts, y.frame ≠ some n) → u.cam.ports[p].frames = [] ∧
          ∃ z, u.cam.ports[p].stats.getLast? = some z ∧ z.frame = n ∧ z.status = (if f.dropped then 2 else 0))))) ∧
  (∀ (s : State) (p : CamNo), (s.quiet → s.cam.ports[p].oldest = none → exec (.frameTimeout p) s = .next s) ∧
    (∀ f, s.cam.ports[p].oldest = some f → ∃ t : State, exec (.frameTimeout p) s = .next t ∧ t.print = s.print ∧
      (∀ x ∈ t.cam.ports[p].frames, x.number ≠ f.number) ∧ (∀ x ∈ t.cam.ports[p].triggers, x.frame ≠ some f.number) ∧
      ∃ r, t.cam.ports[p].stats.getLast? = some r ∧ r.frame = f.number ∧ r.status = 1)) ∧
  (∀ (s : State) (p : CamNo),
    let q := s.cam.ports[p]
    let f := q.frames.find? (fun f => f.timeLeft.any (fun k => decide (0 < k)))
    let at_ : Rat := (s.time.raw.toNat : Rat) * 1000
    (s.quiet → f = none → exec (.timeModeLine p) s = .next s) ∧
    (∀ x, f = some x → ∃ t : State, exec (.timeModeLine p) s = .next t ∧ t.print = s.print ∧
      (q.tooSoon at_ = false → t.cam.ports[p].lastEdge = some at_ ∧
        t.cam.ports[p].triggers = q.triggers ++ [⟨s.sluice.barLine, s.sluice.barLine, some x.number⟩]) ∧
      (q.tooSoon at_ = true → t.cam.ports[p].lastEdge = q.lastEdge))) ∧
  (∀ (s : State), s.quiet → (s.yields = true ∨ s.sec.exportCtx = none) → exec (.compressorToken .logExport) s = .next s) ∧
  (∀ (s : State) (c : ExportCtx) (w x : List Word) (l : List (List Word)), s.quiet → s.yields = false → s.sec.exportCtx = some c →
    c.held = w :: x :: l → exec (.compressorToken .logExport) s =
      .next { s with sec := { s.sec with exportCtx := some { c with held := x :: l, ring := c.ring ++ w } } }) ∧
  (∀ (s : State) (p : CamNo) (k : Fin 4),
    let c := s.cam.ports[p].taps[k]
    let have_ := bucketNow s.cam.tapCredit s.cam.tapRate 655360 s.time.raw
    (s.quiet → c.writing.find? (fun f => !f.held.isEmpty) = none → exec (.compressorToken (.tap p k)) s = .next s) ∧
    (∀ f x l, c.writing.find? (fun f => !f.held.isEmpty) = some f → f.held = x :: l → ∃ t : State,
      exec (.compressorToken (.tap p k)) s = .next t ∧ t.print = s.print ∧
      ((s.yields = true ∨ c.ring < c.used + x.words.length ∨ have_ < 80 * x.words.length) →
        t.cam.ports[p].taps[k] = { c with stuck := true } ∧ t.cam.tapCredit = s.cam.tapCredit) ∧
      (s.yields = false → c.used + x.words.length ≤ c.ring → 80 * x.words.length ≤ have_ →
        t.cam.tapCredit = (have_ - 80 * x.words.length, s.time.raw) ∧ t.cam.ports[p].taps[k].stuck = false ∧
        t.cam.ports[p].taps[k].staged ≤ c.staged ∧ t.cam.ports[p].taps[k].ring = c.ring))) ∧
  (∀ (s : State) (p : CamNo),
    (s.quiet → s.cam.ports[p].stats.find? (fun r => !r.processed) = none → exec (.statsRecordProcess p) s = .next s) ∧
    (∀ r, s.cam.ports[p].stats.find? (fun r => !r.processed) = some r → ∃ t : State, exec (.statsRecordProcess p) s = .next t ∧
      (∀ x ∈ t.cam.ports[p].stats, x.frame = r.frame → x.processed = true) ∧ t.cam.ports[p].frames = s.cam.ports[p].frames ∧
      t.cam.ports[p].link = s.cam.ports[p].link))

/-- HEALTH_READ writes the states of a head's nozzles, HEALTH_FORCE sets one, a nozzle report is kept and struck once at each strip end,
and verdicts change a nozzle by R393; records go to MRAM (R393, R395, R396, R399, R400, R549). That HEALTH_FORCE keeps the counters is the
model's reading (log 68). -/
def Obligations.HealthMapTakesVerdictsAndCommands : Prop :=
  (∀ (s : State) (c : Cmd), Runs s 0x46 true false c →
    let p : HeadPort := Fin.ofNat 32 (bits (c.dw 0) 4 0)
    let no (st : Code) (n : Nat) : Prop := exec (.healthRead c) s = .next ((s.begun 0x46 c).reply c 0x46 st (low40 n))
    (bufferBad (c.dw 1) (c.dw 2) = true → no .argBad 0) ∧
    (bufferBad (c.dw 1) (c.dw 2) = false → s.mapHead p = none → no .notFound 0) ∧
    (∀ h, s.mapHead p = some h →
      let ws := packAll 2 ((List.range h.nozzles).map (fun i => (s.nozzleState ⟨p, i⟩).code))
      Writes c 1 ws → exec (.healthRead c) s =
        .next (((s.begun 0x46 c).emit (.hostWrite (c.dw 1) (pad64 ws))).reply c 0x46 .ok (low40 h.nozzles)))) ∧
  (∀ (s : State) (c : Cmd), Runs s 0x47 false false c →
    let p : HeadPort := Fin.ofNat 32 (c.argBits 4 0)
    let i := c.argBits 17 5
    let old := s.health.ports[p].nozzles
    let none_ : Prop := ∀ h, s.mapHead p = some h → h.nozzles ≤ i
    (none_ → exec (.healthForce c) s = .next ((s.start c).reply c 0x47 .notFound 0)) ∧
    (¬ none_ → ∃ u : State, exec (.healthForce c) s = .next (u.reply c 0x47 .ok 0) ∧
      u.health.ports[p].nozzles = old.set i { old.getD i {} with state := if c.argBits 18 18 = 1 then .forced else .ok } ∧
      (∀ q : HeadPort, q ≠ p → u.health.ports[q] = s.health.ports[q]) ∧ (∀ y ∈ u.health.syncs, y.nozzle ≠ ⟨p, i⟩) ∧
      u.print = s.print)) ∧
  (∀ (s : State) (c : Cmd), Runs s 0x49 false false c →
    let pos := c.argBits 16 0
    let b := c.argBits 17 17 == 1
    let v := c.argBits 19 18
    let spares : Prop := ∃ m, s.mapper.inForce = some m ∧ m.spares = true
    (v ≠ 3 → b = true → ¬ spares → exec (.nozzleReport c) s = .next ((s.start c).reply c 0x49 .ok 0)) ∧
    (v ≠ 3 → (b = false ∨ spares) → ∃ u : State, exec (.nozzleReport c) s = .next (u.reply c 0x49 .ok 0) ∧
      u.health = { s.health with kept := s.health.kept.filter (fun k => k.position != pos || k.candB != b) ++ [⟨pos, b, verdictAt v⟩] } ∧
      u.print = s.print) ∧
    (v = 3 → s.noClaim = true → exec (.nozzleReport c) s = .next ((s.start c).reply c 0x49 .ok 0)) ∧
    (v = 3 → ∃ u : State, exec (.nozzleReport c) s = .next (u.reply c 0x49 .ok 0) ∧ u.health.kept = s.health.kept ∧ u.print = s.print ∧
      (∀ m k x, s.pair.paired = false → s.mapper.inForce = some m → s.health.kept = [k] → m.candAt k.position k.candB = some x →
        x.nozzle.index < s.health.ports[x.nozzle.port].nozzles.length → s.health.syncs = [] →
        u.health.ports[x.nozzle.port].nozzles = s.health.ports[x.nozzle.port].nozzles.set x.nozzle.index
          ((s.health.ports[x.nozzle.port].nozzles.getD x.nozzle.index {}).apply s.health.set k.verdict)))) ∧
  (∀ (t : HealthSettings) (n : NozzleRec), (n.state = .forced → ∀ v, n.apply t v = n) ∧
    (n.state ≠ .forced →
      ((n.apply t .missing).okRun = 0 ∧ (n.miss + 1 < t.failCount → (n.apply t .missing).state = n.state ∧
        (n.apply t .missing).miss = n.miss + 1) ∧ (t.failCount ≤ n.miss + 1 → (n.apply t .missing).state = .failed)) ∧
      ((n.apply t .weak).miss = 0 ∧ (n.apply t .weak).okRun = 0 ∧ (n.apply t .weak).state = (if n.state = .ok then .weak else n.state)) ∧
      ((n.apply t .ok).miss = 0 ∧ (n.okRun + 1 < t.recoverCount → (n.apply t .ok).state = n.state ∧ (n.apply t .ok).okRun = n.okRun + 1) ∧
        (t.recoverCount ≤ n.okRun + 1 → (n.apply t .ok).state = .ok)))) ∧
  (∀ (s : State) (slot : Fin 8) (n : NodeNo),
    (s.quiet → (slot.val, n) ∉ s.health.awaiting → exec (.nozzleReportLost slot n) s = .next s) ∧
    ((slot.val, n) ∈ s.health.awaiting → ∃ t : State, exec (.nozzleReportLost slot n) s = .next t ∧
      t.health = { s.health with awaiting := s.health.awaiting.erase (slot.val, n), resend := s.health.resend ||| (1#8 <<< slot.val) } ∧
      t.print = s.print)) ∧
  (∀ s : State, ∃ t : State, exec .healthMapPersist s = .next t ∧ t.print = s.print ∧ ∀ p : HeadPort,
    t.health.ports[p].nozzles = s.health.ports[p].nozzles ∧
    (s.health.ports[p].changed = false ∨ s.health.ports[p].judged = none → t.health.ports[p] = s.health.ports[p]) ∧
    (∀ r, s.health.ports[p].changed = true → s.health.ports[p].judged.isSome = true → s.health.ports[p].record = some r → t.health.ports[p].changed = false ∧
      t.health.ports[p].record = some { r with states := s.health.ports[p].nozzles.map (fun n => n.state) }))

/-- A calibration procedure runs from its command to the one response at its end; a busy target refuses, a failed assumption ends it with
its reason, and one that passes writes its result (R403, R404, R405). The reason for too small a coverage in density calibration is the
model's reading (log 69). -/
def Obligations.CalibrationsRunToTheirOneAnswer : Prop :=
  (∀ (s : State) (c : Cmd) (op : Byte) (p : CalProc) (i : Instr),
    (op = 0xC0 ∧ i = .calNozzle c ∧ p = .nozzle (Fin.ofNat 32 (c.argBits 4 0)) ∨ op = 0xC1 ∧ i = .calDensity c ∧ p = .density ∨
      op = 0xC2 ∧ i = .calEncTrim c ∧ p = .encTrim (Fin.ofNat 2 (c.argBits 0 0)) ∨
      op = 0xC3 ∧ i = .calChopper c ∧ p = .chopper (Fin.ofNat 4 (c.argBits 1 0))) → Runs s op false false c →
    ((s.health.run p).isSome = true → exec i s = .next ((s.begun op c).reply c op .calBusy 0)) ∧
    (∀ n, s.health.run p = none → s.calFault p = some n →
      let d := pack40 [fld 0 3 p.num, fld 3 5 p.target, fld 8 18 n]
      exec i s = .next ((((s.begun op c).dropRun p).raise .calFail d).respond c.origin op c.tag .calFail d).settle) ∧
    (s.health.run p = none → s.calFault p = none → ∃ (t : State) (r : CalRun), exec i s = .next t ∧
      t.health.runs = s.health.runs ++ [r] ∧ r.proc = p ∧ r.origin = c.origin ∧ r.tag = c.tag ∧ r.opcode = op ∧ r.strips = 0 ∧
      r.tally = [] ∧ r.mode = s.print.startMode ∧ t.print = s.print ∧
      (∀ m h, s.mapper.inForce = some m → m.spares = true → p = .nozzle h → t.mapper.forced = s.mapper.forced ||| (1#32 <<< h.val)) ∧
      (∀ a, p = .chopper a → s.motion.axes[a].coilA.target < s.motion.axes[a].coilB.target →
        t.motion.axes[a].coilB.ofs = 0 ∧ t.motion.axes[a].coilA = s.motion.axes[a].coilA))) ∧
  (∀ (s : State), (s.print.started = false → ∀ h, s.calFault (.nozzle h) = some 1 ∧ s.calFault .density = some 1) ∧
    (∀ e, (s.enc.encs[e].mode ≠ .analogue ∨ s.enc.encs[e].lossEp = true) → s.calFault (.encTrim e) = some 6) ∧
    (∀ a, (s.motion.axes[a].set.enable = false ∨ s.motion.axes[a].coilFault = true ∨ s.motion.axes[a].set.runCurrent < 91) →
      s.calFault (.chopper a) = some 7)) ∧
  (∀ (s : State) (c : Cmd), Runs s 0xCF false false c →
    let f := s.health.runs.find? (fun r => r.proc.num == c.argBits 2 0 && r.proc.target == c.argBits 7 3)
    (f = none → exec (.calCancel c) s = .next ((s.start c).reply c 0xCF .notFound 0)) ∧
    (∀ r, f = some r → exec (.calCancel c) s = .next (((s.start c).calFail r 9).reply c 0xCF .ok 0))) ∧
  (∀ (s : State) (p : CalProc), (s.quiet → (s.health.run p = none ∨ 2 < p.num) → exec (.calTimeout p) s = .next s) ∧
    (∀ r, s.health.run p = some r → p.num ≤ 2 → exec (.calTimeout p) s = .next (s.calFail r 5).settle)) ∧
  (∀ (s : State) (p : CalProc) (m : CalMeasure), s.quiet → s.health.run p = none → exec (.calProcedureEnd p m) s = .next s) ∧
  (∀ (s : State) (h : HeadPort) (r : CalRun), s.health.run (.nozzle h) = some r →
    let go := exec (.calProcedureEnd (.nozzle h) .strips) s
    (s.quiet → r.strips < s.health.set.detPages → go = .next s) ∧
    (∀ n, s.health.set.detPages ≤ r.strips → s.printFault = some n → go = .next (s.calFail r n).settle) ∧
    (s.health.set.detPages ≤ r.strips → s.printFault = none → ∃ t : State, go = .next t ∧ t.print = s.print ∧
      t.health.runs = s.health.runs.filter (fun q => q.proc != r.proc) ∧
      (∀ q : HeadPort, q ≠ h → t.health.ports[q] = s.health.ports[q]) ∧
      ∀ i, i < s.health.ports[h].nozzles.length →
        let old := s.health.ports[h].nozzles.getD i {}
        let new := t.health.ports[h].nozzles.getD i {}
        new.miss = 0 ∧ new.okRun = 0 ∧ (old.state = .forced → new.state = .forced) ∧
        (r.tally.find? (fun x => x.nozzle == ⟨h, i⟩) = none → new.state = old.state) ∧
        (∀ x, r.tally.find? (fun x => x.nozzle == ⟨h, i⟩) = some x → old.state ≠ .forced → new.state =
          (if r.strips < 2 * x.missing then .failed else if x.okay = r.strips then .ok else old.state)))) ∧
  (∀ (s : State) (r : CalRun), s.health.run .density = some r →
    let go := exec (.calProcedureEnd .density .strips) s
    let fails (n : Nat) : Prop := go = .next (s.calFail r n).settle
    (s.quiet → r.strips < s.health.set.dcPages → go = .next s) ∧
    (∀ n, s.health.set.dcPages ≤ r.strips → s.printFault = some n → fails n) ∧
    (s.health.set.dcPages ≤ r.strips → s.printFault = none → s.mapNext = none → fails 1) ∧
    (∀ m, s.health.set.dcPages ≤ r.strips → s.printFault = none → s.mapNext = some m →
      let cands := m.positions.flatMap PosEntry.cands
      let seen := (cands.filter (fun c => r.tally.any (fun t => t.nozzle == c.nozzle))).length
      (10 * seen < 9 * cands.length → fails 5) ∧
      (9 * cands.length ≤ 10 * seen → ∃ t : State, go = .next t ∧ t.print = s.print ∧ t.mapper.rollout.isSome = true ∧
        t.mapper.curveIdx = s.mapper.curveIdx.filter (fun x => (lookupNozzle (s.densityMoves m r) x.1).isNone) ++ s.densityMoves m r))) ∧
  (∀ (s : State) (e : EncNo) (r : CalRun) (oS oC g ph : Int) (ppm mdeg : Nat), s.health.run (.encTrim e) = some r →
    let k := s.enc.encs[e]
    let go := exec (.calProcedureEnd (.encTrim e) (.trim oS oC g ph ppm mdeg)) s
    let signal : Prop := k.mode = .analogue ∧ k.lossEp = false ∧ 65536 ≤ (k.position.toInt - r.start).natAbs
    let fit : Prop := ppm ≤ 2000 ∧ mdeg ≤ 200 ∧ (-2048 ≤ oS ∧ oS ≤ 2047) ∧ (-2048 ≤ oC ∧ oC ≤ 2047) ∧ (8192 ≤ g ∧ g ≤ 32768) ∧ (-8192 ≤ ph ∧ ph ≤ 8192)
    (¬ signal → go = .next (s.calFail r 6).settle) ∧ (signal → ¬ fit → go = .next (s.calFail r 8).settle) ∧
    (signal → fit → ∃ t : State, go = .next t ∧ t.print = s.print ∧ t.enc.encs[e].position = k.position ∧
      let v : EncTrim := { ofsS := oS, ofsC := oC, gainC := g.toNat, phase := ph }
      (s.print.started = false → t.enc.encs[e].trim = v) ∧
      (s.print.started = true → t.enc.encs[e].trim = k.trim ∧ t.enc.encs[e].trimNext = some v))) ∧
  (∀ (s : State) (a : AxisNo) (r : CalRun) (on1 off1 on2 off2 : Nat), s.health.run (.chopper a) = some r →
    let x := s.motion.axes[a]
    let go := exec (.calProcedureEnd (.chopper a) (.chops on1 off1 on2 off2)) s
    let ready : Prop := x.set.enable = true ∧ x.atRest = true ∧ x.coilFault = false ∧ 91 ≤ x.set.runCurrent
    let d := chopDelay x.set.hyst on1 off1 on2 off2
    (¬ ready → go = .next (s.calFail r 7).settle) ∧
    (ready → (∀ v, d = some v → v < 0 ∨ 2000 < v) → go = .next (s.calFail r 8).settle) ∧
    (∀ v, ready → d = some v → 0 ≤ v → v ≤ 2000 → ∃ t : State, go = .next t ∧ t.print = s.print ∧
      |(t.motion.axes[a].set.delayNs : Rat) - v| < 1 ∧ t.motion.axes[a].pos = x.pos))

/-! ### Security -/

/-- IDENTITY_READ writes its block; SESSION_OPEN is checked in the order of R562, waits for parcels in flight, and SESSION_CLOSE ends a
session (R556, R562, R563, R564). -/
def Obligations.SessionsOpenInOrderAndClose : Prop :=
  (∀ (s : State) (c : Cmd), Runs s 0xA0 true false c →
    let ws := [s.fab.id, word [s.sec.lifecycle.toNat, fld 8 8 s.sec.svn, fld 16 16 s.sec.chain.length]] ++
      (match s.sec.identity with | some k => words768 (Config.publicKey k) | none => List.replicate 12 0) ++ wordsOfBytes s.sec.chain
    (bufferBad (c.dw 0) (c.dw 1) = true → exec (.identityRead c) s = .next ((s.start c).reply c 0xA0 .argBad 0)) ∧
    (Writes c 0 ws → exec (.identityRead c) s =
      .next (((s.start c).emit (.hostWrite (c.dw 0) (pad64 ws))).reply c 0xA0 .ok (low40 (blockBytes ws))))) ∧
  (∀ (s : State) (c : Cmd) (n : Chan), Runs s 0xA1 true false c → hostChan c.origin = some n →
    let eh := big768 (slice c.docket 1 12)
    let sh := big768 (slice c.docket 13 12)
    let no (r : Nat) : Prop := exec (.sessionOpen c) s = .next ((s.start c).reply c 0xA1 .sessionFail (low40 r))
    let field : Prop := s.sec.lifecycle = 2 ∧ s.sec.keyLocked = false
    let owner : Bool := s.sec.ownerKey.any (fun k =>
      Config.ecdsaVerify k (Config.sha384 (bytes768 sh)) (big768 (slice c.docket 25 12)))
    let host : Bool := Config.ecdsaVerify sh (Config.sha384 (s.idBytes ++ [BitVec.ofNat 8 n.val] ++ bytes768 eh))
      (big768 (slice c.docket 37 12))
    (sessionDocketBad c = true → exec (.sessionOpen c) s = .next ((s.start c).reply c 0xA1 .argBad 0)) ∧
    (sessionDocketBad c = false → (s.sec.lifecycle ≠ 2 → no 1) ∧ (s.sec.lifecycle = 2 → s.sec.keyLocked = true → no 5) ∧ (field →
      if (Config.onCurve eh && Config.onCurve sh) = false then no 4
      else if owner = false then no 2
      else if host = false then no 3
      else (s.channelBusy n = true → exec (.sessionOpen c) s =
          .next ({ s.start c with sec := { s.sec with openWaits := s.sec.openWaits ++ [(n, c)] } } : State).settle) ∧
        (s.channelBusy n = false → c.writeFail = none → ∃ (u : State) (k : Session),
          exec (.sessionOpen c) s = .next (u.reply c 0xA1 .ok 0) ∧ u.sec.sessions[n] = some k ∧ k.highest = 0 ∧
          (∀ m : Chan, m ≠ n → u.sec.sessions[m] = s.sec.sessions[m]) ∧ u.print = s.print)))) ∧
  (∀ (s : State) (c : Cmd), Runs s 0xA2 false false c →
    (∀ n, hostChan c.origin = some n → s.sec.sessions[n] = none →
      exec (.sessionClose c) s = .next ((s.start c).reply c 0xA2 .notFound 0)) ∧
    (∀ n k, hostChan c.origin = some n → s.sec.sessions[n] = some k → ∃ u : State,
      exec (.sessionClose c) s = .next (u.reply c 0xA2 .ok 0) ∧ (s.sec.openWaits = [] → u.sec.sessions[n] = none ∧
      (∀ m : Chan, m ≠ n → u.sec.sessions[m] = s.sec.sessions[m])) ∧ u.sec.lifecycle = s.sec.lifecycle ∧ u.print = s.print))

/-- PAIR_KEY_ESTABLISH is refused outside its state and installs a fresh key when the exchange succeeds; job slots open in the order of
R571, close by R573, and never count back (R566, R569 to R571, R573). LOG_EXPORT writes whole blocks and moves the export sequence number,
at once or through the export context while a band fetch goes first; LOG_RELEASE frees the export named and all earlier ones (R129, R132,
R575, R578). The outcome of the key exchange with the partner is a free choice (log 40). -/
def Obligations.KeysJobsAndLogAreKept : Prop :=
  ((∀ (s : State) (c : Cmd), Runs s 0xA3 false true c →
     let n : NodeNo := BitVec.ofNat 12 (c.argBits 11 0)
     let right : Prop := s.pair.paired = true ∧ s.pair.unitB = false ∧ s.pair.partner = n ∧ s.sec.lifecycle = 2
     (¬ right → exec (.pairKeyEstablish c) s = .next ((s.start c).reply c 0xA3 .lifecycleDenied 1)) ∧
     (right → s.fab.reaches n = false → exec (.pairKeyEstablish c) s = .next ((s.start c).reply c 0xA3 .nodeUnreachable (low40 n.toNat))) ∧
     (right → s.fab.reaches n = true → ∃ (u : State) (st : Code) (r : Nat), exec (.pairKeyEstablish c) s = .next (u.reply c 0xA3 st (low40 r)) ∧
       u.print = s.print ∧ (st = .sessionFail → u.sec = s.sec ∧ (r = 6 ∨ r = 7)) ∧
       (st = .nodeUnreachable → u.sec = s.sec ∧ ∃ k, s.pair.rider = .node k ∧ s.fab.reaches k = false ∧ r = k.toNat) ∧
       (st ≠ .sessionFail → st ≠ .nodeUnreachable → st = .ok ∧ r = 0 ∧ u.sec.count = 0 ∧
         u.sec.pairLost = false ∧ ∃ k, u.sec.pair = some k ∧ k.next = 1 ∧ k.highest = 0))) ∧
   (∀ (s : State) (c : Cmd), Runs s 0xA4 true true c →
     let k : Fin 16 := Fin.ofNat 16 (bits (c.dw 0) 3 0)
     let first := bits (c.dw 1) 47 0
     let last := bits (c.dw 2) 47 0
     let j := s.sec.jobs[k]
     let next := max first j.next
     let no (st : Code) (n : Nat) : Prop := exec (.serialJobOpen c) s = .next ((s.start c).reply c 0xA4 st (low40 n))
     (last = 2 ^ 48 - 1 → no .argBad 0) ∧
     (last ≠ 2 ^ 48 - 1 →
       (j.isOpen = true → no .slotBusy k.val) ∧
       (j.isOpen = false → (last < first ∨ last < next) → no .argBad 0) ∧
       (j.isOpen = false → first ≤ last → next ≤ last →
         (s.sec.keyLocked = true → no .sessionFail 5) ∧
         (s.sec.keyLocked = false → match s.unwrapJob c with
           | none => no .sessionFail 8
           | some key => ∃ u : State, exec (.serialJobOpen c) s =
               .next (u.reply c 0xA4 .ok (low40 k.val)) ∧ u.print = s.print ∧ (∀ m : Fin 16, m ≠ k → u.sec.jobs[m] = s.sec.jobs[m]) ∧
               u.sec.jobs[k] = { j with isOpen := true, jobId := BitVec.ofNat 32 (bits (c.dw 0) 63 32), next := next
                                        reservedEnd := max j.reservedEnd next, last := last, key := some key
                                        lastLogged := (next : Int) - 1 })))) ∧
   (∀ (s : State) (c : Cmd), Runs s 0xA5 false true c →
     let k : Fin 16 := Fin.ofNat 16 (c.argBits 3 0)
     let f := s.print.queue.find? (fun q => q.desc.serialised && q.desc.slot == k)
     (s.sec.jobs[k].isOpen = false → exec (.serialJobClose c) s = .next ((s.start c).reply c 0xA5 .slotIdle (low40 k.val))) ∧
     (∀ q, s.sec.jobs[k].isOpen = true → f = some q → ∃ n, exec (.serialJobClose c) s =
       .next ((s.start c).reply c 0xA5 .pageBusy (low40 n)) ∧ (∀ e, s.store.page q.desc.id = some e → n = e.state.code)) ∧
     (s.sec.jobs[k].isOpen = true → f = none → ∃ u : State, exec (.serialJobClose c) s = .next (u.reply c 0xA5 .ok 0) ∧
       u.sec.jobs[k] = { s.sec.jobs[k] with isOpen := false, key := none } ∧ (∀ m : Fin 16, m ≠ k → u.sec.jobs[m] = s.sec.jobs[m]) ∧
       u.print = s.print))) ∧
  ((∀ (s : State) (c : Cmd), s.quiet → s.sec.exportCtx.isSome = true → exec (.logExport c) s = .next s) ∧
   (∀ (s : State) (c : Cmd), Runs s 0xA6 true false c → s.sec.exportCtx = none →
     let start := if bitAt (c.dw 2) 0 then 0 else s.sec.exported
     let bs := s.sec.exportBlocks start
     let fit := bs.take (fitting (bits (c.dw 1) 31 0) (bs.map (fun b => b.2)) 0).length
     let ws := fit.flatMap (fun b => b.2)
     let lines := (fit.map (fun b => b.1)).sum
     (bufferBad (c.dw 0) (c.dw 1) = true → exec (.logExport c) s = .next ((s.begun 0xA6 c).reply c 0xA6 .argBad 0)) ∧
     (∀ b l, bufferBad (c.dw 0) (c.dw 1) = false → bs = b :: l → fit = [] →
       exec (.logExport c) s = .next ((s.begun 0xA6 c).reply c 0xA6 .bufferSmall (low40 (blockBytes b.2)))) ∧
     ((bs = [] ∨ fit ≠ []) → s.yields = true → bufferBad (c.dw 0) (c.dw 1) = false → ∃ t : State, exec (.logExport c) s = .next t ∧
       t.sec = { s.sec with exportCtx := some { cmd := c, start := start, blocks := fit, held := exportTokens fit, ring := [] } } ∧
       t.print = s.print) ∧
     ((bs = [] ∨ fit ≠ []) → s.yields = false → ((s.begun 0xA6 c).exportReads start fit c.reads).2 = none → Writes c 0 ws → ∃ u : State,
       exec (.logExport c) s = .next (u.reply c 0xA6 .ok (low40 lines)) ∧ u.sec.ring = s.sec.ring ∧ u.sec.count = s.sec.count ∧
       u.sec.exported = max s.sec.exported (start + lines) ∧ u.sec.exportSeq = (s.sec.exportSeq + 1) % 2 ^ 32 ∧
       u.sec.exports = s.sec.exports ++ [((s.sec.exportSeq + 1) % 2 ^ 32, start + lines)] ∧ u.print = s.print) ∧
     (∀ b n, (bs = [] ∨ fit ≠ []) → s.yields = false → ((s.begun 0xA6 c).exportReads start fit c.reads).2 = some (b, n) →
       Writes c 0 ws → Writes c 0 ((fit.take n).flatMap (fun b => b.2)) → ∃ u : State,
       exec (.logExport c) s = .next (u.reply c 0xA6 .dramError (burstResult b)) ∧ u.sec.ring = s.sec.ring ∧
       u.sec.exported = max s.sec.exported (start + ((fit.take n).map (fun b => b.1)).sum) ∧ u.print = s.print)) ∧
   (∀ (s : State) (c : ExportCtx), s.yields = false → s.sec.exportCtx = some c → c.held.length ≤ 1 → ∃ t : State,
     exec (.compressorToken .logExport) s = .next t ∧ t.sec.exportCtx = none ∧ t.sec.ring = s.sec.ring ∧ t.sec.count = s.sec.count ∧
     t.print = s.print) ∧
   (∀ (s : State) (c : Cmd), Runs s 0xA7 false false c →
     let at_ := s.sec.exports.findIdx? (fun e => e.1 == c.argBits 31 0)
     (at_ = none → exec (.logRelease c) s = .next ((s.start c).reply c 0xA7 .notFound 0)) ∧
     (∀ i, at_ = some i → ∃ u : State, exec (.logRelease c) s = .next (u.reply c 0xA7 .ok 0) ∧
       let k := ((s.sec.exports.take (i + 1)).map (fun e => e.2)).foldl max 0
       u.sec.ring = s.sec.ring.drop k ∧ u.sec.exported = s.sec.exported - k ∧ u.sec.count = s.sec.count ∧
       u.sec.chainHash = s.sec.chainHash ∧ u.print = s.print)))

/-- FW_ACTIVATE, LIFECYCLE_SET, DEBUG_UNLOCK and PROVISION: their refusals in order and what each changes for good (R553 to R555, R560,
R564, R581). The order of PROVISION's reasons is the model's reading (log 43), and the outcome of a flash write is free (log 42). -/
def Obligations.LifecycleOnlyAdvancesByItsCommands : Prop :=
  (∀ (s : State) (c : Cmd), Runs s 0xA8 false true c →
    let no (st : Code) (n : Nat) : Prop := exec (.fwActivate c) s = .next ((s.start c).reply c 0xA8 st (low40 n))
    let bad (n : Nat) : Nat := c.arg32.toNat + fld 32 4 n
    (s.print.started = true → no .printActive 0) ∧
    (s.print.started = false → (∀ p ws, s.store.staged = some (p, ws) → p ≠ c.arg32) → no .fwRejected (bad 5)) ∧
    (∀ ws, s.print.started = false → s.store.staged = some (c.arg32, ws) → ∃ (u : State) (st : Code) (n : Nat),
      exec (.fwActivate c) s = .next (u.reply c 0xA8 st (low40 n)) ∧ u.print = s.print ∧
      (st = .fwRejected → n = bad 6 ∧ u.sec = s.sec ∧ u.sys = s.sys) ∧
      (st ≠ .fwRejected → st = .ok ∧ n = 0 ∧ u.sec = { s.sec with preferred := !s.sec.preferred } ∧ u.sys = { s.sys with restart := true }) ∧
      ((s.sec.imageReason ws).isSome = true → st = .fwRejected))) ∧
  (∀ (s : State) (c : Cmd), Runs s 0xA9 false true c →
    (¬ (c.argBits 1 0 = 3 ∧ s.sec.lifecycle = 2) → exec (.lifecycleSet c) s = .next ((s.start c).reply c 0xA9 .lifecycleDenied 1)) ∧
    (c.argBits 1 0 = 3 → s.sec.lifecycle = 2 → ∃ u : State, exec (.lifecycleSet c) s = .next (u.reply c 0xA9 .ok 0) ∧
      u.sec.lifecycle = 3 ∧ u.sec.pair = none ∧ u.sec.ownerHash = none ∧ (∀ k : Fin 16, u.sec.jobs[k].key = none) ∧
      (∀ n : Chan, u.sec.sessions[n] = none) ∧ u.sec.identity = s.sec.identity ∧ u.sec.count = s.sec.count ∧ u.sec.svn = s.sec.svn ∧
      u.print = s.print)) ∧
  (∀ (s : State) (c : Cmd), Runs s 0xAA false true c →
    (s.print.started = true → exec (.debugUnlock c) s = .next ((s.start c).reply c 0xAA .lifecycleDenied 3)) ∧
    (s.print.started = false → ∃ u : State, exec (.debugUnlock c) s = .next (u.reply c 0xAA .ok 0) ∧ u.sec.debug = true ∧
      u.sec.keyLocked = true ∧ u.sec.pairLost = true ∧ (∀ n : Chan, u.sec.sessions[n] = none) ∧ u.sec.lifecycle = s.sec.lifecycle ∧
      u.sec.count = s.sec.count ∧ u.print = s.print)) ∧
  (∀ (s : State) (c : Cmd), Runs s 0xAB true false c →
    let step := bits (c.dw 0) 1 0
    let no (n : Nat) : Prop := exec (.provision c) s = .next ((s.start c).reply c 0xAB .lifecycleDenied (low40 n))
    let busy : Prop := (s.print.started = true → no 3) ∧ (s.print.started = false → s.sec.keyLocked = true → no 4)
    let free : Prop := s.print.started = false ∧ s.sec.keyLocked = false
    (step = 0 → exec (.provision c) s = .next ((s.start c).reply c 0xAB .argBad 0)) ∧
    (step = 1 → bufferBad (c.dw 1) (c.dw 2) = false →
      let right : Prop := s.sec.lifecycle = 0 ∧ s.sec.identity = none
      (¬ right → no 1) ∧ (right → busy) ∧
      (right → free → c.writeFail = none → 192 ≤ bits (c.dw 2) 31 0 → ∃ (u : State) (k : BitVec 384),
        exec (.provision c) s = .next (u.reply c 0xAB .ok 0) ∧ u.sec = { s.sec with identity := some k } ∧ u.print = s.print)) ∧
    (step = 2 → bits (c.dw 1) 5 0 = 0 → (c.dw 2).toNat ≤ 8192 →
      let chain := (bytesOf (c.table 0)).take (c.dw 2).toNat
      (¬ (s.sec.lifecycle = 0 ∧ s.sec.identity.isSome = true) → no 1) ∧
      (∀ k, s.sec.lifecycle = 0 → s.sec.identity = some k →
        if Config.chainValid s.sec.caKey chain (Config.publicKey k) s.fab.id = false then no 2
        else busy ∧ (free → ∃ u : State, exec (.provision c) s = .next (u.reply c 0xAB .ok 0) ∧
          u.sec = { s.sec with lifecycle := 1, chain := chain } ∧ u.print = s.print))) ∧
    (step = 3 → (s.sec.lifecycle ≠ 1 → no 1) ∧ (s.sec.lifecycle = 1 → busy) ∧
      (s.sec.lifecycle = 1 → free → ∃ u : State, exec (.provision c) s = .next (u.reply c 0xAB .ok 0) ∧ u.sec.lifecycle = 2 ∧
        u.sec.ownerKey = some (big768 (slice c.docket 1 12)) ∧ u.sec.ownerHash = some (shaWords (slice c.docket 1 12)) ∧
        u.sec.identity = s.sec.identity ∧ u.sec.svn = s.sec.svn ∧ u.print = s.print)))
end

