-- ==== Sys2Proof/Laws/State.lean ====
section
/-!
SUPPORT. One lemma per field for each of the plainest updates of State, so that no proof unfolds a record update. An update
with a condition (the tick, the passing of time) is stated by what it leaves unchanged.
-/

namespace Sys2Proof.Machine

variable (s : State)

/-! ### emit -/

@[simp] theorem State.emit_pending (e : Emission) : (s.emit e).pending = s.pending := rfl
@[simp] theorem State.emit_host (e : Emission) : (s.emit e).host = s.host := rfl
@[simp] theorem State.emit_store (e : Emission) : (s.emit e).store = s.store := rfl
@[simp] theorem State.emit_print (e : Emission) : (s.emit e).print = s.print := rfl
@[simp] theorem State.emit_eng (e : Emission) : (s.emit e).eng = s.eng := rfl
@[simp] theorem State.emit_mapper (e : Emission) : (s.emit e).mapper = s.mapper := rfl
@[simp] theorem State.emit_cist (e : Emission) : (s.emit e).cist = s.cist := rfl
@[simp] theorem State.emit_gov (e : Emission) : (s.emit e).gov = s.gov := rfl
@[simp] theorem State.emit_sluice (e : Emission) : (s.emit e).sluice = s.sluice := rfl
@[simp] theorem State.emit_heads (e : Emission) : (s.emit e).heads = s.heads := rfl
@[simp] theorem State.emit_enc (e : Emission) : (s.emit e).enc = s.enc := rfl
@[simp] theorem State.emit_motion (e : Emission) : (s.emit e).motion = s.motion := rfl
@[simp] theorem State.emit_cam (e : Emission) : (s.emit e).cam = s.cam := rfl
@[simp] theorem State.emit_health (e : Emission) : (s.emit e).health = s.health := rfl
@[simp] theorem State.emit_lanes (e : Emission) : (s.emit e).lanes = s.lanes := rfl
@[simp] theorem State.emit_fab (e : Emission) : (s.emit e).fab = s.fab := rfl
@[simp] theorem State.emit_pair (e : Emission) : (s.emit e).pair = s.pair := rfl
@[simp] theorem State.emit_time (e : Emission) : (s.emit e).time = s.time := rfl
@[simp] theorem State.emit_sec (e : Emission) : (s.emit e).sec = s.sec := rfl
@[simp] theorem State.emit_dram (e : Emission) : (s.emit e).dram = s.dram := rfl
@[simp] theorem State.emit_sys (e : Emission) : (s.emit e).sys = s.sys := rfl
@[simp] theorem State.emit_sent (e : Emission) : (s.emit e).sent = e :: s.sent := rfl
@[simp] theorem State.emit_draws (e : Emission) : (s.emit e).draws = s.draws := rfl

/-! ### drew -/

@[simp] theorem State.drew_pending : (s.drew).pending = s.pending := rfl
@[simp] theorem State.drew_host : (s.drew).host = s.host := rfl
@[simp] theorem State.drew_store : (s.drew).store = s.store := rfl
@[simp] theorem State.drew_print : (s.drew).print = s.print := rfl
@[simp] theorem State.drew_eng : (s.drew).eng = s.eng := rfl
@[simp] theorem State.drew_mapper : (s.drew).mapper = s.mapper := rfl
@[simp] theorem State.drew_cist : (s.drew).cist = s.cist := rfl
@[simp] theorem State.drew_gov : (s.drew).gov = s.gov := rfl
@[simp] theorem State.drew_sluice : (s.drew).sluice = s.sluice := rfl
@[simp] theorem State.drew_heads : (s.drew).heads = s.heads := rfl
@[simp] theorem State.drew_enc : (s.drew).enc = s.enc := rfl
@[simp] theorem State.drew_motion : (s.drew).motion = s.motion := rfl
@[simp] theorem State.drew_cam : (s.drew).cam = s.cam := rfl
@[simp] theorem State.drew_health : (s.drew).health = s.health := rfl
@[simp] theorem State.drew_lanes : (s.drew).lanes = s.lanes := rfl
@[simp] theorem State.drew_fab : (s.drew).fab = s.fab := rfl
@[simp] theorem State.drew_pair : (s.drew).pair = s.pair := rfl
@[simp] theorem State.drew_time : (s.drew).time = s.time := rfl
@[simp] theorem State.drew_sec : (s.drew).sec = s.sec := rfl
@[simp] theorem State.drew_dram : (s.drew).dram = s.dram := rfl
@[simp] theorem State.drew_sys : (s.drew).sys = s.sys := rfl
@[simp] theorem State.drew_sent : (s.drew).sent = s.sent := rfl
@[simp] theorem State.drew_draws  : (s.drew).draws = s.draws + 1 := rfl

/-! ### setChan -/

@[simp] theorem State.setChan_pending (n : Chan) (f : HmbChannel → HmbChannel) : (s.setChan n f).pending = s.pending := rfl
@[simp] theorem State.setChan_store (n : Chan) (f : HmbChannel → HmbChannel) : (s.setChan n f).store = s.store := rfl
@[simp] theorem State.setChan_print (n : Chan) (f : HmbChannel → HmbChannel) : (s.setChan n f).print = s.print := rfl
@[simp] theorem State.setChan_eng (n : Chan) (f : HmbChannel → HmbChannel) : (s.setChan n f).eng = s.eng := rfl
@[simp] theorem State.setChan_mapper (n : Chan) (f : HmbChannel → HmbChannel) : (s.setChan n f).mapper = s.mapper := rfl
@[simp] theorem State.setChan_cist (n : Chan) (f : HmbChannel → HmbChannel) : (s.setChan n f).cist = s.cist := rfl
@[simp] theorem State.setChan_gov (n : Chan) (f : HmbChannel → HmbChannel) : (s.setChan n f).gov = s.gov := rfl
@[simp] theorem State.setChan_sluice (n : Chan) (f : HmbChannel → HmbChannel) : (s.setChan n f).sluice = s.sluice := rfl
@[simp] theorem State.setChan_heads (n : Chan) (f : HmbChannel → HmbChannel) : (s.setChan n f).heads = s.heads := rfl
@[simp] theorem State.setChan_enc (n : Chan) (f : HmbChannel → HmbChannel) : (s.setChan n f).enc = s.enc := rfl
@[simp] theorem State.setChan_motion (n : Chan) (f : HmbChannel → HmbChannel) : (s.setChan n f).motion = s.motion := rfl
@[simp] theorem State.setChan_cam (n : Chan) (f : HmbChannel → HmbChannel) : (s.setChan n f).cam = s.cam := rfl
@[simp] theorem State.setChan_health (n : Chan) (f : HmbChannel → HmbChannel) : (s.setChan n f).health = s.health := rfl
@[simp] theorem State.setChan_lanes (n : Chan) (f : HmbChannel → HmbChannel) : (s.setChan n f).lanes = s.lanes := rfl
@[simp] theorem State.setChan_fab (n : Chan) (f : HmbChannel → HmbChannel) : (s.setChan n f).fab = s.fab := rfl
@[simp] theorem State.setChan_pair (n : Chan) (f : HmbChannel → HmbChannel) : (s.setChan n f).pair = s.pair := rfl
@[simp] theorem State.setChan_time (n : Chan) (f : HmbChannel → HmbChannel) : (s.setChan n f).time = s.time := rfl
@[simp] theorem State.setChan_sec (n : Chan) (f : HmbChannel → HmbChannel) : (s.setChan n f).sec = s.sec := rfl
@[simp] theorem State.setChan_dram (n : Chan) (f : HmbChannel → HmbChannel) : (s.setChan n f).dram = s.dram := rfl
@[simp] theorem State.setChan_sys (n : Chan) (f : HmbChannel → HmbChannel) : (s.setChan n f).sys = s.sys := rfl
@[simp] theorem State.setChan_sent (n : Chan) (f : HmbChannel → HmbChannel) : (s.setChan n f).sent = s.sent := rfl
@[simp] theorem State.setChan_draws (n : Chan) (f : HmbChannel → HmbChannel) : (s.setChan n f).draws = s.draws := rfl

/-! ### setPort -/

@[simp] theorem State.setPort_pending (p : FabPort) (f : FabPortState → FabPortState) : (s.setPort p f).pending = s.pending := rfl
@[simp] theorem State.setPort_host (p : FabPort) (f : FabPortState → FabPortState) : (s.setPort p f).host = s.host := rfl
@[simp] theorem State.setPort_store (p : FabPort) (f : FabPortState → FabPortState) : (s.setPort p f).store = s.store := rfl
@[simp] theorem State.setPort_print (p : FabPort) (f : FabPortState → FabPortState) : (s.setPort p f).print = s.print := rfl
@[simp] theorem State.setPort_eng (p : FabPort) (f : FabPortState → FabPortState) : (s.setPort p f).eng = s.eng := rfl
@[simp] theorem State.setPort_mapper (p : FabPort) (f : FabPortState → FabPortState) : (s.setPort p f).mapper = s.mapper := rfl
@[simp] theorem State.setPort_cist (p : FabPort) (f : FabPortState → FabPortState) : (s.setPort p f).cist = s.cist := rfl
@[simp] theorem State.setPort_gov (p : FabPort) (f : FabPortState → FabPortState) : (s.setPort p f).gov = s.gov := rfl
@[simp] theorem State.setPort_sluice (p : FabPort) (f : FabPortState → FabPortState) : (s.setPort p f).sluice = s.sluice := rfl
@[simp] theorem State.setPort_heads (p : FabPort) (f : FabPortState → FabPortState) : (s.setPort p f).heads = s.heads := rfl
@[simp] theorem State.setPort_enc (p : FabPort) (f : FabPortState → FabPortState) : (s.setPort p f).enc = s.enc := rfl
@[simp] theorem State.setPort_motion (p : FabPort) (f : FabPortState → FabPortState) : (s.setPort p f).motion = s.motion := rfl
@[simp] theorem State.setPort_cam (p : FabPort) (f : FabPortState → FabPortState) : (s.setPort p f).cam = s.cam := rfl
@[simp] theorem State.setPort_health (p : FabPort) (f : FabPortState → FabPortState) : (s.setPort p f).health = s.health := rfl
@[simp] theorem State.setPort_lanes (p : FabPort) (f : FabPortState → FabPortState) : (s.setPort p f).lanes = s.lanes := rfl
@[simp] theorem State.setPort_pair (p : FabPort) (f : FabPortState → FabPortState) : (s.setPort p f).pair = s.pair := rfl
@[simp] theorem State.setPort_time (p : FabPort) (f : FabPortState → FabPortState) : (s.setPort p f).time = s.time := rfl
@[simp] theorem State.setPort_sec (p : FabPort) (f : FabPortState → FabPortState) : (s.setPort p f).sec = s.sec := rfl
@[simp] theorem State.setPort_dram (p : FabPort) (f : FabPortState → FabPortState) : (s.setPort p f).dram = s.dram := rfl
@[simp] theorem State.setPort_sys (p : FabPort) (f : FabPortState → FabPortState) : (s.setPort p f).sys = s.sys := rfl
@[simp] theorem State.setPort_sent (p : FabPort) (f : FabPortState → FabPortState) : (s.setPort p f).sent = s.sent := rfl
@[simp] theorem State.setPort_draws (p : FabPort) (f : FabPortState → FabPortState) : (s.setPort p f).draws = s.draws := rfl

/-! ### setFabChan -/

@[simp] theorem State.setFabChan_pending (n : NodeNo) (f : FabChannel → FabChannel) : (s.setFabChan n f).pending = s.pending := rfl
@[simp] theorem State.setFabChan_host (n : NodeNo) (f : FabChannel → FabChannel) : (s.setFabChan n f).host = s.host := rfl
@[simp] theorem State.setFabChan_store (n : NodeNo) (f : FabChannel → FabChannel) : (s.setFabChan n f).store = s.store := rfl
@[simp] theorem State.setFabChan_print (n : NodeNo) (f : FabChannel → FabChannel) : (s.setFabChan n f).print = s.print := rfl
@[simp] theorem State.setFabChan_eng (n : NodeNo) (f : FabChannel → FabChannel) : (s.setFabChan n f).eng = s.eng := rfl
@[simp] theorem State.setFabChan_mapper (n : NodeNo) (f : FabChannel → FabChannel) : (s.setFabChan n f).mapper = s.mapper := rfl
@[simp] theorem State.setFabChan_cist (n : NodeNo) (f : FabChannel → FabChannel) : (s.setFabChan n f).cist = s.cist := rfl
@[simp] theorem State.setFabChan_gov (n : NodeNo) (f : FabChannel → FabChannel) : (s.setFabChan n f).gov = s.gov := rfl
@[simp] theorem State.setFabChan_sluice (n : NodeNo) (f : FabChannel → FabChannel) : (s.setFabChan n f).sluice = s.sluice := rfl
@[simp] theorem State.setFabChan_heads (n : NodeNo) (f : FabChannel → FabChannel) : (s.setFabChan n f).heads = s.heads := rfl
@[simp] theorem State.setFabChan_enc (n : NodeNo) (f : FabChannel → FabChannel) : (s.setFabChan n f).enc = s.enc := rfl
@[simp] theorem State.setFabChan_motion (n : NodeNo) (f : FabChannel → FabChannel) : (s.setFabChan n f).motion = s.motion := rfl
@[simp] theorem State.setFabChan_cam (n : NodeNo) (f : FabChannel → FabChannel) : (s.setFabChan n f).cam = s.cam := rfl
@[simp] theorem State.setFabChan_health (n : NodeNo) (f : FabChannel → FabChannel) : (s.setFabChan n f).health = s.health := rfl
@[simp] theorem State.setFabChan_lanes (n : NodeNo) (f : FabChannel → FabChannel) : (s.setFabChan n f).lanes = s.lanes := rfl
@[simp] theorem State.setFabChan_pair (n : NodeNo) (f : FabChannel → FabChannel) : (s.setFabChan n f).pair = s.pair := rfl
@[simp] theorem State.setFabChan_time (n : NodeNo) (f : FabChannel → FabChannel) : (s.setFabChan n f).time = s.time := rfl
@[simp] theorem State.setFabChan_sec (n : NodeNo) (f : FabChannel → FabChannel) : (s.setFabChan n f).sec = s.sec := rfl
@[simp] theorem State.setFabChan_dram (n : NodeNo) (f : FabChannel → FabChannel) : (s.setFabChan n f).dram = s.dram := rfl
@[simp] theorem State.setFabChan_sys (n : NodeNo) (f : FabChannel → FabChannel) : (s.setFabChan n f).sys = s.sys := rfl
@[simp] theorem State.setFabChan_sent (n : NodeNo) (f : FabChannel → FabChannel) : (s.setFabChan n f).sent = s.sent := rfl
@[simp] theorem State.setFabChan_draws (n : NodeNo) (f : FabChannel → FabChannel) : (s.setFabChan n f).draws = s.draws := rfl

/-! ### The two channel updates in their own part -/

theorem State.setChan_host (n : Chan) (f : HmbChannel → HmbChannel) :
    (s.setChan n f).host = { s.host with channels := upd s.host.channels n f } := rfl

theorem State.setFabChan_fab (n : NodeNo) (f : FabChannel → FabChannel) :
    (s.setFabChan n f).fab = { s.fab with channels := s.fab.channels.map (fun x => if x.peer == n then f x else x) } := rfl

theorem State.setPort_fab (p : FabPort) (f : FabPortState → FabPortState) :
    (s.setPort p f).fab = { s.fab with ports := upd s.fab.ports p f } := rfl

/-- An entry of a vector after one entry has changed. -/
theorem upd_get {α : Type} {n : Nat} (v : Vector α n) (i : Fin n) (f : α → α) (j : Nat) (h : j < n) :
    (upd v i f)[j] = if i.val = j then f v[j] else v[j] := by
  unfold upd
  rw [Vector.getElem_set]
  split
  · next e => subst e; rfl
  · rfl

/-- The changed entry of a vector. -/
@[simp] theorem upd_same {α : Type} {n : Nat} (v : Vector α n) (i : Fin n) (f : α → α) : (upd v i f)[i.val] = f v[i.val] := by
  simp [upd_get]

/-- Every other entry of a vector. -/
theorem upd_other {α : Type} {n : Nat} (v : Vector α n) (i j : Fin n) (f : α → α) (h : i ≠ j) : (upd v i f)[j.val] = v[j.val] := by
  simp [upd_get, Fin.val_inj, h]

/-! ### Time -/

@[simp] theorem State.tick_pending : (s.tick).pending = s.pending := by unfold State.tick; split <;> rfl
@[simp] theorem State.tick_host : (s.tick).host = s.host := by unfold State.tick; split <;> rfl
@[simp] theorem State.tick_store : (s.tick).store = s.store := by unfold State.tick; split <;> rfl
@[simp] theorem State.tick_print : (s.tick).print = s.print := by unfold State.tick; split <;> rfl
@[simp] theorem State.tick_eng : (s.tick).eng = s.eng := by unfold State.tick; split <;> rfl
@[simp] theorem State.tick_mapper : (s.tick).mapper = s.mapper := by unfold State.tick; split <;> rfl
@[simp] theorem State.tick_cist : (s.tick).cist = s.cist := by unfold State.tick; split <;> rfl
@[simp] theorem State.tick_gov : (s.tick).gov = s.gov := by unfold State.tick; split <;> rfl
@[simp] theorem State.tick_sluice : (s.tick).sluice = s.sluice := by unfold State.tick; split <;> rfl
@[simp] theorem State.tick_heads : (s.tick).heads = s.heads := by unfold State.tick; split <;> rfl
@[simp] theorem State.tick_enc : (s.tick).enc = s.enc := by unfold State.tick; split <;> rfl
@[simp] theorem State.tick_motion : (s.tick).motion = s.motion := by unfold State.tick; split <;> rfl
@[simp] theorem State.tick_cam : (s.tick).cam = s.cam := by unfold State.tick; split <;> rfl
@[simp] theorem State.tick_health : (s.tick).health = s.health := by unfold State.tick; split <;> rfl
@[simp] theorem State.tick_lanes : (s.tick).lanes = s.lanes := by unfold State.tick; split <;> rfl
@[simp] theorem State.tick_fab : (s.tick).fab = s.fab := by unfold State.tick; split <;> rfl
@[simp] theorem State.tick_pair : (s.tick).pair = s.pair := by unfold State.tick; split <;> rfl
@[simp] theorem State.tick_sec : (s.tick).sec = s.sec := by unfold State.tick; split <;> rfl
@[simp] theorem State.tick_dram : (s.tick).dram = s.dram := by unfold State.tick; split <;> rfl
@[simp] theorem State.tick_sys : (s.tick).sys = s.sys := by unfold State.tick; split <;> rfl
@[simp] theorem State.tick_sent : (s.tick).sent = s.sent := by unfold State.tick; split <;> rfl
@[simp] theorem State.tick_draws : (s.tick).draws = s.draws := by unfold State.tick; split <;> rfl

@[simp] theorem State.reach_pending (w : Word) : (s.reach w).pending = s.pending := by unfold State.reach; split <;> rfl
@[simp] theorem State.reach_host (w : Word) : (s.reach w).host = s.host := by unfold State.reach; split <;> rfl
@[simp] theorem State.reach_store (w : Word) : (s.reach w).store = s.store := by unfold State.reach; split <;> rfl
@[simp] theorem State.reach_print (w : Word) : (s.reach w).print = s.print := by unfold State.reach; split <;> rfl
@[simp] theorem State.reach_eng (w : Word) : (s.reach w).eng = s.eng := by unfold State.reach; split <;> rfl
@[simp] theorem State.reach_mapper (w : Word) : (s.reach w).mapper = s.mapper := by unfold State.reach; split <;> rfl
@[simp] theorem State.reach_cist (w : Word) : (s.reach w).cist = s.cist := by unfold State.reach; split <;> rfl
@[simp] theorem State.reach_gov (w : Word) : (s.reach w).gov = s.gov := by unfold State.reach; split <;> rfl
@[simp] theorem State.reach_sluice (w : Word) : (s.reach w).sluice = s.sluice := by unfold State.reach; split <;> rfl
@[simp] theorem State.reach_heads (w : Word) : (s.reach w).heads = s.heads := by unfold State.reach; split <;> rfl
@[simp] theorem State.reach_enc (w : Word) : (s.reach w).enc = s.enc := by unfold State.reach; split <;> rfl
@[simp] theorem State.reach_motion (w : Word) : (s.reach w).motion = s.motion := by unfold State.reach; split <;> rfl
@[simp] theorem State.reach_cam (w : Word) : (s.reach w).cam = s.cam := by unfold State.reach; split <;> rfl
@[simp] theorem State.reach_health (w : Word) : (s.reach w).health = s.health := by unfold State.reach; split <;> rfl
@[simp] theorem State.reach_lanes (w : Word) : (s.reach w).lanes = s.lanes := by unfold State.reach; split <;> rfl
@[simp] theorem State.reach_fab (w : Word) : (s.reach w).fab = s.fab := by unfold State.reach; split <;> rfl
@[simp] theorem State.reach_pair (w : Word) : (s.reach w).pair = s.pair := by unfold State.reach; split <;> rfl
@[simp] theorem State.reach_sec (w : Word) : (s.reach w).sec = s.sec := by unfold State.reach; split <;> rfl
@[simp] theorem State.reach_dram (w : Word) : (s.reach w).dram = s.dram := by unfold State.reach; split <;> rfl
@[simp] theorem State.reach_sys (w : Word) : (s.reach w).sys = s.sys := by unfold State.reach; split <;> rfl
@[simp] theorem State.reach_sent (w : Word) : (s.reach w).sent = s.sent := by unfold State.reach; split <;> rfl
@[simp] theorem State.reach_draws (w : Word) : (s.reach w).draws = s.draws := by unfold State.reach; split <;> rfl

/-- While the fire PLL is locked the counter stands at the greater of its value and the time reached (R492). -/
theorem State.reach_raw (w : Word) (h : s.time.locked = true) : (s.reach w).time.raw.toNat = max s.time.raw.toNat w.toNat := by
  unfold State.reach
  by_cases hw : s.time.raw < w
  · simp only [h, hw, and_self, if_true]; have := BitVec.lt_def.mp hw; omega
  · simp only [h, hw, and_false, if_false]; have h2 : ¬ s.time.raw.toNat < w.toNat := fun e => hw (BitVec.lt_def.mpr e); omega

end Sys2Proof.Machine
end

