-- ==== Sys2Proof/Laws/Dram.lean ====
section
/-!
SUPPORT. What reads and writes of DRAM can do, said once: a part of the state that the error counters, poison, a free bit and an event
leave alone keeps its value.
-/

namespace Sys2Proof.Machine

variable (s : State)

/-- An event changes the batch of the step only (R647). -/
theorem State.raise_keeps {α : Type} (π : State → α) (h : ∀ (t : State) b, π { t with host := { t.host with batch := b } } = π t)
    (e : Code) (d : BitVec 40) : π (s.raise e d) = π s := by
  unfold State.raise
  split
  · rfl
  · exact h _ _

/-- What a part must not see for DRAM errors to leave it alone: the controller's own part, the batch of events, and the free bits. -/
structure NotDram {α : Type} (π : State → α) : Prop where
  dram  : ∀ (t : State) d, π { t with dram := d } = π t
  batch : ∀ (t : State) b, π { t with host := { t.host with batch := b } } = π t
  draws : ∀ (t : State), π t.drew = π t

variable {α : Type} {π : State → α}

theorem State.correctedError_keeps (h : NotDram π) (b : Nat) : π (s.correctedError b) = π s := by
  unfold State.correctedError
  simp only
  split
  · exact h.dram _ _
  · split
    · exact h.dram _ _
    · exact (State.raise_keeps _ π h.batch _ _).trans (h.dram _ _)

theorem State.uncorrectable_keeps (h : NotDram π) (b : BitVec 30) (n : Nat) : π (s.uncorrectable b n) = π s :=
  (State.raise_keeps _ π h.batch _ _).trans (h.dram _ _)

/-- One read of a burst (R584 to R587, R596). -/
theorem State.readBurst_keeps (h : NotDram π) (n : Nat) (b : BurstRead) : π (s.readBurst n b).1 = π s := by
  have h1 : π (if 3 < worstCodeword b.read then s.drew else s) = π s := by
    split
    · exact h.draws s
    · rfl
  unfold State.readBurst
  simp only
  split
  · exact h1
  · exact (State.correctedError_keeps _ h _).trans h1
  · exact (State.uncorrectable_keeps _ h _ _).trans h1

/-- The reads of a command (R587). -/
theorem State.readBursts_keeps (h : NotDram π) (bs : List BurstRead) : π (s.readBursts bs).1 = π s := by
  unfold State.readBursts
  generalize hp : (s, ([] : List (BitVec 30))) = p
  have hs : π p.1 = π s := by rw [← hp]
  clear hp
  induction bs generalizing p with
  | nil => exact hs
  | cons b bs ih => exact ih _ ((State.readBurst_keeps _ h 1 b).trans hs)

/-- Reads of nothing. -/
@[simp] theorem State.readBursts_nil : s.readBursts [] = (s, []) := rfl

@[simp] theorem State.readBursts_pending (bs : List BurstRead) : (s.readBursts bs).1.pending = s.pending :=
  s.readBursts_keeps (π := State.pending) ⟨fun _ _ => rfl, fun _ _ => rfl, fun _ => rfl⟩ bs
@[simp] theorem State.readBursts_store (bs : List BurstRead) : (s.readBursts bs).1.store = s.store :=
  s.readBursts_keeps (π := State.store) ⟨fun _ _ => rfl, fun _ _ => rfl, fun _ => rfl⟩ bs
@[simp] theorem State.readBursts_print (bs : List BurstRead) : (s.readBursts bs).1.print = s.print :=
  s.readBursts_keeps (π := State.print) ⟨fun _ _ => rfl, fun _ _ => rfl, fun _ => rfl⟩ bs
@[simp] theorem State.readBursts_eng (bs : List BurstRead) : (s.readBursts bs).1.eng = s.eng :=
  s.readBursts_keeps (π := State.eng) ⟨fun _ _ => rfl, fun _ _ => rfl, fun _ => rfl⟩ bs
@[simp] theorem State.readBursts_mapper (bs : List BurstRead) : (s.readBursts bs).1.mapper = s.mapper :=
  s.readBursts_keeps (π := State.mapper) ⟨fun _ _ => rfl, fun _ _ => rfl, fun _ => rfl⟩ bs
@[simp] theorem State.readBursts_cist (bs : List BurstRead) : (s.readBursts bs).1.cist = s.cist :=
  s.readBursts_keeps (π := State.cist) ⟨fun _ _ => rfl, fun _ _ => rfl, fun _ => rfl⟩ bs
@[simp] theorem State.readBursts_gov (bs : List BurstRead) : (s.readBursts bs).1.gov = s.gov :=
  s.readBursts_keeps (π := State.gov) ⟨fun _ _ => rfl, fun _ _ => rfl, fun _ => rfl⟩ bs
@[simp] theorem State.readBursts_sluice (bs : List BurstRead) : (s.readBursts bs).1.sluice = s.sluice :=
  s.readBursts_keeps (π := State.sluice) ⟨fun _ _ => rfl, fun _ _ => rfl, fun _ => rfl⟩ bs
@[simp] theorem State.readBursts_heads (bs : List BurstRead) : (s.readBursts bs).1.heads = s.heads :=
  s.readBursts_keeps (π := State.heads) ⟨fun _ _ => rfl, fun _ _ => rfl, fun _ => rfl⟩ bs
@[simp] theorem State.readBursts_enc (bs : List BurstRead) : (s.readBursts bs).1.enc = s.enc :=
  s.readBursts_keeps (π := State.enc) ⟨fun _ _ => rfl, fun _ _ => rfl, fun _ => rfl⟩ bs
@[simp] theorem State.readBursts_motion (bs : List BurstRead) : (s.readBursts bs).1.motion = s.motion :=
  s.readBursts_keeps (π := State.motion) ⟨fun _ _ => rfl, fun _ _ => rfl, fun _ => rfl⟩ bs
@[simp] theorem State.readBursts_cam (bs : List BurstRead) : (s.readBursts bs).1.cam = s.cam :=
  s.readBursts_keeps (π := State.cam) ⟨fun _ _ => rfl, fun _ _ => rfl, fun _ => rfl⟩ bs
@[simp] theorem State.readBursts_health (bs : List BurstRead) : (s.readBursts bs).1.health = s.health :=
  s.readBursts_keeps (π := State.health) ⟨fun _ _ => rfl, fun _ _ => rfl, fun _ => rfl⟩ bs
@[simp] theorem State.readBursts_lanes (bs : List BurstRead) : (s.readBursts bs).1.lanes = s.lanes :=
  s.readBursts_keeps (π := State.lanes) ⟨fun _ _ => rfl, fun _ _ => rfl, fun _ => rfl⟩ bs
@[simp] theorem State.readBursts_fab (bs : List BurstRead) : (s.readBursts bs).1.fab = s.fab :=
  s.readBursts_keeps (π := State.fab) ⟨fun _ _ => rfl, fun _ _ => rfl, fun _ => rfl⟩ bs
@[simp] theorem State.readBursts_pair (bs : List BurstRead) : (s.readBursts bs).1.pair = s.pair :=
  s.readBursts_keeps (π := State.pair) ⟨fun _ _ => rfl, fun _ _ => rfl, fun _ => rfl⟩ bs
@[simp] theorem State.readBursts_time (bs : List BurstRead) : (s.readBursts bs).1.time = s.time :=
  s.readBursts_keeps (π := State.time) ⟨fun _ _ => rfl, fun _ _ => rfl, fun _ => rfl⟩ bs
@[simp] theorem State.readBursts_sec (bs : List BurstRead) : (s.readBursts bs).1.sec = s.sec :=
  s.readBursts_keeps (π := State.sec) ⟨fun _ _ => rfl, fun _ _ => rfl, fun _ => rfl⟩ bs
@[simp] theorem State.readBursts_sys (bs : List BurstRead) : (s.readBursts bs).1.sys = s.sys :=
  s.readBursts_keeps (π := State.sys) ⟨fun _ _ => rfl, fun _ _ => rfl, fun _ => rfl⟩ bs
@[simp] theorem State.readBursts_sent (bs : List BurstRead) : (s.readBursts bs).1.sent = s.sent :=
  s.readBursts_keeps (π := State.sent) ⟨fun _ _ => rfl, fun _ _ => rfl, fun _ => rfl⟩ bs
@[simp] theorem State.readBursts_busMaster (bs : List BurstRead) : (s.readBursts bs).1.host.busMaster = s.host.busMaster :=
  s.readBursts_keeps (π := fun t => t.host.busMaster) ⟨fun _ _ => rfl, fun _ _ => rfl, fun _ => rfl⟩ bs

end Sys2Proof.Machine
end

