-- ==== Sys2Proof/Laws/Ops.lean ====
section
/-!
SUPPORT. What the shared operations leave unchanged, said once for each: interrupts and host queues change the host part and what is
sent; frames change the fabric part and what is sent; queuing the events of a step changes both; a response also reaches the store,
where a DOCKET parcel waits for it.
-/

namespace Sys2Proof.Machine

variable (s : State)

/-- A property that holds of a state and that each element's step keeps holds after the fold. -/
theorem foldl_keeps {α β : Type} (P : α → Prop) (g : α → β → α) (hg : ∀ a b, P a → P (g a b)) (l : List β) (a : α) (h : P a) :
    P (l.foldl g a) := by
  induction l generalizing a with
  | nil => exact h
  | cons b l ih => exact ih (g a b) (hg a b h)

/-- A projection that each element's step keeps is kept by the fold. -/
theorem foldl_same {α β γ : Type} (π : α → γ) (g : α → β → α) (hg : ∀ a b, π (g a b) = π a) (l : List β) (a : α) :
    π (l.foldl g a) = π a :=
  foldl_keeps (fun x => π x = π a) g (fun x b h => (hg x b).trans h) l a rfl

/-! ### sendMsix -/

@[simp] theorem State.sendMsix_pending (v : Nat) : (s.sendMsix v).pending = s.pending := by
  unfold State.sendMsix; dsimp only; split <;> rfl
@[simp] theorem State.sendMsix_store (v : Nat) : (s.sendMsix v).store = s.store := by
  unfold State.sendMsix; dsimp only; split <;> rfl
@[simp] theorem State.sendMsix_print (v : Nat) : (s.sendMsix v).print = s.print := by
  unfold State.sendMsix; dsimp only; split <;> rfl
@[simp] theorem State.sendMsix_eng (v : Nat) : (s.sendMsix v).eng = s.eng := by
  unfold State.sendMsix; dsimp only; split <;> rfl
@[simp] theorem State.sendMsix_mapper (v : Nat) : (s.sendMsix v).mapper = s.mapper := by
  unfold State.sendMsix; dsimp only; split <;> rfl
@[simp] theorem State.sendMsix_cist (v : Nat) : (s.sendMsix v).cist = s.cist := by
  unfold State.sendMsix; dsimp only; split <;> rfl
@[simp] theorem State.sendMsix_gov (v : Nat) : (s.sendMsix v).gov = s.gov := by
  unfold State.sendMsix; dsimp only; split <;> rfl
@[simp] theorem State.sendMsix_sluice (v : Nat) : (s.sendMsix v).sluice = s.sluice := by
  unfold State.sendMsix; dsimp only; split <;> rfl
@[simp] theorem State.sendMsix_heads (v : Nat) : (s.sendMsix v).heads = s.heads := by
  unfold State.sendMsix; dsimp only; split <;> rfl
@[simp] theorem State.sendMsix_enc (v : Nat) : (s.sendMsix v).enc = s.enc := by
  unfold State.sendMsix; dsimp only; split <;> rfl
@[simp] theorem State.sendMsix_motion (v : Nat) : (s.sendMsix v).motion = s.motion := by
  unfold State.sendMsix; dsimp only; split <;> rfl
@[simp] theorem State.sendMsix_cam (v : Nat) : (s.sendMsix v).cam = s.cam := by
  unfold State.sendMsix; dsimp only; split <;> rfl
@[simp] theorem State.sendMsix_health (v : Nat) : (s.sendMsix v).health = s.health := by
  unfold State.sendMsix; dsimp only; split <;> rfl
@[simp] theorem State.sendMsix_lanes (v : Nat) : (s.sendMsix v).lanes = s.lanes := by
  unfold State.sendMsix; dsimp only; split <;> rfl
@[simp] theorem State.sendMsix_fab (v : Nat) : (s.sendMsix v).fab = s.fab := by
  unfold State.sendMsix; dsimp only; split <;> rfl
@[simp] theorem State.sendMsix_pair (v : Nat) : (s.sendMsix v).pair = s.pair := by
  unfold State.sendMsix; dsimp only; split <;> rfl
@[simp] theorem State.sendMsix_time (v : Nat) : (s.sendMsix v).time = s.time := by
  unfold State.sendMsix; dsimp only; split <;> rfl
@[simp] theorem State.sendMsix_sec (v : Nat) : (s.sendMsix v).sec = s.sec := by
  unfold State.sendMsix; dsimp only; split <;> rfl
@[simp] theorem State.sendMsix_dram (v : Nat) : (s.sendMsix v).dram = s.dram := by
  unfold State.sendMsix; dsimp only; split <;> rfl
@[simp] theorem State.sendMsix_sys (v : Nat) : (s.sendMsix v).sys = s.sys := by
  unfold State.sendMsix; dsimp only; split <;> rfl
@[simp] theorem State.sendMsix_draws (v : Nat) : (s.sendMsix v).draws = s.draws := by
  unfold State.sendMsix; dsimp only; split <;> rfl

/-! ### irq -/

@[simp] theorem State.irq_pending (v : Nat) : (s.irq v).pending = s.pending := by
  unfold State.irq; dsimp only; split <;> simp
@[simp] theorem State.irq_store (v : Nat) : (s.irq v).store = s.store := by
  unfold State.irq; dsimp only; split <;> simp
@[simp] theorem State.irq_print (v : Nat) : (s.irq v).print = s.print := by
  unfold State.irq; dsimp only; split <;> simp
@[simp] theorem State.irq_eng (v : Nat) : (s.irq v).eng = s.eng := by
  unfold State.irq; dsimp only; split <;> simp
@[simp] theorem State.irq_mapper (v : Nat) : (s.irq v).mapper = s.mapper := by
  unfold State.irq; dsimp only; split <;> simp
@[simp] theorem State.irq_cist (v : Nat) : (s.irq v).cist = s.cist := by
  unfold State.irq; dsimp only; split <;> simp
@[simp] theorem State.irq_gov (v : Nat) : (s.irq v).gov = s.gov := by
  unfold State.irq; dsimp only; split <;> simp
@[simp] theorem State.irq_sluice (v : Nat) : (s.irq v).sluice = s.sluice := by
  unfold State.irq; dsimp only; split <;> simp
@[simp] theorem State.irq_heads (v : Nat) : (s.irq v).heads = s.heads := by
  unfold State.irq; dsimp only; split <;> simp
@[simp] theorem State.irq_enc (v : Nat) : (s.irq v).enc = s.enc := by
  unfold State.irq; dsimp only; split <;> simp
@[simp] theorem State.irq_motion (v : Nat) : (s.irq v).motion = s.motion := by
  unfold State.irq; dsimp only; split <;> simp
@[simp] theorem State.irq_cam (v : Nat) : (s.irq v).cam = s.cam := by
  unfold State.irq; dsimp only; split <;> simp
@[simp] theorem State.irq_health (v : Nat) : (s.irq v).health = s.health := by
  unfold State.irq; dsimp only; split <;> simp
@[simp] theorem State.irq_lanes (v : Nat) : (s.irq v).lanes = s.lanes := by
  unfold State.irq; dsimp only; split <;> simp
@[simp] theorem State.irq_fab (v : Nat) : (s.irq v).fab = s.fab := by
  unfold State.irq; dsimp only; split <;> simp
@[simp] theorem State.irq_pair (v : Nat) : (s.irq v).pair = s.pair := by
  unfold State.irq; dsimp only; split <;> simp
@[simp] theorem State.irq_time (v : Nat) : (s.irq v).time = s.time := by
  unfold State.irq; dsimp only; split <;> simp
@[simp] theorem State.irq_sec (v : Nat) : (s.irq v).sec = s.sec := by
  unfold State.irq; dsimp only; split <;> simp
@[simp] theorem State.irq_dram (v : Nat) : (s.irq v).dram = s.dram := by
  unfold State.irq; dsimp only; split <;> simp
@[simp] theorem State.irq_sys (v : Nat) : (s.irq v).sys = s.sys := by
  unfold State.irq; dsimp only; split <;> simp
@[simp] theorem State.irq_draws (v : Nat) : (s.irq v).draws = s.draws := by
  unfold State.irq; dsimp only; split <;> simp

/-! ### pushHost -/

@[simp] theorem State.pushHost_pending (n : Chan) (ws : List Word) : (s.pushHost n ws).pending = s.pending := by
  unfold State.pushHost; dsimp only; split <;> simp
@[simp] theorem State.pushHost_store (n : Chan) (ws : List Word) : (s.pushHost n ws).store = s.store := by
  unfold State.pushHost; dsimp only; split <;> simp
@[simp] theorem State.pushHost_print (n : Chan) (ws : List Word) : (s.pushHost n ws).print = s.print := by
  unfold State.pushHost; dsimp only; split <;> simp
@[simp] theorem State.pushHost_eng (n : Chan) (ws : List Word) : (s.pushHost n ws).eng = s.eng := by
  unfold State.pushHost; dsimp only; split <;> simp
@[simp] theorem State.pushHost_mapper (n : Chan) (ws : List Word) : (s.pushHost n ws).mapper = s.mapper := by
  unfold State.pushHost; dsimp only; split <;> simp
@[simp] theorem State.pushHost_cist (n : Chan) (ws : List Word) : (s.pushHost n ws).cist = s.cist := by
  unfold State.pushHost; dsimp only; split <;> simp
@[simp] theorem State.pushHost_gov (n : Chan) (ws : List Word) : (s.pushHost n ws).gov = s.gov := by
  unfold State.pushHost; dsimp only; split <;> simp
@[simp] theorem State.pushHost_sluice (n : Chan) (ws : List Word) : (s.pushHost n ws).sluice = s.sluice := by
  unfold State.pushHost; dsimp only; split <;> simp
@[simp] theorem State.pushHost_heads (n : Chan) (ws : List Word) : (s.pushHost n ws).heads = s.heads := by
  unfold State.pushHost; dsimp only; split <;> simp
@[simp] theorem State.pushHost_enc (n : Chan) (ws : List Word) : (s.pushHost n ws).enc = s.enc := by
  unfold State.pushHost; dsimp only; split <;> simp
@[simp] theorem State.pushHost_motion (n : Chan) (ws : List Word) : (s.pushHost n ws).motion = s.motion := by
  unfold State.pushHost; dsimp only; split <;> simp
@[simp] theorem State.pushHost_cam (n : Chan) (ws : List Word) : (s.pushHost n ws).cam = s.cam := by
  unfold State.pushHost; dsimp only; split <;> simp
@[simp] theorem State.pushHost_health (n : Chan) (ws : List Word) : (s.pushHost n ws).health = s.health := by
  unfold State.pushHost; dsimp only; split <;> simp
@[simp] theorem State.pushHost_lanes (n : Chan) (ws : List Word) : (s.pushHost n ws).lanes = s.lanes := by
  unfold State.pushHost; dsimp only; split <;> simp
@[simp] theorem State.pushHost_fab (n : Chan) (ws : List Word) : (s.pushHost n ws).fab = s.fab := by
  unfold State.pushHost; dsimp only; split <;> simp
@[simp] theorem State.pushHost_pair (n : Chan) (ws : List Word) : (s.pushHost n ws).pair = s.pair := by
  unfold State.pushHost; dsimp only; split <;> simp
@[simp] theorem State.pushHost_time (n : Chan) (ws : List Word) : (s.pushHost n ws).time = s.time := by
  unfold State.pushHost; dsimp only; split <;> simp
@[simp] theorem State.pushHost_sec (n : Chan) (ws : List Word) : (s.pushHost n ws).sec = s.sec := by
  unfold State.pushHost; dsimp only; split <;> simp
@[simp] theorem State.pushHost_dram (n : Chan) (ws : List Word) : (s.pushHost n ws).dram = s.dram := by
  unfold State.pushHost; dsimp only; split <;> simp
@[simp] theorem State.pushHost_sys (n : Chan) (ws : List Word) : (s.pushHost n ws).sys = s.sys := by
  unfold State.pushHost; dsimp only; split <;> simp
@[simp] theorem State.pushHost_draws (n : Chan) (ws : List Word) : (s.pushHost n ws).draws = s.draws := by
  unfold State.pushHost; dsimp only; split <;> simp

/-! ### eventHost -/

@[simp] theorem State.eventHost_pending (e : Code × BitVec 40) (n : Chan) : (s.eventHost e n).pending = s.pending := by
  unfold State.eventHost; dsimp only; repeat' split
  all_goals simp
@[simp] theorem State.eventHost_store (e : Code × BitVec 40) (n : Chan) : (s.eventHost e n).store = s.store := by
  unfold State.eventHost; dsimp only; repeat' split
  all_goals simp
@[simp] theorem State.eventHost_print (e : Code × BitVec 40) (n : Chan) : (s.eventHost e n).print = s.print := by
  unfold State.eventHost; dsimp only; repeat' split
  all_goals simp
@[simp] theorem State.eventHost_eng (e : Code × BitVec 40) (n : Chan) : (s.eventHost e n).eng = s.eng := by
  unfold State.eventHost; dsimp only; repeat' split
  all_goals simp
@[simp] theorem State.eventHost_mapper (e : Code × BitVec 40) (n : Chan) : (s.eventHost e n).mapper = s.mapper := by
  unfold State.eventHost; dsimp only; repeat' split
  all_goals simp
@[simp] theorem State.eventHost_cist (e : Code × BitVec 40) (n : Chan) : (s.eventHost e n).cist = s.cist := by
  unfold State.eventHost; dsimp only; repeat' split
  all_goals simp
@[simp] theorem State.eventHost_gov (e : Code × BitVec 40) (n : Chan) : (s.eventHost e n).gov = s.gov := by
  unfold State.eventHost; dsimp only; repeat' split
  all_goals simp
@[simp] theorem State.eventHost_sluice (e : Code × BitVec 40) (n : Chan) : (s.eventHost e n).sluice = s.sluice := by
  unfold State.eventHost; dsimp only; repeat' split
  all_goals simp
@[simp] theorem State.eventHost_heads (e : Code × BitVec 40) (n : Chan) : (s.eventHost e n).heads = s.heads := by
  unfold State.eventHost; dsimp only; repeat' split
  all_goals simp
@[simp] theorem State.eventHost_enc (e : Code × BitVec 40) (n : Chan) : (s.eventHost e n).enc = s.enc := by
  unfold State.eventHost; dsimp only; repeat' split
  all_goals simp
@[simp] theorem State.eventHost_motion (e : Code × BitVec 40) (n : Chan) : (s.eventHost e n).motion = s.motion := by
  unfold State.eventHost; dsimp only; repeat' split
  all_goals simp
@[simp] theorem State.eventHost_cam (e : Code × BitVec 40) (n : Chan) : (s.eventHost e n).cam = s.cam := by
  unfold State.eventHost; dsimp only; repeat' split
  all_goals simp
@[simp] theorem State.eventHost_health (e : Code × BitVec 40) (n : Chan) : (s.eventHost e n).health = s.health := by
  unfold State.eventHost; dsimp only; repeat' split
  all_goals simp
@[simp] theorem State.eventHost_lanes (e : Code × BitVec 40) (n : Chan) : (s.eventHost e n).lanes = s.lanes := by
  unfold State.eventHost; dsimp only; repeat' split
  all_goals simp
@[simp] theorem State.eventHost_fab (e : Code × BitVec 40) (n : Chan) : (s.eventHost e n).fab = s.fab := by
  unfold State.eventHost; dsimp only; repeat' split
  all_goals simp
@[simp] theorem State.eventHost_pair (e : Code × BitVec 40) (n : Chan) : (s.eventHost e n).pair = s.pair := by
  unfold State.eventHost; dsimp only; repeat' split
  all_goals simp
@[simp] theorem State.eventHost_time (e : Code × BitVec 40) (n : Chan) : (s.eventHost e n).time = s.time := by
  unfold State.eventHost; dsimp only; repeat' split
  all_goals simp
@[simp] theorem State.eventHost_sec (e : Code × BitVec 40) (n : Chan) : (s.eventHost e n).sec = s.sec := by
  unfold State.eventHost; dsimp only; repeat' split
  all_goals simp
@[simp] theorem State.eventHost_dram (e : Code × BitVec 40) (n : Chan) : (s.eventHost e n).dram = s.dram := by
  unfold State.eventHost; dsimp only; repeat' split
  all_goals simp
@[simp] theorem State.eventHost_sys (e : Code × BitVec 40) (n : Chan) : (s.eventHost e n).sys = s.sys := by
  unfold State.eventHost; dsimp only; repeat' split
  all_goals simp
@[simp] theorem State.eventHost_draws (e : Code × BitVec 40) (n : Chan) : (s.eventHost e n).draws = s.draws := by
  unfold State.eventHost; dsimp only; repeat' split
  all_goals simp

/-! ### fabFreed -/

@[simp] theorem State.fabFreed_pending (src : Option FabPort) (cls : Fin 4) (n : Nat) : (s.fabFreed src cls n).pending = s.pending := by
  unfold State.fabFreed; split <;> simp
@[simp] theorem State.fabFreed_host (src : Option FabPort) (cls : Fin 4) (n : Nat) : (s.fabFreed src cls n).host = s.host := by
  unfold State.fabFreed; split <;> simp
@[simp] theorem State.fabFreed_store (src : Option FabPort) (cls : Fin 4) (n : Nat) : (s.fabFreed src cls n).store = s.store := by
  unfold State.fabFreed; split <;> simp
@[simp] theorem State.fabFreed_print (src : Option FabPort) (cls : Fin 4) (n : Nat) : (s.fabFreed src cls n).print = s.print := by
  unfold State.fabFreed; split <;> simp
@[simp] theorem State.fabFreed_eng (src : Option FabPort) (cls : Fin 4) (n : Nat) : (s.fabFreed src cls n).eng = s.eng := by
  unfold State.fabFreed; split <;> simp
@[simp] theorem State.fabFreed_mapper (src : Option FabPort) (cls : Fin 4) (n : Nat) : (s.fabFreed src cls n).mapper = s.mapper := by
  unfold State.fabFreed; split <;> simp
@[simp] theorem State.fabFreed_cist (src : Option FabPort) (cls : Fin 4) (n : Nat) : (s.fabFreed src cls n).cist = s.cist := by
  unfold State.fabFreed; split <;> simp
@[simp] theorem State.fabFreed_gov (src : Option FabPort) (cls : Fin 4) (n : Nat) : (s.fabFreed src cls n).gov = s.gov := by
  unfold State.fabFreed; split <;> simp
@[simp] theorem State.fabFreed_sluice (src : Option FabPort) (cls : Fin 4) (n : Nat) : (s.fabFreed src cls n).sluice = s.sluice := by
  unfold State.fabFreed; split <;> simp
@[simp] theorem State.fabFreed_heads (src : Option FabPort) (cls : Fin 4) (n : Nat) : (s.fabFreed src cls n).heads = s.heads := by
  unfold State.fabFreed; split <;> simp
@[simp] theorem State.fabFreed_enc (src : Option FabPort) (cls : Fin 4) (n : Nat) : (s.fabFreed src cls n).enc = s.enc := by
  unfold State.fabFreed; split <;> simp
@[simp] theorem State.fabFreed_motion (src : Option FabPort) (cls : Fin 4) (n : Nat) : (s.fabFreed src cls n).motion = s.motion := by
  unfold State.fabFreed; split <;> simp
@[simp] theorem State.fabFreed_cam (src : Option FabPort) (cls : Fin 4) (n : Nat) : (s.fabFreed src cls n).cam = s.cam := by
  unfold State.fabFreed; split <;> simp
@[simp] theorem State.fabFreed_health (src : Option FabPort) (cls : Fin 4) (n : Nat) : (s.fabFreed src cls n).health = s.health := by
  unfold State.fabFreed; split <;> simp
@[simp] theorem State.fabFreed_lanes (src : Option FabPort) (cls : Fin 4) (n : Nat) : (s.fabFreed src cls n).lanes = s.lanes := by
  unfold State.fabFreed; split <;> simp
@[simp] theorem State.fabFreed_pair (src : Option FabPort) (cls : Fin 4) (n : Nat) : (s.fabFreed src cls n).pair = s.pair := by
  unfold State.fabFreed; split <;> simp
@[simp] theorem State.fabFreed_time (src : Option FabPort) (cls : Fin 4) (n : Nat) : (s.fabFreed src cls n).time = s.time := by
  unfold State.fabFreed; split <;> simp
@[simp] theorem State.fabFreed_sec (src : Option FabPort) (cls : Fin 4) (n : Nat) : (s.fabFreed src cls n).sec = s.sec := by
  unfold State.fabFreed; split <;> simp
@[simp] theorem State.fabFreed_dram (src : Option FabPort) (cls : Fin 4) (n : Nat) : (s.fabFreed src cls n).dram = s.dram := by
  unfold State.fabFreed; split <;> simp
@[simp] theorem State.fabFreed_sys (src : Option FabPort) (cls : Fin 4) (n : Nat) : (s.fabFreed src cls n).sys = s.sys := by
  unfold State.fabFreed; split <;> simp
@[simp] theorem State.fabFreed_sent (src : Option FabPort) (cls : Fin 4) (n : Nat) : (s.fabFreed src cls n).sent = s.sent := by
  unfold State.fabFreed; split <;> simp
@[simp] theorem State.fabFreed_draws (src : Option FabPort) (cls : Fin 4) (n : Nat) : (s.fabFreed src cls n).draws = s.draws := by
  unfold State.fabFreed; split <;> simp

/-! ### fabSlots -/

@[simp] theorem State.fabSlots_pending (p : FabPort) : (s.fabSlots p).pending = s.pending := rfl
@[simp] theorem State.fabSlots_host (p : FabPort) : (s.fabSlots p).host = s.host := rfl
@[simp] theorem State.fabSlots_store (p : FabPort) : (s.fabSlots p).store = s.store := rfl
@[simp] theorem State.fabSlots_print (p : FabPort) : (s.fabSlots p).print = s.print := rfl
@[simp] theorem State.fabSlots_eng (p : FabPort) : (s.fabSlots p).eng = s.eng := rfl
@[simp] theorem State.fabSlots_mapper (p : FabPort) : (s.fabSlots p).mapper = s.mapper := rfl
@[simp] theorem State.fabSlots_cist (p : FabPort) : (s.fabSlots p).cist = s.cist := rfl
@[simp] theorem State.fabSlots_gov (p : FabPort) : (s.fabSlots p).gov = s.gov := rfl
@[simp] theorem State.fabSlots_sluice (p : FabPort) : (s.fabSlots p).sluice = s.sluice := rfl
@[simp] theorem State.fabSlots_heads (p : FabPort) : (s.fabSlots p).heads = s.heads := rfl
@[simp] theorem State.fabSlots_enc (p : FabPort) : (s.fabSlots p).enc = s.enc := rfl
@[simp] theorem State.fabSlots_motion (p : FabPort) : (s.fabSlots p).motion = s.motion := rfl
@[simp] theorem State.fabSlots_cam (p : FabPort) : (s.fabSlots p).cam = s.cam := rfl
@[simp] theorem State.fabSlots_health (p : FabPort) : (s.fabSlots p).health = s.health := rfl
@[simp] theorem State.fabSlots_lanes (p : FabPort) : (s.fabSlots p).lanes = s.lanes := rfl
@[simp] theorem State.fabSlots_pair (p : FabPort) : (s.fabSlots p).pair = s.pair := rfl
@[simp] theorem State.fabSlots_time (p : FabPort) : (s.fabSlots p).time = s.time := rfl
@[simp] theorem State.fabSlots_sec (p : FabPort) : (s.fabSlots p).sec = s.sec := rfl
@[simp] theorem State.fabSlots_dram (p : FabPort) : (s.fabSlots p).dram = s.dram := rfl
@[simp] theorem State.fabSlots_sys (p : FabPort) : (s.fabSlots p).sys = s.sys := rfl
@[simp] theorem State.fabSlots_draws (p : FabPort) : (s.fabSlots p).draws = s.draws := rfl

/-! ### fabOutFrom -/

@[simp] theorem State.fabOutFrom_pending (src : Option FabPort) (p : FabPort) (cls : Fin 4) (ws : List Word) : (s.fabOutFrom src p cls ws).pending = s.pending := by
  unfold State.fabOutFrom; split <;> simp
@[simp] theorem State.fabOutFrom_host (src : Option FabPort) (p : FabPort) (cls : Fin 4) (ws : List Word) : (s.fabOutFrom src p cls ws).host = s.host := by
  unfold State.fabOutFrom; split <;> simp
@[simp] theorem State.fabOutFrom_store (src : Option FabPort) (p : FabPort) (cls : Fin 4) (ws : List Word) : (s.fabOutFrom src p cls ws).store = s.store := by
  unfold State.fabOutFrom; split <;> simp
@[simp] theorem State.fabOutFrom_print (src : Option FabPort) (p : FabPort) (cls : Fin 4) (ws : List Word) : (s.fabOutFrom src p cls ws).print = s.print := by
  unfold State.fabOutFrom; split <;> simp
@[simp] theorem State.fabOutFrom_eng (src : Option FabPort) (p : FabPort) (cls : Fin 4) (ws : List Word) : (s.fabOutFrom src p cls ws).eng = s.eng := by
  unfold State.fabOutFrom; split <;> simp
@[simp] theorem State.fabOutFrom_mapper (src : Option FabPort) (p : FabPort) (cls : Fin 4) (ws : List Word) : (s.fabOutFrom src p cls ws).mapper = s.mapper := by
  unfold State.fabOutFrom; split <;> simp
@[simp] theorem State.fabOutFrom_cist (src : Option FabPort) (p : FabPort) (cls : Fin 4) (ws : List Word) : (s.fabOutFrom src p cls ws).cist = s.cist := by
  unfold State.fabOutFrom; split <;> simp
@[simp] theorem State.fabOutFrom_gov (src : Option FabPort) (p : FabPort) (cls : Fin 4) (ws : List Word) : (s.fabOutFrom src p cls ws).gov = s.gov := by
  unfold State.fabOutFrom; split <;> simp
@[simp] theorem State.fabOutFrom_sluice (src : Option FabPort) (p : FabPort) (cls : Fin 4) (ws : List Word) : (s.fabOutFrom src p cls ws).sluice = s.sluice := by
  unfold State.fabOutFrom; split <;> simp
@[simp] theorem State.fabOutFrom_heads (src : Option FabPort) (p : FabPort) (cls : Fin 4) (ws : List Word) : (s.fabOutFrom src p cls ws).heads = s.heads := by
  unfold State.fabOutFrom; split <;> simp
@[simp] theorem State.fabOutFrom_enc (src : Option FabPort) (p : FabPort) (cls : Fin 4) (ws : List Word) : (s.fabOutFrom src p cls ws).enc = s.enc := by
  unfold State.fabOutFrom; split <;> simp
@[simp] theorem State.fabOutFrom_motion (src : Option FabPort) (p : FabPort) (cls : Fin 4) (ws : List Word) : (s.fabOutFrom src p cls ws).motion = s.motion := by
  unfold State.fabOutFrom; split <;> simp
@[simp] theorem State.fabOutFrom_cam (src : Option FabPort) (p : FabPort) (cls : Fin 4) (ws : List Word) : (s.fabOutFrom src p cls ws).cam = s.cam := by
  unfold State.fabOutFrom; split <;> simp
@[simp] theorem State.fabOutFrom_health (src : Option FabPort) (p : FabPort) (cls : Fin 4) (ws : List Word) : (s.fabOutFrom src p cls ws).health = s.health := by
  unfold State.fabOutFrom; split <;> simp
@[simp] theorem State.fabOutFrom_lanes (src : Option FabPort) (p : FabPort) (cls : Fin 4) (ws : List Word) : (s.fabOutFrom src p cls ws).lanes = s.lanes := by
  unfold State.fabOutFrom; split <;> simp
@[simp] theorem State.fabOutFrom_pair (src : Option FabPort) (p : FabPort) (cls : Fin 4) (ws : List Word) : (s.fabOutFrom src p cls ws).pair = s.pair := by
  unfold State.fabOutFrom; split <;> simp
@[simp] theorem State.fabOutFrom_time (src : Option FabPort) (p : FabPort) (cls : Fin 4) (ws : List Word) : (s.fabOutFrom src p cls ws).time = s.time := by
  unfold State.fabOutFrom; split <;> simp
@[simp] theorem State.fabOutFrom_sec (src : Option FabPort) (p : FabPort) (cls : Fin 4) (ws : List Word) : (s.fabOutFrom src p cls ws).sec = s.sec := by
  unfold State.fabOutFrom; split <;> simp
@[simp] theorem State.fabOutFrom_dram (src : Option FabPort) (p : FabPort) (cls : Fin 4) (ws : List Word) : (s.fabOutFrom src p cls ws).dram = s.dram := by
  unfold State.fabOutFrom; split <;> simp
@[simp] theorem State.fabOutFrom_sys (src : Option FabPort) (p : FabPort) (cls : Fin 4) (ws : List Word) : (s.fabOutFrom src p cls ws).sys = s.sys := by
  unfold State.fabOutFrom; split <;> simp
@[simp] theorem State.fabOutFrom_draws (src : Option FabPort) (p : FabPort) (cls : Fin 4) (ws : List Word) : (s.fabOutFrom src p cls ws).draws = s.draws := by
  unfold State.fabOutFrom; split <;> simp

/-! ### fabOut -/

@[simp] theorem State.fabOut_pending (p : FabPort) (cls : Fin 4) (ws : List Word) : (s.fabOut p cls ws).pending = s.pending := by
  unfold State.fabOut; simp
@[simp] theorem State.fabOut_host (p : FabPort) (cls : Fin 4) (ws : List Word) : (s.fabOut p cls ws).host = s.host := by
  unfold State.fabOut; simp
@[simp] theorem State.fabOut_store (p : FabPort) (cls : Fin 4) (ws : List Word) : (s.fabOut p cls ws).store = s.store := by
  unfold State.fabOut; simp
@[simp] theorem State.fabOut_print (p : FabPort) (cls : Fin 4) (ws : List Word) : (s.fabOut p cls ws).print = s.print := by
  unfold State.fabOut; simp
@[simp] theorem State.fabOut_eng (p : FabPort) (cls : Fin 4) (ws : List Word) : (s.fabOut p cls ws).eng = s.eng := by
  unfold State.fabOut; simp
@[simp] theorem State.fabOut_mapper (p : FabPort) (cls : Fin 4) (ws : List Word) : (s.fabOut p cls ws).mapper = s.mapper := by
  unfold State.fabOut; simp
@[simp] theorem State.fabOut_cist (p : FabPort) (cls : Fin 4) (ws : List Word) : (s.fabOut p cls ws).cist = s.cist := by
  unfold State.fabOut; simp
@[simp] theorem State.fabOut_gov (p : FabPort) (cls : Fin 4) (ws : List Word) : (s.fabOut p cls ws).gov = s.gov := by
  unfold State.fabOut; simp
@[simp] theorem State.fabOut_sluice (p : FabPort) (cls : Fin 4) (ws : List Word) : (s.fabOut p cls ws).sluice = s.sluice := by
  unfold State.fabOut; simp
@[simp] theorem State.fabOut_heads (p : FabPort) (cls : Fin 4) (ws : List Word) : (s.fabOut p cls ws).heads = s.heads := by
  unfold State.fabOut; simp
@[simp] theorem State.fabOut_enc (p : FabPort) (cls : Fin 4) (ws : List Word) : (s.fabOut p cls ws).enc = s.enc := by
  unfold State.fabOut; simp
@[simp] theorem State.fabOut_motion (p : FabPort) (cls : Fin 4) (ws : List Word) : (s.fabOut p cls ws).motion = s.motion := by
  unfold State.fabOut; simp
@[simp] theorem State.fabOut_cam (p : FabPort) (cls : Fin 4) (ws : List Word) : (s.fabOut p cls ws).cam = s.cam := by
  unfold State.fabOut; simp
@[simp] theorem State.fabOut_health (p : FabPort) (cls : Fin 4) (ws : List Word) : (s.fabOut p cls ws).health = s.health := by
  unfold State.fabOut; simp
@[simp] theorem State.fabOut_lanes (p : FabPort) (cls : Fin 4) (ws : List Word) : (s.fabOut p cls ws).lanes = s.lanes := by
  unfold State.fabOut; simp
@[simp] theorem State.fabOut_pair (p : FabPort) (cls : Fin 4) (ws : List Word) : (s.fabOut p cls ws).pair = s.pair := by
  unfold State.fabOut; simp
@[simp] theorem State.fabOut_time (p : FabPort) (cls : Fin 4) (ws : List Word) : (s.fabOut p cls ws).time = s.time := by
  unfold State.fabOut; simp
@[simp] theorem State.fabOut_sec (p : FabPort) (cls : Fin 4) (ws : List Word) : (s.fabOut p cls ws).sec = s.sec := by
  unfold State.fabOut; simp
@[simp] theorem State.fabOut_dram (p : FabPort) (cls : Fin 4) (ws : List Word) : (s.fabOut p cls ws).dram = s.dram := by
  unfold State.fabOut; simp
@[simp] theorem State.fabOut_sys (p : FabPort) (cls : Fin 4) (ws : List Word) : (s.fabOut p cls ws).sys = s.sys := by
  unfold State.fabOut; simp
@[simp] theorem State.fabOut_draws (p : FabPort) (cls : Fin 4) (ws : List Word) : (s.fabOut p cls ws).draws = s.draws := by
  unfold State.fabOut; simp

/-! ### bundleStep -/

@[simp] theorem State.bundleStep_pending (p used : FabPort) : (s.bundleStep p used).pending = s.pending := by
  rfl
@[simp] theorem State.bundleStep_host (p used : FabPort) : (s.bundleStep p used).host = s.host := by
  rfl
@[simp] theorem State.bundleStep_store (p used : FabPort) : (s.bundleStep p used).store = s.store := by
  rfl
@[simp] theorem State.bundleStep_print (p used : FabPort) : (s.bundleStep p used).print = s.print := by
  rfl
@[simp] theorem State.bundleStep_eng (p used : FabPort) : (s.bundleStep p used).eng = s.eng := by
  rfl
@[simp] theorem State.bundleStep_mapper (p used : FabPort) : (s.bundleStep p used).mapper = s.mapper := by
  rfl
@[simp] theorem State.bundleStep_cist (p used : FabPort) : (s.bundleStep p used).cist = s.cist := by
  rfl
@[simp] theorem State.bundleStep_gov (p used : FabPort) : (s.bundleStep p used).gov = s.gov := by
  rfl
@[simp] theorem State.bundleStep_sluice (p used : FabPort) : (s.bundleStep p used).sluice = s.sluice := by
  rfl
@[simp] theorem State.bundleStep_heads (p used : FabPort) : (s.bundleStep p used).heads = s.heads := by
  rfl
@[simp] theorem State.bundleStep_enc (p used : FabPort) : (s.bundleStep p used).enc = s.enc := by
  rfl
@[simp] theorem State.bundleStep_motion (p used : FabPort) : (s.bundleStep p used).motion = s.motion := by
  rfl
@[simp] theorem State.bundleStep_cam (p used : FabPort) : (s.bundleStep p used).cam = s.cam := by
  rfl
@[simp] theorem State.bundleStep_health (p used : FabPort) : (s.bundleStep p used).health = s.health := by
  rfl
@[simp] theorem State.bundleStep_lanes (p used : FabPort) : (s.bundleStep p used).lanes = s.lanes := by
  rfl
@[simp] theorem State.bundleStep_pair (p used : FabPort) : (s.bundleStep p used).pair = s.pair := by
  rfl
@[simp] theorem State.bundleStep_time (p used : FabPort) : (s.bundleStep p used).time = s.time := by
  rfl
@[simp] theorem State.bundleStep_sec (p used : FabPort) : (s.bundleStep p used).sec = s.sec := by
  rfl
@[simp] theorem State.bundleStep_dram (p used : FabPort) : (s.bundleStep p used).dram = s.dram := by
  rfl
@[simp] theorem State.bundleStep_sys (p used : FabPort) : (s.bundleStep p used).sys = s.sys := by
  rfl
@[simp] theorem State.bundleStep_sent (p used : FabPort) : (s.bundleStep p used).sent = s.sent := by
  rfl
@[simp] theorem State.bundleStep_draws (p used : FabPort) : (s.bundleStep p used).draws = s.draws := by
  rfl

/-! ### fabRoute -/

@[simp] theorem State.fabRoute_pending (src : Option FabPort) (cls : Fin 4) (dest : NodeNo) (ws : List Word) : (s.fabRoute src cls dest ws).pending = s.pending := by
  unfold State.fabRoute; dsimp only; repeat' split
  all_goals simp
@[simp] theorem State.fabRoute_host (src : Option FabPort) (cls : Fin 4) (dest : NodeNo) (ws : List Word) : (s.fabRoute src cls dest ws).host = s.host := by
  unfold State.fabRoute; dsimp only; repeat' split
  all_goals simp
@[simp] theorem State.fabRoute_store (src : Option FabPort) (cls : Fin 4) (dest : NodeNo) (ws : List Word) : (s.fabRoute src cls dest ws).store = s.store := by
  unfold State.fabRoute; dsimp only; repeat' split
  all_goals simp
@[simp] theorem State.fabRoute_print (src : Option FabPort) (cls : Fin 4) (dest : NodeNo) (ws : List Word) : (s.fabRoute src cls dest ws).print = s.print := by
  unfold State.fabRoute; dsimp only; repeat' split
  all_goals simp
@[simp] theorem State.fabRoute_eng (src : Option FabPort) (cls : Fin 4) (dest : NodeNo) (ws : List Word) : (s.fabRoute src cls dest ws).eng = s.eng := by
  unfold State.fabRoute; dsimp only; repeat' split
  all_goals simp
@[simp] theorem State.fabRoute_mapper (src : Option FabPort) (cls : Fin 4) (dest : NodeNo) (ws : List Word) : (s.fabRoute src cls dest ws).mapper = s.mapper := by
  unfold State.fabRoute; dsimp only; repeat' split
  all_goals simp
@[simp] theorem State.fabRoute_cist (src : Option FabPort) (cls : Fin 4) (dest : NodeNo) (ws : List Word) : (s.fabRoute src cls dest ws).cist = s.cist := by
  unfold State.fabRoute; dsimp only; repeat' split
  all_goals simp
@[simp] theorem State.fabRoute_gov (src : Option FabPort) (cls : Fin 4) (dest : NodeNo) (ws : List Word) : (s.fabRoute src cls dest ws).gov = s.gov := by
  unfold State.fabRoute; dsimp only; repeat' split
  all_goals simp
@[simp] theorem State.fabRoute_sluice (src : Option FabPort) (cls : Fin 4) (dest : NodeNo) (ws : List Word) : (s.fabRoute src cls dest ws).sluice = s.sluice := by
  unfold State.fabRoute; dsimp only; repeat' split
  all_goals simp
@[simp] theorem State.fabRoute_heads (src : Option FabPort) (cls : Fin 4) (dest : NodeNo) (ws : List Word) : (s.fabRoute src cls dest ws).heads = s.heads := by
  unfold State.fabRoute; dsimp only; repeat' split
  all_goals simp
@[simp] theorem State.fabRoute_enc (src : Option FabPort) (cls : Fin 4) (dest : NodeNo) (ws : List Word) : (s.fabRoute src cls dest ws).enc = s.enc := by
  unfold State.fabRoute; dsimp only; repeat' split
  all_goals simp
@[simp] theorem State.fabRoute_motion (src : Option FabPort) (cls : Fin 4) (dest : NodeNo) (ws : List Word) : (s.fabRoute src cls dest ws).motion = s.motion := by
  unfold State.fabRoute; dsimp only; repeat' split
  all_goals simp
@[simp] theorem State.fabRoute_cam (src : Option FabPort) (cls : Fin 4) (dest : NodeNo) (ws : List Word) : (s.fabRoute src cls dest ws).cam = s.cam := by
  unfold State.fabRoute; dsimp only; repeat' split
  all_goals simp
@[simp] theorem State.fabRoute_health (src : Option FabPort) (cls : Fin 4) (dest : NodeNo) (ws : List Word) : (s.fabRoute src cls dest ws).health = s.health := by
  unfold State.fabRoute; dsimp only; repeat' split
  all_goals simp
@[simp] theorem State.fabRoute_lanes (src : Option FabPort) (cls : Fin 4) (dest : NodeNo) (ws : List Word) : (s.fabRoute src cls dest ws).lanes = s.lanes := by
  unfold State.fabRoute; dsimp only; repeat' split
  all_goals simp
@[simp] theorem State.fabRoute_pair (src : Option FabPort) (cls : Fin 4) (dest : NodeNo) (ws : List Word) : (s.fabRoute src cls dest ws).pair = s.pair := by
  unfold State.fabRoute; dsimp only; repeat' split
  all_goals simp
@[simp] theorem State.fabRoute_time (src : Option FabPort) (cls : Fin 4) (dest : NodeNo) (ws : List Word) : (s.fabRoute src cls dest ws).time = s.time := by
  unfold State.fabRoute; dsimp only; repeat' split
  all_goals simp
@[simp] theorem State.fabRoute_sec (src : Option FabPort) (cls : Fin 4) (dest : NodeNo) (ws : List Word) : (s.fabRoute src cls dest ws).sec = s.sec := by
  unfold State.fabRoute; dsimp only; repeat' split
  all_goals simp
@[simp] theorem State.fabRoute_dram (src : Option FabPort) (cls : Fin 4) (dest : NodeNo) (ws : List Word) : (s.fabRoute src cls dest ws).dram = s.dram := by
  unfold State.fabRoute; dsimp only; repeat' split
  all_goals simp
@[simp] theorem State.fabRoute_sys (src : Option FabPort) (cls : Fin 4) (dest : NodeNo) (ws : List Word) : (s.fabRoute src cls dest ws).sys = s.sys := by
  unfold State.fabRoute; dsimp only; repeat' split
  all_goals simp
@[simp] theorem State.fabRoute_draws (src : Option FabPort) (cls : Fin 4) (dest : NodeNo) (ws : List Word) : (s.fabRoute src cls dest ws).draws = s.draws := by
  unfold State.fabRoute; dsimp only; repeat' split
  all_goals simp

/-! ### fabUp -/

@[simp] theorem State.fabUp_pending (src : Option FabPort) (cls : Fin 4) (ws : List Word) : (s.fabUp src cls ws).pending = s.pending := by
  unfold State.fabUp; split <;> simp
@[simp] theorem State.fabUp_host (src : Option FabPort) (cls : Fin 4) (ws : List Word) : (s.fabUp src cls ws).host = s.host := by
  unfold State.fabUp; split <;> simp
@[simp] theorem State.fabUp_store (src : Option FabPort) (cls : Fin 4) (ws : List Word) : (s.fabUp src cls ws).store = s.store := by
  unfold State.fabUp; split <;> simp
@[simp] theorem State.fabUp_print (src : Option FabPort) (cls : Fin 4) (ws : List Word) : (s.fabUp src cls ws).print = s.print := by
  unfold State.fabUp; split <;> simp
@[simp] theorem State.fabUp_eng (src : Option FabPort) (cls : Fin 4) (ws : List Word) : (s.fabUp src cls ws).eng = s.eng := by
  unfold State.fabUp; split <;> simp
@[simp] theorem State.fabUp_mapper (src : Option FabPort) (cls : Fin 4) (ws : List Word) : (s.fabUp src cls ws).mapper = s.mapper := by
  unfold State.fabUp; split <;> simp
@[simp] theorem State.fabUp_cist (src : Option FabPort) (cls : Fin 4) (ws : List Word) : (s.fabUp src cls ws).cist = s.cist := by
  unfold State.fabUp; split <;> simp
@[simp] theorem State.fabUp_gov (src : Option FabPort) (cls : Fin 4) (ws : List Word) : (s.fabUp src cls ws).gov = s.gov := by
  unfold State.fabUp; split <;> simp
@[simp] theorem State.fabUp_sluice (src : Option FabPort) (cls : Fin 4) (ws : List Word) : (s.fabUp src cls ws).sluice = s.sluice := by
  unfold State.fabUp; split <;> simp
@[simp] theorem State.fabUp_heads (src : Option FabPort) (cls : Fin 4) (ws : List Word) : (s.fabUp src cls ws).heads = s.heads := by
  unfold State.fabUp; split <;> simp
@[simp] theorem State.fabUp_enc (src : Option FabPort) (cls : Fin 4) (ws : List Word) : (s.fabUp src cls ws).enc = s.enc := by
  unfold State.fabUp; split <;> simp
@[simp] theorem State.fabUp_motion (src : Option FabPort) (cls : Fin 4) (ws : List Word) : (s.fabUp src cls ws).motion = s.motion := by
  unfold State.fabUp; split <;> simp
@[simp] theorem State.fabUp_cam (src : Option FabPort) (cls : Fin 4) (ws : List Word) : (s.fabUp src cls ws).cam = s.cam := by
  unfold State.fabUp; split <;> simp
@[simp] theorem State.fabUp_health (src : Option FabPort) (cls : Fin 4) (ws : List Word) : (s.fabUp src cls ws).health = s.health := by
  unfold State.fabUp; split <;> simp
@[simp] theorem State.fabUp_lanes (src : Option FabPort) (cls : Fin 4) (ws : List Word) : (s.fabUp src cls ws).lanes = s.lanes := by
  unfold State.fabUp; split <;> simp
@[simp] theorem State.fabUp_pair (src : Option FabPort) (cls : Fin 4) (ws : List Word) : (s.fabUp src cls ws).pair = s.pair := by
  unfold State.fabUp; split <;> simp
@[simp] theorem State.fabUp_time (src : Option FabPort) (cls : Fin 4) (ws : List Word) : (s.fabUp src cls ws).time = s.time := by
  unfold State.fabUp; split <;> simp
@[simp] theorem State.fabUp_sec (src : Option FabPort) (cls : Fin 4) (ws : List Word) : (s.fabUp src cls ws).sec = s.sec := by
  unfold State.fabUp; split <;> simp
@[simp] theorem State.fabUp_dram (src : Option FabPort) (cls : Fin 4) (ws : List Word) : (s.fabUp src cls ws).dram = s.dram := by
  unfold State.fabUp; split <;> simp
@[simp] theorem State.fabUp_sys (src : Option FabPort) (cls : Fin 4) (ws : List Word) : (s.fabUp src cls ws).sys = s.sys := by
  unfold State.fabUp; split <;> simp
@[simp] theorem State.fabUp_draws (src : Option FabPort) (cls : Fin 4) (ws : List Word) : (s.fabUp src cls ws).draws = s.draws := by
  unfold State.fabUp; split <;> simp

/-! ### fabSend -/

@[simp] theorem State.fabSend_pending (kind : Nat) (dest : NodeNo) (data : List Word) : (s.fabSend kind dest data).pending = s.pending := by
  unfold State.fabSend; dsimp only; repeat' split
  all_goals simp
@[simp] theorem State.fabSend_host (kind : Nat) (dest : NodeNo) (data : List Word) : (s.fabSend kind dest data).host = s.host := by
  unfold State.fabSend; dsimp only; repeat' split
  all_goals simp
@[simp] theorem State.fabSend_store (kind : Nat) (dest : NodeNo) (data : List Word) : (s.fabSend kind dest data).store = s.store := by
  unfold State.fabSend; dsimp only; repeat' split
  all_goals simp
@[simp] theorem State.fabSend_print (kind : Nat) (dest : NodeNo) (data : List Word) : (s.fabSend kind dest data).print = s.print := by
  unfold State.fabSend; dsimp only; repeat' split
  all_goals simp
@[simp] theorem State.fabSend_eng (kind : Nat) (dest : NodeNo) (data : List Word) : (s.fabSend kind dest data).eng = s.eng := by
  unfold State.fabSend; dsimp only; repeat' split
  all_goals simp
@[simp] theorem State.fabSend_mapper (kind : Nat) (dest : NodeNo) (data : List Word) : (s.fabSend kind dest data).mapper = s.mapper := by
  unfold State.fabSend; dsimp only; repeat' split
  all_goals simp
@[simp] theorem State.fabSend_cist (kind : Nat) (dest : NodeNo) (data : List Word) : (s.fabSend kind dest data).cist = s.cist := by
  unfold State.fabSend; dsimp only; repeat' split
  all_goals simp
@[simp] theorem State.fabSend_gov (kind : Nat) (dest : NodeNo) (data : List Word) : (s.fabSend kind dest data).gov = s.gov := by
  unfold State.fabSend; dsimp only; repeat' split
  all_goals simp
@[simp] theorem State.fabSend_sluice (kind : Nat) (dest : NodeNo) (data : List Word) : (s.fabSend kind dest data).sluice = s.sluice := by
  unfold State.fabSend; dsimp only; repeat' split
  all_goals simp
@[simp] theorem State.fabSend_heads (kind : Nat) (dest : NodeNo) (data : List Word) : (s.fabSend kind dest data).heads = s.heads := by
  unfold State.fabSend; dsimp only; repeat' split
  all_goals simp
@[simp] theorem State.fabSend_enc (kind : Nat) (dest : NodeNo) (data : List Word) : (s.fabSend kind dest data).enc = s.enc := by
  unfold State.fabSend; dsimp only; repeat' split
  all_goals simp
@[simp] theorem State.fabSend_motion (kind : Nat) (dest : NodeNo) (data : List Word) : (s.fabSend kind dest data).motion = s.motion := by
  unfold State.fabSend; dsimp only; repeat' split
  all_goals simp
@[simp] theorem State.fabSend_cam (kind : Nat) (dest : NodeNo) (data : List Word) : (s.fabSend kind dest data).cam = s.cam := by
  unfold State.fabSend; dsimp only; repeat' split
  all_goals simp
@[simp] theorem State.fabSend_health (kind : Nat) (dest : NodeNo) (data : List Word) : (s.fabSend kind dest data).health = s.health := by
  unfold State.fabSend; dsimp only; repeat' split
  all_goals simp
@[simp] theorem State.fabSend_lanes (kind : Nat) (dest : NodeNo) (data : List Word) : (s.fabSend kind dest data).lanes = s.lanes := by
  unfold State.fabSend; dsimp only; repeat' split
  all_goals simp
@[simp] theorem State.fabSend_pair (kind : Nat) (dest : NodeNo) (data : List Word) : (s.fabSend kind dest data).pair = s.pair := by
  unfold State.fabSend; dsimp only; repeat' split
  all_goals simp
@[simp] theorem State.fabSend_time (kind : Nat) (dest : NodeNo) (data : List Word) : (s.fabSend kind dest data).time = s.time := by
  unfold State.fabSend; dsimp only; repeat' split
  all_goals simp
@[simp] theorem State.fabSend_sec (kind : Nat) (dest : NodeNo) (data : List Word) : (s.fabSend kind dest data).sec = s.sec := by
  unfold State.fabSend; dsimp only; repeat' split
  all_goals simp
@[simp] theorem State.fabSend_dram (kind : Nat) (dest : NodeNo) (data : List Word) : (s.fabSend kind dest data).dram = s.dram := by
  unfold State.fabSend; dsimp only; repeat' split
  all_goals simp
@[simp] theorem State.fabSend_sys (kind : Nat) (dest : NodeNo) (data : List Word) : (s.fabSend kind dest data).sys = s.sys := by
  unfold State.fabSend; dsimp only; repeat' split
  all_goals simp
@[simp] theorem State.fabSend_draws (kind : Nat) (dest : NodeNo) (data : List Word) : (s.fabSend kind dest data).draws = s.draws := by
  unfold State.fabSend; dsimp only; repeat' split
  all_goals simp

/-! ### fabPump -/

@[simp] theorem State.fabPump_pending (n : NodeNo) : (s.fabPump n).pending = s.pending := by
  unfold State.fabPump; repeat' split
  all_goals simp
@[simp] theorem State.fabPump_host (n : NodeNo) : (s.fabPump n).host = s.host := by
  unfold State.fabPump; repeat' split
  all_goals simp
@[simp] theorem State.fabPump_store (n : NodeNo) : (s.fabPump n).store = s.store := by
  unfold State.fabPump; repeat' split
  all_goals simp
@[simp] theorem State.fabPump_print (n : NodeNo) : (s.fabPump n).print = s.print := by
  unfold State.fabPump; repeat' split
  all_goals simp
@[simp] theorem State.fabPump_eng (n : NodeNo) : (s.fabPump n).eng = s.eng := by
  unfold State.fabPump; repeat' split
  all_goals simp
@[simp] theorem State.fabPump_mapper (n : NodeNo) : (s.fabPump n).mapper = s.mapper := by
  unfold State.fabPump; repeat' split
  all_goals simp
@[simp] theorem State.fabPump_cist (n : NodeNo) : (s.fabPump n).cist = s.cist := by
  unfold State.fabPump; repeat' split
  all_goals simp
@[simp] theorem State.fabPump_gov (n : NodeNo) : (s.fabPump n).gov = s.gov := by
  unfold State.fabPump; repeat' split
  all_goals simp
@[simp] theorem State.fabPump_sluice (n : NodeNo) : (s.fabPump n).sluice = s.sluice := by
  unfold State.fabPump; repeat' split
  all_goals simp
@[simp] theorem State.fabPump_heads (n : NodeNo) : (s.fabPump n).heads = s.heads := by
  unfold State.fabPump; repeat' split
  all_goals simp
@[simp] theorem State.fabPump_enc (n : NodeNo) : (s.fabPump n).enc = s.enc := by
  unfold State.fabPump; repeat' split
  all_goals simp
@[simp] theorem State.fabPump_motion (n : NodeNo) : (s.fabPump n).motion = s.motion := by
  unfold State.fabPump; repeat' split
  all_goals simp
@[simp] theorem State.fabPump_cam (n : NodeNo) : (s.fabPump n).cam = s.cam := by
  unfold State.fabPump; repeat' split
  all_goals simp
@[simp] theorem State.fabPump_health (n : NodeNo) : (s.fabPump n).health = s.health := by
  unfold State.fabPump; repeat' split
  all_goals simp
@[simp] theorem State.fabPump_lanes (n : NodeNo) : (s.fabPump n).lanes = s.lanes := by
  unfold State.fabPump; repeat' split
  all_goals simp
@[simp] theorem State.fabPump_pair (n : NodeNo) : (s.fabPump n).pair = s.pair := by
  unfold State.fabPump; repeat' split
  all_goals simp
@[simp] theorem State.fabPump_time (n : NodeNo) : (s.fabPump n).time = s.time := by
  unfold State.fabPump; repeat' split
  all_goals simp
@[simp] theorem State.fabPump_sec (n : NodeNo) : (s.fabPump n).sec = s.sec := by
  unfold State.fabPump; repeat' split
  all_goals simp
@[simp] theorem State.fabPump_dram (n : NodeNo) : (s.fabPump n).dram = s.dram := by
  unfold State.fabPump; repeat' split
  all_goals simp
@[simp] theorem State.fabPump_sys (n : NodeNo) : (s.fabPump n).sys = s.sys := by
  unfold State.fabPump; repeat' split
  all_goals simp
@[simp] theorem State.fabPump_draws (n : NodeNo) : (s.fabPump n).draws = s.draws := by
  unfold State.fabPump; repeat' split
  all_goals simp

/-! ### pushFab -/

@[simp] theorem State.pushFab_pending (n : NodeNo) (ws : List Word) : (s.pushFab n ws).pending = s.pending := by
  unfold State.pushFab; simp
@[simp] theorem State.pushFab_host (n : NodeNo) (ws : List Word) : (s.pushFab n ws).host = s.host := by
  unfold State.pushFab; simp
@[simp] theorem State.pushFab_store (n : NodeNo) (ws : List Word) : (s.pushFab n ws).store = s.store := by
  unfold State.pushFab; simp
@[simp] theorem State.pushFab_print (n : NodeNo) (ws : List Word) : (s.pushFab n ws).print = s.print := by
  unfold State.pushFab; simp
@[simp] theorem State.pushFab_eng (n : NodeNo) (ws : List Word) : (s.pushFab n ws).eng = s.eng := by
  unfold State.pushFab; simp
@[simp] theorem State.pushFab_mapper (n : NodeNo) (ws : List Word) : (s.pushFab n ws).mapper = s.mapper := by
  unfold State.pushFab; simp
@[simp] theorem State.pushFab_cist (n : NodeNo) (ws : List Word) : (s.pushFab n ws).cist = s.cist := by
  unfold State.pushFab; simp
@[simp] theorem State.pushFab_gov (n : NodeNo) (ws : List Word) : (s.pushFab n ws).gov = s.gov := by
  unfold State.pushFab; simp
@[simp] theorem State.pushFab_sluice (n : NodeNo) (ws : List Word) : (s.pushFab n ws).sluice = s.sluice := by
  unfold State.pushFab; simp
@[simp] theorem State.pushFab_heads (n : NodeNo) (ws : List Word) : (s.pushFab n ws).heads = s.heads := by
  unfold State.pushFab; simp
@[simp] theorem State.pushFab_enc (n : NodeNo) (ws : List Word) : (s.pushFab n ws).enc = s.enc := by
  unfold State.pushFab; simp
@[simp] theorem State.pushFab_motion (n : NodeNo) (ws : List Word) : (s.pushFab n ws).motion = s.motion := by
  unfold State.pushFab; simp
@[simp] theorem State.pushFab_cam (n : NodeNo) (ws : List Word) : (s.pushFab n ws).cam = s.cam := by
  unfold State.pushFab; simp
@[simp] theorem State.pushFab_health (n : NodeNo) (ws : List Word) : (s.pushFab n ws).health = s.health := by
  unfold State.pushFab; simp
@[simp] theorem State.pushFab_lanes (n : NodeNo) (ws : List Word) : (s.pushFab n ws).lanes = s.lanes := by
  unfold State.pushFab; simp
@[simp] theorem State.pushFab_pair (n : NodeNo) (ws : List Word) : (s.pushFab n ws).pair = s.pair := by
  unfold State.pushFab; simp
@[simp] theorem State.pushFab_time (n : NodeNo) (ws : List Word) : (s.pushFab n ws).time = s.time := by
  unfold State.pushFab; simp
@[simp] theorem State.pushFab_sec (n : NodeNo) (ws : List Word) : (s.pushFab n ws).sec = s.sec := by
  unfold State.pushFab; simp
@[simp] theorem State.pushFab_dram (n : NodeNo) (ws : List Word) : (s.pushFab n ws).dram = s.dram := by
  unfold State.pushFab; simp
@[simp] theorem State.pushFab_sys (n : NodeNo) (ws : List Word) : (s.pushFab n ws).sys = s.sys := by
  unfold State.pushFab; simp
@[simp] theorem State.pushFab_draws (n : NodeNo) (ws : List Word) : (s.pushFab n ws).draws = s.draws := by
  unfold State.pushFab; simp

/-! ### eventFab -/

@[simp] theorem State.eventFab_pending (e : Code × BitVec 40) (n : NodeNo) : (s.eventFab e n).pending = s.pending := by
  unfold State.eventFab; repeat' split
  all_goals simp
@[simp] theorem State.eventFab_host (e : Code × BitVec 40) (n : NodeNo) : (s.eventFab e n).host = s.host := by
  unfold State.eventFab; repeat' split
  all_goals simp
@[simp] theorem State.eventFab_store (e : Code × BitVec 40) (n : NodeNo) : (s.eventFab e n).store = s.store := by
  unfold State.eventFab; repeat' split
  all_goals simp
@[simp] theorem State.eventFab_print (e : Code × BitVec 40) (n : NodeNo) : (s.eventFab e n).print = s.print := by
  unfold State.eventFab; repeat' split
  all_goals simp
@[simp] theorem State.eventFab_eng (e : Code × BitVec 40) (n : NodeNo) : (s.eventFab e n).eng = s.eng := by
  unfold State.eventFab; repeat' split
  all_goals simp
@[simp] theorem State.eventFab_mapper (e : Code × BitVec 40) (n : NodeNo) : (s.eventFab e n).mapper = s.mapper := by
  unfold State.eventFab; repeat' split
  all_goals simp
@[simp] theorem State.eventFab_cist (e : Code × BitVec 40) (n : NodeNo) : (s.eventFab e n).cist = s.cist := by
  unfold State.eventFab; repeat' split
  all_goals simp
@[simp] theorem State.eventFab_gov (e : Code × BitVec 40) (n : NodeNo) : (s.eventFab e n).gov = s.gov := by
  unfold State.eventFab; repeat' split
  all_goals simp
@[simp] theorem State.eventFab_sluice (e : Code × BitVec 40) (n : NodeNo) : (s.eventFab e n).sluice = s.sluice := by
  unfold State.eventFab; repeat' split
  all_goals simp
@[simp] theorem State.eventFab_heads (e : Code × BitVec 40) (n : NodeNo) : (s.eventFab e n).heads = s.heads := by
  unfold State.eventFab; repeat' split
  all_goals simp
@[simp] theorem State.eventFab_enc (e : Code × BitVec 40) (n : NodeNo) : (s.eventFab e n).enc = s.enc := by
  unfold State.eventFab; repeat' split
  all_goals simp
@[simp] theorem State.eventFab_motion (e : Code × BitVec 40) (n : NodeNo) : (s.eventFab e n).motion = s.motion := by
  unfold State.eventFab; repeat' split
  all_goals simp
@[simp] theorem State.eventFab_cam (e : Code × BitVec 40) (n : NodeNo) : (s.eventFab e n).cam = s.cam := by
  unfold State.eventFab; repeat' split
  all_goals simp
@[simp] theorem State.eventFab_health (e : Code × BitVec 40) (n : NodeNo) : (s.eventFab e n).health = s.health := by
  unfold State.eventFab; repeat' split
  all_goals simp
@[simp] theorem State.eventFab_lanes (e : Code × BitVec 40) (n : NodeNo) : (s.eventFab e n).lanes = s.lanes := by
  unfold State.eventFab; repeat' split
  all_goals simp
@[simp] theorem State.eventFab_pair (e : Code × BitVec 40) (n : NodeNo) : (s.eventFab e n).pair = s.pair := by
  unfold State.eventFab; repeat' split
  all_goals simp
@[simp] theorem State.eventFab_time (e : Code × BitVec 40) (n : NodeNo) : (s.eventFab e n).time = s.time := by
  unfold State.eventFab; repeat' split
  all_goals simp
@[simp] theorem State.eventFab_sec (e : Code × BitVec 40) (n : NodeNo) : (s.eventFab e n).sec = s.sec := by
  unfold State.eventFab; repeat' split
  all_goals simp
@[simp] theorem State.eventFab_dram (e : Code × BitVec 40) (n : NodeNo) : (s.eventFab e n).dram = s.dram := by
  unfold State.eventFab; repeat' split
  all_goals simp
@[simp] theorem State.eventFab_sys (e : Code × BitVec 40) (n : NodeNo) : (s.eventFab e n).sys = s.sys := by
  unfold State.eventFab; repeat' split
  all_goals simp
@[simp] theorem State.eventFab_draws (e : Code × BitVec 40) (n : NodeNo) : (s.eventFab e n).draws = s.draws := by
  unfold State.eventFab; repeat' split
  all_goals simp

/-! ### raise -/

@[simp] theorem State.raise_pending (e : Code) (d : BitVec 40) : (s.raise e d).pending = s.pending := by
  unfold State.raise; split <;> rfl
@[simp] theorem State.raise_store (e : Code) (d : BitVec 40) : (s.raise e d).store = s.store := by
  unfold State.raise; split <;> rfl
@[simp] theorem State.raise_print (e : Code) (d : BitVec 40) : (s.raise e d).print = s.print := by
  unfold State.raise; split <;> rfl
@[simp] theorem State.raise_eng (e : Code) (d : BitVec 40) : (s.raise e d).eng = s.eng := by
  unfold State.raise; split <;> rfl
@[simp] theorem State.raise_mapper (e : Code) (d : BitVec 40) : (s.raise e d).mapper = s.mapper := by
  unfold State.raise; split <;> rfl
@[simp] theorem State.raise_cist (e : Code) (d : BitVec 40) : (s.raise e d).cist = s.cist := by
  unfold State.raise; split <;> rfl
@[simp] theorem State.raise_gov (e : Code) (d : BitVec 40) : (s.raise e d).gov = s.gov := by
  unfold State.raise; split <;> rfl
@[simp] theorem State.raise_sluice (e : Code) (d : BitVec 40) : (s.raise e d).sluice = s.sluice := by
  unfold State.raise; split <;> rfl
@[simp] theorem State.raise_heads (e : Code) (d : BitVec 40) : (s.raise e d).heads = s.heads := by
  unfold State.raise; split <;> rfl
@[simp] theorem State.raise_enc (e : Code) (d : BitVec 40) : (s.raise e d).enc = s.enc := by
  unfold State.raise; split <;> rfl
@[simp] theorem State.raise_motion (e : Code) (d : BitVec 40) : (s.raise e d).motion = s.motion := by
  unfold State.raise; split <;> rfl
@[simp] theorem State.raise_cam (e : Code) (d : BitVec 40) : (s.raise e d).cam = s.cam := by
  unfold State.raise; split <;> rfl
@[simp] theorem State.raise_health (e : Code) (d : BitVec 40) : (s.raise e d).health = s.health := by
  unfold State.raise; split <;> rfl
@[simp] theorem State.raise_lanes (e : Code) (d : BitVec 40) : (s.raise e d).lanes = s.lanes := by
  unfold State.raise; split <;> rfl
@[simp] theorem State.raise_fab (e : Code) (d : BitVec 40) : (s.raise e d).fab = s.fab := by
  unfold State.raise; split <;> rfl
@[simp] theorem State.raise_pair (e : Code) (d : BitVec 40) : (s.raise e d).pair = s.pair := by
  unfold State.raise; split <;> rfl
@[simp] theorem State.raise_time (e : Code) (d : BitVec 40) : (s.raise e d).time = s.time := by
  unfold State.raise; split <;> rfl
@[simp] theorem State.raise_sec (e : Code) (d : BitVec 40) : (s.raise e d).sec = s.sec := by
  unfold State.raise; split <;> rfl
@[simp] theorem State.raise_dram (e : Code) (d : BitVec 40) : (s.raise e d).dram = s.dram := by
  unfold State.raise; split <;> rfl
@[simp] theorem State.raise_sys (e : Code) (d : BitVec 40) : (s.raise e d).sys = s.sys := by
  unfold State.raise; split <;> rfl
@[simp] theorem State.raise_sent (e : Code) (d : BitVec 40) : (s.raise e d).sent = s.sent := by
  unfold State.raise; split <;> rfl
@[simp] theorem State.raise_draws (e : Code) (d : BitVec 40) : (s.raise e d).draws = s.draws := by
  unfold State.raise; split <;> rfl

/-! ### raiseF -/

@[simp] theorem State.raiseF_pending (e : Code) (l : List Nat) : (s.raiseF e l).pending = s.pending := by
  unfold State.raiseF; simp
@[simp] theorem State.raiseF_store (e : Code) (l : List Nat) : (s.raiseF e l).store = s.store := by
  unfold State.raiseF; simp
@[simp] theorem State.raiseF_print (e : Code) (l : List Nat) : (s.raiseF e l).print = s.print := by
  unfold State.raiseF; simp
@[simp] theorem State.raiseF_eng (e : Code) (l : List Nat) : (s.raiseF e l).eng = s.eng := by
  unfold State.raiseF; simp
@[simp] theorem State.raiseF_mapper (e : Code) (l : List Nat) : (s.raiseF e l).mapper = s.mapper := by
  unfold State.raiseF; simp
@[simp] theorem State.raiseF_cist (e : Code) (l : List Nat) : (s.raiseF e l).cist = s.cist := by
  unfold State.raiseF; simp
@[simp] theorem State.raiseF_gov (e : Code) (l : List Nat) : (s.raiseF e l).gov = s.gov := by
  unfold State.raiseF; simp
@[simp] theorem State.raiseF_sluice (e : Code) (l : List Nat) : (s.raiseF e l).sluice = s.sluice := by
  unfold State.raiseF; simp
@[simp] theorem State.raiseF_heads (e : Code) (l : List Nat) : (s.raiseF e l).heads = s.heads := by
  unfold State.raiseF; simp
@[simp] theorem State.raiseF_enc (e : Code) (l : List Nat) : (s.raiseF e l).enc = s.enc := by
  unfold State.raiseF; simp
@[simp] theorem State.raiseF_motion (e : Code) (l : List Nat) : (s.raiseF e l).motion = s.motion := by
  unfold State.raiseF; simp
@[simp] theorem State.raiseF_cam (e : Code) (l : List Nat) : (s.raiseF e l).cam = s.cam := by
  unfold State.raiseF; simp
@[simp] theorem State.raiseF_health (e : Code) (l : List Nat) : (s.raiseF e l).health = s.health := by
  unfold State.raiseF; simp
@[simp] theorem State.raiseF_lanes (e : Code) (l : List Nat) : (s.raiseF e l).lanes = s.lanes := by
  unfold State.raiseF; simp
@[simp] theorem State.raiseF_fab (e : Code) (l : List Nat) : (s.raiseF e l).fab = s.fab := by
  unfold State.raiseF; simp
@[simp] theorem State.raiseF_pair (e : Code) (l : List Nat) : (s.raiseF e l).pair = s.pair := by
  unfold State.raiseF; simp
@[simp] theorem State.raiseF_time (e : Code) (l : List Nat) : (s.raiseF e l).time = s.time := by
  unfold State.raiseF; simp
@[simp] theorem State.raiseF_sec (e : Code) (l : List Nat) : (s.raiseF e l).sec = s.sec := by
  unfold State.raiseF; simp
@[simp] theorem State.raiseF_dram (e : Code) (l : List Nat) : (s.raiseF e l).dram = s.dram := by
  unfold State.raiseF; simp
@[simp] theorem State.raiseF_sys (e : Code) (l : List Nat) : (s.raiseF e l).sys = s.sys := by
  unfold State.raiseF; simp
@[simp] theorem State.raiseF_sent (e : Code) (l : List Nat) : (s.raiseF e l).sent = s.sent := by
  unfold State.raiseF; simp
@[simp] theorem State.raiseF_draws (e : Code) (l : List Nat) : (s.raiseF e l).draws = s.draws := by
  unfold State.raiseF; simp

/-! ### deliver -/

@[simp] theorem State.deliver_pending (e : Code × BitVec 40) : (s.deliver e).pending = s.pending := by
  unfold State.deliver
  rw [foldl_same (π := State.pending) _ (fun a b => by simp), foldl_same (π := State.pending) _ (fun a b => by simp)]
@[simp] theorem State.deliver_store (e : Code × BitVec 40) : (s.deliver e).store = s.store := by
  unfold State.deliver
  rw [foldl_same (π := State.store) _ (fun a b => by simp), foldl_same (π := State.store) _ (fun a b => by simp)]
@[simp] theorem State.deliver_print (e : Code × BitVec 40) : (s.deliver e).print = s.print := by
  unfold State.deliver
  rw [foldl_same (π := State.print) _ (fun a b => by simp), foldl_same (π := State.print) _ (fun a b => by simp)]
@[simp] theorem State.deliver_eng (e : Code × BitVec 40) : (s.deliver e).eng = s.eng := by
  unfold State.deliver
  rw [foldl_same (π := State.eng) _ (fun a b => by simp), foldl_same (π := State.eng) _ (fun a b => by simp)]
@[simp] theorem State.deliver_mapper (e : Code × BitVec 40) : (s.deliver e).mapper = s.mapper := by
  unfold State.deliver
  rw [foldl_same (π := State.mapper) _ (fun a b => by simp), foldl_same (π := State.mapper) _ (fun a b => by simp)]
@[simp] theorem State.deliver_cist (e : Code × BitVec 40) : (s.deliver e).cist = s.cist := by
  unfold State.deliver
  rw [foldl_same (π := State.cist) _ (fun a b => by simp), foldl_same (π := State.cist) _ (fun a b => by simp)]
@[simp] theorem State.deliver_gov (e : Code × BitVec 40) : (s.deliver e).gov = s.gov := by
  unfold State.deliver
  rw [foldl_same (π := State.gov) _ (fun a b => by simp), foldl_same (π := State.gov) _ (fun a b => by simp)]
@[simp] theorem State.deliver_sluice (e : Code × BitVec 40) : (s.deliver e).sluice = s.sluice := by
  unfold State.deliver
  rw [foldl_same (π := State.sluice) _ (fun a b => by simp), foldl_same (π := State.sluice) _ (fun a b => by simp)]
@[simp] theorem State.deliver_heads (e : Code × BitVec 40) : (s.deliver e).heads = s.heads := by
  unfold State.deliver
  rw [foldl_same (π := State.heads) _ (fun a b => by simp), foldl_same (π := State.heads) _ (fun a b => by simp)]
@[simp] theorem State.deliver_enc (e : Code × BitVec 40) : (s.deliver e).enc = s.enc := by
  unfold State.deliver
  rw [foldl_same (π := State.enc) _ (fun a b => by simp), foldl_same (π := State.enc) _ (fun a b => by simp)]
@[simp] theorem State.deliver_motion (e : Code × BitVec 40) : (s.deliver e).motion = s.motion := by
  unfold State.deliver
  rw [foldl_same (π := State.motion) _ (fun a b => by simp), foldl_same (π := State.motion) _ (fun a b => by simp)]
@[simp] theorem State.deliver_cam (e : Code × BitVec 40) : (s.deliver e).cam = s.cam := by
  unfold State.deliver
  rw [foldl_same (π := State.cam) _ (fun a b => by simp), foldl_same (π := State.cam) _ (fun a b => by simp)]
@[simp] theorem State.deliver_health (e : Code × BitVec 40) : (s.deliver e).health = s.health := by
  unfold State.deliver
  rw [foldl_same (π := State.health) _ (fun a b => by simp), foldl_same (π := State.health) _ (fun a b => by simp)]
@[simp] theorem State.deliver_lanes (e : Code × BitVec 40) : (s.deliver e).lanes = s.lanes := by
  unfold State.deliver
  rw [foldl_same (π := State.lanes) _ (fun a b => by simp), foldl_same (π := State.lanes) _ (fun a b => by simp)]
@[simp] theorem State.deliver_pair (e : Code × BitVec 40) : (s.deliver e).pair = s.pair := by
  unfold State.deliver
  rw [foldl_same (π := State.pair) _ (fun a b => by simp), foldl_same (π := State.pair) _ (fun a b => by simp)]
@[simp] theorem State.deliver_time (e : Code × BitVec 40) : (s.deliver e).time = s.time := by
  unfold State.deliver
  rw [foldl_same (π := State.time) _ (fun a b => by simp), foldl_same (π := State.time) _ (fun a b => by simp)]
@[simp] theorem State.deliver_sec (e : Code × BitVec 40) : (s.deliver e).sec = s.sec := by
  unfold State.deliver
  rw [foldl_same (π := State.sec) _ (fun a b => by simp), foldl_same (π := State.sec) _ (fun a b => by simp)]
@[simp] theorem State.deliver_dram (e : Code × BitVec 40) : (s.deliver e).dram = s.dram := by
  unfold State.deliver
  rw [foldl_same (π := State.dram) _ (fun a b => by simp), foldl_same (π := State.dram) _ (fun a b => by simp)]
@[simp] theorem State.deliver_sys (e : Code × BitVec 40) : (s.deliver e).sys = s.sys := by
  unfold State.deliver
  rw [foldl_same (π := State.sys) _ (fun a b => by simp), foldl_same (π := State.sys) _ (fun a b => by simp)]
@[simp] theorem State.deliver_draws (e : Code × BitVec 40) : (s.deliver e).draws = s.draws := by
  unfold State.deliver
  rw [foldl_same (π := State.draws) _ (fun a b => by simp), foldl_same (π := State.draws) _ (fun a b => by simp)]

/-! ### flush -/

@[simp] theorem State.flush_pending : (s.flush).pending = s.pending := by
  unfold State.flush
  split
  · rfl
  · rw [foldl_same (π := State.pending) _ (fun a b => by simp)]
@[simp] theorem State.flush_store : (s.flush).store = s.store := by
  unfold State.flush
  split
  · rfl
  · rw [foldl_same (π := State.store) _ (fun a b => by simp)]
@[simp] theorem State.flush_print : (s.flush).print = s.print := by
  unfold State.flush
  split
  · rfl
  · rw [foldl_same (π := State.print) _ (fun a b => by simp)]
@[simp] theorem State.flush_eng : (s.flush).eng = s.eng := by
  unfold State.flush
  split
  · rfl
  · rw [foldl_same (π := State.eng) _ (fun a b => by simp)]
@[simp] theorem State.flush_mapper : (s.flush).mapper = s.mapper := by
  unfold State.flush
  split
  · rfl
  · rw [foldl_same (π := State.mapper) _ (fun a b => by simp)]
@[simp] theorem State.flush_cist : (s.flush).cist = s.cist := by
  unfold State.flush
  split
  · rfl
  · rw [foldl_same (π := State.cist) _ (fun a b => by simp)]
@[simp] theorem State.flush_gov : (s.flush).gov = s.gov := by
  unfold State.flush
  split
  · rfl
  · rw [foldl_same (π := State.gov) _ (fun a b => by simp)]
@[simp] theorem State.flush_sluice : (s.flush).sluice = s.sluice := by
  unfold State.flush
  split
  · rfl
  · rw [foldl_same (π := State.sluice) _ (fun a b => by simp)]
@[simp] theorem State.flush_heads : (s.flush).heads = s.heads := by
  unfold State.flush
  split
  · rfl
  · rw [foldl_same (π := State.heads) _ (fun a b => by simp)]
@[simp] theorem State.flush_enc : (s.flush).enc = s.enc := by
  unfold State.flush
  split
  · rfl
  · rw [foldl_same (π := State.enc) _ (fun a b => by simp)]
@[simp] theorem State.flush_motion : (s.flush).motion = s.motion := by
  unfold State.flush
  split
  · rfl
  · rw [foldl_same (π := State.motion) _ (fun a b => by simp)]
@[simp] theorem State.flush_cam : (s.flush).cam = s.cam := by
  unfold State.flush
  split
  · rfl
  · rw [foldl_same (π := State.cam) _ (fun a b => by simp)]
@[simp] theorem State.flush_health : (s.flush).health = s.health := by
  unfold State.flush
  split
  · rfl
  · rw [foldl_same (π := State.health) _ (fun a b => by simp)]
@[simp] theorem State.flush_lanes : (s.flush).lanes = s.lanes := by
  unfold State.flush
  split
  · rfl
  · rw [foldl_same (π := State.lanes) _ (fun a b => by simp)]
@[simp] theorem State.flush_pair : (s.flush).pair = s.pair := by
  unfold State.flush
  split
  · rfl
  · rw [foldl_same (π := State.pair) _ (fun a b => by simp)]
@[simp] theorem State.flush_time : (s.flush).time = s.time := by
  unfold State.flush
  split
  · rfl
  · rw [foldl_same (π := State.time) _ (fun a b => by simp)]
@[simp] theorem State.flush_sec : (s.flush).sec = s.sec := by
  unfold State.flush
  split
  · rfl
  · rw [foldl_same (π := State.sec) _ (fun a b => by simp)]
@[simp] theorem State.flush_dram : (s.flush).dram = s.dram := by
  unfold State.flush
  split
  · rfl
  · rw [foldl_same (π := State.dram) _ (fun a b => by simp)]
@[simp] theorem State.flush_sys : (s.flush).sys = s.sys := by
  unfold State.flush
  split
  · rfl
  · rw [foldl_same (π := State.sys) _ (fun a b => by simp)]
@[simp] theorem State.flush_draws : (s.flush).draws = s.draws := by
  unfold State.flush
  split
  · rfl
  · rw [foldl_same (π := State.draws) _ (fun a b => by simp)]

/-! ### settle -/

@[simp] theorem State.settle_pending : (s.settle).pending = s.pending := by
  unfold State.settle; simp
@[simp] theorem State.settle_store : (s.settle).store = s.store := by
  unfold State.settle; simp
@[simp] theorem State.settle_print : (s.settle).print = s.print := by
  unfold State.settle; simp
@[simp] theorem State.settle_eng : (s.settle).eng = s.eng := by
  unfold State.settle; simp
@[simp] theorem State.settle_mapper : (s.settle).mapper = s.mapper := by
  unfold State.settle; simp
@[simp] theorem State.settle_cist : (s.settle).cist = s.cist := by
  unfold State.settle; simp
@[simp] theorem State.settle_gov : (s.settle).gov = s.gov := by
  unfold State.settle; simp
@[simp] theorem State.settle_sluice : (s.settle).sluice = s.sluice := by
  unfold State.settle; simp
@[simp] theorem State.settle_heads : (s.settle).heads = s.heads := by
  unfold State.settle; simp
@[simp] theorem State.settle_enc : (s.settle).enc = s.enc := by
  unfold State.settle; simp
@[simp] theorem State.settle_motion : (s.settle).motion = s.motion := by
  unfold State.settle; simp
@[simp] theorem State.settle_cam : (s.settle).cam = s.cam := by
  unfold State.settle; simp
@[simp] theorem State.settle_health : (s.settle).health = s.health := by
  unfold State.settle; simp
@[simp] theorem State.settle_lanes : (s.settle).lanes = s.lanes := by
  unfold State.settle; simp
@[simp] theorem State.settle_pair : (s.settle).pair = s.pair := by
  unfold State.settle; simp
@[simp] theorem State.settle_time : (s.settle).time = s.time := by
  unfold State.settle; simp
@[simp] theorem State.settle_sec : (s.settle).sec = s.sec := by
  unfold State.settle; simp
@[simp] theorem State.settle_dram : (s.settle).dram = s.dram := by
  unfold State.settle; simp
@[simp] theorem State.settle_sys : (s.settle).sys = s.sys := by
  unfold State.settle; simp
@[simp] theorem State.settle_draws : (s.settle).draws = s.draws := by
  unfold State.settle; simp

/-! ### respond -/

@[simp] theorem State.respond_pending (o : Origin) (op : Byte) (tag : BitVec 5) (st : Code) (r : BitVec 40) : (s.respond o op tag st r).pending = s.pending := by
  unfold State.respond; dsimp only; repeat' split
  all_goals simp
@[simp] theorem State.respond_print (o : Origin) (op : Byte) (tag : BitVec 5) (st : Code) (r : BitVec 40) : (s.respond o op tag st r).print = s.print := by
  unfold State.respond; dsimp only; repeat' split
  all_goals simp
@[simp] theorem State.respond_eng (o : Origin) (op : Byte) (tag : BitVec 5) (st : Code) (r : BitVec 40) : (s.respond o op tag st r).eng = s.eng := by
  unfold State.respond; dsimp only; repeat' split
  all_goals simp
@[simp] theorem State.respond_mapper (o : Origin) (op : Byte) (tag : BitVec 5) (st : Code) (r : BitVec 40) : (s.respond o op tag st r).mapper = s.mapper := by
  unfold State.respond; dsimp only; repeat' split
  all_goals simp
@[simp] theorem State.respond_cist (o : Origin) (op : Byte) (tag : BitVec 5) (st : Code) (r : BitVec 40) : (s.respond o op tag st r).cist = s.cist := by
  unfold State.respond; dsimp only; repeat' split
  all_goals simp
@[simp] theorem State.respond_gov (o : Origin) (op : Byte) (tag : BitVec 5) (st : Code) (r : BitVec 40) : (s.respond o op tag st r).gov = s.gov := by
  unfold State.respond; dsimp only; repeat' split
  all_goals simp
@[simp] theorem State.respond_sluice (o : Origin) (op : Byte) (tag : BitVec 5) (st : Code) (r : BitVec 40) : (s.respond o op tag st r).sluice = s.sluice := by
  unfold State.respond; dsimp only; repeat' split
  all_goals simp
@[simp] theorem State.respond_heads (o : Origin) (op : Byte) (tag : BitVec 5) (st : Code) (r : BitVec 40) : (s.respond o op tag st r).heads = s.heads := by
  unfold State.respond; dsimp only; repeat' split
  all_goals simp
@[simp] theorem State.respond_enc (o : Origin) (op : Byte) (tag : BitVec 5) (st : Code) (r : BitVec 40) : (s.respond o op tag st r).enc = s.enc := by
  unfold State.respond; dsimp only; repeat' split
  all_goals simp
@[simp] theorem State.respond_motion (o : Origin) (op : Byte) (tag : BitVec 5) (st : Code) (r : BitVec 40) : (s.respond o op tag st r).motion = s.motion := by
  unfold State.respond; dsimp only; repeat' split
  all_goals simp
@[simp] theorem State.respond_cam (o : Origin) (op : Byte) (tag : BitVec 5) (st : Code) (r : BitVec 40) : (s.respond o op tag st r).cam = s.cam := by
  unfold State.respond; dsimp only; repeat' split
  all_goals simp
@[simp] theorem State.respond_health (o : Origin) (op : Byte) (tag : BitVec 5) (st : Code) (r : BitVec 40) : (s.respond o op tag st r).health = s.health := by
  unfold State.respond; dsimp only; repeat' split
  all_goals simp
@[simp] theorem State.respond_lanes (o : Origin) (op : Byte) (tag : BitVec 5) (st : Code) (r : BitVec 40) : (s.respond o op tag st r).lanes = s.lanes := by
  unfold State.respond; dsimp only; repeat' split
  all_goals simp
@[simp] theorem State.respond_pair (o : Origin) (op : Byte) (tag : BitVec 5) (st : Code) (r : BitVec 40) : (s.respond o op tag st r).pair = s.pair := by
  unfold State.respond; dsimp only; repeat' split
  all_goals simp
@[simp] theorem State.respond_time (o : Origin) (op : Byte) (tag : BitVec 5) (st : Code) (r : BitVec 40) : (s.respond o op tag st r).time = s.time := by
  unfold State.respond; dsimp only; repeat' split
  all_goals simp
@[simp] theorem State.respond_sec (o : Origin) (op : Byte) (tag : BitVec 5) (st : Code) (r : BitVec 40) : (s.respond o op tag st r).sec = s.sec := by
  unfold State.respond; dsimp only; repeat' split
  all_goals simp
@[simp] theorem State.respond_dram (o : Origin) (op : Byte) (tag : BitVec 5) (st : Code) (r : BitVec 40) : (s.respond o op tag st r).dram = s.dram := by
  unfold State.respond; dsimp only; repeat' split
  all_goals simp
@[simp] theorem State.respond_sys (o : Origin) (op : Byte) (tag : BitVec 5) (st : Code) (r : BitVec 40) : (s.respond o op tag st r).sys = s.sys := by
  unfold State.respond; dsimp only; repeat' split
  all_goals simp
@[simp] theorem State.respond_draws (o : Origin) (op : Byte) (tag : BitVec 5) (st : Code) (r : BitVec 40) : (s.respond o op tag st r).draws = s.draws := by
  unfold State.respond; dsimp only; repeat' split
  all_goals simp

/-! ### answer -/

@[simp] theorem State.answer_pending (x : Cmd) (op : Byte) (st : Code) (r : BitVec 40) : (s.answer x op st r).pending = s.pending := by
  unfold State.answer; simp
@[simp] theorem State.answer_print (x : Cmd) (op : Byte) (st : Code) (r : BitVec 40) : (s.answer x op st r).print = s.print := by
  unfold State.answer; simp
@[simp] theorem State.answer_eng (x : Cmd) (op : Byte) (st : Code) (r : BitVec 40) : (s.answer x op st r).eng = s.eng := by
  unfold State.answer; simp
@[simp] theorem State.answer_mapper (x : Cmd) (op : Byte) (st : Code) (r : BitVec 40) : (s.answer x op st r).mapper = s.mapper := by
  unfold State.answer; simp
@[simp] theorem State.answer_cist (x : Cmd) (op : Byte) (st : Code) (r : BitVec 40) : (s.answer x op st r).cist = s.cist := by
  unfold State.answer; simp
@[simp] theorem State.answer_gov (x : Cmd) (op : Byte) (st : Code) (r : BitVec 40) : (s.answer x op st r).gov = s.gov := by
  unfold State.answer; simp
@[simp] theorem State.answer_sluice (x : Cmd) (op : Byte) (st : Code) (r : BitVec 40) : (s.answer x op st r).sluice = s.sluice := by
  unfold State.answer; simp
@[simp] theorem State.answer_heads (x : Cmd) (op : Byte) (st : Code) (r : BitVec 40) : (s.answer x op st r).heads = s.heads := by
  unfold State.answer; simp
@[simp] theorem State.answer_enc (x : Cmd) (op : Byte) (st : Code) (r : BitVec 40) : (s.answer x op st r).enc = s.enc := by
  unfold State.answer; simp
@[simp] theorem State.answer_motion (x : Cmd) (op : Byte) (st : Code) (r : BitVec 40) : (s.answer x op st r).motion = s.motion := by
  unfold State.answer; simp
@[simp] theorem State.answer_cam (x : Cmd) (op : Byte) (st : Code) (r : BitVec 40) : (s.answer x op st r).cam = s.cam := by
  unfold State.answer; simp
@[simp] theorem State.answer_health (x : Cmd) (op : Byte) (st : Code) (r : BitVec 40) : (s.answer x op st r).health = s.health := by
  unfold State.answer; simp
@[simp] theorem State.answer_lanes (x : Cmd) (op : Byte) (st : Code) (r : BitVec 40) : (s.answer x op st r).lanes = s.lanes := by
  unfold State.answer; simp
@[simp] theorem State.answer_pair (x : Cmd) (op : Byte) (st : Code) (r : BitVec 40) : (s.answer x op st r).pair = s.pair := by
  unfold State.answer; simp
@[simp] theorem State.answer_time (x : Cmd) (op : Byte) (st : Code) (r : BitVec 40) : (s.answer x op st r).time = s.time := by
  unfold State.answer; simp
@[simp] theorem State.answer_sec (x : Cmd) (op : Byte) (st : Code) (r : BitVec 40) : (s.answer x op st r).sec = s.sec := by
  unfold State.answer; simp
@[simp] theorem State.answer_dram (x : Cmd) (op : Byte) (st : Code) (r : BitVec 40) : (s.answer x op st r).dram = s.dram := by
  unfold State.answer; simp
@[simp] theorem State.answer_sys (x : Cmd) (op : Byte) (st : Code) (r : BitVec 40) : (s.answer x op st r).sys = s.sys := by
  unfold State.answer; simp
@[simp] theorem State.answer_draws (x : Cmd) (op : Byte) (st : Code) (r : BitVec 40) : (s.answer x op st r).draws = s.draws := by
  unfold State.answer; simp

/-! ### Between steps -/

/-- At the end of a step no event waits (R647). -/
@[simp] theorem State.settle_batch : s.settle.host.batch = [] := rfl

/-- Every outcome of done is a next state with no event waiting. -/
theorem State.done_batch (t : State) (h : s.done = .next t) : t.host.batch = [] := by
  have : s.settle = t := Host.Outcome.next.inj h
  rw [← this]; rfl

/-- A state without waiting events is settled. -/
theorem State.settle_quiet (h : s.host.batch = []) : s.settle = s := by
  have hf : s.flush = s := by unfold State.flush; split <;> simp_all
  unfold State.settle
  rw [hf]
  cases s with
  | mk p ho => cases ho; simp_all

end Sys2Proof.Machine
end

