-- ==== Sys2Proof/Laws/Command.lean ====
section
/-!
SUPPORT. What the course of a command does, said once: a command that runs has its own effect and gives its response; one that fails
a check of R536 gives that check's status and nothing else.
-/

namespace Sys2Proof.Machine

variable (s : State) (c : Cmd)

/-- Leaving the channel's storage changes the channels only. -/
theorem State.start_cases : s.start c = s ∨ (∃ n f, s.start c = s.setChan n f) ∨ (∃ n f, s.start c = s.setFabChan n f) := by
  unfold State.start
  split
  · exact Or.inr (Or.inl ⟨_, _, rfl⟩)
  · exact Or.inr (Or.inr ⟨_, _, rfl⟩)
  · exact Or.inl rfl

theorem State.start_keeps {α : Type} (π : State → α) (h1 : ∀ n f, π (s.setChan n f) = π s) (h2 : ∀ n f, π (s.setFabChan n f) = π s) :
    π (s.start c) = π s := by
  rcases s.start_cases c with h | ⟨n, f, h⟩ | ⟨n, f, h⟩ <;> rw [h]
  · exact h1 n f
  · exact h2 n f

@[simp] theorem State.start_pending : (s.start c).pending = s.pending :=
  s.start_keeps c State.pending (fun _ _ => rfl) (fun _ _ => rfl)
@[simp] theorem State.start_store : (s.start c).store = s.store :=
  s.start_keeps c State.store (fun _ _ => rfl) (fun _ _ => rfl)
@[simp] theorem State.start_print : (s.start c).print = s.print :=
  s.start_keeps c State.print (fun _ _ => rfl) (fun _ _ => rfl)
@[simp] theorem State.start_eng : (s.start c).eng = s.eng :=
  s.start_keeps c State.eng (fun _ _ => rfl) (fun _ _ => rfl)
@[simp] theorem State.start_mapper : (s.start c).mapper = s.mapper :=
  s.start_keeps c State.mapper (fun _ _ => rfl) (fun _ _ => rfl)
@[simp] theorem State.start_cist : (s.start c).cist = s.cist :=
  s.start_keeps c State.cist (fun _ _ => rfl) (fun _ _ => rfl)
@[simp] theorem State.start_gov : (s.start c).gov = s.gov :=
  s.start_keeps c State.gov (fun _ _ => rfl) (fun _ _ => rfl)
@[simp] theorem State.start_sluice : (s.start c).sluice = s.sluice :=
  s.start_keeps c State.sluice (fun _ _ => rfl) (fun _ _ => rfl)
@[simp] theorem State.start_heads : (s.start c).heads = s.heads :=
  s.start_keeps c State.heads (fun _ _ => rfl) (fun _ _ => rfl)
@[simp] theorem State.start_enc : (s.start c).enc = s.enc :=
  s.start_keeps c State.enc (fun _ _ => rfl) (fun _ _ => rfl)
@[simp] theorem State.start_motion : (s.start c).motion = s.motion :=
  s.start_keeps c State.motion (fun _ _ => rfl) (fun _ _ => rfl)
@[simp] theorem State.start_cam : (s.start c).cam = s.cam :=
  s.start_keeps c State.cam (fun _ _ => rfl) (fun _ _ => rfl)
@[simp] theorem State.start_health : (s.start c).health = s.health :=
  s.start_keeps c State.health (fun _ _ => rfl) (fun _ _ => rfl)
@[simp] theorem State.start_lanes : (s.start c).lanes = s.lanes :=
  s.start_keeps c State.lanes (fun _ _ => rfl) (fun _ _ => rfl)
@[simp] theorem State.start_pair : (s.start c).pair = s.pair :=
  s.start_keeps c State.pair (fun _ _ => rfl) (fun _ _ => rfl)
@[simp] theorem State.start_time : (s.start c).time = s.time :=
  s.start_keeps c State.time (fun _ _ => rfl) (fun _ _ => rfl)
@[simp] theorem State.start_sec : (s.start c).sec = s.sec :=
  s.start_keeps c State.sec (fun _ _ => rfl) (fun _ _ => rfl)
@[simp] theorem State.start_dram : (s.start c).dram = s.dram :=
  s.start_keeps c State.dram (fun _ _ => rfl) (fun _ _ => rfl)
@[simp] theorem State.start_sys : (s.start c).sys = s.sys :=
  s.start_keeps c State.sys (fun _ _ => rfl) (fun _ _ => rfl)
@[simp] theorem State.start_sent : (s.start c).sent = s.sent :=
  s.start_keeps c State.sent (fun _ _ => rfl) (fun _ _ => rfl)
@[simp] theorem State.start_draws : (s.start c).draws = s.draws :=
  s.start_keeps c State.draws (fun _ _ => rfl) (fun _ _ => rfl)
@[simp] theorem State.start_busMaster : (s.start c).host.busMaster = s.host.busMaster :=
  s.start_keeps c (fun t => t.host.busMaster) (fun _ _ => rfl) (fun _ _ => rfl)

/-! A reply leaves the blocks alone but for the queues of the channels. -/

@[simp] theorem State.reply_pending (op : Byte) (st : Code) (r : BitVec 40) : (s.reply c op st r).pending = s.pending := by
  unfold State.reply; simp
@[simp] theorem State.reply_print (op : Byte) (st : Code) (r : BitVec 40) : (s.reply c op st r).print = s.print := by
  unfold State.reply; simp
@[simp] theorem State.reply_eng (op : Byte) (st : Code) (r : BitVec 40) : (s.reply c op st r).eng = s.eng := by
  unfold State.reply; simp
@[simp] theorem State.reply_mapper (op : Byte) (st : Code) (r : BitVec 40) : (s.reply c op st r).mapper = s.mapper := by
  unfold State.reply; simp
@[simp] theorem State.reply_cist (op : Byte) (st : Code) (r : BitVec 40) : (s.reply c op st r).cist = s.cist := by
  unfold State.reply; simp
@[simp] theorem State.reply_gov (op : Byte) (st : Code) (r : BitVec 40) : (s.reply c op st r).gov = s.gov := by
  unfold State.reply; simp
@[simp] theorem State.reply_sluice (op : Byte) (st : Code) (r : BitVec 40) : (s.reply c op st r).sluice = s.sluice := by
  unfold State.reply; simp
@[simp] theorem State.reply_heads (op : Byte) (st : Code) (r : BitVec 40) : (s.reply c op st r).heads = s.heads := by
  unfold State.reply; simp
@[simp] theorem State.reply_enc (op : Byte) (st : Code) (r : BitVec 40) : (s.reply c op st r).enc = s.enc := by
  unfold State.reply; simp
@[simp] theorem State.reply_motion (op : Byte) (st : Code) (r : BitVec 40) : (s.reply c op st r).motion = s.motion := by
  unfold State.reply; simp
@[simp] theorem State.reply_cam (op : Byte) (st : Code) (r : BitVec 40) : (s.reply c op st r).cam = s.cam := by
  unfold State.reply; simp
@[simp] theorem State.reply_health (op : Byte) (st : Code) (r : BitVec 40) : (s.reply c op st r).health = s.health := by
  unfold State.reply; simp
@[simp] theorem State.reply_lanes (op : Byte) (st : Code) (r : BitVec 40) : (s.reply c op st r).lanes = s.lanes := by
  unfold State.reply; simp
@[simp] theorem State.reply_pair (op : Byte) (st : Code) (r : BitVec 40) : (s.reply c op st r).pair = s.pair := by
  unfold State.reply; simp
@[simp] theorem State.reply_time (op : Byte) (st : Code) (r : BitVec 40) : (s.reply c op st r).time = s.time := by
  unfold State.reply; simp
@[simp] theorem State.reply_sec (op : Byte) (st : Code) (r : BitVec 40) : (s.reply c op st r).sec = s.sec := by
  unfold State.reply; simp
@[simp] theorem State.reply_dram (op : Byte) (st : Code) (r : BitVec 40) : (s.reply c op st r).dram = s.dram := by
  unfold State.reply; simp
@[simp] theorem State.reply_sys (op : Byte) (st : Code) (r : BitVec 40) : (s.reply c op st r).sys = s.sys := by
  unfold State.reply; simp
@[simp] theorem State.reply_draws (op : Byte) (st : Code) (r : BitVec 40) : (s.reply c op st r).draws = s.draws := by
  unfold State.reply; simp

/-- The checks of R536 read nothing that the start of a command changes. -/
@[simp] theorem State.precheck_start (x : Cmd) (op : Byte) (d sec : Bool) :
    (s.start c).precheck op d sec x = s.precheck op d sec x := by
  simp [State.precheck, State.secureExempt, State.standbyRefuses, State.noClaim]

/-- A power state that gates nothing a command needs is not left. -/
@[simp] theorem State.wakeFor_other (op : Byte) (h : needsGated op = false) : s.wakeFor op = s := by
  simp [State.wakeFor, h]

/-- A running command: its own effect, then its response, or none yet (kind L, R537). -/
theorem runCommand_runs {op : Byte} {d sec : Bool} (f : Cmd → State → State × Option Resp) (h : Runs s op d sec c) :
    runCommand op d sec f c s = match (f c (s.begun op c)).2 with
      | none => (f c (s.begun op c)).1
      | some (st, r) => (f c (s.begun op c)).1.answer c op st r := by
  have hd : (s.sys.power == Power.dormant && !servedDormant op) = false := by
    by_cases hp : s.sys.power = Power.dormant
    · simp [h.awake hp]
    · have : (s.sys.power == Power.dormant) = false := by simpa using hp
      simp [this]
  have hg : guardObjects op f c ((s.start c).wakeFor op) = f c (s.begun op c) := by
    have hr := h.readable
    unfold State.lostReads at hr
    unfold guardObjects State.begun
    split
    · next ho => rw [if_pos ho] at hr; simp only [hr]
    · rfl
  unfold runCommand
  simp only [h.live, h.serves, hd, State.precheck_start, h.admitted, hg, Bool.not_true, Bool.false_eq_true,
    if_false, Bool.or_self]
  first | done | rfl

/-- A command that fails a check of R536 has no effect but the answer. -/
theorem runCommand_refused {op : Byte} {d sec : Bool} (f : Cmd → State → State × Option Resp) {st : Code} {r : BitVec 40}
    (hl : s.live c.origin = true) (hs : s.serves = true) (hd : s.sys.power = .dormant → servedDormant op = true)
    (hp : s.precheck op d sec c = some (st, r)) : runCommand op d sec f c s = (s.start c).answer c op st r := by
  have hd : (s.sys.power == Power.dormant && !servedDormant op) = false := by
    by_cases hp : s.sys.power = Power.dormant
    · simp [hd hp]
    · have : (s.sys.power == Power.dormant) = false := by simpa using hp
      simp [this]
  unfold runCommand
  simp only [hl, hs, hd, State.precheck_start, hp, Bool.not_true, Bool.false_eq_true, if_false, Bool.or_self]

/-- A running command that nothing gates and that reads nothing of the page store begins where it left its channel's storage. -/
theorem State.begun_other {op : Byte} (h : (needsGated op || readsObjects op) = false) : s.begun op c = s.start c := by
  rw [Bool.or_eq_false_iff] at h
  simp only [State.begun, State.wakeFor_other _ _ h.1, h.2, Bool.false_eq_true, if_false]

/-- A running command that reads the page store, of which it meets no burst with errors, begins where it left its channel's storage. -/
theorem State.begun_clean {op : Byte} (h : needsGated op = false) (h3 : regionReads 3 c.reads = []) (h5 : regionReads 5 c.reads = []) :
    s.begun op c = s.start c := by
  simp only [State.begun, State.wakeFor_other _ _ h, h3, h5]
  split <;> rfl

/-- A running command that reads the page store and loses a burst answers DRAM_ERROR (R587, R597). -/
theorem runCommand_lost {op : Byte} {d sec : Bool} (f : Cmd → State → State × Option Resp) {b : BitVec 30} {bs : List (BitVec 30)}
    (hl : s.live c.origin = true) (hs : s.serves = true) (hd : s.sys.power = .dormant → servedDormant op = true)
    (hp : s.precheck op d sec c = none) (h : s.lostReads op c = b :: bs) :
    runCommand op d sec f c s = (s.begun op c).answer c op .dramError (low40 (burstResult b)) := by
  have hd : (s.sys.power == Power.dormant && !servedDormant op) = false := by
    by_cases hp : s.sys.power = Power.dormant
    · simp [hd hp]
    · have : (s.sys.power == Power.dormant) = false := by simpa using hp
      simp [this]
  have hg : guardObjects op f c ((s.start c).wakeFor op) = (s.begun op c, resp .dramError (burstResult b)) := by
    unfold State.lostReads at h
    unfold guardObjects State.begun
    split
    · next ho => rw [if_pos ho] at h; simp only [h]
    · next ho => rw [if_neg ho] at h; cases h
  unfold runCommand
  simp only [hl, hs, hd, State.precheck_start, hp, hg, Bool.not_true, Bool.false_eq_true, if_false, Bool.or_self]
  rfl

/-! A running command begins with what it does of its own unchanged: only its channel's storage, the power state, the DRAM counters and
their events have moved. -/

/-- Waking changes the power state and its event only (R614). -/
theorem State.wakeFor_keeps {α : Type} (π : State → α) (h1 : ∀ (t : State) p, π { t with sys := { t.sys with power := p } } = π t)
    (h2 : ∀ (t : State) b, π { t with host := { t.host with batch := b } } = π t) (op : Byte) : π (s.wakeFor op) = π s := by
  unfold State.wakeFor
  split
  · exact (State.raise_keeps _ π h2 _ _).trans (h1 _ _)
  · rfl

@[simp] theorem State.begun_pending (op : Byte) : (s.begun op c).pending = s.pending := by
  have h := (s.start c).wakeFor_keeps State.pending (fun _ _ => rfl) (fun _ _ => rfl) op
  simp only [State.begun]
  split <;> simp [h]
@[simp] theorem State.begun_store (op : Byte) : (s.begun op c).store = s.store := by
  have h := (s.start c).wakeFor_keeps State.store (fun _ _ => rfl) (fun _ _ => rfl) op
  simp only [State.begun]
  split <;> simp [h]
@[simp] theorem State.begun_print (op : Byte) : (s.begun op c).print = s.print := by
  have h := (s.start c).wakeFor_keeps State.print (fun _ _ => rfl) (fun _ _ => rfl) op
  simp only [State.begun]
  split <;> simp [h]
@[simp] theorem State.begun_eng (op : Byte) : (s.begun op c).eng = s.eng := by
  have h := (s.start c).wakeFor_keeps State.eng (fun _ _ => rfl) (fun _ _ => rfl) op
  simp only [State.begun]
  split <;> simp [h]
@[simp] theorem State.begun_mapper (op : Byte) : (s.begun op c).mapper = s.mapper := by
  have h := (s.start c).wakeFor_keeps State.mapper (fun _ _ => rfl) (fun _ _ => rfl) op
  simp only [State.begun]
  split <;> simp [h]
@[simp] theorem State.begun_cist (op : Byte) : (s.begun op c).cist = s.cist := by
  have h := (s.start c).wakeFor_keeps State.cist (fun _ _ => rfl) (fun _ _ => rfl) op
  simp only [State.begun]
  split <;> simp [h]
@[simp] theorem State.begun_gov (op : Byte) : (s.begun op c).gov = s.gov := by
  have h := (s.start c).wakeFor_keeps State.gov (fun _ _ => rfl) (fun _ _ => rfl) op
  simp only [State.begun]
  split <;> simp [h]
@[simp] theorem State.begun_sluice (op : Byte) : (s.begun op c).sluice = s.sluice := by
  have h := (s.start c).wakeFor_keeps State.sluice (fun _ _ => rfl) (fun _ _ => rfl) op
  simp only [State.begun]
  split <;> simp [h]
@[simp] theorem State.begun_heads (op : Byte) : (s.begun op c).heads = s.heads := by
  have h := (s.start c).wakeFor_keeps State.heads (fun _ _ => rfl) (fun _ _ => rfl) op
  simp only [State.begun]
  split <;> simp [h]
@[simp] theorem State.begun_enc (op : Byte) : (s.begun op c).enc = s.enc := by
  have h := (s.start c).wakeFor_keeps State.enc (fun _ _ => rfl) (fun _ _ => rfl) op
  simp only [State.begun]
  split <;> simp [h]
@[simp] theorem State.begun_motion (op : Byte) : (s.begun op c).motion = s.motion := by
  have h := (s.start c).wakeFor_keeps State.motion (fun _ _ => rfl) (fun _ _ => rfl) op
  simp only [State.begun]
  split <;> simp [h]
@[simp] theorem State.begun_cam (op : Byte) : (s.begun op c).cam = s.cam := by
  have h := (s.start c).wakeFor_keeps State.cam (fun _ _ => rfl) (fun _ _ => rfl) op
  simp only [State.begun]
  split <;> simp [h]
@[simp] theorem State.begun_health (op : Byte) : (s.begun op c).health = s.health := by
  have h := (s.start c).wakeFor_keeps State.health (fun _ _ => rfl) (fun _ _ => rfl) op
  simp only [State.begun]
  split <;> simp [h]
@[simp] theorem State.begun_lanes (op : Byte) : (s.begun op c).lanes = s.lanes := by
  have h := (s.start c).wakeFor_keeps State.lanes (fun _ _ => rfl) (fun _ _ => rfl) op
  simp only [State.begun]
  split <;> simp [h]
@[simp] theorem State.begun_pair (op : Byte) : (s.begun op c).pair = s.pair := by
  have h := (s.start c).wakeFor_keeps State.pair (fun _ _ => rfl) (fun _ _ => rfl) op
  simp only [State.begun]
  split <;> simp [h]
@[simp] theorem State.begun_time (op : Byte) : (s.begun op c).time = s.time := by
  have h := (s.start c).wakeFor_keeps State.time (fun _ _ => rfl) (fun _ _ => rfl) op
  simp only [State.begun]
  split <;> simp [h]
@[simp] theorem State.begun_sec (op : Byte) : (s.begun op c).sec = s.sec := by
  have h := (s.start c).wakeFor_keeps State.sec (fun _ _ => rfl) (fun _ _ => rfl) op
  simp only [State.begun]
  split <;> simp [h]
@[simp] theorem State.begun_sent (op : Byte) : (s.begun op c).sent = s.sent := by
  have h := (s.start c).wakeFor_keeps State.sent (fun _ _ => rfl) (fun _ _ => rfl) op
  simp only [State.begun]
  split <;> simp [h]

/-- A running command that is answered at once. -/
theorem command_reply {op : Byte} {d sec : Bool} {f : Cmd → State → State × Option Resp} {t : State} {st : Code} {r : BitVec 40}
    (h : Runs s op d sec c) (hf : f c (s.begun op c) = (t, some (st, r))) :
    (runCommand op d sec f c s).done = .next (t.reply c op st r) := by
  rw [runCommand_runs s c f h, hf]
  rfl

/-- A running command that is answered later (kind L). -/
theorem command_waits {op : Byte} {d sec : Bool} {f : Cmd → State → State × Option Resp} {t : State}
    (h : Runs s op d sec c) (hf : f c (s.begun op c) = (t, none)) : (runCommand op d sec f c s).done = .next t.settle := by
  rw [runCommand_runs s c f h, hf]
  rfl

/-- A block that the buffer takes is written, padded to 64 bytes, and answered with its length (R538). -/
theorem State.writeResult_writes {i : Nat} {ws : List Word} (h : Writes c i ws) :
    s.writeResult c i ws = (s.emit (.hostWrite (c.dw i) (pad64 ws)), resp .ok (blockBytes ws)) := by
  have hr := h.room
  simp [State.writeResult, State.writeBlock, h.aligned, h.written, Nat.not_lt.mpr hr]

end Sys2Proof.Machine
end

