-- ==== Sys2Proof/Machine/Package.lean ====
section
/-!
DEFINITION. The ball map of the package (R639 to R643 of 23_electrical_and_package.md). No command reads it; it says which ball carries
which pin or supply.
-/

namespace Sys2Proof.Machine

/-- Row letter codes, from the edge of ball A1 (R639). -/
def ballRows : List String :=
  ["A", "B", "C", "D", "E", "F", "G", "H", "J", "K", "L", "M", "N", "P", "T", "U", "V", "W", "Y"] ++
  ["AA", "AB", "AC", "AD", "AE", "AF", "AG", "AH", "AJ", "AK", "AL", "AM", "AN", "AP", "AT", "AU", "AV", "AW", "AY"] ++
  ["BA", "BB", "BC", "BD", "BE", "BF", "BG"]

/-- Row index ρ of a letter code (R639). -/
def ballRow (r : String) : Nat := ballRows.findIdx (fun x => x == r)

/-- What a ball carries. -/
inductive Ball where
  /-- a lane's ball: transmitter or receiver, P or N (R641) -/
  | lane (n : Nat) (tx positive : Bool)
  /-- a DDR signal of a channel and subchannel, without the prefix DDRcs_ (R642) -/
  | ddr (channel : Nat) (subB : Bool) (signal : String)
  /-- a signal of a corner region (R643) -/
  | signal (name : String)
  /-- a supply, or GND (R640) -/
  | supply (name : String)
  /-- not connected (R642) -/
  | nc
deriving DecidableEq, Repr

/-- A name with a number behind it. -/
def numbered (name : String) (n : Nat) : String := name ++ toString n

/-- A lane's ball in an even column of the lane regions: the first lane of the group, transmitter or receiver, P or N (R641). -/
def laneBall (row col : Nat) : Option Ball :=
  let q := (col - 6) / 2
  let at_ (base : Nat) (tx p : Bool) : Option Ball := some (.lane (base + q) tx p)
  match row with
  | 1 => at_ 0 true true | 2 => at_ 0 true false | 4 => at_ 0 false true | 5 => at_ 0 false false
  | 7 => at_ 16 true true | 8 => at_ 16 true false | 10 => at_ 16 false true | 11 => at_ 16 false false
  | 43 => at_ 32 true true | 42 => at_ 32 true false | 40 => at_ 32 false true | 39 => at_ 32 false false
  | 37 => at_ 48 true true | 36 => at_ 48 true false | 34 => at_ 48 false true | 33 => at_ 48 false false
  | _ => none

/-- A ball of the lane regions, columns 5 to 37 (R640, R641). -/
def laneRegion (row col : Nat) : Ball :=
  if row = 0 ∨ row = 44 then .supply "VDDH_SD"
  else if row = 12 ∨ row = 32 then .supply "VDD_SD"
  else if col % 2 = 1 then .supply "GND"
  else (laneBall row col).getD (.supply "GND")

/-- Signal k of a subchannel (R642); none is NC. -/
def ddrSignal (subB : Bool) (k : Nat) : Option String :=
  if k < 50 then
    let b := k / 10
    let m := k % 10
    if m = 8 then some (numbered "DQS" b ++ "_P")
    else if m = 9 then some (numbered "DQS" b ++ "_N")
    else if b = 4 then some (numbered "CB" m)
    else some (numbered "DQ" (8 * b + m))
  else if k < 64 then some (numbered "CA" (k - 50))
  else match k with
    | 64 => some "CK_P" | 65 => some "CK_N" | 66 => some "CS0_N" | 67 => some "CS1_N" | 68 => some "ALERT_N"
    | 69 => if subB then none else some "RESET_N"
    | _ => none

/-- A ball of the DDR blocks, rows P to AN (R642). -/
def ddrRegion (row col : Nat) : Ball :=
  let sc (channel : Nat) (subB : Bool) (c0 : Nat) : Ball :=
    if col = c0 then .supply "VDDQ"
    else if col = c0 + 5 then .supply "GND"
    else match ddrSignal subB (4 * (row - 13) + (col - c0) - 1) with
      | some n => .ddr channel subB n
      | none => .nc
  if col ≤ 6 then sc 0 false 1 else if col ≤ 12 then sc 0 true 7 else if col ≤ 39 then sc 1 false 34 else sc 1 true 40

/-- A ball of the core region, rows P to AN (R640). -/
def coreRegion (row col : Nat) : Ball :=
  if col = 23 ∧ (row = 17 ∨ row = 18) then .supply "VDD_MRAM"
  else if (row + col) % 2 = 0 then .supply "GND"
  else if col = 13 ∨ col = 33 then .supply "VDD_SRAM"
  else .supply "VDD_CORE"

/-- Names of the signals in neighbouring columns, from a column on. -/
def fromCol (c0 col : Nat) (names : List String) : Option String := if col < c0 then none else names[col - c0]?

/-- The pins of an encoder interface in columns 38, 39, 41, 42, 44 and 45 (R643). -/
def encPins (col : Nat) (names : List String) : Option String :=
  match col with
  | 38 => names[0]? | 39 => names[1]? | 41 => names[2]? | 42 => names[3]? | 44 => names[4]? | 45 => names[5]? | _ => none

/-- Inputs and relay outputs of an encoder interface (R643). -/
def encInputs (k : Nat) : List String := ["A_P", "A_N", "B_P", "B_N", "IDX_P", "IDX_N"].map (fun x => numbered "ENC" k ++ "_" ++ x)

/-- The relay outputs (R643). -/
def encOutputs (k : Nat) : List String :=
  ["OUT_A_P", "OUT_A_N", "OUT_B_P", "OUT_B_N", "OUT_I_P", "OUT_I_N"].map (fun x => numbered "ENC" k ++ "_" ++ x)

/-- The pins of an axis, from column 38 on (R643). -/
def axisPins (n : Nat) : List String :=
  ["A_PH", "A_EN", "B_PH", "B_EN", "A_SNS_P", "A_SNS_N", "B_SNS_P", "B_SNS_N"].map (fun x => numbered "AX" n ++ "_" ++ x)

/-- Two digits. -/
def twoDigits (n : Nat) : String := if n < 10 then "0" ++ toString n else toString n

/-- The signal of a corner ball, if it carries one (R643). -/
def cornerSignal (row col : Nat) : Option String :=
  match row with
  | 1 => if col < 38 then fromCol 2 col ["REFCLK_P", "REFCLK_N"] else encPins col (encInputs 0)
  | 3 => fromCol 2 col ["FIREREF_P", "FIREREF_N"]
  | 4 => encPins col (encInputs 1)
  | 5 => fromCol 2 col ["SYSCLK"]
  | 7 => if col < 38 then fromCol 1 col ["CXPU0", "CXPU1", "CXPU2", "CXPU3"] else encPins col (encOutputs 0)
  | 9 => fromCol 1 col ["QSPI_CLK", "QSPI_CS_N", "QSPI_IO0", "QSPI_IO1"]
  | 10 => if col < 38 then fromCol 1 col ["QSPI_IO2", "QSPI_IO3"] else encPins col (encOutputs 1)
  | 11 => fromCol 1 col ["TCK", "TMS", "TDI", "TDO"]
  | 12 => fromCol 1 col ["TRST_N"]
  | 32 => if col < 38 then fromCol 1 col ["PTRIG0", "PTRIG1", "PTRIG2", "PTRIG3"] else fromCol 38 col (axisPins 0)
  | 33 => fromCol 38 col (axisPins 1)
  | 34 => if col < 38 then fromCol 1 col ["MARK_MISS0", "MARK_MISS1", "MARK_MISS2", "MARK_MISS3"] else fromCol 38 col (axisPins 2)
  | 35 => fromCol 38 col (axisPins 3)
  | 36 => fromCol 1 col ["SPDLIM", "HOLD_REQ"]
  | 37 => fromCol 1 col ["PPS_IN", "PPS_OUT"]
  | 38 => if col < 38 then none else some ("SW" ++ twoDigits (col - 38))
  | 40 => if col < 38 then fromCol 1 col ["RESET_N", "PERST_N", "FAULT_N"] else some ("SW" ++ twoDigits (col - 30))
  | _ => none

/-- A ball of a corner region: its signal, or the bank's supply and GND in turn (R640). -/
def cornerRegion (row col : Nat) : Ball :=
  match cornerSignal row col with
  | some n => .signal n
  | none =>
    if (row + col) % 2 = 0 then .supply "GND"
    else if 32 ≤ row then .supply "VDDIO33"
    else if col < 5 then .supply "VDDIO18" else .supply "VDDA"

/-- What the ball at a row index, 0 to 44, and a column, 1 to 45, carries (R640). -/
def ballAt (row col : Nat) : Ball :=
  if row < 13 ∨ 31 < row then (if 5 ≤ col ∧ col ≤ 37 then laneRegion row col else cornerRegion row col)
  else if col ≤ 12 ∨ 34 ≤ col then ddrRegion row col
  else coreRegion row col

end Sys2Proof.Machine
end

