-- ==== Sys2Proof/Tests/Fixtures.lean ====
section
/-! SUPPORT. Small states and commands that the tests build on. -/

namespace Sys2Proof.Machine

/-- Right after boot: stage READY, with nothing else changed from reset (R608). -/
def ready : State := { State.reset with sys := { State.reset.sys with stage := 7 } }

/-- Right after boot, with an image that runs and a board record (R407, R557). -/
def booted : State := { ready with sys := { ready.sys with
  board := some {}, image := some { minor := 4, major := 2, svn := 1, commit := false, slot := false, kernelSet := 1 }, kernelSet := 1 } }

/-- The device prints. -/
def printing : State := { booted with print := { booted.print with started := true } }

/-- The next state of a command, where it answers one, satisfies a check. -/
def after (i : Instr) (s : State) (p : State → Bool) : Bool := match exec i s with | .next t => p t | _ => false

/-- The last word queued on channel 0. -/
def last0 (t : State) : Option Word := t.host.channels[(0 : Chan)].outQ.getLast?

/-- A result buffer of n bytes at address 64, as two docket words (R538). -/
def buffer (n : Nat) : List Word := [64, BitVec.ofNat 64 n]

/-- An immediate command word from channel 0 in its first session. -/
def word0 (arg : BitVec 48) : Cmd := { origin := .host 0 0, tag := 5, arg := arg }

/-- A command with a docket from channel 0 in its first session. -/
def docket0 (ws : List Word) : Cmd := { origin := .host 0 0, tag := 5, docketFlag := true, docket := ws }

/-- A secure command, in a parcel under the session key of channel 0. -/
def secure0 (arg : BitVec 48) : Cmd := { origin := .parcel (.session 0), tag := 5, arg := arg }

/-- A secure command with a docket, in a parcel under the session key of channel 0. -/
def secureDocket0 (ws : List Word) : Cmd := { origin := .parcel (.session 0), tag := 5, docketFlag := true, docket := ws }

theorem runs_of {s : State} {op : Byte} {d sec : Bool} {c : Cmd}
    (h : (s.live c.origin && s.serves && (s.sys.power != .dormant || servedDormant op) && (s.precheck op d sec c).isNone &&
      (s.lostReads op c).isEmpty) = true) : Runs s op d sec c := by
  simp only [Bool.and_eq_true, Bool.or_eq_true, bne_iff_ne, ne_eq, Option.isNone_iff_eq_none, List.isEmpty_iff] at h
  obtain ⟨⟨⟨⟨h1, h2⟩, h3⟩, h4⟩, h5⟩ := h
  refine ⟨h1, h2, fun e => ?_, h4, h5⟩
  rcases h3 with h3 | h3
  · exact absurd e h3
  · exact h3

end Sys2Proof.Machine
end

