-- ==== Sys2Proof/Tests/PageTests.lean ====
section
/-!
SUPPORT. Witnesses of the statements about pages, print start and stop, settings and parcels, and small steps of those commands.
-/

namespace Sys2Proof.Machine

set_option maxRecDepth 20000
set_option Elab.async false

/-- A page of 64 lines that refers to no layer. -/
def desc7 : PageDesc :=
  { id := 7, length := 64, mode := 0, carriage := false, reverse := false, gap := 0, serialised := false, checkStrip := false
    inspect := false, holdAbort := false, slot := 0, hostTag := 0, refs := [] }

/-- A page of desc7 in a state. -/
def stored (st : PageState) : State := { booted with store := { booted.store with pages := [{ desc := desc7, state := st }] } }

/-- A queue entry of a page of desc7. -/
def entry7 : QEntry := { desc := desc7, rate := 1000, commitLine := none, start := none, bound := none, held := none, serial := none }

/-- Page 7 is committed. -/
def committed : State := { stored .committed with print := { booted.print with queue := [entry7] } }

/-- Page 7 is printing from line 96, and line 100 has been allocated. -/
def onPage : State :=
  { stored .printing with
    print := { booted.print with
      started := true
      span := some { desc := desc7, fallback := false, first := 96, last := 159, trailing := 159, abort := none, trig := none
                     defects := [], notKept := 0, interrupted := false, codeFired := false } }
    sluice := { booted.sluice with barLine := 100 } }

theorem witness_commit : Runs (stored .ready) 0x10 false false (word0 7) ∧ (word0 7).arg.getLsbD 32 = false ∧
    (stored .ready).store.page 7 = some { desc := desc7, state := .ready } ∧ (stored .ready).print.fallback = none ∧
    ((List.range 16).all (fun k => decide ((stored .ready).layerCount desc7 k ≤ 32))) = true ∧
    (stored .ready).print.queue.length < 1024 ∧ (stored .ready).slotShort desc7 = false ∧ (stored .ready).print.queue = [] ∧
    (((stored .ready).begun 0x10 (word0 7)).readBursts
      (((stored .ready).begun 0x10 (word0 7)).commitReads { desc := desc7, state := .ready } [])).2 = [] :=
  ⟨runs_of (by decide), by decide, rfl, rfl, by decide, by decide, by decide, rfl, by decide⟩
theorem witness_commit_sched : Runs { stored .ready with time := { booted.time with triggers := upd booted.time.triggers 2 (fun t =>
      { t with armed := true }) } } 0x10 false false (word0 0x500000007) ∧ (word0 0x500000007).arg.getLsbD 32 = true ∧
    (Fin.ofNat 8 ((word0 0x500000007).argBits 35 33)).val = 2 := ⟨runs_of (by decide), by decide, by decide⟩
theorem witness_commit_absent : Runs booted 0x10 false false (word0 7) ∧ booted.store.page 7 = none := ⟨runs_of (by decide), rfl⟩
theorem witness_commit_fallback : ({ stored .ready with print := { booted.print with fallback := some (7, 1000) } } : State).print.fallback =
    some (7, 1000) := rfl
theorem witness_commit_not_ready : (stored .committed).store.page 7 = some { desc := desc7, state := .committed } ∧
    (stored .committed).print.fallback = none := ⟨rfl, rfl⟩
/-- A stamp, and page 7 ready with n references to it. -/
def crowded (n : Nat) : State := { booted with store := { booted.store with
  layers := [{ desc := { id := 3, kind := .stamp, depth := 0, generated := false, masked := false, lines := 64, posOffset := 0
                         positions := 64, generator := 0 }, blocks := [] }]
  pages := [{ desc := { desc7 with refs := List.replicate n ⟨3, 0, 0, 0⟩ }, state := .ready }] } }
theorem witness_commit_layers : (crowded 32).layerCount { desc7 with refs := List.replicate 32 ⟨3, 0, 0, 0⟩ } 0 = 32 ∧
    (crowded 33).layerCount { desc7 with refs := List.replicate 33 ⟨3, 0, 0, 0⟩ } 0 = 33 := by decide
theorem witness_commit_full : 1024 ≤ ({ stored .ready with print := { booted.print with
    queue := List.replicate 1024 entry7 } } : State).print.queue.length := by simp
theorem witness_commit_slot : (stored .ready).slotShort { desc7 with serialised := true } = true := by decide
/-- The first burst of page 7's descriptor. -/
def burst7 : BitVec 30 := BitVec.ofNat 30 (PageEntry.base { desc := desc7, state := .ready })
/-- Page 7 is ready, and the burst of its descriptor holds poison. -/
def spoiled : State := { stored .ready with dram := { booted.dram with poisoned := [burst7] } }
theorem witness_commit_lost : ((spoiled.begun 0x10 (word0 7)).readBursts
    ((spoiled.begun 0x10 (word0 7)).commitReads { desc := desc7, state := .ready } [])).2 = [burst7] := by decide
theorem test_commit_lost : after (.pageCommit (word0 7)) spoiled (fun t => last0 t == some (responseWord 0x10 5 .dramError (low40 (burstResult burst7))) &&
  t.print.queue.isEmpty && t.dram.uncorrected == 1) = true := by decide
theorem test_commit_layers : after (.pageCommit (word0 7)) (crowded 33) (fun t => last0 t == some (responseWord 0x10 5 .layerLimit 0)) = true := by
  decide
theorem test_commit : after (.pageCommit (word0 7)) (stored .ready) (fun t => t.print.queue.map (fun q => q.desc.id) == [7] &&
  last0 t == some (responseWord 0x10 5 .ok 0) && t.store.pages.all (fun e => e.state == .committed)) = true := by decide
theorem test_commit_absent : after (.pageCommit (word0 7)) booted (fun t => last0 t == some (responseWord 0x10 5 .notFound 0)) = true := by decide

theorem witness_cancel : Runs committed 0x11 false false (word0 7) ∧
    committed.print.waitingQ.find? (fun q => q.desc.id == (word0 7).arg.setWidth 32) = some entry7 := ⟨runs_of (by decide), rfl⟩
theorem witness_delete : Runs (stored .ready) 0x12 false false (word0 7) ∧ (stored .ready).print.fallbackBusy = 0 := ⟨runs_of (by decide), rfl⟩
theorem witness_fallback_none : Runs booted 0x16 false false (word0 0) ∧ (word0 0).arg.setWidth 32 = (0 : BitVec 32) :=
  ⟨runs_of (by decide), by decide⟩
theorem witness_fallback : Runs (stored .ready) 0x16 false false (word0 7) ∧ desc7.length ≤ 64 ∧ (stored .ready).fallbackExcludes desc7 = false :=
  ⟨runs_of (by decide), by decide, by decide⟩
theorem witness_abort : Runs onPage 0x13 false false (word0 7) ∧ onPage.print.span.any (fun sp => sp.desc.id == 7 && !sp.fallback &&
    sp.abort.isNone) = true := ⟨runs_of (by decide), by decide⟩
theorem witness_aborted : ({ onPage with print := { onPage.print with span := onPage.print.span.map (fun sp =>
    { sp with abort := some 100 }) } } : State).print.span.any (fun sp => sp.abort == some 100) = true := by decide
theorem test_cancel : after (.pageCancel (word0 7)) committed (fun t => t.store.pages == [] && t.print.queue == [] &&
  t.print.ended == [⟨7, 0, .missed, [], 0⟩]) = true := by decide
theorem test_delete : after (.pageDelete (word0 7)) (stored .ready) (fun t => t.store.pages == []) = true := by decide
theorem test_fallback : after (.fallbackSet (word0 7)) (stored .ready) (fun t => (t.print.fallback.map (·.1)) == some 7) = true := by decide
theorem test_abort : after (.pageAbort (word0 7)) onPage (fun t => last0 t == some (responseWord 0x13 5 .ok 100)) = true := by decide +kernel

theorem witness_page_status : Runs committed 0x14 true false (docket0 (buffer 128)) ∧ Writes (docket0 (buffer 128)) 0 (List.replicate 10 0) :=
  ⟨runs_of (by decide), ⟨by decide, by decide, rfl⟩⟩
theorem witness_page_defects : Runs { booted with print := { booted.print with ended := [⟨7, 0, .missed, [], 0⟩] } } 0x15 true false
    (docket0 (7 :: buffer 64)) ∧ Writes (docket0 (7 :: buffer 64)) 1 [7, 0] := ⟨runs_of (by decide), ⟨by decide, by decide, rfl⟩⟩
theorem test_page_status : after (.pageStatus (docket0 (buffer 128))) committed
  (fun t => last0 t == some (responseWord 0x14 5 .ok 128)) = true := by decide
theorem test_page_status_small : after (.pageStatus (docket0 (buffer 64))) committed
  (fun t => last0 t == some (responseWord 0x14 5 .bufferSmall 128)) = true := by decide

/-! ### Print start and stop -/

/-- A map of no head, in force. -/
def emptyMap : NozzleMap :=
  { id := 1, spares := false, rollout := false, rolloutK := 0, posDir := false, pitchNm := 0, curves := [], heads := [], zones := []
    positions := [] }

/-- The field lifecycle, a map in force, and encoder 0 in digital mode. -/
def mapped : State :=
  { booted with
    mapper := { booted.mapper with inForce := some emptyMap }
    sec := { booted.sec with lifecycle := 2 }
    enc := { booted.enc with encs := upd booted.enc.encs 0 (fun e => { e with mode := .digital }) } }

theorem witness_start : Runs mapped 0x18 false false (word0 0) ∧ mapped.sys.fatal = none ∧ mapped.print.started = false ∧
    mapped.eng.kernelFail = none ∧ mapped.mapper.inForce = some emptyMap ∧ mapped.sourceOff = false ∧ mapped.leadShort emptyMap = false ∧
    emptyMap.heads = [] ∧ mapped.camNear emptyMap = false ∧ mapped.sec.lifecycle = 2 :=
  ⟨runs_of (by decide), rfl, rfl, rfl, rfl, by decide, by decide, rfl, by decide +kernel, rfl⟩
/-- A map of head port 0 with 64 nozzles in one row. -/
def headMap : NozzleMap := { emptyMap with heads := [⟨0, 64, 0, [⟨0, 0, 0, 0⟩]⟩] }
/-- That map in force, with the lane of head port 0 in a state, its λ in 125 ps and what its driver reports. -/
def headed (st : LaneSt) (lam : Option Nat) (caps : Option HeadCaps) : State := { mapped with
  mapper := { mapped.mapper with inForce := some headMap }
  lanes := { mapped.lanes with lanes := upd mapped.lanes.lanes 0 (fun l => { l with role := .head, st := st }) }
  heads := { mapped.heads with ports := upd mapped.heads.ports 0 (fun h => { h with lam := lam, caps := caps }) } }
theorem witness_start_heads : (∀ h ∈ headMap.heads, (headed .active (some 1700) (some ⟨false, false, 64, 1, 4, 0⟩)).headActive h.port = true) ∧
    (∀ h ∈ headMap.heads, (headed .active (some 1700) (some ⟨false, false, 64, 1, 4, 0⟩)).capsFault h = none) ∧
    (headed .active (some 1700) none).leadShort headMap = false ∧ (headed .active (some 1700) none).camNear headMap = false := by decide +kernel
theorem witness_start_lead : (headed .active (some 200000000) none).leadShort headMap = true ∧
    (headed .down none none).portDown headMap = some 0 ∧ (headed .down none none).leadShort headMap = false := by decide +kernel
theorem test_start_caps : after (.printStart (word0 0)) (headed .active (some 1700) (some ⟨false, false, 63, 1, 4, 0⟩))
  (fun t => last0 t == some (responseWord 0x18 5 .headCapsBad 32) && !t.print.started) = true := by decide +kernel
theorem witness_start_mode : (word0 9).argBits 3 0 < 10 ∧ 10 ≤ (word0 10).argBits 3 0 ∧ Runs mapped 0x18 false false (word0 10) :=
  ⟨by decide, by decide, runs_of (by decide)⟩
theorem test_start_reserved_mode : after (.printStart (word0 10)) mapped (fun t => last0 t == some (responseWord 0x18 5 .argBad 0) &&
  !t.print.started) = true := by decide +kernel
theorem witness_start_printing : Runs printing 0x18 false false (word0 0) ∧ printing.print.started = true := ⟨runs_of (by decide), rfl⟩
theorem witness_start_no_kernels : ({ booted with eng := { booted.eng with kernelFail := some 3 } } : State).eng.kernelFail = some 3 := rfl
theorem witness_start_no_map : booted.mapper.inForce = none ∧ booted.eng.kernelFail = none := ⟨rfl, rfl⟩
theorem witness_start_source_off : ({ mapped with enc := booted.enc } : State).sourceOff = true := by decide
theorem witness_stop : Runs onPage 0x19 false false (word0 0) ∧ Runs booted 0x19 false false (word0 0) ∧ (word0 8).arg.getLsbD 3 = true :=
  ⟨runs_of (by decide), runs_of (by decide), by decide⟩
theorem test_start : after (.printStart (word0 0x30)) mapped (fun t => t.print.started && t.print.trigMode && t.print.trigEnable == 1 &&
  last0 t == some (responseWord 0x18 5 .ok 0)) = true := by decide +kernel
theorem test_start_no_map : after (.printStart (word0 0)) booted (fun t => last0 t == some (responseWord 0x18 5 .nozzleMapAbsent 0)) = true := by
  decide
theorem test_stop_now : after (.printStop (word0 8)) onPage (fun t => !t.print.started && t.print.span.isNone) = true := by decide +kernel
theorem test_stop_stopped : after (.printStop (word0 0)) booted
  (fun t => last0 t == some (responseWord 0x19 5 .printStopped 0)) = true := by decide

/-! ### Settings -/

/-- A settings docket with one entry (R539). -/
def set0 (row index elem : Nat) (v : Word) : Cmd := docket0 [1, BitVec.ofNat 64 (row + 256 * index + 65536 * elem), v]

theorem witness_settings :
    Passes cameraTable booted (set0 10 1 0 100) [⟨10, 1, 0, 100, []⟩] ∧ Passes healthTable booted (set0 3 0 0 100) [⟨3, 0, 0, 100, []⟩] ∧
    Passes axisTable booted (set0 4 1 0 1000) [⟨4, 1, 0, 1000, []⟩] ∧ Passes encoderTable booted (set0 14 0 0 100) [⟨14, 0, 0, 100, []⟩] ∧
    Passes sluiceTable booted (set0 5 0 0 4000000) [⟨5, 0, 0, 4000000, []⟩] ∧ Passes triggerTable booted (set0 2 3 0 100) [⟨2, 3, 0, 100, []⟩] ∧
    Passes governorTable booted (set0 7 0 0 128) [⟨7, 0, 0, 128, []⟩] ∧ Passes fabricTable booted (set0 0 0 0 1) [⟨0, 0, 0, 1, []⟩] ∧
    Passes riderTable booted (set0 2 1 0 100000000) [⟨2, 1, 0, 100000000, []⟩] ∧ Passes pairTable booted (set0 0 0 0 1) [⟨0, 0, 0, 1, []⟩] ∧
    Passes timeTable booted (set0 2 0 0 10000000) [⟨2, 0, 0, 10000000, []⟩] := by
  refine ⟨?_, ?_, ?_, ?_, ?_, ?_, ?_, ?_, ?_, ?_, ?_⟩ <;> exact ⟨by decide, by decide, by decide +kernel, by decide⟩
theorem witness_settings_run : Runs booted 0x40 true false (set0 10 1 0 100) ∧ Runs booted 0x90 true false (set0 2 0 0 10000000) :=
  ⟨runs_of (by decide), runs_of (by decide)⟩
theorem witness_settings_refused : parseEntries fabricTable.isTable (set0 0 0 0 2) = some [⟨0, 0, 0, 2, []⟩] ∧
    fabricTable.check booted ⟨0, 0, 0, 2, []⟩ = some 1 := by decide
theorem witness_settings_no_entries : parseEntries fabricTable.isTable (docket0 [0]) = none ∧
    parseEntries fabricTable.isTable (docket0 (257 :: List.replicate 514 0)) = none ∧
    parseEntries fabricTable.isTable (docket0 [2, 0, 1]) = none := by decide
theorem witness_settings_whole :
    let e : Entry := ⟨7, 0, 0, 65536, []⟩
    governorTable.check booted e = none ∧
      (governorTable.whole ([e].foldl governorTable.apply (booted.start (set0 7 0 0 65536))) e).isSome = true := by decide
theorem witness_settings_busy : encoderTable.check printing ⟨0, 0, 0, 1, []⟩ = none ∧
    (encoderTable.busy printing ⟨0, 0, 0, 1, []⟩).isSome = true := by decide
theorem test_settings_refused : after (.sluiceConfig (set0 99 0 0 0)) booted
  (fun t => last0 t == some (responseWord 0x61 5 .sluiceConfigBad (low40 (2 + 256 * 99)))) = true := by decide
theorem test_fabric_config : after (.fabricConfig (set0 0 0 0 1)) booted (fun t => t.fab.eligible) = true := by decide

end Sys2Proof.Machine
end

