-- ==== Sys2Proof/Tests/CameraTests.lean ====
section
/-! SUPPORT. Witnesses of the statements about camera ports, and small steps of those commands. -/

namespace Sys2Proof.Machine

set_option maxRecDepth 20000
set_option Elab.async false

/-- Camera port 1 changed. -/
def withCam (f : CamState → CamState) : State := { booted with cam := { booted.cam with ports := upd booted.cam.ports 1 f } }

/-- A record of a frame, processed or not. -/
def record (n : Nat) (done : Bool) : StatsRec :=
  { frame := n, status := 0, words := List.replicate 8 (BitVec.ofNat 64 n), processed := done, lost := false, stripLines := [], reach := (0, 0), firstCol := 0
    page := none, uncertain := false }

/-- Port 1 has records 4 and 5 for the host, and 6 not yet processed. -/
def recorded : State := withCam (fun q => { q with stats := [record 4 true, record 5 true, record 6 false] })

/-- Tap point 2 of port 1 holds two whole frames of eight words each. -/
def tapped : State := withCam (fun q => { q with taps := upd q.taps 2 (fun c => { c with frames :=
  [(4, [List.replicate 8 1]), (5, [List.replicate 8 2])] }) })

/-! ### Commands -/

theorem witness_camera_commit : Runs booted 0x41 false false (word0 1) := runs_of (by decide)
theorem witness_stats_read : Runs recorded 0x42 true false (docket0 (1 :: buffer 64)) ∧ bufferBad ((docket0 (1 :: buffer 64)).dw 1) ((docket0 (1 :: buffer 64)).dw 2) = false ∧
    (recorded.cam.ports[camOf (bits ((docket0 (1 :: buffer 64)).dw 0) 1 0)].stats.filter (fun r => !r.lost)).takeWhile (fun r => r.processed) = [record 4 true, record 5 true] ∧
    fitting (bits ((docket0 (1 :: buffer 64)).dw 2) 31 0) [(record 4 true).words, (record 5 true).words] 0 = [(record 4 true).words] ∧
    Writes (docket0 (1 :: buffer 64)) 1 (record 4 true).words ∧ bufferBad 1 64 = true ∧
    fitting 32 [(record 4 true).words] 0 = [] := ⟨runs_of (by decide), by decide, by decide, by decide, ⟨by decide, by decide, rfl⟩, by decide, by decide⟩
theorem witness_stats_release : Runs recorded 0x43 false false (word0 0x100000004) ∧
    releaseCount [4, 5] ((word0 0x100000004).argBits 31 0) = 1 ∧ releaseCount [4, 5] ((word0 0x100000006).argBits 31 0) = 0 :=
  ⟨runs_of (by decide), by decide, by decide⟩
theorem witness_tap_read : Runs tapped 0x44 true false (docket0 (9 :: buffer 64)) ∧ tapped.poisonIn 7 = none ∧ (tapped.readBursts (regionReads 7 [])).2 = [] ∧
    Writes (docket0 (9 :: buffer 64)) 1 (List.replicate 8 1) ∧ tapped.cam.ports[(1 : CamNo)].taps[(2 : Fin 4)].frames =
      [(4, [List.replicate 8 1]), (5, [List.replicate 8 2])] := ⟨runs_of (by decide), by decide, by decide, ⟨by decide, by decide, rfl⟩, by decide⟩
theorem witness_tap_release : Runs tapped 0x45 false false (word0 0x900000005) ∧ releaseCount [4, 5] ((word0 0x900000005).argBits 31 0) = 2 ∧
    releaseCount [4, 5] ((word0 0x900000007).argBits 31 0) = 0 := ⟨runs_of (by decide), by decide, by decide⟩
theorem test_camera_commit : after (.cameraCommit (word0 1)) booted (fun t => t.cam.ports[(1 : CamNo)].gen == 1 &&
  last0 t == some (responseWord 0x41 5 .ok 1)) = true := by decide +kernel
theorem test_stats_read : after (.statsRead (docket0 (1 :: buffer 128))) recorded (fun t =>
  last0 t == some (responseWord 0x42 5 .ok 0x40002)) = true := by decide +kernel
theorem test_stats_release : after (.statsRelease (word0 0x100000005)) recorded (fun t => t.cam.ports[(1 : CamNo)].stats == [record 6 false] &&
  last0 t == some (responseWord 0x43 5 .ok 2)) = true := by decide +kernel
theorem test_tap_read : after (.tapRead (docket0 (9 :: buffer 64))) tapped (fun t => t.sent == [.hostWrite 64 (List.replicate 8 1)] &&
  last0 t == some (responseWord 0x44 5 .ok 64)) = true := by decide +kernel
theorem test_tap_release : after (.tapRelease (word0 0x900000004)) tapped
  (fun t => t.cam.ports[(1 : CamNo)].taps[(2 : Fin 4)].frames == [(5, [List.replicate 8 2])]) = true := by decide +kernel

/-! ### Links -/

/-- Port 1 in a phase of its bring-up, with a board that has camera ports. -/
def inPhase (l : CamLink) : State := withCam (fun q => { q with link := l, active := { q.active with regs := [(0x10, 7)], regCount := 1 } })

/-- What a camera reports that agrees with the reset settings. -/
def agrees : Bootstrap := ⟨true, true, .mono8, 16384⟩

theorem witness_phases : booted.camExists = true ∧ (inPhase .waitReset).cam.ports[(1 : CamNo)].link = .waitReset ∧
    (inPhase .active).cam.ports[(1 : CamNo)].writes = [] ∧
    (withCam (fun q => { q with link := .active, writes := [(2, 0x10, 7)] })).cam.ports[(1 : CamNo)].writes = [(2, 0x10, 7)] ∧ (inPhase .active).quiet ∧
    ({ booted with sys := { booted.sys with board := some { g6Fabric := true } } } : State).camExists = false ∧
    (agrees.twoLanes == (inPhase .active).cam.ports[(1 : CamNo)].direct.twoLanes && agrees.cxp12 == (inPhase .active).cam.ports[(1 : CamNo)].direct.cxp12 &&
      agrees.format == (inPhase .active).cam.ports[(1 : CamNo)].direct.format && agrees.width == (inPhase .active).cam.ports[(1 : CamNo)].direct.width) = true := by decide
theorem test_cam_reset : after (.camConnectionReset 1) (inPhase .waitReset) (fun t => t.cam.ports[(1 : CamNo)].link == .waitLock && t.sent == [.camReset 1]) = true := by
  decide +kernel
theorem test_cam_lock : after (.characterLock 1 true) (inPhase .waitLock) (fun t => t.cam.ports[(1 : CamNo)].link == .waitBootstrap) = true := by decide +kernel
theorem test_cam_no_lock : after (.characterLock 1 false) (inPhase .waitLock) (fun t => t.cam.ports[(1 : CamNo)].link == .waitReset &&
  t.cam.ports[(1 : CamNo)].downTold) = true := by decide +kernel
theorem test_cam_bootstrap : after (.camBootstrapReply 1 agrees) (inPhase .waitBootstrap) (fun t => t.cam.ports[(1 : CamNo)].link == .waitAck) = true := by
  decide +kernel
theorem test_cam_bootstrap_width : after (.camBootstrapReply 1 { agrees with width := 8192 }) (inPhase .waitBootstrap)
  (fun t => t.cam.ports[(1 : CamNo)].link == .waitReset) = true := by decide +kernel
theorem test_cam_up : after (.camWriteAck 1) (inPhase .waitAck) (fun t => t.cam.ports[(1 : CamNo)].link == .active &&
  t.cam.ports[(1 : CamNo)].writes == [(0, 0x10, 7)]) = true := by decide +kernel
theorem test_cam_write_fail : after (.camWriteFail 1 true) (withCam (fun q => { q with link := .active, writes := [(2, 0x10, 7), (2, 0x14, 7)] }))
  (fun t => t.cam.ports[(1 : CamNo)].writes.isEmpty && t.cam.ports[(1 : CamNo)].certainty == .failed) = true := by decide +kernel
theorem test_cam_lock_loss : after (.camLockLoss 1) (inPhase .active) (fun t => t.cam.ports[(1 : CamNo)].link == .waitReset) = true := by decide +kernel

/-! ### Frames -/

/-- An open frame of TIME mode with a number. -/
def frameNo (n : Nat) (full dropped : Bool) : Frame :=
  { number := n, page := none, set := {}, issued := 1, firstIm := 0, lastIm := 0, full := full, gen := 0, firstBar := 0, lines := 0, strip := [], skipped := 0
    excused := 0, uncertain := false, noExpect := false, clipped := false, resync := false, dropped := dropped, timeLeft := none, cols := [], gp := 16, p := 0 }

/-- Port 1 is ACTIVE with frame 4 open and its one trigger outstanding. -/
def open4 (full dropped : Bool) : State :=
  withCam (fun q => { q with link := .active, frames := [frameNo 4 full dropped], triggers := [⟨0, 0, some 4⟩] })

theorem witness_packet : (open4 true false).cam.ports[(1 : CamNo)].due = some (frameNo 4 true false) ∧ (inPhase .active).cam.ports[(1 : CamNo)].due = none ∧
    (frameNo 4 true false).dropped = false ∧ (frameNo 4 true true).dropped = true ∧ (open4 true false).quiet ∧
    ¬ ((⟨64, 10, false, true⟩ : StreamPacket).crcOk = true) ∧ (64 : Nat) ≤ 16384 ∧
    bucketNow (open4 true false).cam.ports[(1 : CamNo)].credit 25 25000000 0 = 25000000 := by decide +kernel
theorem witness_camera_line : (open4 true false).cam.ports[(1 : CamNo)].forgotten = 0 ∧ (open4 true false).cam.ports[(1 : CamNo)].triggers = [⟨0, 0, some 4⟩] ∧
    (open4 true false).cam.ports[(1 : CamNo)].frame 4 = some (frameNo 4 true false) ∧ (inPhase .active).cam.ports[(1 : CamNo)].triggers = [] ∧
    (open4 true false).cam.ports[(1 : CamNo)].frames = [frameNo 4 true false] ∧
    0 < (withCam (fun q => { q with link := .active, forgotten := 2 })).cam.ports[(1 : CamNo)].forgotten := by decide
/-- Port 1 with frame 4 of TIME mode waiting for two lines. -/
def timed : State := withCam (fun q => { q with link := .active, frames := [{ frameNo 4 false false with timeLeft := some 2 }] })
theorem witness_time_line : timed.cam.ports[(1 : CamNo)].frames.find? (fun f => f.timeLeft.any (fun k => decide (0 < k))) =
    some { frameNo 4 false false with timeLeft := some 2 } ∧ timed.cam.ports[(1 : CamNo)].tooSoon 0 = false ∧
    (withCam (fun q => { q with lastEdge := some 0 })).cam.ports[(1 : CamNo)].tooSoon 1 = true := by decide +kernel
/-- Tap point 2 of port 1 holds one token of a frame, and a ring of some words. -/
def token (ring : Nat) : State := withCam (fun q => { q with taps := upd q.taps 2 (fun c => { c with ring := ring, writing := [{ number := 4, held := [⟨[1, 2], false, 0⟩] }] }) })
theorem witness_token : (token 64).cam.ports[(1 : CamNo)].taps[(2 : Fin 4)].writing.find? (fun f => !f.held.isEmpty) =
    some { number := 4, held := [⟨[1, 2], false, 0⟩] } ∧ (token 64).cam.ports[(1 : CamNo)].taps[(2 : Fin 4)].used = 0 ∧ (token 64).quiet ∧
    booted.cam.ports[(1 : CamNo)].taps[(2 : Fin 4)].writing.find? (fun f => !f.held.isEmpty) = none := by decide
theorem witness_oldest : (open4 true false).cam.ports[(1 : CamNo)].oldest = some (frameNo 4 true false) ∧
    (inPhase .active).cam.ports[(1 : CamNo)].oldest = none := by decide
theorem witness_token_free : (token 64).yields = false ∧ booted.sec.exportCtx = none := by decide +kernel
theorem witness_record : recorded.cam.ports[(1 : CamNo)].stats.find? (fun r => !r.processed) = some (record 6 false) ∧
    tapped.cam.ports[(1 : CamNo)].stats.find? (fun r => !r.processed) = none := by decide
theorem test_packet_crc : after (.streamPacket 1 ⟨64, 10, false, true⟩) (open4 true false) (fun t => t.cam.ports[(1 : CamNo)].frames.isEmpty &&
  t.cam.ports[(1 : CamNo)].stats.any (fun r => r.frame == 4 && r.status == 3)) = true := by decide +kernel
theorem test_packet_forgotten : after (.streamPacket 1 ⟨64, 10, false, true⟩) (withCam (fun q => { q with
    link := .active, frames := [frameNo 4 true false], triggers := [⟨0, 0, some 4⟩], forgotten := 1 }))
  (fun t => t.cam.ports[(1 : CamNo)].frames == [frameNo 4 true false] && t.cam.ports[(1 : CamNo)].stats.isEmpty) = true := by decide +kernel
theorem test_packet_credit : after (.streamPacket 1 ⟨64, 10, true, true⟩) (open4 true false) (fun t => t.cam.ports[(1 : CamNo)].credit.1 == 24999900) = true := by
  decide +kernel
theorem test_line_unmatched : after (.cameraLine 1 [] []) (inPhase .active) (fun t => t.cam.ports[(1 : CamNo)].unmatched == 1) = true := by decide +kernel
theorem test_frame_timeout : after (.frameTimeout 1) (open4 true false) (fun t => t.cam.ports[(1 : CamNo)].frames.isEmpty &&
  t.cam.ports[(1 : CamNo)].triggers.isEmpty && t.cam.ports[(1 : CamNo)].stats.any (fun r => r.frame == 4 && r.status == 1)) = true := by decide +kernel
theorem test_time_line : after (.timeModeLine 1) timed (fun t => t.cam.ports[(1 : CamNo)].triggers.length == 1 &&
  t.cam.ports[(1 : CamNo)].frames.any (fun f => f.timeLeft == some 1)) = true := by decide +kernel
theorem test_token_stuck : after (.compressorToken (.tap 1 2)) (token 1) (fun t => t.cam.ports[(1 : CamNo)].taps[(2 : Fin 4)].stuck) = true := by decide +kernel
theorem test_token : after (.compressorToken (.tap 1 2)) (token 64) (fun t => t.cam.tapCredit.1 == 655200 &&
  t.cam.ports[(1 : CamNo)].taps[(2 : Fin 4)].used == 2) = true := by decide +kernel
theorem test_record : after (.statsRecordProcess 1) recorded (fun t => t.cam.ports[(1 : CamNo)].stats.all (fun r => r.processed)) = true := by decide +kernel

end Sys2Proof.Machine
end

