-- ==== Sys2Proof/Tests/FabricTests.lean ====
section
/-! SUPPORT. Witnesses of the statements about the fabric and redundancy, and small steps of those commands. -/

namespace Sys2Proof.Machine

set_option maxRecDepth 20000
set_option Elab.async false

/-- Fabric port 2 in a state of its lane; this node is 5, its root identity 9 lies at that port, and node 6 is reached through it. -/
def node5 (st : LaneSt) : State :=
  { booted with
    lanes := { booted.lanes with lanes := upd booted.lanes.lanes 34 (fun l => { l with role := .fabric, fitted := true, st := st }) }
    fab := { booted.fab with node := 5, id := 0x55, root := some (9, 1, some 2, 1), table := [0, 0x0000800200000000] } }

/-- A frame of frameWords. -/
def frameOf (ws : List Word) : FabFrame := ⟨wordAt ws 0, (ws.drop 1).dropLast, ws.getLastD 0⟩

/-- A GOVERNOR frame from node 6 to a node. -/
def govFrame (dest : NodeNo) : FabFrame := frameOf (frameWords 2 dest 6 [0x1005])

theorem witness_frames : (node5 .down).fabActive 2 = false ∧ (node5 .active).fabActive 2 = true ∧ (node5 .active).quiet ∧
    frameSound ⟨0xA0, [], 0⟩ = false ∧ frameSound (govFrame 5) = true ∧
    (node5 .active).fab.ports[(2 : FabPort)].exceeds (Fin.ofNat 4 (bits (govFrame 5).header 9 8)) 3 = false := by decide
theorem witness_frame_exceeds : ({ node5 .active with fab := { (node5 .active).fab with ports := upd (node5 .active).fab.ports 2 (fun p =>
    { p with got := Vector.replicate 4 254 }) } } : State).fab.ports[(2 : FabPort)].exceeds (Fin.ofNat 4 (bits (govFrame 5).header 9 8)) 3 = true := by decide
theorem witness_fates : (node5 .active).fate 5 2 = .deliver ∧ (node5 .active).fate 6 2 = .route ∧ (node5 .active).fate 7 5 = .discard ∧
    bitAt (govFrame 5).trailer 8 = false ∧ bits (govFrame 5).trailer 63 32 = (frameCrc (govFrame 5).header (govFrame 5).data).toNat ∧
    bits (govFrame 5).header 19 14 ≠ 0 ∧ FrameFate.forwards .discard = false ∧ FrameFate.forwards .route = true := by decide +kernel
theorem witness_frame_ttl : bits (frameHeader 0 2 0 6 5 1) 19 14 = 0 ∧ frameSound ⟨frameHeader 0 2 0 6 5 1, [0], 0xAF⟩ = true ∧
    (node5 .active).leavesAgain (.forward 2) 6 2 = true ∧ (node5 .active).leavesAgain .deliver 5 2 = false := by decide +kernel
theorem witness_frame_forward : (node5 .active).fate 0 9 = .forward 2 ∧ (node5 .active).fabActive 2 = true := by decide +kernel
theorem witness_credit : parseCredit 0x0100000000000000 = none ∧ parseCredit (creditBlock #v[1, 2, 3, 4]) = some #v[1, 2, 3, 4] := by decide
theorem witness_fabric_caps : (node5 .caps).lanes.lanes[fabLane 2].role = .fabric ∧ (node5 .caps).lanes.lanes[fabLane 2].st = .caps ∧
    bits 0x40C0 7 0 = 0xC0 ∧ (0x55 : Word) = (node5 .caps).fab.id ∧ (0x66 : Word) ≠ (node5 .caps).fab.id ∧ bitAt 0x40C0 14 = true := by decide
theorem test_frame_arrives : after (.fabricFrame 2 (govFrame 5)) (node5 .active) (fun t => t.fab.inbox.length == 1) = true := by decide +kernel
theorem test_frame_discarded : after (.fabricFrame 2 (govFrame 7)) (node5 .active) (fun t => t.fab.inbox.isEmpty &&
  t.lanes.lanes[(34 : LaneNo)].frameErr == 0) = true := by decide +kernel
theorem test_frame_bad : after (.fabricFrame 2 ⟨0xA0, [], 0⟩) (node5 .active) (fun t => t.lanes.lanes[(34 : LaneNo)].frameErr == 1) = true := by decide +kernel
theorem test_credit : after (.credit 2 (creditBlock #v[1, 2, 3, 4])) (node5 .active)
  (fun t => t.fab.ports[(2 : FabPort)].freed.toList == [1, 2, 3, 4]) = true := by decide +kernel
theorem test_credit_send : after (.creditSend 2) (node5 .active) (fun t => t.fab.ports[(2 : FabPort)].due.length == 1 &&
  t.fab.ports[(2 : FabPort)].told == t.fab.ports[(2 : FabPort)].given) = true := by decide +kernel
theorem test_fabric_caps : after (.fabricCaps 2 0x40C0 0x66) (node5 .caps) (fun t => t.lanes.lanes[(34 : LaneNo)].st == .active &&
  t.fab.ports[(2 : FabPort)].neighbour == some 0x66) = true := by decide +kernel
theorem test_fabric_loop : after (.fabricCaps 2 0x40C0 0x55) (node5 .caps) (fun t => t.lanes.lanes[(34 : LaneNo)].st == .detect) = true := by decide +kernel

/-- No root is known, and this device is eligible or not. -/
def noRoot (eligible : Bool) : State := { node5 .active with fab := { (node5 .active).fab with root := none, eligible := eligible } }

/-- This device is the root. -/
def rootHere : State := { node5 .active with fab := { (node5 .active).fab with eligible := true, root := some (0x55, 0, none, 1) } }

theorem witness_election : (noRoot false).rootView = none ∧ (noRoot true).rootView.isSome = true ∧ (noRoot false).fab.root = none ∧
    (node5 .active).fab.root = some (9, 1, some 2, 1) ∧ (noRoot false).fab.noRootTold = false ∧ (noRoot false).quiet := by decide
theorem witness_no_root : ∃ p, (noRoot false).fabActive p = true := ⟨2, by decide⟩
theorem test_announce : after (.announce 2 9 8 0x300000002) (node5 .active)
  (fun t => (t.fab.ports[(2 : FabPort)].announce).any (fun a => a.root == 9 && a.dist == 2 && a.seq == 3)) = true := by decide +kernel
theorem test_announce_send : after .announceSend (noRoot true) (fun t => t.fab.root.any (fun r => r.1 == 0x55) && t.fab.ownSeq == 1) = true := by decide +kernel
theorem test_election_settled : after .electionSettled (node5 .active) (fun t => t.fab.settled && t.fab.rootTold == some 9) = true := by decide +kernel
theorem test_no_root : after .fabricNoRoot (noRoot false) (fun t => t.fab.noRootTold) = true := by decide +kernel

theorem witness_roots : rootHere.fab.isRoot = true ∧ (node5 .active).fab.isRoot = false := by decide
theorem witness_routes_older : ({ node5 .active with fab := { (node5 .active).fab with partialGen := some (7, []) } } : State).fab.partialGen = some (7, []) ∧
    BitVec.ofNat 32 (bits (wordAt [6] 0) 31 0) < (7 : BitVec 32) := by decide
theorem witness_routes_whole : ({ node5 .active with fab := { (node5 .active).fab with partialGen := some (6, (List.range 16).map (fun i => (i, []))) } } :
    State).fab.partialGen = some (6, (List.range 16).map (fun i => (i, []))) ∧
    16 ≤ (((List.range 16).map (fun i => (i, ([] : List Word)))).filter (fun (c : Nat × List Word) => c.1 != 0) ++ [(0, [])]).length ∧
    (([] : List (Nat × List Word)).filter (fun (c : Nat × List Word) => c.1 != 0) ++ [(0, [])]).length < 16 := by decide
theorem witness_routes_ack : ({ rootHere with fab := { rootHere.fab with assigns := [(0x66, 6)] } } : State).fab.assigns.find? (fun a => a.2 == 6) =
    some (0x66, 6) := by decide
theorem test_report : after (.report 2 [0x66, 0, 0]) rootHere (fun t => t.fab.arrivals == [(0x66, 2)] && t.fab.reports.length == 1) = true := by decide +kernel
theorem test_assign : after (.assign 2 0x55 0x7) (node5 .active) (fun t => t.fab.node == 7 && t.fab.assigns == [(0x55, 7)]) = true := by decide +kernel
theorem test_routes_chunk : after (.routes (6 :: List.replicate 64 0)) (node5 .active) (fun t => t.fab.partialGen.any (fun g => g.1 == 6 && g.2.length == 1) &&
  t.fab.gen == 0) = true := by decide +kernel
theorem test_route_compute : after .routeCompute { rootHere with fab := { rootHere.fab with reports := [⟨0x55, 5, 0, true, 1, []⟩] } }
  (fun t => t.fab.held == [⟨0x55, 5, none⟩]) = true := by decide +kernel
theorem test_routes_resend : after .routesResend rootHere (fun t => t.fab.grants.isEmpty) = true := by decide +kernel
theorem test_routes_ack : after (.routesAck 6 1) { rootHere with fab := { rootHere.fab with assigns := [(0x66, 6)], grants := [⟨0x66, 1, [], false⟩] } }
  (fun t => t.fab.grants.all (fun g => g.acked)) = true := by decide +kernel

/-! ### Channels -/

/-- A channel with node 6, changed. -/
def chan6 (f : FabChannel → FabChannel) : State := { node5 .active with fab := { (node5 .active).fab with channels := [f (openChannel 6 3)] } }

theorem witness_open : (node5 .active).fab.chanOf 6 = none ∧ (chan6 id).fab.chanOf 6 = some (openChannel 6 3) ∧
    (chan6 (fun k => { k with st := .opening })).fab.node < 6 ∧ (4 : NodeNo) ≤ (node5 .active).fab.node ∧
    (openChannel 6 3).session = BitVec.ofNat 32 (bits 0x300000000 63 32) ∧ (openChannel 6 3).session ≠ BitVec.ofNat 32 (bits 0x400000000 63 32) := by decide
theorem witness_word : BitVec.ofNat 32 (bits 0x300000100 63 32) = (openChannel 6 3).session ∧ (openChannel 6 3).recvSeq = none ∧
    (openChannel 6 3).posts = [] ∧ bitAt 0 50 = false ∧ bits 0 63 56 ∈ assignedOpcodes ∧ (openChannel 6 3).taken.length + (openChannel 6 3).running.length < 32 ∧
    BitVec.ofNat 8 (bits 0x300000100 15 8) - 1 = (0 : Byte) := by decide
theorem witness_ack : bits 0x300000004 3 2 = 1 ∧ bits 0x300000008 3 2 = 2 ∧ bits 0x300000000 3 2 = 0 ∧
    (chan6 (fun k => { k with unacked := some (7, 1) })).fab.chanOf 6 = some { openChannel 6 3 with unacked := some (7, 1) } ∧
    (openChannel 6 3).sendSeq = BitVec.ofNat 8 (bits 0x300000000 15 8) := by decide
theorem witness_resend : (openChannel 6 3).unacked = none ∧ (chan6 (fun k => { k with unacked := some (7, 10) })).fab.chanOf 6 =
    some { openChannel 6 3 with unacked := some (7, 10) } ∧ (chan6 (fun k => { k with st := .opening, openSends := 9 })).fab.chanOf 6 =
    some { openChannel 6 3 with st := .opening, openSends := 9 } := by decide
theorem test_open : after (.mailboxOpen 6 0x300000000) (node5 .active) (fun t => t.fab.channels == [openChannel 6 3]) = true := by decide +kernel
theorem test_word : after (.mailboxWord 6 0x300000100 7) (chan6 id) (fun t => t.fab.channels.map (fun k => k.taken.length) == [1]) = true := by decide +kernel
theorem test_word_of_another_session : after (.mailboxWord 6 0x400000100 7) (chan6 id) (fun t => t.fab.channels == [openChannel 6 3]) = true := by
  decide +kernel
theorem test_ack : after (.mailboxAck 6 0x300000000) (chan6 (fun k => { k with unacked := some (7, 1) }))
  (fun t => t.fab.channels.all (fun k => k.unacked.isNone && k.sendSeq == 1)) = true := by decide +kernel
theorem test_close : after (.mailboxClose 6 0x300000000) (chan6 id) (fun t => t.fab.channels.isEmpty) = true := by decide +kernel
theorem test_tenth_send_closes : after (.mailboxResend 6) (chan6 (fun k => { k with unacked := some (7, 10) })) (fun t => t.fab.channels.isEmpty) = true := by
  decide +kernel
theorem test_idle : after (.channelIdle 6) (chan6 id) (fun t => t.fab.channels.isEmpty) = true := by decide +kernel

theorem witness_peer_post : Runs (chan6 id) 0x71 true false (docket0 [6, 0, 0, 0]) ∧ bitAt ((docket0 [6, 0, 0, 0]).dw 1) 48 = false ∧
    bufferBad ((docket0 [6, 0, 0, 0]).dw 2) ((docket0 [6, 0, 0, 0]).dw 3) = false ∧ (node5 .active).fab.reaches 6 = true ∧
    (node5 .active).fab.reaches 7 = false ∧ (node5 .active).fab.channels.length < 64 ∧ bitAt ((docket0 [6, 0x1000000000000, 0, 0]).dw 1) 48 = true :=
  ⟨runs_of (by decide), by decide, by decide, by decide +kernel, by decide +kernel, by decide, by decide⟩
theorem witness_peer_post_full : 64 ≤ ({ node5 .active with fab := { (node5 .active).fab with channels := (List.range 64).map (fun i =>
    openChannel (BitVec.ofNat 12 (100 + i)) 1) } } : State).fab.channels.length := by decide
theorem witness_peer_close : Runs (chan6 id) 0x72 false false (word0 6) := runs_of (by decide)
theorem test_peer_post : after (.peerPost (docket0 [6, 0, 0, 0])) (chan6 id) (fun t => t.fab.channels.map (fun k => k.posts.length) == [1] && last0 t == none) = true := by
  decide +kernel
theorem test_peer_post_unreachable : after (.peerPost (docket0 [7, 0, 0, 0])) (chan6 id)
  (fun t => last0 t == some (responseWord 0x71 5 .nodeUnreachable 7)) = true := by decide +kernel
theorem test_peer_close : after (.peerClose (word0 6)) (chan6 id) (fun t => t.fab.channels.isEmpty) = true := by decide +kernel
theorem test_enc_event : after (.encEvent 6 0 0) (node5 .active) (fun t => t.enc == booted.enc) = true := by decide +kernel
theorem test_bulk : after (.bulk 6 [word [3, fld 32 24 2], 7, 8]) { node5 .active with fab := { (node5 .active).fab with bulkIn := [⟨6, 3, [], 10⟩] } }
  (fun t => t.fab.bulkIn == [⟨6, 3, [(2, [7, 8])], 10⟩]) = true := by decide +kernel
theorem test_offer : after (.bulkOffer { word0 0x18000001 with origin := .peer 6 3 }) (chan6 id)
  (fun t => t.store.waiting.length == 1 && t.fab.bulkIn.map (fun b => (b.total, b.xfer)) == [(24, 1)]) = true := by decide +kernel

/-! ### Redundancy -/

/-- The pair key. -/
def pk : PairKey := { pk := 3, keyId := 4, next := 1, bound := 65536, highest := 0 }

/-- Unit A of a pair with node 6, whose ditch-rider is node 8, in a state. -/
def pairedA (st : PairSt) : State := { node5 .active with
  pair := { booted.pair with paired := true, partner := 6, rider := .node 8, st := st, claim := if st = .active then 3 else 0, highest := 3 }
  sec := { booted.sec with pair := some pk } }

/-- Words 0 to 2 of a GRANT of claim n to a unit. -/
def grantWords (b : Bool) (n : BitVec 32) : List Word := claimWords 1 b n 0 8

theorem witness_pair : (pairedA .sync).pair.paired = true ∧ (pairedA .sync).sec.pairKey = some pk ∧ (pairedA .sync).pair.highest < 4 ∧
    ¬ (pairedA .sync).pair.highest < 3 ∧ bits (wordAt (grantWords false 4) 0) 3 0 = 1 ∧ bitAt (wordAt (grantWords false 4) 0) 4 = (pairedA .sync).pair.unitB ∧
    bitAt (wordAt (grantWords true 4) 0) 4 ≠ (pairedA .sync).pair.unitB ∧ BitVec.ofNat 32 (bits (wordAt (grantWords false 4) 1) 31 0) = 4 ∧
    BitVec.ofNat 12 (bits (wordAt (grantWords false 4) 2) 11 0) = (8 : NodeNo) ∧ (pairedA .sync).pair.rider = .node 8 := by decide
theorem witness_pair_lost : ({ pairedA .sync with sec := { (pairedA .sync).sec with pair := none } } : State).sec.pairKey = none := by decide
theorem witness_tags (h : Word) (ws : List Word) : (pairedA .sync).tagOk h ws (pk.tag h ws) = true ∧ (pairedA .sync).tagOk h ws (pk.tag h ws + 1) = false ∧
    pk.tag h ws ≠ pk.tag h ws + 1 := by
  have e : (pairedA .sync).sec.pairKey = some pk := by decide
  have n : pk.tag h ws ≠ pk.tag h ws + 1 := by intro c; bv_omega
  simp only [State.tagOk, e, beq_self_eq_true, beq_eq_false_iff_ne]
  exact ⟨trivial, n, n⟩
theorem witness_demotion : (pairedA .active).pair.st = .active ∧ (pairedA .active).pair.claim < 4 ∧ (pairedA .active).usedPorts = [] := by decide +kernel
theorem witness_accept : (pairedA .sync).standby = true ∧ (pairedA .sync).fromPartner 6 = true ∧ (pairedA .active).standby = false := by decide
theorem witness_release : ({ pairedA .sync with pair := { (pairedA .sync).pair with releasing := some 4 } } : State).pair.releasing = some 4 := rfl
theorem test_grant_without_a_key : after (.grant 8 0 (wordAt (grantWords false 4) 0) (wordAt (grantWords false 4) 1) (wordAt (grantWords false 4) 2) 0)
  { pairedA .sync with sec := { (pairedA .sync).sec with pair := none } } (fun t => t.pair.st == .sync && t.pair.highest == 3) = true := by decide +kernel
theorem test_grant_of_another_pair : after (.grant 8 0 0 0 0 0) booted (fun t => t.pair == booted.pair) = true := by decide +kernel
theorem test_accept_ignored : after (.accept 6 0 0 0 0 0) (pairedA .active) (fun t => t.pair.sendUntil == none) = true := by decide +kernel
theorem test_release : after .claimRelease { pairedA .sync with pair := { (pairedA .sync).pair with releasing := some 4 } }
  (fun t => t.pair.releasing == none && t.heads.claim == 0) = true := by decide +kernel

/-- This device is the ditch-rider of units at nodes 6 and 7; B is ready, and A has beaten, holding the claim. -/
def rider : State := { node5 .active with
  pair := { booted.pair with riders := upd booted.pair.riders 0 (fun r => { r with
    nodeA := 6, nodeB := 7
    beatA := some { st := 1, barSilent := false, fault := false, age := 0, seq := 1, claim := 3, highest := 3, at_ := 0 }
    beatB := some { st := 3, barSilent := false, fault := false, age := 0, seq := 1, claim := 0, highest := 3, at_ := 0 } }) } }

theorem witness_claim_grant : Runs (pairedA .sync) 0x82 true true (secureDocket0 (grantWords false 4)) ∧
    (pairedA .sync).grantReason true 4 8 = none ∧ (pairedA .sync).grantReason true 3 8 = some 2 ∧ (pairedA .sync).grantReason true 4 9 = some 3 :=
  ⟨runs_of (by decide), by decide, by decide, by decide⟩
theorem witness_swap : Runs rider 0x83 false false (word0 0) ∧ rider.pair.riders[(0 : Fin 8)].used = true ∧ rider.pair.riders[(1 : Fin 8)].used = false ∧
    rider.pair.riders[(0 : Fin 8)].mayGrant 0 true 5 = true ∧ rider.pair.riders[(0 : Fin 8)].open_ = none ∧ rider.pair.riders[(0 : Fin 8)].active = some false :=
  ⟨runs_of (by decide), by decide, by decide, by decide, by decide, by decide⟩
theorem witness_swap_refused : ({ rider.pair.riders[(0 : Fin 8)] with beatB := none } : RiderPair).mayGrant 0 true 5 = false := by decide
theorem witness_swap_reasons :
    ({ rider.pair.riders[(0 : Fin 8)] with beatB := some { st := 3, barSilent := true, fault := false, age := 65535, seq := 1, claim := 0, highest := 3, at_ := 0 } } : RiderPair).silent
      (BitVec.ofNat 64 (2 ^ 40)) false = true ∧
    rider.pair.riders[(0 : Fin 8)].silent 0 false = false ∧ rider.pair.riders[(0 : Fin 8)].topHighest = 3 := by decide
theorem test_claim_grant : after (.claimGrant (secureDocket0 (grantWords false 4))) (pairedA .sync) (fun t => t.pair.st == .active && t.pair.claim == 4 &&
  t.pair.highest == 4) = true := by decide +kernel
theorem test_claim_grant_old : after (.claimGrant (secureDocket0 (grantWords false 3))) (pairedA .sync) (fun t => t.pair.st == .sync) = true := by decide +kernel
theorem test_swap_unused : after (.swap (word0 1)) rider (fun t => last0 t == some (responseWord 0x83 5 .notFound 0)) = true := by decide +kernel
theorem test_swap : after (.swap (word0 0)) rider (fun t => t.pair.riders[(0 : Fin 8)].granted == 4 &&
  last0 t == some (responseWord 0x83 5 .ok 4)) = true := by decide +kernel
theorem test_grant_resend : after (.grantResend 0) rider (fun t => t.sent.isEmpty) = true := by decide +kernel

theorem witness_beat : bits 1 3 0 = 1 ∧ (pairedA .sync).fromPartner 6 = true ∧ (pairedA .sync).fromPartner 8 = false ∧
    (pairedA .sync).pair.partnerSeqs = [] ∧ bits 2 3 0 ≠ 1 := by decide
theorem witness_beat_again : (∃ x ∈ ({ pairedA .sync with pair := { (pairedA .sync).pair with partnerSeqs := [(parseBeat 1 0 0).seq] } } : State).pair.partnerSeqs,
    x = (parseBeat 1 0 0).seq) ∧ tooOld 100 0 (pairedA .sync).pair.timeoutPs = false := ⟨⟨_, List.mem_singleton.mpr rfl, rfl⟩, by decide⟩
theorem witness_rider_beat : rider.pair.riders[(0 : Fin 8)].unitAt 6 = some false ∧ rider.pair.riders[(0 : Fin 8)].unitAt 7 = some true := by decide
theorem witness_partner_lost : (pairedA .sync).pair.lostTold = false ∧ booted.pair.paired = false ∧ (pairedA .sync).quiet := by decide
theorem witness_records : bits 2 3 0 = 2 ∧ (pairedA .sync).pair.claim ≤ BitVec.ofNat 32 (bits 2 63 32) ∧ (pairedA .sync).pair.schedSeen = false ∧
    bits 0x82 7 4 = 8 ∧ bits 0x92 7 4 = 9 ∧ bits 0xD2 7 4 = 13 ∧ (pairedA .active).pair.claim < BitVec.ofNat 32 (bits 0x400000002 63 32) ∧
    (pairedA .sync).pair.joined = false := by decide
theorem witness_record_repeats : ((5 : BitVec 24) - 4).toNat < 2 ^ 23 ∧ 2 ^ 23 ≤ ((5 : BitVec 24) - 7).toNat ∧ (4 : BitVec 24) ≠ 5 + 1 := by decide
theorem test_partner_lost : after .pairPartnerLost (pairedA .sync) (fun t => t.pair.lostTold && !t.pair.partnerSeen) = true := by decide +kernel
theorem test_beat_dropped : after (.heartbeat 6 0 2 0 0 0) (pairedA .sync) (fun t => t.pair.partnerAt == none) = true := by decide +kernel
theorem test_heartbeat_counts : after .heartbeatSend (pairedA .sync) (fun t => t.pair.hbSeq == 1) = true := by decide +kernel
theorem test_health_counts : after .healthSend (pairedA .sync) (fun t => t.pair.reportSeq == 1) = true := by decide +kernel
theorem test_health_dropped : after (.health 6 0 []) (pairedA .sync) (fun t => t.pair.partnerDigest == none) = true := by decide +kernel
theorem test_record_dropped : after (.scheduleRecord 6 0 1 0 0 0) (pairedA .sync) (fun t => !t.pair.schedSeen) = true := by decide +kernel

/-- The active has a verified parcel for its partner. -/
def mirroring : State := { pairedA .active with pair := { (pairedA .active).pair with mirrorQ := [[1, 2]] } }

theorem witness_mirror : mirroring.pair.paired = true ∧ mirroring.pair.st = .active ∧ mirroring.cist.level < 2 ∧ mirroring.fab.bulkOut = [] ∧
    mirroring.fab.reaches mirroring.pair.partner = true ∧ mirroring.fab.channels.length < 64 ∧ mirroring.pair.mirrorQ = [[1, 2]] := by decide +kernel
theorem witness_mirror_free : mirroring.yields = false ∧ mirroring.mirrorFree = true ∧ mirroring.sec.pairKey = some pk := by decide +kernel
theorem witness_report : (pairedA .sync).sec.pair = some pk ∧ (pairedA .sync).pair.partnerDigest = none ∧
    (∃ d, ({ pairedA .sync with pair := { (pairedA .sync).pair with partnerDigest := some ((pairedA .sync).configDigest + 1) } } : State).pair.partnerDigest =
      some d ∧ d ≠ (pairedA .sync).configDigest) := by
  refine ⟨by decide, by decide, _, rfl, ?_⟩
  intro h; bv_omega
theorem test_mirror : after .parcelMirror mirroring (fun t => t.pair.mirrorQ.isEmpty && t.fab.bulkOut.length == 1) = true := by decide +kernel

end Sys2Proof.Machine
end

