-- ==== Sys2Proof/Tests/HealthTests.lean ====
section
/-! SUPPORT. Witnesses of the statements about nozzle health and calibration, and small steps of those commands. -/

namespace Sys2Proof.Machine

set_option maxRecDepth 20000
set_option Elab.async false

/-- A map of one head of two nozzles in port 3, which is candidate A of its two positions. -/
def map3 (spares : Bool) : NozzleMap :=
  { emptyMap with
    spares := spares
    heads := [⟨3, 2, 0, []⟩]
    positions := [⟨⟨⟨3, 0⟩, 5, 0⟩, none⟩, ⟨⟨⟨3, 1⟩, 5, 0⟩, none⟩] }

/-- The booted device with that map in force, both nozzles in a state. -/
def nozzles (r : NozzleRec) : State :=
  { booted with
    mapper := { booted.mapper with inForce := some (map3 false) }
    health := { booted.health with ports := upd booted.health.ports 3 (fun q => { q with nozzles := [r, r] }) } }

/-! ### The health map -/

theorem witness_health_read : Runs (nozzles {}) 0x46 true false (docket0 (3 :: buffer 64)) ∧ (nozzles {}).mapHead 3 = some ⟨3, 2, 0, []⟩ ∧
    (nozzles {}).mapHead 4 = none ∧ bufferBad ((docket0 (3 :: buffer 64)).dw 1) ((docket0 (3 :: buffer 64)).dw 2) = false ∧ bufferBad 1 64 = true ∧
    Writes (docket0 (3 :: buffer 64)) 1 (packAll 2 [0, 0]) :=
  ⟨runs_of (by decide), by decide, by decide, by decide, by decide, ⟨by decide, by decide, rfl⟩⟩
theorem witness_health_force : Runs (nozzles {}) 0x47 false false (word0 0x40023) ∧ (word0 0x40023).argBits 4 0 = 3 ∧ (word0 0x40023).argBits 17 5 = 1 ∧
    (word0 0x40043).argBits 17 5 = 2 ∧ (word0 0x40023).argBits 18 18 = 1 := ⟨runs_of (by decide), by decide, by decide, by decide, by decide⟩
theorem witness_nozzle_report : Runs (nozzles {}) 0x49 false false (word0 0x80001) ∧ (word0 0x80001).argBits 19 18 = 2 ∧ (word0 0xC0000).argBits 19 18 = 3 ∧
    (word0 0xA0001).argBits 17 17 = 1 ∧ (nozzles {}).pair.paired = false ∧ (nozzles {}).mapper.inForce = some (map3 false) ∧
    (map3 false).candAt 1 false = some ⟨⟨3, 1⟩, 5, 0⟩ ∧ (nozzles {}).health.syncs = [] ∧ (map3 true).spares = true :=
  ⟨runs_of (by decide), by decide, by decide, by decide, rfl, rfl, by decide, rfl, rfl⟩
theorem witness_no_claim : ({ booted with pair := { booted.pair with paired := true } } : State).noClaim = true := by decide
theorem witness_verdicts : ({ state := .forced } : NozzleRec).state = .forced ∧ ({ miss := 1 } : NozzleRec).miss + 1 < 3 ∧
    booted.health.set.failCount ≤ ({ miss := 1 } : NozzleRec).miss + 1 ∧ booted.health.set.recoverCount ≤ ({ okRun := 7 } : NozzleRec).okRun + 1 ∧
    ({ okRun := 6 } : NozzleRec).okRun + 1 < booted.health.set.recoverCount := by decide
theorem witness_report_lost : booted.quiet ∧ (2, (9 : NodeNo)) ∉ booted.health.awaiting ∧
    (2, (9 : NodeNo)) ∈ ({ booted with health := { booted.health with awaiting := [(2, 9)] } } : State).health.awaiting := by decide
/-- Port 3 with a record to be rewritten. -/
def changed3 : State := { booted with health := { booted.health with ports := upd booted.health.ports 3 (fun q =>
  { q with nozzles := [{ state := .failed }], changed := true, judged := some 1, record := some ⟨1, 1, 1, [.ok]⟩ }) } }
theorem witness_persist : changed3.health.ports[(3 : HeadPort)].changed = true ∧ booted.health.ports[(3 : HeadPort)].changed = false ∧
    changed3.health.ports[(3 : HeadPort)].record = some ⟨1, 1, 1, [.ok]⟩ := by decide
theorem test_health_read : after (.healthRead (docket0 (3 :: buffer 64))) (nozzles { state := .failed })
  (fun t => t.sent == [.hostWrite 64 [10, 0, 0, 0, 0, 0, 0, 0]] && last0 t == some (responseWord 0x46 5 .ok 2)) = true := by decide +kernel
theorem test_health_force : after (.healthForce (word0 0x40023)) (nozzles {}) (fun t =>
  (t.health.ports[(3 : HeadPort)].nozzles.map (fun n => n.state)) == [.ok, .forced]) = true := by decide +kernel
theorem test_nozzle_report : after (.nozzleReport (word0 0x80001)) (nozzles {}) (fun t => t.health.kept == [⟨1, false, .missing⟩]) = true := by decide +kernel
theorem test_strip_end : after (.nozzleReport (word0 0xC0000)) { nozzles { miss := 1 } with
    health := { (nozzles { miss := 1 }).health with kept := [⟨1, false, .missing⟩] } }
  (fun t => (t.health.ports[(3 : HeadPort)].nozzles.map (fun n => n.state)) == [.ok, .failed]) = true := by decide +kernel
theorem test_report_lost : after (.nozzleReportLost 2 9) { booted with health := { booted.health with awaiting := [(2, 9)] } }
  (fun t => t.health.awaiting.isEmpty && t.health.resend == 4) = true := by decide +kernel
theorem test_persist : after .healthMapPersist changed3 (fun t => t.health.ports[(3 : HeadPort)].record == some ⟨1, 1, 1, [.failed]⟩) = true := by decide +kernel

/-! ### Calibration -/

/-- A run of a procedure after some strips. -/
def running (p : CalProc) (n : Nat) (ts : List CalTally) : CalRun :=
  { proc := p, origin := .host 0 0, tag := 5, opcode := 0xC0, mode := 0, strips := n, tally := ts, start := 0 }

/-- The device prints at 4,000 lines/s with a camera, and a procedure runs. -/
def onStrips (r : CalRun) : State :=
  { nozzles {} with
    print := { booted.print with started := true }
    time := { booted.time with raw := 16000000 }
    sluice := { booted.sluice with times := List.replicate 64 0 }
    cam := { booted.cam with ports := upd booted.cam.ports 1 (fun q => { q with link := .active }) }
    health := { (nozzles {}).health with runs := [r] } }

/-- Both nozzles: missing in three of four strips, and OK in all. -/
def tallies : List CalTally := [⟨⟨3, 0⟩, 3, 1, (0, 0)⟩, ⟨⟨3, 1⟩, 0, 4, (4, 4)⟩]

theorem witness_cal_starts : Runs booted 0xC0 false false (word0 3) ∧ Runs booted 0xC1 false false (word0 0) ∧ Runs booted 0xC2 false false (word0 1) ∧
    Runs booted 0xC3 false false (word0 1) ∧ booted.health.run .density = none ∧ booted.calFault .density = some 1 ∧
    ((onStrips (running .density 0 [])).health.run .density).isSome = true ∧ booted.print.started = false ∧
    booted.motion.axes[(1 : AxisNo)].set.enable = false ∧ booted.enc.encs[(1 : EncNo)].mode ≠ .analogue :=
  ⟨runs_of (by decide), runs_of (by decide), runs_of (by decide), runs_of (by decide), by decide, by decide, by decide, by decide, by decide, by decide⟩
/-- Axis 1 is ready for a chopper trim, and interface 1 for an encoder trim. -/
def trimmable (r : List CalRun) : State :=
  { booted with
    motion := { booted.motion with axes := upd booted.motion.axes 1 (fun x => { x with set := { x.set with enable := true, runCurrent := 100 }, coilB := { x.coilB with target := 5, ofs := 9 } }) }
    enc := { booted.enc with encs := upd booted.enc.encs 1 (fun k => { k with mode := .analogue, position := 70000 }) }
    health := { booted.health with runs := r } }
theorem witness_cal_runs : (trimmable []).calFault (.chopper 1) = none ∧ (trimmable []).calFault (.encTrim 1) = none ∧
    (trimmable []).motion.axes[(1 : AxisNo)].coilA.target < (trimmable []).motion.axes[(1 : AxisNo)].coilB.target ∧ (map3 true).spares = true := by decide
theorem witness_cal_cancel : Runs (onStrips (running .density 0 [])) 0xCF false false (word0 2) ∧
    (onStrips (running .density 0 [])).health.runs.find? (fun r => r.proc.num == (word0 2).argBits 2 0 && r.proc.target == (word0 2).argBits 7 3) =
      some (running .density 0 []) ∧
    booted.health.runs.find? (fun r => r.proc.num == (word0 2).argBits 2 0 && r.proc.target == (word0 2).argBits 7 3) = none :=
  ⟨runs_of (by decide), by decide, by decide⟩
theorem witness_cal_timeout : (onStrips (running .density 0 [])).health.run .density = some (running .density 0 []) ∧ CalProc.density.num ≤ 2 ∧
    2 < (CalProc.chopper 1).num ∧ (trimmable []).quiet := by decide
theorem witness_detection : (onStrips (running (.nozzle 3) 4 tallies)).health.run (.nozzle 3) = some (running (.nozzle 3) 4 tallies) ∧
    (onStrips (running (.nozzle 3) 4 tallies)).health.set.detPages ≤ 4 ∧ (onStrips (running (.nozzle 3) 4 tallies)).printFault = none ∧
    3 < booted.health.set.detPages ∧ booted.printFault = some 1 := by decide +kernel
theorem witness_density : (onStrips (running .density 8 tallies)).health.set.dcPages ≤ 8 ∧ (onStrips (running .density 8 tallies)).printFault = none ∧
    (onStrips (running .density 8 tallies)).mapper.inForce = some (map3 false) ∧
    9 * ((map3 false).positions.flatMap PosEntry.cands).length ≤ 10 * (((map3 false).positions.flatMap PosEntry.cands).filter (fun c => tallies.any (fun t => t.nozzle == c.nozzle))).length ∧
    10 * (((map3 false).positions.flatMap PosEntry.cands).filter (fun c => ([] : List CalTally).any (fun t => t.nozzle == c.nozzle))).length <
      9 * ((map3 false).positions.flatMap PosEntry.cands).length := by decide +kernel
theorem witness_trim : (trimmable [running (.encTrim 1) 0 []]).health.run (.encTrim 1) = some (running (.encTrim 1) 0 []) ∧
    65536 ≤ ((trimmable []).enc.encs[(1 : EncNo)].position.toInt - 0).natAbs ∧ (trimmable []).enc.encs[(1 : EncNo)].lossEp = false ∧
    ((-2048 : Int) ≤ 4 ∧ (4 : Int) ≤ 2047 ∧ (8192 : Int) ≤ 16384 ∧ (16384 : Int) ≤ 32768 ∧ (-8192 : Int) ≤ 7 ∧ (7 : Int) ≤ 8192) ∧ ¬ (8193 : Int) ≤ 8192 := by decide
theorem witness_chops : (trimmable [running (.chopper 1) 0 []]).health.run (.chopper 1) = some (running (.chopper 1) 0 []) ∧
    (trimmable []).motion.axes[(1 : AxisNo)].atRest = true ∧ 91 ≤ (trimmable []).motion.axes[(1 : AxisNo)].set.runCurrent ∧
    (∃ v, chopDelay 8 10000 20000 18000 36000 = some v ∧ 0 ≤ v ∧ v ≤ 2000) ∧ chopDelay 8 10000 20000 10000 36000 = none ∧
    booted.motion.axes[(1 : AxisNo)].set.enable = false := ⟨by decide, by decide, by decide, ⟨4000 / 3, by decide +kernel, by decide +kernel, by decide +kernel⟩, by decide, by decide⟩
theorem test_cal_not_printing : after (.calDensity (word0 0)) booted (fun t => last0 t == some (responseWord 0xC1 5 .calFail 0x102)) = true := by decide +kernel
theorem test_cal_nozzle_busy : after (.calNozzle (word0 3)) (onStrips (running (.nozzle 3) 0 [])) (fun t => last0 t == some (responseWord 0xC0 5 .calBusy 0)) = true := by
  decide +kernel
theorem test_cal_chopper_starts : after (.calChopper (word0 1)) (trimmable []) (fun t => (t.health.runs.map (fun r => r.proc)) == [.chopper 1] &&
  t.motion.axes[(1 : AxisNo)].coilB.ofs == 0) = true := by decide +kernel
theorem test_cal_trim_starts : after (.calEncTrim (word0 1)) (trimmable []) (fun t => (t.health.runs.map (fun r => (r.proc, r.start))) == [(.encTrim 1, 70000)]) = true := by
  decide +kernel
theorem test_cal_cancel : after (.calCancel (word0 2)) (onStrips (running .density 0 [])) (fun t => t.health.runs.isEmpty) = true := by decide +kernel
theorem test_cal_timeout : after (.calTimeout .density) (onStrips (running .density 0 [])) (fun t => t.health.runs.isEmpty &&
  last0 t == some (responseWord 0xC0 5 .calFail 0x502)) = true := by decide +kernel
theorem test_detection : after (.calProcedureEnd (.nozzle 3) .strips) (onStrips (running (.nozzle 3) 4 tallies)) (fun t =>
  (t.health.ports[(3 : HeadPort)].nozzles.map (fun n => n.state)) == [.failed, .ok]) = true := by decide +kernel
theorem test_trim_of_a_bad_fit : after (.calProcedureEnd (.encTrim 1) (.trim 4 5 16384 7 2001 200)) (trimmable [running (.encTrim 1) 0 []]) (fun t =>
  t.enc.encs[(1 : EncNo)].trim == booted.enc.encs[(1 : EncNo)].trim && last0 t == some (responseWord 0xC0 5 .calFail 0x80B)) = true := by decide +kernel
theorem witness_density_no_map : (onStrips (running .density 8 tallies)).mapNext = some (map3 false) ∧
    ({ onStrips (running .density 8 tallies) with mapper := booted.mapper } : State).mapNext = none := by decide +kernel
theorem witness_persist_unjudged : booted.health.ports[(3 : HeadPort)].judged = none ∧ changed3.health.ports[(3 : HeadPort)].judged.isSome = true := by
  decide
theorem test_trim : after (.calProcedureEnd (.encTrim 1) (.trim 4 5 16384 7 2000 200)) (trimmable [running (.encTrim 1) 0 []]) (fun t =>
  t.enc.encs[(1 : EncNo)].trim == { ofsS := 4, ofsC := 5, gainC := 16384, phase := 7 }) = true := by decide +kernel

end Sys2Proof.Machine
end

