-- ==== Sys2Proof/Tests/LineTests.lean ====
section
/-!
SUPPORT. Witnesses of the statements about engines, bar lines, product detect, governor and encoders, and small steps of those commands.
-/

namespace Sys2Proof.Machine

set_option maxRecDepth 20000
set_option Elab.async false

/-! ### Engines -/

/-- Printing, with a map and page 7 committed. -/
def toPrepare : State :=
  { mapped with
    store := committed.store, print := { committed.print with started := true, trigMode := true, fallback := some (7, 1000) } }

/-- A stamp of 64 lines. -/
def stamp3 : LayerDesc := { id := 3, kind := .stamp, depth := 0, generated := false, masked := false, lines := 64
                            posOffset := 0, positions := 64, generator := 0 }

/-- Page 7 with references to that stamp. -/
def desc7r (refs : List LayerRef) : PageDesc := { desc7 with refs := refs }

/-- A page in preparation: engine 0 works at its band, as phase1 and phase2 say for the engines. -/
def ctx7 (refs : List LayerRef) (p1 p2 : Option (List (List Nat))) : PageCtx :=
  { prep := 0, desc := desc7r refs, map := emptyMap, fresh := false, rolls := false, failed := [], forced := 0, curves := [], arrays := booted.store.arrays
    sets := booted.store.sets, gp := 16, gl := 16, serial := none, images := [], lost := [], rendered := []
    next := Vector.replicate 16 1, bands := [⟨0, [], Vector.replicate 16 p1, Vector.replicate 16 p2⟩], cistern := [], bad := []
    lowLead := false, goodLead := true }

/-- The device with that page in preparation. -/
def working (refs : List LayerRef) (p1 p2 : Option (List (List Nat))) : State :=
  { toPrepare with
    store := { toPrepare.store with layers := [{ desc := stamp3, blocks := [] }] }
    eng := { toPrepare.eng with queueCtx := some (ctx7 refs p1 p2), engines := Vector.replicate 16 { busy := some (false, 0) } } }

theorem witness_prepare : toPrepare.mapNext = some emptyMap ∧ toPrepare.mayPrepareQueue = true ∧ toPrepare.nextPage = some entry7 ∧
    entry7.desc.serialised = false := by decide
theorem witness_prepare_fallback : toPrepare.mayPrepareFallback = true ∧ toPrepare.print.fallback = some (7, 1000) ∧
    toPrepare.store.page 7 = some { desc := desc7, state := .committed } := by decide
theorem witness_prepare_nothing : booted.mapNext = none ∧ booted.quiet := by decide
theorem witness_fetch : (working [⟨3, 0, 0, 0⟩] none none).eng.engines[(0 : EngineNo)].busy = some (false, 0) ∧
    (ctx7 [⟨3, 0, 0, 0⟩] none none).planned (working [⟨3, 0, 0, 0⟩] none none).store.layers 0 0 0 false = some (0, false, 0, stamp3) ∧
    (working [⟨3, 0, 0, 0⟩] none none).eng.ctx false = some (ctx7 [⟨3, 0, 0, 0⟩] none none) := ⟨by decide, by decide, rfl⟩
theorem witness_fetches_open : (ctx7 [⟨3, 0, 0, 0⟩] none none).fetchesDone (working [⟨3, 0, 0, 0⟩] none none).store.layers 0
    ⟨0, [], Vector.replicate 16 none, Vector.replicate 16 none⟩ = false := by decide
theorem witness_edges : (ctx7 [] none none).fetchesDone [] 0 ⟨0, [], Vector.replicate 16 none, Vector.replicate 16 none⟩ = true ∧
    (⟨0, [], Vector.replicate 16 none, Vector.replicate 16 none⟩ : BandWork).edgesIn 0 = false ∧
    (⟨0, [], Vector.replicate 16 (some []), Vector.replicate 16 none⟩ : BandWork).edgesIn 0 = true ∧
    (ctx7 [] (some []) none).mapperFree 0 = true ∧ 0 < (ctx7 [] (some []) none).next[(0 : EngineNo)] := by decide
theorem witness_whole_band : (ctx7 [] (some []) (some [])).wholeBand = some ⟨0, [], Vector.replicate 16 (some []), Vector.replicate 16 (some [])⟩ ∧
    (working [] (some []) (some [])).slotFree false (ctx7 [] (some []) (some [])) 0 = true := by decide
/-- The fetch of that stamp's block reads nothing of DRAM: the layer has no block. -/
theorem witness_fetch_reads :
    ((working [⟨3, 0, 0, 0⟩] none none).fetchReads (ctx7 [⟨3, 0, 0, 0⟩] none none) 0 (0, false, 0, stamp3) []) = ([], []) := by decide
theorem witness_yields : ({ working [⟨3, 0, 0, 0⟩] none none with cist := { booted.cist with level := 2 } } : State).yields = true ∧
    (working [⟨3, 0, 0, 0⟩] none none).yields = false := by decide +kernel
theorem test_prepare : after (.pagePreparation false {}) toPrepare
  (fun t => t.eng.queueCtx.any (fun c => c.desc.id == 7 && c.map.id == 1)) = true := by decide
theorem test_prepare_fallback : after (.pagePreparation true {}) toPrepare
  (fun t => t.eng.fallbackCtx.any (fun c => c.desc.id == 7) && t.eng.queueCtx.isNone) = true := by decide
theorem test_fetch_of_no_block : after (.blockFetchDone 0 0 false []) (working [⟨3, 0, 0, 0⟩] none none)
  (fun t => t.eng.queueCtx.any (fun c => c.bands.any (fun w => w.fetches.map (fun f => (f.ref, f.words.length)) == [(0, 0)]))) = true := by decide
theorem test_edges : after (.engineEdgeExchange ⟨0, [7]⟩) (working [] none none)
  (fun t => t.eng.queueCtx.any (fun c => c.bands.any (fun w => w.phase1[(0 : Fin 16)].isSome && w.phase1[(1 : Fin 16)].isNone)) &&
    t.sys.sramErrors[(0 : EngineNo)] == 1) = true := by decide
theorem test_handover : after (.engineBandHandover ⟨0, []⟩) (working [] (some []) none)
  (fun t => t.eng.engines[(0 : EngineNo)].busy == none && t.eng.queueCtx.any (fun c => c.bands.any (fun w => w.phase2[(0 : Fin 16)].isSome))) = true := by
  decide
theorem test_write_done : after .mapperWriteDone (working [] (some []) (some []))
  (fun t => t.eng.queueCtx.any (fun c => c.bands.isEmpty && c.cistern.length == 1)) = true := by decide +kernel

/-! ### Bar lines, tickle and hold limit -/

/-- The sluice has allocated line n, the core blocks have taken line m. -/
def lines (n m : Nat) : State := { onPage with sluice := { onPage.sluice with barLine := n, coreLine := m } }

theorem witness_line : (lines 100 99).print.started = true ∧ (lines 100 99).sluice.coreLine < (lines 100 99).sluice.barLine ∧
    (lines 100 100).sluice.barLine ≤ (lines 100 100).sluice.coreLine ∧ booted.print.started = false ∧ booted.quiet := by decide
theorem witness_tickle : printing.print.started = true ∧ (printing.reach 10).retire.sluice.lines = [] ∧ printing.silenced = false := by decide
theorem witness_hold : onPage.print.span.isSome = true ∧ onPage.print.span.all (fun sp => !sp.interrupted && !sp.desc.holdAbort) = true ∧
    onPage.shadow = false ∧ onPage.print.span.all (fun sp => !sp.fallback) = true ∧ onPage.sluice.holdTold = false ∧ booted.print.span = none ∧
    ({ onPage with sluice := { onPage.sluice with holdTold := true } } : State).sluice.holdTold = true := by decide
theorem test_line : after (.lineBoundary 0) (lines 100 99) (fun t => t.sluice.coreLine == 100 && t.sluice.barLine == 100) = true := by decide +kernel
theorem test_line_waits : after (.lineBoundary 0) (lines 100 100) (fun t => t.sluice.coreLine == 100) = true := by decide +kernel
theorem test_mark_miss_ends : after (.markMissPulseEnd 2) { booted with print := { booted.print with
    trigs := upd booted.print.trigs 2 (fun t => { t with asserted := true }) } } (fun t => !t.print.trigs[(2 : TrigNo)].asserted) = true := by decide
theorem test_tickle : after (.keepWetTickle 10) printing (fun t => t.sluice.wetTold && t.sluice.tickled.isSome) = true := by decide +kernel
theorem test_hold_limit : after .holdLimitExpiry onPage (fun t => t.print.span.any (fun sp => sp.interrupted && sp.abort.isNone)) = true := by decide +kernel
theorem test_hold_limit_once : after .holdLimitExpiry { onPage with sluice := { onPage.sluice with holdTold := true } }
  (fun t => t.print.span.any (fun sp => !sp.interrupted)) = true := by decide +kernel
theorem test_hold_limit_aborts : after .holdLimitExpiry { onPage with print := { onPage.print with
    span := onPage.print.span.map (fun sp => { sp with desc := { sp.desc with holdAbort := true } }) } }
  (fun t => t.print.span.all (fun sp => sp.abort.isSome)) = true := by decide +kernel

/-! ### Product detect -/

/-- Printing under TRIGGER with input 0 enabled, at line n, with page 7 committed before the start. -/
def triggered (n : Nat) : State := { committed with
  print := { committed.print with started := true, trigMode := true, trigEnable := 1
                                  trigs := upd committed.print.trigs 0 (fun t => { t with set := { t.set with delay := 9 } }) }
  sluice := { committed.sluice with barLine := n } }

theorem witness_detect_asleep : ({ booted with sys := { booted.sys with power := .dormant } } : State).asleep = true ∧ booted.quiet := by decide
theorem witness_detect_off : booted.asleep = false ∧ booted.print.started = false ∧ printing.print.trigMode = false ∧
    (triggered 200).print.trigEnable.getLsbD (1 : TrigNo).val = false := by decide
theorem witness_detect : (triggered 87).asleep = false ∧ (triggered 87).print.stopping = false ∧ (triggered 87).shadow = false ∧
    (triggered 87).print.trigs[(0 : TrigNo)].pending.length < 16 ∧ (triggered 87).lastEdge + 96 ≤ 87 + 9 ∧
    (triggered 87).unbound = some entry7 ∧ entry7.held = none ∧ entry7.eligible 87 = true := by decide
theorem witness_detect_early : (triggered 86).sluice.barLine + 9 < (triggered 86).lastEdge + 96 := by decide
theorem witness_detect_overflow : 16 ≤ ({ triggered 87 with print := { (triggered 87).print with trigs := upd (triggered 87).print.trigs 0 (fun t =>
    { t with pending := List.replicate 16 500 }) } } : State).print.trigs[(0 : TrigNo)].pending.length := by decide
theorem test_detect : after (.productDetect 0) (triggered 87) (fun t => t.print.bounds == [⟨0, 96, some 7⟩]) = true := by decide
theorem test_detect_early : after (.productDetect 0) (triggered 86) (fun t => t.print.bounds.isEmpty) = true := by decide

/-! ### Governor -/

/-- The governor hears node 9. -/
def hearing : State := { booted with gov := { booted.gov with peers := [9] } }

/-- A message of node 9 is kept. -/
def heard : State := { hearing with gov := { hearing.gov with lastSeq := [(9, 65535)], kept := [⟨9, 4000, false, 65535⟩] } }

theorem witness_spdlim : ({ booted with pair := { booted.pair with driving := true } } : State).pair.driving = true ∧ booted.pair.driving = false ∧
    booted.quiet := by decide
theorem witness_hold_release : ({ booted with gov := { booted.gov with holdReq := true, releaseWait := some 1 } } : State).gov.causes = 0 ∧
    ({ booted with gov := { booted.gov with causes := 2 } } : State).gov.causes ≠ 0 := by decide
theorem witness_driving : ({ booted with pair := { booted.pair with drivePending := true } } : State).pair.drivePending = true := rfl
theorem witness_message : (9 : NodeNo) ≠ 0 ∧ hearing.gov.peers.contains 9 = true ∧ hearing.gov.lastSeq.find? (fun k => k.1 == 9) = none ∧
    heard.gov.lastSeq.find? (fun k => k.1 == 9) = some (9, 65535) ∧ seqAfter (BitVec.ofNat 16 (bits 0 31 16)) 65535 = true := by decide
theorem witness_message_refused : hearing.gov.peers.contains 8 = false ∧ booted.noClaim = false := by decide
theorem witness_peer_lost : heard.gov.kept.any (fun k => k.node == 9) = true := by decide
theorem test_spdlim : after .spdlimPeriod { booted with pair := { booted.pair with driving := true } }
  (fun t => t.gov.duty == booted.gov.dutyNow) = true := by decide +kernel
theorem test_hold_release : after .holdReqRelease { booted with gov := { booted.gov with holdReq := true, releaseWait := some 1 } }
  (fun t => !t.gov.holdReq) = true := by decide
theorem test_driving_begins : after .drivingBegins { booted with pair := { booted.pair with drivePending := true } }
  (fun t => t.pair.driving && !t.pair.drivePending) = true := by decide +kernel
theorem test_message : after (.governorMessage 9 0x1005) heard (fun t => t.gov.kept == [⟨9, 10000, true, 0⟩]) = true := by decide
theorem test_message_old : after (.governorMessage 9 0xFFFE1005) heard (fun t => t.gov.kept == [⟨9, 4000, false, 65535⟩]) = true := by decide
theorem test_message_send : after .governorMessageSend booted (fun t => t.gov.seq == booted.gov.seq + 1) = true := by decide +kernel
theorem test_peer_lost : after (.governorPeerLost 9) heard (fun t => t.gov.kept.isEmpty) = true := by decide +kernel

/-! ### Encoders -/

/-- Encoder 1 in a mode. -/
def enc1 (f : EncState → EncState) : State := { booted with enc := { booted.enc with encs := upd booted.enc.encs 1 f } }

theorem witness_encoder_modes : booted.enc.encs[(1 : EncNo)].mode ≠ .analogue ∧ booted.enc.encs[(1 : EncNo)].mode ≠ .digital ∧
    booted.enc.encs[(1 : EncNo)].mode = .off ∧ (enc1 (fun e => { e with mode := .analogue })).enc.encs[(1 : EncNo)].mode = .analogue ∧
    (enc1 (fun e => { e with mode := .digital })).enc.encs[(1 : EncNo)].mode = .digital := by decide
theorem witness_quad_steps : quadNext false false true = (true, false) ∧ quadNext false false false = (false, true) := by decide
theorem test_adc_small : after (.encoderAdcSample 1 0 0) (enc1 (fun e => { e with mode := .analogue, position := 100 }))
  (fun t => t.enc.encs[(1 : EncNo)].sigLoss && t.enc.encs[(1 : EncNo)].position == 100) = true := by decide +kernel
theorem test_quadrature_filter : after (.quadratureTransition 1 ⟨true, 7⟩ ⟨false, 7⟩) (enc1 (fun e => { e with mode := .digital, a := false, b := false }))
  (fun t => t.enc.encs[(1 : EncNo)].position == 0 && !t.enc.encs[(1 : EncNo)].a) = true := by decide
theorem test_quadrature : after (.quadratureTransition 1 ⟨true, 8⟩ ⟨false, 8⟩) (enc1 (fun e => { e with mode := .digital, a := false, b := false }))
  (fun t => t.enc.encs[(1 : EncNo)].position == 1 && t.enc.encs[(1 : EncNo)].quadCount == 0) = true := by decide
theorem test_quadrature_impossible : after (.quadratureTransition 1 ⟨true, 16⟩ ⟨true, 16⟩) (enc1 (fun e => { e with mode := .digital, a := false, b := false }))
  (fun t => t.enc.encs[(1 : EncNo)].position == 0 && t.enc.encs[(1 : EncNo)].quadCount == 1) = true := by decide

/-! ### Index, relays, switch sets and the tracking loop -/

/-- Encoder 1 in digital mode after an increasing count, 400 counts to a turn, at an angle. -/
def turning (ref : Bool) (angle : Nat) : State := enc1 (fun e =>
  { e with mode := .digital, lastUp := true, cpr := 400, referenced := ref, angle := angle, idxTol := 4 })

theorem witness_index_ignored : (enc1 (fun e => { e with mode := .digital, lastUp := false })).enc.encs[(1 : EncNo)].lastUp = false ∧ booted.quiet := by decide
theorem witness_index : (turning false 0).enc.encs[(1 : EncNo)].mode = .digital ∧ (turning false 0).enc.encs[(1 : EncNo)].lastUp = true ∧
    (turning false 0).enc.encs[(1 : EncNo)].cpr ≠ 0 ∧ indexDeviation 400 (moveAngle 400 0 0) = 0 ∧
    (indexDeviation 400 (moveAngle 400 4 0)).natAbs = 4 ∧ (indexDeviation 400 (moveAngle 400 396 0)).natAbs = 4 ∧
    4 < (indexDeviation 400 (moveAngle 400 5 0)).natAbs := by decide
theorem witness_restored : (enc1 (fun e => { e with lossEp := true })).enc.encs[(1 : EncNo)].lossEp = true := rfl
theorem witness_relay : booted.enc.encs[(1 : EncNo)].relay = .off ∧ booted.enc.encs[(1 : EncNo)].owed = 0 ∧
    (enc1 (fun e => { e with relay := .pass, owed := -1 })).enc.encs[(1 : EncNo)].relay ≠ .off ∧
    (enc1 (fun e => { e with relay := .pass, owed := -1 })).enc.encs[(1 : EncNo)].owed ≠ 0 := by decide
/-- Switch set 0 of inputs 0 to 2, with only combination 0 allowed, and input 0 on. -/
def badSet : State := { booted with
  enc := { booted.enc with sets := upd booted.enc.sets 0 (fun j => { j with inputs := some (0, 1, 2), allowed := 1 }) }
  motion := { booted.motion with switches := upd booted.motion.switches 0 (fun w => { w with level := true }) } }
theorem witness_set : badSet.enc.sets[(0 : Fin 5)].inputs = some (0, 1, 2) ∧
    badSet.enc.sets[(0 : Fin 5)].allowed.getLsbD (badSet.setValue (0, 1, 2)) = false ∧
    badSet.enc.sets[(0 : Fin 5)].runs badSet.time.raw = false ∧ badSet.enc.sets[(1 : Fin 5)].inputs = none ∧ badSet.quiet := by decide
theorem witness_index_rise :
    let i := (turning false 0).enc.encs[(1 : EncNo)]
    i.filter = 8 ∧ xor i.idx i.idxLow = false ∧ xor true i.idxLow = true ∧ qualify i.filter i.idx true 8 = true ∧ qualify i.filter i.idx true 7 = false := by
  decide
theorem test_index_short_pulse : after (.indexEvent 1 ⟨⟨true, 7⟩, 0⟩) (turning false 7) (fun t => !t.enc.encs[(1 : EncNo)].referenced) = true := by decide
theorem test_index_sets_the_angle : after (.indexEvent 1 ⟨⟨true, 16⟩, 0⟩) (turning false 7) (fun t => t.enc.encs[(1 : EncNo)].referenced &&
  t.enc.encs[(1 : EncNo)].angle == 0) = true := by decide
theorem test_index_fault : after (.indexEvent 1 ⟨⟨true, 16⟩, 0⟩) (turning true 5) (fun t => t.enc.encs[(1 : EncNo)].indexFault &&
  t.enc.encs[(1 : EncNo)].angle == 5) = true := by decide
theorem test_restored : after (.encSignalRestored 1) (enc1 (fun e => { e with lossEp := true })) (fun t => !t.enc.encs[(1 : EncNo)].lossEp) = true := by decide
theorem test_relay_back : after (.relayTransition 1) (enc1 (fun e => { e with relay := .pass, owed := -1 }))
  (fun t => t.enc.encs[(1 : EncNo)].owed == 0) = true := by decide
theorem test_set_bad : after (.switchSetBad 0) badSet (fun t => t.enc.sets[(0 : Fin 5)].episode) = true := by decide
theorem test_loop_off : after (.trackingLoopUpdate 1 0) booted (fun t => t.sluice.barLine == 0) = true := by decide +kernel
theorem test_loop : after (.trackingLoopUpdate 1 0) (enc1 (fun e => { e with mode := .digital, position := 5 }))
  (fun t => !t.sluice.loops[(1 : EncNo)].rest && t.sluice.barLine == 0) = true := by decide +kernel
theorem test_rest : after .restEntry (enc1 (fun e => e)) (fun t => t.sluice.loops[(0 : EncNo)].rest) = true := by decide +kernel

end Sys2Proof.Machine
end

