-- ==== Sys2Proof/Tests/LinkTests.lean ====
section
/-! SUPPORT. Witnesses of the statements about head links and lanes, and small steps of those commands. -/

namespace Sys2Proof.Machine

set_option maxRecDepth 20000
set_option Elab.async false

/-- Lane n changed. -/
def withLane (n : LaneNo) (f : LaneState → LaneState) : State := { booted with lanes := { booted.lanes with lanes := upd booted.lanes.lanes n f } }

/-- Head port 3 is ACTIVE. -/
def head3 : State := withLane 3 (fun l => { l with role := .head, fitted := true, st := .active })

/-- Head port 3 is in CAPS. -/
def caps3 : State := withLane 3 (fun l => { l with role := .head, fitted := true, st := .caps })

/-- Port 3 of head3 changed. -/
def port3 (f : HeadState → HeadState) : State := { head3 with heads := { head3.heads with ports := upd head3.heads.ports 3 f } }

/-! ### Head reports -/

theorem witness_head_ports : booted.headActive 3 = false ∧ booted.headInCaps 3 = false ∧ booted.quiet ∧ head3.headActive 3 = true ∧
    head3.headInCaps 3 = false ∧ caps3.headActive 3 = false ∧ caps3.headInCaps 3 = true ∧ head3.quiet := by decide
theorem witness_head_types : bits 0x81 7 0 ≠ 0x80 ∧ bits 0x80 7 0 = 0x80 ∧ bits 0x82 7 0 = 0x82 ∧ bits 0x84 7 0 = 0x84 ∧ bits 0x90 7 0 = 0x90 ∧
    bits 0x87 7 0 = 0x87 := by decide
theorem witness_silent : head3.heads.ports[(3 : HeadPort)].silent = false := by decide
theorem witness_line_ack : bitAt 0x581 25 = false ∧
    (port3 (fun h => { h with fires := [5] })).heads.ports[(3 : HeadPort)].fires.contains (expandLine 0 (bits 0x581 23 8)) = true ∧
    bitAt 0x2000581 25 = true ∧ head3.heads.ports[(3 : HeadPort)].miss = none ∧ bitAt 0x20000581 29 = true ∧ bitAt 0x20000581 30 = false := by decide
theorem witness_temp :
    head3.sluice.set.temps[(3 : HeadPort)].hard ≤ sbits (word [0x82, fldI 24 8 head3.sluice.set.temps[(3 : HeadPort)].hard]) 31 24 ∧
    sbits (word [0x82, fldI 24 8 head3.sluice.set.temps[(3 : HeadPort)].warn]) 31 24 = head3.sluice.set.temps[(3 : HeadPort)].warn ∧
    head3.sluice.set.temps[(3 : HeadPort)].warn < head3.sluice.set.temps[(3 : HeadPort)].hard ∧ 0 < head3.sluice.set.hyst := by decide
theorem witness_capsSent : caps3.heads.ports[(3 : HeadPort)].capsSent < 16 ∧
    16 ≤ ({ caps3 with heads := { caps3.heads with ports := upd caps3.heads.ports 3 (fun h => { h with capsSent := 16 }) } } : State).heads.ports[(3 : HeadPort)].capsSent := by
  decide
theorem witness_echo_of_a_probe : (port3 (fun h => { h with probes := [(7, 1000)] })).heads.ports[(3 : HeadPort)].probes.find?
    (fun y => y.1 == BitVec.ofNat 8 (bits 0x40787 15 8)) = some (7, 1000) ∧
    (port3 (fun h => { h with probes := [(7, 1000)] })).heads.ports[(3 : HeadPort)].probes.find? (fun y => y.1 == BitVec.ofNat 8 (bits 0x40887 15 8)) = none := by
  decide
/-- Port 3 is the one port of the map in force, and has sent ALIVE. -/
def alive3 : State := { port3 (fun h => { h with lam := some 8, alive := true }) with
  mapper := { booted.mapper with inForce := some { emptyMap with heads := [⟨3, 0, 0, []⟩] } } }
theorem witness_status : head3.silenced = false ∧ ({ head3 with sys := { head3.sys with fireStop := true } } : State).silenced = true ∧
    alive3.portUsed 3 = true ∧ alive3.headsAlive = true ∧ head3.pair.paired = false ∧ head3.heads.ownClaim = false := by decide
theorem test_alive : after (.alive 3 0xAA00000280) head3 (fun t => t.heads.ports[(3 : HeadPort)].alive && t.heads.ports[(3 : HeadPort)].selected &&
  t.heads.ports[(3 : HeadPort)].maxClaim == 0xAA) = true := by decide +kernel
theorem test_alive_of_another_type : after (.alive 3 0x81) head3 (fun t => !t.heads.ports[(3 : HeadPort)].alive) = true := by decide +kernel
theorem test_alive_timeout : after (.aliveTimeout 3) head3 (fun t => t.heads.ports[(3 : HeadPort)].silent) = true := by decide +kernel
theorem test_line_miss : after (.lineAck 3 0x581) (port3 (fun h => { h with fires := [5] })) (fun t => t.heads.ports[(3 : HeadPort)].miss == some 0) = true := by
  decide +kernel
theorem test_temp_hard : after (.temp 3 0x7F000082) head3 (fun t => t.sluice.temps[(3 : HeadPort)].hard && t.sluice.temps[(3 : HeadPort)].warn) = true := by
  decide +kernel
theorem test_hd_event : after (.hdEvent 3 0x84) head3 (fun t => t == head3) = true := by decide +kernel
theorem test_caps : after (.caps 3 0x90 (some 0)) caps3 (fun t => t.heads.ports[(3 : HeadPort)].capsSeen && !t.heads.ports[(2 : HeadPort)].capsSeen) = true := by decide +kernel
theorem test_caps_without_data : after (.caps 3 0x90 none) caps3 (fun t => !t.heads.ports[(3 : HeadPort)].capsSeen &&
  t.lanes.lanes[(3 : LaneNo)].frameErr == 1) = true := by decide +kernel
theorem test_probe : after (.latProbeSend 3 1000) head3 (fun t => t.heads.ports[(3 : HeadPort)].probes == [(0, 1000)] &&
  t.heads.ports[(3 : HeadPort)].probeSeq == 1) = true := by decide
theorem test_probe_timeout : after (.latProbeTimeout 3 7) (port3 (fun h => { h with probes := [(7, 1000)] }))
  (fun t => t.heads.ports[(3 : HeadPort)].probes.isEmpty) = true := by decide +kernel
theorem test_echo_measures : after (.latEcho 3 0x40787 1100) (port3 (fun h => { h with probes := [(7, 1000)] }))
  (fun t => t.heads.ports[(3 : HeadPort)].meas == [96]) = true := by decide +kernel
theorem test_status : after .statusSend alive3
  (fun t => t.heads.ownClaim && t.pair.claim == 1 &&
    t.heads.ports[(3 : HeadPort)].queue.contains (statusItem (statusBlock false false t.heads.fromLine 1))) = true := by decide +kernel

/-! ### Waveforms -/

/-- WAVE_LOAD of one word of depth 1 to port 3. -/
def waveCmd (n : Nat) : Cmd := { docket0 [8, 1, 0x1000, BitVec.ofNat 64 n] with tables := [[7]] }

/-- Port 3 holds a load. -/
def waved (sent : Bool) : State := { port3 (fun h => { h with waves := [⟨9, 1, [7], sent, .host 0 0, 5⟩] }) with
  heads := { (port3 (fun h => { h with waves := [⟨9, 1, [7], sent, .host 0 0, 5⟩] })).heads with waveWaits := [⟨.host 0 0, 5, 0⟩] } }

theorem witness_wave : Runs head3 0x1A true false (waveCmd 1) ∧ bits ((waveCmd 1).dw 2) 5 0 = 0 ∧ bits ((waveCmd 1).dw 1) 1 0 ≠ 3 ∧
    bits ((waveCmd 16384).dw 3) 14 0 = 16384 ∧ (∃ p : HeadPort, (bits ((waveCmd 1).dw 0) 31 0).testBit p.val = true) ∧
    (∀ p : HeadPort, (bits ((waveCmd 1).dw 0) 31 0).testBit p.val = true → head3.headActive p = true) :=
  ⟨runs_of (by decide), by decide, by decide, by decide, ⟨3, by decide⟩, by decide⟩
theorem witness_wave_bad : bits ((waveCmd 0).dw 3) 14 0 = 0 ∧ 16384 < bits ((waveCmd 16385).dw 3) 14 0 := by decide
theorem witness_wave_send : (waved false).heads.ports[(3 : HeadPort)].waves.find? (fun w => !w.sent && !(waved false).depthInUse w.depth) =
    some ⟨9, 1, [7], false, .host 0 0, 5⟩ ∧ (waved false).headActive 3 = true ∧ head3.heads.ports[(3 : HeadPort)].waves = [] := by decide
theorem witness_wave_ack : bits 0x90583 7 0 = 0x83 ∧ bitAt 0x90583 10 = true ∧ (waved true).heads.ports[(3 : HeadPort)].waves.find? (fun w =>
    w.sent && w.seq.toNat == bits 0x90583 23 16 && w.depth == bits 0x90583 9 8) = some ⟨9, 1, [7], true, .host 0 0, 5⟩ := by decide
theorem witness_wave_waits : (waved true).heads.ports[(3 : HeadPort)].waves.find? (fun w => w.sent) = some ⟨9, 1, [7], true, .host 0 0, 5⟩ := by decide
theorem test_wave_load : after (.waveLoad (waveCmd 1)) head3 (fun t => t.heads.waveWaits == [⟨.host 0 0, 5, 0⟩] &&
  t.heads.ports[(3 : HeadPort)].waves.length == 1 && last0 t == none) = true := by decide
theorem test_wave_send : after (.waveLoadSend 3) (waved false) (fun t => t.heads.ports[(3 : HeadPort)].queue.length == 1 &&
  t.heads.ports[(3 : HeadPort)].waves.all (fun w => w.sent)) = true := by decide
theorem test_wave_ack : after (.waveAck 3 0x90583) (waved true) (fun t => t.heads.ports[(3 : HeadPort)].waves.isEmpty &&
  last0 t == some (responseWord 0x1A 5 .ok 0)) = true := by decide
theorem test_wave_ack_timeout : after (.waveAckTimeout 3) (waved true)
  (fun t => t.heads.ports[(3 : HeadPort)].waves.isEmpty && (last0 t).any (fun w => bits w 55 40 != 0)) = true := by decide

/-! ### Lanes -/

/-- Lane 3 in a state. -/
def inLane (st : LaneSt) : State := withLane 3 (fun l => { l with role := .head, fitted := true, st := st, blockLock := st == .active })

/-- A training block of STATE 3, and the same block inverted. -/
def block3 : Word := word [0x0E, fld 8 4 3, fld 16 48 0x96A53C0FF0C3]
def block3n : Word := ~~~ (word [0x0E, fld 8 4 3, fld 16 48 0x96A53C0FF0C3])

theorem witness_lane_states : (inLane .detect).lanes.lanes[(3 : LaneNo)].vendor = true ∧ (inLane .detect).lanes.lanes[(3 : LaneNo)].detections = 0 ∧
    (inLane .active).lanes.lanes[(3 : LaneNo)].blockLock = true ∧ (inLane .lock).lanes.lanes[(3 : LaneNo)].blockLock = false ∧
    (inLane .lock).lanes.lanes[(3 : LaneNo)].tried = false ∧ booted.lanes.lanes[(3 : LaneNo)].st = .down ∧
    booted.lanes.lanes[(3 : LaneNo)].test = none := by decide
theorem witness_training : trainingOf 2 block3 = some (false, 3) ∧ trainingOf 1 block3n = some (true, 3) := by decide
theorem test_detect_once : after (.receiverDetectPulse 3 true) (inLane .detect) (fun t => t.lanes.lanes[(3 : LaneNo)].detections == 1) = true := by decide +kernel
theorem test_detect_lost : after (.receiverDetectPulse 3 false) (inLane .detect) (fun t => t.lanes.lanes[(3 : LaneNo)].detections == 0) = true := by decide +kernel
theorem test_cdr : after (.cdrLock 3) (inLane .train) (fun t => t.lanes.lanes[(3 : LaneNo)].st == .lock) = true := by decide +kernel
theorem test_training_wakes : after (.trainingBlock 3 2 block3 243) (inLane .wait) (fun t => t.lanes.lanes[(3 : LaneNo)].st == .train) = true := by decide +kernel
theorem test_lock_inverts : after (.trainingBlock 3 1 block3n 64) (inLane .lock) (fun t => t.lanes.lanes[(3 : LaneNo)].inverted) = true := by decide +kernel
theorem test_lane_timeout : after (.laneStateTimeout 3) (inLane .lock) (fun t => t.lanes.lanes[(3 : LaneNo)].st == .wait &&
  t.lanes.lanes[(3 : LaneNo)].backoff == 1) = true := by decide +kernel
theorem test_lane_idle : after (.electricalIdle 3) (inLane .active) (fun t => t.lanes.lanes[(3 : LaneNo)].st == .detect) = true := by decide +kernel
theorem test_backoff_cycle : after (.backoffWaitEnd 3) (withLane 3 (fun l => { l with role := .head, st := .wait, backoff := 11 }))
  (fun t => t.lanes.lanes[(3 : LaneNo)].st == .detect && t.lanes.lanes[(3 : LaneNo)].backoff == 0) = true := by decide +kernel
theorem test_lock_loss : after (.blockLockLoss 3) (inLane .active) (fun t => t.lanes.lanes[(3 : LaneNo)].lockLoss == 1 &&
  t.lanes.lanes[(3 : LaneNo)].st == .detect) = true := by decide +kernel
theorem test_lane_errors : after (.laneErrors 3 ⟨2, 1⟩) (inLane .active) (fun t => t.lanes.lanes[(3 : LaneNo)].codeErr == 2 &&
  t.lanes.lanes[(3 : LaneNo)].elastic == 1) = true := by decide +kernel

theorem witness_lane_control : Runs head3 0xD0 false false (word0 3) ∧ Runs head3 0xD0 false false (word0 0x43) ∧
    (word0 0x43).argBits 6 6 = 1 ∧ (word0 3).argBits 6 6 = 0 ∧ head3.lanes.lanes[(3 : LaneNo)].vendor = true ∧ head3.print.started = false ∧
    booted.lanes.lanes[(3 : LaneNo)].vendor = false := ⟨runs_of (by decide), runs_of (by decide), by decide, by decide, by decide, rfl, by decide⟩
theorem witness_lane_busy : ({ head3 with print := { head3.print with started := true } } : State).print.started = true ∧
    head3.lanes.lanes[(3 : LaneNo)].role = .head := by decide
theorem witness_loopback : Runs head3 0xD1 false false (word0 0x243) ∧ head3.loopBusy 3 = false ∧
    head3.permits 3 ((word0 0x243).argBits 8 6) = true ∧ (word0 0x243).argBits 24 9 = 1 ∧
    head3.permits 3 ((word0 0x143).argBits 8 6) = false ∧ (word0 0x43).argBits 24 9 = 0 ∧
    60000 < (word0 0x1D4C243).argBits 24 9 := ⟨runs_of (by decide), by decide, by decide, by decide, by decide, by decide, by decide⟩
theorem witness_loopback_busy : (withLane 60 (fun l => { l with role := .pcie })).loopBusy 60 = true := by decide
theorem witness_loopback_end : (withLane 3 (fun l => { l with role := .head, st := .loopback, test := some ⟨1, .host 0 0, 5, 0xD1⟩ })).lanes.lanes[(3 : LaneNo)].test =
    some ⟨1, .host 0 0, 5, 0xD1⟩ := by decide
theorem test_lane_off : after (.laneControl (word0 3)) head3 (fun t => t.lanes.lanes[(3 : LaneNo)].st == .down &&
  last0 t == some (responseWord 0xD0 5 .ok 0)) = true := by decide +kernel
theorem test_lane_busy : after (.laneControl (word0 3)) { head3 with print := { head3.print with started := true } }
  (fun t => last0 t == some (responseWord 0xD0 5 .laneBusy 3)) = true := by decide +kernel
theorem witness_loopback_camera : (withLane 48 (fun l => { l with role := .camera })).permits 48 4 = false := by decide
theorem witness_lane_errors : (inLane .active).lanes.lanes[(3 : LaneNo)].st ≠ .down ∧ booted.lanes.lanes[(3 : LaneNo)].role ≠ .camera ∧
    booted.quiet := by decide
theorem test_loopback : after (.loopback (word0 0x243)) head3 (fun t => t.lanes.lanes[(3 : LaneNo)].st == .loopback &&
  (last0 t).all (fun w => bits w 63 56 != 0xD1)) = true := by decide +kernel
theorem test_loopback_end : after (.loopbackEnd 3 ⟨0, true, false⟩) (withLane 3 (fun l =>
    { l with role := .head, st := .loopback, test := some ⟨1, .host 0 0, 5, 0xD1⟩ })) (fun t => t.lanes.lanes[(3 : LaneNo)].st == .detect &&
  (last0 t).any (fun w => bits w 63 56 == 0xD1)) = true := by decide +kernel
theorem test_jtag : after (.jtagInstruction .other) booted (fun t => t.sec.jtagStop) = true := by decide

end Sys2Proof.Machine
end

