-- ==== Sys2Proof/Tests/MotionTests.lean ====
section
/-! SUPPORT. Witnesses of the statements about time and motion, and small steps of those commands. -/

namespace Sys2Proof.Machine

set_option maxRecDepth 20000
set_option Elab.async false

/-- The booted device with its clock locked and its timebase changed. -/
def withTime (f : TimePart → TimePart) : State := { booted with time := f { booted.time with locked := true } }

/-- Compare trigger 2 is armed for 1000 ns with a PERIOD. -/
def armed2 (p : Nat) : State := withTime (fun t => { t with raw := 900, triggers := upd t.triggers 2 (fun c => { c with armed := true, value := 1000, period := p }) })

/-! ### Triggers and PPS -/

theorem witness_trigger_arm : Runs booted 0x91 true false (docket0 [2, 1000, 0, 0]) ∧ Runs booted 0x91 true false (docket0 [2, 1000, 999, 0]) ∧
    ((docket0 [2, 1000, 999, 0]).dw 2).toNat ≠ 0 ∧ ((docket0 [2, 1000, 999, 0]).dw 2).toNat < 1000 ∧ ((docket0 [2, 1000, 0, 0]).dw 2).toNat = 0 ∧
    1000 ≤ ((docket0 [2, 1000, 1000, 0]).dw 2).toNat ∧ ((docket0 [2, 1000, 1000, 0]).dw 2).toNat < 2 ^ 48 ∧
    2 ^ 48 ≤ ((docket0 [2, 1000, 0x1000000000000, 0]).dw 2).toNat := ⟨runs_of (by decide), runs_of (by decide), by decide, by decide, by decide, by decide, by decide, by decide⟩
theorem witness_trigger_disarm : Runs (armed2 0) 0x92 false false (word0 2) := runs_of (by decide)
theorem witness_time_step : Runs booted 0x93 true false (docket0 [5, 0, 0, 0]) ∧ Runs printing 0x93 true false (docket0 [0xFFFFFFFFFFFFFFFF, 0, 0, 0]) ∧
    0 ≤ ((docket0 [5, 0, 0, 0]).dw 0).toInt ∧ ((docket0 [0xFFFFFFFFFFFFFFFF, 0, 0, 0]).dw 0).toInt < 0 ∧ printing.print.started = true ∧
    booted.print.started = false ∧ booted.time.offset = wrap64 booted.time.offset ∧ ((docket0 [5, 0, 0, 0]).dw 0).toInt ≠ 0 :=
  ⟨runs_of (by decide), runs_of (by decide), by decide, by decide, by decide, by decide, by decide, by decide⟩
theorem witness_pps_second : Runs booted 0x94 false false (word0 7) := runs_of (by decide)
theorem witness_compare : (armed2 0).time.triggers[(2 : CmpNo)].armed = true ∧ ((1000 : Nat) : Int) ≤ ((armed2 0).reach 1000).now ∧
    ((armed2 0).reach 999).now < ((1000 : Nat) : Int) ∧ (armed2 0).quiet ∧ booted.time.triggers[(2 : CmpNo)].armed = false ∧
    (armed2 0).time.triggers[(2 : CmpNo)].period = 0 ∧ (armed2 1500).time.triggers[(2 : CmpNo)].period ≠ 0 := by decide
/-- The device is the time master, steered by PPS. -/
def ppsMaster : State := { booted with time := { booted.time with pps := true, master := 0x005, sync := .master }, fab := { booted.fab with node := 0x005 } }
theorem witness_pps : (booted.time.pps && booted.isMaster) = false ∧ (ppsMaster.time.pps && ppsMaster.isMaster) = true ∧ booted.quiet ∧
    booted.time.ppsEnable = false ∧ (withTime (fun t => { t with ppsEnable := true })).time.ppsEnable = true := by decide
theorem test_trigger_arm : after (.triggerArm (docket0 [2, 1000, 0, 0])) booted (fun t => t.time.triggers[(2 : CmpNo)].armed &&
  t.time.triggers[(2 : CmpNo)].value == 1000 && !t.time.triggers[(2 : CmpNo)].passed) = true := by decide +kernel
theorem test_trigger_arm_short_period : after (.triggerArm (docket0 [2, 1000, 999, 0])) booted
  (fun t => last0 t == some (responseWord 0x91 5 .argBad 0)) = true := by decide +kernel
theorem test_trigger_disarm : after (.triggerDisarm (word0 2)) (armed2 0) (fun t => !t.time.triggers[(2 : CmpNo)].armed &&
  last0 t == some (responseWord 0x92 5 .ok 0)) = true := by decide +kernel
theorem test_time_step : after (.timeStep (docket0 [5, 0, 0, 0])) booted (fun t => t.time.offset == 5 && t.now == 5) = true := by decide +kernel
theorem test_time_step_back : after (.timeStep (docket0 [0xFFFFFFFFFFFFFFFF, 0, 0, 0])) printing
  (fun t => last0 t == some (responseWord 0x93 5 .printActive 0) && t.time.offset == 0) = true := by decide +kernel
theorem test_pps_second : after (.ppsSecond (word0 7)) booted (fun t => t.time.ppsSecond == some 7) = true := by decide +kernel
theorem test_compare_single : after (.compareTrigger 2 1000) (armed2 0) (fun t => !t.time.triggers[(2 : CmpNo)].armed &&
  t.time.triggers[(2 : CmpNo)].fired == 1 && !t.time.triggers[(2 : CmpNo)].late) = true := by decide +kernel
/-- From R497: the next value is the first above T. -/
theorem test_compare_periodic : after (.compareTrigger 2 4000) (armed2 1500) (fun t => t.time.triggers[(2 : CmpNo)].armed &&
  t.time.triggers[(2 : CmpNo)].value == 5500) = true := by decide +kernel
theorem test_pps_in : after (.ppsInEdge 77) (withTime (fun t => { t with ppsSecond := some 8 })) (fun t => t.time.capture == 77 &&
  t.time.ppsSecond == some 9) = true := by decide +kernel
theorem test_pps_out : after (.ppsOutSecond 77) (withTime (fun t => { t with ppsEnable := true })) (fun t => t.time.ppsOut) = true := by decide +kernel
theorem test_pps_out_end : after .ppsOutPulseEnd (withTime (fun t => { t with ppsOut := true })) (fun t => !t.time.ppsOut) = true := by decide +kernel

/-! ### Network time -/

/-- A follower of node 7 with REQ 3 sent at 100. -/
def follower (f : TimePart → TimePart) : State := withTime (fun t => f { t with master := 7, raw := 100, lastReq := some (3, 100), reqSeq := 4 })
theorem witness_follower : (follower id).isMaster = false ∧ (follower id).timeMaster ≠ 0 ∧ (follower id).sys.power ≠ .dormant ∧ (follower id).quiet ∧
    ppsMaster.isMaster = true ∧ booted.timeMaster = 0 ∧ booted.isMaster = false := by decide
theorem witness_time_req : bits 0x30001 3 0 = 1 ∧ ppsMaster.isMaster = true ∧ bits 0x30002 3 0 ≠ 1 := by decide
theorem witness_time_resp : bits 0x30002 3 0 = 2 ∧ (follower id).time.sync ≠ .master ∧ (follower id).time.lastReq = some (3, 100) ∧
    bits 0x30002 31 16 = (3 : BitVec 16).toNat ∧ (((follower id).reach 200).time.raw - 100).toNat ≤ 10000000 ∧ bits 0x40002 31 16 ≠ (3 : BitVec 16).toNat ∧
    (follower id).time.best = none ∧ (follower (fun t => { t with best := some (8, 4) })).time.best = some (8, 4) := by decide
theorem witness_servo : (follower (fun t => { t with best := some (8, 4) })).time.sync = .free ∧
    ppsMaster.time.sync = .master ∧ (0 : Int) < 8 ∧ ¬ ((follower (fun t => { t with sync := .locked })).time.sync = .free ∨
      ((follower id).time.stepLimit : Int) < (8 : Int).natAbs * 500) ∧ (-8 : Int) ≤ 0 ∧
    ({ follower id with print := { booted.print with started := true } } : State).print.started = true ∧ (0 : Int) = wrap64 0 := by decide
theorem witness_time_lost : booted.time.sync = .free ∧ (follower (fun t => { t with sync := .locked })).time.sync = .locked ∧ booted.quiet := by decide
theorem test_time_req_send : after (.timeReqSend 200) (follower id) (fun t => t.time.reqSeq == 5 && t.time.lastReq == some (4, 200)) = true := by decide +kernel
theorem test_time_resp : after (.timeResp 7 0x30002 100 1100 1110 300) (follower id) (fun t => t.time.theta2 == 1810 && t.time.best == some (1810, 190)) = true := by
  decide +kernel
theorem test_time_resp_stale : after (.timeResp 7 0x40002 100 1100 1110 300) (follower id) (fun t => t.time.best == none) = true := by decide +kernel
theorem test_time_lost : after .timeLost (follower (fun t => { t with sync := .locked, rate := 44 })) (fun t => t.time.sync == .free && t.time.rate == 44) = true := by
  decide +kernel
theorem test_time_servo_none : after (.timeServo 300) (follower (fun t => { t with sync := .locked, goodSecs := 3 })) (fun t => t.time.goodSecs == 0 &&
  t.time.sync == .locked) = true := by decide +kernel

/-! ### Moves -/

/-- Axis 1 changed; every axis is enabled. -/
def withAxis (f : AxisState → AxisState) : State := { booted with motion := { booted.motion with
  axes := upd booted.motion.axes 1 (fun x => f { x with set := { x.set with enable := true, limitNeg := some 4, limitPos := some 5, homeInput := some 6 } }) } }

theorem witness_blocked : booted.motion.axes[(1 : AxisNo)].set.enable = false ∧ (withAxis id).motion.axes[(1 : AxisNo)].set.enable = true ∧
    (withAxis id).motion.axes[(1 : AxisNo)].coilFault = false ∧
    (withAxis (fun x => { x with limitDecel := true })).motion.axes[(1 : AxisNo)].limitDecel = true ∧
    (withAxis id).motion.axes[(1 : AxisNo)].limitDecel = false ∧
    (withAxis (fun x => { x with set := { x.set with interlock := true } })).motion.axes[(1 : AxisNo)].set.interlock = true ∧
    ((withAxis id).motion.axes[(1 : AxisNo)].set.interlock && (withAxis id).print.started) = false ∧
    ({ withAxis id with motion := { (withAxis id).motion with switches := upd (withAxis id).motion.switches 4 (fun w => { w with level := true }) } } : State).motion.switches[(4 : SwitchNo)].level = true ∧
    (withAxis id).motion.axes[(1 : AxisNo)].set.limitNeg = some 4 := by decide
theorem witness_move : Runs (withAxis id) 0x51 true false (docket0 [1, 500, 0, 0]) ∧ bits ((docket0 [1, 500, 0, 0]).dw 0) 3 2 < 2 ∧
    2 ≤ bits ((docket0 [9, 500, 0, 0]).dw 0) 3 2 ∧ (withAxis id).axisBlocked 1 500 = none ∧ booted.axisBlocked 1 500 = some 0 :=
  ⟨runs_of (by decide), by decide, by decide, by decide, by decide⟩
theorem witness_axis_stop : Runs (withAxis id) 0x52 false false (word0 1) ∧ (word0 5).arg.getLsbD 2 = true ∧ (word0 1).arg.getLsbD 2 = false ∧
    (withAxis id).motion.axes[(1 : AxisNo)].atRest = true ∧
    (withAxis (fun x => { x with move := some ⟨.speed 1000, x.set.limits⟩, vel := 5 })).motion.axes[(1 : AxisNo)].atRest = false :=
  ⟨runs_of (by decide), by decide, by decide, by decide, by decide⟩
theorem witness_home : Runs (withAxis id) 0x53 false false (word0 1) ∧ (withAxis id).axisBlocked 1 (-1) = none ∧ (withAxis id).atHome 1 = false ∧
    (withAxis id).motion.axes[(1 : AxisNo)].set.homeInput.isSome = true ∧ booted.axisBlocked 1 (-1) = some 0 ∧
    (withAxis (fun x => { x with set := { x.set with homeInput := none } })).motion.axes[(1 : AxisNo)].set.homeInput = none :=
  ⟨runs_of (by decide), by decide, by decide, by decide, by decide, by decide⟩
theorem test_move : after (.move (docket0 [1, 500, 0, 0])) (withAxis id) (fun t => t.motion.axes[(1 : AxisNo)].next.isSome &&
  last0 t == some (responseWord 0x51 5 .ok 0)) = true := by decide
theorem test_move_disabled : after (.move (docket0 [0, 500, 0, 0])) (withAxis id) (fun t => t.motion.axes[(0 : AxisNo)].next.isNone &&
  last0 t == some (responseWord 0x51 5 .axisBlocked 0)) = true := by decide
theorem test_stop_fast : after (.stop (word0 5)) (withAxis (fun x => { x with move := some ⟨.speed 1000, x.set.limits⟩, vel := 5 }))
  (fun t => t.motion.axes[(1 : AxisNo)].limitDecel && t.motion.axes[(1 : AxisNo)].vel == 5) = true := by decide
theorem test_home : after (.home (word0 1)) (withAxis id) (fun t => t.motion.axes[(1 : AxisNo)].homing == some .seek) = true := by decide

/-! ### Updates, switches and coils -/

theorem witness_profile : (∀ l, (withAxis id).motion.axes[(1 : AxisNo)].homing ≠ some (.rebase l)) ∧ (withAxis id).motion.axes[(1 : AxisNo)].move = none ∧
    (∀ m, (withAxis id).motion.axes[(1 : AxisNo)].next ≠ some (m, none)) ∧
    (withAxis (fun x => { x with next := some (⟨.speed 1000, x.set.limits⟩, none) })).motion.axes[(1 : AxisNo)].next =
      some (⟨.speed 1000, (withAxis id).motion.axes[(1 : AxisNo)].set.limits⟩, none) ∧
    (withAxis (fun x => { x with homing := some (.rebase 3) })).motion.axes[(1 : AxisNo)].homing = some (.rebase 3) := by
  refine ⟨?_, rfl, ?_, by decide, by decide⟩ <;> intro _ h <;> cases h
/-- Axis 1 is moving up. -/
def movingUp : State := withAxis (fun x => { x with move := some ⟨.speed 1000, x.set.limits⟩, vel := 5 })
/-- A switch input shows its other level. -/
def shows (k : SwitchNo) (s : State) : State := { s with motion := { s.motion with switches := upd s.motion.switches k (fun w =>
  { w with raw := !xor w.level w.activeLow }) } }
theorem witness_profile_dormant : ({ booted with sys := { booted.sys with power := .dormant } } : State).sys.power = .dormant ∧
    (withAxis id).sys.power ≠ .dormant ∧ booted.quiet := by decide
/-- Axis 1 with INTERLOCK while printing; a move waits. -/
def interlocked : State := { withAxis (fun x => { x with set := { x.set with interlock := true }, next := some (⟨.speed 1000, x.set.limits⟩, none) })
  with print := printing.print }
theorem witness_profile_held : interlocked.moveHeld 1 (.speed 1000) = true ∧ interlocked.moveHeld 1 .stop = false ∧
    (withAxis id).moveHeld 1 (.speed 1000) = false := by decide +kernel
/-- The positive limit of axis 1 is on, and a move toward it waits. -/
def atLimit : State := shows 5 (withAxis (fun x => { x with next := some (⟨.speed 1000, x.set.limits⟩, none) }))
def onLimit : State := { atLimit with motion := { atLimit.motion with switches := upd atLimit.motion.switches 5 (fun w => { w with level := true }) } }
theorem witness_profile_limit : onLimit.limitAhead 1 (onLimit.motion.axes[(1 : AxisNo)].toward (.speed 1000)) = some 2 ∧
    onLimit.moveHeld 1 (.speed 1000) = false ∧ onLimit.motion.axes[(1 : AxisNo)].limitDecel = false ∧
    onLimit.motion.axes[(1 : AxisNo)].vel = 0 ∧ onLimit.motion.axes[(1 : AxisNo)].acc = 0 := by decide +kernel
theorem test_profile_held : after (.profileUpdate 1) interlocked (fun t => t.motion.axes[(1 : AxisNo)].next.isSome &&
  t.motion.axes[(1 : AxisNo)].move.isNone) = true := by decide +kernel
theorem test_profile_limit : after (.profileUpdate 1) onLimit (fun t => t.motion.axes[(1 : AxisNo)].next.isNone &&
  t.motion.axes[(1 : AxisNo)].move.isNone) = true := by decide +kernel
theorem witness_set_holds : (withAxis id).setHolds 1 = false ∧ ({ withAxis id with enc := { booted.enc with
    sets := upd booted.enc.sets 0 (fun j => { j with inputs := some (0, 1, 2), allowed := 1, stop := true, axis := some 1, episode := true }) } } :
    State).setHolds 1 = true := by decide +kernel
theorem witness_switch : (withAxis id).motion.axes[(1 : AxisNo)].set.limitPos = some 5 ∧ (withAxis id).motion.axes[(1 : AxisNo)].set.homeInput = some 6 ∧
    movingUp.motion.axes[(1 : AxisNo)].atRest = false ∧ 0 < movingUp.motion.axes[(1 : AxisNo)].heading ∧
    (withAxis (fun x => { x with homing := some .seek })).motion.axes[(1 : AxisNo)].homing = some .seek ∧
    true ≠ (withAxis id).motion.axes[(1 : AxisNo)].set.homeInactive ∧ (withAxis id).quiet := by decide
theorem witness_switch_filter :
    let w := (shows 5 (withAxis id)).motion.switches[(5 : SwitchNo)]
    qualify w.filter w.level (xor w.raw w.activeLow) w.filter = true ∧ w.level = false ∧
      (0 < w.filter → qualify w.filter w.level (xor w.raw w.activeLow) (w.filter - 1) = w.level) := by decide
theorem witness_motion_hold : (withAxis id).motion.axes[(1 : AxisNo)].holdWait = false ∧
    (withAxis (fun x => { x with holdWait := true })).motion.axes[(1 : AxisNo)].holdWait = true := by decide
/-- Axis 1 with a target of 64 in coil A, thresholds 68 and 60. -/
def coilOn (d : Bool) : State := withAxis (fun x => { x with coilA := { x.coilA with
  target := 64, drive := d, tOn := if d then none else some 9000 } })
theorem witness_chopper :
    let c := (coilOn true).motion.axes[(1 : AxisNo)].coil .a
    let o := (coilOn false).motion.axes[(1 : AxisNo)].coil .a
    (coilOn true).chops 1 .a = true ∧ (coilOn true).chops 0 .a = false ∧ c.upper = 68 ∧ o.lower = 60 ∧ c.drive = true ∧ o.drive = false ∧
    c.blanked 1000 = false ∧ c.blanked 999 = true ∧ ¬ 256 * 68 + 1 ≤ 256 * c.upper ∧ 256 * 68 ≤ 256 * c.upper ∧
    ¬ 256 * o.lower ≤ 256 * 60 - 1 ∧ o.cyc.adapt = true ∧ o.tOn = some 9000 ∧ booted.health.runs = [] ∧
    (ofsCycle o.cyc.hyst o.cyc.delayNs 9000 9000).isSome = true := by decide +kernel
theorem witness_coil_fault : (coilOn true).mayFault 1 .a .openCoil = true ∧ (coilOn false).mayFault 1 .a .openCoil = false ∧
    booted.mayFault 1 .a .short = false ∧ (coilOn true).mayFault 1 .a .short = true := by decide +kernel
theorem test_profile_starts : after (.profileUpdate 1) (withAxis (fun x => { x with next := some (⟨.speed 1000, x.set.limits⟩, none) }))
  (fun t => t.motion.axes[(1 : AxisNo)].move.isSome && t.motion.axes[(1 : AxisNo)].next.isNone && decide (0 < t.motion.axes[(1 : AxisNo)].acc)) = true := by decide +kernel
theorem test_switch_raw : after (.switchRawChange 5 true) (withAxis (fun x => { x with pos := 3 * 2 ^ 32 })) (fun t => t.motion.switches[(5 : SwitchNo)].raw &&
  t.motion.switches[(5 : SwitchNo)].recorded[(1 : AxisNo)] == 3) = true := by decide +kernel
theorem test_switch_limit : after (.switchQualified 5 65535) (shows 5 movingUp)
  (fun t => t.motion.axes[(1 : AxisNo)].limitDecel && t.motion.axes[(1 : AxisNo)].latch.isSome) = true := by decide +kernel
theorem test_switch_home : after (.switchQualified 6 65535)
  (shows 6 (withAxis (fun x => { x with homing := some .seek, move := some ⟨.speed 1000, x.set.limits⟩, vel := 5 })))
  (fun t => t.motion.axes[(1 : AxisNo)].homing == some (.rebase 0)) = true := by decide +kernel
theorem test_hold : after (.holdDelay 1) (withAxis (fun x => { x with holdWait := true, holding := false }))
  (fun t => t.motion.axes[(1 : AxisNo)].holding && !t.motion.axes[(1 : AxisNo)].holdWait) = true := by decide +kernel
theorem test_chop_off : after (.chopperTransition 1 .a ⟨8000, 256 * 69⟩) (coilOn true) (fun t => !t.motion.axes[(1 : AxisNo)].coilA.drive &&
  t.motion.axes[(1 : AxisNo)].coilA.tOn == some 8000) = true := by decide +kernel
theorem test_chop_below_upper : after (.chopperTransition 1 .a ⟨8000, 256 * 68⟩) (coilOn true)
  (fun t => t.motion.axes[(1 : AxisNo)].coilA.drive) = true := by decide +kernel
theorem test_chop_disabled : after (.chopperTransition 0 .a ⟨8000, 256 * 69⟩) (coilOn true) (fun t => !t.motion.axes[(0 : AxisNo)].coilA.drive) = true := by decide +kernel
theorem test_coil_fault : after (.coilFault 1 .a .openCoil) (coilOn true) (fun t => t.motion.axes[(1 : AxisNo)].coilFault &&
  t.motion.axes[(1 : AxisNo)].coilA.target == 0) = true := by decide +kernel

end Sys2Proof.Machine
end

