-- ==== Sys2Proof/Tests/ParcelTests.lean ====
section
/-! SUPPORT. Witnesses of the statements about parcels, and small steps of the headrace. -/

namespace Sys2Proof.Machine

set_option maxRecDepth 20000
set_option Elab.async false

/-- A parcel under the session key of channel 0, as PARCEL_LOAD names it: one fragment of n bytes. -/
def loadOf (n : Nat) : LoadReq :=
  { src := .host 0, origin := .host 0 0, tag := 5, opcode := 0x30, total := n, bufAddr := 0, bufLen := 0, xfer := none }

/-- The header of a PAGE parcel of 64 payload bytes: PARCEL_ID 9, SEQUENCE 1. -/
def pageHeader : List Word := [word [1, fld 8 8 1, fld 32 32 9], 64, 1, 0, 0, 0, 0, 0]

/-- Channel 0 has an open session, and its load waits. -/
def inSession : State :=
  { booted with
    sec := { booted.sec with sessions := booted.sec.sessions.set 0 (some { key := 3, salt := 4, highest := 0 }) }
    store := { booted.store with waiting := [loadOf 192] } }

/-- That load has slot 0, with the header given and the words of its body. -/
def flying (h : Option (List Word)) (got : List Word) : State :=
  { inSession with store := { inSession.store with
    waiting := []
    flights := inSession.store.flights.set 0 (some { req := loadOf 192, header := h, key := 3, salt := 4, got := got, alloc := 1, verified := false }) } }

/-- PARCEL_LOAD's docket of one fragment of n bytes at address 0x1000. -/
def loadDocket (n : Nat) : List Word := [1, 0, 0, 0, 0x1000, BitVec.ofNat 64 n]

theorem witness_load : Runs booted 0x30 true false (docket0 (loadDocket 192)) ∧ booted.host.busMaster = true ∧
    loadDocketBad (docket0 (loadDocket 192)) = false := ⟨runs_of (by decide), by decide, by decide⟩
theorem test_load_of_64_fragments : loadDocketBad (docket0 ([64, 0, 0, 0] ++ (List.replicate 64 [0x1000, 64]).flatten)) = false := by decide
theorem test_load_of_65_fragments : loadDocketBad (docket0 ([65, 0, 0, 0] ++ (List.replicate 65 [0x1000, 64]).flatten)) = true := by decide
/-- Node 9 has a channel to this device. -/
def withPeer : State := { booted with fab := { booted.fab with channels := [openChannel 9 2] } }

theorem witness_offer : Runs withPeer 0x73 false false { word0 0x18000001 with origin := .peer 9 2 } := runs_of (by decide)
theorem witness_slot : inSession.quiet ∧ inSession.store.freeSlotNo = some 0 ∧ inSession.store.nextLoad = some (loadOf 192) ∧
    inSession.sys.power ≠ .dormant ∧ (loadOf 192).xfer = none ∧ inSession.cist.level ≠ 3 ∧ inSession.host.d3hot = false :=
  ⟨rfl, by decide, rfl, by decide, rfl, by decide, rfl⟩
theorem test_load_waits : after (.parcelLoad (docket0 (loadDocket 192))) booted
  (fun t => t.store.waiting == [loadOf 192] && last0 t == none) = true := by decide
theorem test_slot_start : after .parcelSlotStart inSession (fun t => t.store.waiting.isEmpty && t.sent == [.parcelRead 0] &&
  t.store.flights[(0 : SlotNo)] == some { req := loadOf 192, header := none, key := 0, salt := 0, got := [], alloc := 0, verified := false }) = true := by decide

theorem witness_timeout : Runs booted 0x32 false false (word0 10) ∧ 10 ≤ ((word0 10).arg.extractLsb' 0 16).toNat ∧
    ((word0 60000).arg.extractLsb' 0 16).toNat ≤ 60000 := ⟨runs_of (by decide), by decide, by decide⟩
theorem witness_timeout_short : Runs booted 0x32 false false (word0 9) ∧ ((word0 9).arg.extractLsb' 0 16).toNat < 10 :=
  ⟨runs_of (by decide), by decide⟩
theorem witness_timeout_long : Runs booted 0x32 false false (word0 60001) ∧ 60000 < ((word0 60001).arg.extractLsb' 0 16).toNat :=
  ⟨runs_of (by decide), by decide⟩
theorem witness_store_info : Runs booted 0x33 false false (word0 0) := runs_of (by decide)
theorem test_timeout : after (.parcelTimeout (word0 10)) booted (fun t => t.store.timeoutMs == 10 &&
  last0 t == some (responseWord 0x32 5 .ok (low40 booted.store.timeoutMs))) = true := by decide

/-- A STAMP layer of no block, and the same layer under a committed page. -/
def stamp : LayerDesc := { id := 3, kind := .stamp, depth := 0, generated := false, masked := false, lines := 64
                           posOffset := 0, positions := 64, generator := 0 }

/-- Layer 3 is stored, beside a generator 4. -/
def holding : State := { booted with store := { booted.store with
  layers := [{ desc := stamp, blocks := [] }]
  generators := [{ id := 4, datamatrix := true, ink := 1, rotate := false, glyphSet := 0, symbolSize := 22, moduleW := 2, moduleH := 2
                   quiet := 1, digits := 8, template := [1] }] } }

/-- Page 7 refers to layer 3 and is committed. -/
def usingLayer : State :=
  let d : PageDesc :=
    { id := 7, length := 64, mode := 0, carriage := false, reverse := false, gap := 0, serialised := false, checkStrip := false
      inspect := false, holdAbort := false, slot := 0, hostTag := 0, refs := [⟨3, 0, 0, 0⟩] }
  { holding with
    store := { holding.store with pages := [{ desc := d, state := .committed }] }
    print := { holding.print with queue := [{ desc := d, rate := 1000, commitLine := none, start := none, bound := none, held := none
                                              serial := none }] } }

/-- GENERATOR_DEFINE's docket: a DATAMATRIX generator 4 of size 22 with the template byte 1. -/
def generatorDocket : List Word :=
  [word [4, fld 32 4 2, fld 36 4 1], word [fld 32 8 22, fld 40 4 2, fld 44 4 2, fld 48 4 1], word [1, fld 8 4 8], 0, 1]

theorem witness_layer_delete : Runs holding 0x31 false false (word0 3) ∧
    findLayer holding.store.layers ((word0 3).arg.setWidth 32) = some { desc := stamp, blocks := [] } ∧
    holding.layerUsed 3 = false := ⟨runs_of (by decide), rfl, by decide⟩
theorem witness_layer_used : Runs usingLayer 0x31 false false (word0 3) ∧ usingLayer.layerUsed 3 = true := ⟨runs_of (by decide), by decide⟩
theorem witness_generator_define : Runs holding 0x35 true true (secureDocket0 generatorDocket) ∧
    holding.generatorReason (secureDocket0 generatorDocket).docket = none ∧
    holding.generatorUsed (parseGenerator (secureDocket0 generatorDocket).docket).id = false :=
  ⟨runs_of (by decide), by decide, by decide⟩
theorem witness_generator_delete : Runs holding 0x36 false false (word0 4) ∧ (∃ g ∈ holding.store.generators, g.id = (word0 4).arg.setWidth 32) ∧
    holding.generatorUsed 4 = false := ⟨runs_of (by decide), by decide, by decide⟩
theorem test_layer_delete : after (.layerDelete (word0 3)) holding (fun t => t.store.layers.isEmpty &&
  last0 t == some (responseWord 0x31 5 .ok 0)) = true := by decide
theorem test_layer_in_use : after (.layerDelete (word0 3)) usingLayer (fun t => !t.store.layers.isEmpty &&
  last0 t == some (responseWord 0x31 5 .layerInUse 3)) = true := by decide
theorem test_generator_delete : after (.generatorDelete (word0 4)) holding (fun t => t.store.generators.isEmpty) = true := by decide

theorem witness_header : (flying none []).quiet ∧ (flying none []).sec.openWaits = [] ∧ pageHeader.length = 8 ∧
    (flying none []).placeHeld.arrived (loadOf 192) 0 pageHeader = true ∧ (flying none []).loadRefused (loadOf 192) pageHeader = false ∧
    (flying none []).headerField (loadOf 192) pageHeader = none ∧
    (flying none []).highestSeq (loadOf 192) pageHeader < seqCount pageHeader ∧
    parcelUnits pageHeader ≤ (flying none []).unitsFree ∧ (flying none []).parcelKey (.host 0) (bits (wordAt pageHeader 0) 23 16) = some (3, 4) :=
  ⟨rfl, rfl, by decide, by decide, by decide, by decide, by decide, by decide, rfl⟩
theorem witness_header_field : (flying none []).headerField (loadOf 192) (2 :: pageHeader.drop 1) = some 1 ∧
    (flying none []).headerField (loadOf 256) pageHeader = some 4 := by decide
theorem witness_header_replay : (flying none []).headerField (loadOf 192) (pageHeader.set 2 0) = none ∧
    seqCount (pageHeader.set 2 0) ≤ (flying none []).highestSeq (loadOf 192) (pageHeader.set 2 0) := by decide
theorem witness_body : (flying (some pageHeader) []).store.flights[(0 : SlotNo)] =
      some { req := loadOf 192, header := some pageHeader, key := 3, salt := 4, got := [], alloc := 1, verified := false } ∧
    ([] : List Word).length + (List.replicate 16 (0 : Word)).length ≤ bodyWords pageHeader ∧
    (flying (some pageHeader) []).placeHeld.arrived (loadOf 192) 8 (List.replicate 16 0) = true ∧ ([] : List Word).length < bodyWords pageHeader :=
  ⟨rfl, by decide, by decide, by decide⟩

/-- The same state with one burst that holds poison. -/
def withPoison (b : BitVec 30) (s : State) : State := { s with dram := { s.dram with poisoned := [b] } }

/-- What slot 0 holds of that parcel. -/
def staging : Flight := { req := loadOf 192, header := some pageHeader, key := 3, salt := 4, got := [], alloc := 1, verified := false }

theorem witness_stage_kept : ((flying (some pageHeader) []).placeHeld.stage staging pageHeader 0 2).2 = false := by decide
/-- Two words written into a poisoned burst of the parcel's place are a merge that is lost; eight words are a whole burst (R586). -/
theorem witness_stage_lost :
    ((withPoison (BitVec.ofNat 30 (regionBase 8)) (flying (some pageHeader) [])).placeHeld.stage staging pageHeader 0 2).2 = true ∧
    ((withPoison (BitVec.ofNat 30 (regionBase 8)) (flying (some pageHeader) [])).placeHeld.stage staging pageHeader 0 8).2 = false := by decide
theorem test_merge_lost : after (.parcelCompletion 0 (.data [1, 2])) (withPoison (BitVec.ofNat 30 (regionBase 8)) (flying (some pageHeader) []))
  (fun t => (t.store.flights[(0 : SlotNo)]).isNone && t.store.layers.isEmpty && t.dram.uncorrected == 1) = true := by decide
theorem witness_timer_paused : ({ flying (some pageHeader) [] with cist := { booted.cist with level := 3 } } : State).cist.level = 3 ∧
    (flying (some pageHeader) []).cist.level ≠ 3 := by decide
/-- The trailer that carries a tag. -/
def trailerOf (t : BitVec 128) : List Word := bytesWords (beBytes 16 t.toNat) ++ List.replicate 6 0

theorem wordBytes_packWord (a b c d e f g h : Byte) :
    wordBytes (packWord 8 [a.toNat, b.toNat, c.toNat, d.toNat, e.toNat, f.toNat, g.toNat, h.toNat]) = [a, b, c, d, e, f, g, h] := by
  have := a.isLt; have := b.isLt; have := c.isLt; have := d.isLt; have := e.isLt; have := f.isLt; have := g.isLt; have := h.isLt
  simp [wordBytes, packWord, List.range_succ]
  refine ⟨?_, ?_, ?_, ?_, ?_, ?_, ?_, ?_⟩ <;> apply BitVec.eq_of_toNat_eq <;> simp <;> omega
theorem bytesOf_bytesWords (bs : List Byte) (hl : bs.length = 16) (z : List Word) : (bytesOf (bytesWords bs ++ z)).take 16 = bs := by
  match bs, hl with
  | [a, b, c, d, e, f, g, h, i, j, k, l, m, n, o, p], _ =>
    simp [bytesWords, wordsOfBytes, packAll, packList, packedWords, bytesOf, wordBytes_packWord]
theorem leBytes_succ (n v : Nat) : leBytes (n + 1) v = BitVec.ofNat 8 v :: leBytes n (v / 256) := by
  simp [leBytes, List.range_succ_eq_map, Function.comp_def, Nat.div_div_eq_div_mul, Nat.pow_succ, Nat.mul_comm]
theorem beNat_beBytes (n : Nat) : ∀ v, beNat (beBytes n v) = v % 256 ^ n := by
  induction n with
  | zero => intro v; simp [beNat, beBytes, leBytes, Nat.mod_one]
  | succ n ih =>
    intro v
    have := ih (v / 256)
    simp only [beNat, beBytes, List.foldl_reverse] at this
    simp only [beNat, beBytes, leBytes_succ, List.foldl_reverse, List.foldr_cons, this, Nat.pow_succ']
    rw [Nat.mod_mul]; simp; omega
theorem trailerTag_trailerOf (t : BitVec 128) : trailerTag (trailerOf t) = t := by
  unfold trailerTag trailerOf
  rw [bytesOf_bytesWords _ (by simp [beBytes, leBytes]), beNat_beBytes]
  apply BitVec.eq_of_toNat_eq
  have := t.isLt
  simp; omega

/-- The body whose trailer carries the tag of the parcel, or that tag plus n. -/
def sealedBody (n : BitVec 128) : List Word :=
  List.replicate 8 0 ++ trailerOf (Config.gcmTag 3 (gcmNonce 4 1) pageHeader (List.replicate 8 0) + n)

theorem sealedBody_length (n : BitVec 128) : (sealedBody n).length = bodyWords pageHeader := by
  simp [sealedBody, trailerOf, bytesWords, wordsOfBytes, packAll, packList, packedWords, beBytes, leBytes]; decide

theorem witness_tag (n : BitVec 128) : (flying (some pageHeader) (sealedBody n)).store.flights[(0 : SlotNo)] =
      some { req := loadOf 192, header := some pageHeader, key := 3, salt := 4, got := sealedBody n, alloc := 1, verified := false } ∧
    (sealedBody n).length = bodyWords pageHeader ∧ parcelLength pageHeader / 8 = 8 ∧ parcelSeq pageHeader = 1 ∧
    trailerTag ((sealedBody n).drop 8) = Config.gcmTag 3 (gcmNonce 4 1) pageHeader ((sealedBody n).take 8) + n :=
  ⟨rfl, sealedBody_length n, by decide, by decide, trailerTag_trailerOf _⟩
theorem witness_tag_matches : trailerTag ((sealedBody 0).drop 8) = Config.gcmTag 3 (gcmNonce 4 1) pageHeader ((sealedBody 0).take 8) := by
  rw [(witness_tag 0).2.2.2.2]; exact BitVec.add_zero _
theorem witness_tag_differs : trailerTag ((sealedBody 1).drop 8) ≠ Config.gcmTag 3 (gcmNonce 4 1) pageHeader ((sealedBody 1).take 8) := by
  intro h; have := (witness_tag 1).2.2.2.2.symm.trans h; simp at this
theorem test_header : after (.parcelHeaderArrival 0 pageHeader) (flying none [])
  (fun t => (t.store.flights[(0 : SlotNo)]).any (fun f => f.key == 3 && f.salt == 4 && f.alloc == 1)) = true := by decide
theorem test_completion : after (.parcelCompletion 0 (.data [1, 2])) (flying (some pageHeader) [])
  (fun t => (t.store.flights[(0 : SlotNo)]).any (fun f => f.got == [1, 2])) = true := by decide
theorem test_parcel_timeout : after (.parcelTimerExpiry 0) (flying (some pageHeader) []) (fun t => (t.store.flights[(0 : SlotNo)]).isNone &&
  last0 t == some (responseWord 0x30 5 .parcelTimeout 9)) = true := by decide

/-- A verified PAGE parcel waits for publication. -/
def verifiedPage : State := { inSession with store := { inSession.store with
  waiting := [], verified := [⟨0, loadOf 192, pageHeader, [0x0000000700000001, 64, 0, 0, 0, 0, 0, 0], (0, 1)⟩] } }

theorem witness_publish : verifiedPage.sec.openWaits = [] ∧ verifiedPage.store.docketRuns = [] ∧
    (∃ v rest, verifiedPage.store.verified = v :: rest ∧ content v.header = 1 ∧
      State.contentFault { verifiedPage with store := { verifiedPage.store with verified := rest } } v.req v.header v.payload = none) :=
  ⟨rfl, rfl, _, _, rfl, by decide, by decide⟩
theorem witness_publish_read : (verifiedPage.readBursts (verifiedPage.rangeReads (regionBase 8) 8 [])).2 = [] ∧
    ((withPoison (BitVec.ofNat 30 (regionBase 8)) verifiedPage).readBursts
      ((withPoison (BitVec.ofNat 30 (regionBase 8)) verifiedPage).rangeReads (regionBase 8) 8 [])).2 ≠ [] := by decide
theorem test_publish_discarded : after (.parcelPublish {}) (withPoison (BitVec.ofNat 30 (regionBase 8)) verifiedPage)
  (fun t => t.store.verified.isEmpty && t.store.pages.isEmpty) = true := by decide
theorem test_publish : after (.parcelPublish {}) verifiedPage (fun t => t.store.verified.isEmpty && t.store.pages.map (fun e => e.desc.id) == [7] &&
  last0 t == some (responseWord 0x30 5 .ok 0x100000009)) = true := by decide

end Sys2Proof.Machine
end

