-- ==== Sys2Proof/Tests/SecurityTests.lean ====
section
/-! SUPPORT. Witnesses of the statements about security, and small steps of those commands. -/

namespace Sys2Proof.Machine

set_option maxRecDepth 20000
set_option Elab.async false

/-- The booted device with its security state changed. -/
def withSec (f : SecPart → SecPart) : State := { booted with sec := f booted.sec }

/-- A session of channel 0. -/
def session1 : Session := { key := 3, salt := 4, highest := 0 }

/-! ### Sessions -/

theorem witness_identity_read : Runs booted 0xA0 true false (docket0 (buffer 192)) ∧ Writes (docket0 (buffer 192)) 0 (List.replicate 13 0) ∧
    bufferBad ((docket0 [1, 64]).dw 0) ((docket0 [1, 64]).dw 1) = true := ⟨runs_of (by decide), ⟨by decide, by decide, rfl⟩, by decide⟩
/-- SESSION_OPEN of VERSION v with a buffer of n bytes. -/
def openCmd (v n : Nat) : Cmd := docket0 ([BitVec.ofNat 64 v] ++ List.replicate 48 0 ++ buffer n ++ List.replicate 5 0)
theorem witness_session_open : Runs (withSec (fun x => { x with lifecycle := 2 })) 0xA1 true false (openCmd 1 192) ∧
    sessionDocketBad (openCmd 1 192) = false ∧ sessionDocketBad (openCmd 1 128) = true ∧ sessionDocketBad (openCmd 2 192) = true ∧
    hostChan (openCmd 1 192).origin = some 0 ∧ booted.sec.lifecycle ≠ 2 ∧ (withSec (fun x => { x with lifecycle := 2 })).sec.keyLocked = false ∧
    (withSec (fun x => { x with lifecycle := 2, keyLocked := true })).sec.keyLocked = true ∧ booted.channelBusy 0 = false ∧ (openCmd 1 192).writeFail = none :=
  ⟨runs_of (by decide), by decide, by decide, by decide, rfl, by decide, by decide, by decide, by decide, rfl⟩
theorem witness_session_close : Runs (withSec (fun x => { x with sessions := x.sessions.set 0 (some session1) })) 0xA2 false false (word0 0) ∧
    booted.sec.sessions[(0 : Chan)] = none ∧ booted.sec.openWaits = [] := ⟨runs_of (by decide), by decide, by decide⟩
theorem test_session_lifecycle : after (.sessionOpen (openCmd 1 192)) booted (fun t => last0 t == some (responseWord 0xA1 5 .sessionFail 1)) = true := by decide +kernel
theorem test_session_locked : after (.sessionOpen (openCmd 1 192)) (withSec (fun x => { x with lifecycle := 2, keyLocked := true }))
  (fun t => last0 t == some (responseWord 0xA1 5 .sessionFail 5)) = true := by decide +kernel
theorem test_session_close : after (.sessionClose (word0 0)) (withSec (fun x => { x with sessions := x.sessions.set 0 (some session1) }))
  (fun t => t.sec.sessions[(0 : Chan)] == none && last0 t == some (responseWord 0xA2 5 .ok 0)) = true := by decide +kernel

/-! ### Keys, jobs and the log -/

/-- An owned unit A paired with node 9. -/
def namedA : State := { booted with pair := { booted.pair with paired := true, unitB := false, partner := 9 }, sec := { booted.sec with lifecycle := 2 } }
theorem witness_pair_key : Runs namedA 0xA3 false true (secure0 9) ∧ namedA.fab.reaches 9 = false ∧
    ({ namedA with fab := { namedA.fab with node := 5, table := [0, 0, 0x80020000] } } : State).fab.reaches 9 = true ∧
    Runs booted 0xA3 false true (secure0 9) ∧ booted.pair.paired = false :=
  ⟨runs_of (by decide), by decide, by decide, runs_of (by decide), by decide⟩
/-- SERIAL_JOB_OPEN of slot 2 for a range. -/
def jobCmd (first last : Nat) : Cmd := secureDocket0 ([0x100000002, BitVec.ofNat 64 first, BitVec.ofNat 64 last] ++ List.replicate 18 0)
theorem witness_job_open : Runs booted 0xA4 true true (jobCmd 10 19) ∧ bits ((jobCmd 10 (2 ^ 48 - 1)).dw 2) 47 0 = 2 ^ 48 - 1 ∧ bits ((jobCmd 10 19).dw 2) 47 0 ≠ 2 ^ 48 - 1 ∧
    booted.sec.jobs[(2 : Fin 16)].isOpen = false ∧ bits ((jobCmd 10 9).dw 2) 47 0 < bits ((jobCmd 10 9).dw 1) 47 0 ∧
    (withSec (fun x => { x with jobs := x.jobs.set 2 { isOpen := true } })).sec.jobs[(2 : Fin 16)].isOpen = true :=
  ⟨runs_of (by decide), by decide, by decide, by decide, by decide, by decide⟩
/-- Job slot 2 is open. -/
def jobOpen : State := withSec (fun x => { x with jobs := x.jobs.set 2 { isOpen := true, next := 12, key := some 1 } })
theorem witness_job_close : Runs jobOpen 0xA5 false true (secure0 2) ∧ jobOpen.sec.jobs[(2 : Fin 16)].isOpen = true ∧ jobOpen.print.queue = [] ∧
    booted.sec.jobs[(2 : Fin 16)].isOpen = false ∧ (({ jobOpen with print := { jobOpen.print with queue := [{ entry7 with desc := { desc7 with serialised := true, slot := 2 } }] } } : State).print.queue.find?
      (fun q => q.desc.serialised && q.desc.slot == 2)) = some { entry7 with desc := { desc7 with serialised := true, slot := 2 } } :=
  ⟨runs_of (by decide), by decide, by decide, by decide, by decide⟩
theorem witness_log_export : Runs booted 0xA6 true false (docket0 (buffer 64)) ∧ booted.sec.exportBlocks 0 = [] ∧ booted.poisonIn 8 = none ∧
    Writes (docket0 (buffer 64)) 0 [] := ⟨runs_of (by decide), by decide, by decide, ⟨by decide, by decide, rfl⟩⟩
/-- One line waits in the ring. -/
def oneLine : State := withSec (fun x => { x with ring := [([1, 2, 3, 4], true)], count := 1 })
theorem witness_log_small : (oneLine.sec.exportBlocks 0).length = 1 ∧ fitting 0 ((oneLine.sec.exportBlocks 0).map (fun b => b.2)) 0 = [] := by decide +kernel
/-- An export of that line is under way in its context, with one token, or two, still held. -/
def exporting (n : Nat) : State := { oneLine with sec := { oneLine.sec with
  exportCtx := some { cmd := docket0 (buffer 64), start := 0, blocks := oneLine.sec.exportBlocks 0, held := List.replicate n [7], ring := [] } } }
theorem witness_export_context : (exporting 2).yields = false ∧ (exporting 2).sec.exportCtx.isSome = true ∧ booted.sec.exportCtx = none ∧
    (exporting 2).quiet ∧ booted.yields = false := by decide +kernel
theorem witness_export_reads : ((booted.begun 0xA6 (docket0 (buffer 64))).exportReads 0 [] []).2 = none := by decide
/-- The burst of that line holds poison. -/
def spoiledLine : State := { oneLine with dram := { booted.dram with poisoned := [BitVec.ofNat 30 (oneLine.sec.lineBurst 0)] } }
theorem witness_export_lost : ((spoiledLine.begun 0xA6 (docket0 (buffer 64))).exportReads 0 (spoiledLine.sec.exportBlocks 0) []).2 =
    some (BitVec.ofNat 30 (oneLine.sec.lineBurst 0), 0) := by decide +kernel
theorem test_export_token : after (.compressorToken .logExport) (exporting 2) (fun t => t.sec.exportCtx.any (fun c => c.held.length == 1 &&
  c.ring == [7])) = true := by decide +kernel
theorem test_export_ends : after (.compressorToken .logExport) (exporting 1) (fun t => t.sec.exportCtx.isNone && t.sec.ring.length == 1) = true := by
  decide +kernel
theorem test_export_waits_its_turn : after (.logExport (docket0 (buffer 64))) (exporting 1) (fun t => t.sec.exportCtx.any (fun c => c.held.length == 1) &&
  last0 t == none) = true := by decide +kernel
/-- Exports 7 and 8 wait for their release. -/
def exported : State := withSec (fun x => { x with ring := [([1, 2, 3, 4], true), ([5, 6, 7, 8], false), ([9, 0, 0, 0], false)], count := 3, exported := 2, exports := [(7, 1), (8, 2)] })
theorem witness_log_release : Runs exported 0xA7 false false (word0 8) ∧ exported.sec.exports.findIdx? (fun e => e.1 == (word0 8).argBits 31 0) = some 1 ∧
    exported.sec.exports.findIdx? (fun e => e.1 == (word0 9).argBits 31 0) = none := ⟨runs_of (by decide), by decide, by decide⟩
theorem test_pair_key_unpaired : after (.pairKeyEstablish (secure0 9)) booted (fun t => t.sec.pair == none) = true := by decide +kernel
theorem test_job_open_reserved_last : after (.serialJobOpen (jobCmd 10 (2 ^ 48 - 1))) booted (fun t => !t.sec.jobs[(2 : Fin 16)].isOpen) = true := by decide +kernel
theorem test_job_close : after (.serialJobClose (secure0 2)) jobOpen (fun t => !t.sec.jobs[(2 : Fin 16)].isOpen && t.sec.jobs[(2 : Fin 16)].key == none &&
  t.sec.jobs[(2 : Fin 16)].next == 12) = true := by decide +kernel
theorem test_log_export_empty : after (.logExport (docket0 (buffer 64))) booted (fun t => last0 t == some (responseWord 0xA6 5 .ok 0)) = true := by decide +kernel
theorem test_log_release : after (.logRelease (word0 7)) exported (fun t => t.sec.ring.length == 2 && t.sec.exports == [(8, 1)] && t.sec.exported == 1) = true := by
  decide +kernel

/-! ### Lifecycle -/

theorem witness_fw_activate : Runs booted 0xA8 false true (secure0 3) ∧ booted.print.started = false ∧ booted.store.staged = none ∧
    Runs printing 0xA8 false true (secure0 3) ∧ ({ booted with store := { booted.store with staged := some (3, []) } } : State).store.staged = some ((secure0 3).arg32, []) :=
  ⟨runs_of (by decide), by decide, by decide, runs_of (by decide), by decide⟩
theorem witness_lifecycle_set : Runs namedA 0xA9 false true (secure0 3) ∧ (secure0 3).argBits 1 0 = 3 ∧ namedA.sec.lifecycle = 2 ∧ booted.sec.lifecycle ≠ 2 :=
  ⟨runs_of (by decide), by decide, by decide, by decide⟩
theorem witness_debug_unlock : Runs booted 0xAA false true (secure0 0) ∧ Runs printing 0xAA false true (secure0 0) := ⟨runs_of (by decide), runs_of (by decide)⟩
/-- PROVISION of a step with a buffer of 192 bytes, or with a key whose last word is 1. -/
def provisionCmd (step : Nat) : Cmd := docket0 ([BitVec.ofNat 64 step, 64, 192] ++ List.replicate 9 0 ++ [1, 0, 0, 0])
/-- PROVISION step 2 with no chain. -/
def chainCmd : Cmd := { docket0 ([2, 64, 0] ++ List.replicate 13 0) with tables := [[]] }
theorem witness_provision : Runs booted 0xAB true false (provisionCmd 1) ∧ bits ((provisionCmd 1).dw 0) 1 0 = 1 ∧
    bufferBad ((provisionCmd 1).dw 1) ((provisionCmd 1).dw 2) = false ∧ booted.sec.lifecycle = 0 ∧ booted.sec.identity = none ∧
    (provisionCmd 1).writeFail = none ∧ 192 ≤ bits ((provisionCmd 1).dw 2) 31 0 ∧ booted.sec.keyLocked = false ∧ booted.print.started = false ∧
    bits ((provisionCmd 0).dw 0) 1 0 = 0 := ⟨runs_of (by decide), by decide, by decide, by decide, by decide, by decide, by decide, by decide, by decide, by decide⟩
theorem witness_provision_chain : Runs (withSec (fun x => { x with identity := some 5 })) 0xAB true false chainCmd ∧ bits (chainCmd.dw 0) 1 0 = 2 ∧
    bits (chainCmd.dw 1) 5 0 = 0 ∧ (chainCmd.dw 2).toNat ≤ 8192 ∧ (withSec (fun x => { x with identity := some 5 })).sec.identity = some 5 :=
  ⟨runs_of (by decide), by decide, by decide, by decide, by decide⟩
theorem witness_provision_owner : Runs (withSec (fun x => { x with lifecycle := 1 })) 0xAB true false (provisionCmd 3) ∧ bits ((provisionCmd 3).dw 0) 1 0 = 3 ∧
    (withSec (fun x => { x with lifecycle := 1 })).sec.lifecycle = 1 := ⟨runs_of (by decide), by decide, by decide⟩
theorem test_fw_activate_absent : after (.fwActivate (secure0 3)) booted (fun t => !t.sys.restart && !t.sec.preferred) = true := by decide +kernel
theorem test_lifecycle_set : after (.lifecycleSet (secure0 3)) namedA (fun t => t.sec.lifecycle == 3 && t.sec.ownerHash == none) = true := by decide +kernel
theorem test_lifecycle_other : after (.lifecycleSet (secure0 1)) namedA (fun t => t.sec.lifecycle == 2) = true := by decide +kernel
theorem test_debug_unlock : after (.debugUnlock (secure0 0)) booted (fun t => t.sec.debug && t.sec.keyLocked) = true := by decide +kernel
theorem test_provision_owner : after (.provision (provisionCmd 3)) (withSec (fun x => { x with lifecycle := 1 }))
  (fun t => t.sec.lifecycle == 2 && t.sec.ownerKey.any (fun k => k.setWidth 64 == 0x100000000000000)) = true := by decide +kernel
theorem test_provision_locked : after (.provision (provisionCmd 3)) (withSec (fun x => { x with lifecycle := 1, keyLocked := true }))
  (fun t => t.sec.lifecycle == 1 && last0 t == some (responseWord 0xAB 5 .lifecycleDenied 4)) = true := by decide +kernel

end Sys2Proof.Machine
end

