-- ==== Sys2Proof/Tests/Slice0.lean ====
section
/-!
SUPPORT. The model's own tests: ill-formed commands are refused by the checks of WellFormed, and small steps of the system
group, the mailboxes and the whole machine. A witness_ theorem gives a state and operands that meet the premises of a statement of
Certificates/Slice0/Obligations.lean; expected values of a test_ theorem come from the rules it cites.
-/

namespace Sys2Proof.Machine

set_option maxRecDepth 20000
set_option Elab.async false

/-! ### Ill-formed commands -/

theorem test_wf_docket_without_flag : (Instr.echo { word0 7 with docket := [1] }).wf = false := by decide
theorem test_wf_table_without_flag : (Instr.echo { word0 7 with tables := [[1]] }).wf = false := by decide
theorem test_wf_echo : (Instr.echo (word0 7)).wf = true := by decide
theorem test_wf_header_of_seven_words : (Instr.parcelHeaderArrival 0 [1, 2, 3, 4, 5, 6, 7]).wf = false := by decide
theorem test_wf_empty_completion : (Instr.parcelCompletion 0 (.data [])).wf = false := by decide
theorem test_wf_unaligned_register : (Instr.registerWrite 0x804 true 1).wf = false := by decide
theorem test_wf_unaligned_half : (Instr.registerWrite 0x802 false 1).wf = false := by decide
theorem test_wf_short_report : (Instr.report 0 [1, 2]).wf = false := by decide
theorem test_wf_routes_of_64_words : (Instr.routes (List.replicate 64 0)).wf = false := by decide
theorem test_wf_empty_bulk : (Instr.bulk 1 []).wf = false := by decide
theorem test_wf_bulk_of_257_words : (Instr.bulk 1 (List.replicate 257 0)).wf = false := by decide
theorem test_wf_bulk_of_256_words : (Instr.bulk 1 (List.replicate 256 0)).wf = true := by decide
theorem test_wf_health_of_seven_words : (Instr.health 1 0 (List.replicate 7 0)).wf = false := by decide
theorem test_wf_short_image : (Instr.bootStageDone (.image (some { header := [1], body := [], board := {} }) none)).wf = false := by decide
theorem test_wf_restart_image : (Instr.watchdogReset none (some { header := [1], body := [], board := {} })).wf = false := by decide
theorem test_wf_long_frame : (Instr.fabricFrame 0 ⟨0, List.replicate 512 0, 0⟩).wf = false := by decide
theorem test_wf_measure_of_another_kind : (Instr.calProcedureEnd .density (.chops 1 1 1 1)).wf = false := by decide

/-! ### The whole machine -/

theorem test_table_has_no_bits : decodeTableWord 64 0x38000000 = none := by decide
theorem test_with_fetch_word : (ready.withFetchWord 64 7).pending = [] := by decide
theorem test_step_runs_the_front : (match step { booted with pending := [.echo (word0 7), .version (word0 0)] } with
  | .next t => t.pending == [.version (word0 0)] && last0 t == some 0x0028000000000007 | _ => false) = true := by decide
theorem test_idle_counts : (match step { ready with time := { ready.time with locked := true } } with
  | .next t => t.time.raw == 1 | _ => false) = true := by decide
theorem test_idle_holds_while_unlocked : (match step ready with | .next t => t.time.raw == 0 | _ => false) = true := by decide

theorem witness_quiet : ready.quiet := rfl
theorem witness_empty_queue : ready.pending = [] := rfl
theorem witness_idle_step : ∃ t : State, step ready = .next t := ⟨_, rfl⟩

/-- Each opcode of the group tables runs in the state after boot with the DOCKET flag and the origin its row asks for. -/
theorem witness_rows_run : commandRows.all (fun r =>
    let c := if r.2.2.1 then (if r.2.1 then secureDocket0 [] else secure0 0) else (if r.2.1 then docket0 [] else word0 0)
    ready.live c.origin && ready.serves && (ready.precheck r.1 r.2.1 r.2.2.1 c).isNone) = true := by decide
theorem witness_dead_session : ready.live (.host 0 1) = false := by decide
theorem witness_unserved : State.reset.serves = false := by decide
theorem witness_held_in_dormant : Power.dormant = Power.dormant ∧ servedDormant 0x18 = false ∧ servedDormant 0x03 = true := by decide
theorem witness_stopped_boot : ({ ready with sys := { ready.sys with stage := 4, stopped := true } } : State).serves = true ∧
    servedWhenStopped 0x18 (word0 0) = false ∧ servedWhenStopped 0x00 (word0 0) = true := by decide
theorem witness_wrong_docket_kind : (word0 0).docketFlag ≠ true := by decide
theorem witness_returned : ({ ready with sec := { ready.sec with lifecycle := 3 } } : State).sec.lifecycle = 3 := by decide
theorem witness_unsecure_origin : secureOrigin (word0 0).origin = false ∧ secureOrigin (secure0 0).origin = true := by decide
theorem witness_standby_refuses : ({ ready with pair := { ready.pair with paired := true, st := .ready } } : State).noClaim = true ∧
    0x10 ≤ (0x10 : Byte).toNat ∧ (0x10 : Byte).toNat ≤ 0x3F := by decide
theorem witness_bus_master_off : ({ ready with host := { ready.host with busMaster := false } } : State).host.busMaster = false := by decide

theorem test_docket_kind_refused : after (.echo { word0 7 with docketFlag := true }) ready
  (fun t => last0 t == some (responseWord 0 5 .argBad 0)) = true := by decide
theorem test_secure_refused : after (.lifecycleSet (word0 3)) ready
  (fun t => last0 t == some (responseWord 0xA9 5 .secureRequired 0)) = true := by decide
theorem test_standby_refused : after (.printStop (word0 0)) { ready with pair := { ready.pair with paired := true, st := .ready } }
  (fun t => last0 t == some (responseWord 0x19 5 .pairStandby 0)) = true := by decide

/-! ### Responses and events -/

/-- Channel 0 with n words queued and d events dropped. -/
def queued (n d : Nat) : State := ready.setChan 0 (fun h => { h with outQ := List.replicate n 0, dropped := d })

theorem witness_event_fits : (queued 223 0).host.channels[(0 : Chan)].outQ.length < 224 := by decide
theorem witness_event_after_drops : (queued 222 1).host.channels[(0 : Chan)].outQ.length < 223 ∧
    0 < (queued 222 1).host.channels[(0 : Chan)].dropped := by decide
theorem witness_event_dropped : 224 ≤ (queued 224 0).host.channels[(0 : Chan)].outQ.length ∧
    223 ≤ (queued 223 1).host.channels[(0 : Chan)].outQ.length := by decide
theorem witness_event_masked : ready.host.channels[(1 : Chan)].mask.getLsbD 3 = false ∧
    ready.host.channels[(0 : Chan)].mask.getLsbD 3 = true := by decide
theorem test_event_223 : ((queued 223 0).eventHost (.deviceReady, 1) 0).host.channels[(0 : Chan)].outQ.length = 224 := by decide
theorem test_event_pair_222 : ((queued 222 1).eventHost (.deviceReady, 1) 0).host.channels[(0 : Chan)].outQ.length = 224 := by decide
theorem test_event_pair_223 : ((queued 223 1).eventHost (.deviceReady, 1) 0).host.channels[(0 : Chan)].dropped = 2 := by decide

/-- G7 serves as fabric ports: no host link (R25). -/
def fabricOnly : State := { booted with sys := { booted.sys with board := some { g7Fabric := true } } }
theorem witness_host_link : ready.hostLink = true ∧ booted.hostLink = true ∧ fabricOnly.hostLink = false ∧ fabricOnly.endpoint = false := by decide
theorem test_event_without_host_link : (fabricOnly.eventHost (.deviceReady, 1) 0).host.channels[(0 : Chan)].outQ = [] := by decide
/-- A peer's command that needs a docket: no host memory is read for it (R514, R526). -/
theorem witness_peer_docket : (∃ n k, ({ docket0 [1] with origin := .peer 5 9 } : Cmd).origin = .peer n k) ∧
    ({ docket0 [1] with origin := .peer 5 9 } : Cmd).docketFlag = true ∧ ready.sec.exportCtx = none := ⟨⟨_, _, rfl⟩, rfl, rfl⟩

/-! ### Commands of the system group -/

theorem witness_echo : Runs booted 0x00 false false (word0 7) := runs_of (by decide)
theorem witness_version : booted.sys.image.isSome = true ∧ Runs booted 0x01 false false (word0 0) := ⟨rfl, runs_of (by decide)⟩
theorem witness_info : booted.sys.board = some {} ∧ Runs booted 0x02 true false (docket0 (buffer 64)) ∧
    Writes (docket0 (buffer 64)) 0 [1, 2, 3, 4, 5] := ⟨rfl, runs_of (by decide), ⟨by decide, by decide, rfl⟩⟩
theorem witness_counters : Runs booted 0xD3 true false (docket0 (buffer 192)) ∧ Writes (docket0 (buffer 192)) 0 (List.replicate 24 0) :=
  ⟨runs_of (by decide), ⟨by decide, by decide, rfl⟩⟩
theorem witness_event_mask : Runs booted 0x03 false false (word0 0x1FF) := runs_of (by decide)
theorem witness_event_mask_peer : Runs { booted with fab := { booted.fab with channels := [openChannel 5 9] } } 0x03 false false
    { word0 0 with origin := .peer 5 9 } ∧ ({ booted with fab := { booted.fab with channels := [openChannel 5 9] } } : State).fab.chanOf 5 =
    some (openChannel 5 9) := ⟨runs_of (by decide), rfl⟩
theorem witness_event_mask_mirrored : Runs booted 0x03 false false { word0 0 with origin := .parcel .mirror } := runs_of (by decide)
theorem test_version : after (.version (word0 0)) booted (fun t => last0 t == some (responseWord 0x01 5 .ok 0x010204B0)) = true := by decide
theorem test_event_mask : after (.eventMask (word0 0x1FF)) booted
  (fun t => t.host.channels[(0 : Chan)].mask == 0x1FF && last0 t == some (responseWord 0x03 5 .ok 0xFFFF)) = true := by decide
theorem test_memory_info : after (.memoryInfo (word0 0)) booted
  (fun t => (last0 t).any (fun w => bits w 63 56 == 0xE1)) = true := by decide

theorem witness_power_reserved : Runs booted 0xE0 false false (word0 3) ∧ (word0 3).arg.extractLsb' 0 2 = 3 := ⟨runs_of (by decide), by decide⟩
theorem witness_power_printing : Runs printing 0xE0 false false (word0 1) ∧ printing.print.started = true := ⟨runs_of (by decide), rfl⟩
theorem witness_power_run : Runs booted 0xE0 false false (word0 1) ∧ booted.asleep = false ∧ Power.idle ≠ booted.sys.power :=
  ⟨runs_of (by decide), by decide, by decide⟩
theorem witness_power_dormant : Runs booted 0xE0 false false (word0 2) ∧ booted.pair.paired = false := ⟨runs_of (by decide), rfl⟩
theorem test_power_idle : after (.powerState (word0 1)) booted (fun t => t.sys.power == .idle &&
  last0 t == some (responseWord 0xE0 5 .ok 0)) = true := by decide
theorem test_power_refused : after (.powerState (word0 1)) printing
  (fun t => last0 t == some (responseWord 0xE0 5 .printActive 0)) = true := by decide

/-! ### Self-tests -/

theorem witness_selftest_run : Runs booted 0xD2 false false (word0 6) ∧ (word0 6).arg.extractLsb' 0 4 = BitVec.ofNat 4 6 :=
  ⟨runs_of (by decide), by decide⟩
theorem witness_selftest_reset : Runs booted 0xD2 false false { word0 15 with origin := .parcel .offered } ∧
    Runs booted 0xD2 false false (word0 15) := ⟨runs_of (by decide), runs_of (by decide)⟩
theorem test_selftest_reset_needs_a_parcel : after (.selftestRun (word0 15)) booted
  (fun t => last0 t == some (responseWord 0xD2 5 .secureRequired 0) && !t.sys.resetDue) = true := by decide
theorem test_selftest_reset : after (.selftestRun { word0 15 with origin := .parcel .offered }) booted (fun t => t.sys.resetDue) = true := by decide

/-- Test 2 has been ordered. -/
def testing : State := { booted with sys := { booted.sys with tests := [⟨2, .host 0 0, 5, [0, 3, 15]⟩] } }

/-- Test 2 ends with two engines whose signatures differ, at the nominal VDD_CORE and SYSCLK. -/
def failing : TestRun := { test := 2, microvolts := 750000, sysclkHz := 25000000, found := .signatures [7, 3], durationMs := 7 }

theorem witness_selftest_end : testing.sys.tests.find? (fun w => w.test == failing.test) = some ⟨2, .host 0 0, 5, [0, 3, 15]⟩ ∧
    vddOk failing = true ∧ sysclkOk failing = true ∧ 1 ≤ failing.test.val ∧ failing.test.val ≤ 6 := ⟨rfl, by decide, by decide, by decide, by decide⟩
theorem test_selftest_units : failingUnits failing [0, 3, 15] = [3] ∧ failingUnits failing (booted.testUnits 2) = [3, 7] := by decide
theorem test_selftest_voltage : vddOk { failing with microvolts := 772500 } = true ∧ vddOk { failing with microvolts := 772501 } = false := by decide
theorem test_selftest_clock : sysclkOk { failing with sysclkHz := 24997500 } = true ∧ sysclkOk { failing with sysclkHz := 24997499 } = false := by decide
theorem witness_selftest_background : booted.testRuns failing.test.val = true ∧ failing.test.val = 2 := ⟨by decide, rfl⟩
theorem witness_engine_slice : booted.eng.engines[(0 : EngineNo)].busy = none ∧ booted.cist.w1 ≤ booted.cist.lead ∧
    booted.testRuns 2 = true ∧ booted.sys.power = .run ∧ booted.sys.stage = 7 := by decide
theorem witness_engine_pass : 256 ≤ ({ booted with sys := { booted.sys with slices := Vector.replicate 16 255 } } : State).sys.slices[(0 : EngineNo)] + 1 :=
  by decide
theorem test_selftest_end : after (.selftestRunEnd failing) testing (fun t => t.sys.fails == 1 && t.sys.outcomes[1] == 2) = true := by decide
theorem test_background_failure : after (.selftestBackground failing) booted (fun t => t.sys.testFault) = true := by decide

/-! ### The package (R641 to R643) -/

theorem test_balls : ballAt (ballRow "BF") 16 = .lane 37 true true ∧ ballAt (ballRow "W") 23 = .supply "VDD_MRAM" ∧
    ballAt (ballRow "E") 44 = .signal "ENC1_IDX_P" ∧ ballAt (ballRow "BC") 42 = .signal "SW12" := by decide +kernel
theorem test_ball_rows : ballRows.length = 45 ∧ ballRow "A" = 0 ∧ ballRow "BG" = 44 := by decide +kernel

/-! ### Mailboxes and registers -/

/-- Channel 0 with a posted word, a queued response and a command that waits for its docket. -/
def posted : State := booted.setChan 0 (fun h => { h with
  inWord := some (responseWord 0 3 .ok 7), outQ := [responseWord 0 4 .ok 7], outstanding := [(4, 0)]
  taken := [⟨0x02, 5, true, 0x40, none⟩] })

theorem witness_post : booted.bar0 = true ∧ booted.asleep = false ∧ booted.host.channels[(0 : Chan)].inWord = none := by decide
theorem witness_read : posted.bar0 = true ∧ posted.host.channels[(0 : Chan)].outQ = [responseWord 0 4 .ok 7] := ⟨by decide, rfl⟩
theorem witness_read_empty : booted.bar0 = true ∧ booted.host.channels[(0 : Chan)].outQ = [] := by decide
theorem witness_take : posted.serves = true ∧ posted.host.channels[(0 : Chan)].inWord = some (responseWord 0 3 .ok 7) := ⟨by decide, rfl⟩
theorem witness_docket_read : posted.host.channels[(0 : Chan)].taken.find? (fun t => t.tag == 5) = some ⟨0x02, 5, true, 0x40, none⟩ ∧
    posted.readsDocket 0 ⟨0x02, 5, true, 0x40, none⟩ = true := ⟨rfl, by decide⟩
theorem witness_register_none : (0xC8 : BitVec 16).toNat % 8 = 0 ∧ (0xC8 : BitVec 16).toNat < 0xD0 ∧ 0x400 ≤ (0x7F8 : BitVec 16).toNat ∧
    (0x7F8 : BitVec 16).toNat < 0x800 ∧ 0x2200 ≤ (0x2200 : BitVec 16).toNat := by decide
theorem witness_flr : booted.endpoint = true ∧ booted.quiet := by decide
theorem test_read_takes_the_word : after (.hmbOutRead 0) posted
  (fun t => t.host.channels[(0 : Chan)].outQ == [] && t.host.channels[(0 : Chan)].outstanding == []) = true := by decide
theorem test_read_empty : after (.hmbOutRead 0) booted (fun t => t.sent == [.readReturn 0x1008 0xFFFFFFFFFFFFFFFF]) = true := by decide
theorem test_take : after (.firmwareTakesWord 0) posted (fun t => t.host.channels[(0 : Chan)].inWord == none) = true := by decide
theorem test_docket_error : after (.docketReadCompletion 0 5 (.error 0x80)) posted
  (fun t => last0 t == some (responseWord 0x02 5 .hostDmaError 2)) = true := by decide
theorem test_host_reset : after (.hostReset 0) posted (fun t => t.host.channels[(0 : Chan)].session == 1 &&
  t.host.channels[(0 : Chan)].inWord == some (responseWord 0 3 .ok 7) && t.host.channels[(0 : Chan)].taken == []) = true := by decide
theorem test_irq_pending_w1c : after (.registerWrite 0x800 true 1) { booted with host := { booted.host with irqPending := 3 } }
  (fun t => t.host.irqPending == 2) = true := by decide
theorem test_flr : after .functionLevelReset posted (fun t => t.host.channels[(7 : Chan)].session == 1) = true := by decide

end Sys2Proof.Machine
end

