-- ==== Sys2Proof/Tests/SystemTests.lean ====
section
/-! SUPPORT. Witnesses of the statements about reset, boot, power and DRAM, and small steps of those commands. -/

namespace Sys2Proof.Machine

set_option maxRecDepth 20000
set_option Elab.async false

/-- At a stage of boot. -/
def atStage (n : Nat) : State := { booted with sys := { booted.sys with stage := n } }

theorem witness_commanded_reset : ({ booted with sys := { booted.sys with resetDue := true } } : State).sys.resetDue = true := rfl
theorem witness_perst : ∃ b : BoardRecord, ({ booted with sys := { booted.sys with board := some { perstDevice := true } } } : State).sys.board = some b ∧
    b.g7Fabric = false ∧ b.perstDevice = true := ⟨_, rfl, rfl, rfl⟩
theorem witness_perst_fabric : ∃ b : BoardRecord, ({ booted with sys := { booted.sys with board := some { g7Fabric := true } } } : State).sys.board =
    some b ∧ b.g7Fabric = true ∧ booted.quiet := ⟨_, rfl, rfl, rfl⟩
theorem test_reset_n : after .resetN { printing with pending := [.resetN] } (fun t => t.sys.cause == 2 && t.pending == [.resetN] &&
  !t.print.started) = true := by decide
theorem test_supply_thresholds : suppliesLow 679 720 1620 1620 = true ∧ suppliesLow 680 719 1620 1620 = true ∧
    suppliesLow 680 720 1619 1620 = true ∧ suppliesLow 680 720 1620 1619 = true ∧ suppliesLow 680 720 1620 1620 = false := by decide
theorem test_supply_reset : after .supplyMonitorReset booted (fun t => t.sys.cause == 1 && t.sys.stage == State.reset.sys.stage) = true := by decide
theorem test_commanded_reset_not_due : after .commandedReset booted (fun t => t.sys.stage == 7) = true := by decide

theorem witness_stages : (atStage 1).sys.halted = false ∧ (atStage 1).sys.stopped = false ∧ (atStage 2).sys.stage = 2 ∧
    (atStage 3).sys.stage = 3 ∧ (atStage 4).sys.stage = 4 ∧ (atStage 5).fabricFitted = false ∧ (atStage 6).sys.stage = 6 := by decide
/-- All eight on-die sensors at a temperature in 1/16 °C. -/
def temps (n : Int) : Vector Int 8 := Vector.replicate 8 n
/-- A kernel whose image holds another hash than that of the key (R171). -/
def badKernel : KernelSet := { kernels := [⟨[1], List.replicate 12 0⟩], key := List.replicate 12 0
                               keyHash := shaWords (List.replicate 12 0) + 1 }
theorem witness_kernels : badKernels {} = [] := by decide
theorem witness_bad_kernels : badKernels badKernel = [0] := by simp [badKernels, badKernel, kernelGood]
theorem witness_lane_stages : (atStage 5).lanesUp = true ∧ (atStage 6).numbered = false ∧ ({ atStage 5 with lanes := { booted.lanes with
    lanes := upd booted.lanes.lanes 0 (fun l => { l with role := .head, fitted := true }) } } : State).lanesUp = false ∧
    ({ atStage 6 with fab := { booted.fab with root := some (7, 0, none, 1), node := 1 } } : State).numbered = true := by decide
theorem witness_fabric_stage : ({ atStage 5 with lanes := { booted.lanes with lanes := upd booted.lanes.lanes 40 (fun l => { l with role := .fabric }) } } :
    State).fabricFitted = true := by decide
theorem test_rom_passes : after (.bootStageDone (.rom .pass)) (atStage 1) (fun t => t.sys.stage == 2 && t.sys.outcomes[0] == 1) = true := by decide
theorem test_rom_halts : after (.bootStageDone (.rom .lockkeeperFail)) (atStage 1) (fun t => t.sys.halted && t.sys.faultN) = true := by decide
theorem test_no_image_halts : after (.bootStageDone (.image none none)) (atStage 2) (fun t => t.sys.halted) = true := by decide
theorem test_thermal_at_boot : after (.bootStageDone (.firmware (temps 400))) (atStage 3) (fun t => t.sys.outcomes[5] == 1 && t.sys.stage == 4) = true := by decide +kernel
theorem test_dram_fails : after (.bootStageDone (.dram [⟨1, false, 4⟩, ⟨2, true, 1⟩] [])) (atStage 4) (fun t => t.sys.stopped && t.sys.stage == 4 &&
  t.dram.failure == some ⟨2, true, 1⟩) = true := by decide
theorem test_boot_ends : after (.bootStageDone (.lanes 100 false)) (atStage 5) (fun t => t.sys.stage == 7 && !t.sys.faultN && t.pair.driving) = true := by decide

theorem witness_fatal : booted.noClaim = false ∧ booted.sys.fatal = none ∧ booted.sys.excluded.getLsbD (3 : Fin 8).val = false := by decide
theorem witness_excluded : ({ booted with sys := { booted.sys with excluded := 8 } } : State).sys.excluded.getLsbD (3 : Fin 8).val = true := by decide
theorem witness_relock : booted.quiet ∧ booted.sys.stage ≠ 1 := by decide
theorem witness_watchdog : booted.quiet ∧ booted.sys.halted = false ∧ booted.sys.watchdog = none ∧ 3 ≤ booted.sys.stage ∧
    (atStage 3).sys.stage = 3 := by decide
theorem witness_restarting : ({ booted with sys := { booted.sys with watchdog := some 5 } } : State).sys.restarting = true ∧
    ({ booted with sys := { booted.sys with watchdog := some 5 } } : State).sys.fatal = none := by decide
theorem test_fatal : after (.fatalFault .lockstep) printing (fun t => t.sys.fatal.map (fun x => x.1) == some 3 && t.sys.fireStop && t.sys.faultN &&
  t.print.markAll && t.gov.duty == 0) = true := by decide
theorem test_fatal_excluded_sensor : after (.fatalFault (.overTemperature ((temps 400).set 3 4000))) { booted with sys := { booted.sys with excluded := 8 } }
  (fun t => t.sys.fatal == none) = true := by decide
theorem witness_over_temperature : overTemperature 0 (temps 2001) = true ∧ overTemperature 0 (temps 2000) = false ∧
    overTemperature 0 ((temps 400).set 3 4000) = false := by decide
theorem test_over_temperature : after (.fatalFault (.overTemperature (temps 2001))) booted
  (fun t => t.sys.fatal.map (fun x => x.1) == some 7 && t.sys.fireStop) = true := by decide
theorem test_relock : after .firePllRelock booted (fun t => t.time.locked) = true := by decide
theorem test_watchdog : after .watchdogExpiry booted (fun t => t.sys.watchdog == some 0 && !t.serves && t.sys.faultN) = true := by decide
theorem test_watchdog_reset_without_an_image : after (.watchdogReset none none) { booted with sys := { booted.sys with watchdog := some 5 } }
  (fun t => t.sys.halted) = true := by decide

/-- DORMANT is being entered. -/
def entering : State := { booted with sys := { booted.sys with entering := [⟨.host 0 0, 5⟩] } }

/-- DORMANT, with a mailbox post that wakes. -/
def waking : State := { booted with sys := { booted.sys with power := .dormant, wake := some (.post) } }

theorem witness_dormant_entry : entering.sys.entering ≠ [] ∧ entering.sys.power ≠ .dormant ∧ entering.mayRest = true := by decide
theorem witness_dormant_not_yet : printing.mayRest = false ∧ booted.sys.entering = [] ∧ booted.quiet := by decide
theorem witness_dormant_exit : waking.sys.power = .dormant ∧ (∃ w, waking.sys.wake = some w) ∧ waking.sys.runWaits = [] := ⟨rfl, ⟨_, rfl⟩, rfl⟩
theorem test_dormant_entry : after .dormantEntry entering (fun t => t.sys.power == .dormant && t.dram.selfRefresh &&
  last0 t == some (responseWord 0xE0 5 .ok 0)) = true := by decide
theorem test_dormant_exit : after .dormantExit { waking with dram := { waking.dram with dqsBase := [100] } }
  (fun t => t.sys.power == .run && !t.dram.selfRefresh && t.dram.dqsDrift.length == 1) = true := by decide

/-- DRAM runs. -/
def trained : State := { booted with dram := { booted.dram with trained := true } }

theorem witness_scrub : trained.dram.runs = true ∧ trained.cist.level < 2 := by decide
theorem witness_no_scrub : booted.dram.runs = false ∧ booted.quiet := by decide
theorem witness_no_scrub_urgent : 2 ≤ ({ trained with cist := { trained.cist with level := 2 } } : State).cist.level := by decide
theorem witness_drift : ({ trained with dram := { trained.dram with dqsBase := [100] } } : State).dram.dqsBase ≠ [] ∧ trained.dram.dqsBase = [] := by decide
theorem witness_codewords : worstCodeword {} = 0 ∧ worstCodeword { symbols := [(0, 5), (1, 5)] } = 1 ∧
    worstCodeword { symbols := [(2, 5), (2, 6)] } = 2 ∧ worstCodeword { symbols := [(3, 0), (3, 1), (3, 2)] } = 3 ∧
    trained.dram.poisoned = [] := by decide
theorem test_scrub_other_address : after (.patrolScrubBurst { elsewhere := true }) trained (fun t => t.dram.poisoned == [0] &&
  t.dram.uncorrected == 1) = true := by decide
theorem test_scrub_wraps : after (.patrolScrubBurst { symbols := [(2, 5), (2, 6)] }) { trained with
    dram := { trained.dram with scrubNext := trained.sys.dramBytes / 64 - 1 } } (fun t => t.dram.scrubNext == 0 && t.dram.uncorrected == 1) = true := by decide
theorem test_scrub_corrects : after (.patrolScrubBurst { symbols := [(0, 5), (1, 5)] }) trained (fun t => t.dram.scrubNext == 1 && t.dram.corrected == 1) = true := by decide
theorem test_drift : after (.dqsDriftUpdate [97]) { trained with dram := { trained.dram with dqsBase := [100] } }
  (fun t => t.dram.dqsDrift == [-3]) = true := by decide
theorem test_refresh_rate : after (.refreshRateRead [true, false]) trained (fun t => t.dram.doubled == [true, false]) = true := by decide

end Sys2Proof.Machine
end

