-- ==== Sys2Proof/Tests/WorkedExamples.lean ====
section
/-!
SUPPORT. The worked examples of the spec's own chapters, as tests of the functions they go through. Every expected value is printed in the
section named.
-/

namespace Sys2Proof.Machine

set_option maxRecDepth 20000
set_option Elab.async false

/-! ### The worked block of 04_ryuli_block_format.md -/

def wE : Word := 0x00000000FFFFFFFF
def wA : Word := 0x82F63B7880000000
def wB : Word := 0x417B1DBC40000000
def wC : Word := 0xC38D26C4C0000000
def wD : Word := 0x20BD8EDE20000000

/-- Raw data of lines 0 to 7. -/
def workedRaw : List Word :=
  [wE, 0, 0, 0, wA, wB, wC, wD, wA, wB, wC, wD, wA, wB, wC, wD] ++
  [wA, wA, wA, wA, wA, wA, wD, wB, 0, 0, 0, 0, wA, wA, wA, 0x8000000000000000]

/-- The encoded block, 21 words. -/
def workedBlock : List Word :=
  [0x0000010400517952, 0x0000200800400001, 0x0000000000000101, wE, 0x0000000000000302, 0x0000000000000401, wA, wB, wC, wD] ++
  [0x0000000100000804, 0x0000000000000603, wA, 0x0000000000000201, wD, wB, 0x0000000000000402, 0x0000000300000304] ++
  [0x0000000000000101, 0x8000000000000000, 0x000000097D09C487]

theorem test_worked_block_decodes :
    (match decodeBlock ⟨0x104, 5, 1, 4, 8, false⟩ 21 workedBlock false with | .ok ws => ws == workedRaw | .error _ => false) = true := by
  decide +kernel
theorem test_worked_block_poisoned :
    (match decodeBlock ⟨0x104, 5, 1, 4, 8, false⟩ 21 workedBlock true with | .ok _ => 0 | .error n => n) = 10 := by decide +kernel
theorem test_worked_block_of_another_band :
    (match decodeBlock ⟨0x104, 5, 2, 4, 8, false⟩ 21 workedBlock false with | .ok _ => 0 | .error n => n) = 3 := by decide +kernel
theorem test_worked_block_crc : crc32c workedRaw = 0x7D09C487 := by decide +kernel

/-! ### The worked screening of 05_furrow_engines.md -/

/-- Array 1 with one threshold at every place. -/
def flatArray (t : Nat) : ThresholdArray :=
  { xPhase := 0, yPhase := 0, curve := (List.range 256).map (fun i => i * 4095 / 255), thresholds := List.replicate 1 t }

theorem test_worked_screening : screenCode (flatArray 1000) 2 0 0 128 = 2 ∧ screenCode (flatArray 3000) 2 0 0 128 = 1 := by decide

/-! ### The worked frames and STATUS of 09_head_link.md -/

theorem test_worked_fire_token : tokenBlock .fire 1000000 7003 16667 = 0x01046C1B5B424041 ∧ offsetsBlock [0, 0] = 0 := by decide
theorem test_worked_blank_frame : lineFrame 1000000 2 6144 none = [0x0000180005424010, 0x000000000042401F] := by decide
theorem test_worked_line_frame : lineFrame 101780 1 2048 (some (List.replicate 32 1 ++ List.replicate 2016 0)) =
    [0x00000800008D9410, 0x00000000FFFFFFFF] ++ List.replicate 31 0 ++ [0xFFFFFFFF008D941F] := by decide +kernel
theorem test_worked_status : statusBlock true true 0x424A 8 = 0x00000008424A0360 := by decide

/-- HP00 is ACTIVE in CAPS terms of the worked measurement: probe 5 left at 0 (units of 250 ps). -/
def probed : State :=
  { booted with
    heads := { booted.heads with ports := upd booted.heads.ports 0 (fun h => { h with probes := [(5, 0)] }) }
    lanes := { booted.lanes with lanes := upd booted.lanes.lanes 0 (fun l => { l with role := .head, st := .active }) } }

/-- 438.25 ns are 1,753 units; λ = 212.50 ns is 1,700 units of 125 ps. -/
theorem test_worked_latency : after (.latEcho 0 0x0000000000350587 1753) probed (fun t => t.heads.ports[(0 : HeadPort)].lam == some 1700) = true := by
  decide

/-! ### The worked word of 24_status_and_event_codes.md and the sequence of 19_narman_command_reference.md -/

theorem test_worked_page_start : eventWord (.pageStart, 0x030000002A) = 0x010424030000002A := by decide
theorem test_worked_responses : responseWord 0x30 1 .ok 0x0100002A01 = 0x3008000100002A01 ∧
    responseWord 0x10 2 .ok 1000000 = 0x10100000000F4240 ∧ eventWord (.parcelVerified, 0x2A01) = 0x0204300000002A01 ∧
    eventWord (.pageReady, 0x2A) = 0x020431000000002A ∧ eventWord (.rateCapped, 0x750000002B) = 0x020440750000002B ∧
    eventWord (.pageDone, 0x040000002A) = 0x010425040000002A := by decide

/-- PARCEL_LOAD, TAG 1, DOCKET as firmware takes it. -/
theorem test_worked_parcel_load : takenOf 0x30090000048D0000 = ⟨0x30, 1, true, 0x048D0000, none⟩ := by decide

/-- The trigger docket of Example C: 709 lines of delay on PTRIG0. -/
theorem test_worked_trigger_config : after (.triggerConfig (docket0 [1, 2, 0x2C5])) booted
  (fun t => t.print.trigs[(0 : TrigNo)].set.delay == 709 && last0 t == some (responseWord 0x62 5 .ok 0)) = true := by decide

/-! ### The worked example of 17_timebase_and_network_time.md -/

/-- Unit A at t6: converging, with REQ 3 sent at t3. -/
def unitA : State :=
  { booted with time := { booted.time with locked := true, sync := .converging, raw := 5000012200, lastReq := some (3, 5000000000)
                                           goodSecs := 0 } }

theorem test_worked_exchange : after (.timeResp 0x20 (word [2, fld 16 16 3]) 5000000000 5000003400 5000013400 5000012200) unitA
  (fun t => t.time.best == some (4600, 2200)) = true := by decide

/-- θ = 2,300 ns: RATE becomes 3,087 units of 2^−32, here rounded to either side of 3,087.008. -/
theorem test_worked_servo : ((2300 * 2 * 4 + 2300 * 2) * 4294967296 / 32000000000 : Int) = 3087 := by decide
theorem test_worked_integral : after (.timeServo 5000012200) { unitA with time := { unitA.time with best := some (4600, 2200) } }
  (fun t => t.time.integ == 4600 && t.time.best == none && t.time.sync == .converging) = true := by decide +kernel
theorem test_worked_time_read : ({ booted with time := { booted.time with rate := 42950, epoch := 6000000000, offset := -1500000
                                                                          raw := 10000000000 } } : State).now = 0x0000000253F59CE0 := by
  decide

/-! ### The worked code of 20_security.md -/

theorem test_worked_mac : macText 0x3CEE2ED08B = [0x37, 0x4B, 0x51, 0x32, 0x58, 0x4D, 0x34, 0x42] := by decide
theorem test_worked_serial_text : serialText 4 1234 = [0x31, 0x32, 0x33, 0x34] := by decide

/-- Slot 0 of Example C, opened. -/
def coded : State :=
  { booted with sec := { booted.sec with
    resumeDue := false
    jobs := upd booted.sec.jobs 0 (fun j => { j with isOpen := true, jobId := 0x20260001, next := 1233, reservedEnd := 1233, last := 999999999999
                                                     key := some 0, lastLogged := 1232 }) } }

theorem test_worked_draw : (coded.draw 0).1.sec.jobs[(0 : Fin 16)].reservedEnd = 1489 ∧ (coded.draw 0).1.sec.jobs[(0 : Fin 16)].next = 1234 ∧
    (coded.draw 0).2.1 = 1233 := by decide
theorem test_worked_code_line : ((coded.codeLine 0 1234 0x3CEE2ED08B 0x12 0xB07712 1).sec.ring.map (fun l => l.1.take 3)) =
    [[0x01100000000004D2, 0x2600013CEE2ED08B, 0x00B0771200000012]] := by decide
theorem test_worked_skip_line : ((({ coded with sec := { coded.sec with
      jobs := upd coded.sec.jobs 0 (fun j => { j with next := 1489, reservedEnd := 1489, lastLogged := 1234 }) } } : State).skipLine 0).sec.ring.map
    (fun l => (l.1.getD 0 0, l.1.getD 1 0))) = [(word [1235, fld 56 4 3], 0x26000100000005D0)] := by decide
theorem test_worked_job_docket : (0x20260001 : Nat) = bits 0x2026000100000000 63 32 ∧ (999999999999 : Nat) = bits 0x000000E8D4A50FFF 47 0 := by
  decide

end Sys2Proof.Machine
end

