-- ==== Sys2Proof/Tests/WorkedPages.lean ====
section
/-!
SUPPORT. The worked examples of the spec about pages, engine cost, speed, lanes, the fabric and boot, as tests of single steps. Every
expected value is printed in the section named.
-/

namespace Sys2Proof.Machine

set_option maxRecDepth 20000
set_option Elab.async false

/-! ### Descriptors of 03_page_store_and_parcels.md -/

def layer101 : LayerDesc :=
  { id := 0x101, kind := .base, depth := 1, generated := false, masked := false, lines := 24000, posOffset := 0, positions := 61440
    generator := 0 }
def layer102 : LayerDesc :=
  { id := 0x102, kind := .contone, depth := 3, generated := false, masked := false, lines := 16000, posOffset := 20480, positions := 20480
    generator := 0 }
def layer103 : LayerDesc :=
  { id := 0x103, kind := .overlay, depth := 1, generated := false, masked := true, lines := 2000, posOffset := 4000, positions := 8192
    generator := 0 }

theorem test_worked_layers :
    parseLayerDesc [0x0000000400000101, 0x0000000000005DC0, 0x000000000000F000, 0] = some layer101 ∧
    parseLayerDesc [0x0000000E00000102, 0x0000500000003E80, 0x0000000000005000, 0] = some layer102 ∧
    parseLayerDesc [0x0000002500000103, 0x00000FA0000007D0, 0x0000000000002000, 0] = some layer103 := by decide

/-- Page 42. -/
def page42 : PageDesc :=
  { id := 42, length := 24000, mode := 4, carriage := false, reverse := false, gap := 96, serialised := false, checkStrip := true
    inspect := true, holdAbort := false, slot := 0, hostTag := 0x20260311
    refs := [⟨0x101, 0, 0, 0⟩, ⟨0x102, 2048, 0, 1⟩, ⟨0x103, 21000, 1, 0⟩] }

theorem test_worked_page :
    parsePageDesc ([0x0000002A00030001, 0x0000006008005DC0, 6, 0x20260311, 0, 0, 0, 0] ++
      [0x0000000000000101, 0, 0x0000080000000102, 1, 0x0100520800000103, 0]) = page42 := by decide

/-! ### The engine cost of page 42 in 05_furrow_engines.md, band 32 -/

/-- The layers of page 42 with the worst-case blocks that band 32 draws on. -/
def layers42 : List Layer :=
  [{ desc := layer101, blocks := (List.range 16).map (fun k => ⟨k, 32, 0, 7805, []⟩) },
    { desc := layer102, blocks := (List.range 6).map (fun k => ⟨k + 5, 0, 0, 31211, []⟩) },
    { desc := layer103, blocks := [] }]

def cost42 : CostCtx := { desc := page42, p := 61440, layers := layers42, image := fun _ => none, isDm := fun _ => false }

theorem test_worked_e1 : cost42.e1 6 32 = 67000 := by decide +kernel
theorem test_worked_decompressor : cost42.dec 6 32 = 77416 := by decide +kernel
theorem test_worked_band_cost : cost42.band 32 = 100456 := by decide +kernel
theorem test_worked_fetch : cost42.fetch 32 = 2497168 := by decide +kernel

/-- Page 43 of the same section: BASE, CONTONE and 15 masked OVERLAYs over the whole width of band 10, at the top of a shorter page. -/
def cost43 : CostCtx :=
  let zoneOf (k : Nat) : Layer :=
    { desc := { layer103 with id := BitVec.ofNat 32 (0x200 + k), lines := 64, posOffset := 0, positions := 61440 }
      blocks := (List.range 16).map (fun s => ⟨s, 0, 0, 2000, []⟩) }
  { desc := { page42 with id := 43, length := 64, refs := [⟨0x101, 0, 0, 0⟩, ⟨0x102, 0, 0, 1⟩] ++ (List.range 15).map (fun k => ⟨BitVec.ofNat 32 (0x200 + k), 0, 0, 0⟩) }
    p := 61440
    layers := [{ desc := { layer101 with lines := 64 }, blocks := (List.range 16).map (fun k => ⟨k, 0, 0, 2000, []⟩) },
      { desc := { layer102 with lines := 64, posOffset := 0, positions := 61440 }
        blocks := (List.range 16).map (fun k => ⟨k, 0, 0, 9000, []⟩) }] ++ (List.range 15).map zoneOf
    image := fun _ => none, isDm := fun _ => false }

theorem test_worked_page43_e1 : cost43.e1 0 0 = 412600 := by decide +kernel
theorem test_worked_page43_dec : cost43.dec 0 0 = 252200 := by decide +kernel
theorem test_worked_page43_fetch : cost43.fetch 0 = 5248000 := by decide +kernel

/-! ### The commit window of 02_print_model.md -/

/-- Page 42 prints from 1,000,000; page 43 is READY; a bar line has been allocated. -/
def window (line : Nat) : State :=
  { booted with
    print := { booted.print with
      started := true
      queue := [{ desc := { page42 with refs := [] }, rate := 400000, commitLine := some 999822, start := some 1000000, bound := none
                  held := none, serial := none }]
      span := some { desc := { page42 with refs := [] }, fallback := false, first := 1000000, last := 1023999, trailing := 1024031, abort := none
                     trig := none, defects := [], notKept := 0, interrupted := false, codeFired := false } }
    sluice := { booted.sluice with barLine := line, coreLine := line }
    store := { booted.store with pages := [{ desc := { page42 with id := 43, refs := [] }, state := .ready }] } }

theorem test_worked_commit_on_time : after (.pageCommit (word0 43)) (window 1023950)
  (fun t => last0 t == some (responseWord 0x10 5 .ok 0xFA080)) = true := by decide +kernel
theorem test_worked_commit_late : after (.pageCommit (word0 43)) (window 1024010)
  (fun t => last0 t == some (responseWord 0x10 5 .lateCommit 0xFA0E0)) = true := by decide +kernel

/-! ### The speed governor in 07_cistern_and_speed_governor.md -/

/-- The settings of the press of Example W. -/
def press : GovPart := { vMax := 240000, decelPs := 1500000000000, respPs := 20000000000, margin := 1024, limit := 234000 }

theorem test_worked_horizon : press.horizon = 185888 * press.scale := by decide
theorem test_worked_step_distance : 2 * press.distance 240000 234000 = 29551 * press.scale := by decide
theorem test_worked_duty : press.dutyNow = 63897 := by decide

/-! ### Triggered starts in 02_print_model.md and 19_narman_command_reference.md -/

/-- C-17 of Example C, committed at 99,700, with D = 709 on PTRIG0. -/
def bottling (line : Nat) : State :=
  { booted with
    print := { booted.print with
      started := true
      trigMode := true
      trigEnable := 1
      queue := [{ desc := { page42 with id := 0x11, length := 200, mode := 9, gap := 0, refs := [] }, rate := 400000, commitLine := some 99700
                  start := none, bound := none, held := none, serial := none }]
      trigs := upd booted.print.trigs 0 (fun t => { t with set := { t.set with delay := 709 } }) }
    sluice := { booted.sluice with barLine := line, coreLine := line } }

theorem test_worked_trigger : after (.productDetect 0) (bottling 100000) (fun t => t.print.bounds == [⟨0, 100709, some 0x11⟩]) = true := by
  decide +kernel
theorem test_worked_trigger_early : after (.productDetect 0) { bottling 100150 with print := { (bottling 100150).print with schedEdge := 100920 } }
  (fun t => last0 t == some 0x01056200000189FB && t.print.bounds == []) = true := by decide +kernel

/-! ### HMB_STAT in 18_host_link_and_mailboxes.md -/

/-- HMB0 in session 3. -/
def channel3 : HmbChannel := { session := 3, mask := 0xFFFF }

theorem test_worked_hmb_stat :
    ({ channel3 with inWord := some 0, outstanding := [(5, 0x10)] } : HmbChannel).stat = 0x0001000000000301 ∧
    ({ channel3 with outstanding := [(5, 0x10)] } : HmbChannel).stat = 0x0001000000000300 ∧
    ({ channel3 with outstanding := [(5, 0x10)], outQ := [1, 2] } : HmbChannel).stat = 0x0001000000020302 ∧ channel3.stat = 0x300 := by decide
theorem test_worked_host_reset : after (.hostReset 0) (({ booted with sys := { booted.sys with readyDue := false } } : State).setChan 0 (fun _ =>
    { channel3 with outQ := [1, 2, 3] }))
  (fun t => last0 t == some (eventWord (.mailboxAborted, 6)) && t.host.channels[(0 : Chan)].stat == 0x10406) = true := by decide +kernel

/-! ### DEVICE_READY in 22_reset_boot_power_and_self_test.md -/

/-- Stage LANES of a device without fabric, in which SRAM and THERMAL have passed. -/
def lanesStage : State :=
  { booted with sys := { booted.sys with stage := 5, outcomes := #v[1, 0, 0, 0, 0, 1] } }

theorem test_worked_ready : after (.bootStageDone (.lanes 365 false)) lanesStage (fun t => t.sys.stage == 7 && !t.sys.faultN &&
  t.readyDetail t.sys.summaryLow == 0x16D4011) = true := by decide +kernel

/-! ### A silent head driver in 14_serial_lanes.md -/

/-- L07 is a vendor head lane in TRAIN with its backoff at the start. -/
def silent (st : LaneSt) (b : Nat) : State :=
  { booted with lanes := { booted.lanes with lanes := upd booted.lanes.lanes 7 (fun l => { l with role := .head, fitted := true, st := st, backoff := b }) } }

theorem test_worked_train_fail : after (.laneStateTimeout 7) (silent .train 0)
  (fun t => t.lanes.lanes[(7 : LaneNo)].st == .wait && last0 t == some (eventWord (.linkTrainFail, 0x247))) = true := by decide +kernel

/-! ### The reference mark in 10_position_feedback.md -/

/-- ENC0 in digital mode with CPR 32,768,000, referenced, counting up, at an angle. -/
def roller (angle : Nat) (pending : Option Int) : State :=
  { printing with
    enc := { booted.enc with encs := upd booted.enc.encs 0 (fun e =>
      { e with mode := .digital, cpr := 32768000, angle := angle, referenced := true, lastUp := true, idxTol := 2, pending := pending }) } }

theorem test_worked_slip : after (.indexEvent 0 ⟨⟨true, 8⟩, 0⟩) (roller 32767999 none) (fun t => t.enc.encs[(0 : EncNo)].pending == some (-1) &&
  last0 t == some (eventWord (.indexSlip, 0x1FFFE))) = true := by decide +kernel
theorem test_worked_index_fault : after (.indexEvent 0 ⟨⟨true, 8⟩, 0⟩) (roller 5 (some (-1))) (fun t => t.enc.encs[(0 : EncNo)].pending == some (-1) &&
  last0 t == some (eventWord (.indexFault, 0xA))) = true := by decide +kernel

/-! ### Frames and tables of 15_canal_fabric.md and 16_redundancy_and_failover.md -/

theorem test_worked_governor_frame : (frameWords 2 0x020 0x010 [0x0000000001310275]).take 2 = [0xC5001010020FC8A0, 0x0000000001310275] := by
  decide +kernel
theorem test_worked_grant : (frameWords 1 0x011 0x020 (claimWords 1 true 8 7 0x20 ++ [0])).take 4 =
    [0xBA004020011FC4A0, 0x11, 0x0000000700000008, 0x20] := by decide +kernel

/-! ### The nozzle map of 06_nozzle_mapper.md -/

theorem test_worked_positions :
    parsePos 0x0010180008000000 = { a := ⟨⟨0, 0⟩, 0, 0⟩, b := some ⟨⟨0, 3072⟩, 0, 1⟩ } ∧
    parsePos 0x0010180218000021 = { a := ⟨⟨1, 1⟩, 0, 0⟩, b := some ⟨⟨1, 3073⟩, 0, 1⟩ } := by decide
theorem test_worked_head : parseHead [0x0000000000980000, 0xFEDCBA9876542210, 0x0000002000002000, 0, 0, 0] =
    { port := 0, nozzles := 6144, derate := 0xFEDCBA9876542210, rows := [⟨0, 32, 0, 0⟩, ⟨32, 0, 0, 0⟩] } := by decide

/-! ### The uncorrectable error of 21_dram_controller.md -/

theorem test_worked_poison : last0 (booted.uncorrectable 0x48D159E 2).settle = some 0x0B06B00A448D159E := by decide +kernel

/-! ### The generators of 05_furrow_engines.md -/

def gen1 : List Word := [0x0000001200000C01, 0x0001221600000000, 0xC03, 0, 0x00022D01]
def gen2 : List Word := [0x0000001100000C02, 0x7, 0xC06, 0, 0x0000022001204E53]

theorem test_worked_generators : generatorFieldBad gen1 = false ∧ generatorFieldBad gen2 = false ∧ symbolCapacity 22 = some 30 ∧
    worstLength (parseGenerator gen1).template = 24 := by decide
theorem test_worked_image_sizes :
    (parseGenerator gen1).imageSize [⟨7, 12, 16, []⟩] 24 = (48, 48) ∧ (parseGenerator gen2).imageSize [⟨7, 12, 16, []⟩] 24 = (288, 16) := by decide
theorem test_worked_text : (parseGenerator gen1).text (1234, 0x3CEE2ED08B) =
    asciiBytes "000000001234-7KQ2XM4B" ∧ (parseGenerator gen2).text (1234, 0x3CEE2ED08B) = asciiBytes "SN 000000001234 7KQ2XM4B" := by decide

end Sys2Proof.Machine
end

section
/-!
SUPPORT. How one lane of the device moves (14_serial_lanes.md): what a lane that comes or goes leaves unchanged, and what the
operations of the bring-up make of their lane.
-/

namespace Sys2Proof.Machine

variable (s : State)

/-! ### What links that come and go leave unchanged -/

@[simp] theorem State.setHead_lanes (p : HeadPort) (f : HeadState → HeadState) : (s.setHead p f).lanes = s.lanes := rfl
@[simp] theorem State.setHead_print (p : HeadPort) (f : HeadState → HeadState) : (s.setHead p f).print = s.print := rfl

@[simp] theorem State.waveAnswer_lanes (o : Origin) (tag : BitVec 5) : (s.waveAnswer o tag).lanes = s.lanes := by
  unfold State.waveAnswer
  repeat' split
  all_goals simp
@[simp] theorem State.waveAnswer_print (o : Origin) (tag : BitVec 5) : (s.waveAnswer o tag).print = s.print := by
  unfold State.waveAnswer
  repeat' split
  all_goals simp

@[simp] theorem State.waveEnd_lanes (p : HeadPort) (w : WaveLoad) (reason : Nat) : (s.waveEnd p w reason).lanes = s.lanes := by
  by_cases h : reason = 0 <;> simp [State.waveEnd, h]
@[simp] theorem State.waveEnd_print (p : HeadPort) (w : WaveLoad) (reason : Nat) : (s.waveEnd p w reason).print = s.print := by
  by_cases h : reason = 0 <;> simp [State.waveEnd, h]

@[simp] theorem State.headLeft_lanes (p : HeadPort) : (s.headLeft p).lanes = s.lanes := by
  simp [State.headLeft, foldl_same State.lanes]
@[simp] theorem State.headLeft_print (p : HeadPort) : (s.headLeft p).print = s.print := by
  simp [State.headLeft, foldl_same State.print]

@[simp] theorem State.announceAll_lanes : s.announceAll.lanes = s.lanes := by
  unfold State.announceAll
  dsimp only
  split
  · split <;> rfl
  · rw [foldl_same State.lanes _ (fun t p => by split <;> simp)]
    split <;> rfl
@[simp] theorem State.announceAll_print : s.announceAll.print = s.print := by
  unfold State.announceAll
  dsimp only
  split
  · split <;> rfl
  · rw [foldl_same State.print _ (fun t p => by split <;> simp)]
    split <;> rfl

@[simp] theorem State.reelect_lanes : s.reelect.lanes = s.lanes := by
  unfold State.reelect
  dsimp only
  split <;> simp
@[simp] theorem State.reelect_print : s.reelect.print = s.print := by
  unfold State.reelect
  dsimp only
  split <;> simp

@[simp] theorem State.sendFabReport_lanes : s.sendFabReport.lanes = s.lanes := by
  unfold State.sendFabReport State.keepReport
  dsimp only
  split <;> simp
@[simp] theorem State.sendFabReport_print : s.sendFabReport.print = s.print := by
  unfold State.sendFabReport State.keepReport
  dsimp only
  split <;> simp

@[simp] theorem State.portsChanged_lanes : s.portsChanged.lanes = s.lanes := by
  unfold State.portsChanged
  dsimp only
  split <;> simp
@[simp] theorem State.portsChanged_print : s.portsChanged.print = s.print := by
  unfold State.portsChanged
  dsimp only
  split <;> simp

@[simp] theorem State.fabLeft_lanes (p : FabPort) : (s.fabLeft p).lanes = s.lanes := by
  simp [State.fabLeft, foldl_same State.lanes]
@[simp] theorem State.fabLeft_print (p : FabPort) : (s.fabLeft p).print = s.print := by
  simp [State.fabLeft, foldl_same State.print]

@[simp] theorem State.laneLeft_lanes (n : LaneNo) (was : LaneState) : (s.laneLeft n was).lanes = s.lanes := by
  unfold State.laneLeft
  repeat' split
  all_goals simp
@[simp] theorem State.laneLeft_print (n : LaneNo) (was : LaneState) : (s.laneLeft n was).print = s.print := by
  unfold State.laneLeft
  repeat' split
  all_goals simp

/-- A step that does nothing in a state without waiting events leaves that state (R647). -/
theorem State.done_quiet (h : s.quiet) : s.done = .next s := congrArg Host.Outcome.next (s.settle_quiet h)

/-! ### One lane moves -/

/-- Of the lanes and the print, only one lane has changed, and f says what it has become. -/
structure LaneMoves (s t : State) (n : LaneNo) (f : LaneState → LaneState) : Prop where
  lanes : t.lanes.lanes = upd s.lanes.lanes n f
  print : t.print = s.print

variable {s} {t u : State} {n : LaneNo} {f g : LaneState → LaneState}

theorem State.setLane_moves (f : LaneState → LaneState) : LaneMoves s (s.setLane n f) n f := ⟨rfl, rfl⟩

/-- The lane itself, after it has moved. -/
theorem LaneMoves.lane (h : LaneMoves s t n f) : t.lanes.lanes[n] = f s.lanes.lanes[n] := by simp [h.lanes]

/-- Every other lane, after one has moved. -/
theorem LaneMoves.other (h : LaneMoves s t n f) (m : LaneNo) (hm : m ≠ n) : t.lanes.lanes[m] = s.lanes.lanes[m] := by
  simpa [h.lanes] using upd_other s.lanes.lanes n m f hm.symm

/-- What happens beside the lanes and the print does not matter. -/
theorem LaneMoves.keeps (h : LaneMoves s t n f) (hl : u.lanes = t.lanes) (hp : u.print = t.print) : LaneMoves s u n f :=
  ⟨by rw [hl, h.lanes], hp.trans h.print⟩

theorem LaneMoves.trans (h : LaneMoves s t n f) (h' : LaneMoves t u n g) : LaneMoves s u n (g ∘ f) :=
  ⟨by rw [h'.lanes, h.lanes]; simp [upd], h'.print.trans h.print⟩

/-- What has happened before beside the lanes and the print does not matter. -/
theorem LaneMoves.after (h : LaneMoves t u n f) (hl : t.lanes = s.lanes) (hp : t.print = s.print) : LaneMoves s u n f :=
  ⟨by rw [h.lanes, hl], h.print.trans hp⟩

/-- A lane that has moved sends a block, or an event tells of it. -/
theorem LaneMoves.emit (h : LaneMoves s t n f) (e : Emission) : LaneMoves s (t.emit e) n f := h.keeps rfl rfl
theorem LaneMoves.raiseF (h : LaneMoves s t n f) (e : Code) (fs : List Nat) : LaneMoves s (t.raiseF e fs) n f :=
  h.keeps (t.raiseF_lanes e fs) (t.raiseF_print e fs)

/-- A lane moves alike on both branches of a condition. -/
theorem LaneMoves.ite {c : Prop} [Decidable c] (ht : LaneMoves s t n f) (hu : LaneMoves s u n f) :
    LaneMoves s (if c then t else u) n f := by
  split
  · exact ht
  · exact hu

/-! ### The operations of the bring-up (R416 to R419) -/

/-- A lane in TRAIN at the start of an attempt, with the polarity of its table entry (R413, R416). -/
def LaneState.training (l : LaneState) : LaneState :=
  { l with st := .train, detections := 0, inverted := false, tried := false, blockLock := false, lockRun := 0, readyRun := 0 }

theorem State.laneTrain_moves : LaneMoves s (s.laneTrain n) n LaneState.training :=
  (State.setLane_moves LaneState.training).emit _

/-- A lane in DETECT with its backoff position at the start (R419). -/
def LaneState.detecting (l : LaneState) : LaneState :=
  { l with st := .detect, detections := 0, backoff := 0, blockLock := false, lockRun := 0, readyRun := 0 }

theorem State.laneDetect_moves : LaneMoves s (s.laneDetect n) n LaneState.detecting :=
  (State.setLane_moves LaneState.detecting).keeps (State.laneLeft_lanes ..) (State.laneLeft_print ..)

/-- A lane whose attempt has failed waits, with its place in the backoff cycle (R418). -/
def LaneState.failed (l : LaneState) : LaneState :=
  { l with st := .wait, trainFails := min 65535 (l.trainFails + 1), blockLock := false
           backoff := if l.backoff == 0 || decide (11 ≤ l.backoff) then 1 else l.backoff + 1 }

theorem State.laneFail_moves {k : Nat} (h : s.lanes.lanes[n].st.failCode = some k) (cause : Nat) :
    LaneMoves s (s.laneFail n cause) n LaneState.failed := by
  simp only [State.laneFail, h]
  exact ((State.setLane_moves LaneState.failed).raiseF _ _).ite (State.setLane_moves LaneState.failed)

/-- A state that cannot fail takes no failure (R418). -/
theorem State.laneFail_none (h : s.lanes.lanes[n].st.failCode = none) (cause : Nat) : s.laneFail n cause = s := by
  simp only [State.laneFail, h]

/-- A lane enters CAPS; what its head or fabric port then begins moves no lane (R416). -/
theorem State.laneCaps_moves : LaneMoves s (s.laneCaps n) n (fun l => { l with st := .caps }) := by
  have hs := State.setLane_moves (s := s) (n := n) (fun l => { l with st := .caps })
  unfold State.laneCaps
  dsimp only
  repeat' split
  all_goals exact hs.keeps rfl rfl

/-- The run of blocks alike that gives block lock (R417). -/
theorem lockRun_full {k : Nat} (hk : 64 ≤ k) (run : Nat) : min 64 (run + k) = 64 := by omega

/-- 64 blocks of STATE 3 in a row give block lock, and CAPS (R416, R417). -/
theorem State.lockBlocks_caps {k : Nat} (hk : 64 ≤ k) : LaneMoves s (s.lockBlocks n false 3 k) n
    (fun l => { l with st := .caps, lockRun := 64, readyRun := 16, blockLock := true }) := by
  have hready : min 16 (s.lanes.lanes[n].readyRun + k) = 16 := by omega
  have hs := State.setLane_moves (s := s) (n := n) (fun l => { l with lockRun := 64, readyRun := 16, blockLock := true })
  simp only [State.lockBlocks, lockRun_full hk, hready, decide_true, Bool.and_false, Bool.false_and, Bool.false_eq_true, if_false,
    beq_self_eq_true, Bool.or_true, bne_self_eq_false, Bool.or_self, Bool.and_self, if_true]
  exact ((hs.emit _).ite hs).trans State.laneCaps_moves

/-- 64 inverted blocks in a row, without block lock, invert the receive polarity once in an attempt (R417). -/
theorem State.lockBlocks_inverts {k st : Nat} (hk : 64 ≤ k) (hlock : s.lanes.lanes[n].blockLock = false)
    (htried : s.lanes.lanes[n].tried = false) : LaneMoves s (s.lockBlocks n true st k) n
    (fun l => { l with inverted := !l.inverted, tried := true, lockRun := 0, readyRun := 0 }) := by
  simp only [State.lockBlocks, lockRun_full hk, hlock, htried]
  exact State.setLane_moves _

end Sys2Proof.Machine
end

section
/-!
SUPPORT. A vendor lane goes through the states of R416 to R419 (O38): what each command of the bring-up makes of its lane in each state
that takes it, and the states that do not take it.
-/

namespace Sys2Proof.Machine

variable {s t : State} {n : LaneNo} {f : LaneState → LaneState} {P : LaneState → Prop}

/-- A step takes a lane to a state of which P holds, and moves no other lane and nothing of the print. -/
def LaneGoes (s : State) (n : LaneNo) (o : Out) (P : LaneState → Prop) : Prop :=
  ∃ t : State, o = .next t ∧ P t.lanes.lanes[n] ∧ (∀ m : LaneNo, m ≠ n → t.lanes.lanes[m] = s.lanes.lanes[m]) ∧ t.print = s.print

/-- A step that ends with one lane moved takes that lane where the move leads. -/
theorem LaneMoves.goes (h : LaneMoves s t n f) (hP : P (f s.lanes.lanes[n])) : LaneGoes s n t.done P := by
  have h' : LaneMoves s t.settle n f := h.keeps t.settle_lanes t.settle_print
  exact ⟨t.settle, rfl, h'.lane ▸ hP, h'.other, h'.print⟩

/-- A step that ends with a change of the lane takes the lane where that change leads. -/
theorem State.setLane_goes (hl : t.lanes = s.lanes) (hp : t.print = s.print) (hP : P (f s.lanes.lanes[n])) :
    LaneGoes s n (t.setLane n f).done P :=
  ((State.setLane_moves f).after hl hp).goes hP

/-! ### Detection and CDR lock (R416, R418) -/

theorem receiverDetectPulse_lost (hv : s.lanes.lanes[n].vendor = true) (h : s.lanes.lanes[n].st = .detect) :
    LaneGoes s n (execReceiverDetectPulse n false s) (fun x => x.st = .detect ∧ x.detections = 0 ∧ x.backoff = 0) := by
  simp only [execReceiverDetectPulse, h, hv, bne_self_eq_false, Bool.not_true, Bool.or_self, Bool.not_false,
    Bool.false_eq_true, if_false, if_true]
  exact State.setLane_goes rfl rfl ⟨h, rfl, rfl⟩

theorem receiverDetectPulse_first (hv : s.lanes.lanes[n].vendor = true) (h : s.lanes.lanes[n].st = .detect)
    (hd : s.lanes.lanes[n].detections = 0) :
    LaneGoes s n (execReceiverDetectPulse n true s) (fun x => x.st = .detect ∧ x.detections = 1) := by
  simp only [execReceiverDetectPulse, h, hv, hd, bne_self_eq_false, Bool.not_true, Bool.or_self,
    Bool.false_eq_true, if_false, if_true]
  exact State.setLane_goes rfl rfl ⟨h, rfl⟩

theorem receiverDetectPulse_second (hv : s.lanes.lanes[n].vendor = true) (h : s.lanes.lanes[n].st = .detect)
    (hd : s.lanes.lanes[n].detections ≠ 0) :
    LaneGoes s n (execReceiverDetectPulse n true s) (fun x => x.st = .train) := by
  simp only [execReceiverDetectPulse, h, hv, hd, bne_self_eq_false, Bool.not_true, Bool.or_self,
    Bool.false_eq_true, if_false]
  exact LaneMoves.goes (State.laneTrain_moves.after rfl rfl) rfl

theorem cdrLock_locks (h : s.lanes.lanes[n].st = .train) :
    LaneGoes s n (execCdrLock n s) (fun x => x.st = .lock ∧ x.blockLock = false) := by
  simp only [execCdrLock, h, if_true]
  exact ((State.setLane_moves _).emit _).goes ⟨rfl, rfl⟩

/-! ### Training blocks (R415 to R417, R419) -/

section TrainingBlocks

variable {sync : BitVec 2} {b : Word} {k st : Nat} {inv : Bool}
  (hv : s.lanes.lanes[n].vendor = true) (ht : trainingOf sync b = some (inv, st))

include hv ht

/-- 243 blocks, which last 1 µs, begin an attempt from DETECT and from WAIT. -/
theorem trainingBlock_begins (hk : 243 ≤ k) (h : s.lanes.lanes[n].st = .detect ∨ s.lanes.lanes[n].st = .wait) :
    LaneGoes s n (execTrainingBlock n sync b k s) (fun x => x.st = .train) := by
  have hk0 : k ≠ 0 := by omega
  obtain h | h := h
  · simp only [execTrainingBlock, ht, hv, beq_false_of_ne hk0, h, hk, Bool.not_true, Bool.or_self, Bool.false_eq_true, if_false, if_true]
    exact State.laneTrain_moves.goes rfl
  · simp only [execTrainingBlock, ht, hv, beq_false_of_ne hk0, h, hk, Bool.not_true, Bool.or_self, Bool.false_eq_true, if_false, if_true]
    exact ((State.setLane_moves _).trans State.laneTrain_moves).goes rfl

/-- A vendor lane in LOCK judges the blocks. -/
theorem trainingBlock_lock (hk : 64 ≤ k) (h : s.lanes.lanes[n].st = .lock) :
    execTrainingBlock n sync b k s = (s.lockBlocks n inv st k).done := by
  have hk0 : k ≠ 0 := by omega
  simp only [execTrainingBlock, ht, hv, beq_false_of_ne hk0, h, Bool.not_true, Bool.or_self, Bool.false_eq_true, if_false]

/-- 64 upright blocks of STATE 3 take the lane to CAPS; the 16 further blocks it sends first are timing (log 144). -/
theorem trainingBlock_caps (hk : 64 ≤ k) (h : s.lanes.lanes[n].st = .lock) (hinv : inv = false) (hst : st = 3) :
    LaneGoes s n (execTrainingBlock n sync b k s) (fun x => x.st = .caps ∧ x.blockLock = true) := by
  rw [trainingBlock_lock hv ht hk h, hinv, hst]
  exact (State.lockBlocks_caps hk).goes ⟨rfl, rfl⟩

theorem trainingBlock_inverts (hk : 64 ≤ k) (h : s.lanes.lanes[n].st = .lock) (hinv : inv = true)
    (hlock : s.lanes.lanes[n].blockLock = false) (htried : s.lanes.lanes[n].tried = false) :
    LaneGoes s n (execTrainingBlock n sync b k s)
      (fun x => x.st = .lock ∧ x.inverted = !s.lanes.lanes[n].inverted ∧ x.tried = true) := by
  rw [trainingBlock_lock hv ht hk h, hinv]
  exact (State.lockBlocks_inverts hk hlock htried).goes ⟨h, rfl, rfl⟩

/-- Training blocks on an ACTIVE lane show that the partner has begun anew. -/
theorem trainingBlock_active (hk : 0 < k) (h : s.lanes.lanes[n].st = .active) :
    LaneGoes s n (execTrainingBlock n sync b k s) (fun x => x.st = .detect ∧ x.backoff = 0) := by
  simp only [execTrainingBlock, ht, hv, beq_false_of_ne hk.ne', h, Bool.not_true, Bool.or_self, Bool.false_eq_true, if_false]
  exact State.laneDetect_moves.goes ⟨rfl, rfl⟩

end TrainingBlocks

/-! ### Failures, waits and losses (R418, R419, R425, R426) -/

/-- TRAIN, LOCK and CAPS can fail (R418, R421). -/
theorem LaneSt.failCode_some {st : LaneSt} (h : st = .train ∨ st = .lock ∨ st = .caps) : ∃ k, st.failCode = some k := by
  obtain rfl | rfl | rfl := h
  · exact ⟨1, rfl⟩
  · exact ⟨2, rfl⟩
  · exact ⟨3, rfl⟩

/-- A failed attempt waits, counted, at the next place in the backoff cycle. -/
theorem State.laneFail_goes (h : s.lanes.lanes[n].st = .train ∨ s.lanes.lanes[n].st = .lock ∨ s.lanes.lanes[n].st = .caps) (cause : Nat) :
    LaneGoes s n (s.laneFail n cause).done (fun x => x.st = .wait ∧ x.trainFails = min 65535 (s.lanes.lanes[n].trainFails + 1) ∧
      x.backoff = (if s.lanes.lanes[n].backoff = 0 ∨ 11 ≤ s.lanes.lanes[n].backoff then 1 else s.lanes.lanes[n].backoff + 1)) := by
  obtain ⟨k, hk⟩ := LaneSt.failCode_some h
  exact (State.laneFail_moves hk cause).goes ⟨rfl, rfl, by simp [LaneState.failed]⟩

/-- Electrical idle ends an attempt on a lane that is not ACTIVE. -/
theorem electricalIdle_fails (h : s.lanes.lanes[n].st ≠ .active) : execElectricalIdle n s = (s.laneFail n 2).done := by
  simp only [execElectricalIdle, h, if_false]

/-- In TRAIN, LOCK and CAPS a timeout and electrical idle both end the attempt. -/
theorem attemptEnd_goes {i : Instr} (hi : i = .laneStateTimeout n ∨ i = .electricalIdle n)
    (h : s.lanes.lanes[n].st = .train ∨ s.lanes.lanes[n].st = .lock ∨ s.lanes.lanes[n].st = .caps) :
    LaneGoes s n (exec i s) (fun x => x.st = .wait ∧ x.trainFails = min 65535 (s.lanes.lanes[n].trainFails + 1) ∧
      x.backoff = (if s.lanes.lanes[n].backoff = 0 ∨ 11 ≤ s.lanes.lanes[n].backoff then 1 else s.lanes.lanes[n].backoff + 1)) := by
  obtain rfl | rfl := hi
  · exact State.laneFail_goes h 1
  · have ha : s.lanes.lanes[n].st ≠ .active := by
      intro ha
      simp [ha, -Fin.getElem_fin] at h
    show LaneGoes s n (execElectricalIdle n s) _
    rw [electricalIdle_fails ha]
    exact State.laneFail_goes h 2

theorem electricalIdle_active (h : s.lanes.lanes[n].st = .active) :
    LaneGoes s n (execElectricalIdle n s) (fun x => x.st = .detect ∧ x.backoff = 0) := by
  simp only [execElectricalIdle, h, if_true]
  exact State.laneDetect_moves.goes ⟨rfl, rfl⟩

theorem backoffWaitEnd_detects (h : s.lanes.lanes[n].st = .wait) :
    LaneGoes s n (execBackoffWaitEnd n s)
      (fun x => x.st = .detect ∧ x.backoff = (if 11 ≤ s.lanes.lanes[n].backoff then 0 else s.lanes.lanes[n].backoff)) := by
  simp only [execBackoffWaitEnd, h, if_true]
  exact State.setLane_goes rfl rfl ⟨rfl, rfl⟩

/-- A lost block lock is counted; an ACTIVE lane leaves for DETECT, and another stays in its state. -/
theorem blockLockLoss_counts (hv : s.lanes.lanes[n].vendor = true) (hb : s.lanes.lanes[n].blockLock = true) :
    LaneGoes s n (execBlockLockLoss n s) (fun x => x.lockLoss = min 255 (s.lanes.lanes[n].lockLoss + 1) ∧ x.blockLock = false ∧
      x.st = (if s.lanes.lanes[n].st = .active then .detect else s.lanes.lanes[n].st) ∧
      x.backoff = (if s.lanes.lanes[n].st = .active then 0 else s.lanes.lanes[n].backoff)) := by
  have hs := State.setLane_moves (s := s) (n := n) (fun l =>
    { l with lockLoss := min 255 (l.lockLoss + 1), blockLock := false, lockRun := 0, readyRun := 0 })
  simp only [execBlockLockLoss, hv, hb, Bool.not_true, Bool.or_self, Bool.false_eq_true, if_false]
  by_cases ha : s.lanes.lanes[n].st = .active
  · simp only [ha, if_true]
    exact (hs.trans State.laneDetect_moves).goes ⟨rfl, rfl, rfl, rfl⟩
  · simp only [ha, if_false]
    split
    · exact (hs.emit _).goes ⟨rfl, rfl, rfl, rfl⟩
    · exact hs.goes ⟨rfl, rfl, rfl, rfl⟩

/-- A vendor lane whose receiver is on counts its errors and stays in its state, whether or not an episode begins. -/
theorem laneErrors_counts {k : BitVec 16} {el : Byte} (hv : s.lanes.lanes[n].vendor = true) (h : s.lanes.lanes[n].st ≠ .down)
    (hne : k ≠ 0 ∨ el ≠ 0) :
    LaneGoes s n (execLaneErrors n ⟨k, el⟩ s) (fun x => x.st = s.lanes.lanes[n].st ∧
      x.codeErr = min 65535 (s.lanes.lanes[n].codeErr + k.toNat) ∧ x.elastic = min 255 (s.lanes.lanes[n].elastic + el.toNat)) := by
  have hc : s.lanes.lanes[n].counts = true := by simp [LaneState.counts, hv, h, -Fin.getElem_fin]
  have hz : (k == 0 && el == 0) = false := by simpa [imp_iff_not_or] using hne
  simp only [execLaneErrors, hc, hz, Bool.not_true, Bool.or_self, Bool.false_eq_true, if_false]
  split
  · exact ((State.setLane_moves _).raiseF _ _).goes ⟨rfl, rfl, rfl⟩
  · exact State.setLane_goes rfl rfl ⟨rfl, rfl, rfl⟩

/-! ### What a lane's state does not take (R416, R418, R419) -/

theorem receiverDetectPulse_ignored (h : s.lanes.lanes[n].st ≠ .detect) (found : Bool) : execReceiverDetectPulse n found s = s.done := by
  simp [execReceiverDetectPulse, h, -Fin.getElem_fin]

theorem cdrLock_ignored (h : s.lanes.lanes[n].st ≠ .train) : execCdrLock n s = s.done := by
  simp only [execCdrLock, h, if_false]

theorem trainingBlock_ignored (h : s.lanes.lanes[n].st = .down) (sync : BitVec 2) (b : Word) (k : Nat) :
    execTrainingBlock n sync b k s = s.done := by
  unfold execTrainingBlock
  simp only [h]
  split
  · simp
  · split <;> rfl

theorem laneFail_ignored (h : s.lanes.lanes[n].st = .down ∨ s.lanes.lanes[n].st = .wait ∨ s.lanes.lanes[n].st = .loopback) (cause : Nat) :
    s.laneFail n cause = s := by
  apply State.laneFail_none
  obtain h | h | h := h <;> rw [h] <;> rfl

/-- What cannot fail takes neither a timeout nor electrical idle. -/
theorem attemptEnd_ignored (h : s.lanes.lanes[n].st = .down ∨ s.lanes.lanes[n].st = .wait ∨ s.lanes.lanes[n].st = .loopback) :
    execLaneStateTimeout n s = s.done ∧ execElectricalIdle n s = s.done := by
  have ha : s.lanes.lanes[n].st ≠ .active := by
    intro ha
    simp [ha, -Fin.getElem_fin] at h
  rw [electricalIdle_fails ha, execLaneStateTimeout, laneFail_ignored h, laneFail_ignored h]
  exact ⟨rfl, rfl⟩

theorem backoffWaitEnd_ignored (h : s.lanes.lanes[n].st ≠ .wait) : execBackoffWaitEnd n s = s.done := by
  simp only [execBackoffWaitEnd, h, if_false]

theorem blockLockLoss_ignored (h : s.lanes.lanes[n].blockLock = false) : execBlockLockLoss n s = s.done := by
  simp [execBlockLockLoss, h, -Fin.getElem_fin]

theorem laneErrors_ignored (h : s.lanes.lanes[n].vendor = false ∨ s.lanes.lanes[n].st = .down) (hr : s.lanes.lanes[n].role ≠ .camera)
    (count : LaneCounts) : execLaneErrors n count s = s.done := by
  have hc : s.lanes.lanes[n].counts = false := by
    obtain h | h := h <;> simp [LaneState.counts, h, hr, -Fin.getElem_fin]
  simp only [execLaneErrors, hc, Bool.not_false, Bool.true_or, if_true]

theorem loopbackEnd_ignored (h : s.lanes.lanes[n].test = none) (r : LoopbackResult) : execLoopbackEnd n r s = s.done := by
  simp only [execLoopbackEnd, h, Option.isNone_none, if_true]

/-! ### The statement -/

/-- Settles O38: each clause is the lemma above about its command. -/
theorem laneBringUpFollowsItsStates : Obligations.LaneBringUpFollowsItsStates := by
  unfold Obligations.LaneBringUpFollowsItsStates
  refine ⟨fun s n hv => ⟨receiverDetectPulse_lost hv, receiverDetectPulse_first hv, receiverDetectPulse_second hv, cdrLock_locks, ?_,
    fun i hi h => attemptEnd_goes hi h, electricalIdle_active, backoffWaitEnd_detects, blockLockLoss_counts hv,
    fun k el => laneErrors_counts hv⟩, fun s n hq => ?_⟩
  · intro sync b k inv st ht
    exact ⟨trainingBlock_begins hv ht, trainingBlock_caps hv ht, trainingBlock_inverts hv ht, trainingBlock_active hv ht⟩
  · have hd : s.done = .next s := s.done_quiet hq
    exact ⟨fun h found => (receiverDetectPulse_ignored h found).trans hd, fun h => (cdrLock_ignored h).trans hd,
      fun h sync b k => (trainingBlock_ignored h sync b k).trans hd, fun h => (attemptEnd_ignored h).imp (·.trans hd) (·.trans hd),
      fun h => (backoffWaitEnd_ignored h).trans hd, fun h => (blockLockLoss_ignored h).trans hd,
      fun h hr k el => (laneErrors_ignored h hr ⟨k, el⟩).trans hd, fun h r => (loopbackEnd_ignored h r).trans hd⟩

end Sys2Proof.Machine
end

section
/-!
SUPPORT. A unit's standing in its pair (16_redundancy_and_failover.md): what it holds of the pair and the claim it announces. What the
device does with pages, frames, cameras, the log and the governor leaves the standing as it is; so do the records and beats it sends.
-/

namespace Sys2Proof.Machine

/-- What a unit holds of its pair, without the numbers of the records and beats it sends and without the decisions it awaits. -/
def PairPart.held (q : PairPart) : PairPart := { q with schedSeq := 0, hbSeq := 0, shadowTrigs := [], shadowAbort := none }

/-- A unit's standing: what it holds of its pair, and the claim it announces. -/
def State.standing (s : State) : PairPart × BitVec 32 := (s.pair.held, s.heads.claim)

variable (s : State)

/-! ### How the standing is read -/

/-- The standing of a state written out by its parts: updates of other parts do not show in it. -/
@[simp] theorem State.standing_mk (pe ho st pr en ma ci go sl hd ec mo ca he la fa pa ti se dr sy sn dw) :
    (State.mk pe ho st pr en ma ci go sl hd ec mo ca he la fa pa ti se dr sy sn dw).standing = (pa.held, hd.claim) := rfl

@[simp] theorem State.standing_eta : (s.pair.held, s.heads.claim) = s.standing := rfl

@[simp] theorem State.standing_ite {c : Prop} [Decidable c] (t u : State) :
    (if c then t else u).standing = if c then t.standing else u.standing := apply_ite State.standing c t u

/-- A fold whose steps keep the standing keeps it. -/
theorem State.foldl_standing {β : Type} (g : State → β → State) (hg : ∀ t b, (g t b).standing = t.standing) (l : List β) :
    (l.foldl g s).standing = s.standing := foldl_same State.standing g hg l s

/-- The pair and the heads give the standing. -/
theorem State.standing_congr {s t : State} (hp : t.pair = s.pair) (hh : t.heads = s.heads) : t.standing = s.standing := by
  rw [State.standing, hp, hh, State.standing_eta]

/-! ### Operations that change neither the pair nor the heads -/

@[simp] theorem State.drew_standing : s.drew.standing = s.standing := rfl
@[simp] theorem State.irq_standing (v : Nat) : (s.irq v).standing = s.standing := State.standing_congr (by simp) (by simp)
@[simp] theorem State.raise_standing (e : Code) (d : BitVec 40) : (s.raise e d).standing = s.standing :=
  State.standing_congr (by simp) (by simp)
@[simp] theorem State.raiseF_standing (e : Code) (fs : List Nat) : (s.raiseF e fs).standing = s.standing :=
  State.standing_congr (by simp) (by simp)
@[simp] theorem State.respond_standing (o : Origin) (op : Byte) (tag : BitVec 5) (st : Code) (r : BitVec 40) :
    (s.respond o op tag st r).standing = s.standing := State.standing_congr (by simp) (by simp)
@[simp] theorem State.fabSend_standing (kind : Nat) (dest : NodeNo) (ws : List Word) : (s.fabSend kind dest ws).standing = s.standing :=
  State.standing_congr (by simp) (by simp)

/-! ### DRAM and the print log (R575 to R579, R586, R596) -/

@[simp] theorem State.correctedError_standing (burst : Nat) : (s.correctedError burst).standing = s.standing := by
  simp [State.correctedError]
@[simp] theorem State.uncorrectable_standing (burst : BitVec 30) (source : Nat) : (s.uncorrectable burst source).standing = s.standing := by
  simp [State.uncorrectable]
@[simp] theorem State.readBurst_standing (source : Nat) (b : BurstRead) : (s.readBurst source b).1.standing = s.standing := by
  unfold State.readBurst
  dsimp only
  split <;> simp
@[simp] theorem State.merge_standing (a : Nat) : (s.merge a).1.standing = s.standing := by
  unfold State.merge
  split <;> simp
@[simp] theorem State.wroteIn_standing (region : Nat) : (s.wroteIn region).standing = s.standing := by simp [State.wroteIn]

@[simp] theorem State.logLowCheck_standing : s.logLowCheck.standing = s.standing := by simp [State.logLowCheck]
@[simp] theorem State.logAppend_standing (ls : List (List Word × Bool)) : (s.logAppend ls).standing = s.standing := by
  simp [State.logAppend, State.foldl_standing]
@[simp] theorem State.checkpoint_standing (kind : Nat) (l3 : List Word) : (s.checkpoint kind l3).standing = s.standing := by
  simp [State.checkpoint]
@[simp] theorem State.chainLine_standing (w0 w1 w2 : Word) : (s.chainLine w0 w1 w2).standing = s.standing := by simp [State.chainLine]
@[simp] theorem State.skipLine_standing (n : Fin 16) : (s.skipLine n).standing = s.standing := by simp [State.skipLine]
@[simp] theorem State.resumeLog_standing : s.resumeLog.standing = s.standing := by simp [State.resumeLog, State.foldl_standing]
@[simp] theorem State.codeLine_standing (slot : Fin 16) (serial : BitVec 48) (mac : BitVec 40) (page : PageId) (tag : Word)
    (outcome : Nat) : (s.codeLine slot serial mac page tag outcome).standing = s.standing := by simp [State.codeLine]
@[simp] theorem State.serialHeld_standing (page : PageId) (reason trig : Nat) : (s.serialHeld page reason trig).standing = s.standing := by
  simp [State.serialHeld]

/-! ### Frames, records and beats of the pair (R464, R470, R477) -/

/-- What a fabric frame and a drawn value leave alone, a tagged frame leaves alone. -/
theorem State.sendTagged_keeps {α : Type} (π : State → α) (hd : ∀ t, π (State.drew t) = π t)
    (hf : ∀ t kind dest ws, π (State.fabSend t kind dest ws) = π t) (kind : Nat) (dest : NodeNo) (ws : List Word) :
    π (s.sendTagged kind dest ws) = π s := by
  unfold State.sendTagged
  split
  · rfl
  · dsimp only
    split
    · rfl
    · split
      · exact (hf ..).trans (hd s)
      · exact hf ..

@[simp] theorem State.sendTagged_pair (kind : Nat) (dest : NodeNo) (ws : List Word) : (s.sendTagged kind dest ws).pair = s.pair :=
  s.sendTagged_keeps State.pair (by simp) (by simp) kind dest ws
@[simp] theorem State.sendTagged_heads (kind : Nat) (dest : NodeNo) (ws : List Word) : (s.sendTagged kind dest ws).heads = s.heads :=
  s.sendTagged_keeps State.heads (by simp) (by simp) kind dest ws
@[simp] theorem State.sendTagged_lanes (kind : Nat) (dest : NodeNo) (ws : List Word) : (s.sendTagged kind dest ws).lanes = s.lanes :=
  s.sendTagged_keeps State.lanes (by simp) (by simp) kind dest ws
@[simp] theorem State.sendTagged_print (kind : Nat) (dest : NodeNo) (ws : List Word) : (s.sendTagged kind dest ws).print = s.print :=
  s.sendTagged_keeps State.print (by simp) (by simp) kind dest ws

/-- A beat is tagged frames, one to each node of the audience, after its number. -/
theorem State.beat_keeps {α : Type} (π : State → α) (hn : ∀ t n, π { t with pair := { t.pair with hbSeq := n } } = π t)
    (hs : ∀ t kind dest ws, π (State.sendTagged t kind dest ws) = π t) : π s.beat = π s := by
  unfold State.beat
  split
  · rfl
  · exact (foldl_same π _ (fun t n => hs t ..) _ _).trans (hn s _)

@[simp] theorem State.beat_heads : s.beat.heads = s.heads := s.beat_keeps State.heads (by simp) (by simp)
@[simp] theorem State.beat_lanes : s.beat.lanes = s.lanes := s.beat_keeps State.lanes (by simp) (by simp)
@[simp] theorem State.beat_print : s.beat.print = s.print := s.beat_keeps State.print (by simp) (by simp)

/-- Of the pair, a beat changes its number only. -/
theorem State.beat_pair : ∃ n, s.beat.pair = { s.pair with hbSeq := n } := by
  unfold State.beat
  split
  · exact ⟨_, rfl⟩
  · exact ⟨_, foldl_same State.pair _ (by simp) _ _⟩

@[simp] theorem State.sendTagged_standing (kind : Nat) (dest : NodeNo) (ws : List Word) :
    (s.sendTagged kind dest ws).standing = s.standing := State.standing_congr (by simp) (by simp)

@[simp] theorem State.beat_standing : s.beat.standing = s.standing := s.beat_keeps State.standing (fun _ _ => rfl) (by simp)

@[simp] theorem State.record_standing (rkind : Nat) (w1 w2 : Word) : (s.record rkind w1 w2).standing = s.standing := by
  unfold State.record
  split
  · split
    · rfl
    · exact State.sendTagged_standing ..
  · rfl

/-! ### Cameras (R364 to R366, R383) -/

@[simp] theorem State.setCam_standing (p : CamNo) (f : CamState → CamState) : (s.setCam p f).standing = s.standing := rfl
@[simp] theorem State.addStats_standing (p : CamNo) (r : StatsRec) : (s.addStats p r).standing = s.standing := by
  simp [State.addStats, State.foldl_standing]
@[simp] theorem State.closeFrame_standing (p : CamNo) (f : Frame) (status cause : Nat) :
    (s.closeFrame p f status cause).standing = s.standing := by
  simp only [State.closeFrame, State.addStats_standing, State.standing_ite, State.raiseF_standing, ite_self]
  split <;> simp
@[simp] theorem State.settleFrames_standing (p : CamNo) : (s.settleFrames p).standing = s.standing := by
  simp [State.settleFrames, State.foldl_standing]
@[simp] theorem State.camSettle_standing (id : PageId) (first trailing : Nat) : (s.camSettle id first trailing).standing = s.standing := by
  simp [State.camSettle, State.foldl_standing]
@[simp] theorem State.camTrailing_standing (id : PageId) (first trailing : Nat) : (s.camTrailing id first trailing).standing = s.standing := by
  simp [State.camTrailing]

/-! ### Maps and the health map (R101, R200, R301, R397) -/

@[simp] theorem State.evalPage_standing (e : PageEntry) : (s.evalPage e).standing = s.standing := by
  unfold State.evalPage State.setPageState State.setPage
  split
  · split
    · rfl
    · split <;> simp
  · simp
  · rfl
@[simp] theorem State.evalPages_standing : s.evalPages.standing = s.standing := by simp [State.evalPages, State.foldl_standing]

theorem State.judgePort_standing (m : NozzleMap) (h : HeadRec) : (s.judgePort m h).1.standing = s.standing := by
  unfold State.judgePort
  dsimp only
  split <;> rfl
@[simp] theorem State.judgeAll_standing (m : NozzleMap) : (s.judgeAll m).standing = s.standing := by
  simp only [State.judgeAll, State.standing_ite, State.raise_standing, ite_self]
  exact foldl_same (fun r : State × Nat => r.1.standing)
    (fun r h => ((r.1.judgePort m h).1, r.2 + (r.1.judgePort m h).2)) (fun r h => r.1.judgePort_standing m h) _ _

@[simp] theorem State.checkCaps_standing (m : NozzleMap) : (s.checkCaps m).standing = s.standing := by
  refine State.foldl_standing _ _ (fun t h => ?_) _
  dsimp only
  split <;> simp

@[simp] theorem State.dropCtx_standing (fallback : Bool) : (s.dropCtx fallback).standing = s.standing := rfl
@[simp] theorem State.discardPrepared_standing : s.discardPrepared.standing = s.standing := by
  unfold State.discardPrepared
  dsimp only
  split <;> simp
@[simp] theorem State.mapTakesEffect_standing (m : NozzleMap) (rolls : Bool) : (s.mapTakesEffect m rolls).standing = s.standing := by
  simp [State.mapTakesEffect]

/-! ### The governor and calibrations (R216 to R222, R403, R404) -/

@[simp] theorem State.setCauses_standing (v : BitVec 5) : (s.setCauses v).standing = s.standing := by simp [State.setCauses]
@[simp] theorem State.setCause_standing (n : Nat) (b : Bool) : (s.setCause n b).standing = s.standing := by simp [State.setCause]
@[simp] theorem State.setLimit_standing (lim why : Nat) : (s.setLimit lim why).standing = s.standing := by simp [State.setLimit]
@[simp] theorem State.evalGov_standing : s.evalGov.standing = s.standing := by
  simp only [State.evalGov, State.setCause_standing]
  split <;> simp

@[simp] theorem State.dropRun_standing (p : CalProc) : (s.dropRun p).standing = s.standing := by
  unfold State.dropRun
  dsimp only
  split <;> rfl
@[simp] theorem State.calFail_standing (r : CalRun) (reason : Nat) : (s.calFail r reason).standing = s.standing := by
  simp [State.calFail, State.calAnswer]
@[simp] theorem State.calPrintStop_standing : s.calPrintStop.standing = s.standing := by simp [State.calPrintStop, State.foldl_standing]

/-! ### Head frames (R269, R273, R281) -/

@[simp] theorem State.offer_pair (p : HeadPort) (x : TxItem) : (s.offer p x).pair = s.pair := by
  simp only [State.offer, State.portSlots, State.setHead]
  split <;> rfl
@[simp] theorem State.offer_print (p : HeadPort) (x : TxItem) : (s.offer p x).print = s.print := by
  simp only [State.offer, State.portSlots, State.setHead]
  split <;> rfl
@[simp] theorem State.offer_claim (p : HeadPort) (x : TxItem) : (s.offer p x).heads.claim = s.heads.claim := by
  simp only [State.offer, State.portSlots, State.setHead]
  split <;> rfl
@[simp] theorem State.offer_standing (p : HeadPort) (x : TxItem) : (s.offer p x).standing = s.standing := by
  simp [State.standing, -State.standing_eta]
@[simp] theorem State.sendFrames_standing (m : NozzleMap) (depth n : Nat) (codes : Option (HeadRec → List Nat)) :
    (s.sendFrames m depth n codes).standing = s.standing := by
  simp [State.sendFrames, State.foldl_standing]
@[simp] theorem State.sendLine_standing (q : Place) (n : Nat) : (s.sendLine q n).standing = s.standing := by
  unfold State.sendLine
  dsimp only
  split <;> split <;> simp

/-! ### Defects and line judgements (R68, R213 to R215, R552) -/

@[simp] theorem State.setTrig_standing (n : TrigNo) (f : TrigState → TrigState) : (s.setTrig n f).standing = s.standing := rfl
@[simp] theorem State.pulseFor_standing (n : TrigNo) (start : Nat) : (s.pulseFor n start).standing = s.standing := by
  simp [State.pulseFor, State.pulse, State.markNow]
@[simp] theorem State.pulsesStop_standing : s.pulsesStop.standing = s.standing := by
  simp [State.pulsesStop, State.markNow, State.foldl_standing]
@[simp] theorem State.addDefect_standing (r : DefectRecord) : (s.addDefect r).standing = s.standing := by
  unfold State.addDefect
  split
  · rfl
  · dsimp only
    split <;> simp
@[simp] theorem State.defect_standing (k : DefectKind) (first last : Int) : (s.defect k first last).standing = s.standing := by
  unfold State.defect
  split <;> simp
@[simp] theorem State.dryEnd_standing : s.dryEnd.standing = s.standing := by
  unfold State.dryEnd
  split <;> simp

@[simp] theorem State.judgeBlank_standing (page : PageId) (n : Nat) : (s.judgeBlank page n).standing = s.standing := by
  simp only [State.judgeBlank, State.standing_mk, State.standing_eta]
  split <;> simp
@[simp] theorem State.assemble_standing (n : Nat) : (s.assemble n).standing = s.standing := by
  unfold State.assemble
  split <;> simp
@[simp] theorem State.fixStart_standing (start : Nat) : (s.fixStart start).standing = s.standing := by
  simp [State.fixStart, State.assembleAgain, State.foldl_standing]

/-! ### Ends of pages and the print stop (R48, R55, R196, R318, R546) -/

@[simp] theorem State.encCorrect_standing (k : EncNo) : (s.encCorrect k).standing = s.standing := by
  unfold State.encCorrect
  dsimp only
  split <;> simp
@[simp] theorem State.writeHealth_standing : s.writeHealth.standing = s.standing := rfl
@[simp] theorem State.stopNow_standing : s.stopNow.standing = s.standing := by
  unfold State.stopNow
  dsimp only
  split <;> simp [State.foldl_standing]

@[simp] theorem State.endEvent_standing (id : PageId) (st shown : PageState) : (s.endEvent id st shown).standing = s.standing := by
  simp [State.endEvent]
@[simp] theorem State.keepEnded_standing (e : EndedPage) : (s.keepEnded e).standing = s.standing := rfl
@[simp] theorem State.dropPage_standing (id : PageId) : (s.dropPage id).standing = s.standing := rfl
@[simp] theorem State.logCode_standing (d : PageDesc) (serial : Option (BitVec 48 × BitVec 40)) (outcome : Nat) :
    (s.logCode d serial outcome).standing = s.standing := by
  unfold State.logCode
  split <;> simp
@[simp] theorem State.rolloutEnd_standing (id : PageId) : (s.rolloutEnd id).standing = s.standing := by
  unfold State.rolloutEnd
  split <;> simp
@[simp] theorem State.endPage_standing : s.endPage.standing = s.standing := by
  unfold State.endPage
  split
  · rfl
  · dsimp only
    split <;> simp

/-! ### Decisions of the print model (R57 to R59, R62, R484, R649) -/

@[simp] theorem State.setQ_standing (id : PageId) (f : QEntry → QEntry) : (s.setQ id f).standing = s.standing := rfl
@[simp] theorem State.assignNext_standing : s.assignNext.standing = s.standing := by
  unfold State.assignNext State.assignBy
  split <;> simp
@[simp] theorem State.abortAt_standing (a : Nat) (k : DefectKind) : (s.abortAt a k).standing = s.standing := by
  unfold State.abortAt
  split
  · rfl
  · split
    · rfl
    · simp only [State.standing_ite, State.endPage_standing, ite_self]
      split
      · refine (State.foldl_standing _ _ (fun t i => by split <;> simp) _).trans ?_
        simp only [State.assignNext_standing, State.record_standing, State.camTrailing_standing]
        split <;> simp
      · simp only [State.record_standing, State.camTrailing_standing]
        split <;> simp

@[simp] theorem State.bindStart_standing (b : BoundStart) : (s.bindStart b).standing = s.standing := by simp [State.bindStart]
@[simp] theorem State.bindFallback_standing (n : TrigNo) (start : Nat) : (s.bindFallback n start).standing = s.standing := by
  unfold State.bindFallback
  dsimp only
  split <;> simp
@[simp] theorem State.bindPage_standing (q : QEntry) (n : TrigNo) (start : Nat) : (s.bindPage q n start).standing = s.standing := by
  simp [State.bindPage]
@[simp] theorem State.decideTrigger_standing (n : TrigNo) (line : Nat) : (s.decideTrigger n line).standing = s.standing := by
  unfold State.decideTrigger
  dsimp only
  split
  · simp
  · split
    · simp
    · split <;> simp

theorem State.shadowDecides_standing : s.shadowDecides.standing = s.standing := by
  have htrig (t : State) (l : List (TrigNo × Nat)) :
      (l.foldl (fun (t : State) x => if t.print.started && !t.print.stopping then t.decideTrigger x.1 x.2 else t) t).standing =
        t.standing := t.foldl_standing _ (by simp) l
  simp only [State.shadowDecides, State.standing_ite, State.assignNext_standing, ite_self, htrig]
  split
  · exact State.abortAt_standing ..
  · rfl

end Sys2Proof.Machine
end

section
/-!
SUPPORT. Grants, ACCEPT and the release of a claim (O44): the order of the checks of R465, what a unit that takes a claim holds then, what a
demoted unit gives up, and when it ceases to announce its claim (R465 to R467, R481).
-/

namespace Sys2Proof.Machine

variable (s : State)

/-! ### A frame leaves the inbox -/

/-- What the fabric does not hold stays as it is when firmware takes a frame. -/
theorem State.takeFrame_keeps {α : Type} (π : State → α) (hf : ∀ (t : State) f, π { t with fab := f } = π t) (kind : Nat) (data : List Word) :
    π (s.takeFrame kind data) = π s := by
  unfold State.takeFrame
  split
  · exact hf s _
  · rfl

@[simp] theorem State.takeFrame_host (kind : Nat) (data : List Word) : (s.takeFrame kind data).host = s.host :=
  s.takeFrame_keeps State.host (by simp) kind data
@[simp] theorem State.takeFrame_print (kind : Nat) (data : List Word) : (s.takeFrame kind data).print = s.print :=
  s.takeFrame_keeps State.print (by simp) kind data
@[simp] theorem State.takeFrame_sluice (kind : Nat) (data : List Word) : (s.takeFrame kind data).sluice = s.sluice :=
  s.takeFrame_keeps State.sluice (by simp) kind data
@[simp] theorem State.takeFrame_heads (kind : Nat) (data : List Word) : (s.takeFrame kind data).heads = s.heads :=
  s.takeFrame_keeps State.heads (by simp) kind data
@[simp] theorem State.takeFrame_lanes (kind : Nat) (data : List Word) : (s.takeFrame kind data).lanes = s.lanes :=
  s.takeFrame_keeps State.lanes (by simp) kind data
@[simp] theorem State.takeFrame_pair (kind : Nat) (data : List Word) : (s.takeFrame kind data).pair = s.pair :=
  s.takeFrame_keeps State.pair (by simp) kind data
@[simp] theorem State.takeFrame_sec (kind : Nat) (data : List Word) : (s.takeFrame kind data).sec = s.sec :=
  s.takeFrame_keeps State.sec (by simp) kind data

/-- A frame that is only taken changes nothing else. -/
theorem State.takeFrame_done (hq : s.quiet) (kind : Nat) (data : List Word) : (s.takeFrame kind data).done = .next (s.takeFrame kind data) :=
  State.done_quiet _ ((congrArg _ (s.takeFrame_host kind data)).trans hq)

/-! ### The order of the checks (R464, R465) -/

/-- The pair's ditch-rider is the issuer (R465 step 3). -/
def State.riderIs (s : State) (issuer : NodeNo) : Prop := (s.pair.rider = .host ∧ issuer = 0) ∨ s.pair.rider = .node issuer

variable {s} {t : State} {issuer : NodeNo} {claim prev : BitVec 32} {b : Bool} {k : PairKey}

theorem State.tagOk_key (hk : s.sec.pairKey = some k) (h : Word) (ws : List Word) (tag : Word) : s.tagOk h ws tag = (k.tag h ws == tag) := by
  simp [State.tagOk, hk]

theorem State.grantReason_noKey (hk : s.sec.pairKey = none) : s.grantReason b claim issuer = some 4 := by
  simp [State.grantReason, hk]

theorem State.grantReason_badTag (hk : s.sec.pairKey = some k) : s.grantReason false claim issuer = some 1 := by
  simp [State.grantReason, hk]

theorem State.grantReason_wrongIssuer (hk : s.sec.pairKey = some k) (hr : ¬ s.riderIs issuer) :
    s.grantReason true claim issuer = some 3 := by
  obtain ⟨hhost, hnode⟩ := not_or.mp hr
  cases hs : s.pair.rider with
  | none => simp [State.grantReason, hk, hs]
  | host =>
    have h0 : issuer ≠ 0#12 := fun h => hhost ⟨hs, h⟩
    simp [State.grantReason, hk, hs, h0]
  | node n =>
    have hn : issuer ≠ n := fun h => hnode (h ▸ hs)
    simp [State.grantReason, hk, hs, hn]

theorem State.grantReason_named (hp : s.pair.paired = true) (hk : s.sec.pairKey = some k) (hr : s.riderIs issuer) :
    s.grantReason true claim issuer = if claim ≤ s.pair.highest then some 2 else none := by
  obtain ⟨hs, rfl⟩ | hs := hr
  · simp [State.grantReason, hp, hk, hs]
  · simp [State.grantReason, hp, hk, hs]

/-! ### GRANT: which way it goes -/

section Grant

variable (src : NodeNo) {h w0 w1 w2 w3 : Word} {n : Nat}

/-- CLAIM and ISSUER of a grant (R464). -/
def grantClaim (w1 : Word) : BitVec 32 := BitVec.ofNat 32 (bits w1 31 0)
def grantIssuer (w2 : Word) : NodeNo := BitVec.ofNat 12 (bits w2 11 0)

/-- The first failing check of R465 on a grant as it arrives. -/
def State.grantFails (s : State) (h w0 w1 w2 w3 : Word) : Option Nat :=
  s.grantReason (s.tagOk h [w0, w1, w2] w3) (grantClaim w1) (grantIssuer w2)

/-- The checks do not look at the inbox. -/
@[simp] theorem State.takeFrame_tagOk (kind : Nat) (data ws : List Word) (tag : Word) :
    (s.takeFrame kind data).tagOk h ws tag = s.tagOk h ws tag := by
  simp [State.tagOk]
@[simp] theorem State.takeFrame_grantReason (kind : Nat) (data : List Word) :
    (s.takeFrame kind data).grantReason b claim issuer = s.grantReason b claim issuer := by
  simp [State.grantReason]

/-- A frame that is no grant, or comes to a device of no pair, is only taken. -/
theorem execGrant_other (ho : s.pair.paired = false ∨ bits w0 3 0 ≠ 1) :
    execGrant src h w0 w1 w2 w3 s = (s.takeFrame 1 [w0, w1, w2, w3]).done := by
  obtain ho | ho := ho <;> simp [execGrant, ho]

variable (hp : s.pair.paired = true) (hop : bits w0 3 0 = 1)
include hp hop

theorem execGrant_rejects (ho : bitAt w0 4 = s.pair.unitB) (hn : s.grantFails h w0 w1 w2 w3 = some n) :
    execGrant src h w0 w1 w2 w3 s = ((s.takeFrame 1 [w0, w1, w2, w3]).rejectGrant n (grantIssuer w2)).done := by
  simp only [State.grantFails, grantClaim, grantIssuer] at hn
  simp [execGrant, hp, hop, ho, hn, grantIssuer]

theorem execGrant_takes (ho : bitAt w0 4 = s.pair.unitB) (hn : s.grantFails h w0 w1 w2 w3 = none) :
    execGrant src h w0 w1 w2 w3 s =
      ((s.takeFrame 1 [w0, w1, w2, w3]).takeover (grantClaim w1) (BitVec.ofNat 32 (bits w1 63 32))).done := by
  simp only [State.grantFails, grantClaim, grantIssuer] at hn
  simp [execGrant, hp, hop, ho, hn, grantClaim]

/-- A grant that names the partner is believed on the first three checks. -/
theorem execGrant_believed (ho : bitAt w0 4 ≠ s.pair.unitB)
    (hn : s.grantFails h w0 w1 w2 w3 = some 2 ∨ s.grantFails h w0 w1 w2 w3 = none) :
    execGrant src h w0 w1 w2 w3 s = ((s.takeFrame 1 [w0, w1, w2, w3]).partnerGrant (grantClaim w1)).done := by
  simp only [State.grantFails, grantClaim, grantIssuer] at hn
  obtain hn | hn := hn <;> simp [execGrant, hp, hop, ho, hn, grantClaim]

theorem execGrant_disbelieved (ho : bitAt w0 4 ≠ s.pair.unitB) (hn : s.grantFails h w0 w1 w2 w3 = some n) (h2 : n ≠ 2) :
    execGrant src h w0 w1 w2 w3 s = (s.takeFrame 1 [w0, w1, w2, w3]).done := by
  simp only [State.grantFails, grantClaim, grantIssuer] at hn
  simp [execGrant, hp, hop, ho, hn, h2]

end Grant

/-! ### The announced claim (R281, R467) -/

/-- What an item offered to a port leaves alone, STATUS leaves alone. -/
theorem State.sendStatus_keeps {α : Type} (π : State → α) (ho : ∀ t p x, π (State.offer t p x) = π t) (s : State) :
    π s.sendStatus = π s := by
  have hport (x : TxItem) (t : State) (p : HeadPort) : π (if t.portUsed p then t.offer p x else t) = π t := by
    split
    · exact ho t p x
    · rfl
  unfold State.sendStatus
  split
  · rfl
  · exact foldl_same π _ (hport _) _ _

@[simp] theorem State.announce_pair (s : State) (c : BitVec 32) : (s.announce c).pair = s.pair := by
  unfold State.announce
  split
  · rfl
  · exact State.sendStatus_keeps State.pair (by simp) _
@[simp] theorem State.announce_print (s : State) (c : BitVec 32) : (s.announce c).print = s.print := by
  unfold State.announce
  split
  · rfl
  · exact State.sendStatus_keeps State.print (by simp) _
@[simp] theorem State.announce_claim (s : State) (c : BitVec 32) : (s.announce c).heads.claim = c := by
  unfold State.announce
  split
  · exact Eq.symm ‹_›
  · exact State.sendStatus_keeps (fun t => t.heads.claim) (by simp) _

/-! ### Taking a claim (R465, R466) -/

/-- What a unit that takes a claim holds of its pair. -/
def PairPart.taking (q : PairPart) (claim : BitVec 32) : PairPart :=
  { q with st := .active, claim := claim, highest := if q.highest < claim then claim else q.highest, releasing := none, sendUntil := none
           drivePending := true, barSilent := false, joinDue := none }

/-- Whether or not a unit was active, it holds the claim when it has taken it, and announces it; what it decides of the shadow does not
change that (R484). -/
theorem State.takeover_standing (s : State) (claim prev : BitVec 32) :
    (s.takeover claim prev).standing = ((s.pair.taking claim).held, claim) := by
  have hsent (l : List NodeNo) (ws : List Word) (u : State) :
      (l.foldl (fun (t : State) n => t.sendTagged 1 n ws) u).pair = u.pair ∧
      (l.foldl (fun (t : State) n => t.sendTagged 1 n ws) u).heads = u.heads :=
    ⟨foldl_same State.pair _ (by simp) l u, foldl_same State.heads _ (by simp) l u⟩
  simp [State.takeover, State.shadowDecides_standing, hsent, State.sawClaim, PairPart.taking, PairPart.held]

/-! ### Losing a claim (R467, R469) -/

/-- What a demoted unit holds of its pair before it judges the release of its claim. -/
def PairPart.demoted (q : PairPart) (new : BitVec 32) : PairPart :=
  { q.inSync true with claim := 0, schedSeen := false, aligned := false, offset := none, barSilent := false, resyncQ := [], mirrorQ := []
                       driving := false, drivePending := false, releasing := some new }

/-- What responses, queues of channels and waiting commits do not touch stays when the waiting commands are refused. -/
theorem State.refuseWaiting_keeps {α : Type} (π : State → α) (hr : ∀ t o op tag st r, π (State.respond t o op tag st r) = π t)
    (hc : ∀ t n f, π (State.setChan t n f) = π t) (hf : ∀ t n f, π (State.setFabChan t n f) = π t)
    (hs : ∀ t l, π { t with print := { t.print with sched := l } } = π t) (s : State) : π s.refuseWaiting = π s := by
  have hhost (t : State) (n : Chan) : π (t.refuseHost n) = π t := (foldl_same π _ (fun u _ => hr u ..) _ _).trans (hc ..)
  have hpeer (t : State) (k : FabChannel) : π (t.refusePeer k) = π t := (foldl_same π _ (fun u _ => hr u ..) _ _).trans (hf ..)
  exact (foldl_same π _ (fun u _ => hr u ..) _ _).trans ((hs ..).trans ((foldl_same π _ hpeer _ _).trans (foldl_same π _ hhost _ _)))

/-- Of the print, refusing the waiting commands ends the scheduled commits. -/
theorem State.refuseWaiting_print (s : State) : s.refuseWaiting.print = { s.print with sched := [] } := by
  have hhost (t : State) (n : Chan) : (t.refuseHost n).print = t.print := foldl_same State.print _ (by simp) _ _
  have hpeer (t : State) (k : FabChannel) : (t.refusePeer k).print = t.print := foldl_same State.print _ (by simp) _ _
  refine (foldl_same State.print _ (by simp) _ _).trans ?_
  dsimp only
  rw [foldl_same State.print _ hpeer, foldl_same State.print _ hhost]

/-- A demoted unit before it judges the release of its claim. -/
def State.stepsDown (s : State) (new : BitVec 32) : State :=
  (({ s with pair := s.pair.demoted new }).raiseF .claimLost [new.toNat]).refuseWaiting.beat

theorem State.demote_eq (s : State) (new : BitVec 32) : s.demote new = (s.stepsDown new).releaseCheck := rfl

theorem State.stepsDown_pair (s : State) (new : BitVec 32) : ∃ n, (s.stepsDown new).pair = { s.pair.demoted new with hbSeq := n } := by
  obtain ⟨n, hn⟩ := State.beat_pair (({ s with pair := s.pair.demoted new }).raiseF .claimLost [new.toNat]).refuseWaiting
  rw [State.refuseWaiting_keeps State.pair (by simp) (by simp) (by simp) (by simp), State.raiseF_pair] at hn
  exact ⟨n, hn⟩

theorem State.stepsDown_releasing (s : State) (new : BitVec 32) : (s.stepsDown new).pair.releasing = some new := by
  obtain ⟨n, hn⟩ := s.stepsDown_pair new
  rw [hn]
  rfl

theorem State.stepsDown_heads (s : State) (new : BitVec 32) : (s.stepsDown new).heads = s.heads := by
  rw [State.stepsDown, State.beat_heads, State.refuseWaiting_keeps State.heads (by simp) (by simp) (by simp) (by simp), State.raiseF_heads]

theorem State.stepsDown_lanes (s : State) (new : BitVec 32) : (s.stepsDown new).lanes = s.lanes := by
  rw [State.stepsDown, State.beat_lanes, State.refuseWaiting_keeps State.lanes (by simp) (by simp) (by simp) (by simp), State.raiseF_lanes]

theorem State.stepsDown_print (s : State) (new : BitVec 32) : (s.stepsDown new).print = { s.print with sched := [] } := by
  rw [State.stepsDown, State.beat_print, State.refuseWaiting_print, State.raiseF_print]

/-- The lanes and the heads tell which ports are in use. -/
theorem State.usedPorts_congr (hl : t.lanes = s.lanes) (hh : t.heads = s.heads) : t.usedPorts = s.usedPorts := by
  simp only [State.usedPorts, State.portUsed, State.headActive, hl, hh]

/-! ### Release (R467) -/

theorem State.releaseCheck_waits {c : BitVec 32} (hr : s.pair.releasing = some c) (hp : ∃ p ∈ s.usedPorts, s.heads.ports[p].maxClaim < c) :
    s.releaseCheck = s := by
  have hno : s.usedPorts.all (fun p => decide (c ≤ s.heads.ports[p].maxClaim)) = false := by
    simpa [-Fin.getElem_fin] using hp
  simp only [State.releaseCheck, hr, hno, Bool.false_eq_true, if_false]

theorem State.releaseCheck_releases {c : BitVec 32} (hr : s.pair.releasing = some c)
    (hp : ∀ p ∈ s.usedPorts, c ≤ s.heads.ports[p].maxClaim) :
    s.releaseCheck = ({ s with pair := { s.pair with releasing := none } } : State).announce 0 := by
  have hall : s.usedPorts.all (fun p => decide (c ≤ s.heads.ports[p].maxClaim)) = true := by
    simpa [-Fin.getElem_fin] using hp
  simp only [State.releaseCheck, hr, hall, if_true]

/-- A demoted unit goes on announcing its claim while a head port in use has not reported the new one. -/
theorem State.demote_waits (hp : ∃ p ∈ s.usedPorts, s.heads.ports[p].maxClaim < claim) : s.demote claim = s.stepsDown claim := by
  have hh := s.stepsDown_heads claim
  rw [← State.usedPorts_congr (s.stepsDown_lanes claim) hh, ← hh] at hp
  rw [State.demote_eq, State.releaseCheck_waits (s.stepsDown_releasing claim) hp]

/-- It announces none once every head port in use has. -/
theorem State.demote_releases (hp : ∀ p ∈ s.usedPorts, claim ≤ s.heads.ports[p].maxClaim) : s.demote claim =
    ({ s.stepsDown claim with pair := { (s.stepsDown claim).pair with releasing := none } } : State).announce 0 := by
  have hh := s.stepsDown_heads claim
  rw [← State.usedPorts_congr (s.stepsDown_lanes claim) hh, ← hh] at hp
  rw [State.demote_eq, State.releaseCheck_releases (s.stepsDown_releasing claim) hp]

/-! ### What a grant leads to -/

section Outcomes

variable (src : NodeNo) {h w0 w1 w2 w3 : Word}

/-- The device holds a key, and the grant's TAG holds under it. -/
theorem State.grantFails_tagged (hk : s.sec.pairKey = some k) (ht : k.tag h [w0, w1, w2] = w3) :
    s.grantFails h w0 w1 w2 w3 = s.grantReason true (grantClaim w1) (grantIssuer w2) := by
  rw [State.grantFails, State.tagOk_key hk, ht, beq_self_eq_true]

/-- A grant that names this unit and fails no check makes it the active with the new claim. -/
theorem takeover_done (hc : s.pair.highest < claim) : ∃ t : State, (s.takeover claim prev).done = .next t ∧
    t.pair.st = .active ∧ t.pair.claim = claim ∧ t.pair.highest = claim ∧ t.heads.claim = claim ∧ t.pair.drivePending = true ∧
    t.pair.riders = s.pair.riders := by
  have hs := s.takeover_standing claim prev
  have hheld : (s.takeover claim prev).pair.held = (s.pair.taking claim).held := congrArg Prod.fst hs
  have hhigh : (s.takeover claim prev).pair.highest = claim := (congrArg PairPart.highest hheld).trans (if_pos hc)
  refine ⟨(s.takeover claim prev).settle, rfl, ?_⟩
  rw [State.settle_pair, State.settle_heads]
  exact ⟨congrArg PairPart.st hheld, congrArg PairPart.claim hheld, hhigh, congrArg Prod.snd hs,
    congrArg PairPart.drivePending hheld, (congrArg PairPart.riders hheld :)⟩

/-- The active unit with a lower claim is demoted; it announces its old claim until every head port in use knows the new one. -/
theorem partnerGrant_done (ha : s.pair.st = .active) (hc : s.pair.claim < claim) : ∃ t : State, (s.partnerGrant claim).done = .next t ∧
    t.pair.st = .sync ∧ t.pair.claim = 0 ∧ t.pair.driving = false ∧ t.pair.highest = s.pair.highest ∧
    t.print = { s.print with sched := [] } ∧
    ((∃ p ∈ s.usedPorts, s.heads.ports[p].maxClaim < claim) → t.heads.claim = s.heads.claim ∧ t.pair.releasing = some claim) ∧
    ((∀ p ∈ s.usedPorts, claim ≤ s.heads.ports[p].maxClaim) → t.heads.claim = 0 ∧ t.pair.releasing = none) := by
  have hd : s.partnerGrant claim = s.demote claim := by
    simp only [State.partnerGrant, ha, hc, beq_self_eq_true, decide_true, Bool.and_self, if_true]
  obtain ⟨n, hn⟩ := s.stepsDown_pair claim
  have hh : (s.stepsDown claim).heads.claim = s.heads.claim := congrArg HeadPart.claim (s.stepsDown_heads claim)
  have hpr := s.stepsDown_print claim
  refine ⟨_, rfl, ?_⟩
  rw [hd, State.settle_pair, State.settle_heads, State.settle_print]
  by_cases hp : ∃ p ∈ s.usedPorts, s.heads.ports[p].maxClaim < claim
  · have hnot : ¬ ∀ p ∈ s.usedPorts, claim ≤ s.heads.ports[p].maxClaim := by simpa only [not_forall, BitVec.not_le, exists_prop] using hp
    rw [State.demote_waits hp, hn]
    exact ⟨rfl, rfl, rfl, rfl, hpr, fun _ => ⟨hh, rfl⟩, fun hall => absurd hall hnot⟩
  · have hall : ∀ p ∈ s.usedPorts, claim ≤ s.heads.ports[p].maxClaim := by simpa only [not_exists, not_and, BitVec.not_lt] using hp
    rw [State.demote_releases hall, State.announce_pair, State.announce_claim, State.announce_print]
    dsimp only
    rw [hn]
    exact ⟨rfl, rfl, rfl, rfl, hpr, fun hsome => absurd hsome hp, fun _ => ⟨rfl, rfl⟩⟩

/-- A grant that fails no check makes the unit it names the active one, and the ditch-rider's part stays as it is. -/
theorem execGrant_activates (hp : s.pair.paired = true) (hop : bits w0 3 0 = 1) (ho : bitAt w0 4 = s.pair.unitB)
    (hk : s.sec.pairKey = some k) (ht : k.tag h [w0, w1, w2] = w3) (hr : s.riderIs (grantIssuer w2)) (hc : s.pair.highest < grantClaim w1) :
    ∃ t : State, execGrant src h w0 w1 w2 w3 s = .next t ∧ t.pair.st = .active ∧ t.pair.claim = grantClaim w1 ∧
      t.pair.highest = grantClaim w1 ∧ t.heads.claim = grantClaim w1 ∧ t.pair.drivePending = true ∧ t.pair.riders = s.pair.riders := by
  have hn : s.grantFails h w0 w1 w2 w3 = none := by
    rw [State.grantFails_tagged hk ht, State.grantReason_named hp hk hr]
    exact if_neg (BitVec.not_le.mpr hc)
  rw [execGrant_takes src hp hop ho hn]
  rw [← s.takeFrame_pair 1 [w0, w1, w2, w3]] at hc ⊢
  exact takeover_done hc

/-- A grant that names the partner and fails none of the first three checks demotes the active unit with a lower claim. -/
theorem execGrant_demotes (hp : s.pair.paired = true) (hop : bits w0 3 0 = 1) (ho : bitAt w0 4 ≠ s.pair.unitB)
    (hk : s.sec.pairKey = some k) (ht : k.tag h [w0, w1, w2] = w3) (hr : s.riderIs (grantIssuer w2)) (ha : s.pair.st = .active)
    (hc : s.pair.claim < grantClaim w1) : ∃ t : State, execGrant src h w0 w1 w2 w3 s = .next t ∧ t.pair.st = .sync ∧ t.pair.claim = 0 ∧
      t.pair.driving = false ∧ t.pair.highest = s.pair.highest ∧ t.print = { s.print with sched := [] } ∧
      ((∃ p ∈ s.usedPorts, s.heads.ports[p].maxClaim < grantClaim w1) →
        t.heads.claim = s.heads.claim ∧ t.pair.releasing = some (grantClaim w1)) ∧
      ((∀ p ∈ s.usedPorts, grantClaim w1 ≤ s.heads.ports[p].maxClaim) → t.heads.claim = 0 ∧ t.pair.releasing = none) := by
  have hn : s.grantFails h w0 w1 w2 w3 = some 2 ∨ s.grantFails h w0 w1 w2 w3 = none := by
    rw [State.grantFails_tagged hk ht, State.grantReason_named hp hk hr]
    exact ite_eq_or_eq ..
  have hu : (s.takeFrame 1 [w0, w1, w2, w3]).usedPorts = s.usedPorts :=
    State.usedPorts_congr (s.takeFrame_lanes ..) (s.takeFrame_heads ..)
  rw [execGrant_believed src hp hop ho hn, ← hu]
  rw [← s.takeFrame_pair 1 [w0, w1, w2, w3]] at ha hc
  simpa only [State.takeFrame_pair, State.takeFrame_heads, State.takeFrame_print] using partnerGrant_done ha hc

/-- A unit that is not active takes no notice of a grant to its partner. -/
theorem State.partnerGrant_idle (ha : s.pair.st ≠ .active) : s.partnerGrant claim = s := by
  simp [State.partnerGrant, ha]

/-- A grant that names the partner changes nothing where its TAG or issuer fails, or this unit is not active. -/
theorem execGrant_ignored (hp : s.pair.paired = true) (hop : bits w0 3 0 = 1) (ho : bitAt w0 4 ≠ s.pair.unitB)
    (hno : s.tagOk h [w0, w1, w2] w3 = false ∨ ¬ s.riderIs (grantIssuer w2) ∨ s.pair.st ≠ .active) :
    execGrant src h w0 w1 w2 w3 s = (s.takeFrame 1 [w0, w1, w2, w3]).done := by
  cases hk : s.sec.pairKey with
  | none => exact execGrant_disbelieved src hp hop ho (State.grantReason_noKey hk) (by decide)
  | some k =>
    cases ht : s.tagOk h [w0, w1, w2] w3 with
    | false => exact execGrant_disbelieved src hp hop ho (n := 1) (by rw [State.grantFails, ht, State.grantReason_badTag hk]) (by decide)
    | true =>
      by_cases hr : s.riderIs (grantIssuer w2)
      · have ha : s.pair.st ≠ .active := by simpa [ht, hr] using hno
        rw [execGrant_believed src hp hop ho, State.partnerGrant_idle (by simpa using ha)]
        rw [State.grantFails, ht, State.grantReason_named hp hk hr]
        exact ite_eq_or_eq ..
      · exact execGrant_disbelieved src hp hop ho (n := 3) (by rw [State.grantFails, ht, State.grantReason_wrongIssuer hk hr]) (by decide)

/-! ### ACCEPT, release and resending (R464, R466, R467, R481) -/

@[simp] theorem State.takeFrame_fromPartner (kind : Nat) (data : List Word) : (s.takeFrame kind data).fromPartner src = s.fromPartner src := by
  simp [State.fromPartner]
@[simp] theorem State.takeFrame_standby (kind : Nat) (data : List Word) : (s.takeFrame kind data).standby = s.standby := by
  simp [State.standby]

/-- An ACCEPT whose TAG holds, from the partner, to a unit that is not the active one. -/
def State.accepts (s : State) (src : NodeNo) (h w0 w1 w2 w3 : Word) : Prop :=
  bits w0 3 0 = 2 ∧ s.tagOk h [w0, w1, w2] w3 = true ∧ s.fromPartner src = true ∧ s.standby = true

/-- An ACCEPT that fails one of these is only taken. -/
theorem execAccept_ignored (hno : ¬ s.accepts src h w0 w1 w2 w3) :
    execAccept src h w0 w1 w2 w3 s = (s.takeFrame 1 [w0, w1, w2, w3]).done := by
  refine if_pos ?_
  simpa [State.accepts, imp_iff_not_or] using hno

/-- The line of an ACCEPT, from its low 40 bits: the nearest to the present bar line. -/
def switchLine (line low : Nat) : Nat := ((line : Int) + (((low : Int) - line + 549755813888) % 1099511627776 - 549755813888)).toNat

theorem switchLine_near {line low : Nat} (hl : line < 2 ^ 39) (h : low < line + 2 ^ 39) : switchLine line low = low := by
  unfold switchLine
  omega

theorem execAccept_done (hok : s.accepts src h w0 w1 w2 w3) : ∃ t : State, execAccept src h w0 w1 w2 w3 s = .next t ∧
    t.pair = { s.pair with sendUntil := some (switchLine s.sluice.barLine (bits w2 39 0)) } ∧ t.print = s.print := by
  obtain ⟨hop, ht, hf, hs⟩ := hok
  refine ⟨_, if_neg (by simp [hop, ht, hf, hs]), ?_⟩
  simp [switchLine]

end Outcomes

theorem execClaimRelease_none (hr : s.pair.releasing = none) : execClaimRelease s = s.done := by
  simp only [execClaimRelease, hr]

theorem execClaimRelease_some {c : BitVec 32} (hr : s.pair.releasing = some c) : ∃ t : State, execClaimRelease s = .next t ∧
    t.pair = { s.pair with releasing := none } ∧ t.heads.claim = 0 ∧ t.print = s.print := by
  simp only [execClaimRelease, hr]
  exact ⟨_, rfl, by simp⟩

theorem execGrantResend_none {i : Fin 8} (hr : s.pair.riders[i].open_ = none) : execGrantResend i s = s.done := by
  simp only [execGrantResend, State.sendGrant, hr]

theorem execGrantResend_open {i : Fin 8} (hr : s.pair.riders[i].open_ = some (b, claim, prev)) : execGrantResend i s =
    ((s.sendTagged 1 s.pair.riders[i].nodeA (claimWords 1 b claim prev (fld 0 12 s.fab.node.toNat))).sendTagged 1 s.pair.riders[i].nodeB
      (claimWords 1 b claim prev (fld 0 12 s.fab.node.toNat))).done := by
  simp only [execGrantResend, State.sendGrant, hr]

/-! ### The statement -/

/-- Settles O44: a grant to this unit goes by its first failing check, one to the partner by the first three, and each of the other
commands by the lemma above about it. -/
theorem grantsAreCheckedInOrder : Obligations.GrantsAreCheckedInOrder := by
  unfold Obligations.GrantsAreCheckedInOrder
  refine ⟨fun s src h w0 w1 w2 w3 hp hop => ⟨fun ho hk => ?_, fun k hk => ⟨fun ho ht => ?_, fun ho ht hr => ?_, fun ho ht hr hc => ?_,
      fun ho ht hr hc => ?_, fun ho ht hr ha hc => ?_⟩, fun hq ho hno => ?_⟩, fun s src h w0 w1 w2 w3 hq ho => ?_,
    fun s src h w0 w1 w2 w3 hq => ⟨fun hno => ?_, fun hok => ?_⟩, fun s => ⟨fun hq hr => ?_, fun c hr => execClaimRelease_some hr⟩,
    fun s i => ⟨fun hq hr => ?_, fun b claim prev hr => execGrantResend_open hr⟩⟩
  · exact execGrant_rejects src hp hop ho (State.grantReason_noKey hk)
  · refine execGrant_rejects src hp hop ho ?_
    rw [State.grantFails, State.tagOk_key hk, beq_false_of_ne ht, State.grantReason_badTag hk]
  · exact execGrant_rejects src hp hop ho ((State.grantFails_tagged hk ht).trans (State.grantReason_wrongIssuer hk hr))
  · exact execGrant_rejects src hp hop ho
      ((State.grantFails_tagged hk ht).trans ((State.grantReason_named hp hk hr).trans (if_pos hc)))
  · exact execGrant_activates src hp hop ho hk ht hr hc
  · exact execGrant_demotes src hp hop ho hk ht hr ha hc
  · exact (execGrant_ignored src hp hop ho hno).trans (s.takeFrame_done hq ..)
  · exact (execGrant_other src ho).trans (s.takeFrame_done hq ..)
  · exact (execAccept_ignored src hno).trans (s.takeFrame_done hq ..)
  · obtain ⟨t, ht, hpair, hprint⟩ := execAccept_done src hok
    exact ⟨t, _, ht, hpair, switchLine_near, hprint⟩
  · exact (execClaimRelease_none hr).trans (s.done_quiet hq)
  · exact (execGrantResend_none hr).trans (s.done_quiet hq)

end Sys2Proof.Machine
end

section
/-!
SUPPORT. Host sessions (O58): what the end of a session and the opening of one change, the order of the checks of SESSION_OPEN, and what
SESSION_CLOSE serves (R556, R561 to R564).
-/

namespace Sys2Proof.Machine

variable (s : State)

/-! ### Blocks for the host (R538) -/

/-- A result buffer that breaks R538 takes no block. -/
theorem State.writeResult_bad {c : Cmd} {i : Nat} {ws : List Word} (h : bufferBad (c.dw i) (c.dw (i + 1)) = true) :
    s.writeResult c i ws = (s, resp .argBad 0) := if_pos h

/-- Writing a block changes nothing of the device but the record of what has left it. -/
theorem State.writeBlock_keeps {α : Type} (π : State → α) (he : ∀ t e, π (State.emit t e) = π t) (c : Cmd) (a l : Word)
    (ws : List Word) (n : Nat) : π (s.writeBlock c a l ws n).1 = π s := by
  unfold State.writeBlock
  split
  · rfl
  · split
    · rfl
    · exact he ..

@[simp] theorem State.writeBlock_sec (c : Cmd) (a l : Word) (ws : List Word) (n : Nat) : (s.writeBlock c a l ws n).1.sec = s.sec :=
  s.writeBlock_keeps State.sec (by simp) ..
@[simp] theorem State.writeBlock_print (c : Cmd) (a l : Word) (ws : List Word) (n : Nat) : (s.writeBlock c a l ws n).1.print = s.print :=
  s.writeBlock_keeps State.print (by simp) ..

/-- A block that fits, of which every write completes. -/
theorem State.writeBlock_fits {c : Cmd} (hw : c.writeFail = none) {a l : Word} {ws : List Word} (hl : blockBytes ws ≤ bits l 31 0)
    (n : Nat) :
    s.writeBlock c a l ws n = (s.emit (.hostWrite a (pad64 ws)), resp .ok n) := by
  simp [State.writeBlock, hw, Nat.not_lt.mpr hl]

/-! ### The end of a session (R80, R564) -/

@[simp] theorem State.endTransfer_sec (r : LoadReq) : (s.endTransfer r).sec = s.sec := by unfold State.endTransfer; split <;> rfl
@[simp] theorem State.endTransfer_print (r : LoadReq) : (s.endTransfer r).print = s.print := by unfold State.endTransfer; split <;> rfl

@[simp] theorem State.freeSlot_sec (k : SlotNo) : (s.freeSlot k).sec = s.sec := by unfold State.freeSlot; dsimp only; split <;> simp
@[simp] theorem State.freeSlot_print (k : SlotNo) : (s.freeSlot k).print = s.print := by unfold State.freeSlot; dsimp only; split <;> simp

@[simp] theorem State.flightId_sec (f : Flight) : (s.flightId f).1.sec = s.sec := by unfold State.flightId; split <;> rfl
@[simp] theorem State.flightId_print (f : Flight) : (s.flightId f).1.print = s.print := by unfold State.flightId; split <;> rfl

@[simp] theorem State.loadFails_sec (r : LoadReq) (id : Nat) (e : Code) (x : Nat) (o : Option Nat) :
    (s.loadFails r id e x o).sec = s.sec := by
  simp only [State.loadFails, State.loadAnswer, State.respond_sec]
  split <;> simp
@[simp] theorem State.loadFails_print (r : LoadReq) (id : Nat) (e : Code) (x : Nat) (o : Option Nat) :
    (s.loadFails r id e x o).print = s.print := by
  simp only [State.loadFails, State.loadAnswer, State.respond_print]
  split <;> simp

@[simp] theorem State.discardFlight_sec (k : SlotNo) (f : Flight) (e : Code) (x : Nat) : (s.discardFlight k f e x).sec = s.sec := by
  simp [State.discardFlight]
@[simp] theorem State.discardFlight_print (k : SlotNo) (f : Flight) (e : Code) (x : Nat) : (s.discardFlight k f e x).print = s.print := by
  simp [State.discardFlight]

/-- The end of a session that is open: its keys go, and parcels of the channel may be discarded. -/
theorem State.endSession_keeps {α : Type} (π : State → α) (hd : ∀ t k f e x, π (State.discardFlight t k f e x) = π t) (n : Chan)
    (ho : s.sec.sessions[n].isNone = false) :
    π (s.endSession n) = π { s with sec := { s.sec with sessions := s.sec.sessions.set n none } } := by
  unfold State.endSession
  rw [if_neg (Bool.eq_false_iff.mp ho)]
  refine foldl_same π _ (fun t k => ?_) _ _
  split
  · rw [apply_ite π, hd, ite_self]
  · rfl

/-- Of the security state, the end of a session takes the channel's session and nothing else. -/
@[simp] theorem State.endSession_sec (n : Chan) : (s.endSession n).sec = { s.sec with sessions := s.sec.sessions.set n none } := by
  cases ho : s.sec.sessions[n].isNone with
  | true =>
    have hnone : s.sec.sessions[n.val] = none := by simpa using ho
    rw [State.endSession, if_pos ho, ← hnone, Vector.set_getElem_self]
  | false => exact s.endSession_keeps State.sec (by simp) n ho

@[simp] theorem State.endSession_print (n : Chan) : (s.endSession n).print = s.print := by
  cases ho : s.sec.sessions[n].isNone with
  | true => rw [State.endSession, if_pos ho]
  | false => exact s.endSession_keeps State.print (by simp) n ho

/-! ### A session opens (R561, R563) -/

@[simp] theorem packList_length (n k : Nat) (es : List Nat) : (packList n es k).length = k := by
  induction k generalizing es with
  | zero => rfl
  | succ k ih => simp [packList, ih]

/-- A key or a signature takes 12 words (R555). -/
@[simp] theorem words768_length (v : BitVec 768) : (words768 v).length = 12 := by
  simp [words768, bytesWords, wordsOfBytes, packAll, packedWords, beBytes, leBytes]

/-- What SESSION_OPEN writes, the device's ephemeral key and the signature, takes the 192 bytes that R561 asks for. -/
theorem State.deriveSession_bytes (c : Cmd) (n : Chan) : blockBytes (s.deriveSession c n).2 = 192 := by
  simp [State.deriveSession, blockBytes, pad64]

@[simp] theorem State.drewN_sec (n : Nat) : (s.drewN n).sec = s.sec := rfl
@[simp] theorem State.drewN_print (n : Nat) : (s.drewN n).print = s.print := rfl

/-- Whether or not its block is written, a session that opens leaves the lifecycle as it is. -/
theorem State.openSession_lifecycle (c : Cmd) (n : Chan) : (s.openSession c n).1.sec.lifecycle = s.sec.lifecycle := by
  unfold State.openSession
  dsimp only
  split <;> simp

theorem State.openSession_print (c : Cmd) (n : Chan) : (s.openSession c n).1.print = s.print := by
  unfold State.openSession
  dsimp only
  split <;> simp

/-- A docket that keeps R561 has room for the block. -/
theorem sessionDocket_room {c : Cmd} (hd : sessionDocketBad c = false) : 192 ≤ bits (c.dw 50) 31 0 := by
  simp only [sessionDocketBad, Bool.or_eq_false_iff, decide_eq_false_iff_not, not_lt] at hd
  exact hd.2

/-- With room for its block and every write completed, a session opens: the channel has the derived session, and no other session moves. -/
theorem State.openSession_opens {c : Cmd} (hd : sessionDocketBad c = false) (hw : c.writeFail = none) (n : Chan) : ∃ u : State,
    s.openSession c n = (u, okResp) ∧
    u.sec = { s.sec with sessions := s.sec.sessions.set n (some (s.deriveSession c n).1) } ∧ u.print = s.print := by
  have hfit : blockBytes (s.deriveSession c n).2 ≤ bits (c.dw 50) 31 0 := (s.deriveSession_bytes c n).trans_le (sessionDocket_room hd)
  simp only [State.openSession, State.writeBlock_fits _ hw hfit, resp]
  exact ⟨_, rfl, by simp, by simp⟩

/-! ### The order of the checks (R561, R562) -/

/-- The host's ephemeral key and its session key lie on the curve (R562 reason 4). -/
def sessionKeysOnCurve (c : Cmd) : Bool := Config.onCurve (big768 (slice c.docket 1 12)) && Config.onCurve (big768 (slice c.docket 13 12))

/-- The owner has signed the session key (R562 reason 2). -/
def State.ownerSigned (s : State) (c : Cmd) : Bool := s.sec.ownerKey.any (fun k =>
  Config.ecdsaVerify k (Config.sha384 (bytes768 (big768 (slice c.docket 13 12)))) (big768 (slice c.docket 25 12)))

/-- The session key has signed this device, the channel and the ephemeral key (R562 reason 3). -/
def State.hostSigned (s : State) (c : Cmd) (n : Chan) : Bool :=
  Config.ecdsaVerify (big768 (slice c.docket 13 12))
    (Config.sha384 (s.idBytes ++ [BitVec.ofNat 8 n.val] ++ bytes768 (big768 (slice c.docket 1 12)))) (big768 (slice c.docket 37 12))

@[simp] theorem State.start_fabId (x : Cmd) : (s.start x).fab.id = s.fab.id :=
  s.start_keeps x (fun t => t.fab.id) (fun _ _ => rfl) (fun _ _ => rfl)

section Opening

variable {s} {c : Cmd} {n : Chan}

theorem State.sessionReason_notField (hl : s.sec.lifecycle ≠ 2) : s.sessionReason c n = some 1 := if_pos hl

theorem State.sessionReason_locked (hl : s.sec.lifecycle = 2) (hk : s.sec.keyLocked = true) : s.sessionReason c n = some 5 := by
  simp [State.sessionReason, hl, hk]

/-- In FIELD with the key region open: the curve, then the owner's signature, then the host's. -/
theorem State.sessionReason_field (hl : s.sec.lifecycle = 2) (hk : s.sec.keyLocked = false) : s.sessionReason c n =
    if sessionKeysOnCurve c = false then some 4 else if s.ownerSigned c = false then some 2
    else if s.hostSigned c n = false then some 3 else none := by
  simp [State.sessionReason, sessionKeysOnCurve, State.ownerSigned, State.hostSigned, hl, hk, imp_iff_not_or]

/-- Leaving the channel's storage changes nothing that the checks read. -/
theorem State.sessionReason_start (x : Cmd) : (s.start x).sessionReason c n = s.sessionReason c n := by
  simp [State.sessionReason, State.idBytes]

theorem State.channelBusy_start (x : Cmd) : (s.start x).channelBusy n = s.channelBusy n := by simp [State.channelBusy]

/-! ### What IDENTITY_READ and SESSION_OPEN do -/

/-- A running command that nothing gates and that reads nothing of the page store is answered from where it left its channel's storage. -/
theorem command_replyAtStart {op : Byte} {d sec : Bool} {f : Cmd → State → State × Option Resp} {t : State} {st : Code} {r : BitVec 40}
    (hg : (needsGated op || readsObjects op) = false) (h : Runs s op d sec c) (hf : f c (s.start c) = (t, some (st, r))) :
    (runCommand op d sec f c s).done = .next (t.reply c op st r) := command_reply s c h (by rwa [s.begun_other c hg])

theorem execIdentityRead_bad (h : Runs s 0xA0 true false c) (hb : bufferBad (c.dw 0) (c.dw 1) = true) :
    execIdentityRead c s = .next ((s.start c).reply c 0xA0 .argBad 0) :=
  command_replyAtStart rfl h (State.writeResult_bad _ hb)

theorem State.identityBlock_start (x : Cmd) : (s.start x).identityBlock = s.identityBlock := by simp [State.identityBlock]

theorem execIdentityRead_writes (h : Runs s 0xA0 true false c) (hw : Writes c 0 s.identityBlock) : execIdentityRead c s =
    .next (((s.start c).emit (.hostWrite (c.dw 0) (pad64 s.identityBlock))).reply c 0xA0 .ok (low40 (blockBytes s.identityBlock))) := by
  refine command_replyAtStart rfl h ?_
  rw [cmdIdentityRead, State.identityBlock_start, State.writeResult_writes _ _ hw, resp]

theorem execSessionOpen_bad (h : Runs s 0xA1 true false c) (hn : hostChan c.origin = some n) (hd : sessionDocketBad c = true) :
    execSessionOpen c s = .next ((s.start c).reply c 0xA1 .argBad 0) := by
  refine command_replyAtStart rfl h ?_
  simp [cmdSessionOpen, hn, hd, resp, low40]

theorem execSessionOpen_refuses (h : Runs s 0xA1 true false c) (hn : hostChan c.origin = some n) (hd : sessionDocketBad c = false)
    {r : Nat} (hr : s.sessionReason c n = some r) :
    execSessionOpen c s = .next ((s.start c).reply c 0xA1 .sessionFail (low40 r)) := by
  refine command_replyAtStart rfl h ?_
  simp [cmdSessionOpen, hn, hd, State.sessionReason_start, hr, resp]

/-- A SESSION_OPEN that passes its checks waits for the parcels of its channel in flight (R563). -/
theorem execSessionOpen_waits (h : Runs s 0xA1 true false c) (hn : hostChan c.origin = some n) (hd : sessionDocketBad c = false)
    (hr : s.sessionReason c n = none) (hb : s.channelBusy n = true) : execSessionOpen c s =
    .next ({ s.start c with sec := { s.sec with openWaits := s.sec.openWaits ++ [(n, c)] } } : State).settle := by
  refine command_waits s c h ?_
  rw [s.begun_other c rfl]
  simp [cmdSessionOpen, hn, hd, State.sessionReason_start, hr, State.channelBusy_start, hb]

theorem execSessionOpen_opens (h : Runs s 0xA1 true false c) (hn : hostChan c.origin = some n) (hd : sessionDocketBad c = false)
    (hr : s.sessionReason c n = none) (hb : s.channelBusy n = false) (hw : c.writeFail = none) : ∃ u : State,
    execSessionOpen c s = .next (u.reply c 0xA1 .ok 0) ∧
    u.sec = { s.sec with sessions := s.sec.sessions.set n (some ((s.start c).deriveSession c n).1) } ∧ u.print = s.print := by
  obtain ⟨u, hu, hsec, hprint⟩ := (s.start c).openSession_opens hd hw n
  refine ⟨u, command_replyAtStart rfl h ?_, by simpa using hsec, by simpa using hprint⟩
  simp [cmdSessionOpen, hn, hd, State.sessionReason_start, hr, State.channelBusy_start, hb, hu, okResp]

end Opening

/-! ### SESSION_OPEN commands that waited (R563) -/

/-- Serving one, whatever its answer, leaves alone what an open session and an answer leave alone. -/
theorem State.serveOpen_keeps {α : Type} (π : State → α)
    (hw : ∀ (t : State) l, π { t with sec := { t.sec with openWaits := l } } = π t)
    (ho : ∀ t c n, π (State.openSession t c n).1 = π t) (ha : ∀ t c op st r, π (State.answer t c op st r) = π t) (w : Chan × Cmd) :
    π (s.serveOpen w) = π s := by
  unfold State.serveOpen
  split
  · rfl
  · dsimp only
    refine Eq.trans ?_ (hw s (s.sec.openWaits.erase w))
    generalize ({ s with sec := { s.sec with openWaits := s.sec.openWaits.erase w } } : State) = t
    split
    · exact ha ..
    · have hopen := ho t w.2 w.1
      split
      next heq =>
        rw [heq] at hopen
        exact (ha ..).trans hopen
      next heq =>
        rw [heq] at hopen
        exact hopen

theorem State.serveOpens_lifecycle : s.serveOpens.sec.lifecycle = s.sec.lifecycle :=
  foldl_same (fun t : State => t.sec.lifecycle) _ (fun t w => t.serveOpen_keeps (fun t => t.sec.lifecycle) (fun _ _ => rfl)
    State.openSession_lifecycle (by simp) w) _ _

theorem State.serveOpens_print : s.serveOpens.print = s.print :=
  foldl_same State.print _ (fun t w => t.serveOpen_keeps State.print (fun _ _ => rfl) State.openSession_print (by simp) w) _ _

variable {s}

theorem State.serveOpens_none (h : s.sec.openWaits = []) : s.serveOpens = s := by simp [State.serveOpens, h]

variable {c : Cmd} {n : Chan}

theorem execSessionClose_notOpen (h : Runs s 0xA2 false false c) (hn : hostChan c.origin = some n) (hs : s.sec.sessions[n] = none) :
    execSessionClose c s = .next ((s.start c).reply c 0xA2 .notFound 0) := by
  refine command_replyAtStart rfl h ?_
  have hs' : (s.start c).sec.sessions[n].isNone = true := by rw [State.start_sec, hs, Option.isNone_none]
  simp only [cmdSessionClose, hn, hs', if_true]
  rfl

theorem execSessionClose_closes (h : Runs s 0xA2 false false c) (hn : hostChan c.origin = some n) {k : Session}
    (hs : s.sec.sessions[n] = some k) : execSessionClose c s = .next ((((s.start c).endSession n).serveOpens).reply c 0xA2 .ok 0) := by
  refine command_replyAtStart rfl h ?_
  have hs' : (s.start c).sec.sessions[n].isNone = false := by rw [State.start_sec, hs, Option.isNone_some]
  simp only [cmdSessionClose, hn, hs', Bool.false_eq_true, if_false]
  rfl

/-! ### The statement -/

/-- Settles O58: the block of R556 goes out whole or not at all; SESSION_OPEN goes by its first failing check and then by the parcels in
flight; SESSION_CLOSE takes its channel's session, and the commands it then serves change neither the lifecycle nor the print. -/
theorem sessionsOpenInOrderAndClose : Obligations.SessionsOpenInOrderAndClose := by
  unfold Obligations.SessionsOpenInOrderAndClose
  refine ⟨fun s c h => ⟨execIdentityRead_bad h, execIdentityRead_writes h⟩,
    fun s c n h hn => ⟨execSessionOpen_bad h hn, fun hd => ⟨fun hl => ?_, fun hl hk => ?_, fun ⟨hl, hk⟩ => ?_⟩⟩,
    fun s c h => ⟨fun n hn => execSessionClose_notOpen h hn, fun n k hn hs => ?_⟩⟩
  · exact execSessionOpen_refuses h hn hd (State.sessionReason_notField hl)
  · exact execSessionOpen_refuses h hn hd (State.sessionReason_locked hl hk)
  · have hr := State.sessionReason_field (c := c) (n := n) hl hk
    change if sessionKeysOnCurve c = false then _ else if s.ownerSigned c = false then _ else if s.hostSigned c n = false then _ else _
    split_ifs with hp ho hh
    · exact execSessionOpen_refuses h hn hd (by rw [hr, if_pos hp])
    · exact execSessionOpen_refuses h hn hd (by rw [hr, if_neg hp, if_pos ho])
    · exact execSessionOpen_refuses h hn hd (by rw [hr, if_neg hp, if_neg ho, if_pos hh])
    · rw [if_neg hp, if_neg ho, if_neg hh] at hr
      refine ⟨execSessionOpen_waits h hn hd hr, fun hb hw => ?_⟩
      obtain ⟨u, hu, hsec, hprint⟩ := execSessionOpen_opens h hn hd hr hb hw
      refine ⟨u, ((s.start c).deriveSession c n).1, hu, ?_, rfl, fun m hm => ?_, hprint⟩
      · simp [hsec]
      · simp [hsec, Vector.getElem_set_ne, Fin.val_ne_of_ne hm.symm]
  · refine ⟨_, execSessionClose_closes h hn hs, fun hw => ?_, ?_, ?_⟩
    · rw [State.serveOpens_none (by simpa using hw)]
      exact ⟨by simp, fun m hm => by simp [Vector.getElem_set_ne, Fin.val_ne_of_ne hm.symm]⟩
    · simp [State.serveOpens_lifecycle]
    · simp [State.serveOpens_print]

end Sys2Proof.Machine
end

section
/-!
SUPPORT. What no operation of a block touches (O4, O5, O6): the commands that wait, and what the fuses hold. One lemma for each operation, in the
order of the model.
-/

namespace Sys2Proof.Machine

variable (s : State)

/-- The commands that wait, and what is fused: the lifecycle, the anti-rollback counter and the hashes of the image key and of the device CA key
(R553, R555, R557, R558). -/
def State.fixed : List Instr × BitVec 2 × Nat × BitVec 384 × BitVec 384 :=
  (s.pending, s.sec.lifecycle, s.sec.svn, s.sec.imageKey, s.sec.caKey)

/-- An update of other parts than the queue and security leaves both. -/
@[simp] theorem State.fixed_update (host store print eng mapper cist gov sluice heads enc motion cam health lanes fab pair time dram sys sent draws) :
    (State.mk s.pending host store print eng mapper cist gov sluice heads enc motion cam health lanes fab pair time s.sec dram sys sent draws).fixed
      = s.fixed := by simp only [State.fixed]

/-- An update of security beside the fuses leaves them. -/
@[simp] theorem State.fixed_updateSec (host store print eng mapper cist gov sluice heads enc motion cam health lanes fab pair time dram sys sent draws)
    (a b c d e f g h i j k l m n o p q r t u v w x y z aa) :
    (State.mk s.pending host store print eng mapper cist gov sluice heads enc motion cam health lanes fab pair time
      (SecPart.mk s.sec.lifecycle s.sec.svn s.sec.imageKey s.sec.caKey a b c d e f g h i j k l m n o p q r t u v w x y z aa)
      dram sys sent draws).fixed = s.fixed := by simp only [State.fixed]

@[simp] theorem State.tick_fixed : (s.tick).fixed = s.fixed := by
  unfold State.tick
  repeat' split
  all_goals simp

@[simp] theorem State.reach_fixed (at_ : Word) : (s.reach at_).fixed = s.fixed := by
  unfold State.reach
  repeat' split
  all_goals simp

@[simp] theorem State.emit_fixed (e : Emission) : (s.emit e).fixed = s.fixed := by
  unfold State.emit
  simp

@[simp] theorem State.drew_fixed : (s.drew).fixed = s.fixed := by
  unfold State.drew
  simp

@[simp] theorem State.wakeBy_fixed (src : PowerSource) : (s.wakeBy src).fixed = s.fixed := by
  unfold State.wakeBy
  repeat' split
  all_goals simp

@[simp] theorem State.sendMsix_fixed (v : Nat) : (s.sendMsix v).fixed = s.fixed := by
  unfold State.sendMsix
  repeat' split
  all_goals simp

@[simp] theorem State.irq_fixed (v : Nat) : (s.irq v).fixed = s.fixed := by
  unfold State.irq
  repeat' split
  all_goals simp

@[simp] theorem State.releaseMsix_fixed : (s.releaseMsix).fixed = s.fixed := by
  exact foldl_same State.fixed _ (fun t v => by split <;> simp) _ _

@[simp] theorem State.setChan_fixed (n : Chan) (f : HmbChannel → HmbChannel) : (s.setChan n f).fixed = s.fixed := by
  unfold State.setChan
  simp

@[simp] theorem State.pushHost_fixed (n : Chan) (ws : List Word) : (s.pushHost n ws).fixed = s.fixed := by
  unfold State.pushHost
  dsimp only
  repeat' split
  all_goals simp

@[simp] theorem State.eventHost_fixed (e : Code × BitVec 40) (n : Chan) : (s.eventHost e n).fixed = s.fixed := by
  unfold State.eventHost
  dsimp only
  repeat' split
  all_goals simp

@[simp] theorem State.setLane_fixed (n : LaneNo) (f : LaneState → LaneState) : (s.setLane n f).fixed = s.fixed := by
  unfold State.setLane
  simp

@[simp] theorem State.setPort_fixed (p : FabPort) (f : FabPortState → FabPortState) : (s.setPort p f).fixed = s.fixed := by
  unfold State.setPort
  simp

@[simp] theorem State.fabFreed_fixed (src : Option FabPort) (cls : Fin 4) (n : Nat) : (s.fabFreed src cls n).fixed = s.fixed := by
  unfold State.fabFreed
  repeat' split
  all_goals simp

@[simp] theorem State.fabSlots_fixed (p : FabPort) : (s.fabSlots p).fixed = s.fixed := by
  unfold State.fabSlots
  simp

@[simp] theorem State.allFabSlots_fixed : (s.allFabSlots).fixed = s.fixed := by
  exact foldl_same State.fixed _ (fun t v => by split <;> simp) _ _

@[simp] theorem State.fabOutFrom_fixed (src : Option FabPort) (p : FabPort) (cls : Fin 4) (ws : List Word) : (s.fabOutFrom src p cls ws).fixed = s.fixed := by
  unfold State.fabOutFrom
  repeat' split
  all_goals simp

@[simp] theorem State.fabOut_fixed (p : FabPort) (cls : Fin 4) (ws : List Word) : (s.fabOut p cls ws).fixed = s.fixed := by
  unfold State.fabOut
  simp

@[simp] theorem State.bundleStep_fixed (p used : FabPort) : (s.bundleStep p used).fixed = s.fixed := by
  unfold State.bundleStep
  simp

@[simp] theorem State.fabRoute_fixed (src : Option FabPort) (cls : Fin 4) (dest : NodeNo) (ws : List Word) : (s.fabRoute src cls dest ws).fixed = s.fixed := by
  unfold State.fabRoute
  repeat' split
  all_goals simp

@[simp] theorem State.fabUp_fixed (src : Option FabPort) (cls : Fin 4) (ws : List Word) : (s.fabUp src cls ws).fixed = s.fixed := by
  unfold State.fabUp
  repeat' split
  all_goals simp

@[simp] theorem State.fabSend_fixed (kind : Nat) (dest : NodeNo) (data : List Word) : (s.fabSend kind dest data).fixed = s.fixed := by
  unfold State.fabSend
  repeat' split
  all_goals simp

@[simp] theorem State.setFabChan_fixed (n : NodeNo) (f : FabChannel → FabChannel) : (s.setFabChan n f).fixed = s.fixed := by
  unfold State.setFabChan
  simp

@[simp] theorem State.fabPump_fixed (n : NodeNo) : (s.fabPump n).fixed = s.fixed := by
  unfold State.fabPump
  repeat' split
  all_goals simp

@[simp] theorem State.pushFab_fixed (n : NodeNo) (ws : List Word) : (s.pushFab n ws).fixed = s.fixed := by
  unfold State.pushFab
  simp

@[simp] theorem State.eventFab_fixed (e : Code × BitVec 40) (n : NodeNo) : (s.eventFab e n).fixed = s.fixed := by
  unfold State.eventFab
  repeat' split
  all_goals simp

@[simp] theorem State.raise_fixed (e : Code) (detail : BitVec 40) : (s.raise e detail).fixed = s.fixed := by
  unfold State.raise
  repeat' split
  all_goals simp

@[simp] theorem State.raiseF_fixed (e : Code) (l : List Nat) : (s.raiseF e l).fixed = s.fixed := by
  unfold State.raiseF
  simp

@[simp] theorem State.deliver_fixed (e : Code × BitVec 40) : (s.deliver e).fixed = s.fixed := by
  simp [State.deliver, foldl_same State.fixed]

@[simp] theorem State.flush_fixed : (s.flush).fixed = s.fixed := by
  unfold State.flush
  dsimp only
  repeat' split
  all_goals simp [foldl_same State.fixed]

@[simp] theorem State.settle_fixed : (s.settle).fixed = s.fixed := by
  unfold State.settle
  simp

@[simp] theorem State.respond_fixed (o : Origin) (opcode : Byte) (tag : BitVec 5) (st : Code) (result : BitVec 40) : (s.respond o opcode tag st result).fixed = s.fixed := by
  unfold State.respond
  dsimp only
  repeat' split
  all_goals simp

@[simp] theorem State.answer_fixed (x : Cmd) (opcode : Byte) (st : Code) (result : BitVec 40) : (s.answer x opcode st result).fixed = s.fixed := by
  unfold State.answer
  simp

@[simp] theorem State.correctedError_fixed (burst : Nat) : (s.correctedError burst).fixed = s.fixed := by
  unfold State.correctedError
  dsimp only
  repeat' split
  all_goals simp

@[simp] theorem State.uncorrectable_fixed (burst : BitVec 30) (source : Nat) : (s.uncorrectable burst source).fixed = s.fixed := by
  unfold State.uncorrectable
  simp

@[simp] theorem State.readBurst_fixed (source : Nat) (b : BurstRead) : (s.readBurst source b).1.fixed = s.fixed := by
  unfold State.readBurst
  repeat' split
  all_goals simp

@[simp] theorem State.readBursts_fixed (bs : List BurstRead) : (s.readBursts bs).1.fixed = s.fixed := by
  exact foldl_same (fun p : State × List (BitVec 30) => p.1.fixed) _ (fun t v => by simp) _ _

@[simp] theorem State.wrote_fixed (a n : Nat) : (s.wrote a n).fixed = s.fixed := by
  unfold State.wrote
  repeat' split
  all_goals simp

@[simp] theorem State.wroteIn_fixed (region : Nat) : (s.wroteIn region).fixed = s.fixed := by
  unfold State.wroteIn
  repeat' split
  all_goals simp

@[simp] theorem State.merge_fixed (a : Nat) : (s.merge a).1.fixed = s.fixed := by
  unfold State.merge
  repeat' split
  all_goals simp

@[simp] theorem State.writeWords_fixed (w n : Nat) : (s.writeWords w n).1.fixed = s.fixed := by
  unfold State.writeWords
  dsimp only
  repeat' split
  all_goals simp

@[simp] theorem State.logLowCheck_fixed : (s.logLowCheck).fixed = s.fixed := by
  unfold State.logLowCheck
  repeat' split
  all_goals simp

@[simp] theorem State.logAppend_fixed (ls : List (List Word × Bool)) : (s.logAppend ls).fixed = s.fixed := by
  simp [State.logAppend, foldl_same State.fixed]

@[simp] theorem State.checkpoint_fixed (kind : Nat) (l3 : List Word) : (s.checkpoint kind l3).fixed = s.fixed := by
  unfold State.checkpoint
  simp

@[simp] theorem State.chainLine_fixed (w0 w1 w2 : Word) : (s.chainLine w0 w1 w2).fixed = s.fixed := by
  unfold State.chainLine
  dsimp only
  repeat' split
  all_goals simp

@[simp] theorem State.skipLine_fixed (n : Fin 16) : (s.skipLine n).fixed = s.fixed := by
  unfold State.skipLine
  dsimp only
  repeat' split
  all_goals simp

@[simp] theorem State.resumeLog_fixed : (s.resumeLog).fixed = s.fixed := by
  unfold State.resumeLog
  dsimp only
  repeat' split
  all_goals simp [foldl_same State.fixed]

@[simp] theorem State.codeLine_fixed (slot : Fin 16) (serial : BitVec 48) (mac : BitVec 40) (page : PageId) (tag : Word) (outcome : Nat) : (s.codeLine slot serial mac page tag outcome).fixed = s.fixed := by
  unfold State.codeLine
  repeat' split
  all_goals simp

@[simp] theorem State.draw_fixed (slot : Fin 16) : (s.draw slot).1.fixed = s.fixed := by
  unfold State.draw
  dsimp only
  repeat' split
  all_goals simp

@[simp] theorem State.serialHeld_fixed (page : PageId) (reason trig : Nat) : (s.serialHeld page reason trig).fixed = s.fixed := by
  unfold State.serialHeld
  repeat' split
  all_goals simp

@[simp] theorem State.sendTagged_fixed (kind : Nat) (dest : NodeNo) (ws : List Word) : (s.sendTagged kind dest ws).fixed = s.fixed := by
  unfold State.sendTagged
  repeat' split
  all_goals simp

@[simp] theorem State.record_fixed (rkind : Nat) (w1 w2 : Word) : (s.record rkind w1 w2).fixed = s.fixed := by
  unfold State.record
  repeat' split
  all_goals simp

@[simp] theorem State.beat_fixed : (s.beat).fixed = s.fixed := by
  unfold State.beat
  dsimp only
  repeat' split
  all_goals simp [foldl_same State.fixed]

@[simp] theorem State.diverge_fixed (page : PageId) (cause : Nat) : (s.diverge page cause).fixed = s.fixed := by
  unfold State.diverge
  repeat' split
  all_goals simp

@[simp] theorem State.askHeader_fixed (k : SlotNo) (f : Flight) : (s.askHeader k f).fixed = s.fixed := by
  unfold State.askHeader
  repeat' split
  all_goals simp

@[simp] theorem State.askHeld_fixed : (s.askHeld).fixed = s.fixed := by
  refine foldl_same State.fixed _ (fun t x => ?_) _ _
  repeat' split
  all_goals simp

@[simp] theorem State.setPage_fixed (id : PageId) (f : PageEntry → PageEntry) : (s.setPage id f).fixed = s.fixed := by
  unfold State.setPage
  simp

@[simp] theorem State.setPageState_fixed (id : PageId) (st : PageState) : (s.setPageState id st).fixed = s.fixed := by
  unfold State.setPageState
  simp

@[simp] theorem State.dropPage_fixed (id : PageId) : (s.dropPage id).fixed = s.fixed := by
  unfold State.dropPage
  simp

@[simp] theorem State.evalPage_fixed (e : PageEntry) : (s.evalPage e).fixed = s.fixed := by
  unfold State.evalPage
  repeat' split
  all_goals simp

@[simp] theorem State.evalPages_fixed : (s.evalPages).fixed = s.fixed := by
  simp [State.evalPages, foldl_same State.fixed]

@[simp] theorem State.freeLayer_fixed (id : LayerId) : (s.freeLayer id).fixed = s.fixed := by
  unfold State.freeLayer
  simp

@[simp] theorem State.setCam_fixed (p : CamNo) (f : CamState → CamState) : (s.setCam p f).fixed = s.fixed := by
  unfold State.setCam
  simp

@[simp] theorem State.camStart_fixed : (s.camStart).fixed = s.fixed := by
  unfold State.camStart
  simp

@[simp] theorem State.tapsBegin_fixed (p : CamNo) (set : CamShadow) (n : Nat) : (s.tapsBegin p set n).fixed = s.fixed := by
  refine foldl_same State.fixed _ (fun t k => ?_) _ _
  dsimp only
  repeat' split
  all_goals simp

@[simp] theorem State.camWriteNext_fixed (p : CamNo) : (s.camWriteNext p).fixed = s.fixed := by
  unfold State.camWriteNext
  repeat' split
  all_goals simp

@[simp] theorem State.camWrites_fixed (p : CamNo) (gen : BitVec 16) (regs : List (BitVec 32 × BitVec 32)) : (s.camWrites p gen regs).fixed = s.fixed := by
  unfold State.camWrites
  dsimp only
  repeat' split
  all_goals simp

@[simp] theorem State.openFrame_fixed (p : CamNo) (g : Option CamPage) (n positions gp : Nat) (time : Option Nat) : (s.openFrame p g n positions gp time).fixed = s.fixed := by
  unfold State.openFrame
  dsimp only
  repeat' split
  all_goals simp

@[simp] theorem State.addStats_fixed (p : CamNo) (r : StatsRec) : (s.addStats p r).fixed = s.fixed := by
  simp [State.addStats, foldl_same State.fixed]

@[simp] theorem State.closeFrame_fixed (p : CamNo) (f : Frame) (status cause : Nat) : (s.closeFrame p f status cause).fixed = s.fixed := by
  unfold State.closeFrame
  dsimp only
  repeat' split
  all_goals simp

@[simp] theorem State.settleFrames_fixed (p : CamNo) : (s.settleFrames p).fixed = s.fixed := by
  refine foldl_same State.fixed _ (fun t x => ?_) _ _
  repeat' split
  all_goals simp

@[simp] theorem State.sendTrigger_fixed (p : CamNo) (fr : Option Nat) (n : Nat) (im : Int) (t : Rat) (last : Bool) : (s.sendTrigger p fr n im t last).fixed = s.fixed := by
  unfold State.sendTrigger
  dsimp only
  repeat' split
  all_goals simp

@[simp] theorem State.camTrigger_fixed (p : CamNo) (n : Nat) (tf : Rat) : (s.camTrigger p n tf).fixed = s.fixed := by
  unfold State.camTrigger
  dsimp only
  repeat' split
  all_goals simp

@[simp] theorem State.camTriggers_fixed (n : Nat) (tf : Rat) : (s.camTriggers n tf).fixed = s.fixed := by
  simp [State.camTriggers, foldl_same State.fixed]

@[simp] theorem State.camSettle_fixed (id : PageId) (first trailing : Nat) : (s.camSettle id first trailing).fixed = s.fixed := by
  simp [State.camSettle, foldl_same State.fixed]

@[simp] theorem State.judgePort_fixed (m : NozzleMap) (h : HeadRec) : (s.judgePort m h).1.fixed = s.fixed := by
  unfold State.judgePort
  repeat' split
  all_goals simp

@[simp] theorem State.judgeAll_fixed (m : NozzleMap) : (s.judgeAll m).fixed = s.fixed := by
  have h (l : List HeadRec) (t : State) : (l.foldl (fun (acc : State × Nat) h =>
      let j := acc.1.judgePort m h
      (j.1, acc.2 + j.2)) (t, 0)).1.fixed = t.fixed :=
    foldl_same (fun p : State × Nat => p.1.fixed) _ (fun t v => by simp) _ _
  unfold State.judgeAll
  dsimp only
  split <;> simp [h]

@[simp] theorem State.syncChange_fixed (n : Nozzle) (t : NozzleState) (x : PageId) : (s.syncChange n t x).fixed = s.fixed := by
  unfold State.syncChange
  dsimp only
  repeat' split
  all_goals simp

@[simp] theorem State.sendChange_fixed (n : Nozzle) (t : NozzleState) (x : PageId) : (s.sendChange n t x).fixed = s.fixed := by
  unfold State.sendChange
  simp

@[simp] theorem State.changeAs_fixed (w1 w2 : Word) : (s.changeAs w1 w2).fixed = s.fixed := by
  unfold State.changeAs
  dsimp only
  repeat' split
  all_goals simp

@[simp] theorem State.applySyncs_fixed (id : PageId) : (s.applySyncs id).fixed = s.fixed := by
  unfold State.applySyncs
  repeat' split
  all_goals simp

@[simp] theorem State.checkCaps_fixed (m : NozzleMap) : (s.checkCaps m).fixed = s.fixed := by
  refine foldl_same State.fixed _ (fun t x => ?_) _ _
  dsimp only
  repeat' split
  all_goals simp

@[simp] theorem State.setCauses_fixed (v : BitVec 5) : (s.setCauses v).fixed = s.fixed := by
  unfold State.setCauses
  dsimp only
  repeat' split
  all_goals simp

@[simp] theorem State.setCause_fixed (n : Nat) (b : Bool) : (s.setCause n b).fixed = s.fixed := by
  unfold State.setCause
  simp

@[simp] theorem State.evalLead_fixed : (s.evalLead).fixed = s.fixed := by
  unfold State.evalLead
  dsimp only
  repeat' split
  all_goals simp

@[simp] theorem State.setLimit_fixed (lim why : Nat) : (s.setLimit lim why).fixed = s.fixed := by
  unfold State.setLimit
  repeat' split
  all_goals simp

@[simp] theorem State.evalGov_fixed : (s.evalGov).fixed = s.fixed := by
  unfold State.evalGov
  dsimp only
  repeat' split
  all_goals simp

@[simp] theorem State.checkOverspeed_fixed : (s.checkOverspeed).fixed = s.fixed := by
  unfold State.checkOverspeed
  dsimp only
  repeat' split
  all_goals simp

@[simp] theorem State.setTrig_fixed (n : TrigNo) (f : TrigState → TrigState) : (s.setTrig n f).fixed = s.fixed := by
  unfold State.setTrig
  simp

@[simp] theorem State.markNow_fixed (n : TrigNo) : (s.markNow n).fixed = s.fixed := by
  unfold State.markNow
  simp

@[simp] theorem State.pulse_fixed (n : TrigNo) (line : Nat) : (s.pulse n line).fixed = s.fixed := by
  unfold State.pulse
  repeat' split
  all_goals simp

@[simp] theorem State.pulseFor_fixed (n : TrigNo) (start : Nat) : (s.pulseFor n start).fixed = s.fixed := by
  unfold State.pulseFor
  simp

@[simp] theorem State.pulsesAt_fixed (n : Nat) : (s.pulsesAt n).fixed = s.fixed := by
  refine foldl_same State.fixed _ (fun t x => ?_) _ _
  repeat' split
  all_goals simp

@[simp] theorem State.pulsesStop_fixed : (s.pulsesStop).fixed = s.fixed := by
  refine foldl_same State.fixed _ (fun t x => ?_) _ _
  repeat' split
  all_goals simp

@[simp] theorem State.addDefect_fixed (r : DefectRecord) : (s.addDefect r).fixed = s.fixed := by
  unfold State.addDefect
  repeat' split
  all_goals simp

@[simp] theorem State.defect_fixed (k : DefectKind) (first last : Int) : (s.defect k first last).fixed = s.fixed := by
  unfold State.defect
  repeat' split
  all_goals simp

@[simp] theorem State.dryEnd_fixed : (s.dryEnd).fixed = s.fixed := by
  unfold State.dryEnd
  repeat' split
  all_goals simp

@[simp] theorem State.dryEarly_fixed : (s.dryEarly).fixed = s.fixed := by
  simp [State.dryEarly, foldl_same State.fixed]

@[simp] theorem State.forgetJudged_fixed (start : Nat) : (s.forgetJudged start).fixed = s.fixed := by
  unfold State.forgetJudged
  simp

@[simp] theorem State.endEvent_fixed (id : PageId) (st shown : PageState) : (s.endEvent id st shown).fixed = s.fixed := by
  unfold State.endEvent
  simp

@[simp] theorem State.keepEnded_fixed (e : EndedPage) : (s.keepEnded e).fixed = s.fixed := by
  unfold State.keepEnded
  simp

@[simp] theorem State.dropCtx_fixed (fallback : Bool) : (s.dropCtx fallback).fixed = s.fixed := by
  unfold State.dropCtx
  simp

@[simp] theorem State.logCode_fixed (d : PageDesc) (serial : Option (BitVec 48 × BitVec 40)) (outcome : Nat) : (s.logCode d serial outcome).fixed = s.fixed := by
  unfold State.logCode
  repeat' split
  all_goals simp

@[simp] theorem State.unpend_fixed (n : Option TrigNo) (start : Nat) : (s.unpend n start).fixed = s.fixed := by
  unfold State.unpend
  repeat' split
  all_goals simp

@[simp] theorem State.rolloutEnd_fixed (id : PageId) : (s.rolloutEnd id).fixed = s.fixed := by
  unfold State.rolloutEnd
  repeat' split
  all_goals simp

@[simp] theorem State.missPage_fixed (q : QEntry) : (s.missPage q).fixed = s.fixed := by
  unfold State.missPage
  dsimp only
  repeat' split
  all_goals simp

@[simp] theorem State.setQ_fixed (id : PageId) (f : QEntry → QEntry) : (s.setQ id f).fixed = s.fixed := by
  unfold State.setQ
  simp

@[simp] theorem State.assignBy_fixed (line : QEntry → Option Nat) : (s.assignBy line).fixed = s.fixed := by
  unfold State.assignBy
  repeat' split
  all_goals simp

@[simp] theorem State.assignNext_fixed : (s.assignNext).fixed = s.fixed := by
  unfold State.assignNext
  simp

@[simp] theorem State.startRollout_fixed (new : List (Nozzle × Word)) (k : Nat) : (s.startRollout new k).fixed = s.fixed := by
  unfold State.startRollout
  simp

@[simp] theorem State.discardPrepared_fixed : (s.discardPrepared).fixed = s.fixed := by
  unfold State.discardPrepared
  repeat' split
  all_goals simp

@[simp] theorem State.mapTakesEffect_fixed (m : NozzleMap) (rolls : Bool) : (s.mapTakesEffect m rolls).fixed = s.fixed := by
  unfold State.mapTakesEffect
  repeat' split
  all_goals simp

@[simp] theorem State.publishMap_fixed (m : NozzleMap) : (s.publishMap m).fixed = s.fixed := by
  unfold State.publishMap
  dsimp only
  repeat' split
  all_goals simp

@[simp] theorem State.encCorrect_fixed (k : EncNo) : (s.encCorrect k).fixed = s.fixed := by
  unfold State.encCorrect
  dsimp only
  repeat' split
  all_goals simp

@[simp] theorem State.encBoundary_fixed (k : EncNo) : (s.encBoundary k).fixed = s.fixed := by
  unfold State.encBoundary
  simp

@[simp] theorem State.baseline_fixed : (s.baseline).fixed = s.fixed := by
  unfold State.baseline
  simp

@[simp] theorem State.lossDefect_fixed (sp : Span) (p : HeadPort) (n : Nat) (r : HeadLoss) : (s.lossDefect sp p n r).fixed = s.fixed := by
  unfold State.lossDefect
  repeat' split
  all_goals simp

@[simp] theorem State.tellTakeover_fixed (p : HeadPort) (n : Nat) (take : Bool) : (s.tellTakeover p n take).fixed = s.fixed := by
  unfold State.tellTakeover
  repeat' split
  all_goals simp

@[simp] theorem State.loseHead_fixed (sp : Span) (c : PageCtx) (p : HeadPort) (n : Nat) : (s.loseHead sp c p n).fixed = s.fixed := by
  unfold State.loseHead
  repeat' split
  all_goals simp

@[simp] theorem State.headsOutAtFlip_fixed : (s.headsOutAtFlip).fixed = s.fixed := by
  unfold State.headsOutAtFlip
  split
  · refine foldl_same State.fixed _ (fun t x => ?_) _ _
    split <;> simp
  · rfl

@[simp] theorem State.camPage_fixed (sp : Span) (c : Option PageCtx) : (s.camPage sp c).fixed = s.fixed := by
  unfold State.camPage
  repeat' split
  all_goals simp

@[simp] theorem State.camTrailing_fixed (id : PageId) (first trailing : Nat) : (s.camTrailing id first trailing).fixed = s.fixed := by
  unfold State.camTrailing
  simp

@[simp] theorem State.dropRun_fixed (p : CalProc) : (s.dropRun p).fixed = s.fixed := by
  unfold State.dropRun
  repeat' split
  all_goals simp

@[simp] theorem State.calAnswer_fixed (r : CalRun) (st : Code) (n : Nat) : (s.calAnswer r st n).fixed = s.fixed := by
  unfold State.calAnswer
  simp

@[simp] theorem State.calFail_fixed (r : CalRun) (reason : Nat) : (s.calFail r reason).fixed = s.fixed := by
  unfold State.calFail
  simp

@[simp] theorem State.calCheck_fixed (of : CalProc → Bool) : (s.calCheck of).fixed = s.fixed := by
  refine foldl_same State.fixed _ (fun t x => ?_) _ _
  repeat' split
  all_goals simp

@[simp] theorem State.calPrintStop_fixed : (s.calPrintStop).fixed = s.fixed := by
  simp [State.calPrintStop, foldl_same State.fixed]

@[simp] theorem State.setHead_fixed (p : HeadPort) (f : HeadState → HeadState) : (s.setHead p f).fixed = s.fixed := by
  unfold State.setHead
  simp

@[simp] theorem State.portSlots_fixed (p : HeadPort) : (s.portSlots p).fixed = s.fixed := by
  unfold State.portSlots
  repeat' split
  all_goals simp

@[simp] theorem State.offer_fixed (p : HeadPort) (x : TxItem) : (s.offer p x).fixed = s.fixed := by
  unfold State.offer
  simp

@[simp] theorem State.headSlots_fixed : (s.headSlots).fixed = s.fixed := by
  simp [State.headSlots, foldl_same State.fixed]

@[simp] theorem State.allSlots_fixed : (s.allSlots).fixed = s.fixed := by
  unfold State.allSlots
  simp

@[simp] theorem State.sendFrames_fixed (m : NozzleMap) (depth n : Nat) (codes : Option (HeadRec → List Nat)) : (s.sendFrames m depth n codes).fixed = s.fixed := by
  unfold State.sendFrames
  split
  · rfl
  · exact foldl_same State.fixed _ (fun t x => by split <;> simp) _ _

@[simp] theorem State.sendLine_fixed (q : Place) (n : Nat) : (s.sendLine q n).fixed = s.fixed := by
  unfold State.sendLine
  repeat' split
  all_goals simp

@[simp] theorem State.judgeBlank_fixed (page : PageId) (n : Nat) : (s.judgeBlank page n).fixed = s.fixed := by
  unfold State.judgeBlank
  repeat' split
  all_goals simp

@[simp] theorem State.assemble_fixed (n : Nat) : (s.assemble n).fixed = s.fixed := by
  unfold State.assemble
  repeat' split
  all_goals simp

@[simp] theorem State.assembleAgain_fixed (a b : Nat) : (s.assembleAgain a b).fixed = s.fixed := by
  simp [State.assembleAgain, foldl_same State.fixed]

@[simp] theorem State.fixStart_fixed (start : Nat) : (s.fixStart start).fixed = s.fixed := by
  unfold State.fixStart
  simp

@[simp] theorem State.assembleUpTo_fixed (n : Nat) : (s.assembleUpTo n).fixed = s.fixed := by
  unfold State.assembleUpTo
  simp

@[simp] theorem State.writeHealth_fixed : (s.writeHealth).fixed = s.fixed := by
  unfold State.writeHealth
  simp

@[simp] theorem State.stopNow_fixed : (s.stopNow).fixed = s.fixed := by
  unfold State.stopNow
  dsimp only
  repeat' split
  all_goals simp [foldl_same State.fixed]

@[simp] theorem State.endPage_fixed : (s.endPage).fixed = s.fixed := by
  unfold State.endPage
  dsimp only
  repeat' split
  all_goals simp

@[simp] theorem State.abortAt_fixed (a : Nat) (k : DefectKind) : (s.abortAt a k).fixed = s.fixed := by
  unfold State.abortAt
  split
  · rfl
  split
  · rfl
  dsimp only
  simp only [apply_ite State.fixed, State.endPage_fixed, ite_self]
  rw [foldl_same State.fixed _ (fun t x => by split <;> simp)]
  simp only [apply_ite State.fixed, State.assignNext_fixed, ite_self, State.record_fixed, State.camTrailing_fixed]
  split <;> simp

@[simp] theorem State.cutPage_fixed (a : Nat) (k : DefectKind) : (s.cutPage a k).fixed = s.fixed := by
  unfold State.cutPage
  dsimp only
  repeat' split
  all_goals simp

@[simp] theorem State.toFront_fixed (id : PageId) : (s.toFront id).fixed = s.fixed := by
  unfold State.toFront
  dsimp only
  repeat' split
  all_goals simp [foldl_same State.fixed]

@[simp] theorem State.flip_fixed (d : PageDesc) (fallback : Bool) (trig : Option TrigNo) (n : Nat) : (s.flip d fallback trig n).fixed = s.fixed := by
  unfold State.flip
  dsimp only
  repeat' split
  all_goals simp

@[simp] theorem State.startsAt_fixed (n : Nat) : (s.startsAt n).fixed = s.fixed := by
  unfold State.startsAt
  repeat' split
  all_goals simp

@[simp] theorem State.writeBlock_fixed (x : Cmd) (addr len : Word) (ws : List Word) (ok : Nat) : (s.writeBlock x addr len ws ok).1.fixed = s.fixed := by
  unfold State.writeBlock
  repeat' split
  all_goals simp

@[simp] theorem State.writeResult_fixed (x : Cmd) (i : Nat) (ws : List Word) : (s.writeResult x i ws).1.fixed = s.fixed := by
  unfold State.writeResult
  repeat' split
  all_goals simp

@[simp] theorem State.start_fixed (x : Cmd) : (s.start x).fixed = s.fixed := by
  unfold State.start
  repeat' split
  all_goals simp

@[simp] theorem State.setPower_fixed (p : Power) (src : PowerSource) : (s.setPower p src).fixed = s.fixed := by
  unfold State.setPower
  simp

@[simp] theorem State.wakeFor_fixed (opcode : Byte) : (s.wakeFor opcode).fixed = s.fixed := by
  unfold State.wakeFor
  repeat' split
  all_goals simp

@[simp] theorem State.setCtx_fixed (fallback : Bool) (f : PageCtx → PageCtx) : (s.setCtx fallback f).fixed = s.fixed := by
  unfold State.setCtx
  simp

@[simp] theorem State.startEngine_fixed (k : EngineNo) : (s.startEngine k).fixed = s.fixed := by
  unfold State.startEngine
  dsimp only
  repeat' split
  all_goals simp

@[simp] theorem State.startEngines_fixed : (s.startEngines).fixed = s.fixed := by
  simp [State.startEngines, foldl_same State.fixed]

@[simp] theorem State.rolloutStep_fixed (id : PageId) : (s.rolloutStep id).fixed = s.fixed := by
  unfold State.rolloutStep
  repeat' split
  all_goals simp

@[simp] theorem State.drawFor_fixed (d : PageDesc) (kept : Option (BitVec 48 × BitVec 40)) : (s.drawFor d kept).1.fixed = s.fixed := by
  unfold State.drawFor
  repeat' split
  all_goals simp

@[simp] theorem State.bindStart_fixed (b : BoundStart) : (s.bindStart b).fixed = s.fixed := by
  unfold State.bindStart
  simp

@[simp] theorem State.bindFallback_fixed (n : TrigNo) (start : Nat) : (s.bindFallback n start).fixed = s.fixed := by
  unfold State.bindFallback
  repeat' split
  all_goals simp

@[simp] theorem State.giveUpStart_fixed (b : BoundStart) : (s.giveUpStart b).fixed = s.fixed := by
  unfold State.giveUpStart
  repeat' split
  all_goals simp

@[simp] theorem State.holdPage_fixed (q : QEntry) (reason : Nat) : (s.holdPage q reason).fixed = s.fixed := by
  unfold State.holdPage
  dsimp only
  repeat' split
  all_goals simp [foldl_same State.fixed]

@[simp] theorem State.sendFrom_fixed (id : PageId) : (s.sendFrom id).fixed = s.fixed := by
  unfold State.sendFrom
  simp

@[simp] theorem State.prepareQueue_fixed (q : QEntry) (m : NozzleMap) : (s.prepareQueue q m).fixed = s.fixed := by
  unfold State.prepareQueue
  dsimp only
  repeat' split
  all_goals simp

@[simp] theorem State.prepareFallback_fixed (m : NozzleMap) : (s.prepareFallback m).fixed = s.fixed := by
  unfold State.prepareFallback
  dsimp only
  repeat' split
  all_goals simp

@[simp] theorem State.shortfall_fixed (c : PageCtx) : (s.shortfall c).fixed = s.fixed := by
  unfold State.shortfall
  dsimp only
  repeat' split
  all_goals simp

@[simp] theorem State.enqueue_fixed (d : PageDesc) : (s.enqueue d).fixed = s.fixed := by
  unfold State.enqueue
  dsimp only
  repeat' split
  all_goals simp

@[simp] theorem State.commit_fixed (id : PageId) (rs : List BurstRead) : (s.commit id rs).1.fixed = s.fixed := by
  unfold State.commit
  dsimp only
  repeat' split
  all_goals simp

@[simp] theorem cmdPageCommit_fixed (x : Cmd) : (cmdPageCommit x s).1.fixed = s.fixed := by
  unfold cmdPageCommit
  dsimp only
  repeat' split
  all_goals simp

@[simp] theorem cmdPageCancel_fixed (x : Cmd) : (cmdPageCancel x s).1.fixed = s.fixed := by
  unfold cmdPageCancel
  dsimp only
  repeat' split
  all_goals simp

@[simp] theorem State.dropFallbackSerial_fixed : (s.dropFallbackSerial).fixed = s.fixed := by
  unfold State.dropFallbackSerial
  repeat' split
  all_goals simp

@[simp] theorem State.dropFallbackStarts_fixed : (s.dropFallbackStarts).fixed = s.fixed := by
  simp [State.dropFallbackStarts, foldl_same State.fixed]

@[simp] theorem State.dropFallbackBand_fixed : (s.dropFallbackBand).fixed = s.fixed := by
  unfold State.dropFallbackBand
  repeat' split
  all_goals simp

@[simp] theorem State.clearFallback_fixed : (s.clearFallback).fixed = s.fixed := by
  unfold State.clearFallback
  simp

@[simp] theorem cmdPageDelete_fixed (x : Cmd) : (cmdPageDelete x s).1.fixed = s.fixed := by
  unfold cmdPageDelete
  dsimp only
  repeat' split
  all_goals simp

@[simp] theorem cmdPageAbort_fixed (x : Cmd) : (cmdPageAbort x s).1.fixed = s.fixed := by
  unfold cmdPageAbort
  dsimp only
  repeat' split
  all_goals simp

@[simp] theorem cmdPageStatus_fixed (x : Cmd) : (cmdPageStatus x s).1.fixed = s.fixed := by
  unfold cmdPageStatus
  simp

@[simp] theorem cmdPageDefects_fixed (x : Cmd) : (cmdPageDefects x s).1.fixed = s.fixed := by
  unfold cmdPageDefects
  repeat' split
  all_goals simp

@[simp] theorem State.setFallback_fixed (d : PageDesc) : (s.setFallback d).fixed = s.fixed := by
  unfold State.setFallback
  dsimp only
  repeat' split
  all_goals simp

@[simp] theorem cmdFallbackSet_fixed (x : Cmd) : (cmdFallbackSet x s).1.fixed = s.fixed := by
  unfold cmdFallbackSet
  dsimp only
  repeat' split
  all_goals simp

@[simp] theorem State.startPrinting_fixed (mode : BitVec 4) (trig : Bool) (en : BitVec 4) (pos : Option Rat) : (s.startPrinting mode trig en pos).fixed = s.fixed := by
  unfold State.startPrinting
  simp

@[simp] theorem State.capsPassed_fixed : (s.capsPassed).fixed = s.fixed := by
  unfold State.capsPassed
  simp

@[simp] theorem cmdPrintStart_fixed (x : Cmd) : (cmdPrintStart x s).1.fixed = s.fixed := by
  unfold cmdPrintStart
  repeat' split
  all_goals simp

@[simp] theorem State.giveUpBounds_fixed : (s.giveUpBounds).fixed = s.fixed := by
  simp [State.giveUpBounds, foldl_same State.fixed]

@[simp] theorem State.stopPrinting_fixed (flush abort now : Bool) (at_ : Nat) : (s.stopPrinting flush abort now at_).fixed = s.fixed := by
  unfold State.stopPrinting
  dsimp only
  repeat' split
  all_goals simp [foldl_same State.fixed]

@[simp] theorem cmdPrintStop_fixed (x : Cmd) : (cmdPrintStop x s).1.fixed = s.fixed := by
  unfold cmdPrintStop
  repeat' split
  all_goals simp

@[simp] theorem State.encEvent_fixed (event : Nat) (k : EncNo) : (s.encEvent event k).fixed = s.fixed := by
  unfold State.encEvent
  split
  · exact foldl_same State.fixed _ (fun t x => by simp) _ _
  · rfl

@[simp] theorem State.token_fixed (base : Nat) (k : TokenKind) (n : Nat) (p : PortSent) (tf : Rat) (period : Nat) : (s.token base k n p tf period).1.fixed = s.fixed := by
  unfold State.token
  repeat' split
  all_goals simp

@[simp] theorem State.holdPort_fixed (base n : Nat) (p : PortSent) : (s.holdPort base n p).1.fixed = s.fixed := by
  unfold State.holdPort
  repeat' split
  all_goals simp

@[simp] theorem State.revisePort_fixed (base n : Nat) (p : PortSent) (tc tf : Rat) (period : Nat) : (s.revisePort base n p tc tf period).1.fixed = s.fixed := by
  unfold State.revisePort
  repeat' split
  all_goals simp

@[simp] theorem State.lateness_fixed (n : Nat) (late : Bool) (by_ : Rat) : (s.lateness n late by_).fixed = s.fixed := by
  unfold State.lateness
  repeat' split
  all_goals simp

/-- Going over the ports touches nothing that the step of each port does not. -/
theorem eachPort_fixed {f : State → PortSent → State × PortSent × Bool} (hf : ∀ t p, (f t p).1.fixed = t.fixed) (ps : List PortSent) :
    (eachPort f s ps).1.fixed = s.fixed :=
  foldl_same (fun p : State × List PortSent × Bool => p.1.fixed) _ (fun t p => hf _ _) _ _

@[simp] theorem State.reviseLine_fixed (l : AllocLine) (before : Option Rat) : (s.reviseLine l before).1.fixed = s.fixed := by
  unfold State.reviseLine
  dsimp only
  repeat' split
  all_goals simp [eachPort_fixed]

@[simp] theorem State.reviseLines_fixed : (s.reviseLines).fixed = s.fixed := by
  have h (l : List AllocLine) (t : State) : (l.foldl (fun (acc : State × List AllocLine) l =>
      let before := match acc.2.getLast? with | some p => if p.n + 1 = l.n then some p.fires else l.base | none => l.base
      let r := acc.1.reviseLine l before
      (r.1, acc.2 ++ [r.2])) (t, [])).1.fixed = t.fixed :=
    foldl_same (fun p : State × List AllocLine => p.1.fixed) _ (fun t x => by simp) _ _
  exact h _ _

@[simp] theorem State.retire_fixed : (s.retire).fixed = s.fixed := by
  simp [State.retire, foldl_same State.fixed]

@[simp] theorem State.fireLine_fixed (n : Nat) (nl : NextLine) (pl : Place) (tc tf : Rat) : (s.fireLine n nl pl tc tf).fixed = s.fixed := by
  simp [State.fireLine, eachPort_fixed]

@[simp] theorem State.allocate_fixed (nl : NextLine) (tc : Rat) : (s.allocate nl tc).fixed = s.fixed := by
  unfold State.allocate
  repeat' split
  all_goals simp

@[simp] theorem State.tryLine_fixed (nl : NextLine) : (s.tryLine nl).fixed = s.fixed := by
  unfold State.tryLine
  dsimp only
  repeat' split
  all_goals simp

@[simp] theorem State.tryIdle_fixed : (s.tryIdle).fixed = s.fixed := by
  unfold State.tryIdle
  dsimp only
  repeat' split
  all_goals simp

/-- A page that may start starts by operations that touch none of it. -/
theorem State.tryStart_fixed {s t : State} {q : QEntry} (h : s.tryStart q = some t) : t.fixed = s.fixed := by
  unfold State.tryStart at h
  dsimp only at h
  repeat' split at h
  all_goals simp at h
  all_goals subst h
  all_goals simp

@[simp] theorem State.tryAllocate_fixed : (s.tryAllocate).fixed = s.fixed := by
  unfold State.tryAllocate
  dsimp only
  split
  · rfl
  split
  · simp
  repeat' split
  on_goal 2 => next h => exact State.tryStart_fixed h
  all_goals simp

@[simp] theorem State.checkReversal_fixed (q : Rat) (down : Bool) : (s.checkReversal q down).fixed = s.fixed := by
  unfold State.checkReversal
  dsimp only
  repeat' split
  all_goals simp

@[simp] theorem State.disagree_fixed (survivor : EncNo) (reason : Nat) (d : Rat) : (s.disagree survivor reason d).fixed = s.fixed := by
  unfold State.disagree
  repeat' split
  all_goals simp

@[simp] theorem State.faultOpens_fixed (k : EncNo) : (s.faultOpens k).fixed = s.fixed := by
  unfold State.faultOpens
  repeat' split
  all_goals simp

@[simp] theorem State.crossCheck_fixed : (s.crossCheck).fixed = s.fixed := by
  unfold State.crossCheck
  dsimp only
  repeat' split
  all_goals simp

@[simp] theorem State.switchEncoder_fixed : (s.switchEncoder).fixed = s.fixed := by
  unfold State.switchEncoder
  repeat' split
  all_goals simp

@[simp] theorem State.sendStatus_fixed : (s.sendStatus).fixed = s.fixed := by
  unfold State.sendStatus
  split
  · rfl
  · exact foldl_same State.fixed _ (fun t x => by split <;> simp) _ _

@[simp] theorem State.announce_fixed (c : BitVec 32) : (s.announce c).fixed = s.fixed := by
  unfold State.announce
  repeat' split
  all_goals simp

@[simp] theorem State.sawClaim_fixed (c : BitVec 32) : (s.sawClaim c).fixed = s.fixed := by
  unfold State.sawClaim
  simp

@[simp] theorem State.takeClaim_fixed (c : BitVec 32) : (s.takeClaim c).fixed = s.fixed := by
  unfold State.takeClaim
  simp

@[simp] theorem State.claimCheck_fixed : (s.claimCheck).fixed = s.fixed := by
  unfold State.claimCheck
  repeat' split
  all_goals simp

@[simp] theorem State.releaseCheck_fixed : (s.releaseCheck).fixed = s.fixed := by
  unfold State.releaseCheck
  repeat' split
  all_goals simp

@[simp] theorem State.waveAnswer_fixed (o : Origin) (tag : BitVec 5) : (s.waveAnswer o tag).fixed = s.fixed := by
  unfold State.waveAnswer
  repeat' split
  all_goals simp

@[simp] theorem State.waveEnd_fixed (p : HeadPort) (w : WaveLoad) (reason : Nat) : (s.waveEnd p w reason).fixed = s.fixed := by
  unfold State.waveEnd
  repeat' split
  all_goals simp

@[simp] theorem State.headCaps_fixed (p : HeadPort) : (s.headCaps p).fixed = s.fixed := by
  unfold State.headCaps
  simp

@[simp] theorem State.headLeft_fixed (p : HeadPort) : (s.headLeft p).fixed = s.fixed := by
  simp [State.headLeft, foldl_same State.fixed]

@[simp] theorem State.judgeNow_fixed (p : HeadPort) : (s.judgeNow p).fixed = s.fixed := by
  unfold State.judgeNow
  repeat' split
  all_goals simp

@[simp] theorem State.headUp_fixed (p : HeadPort) : (s.headUp p).fixed = s.fixed := by
  unfold State.headUp
  repeat' split
  all_goals simp

@[simp] theorem State.headReady_fixed (p : HeadPort) : (s.headReady p).fixed = s.fixed := by
  unfold State.headReady
  dsimp only
  repeat' split
  all_goals simp

@[simp] theorem State.readyCheck_fixed : (s.readyCheck).fixed = s.fixed := by
  unfold State.readyCheck
  dsimp only
  repeat' split
  all_goals simp

@[simp] theorem State.agreeReport_fixed (p : HeadPort) (n : Nat) (agree : Bool) : (s.agreeReport p n agree).fixed = s.fixed := by
  unfold State.agreeReport
  dsimp only
  repeat' split
  all_goals simp

@[simp] theorem State.silentReport_fixed (p : HeadPort) (n : Nat) (fired : Bool) (reason : Nat) : (s.silentReport p n fired reason).fixed = s.fixed := by
  unfold State.silentReport
  dsimp only
  repeat' split
  all_goals simp

@[simp] theorem State.setEnc_fixed (k : EncNo) (f : EncState → EncState) : (s.setEnc k f).fixed = s.fixed := by
  unfold State.setEnc
  simp

@[simp] theorem State.discardSample_fixed (k : EncNo) (high : Bool) : (s.discardSample k high).fixed = s.fixed := by
  unfold State.discardSample
  repeat' split
  all_goals simp

@[simp] theorem State.acceptSample_fixed (k : EncNo) (p : Int × Int) (up : Bool) : (s.acceptSample k p up).fixed = s.fixed := by
  unfold State.acceptSample
  dsimp only
  repeat' split
  all_goals simp

@[simp] theorem State.badQuadrature_fixed (k : EncNo) : (s.badQuadrature k).fixed = s.fixed := by
  unfold State.badQuadrature
  dsimp only
  repeat' split
  all_goals simp

@[simp] theorem State.judgeIndex_fixed (k : EncNo) (ahead : Int) : (s.judgeIndex k ahead).fixed = s.fixed := by
  unfold State.judgeIndex
  dsimp only
  repeat' split
  all_goals simp

@[simp] theorem State.aligned_fixed (k : EncNo) (method : Nat) (off : Int) : (s.aligned k method off).fixed = s.fixed := by
  unfold State.aligned
  repeat' split
  all_goals simp

@[simp] theorem State.ownIndex_fixed (k : EncNo) (count : Int) : (s.ownIndex k count).fixed = s.fixed := by
  unfold State.ownIndex
  dsimp only
  repeat' split
  all_goals simp

@[simp] theorem State.relayStep_fixed (k : EncNo) : (s.relayStep k).fixed = s.fixed := by
  unfold State.relayStep
  dsimp only
  repeat' split
  all_goals simp

@[simp] theorem State.relayLow_fixed (k : EncNo) (e : EncState) : (s.relayLow k e).fixed = s.fixed := by
  unfold State.relayLow
  repeat' split
  all_goals simp

@[simp] theorem State.putEncoder_fixed (e : Entry) : (s.putEncoder e).fixed = s.fixed := by
  unfold State.putEncoder
  repeat' split
  all_goals simp

@[simp] theorem State.openChan_fixed (n : NodeNo) : (s.openChan n).fixed = s.fixed := by
  unfold State.openChan
  repeat' split
  all_goals simp

@[simp] theorem State.postPeer_fixed (n : NodeNo) (opcode : Byte) (arg : BitVec 48) (asker : Option Cmd) (slot : Option Nat) : (s.postPeer n opcode arg asker slot).fixed = s.fixed := by
  unfold State.postPeer
  repeat' split
  all_goals simp

@[simp] theorem State.sendReport_fixed (n : NodeNo) : (s.sendReport n).fixed = s.fixed := by
  unfold State.sendReport
  repeat' split
  all_goals simp

@[simp] theorem State.sendReports_fixed (n : NodeNo) : (s.sendReports n).fixed = s.fixed := by
  simp [State.sendReports, foldl_same State.fixed]

@[simp] theorem State.report_fixed (n : NodeNo) (slot : Nat) (args : List (BitVec 48)) : (s.report n slot args).fixed = s.fixed := by
  unfold State.report
  dsimp only
  repeat' split
  all_goals simp

@[simp] theorem State.reportLost_fixed (slot : Nat) (n : NodeNo) : (s.reportLost slot n).fixed = s.fixed := by
  unfold State.reportLost
  simp

@[simp] theorem State.fabErr_fixed (p : FabPort) : (s.fabErr p).fixed = s.fixed := by
  unfold State.fabErr
  simp

@[simp] theorem State.announceAll_fixed : (s.announceAll).fixed = s.fixed := by
  unfold State.announceAll
  dsimp only
  split
  · split <;> simp
  · rw [foldl_same State.fixed _ (fun t x => by split <;> simp)]
    split <;> simp

@[simp] theorem State.keepReport_fixed (r : NodeReport) : (s.keepReport r).fixed = s.fixed := by
  unfold State.keepReport
  simp

@[simp] theorem State.sendFabReport_fixed : (s.sendFabReport).fixed = s.fixed := by
  unfold State.sendFabReport
  repeat' split
  all_goals simp

@[simp] theorem State.reelect_fixed : (s.reelect).fixed = s.fixed := by
  unfold State.reelect
  dsimp only
  repeat' split
  all_goals simp

@[simp] theorem State.portsChanged_fixed : (s.portsChanged).fixed = s.fixed := by
  unfold State.portsChanged
  dsimp only
  repeat' split
  all_goals simp

@[simp] theorem State.fabUpLane_fixed (p : FabPort) : (s.fabUpLane p).fixed = s.fixed := by
  unfold State.fabUpLane
  simp

@[simp] theorem State.fabLeft_fixed (p : FabPort) : (s.fabLeft p).fixed = s.fixed := by
  simp [State.fabLeft, foldl_same State.fixed]

@[simp] theorem State.sendFabCaps_fixed (p : FabPort) (seen : Bool) : (s.sendFabCaps p seen).fixed = s.fixed := by
  unfold State.sendFabCaps
  simp

@[simp] theorem State.fabCapsStart_fixed (p : FabPort) : (s.fabCapsStart p).fixed = s.fixed := by
  unfold State.fabCapsStart
  simp

@[simp] theorem State.takeNumber_fixed (n : NodeNo) : (s.takeNumber n).fixed = s.fixed := by
  unfold State.takeNumber
  dsimp only
  repeat' split
  all_goals simp

@[simp] theorem State.learnAssign_fixed (id : Word) (n : NodeNo) : (s.learnAssign id n).fixed = s.fixed := by
  unfold State.learnAssign
  repeat' split
  all_goals simp

@[simp] theorem State.holdNumbers_fixed (rs : List NodeReport) (m : List (Word × NodeNo)) : (s.holdNumbers rs m).fixed = s.fixed := by
  unfold State.holdNumbers
  simp

@[simp] theorem State.assignAll_fixed (m : List (Word × NodeNo)) : (s.assignAll m).fixed = s.fixed := by
  refine foldl_same State.fixed _ (fun t x => ?_) _ _
  split
  · rfl
  · simp [foldl_same State.fixed]

@[simp] theorem State.applyTable_fixed (gen : BitVec 32) (table : List Word) : (s.applyTable gen table).fixed = s.fixed := by
  unfold State.applyTable
  simp

@[simp] theorem State.sendTable_fixed (g : RouteGrant) : (s.sendTable g).fixed = s.fixed := by
  unfold State.sendTable
  split
  · exact foldl_same State.fixed _ (fun t x => by simp) _ _
  · rfl

@[simp] theorem State.grantTable_fixed (gen : BitVec 32) (m : List (Word × NodeNo)) (id : Word) : (s.grantTable gen m id).fixed = s.fixed := by
  unfold State.grantTable
  dsimp only
  repeat' split
  all_goals simp

@[simp] theorem State.computeRoutes_fixed : (s.computeRoutes).fixed = s.fixed := by
  unfold State.computeRoutes
  dsimp only
  rw [foldl_same State.fixed _ (fun t x => by simp), foldl_same State.fixed _ (fun t x => by split <;> simp)]
  simp

@[simp] theorem State.dropChan_fixed (n : NodeNo) (st : Code) (result : Nat) : (s.dropChan n st result).fixed = s.fixed := by
  unfold State.dropChan
  split
  · rfl
  · dsimp only
    rw [foldl_same State.fixed _ (fun t x => by split <;> simp)]
    simp

@[simp] theorem State.abortChan_fixed (n : NodeNo) (cause : Nat) : (s.abortChan n cause).fixed = s.fixed := by
  unfold State.abortChan
  simp

@[simp] theorem State.closeChan_fixed (n : NodeNo) : (s.closeChan n).fixed = s.fixed := by
  unfold State.closeChan
  simp

@[simp] theorem State.mailAck_fixed (n : NodeNo) (status : Nat) (seq : Byte) (session : BitVec 32) : (s.mailAck n status seq session).fixed = s.fixed := by
  unfold State.mailAck
  simp

@[simp] theorem State.laneLeft_fixed (n : LaneNo) (was : LaneState) : (s.laneLeft n was).fixed = s.fixed := by
  unfold State.laneLeft
  repeat' split
  all_goals simp

@[simp] theorem State.laneTrain_fixed (n : LaneNo) : (s.laneTrain n).fixed = s.fixed := by
  unfold State.laneTrain
  simp

@[simp] theorem State.laneDetect_fixed (n : LaneNo) : (s.laneDetect n).fixed = s.fixed := by
  unfold State.laneDetect
  simp

@[simp] theorem State.laneFail_fixed (n : LaneNo) (cause : Nat) : (s.laneFail n cause).fixed = s.fixed := by
  unfold State.laneFail
  dsimp only
  repeat' split
  all_goals simp

@[simp] theorem State.laneCaps_fixed (n : LaneNo) : (s.laneCaps n).fixed = s.fixed := by
  unfold State.laneCaps
  repeat' split
  all_goals simp

@[simp] theorem State.lockBlocks_fixed (n : LaneNo) (inv : Bool) (st count : Nat) : (s.lockBlocks n inv st count).fixed = s.fixed := by
  unfold State.lockBlocks
  dsimp only
  repeat' split
  all_goals simp

@[simp] theorem State.loopAnswer_fixed (n : LaneNo) (r : LoopbackResult) : (s.loopAnswer n r).fixed = s.fixed := by
  unfold State.loopAnswer
  repeat' split
  all_goals simp

@[simp] theorem cmdLaneControl_fixed (x : Cmd) : (cmdLaneControl x s).1.fixed = s.fixed := by
  unfold cmdLaneControl
  dsimp only
  repeat' split
  all_goals simp

@[simp] theorem cmdLoopback_fixed (x : Cmd) : (cmdLoopback x s).1.fixed = s.fixed := by
  unfold cmdLoopback
  dsimp only
  repeat' split
  all_goals simp

@[simp] theorem State.setRate_fixed (rate : Int) : (s.setRate rate).fixed = s.fixed := by
  unfold State.setRate
  simp

@[simp] theorem State.stepTime_fixed (n : Int) : (s.stepTime n).fixed = s.fixed := by
  unfold State.stepTime
  repeat' split
  all_goals simp

@[simp] theorem State.masterCheck_fixed : (s.masterCheck).fixed = s.fixed := by
  unfold State.masterCheck
  repeat' split
  all_goals simp

@[simp] theorem State.setCmp_fixed (n : CmpNo) (f : CmpTrigger → CmpTrigger) : (s.setCmp n f).fixed = s.fixed := by
  unfold State.setCmp
  simp

@[simp] theorem State.takeFrame_fixed (kind : Nat) (data : List Word) : (s.takeFrame kind data).fixed = s.fixed := by
  unfold State.takeFrame
  repeat' split
  all_goals simp

@[simp] theorem State.frameGoes_fixed (p : FabPort) (f : FabFrame) (cls : Fin 4) (fate : FrameFate) (bad : Bool) : (s.frameGoes p f cls fate bad).fixed = s.fixed := by
  unfold State.frameGoes
  dsimp only
  repeat' split
  all_goals simp [foldl_same State.fixed]

@[simp] theorem State.fabReady_fixed (p : FabPort) : (s.fabReady p).fixed = s.fixed := by
  unfold State.fabReady
  simp

@[simp] theorem State.replaceSession_fixed (n : NodeNo) (k : FabChannel) (session : BitVec 32) : (s.replaceSession n k session).fixed = s.fixed := by
  simp only [State.replaceSession, State.raiseF_fixed]
  rw [foldl_same State.fixed _ (fun t x => by split <;> simp)]
  simp

@[simp] theorem State.endBulk_fixed (n : NodeNo) (x : Nat) : (s.endBulk n x).fixed = s.fixed := by
  unfold State.endBulk
  simp

@[simp] theorem State.peerResponse_fixed (n : NodeNo) (p : PeerPost) (w : Word) : (s.peerResponse n p w).fixed = s.fixed := by
  unfold State.peerResponse
  dsimp only
  repeat' split
  all_goals simp

@[simp] theorem State.deliverWord_fixed (n : NodeNo) (k : FabChannel) (w : Word) : (s.deliverWord n k w).fixed = s.fixed := by
  unfold State.deliverWord
  dsimp only
  repeat' split
  all_goals simp

@[simp] theorem cmdPeerPost_fixed (x : Cmd) : (cmdPeerPost x s).1.fixed = s.fixed := by
  unfold cmdPeerPost
  dsimp only
  repeat' split
  all_goals simp

@[simp] theorem cmdPeerClose_fixed (x : Cmd) : (cmdPeerClose x s).1.fixed = s.fixed := by
  unfold cmdPeerClose
  dsimp only
  repeat' split
  all_goals simp

@[simp] theorem State.setAxis_fixed (a : AxisNo) (f : AxisState → AxisState) : (s.setAxis a f).fixed = s.fixed := by
  unfold State.setAxis
  simp

@[simp] theorem State.limitStop_fixed (a : AxisNo) (cause : Nat) : (s.limitStop a cause).fixed = s.fixed := by
  unfold State.limitStop
  dsimp only
  repeat' split
  all_goals simp

@[simp] theorem State.abortHome_fixed (a : AxisNo) : (s.abortHome a).fixed = s.fixed := by
  unfold State.abortHome
  repeat' split
  all_goals simp

@[simp] theorem cmdMove_fixed (x : Cmd) : (cmdMove x s).1.fixed = s.fixed := by
  unfold cmdMove
  dsimp only
  repeat' split
  all_goals simp

@[simp] theorem cmdStop_fixed (x : Cmd) : (cmdStop x s).1.fixed = s.fixed := by
  unfold cmdStop
  dsimp only
  repeat' split
  all_goals simp

@[simp] theorem State.homeSeek_fixed (a : AxisNo) : (s.homeSeek a).fixed = s.fixed := by
  unfold State.homeSeek
  repeat' split
  all_goals simp

@[simp] theorem cmdHome_fixed (x : Cmd) : (cmdHome x s).1.fixed = s.fixed := by
  unfold cmdHome
  dsimp only
  repeat' split
  all_goals simp

@[simp] theorem State.homeDone_fixed (a : AxisNo) (latched : Int) : (s.homeDone a latched).fixed = s.fixed := by
  unfold State.homeDone
  simp

@[simp] theorem State.afterMove_fixed (a : AxisNo) : (s.afterMove a).fixed = s.fixed := by
  unfold State.afterMove
  dsimp only
  repeat' split
  all_goals simp

@[simp] theorem State.startNext_fixed (a : AxisNo) : (s.startNext a).fixed = s.fixed := by
  unfold State.startNext
  dsimp only
  repeat' split
  all_goals simp

@[simp] theorem State.limitHit_fixed (a : AxisNo) (sw : SwitchNo) (level : Bool) : (s.limitHit a sw level).fixed = s.fixed := by
  unfold State.limitHit
  dsimp only
  repeat' split
  all_goals simp

@[simp] theorem State.homeEdge_fixed (a : AxisNo) (sw : SwitchNo) (p : Int) : (s.homeEdge a sw p).fixed = s.fixed := by
  unfold State.homeEdge
  dsimp only
  repeat' split
  all_goals simp

@[simp] theorem State.drewN_fixed (n : Nat) : (s.drewN n).fixed = s.fixed := by
  unfold State.drewN
  simp

@[simp] theorem State.loadAnswer_fixed (r : LoadReq) (st : Code) (result : Nat) : (s.loadAnswer r st result).fixed = s.fixed := by
  unfold State.loadAnswer
  simp

@[simp] theorem State.loadFails_fixed (r : LoadReq) (id : Nat) (c : Code) (extra : Nat) (reason : Option Nat) : (s.loadFails r id c extra reason).fixed = s.fixed := by
  unfold State.loadFails
  repeat' split
  all_goals simp

@[simp] theorem State.endTransfer_fixed (r : LoadReq) : (s.endTransfer r).fixed = s.fixed := by
  unfold State.endTransfer
  repeat' split
  all_goals simp

@[simp] theorem State.freeSlot_fixed (k : SlotNo) : (s.freeSlot k).fixed = s.fixed := by
  unfold State.freeSlot
  repeat' split
  all_goals simp

@[simp] theorem State.flightId_fixed (f : Flight) : (s.flightId f).1.fixed = s.fixed := by
  unfold State.flightId
  repeat' split
  all_goals simp

@[simp] theorem State.discardFlight_fixed (k : SlotNo) (f : Flight) (c : Code) (extra : Nat) : (s.discardFlight k f c extra).fixed = s.fixed := by
  unfold State.discardFlight
  simp

@[simp] theorem State.endSession_fixed (n : Chan) : (s.endSession n).fixed = s.fixed := by
  unfold State.endSession
  split
  · rfl
  · rw [foldl_same State.fixed _ (fun t x => ?_)]
    · simp
    · repeat' split
      all_goals simp

@[simp] theorem State.publishLayer_fixed (v : Verified) (alloc : Nat × Nat) : (s.publishLayer v alloc).fixed = s.fixed := by
  unfold State.publishLayer
  dsimp only
  repeat' split
  all_goals simp [foldl_same State.fixed]

@[simp] theorem State.publishPage_fixed (d : PageDesc) : (s.publishPage d).fixed = s.fixed := by
  unfold State.publishPage
  simp

@[simp] theorem State.publishSection_fixed (x : Section) : (s.publishSection x).fixed = s.fixed := by
  unfold State.publishSection
  repeat' split
  all_goals simp

@[simp] theorem State.keepObject_fixed (old : ObjKey → Bool) (k : ObjKey) (ws : List Word) : (s.keepObject old k ws).fixed = s.fixed := by
  unfold State.keepObject
  simp

@[simp] theorem State.keepParcel_fixed (v : Verified) : (s.keepParcel v).fixed = s.fixed := by
  unfold State.keepParcel
  repeat' split
  all_goals simp

@[simp] theorem State.publishContent_fixed (v : Verified) : (s.publishContent v).fixed = s.fixed := by
  unfold State.publishContent
  dsimp only
  repeat' split
  all_goals simp [foldl_same State.fixed]

@[simp] theorem State.loadVerified_fixed (v : Verified) : (s.loadVerified v).fixed = s.fixed := by
  unfold State.loadVerified
  simp

@[simp] theorem State.queueMirror_fixed (v : Verified) : (s.queueMirror v).fixed = s.fixed := by
  unfold State.queueMirror
  repeat' split
  all_goals simp

@[simp] theorem State.openSession_fixed (x : Cmd) (n : Chan) : (s.openSession x n).1.fixed = s.fixed := by
  unfold State.openSession
  dsimp only
  split
  · exact (State.fixed_updateSec ..).trans (by simp)
  · simp

@[simp] theorem State.serveOpen_fixed (w : Chan × Cmd) : (s.serveOpen w).fixed = s.fixed := by
  unfold State.serveOpen
  dsimp only
  split
  · rfl
  split
  · simp
  have h := State.openSession_fixed { s with sec := { s.sec with openWaits := s.sec.openWaits.erase w } } w.2 w.1
  split <;> next heq => simpa [heq] using h

@[simp] theorem State.serveOpens_fixed : (s.serveOpens).fixed = s.fixed := by
  simp [State.serveOpens, foldl_same State.fixed]

@[simp] theorem State.post_fixed (ch : Chan) (w : Word) : (s.post ch w).fixed = s.fixed := by
  unfold State.post
  repeat' split
  all_goals simp

@[simp] theorem State.serveEngines_fixed : (s.serveEngines).fixed = s.fixed := by
  unfold State.serveEngines
  simp

@[simp] theorem State.clearIn_fixed (ch : Chan) : (s.clearIn ch).fixed = s.fixed := by
  unfold State.clearIn
  repeat' split
  all_goals simp

@[simp] theorem State.hostEndReset_fixed (ch : Chan) : (s.hostEndReset ch).fixed = s.fixed := by
  unfold State.hostEndReset
  dsimp only
  repeat' split
  all_goals simp

@[simp] theorem State.endParcelReads_fixed : (s.endParcelReads).fixed = s.fixed := by
  refine foldl_same State.fixed _ (fun t x => ?_) _ _
  repeat' split
  all_goals simp

@[simp] theorem State.functionReset_fixed : (s.functionReset).fixed = s.fixed := by
  simp [State.functionReset, foldl_same State.fixed]

@[simp] theorem State.writeMask_fixed (m : BitVec 19) : (s.writeMask m).fixed = s.fixed := by
  unfold State.writeMask
  dsimp only
  rw [foldl_same State.fixed _ (fun t x => by split <;> simp)]
  simp

@[simp] theorem State.writeMsix_fixed (o : Nat) (wide : Bool) (v : Word) : (s.writeMsix o wide v).fixed = s.fixed := by
  unfold State.writeMsix
  split
  · rfl
  · rw [State.releaseMsix_fixed, State.fixed_update]

@[simp] theorem State.writeHmb_fixed (ch : Chan) (o : Nat) (wide : Bool) (v : Word) : (s.writeHmb ch o wide v).fixed = s.fixed := by
  unfold State.writeHmb
  repeat' split
  all_goals simp

@[simp] theorem State.writeBar0_fixed (o : Nat) (wide : Bool) (v : Word) : (s.writeBar0 o wide v).fixed = s.fixed := by
  unfold State.writeBar0
  repeat' split
  all_goals simp

@[simp] theorem State.putNozzle_fixed (n : Nozzle) (r : NozzleRec) : (s.putNozzle n r).fixed = s.fixed := by
  unfold State.putNozzle
  simp

@[simp] theorem State.nozzleEvent_fixed (n : Nozzle) (old new : NozzleState) (cause : Nat) : (s.nozzleEvent n old new cause).fixed = s.fixed := by
  unfold State.nozzleEvent
  repeat' split
  all_goals simp

@[simp] theorem State.strike_fixed (n : Nozzle) (v : Verdict) : (s.strike n v).fixed = s.fixed := by
  unfold State.strike
  dsimp only
  repeat' split
  all_goals simp

@[simp] theorem State.calStrip_fixed (m : NozzleMap) (g : CamPage) (uncertain : Bool) (js : List (Nozzle × Verdict × Rat)) (r : CalRun) : (s.calStrip m g uncertain js r).fixed = s.fixed := by
  unfold State.calStrip
  repeat' split
  all_goals simp

@[simp] theorem State.sendSlot_fixed (slot : Nat) (js : List (StripSignal × Verdict × Rat)) : (s.sendSlot slot js).fixed = s.fixed := by
  unfold State.sendSlot
  dsimp only
  repeat' split
  all_goals simp [foldl_same State.fixed]

@[simp] theorem State.ownSlot_fixed (m : NozzleMap) (g : CamPage) (uncertain : Bool) (js : List (StripSignal × Verdict × Rat)) : (s.ownSlot m g uncertain js).fixed = s.fixed := by
  unfold State.ownSlot
  dsimp only
  repeat' split
  all_goals simp [foldl_same State.fixed]

@[simp] theorem State.judgeStrip_fixed (g : CamPage) (r : StatsRec) (k : StripGather) : (s.judgeStrip g r k).fixed = s.fixed := by
  unfold State.judgeStrip
  split
  · rfl
  · refine foldl_same State.fixed _ (fun t x => ?_) _ _
    dsimp only
    split <;> simp

@[simp] theorem State.gatherStrip_fixed (p : CamNo) (r : StatsRec) : (s.gatherStrip p r).fixed = s.fixed := by
  unfold State.gatherStrip
  dsimp only
  repeat' split
  all_goals simp

@[simp] theorem State.camFail_fixed (p : CamNo) (reason : Nat) : (s.camFail p reason).fixed = s.fixed := by
  unfold State.camFail
  dsimp only
  repeat' split
  all_goals simp

@[simp] theorem State.camLeft_fixed (p : CamNo) : (s.camLeft p).fixed = s.fixed := by
  simp [State.camLeft, foldl_same State.fixed]

@[simp] theorem State.camWriteDone_fixed (p : CamNo) : (s.camWriteDone p).fixed = s.fixed := by
  unfold State.camWriteDone
  simp

@[simp] theorem State.camLockCount_fixed (p : CamNo) : (s.camLockCount p).fixed = s.fixed := by
  unfold State.camLockCount
  simp

@[simp] theorem State.camFrameErr_fixed (p : CamNo) : (s.camFrameErr p).fixed = s.fixed := by
  unfold State.camFrameErr
  simp

@[simp] theorem State.camCorrupt_fixed (p : CamNo) (cause : Nat) : (s.camCorrupt p cause).fixed = s.fixed := by
  unfold State.camCorrupt
  repeat' split
  all_goals simp

@[simp] theorem State.pipeline_fixed (p : CamNo) (f : Frame) (im : Int) (samples : List (BitVec 12)) (poisoned : Bool) : (s.pipeline p f im samples poisoned).fixed = s.fixed := by
  unfold State.pipeline
  simp

@[simp] theorem State.camTimeStart_fixed (n : CmpNo) : (s.camTimeStart n).fixed = s.fixed := by
  refine foldl_same State.fixed _ (fun t x => ?_) _ _
  dsimp only
  repeat' split
  all_goals simp

@[simp] theorem State.tapToken_fixed (p : CamNo) (k : Fin 4) : (s.tapToken p k).fixed = s.fixed := by
  unfold State.tapToken
  dsimp only
  repeat' split
  all_goals simp

@[simp] theorem State.streaks_fixed (p : CamNo) (r : StatsRec) : (s.streaks p r).fixed = s.fixed := by
  simp [State.streaks, foldl_same State.fixed]

@[simp] theorem cmdStatsRead_fixed (x : Cmd) : (cmdStatsRead x s).1.fixed = s.fixed := by
  unfold cmdStatsRead
  dsimp only
  repeat' split
  all_goals simp

@[simp] theorem cmdStatsRelease_fixed (x : Cmd) : (cmdStatsRelease x s).1.fixed = s.fixed := by
  unfold cmdStatsRelease
  dsimp only
  repeat' split
  all_goals simp

@[simp] theorem State.copyBlocks_fixed (x : Cmd) (i : Nat) (region : Nat) (blocks : List (List Word)) (ok : Nat) : (s.copyBlocks x i region blocks ok).1.fixed = s.fixed := by
  unfold State.copyBlocks
  dsimp only
  repeat' split
  all_goals simp

@[simp] theorem cmdTapRead_fixed (x : Cmd) : (cmdTapRead x s).1.fixed = s.fixed := by
  unfold cmdTapRead
  dsimp only
  repeat' split
  all_goals simp

@[simp] theorem cmdTapRelease_fixed (x : Cmd) : (cmdTapRelease x s).1.fixed = s.fixed := by
  unfold cmdTapRelease
  dsimp only
  repeat' split
  all_goals simp

@[simp] theorem State.camEnable_fixed (p : CamNo) : (s.camEnable p).fixed = s.fixed := by
  unfold State.camEnable
  dsimp only
  repeat' split
  all_goals simp

@[simp] theorem State.camLanes_fixed (p : CamNo) : (s.camLanes p).fixed = s.fixed := by
  unfold State.camLanes
  repeat' split
  all_goals simp

@[simp] theorem State.camPut_fixed (e : Entry) : (s.camPut e).fixed = s.fixed := by
  unfold State.camPut
  repeat' split
  all_goals simp

@[simp] theorem cmdCameraCommit_fixed (x : Cmd) : (cmdCameraCommit x s).1.fixed = s.fixed := by
  unfold cmdCameraCommit
  simp

@[simp] theorem cmdParcelLoad_fixed (x : Cmd) : (cmdParcelLoad x s).1.fixed = s.fixed := by
  unfold cmdParcelLoad
  repeat' split
  all_goals simp

@[simp] theorem cmdParcelTimeout_fixed (x : Cmd) : (cmdParcelTimeout x s).1.fixed = s.fixed := by
  unfold cmdParcelTimeout
  dsimp only
  repeat' split
  all_goals simp

@[simp] theorem cmdStoreInfo_fixed (z0 : Cmd) : (cmdStoreInfo z0 s).1.fixed = s.fixed := by
  unfold cmdStoreInfo
  simp

@[simp] theorem cmdLayerDelete_fixed (x : Cmd) : (cmdLayerDelete x s).1.fixed = s.fixed := by
  unfold cmdLayerDelete
  dsimp only
  repeat' split
  all_goals simp

@[simp] theorem cmdGeneratorDefine_fixed (x : Cmd) : (cmdGeneratorDefine x s).1.fixed = s.fixed := by
  unfold cmdGeneratorDefine
  dsimp only
  repeat' split
  all_goals simp

@[simp] theorem cmdGeneratorDelete_fixed (x : Cmd) : (cmdGeneratorDelete x s).1.fixed = s.fixed := by
  unfold cmdGeneratorDelete
  dsimp only
  repeat' split
  all_goals simp

@[simp] theorem State.startLoad_fixed (k : SlotNo) (r : LoadReq) : (s.startLoad k r).fixed = s.fixed := by
  unfold State.startLoad
  repeat' split
  all_goals simp

@[simp] theorem State.placeFrame_fixed (src : NodeNo) (words : List Word) : (s.placeFrame src words).fixed = s.fixed := by
  unfold State.placeFrame
  simp

@[simp] theorem State.placeHeld_fixed : (s.placeHeld).fixed = s.fixed := by
  unfold State.placeHeld
  dsimp only
  repeat' split
  all_goals simp [foldl_same State.fixed]

@[simp] theorem cmdBulkOffer_fixed (x : Cmd) : (cmdBulkOffer x s).1.fixed = s.fixed := by
  unfold cmdBulkOffer
  simp

@[simp] theorem State.takeHeader_fixed (k : SlotNo) (f : Flight) (h : List Word) : (s.takeHeader k f h).fixed = s.fixed := by
  unfold State.takeHeader
  repeat' split
  all_goals simp

@[simp] theorem State.stage_fixed (f : Flight) (h : List Word) (i n : Nat) : (s.stage f h i n).1.fixed = s.fixed := by
  unfold State.stage
  simp

@[simp] theorem State.advanceSeq_fixed (r : LoadReq) (h : List Word) : (s.advanceSeq r h).fixed = s.fixed := by
  unfold State.advanceSeq
  repeat' split
  all_goals simp

@[simp] theorem State.checkTag_fixed (k : SlotNo) (f : Flight) (h : List Word) : (s.checkTag k f h).fixed = s.fixed := by
  unfold State.checkTag
  dsimp only
  repeat' split
  all_goals simp

@[simp] theorem State.sendBulk_fixed (b : BulkOut) : (s.sendBulk b).fixed = s.fixed := by
  simp [State.sendBulk, foldl_same State.fixed]

@[simp] theorem State.offerMirror_fixed (k : PairKey) (p : List Word) : (s.offerMirror k p).fixed = s.fixed := by
  unfold State.offerMirror
  simp

@[simp] theorem State.mirrorRead_fixed (p : List Word) : (s.mirrorRead p).fixed = s.fixed := by
  unfold State.mirrorRead
  simp

@[simp] theorem cmdIdentityRead_fixed (x : Cmd) : (cmdIdentityRead x s).1.fixed = s.fixed := by
  unfold cmdIdentityRead
  simp

@[simp] theorem cmdSessionOpen_fixed (x : Cmd) : (cmdSessionOpen x s).1.fixed = s.fixed := by
  unfold cmdSessionOpen
  repeat' split
  all_goals simp

@[simp] theorem cmdSessionClose_fixed (x : Cmd) : (cmdSessionClose x s).1.fixed = s.fixed := by
  unfold cmdSessionClose
  repeat' split
  all_goals simp

@[simp] theorem State.installPair_fixed (pk : BitVec 256) (id : BitVec 32) : (s.installPair pk id).fixed = s.fixed := by
  simp [State.installPair, SecPart.restartLog]

@[simp] theorem cmdPairKeyEstablish_fixed (x : Cmd) : (cmdPairKeyEstablish x s).1.fixed = s.fixed := by
  unfold cmdPairKeyEstablish
  dsimp only
  repeat' split
  all_goals simp

@[simp] theorem cmdSerialJobOpen_fixed (x : Cmd) : (cmdSerialJobOpen x s).1.fixed = s.fixed := by
  unfold cmdSerialJobOpen
  dsimp only
  repeat' split
  all_goals simp

@[simp] theorem cmdSerialJobClose_fixed (x : Cmd) : (cmdSerialJobClose x s).1.fixed = s.fixed := by
  unfold cmdSerialJobClose
  dsimp only
  repeat' split
  all_goals simp

@[simp] theorem State.readUntil_fixed (i : Nat) (gs : List (List BurstRead)) : (s.readUntil i gs).1.fixed = s.fixed := by
  induction gs generalizing s i with
  | nil => rfl
  | cons g gs ih =>
    unfold State.readUntil
    dsimp only
    split <;> simp [ih]

@[simp] theorem State.exportReads_fixed (start : Nat) (bs : List (Nat × List Word)) (rs : List BurstRead) : (s.exportReads start bs rs).1.fixed = s.fixed := by
  simp [State.exportReads]

@[simp] theorem State.endExport_fixed (x : Cmd) (start : Nat) (bs : List (Nat × List Word)) : (s.endExport x start bs).1.fixed = s.fixed := by
  have h (r : State) (n m : Nat) : ({ r with sec := r.sec.markExport n m } : State).fixed = r.fixed := rfl
  unfold State.endExport
  dsimp only
  split
  · split <;> exact (h _ _ _).trans (by simp)
  · simp

@[simp] theorem cmdLogExport_fixed (x : Cmd) : (cmdLogExport x s).1.fixed = s.fixed := by
  unfold cmdLogExport
  dsimp only
  repeat' split
  all_goals simp

@[simp] theorem State.exportToken_fixed : (s.exportToken).fixed = s.fixed := by
  unfold State.exportToken
  dsimp only
  repeat' split
  all_goals simp

@[simp] theorem cmdLogRelease_fixed (x : Cmd) : (cmdLogRelease x s).1.fixed = s.fixed := by
  unfold cmdLogRelease SecPart.releaseLines
  split <;> simp

@[simp] theorem cmdFwActivate_fixed (x : Cmd) : (cmdFwActivate x s).1.fixed = s.fixed := by
  unfold cmdFwActivate
  dsimp only
  repeat' split
  all_goals simp

@[simp] theorem State.endSessions_fixed : (s.endSessions).fixed = s.fixed := by
  simp [State.endSessions, foldl_same State.fixed]



@[simp] theorem cmdDebugUnlock_fixed (z0 : Cmd) : (cmdDebugUnlock z0 s).1.fixed = s.fixed := by
  unfold cmdDebugUnlock
  repeat' split
  all_goals simp

@[simp] theorem State.generateKey_fixed (x : Cmd) : (s.generateKey x).1.fixed = s.fixed := by
  unfold State.generateKey
  dsimp only
  repeat' split
  on_goal 3 => exact (State.fixed_updateSec ..).trans (by simp)
  all_goals simp



@[simp] theorem cmdEcho_fixed (x : Cmd) : (cmdEcho x s).1.fixed = s.fixed := by
  unfold cmdEcho
  simp

@[simp] theorem cmdVersion_fixed (z0 : Cmd) : (cmdVersion z0 s).1.fixed = s.fixed := by
  unfold cmdVersion
  simp

@[simp] theorem cmdInfo_fixed (x : Cmd) : (cmdInfo x s).1.fixed = s.fixed := by
  unfold cmdInfo
  simp

@[simp] theorem State.setMask_fixed (o : Origin) (m : BitVec 16) : (s.setMask o m).fixed = s.fixed := by
  unfold State.setMask
  repeat' split
  all_goals simp

@[simp] theorem cmdEventMask_fixed (x : Cmd) : (cmdEventMask x s).1.fixed = s.fixed := by
  unfold cmdEventMask
  simp

@[simp] theorem cmdCountersRead_fixed (x : Cmd) : (cmdCountersRead x s).1.fixed = s.fixed := by
  unfold cmdCountersRead
  simp

@[simp] theorem cmdMemoryInfo_fixed (z0 : Cmd) : (cmdMemoryInfo z0 s).1.fixed = s.fixed := by
  unfold cmdMemoryInfo
  simp

@[simp] theorem State.powerNow_fixed (p : Power) : (s.powerNow p).1.fixed = s.fixed := by
  unfold State.powerNow
  repeat' split
  all_goals simp

@[simp] theorem cmdPowerState_fixed (x : Cmd) : (cmdPowerState x s).1.fixed = s.fixed := by
  unfold cmdPowerState
  dsimp only
  repeat' split
  all_goals simp

@[simp] theorem State.testPass_fixed (test : Nat) : (s.testPass test).fixed = s.fixed := by
  unfold State.testPass
  simp

@[simp] theorem State.testFail_fixed (test : Nat) (units : List Nat) : (s.testFail test units).fixed = s.fixed := by
  unfold State.testFail
  simp

@[simp] theorem State.backgroundFail_fixed (test : Nat) (units : List Nat) (ms : Nat) : (s.backgroundFail test units ms).fixed = s.fixed := by
  unfold State.backgroundFail
  simp

@[simp] theorem State.testLanes_fixed (test : Nat) : (s.testLanes test).fixed = s.fixed := by
  unfold State.testLanes
  repeat' split
  all_goals simp

@[simp] theorem State.testLanesEnd_fixed (w : TestWait) : (s.testLanesEnd w).fixed = s.fixed := by
  unfold State.testLanesEnd
  repeat' split
  all_goals simp

@[simp] theorem cmdSelftestRun_fixed (x : Cmd) : (cmdSelftestRun x s).1.fixed = s.fixed := by
  unfold cmdSelftestRun
  dsimp only
  repeat' split
  all_goals simp

@[simp] theorem State.testEnd_fixed (w : TestWait) (r : TestRun) : (s.testEnd w r).fixed = s.fixed := by
  unfold State.testEnd
  repeat' split
  all_goals simp

@[simp] theorem State.assertFault_fixed : (s.assertFault).fixed = s.fixed := by
  unfold State.assertFault
  repeat' split
  all_goals simp

@[simp] theorem State.stopFire_fixed : (s.stopFire).fixed = s.fixed := by
  unfold State.stopFire
  repeat' split
  all_goals simp

@[simp] theorem State.endPages_fixed : (s.endPages).fixed = s.fixed := by
  unfold State.endPages
  dsimp only
  repeat' split
  all_goals simp [foldl_same State.fixed]

@[simp] theorem State.fatalEvent_fixed : (s.fatalEvent).fixed = s.fixed := by
  unfold State.fatalEvent
  repeat' split
  all_goals simp

@[simp] theorem State.fatalStep5_fixed : (s.fatalStep5).fixed = s.fixed := by
  unfold State.fatalStep5
  repeat' split
  all_goals simp

@[simp] theorem State.fatal_fixed (cause unit : Nat) : (s.fatal cause unit).fixed = s.fixed := by
  unfold State.fatal
  simp

@[simp] theorem State.fatalAny_fixed (cause : Nat) : (s.fatalAny cause).fixed = s.fixed := by
  unfold State.fatalAny
  simp

@[simp] theorem State.halt_fixed : (s.halt).fixed = s.fixed := by
  unfold State.halt
  simp

@[simp] theorem State.bootRom_fixed (o : RomOutcome) : (s.bootRom o).fixed = s.fixed := by
  unfold State.bootRom
  repeat' split
  all_goals simp

@[simp] theorem State.applyBoard_fixed (b : BoardRecord) : (s.applyBoard b).fixed = s.fixed := by
  unfold State.applyBoard
  simp

@[simp] theorem State.bootImage_fixed (preferred other : Option ImageRead) : (s.bootImage preferred other).fixed = s.fixed := by
  unfold State.bootImage
  repeat' split
  all_goals simp

@[simp] theorem State.checkEq_fixed : (s.checkEq).fixed = s.fixed := by
  unfold State.checkEq
  dsimp only
  repeat' split
  all_goals simp

@[simp] theorem State.equalise_fixed (n : LaneNo) : (s.equalise n).fixed = s.fixed := by
  unfold State.equalise
  repeat' split
  all_goals simp

@[simp] theorem State.endpointTrains_fixed : (s.endpointTrains).fixed = s.fixed := by
  simp [State.endpointTrains, foldl_same State.fixed]

@[simp] theorem State.loadKernels_fixed : (s.loadKernels).fixed = s.fixed := by
  unfold State.loadKernels
  dsimp only
  repeat' split
  all_goals simp [foldl_same State.fixed]

@[simp] theorem State.thermalAtBoot_fixed (t : Vector Int 8) : (s.thermalAtBoot t).fixed = s.fixed := by
  unfold State.thermalAtBoot
  repeat' split
  all_goals simp

@[simp] theorem State.bootFirmware_fixed (temps : Vector Int 8) : (s.bootFirmware temps).fixed = s.fixed := by
  unfold State.bootFirmware
  dsimp only
  repeat' split
  all_goals simp

@[simp] theorem State.lanesBegin_fixed : (s.lanesBegin).fixed = s.fixed := by
  unfold State.lanesBegin
  simp

@[simp] theorem State.bootDram_fixed (fails : List TrainFail) (dqs : List Nat) : (s.bootDram fails dqs).fixed = s.fixed := by
  unfold State.bootDram
  repeat' split
  all_goals simp



@[simp] theorem State.firmwareEndReset_fixed (ch : Chan) : (s.firmwareEndReset ch).fixed = s.fixed := by
  unfold State.firmwareEndReset
  simp

@[simp] theorem State.firmwareForgets_fixed : (s.firmwareForgets).fixed = s.fixed := by
  unfold State.firmwareForgets
  simp

@[simp] theorem State.watchdogOver_fixed (line : Nat) : (s.watchdogOver line).fixed = s.fixed := by
  unfold State.watchdogOver
  dsimp only
  repeat' split
  all_goals simp

@[simp] theorem State.laneRest_fixed (n : LaneNo) : (s.laneRest n).fixed = s.fixed := by
  unfold State.laneRest
  dsimp only
  repeat' split
  all_goals simp

@[simp] theorem State.camRest_fixed (p : CamNo) : (s.camRest p).fixed = s.fixed := by
  unfold State.camRest
  repeat' split
  all_goals simp

@[simp] theorem State.rest_fixed : (s.rest).fixed = s.fixed := by
  simp [State.rest, foldl_same State.fixed]

@[simp] theorem State.runWait_fixed (w : PowerWait × Power) : (s.runWait w).fixed = s.fixed := by
  unfold State.runWait
  repeat' split
  all_goals simp

@[simp] theorem State.scrubbed_fixed : (s.scrubbed).fixed = s.fixed := by
  unfold State.scrubbed
  simp

@[simp] theorem State.loseObjects_fixed (fallback : Bool) (id : Option PageId) (o : ObjectRead) : (s.loseObjects fallback id o).fixed = s.fixed := by
  unfold State.loseObjects
  repeat' split
  all_goals simp

@[simp] theorem State.sramCorrected_fixed (k : EngineNo) (sram : List (BitVec 16)) : (s.sramCorrected k sram).fixed = s.fixed := by
  unfold State.sramCorrected
  simp

@[simp] theorem State.addDensity_fixed (c : PageCtx) (k : EngineNo) (order : Nat) (codes : List (List Nat)) : (s.addDensity c k order codes).fixed = s.fixed := by
  unfold State.addDensity
  repeat' split
  all_goals simp

@[simp] theorem State.writeBand_fixed (fb : Bool) (c : PageCtx) (w : BandWork) : (s.writeBand fb c w).fixed = s.fixed := by
  unfold State.writeBand
  simp

@[simp] theorem State.peerHold_fixed : (s.peerHold).fixed = s.fixed := by
  unfold State.peerHold
  simp

@[simp] theorem State.measure_fixed (p : HeadPort) (l : Nat) : (s.measure p l).fixed = s.fixed := by
  unfold State.measure
  repeat' split
  all_goals simp

@[simp] theorem State.missReport_fixed (p : HeadPort) (n : Nat) (fired : Bool) (reason : Nat) : (s.missReport p n fired reason).fixed = s.fixed := by
  unfold State.missReport
  dsimp only
  repeat' split
  all_goals simp

@[simp] theorem State.disagreeReport_fixed (p : HeadPort) (n : Nat) (both agree : Bool) : (s.disagreeReport p n both agree).fixed = s.fixed := by
  unfold State.disagreeReport
  dsimp only
  repeat' split
  all_goals simp

@[simp] theorem State.pairReport_fixed (p : HeadPort) (n : Nat) (fired : Bool) (reason : Nat) (both agree : Bool) : (s.pairReport p n fired reason both agree).fixed = s.fixed := by
  unfold State.pairReport
  repeat' split
  all_goals simp

@[simp] theorem State.setTemp_fixed (p : HeadPort) (f : HeadTemp → HeadTemp) : (s.setTemp p f).fixed = s.fixed := by
  unfold State.setTemp
  simp

@[simp] theorem State.enterWarn_fixed (p : HeadPort) (t : Int) (n : Nat) : (s.enterWarn p t n).fixed = s.fixed := by
  unfold State.enterWarn
  repeat' split
  all_goals simp

@[simp] theorem State.headOut_fixed (p : HeadPort) (n : Nat) : (s.headOut p n).fixed = s.fixed := by
  unfold State.headOut
  repeat' split
  all_goals simp

@[simp] theorem State.enterHard_fixed (p : HeadPort) (t : Int) (n : Nat) : (s.enterHard p t n).fixed = s.fixed := by
  unfold State.enterHard
  dsimp only
  repeat' split
  all_goals simp

@[simp] theorem State.clearTemp_fixed (p : HeadPort) (t : Int) (n : Nat) : (s.clearTemp p t n).fixed = s.fixed := by
  unfold State.clearTemp
  dsimp only
  repeat' split
  all_goals simp

@[simp] theorem State.judgeTemp_fixed (p : HeadPort) (t : Int) (n : Nat) : (s.judgeTemp p t n).fixed = s.fixed := by
  unfold State.judgeTemp
  dsimp only
  repeat' split
  all_goals simp

@[simp] theorem State.capsHealed_fixed (p : HeadPort) : (s.capsHealed p).fixed = s.fixed := by
  unfold State.capsHealed
  repeat' split
  all_goals simp

@[simp] theorem cmdWaveLoad_fixed (x : Cmd) : (cmdWaveLoad x s).1.fixed = s.fixed := by
  unfold cmdWaveLoad
  dsimp only
  split
  · rfl
  · rw [State.waveAnswer_fixed, foldl_same State.fixed _ (fun t p => ?_), foldl_same State.fixed _ (fun t p => by simp)]
    · simp
    · repeat' split
      all_goals simp

@[simp] theorem cmdHealthRead_fixed (x : Cmd) : (cmdHealthRead x s).1.fixed = s.fixed := by
  unfold cmdHealthRead
  dsimp only
  repeat' split
  all_goals simp

@[simp] theorem cmdHealthForce_fixed (x : Cmd) : (cmdHealthForce x s).1.fixed = s.fixed := by
  unfold cmdHealthForce
  dsimp only
  repeat' split
  all_goals simp

@[simp] theorem State.stripEnd_fixed : (s.stripEnd).fixed = s.fixed := by
  unfold State.stripEnd
  repeat' split
  · rfl
  · rfl
  · exact foldl_same State.fixed _ (fun t x => by split <;> simp) _ _

@[simp] theorem cmdNozzleReport_fixed (x : Cmd) : (cmdNozzleReport x s).1.fixed = s.fixed := by
  unfold cmdNozzleReport
  dsimp only
  repeat' split
  all_goals simp

@[simp] theorem State.calBegin_fixed (p : CalProc) : (s.calBegin p).fixed = s.fixed := by
  unfold State.calBegin
  dsimp only
  repeat' split
  all_goals simp

@[simp] theorem cmdCal_fixed (opcode : Byte) (p : CalProc) (x : Cmd) : (cmdCal opcode p x s).1.fixed = s.fixed := by
  unfold cmdCal
  repeat' split
  all_goals simp

@[simp] theorem cmdCalCancel_fixed (x : Cmd) : (cmdCalCancel x s).1.fixed = s.fixed := by
  unfold cmdCalCancel
  repeat' split
  all_goals simp

@[simp] theorem State.endDetection_fixed (r : CalRun) (h : HeadPort) : (s.endDetection r h).fixed = s.fixed := by
  simp only [State.endDetection, State.calAnswer_fixed]
  exact foldl_same (fun p : State × Nat => p.1.fixed) _ (fun t x => by simp) _ _

@[simp] theorem State.endDensity_fixed (r : CalRun) : (s.endDensity r).fixed = s.fixed := by
  unfold State.endDensity
  dsimp only
  repeat' split
  all_goals simp

@[simp] theorem State.endTrim_fixed (r : CalRun) (e : EncNo) (ofsS ofsC gainC phase : Int) (leftPpm leftMdeg : Nat) : (s.endTrim r e ofsS ofsC gainC phase leftPpm leftMdeg).fixed = s.fixed := by
  unfold State.endTrim
  dsimp only
  repeat' split
  all_goals simp

@[simp] theorem State.endChop_fixed (r : CalRun) (a : AxisNo) (tOn1 tOff1 tOn2 tOff2 : Nat) : (s.endChop r a tOn1 tOff1 tOn2 tOff2).fixed = s.fixed := by
  unfold State.endChop
  dsimp only
  repeat' split
  all_goals simp

@[simp] theorem State.badAt_fixed (n : Nat) : (s.badAt n).fixed = s.fixed := by
  unfold State.badAt
  split
  · dsimp only
    rw [foldl_same State.fixed _ (fun t x => by split <;> simp)]
    simp
  · rfl

@[simp] theorem State.codeAt_fixed (n : Nat) : (s.codeAt n).fixed = s.fixed := by
  unfold State.codeAt
  dsimp only
  repeat' split
  all_goals simp

@[simp] theorem State.lineTaken_fixed (n : Nat) : (s.lineTaken n).fixed = s.fixed := by
  unfold State.lineTaken
  dsimp only
  repeat' split
  all_goals simp

@[simp] theorem State.bindPage_fixed (q : QEntry) (n : TrigNo) (start : Nat) : (s.bindPage q n start).fixed = s.fixed := by
  unfold State.bindPage
  simp

@[simp] theorem State.decideTrigger_fixed (n : TrigNo) (line : Nat) : (s.decideTrigger n line).fixed = s.fixed := by
  unfold State.decideTrigger
  dsimp only
  repeat' split
  all_goals simp

@[simp] theorem State.refreshQueue_fixed : (s.refreshQueue).fixed = s.fixed := by
  unfold State.refreshQueue
  dsimp only
  repeat' split
  all_goals simp [foldl_same State.fixed]

@[simp] theorem State.enqueueAs_fixed (id : PageId) (line : Nat) : (s.enqueueAs id line).fixed = s.fixed := by
  unfold State.enqueueAs
  repeat' split
  all_goals simp

@[simp] theorem State.cancelAs_fixed (id : PageId) : (s.cancelAs id).fixed = s.fixed := by
  unfold State.cancelAs
  repeat' split
  all_goals simp

@[simp] theorem State.fallbackAs_fixed (id : PageId) : (s.fallbackAs id).fixed = s.fixed := by
  unfold State.fallbackAs
  repeat' split
  all_goals simp

@[simp] theorem State.startAs_fixed (id : PageId) (n : Nat) : (s.startAs id n).fixed = s.fixed := by
  unfold State.startAs
  simp

@[simp] theorem State.triggerAs_fixed (id : PageId) (n : TrigNo) (outcome start : Nat) : (s.triggerAs id n outcome start).fixed = s.fixed := by
  unfold State.triggerAs
  dsimp only
  repeat' split
  all_goals simp

@[simp] theorem State.printAs_fixed (mode : BitVec 4) (trig : Bool) (x0 : Int) : (s.printAs mode trig x0).fixed = s.fixed := by
  unfold State.printAs
  repeat' split
  all_goals simp

@[simp] theorem State.stopAs_fixed (flush : Bool) (n : Nat) : (s.stopAs flush n).fixed = s.fixed := by
  unfold State.stopAs
  dsimp only
  repeat' split
  all_goals simp [foldl_same State.fixed]

@[simp] theorem State.abortAs_fixed (id : PageId) (a : Nat) : (s.abortAs id a).fixed = s.fixed := by
  unfold State.abortAs
  dsimp only
  repeat' split
  all_goals simp

@[simp] theorem State.serialAs_fixed (id : PageId) (serial : BitVec 48) (mac : BitVec 40) : (s.serialAs id serial mac).fixed = s.fixed := by
  unfold State.serialAs
  repeat' split
  all_goals simp

@[simp] theorem State.alignAs_fixed (e : EncNo) (atRest : Bool) (pos : Int) : (s.alignAs e atRest pos).fixed = s.fixed := by
  unfold State.alignAs
  dsimp only
  repeat' split
  all_goals simp

@[simp] theorem State.joinLineAs_fixed (id : PageId) (b : Nat) : (s.joinLineAs id b).fixed = s.fixed := by
  unfold State.joinLineAs
  repeat' split
  all_goals simp

@[simp] theorem State.joinPosAs_fixed (whole : Int) (rem : Nat) : (s.joinPosAs whole rem).fixed = s.fixed := by
  unfold State.joinPosAs
  repeat' split
  all_goals simp

@[simp] theorem State.applyRecord_fixed (rkind : Nat) (w1 w2 : Word) : (s.applyRecord rkind w1 w2).fixed = s.fixed := by
  unfold State.applyRecord
  repeat' split
  all_goals simp

@[simp] theorem State.takeRecord_fixed (k : PairKey) (w0 w1 w2 : Word) : (s.takeRecord k w0 w1 w2).fixed = s.fixed := by
  unfold State.takeRecord
  dsimp only
  repeat' split
  all_goals simp

@[simp] theorem State.startResync_fixed : (s.startResync).fixed = s.fixed := by
  unfold State.startResync
  repeat' split
  all_goals simp

@[simp] theorem State.sendJoin_fixed (j : PageId) : (s.sendJoin j).fixed = s.fixed := by
  unfold State.sendJoin
  dsimp only
  rw [State.record_fixed, foldl_same State.fixed _ (fun t x => by simp), foldl_same State.fixed _ (fun t x => by split <;> simp)]
  repeat' split
  all_goals simp only [State.record_fixed]
  all_goals rw [foldl_same State.fixed _ (fun t x => by split <;> simp)]
  all_goals simp

@[simp] theorem State.joinCheck_fixed : (s.joinCheck).fixed = s.fixed := by
  unfold State.joinCheck
  repeat' split
  all_goals simp

@[simp] theorem State.refuseHost_fixed (n : Chan) : (s.refuseHost n).fixed = s.fixed := by
  simp [State.refuseHost, foldl_same State.fixed]

@[simp] theorem State.refusePeer_fixed (k : FabChannel) : (s.refusePeer k).fixed = s.fixed := by
  simp [State.refusePeer, foldl_same State.fixed]

@[simp] theorem State.refuseWaiting_fixed : (s.refuseWaiting).fixed = s.fixed := by
  simp [State.refuseWaiting, foldl_same State.fixed]

@[simp] theorem State.demote_fixed (new : BitVec 32) : (s.demote new).fixed = s.fixed := by
  unfold State.demote
  simp

@[simp] theorem State.shadowDecides_fixed : (s.shadowDecides).fixed = s.fixed := by
  unfold State.shadowDecides
  dsimp only
  simp only [apply_ite State.fixed, State.assignNext_fixed, ite_self]
  rw [foldl_same State.fixed _ (fun t x => by split <;> simp)]
  split <;> simp

@[simp] theorem State.takeover_fixed (claim prev : BitVec 32) : (s.takeover claim prev).fixed = s.fixed := by
  unfold State.takeover
  dsimp only
  repeat' split
  all_goals simp

@[simp] theorem State.rejectGrant_fixed (reason : Nat) (issuer : NodeNo) : (s.rejectGrant reason issuer).fixed = s.fixed := by
  unfold State.rejectGrant
  simp

@[simp] theorem State.partnerGrant_fixed (claim : BitVec 32) : (s.partnerGrant claim).fixed = s.fixed := by
  unfold State.partnerGrant
  repeat' split
  all_goals simp

@[simp] theorem State.matchConfig_fixed : (s.matchConfig).fixed = s.fixed := by
  unfold State.matchConfig
  dsimp only
  repeat' split
  all_goals simp

@[simp] theorem State.sendHealth_fixed : (s.sendHealth).fixed = s.fixed := by
  unfold State.sendHealth
  dsimp only
  repeat' split
  all_goals simp [foldl_same State.fixed]

@[simp] theorem State.setRider_fixed (i : Fin 8) (f : RiderPair → RiderPair) : (s.setRider i f).fixed = s.fixed := by
  unfold State.setRider
  simp

@[simp] theorem State.sendGrant_fixed (i : Fin 8) : (s.sendGrant i).fixed = s.fixed := by
  unfold State.sendGrant
  dsimp only
  repeat' split
  all_goals simp

@[simp] theorem State.grantNow_fixed (i : Fin 8) (b : Bool) (reason : Nat) : (s.grantNow i b reason).fixed = s.fixed := by
  unfold State.grantNow
  simp

@[simp] theorem State.riderDecides_fixed (i : Fin 8) (swap : Bool) : (s.riderDecides i swap).fixed = s.fixed := by
  unfold State.riderDecides
  dsimp only
  repeat' split
  all_goals simp

@[simp] theorem State.riderBeat_fixed (i : Fin 8) (b : Bool) (m : BeatRec) : (s.riderBeat i b m).fixed = s.fixed := by
  unfold State.riderBeat
  dsimp only
  repeat' split
  all_goals simp

@[simp] theorem State.riderHealth_fixed (i : Fin 8) (b : Bool) (h : HealthMsg) : (s.riderHealth i b h).fixed = s.fixed := by
  unfold State.riderHealth
  simp

@[simp] theorem State.standbyBeat_fixed (m : BeatRec) (sched : BitVec 24) : (s.standbyBeat m sched).fixed = s.fixed := by
  unfold State.standbyBeat
  repeat' split
  all_goals simp

@[simp] theorem State.activeBeat_fixed (m : BeatRec) (before : Nat) : (s.activeBeat m before).fixed = s.fixed := by
  unfold State.activeBeat
  repeat' split
  all_goals simp

@[simp] theorem State.partnerBeat_fixed (m : BeatRec) (sched : BitVec 24) : (s.partnerBeat m sched).fixed = s.fixed := by
  unfold State.partnerBeat
  dsimp only
  repeat' split
  all_goals simp

@[simp] theorem State.drive_fixed : (s.drive).fixed = s.fixed := by
  unfold State.drive
  simp

@[simp] theorem State.partnerHealth_fixed (words : List Word) : (s.partnerHealth words).fixed = s.fixed := by
  unfold State.partnerHealth
  simp

@[simp] theorem State.roleSet_fixed (old : PairPart) : (s.roleSet old).fixed = s.fixed := by
  unfold State.roleSet
  dsimp only
  repeat' split
  all_goals simp



@[simp] theorem cmdClaimGrant_fixed (x : Cmd) : (cmdClaimGrant x s).1.fixed = s.fixed := by
  unfold cmdClaimGrant
  dsimp only
  repeat' split
  all_goals simp

@[simp] theorem cmdSwap_fixed (x : Cmd) : (cmdSwap x s).1.fixed = s.fixed := by
  unfold cmdSwap
  dsimp only
  repeat' split
  all_goals simp

@[simp] theorem State.updateLoop_fixed (e : EncNo) : (s.updateLoop e).fixed = s.fixed := by
  unfold State.updateLoop
  simp

@[simp] theorem State.trackSource_fixed (moved : Rat) : (s.trackSource moved).fixed = s.fixed := by
  unfold State.trackSource
  dsimp only
  repeat' split
  all_goals simp

@[simp] theorem cmdTriggerArm_fixed (x : Cmd) : (cmdTriggerArm x s).1.fixed = s.fixed := by
  unfold cmdTriggerArm
  dsimp only
  repeat' split
  all_goals simp

@[simp] theorem State.dropSched_fixed (n : CmpNo) : (s.dropSched n).fixed = s.fixed := by
  simp [State.dropSched, foldl_same State.fixed]

@[simp] theorem cmdTriggerDisarm_fixed (x : Cmd) : (cmdTriggerDisarm x s).1.fixed = s.fixed := by
  unfold cmdTriggerDisarm
  simp

@[simp] theorem cmdTimeStep_fixed (x : Cmd) : (cmdTimeStep x s).1.fixed = s.fixed := by
  unfold cmdTimeStep
  repeat' split
  all_goals simp

@[simp] theorem cmdPpsSecond_fixed (x : Cmd) : (cmdPpsSecond x s).1.fixed = s.fixed := by
  unfold cmdPpsSecond
  simp

@[simp] theorem applyTime_fixed (e : Entry) : (applyTime s e).fixed = s.fixed := by
  unfold applyTime
  simp



@[simp] theorem State.releaseMoves_fixed (n : CmpNo) : (s.releaseMoves n).fixed = s.fixed := by
  unfold State.releaseMoves
  simp

@[simp] theorem State.runSched_fixed (n : CmpNo) : (s.runSched n).fixed = s.fixed := by
  simp [State.runSched, foldl_same State.fixed]

@[simp] theorem State.fireTrigger_fixed (n : CmpNo) : (s.fireTrigger n).fixed = s.fixed := by
  unfold State.fireTrigger
  dsimp only
  repeat' split
  all_goals simp

@[simp] theorem State.steer_fixed : (s.steer).fixed = s.fixed := by
  unfold State.steer
  dsimp only
  repeat' split
  all_goals simp

@[simp] theorem State.servo_fixed (theta2 : Int) : (s.servo theta2).fixed = s.fixed := by
  unfold State.servo
  dsimp only
  repeat' split
  all_goals simp

@[simp] theorem State.lockCheck_fixed (theta2 : Int) : (s.lockCheck theta2).fixed = s.fixed := by
  unfold State.lockCheck
  dsimp only
  repeat' split
  all_goals simp

@[simp] theorem State.setRun_fixed (v : Verified) (f : DocketRun → DocketRun) : (s.setRun v f).fixed = s.fixed := by
  unfold State.setRun
  simp



@[simp] theorem State.endDocket_fixed (v : Verified) (writeFail : Option Word) : (s.endDocket v writeFail).fixed = s.fixed := by
  unfold State.endDocket
  repeat' split
  all_goals simp







end Sys2Proof.Machine
end

section
/-!
SUPPORT. Every command answers a next state, keeps the queue, moves no fuse back, and leaves no event unqueued (O4, O5, O6): one lemma for each
row of the table, and from them the statements about a step.
-/

namespace Sys2Proof.Machine

variable (s : State) {t u : State}

/-- From one state to another the commands that wait are the same, the lifecycle and the anti-rollback counter have not gone back, and the fused
hashes are the same. -/
structure Onward (s t : State) : Prop where
  pending   : t.pending = s.pending
  lifecycle : lifecycleKept s t
  svn       : s.sec.svn ≤ t.sec.svn
  imageKey  : t.sec.imageKey = s.sec.imageKey
  caKey     : t.sec.caKey = s.sec.caKey

theorem Onward.of_fixed {s t : State} (h : t.fixed = s.fixed) : Onward s t := by
  simp only [State.fixed, Prod.mk.injEq] at h
  obtain ⟨hq, hl, hv, hi, hc⟩ := h
  exact ⟨hq, (congrArg BitVec.toNat hl).ge, hv.ge, hi, hc⟩

theorem Onward.refl : Onward s s := .of_fixed rfl

variable {s}

theorem Onward.trans (h : Onward s t) (h' : Onward t u) : Onward s u :=
  ⟨h'.pending.trans h.pending, h.lifecycle.trans h'.lifecycle, h.svn.trans h'.svn, h'.imageKey.trans h.imageKey, h'.caKey.trans h.caKey⟩

/-- What touches nothing of what is fixed goes on from where an operation led. -/
theorem Onward.then_fixed (h : Onward s t) (hu : u.fixed = t.fixed) : Onward s u := h.trans (.of_fixed hu)

/-- What touches nothing of what is fixed may come before. -/
theorem Onward.after_fixed (ht : t.fixed = s.fixed) (h : Onward t u) : Onward s u := (Onward.of_fixed ht).trans h

/-- An outcome is a next state: what is fixed has only moved on, and a state without waiting events has led to one without. -/
def Completes (s : State) (o : Out) : Prop := ∃ t : State, o = .next t ∧ (s.quiet → t.quiet) ∧ Onward s t

/-- The end of a step completes. -/
theorem Completes.ends (h : Onward s t) : Completes s t.done :=
  ⟨t.settle, rfl, fun _ => t.settle_batch, h.then_fixed t.settle_fixed⟩

theorem Completes.done (h : t.fixed = s.fixed) : Completes s t.done := .ends (.of_fixed h)

/-- A step that does nothing completes. -/
theorem Completes.same : Completes s (.next s) := ⟨s, rfl, id, .refl s⟩

theorem Completes.after_fixed {o : Out} (ht : t.fixed = s.fixed) (hb : s.quiet → t.quiet) (h : Completes t o) : Completes s o := by
  obtain ⟨u, ho, hq, hu⟩ := h
  exact ⟨u, ho, fun hs => hq (hb hs), hu.after_fixed ht⟩

/-! ### Command words (R536) -/

theorem runCommand_onward {op : Byte} {d sec : Bool} {f : Cmd → State → State × Option Resp} {x : Cmd}
    (hf : ∀ t : State, Onward t (f x t).1) : Onward s (runCommand op d sec f x s) := by
  have hg (t : State) : Onward t (guardObjects op f x t).1 := by
    unfold guardObjects
    dsimp only
    split
    · split
      · exact .of_fixed (by simp)
      · exact (hf _).after_fixed (by simp)
    · exact hf t
  unfold runCommand
  dsimp only
  split
  · exact .refl s
  split
  · exact .of_fixed (by simp)
  · have h := (hg ((s.start x).wakeFor op)).after_fixed (s := s) (by simp)
    split
    · exact h
    · exact h.then_fixed (by simp)

/-- A command word completes when its own effect only moves on what is fixed. -/
theorem Completes.command {op : Byte} {d sec : Bool} {f : Cmd → State → State × Option Resp} {x : Cmd}
    (hf : ∀ t : State, Onward t (f x t).1) : Completes s (runCommand op d sec f x s).done := .ends (runCommand_onward hf)

/-- A command word whose own effect touches nothing of what is fixed completes. -/
theorem Completes.fixedCommand {op : Byte} {d sec : Bool} {f : Cmd → State → State × Option Resp} {x : Cmd}
    (hf : ∀ t : State, (f x t).1.fixed = t.fixed) : Completes s (runCommand op d sec f x s).done := .command fun t => .of_fixed (hf t)

/-- Settings commands touch nothing of what is fixed, when their rows do not. -/
theorem runSettings_fixed {T : Settings} (hT : ∀ (t : State) (e : Entry), (T.apply t e).fixed = t.fixed) (x : Cmd) (s : State) :
    (runSettings T x s).1.fixed = s.fixed := by
  unfold runSettings
  repeat' split
  on_goal 4 => exact foldl_same State.fixed _ hT _ _
  all_goals rfl

/-! ### The commands of the lifecycle (R553 to R555, R558) -/

/-- Entry to RETURNED writes the lifecycle and no other fuse (R554). -/
theorem State.enterReturned_fixed : s.enterReturned.fixed = (s.pending, 3, s.sec.svn, s.sec.imageKey, s.sec.caKey) := by
  unfold State.enterReturned
  dsimp only
  rw [State.serveOpens_fixed, State.raiseF_fixed, State.endSessions_fixed]
  rfl

theorem State.enterReturned_onward : Onward s s.enterReturned := by
  have h : s.enterReturned.fixed = _ := State.enterReturned_fixed
  simp only [State.fixed, Prod.mk.injEq] at h
  obtain ⟨hq, hl, hv, hi, hc⟩ := h
  refine ⟨hq, ?_, hv.ge, hi, hc⟩
  rw [lifecycleKept, hl]
  exact Nat.le_of_lt_succ s.sec.lifecycle.isLt

theorem cmdLifecycleSet_onward (x : Cmd) : Onward s (cmdLifecycleSet x s).1 := by
  unfold cmdLifecycleSet
  split
  · dsimp only
    exact State.enterReturned_onward
  · exact .refl s

/-- A step of PROVISION that nothing refuses stands in its right state (R555). -/
theorem State.provisionReason_none {right certOk : Bool} (h : s.provisionReason right certOk = none) : right = true := by
  cases right
  · simp [State.provisionReason] at h
  · rfl

theorem State.certify_onward (x : Cmd) : Onward s (s.certify x).1 := by
  unfold State.certify
  dsimp only
  split
  · exact .refl s
  split
  · exact .refl s
  · next h =>
    have hr := State.provisionReason_none h
    rw [Bool.and_eq_true, beq_iff_eq] at hr
    exact ⟨rfl, by simp [lifecycleKept, hr.1], Nat.le_refl _, rfl, rfl⟩

theorem State.setOwner_onward (x : Cmd) : Onward s (s.setOwner x).1 := by
  unfold State.setOwner
  split
  · exact .refl s
  · next h =>
    have hr := eq_of_beq (State.provisionReason_none h)
    exact ⟨rfl, by simp [lifecycleKept, hr], Nat.le_refl _, rfl, rfl⟩

theorem cmdProvision_onward (x : Cmd) : Onward s (cmdProvision x s).1 := by
  unfold cmdProvision
  split
  · exact .of_fixed (by simp)
  · exact State.certify_onward x
  · exact State.setOwner_onward x
  · exact .refl s

/-- The fused counter never goes back (R558). -/
theorem State.commitSvn_onward : Onward s s.commitSvn := by
  unfold State.commitSvn
  split
  · split
    · exact ⟨rfl, Nat.le_refl _, le_max_left _ _, rfl, rfl⟩
    · exact .refl s
  · exact .refl s

theorem State.bootReady_onward (ms : BitVec 12) : Onward s (s.bootReady ms) :=
  State.commitSvn_onward.after_fixed (by simp)

theorem State.deviceReset_onward (cause : Nat) : Onward s (s.deviceReset cause) := ⟨rfl, Nat.le_refl _, Nat.le_refl _, rfl, rfl⟩

theorem execPageCommit_completes (x : Cmd) : Completes s (execPageCommit x s) := .fixedCommand fun t => cmdPageCommit_fixed t x

theorem execPageCancel_completes (x : Cmd) : Completes s (execPageCancel x s) := .fixedCommand fun t => cmdPageCancel_fixed t x

theorem execPageDelete_completes (x : Cmd) : Completes s (execPageDelete x s) := .fixedCommand fun t => cmdPageDelete_fixed t x

theorem execPageAbort_completes (x : Cmd) : Completes s (execPageAbort x s) := .fixedCommand fun t => cmdPageAbort_fixed t x

theorem execPageStatus_completes (x : Cmd) : Completes s (execPageStatus x s) := .fixedCommand fun t => cmdPageStatus_fixed t x

theorem execPageDefects_completes (x : Cmd) : Completes s (execPageDefects x s) := .fixedCommand fun t => cmdPageDefects_fixed t x

theorem execFallbackSet_completes (x : Cmd) : Completes s (execFallbackSet x s) := .fixedCommand fun t => cmdFallbackSet_fixed t x

theorem execPrintStart_completes (x : Cmd) : Completes s (execPrintStart x s) := .fixedCommand fun t => cmdPrintStart_fixed t x

theorem execPrintStop_completes (x : Cmd) : Completes s (execPrintStop x s) := .fixedCommand fun t => cmdPrintStop_fixed t x

theorem execTriggerConfig_completes (x : Cmd) : Completes s (execTriggerConfig x s) := by
  refine .fixedCommand (runSettings_fixed (fun t e => ?_) x)
  simp [triggerTable]

theorem execGovernorConfig_completes (x : Cmd) : Completes s (execGovernorConfig x s) := by
  refine .fixedCommand (runSettings_fixed (fun t e => ?_) x)
  simp only [governorTable]
  split <;> simp

theorem execEncoderAdcSample_completes (e : EncNo) (a b : BitVec 14) : Completes s (execEncoderAdcSample e a b s) := by
  unfold execEncoderAdcSample
  dsimp only
  repeat' split
  all_goals exact .done (by simp)

theorem execQuadratureTransition_completes (e : EncNo) (a b : HeldLevel) : Completes s (execQuadratureTransition e a b s) := by
  unfold execQuadratureTransition
  dsimp only
  repeat' split
  all_goals exact .done (by simp)

theorem execIndexEvent_completes (e : EncNo) (edge : IndexEdge) : Completes s (execIndexEvent e edge s) := by
  unfold execIndexEvent
  dsimp only
  repeat' split
  all_goals exact .done (by simp)

theorem execEncSignalRestored_completes (e : EncNo) : Completes s (execEncSignalRestored e s) := by
  unfold execEncSignalRestored
  repeat' split
  all_goals exact .done (by simp)

theorem execRelayTransition_completes (e : EncNo) : Completes s (execRelayTransition e s) := by
  unfold execRelayTransition
  dsimp only
  repeat' split
  all_goals exact .done (by simp)

theorem execEncoderConfig_completes (x : Cmd) : Completes s (execEncoderConfig x s) := by
  refine .fixedCommand (runSettings_fixed (fun t e => ?_) x)
  simp [encoderTable]

theorem execReceiverDetectPulse_completes (lane : LaneNo) (found : Bool) : Completes s (execReceiverDetectPulse lane found s) := by
  unfold execReceiverDetectPulse
  dsimp only
  repeat' split
  all_goals exact .done (by simp)

theorem execTrainingBlock_completes (lane : LaneNo) (sync : BitVec 2) (block : Word) (count : Nat) : Completes s (execTrainingBlock lane sync block count s) := by
  unfold execTrainingBlock
  dsimp only
  repeat' split
  all_goals exact .done (by simp)

theorem execCdrLock_completes (lane : LaneNo) : Completes s (execCdrLock lane s) := by
  unfold execCdrLock
  repeat' split
  all_goals exact .done (by simp)

theorem execLaneStateTimeout_completes (lane : LaneNo) : Completes s (execLaneStateTimeout lane s) := by
  unfold execLaneStateTimeout
  exact .done (by simp)

theorem execElectricalIdle_completes (lane : LaneNo) : Completes s (execElectricalIdle lane s) := by
  unfold execElectricalIdle
  repeat' split
  all_goals exact .done (by simp)

theorem execBackoffWaitEnd_completes (lane : LaneNo) : Completes s (execBackoffWaitEnd lane s) := by
  unfold execBackoffWaitEnd
  repeat' split
  all_goals exact .done (by simp)

theorem execBlockLockLoss_completes (lane : LaneNo) : Completes s (execBlockLockLoss lane s) := by
  unfold execBlockLockLoss
  dsimp only
  repeat' split
  all_goals exact .done (by simp)

theorem execLaneErrors_completes (lane : LaneNo) (count : LaneCounts) : Completes s (execLaneErrors lane count s) := by
  unfold execLaneErrors
  dsimp only
  repeat' split
  all_goals exact .done (by simp)

theorem execLaneControl_completes (x : Cmd) : Completes s (execLaneControl x s) := .fixedCommand fun t => cmdLaneControl_fixed t x

theorem execLoopback_completes (x : Cmd) : Completes s (execLoopback x s) := .fixedCommand fun t => cmdLoopback_fixed t x

theorem execLoopbackEnd_completes (lane : LaneNo) (r : LoopbackResult) : Completes s (execLoopbackEnd lane r s) := by
  unfold execLoopbackEnd
  repeat' split
  all_goals exact .done (by simp)

theorem execFabricFrame_completes (p : FabPort) (f : FabFrame) : Completes s (execFabricFrame p f s) := by
  unfold execFabricFrame
  dsimp only
  repeat' split
  all_goals exact .done (by simp)

theorem execCredit_completes (p : FabPort) (block : Word) : Completes s (execCredit p block s) := by
  unfold execCredit
  repeat' split
  all_goals exact .done (by simp)

theorem execCreditSend_completes (p : FabPort) : Completes s (execCreditSend p s) := by
  unfold execCreditSend
  repeat' split
  all_goals exact .done (by simp)

theorem execFabricCaps_completes (p : FabPort) (control data : Word) : Completes s (execFabricCaps p control data s) := by
  unfold execFabricCaps
  dsimp only
  repeat' split
  all_goals exact .done (by simp)

theorem execAnnounce_completes (p : FabPort) (w0 w1 w2 : Word) : Completes s (execAnnounce p w0 w1 w2 s) := by
  unfold execAnnounce
  dsimp only
  repeat' split
  all_goals exact .done (by simp)

theorem execAnnounceSend_completes : Completes s (execAnnounceSend s) := by
  unfold execAnnounceSend
  exact .done (by simp)

theorem execElectionSettled_completes : Completes s (execElectionSettled s) := by
  unfold execElectionSettled
  repeat' split
  all_goals exact .done (by simp)

theorem execFabricNoRoot_completes : Completes s (execFabricNoRoot s) := by
  unfold execFabricNoRoot
  repeat' split
  all_goals exact .done (by simp)

theorem execReport_completes (p : FabPort) (words : List Word) : Completes s (execReport p words s) := by
  unfold execReport
  have ht : (s.takeFrame 6 words).fixed = s.fixed := s.takeFrame_fixed 6 words
  generalize s.takeFrame 6 words = t at ht ⊢
  dsimp only
  repeat' split
  all_goals exact .done (by simp [ht])

theorem execRouteCompute_completes : Completes s (execRouteCompute s) := by
  unfold execRouteCompute
  repeat' split
  all_goals exact .done (by simp)

theorem execAssign_completes (p : FabPort) (w0 w1 : Word) : Completes s (execAssign p w0 w1 s) := by
  unfold execAssign
  dsimp only
  repeat' split
  all_goals exact .done (by simp)

theorem execRoutes_completes (words : List Word) : Completes s (execRoutes words s) := by
  unfold execRoutes
  have ht : (s.takeFrame 8 words).fixed = s.fixed := s.takeFrame_fixed 8 words
  generalize s.takeFrame 8 words = t at ht ⊢
  dsimp only
  repeat' split
  all_goals exact .done (by simp [ht])

theorem execRoutesAck_completes (src : NodeNo) (w0 : Word) : Completes s (execRoutesAck src w0 s) := by
  unfold execRoutesAck
  have ht : (s.takeFrame 9 [w0]).fixed = s.fixed := s.takeFrame_fixed 9 [w0]
  generalize s.takeFrame 9 [w0] = t at ht ⊢
  dsimp only
  repeat' split
  all_goals exact .done (by simp [ht])

theorem execRoutesResend_completes : Completes s (execRoutesResend s) := by
  unfold execRoutesResend
  split
  · exact .done (foldl_same State.fixed _ (fun t g => by simp) _ _)
  · exact .done rfl

theorem execMailboxOpen_completes (src : NodeNo) (w0 : Word) : Completes s (execMailboxOpen src w0 s) := by
  unfold execMailboxOpen
  have ht : (s.takeFrame 4 [w0, 0]).fixed = s.fixed := s.takeFrame_fixed 4 [w0, 0]
  generalize s.takeFrame 4 [w0, 0] = t at ht ⊢
  dsimp only
  repeat' split
  all_goals exact .done (by simp [ht])

theorem execMailboxWord_completes (src : NodeNo) (w0 w1 : Word) : Completes s (execMailboxWord src w0 w1 s) := by
  unfold execMailboxWord
  dsimp only
  repeat' split
  all_goals exact .done (by simp)

theorem execMailboxAck_completes (src : NodeNo) (w0 : Word) : Completes s (execMailboxAck src w0 s) := by
  unfold execMailboxAck
  dsimp only
  repeat' split
  all_goals exact .done (by simp)

theorem execMailboxClose_completes (src : NodeNo) (w0 : Word) : Completes s (execMailboxClose src w0 s) := by
  unfold execMailboxClose
  dsimp only
  repeat' split
  all_goals exact .done (by simp)

theorem execMailboxResend_completes (peer : NodeNo) : Completes s (execMailboxResend peer s) := by
  unfold execMailboxResend
  repeat' split
  all_goals exact .done (by simp)

theorem execChannelIdle_completes (peer : NodeNo) : Completes s (execChannelIdle peer s) := by
  unfold execChannelIdle
  repeat' split
  all_goals exact .done (by simp)

theorem execEncEvent_completes (src : NodeNo) (w0 w1 : Word) : Completes s (execEncEvent src w0 w1 s) := by
  unfold execEncEvent
  exact .done (by simp)

theorem execFabricConfig_completes (x : Cmd) : Completes s (execFabricConfig x s) := by
  refine .fixedCommand (runSettings_fixed (fun t e => ?_) x)
  simp [fabricTable]

theorem execPeerPost_completes (x : Cmd) : Completes s (execPeerPost x s) := .fixedCommand fun t => cmdPeerPost_fixed t x

theorem execPeerClose_completes (x : Cmd) : Completes s (execPeerClose x s) := .fixedCommand fun t => cmdPeerClose_fixed t x

theorem execMove_completes (x : Cmd) : Completes s (execMove x s) := .fixedCommand fun t => cmdMove_fixed t x

theorem execStop_completes (x : Cmd) : Completes s (execStop x s) := .fixedCommand fun t => cmdStop_fixed t x

theorem execHome_completes (x : Cmd) : Completes s (execHome x s) := .fixedCommand fun t => cmdHome_fixed t x

theorem execProfileUpdate_completes (ax : AxisNo) : Completes s (execProfileUpdate ax s) := by
  unfold execProfileUpdate
  dsimp only
  repeat' split
  all_goals exact .done (by simp)

theorem execHoldDelay_completes (ax : AxisNo) : Completes s (execHoldDelay ax s) := by
  unfold execHoldDelay
  repeat' split
  all_goals exact .done (by simp)

theorem execSwitchRawChange_completes (sw : SwitchNo) (level : Bool) : Completes s (execSwitchRawChange sw level s) := by
  unfold execSwitchRawChange
  exact .done (by simp)

theorem execSwitchQualified_completes (sw : SwitchNo) (held : Nat) : Completes s (execSwitchQualified sw held s) := by
  unfold execSwitchQualified
  dsimp only
  split
  · exact .done rfl
  · refine .done ?_
    rw [State.fixed_update, foldl_same State.fixed _ (fun t a => by simp)]
    simp

theorem execSwitchSetBad_completes (set : Fin 5) : Completes s (execSwitchSetBad set s) := by
  unfold execSwitchSetBad
  dsimp only
  repeat' split
  all_goals exact .done (by simp)

theorem execChopperTransition_completes (ax : AxisNo) (coil : Coil) (shows : ChopSense) : Completes s (execChopperTransition ax coil shows s) := by
  unfold execChopperTransition
  dsimp only
  repeat' split
  all_goals exact .done (by simp)

theorem execCoilFault_completes (ax : AxisNo) (coil : Coil) (reason : CoilFaultReason) : Completes s (execCoilFault ax coil reason s) := by
  unfold execCoilFault
  repeat' split
  all_goals exact .done (by simp)

theorem execAxisConfig_completes (x : Cmd) : Completes s (execAxisConfig x s) := by
  refine .fixedCommand (runSettings_fixed (fun t e => ?_) x)
  simp [axisTable]

theorem execHmbInPost_completes (ch : Chan) (w : Word) : Completes s (execHmbInPost ch w s) := by
  unfold execHmbInPost
  repeat' split
  all_goals exact .done (by simp)

theorem execHmbOutRead_completes (ch : Chan) : Completes s (execHmbOutRead ch s) := by
  unfold execHmbOutRead
  repeat' split
  all_goals exact .done (by simp)

theorem execFirmwareTakesWord_completes (ch : Chan) : Completes s (execFirmwareTakesWord ch s) := by
  unfold execFirmwareTakesWord
  dsimp only
  repeat' split
  all_goals exact .done (by simp)

theorem execDocketReadCompletion_completes (ch : Chan) (tag : BitVec 5) (r : DocketRead) : Completes s (execDocketReadCompletion ch tag r s) := by
  unfold execDocketReadCompletion
  repeat' split
  all_goals exact .done (by simp)

theorem execEngineChannelPost_completes (k : EngineNo) (w : Word) : Completes s (execEngineChannelPost k w s) := by
  unfold execEngineChannelPost
  exact .done (by simp)

theorem execHostReset_completes (ch : Chan) : Completes s (execHostReset ch s) := by
  unfold execHostReset
  repeat' split
  all_goals exact .done (by simp)

theorem execFunctionLevelReset_completes : Completes s (execFunctionLevelReset s) := by
  unfold execFunctionLevelReset
  repeat' split
  all_goals exact .done (by simp)

theorem execPciePowerState_completes (d3hot : Bool) : Completes s (execPciePowerState d3hot s) := by
  unfold execPciePowerState
  repeat' split
  all_goals exact .done (by simp)

theorem execIrqMaskWrite_completes (value : Word) : Completes s (execIrqMaskWrite value s) := by
  unfold execIrqMaskWrite
  repeat' split
  all_goals exact .done (by simp)

theorem execRegisterWrite_completes (offset : BitVec 16) (wide : Bool) (value : Word) : Completes s (execRegisterWrite offset wide value s) := by
  unfold execRegisterWrite
  repeat' split
  all_goals exact .done (by simp)

theorem execAxisLatchRead_completes (ax : AxisNo) : Completes s (execAxisLatchRead ax s) := by
  unfold execAxisLatchRead
  repeat' split
  all_goals exact .done (by simp)

theorem execLaneErrRead_completes (lane : LaneNo) (part : ReadPart) : Completes s (execLaneErrRead lane part s) := by
  unfold execLaneErrRead
  repeat' split
  all_goals exact .done (by simp)

theorem execCamConnectionReset_completes (p : CamNo) : Completes s (execCamConnectionReset p s) := by
  unfold execCamConnectionReset
  repeat' split
  all_goals exact .done (by simp)

theorem execCharacterLock_completes (p : CamNo) (locked : Bool) : Completes s (execCharacterLock p locked s) := by
  unfold execCharacterLock
  repeat' split
  all_goals exact .done (by simp)

theorem execCamBootstrapReply_completes (p : CamNo) (r : Bootstrap) : Completes s (execCamBootstrapReply p r s) := by
  unfold execCamBootstrapReply
  dsimp only
  repeat' split
  all_goals exact .done (by simp)

theorem execCamWriteAck_completes (p : CamNo) : Completes s (execCamWriteAck p s) := by
  unfold execCamWriteAck
  dsimp only
  repeat' split
  all_goals exact .done (by simp)

theorem execCamWriteFail_completes (p : CamNo) (timeout : Bool) : Completes s (execCamWriteFail p timeout s) := by
  unfold execCamWriteFail
  dsimp only
  repeat' split
  all_goals exact .done (by simp)

theorem execCamLockLoss_completes (p : CamNo) : Completes s (execCamLockLoss p s) := by
  unfold execCamLockLoss
  repeat' split
  all_goals exact .done (by simp)

theorem execStreamPacket_completes (p : CamNo) (k : StreamPacket) : Completes s (execStreamPacket p k s) := by
  unfold execStreamPacket
  dsimp only
  repeat' split
  all_goals exact .done (by simp)

theorem execFrameTimeout_completes (p : CamNo) : Completes s (execFrameTimeout p s) := by
  unfold execFrameTimeout
  repeat' split
  all_goals exact .done (by simp)

theorem execCameraLine_completes (p : CamNo) (samples : List (BitVec 12)) (reads : List BurstRead) : Completes s (execCameraLine p samples reads s) := by
  unfold execCameraLine
  dsimp only
  repeat' split
  all_goals exact .done (by simp)

theorem execTimeModeLine_completes (p : CamNo) : Completes s (execTimeModeLine p s) := by
  unfold execTimeModeLine
  dsimp only
  repeat' split
  all_goals exact .done (by simp)

theorem execStatsRecordProcess_completes (p : CamNo) : Completes s (execStatsRecordProcess p s) := by
  unfold execStatsRecordProcess
  repeat' split
  all_goals exact .done (by simp)

theorem execStatsRead_completes (x : Cmd) : Completes s (execStatsRead x s) := .fixedCommand fun t => cmdStatsRead_fixed t x

theorem execStatsRelease_completes (x : Cmd) : Completes s (execStatsRelease x s) := .fixedCommand fun t => cmdStatsRelease_fixed t x

theorem execTapRead_completes (x : Cmd) : Completes s (execTapRead x s) := .fixedCommand fun t => cmdTapRead_fixed t x

theorem execTapRelease_completes (x : Cmd) : Completes s (execTapRelease x s) := .fixedCommand fun t => cmdTapRelease_fixed t x

theorem execCameraConfig_completes (x : Cmd) : Completes s (execCameraConfig x s) := by
  refine .fixedCommand (runSettings_fixed (fun t e => ?_) x)
  simp [cameraTable]

theorem execCameraCommit_completes (x : Cmd) : Completes s (execCameraCommit x s) := .fixedCommand fun t => cmdCameraCommit_fixed t x

theorem execParcelLoad_completes (x : Cmd) : Completes s (execParcelLoad x s) := .fixedCommand fun t => cmdParcelLoad_fixed t x

theorem execParcelTimeout_completes (x : Cmd) : Completes s (execParcelTimeout x s) := .fixedCommand fun t => cmdParcelTimeout_fixed t x

theorem execStoreInfo_completes (x : Cmd) : Completes s (execStoreInfo x s) := .fixedCommand fun t => cmdStoreInfo_fixed t x

theorem execLayerDelete_completes (x : Cmd) : Completes s (execLayerDelete x s) := .fixedCommand fun t => cmdLayerDelete_fixed t x

theorem execGeneratorDefine_completes (x : Cmd) : Completes s (execGeneratorDefine x s) := .fixedCommand fun t => cmdGeneratorDefine_fixed t x

theorem execGeneratorDelete_completes (x : Cmd) : Completes s (execGeneratorDelete x s) := .fixedCommand fun t => cmdGeneratorDelete_fixed t x

theorem execParcelSlotStart_completes : Completes s (execParcelSlotStart s) := by
  unfold execParcelSlotStart
  dsimp only
  repeat' split
  all_goals exact .done (by simp)

theorem execBulk_completes (src : NodeNo) (words : List Word) : Completes s (execBulk src words s) := by
  unfold execBulk
  have ht : (s.takeFrame 11 words).fixed = s.fixed := s.takeFrame_fixed 11 words
  generalize s.takeFrame 11 words = t at ht ⊢
  exact .done (by simp [ht])

theorem execBulkOffer_completes (x : Cmd) : Completes s (execBulkOffer x s) := .fixedCommand fun t => cmdBulkOffer_fixed t x

theorem execParcelHeaderArrival_completes (slot : SlotNo) (header : List Word) : Completes s (execParcelHeaderArrival slot header s) := by
  unfold execParcelHeaderArrival
  dsimp only
  repeat' split
  all_goals exact .done (by simp)

theorem execParcelCompletion_completes (slot : SlotNo) (r : Completion) : Completes s (execParcelCompletion slot r s) := by
  unfold execParcelCompletion
  dsimp only
  repeat' split
  all_goals exact .done (by simp)

theorem execParcelTimerExpiry_completes (slot : SlotNo) : Completes s (execParcelTimerExpiry slot s) := by
  unfold execParcelTimerExpiry
  repeat' split
  all_goals exact .done (by simp)

theorem execParcelTagCheck_completes (slot : SlotNo) : Completes s (execParcelTagCheck slot s) := by
  unfold execParcelTagCheck
  repeat' split
  all_goals exact .done (by simp)

theorem execParcelMirror_completes : Completes s (execParcelMirror s) := by
  unfold execParcelMirror
  repeat' split
  all_goals exact .done (by simp)

theorem execIdentityRead_completes (x : Cmd) : Completes s (execIdentityRead x s) := .fixedCommand fun t => cmdIdentityRead_fixed t x

theorem execSessionOpen_completes (x : Cmd) : Completes s (execSessionOpen x s) := .fixedCommand fun t => cmdSessionOpen_fixed t x

theorem execSessionClose_completes (x : Cmd) : Completes s (execSessionClose x s) := .fixedCommand fun t => cmdSessionClose_fixed t x

theorem execPairKeyEstablish_completes (x : Cmd) : Completes s (execPairKeyEstablish x s) := .fixedCommand fun t => cmdPairKeyEstablish_fixed t x

theorem execSerialJobOpen_completes (x : Cmd) : Completes s (execSerialJobOpen x s) := .fixedCommand fun t => cmdSerialJobOpen_fixed t x

theorem execSerialJobClose_completes (x : Cmd) : Completes s (execSerialJobClose x s) := .fixedCommand fun t => cmdSerialJobClose_fixed t x

theorem execLogExport_completes (x : Cmd) : Completes s (execLogExport x s) := by
  unfold execLogExport
  split
  · exact .done rfl
  · exact .fixedCommand fun t => cmdLogExport_fixed t x

theorem execCompressorToken_completes (x : CompressorContext) : Completes s (execCompressorToken x s) := by
  unfold execCompressorToken
  repeat' split
  all_goals exact .done (by simp)

theorem execLogRelease_completes (x : Cmd) : Completes s (execLogRelease x s) := .fixedCommand fun t => cmdLogRelease_fixed t x

theorem execFwActivate_completes (x : Cmd) : Completes s (execFwActivate x s) := .fixedCommand fun t => cmdFwActivate_fixed t x

theorem execLifecycleSet_completes (x : Cmd) : Completes s (execLifecycleSet x s) :=
  .command fun _ => cmdLifecycleSet_onward x

theorem execDebugUnlock_completes (x : Cmd) : Completes s (execDebugUnlock x s) := .fixedCommand fun t => cmdDebugUnlock_fixed t x

theorem execProvision_completes (x : Cmd) : Completes s (execProvision x s) :=
  .command fun _ => cmdProvision_onward x

theorem execJtagInstruction_completes (i : JtagInstruction) : Completes s (execJtagInstruction i s) := by
  unfold execJtagInstruction
  repeat' split
  all_goals exact .done (by simp)

theorem execEcho_completes (x : Cmd) : Completes s (execEcho x s) := .fixedCommand fun t => cmdEcho_fixed t x

theorem execVersion_completes (x : Cmd) : Completes s (execVersion x s) := .fixedCommand fun t => cmdVersion_fixed t x

theorem execInfo_completes (x : Cmd) : Completes s (execInfo x s) := .fixedCommand fun t => cmdInfo_fixed t x

theorem execEventMask_completes (x : Cmd) : Completes s (execEventMask x s) := .fixedCommand fun t => cmdEventMask_fixed t x

theorem execCountersRead_completes (x : Cmd) : Completes s (execCountersRead x s) := .fixedCommand fun t => cmdCountersRead_fixed t x

theorem execMemoryInfo_completes (x : Cmd) : Completes s (execMemoryInfo x s) := .fixedCommand fun t => cmdMemoryInfo_fixed t x

theorem execPowerState_completes (x : Cmd) : Completes s (execPowerState x s) := .fixedCommand fun t => cmdPowerState_fixed t x

theorem execSelftestRun_completes (x : Cmd) : Completes s (execSelftestRun x s) := .fixedCommand fun t => cmdSelftestRun_fixed t x

theorem execSelftestRunEnd_completes (r : TestRun) : Completes s (execSelftestRunEnd r s) := by
  unfold execSelftestRunEnd
  repeat' split
  all_goals exact .done (by simp)

theorem execSelftestBackground_completes (r : TestRun) : Completes s (execSelftestBackground r s) := by
  unfold execSelftestBackground
  repeat' split
  all_goals exact .done (by simp)

theorem execEngineSlice_completes (k : EngineNo) (matches_ : Bool) : Completes s (execEngineSlice k matches_ s) := by
  unfold execEngineSlice
  repeat' split
  all_goals exact .done (by simp)

theorem execSupplyMonitorReset_completes : Completes s (execSupplyMonitorReset s) :=
  .ends (State.deviceReset_onward 1)

theorem execResetN_completes : Completes s (execResetN s) :=
  .ends (State.deviceReset_onward 2)

theorem execPerstN_completes : Completes s (execPerstN s) := by
  unfold execPerstN
  dsimp only
  repeat' split
  · exact .done rfl
  · exact .ends (State.deviceReset_onward 3)
  · exact .done (by simp)
  · exact .done rfl

theorem execCommandedReset_completes : Completes s (execCommandedReset s) := by
  unfold execCommandedReset
  split
  · exact .ends (State.deviceReset_onward 4)
  · exact .done rfl

theorem execFatalFault_completes (f : FatalCause) : Completes s (execFatalFault f s) := by
  unfold execFatalFault
  repeat' split
  all_goals exact .done (by simp)

theorem execFirePllRelock_completes : Completes s (execFirePllRelock s) := by
  unfold execFirePllRelock
  repeat' split
  all_goals exact .done (by simp)

theorem execBootStageDone_completes (r : BootResult) : Completes s (execBootStageDone r s) := by
  unfold execBootStageDone
  repeat' split
  on_goal 8 => exact .ends (State.bootReady_onward _)
  on_goal 8 => exact .ends (State.bootReady_onward _)
  all_goals exact .done (by simp)

theorem execWatchdogExpiry_completes : Completes s (execWatchdogExpiry s) := by
  unfold execWatchdogExpiry
  repeat' split
  all_goals exact .done (by simp)

theorem execWatchdogReset_completes (preferred other : Option ImageRead) : Completes s (execWatchdogReset preferred other s) := by
  unfold execWatchdogReset
  split
  · exact .done rfl
  split
  · exact .done (by simp)
  dsimp only
  generalize hu : State.firmwareForgets _ = u
  have h : u.fixed = s.fixed := by rw [← hu, State.firmwareForgets_fixed, foldl_same State.fixed _ (fun t n => by simp)]
  split
  · refine .ends (Onward.then_fixed ?_ (State.watchdogOver_fixed ..))
    split
    · exact State.commitSvn_onward.after_fixed (by simp [h])
    · exact .of_fixed (by simp [h])
  · refine .ends ?_
    split
    · exact State.commitSvn_onward.after_fixed (by simp [h])
    · exact .of_fixed (by simp [h])

theorem execDormantEntry_completes : Completes s (execDormantEntry s) := by
  unfold execDormantEntry
  split
  · exact .done rfl
  · refine .done ?_
    rw [foldl_same State.fixed _ (fun t w => by simp)]
    simp

theorem execDormantExit_completes : Completes s (execDormantExit s) := by
  unfold execDormantExit
  split
  · refine .done ?_
    rw [foldl_same State.fixed _ (fun t w => by simp)]
    simp
  · exact .done rfl

theorem execPatrolScrubBurst_completes (r : DramRead) : Completes s (execPatrolScrubBurst r s) := by
  unfold execPatrolScrubBurst
  repeat' split
  all_goals exact .done (by simp)

theorem execDqsDriftUpdate_completes (readings : List Nat) : Completes s (execDqsDriftUpdate readings s) := by
  unfold execDqsDriftUpdate
  repeat' split
  all_goals exact .done (by simp)

theorem execRefreshRateRead_completes (doubled : List Bool) : Completes s (execRefreshRateRead doubled s) := by
  unfold execRefreshRateRead
  repeat' split
  all_goals exact .done (by simp)

theorem execPagePreparation_completes (fallback : Bool) (o : ObjectRead) : Completes s (execPagePreparation fallback o s) := by
  unfold execPagePreparation
  repeat' split
  all_goals exact .done (by simp)

theorem execBlockFetchDone_completes (k : EngineNo) (ref : BitVec 9) (second : Bool) (reads : List BurstRead) : Completes s (execBlockFetchDone k ref second reads s) := by
  unfold execBlockFetchDone
  dsimp only
  repeat' split
  all_goals exact .done (by simp)

theorem execEngineEdgeExchange_completes (e : EngineEnd) : Completes s (execEngineEdgeExchange e s) := by
  unfold execEngineEdgeExchange
  dsimp only
  repeat' split
  all_goals exact .done (by simp)

theorem execEngineBandHandover_completes (e : EngineEnd) : Completes s (execEngineBandHandover e s) := by
  unfold execEngineBandHandover
  dsimp only
  repeat' split
  all_goals exact .done (by simp)

theorem execMapperWriteDone_completes : Completes s (execMapperWriteDone s) := by
  unfold execMapperWriteDone
  dsimp only
  repeat' split
  all_goals exact .done (by simp)

theorem execGovernorMessage_completes (src : NodeNo) (w0 : Word) : Completes s (execGovernorMessage src w0 s) := by
  unfold execGovernorMessage
  have ht : (s.takeFrame 2 [w0]).fixed = s.fixed := s.takeFrame_fixed 2 [w0]
  generalize s.takeFrame 2 [w0] = t at ht ⊢
  dsimp only
  repeat' split
  all_goals exact .done (by simp [ht])

theorem execGovernorMessageSend_completes : Completes s (execGovernorMessageSend s) := by
  unfold execGovernorMessageSend
  split
  · exact .done rfl
  · refine .done ?_
    rw [foldl_same State.fixed _ (fun t n => by simp)]
    simp

theorem execGovernorPeerLost_completes (src : NodeNo) : Completes s (execGovernorPeerLost src s) := by
  unfold execGovernorPeerLost
  repeat' split
  all_goals exact .done (by simp)

theorem execSpdlimPeriod_completes : Completes s (execSpdlimPeriod s) := by
  unfold execSpdlimPeriod
  repeat' split
  all_goals exact .done (by simp)

theorem execHoldReqRelease_completes : Completes s (execHoldReqRelease s) := by
  unfold execHoldReqRelease
  repeat' split
  all_goals exact .done (by simp)

theorem execStatusSend_completes : Completes s (execStatusSend s) := by
  unfold execStatusSend
  exact .done (by simp)

theorem execLatProbeSend_completes (p : HeadPort) (sentAt : Nat) : Completes s (execLatProbeSend p sentAt s) := by
  unfold execLatProbeSend
  dsimp only
  repeat' split
  all_goals exact .done (by simp)

theorem execLatProbeTimeout_completes (p : HeadPort) (seq : Byte) : Completes s (execLatProbeTimeout p seq s) := by
  unfold execLatProbeTimeout
  exact .done (by simp)

theorem execLatEcho_completes (p : HeadPort) (block : Word) (arrival : Nat) : Completes s (execLatEcho p block arrival s) := by
  unfold execLatEcho
  dsimp only
  repeat' split
  all_goals exact .done (by simp)

theorem execAlive_completes (p : HeadPort) (block : Word) : Completes s (execAlive p block s) := by
  unfold execAlive
  dsimp only
  repeat' split
  all_goals exact .done (by simp)

theorem execAliveTimeout_completes (p : HeadPort) : Completes s (execAliveTimeout p s) := by
  unfold execAliveTimeout
  repeat' split
  all_goals exact .done (by simp)

theorem execLineAck_completes (p : HeadPort) (block : Word) : Completes s (execLineAck p block s) := by
  unfold execLineAck
  repeat' split
  all_goals exact .done (by simp)

theorem execTemp_completes (p : HeadPort) (block : Word) : Completes s (execTemp p block s) := by
  unfold execTemp
  repeat' split
  all_goals exact .done (by simp)

theorem execHdEvent_completes (p : HeadPort) (block : Word) : Completes s (execHdEvent p block s) := by
  unfold execHdEvent
  repeat' split
  all_goals exact .done (by simp)

theorem execCaps_completes (p : HeadPort) (control : Word) (data : Option Word) : Completes s (execCaps p control data s) := by
  unfold execCaps
  dsimp only
  repeat' split
  all_goals exact .done (by simp)

theorem execWaveLoad_completes (x : Cmd) : Completes s (execWaveLoad x s) := .fixedCommand fun t => cmdWaveLoad_fixed t x

theorem execWaveLoadSend_completes (p : HeadPort) : Completes s (execWaveLoadSend p s) := by
  unfold execWaveLoadSend
  repeat' split
  all_goals exact .done (by simp)

theorem execWaveAck_completes (p : HeadPort) (block : Word) : Completes s (execWaveAck p block s) := by
  unfold execWaveAck
  repeat' split
  all_goals exact .done (by simp)

theorem execWaveAckTimeout_completes (p : HeadPort) : Completes s (execWaveAckTimeout p s) := by
  unfold execWaveAckTimeout
  repeat' split
  all_goals exact .done (by simp)

theorem execHealthRead_completes (x : Cmd) : Completes s (execHealthRead x s) := .fixedCommand fun t => cmdHealthRead_fixed t x

theorem execHealthForce_completes (x : Cmd) : Completes s (execHealthForce x s) := .fixedCommand fun t => cmdHealthForce_fixed t x

theorem execHealthConfig_completes (x : Cmd) : Completes s (execHealthConfig x s) := by
  refine .fixedCommand (runSettings_fixed (fun t e => ?_) x)
  simp [healthTable]

theorem execNozzleReport_completes (x : Cmd) : Completes s (execNozzleReport x s) := .fixedCommand fun t => cmdNozzleReport_fixed t x

theorem execNozzleReportLost_completes (slot : Fin 8) (node : NodeNo) : Completes s (execNozzleReportLost slot node s) := by
  unfold execNozzleReportLost
  repeat' split
  all_goals exact .done (by simp)

theorem execHealthMapPersist_completes : Completes s (execHealthMapPersist s) := by
  unfold execHealthMapPersist
  exact .done (by simp)

theorem execCalNozzle_completes (x : Cmd) : Completes s (execCalNozzle x s) :=
  .fixedCommand fun t => cmdCal_fixed t _ _ x

theorem execCalDensity_completes (x : Cmd) : Completes s (execCalDensity x s) :=
  .fixedCommand fun t => cmdCal_fixed t _ _ x

theorem execCalEncTrim_completes (x : Cmd) : Completes s (execCalEncTrim x s) :=
  .fixedCommand fun t => cmdCal_fixed t _ _ x

theorem execCalChopper_completes (x : Cmd) : Completes s (execCalChopper x s) :=
  .fixedCommand fun t => cmdCal_fixed t _ _ x

theorem execCalCancel_completes (x : Cmd) : Completes s (execCalCancel x s) := .fixedCommand fun t => cmdCalCancel_fixed t x

theorem execCalTimeout_completes (proc : CalProc) : Completes s (execCalTimeout proc s) := by
  unfold execCalTimeout
  repeat' split
  all_goals exact .done (by simp)

theorem execCalProcedureEnd_completes (proc : CalProc) (m : CalMeasure) : Completes s (execCalProcedureEnd proc m s) := by
  unfold execCalProcedureEnd
  repeat' split
  all_goals exact .done (by simp)

theorem execLineBoundary_completes (at_ : Word) : Completes s (execLineBoundary at_ s) := by
  unfold execLineBoundary
  dsimp only
  repeat' split
  all_goals exact .done (by simp)

theorem execProductDetect_completes (n : TrigNo) : Completes s (execProductDetect n s) := by
  unfold execProductDetect
  repeat' split
  all_goals exact .done (by simp)

theorem execMarkMissPulseEnd_completes (n : TrigNo) : Completes s (execMarkMissPulseEnd n s) := by
  unfold execMarkMissPulseEnd
  exact .done (by simp)

theorem execHoldLimitExpiry_completes : Completes s (execHoldLimitExpiry s) := by
  unfold execHoldLimitExpiry
  dsimp only
  repeat' split
  all_goals exact .done (by simp)

/-- What each pair's ditch-rider does touches nothing of what is fixed, when it does so for one pair. -/
theorem State.eachRider_fixed {f : State → Fin 8 → Bool → State} (hf : ∀ t i b, (f t i b).fixed = t.fixed) (n : NodeNo) :
    (s.eachRider n f).fixed = s.fixed :=
  foldl_same State.fixed _ (fun t i => by split <;> simp [hf]) _ _

theorem execHeartbeat_completes (src : NodeNo) (header w0 w1 w2 w3 : Word) : Completes s (execHeartbeat src header w0 w1 w2 w3 s) := by
  unfold execHeartbeat
  have ht : (s.takeFrame 0 [w0, w1, w2, w3]).fixed = s.fixed := s.takeFrame_fixed 0 [w0, w1, w2, w3]
  generalize s.takeFrame 0 [w0, w1, w2, w3] = t at ht ⊢
  dsimp only
  split
  · exact .done (by simp [ht])
  · refine .done ((State.eachRider_fixed (by simp) _).trans ?_)
    split <;> simp [ht]

theorem execHeartbeatSend_completes : Completes s (execHeartbeatSend s) := by
  unfold execHeartbeatSend
  exact .done (by simp)

theorem execPairPartnerLost_completes : Completes s (execPairPartnerLost s) := by
  unfold execPairPartnerLost
  repeat' split
  all_goals exact .done (by simp)

theorem execScheduleRecord_completes (src : NodeNo) (header w0 w1 w2 w3 : Word) : Completes s (execScheduleRecord src header w0 w1 w2 w3 s) := by
  unfold execScheduleRecord
  dsimp only
  repeat' split
  all_goals exact .done (by simp)

theorem execGrant_completes (src : NodeNo) (header w0 w1 w2 w3 : Word) : Completes s (execGrant src header w0 w1 w2 w3 s) := by
  unfold execGrant
  dsimp only
  repeat' split
  all_goals exact .done (by simp)

theorem execAccept_completes (src : NodeNo) (header w0 w1 w2 w3 : Word) : Completes s (execAccept src header w0 w1 w2 w3 s) := by
  unfold execAccept
  have ht : (s.takeFrame 1 [w0, w1, w2, w3]).fixed = s.fixed := s.takeFrame_fixed 1 [w0, w1, w2, w3]
  generalize s.takeFrame 1 [w0, w1, w2, w3] = t at ht ⊢
  dsimp only
  repeat' split
  all_goals exact .done (by simp [ht])

theorem execGrantResend_completes (pair : Fin 8) : Completes s (execGrantResend pair s) := by
  unfold execGrantResend
  exact .done (by simp)

theorem execClaimRelease_completes : Completes s (execClaimRelease s) := by
  unfold execClaimRelease
  repeat' split
  all_goals exact .done (by simp)

theorem execDrivingBegins_completes : Completes s (execDrivingBegins s) := by
  unfold execDrivingBegins
  repeat' split
  all_goals exact .done (by simp)

theorem execHealth_completes (src : NodeNo) (header : Word) (words : List Word) : Completes s (execHealth src header words s) := by
  unfold execHealth
  have ht : (s.takeFrame 0xC words).fixed = s.fixed := s.takeFrame_fixed 0xC words
  generalize s.takeFrame 0xC words = t at ht ⊢
  dsimp only
  split
  · exact .done (by simp [ht])
  · refine .done ((State.eachRider_fixed (by simp) _).trans ?_)
    split <;> simp [ht]

theorem execHealthSend_completes : Completes s (execHealthSend s) := by
  unfold execHealthSend
  exact .done (by simp)

theorem execPairConfig_completes (x : Cmd) : Completes s (execPairConfig x s) := by
  have h (t : State) : (runSettings pairTable x t).1.fixed = t.fixed := runSettings_fixed (fun u e => by simp [pairTable]) x t
  refine .fixedCommand fun t => ?_
  unfold cmdPairConfig
  dsimp only
  split <;> simp [h]

theorem execRiderConfig_completes (x : Cmd) : Completes s (execRiderConfig x s) := by
  refine .fixedCommand (runSettings_fixed (fun t e => ?_) x)
  simp [riderTable]

theorem execClaimGrant_completes (x : Cmd) : Completes s (execClaimGrant x s) := .fixedCommand fun t => cmdClaimGrant_fixed t x

theorem execSwap_completes (x : Cmd) : Completes s (execSwap x s) := .fixedCommand fun t => cmdSwap_fixed t x

theorem execTrackingLoopUpdate_completes (e : EncNo) (at_ : Word) : Completes s (execTrackingLoopUpdate e at_ s) := by
  unfold execTrackingLoopUpdate
  dsimp only
  repeat' split
  all_goals exact .done (by simp)

theorem execRestEntry_completes : Completes s (execRestEntry s) := by
  unfold execRestEntry
  dsimp only
  repeat' split
  all_goals exact .done (by simp)

theorem execKeepWetTickle_completes (at_ : Word) : Completes s (execKeepWetTickle at_ s) := by
  have h (l : List HeadPort) (t : State) : (l.foldl (fun s p => if s.portUsed p then s.offer p tickleItem else s) t).fixed = t.fixed :=
    foldl_same State.fixed _ (fun t p => by split <;> simp) _ _
  unfold execKeepWetTickle
  dsimp only
  repeat' split
  all_goals exact .done (by simp [h])

theorem execSluiceConfig_completes (x : Cmd) : Completes s (execSluiceConfig x s) := by
  refine .fixedCommand (runSettings_fixed (fun t e => ?_) x)
  simp [sluiceTable]

theorem execTriggerArm_completes (x : Cmd) : Completes s (execTriggerArm x s) := .fixedCommand fun t => cmdTriggerArm_fixed t x

theorem execTriggerDisarm_completes (x : Cmd) : Completes s (execTriggerDisarm x s) := .fixedCommand fun t => cmdTriggerDisarm_fixed t x

theorem execTimeStep_completes (x : Cmd) : Completes s (execTimeStep x s) := .fixedCommand fun t => cmdTimeStep_fixed t x

theorem execPpsSecond_completes (x : Cmd) : Completes s (execPpsSecond x s) := .fixedCommand fun t => cmdPpsSecond_fixed t x

theorem execTimeConfig_completes (x : Cmd) : Completes s (execTimeConfig x s) := by
  have h (t : State) : (runSettings timeTable x t).1.fixed = t.fixed := runSettings_fixed (fun u e => by simp [timeTable]) x t
  refine .fixedCommand fun t => ?_
  unfold cmdTimeConfig
  dsimp only
  split <;> simp [h]

theorem execCompareTrigger_completes (n : CmpNo) (at_ : Word) : Completes s (execCompareTrigger n at_ s) := by
  unfold execCompareTrigger
  dsimp only
  repeat' split
  all_goals exact .done (by simp)

theorem execPpsInEdge_completes (at_ : Word) : Completes s (execPpsInEdge at_ s) := by
  unfold execPpsInEdge
  dsimp only
  repeat' split
  all_goals exact .done (by simp)

theorem execPpsOutSecond_completes (at_ : Word) : Completes s (execPpsOutSecond at_ s) := by
  unfold execPpsOutSecond
  dsimp only
  repeat' split
  all_goals exact .done (by simp)

theorem execPpsOutPulseEnd_completes : Completes s (execPpsOutPulseEnd s) := by
  unfold execPpsOutPulseEnd
  exact .done (by simp)

theorem execTimeReqSend_completes (at_ : Word) : Completes s (execTimeReqSend at_ s) := by
  unfold execTimeReqSend
  dsimp only
  repeat' split
  all_goals exact .done (by simp)

theorem execTimeReq_completes (src : NodeNo) (w0 w1 : Word) (at_ : Word) : Completes s (execTimeReq src w0 w1 at_ s) := by
  unfold execTimeReq
  dsimp only
  repeat' split
  all_goals exact .done (by simp)

theorem execTimeResp_completes (_src : NodeNo) (w0 w1 w2 w3 : Word) (at_ : Word) : Completes s (execTimeResp _src w0 w1 w2 w3 at_ s) := by
  unfold execTimeResp
  have ht : ((s.reach at_).takeFrame 10 [w0, w1, w2, w3]).fixed = s.fixed := by simp
  generalize (s.reach at_).takeFrame 10 [w0, w1, w2, w3] = t at ht ⊢
  dsimp only
  split <;> exact .done (by simp [ht])

theorem execTimeServo_completes (at_ : Word) : Completes s (execTimeServo at_ s) := by
  unfold execTimeServo
  dsimp only
  repeat' split
  all_goals exact .done (by simp)

theorem execTimeLost_completes : Completes s (execTimeLost s) := by
  unfold execTimeLost
  repeat' split
  all_goals exact .done (by simp)

/-- An embedded command word completes like the command itself (R544). -/
theorem execOpcode_completes {op : Byte} {x : Cmd} {o : Out} (h : execOpcode op x s = some o) : Completes s o := by
  unfold execOpcode at h
  split at h
  all_goals cases h
  · exact execEcho_completes x
  · exact execVersion_completes x
  · exact execInfo_completes x
  · exact execEventMask_completes x
  · exact execPageCommit_completes x
  · exact execPageCancel_completes x
  · exact execPageDelete_completes x
  · exact execPageAbort_completes x
  · exact execPageStatus_completes x
  · exact execPageDefects_completes x
  · exact execFallbackSet_completes x
  · exact execPrintStart_completes x
  · exact execPrintStop_completes x
  · exact execWaveLoad_completes x
  · exact execParcelLoad_completes x
  · exact execLayerDelete_completes x
  · exact execParcelTimeout_completes x
  · exact execStoreInfo_completes x
  · exact execGeneratorDefine_completes x
  · exact execGeneratorDelete_completes x
  · exact execCameraConfig_completes x
  · exact execCameraCommit_completes x
  · exact execStatsRead_completes x
  · exact execStatsRelease_completes x
  · exact execTapRead_completes x
  · exact execTapRelease_completes x
  · exact execHealthRead_completes x
  · exact execHealthForce_completes x
  · exact execHealthConfig_completes x
  · exact execNozzleReport_completes x
  · exact execAxisConfig_completes x
  · exact execMove_completes x
  · exact execStop_completes x
  · exact execHome_completes x
  · exact execEncoderConfig_completes x
  · exact execSluiceConfig_completes x
  · exact execTriggerConfig_completes x
  · exact execGovernorConfig_completes x
  · exact execFabricConfig_completes x
  · exact execPeerPost_completes x
  · exact execPeerClose_completes x
  · exact execBulkOffer_completes x
  · exact execPairConfig_completes x
  · exact execRiderConfig_completes x
  · exact execClaimGrant_completes x
  · exact execSwap_completes x
  · exact execTimeConfig_completes x
  · exact execTriggerArm_completes x
  · exact execTriggerDisarm_completes x
  · exact execTimeStep_completes x
  · exact execPpsSecond_completes x
  · exact execIdentityRead_completes x
  · exact execSessionOpen_completes x
  · exact execSessionClose_completes x
  · exact execPairKeyEstablish_completes x
  · exact execSerialJobOpen_completes x
  · exact execSerialJobClose_completes x
  · exact execLogExport_completes x
  · exact execLogRelease_completes x
  · exact execFwActivate_completes x
  · exact execLifecycleSet_completes x
  · exact execDebugUnlock_completes x
  · exact execProvision_completes x
  · exact execCalNozzle_completes x
  · exact execCalDensity_completes x
  · exact execCalEncTrim_completes x
  · exact execCalChopper_completes x
  · exact execCalCancel_completes x
  · exact execLaneControl_completes x
  · exact execLoopback_completes x
  · exact execSelftestRun_completes x
  · exact execCountersRead_completes x
  · exact execPowerState_completes x
  · exact execMemoryInfo_completes x

theorem State.runEmbedded_onward (v : Verified) (a : ParcelAuth) (c : Word × List Word × List (List Word)) :
    Onward s (s.runEmbedded v a c) := by
  unfold State.runEmbedded
  dsimp only
  split
  · exact .refl s
  split
  · next h =>
    obtain ⟨t, ht, -, hs⟩ := execOpcode_completes h
    rw [Host.Outcome.next.inj ht]
    exact hs.after_fixed (by simp)
  · exact .refl s
  · exact .of_fixed (by simp)

theorem State.runDocket_onward (v : Verified) (fuel : Nat) : Onward s (State.runDocket v fuel s) := by
  induction fuel generalizing s with
  | zero => exact .refl s
  | succ fuel ih =>
    unfold State.runDocket
    split
    · exact .refl s
    split
    · split
      · exact ((State.runEmbedded_onward v _ _).after_fixed (by simp)).trans ih
      · exact .refl s
    · exact .refl s

theorem State.goOn_onward (v : Verified) (r : PublishRead) : Onward s (s.goOn v r) :=
  (State.runDocket_onward v 64).then_fixed (by simp [State.goOn])

theorem State.publishDocket_onward (v : Verified) (r : PublishRead) : Onward s (s.publishDocket v r) := by
  unfold State.publishDocket
  dsimp only
  split
  · exact .of_fixed (by simp)
  · exact (State.goOn_onward v r).after_fixed (by simp)

theorem State.publish_onward (v : Verified) (r : PublishRead) : Onward s (s.publish v r) := by
  unfold State.publish
  dsimp only
  split
  · exact .of_fixed (by simp)
  split
  · exact .of_fixed (by simp)
  split
  · exact (State.publishDocket_onward v r).after_fixed (by simp)
  · exact .of_fixed (by simp)

theorem execParcelPublish_completes (r : PublishRead) : Completes s (execParcelPublish r s) := by
  have h (t : State) (ht : Onward s t) : Completes s t.refreshQueue.serveOpens.done := .ends (ht.then_fixed (by simp))
  unfold execParcelPublish
  split
  · exact h _ (State.goOn_onward _ r)
  · exact h _ (State.publish_onward _ r)
  · exact .done rfl

/-- Every command of the table completes. -/
theorem exec_completes (i : Instr) : Completes s (exec i s) := by
  cases i with
  | echo c => exact execEcho_completes c
  | version c => exact execVersion_completes c
  | info c => exact execInfo_completes c
  | eventMask c => exact execEventMask_completes c
  | pageCommit c => exact execPageCommit_completes c
  | pageCancel c => exact execPageCancel_completes c
  | pageDelete c => exact execPageDelete_completes c
  | pageAbort c => exact execPageAbort_completes c
  | pageStatus c => exact execPageStatus_completes c
  | pageDefects c => exact execPageDefects_completes c
  | fallbackSet c => exact execFallbackSet_completes c
  | printStart c => exact execPrintStart_completes c
  | printStop c => exact execPrintStop_completes c
  | waveLoad c => exact execWaveLoad_completes c
  | parcelLoad c => exact execParcelLoad_completes c
  | layerDelete c => exact execLayerDelete_completes c
  | parcelTimeout c => exact execParcelTimeout_completes c
  | storeInfo c => exact execStoreInfo_completes c
  | generatorDefine c => exact execGeneratorDefine_completes c
  | generatorDelete c => exact execGeneratorDelete_completes c
  | cameraConfig c => exact execCameraConfig_completes c
  | cameraCommit c => exact execCameraCommit_completes c
  | statsRead c => exact execStatsRead_completes c
  | statsRelease c => exact execStatsRelease_completes c
  | tapRead c => exact execTapRead_completes c
  | tapRelease c => exact execTapRelease_completes c
  | healthRead c => exact execHealthRead_completes c
  | healthForce c => exact execHealthForce_completes c
  | healthConfig c => exact execHealthConfig_completes c
  | nozzleReport c => exact execNozzleReport_completes c
  | axisConfig c => exact execAxisConfig_completes c
  | move c => exact execMove_completes c
  | stop c => exact execStop_completes c
  | home c => exact execHome_completes c
  | encoderConfig c => exact execEncoderConfig_completes c
  | sluiceConfig c => exact execSluiceConfig_completes c
  | triggerConfig c => exact execTriggerConfig_completes c
  | governorConfig c => exact execGovernorConfig_completes c
  | fabricConfig c => exact execFabricConfig_completes c
  | peerPost c => exact execPeerPost_completes c
  | peerClose c => exact execPeerClose_completes c
  | bulkOffer c => exact execBulkOffer_completes c
  | pairConfig c => exact execPairConfig_completes c
  | riderConfig c => exact execRiderConfig_completes c
  | claimGrant c => exact execClaimGrant_completes c
  | swap c => exact execSwap_completes c
  | timeConfig c => exact execTimeConfig_completes c
  | triggerArm c => exact execTriggerArm_completes c
  | triggerDisarm c => exact execTriggerDisarm_completes c
  | timeStep c => exact execTimeStep_completes c
  | ppsSecond c => exact execPpsSecond_completes c
  | identityRead c => exact execIdentityRead_completes c
  | sessionOpen c => exact execSessionOpen_completes c
  | sessionClose c => exact execSessionClose_completes c
  | pairKeyEstablish c => exact execPairKeyEstablish_completes c
  | serialJobOpen c => exact execSerialJobOpen_completes c
  | serialJobClose c => exact execSerialJobClose_completes c
  | logExport c => exact execLogExport_completes c
  | logRelease c => exact execLogRelease_completes c
  | fwActivate c => exact execFwActivate_completes c
  | lifecycleSet c => exact execLifecycleSet_completes c
  | debugUnlock c => exact execDebugUnlock_completes c
  | provision c => exact execProvision_completes c
  | calNozzle c => exact execCalNozzle_completes c
  | calDensity c => exact execCalDensity_completes c
  | calEncTrim c => exact execCalEncTrim_completes c
  | calChopper c => exact execCalChopper_completes c
  | calCancel c => exact execCalCancel_completes c
  | laneControl c => exact execLaneControl_completes c
  | loopback c => exact execLoopback_completes c
  | selftestRun c => exact execSelftestRun_completes c
  | countersRead c => exact execCountersRead_completes c
  | powerState c => exact execPowerState_completes c
  | memoryInfo c => exact execMemoryInfo_completes c
  | hmbInPost ch word => exact execHmbInPost_completes ch word
  | hmbOutRead ch => exact execHmbOutRead_completes ch
  | hostReset ch => exact execHostReset_completes ch
  | irqMaskWrite value => exact execIrqMaskWrite_completes value
  | axisLatchRead ax => exact execAxisLatchRead_completes ax
  | laneErrRead lane part => exact execLaneErrRead_completes lane part
  | registerWrite offset wide value => exact execRegisterWrite_completes offset wide value
  | firmwareTakesWord ch => exact execFirmwareTakesWord_completes ch
  | engineChannelPost k word => exact execEngineChannelPost_completes k word
  | supplyMonitorReset => exact execSupplyMonitorReset_completes
  | resetN => exact execResetN_completes
  | perstN => exact execPerstN_completes
  | functionLevelReset => exact execFunctionLevelReset_completes
  | pciePowerState d3hot => exact execPciePowerState_completes d3hot
  | commandedReset => exact execCommandedReset_completes
  | bootStageDone r => exact execBootStageDone_completes r
  | watchdogExpiry => exact execWatchdogExpiry_completes
  | watchdogReset preferred other => exact execWatchdogReset_completes preferred other
  | fatalFault f => exact execFatalFault_completes f
  | firePllRelock => exact execFirePllRelock_completes
  | dormantEntry => exact execDormantEntry_completes
  | dormantExit => exact execDormantExit_completes
  | parcelSlotStart => exact execParcelSlotStart_completes
  | parcelHeaderArrival slot header => exact execParcelHeaderArrival_completes slot header
  | parcelCompletion slot r => exact execParcelCompletion_completes slot r
  | parcelTimerExpiry slot => exact execParcelTimerExpiry_completes slot
  | parcelTagCheck slot => exact execParcelTagCheck_completes slot
  | parcelPublish r => exact execParcelPublish_completes r
  | parcelMirror => exact execParcelMirror_completes
  | pagePreparation fallback o => exact execPagePreparation_completes fallback o
  | blockFetchDone k ref second reads => exact execBlockFetchDone_completes k ref second reads
  | engineEdgeExchange e => exact execEngineEdgeExchange_completes e
  | engineBandHandover e => exact execEngineBandHandover_completes e
  | mapperWriteDone => exact execMapperWriteDone_completes
  | encoderAdcSample e a b => exact execEncoderAdcSample_completes e a b
  | quadratureTransition e a b => exact execQuadratureTransition_completes e a b
  | indexEvent e edge => exact execIndexEvent_completes e edge
  | trackingLoopUpdate e at_ => exact execTrackingLoopUpdate_completes e at_
  | restEntry => exact execRestEntry_completes
  | lineBoundary at_ => exact execLineBoundary_completes at_
  | markMissPulseEnd n => exact execMarkMissPulseEnd_completes n
  | productDetect n => exact execProductDetect_completes n
  | keepWetTickle at_ => exact execKeepWetTickle_completes at_
  | holdLimitExpiry => exact execHoldLimitExpiry_completes
  | statusSend => exact execStatusSend_completes
  | latProbeSend p sentAt => exact execLatProbeSend_completes p sentAt
  | latProbeTimeout p seq => exact execLatProbeTimeout_completes p seq
  | latEcho p block arrival => exact execLatEcho_completes p block arrival
  | alive p block => exact execAlive_completes p block
  | aliveTimeout p => exact execAliveTimeout_completes p
  | lineAck p block => exact execLineAck_completes p block
  | temp p block => exact execTemp_completes p block
  | hdEvent p block => exact execHdEvent_completes p block
  | caps p control data => exact execCaps_completes p control data
  | waveLoadSend p => exact execWaveLoadSend_completes p
  | waveAck p block => exact execWaveAck_completes p block
  | waveAckTimeout p => exact execWaveAckTimeout_completes p
  | receiverDetectPulse lane found => exact execReceiverDetectPulse_completes lane found
  | trainingBlock lane sync block count => exact execTrainingBlock_completes lane sync block count
  | cdrLock lane => exact execCdrLock_completes lane
  | laneStateTimeout lane => exact execLaneStateTimeout_completes lane
  | electricalIdle lane => exact execElectricalIdle_completes lane
  | backoffWaitEnd lane => exact execBackoffWaitEnd_completes lane
  | blockLockLoss lane => exact execBlockLockLoss_completes lane
  | laneErrors lane count => exact execLaneErrors_completes lane count
  | loopbackEnd lane r => exact execLoopbackEnd_completes lane r
  | jtagInstruction ins => exact execJtagInstruction_completes ins
  | fabricFrame p f => exact execFabricFrame_completes p f
  | credit p block => exact execCredit_completes p block
  | creditSend p => exact execCreditSend_completes p
  | fabricCaps p control data => exact execFabricCaps_completes p control data
  | announce p w0 w1 w2 => exact execAnnounce_completes p w0 w1 w2
  | announceSend => exact execAnnounceSend_completes
  | electionSettled => exact execElectionSettled_completes
  | fabricNoRoot => exact execFabricNoRoot_completes
  | report p words => exact execReport_completes p words
  | routeCompute => exact execRouteCompute_completes
  | assign p w0 w1 => exact execAssign_completes p w0 w1
  | routes words => exact execRoutes_completes words
  | routesAck src w0 => exact execRoutesAck_completes src w0
  | routesResend => exact execRoutesResend_completes
  | mailboxOpen src w0 => exact execMailboxOpen_completes src w0
  | mailboxWord src w0 w1 => exact execMailboxWord_completes src w0 w1
  | mailboxAck src w0 => exact execMailboxAck_completes src w0
  | mailboxClose src w0 => exact execMailboxClose_completes src w0
  | mailboxResend peer => exact execMailboxResend_completes peer
  | channelIdle peer => exact execChannelIdle_completes peer
  | encEvent src w0 w1 => exact execEncEvent_completes src w0 w1
  | bulk src words => exact execBulk_completes src words
  | governorMessage src w0 => exact execGovernorMessage_completes src w0
  | governorMessageSend => exact execGovernorMessageSend_completes
  | governorPeerLost src => exact execGovernorPeerLost_completes src
  | spdlimPeriod => exact execSpdlimPeriod_completes
  | holdReqRelease => exact execHoldReqRelease_completes
  | heartbeat src header w0 w1 w2 w3 => exact execHeartbeat_completes src header w0 w1 w2 w3
  | scheduleRecord src header w0 w1 w2 w3 => exact execScheduleRecord_completes src header w0 w1 w2 w3
  | grant src header w0 w1 w2 w3 => exact execGrant_completes src header w0 w1 w2 w3
  | accept src header w0 w1 w2 w3 => exact execAccept_completes src header w0 w1 w2 w3
  | health src header words => exact execHealth_completes src header words
  | heartbeatSend => exact execHeartbeatSend_completes
  | healthSend => exact execHealthSend_completes
  | pairPartnerLost => exact execPairPartnerLost_completes
  | grantResend pair => exact execGrantResend_completes pair
  | claimRelease => exact execClaimRelease_completes
  | compareTrigger n at_ => exact execCompareTrigger_completes n at_
  | ppsInEdge at_ => exact execPpsInEdge_completes at_
  | ppsOutSecond at_ => exact execPpsOutSecond_completes at_
  | timeReqSend at_ => exact execTimeReqSend_completes at_
  | timeReq src w0 w1 at_ => exact execTimeReq_completes src w0 w1 at_
  | timeResp src w0 w1 w2 w3 at_ => exact execTimeResp_completes src w0 w1 w2 w3 at_
  | timeServo at_ => exact execTimeServo_completes at_
  | timeLost => exact execTimeLost_completes
  | switchQualified sw held => exact execSwitchQualified_completes sw held
  | switchSetBad set => exact execSwitchSetBad_completes set
  | profileUpdate ax => exact execProfileUpdate_completes ax
  | holdDelay ax => exact execHoldDelay_completes ax
  | chopperTransition ax coil shows => exact execChopperTransition_completes ax coil shows
  | coilFault ax coil reason => exact execCoilFault_completes ax coil reason
  | encSignalRestored e => exact execEncSignalRestored_completes e
  | relayTransition e => exact execRelayTransition_completes e
  | camConnectionReset p => exact execCamConnectionReset_completes p
  | characterLock p locked => exact execCharacterLock_completes p locked
  | camBootstrapReply p r => exact execCamBootstrapReply_completes p r
  | camWriteAck p => exact execCamWriteAck_completes p
  | camWriteFail p timeout => exact execCamWriteFail_completes p timeout
  | camLockLoss p => exact execCamLockLoss_completes p
  | streamPacket p k => exact execStreamPacket_completes p k
  | cameraLine p samples reads => exact execCameraLine_completes p samples reads
  | frameTimeout p => exact execFrameTimeout_completes p
  | timeModeLine p => exact execTimeModeLine_completes p
  | compressorToken x => exact execCompressorToken_completes x
  | statsRecordProcess p => exact execStatsRecordProcess_completes p
  | nozzleReportLost slot node => exact execNozzleReportLost_completes slot node
  | healthMapPersist => exact execHealthMapPersist_completes
  | calTimeout proc => exact execCalTimeout_completes proc
  | calProcedureEnd proc m => exact execCalProcedureEnd_completes proc m
  | patrolScrubBurst r => exact execPatrolScrubBurst_completes r
  | dqsDriftUpdate readings => exact execDqsDriftUpdate_completes readings
  | refreshRateRead doubled => exact execRefreshRateRead_completes doubled
  | selftestBackground r => exact execSelftestBackground_completes r
  | engineSlice k matches_ => exact execEngineSlice_completes k matches_
  | switchRawChange sw level => exact execSwitchRawChange_completes sw level
  | selftestRunEnd r => exact execSelftestRunEnd_completes r
  | drivingBegins => exact execDrivingBegins_completes
  | ppsOutPulseEnd => exact execPpsOutPulseEnd_completes
  | docketReadCompletion ch tag r => exact execDocketReadCompletion_completes ch tag r

/-- Every step answers a next state, whose queue is the rest of the queue. -/
theorem step_completes (s : State) : ∃ t : State, step s = .next t ∧ (s.quiet → t.quiet) ∧ Onward { s with pending := s.pending.tail } t := by
  unfold step
  split
  · next h =>
    refine ⟨s.tick, rfl, fun hq => ?_, .of_fixed ?_⟩
    · unfold State.tick
      split <;> exact hq
    · rw [State.tick_fixed, h, List.tail_nil, ← h]
  · next i rest h =>
    rw [h, List.tail_cons]
    exact exec_completes i

/-! ### The statements -/

/-- Settles O4: every command of the table ends its step in a next state, and the end of a step queues its events. -/
theorem everyStepCompletesAndQueuesItsEvents : Obligations.EveryStepCompletesAndQueuesItsEvents := by
  intro s hs
  obtain ⟨t, ht, hq, -⟩ := step_completes s
  exact ⟨t, ht, hq hs⟩

/-- Settles O5: a step takes the front of the queue away, and no operation touches the rest. -/
theorem stepsTakeOneCommandEach : Obligations.StepsTakeOneCommandEach := by
  intro s t h
  obtain ⟨u, hu, -, hs⟩ := step_completes s
  obtain rfl : t = u := Host.Outcome.next.inj (h.symm.trans hu)
  exact hs.pending

/-- Settles O6: only LIFECYCLE_SET, PROVISION and READY move the fuses, and they move them forward. -/
theorem fusesNeverGoBack : Obligations.FusesNeverGoBack := by
  intro s t h
  obtain ⟨u, hu, -, hs⟩ := step_completes s
  obtain rfl : t = u := Host.Outcome.next.inj (h.symm.trans hu)
  exact ⟨hs.lifecycle, hs.svn, hs.imageKey, hs.caKey⟩

end Sys2Proof.Machine
end

section
/-!
SUPPORT. The step and the state after reset (O1, O2, O3).
-/

namespace Sys2Proof.Machine

variable {s : State}

/-- A cycle of the fire clock is counted while the fire PLL is locked, and is all that an idle step is (R492, log 1). -/
theorem State.tick_eq : s.tick = { s with time := { s.time with raw := if s.time.locked then s.time.raw + 1 else s.time.raw } } := by
  unfold State.tick
  split <;> rfl

/-- Settles O1: the queue of the state that a step takes apart is written out. -/
theorem stepRunsTheFrontCommand : Obligations.StepRunsTheFrontCommand := fun _ _ _ => rfl

/-- Settles O2: an idle step is a tick. -/
theorem emptyQueueCountsTheClock : Obligations.EmptyQueueCountsTheClock := by
  intro s h
  refine ⟨s.tick, ?_, ?_, ?_⟩
  · simp only [step, h]
  · rw [State.tick_eq]
  · rw [State.tick_eq]

/-- Settles O3: the fields of the state after reset are those its parts give. -/
theorem resetLeavesTheMachineAtRest : Obligations.ResetLeavesTheMachineAtRest := by
  unfold Obligations.ResetLeavesTheMachineAtRest
  have hq : ∀ n : Chan, State.reset.host.channels[n].outQ = [] := by decide
  have hl (l : LaneNo) : State.reset.lanes.lanes[l].st = .down := by simp [State.reset]
  exact ⟨rfl, rfl, rfl, rfl, rfl, rfl, rfl, rfl, rfl, rfl, rfl, rfl, rfl, rfl, hq, hl⟩

end Sys2Proof.Machine
end

section
/-!
SUPPORT. The fabric part but for its traffic.
-/

namespace Sys2Proof.Machine

variable (s : State)

/-- The fabric part but for its traffic: ports, channels, frames delivered and the round robin of the bundles. -/
def FabPart.config (f : FabPart) : FabPart :=
  { f with ports := Vector.replicate 32 {}, bundleNext := [], inbox := [], channels := [] }

@[simp] theorem State.setPort_fabConfig (p : FabPort) (f : FabPortState → FabPortState) : (s.setPort p f).fab.config = s.fab.config := rfl

@[simp] theorem State.setFabChan_fabConfig (n : NodeNo) (f : FabChannel → FabChannel) : (s.setFabChan n f).fab.config = s.fab.config := rfl

@[simp] theorem State.bundleStep_fabConfig (p q : FabPort) : (s.bundleStep p q).fab.config = s.fab.config := rfl

theorem FabPart.freed_config (f : FabPart) (w : WaitFrame) : (f.freed w).config = f.config := by
  unfold FabPart.freed
  split <;> rfl

theorem FabPart.slotsTo_config (f : FabPart) (p : FabPort) (n : Nat) : (f.slotsTo p n).1.config = f.config := by
  unfold FabPart.slotsTo
  exact foldl_same FabPart.config _ (fun g w => g.freed_config w) _ _

@[simp] theorem State.fabSlots_fabConfig (p : FabPort) : (s.fabSlots p).fab.config = s.fab.config := s.fab.slotsTo_config p _

@[simp] theorem State.fabFreed_fabConfig (src : Option FabPort) (cls : Fin 4) (n : Nat) : (s.fabFreed src cls n).fab.config = s.fab.config := by
  cases src <;> rfl

@[simp] theorem State.fabOutFrom_fabConfig (src : Option FabPort) (p : FabPort) (cls : Fin 4) (ws : List Word) :
    (s.fabOutFrom src p cls ws).fab.config = s.fab.config := by
  unfold State.fabOutFrom
  split <;> simp

@[simp] theorem State.fabRoute_fabConfig (src : Option FabPort) (cls : Fin 4) (dest : NodeNo) (ws : List Word) :
    (s.fabRoute src cls dest ws).fab.config = s.fab.config := by
  unfold State.fabRoute
  split
  · simp
  · split <;> simp

@[simp] theorem State.fabUp_fabConfig (src : Option FabPort) (cls : Fin 4) (ws : List Word) :
    (s.fabUp src cls ws).fab.config = s.fab.config := by
  unfold State.fabUp
  split <;> simp

@[simp] theorem State.fabSend_fabConfig (kind : Nat) (dest : NodeNo) (data : List Word) :
    (s.fabSend kind dest data).fab.config = s.fab.config := by
  unfold State.fabSend
  dsimp only
  split
  · rfl
  · split
    · rfl
    · split <;> simp

@[simp] theorem State.fabPump_fabConfig (n : NodeNo) : (s.fabPump n).fab.config = s.fab.config := by
  unfold State.fabPump
  split
  · rfl
  · split <;> simp

@[simp] theorem State.pushFab_fabConfig (n : NodeNo) (ws : List Word) : (s.pushFab n ws).fab.config = s.fab.config := by
  simp [State.pushFab]

@[simp] theorem State.eventFab_fabConfig (e : Code × BitVec 40) (n : NodeNo) : (s.eventFab e n).fab.config = s.fab.config := by
  unfold State.eventFab
  split
  · rfl
  · split
    · split <;> simp
    · rfl

/-! ### The starts that trigger inputs wait for -/

/-- The starts pending on each trigger input. -/
abbrev PrintPart.pendings (p : PrintPart) : Vector (List Nat) 4 := p.trigs.map (fun t => t.pending)

theorem State.setTrig_pendings (n : TrigNo) (f : TrigState → TrigState) (hf : ∀ t, (f t).pending = t.pending) :
    (s.setTrig n f).print.pendings = s.print.pendings := by
  unfold State.setTrig PrintPart.pendings
  ext i hi
  simp only [Vector.getElem_map, upd_get]
  split
  · rw [hf]
  · rfl

@[simp] theorem State.markNow_printPendings (n : TrigNo) : (s.markNow n).print.pendings = s.print.pendings :=
  s.setTrig_pendings n _ (fun _ => rfl)

@[simp] theorem State.pulse_printPendings (n : TrigNo) (line : Nat) : (s.pulse n line).print.pendings = s.print.pendings := by
  unfold State.pulse
  split
  · simp
  · exact s.setTrig_pendings n _ (fun _ => rfl)

/-- What an update of a tracking loop's source leaves of the sluice. -/
abbrev SluicePart.steady (q : SluicePart) : Vector Loop 2 × SluiceSettings × Nat := (q.loops, q.set, q.coreLine)

end Sys2Proof.Machine
end

section
/-!
SUPPORT. The ports and the channels of the fabric but for their traffic.
-/

namespace Sys2Proof.Machine

variable (s : State)

/-- A fabric port but for what waits, leaves and is freed on it. -/
@[simp] def FabPortState.wire (q : FabPortState) :=
  (q.neighbour, q.seen, q.capsSent, q.loopTold, q.freed, q.got, q.told, q.announce)

/-- A channel but for what waits to be sent on it, what runs, and events lost. -/
@[simp] def FabChannel.core (k : FabChannel) :=
  (k.peer, k.session, k.st, k.sendSeq, k.recvSeq, k.openSends, k.taken, k.posts)

abbrev FabPart.wires (f : FabPart) := f.ports.map FabPortState.wire

abbrev FabPart.cores (f : FabPart) := f.channels.map FabChannel.core

theorem upd_wires (v : Vector FabPortState 32) (p : FabPort) (f : FabPortState → FabPortState) (hf : ∀ q, (f q).wire = q.wire) :
    (upd v p f).map FabPortState.wire = v.map FabPortState.wire := by
  refine Vector.ext fun i hi => ?_
  simp only [Vector.getElem_map, upd_get]
  split
  · rw [hf]
  · rfl

@[simp] theorem State.setPort_fabWires (p : FabPort) (f : FabPortState → FabPortState) (hf : ∀ q, (f q).wire = q.wire) :
    (s.setPort p f).fab.wires = s.fab.wires := upd_wires _ p f hf

@[simp] theorem State.setFabChan_fabWires (n : NodeNo) (f : FabChannel → FabChannel) : (s.setFabChan n f).fab.wires = s.fab.wires := rfl

@[simp] theorem State.bundleStep_fabWires (p q : FabPort) : (s.bundleStep p q).fab.wires = s.fab.wires := rfl

theorem FabPortState.sendSlot_wire (q : FabPortState) (k : Nat) : (q.sendSlot k).1.wire = q.wire := by
  unfold FabPortState.sendSlot
  dsimp only
  split
  · rfl
  · split
    · rfl
    · split <;> rfl

theorem FabPortState.sendSlots_wire (n fuel : Nat) (q : FabPortState) : (q.sendSlots n fuel).1.wire = q.wire := by
  induction fuel generalizing q with
  | zero => rfl
  | succ fuel ih =>
    unfold FabPortState.sendSlots
    dsimp only
    generalize (if q.idle = true then max q.slot q.skipFrom else q.slot) = k
    split
    · rfl
    · exact (ih _).trans (q.sendSlot_wire _)

theorem FabPart.freed_wires (f : FabPart) (w : WaitFrame) : (f.freed w).wires = f.wires := by
  unfold FabPart.freed
  split
  · exact upd_wires _ _ _ (by exact fun _ => rfl)
  · rfl

theorem FabPart.slotsTo_wires (f : FabPart) (p : FabPort) (n : Nat) : (f.slotsTo p n).1.wires = f.wires := by
  unfold FabPart.slotsTo
  refine (foldl_same FabPart.wires _ (fun g w => g.freed_wires w) _ _).trans ?_
  refine Vector.ext fun i hi => ?_
  simp only [Vector.getElem_map, Vector.getElem_set]
  split
  · next h =>
    subst h
    exact FabPortState.sendSlots_wire ..
  · rfl

@[simp] theorem State.fabSlots_fabWires (p : FabPort) : (s.fabSlots p).fab.wires = s.fab.wires := s.fab.slotsTo_wires p _

@[simp] theorem State.fabFreed_fabWires (src : Option FabPort) (cls : Fin 4) (n : Nat) : (s.fabFreed src cls n).fab.wires = s.fab.wires := by
  cases src with
  | none => rfl
  | some p => exact s.setPort_fabWires p _ (by exact fun _ => rfl)

@[simp] theorem State.fabOutFrom_fabWires (src : Option FabPort) (p : FabPort) (cls : Fin 4) (ws : List Word) :
    (s.fabOutFrom src p cls ws).fab.wires = s.fab.wires := by
  unfold State.fabOutFrom
  split
  · exact s.fabFreed_fabWires ..
  · exact (State.setPort_fabWires _ p _ (by exact fun _ => rfl)).trans (s.fabSlots_fabWires p)

@[simp] theorem State.fabRoute_fabWires (src : Option FabPort) (cls : Fin 4) (dest : NodeNo) (ws : List Word) :
    (s.fabRoute src cls dest ws).fab.wires = s.fab.wires := by
  unfold State.fabRoute
  split
  · exact s.fabFreed_fabWires ..
  · split
    · exact (State.fabOutFrom_fabWires ..).trans (s.bundleStep_fabWires ..)
    · exact s.fabOutFrom_fabWires ..

@[simp] theorem State.fabUp_fabWires (src : Option FabPort) (cls : Fin 4) (ws : List Word) : (s.fabUp src cls ws).fab.wires = s.fab.wires := by
  unfold State.fabUp
  split
  · exact s.fabOutFrom_fabWires ..
  · exact s.fabFreed_fabWires ..

@[simp] theorem State.fabSend_fabWires (kind : Nat) (dest : NodeNo) (data : List Word) : (s.fabSend kind dest data).fab.wires = s.fab.wires := by
  unfold State.fabSend
  dsimp only
  split
  · rfl
  · split
    · rfl
    · split
      · exact s.fabUp_fabWires ..
      · exact s.fabRoute_fabWires ..

@[simp] theorem State.fabPump_fabWires (n : NodeNo) : (s.fabPump n).fab.wires = s.fab.wires := by
  unfold State.fabPump
  split
  · rfl
  · split
    · exact State.fabSend_fabWires ..
    · rfl

@[simp] theorem State.pushFab_fabWires (n : NodeNo) (ws : List Word) : (s.pushFab n ws).fab.wires = s.fab.wires := State.fabPump_fabWires ..

@[simp] theorem State.eventFab_fabWires (e : Code × BitVec 40) (n : NodeNo) : (s.eventFab e n).fab.wires = s.fab.wires := by
  unfold State.eventFab
  split
  · rfl
  · split
    · split
      · exact State.pushFab_fabWires ..
      · rfl
    · rfl

/-! ### Channels -/

@[simp] theorem State.setFabChan_fabCores (n : NodeNo) (f : FabChannel → FabChannel) (hf : ∀ k, (f k).core = k.core) :
    (s.setFabChan n f).fab.cores = s.fab.cores := by
  unfold State.setFabChan
  refine (List.map_map ..).trans (List.map_congr_left fun k _ => ?_)
  show (if k.peer == n then f k else k).core = k.core
  split
  · exact hf k
  · rfl

@[simp] theorem State.setPort_channels (p : FabPort) (f : FabPortState → FabPortState) : (s.setPort p f).fab.channels = s.fab.channels := rfl

@[simp] theorem State.bundleStep_channels (p q : FabPort) : (s.bundleStep p q).fab.channels = s.fab.channels := rfl

theorem FabPart.freed_channels (f : FabPart) (w : WaitFrame) : (f.freed w).channels = f.channels := by
  unfold FabPart.freed
  split <;> rfl

@[simp] theorem State.fabSlots_channels (p : FabPort) : (s.fabSlots p).fab.channels = s.fab.channels :=
  foldl_same FabPart.channels _ (fun g w => g.freed_channels w) _ _

@[simp] theorem State.fabFreed_channels (src : Option FabPort) (cls : Fin 4) (n : Nat) : (s.fabFreed src cls n).fab.channels = s.fab.channels := by
  cases src <;> rfl

@[simp] theorem State.fabOutFrom_channels (src : Option FabPort) (p : FabPort) (cls : Fin 4) (ws : List Word) :
    (s.fabOutFrom src p cls ws).fab.channels = s.fab.channels := by
  unfold State.fabOutFrom
  split
  · exact s.fabFreed_channels ..
  · exact s.fabSlots_channels p

@[simp] theorem State.fabRoute_channels (src : Option FabPort) (cls : Fin 4) (dest : NodeNo) (ws : List Word) :
    (s.fabRoute src cls dest ws).fab.channels = s.fab.channels := by
  unfold State.fabRoute
  split
  · exact s.fabFreed_channels ..
  · split
    · exact State.fabOutFrom_channels ..
    · exact s.fabOutFrom_channels ..

@[simp] theorem State.fabUp_channels (src : Option FabPort) (cls : Fin 4) (ws : List Word) : (s.fabUp src cls ws).fab.channels = s.fab.channels := by
  unfold State.fabUp
  split
  · exact s.fabOutFrom_channels ..
  · exact s.fabFreed_channels ..

@[simp] theorem State.fabSend_channels (kind : Nat) (dest : NodeNo) (data : List Word) : (s.fabSend kind dest data).fab.channels = s.fab.channels := by
  unfold State.fabSend
  dsimp only
  split
  · rfl
  · split
    · rfl
    · split
      · exact s.fabUp_channels ..
      · exact s.fabRoute_channels ..

@[simp] theorem State.fabSend_fabCores (kind : Nat) (dest : NodeNo) (data : List Word) : (s.fabSend kind dest data).fab.cores = s.fab.cores := by
  rw [FabPart.cores, State.fabSend_channels]

@[simp] theorem State.fabOutFrom_fabCores (src : Option FabPort) (p : FabPort) (cls : Fin 4) (ws : List Word) :
    (s.fabOutFrom src p cls ws).fab.cores = s.fab.cores := by rw [FabPart.cores, State.fabOutFrom_channels]

@[simp] theorem State.fabUp_fabCores (src : Option FabPort) (cls : Fin 4) (ws : List Word) : (s.fabUp src cls ws).fab.cores = s.fab.cores := by
  rw [FabPart.cores, State.fabUp_channels]

@[simp] theorem State.fabSlots_fabCores (p : FabPort) : (s.fabSlots p).fab.cores = s.fab.cores := by rw [FabPart.cores, State.fabSlots_channels]

@[simp] theorem State.setPort_fabCores (p : FabPort) (f : FabPortState → FabPortState) : (s.setPort p f).fab.cores = s.fab.cores := rfl

@[simp] theorem State.fabFreed_fabCores (src : Option FabPort) (cls : Fin 4) (n : Nat) : (s.fabFreed src cls n).fab.cores = s.fab.cores := by
  rw [FabPart.cores, State.fabFreed_channels]

@[simp] theorem State.fabPump_fabCores (n : NodeNo) : (s.fabPump n).fab.cores = s.fab.cores := by
  unfold State.fabPump
  split
  · rfl
  · split
    · exact (State.fabSend_fabCores ..).trans (s.setFabChan_fabCores n _ (by exact fun _ => rfl))
    · rfl

@[simp] theorem State.pushFab_fabCores (n : NodeNo) (ws : List Word) : (s.pushFab n ws).fab.cores = s.fab.cores :=
  (State.fabPump_fabCores ..).trans (s.setFabChan_fabCores n _ (by exact fun _ => rfl))

@[simp] theorem State.eventFab_fabCores (e : Code × BitVec 40) (n : NodeNo) : (s.eventFab e n).fab.cores = s.fab.cores := by
  unfold State.eventFab
  split
  · rfl
  · split
    · split
      · exact (State.pushFab_fabCores ..).trans (s.setFabChan_fabCores n _ (by exact fun _ => rfl))
      · exact s.setFabChan_fabCores n _ (by exact fun _ => rfl)
    · rfl

end Sys2Proof.Machine
end

section
/-!
SUPPORT. Frame lemmas: parts of the state that operations of the model leave as they are, for the proofs after this section.
-/

namespace Sys2Proof.Machine

variable (s : State)

/-! ### What leaves the part `cam` alone -/

@[simp] theorem State.setLane_cam (n : LaneNo) (f : LaneState → LaneState) : (s.setLane n f).cam = s.cam := by
  unfold State.setLane
  simp
@[simp] theorem State.correctedError_cam (burst : Nat) : (s.correctedError burst).cam = s.cam := by
  unfold State.correctedError
  dsimp only
  repeat' split
  all_goals simp
@[simp] theorem State.uncorrectable_cam (burst : BitVec 30) (source : Nat) : (s.uncorrectable burst source).cam = s.cam := by
  unfold State.uncorrectable
  simp
@[simp] theorem State.readBurst_cam (source : Nat) (b : BurstRead) : (s.readBurst source b).1.cam = s.cam := by
  unfold State.readBurst
  repeat' split
  all_goals simp
@[simp] theorem State.wroteIn_cam (region : Nat) : (s.wroteIn region).cam = s.cam := by
  unfold State.wroteIn
  repeat' split
  all_goals simp
@[simp] theorem State.merge_cam (a : Nat) : (s.merge a).1.cam = s.cam := by
  unfold State.merge
  repeat' split
  all_goals simp
@[simp] theorem State.logLowCheck_cam : (s.logLowCheck).cam = s.cam := by
  unfold State.logLowCheck
  repeat' split
  all_goals simp
@[simp] theorem State.logAppend_cam (ls : List (List Word × Bool)) : (s.logAppend ls).cam = s.cam := by
  simp [State.logAppend, foldl_same State.cam]
@[simp] theorem State.checkpoint_cam (kind : Nat) (l3 : List Word) : (s.checkpoint kind l3).cam = s.cam := by
  unfold State.checkpoint
  simp
@[simp] theorem State.chainLine_cam (w0 w1 w2 : Word) : (s.chainLine w0 w1 w2).cam = s.cam := by
  unfold State.chainLine
  dsimp only
  repeat' split
  all_goals simp
@[simp] theorem State.skipLine_cam (n : Fin 16) : (s.skipLine n).cam = s.cam := by
  unfold State.skipLine
  dsimp only
  repeat' split
  all_goals simp
@[simp] theorem State.resumeLog_cam : (s.resumeLog).cam = s.cam := by
  unfold State.resumeLog
  dsimp only
  repeat' split
  all_goals simp [foldl_same State.cam]
@[simp] theorem State.codeLine_cam (slot : Fin 16) (serial : BitVec 48) (mac : BitVec 40) (page : PageId) (tag : Word) (outcome : Nat) : (s.codeLine slot serial mac page tag outcome).cam = s.cam := by
  unfold State.codeLine
  repeat' split
  all_goals simp
@[simp] theorem State.sendTagged_cam (kind : Nat) (dest : NodeNo) (ws : List Word) : (s.sendTagged kind dest ws).cam = s.cam := by
  unfold State.sendTagged
  repeat' split
  all_goals simp
@[simp] theorem State.record_cam (rkind : Nat) (w1 w2 : Word) : (s.record rkind w1 w2).cam = s.cam := by
  unfold State.record
  repeat' split
  all_goals simp
@[simp] theorem State.dropPage_cam (id : PageId) : (s.dropPage id).cam = s.cam := by
  unfold State.dropPage
  simp
@[simp] theorem State.camWriteNext_cam (p : CamNo) : (s.camWriteNext p).cam = s.cam := by
  unfold State.camWriteNext
  repeat' split
  all_goals simp
@[simp] theorem State.syncChange_cam (n : Nozzle) (t : NozzleState) (x : PageId) : (s.syncChange n t x).cam = s.cam := by
  unfold State.syncChange
  dsimp only
  repeat' split
  all_goals simp
@[simp] theorem State.sendChange_cam (n : Nozzle) (t : NozzleState) (x : PageId) : (s.sendChange n t x).cam = s.cam := by
  unfold State.sendChange
  simp
@[simp] theorem State.applySyncs_cam (id : PageId) : (s.applySyncs id).cam = s.cam := by
  unfold State.applySyncs
  repeat' split
  all_goals simp
@[simp] theorem State.logCode_cam (d : PageDesc) (serial : Option (BitVec 48 × BitVec 40)) (outcome : Nat) : (s.logCode d serial outcome).cam = s.cam := by
  unfold State.logCode
  repeat' split
  all_goals simp
@[simp] theorem State.setQ_cam (id : PageId) (f : QEntry → QEntry) : (s.setQ id f).cam = s.cam := by
  unfold State.setQ
  simp
@[simp] theorem State.dropRun_cam (p : CalProc) : (s.dropRun p).cam = s.cam := by
  unfold State.dropRun
  repeat' split
  all_goals simp
@[simp] theorem State.calAnswer_cam (r : CalRun) (st : Code) (n : Nat) : (s.calAnswer r st n).cam = s.cam := by
  unfold State.calAnswer
  simp
@[simp] theorem State.calFail_cam (r : CalRun) (reason : Nat) : (s.calFail r reason).cam = s.cam := by
  unfold State.calFail
  simp
@[simp] theorem State.rolloutStep_cam (id : PageId) : (s.rolloutStep id).cam = s.cam := by
  unfold State.rolloutStep
  repeat' split
  all_goals simp
@[simp] theorem State.dropFallbackSerial_cam : (s.dropFallbackSerial).cam = s.cam := by
  unfold State.dropFallbackSerial
  repeat' split
  all_goals simp
@[simp] theorem State.openChan_cam (n : NodeNo) : (s.openChan n).cam = s.cam := by
  unfold State.openChan
  repeat' split
  all_goals simp
@[simp] theorem State.postPeer_cam (n : NodeNo) (opcode : Byte) (arg : BitVec 48) (asker : Option Cmd) (slot : Option Nat) : (s.postPeer n opcode arg asker slot).cam = s.cam := by
  unfold State.postPeer
  repeat' split
  all_goals simp
@[simp] theorem State.sendReport_cam (n : NodeNo) : (s.sendReport n).cam = s.cam := by
  unfold State.sendReport
  repeat' split
  all_goals simp
@[simp] theorem State.sendReports_cam (n : NodeNo) : (s.sendReports n).cam = s.cam := by
  simp [State.sendReports, foldl_same State.cam]
@[simp] theorem State.report_cam (n : NodeNo) (slot : Nat) (args : List (BitVec 48)) : (s.report n slot args).cam = s.cam := by
  unfold State.report
  dsimp only
  repeat' split
  all_goals simp
@[simp] theorem State.putNozzle_cam (n : Nozzle) (r : NozzleRec) : (s.putNozzle n r).cam = s.cam := by
  unfold State.putNozzle
  simp
@[simp] theorem State.nozzleEvent_cam (n : Nozzle) (old new : NozzleState) (cause : Nat) : (s.nozzleEvent n old new cause).cam = s.cam := by
  unfold State.nozzleEvent
  repeat' split
  all_goals simp
@[simp] theorem State.strike_cam (n : Nozzle) (v : Verdict) : (s.strike n v).cam = s.cam := by
  unfold State.strike
  dsimp only
  repeat' split
  all_goals simp
@[simp] theorem State.calStrip_cam (m : NozzleMap) (g : CamPage) (uncertain : Bool) (js : List (Nozzle × Verdict × Rat)) (r : CalRun) : (s.calStrip m g uncertain js r).cam = s.cam := by
  unfold State.calStrip
  repeat' split
  all_goals simp
@[simp] theorem State.sendSlot_cam (slot : Nat) (js : List (StripSignal × Verdict × Rat)) : (s.sendSlot slot js).cam = s.cam := by
  unfold State.sendSlot
  dsimp only
  repeat' split
  all_goals simp [foldl_same State.cam]
@[simp] theorem State.ownSlot_cam (m : NozzleMap) (g : CamPage) (uncertain : Bool) (js : List (StripSignal × Verdict × Rat)) : (s.ownSlot m g uncertain js).cam = s.cam := by
  unfold State.ownSlot
  dsimp only
  repeat' split
  all_goals simp [foldl_same State.cam]
@[simp] theorem State.judgeStrip_cam (g : CamPage) (r : StatsRec) (k : StripGather) : (s.judgeStrip g r k).cam = s.cam := by
  unfold State.judgeStrip
  split
  · rfl
  · refine foldl_same State.cam _ (fun t x => ?_) _ _
    dsimp only
    split <;> simp
@[simp] theorem State.gatherStrip_cam (p : CamNo) (r : StatsRec) : (s.gatherStrip p r).cam = s.cam := by
  unfold State.gatherStrip
  dsimp only
  repeat' split
  all_goals simp
@[simp] theorem State.camLockCount_cam (p : CamNo) : (s.camLockCount p).cam = s.cam := by
  unfold State.camLockCount
  simp
@[simp] theorem State.camFrameErr_cam (p : CamNo) : (s.camFrameErr p).cam = s.cam := by
  unfold State.camFrameErr
  simp
@[simp] theorem State.streaks_cam (p : CamNo) (r : StatsRec) : (s.streaks p r).cam = s.cam := by
  simp [State.streaks, foldl_same State.cam]
@[simp] theorem State.checkEq_cam : (s.checkEq).cam = s.cam := by
  unfold State.checkEq
  dsimp only
  repeat' split
  all_goals simp
@[simp] theorem State.equalise_cam (n : LaneNo) : (s.equalise n).cam = s.cam := by
  unfold State.equalise
  repeat' split
  all_goals simp
@[simp] theorem State.endpointTrains_cam : (s.endpointTrains).cam = s.cam := by
  simp [State.endpointTrains, foldl_same State.cam]
@[simp] theorem State.loadKernels_cam : (s.loadKernels).cam = s.cam := by
  unfold State.loadKernels
  dsimp only
  repeat' split
  all_goals simp [foldl_same State.cam]

/-! ### What leaves the part `cist` alone -/

@[simp] theorem State.setLane_cist (n : LaneNo) (f : LaneState → LaneState) : (s.setLane n f).cist = s.cist := by
  unfold State.setLane
  simp
@[simp] theorem State.allFabSlots_cist : (s.allFabSlots).cist = s.cist := by
  exact foldl_same State.cist _ (fun t v => by split <;> simp) _ _
@[simp] theorem State.correctedError_cist (burst : Nat) : (s.correctedError burst).cist = s.cist := by
  unfold State.correctedError
  dsimp only
  repeat' split
  all_goals simp
@[simp] theorem State.uncorrectable_cist (burst : BitVec 30) (source : Nat) : (s.uncorrectable burst source).cist = s.cist := by
  unfold State.uncorrectable
  simp
@[simp] theorem State.readBurst_cist (source : Nat) (b : BurstRead) : (s.readBurst source b).1.cist = s.cist := by
  unfold State.readBurst
  repeat' split
  all_goals simp
@[simp] theorem State.merge_cist (a : Nat) : (s.merge a).1.cist = s.cist := by
  unfold State.merge
  repeat' split
  all_goals simp
@[simp] theorem State.logLowCheck_cist : (s.logLowCheck).cist = s.cist := by
  unfold State.logLowCheck
  repeat' split
  all_goals simp
@[simp] theorem State.logAppend_cist (ls : List (List Word × Bool)) : (s.logAppend ls).cist = s.cist := by
  simp [State.logAppend, foldl_same State.cist]
@[simp] theorem State.checkpoint_cist (kind : Nat) (l3 : List Word) : (s.checkpoint kind l3).cist = s.cist := by
  unfold State.checkpoint
  simp
@[simp] theorem State.chainLine_cist (w0 w1 w2 : Word) : (s.chainLine w0 w1 w2).cist = s.cist := by
  unfold State.chainLine
  dsimp only
  repeat' split
  all_goals simp
@[simp] theorem State.skipLine_cist (n : Fin 16) : (s.skipLine n).cist = s.cist := by
  unfold State.skipLine
  dsimp only
  repeat' split
  all_goals simp
@[simp] theorem State.resumeLog_cist : (s.resumeLog).cist = s.cist := by
  unfold State.resumeLog
  dsimp only
  repeat' split
  all_goals simp [foldl_same State.cist]
@[simp] theorem State.codeLine_cist (slot : Fin 16) (serial : BitVec 48) (mac : BitVec 40) (page : PageId) (tag : Word) (outcome : Nat) : (s.codeLine slot serial mac page tag outcome).cist = s.cist := by
  unfold State.codeLine
  repeat' split
  all_goals simp
@[simp] theorem State.askHeader_cist (k : SlotNo) (f : Flight) : (s.askHeader k f).cist = s.cist := by
  unfold State.askHeader
  repeat' split
  all_goals simp
@[simp] theorem State.askHeld_cist : (s.askHeld).cist = s.cist := by
  refine foldl_same State.cist _ (fun t x => ?_) _ _
  repeat' split
  all_goals simp
@[simp] theorem State.dropPage_cist (id : PageId) : (s.dropPage id).cist = s.cist := by
  unfold State.dropPage
  simp
@[simp] theorem State.logCode_cist (d : PageDesc) (serial : Option (BitVec 48 × BitVec 40)) (outcome : Nat) : (s.logCode d serial outcome).cist = s.cist := by
  unfold State.logCode
  repeat' split
  all_goals simp
@[simp] theorem State.portSlots_cist (p : HeadPort) : (s.portSlots p).cist = s.cist := by
  unfold State.portSlots
  repeat' split
  all_goals simp
@[simp] theorem State.headSlots_cist : (s.headSlots).cist = s.cist := by
  simp [State.headSlots, foldl_same State.cist]
@[simp] theorem State.allSlots_cist : (s.allSlots).cist = s.cist := by
  unfold State.allSlots
  simp
@[simp] theorem State.dropFallbackSerial_cist : (s.dropFallbackSerial).cist = s.cist := by
  unfold State.dropFallbackSerial
  repeat' split
  all_goals simp
@[simp] theorem State.takeFrame_cist (kind : Nat) (data : List Word) : (s.takeFrame kind data).cist = s.cist := by
  unfold State.takeFrame
  repeat' split
  all_goals simp
@[simp] theorem State.placeFrame_cist (src : NodeNo) (words : List Word) : (s.placeFrame src words).cist = s.cist := by
  unfold State.placeFrame
  simp
@[simp] theorem State.placeHeld_cist : (s.placeHeld).cist = s.cist := by
  unfold State.placeHeld
  dsimp only
  repeat' split
  all_goals simp [foldl_same State.cist]
@[simp] theorem State.checkEq_cist : (s.checkEq).cist = s.cist := by
  unfold State.checkEq
  dsimp only
  repeat' split
  all_goals simp
@[simp] theorem State.equalise_cist (n : LaneNo) : (s.equalise n).cist = s.cist := by
  unfold State.equalise
  repeat' split
  all_goals simp
@[simp] theorem State.endpointTrains_cist : (s.endpointTrains).cist = s.cist := by
  simp [State.endpointTrains, foldl_same State.cist]
@[simp] theorem State.loadKernels_cist : (s.loadKernels).cist = s.cist := by
  unfold State.loadKernels
  dsimp only
  repeat' split
  all_goals simp [foldl_same State.cist]

/-! ### What leaves the part `dram` alone -/

@[simp] theorem State.setLane_dram (n : LaneNo) (f : LaneState → LaneState) : (s.setLane n f).dram = s.dram := by
  unfold State.setLane
  simp
@[simp] theorem State.dropPage_dram (id : PageId) : (s.dropPage id).dram = s.dram := by
  unfold State.dropPage
  simp
@[simp] theorem State.writeHealth_dram : (s.writeHealth).dram = s.dram := by
  unfold State.writeHealth
  simp
@[simp] theorem State.setPower_dram (p : Power) (src : PowerSource) : (s.setPower p src).dram = s.dram := by
  unfold State.setPower
  simp
@[simp] theorem State.setCtx_dram (fallback : Bool) (f : PageCtx → PageCtx) : (s.setCtx fallback f).dram = s.dram := by
  unfold State.setCtx
  simp
@[simp] theorem State.checkEq_dram : (s.checkEq).dram = s.dram := by
  unfold State.checkEq
  dsimp only
  repeat' split
  all_goals simp
@[simp] theorem State.equalise_dram (n : LaneNo) : (s.equalise n).dram = s.dram := by
  unfold State.equalise
  repeat' split
  all_goals simp
@[simp] theorem State.endpointTrains_dram : (s.endpointTrains).dram = s.dram := by
  simp [State.endpointTrains, foldl_same State.dram]
@[simp] theorem State.loadKernels_dram : (s.loadKernels).dram = s.dram := by
  unfold State.loadKernels
  dsimp only
  repeat' split
  all_goals simp [foldl_same State.dram]

/-! ### What leaves the part `draws` alone -/

@[simp] theorem State.setLane_draws (n : LaneNo) (f : LaneState → LaneState) : (s.setLane n f).draws = s.draws := by
  unfold State.setLane
  simp
@[simp] theorem State.allFabSlots_draws : (s.allFabSlots).draws = s.draws := by
  exact foldl_same State.draws _ (fun t v => by split <;> simp) _ _
@[simp] theorem State.dropPage_draws (id : PageId) : (s.dropPage id).draws = s.draws := by
  unfold State.dropPage
  simp
@[simp] theorem State.portSlots_draws (p : HeadPort) : (s.portSlots p).draws = s.draws := by
  unfold State.portSlots
  repeat' split
  all_goals simp
@[simp] theorem State.headSlots_draws : (s.headSlots).draws = s.draws := by
  simp [State.headSlots, foldl_same State.draws]
@[simp] theorem State.allSlots_draws : (s.allSlots).draws = s.draws := by
  unfold State.allSlots
  simp
@[simp] theorem State.checkEq_draws : (s.checkEq).draws = s.draws := by
  unfold State.checkEq
  dsimp only
  repeat' split
  all_goals simp
@[simp] theorem State.equalise_draws (n : LaneNo) : (s.equalise n).draws = s.draws := by
  unfold State.equalise
  repeat' split
  all_goals simp
@[simp] theorem State.endpointTrains_draws : (s.endpointTrains).draws = s.draws := by
  simp [State.endpointTrains, foldl_same State.draws]
@[simp] theorem State.loadKernels_draws : (s.loadKernels).draws = s.draws := by
  unfold State.loadKernels
  dsimp only
  repeat' split
  all_goals simp [foldl_same State.draws]

/-! ### What leaves the part `enc` alone -/

@[simp] theorem State.setLane_enc (n : LaneNo) (f : LaneState → LaneState) : (s.setLane n f).enc = s.enc := by
  unfold State.setLane
  simp
@[simp] theorem State.allFabSlots_enc : (s.allFabSlots).enc = s.enc := by
  exact foldl_same State.enc _ (fun t v => by split <;> simp) _ _
@[simp] theorem State.correctedError_enc (burst : Nat) : (s.correctedError burst).enc = s.enc := by
  unfold State.correctedError
  dsimp only
  repeat' split
  all_goals simp
@[simp] theorem State.uncorrectable_enc (burst : BitVec 30) (source : Nat) : (s.uncorrectable burst source).enc = s.enc := by
  unfold State.uncorrectable
  simp
@[simp] theorem State.readBurst_enc (source : Nat) (b : BurstRead) : (s.readBurst source b).1.enc = s.enc := by
  unfold State.readBurst
  repeat' split
  all_goals simp
@[simp] theorem State.wroteIn_enc (region : Nat) : (s.wroteIn region).enc = s.enc := by
  unfold State.wroteIn
  repeat' split
  all_goals simp
@[simp] theorem State.merge_enc (a : Nat) : (s.merge a).1.enc = s.enc := by
  unfold State.merge
  repeat' split
  all_goals simp
@[simp] theorem State.logLowCheck_enc : (s.logLowCheck).enc = s.enc := by
  unfold State.logLowCheck
  repeat' split
  all_goals simp
@[simp] theorem State.logAppend_enc (ls : List (List Word × Bool)) : (s.logAppend ls).enc = s.enc := by
  simp [State.logAppend, foldl_same State.enc]
@[simp] theorem State.checkpoint_enc (kind : Nat) (l3 : List Word) : (s.checkpoint kind l3).enc = s.enc := by
  unfold State.checkpoint
  simp
@[simp] theorem State.chainLine_enc (w0 w1 w2 : Word) : (s.chainLine w0 w1 w2).enc = s.enc := by
  unfold State.chainLine
  dsimp only
  repeat' split
  all_goals simp
@[simp] theorem State.skipLine_enc (n : Fin 16) : (s.skipLine n).enc = s.enc := by
  unfold State.skipLine
  dsimp only
  repeat' split
  all_goals simp
@[simp] theorem State.resumeLog_enc : (s.resumeLog).enc = s.enc := by
  unfold State.resumeLog
  dsimp only
  repeat' split
  all_goals simp [foldl_same State.enc]
@[simp] theorem State.codeLine_enc (slot : Fin 16) (serial : BitVec 48) (mac : BitVec 40) (page : PageId) (tag : Word) (outcome : Nat) : (s.codeLine slot serial mac page tag outcome).enc = s.enc := by
  unfold State.codeLine
  repeat' split
  all_goals simp
@[simp] theorem State.sendTagged_enc (kind : Nat) (dest : NodeNo) (ws : List Word) : (s.sendTagged kind dest ws).enc = s.enc := by
  unfold State.sendTagged
  repeat' split
  all_goals simp
@[simp] theorem State.record_enc (rkind : Nat) (w1 w2 : Word) : (s.record rkind w1 w2).enc = s.enc := by
  unfold State.record
  repeat' split
  all_goals simp
@[simp] theorem State.beat_enc : (s.beat).enc = s.enc := by
  unfold State.beat
  dsimp only
  repeat' split
  all_goals simp [foldl_same State.enc]
@[simp] theorem State.diverge_enc (page : PageId) (cause : Nat) : (s.diverge page cause).enc = s.enc := by
  unfold State.diverge
  repeat' split
  all_goals simp
@[simp] theorem State.dropPage_enc (id : PageId) : (s.dropPage id).enc = s.enc := by
  unfold State.dropPage
  simp
@[simp] theorem State.setCam_enc (p : CamNo) (f : CamState → CamState) : (s.setCam p f).enc = s.enc := by
  unfold State.setCam
  simp
@[simp] theorem State.tapsBegin_enc (p : CamNo) (set : CamShadow) (n : Nat) : (s.tapsBegin p set n).enc = s.enc := by
  refine foldl_same State.enc _ (fun t k => ?_) _ _
  dsimp only
  repeat' split
  all_goals simp
@[simp] theorem State.camWriteNext_enc (p : CamNo) : (s.camWriteNext p).enc = s.enc := by
  unfold State.camWriteNext
  repeat' split
  all_goals simp
@[simp] theorem State.camWrites_enc (p : CamNo) (gen : BitVec 16) (regs : List (BitVec 32 × BitVec 32)) : (s.camWrites p gen regs).enc = s.enc := by
  unfold State.camWrites
  dsimp only
  repeat' split
  all_goals simp
@[simp] theorem State.openFrame_enc (p : CamNo) (g : Option CamPage) (n positions gp : Nat) (time : Option Nat) : (s.openFrame p g n positions gp time).enc = s.enc := by
  unfold State.openFrame
  dsimp only
  repeat' split
  all_goals simp
@[simp] theorem State.addStats_enc (p : CamNo) (r : StatsRec) : (s.addStats p r).enc = s.enc := by
  simp [State.addStats, foldl_same State.enc]
@[simp] theorem State.closeFrame_enc (p : CamNo) (f : Frame) (status cause : Nat) : (s.closeFrame p f status cause).enc = s.enc := by
  unfold State.closeFrame
  dsimp only
  repeat' split
  all_goals simp
@[simp] theorem State.settleFrames_enc (p : CamNo) : (s.settleFrames p).enc = s.enc := by
  refine foldl_same State.enc _ (fun t x => ?_) _ _
  repeat' split
  all_goals simp
@[simp] theorem State.sendTrigger_enc (p : CamNo) (fr : Option Nat) (n : Nat) (im : Int) (t : Rat) (last : Bool) : (s.sendTrigger p fr n im t last).enc = s.enc := by
  unfold State.sendTrigger
  dsimp only
  repeat' split
  all_goals simp
@[simp] theorem State.camTrigger_enc (p : CamNo) (n : Nat) (tf : Rat) : (s.camTrigger p n tf).enc = s.enc := by
  unfold State.camTrigger
  dsimp only
  repeat' split
  all_goals simp
@[simp] theorem State.camTriggers_enc (n : Nat) (tf : Rat) : (s.camTriggers n tf).enc = s.enc := by
  simp [State.camTriggers, foldl_same State.enc]
@[simp] theorem State.setTrig_enc (n : TrigNo) (f : TrigState → TrigState) : (s.setTrig n f).enc = s.enc := by
  unfold State.setTrig
  simp
@[simp] theorem State.markNow_enc (n : TrigNo) : (s.markNow n).enc = s.enc := by
  unfold State.markNow
  simp
@[simp] theorem State.pulse_enc (n : TrigNo) (line : Nat) : (s.pulse n line).enc = s.enc := by
  unfold State.pulse
  repeat' split
  all_goals simp
@[simp] theorem State.pulseFor_enc (n : TrigNo) (start : Nat) : (s.pulseFor n start).enc = s.enc := by
  unfold State.pulseFor
  simp
@[simp] theorem State.addDefect_enc (r : DefectRecord) : (s.addDefect r).enc = s.enc := by
  unfold State.addDefect
  repeat' split
  all_goals simp
@[simp] theorem State.defect_enc (k : DefectKind) (first last : Int) : (s.defect k first last).enc = s.enc := by
  unfold State.defect
  repeat' split
  all_goals simp
@[simp] theorem State.dryEnd_enc : (s.dryEnd).enc = s.enc := by
  unfold State.dryEnd
  repeat' split
  all_goals simp
@[simp] theorem State.logCode_enc (d : PageDesc) (serial : Option (BitVec 48 × BitVec 40)) (outcome : Nat) : (s.logCode d serial outcome).enc = s.enc := by
  unfold State.logCode
  repeat' split
  all_goals simp
@[simp] theorem State.dropRun_enc (p : CalProc) : (s.dropRun p).enc = s.enc := by
  unfold State.dropRun
  repeat' split
  all_goals simp
@[simp] theorem State.calAnswer_enc (r : CalRun) (st : Code) (n : Nat) : (s.calAnswer r st n).enc = s.enc := by
  unfold State.calAnswer
  simp
@[simp] theorem State.calFail_enc (r : CalRun) (reason : Nat) : (s.calFail r reason).enc = s.enc := by
  unfold State.calFail
  simp
@[simp] theorem State.calCheck_enc (of : CalProc → Bool) : (s.calCheck of).enc = s.enc := by
  refine foldl_same State.enc _ (fun t x => ?_) _ _
  repeat' split
  all_goals simp
@[simp] theorem State.setHead_enc (p : HeadPort) (f : HeadState → HeadState) : (s.setHead p f).enc = s.enc := by
  unfold State.setHead
  simp
@[simp] theorem State.portSlots_enc (p : HeadPort) : (s.portSlots p).enc = s.enc := by
  unfold State.portSlots
  repeat' split
  all_goals simp
@[simp] theorem State.offer_enc (p : HeadPort) (x : TxItem) : (s.offer p x).enc = s.enc := by
  unfold State.offer
  simp
@[simp] theorem State.headSlots_enc : (s.headSlots).enc = s.enc := by
  simp [State.headSlots, foldl_same State.enc]
@[simp] theorem State.allSlots_enc : (s.allSlots).enc = s.enc := by
  unfold State.allSlots
  simp
@[simp] theorem State.sendFrames_enc (m : NozzleMap) (depth n : Nat) (codes : Option (HeadRec → List Nat)) : (s.sendFrames m depth n codes).enc = s.enc := by
  unfold State.sendFrames
  split
  · rfl
  · exact foldl_same State.enc _ (fun t x => by split <;> simp) _ _
@[simp] theorem State.sendLine_enc (q : Place) (n : Nat) : (s.sendLine q n).enc = s.enc := by
  unfold State.sendLine
  repeat' split
  all_goals simp
@[simp] theorem State.judgeBlank_enc (page : PageId) (n : Nat) : (s.judgeBlank page n).enc = s.enc := by
  unfold State.judgeBlank
  repeat' split
  all_goals simp
@[simp] theorem State.assemble_enc (n : Nat) : (s.assemble n).enc = s.enc := by
  unfold State.assemble
  repeat' split
  all_goals simp
@[simp] theorem State.assembleAgain_enc (a b : Nat) : (s.assembleAgain a b).enc = s.enc := by
  simp [State.assembleAgain, foldl_same State.enc]
@[simp] theorem State.fixStart_enc (start : Nat) : (s.fixStart start).enc = s.enc := by
  unfold State.fixStart
  simp
@[simp] theorem State.dropFallbackSerial_enc : (s.dropFallbackSerial).enc = s.enc := by
  unfold State.dropFallbackSerial
  repeat' split
  all_goals simp
@[simp] theorem State.encEvent_enc (event : Nat) (k : EncNo) : (s.encEvent event k).enc = s.enc := by
  unfold State.encEvent
  split
  · exact foldl_same State.enc _ (fun t x => by simp) _ _
  · rfl
@[simp] theorem State.token_enc (base : Nat) (k : TokenKind) (n : Nat) (p : PortSent) (tf : Rat) (period : Nat) : (s.token base k n p tf period).1.enc = s.enc := by
  unfold State.token
  repeat' split
  all_goals simp
@[simp] theorem State.holdPort_enc (base n : Nat) (p : PortSent) : (s.holdPort base n p).1.enc = s.enc := by
  unfold State.holdPort
  repeat' split
  all_goals simp
@[simp] theorem State.revisePort_enc (base n : Nat) (p : PortSent) (tc tf : Rat) (period : Nat) : (s.revisePort base n p tc tf period).1.enc = s.enc := by
  unfold State.revisePort
  repeat' split
  all_goals simp
@[simp] theorem State.lateness_enc (n : Nat) (late : Bool) (by_ : Rat) : (s.lateness n late by_).enc = s.enc := by
  unfold State.lateness
  repeat' split
  all_goals simp

/-- Going over the ports touches nothing that the step of each port does not. -/
theorem eachPort_enc {f : State → PortSent → State × PortSent × Bool} (hf : ∀ t p, (f t p).1.enc = t.enc) (ps : List PortSent) :
    (eachPort f s ps).1.enc = s.enc :=
  foldl_same (fun p : State × List PortSent × Bool => p.1.enc) _ (fun t p => hf _ _) _ _
@[simp] theorem State.reviseLine_enc (l : AllocLine) (before : Option Rat) : (s.reviseLine l before).1.enc = s.enc := by
  unfold State.reviseLine
  dsimp only
  repeat' split
  all_goals simp [eachPort_enc]
@[simp] theorem State.reviseLines_enc : (s.reviseLines).enc = s.enc := by
  have h (l : List AllocLine) (t : State) : (l.foldl (fun (acc : State × List AllocLine) l =>
      let before := match acc.2.getLast? with | some p => if p.n + 1 = l.n then some p.fires else l.base | none => l.base
      let r := acc.1.reviseLine l before
      (r.1, acc.2 ++ [r.2])) (t, [])).1.enc = t.enc :=
    foldl_same (fun p : State × List AllocLine => p.1.enc) _ (fun t x => by simp) _ _
  exact h _ _
@[simp] theorem State.retire_enc : (s.retire).enc = s.enc := by
  simp [State.retire, foldl_same State.enc]
@[simp] theorem State.fireLine_enc (n : Nat) (nl : NextLine) (pl : Place) (tc tf : Rat) : (s.fireLine n nl pl tc tf).enc = s.enc := by
  simp [State.fireLine, eachPort_enc]
@[simp] theorem State.checkReversal_enc (q : Rat) (down : Bool) : (s.checkReversal q down).enc = s.enc := by
  unfold State.checkReversal
  dsimp only
  repeat' split
  all_goals simp
@[simp] theorem State.switchEncoder_enc : (s.switchEncoder).enc = s.enc := by
  unfold State.switchEncoder
  repeat' split
  all_goals simp
@[simp] theorem State.readyCheck_enc : (s.readyCheck).enc = s.enc := by
  unfold State.readyCheck
  dsimp only
  repeat' split
  all_goals simp
@[simp] theorem State.aligned_enc (k : EncNo) (method : Nat) (off : Int) : (s.aligned k method off).enc = s.enc := by
  unfold State.aligned
  repeat' split
  all_goals simp
@[simp] theorem State.ownIndex_enc (k : EncNo) (count : Int) : (s.ownIndex k count).enc = s.enc := by
  unfold State.ownIndex
  dsimp only
  repeat' split
  all_goals simp
@[simp] theorem State.takeFrame_enc (kind : Nat) (data : List Word) : (s.takeFrame kind data).enc = s.enc := by
  unfold State.takeFrame
  repeat' split
  all_goals simp
@[simp] theorem State.setAxis_enc (a : AxisNo) (f : AxisState → AxisState) : (s.setAxis a f).enc = s.enc := by
  unfold State.setAxis
  simp
@[simp] theorem State.limitStop_enc (a : AxisNo) (cause : Nat) : (s.limitStop a cause).enc = s.enc := by
  unfold State.limitStop
  dsimp only
  repeat' split
  all_goals simp
@[simp] theorem State.checkEq_enc : (s.checkEq).enc = s.enc := by
  unfold State.checkEq
  dsimp only
  repeat' split
  all_goals simp
@[simp] theorem State.equalise_enc (n : LaneNo) : (s.equalise n).enc = s.enc := by
  unfold State.equalise
  repeat' split
  all_goals simp
@[simp] theorem State.endpointTrains_enc : (s.endpointTrains).enc = s.enc := by
  simp [State.endpointTrains, foldl_same State.enc]
@[simp] theorem State.loadKernels_enc : (s.loadKernels).enc = s.enc := by
  unfold State.loadKernels
  dsimp only
  repeat' split
  all_goals simp [foldl_same State.enc]
@[simp] theorem State.updateLoop_enc (e : EncNo) : (s.updateLoop e).enc = s.enc := by
  unfold State.updateLoop
  simp

/-! ### What leaves the part `eng` alone -/

@[simp] theorem State.setLane_eng (n : LaneNo) (f : LaneState → LaneState) : (s.setLane n f).eng = s.eng := by
  unfold State.setLane
  simp
@[simp] theorem State.allFabSlots_eng : (s.allFabSlots).eng = s.eng := by
  exact foldl_same State.eng _ (fun t v => by split <;> simp) _ _
@[simp] theorem State.correctedError_eng (burst : Nat) : (s.correctedError burst).eng = s.eng := by
  unfold State.correctedError
  dsimp only
  repeat' split
  all_goals simp
@[simp] theorem State.uncorrectable_eng (burst : BitVec 30) (source : Nat) : (s.uncorrectable burst source).eng = s.eng := by
  unfold State.uncorrectable
  simp
@[simp] theorem State.readBurst_eng (source : Nat) (b : BurstRead) : (s.readBurst source b).1.eng = s.eng := by
  unfold State.readBurst
  repeat' split
  all_goals simp
@[simp] theorem State.wroteIn_eng (region : Nat) : (s.wroteIn region).eng = s.eng := by
  unfold State.wroteIn
  repeat' split
  all_goals simp
@[simp] theorem State.merge_eng (a : Nat) : (s.merge a).1.eng = s.eng := by
  unfold State.merge
  repeat' split
  all_goals simp
@[simp] theorem State.logLowCheck_eng : (s.logLowCheck).eng = s.eng := by
  unfold State.logLowCheck
  repeat' split
  all_goals simp
@[simp] theorem State.logAppend_eng (ls : List (List Word × Bool)) : (s.logAppend ls).eng = s.eng := by
  simp [State.logAppend, foldl_same State.eng]
@[simp] theorem State.checkpoint_eng (kind : Nat) (l3 : List Word) : (s.checkpoint kind l3).eng = s.eng := by
  unfold State.checkpoint
  simp
@[simp] theorem State.chainLine_eng (w0 w1 w2 : Word) : (s.chainLine w0 w1 w2).eng = s.eng := by
  unfold State.chainLine
  dsimp only
  repeat' split
  all_goals simp
@[simp] theorem State.skipLine_eng (n : Fin 16) : (s.skipLine n).eng = s.eng := by
  unfold State.skipLine
  dsimp only
  repeat' split
  all_goals simp
@[simp] theorem State.resumeLog_eng : (s.resumeLog).eng = s.eng := by
  unfold State.resumeLog
  dsimp only
  repeat' split
  all_goals simp [foldl_same State.eng]
@[simp] theorem State.codeLine_eng (slot : Fin 16) (serial : BitVec 48) (mac : BitVec 40) (page : PageId) (tag : Word) (outcome : Nat) : (s.codeLine slot serial mac page tag outcome).eng = s.eng := by
  unfold State.codeLine
  repeat' split
  all_goals simp
@[simp] theorem State.sendTagged_eng (kind : Nat) (dest : NodeNo) (ws : List Word) : (s.sendTagged kind dest ws).eng = s.eng := by
  unfold State.sendTagged
  repeat' split
  all_goals simp
@[simp] theorem State.beat_eng : (s.beat).eng = s.eng := by
  unfold State.beat
  dsimp only
  repeat' split
  all_goals simp [foldl_same State.eng]
@[simp] theorem State.diverge_eng (page : PageId) (cause : Nat) : (s.diverge page cause).eng = s.eng := by
  unfold State.diverge
  repeat' split
  all_goals simp
@[simp] theorem State.dropPage_eng (id : PageId) : (s.dropPage id).eng = s.eng := by
  unfold State.dropPage
  simp
@[simp] theorem State.applySyncs_eng (id : PageId) : (s.applySyncs id).eng = s.eng := by
  unfold State.applySyncs
  repeat' split
  all_goals simp
@[simp] theorem State.setCauses_eng (v : BitVec 5) : (s.setCauses v).eng = s.eng := by
  unfold State.setCauses
  dsimp only
  repeat' split
  all_goals simp
@[simp] theorem State.setCause_eng (n : Nat) (b : Bool) : (s.setCause n b).eng = s.eng := by
  unfold State.setCause
  simp
@[simp] theorem State.logCode_eng (d : PageDesc) (serial : Option (BitVec 48 × BitVec 40)) (outcome : Nat) : (s.logCode d serial outcome).eng = s.eng := by
  unfold State.logCode
  repeat' split
  all_goals simp
@[simp] theorem State.setQ_eng (id : PageId) (f : QEntry → QEntry) : (s.setQ id f).eng = s.eng := by
  unfold State.setQ
  simp
@[simp] theorem State.portSlots_eng (p : HeadPort) : (s.portSlots p).eng = s.eng := by
  unfold State.portSlots
  repeat' split
  all_goals simp
@[simp] theorem State.headSlots_eng : (s.headSlots).eng = s.eng := by
  simp [State.headSlots, foldl_same State.eng]
@[simp] theorem State.allSlots_eng : (s.allSlots).eng = s.eng := by
  unfold State.allSlots
  simp
@[simp] theorem State.rolloutStep_eng (id : PageId) : (s.rolloutStep id).eng = s.eng := by
  unfold State.rolloutStep
  repeat' split
  all_goals simp
@[simp] theorem State.sendFrom_eng (id : PageId) : (s.sendFrom id).eng = s.eng := by
  unfold State.sendFrom
  simp
@[simp] theorem State.shortfall_eng (c : PageCtx) : (s.shortfall c).eng = s.eng := by
  unfold State.shortfall
  dsimp only
  repeat' split
  all_goals simp
@[simp] theorem State.dropFallbackSerial_eng : (s.dropFallbackSerial).eng = s.eng := by
  unfold State.dropFallbackSerial
  repeat' split
  all_goals simp
@[simp] theorem State.takeFrame_eng (kind : Nat) (data : List Word) : (s.takeFrame kind data).eng = s.eng := by
  unfold State.takeFrame
  repeat' split
  all_goals simp
@[simp] theorem State.testPass_eng (test : Nat) : (s.testPass test).eng = s.eng := by
  unfold State.testPass
  simp
@[simp] theorem State.testFail_eng (test : Nat) (units : List Nat) : (s.testFail test units).eng = s.eng := by
  unfold State.testFail
  simp
@[simp] theorem State.fatalEvent_eng : (s.fatalEvent).eng = s.eng := by
  unfold State.fatalEvent
  repeat' split
  all_goals simp
@[simp] theorem State.checkEq_eng : (s.checkEq).eng = s.eng := by
  unfold State.checkEq
  dsimp only
  repeat' split
  all_goals simp
@[simp] theorem State.equalise_eng (n : LaneNo) : (s.equalise n).eng = s.eng := by
  unfold State.equalise
  repeat' split
  all_goals simp
@[simp] theorem State.endpointTrains_eng : (s.endpointTrains).eng = s.eng := by
  simp [State.endpointTrains, foldl_same State.eng]
@[simp] theorem State.thermalAtBoot_eng (t : Vector Int 8) : (s.thermalAtBoot t).eng = s.eng := by
  unfold State.thermalAtBoot
  repeat' split
  all_goals simp

/-! ### What leaves the part `fab` alone -/

@[simp] theorem State.setLane_fab (n : LaneNo) (f : LaneState → LaneState) : (s.setLane n f).fab = s.fab := by
  unfold State.setLane
  simp
@[simp] theorem State.correctedError_fab (burst : Nat) : (s.correctedError burst).fab = s.fab := by
  unfold State.correctedError
  dsimp only
  repeat' split
  all_goals simp
@[simp] theorem State.uncorrectable_fab (burst : BitVec 30) (source : Nat) : (s.uncorrectable burst source).fab = s.fab := by
  unfold State.uncorrectable
  simp
@[simp] theorem State.readBurst_fab (source : Nat) (b : BurstRead) : (s.readBurst source b).1.fab = s.fab := by
  unfold State.readBurst
  repeat' split
  all_goals simp
@[simp] theorem State.merge_fab (a : Nat) : (s.merge a).1.fab = s.fab := by
  unfold State.merge
  repeat' split
  all_goals simp
@[simp] theorem State.logLowCheck_fab : (s.logLowCheck).fab = s.fab := by
  unfold State.logLowCheck
  repeat' split
  all_goals simp
@[simp] theorem State.logAppend_fab (ls : List (List Word × Bool)) : (s.logAppend ls).fab = s.fab := by
  simp [State.logAppend, foldl_same State.fab]
@[simp] theorem State.checkpoint_fab (kind : Nat) (l3 : List Word) : (s.checkpoint kind l3).fab = s.fab := by
  unfold State.checkpoint
  simp
@[simp] theorem State.chainLine_fab (w0 w1 w2 : Word) : (s.chainLine w0 w1 w2).fab = s.fab := by
  unfold State.chainLine
  dsimp only
  repeat' split
  all_goals simp
@[simp] theorem State.skipLine_fab (n : Fin 16) : (s.skipLine n).fab = s.fab := by
  unfold State.skipLine
  dsimp only
  repeat' split
  all_goals simp
@[simp] theorem State.resumeLog_fab : (s.resumeLog).fab = s.fab := by
  unfold State.resumeLog
  dsimp only
  repeat' split
  all_goals simp [foldl_same State.fab]
@[simp] theorem State.codeLine_fab (slot : Fin 16) (serial : BitVec 48) (mac : BitVec 40) (page : PageId) (tag : Word) (outcome : Nat) : (s.codeLine slot serial mac page tag outcome).fab = s.fab := by
  unfold State.codeLine
  repeat' split
  all_goals simp
@[simp] theorem State.dropPage_fab (id : PageId) : (s.dropPage id).fab = s.fab := by
  unfold State.dropPage
  simp
@[simp] theorem State.logCode_fab (d : PageDesc) (serial : Option (BitVec 48 × BitVec 40)) (outcome : Nat) : (s.logCode d serial outcome).fab = s.fab := by
  unfold State.logCode
  repeat' split
  all_goals simp
@[simp] theorem State.dropFallbackSerial_fab : (s.dropFallbackSerial).fab = s.fab := by
  unfold State.dropFallbackSerial
  repeat' split
  all_goals simp
@[simp] theorem State.masterCheck_fab : (s.masterCheck).fab = s.fab := by
  unfold State.masterCheck
  repeat' split
  all_goals simp
@[simp] theorem State.checkEq_fab : (s.checkEq).fab = s.fab := by
  unfold State.checkEq
  dsimp only
  repeat' split
  all_goals simp
@[simp] theorem State.equalise_fab (n : LaneNo) : (s.equalise n).fab = s.fab := by
  unfold State.equalise
  repeat' split
  all_goals simp
@[simp] theorem State.endpointTrains_fab : (s.endpointTrains).fab = s.fab := by
  simp [State.endpointTrains, foldl_same State.fab]
@[simp] theorem State.loadKernels_fab : (s.loadKernels).fab = s.fab := by
  unfold State.loadKernels
  dsimp only
  repeat' split
  all_goals simp [foldl_same State.fab]

/-! ### What leaves the part `gov` alone -/

@[simp] theorem State.setLane_gov (n : LaneNo) (f : LaneState → LaneState) : (s.setLane n f).gov = s.gov := by
  unfold State.setLane
  simp
@[simp] theorem State.allFabSlots_gov : (s.allFabSlots).gov = s.gov := by
  exact foldl_same State.gov _ (fun t v => by split <;> simp) _ _
@[simp] theorem State.correctedError_gov (burst : Nat) : (s.correctedError burst).gov = s.gov := by
  unfold State.correctedError
  dsimp only
  repeat' split
  all_goals simp
@[simp] theorem State.uncorrectable_gov (burst : BitVec 30) (source : Nat) : (s.uncorrectable burst source).gov = s.gov := by
  unfold State.uncorrectable
  simp
@[simp] theorem State.readBurst_gov (source : Nat) (b : BurstRead) : (s.readBurst source b).1.gov = s.gov := by
  unfold State.readBurst
  repeat' split
  all_goals simp
@[simp] theorem State.merge_gov (a : Nat) : (s.merge a).1.gov = s.gov := by
  unfold State.merge
  repeat' split
  all_goals simp
@[simp] theorem State.logLowCheck_gov : (s.logLowCheck).gov = s.gov := by
  unfold State.logLowCheck
  repeat' split
  all_goals simp
@[simp] theorem State.logAppend_gov (ls : List (List Word × Bool)) : (s.logAppend ls).gov = s.gov := by
  simp [State.logAppend, foldl_same State.gov]
@[simp] theorem State.checkpoint_gov (kind : Nat) (l3 : List Word) : (s.checkpoint kind l3).gov = s.gov := by
  unfold State.checkpoint
  simp
@[simp] theorem State.chainLine_gov (w0 w1 w2 : Word) : (s.chainLine w0 w1 w2).gov = s.gov := by
  unfold State.chainLine
  dsimp only
  repeat' split
  all_goals simp
@[simp] theorem State.skipLine_gov (n : Fin 16) : (s.skipLine n).gov = s.gov := by
  unfold State.skipLine
  dsimp only
  repeat' split
  all_goals simp
@[simp] theorem State.resumeLog_gov : (s.resumeLog).gov = s.gov := by
  unfold State.resumeLog
  dsimp only
  repeat' split
  all_goals simp [foldl_same State.gov]
@[simp] theorem State.codeLine_gov (slot : Fin 16) (serial : BitVec 48) (mac : BitVec 40) (page : PageId) (tag : Word) (outcome : Nat) : (s.codeLine slot serial mac page tag outcome).gov = s.gov := by
  unfold State.codeLine
  repeat' split
  all_goals simp
@[simp] theorem State.dropPage_gov (id : PageId) : (s.dropPage id).gov = s.gov := by
  unfold State.dropPage
  simp
@[simp] theorem State.logCode_gov (d : PageDesc) (serial : Option (BitVec 48 × BitVec 40)) (outcome : Nat) : (s.logCode d serial outcome).gov = s.gov := by
  unfold State.logCode
  repeat' split
  all_goals simp
@[simp] theorem State.portSlots_gov (p : HeadPort) : (s.portSlots p).gov = s.gov := by
  unfold State.portSlots
  repeat' split
  all_goals simp
@[simp] theorem State.headSlots_gov : (s.headSlots).gov = s.gov := by
  simp [State.headSlots, foldl_same State.gov]
@[simp] theorem State.allSlots_gov : (s.allSlots).gov = s.gov := by
  unfold State.allSlots
  simp
@[simp] theorem State.dropFallbackSerial_gov : (s.dropFallbackSerial).gov = s.gov := by
  unfold State.dropFallbackSerial
  repeat' split
  all_goals simp
@[simp] theorem State.takeFrame_gov (kind : Nat) (data : List Word) : (s.takeFrame kind data).gov = s.gov := by
  unfold State.takeFrame
  repeat' split
  all_goals simp
@[simp] theorem State.checkEq_gov : (s.checkEq).gov = s.gov := by
  unfold State.checkEq
  dsimp only
  repeat' split
  all_goals simp
@[simp] theorem State.equalise_gov (n : LaneNo) : (s.equalise n).gov = s.gov := by
  unfold State.equalise
  repeat' split
  all_goals simp
@[simp] theorem State.endpointTrains_gov : (s.endpointTrains).gov = s.gov := by
  simp [State.endpointTrains, foldl_same State.gov]
@[simp] theorem State.loadKernels_gov : (s.loadKernels).gov = s.gov := by
  unfold State.loadKernels
  dsimp only
  repeat' split
  all_goals simp [foldl_same State.gov]

/-! ### What leaves the part `heads` alone -/

@[simp] theorem State.setLane_heads (n : LaneNo) (f : LaneState → LaneState) : (s.setLane n f).heads = s.heads := by
  unfold State.setLane
  simp
@[simp] theorem State.correctedError_heads (burst : Nat) : (s.correctedError burst).heads = s.heads := by
  unfold State.correctedError
  dsimp only
  repeat' split
  all_goals simp
@[simp] theorem State.uncorrectable_heads (burst : BitVec 30) (source : Nat) : (s.uncorrectable burst source).heads = s.heads := by
  unfold State.uncorrectable
  simp
@[simp] theorem State.readBurst_heads (source : Nat) (b : BurstRead) : (s.readBurst source b).1.heads = s.heads := by
  unfold State.readBurst
  repeat' split
  all_goals simp
@[simp] theorem State.wroteIn_heads (region : Nat) : (s.wroteIn region).heads = s.heads := by
  unfold State.wroteIn
  repeat' split
  all_goals simp
@[simp] theorem State.merge_heads (a : Nat) : (s.merge a).1.heads = s.heads := by
  unfold State.merge
  repeat' split
  all_goals simp
@[simp] theorem State.logLowCheck_heads : (s.logLowCheck).heads = s.heads := by
  unfold State.logLowCheck
  repeat' split
  all_goals simp
@[simp] theorem State.logAppend_heads (ls : List (List Word × Bool)) : (s.logAppend ls).heads = s.heads := by
  simp [State.logAppend, foldl_same State.heads]
@[simp] theorem State.checkpoint_heads (kind : Nat) (l3 : List Word) : (s.checkpoint kind l3).heads = s.heads := by
  unfold State.checkpoint
  simp
@[simp] theorem State.chainLine_heads (w0 w1 w2 : Word) : (s.chainLine w0 w1 w2).heads = s.heads := by
  unfold State.chainLine
  dsimp only
  repeat' split
  all_goals simp
@[simp] theorem State.skipLine_heads (n : Fin 16) : (s.skipLine n).heads = s.heads := by
  unfold State.skipLine
  dsimp only
  repeat' split
  all_goals simp
@[simp] theorem State.resumeLog_heads : (s.resumeLog).heads = s.heads := by
  unfold State.resumeLog
  dsimp only
  repeat' split
  all_goals simp [foldl_same State.heads]
@[simp] theorem State.codeLine_heads (slot : Fin 16) (serial : BitVec 48) (mac : BitVec 40) (page : PageId) (tag : Word) (outcome : Nat) : (s.codeLine slot serial mac page tag outcome).heads = s.heads := by
  unfold State.codeLine
  repeat' split
  all_goals simp
@[simp] theorem State.diverge_heads (page : PageId) (cause : Nat) : (s.diverge page cause).heads = s.heads := by
  unfold State.diverge
  repeat' split
  all_goals simp
@[simp] theorem State.dropPage_heads (id : PageId) : (s.dropPage id).heads = s.heads := by
  unfold State.dropPage
  simp
@[simp] theorem State.setCam_heads (p : CamNo) (f : CamState → CamState) : (s.setCam p f).heads = s.heads := by
  unfold State.setCam
  simp
@[simp] theorem State.tapsBegin_heads (p : CamNo) (set : CamShadow) (n : Nat) : (s.tapsBegin p set n).heads = s.heads := by
  refine foldl_same State.heads _ (fun t k => ?_) _ _
  dsimp only
  repeat' split
  all_goals simp
@[simp] theorem State.camWriteNext_heads (p : CamNo) : (s.camWriteNext p).heads = s.heads := by
  unfold State.camWriteNext
  repeat' split
  all_goals simp
@[simp] theorem State.camWrites_heads (p : CamNo) (gen : BitVec 16) (regs : List (BitVec 32 × BitVec 32)) : (s.camWrites p gen regs).heads = s.heads := by
  unfold State.camWrites
  dsimp only
  repeat' split
  all_goals simp
@[simp] theorem State.openFrame_heads (p : CamNo) (g : Option CamPage) (n positions gp : Nat) (time : Option Nat) : (s.openFrame p g n positions gp time).heads = s.heads := by
  unfold State.openFrame
  dsimp only
  repeat' split
  all_goals simp
@[simp] theorem State.addStats_heads (p : CamNo) (r : StatsRec) : (s.addStats p r).heads = s.heads := by
  simp [State.addStats, foldl_same State.heads]
@[simp] theorem State.closeFrame_heads (p : CamNo) (f : Frame) (status cause : Nat) : (s.closeFrame p f status cause).heads = s.heads := by
  unfold State.closeFrame
  dsimp only
  repeat' split
  all_goals simp
@[simp] theorem State.settleFrames_heads (p : CamNo) : (s.settleFrames p).heads = s.heads := by
  refine foldl_same State.heads _ (fun t x => ?_) _ _
  repeat' split
  all_goals simp
@[simp] theorem State.sendTrigger_heads (p : CamNo) (fr : Option Nat) (n : Nat) (im : Int) (t : Rat) (last : Bool) : (s.sendTrigger p fr n im t last).heads = s.heads := by
  unfold State.sendTrigger
  dsimp only
  repeat' split
  all_goals simp
@[simp] theorem State.camTrigger_heads (p : CamNo) (n : Nat) (tf : Rat) : (s.camTrigger p n tf).heads = s.heads := by
  unfold State.camTrigger
  dsimp only
  repeat' split
  all_goals simp
@[simp] theorem State.camTriggers_heads (n : Nat) (tf : Rat) : (s.camTriggers n tf).heads = s.heads := by
  simp [State.camTriggers, foldl_same State.heads]
@[simp] theorem State.judgePort_heads (m : NozzleMap) (h : HeadRec) : (s.judgePort m h).1.heads = s.heads := by
  unfold State.judgePort
  repeat' split
  all_goals simp
@[simp] theorem State.setTrig_heads (n : TrigNo) (f : TrigState → TrigState) : (s.setTrig n f).heads = s.heads := by
  unfold State.setTrig
  simp
@[simp] theorem State.markNow_heads (n : TrigNo) : (s.markNow n).heads = s.heads := by
  unfold State.markNow
  simp
@[simp] theorem State.pulse_heads (n : TrigNo) (line : Nat) : (s.pulse n line).heads = s.heads := by
  unfold State.pulse
  repeat' split
  all_goals simp
@[simp] theorem State.pulseFor_heads (n : TrigNo) (start : Nat) : (s.pulseFor n start).heads = s.heads := by
  unfold State.pulseFor
  simp
@[simp] theorem State.addDefect_heads (r : DefectRecord) : (s.addDefect r).heads = s.heads := by
  unfold State.addDefect
  repeat' split
  all_goals simp
@[simp] theorem State.defect_heads (k : DefectKind) (first last : Int) : (s.defect k first last).heads = s.heads := by
  unfold State.defect
  repeat' split
  all_goals simp
@[simp] theorem State.logCode_heads (d : PageDesc) (serial : Option (BitVec 48 × BitVec 40)) (outcome : Nat) : (s.logCode d serial outcome).heads = s.heads := by
  unfold State.logCode
  repeat' split
  all_goals simp
@[simp] theorem State.lossDefect_heads (sp : Span) (p : HeadPort) (n : Nat) (r : HeadLoss) : (s.lossDefect sp p n r).heads = s.heads := by
  unfold State.lossDefect
  repeat' split
  all_goals simp
@[simp] theorem State.tellTakeover_heads (p : HeadPort) (n : Nat) (take : Bool) : (s.tellTakeover p n take).heads = s.heads := by
  unfold State.tellTakeover
  repeat' split
  all_goals simp
@[simp] theorem State.loseHead_heads (sp : Span) (c : PageCtx) (p : HeadPort) (n : Nat) : (s.loseHead sp c p n).heads = s.heads := by
  unfold State.loseHead
  repeat' split
  all_goals simp
@[simp] theorem State.dropFallbackSerial_heads : (s.dropFallbackSerial).heads = s.heads := by
  unfold State.dropFallbackSerial
  repeat' split
  all_goals simp
@[simp] theorem State.retire_heads : (s.retire).heads = s.heads := by
  simp [State.retire, foldl_same State.heads]
@[simp] theorem State.judgeNow_heads (p : HeadPort) : (s.judgeNow p).heads = s.heads := by
  unfold State.judgeNow
  repeat' split
  all_goals simp
@[simp] theorem State.readyCheck_heads : (s.readyCheck).heads = s.heads := by
  unfold State.readyCheck
  dsimp only
  repeat' split
  all_goals simp
@[simp] theorem State.agreeReport_heads (p : HeadPort) (n : Nat) (agree : Bool) : (s.agreeReport p n agree).heads = s.heads := by
  unfold State.agreeReport
  dsimp only
  repeat' split
  all_goals simp
@[simp] theorem State.silentReport_heads (p : HeadPort) (n : Nat) (fired : Bool) (reason : Nat) : (s.silentReport p n fired reason).heads = s.heads := by
  unfold State.silentReport
  dsimp only
  repeat' split
  all_goals simp
@[simp] theorem State.checkEq_heads : (s.checkEq).heads = s.heads := by
  unfold State.checkEq
  dsimp only
  repeat' split
  all_goals simp
@[simp] theorem State.equalise_heads (n : LaneNo) : (s.equalise n).heads = s.heads := by
  unfold State.equalise
  repeat' split
  all_goals simp
@[simp] theorem State.endpointTrains_heads : (s.endpointTrains).heads = s.heads := by
  simp [State.endpointTrains, foldl_same State.heads]
@[simp] theorem State.loadKernels_heads : (s.loadKernels).heads = s.heads := by
  unfold State.loadKernels
  dsimp only
  repeat' split
  all_goals simp [foldl_same State.heads]
@[simp] theorem State.pairReport_heads (p : HeadPort) (n : Nat) (fired : Bool) (reason : Nat) (both agree : Bool) : (s.pairReport p n fired reason both agree).heads = s.heads := by
  unfold State.pairReport
  repeat' split
  all_goals simp
@[simp] theorem State.headOut_heads (p : HeadPort) (n : Nat) : (s.headOut p n).heads = s.heads := by
  unfold State.headOut
  repeat' split
  all_goals simp
@[simp] theorem State.rejectGrant_heads (reason : Nat) (issuer : NodeNo) : (s.rejectGrant reason issuer).heads = s.heads := by
  unfold State.rejectGrant
  simp

/-! ### What leaves the part `health` alone -/

@[simp] theorem State.setLane_health (n : LaneNo) (f : LaneState → LaneState) : (s.setLane n f).health = s.health := by
  unfold State.setLane
  simp
@[simp] theorem State.correctedError_health (burst : Nat) : (s.correctedError burst).health = s.health := by
  unfold State.correctedError
  dsimp only
  repeat' split
  all_goals simp
@[simp] theorem State.uncorrectable_health (burst : BitVec 30) (source : Nat) : (s.uncorrectable burst source).health = s.health := by
  unfold State.uncorrectable
  simp
@[simp] theorem State.readBurst_health (source : Nat) (b : BurstRead) : (s.readBurst source b).1.health = s.health := by
  unfold State.readBurst
  repeat' split
  all_goals simp
@[simp] theorem State.merge_health (a : Nat) : (s.merge a).1.health = s.health := by
  unfold State.merge
  repeat' split
  all_goals simp
@[simp] theorem State.logLowCheck_health : (s.logLowCheck).health = s.health := by
  unfold State.logLowCheck
  repeat' split
  all_goals simp
@[simp] theorem State.logAppend_health (ls : List (List Word × Bool)) : (s.logAppend ls).health = s.health := by
  simp [State.logAppend, foldl_same State.health]
@[simp] theorem State.checkpoint_health (kind : Nat) (l3 : List Word) : (s.checkpoint kind l3).health = s.health := by
  unfold State.checkpoint
  simp
@[simp] theorem State.chainLine_health (w0 w1 w2 : Word) : (s.chainLine w0 w1 w2).health = s.health := by
  unfold State.chainLine
  dsimp only
  repeat' split
  all_goals simp
@[simp] theorem State.skipLine_health (n : Fin 16) : (s.skipLine n).health = s.health := by
  unfold State.skipLine
  dsimp only
  repeat' split
  all_goals simp
@[simp] theorem State.resumeLog_health : (s.resumeLog).health = s.health := by
  unfold State.resumeLog
  dsimp only
  repeat' split
  all_goals simp [foldl_same State.health]
@[simp] theorem State.codeLine_health (slot : Fin 16) (serial : BitVec 48) (mac : BitVec 40) (page : PageId) (tag : Word) (outcome : Nat) : (s.codeLine slot serial mac page tag outcome).health = s.health := by
  unfold State.codeLine
  repeat' split
  all_goals simp
@[simp] theorem State.sendTagged_health (kind : Nat) (dest : NodeNo) (ws : List Word) : (s.sendTagged kind dest ws).health = s.health := by
  unfold State.sendTagged
  repeat' split
  all_goals simp
@[simp] theorem State.record_health (rkind : Nat) (w1 w2 : Word) : (s.record rkind w1 w2).health = s.health := by
  unfold State.record
  repeat' split
  all_goals simp
@[simp] theorem State.dropPage_health (id : PageId) : (s.dropPage id).health = s.health := by
  unfold State.dropPage
  simp
@[simp] theorem State.sendChange_health (n : Nozzle) (t : NozzleState) (x : PageId) : (s.sendChange n t x).health = s.health := by
  unfold State.sendChange
  simp
@[simp] theorem State.logCode_health (d : PageDesc) (serial : Option (BitVec 48 × BitVec 40)) (outcome : Nat) : (s.logCode d serial outcome).health = s.health := by
  unfold State.logCode
  repeat' split
  all_goals simp
@[simp] theorem State.dropFallbackSerial_health : (s.dropFallbackSerial).health = s.health := by
  unfold State.dropFallbackSerial
  repeat' split
  all_goals simp
@[simp] theorem State.takeFrame_health (kind : Nat) (data : List Word) : (s.takeFrame kind data).health = s.health := by
  unfold State.takeFrame
  repeat' split
  all_goals simp
@[simp] theorem State.nozzleEvent_health (n : Nozzle) (old new : NozzleState) (cause : Nat) : (s.nozzleEvent n old new cause).health = s.health := by
  unfold State.nozzleEvent
  repeat' split
  all_goals simp
@[simp] theorem State.checkEq_health : (s.checkEq).health = s.health := by
  unfold State.checkEq
  dsimp only
  repeat' split
  all_goals simp
@[simp] theorem State.equalise_health (n : LaneNo) : (s.equalise n).health = s.health := by
  unfold State.equalise
  repeat' split
  all_goals simp
@[simp] theorem State.endpointTrains_health : (s.endpointTrains).health = s.health := by
  simp [State.endpointTrains, foldl_same State.health]
@[simp] theorem State.loadKernels_health : (s.loadKernels).health = s.health := by
  unfold State.loadKernels
  dsimp only
  repeat' split
  all_goals simp [foldl_same State.health]

/-! ### What leaves the part `host` alone -/

@[simp] theorem State.setLane_host (n : LaneNo) (f : LaneState → LaneState) : (s.setLane n f).host = s.host := by
  unfold State.setLane
  simp
@[simp] theorem State.askHeader_host (k : SlotNo) (f : Flight) : (s.askHeader k f).host = s.host := by
  unfold State.askHeader
  repeat' split
  all_goals simp
@[simp] theorem State.askHeld_host : (s.askHeld).host = s.host := by
  refine foldl_same State.host _ (fun t x => ?_) _ _
  repeat' split
  all_goals simp
@[simp] theorem State.dropPage_host (id : PageId) : (s.dropPage id).host = s.host := by
  unfold State.dropPage
  simp
@[simp] theorem State.setHead_host (p : HeadPort) (f : HeadState → HeadState) : (s.setHead p f).host = s.host := by
  unfold State.setHead
  simp
@[simp] theorem State.portSlots_host (p : HeadPort) : (s.portSlots p).host = s.host := by
  unfold State.portSlots
  repeat' split
  all_goals simp
@[simp] theorem State.offer_host (p : HeadPort) (x : TxItem) : (s.offer p x).host = s.host := by
  unfold State.offer
  simp
@[simp] theorem State.writeBlock_host (x : Cmd) (addr len : Word) (ws : List Word) (ok : Nat) : (s.writeBlock x addr len ws ok).1.host = s.host := by
  unfold State.writeBlock
  repeat' split
  all_goals simp
@[simp] theorem State.setCtx_host (fallback : Bool) (f : PageCtx → PageCtx) : (s.setCtx fallback f).host = s.host := by
  unfold State.setCtx
  simp
@[simp] theorem State.sendStatus_host : (s.sendStatus).host = s.host := by
  unfold State.sendStatus
  split
  · rfl
  · exact foldl_same State.host _ (fun t x => by split <;> simp) _ _
@[simp] theorem State.announce_host (c : BitVec 32) : (s.announce c).host = s.host := by
  unfold State.announce
  repeat' split
  all_goals simp
@[simp] theorem State.sawClaim_host (c : BitVec 32) : (s.sawClaim c).host = s.host := by
  unfold State.sawClaim
  simp
@[simp] theorem State.takeClaim_host (c : BitVec 32) : (s.takeClaim c).host = s.host := by
  unfold State.takeClaim
  simp
@[simp] theorem State.claimCheck_host : (s.claimCheck).host = s.host := by
  unfold State.claimCheck
  repeat' split
  all_goals simp
@[simp] theorem State.mailAck_host (n : NodeNo) (status : Nat) (seq : Byte) (session : BitVec 32) : (s.mailAck n status seq session).host = s.host := by
  unfold State.mailAck
  simp
@[simp] theorem State.frameGoes_host (p : FabPort) (f : FabFrame) (cls : Fin 4) (fate : FrameFate) (bad : Bool) : (s.frameGoes p f cls fate bad).host = s.host := by
  unfold State.frameGoes
  dsimp only
  repeat' split
  all_goals simp [foldl_same State.host]
@[simp] theorem State.drewN_host (n : Nat) : (s.drewN n).host = s.host := by
  unfold State.drewN
  simp
@[simp] theorem State.endTransfer_host (r : LoadReq) : (s.endTransfer r).host = s.host := by
  unfold State.endTransfer
  repeat' split
  all_goals simp
@[simp] theorem State.freeSlot_host (k : SlotNo) : (s.freeSlot k).host = s.host := by
  unfold State.freeSlot
  repeat' split
  all_goals simp
@[simp] theorem State.flightId_host (f : Flight) : (s.flightId f).1.host = s.host := by
  unfold State.flightId
  repeat' split
  all_goals simp
@[simp] theorem State.startLoad_host (k : SlotNo) (r : LoadReq) : (s.startLoad k r).host = s.host := by
  unfold State.startLoad
  repeat' split
  all_goals simp
@[simp] theorem State.placeFrame_host (src : NodeNo) (words : List Word) : (s.placeFrame src words).host = s.host := by
  unfold State.placeFrame
  simp
@[simp] theorem State.placeHeld_host : (s.placeHeld).host = s.host := by
  unfold State.placeHeld
  dsimp only
  repeat' split
  all_goals simp [foldl_same State.host]
@[simp] theorem State.equalise_host (n : LaneNo) : (s.equalise n).host = s.host := by
  unfold State.equalise
  repeat' split
  all_goals simp
@[simp] theorem State.endpointTrains_host : (s.endpointTrains).host = s.host := by
  simp [State.endpointTrains, foldl_same State.host]
@[simp] theorem State.lanesBegin_host : (s.lanesBegin).host = s.host := by
  unfold State.lanesBegin
  simp

/-! ### What leaves the part `lanes` alone -/

@[simp] theorem State.allFabSlots_lanes : (s.allFabSlots).lanes = s.lanes := by
  exact foldl_same State.lanes _ (fun t v => by split <;> simp) _ _
@[simp] theorem State.correctedError_lanes (burst : Nat) : (s.correctedError burst).lanes = s.lanes := by
  unfold State.correctedError
  dsimp only
  repeat' split
  all_goals simp
@[simp] theorem State.uncorrectable_lanes (burst : BitVec 30) (source : Nat) : (s.uncorrectable burst source).lanes = s.lanes := by
  unfold State.uncorrectable
  simp
@[simp] theorem State.readBurst_lanes (source : Nat) (b : BurstRead) : (s.readBurst source b).1.lanes = s.lanes := by
  unfold State.readBurst
  repeat' split
  all_goals simp
@[simp] theorem State.wroteIn_lanes (region : Nat) : (s.wroteIn region).lanes = s.lanes := by
  unfold State.wroteIn
  repeat' split
  all_goals simp
@[simp] theorem State.merge_lanes (a : Nat) : (s.merge a).1.lanes = s.lanes := by
  unfold State.merge
  repeat' split
  all_goals simp
@[simp] theorem State.logLowCheck_lanes : (s.logLowCheck).lanes = s.lanes := by
  unfold State.logLowCheck
  repeat' split
  all_goals simp
@[simp] theorem State.logAppend_lanes (ls : List (List Word × Bool)) : (s.logAppend ls).lanes = s.lanes := by
  simp [State.logAppend, foldl_same State.lanes]
@[simp] theorem State.checkpoint_lanes (kind : Nat) (l3 : List Word) : (s.checkpoint kind l3).lanes = s.lanes := by
  unfold State.checkpoint
  simp
@[simp] theorem State.chainLine_lanes (w0 w1 w2 : Word) : (s.chainLine w0 w1 w2).lanes = s.lanes := by
  unfold State.chainLine
  dsimp only
  repeat' split
  all_goals simp
@[simp] theorem State.skipLine_lanes (n : Fin 16) : (s.skipLine n).lanes = s.lanes := by
  unfold State.skipLine
  dsimp only
  repeat' split
  all_goals simp
@[simp] theorem State.resumeLog_lanes : (s.resumeLog).lanes = s.lanes := by
  unfold State.resumeLog
  dsimp only
  repeat' split
  all_goals simp [foldl_same State.lanes]
@[simp] theorem State.codeLine_lanes (slot : Fin 16) (serial : BitVec 48) (mac : BitVec 40) (page : PageId) (tag : Word) (outcome : Nat) : (s.codeLine slot serial mac page tag outcome).lanes = s.lanes := by
  unfold State.codeLine
  repeat' split
  all_goals simp
@[simp] theorem State.record_lanes (rkind : Nat) (w1 w2 : Word) : (s.record rkind w1 w2).lanes = s.lanes := by
  unfold State.record
  repeat' split
  all_goals simp
@[simp] theorem State.askHeader_lanes (k : SlotNo) (f : Flight) : (s.askHeader k f).lanes = s.lanes := by
  unfold State.askHeader
  repeat' split
  all_goals simp
@[simp] theorem State.askHeld_lanes : (s.askHeld).lanes = s.lanes := by
  refine foldl_same State.lanes _ (fun t x => ?_) _ _
  repeat' split
  all_goals simp
@[simp] theorem State.setPage_lanes (id : PageId) (f : PageEntry → PageEntry) : (s.setPage id f).lanes = s.lanes := by
  unfold State.setPage
  simp
@[simp] theorem State.setPageState_lanes (id : PageId) (st : PageState) : (s.setPageState id st).lanes = s.lanes := by
  unfold State.setPageState
  simp
@[simp] theorem State.dropPage_lanes (id : PageId) : (s.dropPage id).lanes = s.lanes := by
  unfold State.dropPage
  simp
@[simp] theorem State.evalPage_lanes (e : PageEntry) : (s.evalPage e).lanes = s.lanes := by
  unfold State.evalPage
  repeat' split
  all_goals simp
@[simp] theorem State.evalPages_lanes : (s.evalPages).lanes = s.lanes := by
  simp [State.evalPages, foldl_same State.lanes]
@[simp] theorem State.setCam_lanes (p : CamNo) (f : CamState → CamState) : (s.setCam p f).lanes = s.lanes := by
  unfold State.setCam
  simp
@[simp] theorem State.tapsBegin_lanes (p : CamNo) (set : CamShadow) (n : Nat) : (s.tapsBegin p set n).lanes = s.lanes := by
  refine foldl_same State.lanes _ (fun t k => ?_) _ _
  dsimp only
  repeat' split
  all_goals simp
@[simp] theorem State.camWriteNext_lanes (p : CamNo) : (s.camWriteNext p).lanes = s.lanes := by
  unfold State.camWriteNext
  repeat' split
  all_goals simp
@[simp] theorem State.camWrites_lanes (p : CamNo) (gen : BitVec 16) (regs : List (BitVec 32 × BitVec 32)) : (s.camWrites p gen regs).lanes = s.lanes := by
  unfold State.camWrites
  dsimp only
  repeat' split
  all_goals simp
@[simp] theorem State.openFrame_lanes (p : CamNo) (g : Option CamPage) (n positions gp : Nat) (time : Option Nat) : (s.openFrame p g n positions gp time).lanes = s.lanes := by
  unfold State.openFrame
  dsimp only
  repeat' split
  all_goals simp
@[simp] theorem State.addStats_lanes (p : CamNo) (r : StatsRec) : (s.addStats p r).lanes = s.lanes := by
  simp [State.addStats, foldl_same State.lanes]
@[simp] theorem State.closeFrame_lanes (p : CamNo) (f : Frame) (status cause : Nat) : (s.closeFrame p f status cause).lanes = s.lanes := by
  unfold State.closeFrame
  dsimp only
  repeat' split
  all_goals simp
@[simp] theorem State.settleFrames_lanes (p : CamNo) : (s.settleFrames p).lanes = s.lanes := by
  refine foldl_same State.lanes _ (fun t x => ?_) _ _
  repeat' split
  all_goals simp
@[simp] theorem State.sendTrigger_lanes (p : CamNo) (fr : Option Nat) (n : Nat) (im : Int) (t : Rat) (last : Bool) : (s.sendTrigger p fr n im t last).lanes = s.lanes := by
  unfold State.sendTrigger
  dsimp only
  repeat' split
  all_goals simp
@[simp] theorem State.camTrigger_lanes (p : CamNo) (n : Nat) (tf : Rat) : (s.camTrigger p n tf).lanes = s.lanes := by
  unfold State.camTrigger
  dsimp only
  repeat' split
  all_goals simp
@[simp] theorem State.camTriggers_lanes (n : Nat) (tf : Rat) : (s.camTriggers n tf).lanes = s.lanes := by
  simp [State.camTriggers, foldl_same State.lanes]
@[simp] theorem State.judgePort_lanes (m : NozzleMap) (h : HeadRec) : (s.judgePort m h).1.lanes = s.lanes := by
  unfold State.judgePort
  repeat' split
  all_goals simp
@[simp] theorem State.judgeAll_lanes (m : NozzleMap) : (s.judgeAll m).lanes = s.lanes := by
  have h (l : List HeadRec) (t : State) : (l.foldl (fun (acc : State × Nat) h =>
      let j := acc.1.judgePort m h
      (j.1, acc.2 + j.2)) (t, 0)).1.lanes = t.lanes :=
    foldl_same (fun p : State × Nat => p.1.lanes) _ (fun t v => by simp) _ _
  unfold State.judgeAll
  dsimp only
  split <;> simp [h]
@[simp] theorem State.checkCaps_lanes (m : NozzleMap) : (s.checkCaps m).lanes = s.lanes := by
  refine foldl_same State.lanes _ (fun t x => ?_) _ _
  dsimp only
  repeat' split
  all_goals simp
@[simp] theorem State.setCauses_lanes (v : BitVec 5) : (s.setCauses v).lanes = s.lanes := by
  unfold State.setCauses
  dsimp only
  repeat' split
  all_goals simp
@[simp] theorem State.setCause_lanes (n : Nat) (b : Bool) : (s.setCause n b).lanes = s.lanes := by
  unfold State.setCause
  simp
@[simp] theorem State.evalLead_lanes : (s.evalLead).lanes = s.lanes := by
  unfold State.evalLead
  dsimp only
  repeat' split
  all_goals simp
@[simp] theorem State.setLimit_lanes (lim why : Nat) : (s.setLimit lim why).lanes = s.lanes := by
  unfold State.setLimit
  repeat' split
  all_goals simp
@[simp] theorem State.evalGov_lanes : (s.evalGov).lanes = s.lanes := by
  unfold State.evalGov
  dsimp only
  repeat' split
  all_goals simp
@[simp] theorem State.checkOverspeed_lanes : (s.checkOverspeed).lanes = s.lanes := by
  unfold State.checkOverspeed
  dsimp only
  repeat' split
  all_goals simp
@[simp] theorem State.setTrig_lanes (n : TrigNo) (f : TrigState → TrigState) : (s.setTrig n f).lanes = s.lanes := by
  unfold State.setTrig
  simp
@[simp] theorem State.markNow_lanes (n : TrigNo) : (s.markNow n).lanes = s.lanes := by
  unfold State.markNow
  simp
@[simp] theorem State.pulse_lanes (n : TrigNo) (line : Nat) : (s.pulse n line).lanes = s.lanes := by
  unfold State.pulse
  repeat' split
  all_goals simp
@[simp] theorem State.pulseFor_lanes (n : TrigNo) (start : Nat) : (s.pulseFor n start).lanes = s.lanes := by
  unfold State.pulseFor
  simp
@[simp] theorem State.pulsesAt_lanes (n : Nat) : (s.pulsesAt n).lanes = s.lanes := by
  refine foldl_same State.lanes _ (fun t x => ?_) _ _
  repeat' split
  all_goals simp
@[simp] theorem State.pulsesStop_lanes : (s.pulsesStop).lanes = s.lanes := by
  refine foldl_same State.lanes _ (fun t x => ?_) _ _
  repeat' split
  all_goals simp
@[simp] theorem State.addDefect_lanes (r : DefectRecord) : (s.addDefect r).lanes = s.lanes := by
  unfold State.addDefect
  repeat' split
  all_goals simp
@[simp] theorem State.defect_lanes (k : DefectKind) (first last : Int) : (s.defect k first last).lanes = s.lanes := by
  unfold State.defect
  repeat' split
  all_goals simp
@[simp] theorem State.dryEnd_lanes : (s.dryEnd).lanes = s.lanes := by
  unfold State.dryEnd
  repeat' split
  all_goals simp
@[simp] theorem State.dryEarly_lanes : (s.dryEarly).lanes = s.lanes := by
  simp [State.dryEarly, foldl_same State.lanes]
@[simp] theorem State.endEvent_lanes (id : PageId) (st shown : PageState) : (s.endEvent id st shown).lanes = s.lanes := by
  unfold State.endEvent
  simp
@[simp] theorem State.keepEnded_lanes (e : EndedPage) : (s.keepEnded e).lanes = s.lanes := by
  unfold State.keepEnded
  simp
@[simp] theorem State.dropCtx_lanes (fallback : Bool) : (s.dropCtx fallback).lanes = s.lanes := by
  unfold State.dropCtx
  simp
@[simp] theorem State.logCode_lanes (d : PageDesc) (serial : Option (BitVec 48 × BitVec 40)) (outcome : Nat) : (s.logCode d serial outcome).lanes = s.lanes := by
  unfold State.logCode
  repeat' split
  all_goals simp
@[simp] theorem State.rolloutEnd_lanes (id : PageId) : (s.rolloutEnd id).lanes = s.lanes := by
  unfold State.rolloutEnd
  repeat' split
  all_goals simp
@[simp] theorem State.setQ_lanes (id : PageId) (f : QEntry → QEntry) : (s.setQ id f).lanes = s.lanes := by
  unfold State.setQ
  simp
@[simp] theorem State.assignBy_lanes (line : QEntry → Option Nat) : (s.assignBy line).lanes = s.lanes := by
  unfold State.assignBy
  repeat' split
  all_goals simp
@[simp] theorem State.assignNext_lanes : (s.assignNext).lanes = s.lanes := by
  unfold State.assignNext
  simp
@[simp] theorem State.discardPrepared_lanes : (s.discardPrepared).lanes = s.lanes := by
  unfold State.discardPrepared
  repeat' split
  all_goals simp
@[simp] theorem State.mapTakesEffect_lanes (m : NozzleMap) (rolls : Bool) : (s.mapTakesEffect m rolls).lanes = s.lanes := by
  unfold State.mapTakesEffect
  repeat' split
  all_goals simp
@[simp] theorem State.encCorrect_lanes (k : EncNo) : (s.encCorrect k).lanes = s.lanes := by
  unfold State.encCorrect
  dsimp only
  repeat' split
  all_goals simp
@[simp] theorem State.encBoundary_lanes (k : EncNo) : (s.encBoundary k).lanes = s.lanes := by
  unfold State.encBoundary
  simp
@[simp] theorem State.baseline_lanes : (s.baseline).lanes = s.lanes := by
  unfold State.baseline
  simp
@[simp] theorem State.lossDefect_lanes (sp : Span) (p : HeadPort) (n : Nat) (r : HeadLoss) : (s.lossDefect sp p n r).lanes = s.lanes := by
  unfold State.lossDefect
  repeat' split
  all_goals simp
@[simp] theorem State.tellTakeover_lanes (p : HeadPort) (n : Nat) (take : Bool) : (s.tellTakeover p n take).lanes = s.lanes := by
  unfold State.tellTakeover
  repeat' split
  all_goals simp
@[simp] theorem State.loseHead_lanes (sp : Span) (c : PageCtx) (p : HeadPort) (n : Nat) : (s.loseHead sp c p n).lanes = s.lanes := by
  unfold State.loseHead
  repeat' split
  all_goals simp
@[simp] theorem State.headsOutAtFlip_lanes : (s.headsOutAtFlip).lanes = s.lanes := by
  unfold State.headsOutAtFlip
  split
  · refine foldl_same State.lanes _ (fun t x => ?_) _ _
    split <;> simp
  · rfl
@[simp] theorem State.camPage_lanes (sp : Span) (c : Option PageCtx) : (s.camPage sp c).lanes = s.lanes := by
  unfold State.camPage
  repeat' split
  all_goals simp
@[simp] theorem State.dropRun_lanes (p : CalProc) : (s.dropRun p).lanes = s.lanes := by
  unfold State.dropRun
  repeat' split
  all_goals simp
@[simp] theorem State.calAnswer_lanes (r : CalRun) (st : Code) (n : Nat) : (s.calAnswer r st n).lanes = s.lanes := by
  unfold State.calAnswer
  simp
@[simp] theorem State.calFail_lanes (r : CalRun) (reason : Nat) : (s.calFail r reason).lanes = s.lanes := by
  unfold State.calFail
  simp
@[simp] theorem State.calCheck_lanes (of : CalProc → Bool) : (s.calCheck of).lanes = s.lanes := by
  refine foldl_same State.lanes _ (fun t x => ?_) _ _
  repeat' split
  all_goals simp
@[simp] theorem State.calPrintStop_lanes : (s.calPrintStop).lanes = s.lanes := by
  simp [State.calPrintStop, foldl_same State.lanes]
@[simp] theorem State.portSlots_lanes (p : HeadPort) : (s.portSlots p).lanes = s.lanes := by
  unfold State.portSlots
  repeat' split
  all_goals simp
@[simp] theorem State.offer_lanes (p : HeadPort) (x : TxItem) : (s.offer p x).lanes = s.lanes := by
  unfold State.offer
  simp
@[simp] theorem State.headSlots_lanes : (s.headSlots).lanes = s.lanes := by
  simp [State.headSlots, foldl_same State.lanes]
@[simp] theorem State.allSlots_lanes : (s.allSlots).lanes = s.lanes := by
  unfold State.allSlots
  simp
@[simp] theorem State.sendFrames_lanes (m : NozzleMap) (depth n : Nat) (codes : Option (HeadRec → List Nat)) : (s.sendFrames m depth n codes).lanes = s.lanes := by
  unfold State.sendFrames
  split
  · rfl
  · exact foldl_same State.lanes _ (fun t x => by split <;> simp) _ _
@[simp] theorem State.sendLine_lanes (q : Place) (n : Nat) : (s.sendLine q n).lanes = s.lanes := by
  unfold State.sendLine
  repeat' split
  all_goals simp
@[simp] theorem State.judgeBlank_lanes (page : PageId) (n : Nat) : (s.judgeBlank page n).lanes = s.lanes := by
  unfold State.judgeBlank
  repeat' split
  all_goals simp
@[simp] theorem State.assemble_lanes (n : Nat) : (s.assemble n).lanes = s.lanes := by
  unfold State.assemble
  repeat' split
  all_goals simp
@[simp] theorem State.assembleAgain_lanes (a b : Nat) : (s.assembleAgain a b).lanes = s.lanes := by
  simp [State.assembleAgain, foldl_same State.lanes]
@[simp] theorem State.assembleUpTo_lanes (n : Nat) : (s.assembleUpTo n).lanes = s.lanes := by
  unfold State.assembleUpTo
  simp
@[simp] theorem State.writeHealth_lanes : (s.writeHealth).lanes = s.lanes := by
  unfold State.writeHealth
  simp
@[simp] theorem State.stopNow_lanes : (s.stopNow).lanes = s.lanes := by
  unfold State.stopNow
  dsimp only
  repeat' split
  all_goals simp [foldl_same State.lanes]
@[simp] theorem State.endPage_lanes : (s.endPage).lanes = s.lanes := by
  unfold State.endPage
  dsimp only
  repeat' split
  all_goals simp
@[simp] theorem State.toFront_lanes (id : PageId) : (s.toFront id).lanes = s.lanes := by
  unfold State.toFront
  dsimp only
  repeat' split
  all_goals simp [foldl_same State.lanes]
@[simp] theorem State.flip_lanes (d : PageDesc) (fallback : Bool) (trig : Option TrigNo) (n : Nat) : (s.flip d fallback trig n).lanes = s.lanes := by
  unfold State.flip
  dsimp only
  repeat' split
  all_goals simp
@[simp] theorem State.startsAt_lanes (n : Nat) : (s.startsAt n).lanes = s.lanes := by
  unfold State.startsAt
  repeat' split
  all_goals simp
@[simp] theorem State.setPower_lanes (p : Power) (src : PowerSource) : (s.setPower p src).lanes = s.lanes := by
  unfold State.setPower
  simp
@[simp] theorem State.setCtx_lanes (fallback : Bool) (f : PageCtx → PageCtx) : (s.setCtx fallback f).lanes = s.lanes := by
  unfold State.setCtx
  simp
@[simp] theorem State.dropFallbackSerial_lanes : (s.dropFallbackSerial).lanes = s.lanes := by
  unfold State.dropFallbackSerial
  repeat' split
  all_goals simp
@[simp] theorem State.retire_lanes : (s.retire).lanes = s.lanes := by
  simp [State.retire, foldl_same State.lanes]
@[simp] theorem State.sendStatus_lanes : (s.sendStatus).lanes = s.lanes := by
  unfold State.sendStatus
  split
  · rfl
  · exact foldl_same State.lanes _ (fun t x => by split <;> simp) _ _
@[simp] theorem State.announce_lanes (c : BitVec 32) : (s.announce c).lanes = s.lanes := by
  unfold State.announce
  repeat' split
  all_goals simp
@[simp] theorem State.sawClaim_lanes (c : BitVec 32) : (s.sawClaim c).lanes = s.lanes := by
  unfold State.sawClaim
  simp
@[simp] theorem State.takeClaim_lanes (c : BitVec 32) : (s.takeClaim c).lanes = s.lanes := by
  unfold State.takeClaim
  simp
@[simp] theorem State.claimCheck_lanes : (s.claimCheck).lanes = s.lanes := by
  unfold State.claimCheck
  repeat' split
  all_goals simp
@[simp] theorem State.frameGoes_lanes (p : FabPort) (f : FabFrame) (cls : Fin 4) (fate : FrameFate) (bad : Bool) : (s.frameGoes p f cls fate bad).lanes = s.lanes := by
  unfold State.frameGoes
  dsimp only
  repeat' split
  all_goals simp [foldl_same State.lanes]
@[simp] theorem State.camLeft_lanes (p : CamNo) : (s.camLeft p).lanes = s.lanes := by
  simp [State.camLeft, foldl_same State.lanes]
@[simp] theorem State.camCorrupt_lanes (p : CamNo) (cause : Nat) : (s.camCorrupt p cause).lanes = s.lanes := by
  unfold State.camCorrupt
  repeat' split
  all_goals simp
@[simp] theorem State.camRest_lanes (p : CamNo) : (s.camRest p).lanes = s.lanes := by
  unfold State.camRest
  repeat' split
  all_goals simp
@[simp] theorem State.badAt_lanes (n : Nat) : (s.badAt n).lanes = s.lanes := by
  unfold State.badAt
  split
  · dsimp only
    rw [foldl_same State.lanes _ (fun t x => by split <;> simp)]
    simp
  · rfl
@[simp] theorem State.codeAt_lanes (n : Nat) : (s.codeAt n).lanes = s.lanes := by
  unfold State.codeAt
  dsimp only
  repeat' split
  all_goals simp
@[simp] theorem State.lineTaken_lanes (n : Nat) : (s.lineTaken n).lanes = s.lanes := by
  unfold State.lineTaken
  dsimp only
  repeat' split
  all_goals simp

/-! ### What leaves the part `mapper` alone -/

@[simp] theorem State.setLane_mapper (n : LaneNo) (f : LaneState → LaneState) : (s.setLane n f).mapper = s.mapper := by
  unfold State.setLane
  simp
@[simp] theorem State.correctedError_mapper (burst : Nat) : (s.correctedError burst).mapper = s.mapper := by
  unfold State.correctedError
  dsimp only
  repeat' split
  all_goals simp
@[simp] theorem State.uncorrectable_mapper (burst : BitVec 30) (source : Nat) : (s.uncorrectable burst source).mapper = s.mapper := by
  unfold State.uncorrectable
  simp
@[simp] theorem State.readBurst_mapper (source : Nat) (b : BurstRead) : (s.readBurst source b).1.mapper = s.mapper := by
  unfold State.readBurst
  repeat' split
  all_goals simp
@[simp] theorem State.merge_mapper (a : Nat) : (s.merge a).1.mapper = s.mapper := by
  unfold State.merge
  repeat' split
  all_goals simp
@[simp] theorem State.logLowCheck_mapper : (s.logLowCheck).mapper = s.mapper := by
  unfold State.logLowCheck
  repeat' split
  all_goals simp
@[simp] theorem State.logAppend_mapper (ls : List (List Word × Bool)) : (s.logAppend ls).mapper = s.mapper := by
  simp [State.logAppend, foldl_same State.mapper]
@[simp] theorem State.checkpoint_mapper (kind : Nat) (l3 : List Word) : (s.checkpoint kind l3).mapper = s.mapper := by
  unfold State.checkpoint
  simp
@[simp] theorem State.chainLine_mapper (w0 w1 w2 : Word) : (s.chainLine w0 w1 w2).mapper = s.mapper := by
  unfold State.chainLine
  dsimp only
  repeat' split
  all_goals simp
@[simp] theorem State.skipLine_mapper (n : Fin 16) : (s.skipLine n).mapper = s.mapper := by
  unfold State.skipLine
  dsimp only
  repeat' split
  all_goals simp
@[simp] theorem State.resumeLog_mapper : (s.resumeLog).mapper = s.mapper := by
  unfold State.resumeLog
  dsimp only
  repeat' split
  all_goals simp [foldl_same State.mapper]
@[simp] theorem State.codeLine_mapper (slot : Fin 16) (serial : BitVec 48) (mac : BitVec 40) (page : PageId) (tag : Word) (outcome : Nat) : (s.codeLine slot serial mac page tag outcome).mapper = s.mapper := by
  unfold State.codeLine
  repeat' split
  all_goals simp
@[simp] theorem State.dropPage_mapper (id : PageId) : (s.dropPage id).mapper = s.mapper := by
  unfold State.dropPage
  simp
@[simp] theorem State.applySyncs_mapper (id : PageId) : (s.applySyncs id).mapper = s.mapper := by
  unfold State.applySyncs
  repeat' split
  all_goals simp
@[simp] theorem State.logCode_mapper (d : PageDesc) (serial : Option (BitVec 48 × BitVec 40)) (outcome : Nat) : (s.logCode d serial outcome).mapper = s.mapper := by
  unfold State.logCode
  repeat' split
  all_goals simp
@[simp] theorem State.setQ_mapper (id : PageId) (f : QEntry → QEntry) : (s.setQ id f).mapper = s.mapper := by
  unfold State.setQ
  simp
@[simp] theorem State.dropFallbackSerial_mapper : (s.dropFallbackSerial).mapper = s.mapper := by
  unfold State.dropFallbackSerial
  repeat' split
  all_goals simp
@[simp] theorem State.takeFrame_mapper (kind : Nat) (data : List Word) : (s.takeFrame kind data).mapper = s.mapper := by
  unfold State.takeFrame
  repeat' split
  all_goals simp
@[simp] theorem State.testPass_mapper (test : Nat) : (s.testPass test).mapper = s.mapper := by
  unfold State.testPass
  simp
@[simp] theorem State.testFail_mapper (test : Nat) (units : List Nat) : (s.testFail test units).mapper = s.mapper := by
  unfold State.testFail
  simp
@[simp] theorem State.testLanesEnd_mapper (w : TestWait) : (s.testLanesEnd w).mapper = s.mapper := by
  unfold State.testLanesEnd
  repeat' split
  all_goals simp
@[simp] theorem State.testEnd_mapper (w : TestWait) (r : TestRun) : (s.testEnd w r).mapper = s.mapper := by
  unfold State.testEnd
  repeat' split
  all_goals simp
@[simp] theorem State.checkEq_mapper : (s.checkEq).mapper = s.mapper := by
  unfold State.checkEq
  dsimp only
  repeat' split
  all_goals simp
@[simp] theorem State.equalise_mapper (n : LaneNo) : (s.equalise n).mapper = s.mapper := by
  unfold State.equalise
  repeat' split
  all_goals simp
@[simp] theorem State.endpointTrains_mapper : (s.endpointTrains).mapper = s.mapper := by
  simp [State.endpointTrains, foldl_same State.mapper]
@[simp] theorem State.loadKernels_mapper : (s.loadKernels).mapper = s.mapper := by
  unfold State.loadKernels
  dsimp only
  repeat' split
  all_goals simp [foldl_same State.mapper]

/-! ### What leaves the part `motion` alone -/

@[simp] theorem State.setLane_motion (n : LaneNo) (f : LaneState → LaneState) : (s.setLane n f).motion = s.motion := by
  unfold State.setLane
  simp
@[simp] theorem State.correctedError_motion (burst : Nat) : (s.correctedError burst).motion = s.motion := by
  unfold State.correctedError
  dsimp only
  repeat' split
  all_goals simp
@[simp] theorem State.uncorrectable_motion (burst : BitVec 30) (source : Nat) : (s.uncorrectable burst source).motion = s.motion := by
  unfold State.uncorrectable
  simp
@[simp] theorem State.readBurst_motion (source : Nat) (b : BurstRead) : (s.readBurst source b).1.motion = s.motion := by
  unfold State.readBurst
  repeat' split
  all_goals simp
@[simp] theorem State.wroteIn_motion (region : Nat) : (s.wroteIn region).motion = s.motion := by
  unfold State.wroteIn
  repeat' split
  all_goals simp
@[simp] theorem State.merge_motion (a : Nat) : (s.merge a).1.motion = s.motion := by
  unfold State.merge
  repeat' split
  all_goals simp
@[simp] theorem State.logLowCheck_motion : (s.logLowCheck).motion = s.motion := by
  unfold State.logLowCheck
  repeat' split
  all_goals simp
@[simp] theorem State.logAppend_motion (ls : List (List Word × Bool)) : (s.logAppend ls).motion = s.motion := by
  simp [State.logAppend, foldl_same State.motion]
@[simp] theorem State.checkpoint_motion (kind : Nat) (l3 : List Word) : (s.checkpoint kind l3).motion = s.motion := by
  unfold State.checkpoint
  simp
@[simp] theorem State.chainLine_motion (w0 w1 w2 : Word) : (s.chainLine w0 w1 w2).motion = s.motion := by
  unfold State.chainLine
  dsimp only
  repeat' split
  all_goals simp
@[simp] theorem State.skipLine_motion (n : Fin 16) : (s.skipLine n).motion = s.motion := by
  unfold State.skipLine
  dsimp only
  repeat' split
  all_goals simp
@[simp] theorem State.resumeLog_motion : (s.resumeLog).motion = s.motion := by
  unfold State.resumeLog
  dsimp only
  repeat' split
  all_goals simp [foldl_same State.motion]
@[simp] theorem State.codeLine_motion (slot : Fin 16) (serial : BitVec 48) (mac : BitVec 40) (page : PageId) (tag : Word) (outcome : Nat) : (s.codeLine slot serial mac page tag outcome).motion = s.motion := by
  unfold State.codeLine
  repeat' split
  all_goals simp
@[simp] theorem State.sendTagged_motion (kind : Nat) (dest : NodeNo) (ws : List Word) : (s.sendTagged kind dest ws).motion = s.motion := by
  unfold State.sendTagged
  repeat' split
  all_goals simp
@[simp] theorem State.record_motion (rkind : Nat) (w1 w2 : Word) : (s.record rkind w1 w2).motion = s.motion := by
  unfold State.record
  repeat' split
  all_goals simp
@[simp] theorem State.setPage_motion (id : PageId) (f : PageEntry → PageEntry) : (s.setPage id f).motion = s.motion := by
  unfold State.setPage
  simp
@[simp] theorem State.setPageState_motion (id : PageId) (st : PageState) : (s.setPageState id st).motion = s.motion := by
  unfold State.setPageState
  simp
@[simp] theorem State.dropPage_motion (id : PageId) : (s.dropPage id).motion = s.motion := by
  unfold State.dropPage
  simp
@[simp] theorem State.setCam_motion (p : CamNo) (f : CamState → CamState) : (s.setCam p f).motion = s.motion := by
  unfold State.setCam
  simp
@[simp] theorem State.tapsBegin_motion (p : CamNo) (set : CamShadow) (n : Nat) : (s.tapsBegin p set n).motion = s.motion := by
  refine foldl_same State.motion _ (fun t k => ?_) _ _
  dsimp only
  repeat' split
  all_goals simp
@[simp] theorem State.camWriteNext_motion (p : CamNo) : (s.camWriteNext p).motion = s.motion := by
  unfold State.camWriteNext
  repeat' split
  all_goals simp
@[simp] theorem State.camWrites_motion (p : CamNo) (gen : BitVec 16) (regs : List (BitVec 32 × BitVec 32)) : (s.camWrites p gen regs).motion = s.motion := by
  unfold State.camWrites
  dsimp only
  repeat' split
  all_goals simp
@[simp] theorem State.openFrame_motion (p : CamNo) (g : Option CamPage) (n positions gp : Nat) (time : Option Nat) : (s.openFrame p g n positions gp time).motion = s.motion := by
  unfold State.openFrame
  dsimp only
  repeat' split
  all_goals simp
@[simp] theorem State.addStats_motion (p : CamNo) (r : StatsRec) : (s.addStats p r).motion = s.motion := by
  simp [State.addStats, foldl_same State.motion]
@[simp] theorem State.closeFrame_motion (p : CamNo) (f : Frame) (status cause : Nat) : (s.closeFrame p f status cause).motion = s.motion := by
  unfold State.closeFrame
  dsimp only
  repeat' split
  all_goals simp
@[simp] theorem State.setCauses_motion (v : BitVec 5) : (s.setCauses v).motion = s.motion := by
  unfold State.setCauses
  dsimp only
  repeat' split
  all_goals simp
@[simp] theorem State.setCause_motion (n : Nat) (b : Bool) : (s.setCause n b).motion = s.motion := by
  unfold State.setCause
  simp
@[simp] theorem State.setLimit_motion (lim why : Nat) : (s.setLimit lim why).motion = s.motion := by
  unfold State.setLimit
  repeat' split
  all_goals simp
@[simp] theorem State.evalGov_motion : (s.evalGov).motion = s.motion := by
  unfold State.evalGov
  dsimp only
  repeat' split
  all_goals simp
@[simp] theorem State.setTrig_motion (n : TrigNo) (f : TrigState → TrigState) : (s.setTrig n f).motion = s.motion := by
  unfold State.setTrig
  simp
@[simp] theorem State.markNow_motion (n : TrigNo) : (s.markNow n).motion = s.motion := by
  unfold State.markNow
  simp
@[simp] theorem State.pulse_motion (n : TrigNo) (line : Nat) : (s.pulse n line).motion = s.motion := by
  unfold State.pulse
  repeat' split
  all_goals simp
@[simp] theorem State.pulseFor_motion (n : TrigNo) (start : Nat) : (s.pulseFor n start).motion = s.motion := by
  unfold State.pulseFor
  simp
@[simp] theorem State.addDefect_motion (r : DefectRecord) : (s.addDefect r).motion = s.motion := by
  unfold State.addDefect
  repeat' split
  all_goals simp
@[simp] theorem State.defect_motion (k : DefectKind) (first last : Int) : (s.defect k first last).motion = s.motion := by
  unfold State.defect
  repeat' split
  all_goals simp
@[simp] theorem State.dryEnd_motion : (s.dryEnd).motion = s.motion := by
  unfold State.dryEnd
  repeat' split
  all_goals simp
@[simp] theorem State.logCode_motion (d : PageDesc) (serial : Option (BitVec 48 × BitVec 40)) (outcome : Nat) : (s.logCode d serial outcome).motion = s.motion := by
  unfold State.logCode
  repeat' split
  all_goals simp
@[simp] theorem State.setQ_motion (id : PageId) (f : QEntry → QEntry) : (s.setQ id f).motion = s.motion := by
  unfold State.setQ
  simp
@[simp] theorem State.assignBy_motion (line : QEntry → Option Nat) : (s.assignBy line).motion = s.motion := by
  unfold State.assignBy
  repeat' split
  all_goals simp
@[simp] theorem State.assignNext_motion : (s.assignNext).motion = s.motion := by
  unfold State.assignNext
  simp
@[simp] theorem State.dropRun_motion (p : CalProc) : (s.dropRun p).motion = s.motion := by
  unfold State.dropRun
  repeat' split
  all_goals simp
@[simp] theorem State.calAnswer_motion (r : CalRun) (st : Code) (n : Nat) : (s.calAnswer r st n).motion = s.motion := by
  unfold State.calAnswer
  simp
@[simp] theorem State.calFail_motion (r : CalRun) (reason : Nat) : (s.calFail r reason).motion = s.motion := by
  unfold State.calFail
  simp
@[simp] theorem State.calCheck_motion (of : CalProc → Bool) : (s.calCheck of).motion = s.motion := by
  refine foldl_same State.motion _ (fun t x => ?_) _ _
  repeat' split
  all_goals simp
@[simp] theorem State.setHead_motion (p : HeadPort) (f : HeadState → HeadState) : (s.setHead p f).motion = s.motion := by
  unfold State.setHead
  simp
@[simp] theorem State.portSlots_motion (p : HeadPort) : (s.portSlots p).motion = s.motion := by
  unfold State.portSlots
  repeat' split
  all_goals simp
@[simp] theorem State.offer_motion (p : HeadPort) (x : TxItem) : (s.offer p x).motion = s.motion := by
  unfold State.offer
  simp
@[simp] theorem State.sendFrames_motion (m : NozzleMap) (depth n : Nat) (codes : Option (HeadRec → List Nat)) : (s.sendFrames m depth n codes).motion = s.motion := by
  unfold State.sendFrames
  split
  · rfl
  · exact foldl_same State.motion _ (fun t x => by split <;> simp) _ _
@[simp] theorem State.sendLine_motion (q : Place) (n : Nat) : (s.sendLine q n).motion = s.motion := by
  unfold State.sendLine
  repeat' split
  all_goals simp
@[simp] theorem State.judgeBlank_motion (page : PageId) (n : Nat) : (s.judgeBlank page n).motion = s.motion := by
  unfold State.judgeBlank
  repeat' split
  all_goals simp
@[simp] theorem State.assemble_motion (n : Nat) : (s.assemble n).motion = s.motion := by
  unfold State.assemble
  repeat' split
  all_goals simp
@[simp] theorem State.assembleAgain_motion (a b : Nat) : (s.assembleAgain a b).motion = s.motion := by
  simp [State.assembleAgain, foldl_same State.motion]
@[simp] theorem State.fixStart_motion (start : Nat) : (s.fixStart start).motion = s.motion := by
  unfold State.fixStart
  simp
@[simp] theorem State.writeHealth_motion : (s.writeHealth).motion = s.motion := by
  unfold State.writeHealth
  simp
@[simp] theorem State.setPower_motion (p : Power) (src : PowerSource) : (s.setPower p src).motion = s.motion := by
  unfold State.setPower
  simp
@[simp] theorem State.enqueue_motion (d : PageDesc) : (s.enqueue d).motion = s.motion := by
  unfold State.enqueue
  dsimp only
  repeat' split
  all_goals simp
@[simp] theorem State.commit_motion (id : PageId) (rs : List BurstRead) : (s.commit id rs).1.motion = s.motion := by
  unfold State.commit
  dsimp only
  repeat' split
  all_goals simp
@[simp] theorem State.dropFallbackSerial_motion : (s.dropFallbackSerial).motion = s.motion := by
  unfold State.dropFallbackSerial
  repeat' split
  all_goals simp
@[simp] theorem State.waveAnswer_motion (o : Origin) (tag : BitVec 5) : (s.waveAnswer o tag).motion = s.motion := by
  unfold State.waveAnswer
  repeat' split
  all_goals simp
@[simp] theorem State.waveEnd_motion (p : HeadPort) (w : WaveLoad) (reason : Nat) : (s.waveEnd p w reason).motion = s.motion := by
  unfold State.waveEnd
  repeat' split
  all_goals simp
@[simp] theorem State.headLeft_motion (p : HeadPort) : (s.headLeft p).motion = s.motion := by
  simp [State.headLeft, foldl_same State.motion]
@[simp] theorem State.announceAll_motion : (s.announceAll).motion = s.motion := by
  unfold State.announceAll
  dsimp only
  split
  · split <;> simp
  · rw [foldl_same State.motion _ (fun t x => by split <;> simp)]
    split <;> simp
@[simp] theorem State.keepReport_motion (r : NodeReport) : (s.keepReport r).motion = s.motion := by
  unfold State.keepReport
  simp
@[simp] theorem State.sendFabReport_motion : (s.sendFabReport).motion = s.motion := by
  unfold State.sendFabReport
  repeat' split
  all_goals simp
@[simp] theorem State.reelect_motion : (s.reelect).motion = s.motion := by
  unfold State.reelect
  dsimp only
  repeat' split
  all_goals simp
@[simp] theorem State.portsChanged_motion : (s.portsChanged).motion = s.motion := by
  unfold State.portsChanged
  dsimp only
  repeat' split
  all_goals simp
@[simp] theorem State.fabLeft_motion (p : FabPort) : (s.fabLeft p).motion = s.motion := by
  simp [State.fabLeft, foldl_same State.motion]
@[simp] theorem State.laneLeft_motion (n : LaneNo) (was : LaneState) : (s.laneLeft n was).motion = s.motion := by
  unfold State.laneLeft
  repeat' split
  all_goals simp
@[simp] theorem State.camLeft_motion (p : CamNo) : (s.camLeft p).motion = s.motion := by
  simp [State.camLeft, foldl_same State.motion]
@[simp] theorem State.camTimeStart_motion (n : CmpNo) : (s.camTimeStart n).motion = s.motion := by
  refine foldl_same State.motion _ (fun t x => ?_) _ _
  dsimp only
  repeat' split
  all_goals simp
@[simp] theorem State.checkEq_motion : (s.checkEq).motion = s.motion := by
  unfold State.checkEq
  dsimp only
  repeat' split
  all_goals simp
@[simp] theorem State.equalise_motion (n : LaneNo) : (s.equalise n).motion = s.motion := by
  unfold State.equalise
  repeat' split
  all_goals simp
@[simp] theorem State.endpointTrains_motion : (s.endpointTrains).motion = s.motion := by
  simp [State.endpointTrains, foldl_same State.motion]
@[simp] theorem State.loadKernels_motion : (s.loadKernels).motion = s.motion := by
  unfold State.loadKernels
  dsimp only
  repeat' split
  all_goals simp [foldl_same State.motion]
@[simp] theorem State.laneRest_motion (n : LaneNo) : (s.laneRest n).motion = s.motion := by
  unfold State.laneRest
  dsimp only
  repeat' split
  all_goals simp
@[simp] theorem State.camRest_motion (p : CamNo) : (s.camRest p).motion = s.motion := by
  unfold State.camRest
  repeat' split
  all_goals simp
@[simp] theorem State.runSched_motion (n : CmpNo) : (s.runSched n).motion = s.motion := by
  simp [State.runSched, foldl_same State.motion]

/-! ### What leaves the part `pair` alone -/

@[simp] theorem State.setLane_pair (n : LaneNo) (f : LaneState → LaneState) : (s.setLane n f).pair = s.pair := by
  unfold State.setLane
  simp
@[simp] theorem State.correctedError_pair (burst : Nat) : (s.correctedError burst).pair = s.pair := by
  unfold State.correctedError
  dsimp only
  repeat' split
  all_goals simp
@[simp] theorem State.uncorrectable_pair (burst : BitVec 30) (source : Nat) : (s.uncorrectable burst source).pair = s.pair := by
  unfold State.uncorrectable
  simp
@[simp] theorem State.readBurst_pair (source : Nat) (b : BurstRead) : (s.readBurst source b).1.pair = s.pair := by
  unfold State.readBurst
  repeat' split
  all_goals simp
@[simp] theorem State.merge_pair (a : Nat) : (s.merge a).1.pair = s.pair := by
  unfold State.merge
  repeat' split
  all_goals simp
@[simp] theorem State.logLowCheck_pair : (s.logLowCheck).pair = s.pair := by
  unfold State.logLowCheck
  repeat' split
  all_goals simp
@[simp] theorem State.logAppend_pair (ls : List (List Word × Bool)) : (s.logAppend ls).pair = s.pair := by
  simp [State.logAppend, foldl_same State.pair]
@[simp] theorem State.checkpoint_pair (kind : Nat) (l3 : List Word) : (s.checkpoint kind l3).pair = s.pair := by
  unfold State.checkpoint
  simp
@[simp] theorem State.chainLine_pair (w0 w1 w2 : Word) : (s.chainLine w0 w1 w2).pair = s.pair := by
  unfold State.chainLine
  dsimp only
  repeat' split
  all_goals simp
@[simp] theorem State.skipLine_pair (n : Fin 16) : (s.skipLine n).pair = s.pair := by
  unfold State.skipLine
  dsimp only
  repeat' split
  all_goals simp
@[simp] theorem State.resumeLog_pair : (s.resumeLog).pair = s.pair := by
  unfold State.resumeLog
  dsimp only
  repeat' split
  all_goals simp [foldl_same State.pair]
@[simp] theorem State.codeLine_pair (slot : Fin 16) (serial : BitVec 48) (mac : BitVec 40) (page : PageId) (tag : Word) (outcome : Nat) : (s.codeLine slot serial mac page tag outcome).pair = s.pair := by
  unfold State.codeLine
  repeat' split
  all_goals simp
@[simp] theorem State.dropPage_pair (id : PageId) : (s.dropPage id).pair = s.pair := by
  unfold State.dropPage
  simp
@[simp] theorem State.logCode_pair (d : PageDesc) (serial : Option (BitVec 48 × BitVec 40)) (outcome : Nat) : (s.logCode d serial outcome).pair = s.pair := by
  unfold State.logCode
  repeat' split
  all_goals simp
@[simp] theorem State.dropFallbackSerial_pair : (s.dropFallbackSerial).pair = s.pair := by
  unfold State.dropFallbackSerial
  repeat' split
  all_goals simp
@[simp] theorem State.sendStatus_pair : (s.sendStatus).pair = s.pair := by
  unfold State.sendStatus
  split
  · rfl
  · exact foldl_same State.pair _ (fun t x => by split <;> simp) _ _
@[simp] theorem State.openChan_pair (n : NodeNo) : (s.openChan n).pair = s.pair := by
  unfold State.openChan
  repeat' split
  all_goals simp
@[simp] theorem State.postPeer_pair (n : NodeNo) (opcode : Byte) (arg : BitVec 48) (asker : Option Cmd) (slot : Option Nat) : (s.postPeer n opcode arg asker slot).pair = s.pair := by
  unfold State.postPeer
  repeat' split
  all_goals simp
@[simp] theorem State.placeFrame_pair (src : NodeNo) (words : List Word) : (s.placeFrame src words).pair = s.pair := by
  unfold State.placeFrame
  simp
@[simp] theorem State.placeHeld_pair : (s.placeHeld).pair = s.pair := by
  unfold State.placeHeld
  dsimp only
  repeat' split
  all_goals simp [foldl_same State.pair]
@[simp] theorem State.checkEq_pair : (s.checkEq).pair = s.pair := by
  unfold State.checkEq
  dsimp only
  repeat' split
  all_goals simp
@[simp] theorem State.equalise_pair (n : LaneNo) : (s.equalise n).pair = s.pair := by
  unfold State.equalise
  repeat' split
  all_goals simp
@[simp] theorem State.endpointTrains_pair : (s.endpointTrains).pair = s.pair := by
  simp [State.endpointTrains, foldl_same State.pair]
@[simp] theorem State.loadKernels_pair : (s.loadKernels).pair = s.pair := by
  unfold State.loadKernels
  dsimp only
  repeat' split
  all_goals simp [foldl_same State.pair]
@[simp] theorem State.rejectGrant_pair (reason : Nat) (issuer : NodeNo) : (s.rejectGrant reason issuer).pair = s.pair := by
  unfold State.rejectGrant
  simp
@[simp] theorem State.sendGrant_pair (i : Fin 8) : (s.sendGrant i).pair = s.pair := by
  unfold State.sendGrant
  dsimp only
  repeat' split
  all_goals simp

/-! ### What leaves the part `print` alone -/

@[simp] theorem State.releaseMsix_print : (s.releaseMsix).print = s.print := by
  exact foldl_same State.print _ (fun t v => by split <;> simp) _ _
@[simp] theorem State.setLane_print (n : LaneNo) (f : LaneState → LaneState) : (s.setLane n f).print = s.print := by
  unfold State.setLane
  simp
@[simp] theorem State.allFabSlots_print : (s.allFabSlots).print = s.print := by
  exact foldl_same State.print _ (fun t v => by split <;> simp) _ _
@[simp] theorem State.correctedError_print (burst : Nat) : (s.correctedError burst).print = s.print := by
  unfold State.correctedError
  dsimp only
  repeat' split
  all_goals simp
@[simp] theorem State.uncorrectable_print (burst : BitVec 30) (source : Nat) : (s.uncorrectable burst source).print = s.print := by
  unfold State.uncorrectable
  simp
@[simp] theorem State.readBurst_print (source : Nat) (b : BurstRead) : (s.readBurst source b).1.print = s.print := by
  unfold State.readBurst
  repeat' split
  all_goals simp
@[simp] theorem State.wroteIn_print (region : Nat) : (s.wroteIn region).print = s.print := by
  unfold State.wroteIn
  repeat' split
  all_goals simp
@[simp] theorem State.merge_print (a : Nat) : (s.merge a).1.print = s.print := by
  unfold State.merge
  repeat' split
  all_goals simp
@[simp] theorem State.logLowCheck_print : (s.logLowCheck).print = s.print := by
  unfold State.logLowCheck
  repeat' split
  all_goals simp
@[simp] theorem State.logAppend_print (ls : List (List Word × Bool)) : (s.logAppend ls).print = s.print := by
  simp [State.logAppend, foldl_same State.print]
@[simp] theorem State.checkpoint_print (kind : Nat) (l3 : List Word) : (s.checkpoint kind l3).print = s.print := by
  unfold State.checkpoint
  simp
@[simp] theorem State.chainLine_print (w0 w1 w2 : Word) : (s.chainLine w0 w1 w2).print = s.print := by
  unfold State.chainLine
  dsimp only
  repeat' split
  all_goals simp
@[simp] theorem State.skipLine_print (n : Fin 16) : (s.skipLine n).print = s.print := by
  unfold State.skipLine
  dsimp only
  repeat' split
  all_goals simp
@[simp] theorem State.resumeLog_print : (s.resumeLog).print = s.print := by
  unfold State.resumeLog
  dsimp only
  repeat' split
  all_goals simp [foldl_same State.print]
@[simp] theorem State.codeLine_print (slot : Fin 16) (serial : BitVec 48) (mac : BitVec 40) (page : PageId) (tag : Word) (outcome : Nat) : (s.codeLine slot serial mac page tag outcome).print = s.print := by
  unfold State.codeLine
  repeat' split
  all_goals simp
@[simp] theorem State.record_print (rkind : Nat) (w1 w2 : Word) : (s.record rkind w1 w2).print = s.print := by
  unfold State.record
  repeat' split
  all_goals simp
@[simp] theorem State.diverge_print (page : PageId) (cause : Nat) : (s.diverge page cause).print = s.print := by
  unfold State.diverge
  repeat' split
  all_goals simp
@[simp] theorem State.askHeader_print (k : SlotNo) (f : Flight) : (s.askHeader k f).print = s.print := by
  unfold State.askHeader
  repeat' split
  all_goals simp
@[simp] theorem State.askHeld_print : (s.askHeld).print = s.print := by
  refine foldl_same State.print _ (fun t x => ?_) _ _
  repeat' split
  all_goals simp
@[simp] theorem State.setPage_print (id : PageId) (f : PageEntry → PageEntry) : (s.setPage id f).print = s.print := by
  unfold State.setPage
  simp
@[simp] theorem State.setPageState_print (id : PageId) (st : PageState) : (s.setPageState id st).print = s.print := by
  unfold State.setPageState
  simp
@[simp] theorem State.dropPage_print (id : PageId) : (s.dropPage id).print = s.print := by
  unfold State.dropPage
  simp
@[simp] theorem State.evalPage_print (e : PageEntry) : (s.evalPage e).print = s.print := by
  unfold State.evalPage
  repeat' split
  all_goals simp
@[simp] theorem State.evalPages_print : (s.evalPages).print = s.print := by
  simp [State.evalPages, foldl_same State.print]
@[simp] theorem State.freeLayer_print (id : LayerId) : (s.freeLayer id).print = s.print := by
  unfold State.freeLayer
  simp
@[simp] theorem State.setCam_print (p : CamNo) (f : CamState → CamState) : (s.setCam p f).print = s.print := by
  unfold State.setCam
  simp
@[simp] theorem State.tapsBegin_print (p : CamNo) (set : CamShadow) (n : Nat) : (s.tapsBegin p set n).print = s.print := by
  refine foldl_same State.print _ (fun t k => ?_) _ _
  dsimp only
  repeat' split
  all_goals simp
@[simp] theorem State.camWriteNext_print (p : CamNo) : (s.camWriteNext p).print = s.print := by
  unfold State.camWriteNext
  repeat' split
  all_goals simp
@[simp] theorem State.camWrites_print (p : CamNo) (gen : BitVec 16) (regs : List (BitVec 32 × BitVec 32)) : (s.camWrites p gen regs).print = s.print := by
  unfold State.camWrites
  dsimp only
  repeat' split
  all_goals simp
@[simp] theorem State.openFrame_print (p : CamNo) (g : Option CamPage) (n positions gp : Nat) (time : Option Nat) : (s.openFrame p g n positions gp time).print = s.print := by
  unfold State.openFrame
  dsimp only
  repeat' split
  all_goals simp
@[simp] theorem State.addStats_print (p : CamNo) (r : StatsRec) : (s.addStats p r).print = s.print := by
  simp [State.addStats, foldl_same State.print]
@[simp] theorem State.closeFrame_print (p : CamNo) (f : Frame) (status cause : Nat) : (s.closeFrame p f status cause).print = s.print := by
  unfold State.closeFrame
  dsimp only
  repeat' split
  all_goals simp
@[simp] theorem State.settleFrames_print (p : CamNo) : (s.settleFrames p).print = s.print := by
  refine foldl_same State.print _ (fun t x => ?_) _ _
  repeat' split
  all_goals simp
@[simp] theorem State.sendTrigger_print (p : CamNo) (fr : Option Nat) (n : Nat) (im : Int) (t : Rat) (last : Bool) : (s.sendTrigger p fr n im t last).print = s.print := by
  unfold State.sendTrigger
  dsimp only
  repeat' split
  all_goals simp
@[simp] theorem State.camTrigger_print (p : CamNo) (n : Nat) (tf : Rat) : (s.camTrigger p n tf).print = s.print := by
  unfold State.camTrigger
  dsimp only
  repeat' split
  all_goals simp
@[simp] theorem State.camTriggers_print (n : Nat) (tf : Rat) : (s.camTriggers n tf).print = s.print := by
  simp [State.camTriggers, foldl_same State.print]
@[simp] theorem State.camSettle_print (id : PageId) (first trailing : Nat) : (s.camSettle id first trailing).print = s.print := by
  simp [State.camSettle, foldl_same State.print]
@[simp] theorem State.judgePort_print (m : NozzleMap) (h : HeadRec) : (s.judgePort m h).1.print = s.print := by
  unfold State.judgePort
  repeat' split
  all_goals simp
@[simp] theorem State.judgeAll_print (m : NozzleMap) : (s.judgeAll m).print = s.print := by
  have h (l : List HeadRec) (t : State) : (l.foldl (fun (acc : State × Nat) h =>
      let j := acc.1.judgePort m h
      (j.1, acc.2 + j.2)) (t, 0)).1.print = t.print :=
    foldl_same (fun p : State × Nat => p.1.print) _ (fun t v => by simp) _ _
  unfold State.judgeAll
  dsimp only
  split <;> simp [h]
@[simp] theorem State.syncChange_print (n : Nozzle) (t : NozzleState) (x : PageId) : (s.syncChange n t x).print = s.print := by
  unfold State.syncChange
  dsimp only
  repeat' split
  all_goals simp
@[simp] theorem State.sendChange_print (n : Nozzle) (t : NozzleState) (x : PageId) : (s.sendChange n t x).print = s.print := by
  unfold State.sendChange
  simp
@[simp] theorem State.checkCaps_print (m : NozzleMap) : (s.checkCaps m).print = s.print := by
  refine foldl_same State.print _ (fun t x => ?_) _ _
  dsimp only
  repeat' split
  all_goals simp
@[simp] theorem State.setCauses_print (v : BitVec 5) : (s.setCauses v).print = s.print := by
  unfold State.setCauses
  dsimp only
  repeat' split
  all_goals simp
@[simp] theorem State.setCause_print (n : Nat) (b : Bool) : (s.setCause n b).print = s.print := by
  unfold State.setCause
  simp
@[simp] theorem State.setLimit_print (lim why : Nat) : (s.setLimit lim why).print = s.print := by
  unfold State.setLimit
  repeat' split
  all_goals simp
@[simp] theorem State.evalGov_print : (s.evalGov).print = s.print := by
  unfold State.evalGov
  dsimp only
  repeat' split
  all_goals simp
@[simp] theorem State.forgetJudged_print (start : Nat) : (s.forgetJudged start).print = s.print := by
  unfold State.forgetJudged
  simp
@[simp] theorem State.endEvent_print (id : PageId) (st shown : PageState) : (s.endEvent id st shown).print = s.print := by
  unfold State.endEvent
  simp
@[simp] theorem State.dropCtx_print (fallback : Bool) : (s.dropCtx fallback).print = s.print := by
  unfold State.dropCtx
  simp
@[simp] theorem State.logCode_print (d : PageDesc) (serial : Option (BitVec 48 × BitVec 40)) (outcome : Nat) : (s.logCode d serial outcome).print = s.print := by
  unfold State.logCode
  repeat' split
  all_goals simp
@[simp] theorem State.rolloutEnd_print (id : PageId) : (s.rolloutEnd id).print = s.print := by
  unfold State.rolloutEnd
  repeat' split
  all_goals simp
@[simp] theorem State.startRollout_print (new : List (Nozzle × Word)) (k : Nat) : (s.startRollout new k).print = s.print := by
  unfold State.startRollout
  simp
@[simp] theorem State.discardPrepared_print : (s.discardPrepared).print = s.print := by
  unfold State.discardPrepared
  repeat' split
  all_goals simp
@[simp] theorem State.mapTakesEffect_print (m : NozzleMap) (rolls : Bool) : (s.mapTakesEffect m rolls).print = s.print := by
  unfold State.mapTakesEffect
  repeat' split
  all_goals simp
@[simp] theorem State.encCorrect_print (k : EncNo) : (s.encCorrect k).print = s.print := by
  unfold State.encCorrect
  dsimp only
  repeat' split
  all_goals simp
@[simp] theorem State.camTrailing_print (id : PageId) (first trailing : Nat) : (s.camTrailing id first trailing).print = s.print := by
  unfold State.camTrailing
  simp
@[simp] theorem State.dropRun_print (p : CalProc) : (s.dropRun p).print = s.print := by
  unfold State.dropRun
  repeat' split
  all_goals simp
@[simp] theorem State.calAnswer_print (r : CalRun) (st : Code) (n : Nat) : (s.calAnswer r st n).print = s.print := by
  unfold State.calAnswer
  simp
@[simp] theorem State.calFail_print (r : CalRun) (reason : Nat) : (s.calFail r reason).print = s.print := by
  unfold State.calFail
  simp
@[simp] theorem State.calCheck_print (of : CalProc → Bool) : (s.calCheck of).print = s.print := by
  refine foldl_same State.print _ (fun t x => ?_) _ _
  repeat' split
  all_goals simp
@[simp] theorem State.calPrintStop_print : (s.calPrintStop).print = s.print := by
  simp [State.calPrintStop, foldl_same State.print]
@[simp] theorem State.portSlots_print (p : HeadPort) : (s.portSlots p).print = s.print := by
  unfold State.portSlots
  repeat' split
  all_goals simp
@[simp] theorem State.headSlots_print : (s.headSlots).print = s.print := by
  simp [State.headSlots, foldl_same State.print]
@[simp] theorem State.allSlots_print : (s.allSlots).print = s.print := by
  unfold State.allSlots
  simp
@[simp] theorem State.sendFrames_print (m : NozzleMap) (depth n : Nat) (codes : Option (HeadRec → List Nat)) : (s.sendFrames m depth n codes).print = s.print := by
  unfold State.sendFrames
  split
  · rfl
  · exact foldl_same State.print _ (fun t x => by split <;> simp) _ _
@[simp] theorem State.sendLine_print (q : Place) (n : Nat) : (s.sendLine q n).print = s.print := by
  unfold State.sendLine
  repeat' split
  all_goals simp
@[simp] theorem State.writeHealth_print : (s.writeHealth).print = s.print := by
  unfold State.writeHealth
  simp
@[simp] theorem State.setPower_print (p : Power) (src : PowerSource) : (s.setPower p src).print = s.print := by
  unfold State.setPower
  simp
@[simp] theorem State.setCtx_print (fallback : Bool) (f : PageCtx → PageCtx) : (s.setCtx fallback f).print = s.print := by
  unfold State.setCtx
  simp
@[simp] theorem State.startEngine_print (k : EngineNo) : (s.startEngine k).print = s.print := by
  unfold State.startEngine
  dsimp only
  repeat' split
  all_goals simp
@[simp] theorem State.startEngines_print : (s.startEngines).print = s.print := by
  simp [State.startEngines, foldl_same State.print]
@[simp] theorem State.shortfall_print (c : PageCtx) : (s.shortfall c).print = s.print := by
  unfold State.shortfall
  dsimp only
  repeat' split
  all_goals simp
@[simp] theorem State.dropFallbackBand_print : (s.dropFallbackBand).print = s.print := by
  unfold State.dropFallbackBand
  repeat' split
  all_goals simp
@[simp] theorem State.encEvent_print (event : Nat) (k : EncNo) : (s.encEvent event k).print = s.print := by
  unfold State.encEvent
  split
  · exact foldl_same State.print _ (fun t x => by simp) _ _
  · rfl
@[simp] theorem State.retire_print : (s.retire).print = s.print := by
  simp [State.retire, foldl_same State.print]
@[simp] theorem State.sendStatus_print : (s.sendStatus).print = s.print := by
  unfold State.sendStatus
  split
  · rfl
  · exact foldl_same State.print _ (fun t x => by split <;> simp) _ _
@[simp] theorem State.sawClaim_print (c : BitVec 32) : (s.sawClaim c).print = s.print := by
  unfold State.sawClaim
  simp
@[simp] theorem State.takeClaim_print (c : BitVec 32) : (s.takeClaim c).print = s.print := by
  unfold State.takeClaim
  simp
@[simp] theorem State.claimCheck_print : (s.claimCheck).print = s.print := by
  unfold State.claimCheck
  repeat' split
  all_goals simp
@[simp] theorem State.releaseCheck_print : (s.releaseCheck).print = s.print := by
  unfold State.releaseCheck
  repeat' split
  all_goals simp
@[simp] theorem State.judgeNow_print (p : HeadPort) : (s.judgeNow p).print = s.print := by
  unfold State.judgeNow
  repeat' split
  all_goals simp
@[simp] theorem State.readyCheck_print : (s.readyCheck).print = s.print := by
  unfold State.readyCheck
  dsimp only
  repeat' split
  all_goals simp
@[simp] theorem State.agreeReport_print (p : HeadPort) (n : Nat) (agree : Bool) : (s.agreeReport p n agree).print = s.print := by
  unfold State.agreeReport
  dsimp only
  repeat' split
  all_goals simp
@[simp] theorem State.silentReport_print (p : HeadPort) (n : Nat) (fired : Bool) (reason : Nat) : (s.silentReport p n fired reason).print = s.print := by
  unfold State.silentReport
  dsimp only
  repeat' split
  all_goals simp
@[simp] theorem State.setEnc_print (k : EncNo) (f : EncState → EncState) : (s.setEnc k f).print = s.print := by
  unfold State.setEnc
  simp
@[simp] theorem State.judgeIndex_print (k : EncNo) (ahead : Int) : (s.judgeIndex k ahead).print = s.print := by
  unfold State.judgeIndex
  dsimp only
  repeat' split
  all_goals simp
@[simp] theorem State.aligned_print (k : EncNo) (method : Nat) (off : Int) : (s.aligned k method off).print = s.print := by
  unfold State.aligned
  repeat' split
  all_goals simp
@[simp] theorem State.ownIndex_print (k : EncNo) (count : Int) : (s.ownIndex k count).print = s.print := by
  unfold State.ownIndex
  dsimp only
  repeat' split
  all_goals simp
@[simp] theorem State.relayStep_print (k : EncNo) : (s.relayStep k).print = s.print := by
  unfold State.relayStep
  dsimp only
  repeat' split
  all_goals simp
@[simp] theorem State.openChan_print (n : NodeNo) : (s.openChan n).print = s.print := by
  unfold State.openChan
  repeat' split
  all_goals simp
@[simp] theorem State.postPeer_print (n : NodeNo) (opcode : Byte) (arg : BitVec 48) (asker : Option Cmd) (slot : Option Nat) : (s.postPeer n opcode arg asker slot).print = s.print := by
  unfold State.postPeer
  repeat' split
  all_goals simp
@[simp] theorem State.reportLost_print (slot : Nat) (n : NodeNo) : (s.reportLost slot n).print = s.print := by
  unfold State.reportLost
  simp
@[simp] theorem State.fabUpLane_print (p : FabPort) : (s.fabUpLane p).print = s.print := by
  unfold State.fabUpLane
  simp
@[simp] theorem State.takeNumber_print (n : NodeNo) : (s.takeNumber n).print = s.print := by
  unfold State.takeNumber
  dsimp only
  repeat' split
  all_goals simp
@[simp] theorem State.learnAssign_print (id : Word) (n : NodeNo) : (s.learnAssign id n).print = s.print := by
  unfold State.learnAssign
  repeat' split
  all_goals simp
@[simp] theorem State.holdNumbers_print (rs : List NodeReport) (m : List (Word × NodeNo)) : (s.holdNumbers rs m).print = s.print := by
  unfold State.holdNumbers
  simp
@[simp] theorem State.assignAll_print (m : List (Word × NodeNo)) : (s.assignAll m).print = s.print := by
  refine foldl_same State.print _ (fun t x => ?_) _ _
  split
  · rfl
  · simp [foldl_same State.print]
@[simp] theorem State.applyTable_print (gen : BitVec 32) (table : List Word) : (s.applyTable gen table).print = s.print := by
  unfold State.applyTable
  simp
@[simp] theorem State.sendTable_print (g : RouteGrant) : (s.sendTable g).print = s.print := by
  unfold State.sendTable
  split
  · exact foldl_same State.print _ (fun t x => by simp) _ _
  · rfl
@[simp] theorem State.grantTable_print (gen : BitVec 32) (m : List (Word × NodeNo)) (id : Word) : (s.grantTable gen m id).print = s.print := by
  unfold State.grantTable
  dsimp only
  repeat' split
  all_goals simp
@[simp] theorem State.computeRoutes_print : (s.computeRoutes).print = s.print := by
  unfold State.computeRoutes
  dsimp only
  rw [foldl_same State.print _ (fun t x => by simp), foldl_same State.print _ (fun t x => by split <;> simp)]
  simp
@[simp] theorem State.setRate_print (rate : Int) : (s.setRate rate).print = s.print := by
  unfold State.setRate
  simp
@[simp] theorem State.stepTime_print (n : Int) : (s.stepTime n).print = s.print := by
  unfold State.stepTime
  repeat' split
  all_goals simp
@[simp] theorem State.masterCheck_print : (s.masterCheck).print = s.print := by
  unfold State.masterCheck
  repeat' split
  all_goals simp
@[simp] theorem State.frameGoes_print (p : FabPort) (f : FabFrame) (cls : Fin 4) (fate : FrameFate) (bad : Bool) : (s.frameGoes p f cls fate bad).print = s.print := by
  unfold State.frameGoes
  dsimp only
  repeat' split
  all_goals simp [foldl_same State.print]
@[simp] theorem State.fabReady_print (p : FabPort) : (s.fabReady p).print = s.print := by
  unfold State.fabReady
  simp
@[simp] theorem State.replaceSession_print (n : NodeNo) (k : FabChannel) (session : BitVec 32) : (s.replaceSession n k session).print = s.print := by
  simp only [State.replaceSession, State.raiseF_print]
  rw [foldl_same State.print _ (fun t x => by split <;> simp)]
  simp
@[simp] theorem State.setAxis_print (a : AxisNo) (f : AxisState → AxisState) : (s.setAxis a f).print = s.print := by
  unfold State.setAxis
  simp
@[simp] theorem State.limitStop_print (a : AxisNo) (cause : Nat) : (s.limitStop a cause).print = s.print := by
  unfold State.limitStop
  dsimp only
  repeat' split
  all_goals simp
@[simp] theorem State.abortHome_print (a : AxisNo) : (s.abortHome a).print = s.print := by
  unfold State.abortHome
  repeat' split
  all_goals simp
@[simp] theorem State.homeSeek_print (a : AxisNo) : (s.homeSeek a).print = s.print := by
  unfold State.homeSeek
  repeat' split
  all_goals simp
@[simp] theorem State.endParcelReads_print : (s.endParcelReads).print = s.print := by
  refine foldl_same State.print _ (fun t x => ?_) _ _
  repeat' split
  all_goals simp
@[simp] theorem State.putNozzle_print (n : Nozzle) (r : NozzleRec) : (s.putNozzle n r).print = s.print := by
  unfold State.putNozzle
  simp
@[simp] theorem State.nozzleEvent_print (n : Nozzle) (old new : NozzleState) (cause : Nat) : (s.nozzleEvent n old new cause).print = s.print := by
  unfold State.nozzleEvent
  repeat' split
  all_goals simp
@[simp] theorem State.strike_print (n : Nozzle) (v : Verdict) : (s.strike n v).print = s.print := by
  unfold State.strike
  dsimp only
  repeat' split
  all_goals simp
@[simp] theorem State.camLeft_print (p : CamNo) : (s.camLeft p).print = s.print := by
  simp [State.camLeft, foldl_same State.print]
@[simp] theorem State.camWriteDone_print (p : CamNo) : (s.camWriteDone p).print = s.print := by
  unfold State.camWriteDone
  simp
@[simp] theorem State.camLockCount_print (p : CamNo) : (s.camLockCount p).print = s.print := by
  unfold State.camLockCount
  simp
@[simp] theorem State.camFrameErr_print (p : CamNo) : (s.camFrameErr p).print = s.print := by
  unfold State.camFrameErr
  simp
@[simp] theorem State.camCorrupt_print (p : CamNo) (cause : Nat) : (s.camCorrupt p cause).print = s.print := by
  unfold State.camCorrupt
  repeat' split
  all_goals simp
@[simp] theorem State.pipeline_print (p : CamNo) (f : Frame) (im : Int) (samples : List (BitVec 12)) (poisoned : Bool) : (s.pipeline p f im samples poisoned).print = s.print := by
  unfold State.pipeline
  simp
@[simp] theorem State.camTimeStart_print (n : CmpNo) : (s.camTimeStart n).print = s.print := by
  refine foldl_same State.print _ (fun t x => ?_) _ _
  dsimp only
  repeat' split
  all_goals simp
@[simp] theorem State.tapToken_print (p : CamNo) (k : Fin 4) : (s.tapToken p k).print = s.print := by
  unfold State.tapToken
  dsimp only
  repeat' split
  all_goals simp
@[simp] theorem State.installPair_print (pk : BitVec 256) (id : BitVec 32) : (s.installPair pk id).print = s.print := by
  simp [State.installPair, SecPart.restartLog]
@[simp] theorem State.readUntil_print (i : Nat) (gs : List (List BurstRead)) : (s.readUntil i gs).1.print = s.print := by
  induction gs generalizing s i with
  | nil => rfl
  | cons g gs ih =>
    unfold State.readUntil
    dsimp only
    split <;> simp [ih]
@[simp] theorem State.exportReads_print (start : Nat) (bs : List (Nat × List Word)) (rs : List BurstRead) : (s.exportReads start bs rs).1.print = s.print := by
  simp [State.exportReads]
@[simp] theorem State.endExport_print (x : Cmd) (start : Nat) (bs : List (Nat × List Word)) : (s.endExport x start bs).1.print = s.print := by
  have h (r : State) (n m : Nat) : ({ r with sec := r.sec.markExport n m } : State).print = r.print := rfl
  unfold State.endExport
  dsimp only
  split
  · split <;> exact (h _ _ _).trans (by simp)
  · simp
@[simp] theorem State.exportToken_print : (s.exportToken).print = s.print := by
  unfold State.exportToken
  dsimp only
  repeat' split
  all_goals simp
@[simp] theorem State.endSessions_print : (s.endSessions).print = s.print := by
  simp [State.endSessions, foldl_same State.print]
@[simp] theorem State.testPass_print (test : Nat) : (s.testPass test).print = s.print := by
  unfold State.testPass
  simp
@[simp] theorem State.testFail_print (test : Nat) (units : List Nat) : (s.testFail test units).print = s.print := by
  unfold State.testFail
  simp
@[simp] theorem State.backgroundFail_print (test : Nat) (units : List Nat) (ms : Nat) : (s.backgroundFail test units ms).print = s.print := by
  unfold State.backgroundFail
  simp
@[simp] theorem State.fatalEvent_print : (s.fatalEvent).print = s.print := by
  unfold State.fatalEvent
  repeat' split
  all_goals simp
@[simp] theorem State.checkEq_print : (s.checkEq).print = s.print := by
  unfold State.checkEq
  dsimp only
  repeat' split
  all_goals simp
@[simp] theorem State.equalise_print (n : LaneNo) : (s.equalise n).print = s.print := by
  unfold State.equalise
  repeat' split
  all_goals simp
@[simp] theorem State.endpointTrains_print : (s.endpointTrains).print = s.print := by
  simp [State.endpointTrains, foldl_same State.print]
@[simp] theorem State.loadKernels_print : (s.loadKernels).print = s.print := by
  unfold State.loadKernels
  dsimp only
  repeat' split
  all_goals simp [foldl_same State.print]
@[simp] theorem State.thermalAtBoot_print (t : Vector Int 8) : (s.thermalAtBoot t).print = s.print := by
  unfold State.thermalAtBoot
  repeat' split
  all_goals simp
@[simp] theorem State.bootFirmware_print (temps : Vector Int 8) : (s.bootFirmware temps).print = s.print := by
  unfold State.bootFirmware
  dsimp only
  repeat' split
  all_goals simp
@[simp] theorem State.lanesBegin_print : (s.lanesBegin).print = s.print := by
  unfold State.lanesBegin
  simp
@[simp] theorem State.laneRest_print (n : LaneNo) : (s.laneRest n).print = s.print := by
  unfold State.laneRest
  dsimp only
  repeat' split
  all_goals simp
@[simp] theorem State.camRest_print (p : CamNo) : (s.camRest p).print = s.print := by
  unfold State.camRest
  repeat' split
  all_goals simp
@[simp] theorem State.scrubbed_print : (s.scrubbed).print = s.print := by
  unfold State.scrubbed
  simp
@[simp] theorem State.loseObjects_print (fallback : Bool) (id : Option PageId) (o : ObjectRead) : (s.loseObjects fallback id o).print = s.print := by
  unfold State.loseObjects
  repeat' split
  all_goals simp
@[simp] theorem State.addDensity_print (c : PageCtx) (k : EngineNo) (order : Nat) (codes : List (List Nat)) : (s.addDensity c k order codes).print = s.print := by
  unfold State.addDensity
  repeat' split
  all_goals simp
@[simp] theorem State.writeBand_print (fb : Bool) (c : PageCtx) (w : BandWork) : (s.writeBand fb c w).print = s.print := by
  unfold State.writeBand
  simp
@[simp] theorem State.peerHold_print : (s.peerHold).print = s.print := by
  unfold State.peerHold
  simp
@[simp] theorem State.pairReport_print (p : HeadPort) (n : Nat) (fired : Bool) (reason : Nat) (both agree : Bool) : (s.pairReport p n fired reason both agree).print = s.print := by
  unfold State.pairReport
  repeat' split
  all_goals simp
@[simp] theorem State.stripEnd_print : (s.stripEnd).print = s.print := by
  unfold State.stripEnd
  repeat' split
  · rfl
  · rfl
  · exact foldl_same State.print _ (fun t x => by split <;> simp) _ _
@[simp] theorem State.calBegin_print (p : CalProc) : (s.calBegin p).print = s.print := by
  unfold State.calBegin
  dsimp only
  repeat' split
  all_goals simp
@[simp] theorem State.endDetection_print (r : CalRun) (h : HeadPort) : (s.endDetection r h).print = s.print := by
  simp only [State.endDetection, State.calAnswer_print]
  exact foldl_same (fun p : State × Nat => p.1.print) _ (fun t x => by simp) _ _
@[simp] theorem State.endDensity_print (r : CalRun) : (s.endDensity r).print = s.print := by
  unfold State.endDensity
  dsimp only
  repeat' split
  all_goals simp
@[simp] theorem State.endTrim_print (r : CalRun) (e : EncNo) (ofsS ofsC gainC phase : Int) (leftPpm leftMdeg : Nat) : (s.endTrim r e ofsS ofsC gainC phase leftPpm leftMdeg).print = s.print := by
  unfold State.endTrim
  dsimp only
  repeat' split
  all_goals simp
@[simp] theorem State.endChop_print (r : CalRun) (a : AxisNo) (tOn1 tOff1 tOn2 tOff2 : Nat) : (s.endChop r a tOn1 tOff1 tOn2 tOff2).print = s.print := by
  unfold State.endChop
  dsimp only
  repeat' split
  all_goals simp
@[simp] theorem State.serialAs_print (id : PageId) (serial : BitVec 48) (mac : BitVec 40) : (s.serialAs id serial mac).print = s.print := by
  unfold State.serialAs
  repeat' split
  all_goals simp
@[simp] theorem State.startResync_print : (s.startResync).print = s.print := by
  unfold State.startResync
  repeat' split
  all_goals simp
@[simp] theorem State.sendJoin_print (j : PageId) : (s.sendJoin j).print = s.print := by
  unfold State.sendJoin
  dsimp only
  rw [State.record_print, foldl_same State.print _ (fun t x => by simp), foldl_same State.print _ (fun t x => by split <;> simp)]
  repeat' split
  all_goals simp only [State.record_print]
  all_goals rw [foldl_same State.print _ (fun t x => by split <;> simp)]
  all_goals simp
@[simp] theorem State.joinCheck_print : (s.joinCheck).print = s.print := by
  unfold State.joinCheck
  repeat' split
  all_goals simp
@[simp] theorem State.rejectGrant_print (reason : Nat) (issuer : NodeNo) : (s.rejectGrant reason issuer).print = s.print := by
  unfold State.rejectGrant
  simp
@[simp] theorem State.matchConfig_print : (s.matchConfig).print = s.print := by
  unfold State.matchConfig
  dsimp only
  repeat' split
  all_goals simp
@[simp] theorem State.sendHealth_print : (s.sendHealth).print = s.print := by
  unfold State.sendHealth
  dsimp only
  repeat' split
  all_goals simp [foldl_same State.print]
@[simp] theorem State.sendGrant_print (i : Fin 8) : (s.sendGrant i).print = s.print := by
  unfold State.sendGrant
  dsimp only
  repeat' split
  all_goals simp
@[simp] theorem State.standbyBeat_print (m : BeatRec) (sched : BitVec 24) : (s.standbyBeat m sched).print = s.print := by
  unfold State.standbyBeat
  repeat' split
  all_goals simp
@[simp] theorem State.activeBeat_print (m : BeatRec) (before : Nat) : (s.activeBeat m before).print = s.print := by
  unfold State.activeBeat
  repeat' split
  all_goals simp
@[simp] theorem State.partnerHealth_print (words : List Word) : (s.partnerHealth words).print = s.print := by
  unfold State.partnerHealth
  simp
@[simp] theorem State.updateLoop_print (e : EncNo) : (s.updateLoop e).print = s.print := by
  unfold State.updateLoop
  simp
@[simp] theorem State.releaseMoves_print (n : CmpNo) : (s.releaseMoves n).print = s.print := by
  unfold State.releaseMoves
  simp
@[simp] theorem State.steer_print : (s.steer).print = s.print := by
  unfold State.steer
  dsimp only
  repeat' split
  all_goals simp
@[simp] theorem State.servo_print (theta2 : Int) : (s.servo theta2).print = s.print := by
  unfold State.servo
  dsimp only
  repeat' split
  all_goals simp
@[simp] theorem State.lockCheck_print (theta2 : Int) : (s.lockCheck theta2).print = s.print := by
  unfold State.lockCheck
  dsimp only
  repeat' split
  all_goals simp
@[simp] theorem State.dropChan_print (n : NodeNo) (st : Code) (result : Nat) : (s.dropChan n st result).print = s.print := by
  unfold State.dropChan
  split
  · rfl
  · refine (foldl_same State.print _ (fun t x => by split <;> simp) _ _).trans ?_
    simp
@[simp] theorem State.abortChan_print (n : NodeNo) (cause : Nat) : (s.abortChan n cause).print = s.print := by
  unfold State.abortChan
  simp
@[simp] theorem State.closeChan_print (n : NodeNo) : (s.closeChan n).print = s.print := by
  unfold State.closeChan
  simp

/-! ### What leaves the part `sec` alone -/

@[simp] theorem State.setLane_sec (n : LaneNo) (f : LaneState → LaneState) : (s.setLane n f).sec = s.sec := by
  unfold State.setLane
  simp
@[simp] theorem State.allFabSlots_sec : (s.allFabSlots).sec = s.sec := by
  exact foldl_same State.sec _ (fun t v => by split <;> simp) _ _
@[simp] theorem State.correctedError_sec (burst : Nat) : (s.correctedError burst).sec = s.sec := by
  unfold State.correctedError
  dsimp only
  repeat' split
  all_goals simp
@[simp] theorem State.uncorrectable_sec (burst : BitVec 30) (source : Nat) : (s.uncorrectable burst source).sec = s.sec := by
  unfold State.uncorrectable
  simp
@[simp] theorem State.readBurst_sec (source : Nat) (b : BurstRead) : (s.readBurst source b).1.sec = s.sec := by
  unfold State.readBurst
  repeat' split
  all_goals simp
@[simp] theorem State.wrote_sec (a n : Nat) : (s.wrote a n).sec = s.sec := by
  unfold State.wrote
  repeat' split
  all_goals simp
@[simp] theorem State.wroteIn_sec (region : Nat) : (s.wroteIn region).sec = s.sec := by
  unfold State.wroteIn
  repeat' split
  all_goals simp
@[simp] theorem State.merge_sec (a : Nat) : (s.merge a).1.sec = s.sec := by
  unfold State.merge
  repeat' split
  all_goals simp
@[simp] theorem State.writeWords_sec (w n : Nat) : (s.writeWords w n).1.sec = s.sec := by
  unfold State.writeWords
  dsimp only
  repeat' split
  all_goals simp
@[simp] theorem State.sendTagged_sec (kind : Nat) (dest : NodeNo) (ws : List Word) : (s.sendTagged kind dest ws).sec = s.sec := by
  unfold State.sendTagged
  repeat' split
  all_goals simp
@[simp] theorem State.record_sec (rkind : Nat) (w1 w2 : Word) : (s.record rkind w1 w2).sec = s.sec := by
  unfold State.record
  repeat' split
  all_goals simp
@[simp] theorem State.setPage_sec (id : PageId) (f : PageEntry → PageEntry) : (s.setPage id f).sec = s.sec := by
  unfold State.setPage
  simp
@[simp] theorem State.setPageState_sec (id : PageId) (st : PageState) : (s.setPageState id st).sec = s.sec := by
  unfold State.setPageState
  simp
@[simp] theorem State.dropPage_sec (id : PageId) : (s.dropPage id).sec = s.sec := by
  unfold State.dropPage
  simp
@[simp] theorem State.evalPage_sec (e : PageEntry) : (s.evalPage e).sec = s.sec := by
  unfold State.evalPage
  repeat' split
  all_goals simp
@[simp] theorem State.evalPages_sec : (s.evalPages).sec = s.sec := by
  simp [State.evalPages, foldl_same State.sec]
@[simp] theorem State.setCam_sec (p : CamNo) (f : CamState → CamState) : (s.setCam p f).sec = s.sec := by
  unfold State.setCam
  simp
@[simp] theorem State.tapsBegin_sec (p : CamNo) (set : CamShadow) (n : Nat) : (s.tapsBegin p set n).sec = s.sec := by
  refine foldl_same State.sec _ (fun t k => ?_) _ _
  dsimp only
  repeat' split
  all_goals simp
@[simp] theorem State.camWriteNext_sec (p : CamNo) : (s.camWriteNext p).sec = s.sec := by
  unfold State.camWriteNext
  repeat' split
  all_goals simp
@[simp] theorem State.camWrites_sec (p : CamNo) (gen : BitVec 16) (regs : List (BitVec 32 × BitVec 32)) : (s.camWrites p gen regs).sec = s.sec := by
  unfold State.camWrites
  dsimp only
  repeat' split
  all_goals simp
@[simp] theorem State.openFrame_sec (p : CamNo) (g : Option CamPage) (n positions gp : Nat) (time : Option Nat) : (s.openFrame p g n positions gp time).sec = s.sec := by
  unfold State.openFrame
  dsimp only
  repeat' split
  all_goals simp
@[simp] theorem State.addStats_sec (p : CamNo) (r : StatsRec) : (s.addStats p r).sec = s.sec := by
  simp [State.addStats, foldl_same State.sec]
@[simp] theorem State.closeFrame_sec (p : CamNo) (f : Frame) (status cause : Nat) : (s.closeFrame p f status cause).sec = s.sec := by
  unfold State.closeFrame
  dsimp only
  repeat' split
  all_goals simp
@[simp] theorem State.settleFrames_sec (p : CamNo) : (s.settleFrames p).sec = s.sec := by
  refine foldl_same State.sec _ (fun t x => ?_) _ _
  repeat' split
  all_goals simp
@[simp] theorem State.sendTrigger_sec (p : CamNo) (fr : Option Nat) (n : Nat) (im : Int) (t : Rat) (last : Bool) : (s.sendTrigger p fr n im t last).sec = s.sec := by
  unfold State.sendTrigger
  dsimp only
  repeat' split
  all_goals simp
@[simp] theorem State.camTrigger_sec (p : CamNo) (n : Nat) (tf : Rat) : (s.camTrigger p n tf).sec = s.sec := by
  unfold State.camTrigger
  dsimp only
  repeat' split
  all_goals simp
@[simp] theorem State.camTriggers_sec (n : Nat) (tf : Rat) : (s.camTriggers n tf).sec = s.sec := by
  simp [State.camTriggers, foldl_same State.sec]
@[simp] theorem State.judgePort_sec (m : NozzleMap) (h : HeadRec) : (s.judgePort m h).1.sec = s.sec := by
  unfold State.judgePort
  repeat' split
  all_goals simp
@[simp] theorem State.judgeAll_sec (m : NozzleMap) : (s.judgeAll m).sec = s.sec := by
  have h (l : List HeadRec) (t : State) : (l.foldl (fun (acc : State × Nat) h =>
      let j := acc.1.judgePort m h
      (j.1, acc.2 + j.2)) (t, 0)).1.sec = t.sec :=
    foldl_same (fun p : State × Nat => p.1.sec) _ (fun t v => by simp) _ _
  unfold State.judgeAll
  dsimp only
  split <;> simp [h]
@[simp] theorem State.checkCaps_sec (m : NozzleMap) : (s.checkCaps m).sec = s.sec := by
  refine foldl_same State.sec _ (fun t x => ?_) _ _
  dsimp only
  repeat' split
  all_goals simp
@[simp] theorem State.dropCtx_sec (fallback : Bool) : (s.dropCtx fallback).sec = s.sec := by
  unfold State.dropCtx
  simp
@[simp] theorem State.startRollout_sec (new : List (Nozzle × Word)) (k : Nat) : (s.startRollout new k).sec = s.sec := by
  unfold State.startRollout
  simp
@[simp] theorem State.discardPrepared_sec : (s.discardPrepared).sec = s.sec := by
  unfold State.discardPrepared
  repeat' split
  all_goals simp
@[simp] theorem State.mapTakesEffect_sec (m : NozzleMap) (rolls : Bool) : (s.mapTakesEffect m rolls).sec = s.sec := by
  unfold State.mapTakesEffect
  repeat' split
  all_goals simp
@[simp] theorem State.publishMap_sec (m : NozzleMap) : (s.publishMap m).sec = s.sec := by
  unfold State.publishMap
  dsimp only
  repeat' split
  all_goals simp
@[simp] theorem State.setHead_sec (p : HeadPort) (f : HeadState → HeadState) : (s.setHead p f).sec = s.sec := by
  unfold State.setHead
  simp
@[simp] theorem State.portSlots_sec (p : HeadPort) : (s.portSlots p).sec = s.sec := by
  unfold State.portSlots
  repeat' split
  all_goals simp
@[simp] theorem State.offer_sec (p : HeadPort) (x : TxItem) : (s.offer p x).sec = s.sec := by
  unfold State.offer
  simp
@[simp] theorem State.headSlots_sec : (s.headSlots).sec = s.sec := by
  simp [State.headSlots, foldl_same State.sec]
@[simp] theorem State.allSlots_sec : (s.allSlots).sec = s.sec := by
  unfold State.allSlots
  simp
@[simp] theorem State.encEvent_sec (event : Nat) (k : EncNo) : (s.encEvent event k).sec = s.sec := by
  unfold State.encEvent
  split
  · exact foldl_same State.sec _ (fun t x => by simp) _ _
  · rfl
@[simp] theorem State.token_sec (base : Nat) (k : TokenKind) (n : Nat) (p : PortSent) (tf : Rat) (period : Nat) : (s.token base k n p tf period).1.sec = s.sec := by
  unfold State.token
  repeat' split
  all_goals simp
@[simp] theorem State.holdPort_sec (base n : Nat) (p : PortSent) : (s.holdPort base n p).1.sec = s.sec := by
  unfold State.holdPort
  repeat' split
  all_goals simp
@[simp] theorem State.revisePort_sec (base n : Nat) (p : PortSent) (tc tf : Rat) (period : Nat) : (s.revisePort base n p tc tf period).1.sec = s.sec := by
  unfold State.revisePort
  repeat' split
  all_goals simp
@[simp] theorem State.lateness_sec (n : Nat) (late : Bool) (by_ : Rat) : (s.lateness n late by_).sec = s.sec := by
  unfold State.lateness
  repeat' split
  all_goals simp

/-- Going over the ports touches nothing that the step of each port does not. -/
theorem eachPort_sec {f : State → PortSent → State × PortSent × Bool} (hf : ∀ t p, (f t p).1.sec = t.sec) (ps : List PortSent) :
    (eachPort f s ps).1.sec = s.sec :=
  foldl_same (fun p : State × List PortSent × Bool => p.1.sec) _ (fun t p => hf _ _) _ _
@[simp] theorem State.reviseLine_sec (l : AllocLine) (before : Option Rat) : (s.reviseLine l before).1.sec = s.sec := by
  unfold State.reviseLine
  dsimp only
  repeat' split
  all_goals simp [eachPort_sec]
@[simp] theorem State.reviseLines_sec : (s.reviseLines).sec = s.sec := by
  have h (l : List AllocLine) (t : State) : (l.foldl (fun (acc : State × List AllocLine) l =>
      let before := match acc.2.getLast? with | some p => if p.n + 1 = l.n then some p.fires else l.base | none => l.base
      let r := acc.1.reviseLine l before
      (r.1, acc.2 ++ [r.2])) (t, [])).1.sec = t.sec :=
    foldl_same (fun p : State × List AllocLine => p.1.sec) _ (fun t x => by simp) _ _
  exact h _ _
@[simp] theorem State.retire_sec : (s.retire).sec = s.sec := by
  simp [State.retire, foldl_same State.sec]
@[simp] theorem State.checkReversal_sec (q : Rat) (down : Bool) : (s.checkReversal q down).sec = s.sec := by
  unfold State.checkReversal
  dsimp only
  repeat' split
  all_goals simp
@[simp] theorem State.disagree_sec (survivor : EncNo) (reason : Nat) (d : Rat) : (s.disagree survivor reason d).sec = s.sec := by
  unfold State.disagree
  repeat' split
  all_goals simp
@[simp] theorem State.crossCheck_sec : (s.crossCheck).sec = s.sec := by
  unfold State.crossCheck
  dsimp only
  repeat' split
  all_goals simp
@[simp] theorem State.sendStatus_sec : (s.sendStatus).sec = s.sec := by
  unfold State.sendStatus
  split
  · rfl
  · exact foldl_same State.sec _ (fun t x => by split <;> simp) _ _
@[simp] theorem State.announce_sec (c : BitVec 32) : (s.announce c).sec = s.sec := by
  unfold State.announce
  repeat' split
  all_goals simp
@[simp] theorem State.sawClaim_sec (c : BitVec 32) : (s.sawClaim c).sec = s.sec := by
  unfold State.sawClaim
  simp
@[simp] theorem State.takeClaim_sec (c : BitVec 32) : (s.takeClaim c).sec = s.sec := by
  unfold State.takeClaim
  simp
@[simp] theorem State.claimCheck_sec : (s.claimCheck).sec = s.sec := by
  unfold State.claimCheck
  repeat' split
  all_goals simp
@[simp] theorem State.openChan_sec (n : NodeNo) : (s.openChan n).sec = s.sec := by
  unfold State.openChan
  repeat' split
  all_goals simp
@[simp] theorem State.postPeer_sec (n : NodeNo) (opcode : Byte) (arg : BitVec 48) (asker : Option Cmd) (slot : Option Nat) : (s.postPeer n opcode arg asker slot).sec = s.sec := by
  unfold State.postPeer
  repeat' split
  all_goals simp
@[simp] theorem State.loadAnswer_sec (r : LoadReq) (st : Code) (result : Nat) : (s.loadAnswer r st result).sec = s.sec := by
  unfold State.loadAnswer
  simp
@[simp] theorem State.publishLayer_sec (v : Verified) (alloc : Nat × Nat) : (s.publishLayer v alloc).sec = s.sec := by
  unfold State.publishLayer
  dsimp only
  repeat' split
  all_goals simp [foldl_same State.sec]
@[simp] theorem State.publishPage_sec (d : PageDesc) : (s.publishPage d).sec = s.sec := by
  unfold State.publishPage
  simp
@[simp] theorem State.publishSection_sec (x : Section) : (s.publishSection x).sec = s.sec := by
  unfold State.publishSection
  repeat' split
  all_goals simp
@[simp] theorem State.keepObject_sec (old : ObjKey → Bool) (k : ObjKey) (ws : List Word) : (s.keepObject old k ws).sec = s.sec := by
  unfold State.keepObject
  simp
@[simp] theorem State.keepParcel_sec (v : Verified) : (s.keepParcel v).sec = s.sec := by
  unfold State.keepParcel
  repeat' split
  all_goals simp
@[simp] theorem State.publishContent_sec (v : Verified) : (s.publishContent v).sec = s.sec := by
  unfold State.publishContent
  dsimp only
  repeat' split
  all_goals simp [foldl_same State.sec]
@[simp] theorem State.loadVerified_sec (v : Verified) : (s.loadVerified v).sec = s.sec := by
  unfold State.loadVerified
  simp
@[simp] theorem State.queueMirror_sec (v : Verified) : (s.queueMirror v).sec = s.sec := by
  unfold State.queueMirror
  repeat' split
  all_goals simp
@[simp] theorem State.placeFrame_sec (src : NodeNo) (words : List Word) : (s.placeFrame src words).sec = s.sec := by
  unfold State.placeFrame
  simp
@[simp] theorem State.placeHeld_sec : (s.placeHeld).sec = s.sec := by
  unfold State.placeHeld
  dsimp only
  repeat' split
  all_goals simp [foldl_same State.sec]
@[simp] theorem State.stage_sec (f : Flight) (h : List Word) (i n : Nat) : (s.stage f h i n).1.sec = s.sec := by
  unfold State.stage
  simp
@[simp] theorem State.readUntil_sec (i : Nat) (gs : List (List BurstRead)) : (s.readUntil i gs).1.sec = s.sec := by
  induction gs generalizing s i with
  | nil => rfl
  | cons g gs ih =>
    unfold State.readUntil
    dsimp only
    split <;> simp [ih]
@[simp] theorem State.exportReads_sec (start : Nat) (bs : List (Nat × List Word)) (rs : List BurstRead) : (s.exportReads start bs rs).1.sec = s.sec := by
  simp [State.exportReads]
@[simp] theorem State.applyBoard_sec (b : BoardRecord) : (s.applyBoard b).sec = s.sec := by
  unfold State.applyBoard
  simp
@[simp] theorem State.checkEq_sec : (s.checkEq).sec = s.sec := by
  unfold State.checkEq
  dsimp only
  repeat' split
  all_goals simp
@[simp] theorem State.equalise_sec (n : LaneNo) : (s.equalise n).sec = s.sec := by
  unfold State.equalise
  repeat' split
  all_goals simp
@[simp] theorem State.endpointTrains_sec : (s.endpointTrains).sec = s.sec := by
  simp [State.endpointTrains, foldl_same State.sec]
@[simp] theorem State.loadKernels_sec : (s.loadKernels).sec = s.sec := by
  unfold State.loadKernels
  dsimp only
  repeat' split
  all_goals simp [foldl_same State.sec]
@[simp] theorem State.refreshQueue_sec : (s.refreshQueue).sec = s.sec := by
  unfold State.refreshQueue
  dsimp only
  repeat' split
  all_goals simp [foldl_same State.sec]
@[simp] theorem State.updateLoop_sec (e : EncNo) : (s.updateLoop e).sec = s.sec := by
  unfold State.updateLoop
  simp

/-! ### What leaves the part `sent` alone -/

@[simp] theorem State.correctedError_sent (burst : Nat) : (s.correctedError burst).sent = s.sent := by
  unfold State.correctedError
  dsimp only
  repeat' split
  all_goals simp
@[simp] theorem State.uncorrectable_sent (burst : BitVec 30) (source : Nat) : (s.uncorrectable burst source).sent = s.sent := by
  unfold State.uncorrectable
  simp
@[simp] theorem State.readBurst_sent (source : Nat) (b : BurstRead) : (s.readBurst source b).1.sent = s.sent := by
  unfold State.readBurst
  repeat' split
  all_goals simp
@[simp] theorem State.merge_sent (a : Nat) : (s.merge a).1.sent = s.sent := by
  unfold State.merge
  repeat' split
  all_goals simp
@[simp] theorem State.logLowCheck_sent : (s.logLowCheck).sent = s.sent := by
  unfold State.logLowCheck
  repeat' split
  all_goals simp
@[simp] theorem State.logAppend_sent (ls : List (List Word × Bool)) : (s.logAppend ls).sent = s.sent := by
  simp [State.logAppend, foldl_same State.sent]
@[simp] theorem State.checkpoint_sent (kind : Nat) (l3 : List Word) : (s.checkpoint kind l3).sent = s.sent := by
  unfold State.checkpoint
  simp
@[simp] theorem State.chainLine_sent (w0 w1 w2 : Word) : (s.chainLine w0 w1 w2).sent = s.sent := by
  unfold State.chainLine
  dsimp only
  repeat' split
  all_goals simp
@[simp] theorem State.skipLine_sent (n : Fin 16) : (s.skipLine n).sent = s.sent := by
  unfold State.skipLine
  dsimp only
  repeat' split
  all_goals simp
@[simp] theorem State.resumeLog_sent : (s.resumeLog).sent = s.sent := by
  unfold State.resumeLog
  dsimp only
  repeat' split
  all_goals simp [foldl_same State.sent]
@[simp] theorem State.codeLine_sent (slot : Fin 16) (serial : BitVec 48) (mac : BitVec 40) (page : PageId) (tag : Word) (outcome : Nat) : (s.codeLine slot serial mac page tag outcome).sent = s.sent := by
  unfold State.codeLine
  repeat' split
  all_goals simp
@[simp] theorem State.dropPage_sent (id : PageId) : (s.dropPage id).sent = s.sent := by
  unfold State.dropPage
  simp
@[simp] theorem State.logCode_sent (d : PageDesc) (serial : Option (BitVec 48 × BitVec 40)) (outcome : Nat) : (s.logCode d serial outcome).sent = s.sent := by
  unfold State.logCode
  repeat' split
  all_goals simp
@[simp] theorem State.dropFallbackSerial_sent : (s.dropFallbackSerial).sent = s.sent := by
  unfold State.dropFallbackSerial
  repeat' split
  all_goals simp

/-! ### What leaves the part `sluice` alone -/

@[simp] theorem State.releaseMsix_sluice : (s.releaseMsix).sluice = s.sluice := by
  exact foldl_same State.sluice _ (fun t v => by split <;> simp) _ _
@[simp] theorem State.setLane_sluice (n : LaneNo) (f : LaneState → LaneState) : (s.setLane n f).sluice = s.sluice := by
  unfold State.setLane
  simp
@[simp] theorem State.allFabSlots_sluice : (s.allFabSlots).sluice = s.sluice := by
  exact foldl_same State.sluice _ (fun t v => by split <;> simp) _ _
@[simp] theorem State.correctedError_sluice (burst : Nat) : (s.correctedError burst).sluice = s.sluice := by
  unfold State.correctedError
  dsimp only
  repeat' split
  all_goals simp
@[simp] theorem State.uncorrectable_sluice (burst : BitVec 30) (source : Nat) : (s.uncorrectable burst source).sluice = s.sluice := by
  unfold State.uncorrectable
  simp
@[simp] theorem State.readBurst_sluice (source : Nat) (b : BurstRead) : (s.readBurst source b).1.sluice = s.sluice := by
  unfold State.readBurst
  repeat' split
  all_goals simp
@[simp] theorem State.wroteIn_sluice (region : Nat) : (s.wroteIn region).sluice = s.sluice := by
  unfold State.wroteIn
  repeat' split
  all_goals simp
@[simp] theorem State.merge_sluice (a : Nat) : (s.merge a).1.sluice = s.sluice := by
  unfold State.merge
  repeat' split
  all_goals simp
@[simp] theorem State.logLowCheck_sluice : (s.logLowCheck).sluice = s.sluice := by
  unfold State.logLowCheck
  repeat' split
  all_goals simp
@[simp] theorem State.logAppend_sluice (ls : List (List Word × Bool)) : (s.logAppend ls).sluice = s.sluice := by
  simp [State.logAppend, foldl_same State.sluice]
@[simp] theorem State.checkpoint_sluice (kind : Nat) (l3 : List Word) : (s.checkpoint kind l3).sluice = s.sluice := by
  unfold State.checkpoint
  simp
@[simp] theorem State.chainLine_sluice (w0 w1 w2 : Word) : (s.chainLine w0 w1 w2).sluice = s.sluice := by
  unfold State.chainLine
  dsimp only
  repeat' split
  all_goals simp
@[simp] theorem State.skipLine_sluice (n : Fin 16) : (s.skipLine n).sluice = s.sluice := by
  unfold State.skipLine
  dsimp only
  repeat' split
  all_goals simp
@[simp] theorem State.resumeLog_sluice : (s.resumeLog).sluice = s.sluice := by
  unfold State.resumeLog
  dsimp only
  repeat' split
  all_goals simp [foldl_same State.sluice]
@[simp] theorem State.codeLine_sluice (slot : Fin 16) (serial : BitVec 48) (mac : BitVec 40) (page : PageId) (tag : Word) (outcome : Nat) : (s.codeLine slot serial mac page tag outcome).sluice = s.sluice := by
  unfold State.codeLine
  repeat' split
  all_goals simp
@[simp] theorem State.draw_sluice (slot : Fin 16) : (s.draw slot).1.sluice = s.sluice := by
  unfold State.draw
  dsimp only
  repeat' split
  all_goals simp
@[simp] theorem State.serialHeld_sluice (page : PageId) (reason trig : Nat) : (s.serialHeld page reason trig).sluice = s.sluice := by
  unfold State.serialHeld
  repeat' split
  all_goals simp
@[simp] theorem State.sendTagged_sluice (kind : Nat) (dest : NodeNo) (ws : List Word) : (s.sendTagged kind dest ws).sluice = s.sluice := by
  unfold State.sendTagged
  repeat' split
  all_goals simp
@[simp] theorem State.record_sluice (rkind : Nat) (w1 w2 : Word) : (s.record rkind w1 w2).sluice = s.sluice := by
  unfold State.record
  repeat' split
  all_goals simp
@[simp] theorem State.beat_sluice : (s.beat).sluice = s.sluice := by
  unfold State.beat
  dsimp only
  repeat' split
  all_goals simp [foldl_same State.sluice]
@[simp] theorem State.diverge_sluice (page : PageId) (cause : Nat) : (s.diverge page cause).sluice = s.sluice := by
  unfold State.diverge
  repeat' split
  all_goals simp
@[simp] theorem State.askHeader_sluice (k : SlotNo) (f : Flight) : (s.askHeader k f).sluice = s.sluice := by
  unfold State.askHeader
  repeat' split
  all_goals simp
@[simp] theorem State.askHeld_sluice : (s.askHeld).sluice = s.sluice := by
  refine foldl_same State.sluice _ (fun t x => ?_) _ _
  repeat' split
  all_goals simp
@[simp] theorem State.setPage_sluice (id : PageId) (f : PageEntry → PageEntry) : (s.setPage id f).sluice = s.sluice := by
  unfold State.setPage
  simp
@[simp] theorem State.setPageState_sluice (id : PageId) (st : PageState) : (s.setPageState id st).sluice = s.sluice := by
  unfold State.setPageState
  simp
@[simp] theorem State.dropPage_sluice (id : PageId) : (s.dropPage id).sluice = s.sluice := by
  unfold State.dropPage
  simp
@[simp] theorem State.evalPage_sluice (e : PageEntry) : (s.evalPage e).sluice = s.sluice := by
  unfold State.evalPage
  repeat' split
  all_goals simp
@[simp] theorem State.evalPages_sluice : (s.evalPages).sluice = s.sluice := by
  simp [State.evalPages, foldl_same State.sluice]
@[simp] theorem State.setCam_sluice (p : CamNo) (f : CamState → CamState) : (s.setCam p f).sluice = s.sluice := by
  unfold State.setCam
  simp
@[simp] theorem State.tapsBegin_sluice (p : CamNo) (set : CamShadow) (n : Nat) : (s.tapsBegin p set n).sluice = s.sluice := by
  refine foldl_same State.sluice _ (fun t k => ?_) _ _
  dsimp only
  repeat' split
  all_goals simp
@[simp] theorem State.camWriteNext_sluice (p : CamNo) : (s.camWriteNext p).sluice = s.sluice := by
  unfold State.camWriteNext
  repeat' split
  all_goals simp
@[simp] theorem State.camWrites_sluice (p : CamNo) (gen : BitVec 16) (regs : List (BitVec 32 × BitVec 32)) : (s.camWrites p gen regs).sluice = s.sluice := by
  unfold State.camWrites
  dsimp only
  repeat' split
  all_goals simp
@[simp] theorem State.openFrame_sluice (p : CamNo) (g : Option CamPage) (n positions gp : Nat) (time : Option Nat) : (s.openFrame p g n positions gp time).sluice = s.sluice := by
  unfold State.openFrame
  dsimp only
  repeat' split
  all_goals simp
@[simp] theorem State.addStats_sluice (p : CamNo) (r : StatsRec) : (s.addStats p r).sluice = s.sluice := by
  simp [State.addStats, foldl_same State.sluice]
@[simp] theorem State.closeFrame_sluice (p : CamNo) (f : Frame) (status cause : Nat) : (s.closeFrame p f status cause).sluice = s.sluice := by
  unfold State.closeFrame
  dsimp only
  repeat' split
  all_goals simp
@[simp] theorem State.settleFrames_sluice (p : CamNo) : (s.settleFrames p).sluice = s.sluice := by
  refine foldl_same State.sluice _ (fun t x => ?_) _ _
  repeat' split
  all_goals simp
@[simp] theorem State.sendTrigger_sluice (p : CamNo) (fr : Option Nat) (n : Nat) (im : Int) (t : Rat) (last : Bool) : (s.sendTrigger p fr n im t last).sluice = s.sluice := by
  unfold State.sendTrigger
  dsimp only
  repeat' split
  all_goals simp
@[simp] theorem State.camTrigger_sluice (p : CamNo) (n : Nat) (tf : Rat) : (s.camTrigger p n tf).sluice = s.sluice := by
  unfold State.camTrigger
  dsimp only
  repeat' split
  all_goals simp
@[simp] theorem State.camTriggers_sluice (n : Nat) (tf : Rat) : (s.camTriggers n tf).sluice = s.sluice := by
  simp [State.camTriggers, foldl_same State.sluice]
@[simp] theorem State.judgePort_sluice (m : NozzleMap) (h : HeadRec) : (s.judgePort m h).1.sluice = s.sluice := by
  unfold State.judgePort
  repeat' split
  all_goals simp
@[simp] theorem State.judgeAll_sluice (m : NozzleMap) : (s.judgeAll m).sluice = s.sluice := by
  have h (l : List HeadRec) (t : State) : (l.foldl (fun (acc : State × Nat) h =>
      let j := acc.1.judgePort m h
      (j.1, acc.2 + j.2)) (t, 0)).1.sluice = t.sluice :=
    foldl_same (fun p : State × Nat => p.1.sluice) _ (fun t v => by simp) _ _
  unfold State.judgeAll
  dsimp only
  split <;> simp [h]
@[simp] theorem State.applySyncs_sluice (id : PageId) : (s.applySyncs id).sluice = s.sluice := by
  unfold State.applySyncs
  repeat' split
  all_goals simp
@[simp] theorem State.checkCaps_sluice (m : NozzleMap) : (s.checkCaps m).sluice = s.sluice := by
  refine foldl_same State.sluice _ (fun t x => ?_) _ _
  dsimp only
  repeat' split
  all_goals simp
@[simp] theorem State.setCauses_sluice (v : BitVec 5) : (s.setCauses v).sluice = s.sluice := by
  unfold State.setCauses
  dsimp only
  repeat' split
  all_goals simp
@[simp] theorem State.setCause_sluice (n : Nat) (b : Bool) : (s.setCause n b).sluice = s.sluice := by
  unfold State.setCause
  simp
@[simp] theorem State.evalLead_sluice : (s.evalLead).sluice = s.sluice := by
  unfold State.evalLead
  dsimp only
  repeat' split
  all_goals simp
@[simp] theorem State.setLimit_sluice (lim why : Nat) : (s.setLimit lim why).sluice = s.sluice := by
  unfold State.setLimit
  repeat' split
  all_goals simp
@[simp] theorem State.evalGov_sluice : (s.evalGov).sluice = s.sluice := by
  unfold State.evalGov
  dsimp only
  repeat' split
  all_goals simp
@[simp] theorem State.checkOverspeed_sluice : (s.checkOverspeed).sluice = s.sluice := by
  unfold State.checkOverspeed
  dsimp only
  repeat' split
  all_goals simp
@[simp] theorem State.setTrig_sluice (n : TrigNo) (f : TrigState → TrigState) : (s.setTrig n f).sluice = s.sluice := by
  unfold State.setTrig
  simp
@[simp] theorem State.markNow_sluice (n : TrigNo) : (s.markNow n).sluice = s.sluice := by
  unfold State.markNow
  simp
@[simp] theorem State.pulse_sluice (n : TrigNo) (line : Nat) : (s.pulse n line).sluice = s.sluice := by
  unfold State.pulse
  repeat' split
  all_goals simp
@[simp] theorem State.pulseFor_sluice (n : TrigNo) (start : Nat) : (s.pulseFor n start).sluice = s.sluice := by
  unfold State.pulseFor
  simp
@[simp] theorem State.pulsesAt_sluice (n : Nat) : (s.pulsesAt n).sluice = s.sluice := by
  refine foldl_same State.sluice _ (fun t x => ?_) _ _
  repeat' split
  all_goals simp
@[simp] theorem State.pulsesStop_sluice : (s.pulsesStop).sluice = s.sluice := by
  refine foldl_same State.sluice _ (fun t x => ?_) _ _
  repeat' split
  all_goals simp
@[simp] theorem State.addDefect_sluice (r : DefectRecord) : (s.addDefect r).sluice = s.sluice := by
  unfold State.addDefect
  repeat' split
  all_goals simp
@[simp] theorem State.defect_sluice (k : DefectKind) (first last : Int) : (s.defect k first last).sluice = s.sluice := by
  unfold State.defect
  repeat' split
  all_goals simp
@[simp] theorem State.dryEnd_sluice : (s.dryEnd).sluice = s.sluice := by
  unfold State.dryEnd
  repeat' split
  all_goals simp
@[simp] theorem State.dryEarly_sluice : (s.dryEarly).sluice = s.sluice := by
  simp [State.dryEarly, foldl_same State.sluice]
@[simp] theorem State.forgetJudged_sluice (start : Nat) : (s.forgetJudged start).sluice = s.sluice := by
  unfold State.forgetJudged
  simp
@[simp] theorem State.endEvent_sluice (id : PageId) (st shown : PageState) : (s.endEvent id st shown).sluice = s.sluice := by
  unfold State.endEvent
  simp
@[simp] theorem State.keepEnded_sluice (e : EndedPage) : (s.keepEnded e).sluice = s.sluice := by
  unfold State.keepEnded
  simp
@[simp] theorem State.dropCtx_sluice (fallback : Bool) : (s.dropCtx fallback).sluice = s.sluice := by
  unfold State.dropCtx
  simp
@[simp] theorem State.logCode_sluice (d : PageDesc) (serial : Option (BitVec 48 × BitVec 40)) (outcome : Nat) : (s.logCode d serial outcome).sluice = s.sluice := by
  unfold State.logCode
  repeat' split
  all_goals simp
@[simp] theorem State.unpend_sluice (n : Option TrigNo) (start : Nat) : (s.unpend n start).sluice = s.sluice := by
  unfold State.unpend
  repeat' split
  all_goals simp
@[simp] theorem State.rolloutEnd_sluice (id : PageId) : (s.rolloutEnd id).sluice = s.sluice := by
  unfold State.rolloutEnd
  repeat' split
  all_goals simp
@[simp] theorem State.setQ_sluice (id : PageId) (f : QEntry → QEntry) : (s.setQ id f).sluice = s.sluice := by
  unfold State.setQ
  simp
@[simp] theorem State.assignBy_sluice (line : QEntry → Option Nat) : (s.assignBy line).sluice = s.sluice := by
  unfold State.assignBy
  repeat' split
  all_goals simp
@[simp] theorem State.assignNext_sluice : (s.assignNext).sluice = s.sluice := by
  unfold State.assignNext
  simp
@[simp] theorem State.discardPrepared_sluice : (s.discardPrepared).sluice = s.sluice := by
  unfold State.discardPrepared
  repeat' split
  all_goals simp
@[simp] theorem State.mapTakesEffect_sluice (m : NozzleMap) (rolls : Bool) : (s.mapTakesEffect m rolls).sluice = s.sluice := by
  unfold State.mapTakesEffect
  repeat' split
  all_goals simp
@[simp] theorem State.encCorrect_sluice (k : EncNo) : (s.encCorrect k).sluice = s.sluice := by
  unfold State.encCorrect
  dsimp only
  repeat' split
  all_goals simp
@[simp] theorem State.encBoundary_sluice (k : EncNo) : (s.encBoundary k).sluice = s.sluice := by
  unfold State.encBoundary
  simp
@[simp] theorem State.baseline_sluice : (s.baseline).sluice = s.sluice := by
  unfold State.baseline
  simp
@[simp] theorem State.lossDefect_sluice (sp : Span) (p : HeadPort) (n : Nat) (r : HeadLoss) : (s.lossDefect sp p n r).sluice = s.sluice := by
  unfold State.lossDefect
  repeat' split
  all_goals simp
@[simp] theorem State.tellTakeover_sluice (p : HeadPort) (n : Nat) (take : Bool) : (s.tellTakeover p n take).sluice = s.sluice := by
  unfold State.tellTakeover
  repeat' split
  all_goals simp
@[simp] theorem State.loseHead_sluice (sp : Span) (c : PageCtx) (p : HeadPort) (n : Nat) : (s.loseHead sp c p n).sluice = s.sluice := by
  unfold State.loseHead
  repeat' split
  all_goals simp
@[simp] theorem State.headsOutAtFlip_sluice : (s.headsOutAtFlip).sluice = s.sluice := by
  unfold State.headsOutAtFlip
  split
  · refine foldl_same State.sluice _ (fun t x => ?_) _ _
    split <;> simp
  · rfl
@[simp] theorem State.camPage_sluice (sp : Span) (c : Option PageCtx) : (s.camPage sp c).sluice = s.sluice := by
  unfold State.camPage
  repeat' split
  all_goals simp
@[simp] theorem State.dropRun_sluice (p : CalProc) : (s.dropRun p).sluice = s.sluice := by
  unfold State.dropRun
  repeat' split
  all_goals simp
@[simp] theorem State.calAnswer_sluice (r : CalRun) (st : Code) (n : Nat) : (s.calAnswer r st n).sluice = s.sluice := by
  unfold State.calAnswer
  simp
@[simp] theorem State.calFail_sluice (r : CalRun) (reason : Nat) : (s.calFail r reason).sluice = s.sluice := by
  unfold State.calFail
  simp
@[simp] theorem State.calCheck_sluice (of : CalProc → Bool) : (s.calCheck of).sluice = s.sluice := by
  refine foldl_same State.sluice _ (fun t x => ?_) _ _
  repeat' split
  all_goals simp
@[simp] theorem State.calPrintStop_sluice : (s.calPrintStop).sluice = s.sluice := by
  simp [State.calPrintStop, foldl_same State.sluice]
@[simp] theorem State.setHead_sluice (p : HeadPort) (f : HeadState → HeadState) : (s.setHead p f).sluice = s.sluice := by
  unfold State.setHead
  simp
@[simp] theorem State.portSlots_sluice (p : HeadPort) : (s.portSlots p).sluice = s.sluice := by
  unfold State.portSlots
  repeat' split
  all_goals simp
@[simp] theorem State.offer_sluice (p : HeadPort) (x : TxItem) : (s.offer p x).sluice = s.sluice := by
  unfold State.offer
  simp
@[simp] theorem State.headSlots_sluice : (s.headSlots).sluice = s.sluice := by
  simp [State.headSlots, foldl_same State.sluice]
@[simp] theorem State.allSlots_sluice : (s.allSlots).sluice = s.sluice := by
  unfold State.allSlots
  simp
@[simp] theorem State.sendFrames_sluice (m : NozzleMap) (depth n : Nat) (codes : Option (HeadRec → List Nat)) : (s.sendFrames m depth n codes).sluice = s.sluice := by
  unfold State.sendFrames
  split
  · rfl
  · exact foldl_same State.sluice _ (fun t x => by split <;> simp) _ _
@[simp] theorem State.sendLine_sluice (q : Place) (n : Nat) : (s.sendLine q n).sluice = s.sluice := by
  unfold State.sendLine
  repeat' split
  all_goals simp
@[simp] theorem State.judgeBlank_sluice (page : PageId) (n : Nat) : (s.judgeBlank page n).sluice = s.sluice := by
  unfold State.judgeBlank
  repeat' split
  all_goals simp
@[simp] theorem State.assemble_sluice (n : Nat) : (s.assemble n).sluice = s.sluice := by
  unfold State.assemble
  repeat' split
  all_goals simp
@[simp] theorem State.assembleAgain_sluice (a b : Nat) : (s.assembleAgain a b).sluice = s.sluice := by
  simp [State.assembleAgain, foldl_same State.sluice]
@[simp] theorem State.fixStart_sluice (start : Nat) : (s.fixStart start).sluice = s.sluice := by
  unfold State.fixStart
  simp
@[simp] theorem State.assembleUpTo_sluice (n : Nat) : (s.assembleUpTo n).sluice = s.sluice := by
  unfold State.assembleUpTo
  simp
@[simp] theorem State.writeHealth_sluice : (s.writeHealth).sluice = s.sluice := by
  unfold State.writeHealth
  simp
@[simp] theorem State.stopNow_sluice : (s.stopNow).sluice = s.sluice := by
  unfold State.stopNow
  dsimp only
  repeat' split
  all_goals simp [foldl_same State.sluice]
@[simp] theorem State.endPage_sluice : (s.endPage).sluice = s.sluice := by
  unfold State.endPage
  dsimp only
  repeat' split
  all_goals simp
@[simp] theorem State.toFront_sluice (id : PageId) : (s.toFront id).sluice = s.sluice := by
  unfold State.toFront
  dsimp only
  repeat' split
  all_goals simp [foldl_same State.sluice]
@[simp] theorem State.writeBlock_sluice (x : Cmd) (addr len : Word) (ws : List Word) (ok : Nat) : (s.writeBlock x addr len ws ok).1.sluice = s.sluice := by
  unfold State.writeBlock
  repeat' split
  all_goals simp
@[simp] theorem State.setCtx_sluice (fallback : Bool) (f : PageCtx → PageCtx) : (s.setCtx fallback f).sluice = s.sluice := by
  unfold State.setCtx
  simp
@[simp] theorem State.startEngine_sluice (k : EngineNo) : (s.startEngine k).sluice = s.sluice := by
  unfold State.startEngine
  dsimp only
  repeat' split
  all_goals simp
@[simp] theorem State.startEngines_sluice : (s.startEngines).sluice = s.sluice := by
  simp [State.startEngines, foldl_same State.sluice]
@[simp] theorem State.rolloutStep_sluice (id : PageId) : (s.rolloutStep id).sluice = s.sluice := by
  unfold State.rolloutStep
  repeat' split
  all_goals simp
@[simp] theorem State.drawFor_sluice (d : PageDesc) (kept : Option (BitVec 48 × BitVec 40)) : (s.drawFor d kept).1.sluice = s.sluice := by
  unfold State.drawFor
  repeat' split
  all_goals simp
@[simp] theorem State.bindStart_sluice (b : BoundStart) : (s.bindStart b).sluice = s.sluice := by
  unfold State.bindStart
  simp
@[simp] theorem State.bindFallback_sluice (n : TrigNo) (start : Nat) : (s.bindFallback n start).sluice = s.sluice := by
  unfold State.bindFallback
  repeat' split
  all_goals simp
@[simp] theorem State.giveUpStart_sluice (b : BoundStart) : (s.giveUpStart b).sluice = s.sluice := by
  unfold State.giveUpStart
  repeat' split
  all_goals simp
@[simp] theorem State.holdPage_sluice (q : QEntry) (reason : Nat) : (s.holdPage q reason).sluice = s.sluice := by
  unfold State.holdPage
  dsimp only
  repeat' split
  all_goals simp [foldl_same State.sluice]
@[simp] theorem State.sendFrom_sluice (id : PageId) : (s.sendFrom id).sluice = s.sluice := by
  unfold State.sendFrom
  simp
@[simp] theorem State.prepareQueue_sluice (q : QEntry) (m : NozzleMap) : (s.prepareQueue q m).sluice = s.sluice := by
  unfold State.prepareQueue
  dsimp only
  repeat' split
  all_goals simp
@[simp] theorem State.prepareFallback_sluice (m : NozzleMap) : (s.prepareFallback m).sluice = s.sluice := by
  unfold State.prepareFallback
  dsimp only
  repeat' split
  all_goals simp
@[simp] theorem State.dropFallbackSerial_sluice : (s.dropFallbackSerial).sluice = s.sluice := by
  unfold State.dropFallbackSerial
  repeat' split
  all_goals simp
@[simp] theorem State.encEvent_sluice (event : Nat) (k : EncNo) : (s.encEvent event k).sluice = s.sluice := by
  unfold State.encEvent
  split
  · exact foldl_same State.sluice _ (fun t x => by simp) _ _
  · rfl
@[simp] theorem State.token_sluice (base : Nat) (k : TokenKind) (n : Nat) (p : PortSent) (tf : Rat) (period : Nat) : (s.token base k n p tf period).1.sluice = s.sluice := by
  unfold State.token
  repeat' split
  all_goals simp
@[simp] theorem State.holdPort_sluice (base n : Nat) (p : PortSent) : (s.holdPort base n p).1.sluice = s.sluice := by
  unfold State.holdPort
  repeat' split
  all_goals simp
@[simp] theorem State.revisePort_sluice (base n : Nat) (p : PortSent) (tc tf : Rat) (period : Nat) : (s.revisePort base n p tc tf period).1.sluice = s.sluice := by
  unfold State.revisePort
  repeat' split
  all_goals simp
@[simp] theorem State.readyCheck_sluice : (s.readyCheck).sluice = s.sluice := by
  unfold State.readyCheck
  dsimp only
  repeat' split
  all_goals simp
@[simp] theorem State.setEnc_sluice (k : EncNo) (f : EncState → EncState) : (s.setEnc k f).sluice = s.sluice := by
  unfold State.setEnc
  simp
@[simp] theorem State.judgeIndex_sluice (k : EncNo) (ahead : Int) : (s.judgeIndex k ahead).sluice = s.sluice := by
  unfold State.judgeIndex
  dsimp only
  repeat' split
  all_goals simp
@[simp] theorem State.aligned_sluice (k : EncNo) (method : Nat) (off : Int) : (s.aligned k method off).sluice = s.sluice := by
  unfold State.aligned
  repeat' split
  all_goals simp
@[simp] theorem State.ownIndex_sluice (k : EncNo) (count : Int) : (s.ownIndex k count).sluice = s.sluice := by
  unfold State.ownIndex
  dsimp only
  repeat' split
  all_goals simp
@[simp] theorem State.relayStep_sluice (k : EncNo) : (s.relayStep k).sluice = s.sluice := by
  unfold State.relayStep
  dsimp only
  repeat' split
  all_goals simp
@[simp] theorem State.drewN_sluice (n : Nat) : (s.drewN n).sluice = s.sluice := by
  unfold State.drewN
  simp
@[simp] theorem State.loadAnswer_sluice (r : LoadReq) (st : Code) (result : Nat) : (s.loadAnswer r st result).sluice = s.sluice := by
  unfold State.loadAnswer
  simp
@[simp] theorem State.loadFails_sluice (r : LoadReq) (id : Nat) (c : Code) (extra : Nat) (reason : Option Nat) : (s.loadFails r id c extra reason).sluice = s.sluice := by
  unfold State.loadFails
  repeat' split
  all_goals simp
@[simp] theorem State.endTransfer_sluice (r : LoadReq) : (s.endTransfer r).sluice = s.sluice := by
  unfold State.endTransfer
  repeat' split
  all_goals simp
@[simp] theorem State.freeSlot_sluice (k : SlotNo) : (s.freeSlot k).sluice = s.sluice := by
  unfold State.freeSlot
  repeat' split
  all_goals simp
@[simp] theorem State.flightId_sluice (f : Flight) : (s.flightId f).1.sluice = s.sluice := by
  unfold State.flightId
  repeat' split
  all_goals simp
@[simp] theorem State.discardFlight_sluice (k : SlotNo) (f : Flight) (c : Code) (extra : Nat) : (s.discardFlight k f c extra).sluice = s.sluice := by
  unfold State.discardFlight
  simp
@[simp] theorem State.endParcelReads_sluice : (s.endParcelReads).sluice = s.sluice := by
  refine foldl_same State.sluice _ (fun t x => ?_) _ _
  repeat' split
  all_goals simp
@[simp] theorem State.checkEq_sluice : (s.checkEq).sluice = s.sluice := by
  unfold State.checkEq
  dsimp only
  repeat' split
  all_goals simp
@[simp] theorem State.equalise_sluice (n : LaneNo) : (s.equalise n).sluice = s.sluice := by
  unfold State.equalise
  repeat' split
  all_goals simp
@[simp] theorem State.endpointTrains_sluice : (s.endpointTrains).sluice = s.sluice := by
  simp [State.endpointTrains, foldl_same State.sluice]
@[simp] theorem State.loadKernels_sluice : (s.loadKernels).sluice = s.sluice := by
  unfold State.loadKernels
  dsimp only
  repeat' split
  all_goals simp [foldl_same State.sluice]
@[simp] theorem State.loseObjects_sluice (fallback : Bool) (id : Option PageId) (o : ObjectRead) : (s.loseObjects fallback id o).sluice = s.sluice := by
  unfold State.loseObjects
  repeat' split
  all_goals simp
@[simp] theorem State.headOut_sluice (p : HeadPort) (n : Nat) : (s.headOut p n).sluice = s.sluice := by
  unfold State.headOut
  repeat' split
  all_goals simp
@[simp] theorem State.badAt_sluice (n : Nat) : (s.badAt n).sluice = s.sluice := by
  unfold State.badAt
  split
  · dsimp only
    rw [foldl_same State.sluice _ (fun t x => by split <;> simp)]
    simp
  · rfl
@[simp] theorem State.codeAt_sluice (n : Nat) : (s.codeAt n).sluice = s.sluice := by
  unfold State.codeAt
  dsimp only
  repeat' split
  all_goals simp
@[simp] theorem State.endSession_sluice (n : Chan) : (s.endSession n).sluice = s.sluice := by
  unfold State.endSession
  split
  · rfl
  · refine (foldl_same State.sluice _ (fun t x => ?_) _ _).trans rfl
    repeat' split
    all_goals simp
@[simp] theorem State.openSession_sluice (x : Cmd) (n : Chan) : (s.openSession x n).1.sluice = s.sluice := by
  unfold State.openSession
  dsimp only
  split <;> simp
@[simp] theorem State.serveOpen_sluice (w : Chan × Cmd) : (s.serveOpen w).sluice = s.sluice := by
  unfold State.serveOpen
  dsimp only
  split
  · rfl
  split
  · simp
  have h := State.openSession_sluice { s with sec := { s.sec with openWaits := s.sec.openWaits.erase w } } w.2 w.1
  split <;> next heq => simpa [heq] using h
@[simp] theorem State.serveOpens_sluice : (s.serveOpens).sluice = s.sluice := by
  simp [State.serveOpens, foldl_same State.sluice]
@[simp] theorem State.hostEndReset_sluice (ch : Chan) : (s.hostEndReset ch).sluice = s.sluice := by
  unfold State.hostEndReset
  dsimp only
  repeat' split
  all_goals simp

/-! ### What leaves the part `store` alone -/

@[simp] theorem State.setLane_store (n : LaneNo) (f : LaneState → LaneState) : (s.setLane n f).store = s.store := by
  unfold State.setLane
  simp
@[simp] theorem State.correctedError_store (burst : Nat) : (s.correctedError burst).store = s.store := by
  unfold State.correctedError
  dsimp only
  repeat' split
  all_goals simp
@[simp] theorem State.uncorrectable_store (burst : BitVec 30) (source : Nat) : (s.uncorrectable burst source).store = s.store := by
  unfold State.uncorrectable
  simp
@[simp] theorem State.readBurst_store (source : Nat) (b : BurstRead) : (s.readBurst source b).1.store = s.store := by
  unfold State.readBurst
  repeat' split
  all_goals simp
@[simp] theorem State.wrote_store (a n : Nat) : (s.wrote a n).store = s.store := by
  unfold State.wrote
  repeat' split
  all_goals simp
@[simp] theorem State.wroteIn_store (region : Nat) : (s.wroteIn region).store = s.store := by
  unfold State.wroteIn
  repeat' split
  all_goals simp
@[simp] theorem State.merge_store (a : Nat) : (s.merge a).1.store = s.store := by
  unfold State.merge
  repeat' split
  all_goals simp
@[simp] theorem State.writeWords_store (w n : Nat) : (s.writeWords w n).1.store = s.store := by
  unfold State.writeWords
  dsimp only
  repeat' split
  all_goals simp
@[simp] theorem State.logLowCheck_store : (s.logLowCheck).store = s.store := by
  unfold State.logLowCheck
  repeat' split
  all_goals simp
@[simp] theorem State.logAppend_store (ls : List (List Word × Bool)) : (s.logAppend ls).store = s.store := by
  simp [State.logAppend, foldl_same State.store]
@[simp] theorem State.checkpoint_store (kind : Nat) (l3 : List Word) : (s.checkpoint kind l3).store = s.store := by
  unfold State.checkpoint
  simp
@[simp] theorem State.chainLine_store (w0 w1 w2 : Word) : (s.chainLine w0 w1 w2).store = s.store := by
  unfold State.chainLine
  dsimp only
  repeat' split
  all_goals simp
@[simp] theorem State.skipLine_store (n : Fin 16) : (s.skipLine n).store = s.store := by
  unfold State.skipLine
  dsimp only
  repeat' split
  all_goals simp
@[simp] theorem State.resumeLog_store : (s.resumeLog).store = s.store := by
  unfold State.resumeLog
  dsimp only
  repeat' split
  all_goals simp [foldl_same State.store]
@[simp] theorem State.codeLine_store (slot : Fin 16) (serial : BitVec 48) (mac : BitVec 40) (page : PageId) (tag : Word) (outcome : Nat) : (s.codeLine slot serial mac page tag outcome).store = s.store := by
  unfold State.codeLine
  repeat' split
  all_goals simp
@[simp] theorem State.sendTagged_store (kind : Nat) (dest : NodeNo) (ws : List Word) : (s.sendTagged kind dest ws).store = s.store := by
  unfold State.sendTagged
  repeat' split
  all_goals simp
@[simp] theorem State.record_store (rkind : Nat) (w1 w2 : Word) : (s.record rkind w1 w2).store = s.store := by
  unfold State.record
  repeat' split
  all_goals simp
@[simp] theorem State.judgePort_store (m : NozzleMap) (h : HeadRec) : (s.judgePort m h).1.store = s.store := by
  unfold State.judgePort
  repeat' split
  all_goals simp
@[simp] theorem State.judgeAll_store (m : NozzleMap) : (s.judgeAll m).store = s.store := by
  have h (l : List HeadRec) (t : State) : (l.foldl (fun (acc : State × Nat) h =>
      let j := acc.1.judgePort m h
      (j.1, acc.2 + j.2)) (t, 0)).1.store = t.store :=
    foldl_same (fun p : State × Nat => p.1.store) _ (fun t v => by simp) _ _
  unfold State.judgeAll
  dsimp only
  split <;> simp [h]
@[simp] theorem State.applySyncs_store (id : PageId) : (s.applySyncs id).store = s.store := by
  unfold State.applySyncs
  repeat' split
  all_goals simp
@[simp] theorem State.checkCaps_store (m : NozzleMap) : (s.checkCaps m).store = s.store := by
  refine foldl_same State.store _ (fun t x => ?_) _ _
  dsimp only
  repeat' split
  all_goals simp
@[simp] theorem State.setCauses_store (v : BitVec 5) : (s.setCauses v).store = s.store := by
  unfold State.setCauses
  dsimp only
  repeat' split
  all_goals simp
@[simp] theorem State.setCause_store (n : Nat) (b : Bool) : (s.setCause n b).store = s.store := by
  unfold State.setCause
  simp
@[simp] theorem State.setLimit_store (lim why : Nat) : (s.setLimit lim why).store = s.store := by
  unfold State.setLimit
  repeat' split
  all_goals simp
@[simp] theorem State.evalGov_store : (s.evalGov).store = s.store := by
  unfold State.evalGov
  dsimp only
  repeat' split
  all_goals simp
@[simp] theorem State.setTrig_store (n : TrigNo) (f : TrigState → TrigState) : (s.setTrig n f).store = s.store := by
  unfold State.setTrig
  simp
@[simp] theorem State.markNow_store (n : TrigNo) : (s.markNow n).store = s.store := by
  unfold State.markNow
  simp
@[simp] theorem State.pulse_store (n : TrigNo) (line : Nat) : (s.pulse n line).store = s.store := by
  unfold State.pulse
  repeat' split
  all_goals simp
@[simp] theorem State.pulseFor_store (n : TrigNo) (start : Nat) : (s.pulseFor n start).store = s.store := by
  unfold State.pulseFor
  simp
@[simp] theorem State.addDefect_store (r : DefectRecord) : (s.addDefect r).store = s.store := by
  unfold State.addDefect
  repeat' split
  all_goals simp
@[simp] theorem State.defect_store (k : DefectKind) (first last : Int) : (s.defect k first last).store = s.store := by
  unfold State.defect
  repeat' split
  all_goals simp
@[simp] theorem State.dryEnd_store : (s.dryEnd).store = s.store := by
  unfold State.dryEnd
  repeat' split
  all_goals simp
@[simp] theorem State.forgetJudged_store (start : Nat) : (s.forgetJudged start).store = s.store := by
  unfold State.forgetJudged
  simp
@[simp] theorem State.endEvent_store (id : PageId) (st shown : PageState) : (s.endEvent id st shown).store = s.store := by
  unfold State.endEvent
  simp
@[simp] theorem State.keepEnded_store (e : EndedPage) : (s.keepEnded e).store = s.store := by
  unfold State.keepEnded
  simp
@[simp] theorem State.dropCtx_store (fallback : Bool) : (s.dropCtx fallback).store = s.store := by
  unfold State.dropCtx
  simp
@[simp] theorem State.logCode_store (d : PageDesc) (serial : Option (BitVec 48 × BitVec 40)) (outcome : Nat) : (s.logCode d serial outcome).store = s.store := by
  unfold State.logCode
  repeat' split
  all_goals simp
@[simp] theorem State.unpend_store (n : Option TrigNo) (start : Nat) : (s.unpend n start).store = s.store := by
  unfold State.unpend
  repeat' split
  all_goals simp
@[simp] theorem State.rolloutEnd_store (id : PageId) : (s.rolloutEnd id).store = s.store := by
  unfold State.rolloutEnd
  repeat' split
  all_goals simp
@[simp] theorem State.setQ_store (id : PageId) (f : QEntry → QEntry) : (s.setQ id f).store = s.store := by
  unfold State.setQ
  simp
@[simp] theorem State.assignBy_store (line : QEntry → Option Nat) : (s.assignBy line).store = s.store := by
  unfold State.assignBy
  repeat' split
  all_goals simp
@[simp] theorem State.assignNext_store : (s.assignNext).store = s.store := by
  unfold State.assignNext
  simp
@[simp] theorem State.startRollout_store (new : List (Nozzle × Word)) (k : Nat) : (s.startRollout new k).store = s.store := by
  unfold State.startRollout
  simp
@[simp] theorem State.discardPrepared_store : (s.discardPrepared).store = s.store := by
  unfold State.discardPrepared
  repeat' split
  all_goals simp
@[simp] theorem State.setHead_store (p : HeadPort) (f : HeadState → HeadState) : (s.setHead p f).store = s.store := by
  unfold State.setHead
  simp
@[simp] theorem State.portSlots_store (p : HeadPort) : (s.portSlots p).store = s.store := by
  unfold State.portSlots
  repeat' split
  all_goals simp
@[simp] theorem State.offer_store (p : HeadPort) (x : TxItem) : (s.offer p x).store = s.store := by
  unfold State.offer
  simp
@[simp] theorem State.sendFrames_store (m : NozzleMap) (depth n : Nat) (codes : Option (HeadRec → List Nat)) : (s.sendFrames m depth n codes).store = s.store := by
  unfold State.sendFrames
  split
  · rfl
  · exact foldl_same State.store _ (fun t x => by split <;> simp) _ _
@[simp] theorem State.sendLine_store (q : Place) (n : Nat) : (s.sendLine q n).store = s.store := by
  unfold State.sendLine
  repeat' split
  all_goals simp
@[simp] theorem State.judgeBlank_store (page : PageId) (n : Nat) : (s.judgeBlank page n).store = s.store := by
  unfold State.judgeBlank
  repeat' split
  all_goals simp
@[simp] theorem State.assemble_store (n : Nat) : (s.assemble n).store = s.store := by
  unfold State.assemble
  repeat' split
  all_goals simp
@[simp] theorem State.assembleAgain_store (a b : Nat) : (s.assembleAgain a b).store = s.store := by
  simp [State.assembleAgain, foldl_same State.store]
@[simp] theorem State.fixStart_store (start : Nat) : (s.fixStart start).store = s.store := by
  unfold State.fixStart
  simp
@[simp] theorem State.rolloutStep_store (id : PageId) : (s.rolloutStep id).store = s.store := by
  unfold State.rolloutStep
  repeat' split
  all_goals simp
@[simp] theorem State.bindStart_store (b : BoundStart) : (s.bindStart b).store = s.store := by
  unfold State.bindStart
  simp
@[simp] theorem State.bindFallback_store (n : TrigNo) (start : Nat) : (s.bindFallback n start).store = s.store := by
  unfold State.bindFallback
  repeat' split
  all_goals simp
@[simp] theorem State.giveUpStart_store (b : BoundStart) : (s.giveUpStart b).store = s.store := by
  unfold State.giveUpStart
  repeat' split
  all_goals simp
@[simp] theorem State.dropFallbackSerial_store : (s.dropFallbackSerial).store = s.store := by
  unfold State.dropFallbackSerial
  repeat' split
  all_goals simp
@[simp] theorem State.dropFallbackStarts_store : (s.dropFallbackStarts).store = s.store := by
  simp [State.dropFallbackStarts, foldl_same State.store]
@[simp] theorem State.dropFallbackBand_store : (s.dropFallbackBand).store = s.store := by
  unfold State.dropFallbackBand
  repeat' split
  all_goals simp
@[simp] theorem State.clearFallback_store : (s.clearFallback).store = s.store := by
  unfold State.clearFallback
  simp
@[simp] theorem State.setFallback_store (d : PageDesc) : (s.setFallback d).store = s.store := by
  unfold State.setFallback
  dsimp only
  repeat' split
  all_goals simp
@[simp] theorem State.takeFrame_store (kind : Nat) (data : List Word) : (s.takeFrame kind data).store = s.store := by
  unfold State.takeFrame
  repeat' split
  all_goals simp
@[simp] theorem State.endTransfer_store (r : LoadReq) : (s.endTransfer r).store = s.store := by
  unfold State.endTransfer
  repeat' split
  all_goals simp
@[simp] theorem State.flightId_store (f : Flight) : (s.flightId f).1.store = s.store := by
  unfold State.flightId
  repeat' split
  all_goals simp
@[simp] theorem State.queueMirror_store (v : Verified) : (s.queueMirror v).store = s.store := by
  unfold State.queueMirror
  repeat' split
  all_goals simp
@[simp] theorem State.placeFrame_store (src : NodeNo) (words : List Word) : (s.placeFrame src words).store = s.store := by
  unfold State.placeFrame
  simp
@[simp] theorem State.placeHeld_store : (s.placeHeld).store = s.store := by
  unfold State.placeHeld
  dsimp only
  repeat' split
  all_goals simp [foldl_same State.store]
@[simp] theorem State.stage_store (f : Flight) (h : List Word) (i n : Nat) : (s.stage f h i n).1.store = s.store := by
  unfold State.stage
  simp
@[simp] theorem State.advanceSeq_store (r : LoadReq) (h : List Word) : (s.advanceSeq r h).store = s.store := by
  unfold State.advanceSeq
  repeat' split
  all_goals simp
@[simp] theorem State.checkEq_store : (s.checkEq).store = s.store := by
  unfold State.checkEq
  dsimp only
  repeat' split
  all_goals simp
@[simp] theorem State.equalise_store (n : LaneNo) : (s.equalise n).store = s.store := by
  unfold State.equalise
  repeat' split
  all_goals simp
@[simp] theorem State.endpointTrains_store : (s.endpointTrains).store = s.store := by
  simp [State.endpointTrains, foldl_same State.store]
@[simp] theorem State.loadKernels_store : (s.loadKernels).store = s.store := by
  unfold State.loadKernels
  dsimp only
  repeat' split
  all_goals simp [foldl_same State.store]

/-! ### What leaves the part `sys` alone -/

@[simp] theorem State.setLane_sys (n : LaneNo) (f : LaneState → LaneState) : (s.setLane n f).sys = s.sys := by
  unfold State.setLane
  simp
@[simp] theorem State.allFabSlots_sys : (s.allFabSlots).sys = s.sys := by
  exact foldl_same State.sys _ (fun t v => by split <;> simp) _ _
@[simp] theorem State.correctedError_sys (burst : Nat) : (s.correctedError burst).sys = s.sys := by
  unfold State.correctedError
  dsimp only
  repeat' split
  all_goals simp
@[simp] theorem State.uncorrectable_sys (burst : BitVec 30) (source : Nat) : (s.uncorrectable burst source).sys = s.sys := by
  unfold State.uncorrectable
  simp
@[simp] theorem State.readBurst_sys (source : Nat) (b : BurstRead) : (s.readBurst source b).1.sys = s.sys := by
  unfold State.readBurst
  repeat' split
  all_goals simp
@[simp] theorem State.wroteIn_sys (region : Nat) : (s.wroteIn region).sys = s.sys := by
  unfold State.wroteIn
  repeat' split
  all_goals simp
@[simp] theorem State.merge_sys (a : Nat) : (s.merge a).1.sys = s.sys := by
  unfold State.merge
  repeat' split
  all_goals simp
@[simp] theorem State.logLowCheck_sys : (s.logLowCheck).sys = s.sys := by
  unfold State.logLowCheck
  repeat' split
  all_goals simp
@[simp] theorem State.logAppend_sys (ls : List (List Word × Bool)) : (s.logAppend ls).sys = s.sys := by
  simp [State.logAppend, foldl_same State.sys]
@[simp] theorem State.checkpoint_sys (kind : Nat) (l3 : List Word) : (s.checkpoint kind l3).sys = s.sys := by
  unfold State.checkpoint
  simp
@[simp] theorem State.chainLine_sys (w0 w1 w2 : Word) : (s.chainLine w0 w1 w2).sys = s.sys := by
  unfold State.chainLine
  dsimp only
  repeat' split
  all_goals simp
@[simp] theorem State.skipLine_sys (n : Fin 16) : (s.skipLine n).sys = s.sys := by
  unfold State.skipLine
  dsimp only
  repeat' split
  all_goals simp
@[simp] theorem State.resumeLog_sys : (s.resumeLog).sys = s.sys := by
  unfold State.resumeLog
  dsimp only
  repeat' split
  all_goals simp [foldl_same State.sys]
@[simp] theorem State.codeLine_sys (slot : Fin 16) (serial : BitVec 48) (mac : BitVec 40) (page : PageId) (tag : Word) (outcome : Nat) : (s.codeLine slot serial mac page tag outcome).sys = s.sys := by
  unfold State.codeLine
  repeat' split
  all_goals simp
@[simp] theorem State.sendTagged_sys (kind : Nat) (dest : NodeNo) (ws : List Word) : (s.sendTagged kind dest ws).sys = s.sys := by
  unfold State.sendTagged
  repeat' split
  all_goals simp
@[simp] theorem State.record_sys (rkind : Nat) (w1 w2 : Word) : (s.record rkind w1 w2).sys = s.sys := by
  unfold State.record
  repeat' split
  all_goals simp
@[simp] theorem State.dropPage_sys (id : PageId) : (s.dropPage id).sys = s.sys := by
  unfold State.dropPage
  simp
@[simp] theorem State.setCam_sys (p : CamNo) (f : CamState → CamState) : (s.setCam p f).sys = s.sys := by
  unfold State.setCam
  simp
@[simp] theorem State.tapsBegin_sys (p : CamNo) (set : CamShadow) (n : Nat) : (s.tapsBegin p set n).sys = s.sys := by
  refine foldl_same State.sys _ (fun t k => ?_) _ _
  dsimp only
  repeat' split
  all_goals simp
@[simp] theorem State.camWriteNext_sys (p : CamNo) : (s.camWriteNext p).sys = s.sys := by
  unfold State.camWriteNext
  repeat' split
  all_goals simp
@[simp] theorem State.camWrites_sys (p : CamNo) (gen : BitVec 16) (regs : List (BitVec 32 × BitVec 32)) : (s.camWrites p gen regs).sys = s.sys := by
  unfold State.camWrites
  dsimp only
  repeat' split
  all_goals simp
@[simp] theorem State.openFrame_sys (p : CamNo) (g : Option CamPage) (n positions gp : Nat) (time : Option Nat) : (s.openFrame p g n positions gp time).sys = s.sys := by
  unfold State.openFrame
  dsimp only
  repeat' split
  all_goals simp
@[simp] theorem State.addStats_sys (p : CamNo) (r : StatsRec) : (s.addStats p r).sys = s.sys := by
  simp [State.addStats, foldl_same State.sys]
@[simp] theorem State.closeFrame_sys (p : CamNo) (f : Frame) (status cause : Nat) : (s.closeFrame p f status cause).sys = s.sys := by
  unfold State.closeFrame
  dsimp only
  repeat' split
  all_goals simp
@[simp] theorem State.settleFrames_sys (p : CamNo) : (s.settleFrames p).sys = s.sys := by
  refine foldl_same State.sys _ (fun t x => ?_) _ _
  repeat' split
  all_goals simp
@[simp] theorem State.sendTrigger_sys (p : CamNo) (fr : Option Nat) (n : Nat) (im : Int) (t : Rat) (last : Bool) : (s.sendTrigger p fr n im t last).sys = s.sys := by
  unfold State.sendTrigger
  dsimp only
  repeat' split
  all_goals simp
@[simp] theorem State.camTrigger_sys (p : CamNo) (n : Nat) (tf : Rat) : (s.camTrigger p n tf).sys = s.sys := by
  unfold State.camTrigger
  dsimp only
  repeat' split
  all_goals simp
@[simp] theorem State.camTriggers_sys (n : Nat) (tf : Rat) : (s.camTriggers n tf).sys = s.sys := by
  simp [State.camTriggers, foldl_same State.sys]
@[simp] theorem State.logCode_sys (d : PageDesc) (serial : Option (BitVec 48 × BitVec 40)) (outcome : Nat) : (s.logCode d serial outcome).sys = s.sys := by
  unfold State.logCode
  repeat' split
  all_goals simp
@[simp] theorem State.setHead_sys (p : HeadPort) (f : HeadState → HeadState) : (s.setHead p f).sys = s.sys := by
  unfold State.setHead
  simp
@[simp] theorem State.portSlots_sys (p : HeadPort) : (s.portSlots p).sys = s.sys := by
  unfold State.portSlots
  repeat' split
  all_goals simp
@[simp] theorem State.offer_sys (p : HeadPort) (x : TxItem) : (s.offer p x).sys = s.sys := by
  unfold State.offer
  simp
@[simp] theorem State.headSlots_sys : (s.headSlots).sys = s.sys := by
  simp [State.headSlots, foldl_same State.sys]
@[simp] theorem State.allSlots_sys : (s.allSlots).sys = s.sys := by
  unfold State.allSlots
  simp
@[simp] theorem State.writeHealth_sys : (s.writeHealth).sys = s.sys := by
  unfold State.writeHealth
  simp
@[simp] theorem State.setCtx_sys (fallback : Bool) (f : PageCtx → PageCtx) : (s.setCtx fallback f).sys = s.sys := by
  unfold State.setCtx
  simp
@[simp] theorem State.startEngine_sys (k : EngineNo) : (s.startEngine k).sys = s.sys := by
  unfold State.startEngine
  dsimp only
  repeat' split
  all_goals simp
@[simp] theorem State.dropFallbackSerial_sys : (s.dropFallbackSerial).sys = s.sys := by
  unfold State.dropFallbackSerial
  repeat' split
  all_goals simp
@[simp] theorem State.encEvent_sys (event : Nat) (k : EncNo) : (s.encEvent event k).sys = s.sys := by
  unfold State.encEvent
  split
  · exact foldl_same State.sys _ (fun t x => by simp) _ _
  · rfl
@[simp] theorem State.token_sys (base : Nat) (k : TokenKind) (n : Nat) (p : PortSent) (tf : Rat) (period : Nat) : (s.token base k n p tf period).1.sys = s.sys := by
  unfold State.token
  repeat' split
  all_goals simp
@[simp] theorem State.holdPort_sys (base n : Nat) (p : PortSent) : (s.holdPort base n p).1.sys = s.sys := by
  unfold State.holdPort
  repeat' split
  all_goals simp
@[simp] theorem State.revisePort_sys (base n : Nat) (p : PortSent) (tc tf : Rat) (period : Nat) : (s.revisePort base n p tc tf period).1.sys = s.sys := by
  unfold State.revisePort
  repeat' split
  all_goals simp
@[simp] theorem State.lateness_sys (n : Nat) (late : Bool) (by_ : Rat) : (s.lateness n late by_).sys = s.sys := by
  unfold State.lateness
  repeat' split
  all_goals simp

/-- Going over the ports touches nothing that the step of each port does not. -/
theorem eachPort_sys {f : State → PortSent → State × PortSent × Bool} (hf : ∀ t p, (f t p).1.sys = t.sys) (ps : List PortSent) :
    (eachPort f s ps).1.sys = s.sys :=
  foldl_same (fun p : State × List PortSent × Bool => p.1.sys) _ (fun t p => hf _ _) _ _
@[simp] theorem State.reviseLine_sys (l : AllocLine) (before : Option Rat) : (s.reviseLine l before).1.sys = s.sys := by
  unfold State.reviseLine
  dsimp only
  repeat' split
  all_goals simp [eachPort_sys]
@[simp] theorem State.reviseLines_sys : (s.reviseLines).sys = s.sys := by
  have h (l : List AllocLine) (t : State) : (l.foldl (fun (acc : State × List AllocLine) l =>
      let before := match acc.2.getLast? with | some p => if p.n + 1 = l.n then some p.fires else l.base | none => l.base
      let r := acc.1.reviseLine l before
      (r.1, acc.2 ++ [r.2])) (t, [])).1.sys = t.sys :=
    foldl_same (fun p : State × List AllocLine => p.1.sys) _ (fun t x => by simp) _ _
  exact h _ _
@[simp] theorem State.retire_sys : (s.retire).sys = s.sys := by
  simp [State.retire, foldl_same State.sys]
@[simp] theorem State.checkReversal_sys (q : Rat) (down : Bool) : (s.checkReversal q down).sys = s.sys := by
  unfold State.checkReversal
  dsimp only
  repeat' split
  all_goals simp
@[simp] theorem State.disagree_sys (survivor : EncNo) (reason : Nat) (d : Rat) : (s.disagree survivor reason d).sys = s.sys := by
  unfold State.disagree
  repeat' split
  all_goals simp
@[simp] theorem State.crossCheck_sys : (s.crossCheck).sys = s.sys := by
  unfold State.crossCheck
  dsimp only
  repeat' split
  all_goals simp
@[simp] theorem State.sendStatus_sys : (s.sendStatus).sys = s.sys := by
  unfold State.sendStatus
  split
  · rfl
  · exact foldl_same State.sys _ (fun t x => by split <;> simp) _ _
@[simp] theorem State.announce_sys (c : BitVec 32) : (s.announce c).sys = s.sys := by
  unfold State.announce
  repeat' split
  all_goals simp
@[simp] theorem State.sawClaim_sys (c : BitVec 32) : (s.sawClaim c).sys = s.sys := by
  unfold State.sawClaim
  simp
@[simp] theorem State.takeClaim_sys (c : BitVec 32) : (s.takeClaim c).sys = s.sys := by
  unfold State.takeClaim
  simp
@[simp] theorem State.claimCheck_sys : (s.claimCheck).sys = s.sys := by
  unfold State.claimCheck
  repeat' split
  all_goals simp
@[simp] theorem State.waveAnswer_sys (o : Origin) (tag : BitVec 5) : (s.waveAnswer o tag).sys = s.sys := by
  unfold State.waveAnswer
  repeat' split
  all_goals simp
@[simp] theorem State.waveEnd_sys (p : HeadPort) (w : WaveLoad) (reason : Nat) : (s.waveEnd p w reason).sys = s.sys := by
  unfold State.waveEnd
  repeat' split
  all_goals simp
@[simp] theorem State.headLeft_sys (p : HeadPort) : (s.headLeft p).sys = s.sys := by
  simp [State.headLeft, foldl_same State.sys]
@[simp] theorem State.announceAll_sys : (s.announceAll).sys = s.sys := by
  unfold State.announceAll
  dsimp only
  split
  · split <;> simp
  · rw [foldl_same State.sys _ (fun t x => by split <;> simp)]
    split <;> simp
@[simp] theorem State.keepReport_sys (r : NodeReport) : (s.keepReport r).sys = s.sys := by
  unfold State.keepReport
  simp
@[simp] theorem State.sendFabReport_sys : (s.sendFabReport).sys = s.sys := by
  unfold State.sendFabReport
  repeat' split
  all_goals simp
@[simp] theorem State.reelect_sys : (s.reelect).sys = s.sys := by
  unfold State.reelect
  dsimp only
  repeat' split
  all_goals simp
@[simp] theorem State.portsChanged_sys : (s.portsChanged).sys = s.sys := by
  unfold State.portsChanged
  dsimp only
  repeat' split
  all_goals simp
@[simp] theorem State.fabLeft_sys (p : FabPort) : (s.fabLeft p).sys = s.sys := by
  simp [State.fabLeft, foldl_same State.sys]
@[simp] theorem State.laneLeft_sys (n : LaneNo) (was : LaneState) : (s.laneLeft n was).sys = s.sys := by
  unfold State.laneLeft
  repeat' split
  all_goals simp
@[simp] theorem State.masterCheck_sys : (s.masterCheck).sys = s.sys := by
  unfold State.masterCheck
  repeat' split
  all_goals simp
@[simp] theorem State.camLeft_sys (p : CamNo) : (s.camLeft p).sys = s.sys := by
  simp [State.camLeft, foldl_same State.sys]
@[simp] theorem State.placeFrame_sys (src : NodeNo) (words : List Word) : (s.placeFrame src words).sys = s.sys := by
  unfold State.placeFrame
  simp
@[simp] theorem State.placeHeld_sys : (s.placeHeld).sys = s.sys := by
  unfold State.placeHeld
  dsimp only
  repeat' split
  all_goals simp [foldl_same State.sys]
@[simp] theorem State.testLanesEnd_sys (w : TestWait) : (s.testLanesEnd w).sys = s.sys := by
  unfold State.testLanesEnd
  repeat' split
  all_goals simp
@[simp] theorem State.checkEq_sys : (s.checkEq).sys = s.sys := by
  unfold State.checkEq
  dsimp only
  repeat' split
  all_goals simp
@[simp] theorem State.equalise_sys (n : LaneNo) : (s.equalise n).sys = s.sys := by
  unfold State.equalise
  repeat' split
  all_goals simp
@[simp] theorem State.endpointTrains_sys : (s.endpointTrains).sys = s.sys := by
  simp [State.endpointTrains, foldl_same State.sys]
@[simp] theorem State.lanesBegin_sys : (s.lanesBegin).sys = s.sys := by
  unfold State.lanesBegin
  simp
@[simp] theorem State.laneRest_sys (n : LaneNo) : (s.laneRest n).sys = s.sys := by
  unfold State.laneRest
  dsimp only
  repeat' split
  all_goals simp
@[simp] theorem State.camRest_sys (p : CamNo) : (s.camRest p).sys = s.sys := by
  unfold State.camRest
  repeat' split
  all_goals simp
@[simp] theorem State.addDensity_sys (c : PageCtx) (k : EngineNo) (order : Nat) (codes : List (List Nat)) : (s.addDensity c k order codes).sys = s.sys := by
  unfold State.addDensity
  repeat' split
  all_goals simp
@[simp] theorem State.updateLoop_sys (e : EncNo) : (s.updateLoop e).sys = s.sys := by
  unfold State.updateLoop
  simp

/-! ### What leaves the part `time` alone -/

@[simp] theorem State.setLane_time (n : LaneNo) (f : LaneState → LaneState) : (s.setLane n f).time = s.time := by
  unfold State.setLane
  simp
@[simp] theorem State.allFabSlots_time : (s.allFabSlots).time = s.time := by
  exact foldl_same State.time _ (fun t v => by split <;> simp) _ _
@[simp] theorem State.correctedError_time (burst : Nat) : (s.correctedError burst).time = s.time := by
  unfold State.correctedError
  dsimp only
  repeat' split
  all_goals simp
@[simp] theorem State.uncorrectable_time (burst : BitVec 30) (source : Nat) : (s.uncorrectable burst source).time = s.time := by
  unfold State.uncorrectable
  simp
@[simp] theorem State.readBurst_time (source : Nat) (b : BurstRead) : (s.readBurst source b).1.time = s.time := by
  unfold State.readBurst
  repeat' split
  all_goals simp
@[simp] theorem State.wroteIn_time (region : Nat) : (s.wroteIn region).time = s.time := by
  unfold State.wroteIn
  repeat' split
  all_goals simp
@[simp] theorem State.merge_time (a : Nat) : (s.merge a).1.time = s.time := by
  unfold State.merge
  repeat' split
  all_goals simp
@[simp] theorem State.logLowCheck_time : (s.logLowCheck).time = s.time := by
  unfold State.logLowCheck
  repeat' split
  all_goals simp
@[simp] theorem State.logAppend_time (ls : List (List Word × Bool)) : (s.logAppend ls).time = s.time := by
  simp [State.logAppend, foldl_same State.time]
@[simp] theorem State.checkpoint_time (kind : Nat) (l3 : List Word) : (s.checkpoint kind l3).time = s.time := by
  unfold State.checkpoint
  simp
@[simp] theorem State.chainLine_time (w0 w1 w2 : Word) : (s.chainLine w0 w1 w2).time = s.time := by
  unfold State.chainLine
  dsimp only
  repeat' split
  all_goals simp
@[simp] theorem State.skipLine_time (n : Fin 16) : (s.skipLine n).time = s.time := by
  unfold State.skipLine
  dsimp only
  repeat' split
  all_goals simp
@[simp] theorem State.resumeLog_time : (s.resumeLog).time = s.time := by
  unfold State.resumeLog
  dsimp only
  repeat' split
  all_goals simp [foldl_same State.time]
@[simp] theorem State.codeLine_time (slot : Fin 16) (serial : BitVec 48) (mac : BitVec 40) (page : PageId) (tag : Word) (outcome : Nat) : (s.codeLine slot serial mac page tag outcome).time = s.time := by
  unfold State.codeLine
  repeat' split
  all_goals simp
@[simp] theorem State.sendTagged_time (kind : Nat) (dest : NodeNo) (ws : List Word) : (s.sendTagged kind dest ws).time = s.time := by
  unfold State.sendTagged
  repeat' split
  all_goals simp
@[simp] theorem State.record_time (rkind : Nat) (w1 w2 : Word) : (s.record rkind w1 w2).time = s.time := by
  unfold State.record
  repeat' split
  all_goals simp
@[simp] theorem State.askHeader_time (k : SlotNo) (f : Flight) : (s.askHeader k f).time = s.time := by
  unfold State.askHeader
  repeat' split
  all_goals simp
@[simp] theorem State.askHeld_time : (s.askHeld).time = s.time := by
  refine foldl_same State.time _ (fun t x => ?_) _ _
  repeat' split
  all_goals simp
@[simp] theorem State.setPage_time (id : PageId) (f : PageEntry → PageEntry) : (s.setPage id f).time = s.time := by
  unfold State.setPage
  simp
@[simp] theorem State.setPageState_time (id : PageId) (st : PageState) : (s.setPageState id st).time = s.time := by
  unfold State.setPageState
  simp
@[simp] theorem State.dropPage_time (id : PageId) : (s.dropPage id).time = s.time := by
  unfold State.dropPage
  simp
@[simp] theorem State.evalPage_time (e : PageEntry) : (s.evalPage e).time = s.time := by
  unfold State.evalPage
  repeat' split
  all_goals simp
@[simp] theorem State.evalPages_time : (s.evalPages).time = s.time := by
  simp [State.evalPages, foldl_same State.time]
@[simp] theorem State.setCam_time (p : CamNo) (f : CamState → CamState) : (s.setCam p f).time = s.time := by
  unfold State.setCam
  simp
@[simp] theorem State.tapsBegin_time (p : CamNo) (set : CamShadow) (n : Nat) : (s.tapsBegin p set n).time = s.time := by
  refine foldl_same State.time _ (fun t k => ?_) _ _
  dsimp only
  repeat' split
  all_goals simp
@[simp] theorem State.camWriteNext_time (p : CamNo) : (s.camWriteNext p).time = s.time := by
  unfold State.camWriteNext
  repeat' split
  all_goals simp
@[simp] theorem State.camWrites_time (p : CamNo) (gen : BitVec 16) (regs : List (BitVec 32 × BitVec 32)) : (s.camWrites p gen regs).time = s.time := by
  unfold State.camWrites
  dsimp only
  repeat' split
  all_goals simp
@[simp] theorem State.openFrame_time (p : CamNo) (g : Option CamPage) (n positions gp : Nat) (time : Option Nat) : (s.openFrame p g n positions gp time).time = s.time := by
  unfold State.openFrame
  dsimp only
  repeat' split
  all_goals simp
@[simp] theorem State.addStats_time (p : CamNo) (r : StatsRec) : (s.addStats p r).time = s.time := by
  simp [State.addStats, foldl_same State.time]
@[simp] theorem State.closeFrame_time (p : CamNo) (f : Frame) (status cause : Nat) : (s.closeFrame p f status cause).time = s.time := by
  unfold State.closeFrame
  dsimp only
  repeat' split
  all_goals simp
@[simp] theorem State.settleFrames_time (p : CamNo) : (s.settleFrames p).time = s.time := by
  refine foldl_same State.time _ (fun t x => ?_) _ _
  repeat' split
  all_goals simp
@[simp] theorem State.sendTrigger_time (p : CamNo) (fr : Option Nat) (n : Nat) (im : Int) (t : Rat) (last : Bool) : (s.sendTrigger p fr n im t last).time = s.time := by
  unfold State.sendTrigger
  dsimp only
  repeat' split
  all_goals simp
@[simp] theorem State.camTrigger_time (p : CamNo) (n : Nat) (tf : Rat) : (s.camTrigger p n tf).time = s.time := by
  unfold State.camTrigger
  dsimp only
  repeat' split
  all_goals simp
@[simp] theorem State.camTriggers_time (n : Nat) (tf : Rat) : (s.camTriggers n tf).time = s.time := by
  simp [State.camTriggers, foldl_same State.time]
@[simp] theorem State.judgePort_time (m : NozzleMap) (h : HeadRec) : (s.judgePort m h).1.time = s.time := by
  unfold State.judgePort
  repeat' split
  all_goals simp
@[simp] theorem State.judgeAll_time (m : NozzleMap) : (s.judgeAll m).time = s.time := by
  have h (l : List HeadRec) (t : State) : (l.foldl (fun (acc : State × Nat) h =>
      let j := acc.1.judgePort m h
      (j.1, acc.2 + j.2)) (t, 0)).1.time = t.time :=
    foldl_same (fun p : State × Nat => p.1.time) _ (fun t v => by simp) _ _
  unfold State.judgeAll
  dsimp only
  split <;> simp [h]
@[simp] theorem State.checkCaps_time (m : NozzleMap) : (s.checkCaps m).time = s.time := by
  refine foldl_same State.time _ (fun t x => ?_) _ _
  dsimp only
  repeat' split
  all_goals simp
@[simp] theorem State.setCauses_time (v : BitVec 5) : (s.setCauses v).time = s.time := by
  unfold State.setCauses
  dsimp only
  repeat' split
  all_goals simp
@[simp] theorem State.setCause_time (n : Nat) (b : Bool) : (s.setCause n b).time = s.time := by
  unfold State.setCause
  simp
@[simp] theorem State.evalLead_time : (s.evalLead).time = s.time := by
  unfold State.evalLead
  dsimp only
  repeat' split
  all_goals simp
@[simp] theorem State.setLimit_time (lim why : Nat) : (s.setLimit lim why).time = s.time := by
  unfold State.setLimit
  repeat' split
  all_goals simp
@[simp] theorem State.evalGov_time : (s.evalGov).time = s.time := by
  unfold State.evalGov
  dsimp only
  repeat' split
  all_goals simp
@[simp] theorem State.checkOverspeed_time : (s.checkOverspeed).time = s.time := by
  unfold State.checkOverspeed
  dsimp only
  repeat' split
  all_goals simp
@[simp] theorem State.setTrig_time (n : TrigNo) (f : TrigState → TrigState) : (s.setTrig n f).time = s.time := by
  unfold State.setTrig
  simp
@[simp] theorem State.markNow_time (n : TrigNo) : (s.markNow n).time = s.time := by
  unfold State.markNow
  simp
@[simp] theorem State.pulse_time (n : TrigNo) (line : Nat) : (s.pulse n line).time = s.time := by
  unfold State.pulse
  repeat' split
  all_goals simp
@[simp] theorem State.pulseFor_time (n : TrigNo) (start : Nat) : (s.pulseFor n start).time = s.time := by
  unfold State.pulseFor
  simp
@[simp] theorem State.pulsesAt_time (n : Nat) : (s.pulsesAt n).time = s.time := by
  refine foldl_same State.time _ (fun t x => ?_) _ _
  repeat' split
  all_goals simp
@[simp] theorem State.pulsesStop_time : (s.pulsesStop).time = s.time := by
  refine foldl_same State.time _ (fun t x => ?_) _ _
  repeat' split
  all_goals simp
@[simp] theorem State.addDefect_time (r : DefectRecord) : (s.addDefect r).time = s.time := by
  unfold State.addDefect
  repeat' split
  all_goals simp
@[simp] theorem State.defect_time (k : DefectKind) (first last : Int) : (s.defect k first last).time = s.time := by
  unfold State.defect
  repeat' split
  all_goals simp
@[simp] theorem State.dryEnd_time : (s.dryEnd).time = s.time := by
  unfold State.dryEnd
  repeat' split
  all_goals simp
@[simp] theorem State.dryEarly_time : (s.dryEarly).time = s.time := by
  simp [State.dryEarly, foldl_same State.time]
@[simp] theorem State.endEvent_time (id : PageId) (st shown : PageState) : (s.endEvent id st shown).time = s.time := by
  unfold State.endEvent
  simp
@[simp] theorem State.keepEnded_time (e : EndedPage) : (s.keepEnded e).time = s.time := by
  unfold State.keepEnded
  simp
@[simp] theorem State.dropCtx_time (fallback : Bool) : (s.dropCtx fallback).time = s.time := by
  unfold State.dropCtx
  simp
@[simp] theorem State.logCode_time (d : PageDesc) (serial : Option (BitVec 48 × BitVec 40)) (outcome : Nat) : (s.logCode d serial outcome).time = s.time := by
  unfold State.logCode
  repeat' split
  all_goals simp
@[simp] theorem State.rolloutEnd_time (id : PageId) : (s.rolloutEnd id).time = s.time := by
  unfold State.rolloutEnd
  repeat' split
  all_goals simp
@[simp] theorem State.setQ_time (id : PageId) (f : QEntry → QEntry) : (s.setQ id f).time = s.time := by
  unfold State.setQ
  simp
@[simp] theorem State.assignBy_time (line : QEntry → Option Nat) : (s.assignBy line).time = s.time := by
  unfold State.assignBy
  repeat' split
  all_goals simp
@[simp] theorem State.assignNext_time : (s.assignNext).time = s.time := by
  unfold State.assignNext
  simp
@[simp] theorem State.discardPrepared_time : (s.discardPrepared).time = s.time := by
  unfold State.discardPrepared
  repeat' split
  all_goals simp
@[simp] theorem State.mapTakesEffect_time (m : NozzleMap) (rolls : Bool) : (s.mapTakesEffect m rolls).time = s.time := by
  unfold State.mapTakesEffect
  repeat' split
  all_goals simp
@[simp] theorem State.encCorrect_time (k : EncNo) : (s.encCorrect k).time = s.time := by
  unfold State.encCorrect
  dsimp only
  repeat' split
  all_goals simp
@[simp] theorem State.encBoundary_time (k : EncNo) : (s.encBoundary k).time = s.time := by
  unfold State.encBoundary
  simp
@[simp] theorem State.baseline_time : (s.baseline).time = s.time := by
  unfold State.baseline
  simp
@[simp] theorem State.lossDefect_time (sp : Span) (p : HeadPort) (n : Nat) (r : HeadLoss) : (s.lossDefect sp p n r).time = s.time := by
  unfold State.lossDefect
  repeat' split
  all_goals simp
@[simp] theorem State.tellTakeover_time (p : HeadPort) (n : Nat) (take : Bool) : (s.tellTakeover p n take).time = s.time := by
  unfold State.tellTakeover
  repeat' split
  all_goals simp
@[simp] theorem State.loseHead_time (sp : Span) (c : PageCtx) (p : HeadPort) (n : Nat) : (s.loseHead sp c p n).time = s.time := by
  unfold State.loseHead
  repeat' split
  all_goals simp
@[simp] theorem State.headsOutAtFlip_time : (s.headsOutAtFlip).time = s.time := by
  unfold State.headsOutAtFlip
  split
  · refine foldl_same State.time _ (fun t x => ?_) _ _
    split <;> simp
  · rfl
@[simp] theorem State.camPage_time (sp : Span) (c : Option PageCtx) : (s.camPage sp c).time = s.time := by
  unfold State.camPage
  repeat' split
  all_goals simp
@[simp] theorem State.dropRun_time (p : CalProc) : (s.dropRun p).time = s.time := by
  unfold State.dropRun
  repeat' split
  all_goals simp
@[simp] theorem State.calAnswer_time (r : CalRun) (st : Code) (n : Nat) : (s.calAnswer r st n).time = s.time := by
  unfold State.calAnswer
  simp
@[simp] theorem State.calFail_time (r : CalRun) (reason : Nat) : (s.calFail r reason).time = s.time := by
  unfold State.calFail
  simp
@[simp] theorem State.calCheck_time (of : CalProc → Bool) : (s.calCheck of).time = s.time := by
  refine foldl_same State.time _ (fun t x => ?_) _ _
  repeat' split
  all_goals simp
@[simp] theorem State.calPrintStop_time : (s.calPrintStop).time = s.time := by
  simp [State.calPrintStop, foldl_same State.time]
@[simp] theorem State.setHead_time (p : HeadPort) (f : HeadState → HeadState) : (s.setHead p f).time = s.time := by
  unfold State.setHead
  simp
@[simp] theorem State.portSlots_time (p : HeadPort) : (s.portSlots p).time = s.time := by
  unfold State.portSlots
  repeat' split
  all_goals simp
@[simp] theorem State.offer_time (p : HeadPort) (x : TxItem) : (s.offer p x).time = s.time := by
  unfold State.offer
  simp
@[simp] theorem State.headSlots_time : (s.headSlots).time = s.time := by
  simp [State.headSlots, foldl_same State.time]
@[simp] theorem State.allSlots_time : (s.allSlots).time = s.time := by
  unfold State.allSlots
  simp
@[simp] theorem State.sendFrames_time (m : NozzleMap) (depth n : Nat) (codes : Option (HeadRec → List Nat)) : (s.sendFrames m depth n codes).time = s.time := by
  unfold State.sendFrames
  split
  · rfl
  · exact foldl_same State.time _ (fun t x => by split <;> simp) _ _
@[simp] theorem State.sendLine_time (q : Place) (n : Nat) : (s.sendLine q n).time = s.time := by
  unfold State.sendLine
  repeat' split
  all_goals simp
@[simp] theorem State.judgeBlank_time (page : PageId) (n : Nat) : (s.judgeBlank page n).time = s.time := by
  unfold State.judgeBlank
  repeat' split
  all_goals simp
@[simp] theorem State.assemble_time (n : Nat) : (s.assemble n).time = s.time := by
  unfold State.assemble
  repeat' split
  all_goals simp
@[simp] theorem State.assembleAgain_time (a b : Nat) : (s.assembleAgain a b).time = s.time := by
  simp [State.assembleAgain, foldl_same State.time]
@[simp] theorem State.fixStart_time (start : Nat) : (s.fixStart start).time = s.time := by
  unfold State.fixStart
  simp
@[simp] theorem State.assembleUpTo_time (n : Nat) : (s.assembleUpTo n).time = s.time := by
  unfold State.assembleUpTo
  simp
@[simp] theorem State.writeHealth_time : (s.writeHealth).time = s.time := by
  unfold State.writeHealth
  simp
@[simp] theorem State.stopNow_time : (s.stopNow).time = s.time := by
  unfold State.stopNow
  dsimp only
  repeat' split
  all_goals simp [foldl_same State.time]
@[simp] theorem State.endPage_time : (s.endPage).time = s.time := by
  unfold State.endPage
  dsimp only
  repeat' split
  all_goals simp
@[simp] theorem State.toFront_time (id : PageId) : (s.toFront id).time = s.time := by
  unfold State.toFront
  dsimp only
  repeat' split
  all_goals simp [foldl_same State.time]
@[simp] theorem State.flip_time (d : PageDesc) (fallback : Bool) (trig : Option TrigNo) (n : Nat) : (s.flip d fallback trig n).time = s.time := by
  unfold State.flip
  dsimp only
  repeat' split
  all_goals simp
@[simp] theorem State.startsAt_time (n : Nat) : (s.startsAt n).time = s.time := by
  unfold State.startsAt
  repeat' split
  all_goals simp
@[simp] theorem State.setPower_time (p : Power) (src : PowerSource) : (s.setPower p src).time = s.time := by
  unfold State.setPower
  simp
@[simp] theorem State.setCtx_time (fallback : Bool) (f : PageCtx → PageCtx) : (s.setCtx fallback f).time = s.time := by
  unfold State.setCtx
  simp
@[simp] theorem State.enqueue_time (d : PageDesc) : (s.enqueue d).time = s.time := by
  unfold State.enqueue
  dsimp only
  repeat' split
  all_goals simp
@[simp] theorem State.commit_time (id : PageId) (rs : List BurstRead) : (s.commit id rs).1.time = s.time := by
  unfold State.commit
  dsimp only
  repeat' split
  all_goals simp
@[simp] theorem State.dropFallbackSerial_time : (s.dropFallbackSerial).time = s.time := by
  unfold State.dropFallbackSerial
  repeat' split
  all_goals simp
@[simp] theorem State.retire_time : (s.retire).time = s.time := by
  simp [State.retire, foldl_same State.time]
@[simp] theorem State.waveAnswer_time (o : Origin) (tag : BitVec 5) : (s.waveAnswer o tag).time = s.time := by
  unfold State.waveAnswer
  repeat' split
  all_goals simp
@[simp] theorem State.waveEnd_time (p : HeadPort) (w : WaveLoad) (reason : Nat) : (s.waveEnd p w reason).time = s.time := by
  unfold State.waveEnd
  repeat' split
  all_goals simp
@[simp] theorem State.headLeft_time (p : HeadPort) : (s.headLeft p).time = s.time := by
  simp [State.headLeft, foldl_same State.time]
@[simp] theorem State.announceAll_time : (s.announceAll).time = s.time := by
  unfold State.announceAll
  dsimp only
  split
  · split <;> simp
  · rw [foldl_same State.time _ (fun t x => by split <;> simp)]
    split <;> simp
@[simp] theorem State.keepReport_time (r : NodeReport) : (s.keepReport r).time = s.time := by
  unfold State.keepReport
  simp
@[simp] theorem State.sendFabReport_time : (s.sendFabReport).time = s.time := by
  unfold State.sendFabReport
  repeat' split
  all_goals simp
@[simp] theorem State.reelect_time : (s.reelect).time = s.time := by
  unfold State.reelect
  dsimp only
  repeat' split
  all_goals simp
@[simp] theorem State.portsChanged_time : (s.portsChanged).time = s.time := by
  unfold State.portsChanged
  dsimp only
  repeat' split
  all_goals simp
@[simp] theorem State.fabLeft_time (p : FabPort) : (s.fabLeft p).time = s.time := by
  simp [State.fabLeft, foldl_same State.time]
@[simp] theorem State.laneLeft_time (n : LaneNo) (was : LaneState) : (s.laneLeft n was).time = s.time := by
  unfold State.laneLeft
  repeat' split
  all_goals simp
@[simp] theorem State.takeFrame_time (kind : Nat) (data : List Word) : (s.takeFrame kind data).time = s.time := by
  unfold State.takeFrame
  repeat' split
  all_goals simp
@[simp] theorem State.camLeft_time (p : CamNo) : (s.camLeft p).time = s.time := by
  simp [State.camLeft, foldl_same State.time]
@[simp] theorem State.camTimeStart_time (n : CmpNo) : (s.camTimeStart n).time = s.time := by
  refine foldl_same State.time _ (fun t x => ?_) _ _
  dsimp only
  repeat' split
  all_goals simp
@[simp] theorem State.checkEq_time : (s.checkEq).time = s.time := by
  unfold State.checkEq
  dsimp only
  repeat' split
  all_goals simp
@[simp] theorem State.equalise_time (n : LaneNo) : (s.equalise n).time = s.time := by
  unfold State.equalise
  repeat' split
  all_goals simp
@[simp] theorem State.endpointTrains_time : (s.endpointTrains).time = s.time := by
  simp [State.endpointTrains, foldl_same State.time]
@[simp] theorem State.loadKernels_time : (s.loadKernels).time = s.time := by
  unfold State.loadKernels
  dsimp only
  repeat' split
  all_goals simp [foldl_same State.time]
@[simp] theorem State.lanesBegin_time : (s.lanesBegin).time = s.time := by
  unfold State.lanesBegin
  simp
@[simp] theorem State.laneRest_time (n : LaneNo) : (s.laneRest n).time = s.time := by
  unfold State.laneRest
  dsimp only
  repeat' split
  all_goals simp
@[simp] theorem State.camRest_time (p : CamNo) : (s.camRest p).time = s.time := by
  unfold State.camRest
  repeat' split
  all_goals simp
@[simp] theorem State.scrubbed_time : (s.scrubbed).time = s.time := by
  unfold State.scrubbed
  simp
@[simp] theorem State.badAt_time (n : Nat) : (s.badAt n).time = s.time := by
  unfold State.badAt
  split
  · dsimp only
    rw [foldl_same State.time _ (fun t x => by split <;> simp)]
    simp
  · rfl
@[simp] theorem State.codeAt_time (n : Nat) : (s.codeAt n).time = s.time := by
  unfold State.codeAt
  dsimp only
  repeat' split
  all_goals simp
@[simp] theorem State.lineTaken_time (n : Nat) : (s.lineTaken n).time = s.time := by
  unfold State.lineTaken
  dsimp only
  repeat' split
  all_goals simp
@[simp] theorem State.dropSched_time (n : CmpNo) : (s.dropSched n).time = s.time := by
  simp [State.dropSched, foldl_same State.time]
@[simp] theorem State.releaseMoves_time (n : CmpNo) : (s.releaseMoves n).time = s.time := by
  unfold State.releaseMoves
  simp
@[simp] theorem State.runSched_time (n : CmpNo) : (s.runSched n).time = s.time := by
  simp [State.runSched, foldl_same State.time]

/-! ### What leaves the part `fabConfig` alone -/

theorem foldl_fabConfig {β : Type} (g : State → β → State) (hg : ∀ t b, (g t b).fab.config = t.fab.config) (l : List β) (t : State) : (l.foldl g t).fab.config = t.fab.config :=
  foldl_same (fun t : State => t.fab.config) g hg l t
@[simp] theorem State.fabOut_fabConfig (p : FabPort) (cls : Fin 4) (ws : List Word) : (s.fabOut p cls ws).fab.config = s.fab.config := by
  unfold State.fabOut
  simp
@[simp] theorem State.deliver_fabConfig (e : Code × BitVec 40) : (s.deliver e).fab.config = s.fab.config := by
  simp [State.deliver, foldl_fabConfig]
@[simp] theorem State.flush_fabConfig : (s.flush).fab.config = s.fab.config := by
  unfold State.flush
  dsimp only
  repeat' split
  all_goals simp [foldl_fabConfig]
@[simp] theorem State.settle_fabConfig : (s.settle).fab.config = s.fab.config := by
  unfold State.settle
  simp
@[simp] theorem State.postPeer_fabConfig (n : NodeNo) (opcode : Byte) (arg : BitVec 48) (asker : Option Cmd) (slot : Option Nat) : (s.postPeer n opcode arg asker slot).fab.config = s.fab.config := by
  unfold State.postPeer
  repeat' split
  all_goals simp
@[simp] theorem State.sendTable_fabConfig (g : RouteGrant) : (s.sendTable g).fab.config = s.fab.config := by
  unfold State.sendTable
  split
  · exact foldl_fabConfig _ (fun t x => by simp) _ _
  · rfl

/-! ### What leaves the part `fabCores` alone -/

theorem foldl_fabCores {β : Type} (g : State → β → State) (hg : ∀ t b, (g t b).fab.cores = t.fab.cores) (l : List β) (t : State) : (l.foldl g t).fab.cores = t.fab.cores :=
  foldl_same (fun t : State => t.fab.cores) g hg l t
@[simp] theorem State.deliver_fabCores (e : Code × BitVec 40) : (s.deliver e).fab.cores = s.fab.cores := by
  simp [State.deliver, foldl_fabCores]
@[simp] theorem State.flush_fabCores : (s.flush).fab.cores = s.fab.cores := by
  unfold State.flush
  dsimp only
  repeat' split
  all_goals simp [foldl_fabCores]
@[simp] theorem State.settle_fabCores : (s.settle).fab.cores = s.fab.cores := by
  unfold State.settle
  simp

/-! ### What leaves the part `fabWires` alone -/

theorem foldl_fabWires {β : Type} (g : State → β → State) (hg : ∀ t b, (g t b).fab.wires = t.fab.wires) (l : List β) (t : State) : (l.foldl g t).fab.wires = t.fab.wires :=
  foldl_same (fun t : State => t.fab.wires) g hg l t
@[simp] theorem State.fabOut_fabWires (p : FabPort) (cls : Fin 4) (ws : List Word) : (s.fabOut p cls ws).fab.wires = s.fab.wires := by
  unfold State.fabOut
  simp
@[simp] theorem State.deliver_fabWires (e : Code × BitVec 40) : (s.deliver e).fab.wires = s.fab.wires := by
  simp [State.deliver, foldl_fabWires]
@[simp] theorem State.flush_fabWires : (s.flush).fab.wires = s.fab.wires := by
  unfold State.flush
  dsimp only
  repeat' split
  all_goals simp [foldl_fabWires]
@[simp] theorem State.settle_fabWires : (s.settle).fab.wires = s.fab.wires := by
  unfold State.settle
  simp
@[simp] theorem State.announceAll_fabWires : (s.announceAll).fab.wires = s.fab.wires := by
  unfold State.announceAll
  dsimp only
  split
  · split <;> simp
  · rw [foldl_fabWires _ (fun t x => by split <;> simp)]
    split <;> simp
@[simp] theorem State.keepReport_fabWires (r : NodeReport) : (s.keepReport r).fab.wires = s.fab.wires := by
  unfold State.keepReport
  simp
@[simp] theorem State.sendFabReport_fabWires : (s.sendFabReport).fab.wires = s.fab.wires := by
  unfold State.sendFabReport
  repeat' split
  all_goals simp
@[simp] theorem State.reelect_fabWires : (s.reelect).fab.wires = s.fab.wires := by
  unfold State.reelect
  dsimp only
  repeat' split
  all_goals simp
@[simp] theorem State.portsChanged_fabWires : (s.portsChanged).fab.wires = s.fab.wires := by
  unfold State.portsChanged
  dsimp only
  repeat' split
  all_goals simp

/-! ### What leaves the part `printBounds` alone -/

theorem foldl_printBounds {β : Type} (g : State → β → State) (hg : ∀ t b, (g t b).print.bounds = t.print.bounds) (l : List β) (t : State) : (l.foldl g t).print.bounds = t.print.bounds :=
  foldl_same (fun t : State => t.print.bounds) g hg l t
@[simp] theorem State.setTrig_printBounds (n : TrigNo) (f : TrigState → TrigState) : (s.setTrig n f).print.bounds = s.print.bounds := by
  unfold State.setTrig
  simp
@[simp] theorem State.markNow_printBounds (n : TrigNo) : (s.markNow n).print.bounds = s.print.bounds := by
  unfold State.markNow
  simp
@[simp] theorem State.pulse_printBounds (n : TrigNo) (line : Nat) : (s.pulse n line).print.bounds = s.print.bounds := by
  unfold State.pulse
  repeat' split
  all_goals simp
@[simp] theorem State.pulseFor_printBounds (n : TrigNo) (start : Nat) : (s.pulseFor n start).print.bounds = s.print.bounds := by
  unfold State.pulseFor
  simp
@[simp] theorem State.addDefect_printBounds (r : DefectRecord) : (s.addDefect r).print.bounds = s.print.bounds := by
  unfold State.addDefect
  repeat' split
  all_goals simp
@[simp] theorem State.defect_printBounds (k : DefectKind) (first last : Int) : (s.defect k first last).print.bounds = s.print.bounds := by
  unfold State.defect
  repeat' split
  all_goals simp
@[simp] theorem State.dryEnd_printBounds : (s.dryEnd).print.bounds = s.print.bounds := by
  unfold State.dryEnd
  repeat' split
  all_goals simp
@[simp] theorem State.judgeBlank_printBounds (page : PageId) (n : Nat) : (s.judgeBlank page n).print.bounds = s.print.bounds := by
  unfold State.judgeBlank
  repeat' split
  all_goals simp
@[simp] theorem State.assemble_printBounds (n : Nat) : (s.assemble n).print.bounds = s.print.bounds := by
  unfold State.assemble
  repeat' split
  all_goals simp

/-! ### What leaves the part `printPendings` alone -/

theorem foldl_printPendings {β : Type} (g : State → β → State) (hg : ∀ t b, (g t b).print.pendings = t.print.pendings) (l : List β) (t : State) : (l.foldl g t).print.pendings = t.print.pendings :=
  foldl_same (fun t : State => t.print.pendings) g hg l t
@[simp] theorem State.pulseFor_printPendings (n : TrigNo) (start : Nat) : (s.pulseFor n start).print.pendings = s.print.pendings := by
  unfold State.pulseFor
  simp
@[simp] theorem State.addDefect_printPendings (r : DefectRecord) : (s.addDefect r).print.pendings = s.print.pendings := by
  unfold State.addDefect
  repeat' split
  all_goals simp
@[simp] theorem State.defect_printPendings (k : DefectKind) (first last : Int) : (s.defect k first last).print.pendings = s.print.pendings := by
  unfold State.defect
  repeat' split
  all_goals simp
@[simp] theorem State.dryEnd_printPendings : (s.dryEnd).print.pendings = s.print.pendings := by
  unfold State.dryEnd
  repeat' split
  all_goals simp
@[simp] theorem State.judgeBlank_printPendings (page : PageId) (n : Nat) : (s.judgeBlank page n).print.pendings = s.print.pendings := by
  unfold State.judgeBlank
  repeat' split
  all_goals simp
@[simp] theorem State.assemble_printPendings (n : Nat) : (s.assemble n).print.pendings = s.print.pendings := by
  unfold State.assemble
  repeat' split
  all_goals simp

/-! ### What leaves the part `printQueue` alone -/

@[simp] theorem State.setTrig_printQueue (n : TrigNo) (f : TrigState → TrigState) : (s.setTrig n f).print.queue = s.print.queue := by
  unfold State.setTrig
  simp
@[simp] theorem State.markNow_printQueue (n : TrigNo) : (s.markNow n).print.queue = s.print.queue := by
  unfold State.markNow
  simp
@[simp] theorem State.pulse_printQueue (n : TrigNo) (line : Nat) : (s.pulse n line).print.queue = s.print.queue := by
  unfold State.pulse
  repeat' split
  all_goals simp
@[simp] theorem State.pulseFor_printQueue (n : TrigNo) (start : Nat) : (s.pulseFor n start).print.queue = s.print.queue := by
  unfold State.pulseFor
  simp
@[simp] theorem State.addDefect_printQueue (r : DefectRecord) : (s.addDefect r).print.queue = s.print.queue := by
  unfold State.addDefect
  repeat' split
  all_goals simp
@[simp] theorem State.defect_printQueue (k : DefectKind) (first last : Int) : (s.defect k first last).print.queue = s.print.queue := by
  unfold State.defect
  repeat' split
  all_goals simp
@[simp] theorem State.dryEnd_printQueue : (s.dryEnd).print.queue = s.print.queue := by
  unfold State.dryEnd
  repeat' split
  all_goals simp
@[simp] theorem State.keepEnded_printQueue (e : EndedPage) : (s.keepEnded e).print.queue = s.print.queue := by
  unfold State.keepEnded
  simp
@[simp] theorem State.unpend_printQueue (n : Option TrigNo) (start : Nat) : (s.unpend n start).print.queue = s.print.queue := by
  unfold State.unpend
  repeat' split
  all_goals simp
@[simp] theorem State.judgeBlank_printQueue (page : PageId) (n : Nat) : (s.judgeBlank page n).print.queue = s.print.queue := by
  unfold State.judgeBlank
  repeat' split
  all_goals simp
@[simp] theorem State.assemble_printQueue (n : Nat) : (s.assemble n).print.queue = s.print.queue := by
  unfold State.assemble
  repeat' split
  all_goals simp
@[simp] theorem State.dropFallbackSerial_printQueue : (s.dropFallbackSerial).print.queue = s.print.queue := by
  unfold State.dropFallbackSerial
  repeat' split
  all_goals simp

/-! ### What leaves the part `printSched` alone -/

theorem foldl_printSched {β : Type} (g : State → β → State) (hg : ∀ t b, (g t b).print.sched = t.print.sched) (l : List β) (t : State) : (l.foldl g t).print.sched = t.print.sched :=
  foldl_same (fun t : State => t.print.sched) g hg l t
@[simp] theorem State.setTrig_printSched (n : TrigNo) (f : TrigState → TrigState) : (s.setTrig n f).print.sched = s.print.sched := by
  unfold State.setTrig
  simp
@[simp] theorem State.markNow_printSched (n : TrigNo) : (s.markNow n).print.sched = s.print.sched := by
  unfold State.markNow
  simp
@[simp] theorem State.pulse_printSched (n : TrigNo) (line : Nat) : (s.pulse n line).print.sched = s.print.sched := by
  unfold State.pulse
  repeat' split
  all_goals simp
@[simp] theorem State.pulseFor_printSched (n : TrigNo) (start : Nat) : (s.pulseFor n start).print.sched = s.print.sched := by
  unfold State.pulseFor
  simp
@[simp] theorem State.addDefect_printSched (r : DefectRecord) : (s.addDefect r).print.sched = s.print.sched := by
  unfold State.addDefect
  repeat' split
  all_goals simp
@[simp] theorem State.defect_printSched (k : DefectKind) (first last : Int) : (s.defect k first last).print.sched = s.print.sched := by
  unfold State.defect
  repeat' split
  all_goals simp
@[simp] theorem State.dryEnd_printSched : (s.dryEnd).print.sched = s.print.sched := by
  unfold State.dryEnd
  repeat' split
  all_goals simp
@[simp] theorem State.setQ_printSched (id : PageId) (f : QEntry → QEntry) : (s.setQ id f).print.sched = s.print.sched := by
  unfold State.setQ
  simp
@[simp] theorem State.assignBy_printSched (line : QEntry → Option Nat) : (s.assignBy line).print.sched = s.print.sched := by
  unfold State.assignBy
  repeat' split
  all_goals simp
@[simp] theorem State.assignNext_printSched : (s.assignNext).print.sched = s.print.sched := by
  unfold State.assignNext
  simp
@[simp] theorem State.judgeBlank_printSched (page : PageId) (n : Nat) : (s.judgeBlank page n).print.sched = s.print.sched := by
  unfold State.judgeBlank
  repeat' split
  all_goals simp
@[simp] theorem State.assemble_printSched (n : Nat) : (s.assemble n).print.sched = s.print.sched := by
  unfold State.assemble
  repeat' split
  all_goals simp
@[simp] theorem State.assembleAgain_printSched (a b : Nat) : (s.assembleAgain a b).print.sched = s.print.sched := by
  simp [State.assembleAgain, foldl_printSched]
@[simp] theorem State.fixStart_printSched (start : Nat) : (s.fixStart start).print.sched = s.print.sched := by
  unfold State.fixStart
  simp
@[simp] theorem State.enqueue_printSched (d : PageDesc) : (s.enqueue d).print.sched = s.print.sched := by
  unfold State.enqueue
  dsimp only
  repeat' split
  all_goals simp
@[simp] theorem State.commit_printSched (id : PageId) (rs : List BurstRead) : (s.commit id rs).1.print.sched = s.print.sched := by
  unfold State.commit
  dsimp only
  repeat' split
  all_goals simp

/-! ### What leaves the part `printSpan` alone -/

@[simp] theorem State.setTrig_printSpan (n : TrigNo) (f : TrigState → TrigState) : (s.setTrig n f).print.span = s.print.span := by
  unfold State.setTrig
  simp
@[simp] theorem State.markNow_printSpan (n : TrigNo) : (s.markNow n).print.span = s.print.span := by
  unfold State.markNow
  simp
@[simp] theorem State.pulse_printSpan (n : TrigNo) (line : Nat) : (s.pulse n line).print.span = s.print.span := by
  unfold State.pulse
  repeat' split
  all_goals simp
@[simp] theorem State.pulseFor_printSpan (n : TrigNo) (start : Nat) : (s.pulseFor n start).print.span = s.print.span := by
  unfold State.pulseFor
  simp
@[simp] theorem State.setQ_printSpan (id : PageId) (f : QEntry → QEntry) : (s.setQ id f).print.span = s.print.span := by
  unfold State.setQ
  simp
@[simp] theorem State.assignBy_printSpan (line : QEntry → Option Nat) : (s.assignBy line).print.span = s.print.span := by
  unfold State.assignBy
  repeat' split
  all_goals simp
@[simp] theorem State.assignNext_printSpan : (s.assignNext).print.span = s.print.span := by
  unfold State.assignNext
  simp
@[simp] theorem State.dropFallbackSerial_printSpan : (s.dropFallbackSerial).print.span = s.print.span := by
  unfold State.dropFallbackSerial
  repeat' split
  all_goals simp

/-! ### What leaves the part `sluiceBarLine` alone -/

theorem foldl_sluiceBarLine {β : Type} (g : State → β → State) (hg : ∀ t b, (g t b).sluice.barLine = t.sluice.barLine) (l : List β) (t : State) : (l.foldl g t).sluice.barLine = t.sluice.barLine :=
  foldl_same (fun t : State => t.sluice.barLine) g hg l t
@[simp] theorem State.flip_sluiceBarLine (d : PageDesc) (fallback : Bool) (trig : Option TrigNo) (n : Nat) : (s.flip d fallback trig n).sluice.barLine = s.sluice.barLine := by
  unfold State.flip
  dsimp only
  repeat' split
  all_goals simp
@[simp] theorem State.startsAt_sluiceBarLine (n : Nat) : (s.startsAt n).sluice.barLine = s.sluice.barLine := by
  unfold State.startsAt
  repeat' split
  all_goals simp
@[simp] theorem State.lateness_sluiceBarLine (n : Nat) (late : Bool) (by_ : Rat) : (s.lateness n late by_).sluice.barLine = s.sluice.barLine := by
  unfold State.lateness
  repeat' split
  all_goals simp

/-- Going over the ports touches nothing that the step of each port does not. -/
theorem eachPort_sluiceBarLine {f : State → PortSent → State × PortSent × Bool} (hf : ∀ t p, (f t p).1.sluice.barLine = t.sluice.barLine) (ps : List PortSent) :
    (eachPort f s ps).1.sluice.barLine = s.sluice.barLine :=
  foldl_same (fun p : State × List PortSent × Bool => p.1.sluice.barLine) _ (fun t p => hf _ _) _ _
@[simp] theorem State.reviseLine_sluiceBarLine (l : AllocLine) (before : Option Rat) : (s.reviseLine l before).1.sluice.barLine = s.sluice.barLine := by
  unfold State.reviseLine
  dsimp only
  repeat' split
  all_goals simp [eachPort_sluiceBarLine]
@[simp] theorem State.reviseLines_sluiceBarLine : (s.reviseLines).sluice.barLine = s.sluice.barLine := by
  have h (l : List AllocLine) (t : State) : (l.foldl (fun (acc : State × List AllocLine) l =>
      let before := match acc.2.getLast? with | some p => if p.n + 1 = l.n then some p.fires else l.base | none => l.base
      let r := acc.1.reviseLine l before
      (r.1, acc.2 ++ [r.2])) (t, [])).1.sluice.barLine = t.sluice.barLine :=
    foldl_same (fun p : State × List AllocLine => p.1.sluice.barLine) _ (fun t x => by simp) _ _
  exact h _ _
@[simp] theorem State.retire_sluiceBarLine : (s.retire).sluice.barLine = s.sluice.barLine := by
  simp [State.retire, foldl_sluiceBarLine]
@[simp] theorem State.checkReversal_sluiceBarLine (q : Rat) (down : Bool) : (s.checkReversal q down).sluice.barLine = s.sluice.barLine := by
  unfold State.checkReversal
  dsimp only
  repeat' split
  all_goals simp
@[simp] theorem State.disagree_sluiceBarLine (survivor : EncNo) (reason : Nat) (d : Rat) : (s.disagree survivor reason d).sluice.barLine = s.sluice.barLine := by
  unfold State.disagree
  repeat' split
  all_goals simp
@[simp] theorem State.crossCheck_sluiceBarLine : (s.crossCheck).sluice.barLine = s.sluice.barLine := by
  unfold State.crossCheck
  dsimp only
  repeat' split
  all_goals simp
@[simp] theorem State.switchEncoder_sluiceBarLine : (s.switchEncoder).sluice.barLine = s.sluice.barLine := by
  unfold State.switchEncoder
  repeat' split
  all_goals simp

/-! ### What leaves the part `sluiceCoreLine` alone -/

theorem foldl_sluiceCoreLine {β : Type} (g : State → β → State) (hg : ∀ t b, (g t b).sluice.coreLine = t.sluice.coreLine) (l : List β) (t : State) : (l.foldl g t).sluice.coreLine = t.sluice.coreLine :=
  foldl_same (fun t : State => t.sluice.coreLine) g hg l t
@[simp] theorem State.flip_sluiceCoreLine (d : PageDesc) (fallback : Bool) (trig : Option TrigNo) (n : Nat) : (s.flip d fallback trig n).sluice.coreLine = s.sluice.coreLine := by
  unfold State.flip
  dsimp only
  repeat' split
  all_goals simp
@[simp] theorem State.startsAt_sluiceCoreLine (n : Nat) : (s.startsAt n).sluice.coreLine = s.sluice.coreLine := by
  unfold State.startsAt
  repeat' split
  all_goals simp
@[simp] theorem State.retire_sluiceCoreLine : (s.retire).sluice.coreLine = s.sluice.coreLine := by
  simp [State.retire, foldl_sluiceCoreLine]

/-! ### What leaves the part `sluiceSteady` alone -/

theorem foldl_sluiceSteady {β : Type} (g : State → β → State) (hg : ∀ t b, (g t b).sluice.steady = t.sluice.steady) (l : List β) (t : State) : (l.foldl g t).sluice.steady = t.sluice.steady :=
  foldl_same (fun t : State => t.sluice.steady) g hg l t
@[simp] theorem State.lateness_sluiceSteady (n : Nat) (late : Bool) (by_ : Rat) : (s.lateness n late by_).sluice.steady = s.sluice.steady := by
  unfold State.lateness
  repeat' split
  all_goals simp

/-- Going over the ports touches nothing that the step of each port does not. -/
theorem eachPort_sluiceSteady {f : State → PortSent → State × PortSent × Bool} (hf : ∀ t p, (f t p).1.sluice.steady = t.sluice.steady) (ps : List PortSent) :
    (eachPort f s ps).1.sluice.steady = s.sluice.steady :=
  foldl_same (fun p : State × List PortSent × Bool => p.1.sluice.steady) _ (fun t p => hf _ _) _ _
@[simp] theorem State.reviseLine_sluiceSteady (l : AllocLine) (before : Option Rat) : (s.reviseLine l before).1.sluice.steady = s.sluice.steady := by
  unfold State.reviseLine
  dsimp only
  repeat' split
  all_goals simp [eachPort_sluiceSteady]
@[simp] theorem State.reviseLines_sluiceSteady : (s.reviseLines).sluice.steady = s.sluice.steady := by
  have h (l : List AllocLine) (t : State) : (l.foldl (fun (acc : State × List AllocLine) l =>
      let before := match acc.2.getLast? with | some p => if p.n + 1 = l.n then some p.fires else l.base | none => l.base
      let r := acc.1.reviseLine l before
      (r.1, acc.2 ++ [r.2])) (t, [])).1.sluice.steady = t.sluice.steady :=
    foldl_same (fun p : State × List AllocLine => p.1.sluice.steady) _ (fun t x => by simp) _ _
  exact h _ _
@[simp] theorem State.retire_sluiceSteady : (s.retire).sluice.steady = s.sluice.steady := by
  simp [State.retire, foldl_sluiceSteady]
@[simp] theorem State.checkReversal_sluiceSteady (q : Rat) (down : Bool) : (s.checkReversal q down).sluice.steady = s.sluice.steady := by
  unfold State.checkReversal
  dsimp only
  repeat' split
  all_goals simp
@[simp] theorem State.disagree_sluiceSteady (survivor : EncNo) (reason : Nat) (d : Rat) : (s.disagree survivor reason d).sluice.steady = s.sluice.steady := by
  unfold State.disagree
  repeat' split
  all_goals simp
@[simp] theorem State.crossCheck_sluiceSteady : (s.crossCheck).sluice.steady = s.sluice.steady := by
  unfold State.crossCheck
  dsimp only
  repeat' split
  all_goals simp
@[simp] theorem State.switchEncoder_sluiceSteady : (s.switchEncoder).sluice.steady = s.sluice.steady := by
  unfold State.switchEncoder
  repeat' split
  all_goals simp

end Sys2Proof.Machine
end

section
/-!
SUPPORT. The system commands (O9): what ECHO, VERSION, INFO, MEMORY_INFO, COUNTERS_READ and EVENT_MASK answer, and what a command that starts
leaves of the channels (R533, R535, R545).
-/

namespace Sys2Proof.Machine

variable {s : State} {c : Cmd}

/-! ### What starts changes of the channels only what waits and what runs (R517, R526) -/

@[simp] theorem State.start_fabRoot : (s.start c).fab.root = s.fab.root := s.start_keeps c (fun t => t.fab.root) (fun _ _ => rfl) (fun _ _ => rfl)

@[simp] theorem State.start_mask (n : Chan) : (s.start c).host.channels[n].mask = s.host.channels[n].mask := by
  unfold State.start
  split
  · next m _ _ =>
    by_cases h : m = n
    · subst h
      simp [State.setChan]
    · simp [State.setChan, upd_other _ _ _ _ h]
  · rfl
  · rfl

/-- The channel with a peer, after one channel has changed and kept its peer. -/
theorem State.setFabChan_chanOf (m n : NodeNo) {f : FabChannel → FabChannel} (hf : ∀ k, (f k).peer = k.peer) :
    (s.setFabChan m f).fab.chanOf n = (s.fab.chanOf n).map (fun k => if k.peer == m then f k else k) := by
  have hp : (fun x : FabChannel => x.peer == n) ∘ (fun x => if x.peer == m then f x else x) = (fun x => x.peer == n) := by
    funext x
    simp only [Function.comp]
    split <;> simp [hf]
  simp only [State.setFabChan, FabPart.chanOf, List.find?_map, hp]

/-- The channel with a peer is with that peer. -/
theorem FabPart.chanOf_peer {f : FabPart} {n : NodeNo} {k : FabChannel} (h : f.chanOf n = some k) : k.peer = n := by
  simpa using List.find?_some h

theorem State.setFabChan_chanOf_same {n : NodeNo} {k : FabChannel} (h : s.fab.chanOf n = some k) {f : FabChannel → FabChannel}
    (hf : ∀ k, (f k).peer = k.peer) : (s.setFabChan n f).fab.chanOf n = some (f k) := by
  simp [State.setFabChan_chanOf n n hf, h, FabPart.chanOf_peer h]

theorem State.setFabChan_chanOf_other {m n : NodeNo} (hn : n ≠ m) {f : FabChannel → FabChannel}
    (hf : ∀ k, (f k).peer = k.peer) : (s.setFabChan m f).fab.chanOf n = s.fab.chanOf n := by
  rw [State.setFabChan_chanOf m n hf]
  cases h : s.fab.chanOf n with
  | none => rfl
  | some k => simp [FabPart.chanOf_peer h, hn]

/-- What starting a command makes of a peer's channel: what waits and what runs may change. -/
theorem State.start_chanOf (n : NodeNo) : ∃ f : FabChannel → FabChannel, (∀ k, ∃ ts rs, f k = { k with taken := ts, running := rs }) ∧
    (s.start c).fab.chanOf n = (s.fab.chanOf n).map f := by
  unfold State.start
  split
  · exact ⟨id, fun k => ⟨k.taken, k.running, rfl⟩, by simp [State.setChan]⟩
  · refine ⟨_, fun k => ?_, State.setFabChan_chanOf _ _ fun _ => rfl⟩
    split
    · exact ⟨_, _, rfl⟩
    · exact ⟨k.taken, k.running, rfl⟩
  · exact ⟨id, fun k => ⟨k.taken, k.running, rfl⟩, by simp⟩

theorem State.start_peerMask (n : NodeNo) : ((s.start c).fab.chanOf n).map FabChannel.mask = (s.fab.chanOf n).map FabChannel.mask := by
  obtain ⟨f, hf, h⟩ := State.start_chanOf (s := s) (c := c) n
  rw [h, Option.map_map]
  congr 1
  funext k
  obtain ⟨ts, rs, hk⟩ := hf k
  simp [hk]

/-! ### The commands -/

theorem execEcho_answers (h : Runs s 0x00 false false c) : execEcho c s = .next ((s.start c).reply c 0x00 .ok (c.arg.setWidth 40)) := by
  refine command_replyAtStart rfl h ?_
  have ha : low40 (c.argBits 39 0) = c.arg.setWidth 40 := by
    apply BitVec.eq_of_toNat_eq
    simp [low40, Cmd.argBits]
  rw [cmdEcho, resp, ha]

theorem execVersion_answers {i : RunningImage} (hi : s.sys.image = some i) (h : Runs s 0x01 false false c) :
    execVersion c s = .next ((s.start c).reply c 0x01 .ok (pack40 [0xB0, fld 8 8 i.minor, fld 16 8 i.major,
      fld 24 8 s.sys.kernelSet, fld 32 2 s.sec.lifecycle.toNat])) := by
  refine command_replyAtStart rfl h ?_
  simp [cmdVersion, State.version, resp, pack40, low40, hi]

theorem execMemoryInfo_answers (h : Runs s 0xE1 false false c) :
    execMemoryInfo c s = .next ((s.start c).reply c 0xE1 .ok (pack40 [fld 0 8 s.sys.dramGB, fld 8 24 s.sys.layerStoreMiB])) := by
  refine command_replyAtStart rfl h ?_
  simp [cmdMemoryInfo, resp, pack40, low40]

theorem State.infoBlock_start : (s.start c).infoBlock = s.infoBlock := by simp [State.infoBlock]

theorem State.infoBlock_board {b : BoardRecord} (hb : s.sys.board = some b) : s.infoBlock =
    [s.fab.id, s.lanes.boardId.setWidth 64, BitVec.ofNat 64 s.sys.dramBytes,
      word [b2n b.g6Fabric, fld 1 1 (b2n b.g7Fabric), fld 2 1 (b2n b.x4)], b.laneFitted] := by
  have hw : word [s.lanes.boardId.toNat] = s.lanes.boardId.setWidth 64 := by
    apply BitVec.eq_of_toNat_eq
    simp [word]
  simp [State.infoBlock, hb, hw]

theorem State.countersBlock_start : (s.start c).countersBlock = s.countersBlock := by simp [State.countersBlock]

theorem execInfo_writes (h : Runs s 0x02 true false c) (hw : Writes c 0 s.infoBlock) : execInfo c s =
    .next (((s.start c).emit (.hostWrite (c.dw 0) (pad64 s.infoBlock))).reply c 0x02 .ok (low40 (blockBytes s.infoBlock))) := by
  refine command_replyAtStart rfl h ?_
  rw [cmdInfo, State.infoBlock_start, State.writeResult_writes _ _ hw, resp]

theorem execCountersRead_writes (h : Runs s 0xD3 true false c) (hw : Writes c 0 s.countersBlock) : execCountersRead c s =
    .next (((s.start c).emit (.hostWrite (c.dw 0) (pad64 s.countersBlock))).reply c 0xD3 .ok (low40 (blockBytes s.countersBlock))) := by
  refine command_replyAtStart rfl h ?_
  rw [cmdCountersRead, State.countersBlock_start, State.writeResult_writes _ _ hw, resp]

/-- EVENT_MASK sets the mask of the channel that its origin names, and answers with the one before (R535). -/
theorem execEventMask_sets (h : Runs s 0x03 false false c) : execEventMask c s =
    .next (((s.start c).setMask c.origin (c.arg.setWidth 16)).reply c 0x03 .ok (((s.start c).maskOf c.origin).setWidth 40)) := by
  refine command_replyAtStart rfl h ?_
  have hr : low40 ((s.start c).maskOf c.origin).toNat = ((s.start c).maskOf c.origin).setWidth 40 := by
    apply BitVec.eq_of_toNat_eq
    simp [low40]
  have ha : BitVec.ofNat 16 c.arg.toNat = c.arg.setWidth 16 := by
    apply BitVec.eq_of_toNat_eq
    simp
  rw [cmdEventMask, resp, hr, ha]

/-- Settles O9: each command by its answer; the block of INFO is that of the board record, and the mask of a channel is not changed by starting
the command. -/
theorem systemCommandsAnswerTheirResults : Obligations.SystemCommandsAnswerTheirResults := by
  unfold Obligations.SystemCommandsAnswerTheirResults
  refine ⟨fun s c => ⟨execEcho_answers, fun i => execVersion_answers, execMemoryInfo_answers⟩, fun s c => ⟨?_, ?_⟩, fun s c h => ?_⟩
  · intro b block hb hblock h hw
    rw [← State.infoBlock_board hb] at hblock
    subst hblock
    exact execInfo_writes h hw
  · intro block hblock h hw
    subst hblock
    exact execCountersRead_writes h hw
  · have hset : exec (.eventMask c) s = _ := execEventMask_sets h
    split
    · next n _ ho =>
      rw [ho] at hset
      rwa [← State.start_mask (c := c)]
    · next n ho =>
      rw [ho] at hset
      rwa [← State.start_mask (c := c)]
    · next n _ ho =>
      intro k hk
      have hm := State.start_peerMask (s := s) (c := c) n
      rw [hk] at hm
      obtain ⟨k', hk', hmask⟩ := Option.map_eq_some_iff.mp hm
      rw [ho] at hset
      simpa only [State.setMask, State.maskOf, hk', hmask] using hset
    · next a ha ho =>
      rw [ho] at hset
      cases a with
      | session n => exact (ha n rfl).elim
      | mirror => exact hset
      | offered => exact hset

end Sys2Proof.Machine
end


section
/-!
SUPPORT. The host channels (18_host_link_and_mailboxes.md): what a change of one channel, an interrupt and words for the host do to the channels, and the
fields of the words that pass through them (O8, O12, O13, O14).
-/

namespace Sys2Proof.Machine

variable (s : State)

/-! ### Fields of words (R7, R533, R534) -/

/-- A field of a word as a bit vector of its width. -/
theorem ofNat_bits (w : Word) (lo n : Nat) (hn : 0 < n) : BitVec.ofNat n (bits w (lo + n - 1) lo) = w.extractLsb' lo n := by
  apply BitVec.eq_of_toNat_eq
  have h : lo + n - 1 + 1 - lo = n := by omega
  simp [bits, h, Nat.shiftRight_eq_div_pow]

/-- A bit of a word by its place value. -/
theorem bitAt_eq (w : Word) (i : Nat) : bitAt w i = decide (w.toNat / 2 ^ i % 2 = 1) := by
  rw [bitAt, ← BitVec.testBit_toNat, Nat.testBit_eq_decide_div_mod_eq]

theorem Code.num_lt (c : Code) : c.num < 2 ^ 10 := by cases c <;> decide

theorem Code.cls_lt (c : Code) : c.cls < 2 ^ 8 := by cases c <;> decide

theorem fld_eq {lo n v : Nat} (h : v < 2 ^ n) : fld lo n v = v * 2 ^ lo := by rw [fld, Nat.mod_eq_of_lt h, Nat.shiftLeft_eq]

theorem word_toNat {l : List Nat} (h : l.sum < 2 ^ 64) : (word l).toNat = l.sum := (BitVec.toNat_ofNat ..).trans (Nat.mod_eq_of_lt h)

/-- The fields of a word in which bits [39:0], [49:40], bit 50, [55:51] and [63:56] have been put (R533, R534). -/
theorem word_fields {w : Word} {l : List Nat} {a b c d e : Nat} (hw : w = word l) (hl : l.sum = a + b * 2 ^ 40 + c * 2 ^ 50 + d * 2 ^ 51 + e * 2 ^ 56)
    (ha : a < 2 ^ 40) (hb : b < 2 ^ 10) (hc : c < 2) (hd : d < 2 ^ 5) (he : e < 2 ^ 8) :
    bits w 63 56 = e ∧ bits w 55 51 = d ∧ bitAt w 50 = decide (c = 1) ∧ bits w 49 40 = b ∧ bits w 39 0 = a := by
  have h : w.toNat = a + b * 2 ^ 40 + c * 2 ^ 50 + d * 2 ^ 51 + e * 2 ^ 56 := by rw [hw, word_toNat (by omega), hl]
  refine ⟨?_, ?_, ?_, ?_, ?_⟩
  · simp only [bits, h]; omega
  · simp only [bits, h]; omega
  · rw [bitAt_eq, h, decide_eq_decide]; omega
  · simp only [bits, h]; omega
  · simp only [bits, h]; omega

theorem sum_of_four (a b c d : Nat) : [a, b, c, d].sum = a + b + c + d := by simp [Nat.add_assoc]

/-- A response word carries OPCODE, TAG, STATUS and RESULT in their places (R533). -/
theorem responseWord_fields (op : Byte) (tag : BitVec 5) (st : Code) (r : BitVec 40) :
    bits (responseWord op tag st r) 63 56 = op.toNat ∧ bits (responseWord op tag st r) 55 51 = tag.toNat ∧
    bitAt (responseWord op tag st r) 50 = false ∧ bits (responseWord op tag st r) 49 40 = st.num ∧
    bits (responseWord op tag st r) 39 0 = r.toNat := by
  refine word_fields (c := 0) rfl ?_ r.isLt st.num_lt (by decide) tag.isLt op.isLt
  rw [fld_eq st.num_lt, fld_eq tag.isLt, fld_eq op.isLt, sum_of_four, Nat.zero_mul, Nat.add_zero]

/-- An event word carries its class, number and detail in their places (R534). -/
theorem eventWord_fields (e : Code) (d : BitVec 40) :
    bits (eventWord (e, d)) 63 56 = e.cls ∧ bits (eventWord (e, d)) 55 51 = 0 ∧ bitAt (eventWord (e, d)) 50 = true ∧
    bits (eventWord (e, d)) 49 40 = e.num ∧ bits (eventWord (e, d)) 39 0 = d.toNat := by
  refine word_fields (c := 1) (d := 0) rfl ?_ d.isLt e.num_lt (by decide) (by decide) e.cls_lt
  rw [fld_eq e.num_lt, fld_eq (n := 1) (v := 1) (by decide), fld_eq e.cls_lt, sum_of_four, Nat.zero_mul, Nat.add_zero]

/-- A command word as its fields (R532). -/
theorem takenOf_fields (w : Word) : takenOf w = ⟨w.extractLsb' 56 8, w.extractLsb' 51 5, w.getLsbD 48, w.extractLsb' 0 48, none⟩ := by
  simp only [takenOf, ← ofNat_bits w 56 8 (by decide), ← ofNat_bits w 51 5 (by decide), ← ofNat_bits w 0 48 (by decide)]
  rfl

/-! ### One channel changes -/

@[simp] theorem State.setChan_channels (n : Chan) (f : HmbChannel → HmbChannel) : (s.setChan n f).host.channels = upd s.host.channels n f := rfl

theorem upd_upd {α : Type} {n : Nat} (v : Vector α n) (i : Fin n) (f g : α → α) : upd (upd v i f) i g = upd v i (g ∘ f) := by
  simp [upd, Vector.set_set]

theorem State.setChan_setChan (n : Chan) (f g : HmbChannel → HmbChannel) : (s.setChan n f).setChan n g = s.setChan n (g ∘ f) := by
  simp [State.setChan, upd_upd]

/-- An interrupt or its message leaves alone what neither the pending bits nor the record of what has left can show. -/
theorem State.sendMsix_keeps {α : Type} (π : State → α) (he : ∀ t e, π (State.emit t e) = π t)
    (hm : ∀ (t : State) m, π { t with host := { t.host with msixPending := m } } = π t) (v : Nat) : π (s.sendMsix v) = π s := by
  unfold State.sendMsix
  dsimp only
  split
  · exact he ..
  · exact hm ..

theorem State.irq_keeps {α : Type} (π : State → α) (he : ∀ t e, π (State.emit t e) = π t)
    (hm : ∀ (t : State) m, π { t with host := { t.host with msixPending := m } } = π t)
    (hp : ∀ (t : State) m, π { t with host := { t.host with irqPending := m } } = π t) (v : Nat) : π (s.irq v) = π s := by
  unfold State.irq
  dsimp only
  split
  · rw [State.sendMsix_keeps _ π he hm, hp]
  · rw [hp]

@[simp] theorem State.irq_channels (v : Nat) : (s.irq v).host.channels = s.host.channels :=
  s.irq_keeps (fun t => t.host.channels) (fun _ _ => rfl) (fun _ _ => rfl) (fun _ _ => rfl) v
@[simp] theorem State.irq_batch (v : Nat) : (s.irq v).host.batch = s.host.batch :=
  s.irq_keeps (fun t => t.host.batch) (fun _ _ => rfl) (fun _ _ => rfl) (fun _ _ => rfl) v
@[simp] theorem State.irq_engineCh (v : Nat) : (s.irq v).host.engineCh = s.host.engineCh :=
  s.irq_keeps (fun t => t.host.engineCh) (fun _ _ => rfl) (fun _ _ => rfl) (fun _ _ => rfl) v
@[simp] theorem State.irq_irqMask (v : Nat) : (s.irq v).host.irqMask = s.host.irqMask :=
  s.irq_keeps (fun t => t.host.irqMask) (fun _ _ => rfl) (fun _ _ => rfl) (fun _ _ => rfl) v

/-- Of the channels, words for the host enter one outbound queue (R519). -/
@[simp] theorem State.pushHost_channels (n : Chan) (ws : List Word) :
    (s.pushHost n ws).host.channels = upd s.host.channels n (fun h => { h with outQ := h.outQ ++ ws }) := by
  unfold State.pushHost
  dsimp only
  split <;> simp

@[simp] theorem State.pushHost_batch (n : Chan) (ws : List Word) : (s.pushHost n ws).host.batch = s.host.batch := by
  unfold State.pushHost
  dsimp only
  split
  · rw [State.irq_batch]
    rfl
  · rfl

@[simp] theorem State.pushHost_irqMask (n : Chan) (ws : List Word) : (s.pushHost n ws).host.irqMask = s.host.irqMask := by
  unfold State.pushHost
  dsimp only
  split
  · rw [State.irq_irqMask]
    rfl
  · rfl

/-- Without waiting events there is nothing to queue before a response (R647). -/
theorem State.flush_quiet (h : s.quiet) : s.flush = s := by
  have hb : s.host.batch = [] := h
  simp only [State.flush, hb]

end Sys2Proof.Machine
end

section
/-!
SUPPORT. Responses and events (O8): where a response and an event go, and what of the channels stays.
-/

namespace Sys2Proof.Machine

variable {s : State} {n : Chan} {k op : Byte} {tag : BitVec 5} {st : Code} {r : BitVec 40}

/-- A response to an ended session, or where there are no host channels, is dropped (R25, R526). -/
theorem State.respond_dropped (hq : s.quiet) (h : s.hostLink = false ∨ s.host.channels[n].session ≠ k) :
    s.respond (.host n k) op tag st r = s := by
  have hno : ¬ (s.hostLink = true ∧ s.host.channels[n].session = k) := by
    rintro ⟨hl, hk⟩
    rcases h with h | h
    · rw [hl] at h
      cases h
    · exact h hk
  simp only [State.respond, s.flush_quiet hq, if_neg hno]

/-- A response to a live session enters its channel's queue, and its command no longer runs (R533). -/
theorem State.respond_enters (hq : s.quiet) (hl : s.hostLink = true) (hk : s.host.channels[n].session = k) :
    s.respond (.host n k) op tag st r =
      (s.setChan n (fun h => { h with running := h.running.erase tag })).pushHost n [responseWord op tag st r] := by
  simp only [State.respond, s.flush_quiet hq, if_pos (And.intro hl hk)]

variable {e : Code × BitVec 40}

/-- An event stays out of a channel whose mask leaves out its class (R535). -/
theorem State.eventHost_masked (h : s.hostLink = false ∨ s.host.channels[n].mask.getLsbD e.1.cls = false) : s.eventHost e n = s := by
  have hno : (s.hostLink && s.host.channels[n].mask.getLsbD e.1.cls) = false := (Bool.and_eq_false_eq_eq_false_or_eq_false ..).mpr h
  simp only [State.eventHost, hno, Bool.false_eq_true, if_false]

/-- An event with a place enters the queue of a channel that admits it. -/
theorem State.eventHost_enters {ws : List Word} (hl : s.hostLink = true) (hm : s.host.channels[n].mask.getLsbD e.1.cls = true)
    (ht : takeIn s.host.channels[n].outQ.length s.host.channels[n].dropped e = some ws) :
    s.eventHost e n = (s.setChan n (fun h => { h with dropped := 0 })).pushHost n ws := by
  simp only [State.eventHost, hl, hm, Bool.and_self, if_true, ht]

/-- An event without a place is counted as lost (R521). -/
theorem State.eventHost_lost (hl : s.hostLink = true) (hm : s.host.channels[n].mask.getLsbD e.1.cls = true)
    (ht : takeIn s.host.channels[n].outQ.length s.host.channels[n].dropped e = none) :
    s.eventHost e n = s.setChan n (fun h =>
      { h with dropped := h.dropped + 1, evtOvf := true, evtLost := min 65535 (h.evtLost + 1) }) := by
  simp only [State.eventHost, hl, hm, Bool.and_self, if_true, ht]

/-- An event moves no other channel. -/
theorem State.eventHost_other {m : Chan} (hm : m ≠ n) : (s.eventHost e n).host.channels[m] = s.host.channels[m] := by
  have hu (t : State) (f : HmbChannel → HmbChannel) : (upd t.host.channels n f)[m.val] = t.host.channels[m.val] :=
    upd_other _ _ _ _ hm.symm
  unfold State.eventHost
  dsimp only
  split
  · split
    · simp [hu, upd_upd]
    · simp [hu]
  · rfl

theorem takeIn_full {used dropped : Nat} (h : 224 ≤ used ∨ 0 < dropped ∧ 223 ≤ used) : takeIn used dropped e = none := by
  unfold takeIn
  by_cases hd : dropped = 0
  · rw [if_pos hd, if_neg (by omega)]
  · rw [if_neg hd, if_neg (by omega)]

/-- Settles O8: the fields of the two words, and the three things that may become of an event on a channel. -/
theorem responsesAndEventsEnterTheirQueues : Obligations.ResponsesAndEventsEnterTheirQueues := by
  unfold Obligations.ResponsesAndEventsEnterTheirQueues
  refine ⟨responseWord_fields, eventWord_fields, fun s n k op tag st r hq => ⟨State.respond_dropped hq, fun hl hk => ?_⟩,
    fun s e d n => ⟨State.eventHost_masked (e := (e, d)), ?_, ?_, ?_, fun m hm => State.eventHost_other hm⟩, fun s e d h => ?_⟩
  · rw [State.respond_enters hq hl hk]
    refine ⟨by simp, by simp, fun m hm => ?_, by simp, by simp⟩
    simpa [upd_upd] using upd_other _ _ _ _ hm.symm
  · intro hl hm hd hlen
    rw [State.eventHost_enters hl hm (by rw [takeIn, if_pos hd, if_pos hlen])]
    simp
  · intro hl hm hd hlen
    rw [State.eventHost_enters hl hm (by rw [takeIn, if_neg hd.ne', if_pos hlen])]
    simp
  · intro hl hm hlen
    rw [State.eventHost_lost hl hm (takeIn_full hlen)]
    simp
  · have hno : (s.standby && e.cls == 1) = false := by rcases h with h | h <;> simp [h]
    simp [State.raise, hno]

end Sys2Proof.Machine
end

section
/-!
SUPPORT. Register accesses, words of the mailboxes and resets of the host end (18_host_link_and_mailboxes.md).
-/

namespace Sys2Proof.Machine

variable (s : State)

/-! ### Posts, reads and register writes (R509, R516 to R520, R528) -/

/-- Nothing wakes a device that does not sleep (R523). -/
theorem State.wakeBy_awake (src : PowerSource) (h : s.asleep = false) : s.wakeBy src = s := by
  simp [State.wakeBy, h]

/-- A post leaves alone what is not of a channel and does not count free values. -/
theorem State.post_keeps {α : Type} (π : State → α) (hc : ∀ t n f, π (State.setChan t n f) = π t) (hd : ∀ t, π (State.drew t) = π t)
    (ch : Chan) (w : Word) : π (s.post ch w) = π s := by
  unfold State.post
  dsimp only
  repeat' split
  all_goals simp only [hc, hd]

/-- A word posted while IN_FULL is 0 fills HMB_IN and counts as outstanding (R516). -/
theorem State.post_empty (ch : Chan) (w : Word) (h : s.host.channels[ch].inWord = none) :
    s.post ch w = s.setChan ch (fun h => { h with
       inWord := some w, outstanding := h.outstanding ++ [(w.extractLsb' 51 5, w.extractLsb' 56 8)] }) := by
  simp only [State.post, h, Option.isSome_none, Bool.false_eq_true, false_and, if_false, takenOf_fields, State.setChan_setChan]
  rfl

/-- Of a post while IN_FULL is 1 either the word before or the new one stands in HMB_IN (R520). -/
theorem State.post_full (ch : Chan) (v w : Word) (h : s.host.channels[ch].inWord = some v) :
    (s.post ch w).host.channels[ch].inWord = some v ∨ (s.post ch w).host.channels[ch].inWord = some w := by
  unfold State.post
  dsimp only
  split
  · left
    simpa using h
  · right
    rw [if_pos (by rw [h]; rfl)]
    simp [State.drew]

/-- A vector whose bit is newly set in IRQ_MASK changes nothing but what waits to leave (R528). -/
theorem State.writeMask_keeps {α : Type} (π : State → α) (he : ∀ t e, π (State.emit t e) = π t)
    (hm : ∀ (t : State) m, π { t with host := { t.host with msixPending := m } } = π t) (m : BitVec 19) :
    π (s.writeMask m) = π { s with host := { s.host with irqMask := m } } := by
  unfold State.writeMask
  exact foldl_same π _ (fun t v => by
    split
    · exact t.sendMsix_keeps π he hm v
    · rfl) _ _

/-- The registers below 0xD0, from 0x400 to 0x800 and above the MSI-X table take no write (R509). -/
theorem State.writeBar0_none {o : Nat} (v : Word) (h8 : o % 8 = 0) (h : o < 0xD0 ∨ 0x400 ≤ o ∧ o < 0x800 ∨ 0x2200 ≤ o) :
    s.writeBar0 o true v = s := by
  unfold State.writeBar0
  repeat rw [if_neg (by omega)]

theorem State.writeBar0_pending (v : Word) :
    s.writeBar0 0x800 true v = { s with host := { s.host with irqPending := s.host.irqPending &&& ~~~(BitVec.ofNat 19 v.toNat) } } := by
  unfold State.writeBar0
  rw [if_neg (by omega), if_neg (by omega), if_neg (by omega), if_pos rfl]

/-- A read of HMB_OUT takes the oldest word, and an answer ends the count of its command (R518, R520). -/
theorem HmbChannel.takeOut_cons {h : HmbChannel} {w : Word} {ws : List Word} (hq : h.outQ = w :: ws) :
    h.takeOut = { h with outQ := ws, outstanding := if w.getLsbD 50 then h.outstanding
      else h.outstanding.erase (w.extractLsb' 51 5, w.extractLsb' 56 8) } := by
  simp only [HmbChannel.takeOut, hq, takenOf_fields]
  rfl

theorem HmbChannel.takeOut_nil {h : HmbChannel} (hq : h.outQ = []) : h.takeOut = h := by
  simp only [HmbChannel.takeOut, hq]

theorem upd_self {α : Type} {n : Nat} (v : Vector α n) (i : Fin n) (f : α → α) (h : f v[i] = v[i]) : upd v i f = v := by
  simpa [upd] using congrArg (v.set i · i.isLt) h

theorem State.setChan_congr (n : Chan) {f g : HmbChannel → HmbChannel} (h : f s.host.channels[n] = g s.host.channels[n]) :
    s.setChan n f = s.setChan n g := by
  have hv : f s.host.channels[n.val] = g s.host.channels[n.val] := h
  simp [State.setChan, upd, hv]

theorem State.setChan_none (n : Chan) {f : HmbChannel → HmbChannel} (h : f s.host.channels[n] = s.host.channels[n]) :
    s.setChan n f = s := by
  have hv : upd s.host.channels n f = s.host.channels := upd_self _ _ _ h
  rw [State.setChan, hv]

/-- What a read of DEV_LANEn_ERR takes, by the part read (R425). -/
theorem LaneState.takeErr_fields (l : LaneState) (part : ReadPart) :
    (part ≠ .high → (l.takeErr part).codeErr = 0 ∧ (l.takeErr part).lockLoss = 0) ∧
    (part ≠ .low → (l.takeErr part).frameErr = 0 ∧ (l.takeErr part).elastic = 0) := by
  cases part <;> simp [LaneState.takeErr]

/-- Settles O12: each access of the host moves one word or changes one register. -/
theorem mailboxAndRegisterAccesses : Obligations.MailboxAndRegisterAccesses := by
  unfold Obligations.MailboxAndRegisterAccesses
  refine ⟨⟨fun s ch w hq hb ha hin => ?_, fun s ch v w hq hb ha hin => ?_, fun s ch w ws hq hb ho => ?_, fun s ch hq hb ho => ?_⟩,
    fun s v hq hb => ?_, fun s v hq hb => ?_, fun s o v hq hb h8 ho => ?_, fun s ax hq hb => ?_, fun s n part hq hb => ?_⟩
  · show execHmbInPost ch w s = _
    rw [execHmbInPost, if_pos hb, State.wakeBy_awake _ _ ((s.post_keeps State.asleep (fun _ _ _ => rfl) (fun _ => rfl) ch w).trans ha),
      s.post_empty ch w hin]
    exact State.done_quiet _ hq
  · have hk {α : Type} (π : State → α) (hc : ∀ t n f, π (State.setChan t n f) = π t) (hd : ∀ t, π (State.drew t) = π t) :
        π (s.post ch w) = π s := s.post_keeps π hc hd ch w
    refine ⟨s.post ch w, ?_, s.post_full ch v w hin, hk State.print (fun _ _ _ => rfl) (fun _ => rfl),
      hk State.sec (fun _ _ _ => rfl) (fun _ => rfl), hk State.pair (fun _ _ _ => rfl) (fun _ => rfl)⟩
    show execHmbInPost ch w s = _
    rw [execHmbInPost, if_pos hb, State.wakeBy_awake _ _ ((hk State.asleep (fun _ _ _ => rfl) (fun _ => rfl)).trans ha)]
    exact State.done_quiet _ ((hk (fun t => t.host.batch) (fun _ _ _ => rfl) (fun _ => rfl)).trans hq)
  · show execHmbOutRead ch s = _
    rw [execHmbOutRead, if_pos hb, HmbChannel.out, ho]
    refine (State.done_quiet (State.setChan (s.emit _) ch _) hq).trans (congrArg _ (State.setChan_congr _ ch ?_))
    exact HmbChannel.takeOut_cons ho
  · show execHmbOutRead ch s = _
    rw [execHmbOutRead, if_pos hb, HmbChannel.out, ho]
    refine (State.done_quiet (State.setChan (s.emit _) ch _) hq).trans (congrArg _ (State.setChan_none _ ch ?_))
    exact HmbChannel.takeOut_nil ho
  · have hk {α : Type} (π : State → α) (he : ∀ t e, π (State.emit t e) = π t)
        (hm : ∀ (t : State) m, π { t with host := { t.host with msixPending := m } } = π t) :=
      s.writeMask_keeps π he hm (BitVec.ofNat 19 v.toNat)
    refine ⟨s.writeMask (BitVec.ofNat 19 v.toNat), ?_, hk (fun t => t.host.irqMask) (fun _ _ => rfl) (fun _ _ => rfl),
      hk (fun t => t.host.irqPending) (fun _ _ => rfl) (fun _ _ => rfl), hk (fun t => t.host.channels) (fun _ _ => rfl) (fun _ _ => rfl),
      hk State.print (fun _ _ => rfl) (fun _ _ => rfl)⟩
    show execIrqMaskWrite v s = _
    rw [execIrqMaskWrite, if_pos hb]
    exact State.done_quiet _ ((hk (fun t => t.host.batch) (fun _ _ => rfl) (fun _ _ => rfl)).trans hq)
  · show execRegisterWrite 0x800 true v s = _
    rw [execRegisterWrite, if_pos hb]
    exact (congrArg State.done (s.writeBar0_pending v)).trans (State.done_quiet _ hq)
  · show execRegisterWrite o true v s = _
    rw [execRegisterWrite, if_pos hb, s.writeBar0_none v h8 ho]
    exact s.done_quiet hq
  · show execAxisLatchRead ax s = _
    rw [execAxisLatchRead, if_pos hb]
    exact State.done_quiet _ hq
  · obtain ⟨hhigh, hlow⟩ := s.lanes.lanes[n].takeErr_fields part
    refine ⟨(s.emit (s.lanes.lanes[n].readErr n.val part)).setLane n (fun l => l.takeErr part), ?_, ?_, ?_, fun hp => ?_, fun m hm => ?_⟩
    · show execLaneErrRead n part s = _
      rw [execLaneErrRead, if_pos hb]
      exact State.done_quiet _ hq
    · simpa [State.setLane, State.emit] using hhigh
    · simpa [State.setLane, State.emit] using hlow
    · rw [hp]
      rfl
    · exact upd_other _ _ _ _ hm.symm

/-! ### Words taken and docket reads (R514, R517, R529) -/

theorem State.clearIn_channels (ch : Chan) :
    (s.clearIn ch).host.channels = upd s.host.channels ch (fun h => { h with inWord := none }) := by
  unfold State.clearIn
  dsimp only
  split <;> simp

theorem State.clearIn_batch (ch : Chan) : (s.clearIn ch).host.batch = s.host.batch := by
  unfold State.clearIn
  dsimp only
  split
  · rw [State.irq_batch]
    rfl
  · rfl

theorem bits_opcode (w : Word) : (w.extractLsb' 56 8).toNat = bits w 63 56 := by
  simp [bits, Nat.shiftRight_eq_div_pow]

/-- FIRMWARE_TAKES_WORD with a word in HMB_IN, after the engine channels have been served (R517, R536 step 1). -/
theorem execFirmwareTakesWord_eq {ch : Chan} {w : Word} (hs : s.serves = true) (hin : s.host.channels[ch].inWord = some w) :
    execFirmwareTakesWord ch s = if bits w 63 56 ∈ assignedOpcodes then
      ((s.serveEngines.clearIn ch).setChan ch (fun h => { h with taken := h.taken ++ [takenOf w] })).done
      else ((s.serveEngines.clearIn ch).pushHost ch [responseWord (takenOf w).opcode (takenOf w).tag .unknownOpcode 0]).done := by
  have hin' : s.serveEngines.host.channels[ch].inWord = some w := hin
  unfold execFirmwareTakesWord
  simp only [hs, hin', takenOf_fields, bits_opcode, List.contains_iff_mem, Bool.not_true, Bool.false_eq_true, if_false]

/-- Adding docket words to the commands of a tag keeps the first of them first (R536). -/
theorem find_map_docket {l : List TakenCmd} {tag : BitVec 5} {u : TakenCmd} {ws : List Word}
    (h : l.find? (fun t => t.tag == tag) = some u) :
    (l.map (fun t => if t.tag == tag then { t with docket := some (t.docket.getD [] ++ ws) } else t)).find? (fun t => t.tag == tag) =
      some { u with docket := some (u.docket.getD [] ++ ws) } := by
  have hp : ((fun t => t.tag == tag) ∘ fun (t : TakenCmd) => if t.tag == tag then { t with docket := some (t.docket.getD [] ++ ws) } else t)
      = fun t => t.tag == tag := by
    funext t
    dsimp only [Function.comp]
    split <;> rfl
  have hu : (fun (t : TakenCmd) => t.tag == tag) u = true := List.find?_some (p := fun (t : TakenCmd) => t.tag == tag) h
  rw [List.find?_map, hp, h, Option.map_some, if_pos hu]

/-- Settles O13: the word taken by its opcode, the docket read by its outcome, and the word of an engine. -/
theorem firmwareTakesWordsAndDockets : Obligations.FirmwareTakesWordsAndDockets := by
  unfold Obligations.FirmwareTakesWordsAndDockets
  refine ⟨fun s ch w hq hs hin => ?_, fun s ch tag u r hq hu hr => ?_, fun s k w hq => ⟨_, State.done_quiet _ hq, ?_, ?_, rfl⟩⟩
  · have hb : (s.serveEngines.clearIn ch).host.batch = [] := (State.clearIn_batch ..).trans hq
    by_cases ho : bits w 63 56 ∈ assignedOpcodes
    · refine ⟨_, ((execFirmwareTakesWord_eq s hs hin).trans (if_pos ho)).trans (State.done_quiet _ hb), ?_, ?_, ?_⟩
      · simp [State.clearIn_channels]
      · simp [State.clearIn_channels, State.serveEngines]
      · simp [State.clearIn_channels, State.serveEngines, ho, takenOf_fields]
    · refine ⟨_, ((execFirmwareTakesWord_eq s hs hin).trans (if_neg ho)).trans
        (State.done_quiet _ ((State.pushHost_batch ..).trans hb)), ?_, ?_, ?_⟩
      · simp [State.clearIn_channels]
      · simp [State.clearIn_channels, State.serveEngines]
      · simp [State.clearIn_channels, State.serveEngines, ho, takenOf_fields]
  · have he : exec (.docketReadCompletion ch tag r) s = execDocketReadCompletion ch tag r s := rfl
    simp only [execDocketReadCompletion, hu, hr, Bool.not_true, Bool.false_eq_true, if_false] at he
    cases r with
    | words ws =>
      refine ⟨_, he.trans (State.done_quiet _ hq), ?_, ?_⟩
      · simpa using find_map_docket hu
      · simp
    | error a =>
      refine ⟨_, he.trans (State.done_quiet _ ((State.pushHost_batch ..).trans hq)), ?_, ?_⟩
      · simp
      · simp
  · simp
  · simp

end Sys2Proof.Machine
end

section
/-!
SUPPORT. What the end of a step, answers and the end of sessions may do to a mailbox channel: words are added to its outbound queue, and
nothing else of it that a reset of the host end sets is moved (18_host_link_and_mailboxes.md).
-/

namespace Sys2Proof.Machine

variable (s : State)

/-- A channel's outbound queue has grown and no command has been added; session, inbound word and ABORTED stand. -/
structure HmbChannel.GrewTo (h h' : HmbChannel) : Prop where
  session : h'.session = h.session
  inWord : h'.inWord = h.inWord
  taken : h'.taken = h.taken
  aborted : h'.aborted = h.aborted
  running : h'.running.Sublist h.running
  outQ : h.outQ <+: h'.outQ

theorem HmbChannel.GrewTo.refl (h : HmbChannel) : h.GrewTo h := ⟨rfl, rfl, rfl, rfl, .refl _, List.prefix_rfl⟩

theorem HmbChannel.GrewTo.trans {a b c : HmbChannel} (h : a.GrewTo b) (g : b.GrewTo c) : a.GrewTo c :=
  ⟨g.session.trans h.session, g.inWord.trans h.inWord, g.taken.trans h.taken, g.aborted.trans h.aborted, g.running.trans h.running,
    h.outQ.trans g.outQ⟩

@[simp] theorem State.irq_d3hot (v : Nat) : (s.irq v).host.d3hot = s.host.d3hot :=
  s.irq_keeps (fun t => t.host.d3hot) (fun _ _ => rfl) (fun _ _ => rfl) (fun _ _ => rfl) v

@[simp] theorem State.pushHost_d3hot (n : Chan) (ws : List Word) : (s.pushHost n ws).host.d3hot = s.host.d3hot := by
  unfold State.pushHost
  dsimp only
  split
  · rw [State.irq_d3hot]
    rfl
  · rfl

/-- Between two states every mailbox channel has only grown; IRQ_MASK and the power state of the link stand. -/
structure State.HostGrows (s t : State) : Prop where
  irqMask : t.host.irqMask = s.host.irqMask
  d3hot : t.host.d3hot = s.host.d3hot
  channel : ∀ n : Chan, s.host.channels[n].GrewTo t.host.channels[n]

theorem State.HostGrows.of_eq {s t : State} (hm : t.host.irqMask = s.host.irqMask) (hd : t.host.d3hot = s.host.d3hot)
    (hc : t.host.channels = s.host.channels) :
    s.HostGrows t := ⟨hm, hd, fun n => by rw [hc]; exact .refl _⟩

theorem State.HostGrows.of_host {s t : State} (h : t.host = s.host) : s.HostGrows t := .of_eq (by rw [h]) (by rw [h]) (by rw [h])

theorem State.HostGrows.refl : s.HostGrows s := .of_host rfl

theorem State.HostGrows.trans {s t u : State} (h : s.HostGrows t) (g : t.HostGrows u) : s.HostGrows u :=
  ⟨g.irqMask.trans h.irqMask, g.d3hot.trans h.d3hot, fun n => (h.channel n).trans (g.channel n)⟩

theorem State.HostGrows.ite {s t u : State} {p : Prop} [Decidable p] (h : s.HostGrows t) (g : s.HostGrows u) :
    s.HostGrows (if p then t else u) := by
  split
  · exact h
  · exact g

theorem State.HostGrows.foldl {β : Type} {g : State → β → State} (hg : ∀ (t : State) b, t.HostGrows (g t b)) (l : List β) :
    s.HostGrows (l.foldl g s) :=
  foldl_keeps (fun t => s.HostGrows t) g (fun t b h => h.trans (hg t b)) l s (.refl s)

/-! ### The operations that queue words -/

theorem State.setChan_grows (n : Chan) {f : HmbChannel → HmbChannel} (hf : ∀ h : HmbChannel, h.GrewTo (f h)) :
    s.HostGrows (s.setChan n f) := by
  refine ⟨rfl, rfl, fun m => ?_⟩
  by_cases hm : n = m
  · subst hm
    simpa using hf _
  · have hu : (s.setChan n f).host.channels[m] = s.host.channels[m] := upd_other _ _ _ _ hm
    rw [hu]
    exact .refl _

theorem State.pushHost_grows (n : Chan) (ws : List Word) : s.HostGrows (s.pushHost n ws) :=
  have h : s.HostGrows (s.setChan n (fun h => { h with outQ := h.outQ ++ ws })) :=
    s.setChan_grows n (fun h => ⟨rfl, rfl, rfl, rfl, .refl _, List.prefix_append ..⟩)
  ⟨by simp, by simp, fun m => by simpa using h.channel m⟩

theorem State.eventHost_grows (e : Code × BitVec 40) (n : Chan) : s.HostGrows (s.eventHost e n) := by
  unfold State.eventHost
  dsimp only
  split
  · split
    · exact (s.setChan_grows n (fun h => by exact ⟨rfl, rfl, rfl, rfl, .refl _, List.prefix_rfl⟩)).trans (State.pushHost_grows ..)
    · exact s.setChan_grows n (fun h => ⟨rfl, rfl, rfl, rfl, .refl _, List.prefix_rfl⟩)
  · exact .refl s

theorem State.deliver_grows (e : Code × BitVec 40) : s.HostGrows (s.deliver e) :=
  (State.HostGrows.foldl s (fun t n => t.eventHost_grows e n) _).trans (.foldl _ (fun t n => .of_host (by simp)) _)

theorem State.flush_grows : s.HostGrows s.flush := by
  unfold State.flush
  split
  · exact .refl s
  · have h : s.HostGrows { s with host := { s.host with batch := [] } } := .of_eq rfl rfl rfl
    exact h.trans (.foldl _ (fun t e => t.deliver_grows e) _)

theorem State.settle_grows : s.HostGrows s.settle := s.flush_grows.trans (.of_eq rfl rfl rfl)

theorem State.respond_grows (o : Origin) (op : Byte) (tag : BitVec 5) (st : Code) (r : BitVec 40) :
    s.HostGrows (s.respond o op tag st r) := by
  refine s.flush_grows.trans ?_
  unfold State.respond
  generalize s.flush = t
  cases o with
  | host n k =>
    dsimp only
    split
    · exact (t.setChan_grows n (fun h => by exact ⟨rfl, rfl, rfl, rfl, List.erase_sublist, List.prefix_rfl⟩)).trans (State.pushHost_grows ..)
    · exact .refl t
  | peer n k =>
    dsimp only
    repeat' split
    · exact .of_host (by simp)
    · exact .refl t
    · exact .refl t
  | parcel a => exact .of_host rfl

theorem State.answer_grows (c : Cmd) (op : Byte) (st : Code) (r : BitVec 40) : s.HostGrows (s.answer c op st r) :=
  s.respond_grows ..

theorem State.raise_grows (e : Code) (d : BitVec 40) : s.HostGrows (s.raise e d) :=
  .of_eq (s.raise_keeps (fun t => t.host.irqMask) (fun _ _ => rfl) e d) (s.raise_keeps (fun t => t.host.d3hot) (fun _ _ => rfl) e d)
    (s.raise_keeps (fun t => t.host.channels) (fun _ _ => rfl) e d)

/-! ### Loads that fail and sessions that end -/

theorem State.loadFails_grows (r : LoadReq) (id : Nat) (e : Code) (x : Nat) (o : Option Nat) : s.HostGrows (s.loadFails r id e x o) := by
  unfold State.loadFails State.loadAnswer
  dsimp only
  split
  · exact s.respond_grows ..
  · exact (s.raise_grows ..).trans (State.respond_grows ..)

theorem State.discardFlight_grows (k : SlotNo) (f : Flight) (e : Code) (x : Nat) : s.HostGrows (s.discardFlight k f e x) := by
  have h : s.HostGrows ((s.flightId f).1.freeSlot k) := .of_host (by simp)
  unfold State.discardFlight
  exact h.trans (State.loadFails_grows ..)

theorem State.endSession_grows (n : Chan) : s.HostGrows (s.endSession n) := by
  unfold State.endSession
  split
  · exact .refl s
  · have h : s.HostGrows { s with sec := { s.sec with sessions := s.sec.sessions.set n none } } := .of_host rfl
    refine h.trans (.foldl _ (fun t k => ?_) _)
    split
    · exact .ite (t.discardFlight_grows ..) (.refl t)
    · exact .refl t

theorem State.writeBlock_grows (c : Cmd) (a l : Word) (ws : List Word) (n : Nat) : s.HostGrows (s.writeBlock c a l ws n).1 :=
  .of_host (by simp)

theorem State.openSession_grows (c : Cmd) (n : Chan) : s.HostGrows (s.openSession c n).1 := by
  have h : s.HostGrows ((s.drewN 6).writeBlock c (c.dw 49) (c.dw 50) (s.deriveSession c n).2 0).1 := .of_host (by simp)
  unfold State.openSession
  dsimp only
  split
  · exact (h.trans (State.endSession_grows ..)).trans (.of_host rfl)
  · exact h

theorem State.serveOpen_grows (w : Chan × Cmd) : s.HostGrows (s.serveOpen w) := by
  unfold State.serveOpen
  split
  · exact .refl s
  · have hw : s.HostGrows { s with sec := { s.sec with openWaits := s.sec.openWaits.erase w } } := .of_host rfl
    dsimp only
    refine hw.trans ?_
    generalize ({ s with sec := { s.sec with openWaits := s.sec.openWaits.erase w } } : State) = t
    split
    · exact t.answer_grows ..
    · have ho := t.openSession_grows w.2 w.1
      split
      · next heq =>
        rw [heq] at ho
        exact State.HostGrows.trans ho (State.answer_grows ..)
      · next heq =>
        rw [heq] at ho
        exact ho

theorem State.serveOpens_grows : s.HostGrows s.serveOpens := .foldl s (fun t w => t.serveOpen_grows w) _

theorem State.endParcelReads_grows : s.HostGrows s.endParcelReads := by
  refine .foldl s (fun t k => ?_) _
  split
  · exact .ite (t.discardFlight_grows ..) (.refl t)
  · exact .refl t

/-! ### A reset of the host end (R524, R526) -/

/-- The channel of a host-end reset right after it: a new session with MAILBOX_ABORTED as its first word. -/
structure HmbChannel.ResetTo (h h' : HmbChannel) : Prop where
  session : h'.session = h.session + 1
  inWord : h'.inWord = h.inWord
  taken : h'.taken = []
  running : h'.running = []
  aborted : h'.aborted = (h.aborted || !h.outQ.isEmpty)
  first : h'.outQ.head? = some (eventWord (.mailboxAborted, pack40 [fld 1 9 h.outQ.length, fld 10 6 (h.taken.length + h.running.length)]))

theorem HmbChannel.ResetTo.grew {a b c : HmbChannel} (h : a.ResetTo b) (g : b.GrewTo c) : a.ResetTo c where
  session := g.session.trans h.session
  inWord := g.inWord.trans h.inWord
  taken := g.taken.trans h.taken
  running := List.sublist_nil.mp (h.running ▸ g.running)
  aborted := g.aborted.trans h.aborted
  first := by
    obtain ⟨ws, hws⟩ := g.outQ
    rw [← hws, List.head?_append, h.first, Option.some_or]

/-- The two words of a reset, on the channel as it was put back. -/
theorem State.hostEndReset_channel (ch : Chan) : s.host.channels[ch].ResetTo (s.hostEndReset ch).host.channels[ch] := by
  unfold State.hostEndReset
  dsimp only
  refine HmbChannel.ResetTo.grew ?_ (((State.endSession_grows ..).trans (State.serveOpens_grows _)).channel ch)
  split
  · constructor <;> simp
  · constructor <;> simp

/-- No other channel's session or inbound word moves. -/
theorem State.hostEndReset_other {ch m : Chan} (hm : ch ≠ m) : s.host.channels[m].GrewTo (s.hostEndReset ch).host.channels[m] := by
  unfold State.hostEndReset
  dsimp only
  refine HmbChannel.GrewTo.trans ?_ (((State.endSession_grows ..).trans (State.serveOpens_grows _)).channel m)
  have hv : ¬ ch.val = m.val := fun h => hm (Fin.ext h)
  split <;> simpa [upd_upd, upd_get, hv] using .refl _

theorem State.hostEndReset_irqMask (ch : Chan) : (s.hostEndReset ch).host.irqMask = s.host.irqMask := by
  unfold State.hostEndReset
  dsimp only
  refine ((State.endSession_grows ..).trans (State.serveOpens_grows _)).irqMask.trans ?_
  split <;> simp <;> rfl

/-- Resets of the host end of a list of channels: each channel in it begins one session, and IRQ_MASK stands. -/
theorem hostEndResets (l : List Chan) (hl : l.Nodup) (s : State) (ch : Chan) :
    let t := l.foldl (fun (s : State) n => s.hostEndReset n) s
    t.host.irqMask = s.host.irqMask ∧ t.host.channels[ch].inWord = s.host.channels[ch].inWord ∧
      t.host.channels[ch].session = s.host.channels[ch].session + (if ch ∈ l then 1 else 0) := by
  induction l generalizing s with
  | nil => simp
  | cons n l ih =>
    obtain ⟨hn, hl⟩ := List.nodup_cons.mp hl
    obtain ⟨hm, hw, hk⟩ := ih hl (s.hostEndReset n)
    dsimp only [List.foldl_cons] at hm hw hk ⊢
    refine ⟨hm.trans (s.hostEndReset_irqMask n), ?_⟩
    by_cases hc : n = ch
    · subst hc
      have h := s.hostEndReset_channel n
      exact ⟨hw.trans h.inWord, by rw [hk, h.session, if_neg hn, if_pos (List.mem_cons_self ..), add_zero]⟩
    · have h := s.hostEndReset_other hc
      exact ⟨hw.trans h.inWord, by rw [hk, h.session]; simp [Ne.symm hc]⟩

/-! ### Printing goes on (R515, R526) -/

theorem State.hostEndReset_print (ch : Chan) : (s.hostEndReset ch).print = s.print := by
  unfold State.hostEndReset
  dsimp only
  rw [State.serveOpens_print, State.endSession_print]
  split <;> simp

/-- The channel's security session ends, where none waits to open (R564). -/
theorem State.hostEndReset_sessions (ch : Chan) (hw : s.sec.openWaits = []) : (s.hostEndReset ch).sec.sessions[ch] = none := by
  unfold State.hostEndReset
  dsimp only
  rw [State.serveOpens_none]
  · simp
  · rw [State.endSession_sec]
    split <;> simpa using hw

/-- A part that neither resets of the host end nor the loads they end can show stands across a Function Level Reset. -/
theorem State.functionReset_keeps {α : Type} (π : State → α) (hh : ∀ (t : State) h, π { t with host := h } = π t)
    (hr : ∀ t n, π (State.hostEndReset t n) = π t) (he : ∀ t, π (State.endParcelReads t) = π t) (ho : ∀ t, π (State.serveOpens t) = π t) :
    π s.functionReset = π s := by
  unfold State.functionReset
  rw [ho, he, foldl_same π _ hr, hh]

/-- A Function Level Reset begins one session on every channel and clears IRQ_MASK (R515). -/
theorem State.functionReset_host :
    s.functionReset.host.irqMask = 0 ∧ ∀ ch : Chan, s.functionReset.host.channels[ch].session = s.host.channels[ch].session + 1 ∧
      s.functionReset.host.channels[ch].inWord = s.host.channels[ch].inWord := by
  have hr := fun ch => hostEndResets (List.finRange 8) (List.nodup_finRange 8)
    { s with host := { s.host with irqPending := 0, irqMask := 0, msixPending := 0 } } ch
  unfold State.functionReset
  dsimp only at hr ⊢
  generalize (List.finRange 8).foldl (fun (s : State) n => s.hostEndReset n) _ = t at hr ⊢
  have hg : t.HostGrows t.endParcelReads.serveOpens := t.endParcelReads_grows.trans (State.serveOpens_grows _)
  refine ⟨hg.irqMask.trans (hr 0).1, fun ch => ?_⟩
  obtain ⟨-, hw, hk⟩ := hr ch
  rw [if_pos (List.mem_finRange ch)] at hk
  exact ⟨(hg.channel ch).session.trans hk, (hg.channel ch).inWord.trans hw⟩

/-! ### Power states of the link (R515) -/

/-- With the function in D3hot no message held back leaves. -/
theorem State.releaseMsix_d3hot (h : s.host.d3hot = true) : s.releaseMsix = s := by
  unfold State.releaseMsix
  have hopen (t : State) (v : Nat) (ht : t.host.d3hot = true) : t.msixOpen v = false := by simp [State.msixOpen, State.bar0, ht]
  refine foldl_keeps (fun t => t = s) _ (fun t v ht => ?_) _ _ rfl
  subst ht
  simp [hopen t v h]

/-- Of a header that is asked for, a read request leaves unless it comes over the fabric (R80, R450). -/
theorem State.askHeader_sent (k : SlotNo) {f : Flight} (h : f.req.xfer.isSome = true) : (s.askHeader k f).sent = s.sent := by
  simp [State.askHeader, ← Option.not_isSome, h]

/-- With the function in D3hot no read request held back leaves. -/
theorem State.askHeld_d3hot (h : s.host.d3hot = true) : s.askHeld.sent = s.sent := by
  unfold State.askHeld
  refine (foldl_keeps (fun (t : State) => t.host.d3hot = true ∧ t.sent = s.sent) _ (fun t k ht => ?_) _ _ ⟨h, rfl⟩).2
  obtain ⟨hd, hs⟩ := ht
  dsimp only
  split
  · next f hf =>
    cases hm : t.mayAsk f.req with
    | false => simp [hd, hs]
    | true =>
      have hx : f.req.xfer.isSome = true := by simpa [State.mayAsk, hd] using hm
      repeat' split
      · exact ⟨hd, hs⟩
      · exact ⟨by simpa using hd, (t.askHeader_sent k hx).trans hs⟩
      · exact ⟨hd, hs⟩
  · exact ⟨hd, hs⟩

theorem State.releaseMsix_power : s.releaseMsix.host.d3hot = s.host.d3hot ∧ s.releaseMsix.host.batch = s.host.batch := by
  unfold State.releaseMsix
  refine foldl_keeps (fun (t : State) => t.host.d3hot = s.host.d3hot ∧ t.host.batch = s.host.batch) _ (fun t v ht => ?_) _ _ ⟨rfl, rfl⟩
  dsimp only
  split
  · exact ⟨(State.sendMsix_keeps _ (fun t => t.host.d3hot) (fun _ _ => rfl) (fun _ _ => rfl) v).trans ht.1,
      (State.sendMsix_keeps _ (fun t => t.host.batch) (fun _ _ => rfl) (fun _ _ => rfl) v).trans ht.2⟩
  · exact ht

/-- Settles O14: a reset of one channel's host end, of all eight, and the power states of the link. -/
theorem channelResetsSparePrinting : Obligations.ChannelResetsSparePrinting := by
  unfold Obligations.ChannelResetsSparePrinting
  refine ⟨fun s ch hq hb => ?_, fun s hq he => ?_, fun s d he => ?_⟩
  · have h := (s.hostEndReset_channel ch).grew ((State.settle_grows _).channel ch)
    have hx : exec (.hostReset ch) s = .next (s.hostEndReset ch).settle := if_pos hb
    refine ⟨_, hx, h.session, h.inWord, h.taken, h.running, h.first, fun ho => ?_, fun hw => ?_, ?_⟩
    · rw [h.aborted, Bool.or_eq_true]
      exact .inr (by simpa using ho)
    · rw [State.settle_sec]
      exact s.hostEndReset_sessions ch hw
    · rw [State.settle_print, State.hostEndReset_print]
  · have hx : exec .functionLevelReset s = .next s.functionReset.settle := if_pos he
    obtain ⟨hm, hc⟩ := s.functionReset_host
    have hg := s.functionReset.settle_grows
    refine ⟨_, hx, hg.irqMask.trans hm, fun ch => ?_, ?_, ?_⟩
    · obtain ⟨hs, hw⟩ := hc ch
      exact ⟨(hg.channel ch).session.trans hs, (hg.channel ch).inWord.trans hw⟩
    · rw [State.settle_print]
      exact s.functionReset_keeps State.print (fun _ _ => rfl) State.hostEndReset_print State.endParcelReads_print State.serveOpens_print
    · rw [State.settle_sluice]
      exact s.functionReset_keeps State.sluice (fun _ _ => rfl) State.hostEndReset_sluice State.endParcelReads_sluice
        State.serveOpens_sluice
  · have hx : exec (.pciePowerState d) s = .next ({ s with host := { s.host with d3hot := d } }).releaseMsix.askHeld.settle := if_pos he
    refine ⟨_, hx, ?_, ?_, ?_, fun hd hq => ?_⟩
    · rw [(State.settle_grows _).d3hot, State.askHeld_host, (State.releaseMsix_power _).1]
    · rw [State.settle_print, State.askHeld_print, State.releaseMsix_print]
    · rw [State.settle_sluice, State.askHeld_sluice, State.releaseMsix_sluice]
    · subst hd
      rw [State.releaseMsix_d3hot _ rfl, State.settle_quiet, State.askHeld_d3hot]
      · rfl
      · rw [State.askHeld_host]
        exact hq

end Sys2Proof.Machine
end

section
/-!
SUPPORT. The blocks of PAGE_STATUS and PAGE_DEFECTS (R551, R552), and the orders of POWER_STATE (R614).
-/

namespace Sys2Proof.Machine

variable {s : State} {c : Cmd}

/-! ### Blocks of pages -/

theorem State.pageStatusBlock_start : (s.start c).pageStatusBlock = s.pageStatusBlock := by
  simp [State.pageStatusBlock, State.flipTime, State.pageNowWord, State.statusEntry]

theorem State.defectsOf_start (id : PageId) : (s.start c).defectsOf id = s.defectsOf id := by simp [State.defectsOf]

/-- A command whose whole effect is to write a block: the block leaves, and its length is the answer (R538). -/
theorem command_writes {op : Byte} {i : Nat} {f : Cmd → State → State × Option Resp} {block : List Word}
    (hg : (needsGated op || readsObjects op) = false) (h : Runs s op true false c) (hw : Writes c i block)
    (hf : f c (s.start c) = (s.start c).writeResult c i block) : (runCommand op true false f c s).done =
      .next (((s.start c).emit (.hostWrite (c.dw i) (pad64 block))).reply c op .ok (low40 (blockBytes block))) :=
  command_replyAtStart hg h (hf.trans (State.writeResult_writes _ _ hw))

theorem ofNat_bits_low (w : Word) (n : Nat) (hn : 0 < n) (hw : n ≤ 64) : BitVec.ofNat n (bits w (n - 1) 0) = w.setWidth n := by
  rw [BitVec.setWidth_eq_extractLsb' (by omega)]
  simpa using ofNat_bits w 0 n hn

/-- Settles O17: both commands write their block, which starting the command does not change. -/
theorem pageStatusAndDefectsWriteTheirBlocks : Obligations.PageStatusAndDefectsWriteTheirBlocks := by
  unfold Obligations.PageStatusAndDefectsWriteTheirBlocks
  refine ⟨fun s c block h hblock hw => ?_, fun s c e block h he hblock hw => ?_⟩
  · have hb : block = s.pageStatusBlock := hblock
    refine command_writes rfl h hw ?_
    rw [cmdPageStatus, State.pageStatusBlock_start, hb]
  · have hb : block = defectsBlock e := hblock
    refine command_writes rfl h hw ?_
    rw [← ofNat_bits_low _ 32 (by decide) (by decide)] at he
    rw [cmdPageDefects, if_neg (by simp [hw.aligned]), State.defectsOf_start, he, hb]

/-! ### POWER_STATE -/

/-- A status with RESULT 0. -/
theorem resp_zero (st : Code) : resp st 0 = some (st, 0) := rfl


theorem Cmd.argBits_extract (hi n : Nat) (h : hi + 1 = n) : c.argBits hi 0 = (c.arg.extractLsb' 0 n).toNat := by
  subst h
  simp [Cmd.argBits]

theorem State.powerRefused_start : (s.start c).powerRefused = s.powerRefused := by simp [State.powerRefused]

theorem State.asleep_start : (s.start c).asleep = s.asleep := by simp [State.asleep]

theorem State.powerRefused_iff : s.powerRefused = true ↔ s.print.started = true ∨ s.pair.paired = true ∧ s.pair.claim ≠ 0 := by
  simp [State.powerRefused]

theorem State.powerRefused_false (h : s.print.started = false) (hp : s.pair.paired = false ∨ s.pair.claim = 0) :
    s.powerRefused = false := by
  rcases hp with hp | hp <;> simp [State.powerRefused, h, hp]

/-- Settles O10: POWER_STATE by its target. -/
theorem powerStateChangesOrWaits : Obligations.PowerStateChangesOrWaits := by
  unfold Obligations.PowerStateChangesOrWaits
  intro s c h
  have ht : c.argBits 1 0 = (c.arg.extractLsb' 0 2).toNat := Cmd.argBits_extract 1 2 rfl
  refine ⟨fun h3 => ?_, fun h0 h3 hr => ?_, fun p hp hs hc ha => ?_, fun h2 hs hc => ?_⟩
  · refine command_replyAtStart rfl h ?_
    simp [cmdPowerState, ht, h3, resp_zero]
  · refine command_replyAtStart rfl h ?_
    have h0' : (c.arg.extractLsb' 0 2).toNat ≠ 0 := fun hz => h0 (BitVec.eq_of_toNat_eq hz)
    have h3' : (c.arg.extractLsb' 0 2).toNat ≠ 3 := fun hz => h3 (BitVec.eq_of_toNat_eq hz)
    rw [cmdPowerState, ht, if_neg h3', if_pos ⟨h0', State.powerRefused_start.trans (State.powerRefused_iff.mpr hr)⟩, resp_zero]
  · have hno := State.powerRefused_false hs hc
    have hnow : cmdPowerState c (s.start c) = (s.start c).powerNow p := by
      rcases hp with ⟨h0, rfl⟩ | ⟨h1, rfl⟩
      · simp [cmdPowerState, ht, h0, State.asleep_start, ha]
      · simp [cmdPowerState, ht, h1, State.powerRefused_start, hno, State.asleep_start, ha]
    refine ⟨fun he => ?_, fun hne => ?_⟩
    · refine command_replyAtStart rfl h (hnow.trans ?_)
      simp [State.powerNow, he, resp, pack40, low40]
    · refine command_replyAtStart rfl h (hnow.trans ?_)
      simp [State.powerNow, hne, resp, pack40, low40, State.setPower, State.raiseF]
  · refine (command_waits s c (t := { s.start c with sys := { s.sys with
        entering := s.sys.entering ++ [{ origin := c.origin, tag := c.tag }] } }) h ?_)
    rw [s.begun_other c rfl]
    simp [cmdPowerState, ht, h2, State.powerRefused_start, State.powerRefused_false hs hc]

end Sys2Proof.Machine
end

section
/-!
SUPPORT. What one row of a settings table puts (R541 and the settings tables of 19_narman_command_reference.md).
-/

namespace Sys2Proof.Machine

variable (s : State) (el : Nat) (v : Word) (t : List Word)

/-- Row 4 of AXIS_CONFIG is V_MAX of the axis (R354). -/
theorem axisTable_vMax (a : AxisNo) : axisTable.apply s ⟨4, a.val, el, v, t⟩ =
    { s with motion := { s.motion with axes := upd s.motion.axes (Fin.ofNat 4 a.val) (fun x => { x with set := { x.set with vMax := v.toNat } }) } } :=
  rfl

/-- Row 10 of CAMERA_CONFIG is BUDGET of the port (R378). -/
theorem cameraTable_budget (p : CamNo) : ∃ f : CamState → CamState, (∀ q, (f q).direct.budget = v.toNat) ∧
    cameraTable.apply s ⟨10, p.val, el, v, t⟩ = s.setCam (camOf p.val) f :=
  ⟨_, fun _ => rfl, rfl⟩

/-- Row 2 of RIDER_CONFIG is HB_TIMEOUT of the pair (R490). -/
theorem riderTable_timeout (k : Fin 8) : riderTable.apply s ⟨2, k.val, el, v, t⟩ =
    s.setRider (Fin.ofNat 8 k.val) (fun r => { r with timeoutPs := v.toNat }) := rfl

/-- Row 2 of TRIGGER_CONFIG is DELAY of the input. -/
theorem triggerTable_delay (n : TrigNo) : triggerTable.apply s ⟨2, n.val, el, v, t⟩ =
    s.setTrig (Fin.ofNat 4 n.val) (fun x => { x with set := { x.set with delay := v.toNat } }) := rfl

/-- Settles O24: each row by its own case of the table's rows. -/
theorem settingsRowsPutTheirValue : Obligations.SettingsRowsPutTheirValue := by
  unfold Obligations.SettingsRowsPutTheirValue
  intro s i el v t
  refine ⟨rfl, rfl, rfl, rfl, rfl, rfl, ?_, ?_, rfl, rfl, rfl, ?_, rfl, ?_⟩
  · rintro a rfl
    have ha : Fin.ofNat 4 a.val = a := Fin.ofNat_val_eq_self a
    rw [axisTable_vMax, ha]
    exact ⟨by simp, fun b hb => upd_other _ _ _ _ hb.symm⟩
  · rintro p rfl
    obtain ⟨f, hf, h⟩ := cameraTable_budget s el v t p
    have hp : camOf p.val = p := Fin.ofNat_val_eq_self p
    rw [h, hp]
    exact ⟨by simpa [State.setCam] using hf _, fun q hq => upd_other _ _ _ _ hq.symm⟩
  · rintro k rfl
    have hk : Fin.ofNat 8 k.val = k := Fin.ofNat_val_eq_self k
    rw [riderTable_timeout, hk]
    simp [State.setRider]
  · rintro n rfl
    have hn : Fin.ofNat 4 n.val = n := Fin.ofNat_val_eq_self n
    rw [triggerTable_delay, hn]
    exact ⟨by simp [State.setTrig], fun m hm => upd_other _ _ _ _ hm.symm⟩

end Sys2Proof.Machine
end

section
/-!
SUPPORT. The course of every command word: the checks of R536 before its own (R526, R536, R554, R565).
-/

namespace Sys2Proof.Machine

theorem execLogExport_runs {s : State} {c : Cmd} (h : s.sec.exportCtx = none) :
    execLogExport c s = (runCommand 0xA6 true false cmdLogExport c s).done := by simp [execLogExport, h]

/-- Every row of the group tables is a command that runs through the checks of R536, under the row's own OPCODE and marks; LOG_EXPORT does
so where the context holds no earlier LOG_EXPORT. -/
theorem commandRows_run : ∀ row ∈ commandRows, ∀ (s : State) (c : Cmd), (row.1 = 0xA6 → s.sec.exportCtx = none) →
    ∃ f : Cmd → State → State × Option Resp, exec (row.2.2.2 c) s = (runCommand row.1 row.2.1 row.2.2.1 f c s).done := by
  simp only [commandRows, List.forall_mem_append, List.forall_mem_cons, List.not_mem_nil, false_imp_iff, implies_true, and_true]
  repeat' apply And.intro
  case left.left.right.right.left => exact fun s c h => ⟨_, execLogExport_runs (h trivial)⟩
  all_goals exact fun s c _ => ⟨_, rfl⟩

variable {s : State} {c : Cmd} {op : Byte} {docket secure : Bool} {f : Cmd → State → State × Option Resp}

/-- A word of an ended session, or one firmware does not serve, does nothing (R523, R526, R607). -/
theorem runCommand_ignored (h : s.live c.origin = false ∨ s.serves = false ∨ (s.sys.power = .dormant ∧ servedDormant op = false)) :
    runCommand op docket secure f c s = s := by
  unfold runCommand
  rw [if_pos]
  rcases h with h | h | ⟨hp, hd⟩
  · simp [h]
  · simp [h]
  · simp [hp, hd]

/-- A check of R536 that fails gives its status, and the command has no other effect. -/
theorem runCommand_answers {st : Code} {r : Nat} (hl : s.live c.origin = true) (hs : s.serves = true)
    (hd : s.sys.power = .dormant → servedDormant op = true) (hp : s.precheck op docket secure c = resp st r) :
    (runCommand op docket secure f c s).done = .next ((s.start c).reply c op st (low40 r)) := by
  rw [runCommand_refused s c f hl hs hd hp]
  rfl

/-- What R469 refuses, by its three conditions (R469, R544). -/
theorem State.standbyRefuses_iff : s.standbyRefuses op c = true ↔
    s.noClaim = true ∧ (0x10 ≤ op.toNat ∧ op.toNat ≤ 0x3F) ∧ op ≠ 0x30 ∧ c.origin ≠ .parcel .mirror := by
  simp only [State.standbyRefuses, Bool.and_eq_true, decide_eq_true_eq, bne_iff_ne, and_assoc]
  split
  · next ho => simp [ho]
  · next ho =>
    have ho' : c.origin ≠ .parcel .mirror := ho
    simp [ho']

/-- The checks of R536 before a command's own, in their order. -/
theorem State.precheck_order :
    (s.sys.stopped = true → servedWhenStopped op c = false → s.precheck op docket secure c = resp .bootIncomplete s.sys.stage) ∧
    (s.sys.stopped = false →
      let carried : Prop := secure = true → s.sec.lifecycle ≠ 3 ∧ secureOrigin c.origin = true
      (c.docketFlag ≠ docket → s.precheck op docket secure c = resp .argBad 0) ∧
      (c.docketFlag = docket → secure = true → s.sec.lifecycle = 3 → op ≠ 0xAA →
        s.precheck op docket secure c = resp .lifecycleDenied 0) ∧
      (c.docketFlag = docket → secure = true → s.sec.lifecycle ≠ 3 → secureOrigin c.origin = false →
        s.precheck op docket secure c = resp .secureRequired 0) ∧
      (c.docketFlag = docket → carried → s.standbyRefuses op c = true → s.precheck op docket secure c = resp .pairStandby 0) ∧
      (c.docketFlag = docket → carried → s.standbyRefuses op c = false → docket = true → (∃ n k, c.origin = .host n k) →
        s.host.busMaster = false → s.precheck op docket secure c = resp .busMasterOff 0) ∧
      (c.docketFlag = docket → carried → s.standbyRefuses op c = false → docket = true → (∃ n k, c.origin = .peer n k) →
        s.precheck op docket secure c = resp .hostDmaError c.arg.toNat)) := by
  have hexempt (hl : s.sec.lifecycle ≠ 3) : s.secureExempt op = false := by
    simpa [State.secureExempt] using fun _ => hl
  have hcarried (h : secure = true → s.sec.lifecycle ≠ 3 ∧ secureOrigin c.origin = true) :
      ¬ (secure && s.sec.lifecycle == 3 && !s.secureExempt op) = true ∧
      ¬ (secure && !secureOrigin c.origin && !s.secureExempt op) = true := by
    cases secure with
    | false => exact ⟨Bool.false_ne_true, Bool.false_ne_true⟩
    | true =>
      obtain ⟨hl, ho⟩ := h rfl
      exact ⟨fun hh => hl (by simpa using And.left (by simpa using hh)), by simp [ho]⟩
  unfold State.precheck
  refine ⟨fun h hs => if_pos (by simp [h, hs]), fun h => ?_⟩
  rw [if_neg (by simp [h])]
  refine ⟨fun hd => if_pos (by simpa using hd), fun hd hs hl ho => ?_, fun hd hs hl ho => ?_,
    fun hd hc hr => ?_, fun hd hc hr hk ho hb => ?_, fun hd hc hr hk ho => ?_⟩
  · have he : s.secureExempt op = false := by simpa [State.secureExempt] using fun hop => (ho hop).elim
    rw [if_neg (by simp [hd]), if_pos (by simp [hs, hl, he])]
  · have hl' : (s.sec.lifecycle == 3) = false := by simpa using hl
    rw [if_neg (by simp [hd]), if_neg (by rw [hl']; simp), if_pos (by simp [hs, ho, hexempt hl])]
  · obtain ⟨h1, h2⟩ := hcarried hc
    rw [if_neg (by simp [hd]), if_neg h1, if_neg h2, if_pos hr]
  · obtain ⟨h1, h2⟩ := hcarried hc
    obtain ⟨n, k, ho⟩ := ho
    rw [if_neg (by simp [hd]), if_neg h1, if_neg h2, if_neg (by simp [hr]), if_pos hk]
    simp only [ho, hb]
    rfl
  · obtain ⟨h1, h2⟩ := hcarried hc
    obtain ⟨n, k, ho⟩ := ho
    rw [if_neg (by simp [hd]), if_neg h1, if_neg h2, if_neg (by simp [hr]), if_pos hk]
    simp only [ho]

/-- Settles O7: every row runs through the checks, and each check by its place in them. -/
theorem everyCommandIsCheckedInOrder : Obligations.EveryCommandIsCheckedInOrder := by
  unfold Obligations.EveryCommandIsCheckedInOrder
  intro row hrow s c hctx
  obtain ⟨f, hx⟩ := commandRows_run row hrow s c hctx
  dsimp only
  rw [hx]
  refine ⟨fun hq h => by rw [runCommand_ignored h, s.done_quiet hq], fun hl hs hd => ?_⟩
  obtain ⟨hstop, hrun⟩ := State.precheck_order (s := s) (c := c) (op := row.1) (docket := row.2.1) (secure := row.2.2.1)
  refine ⟨fun h hw => runCommand_answers hl hs hd (hstop h hw), fun h => ?_⟩
  obtain ⟨h1, h2, h3, h4, h5, h6⟩ := hrun h
  have hno (hr : ¬ (s.noClaim = true ∧ (0x10 ≤ row.1.toNat ∧ row.1.toNat ≤ 0x3F) ∧ row.1 ≠ 0x30 ∧ c.origin ≠ .parcel .mirror)) :
      s.standbyRefuses row.1 c = false := Bool.eq_false_iff.mpr (fun ht => hr (State.standbyRefuses_iff.mp ht))
  exact ⟨fun a => runCommand_answers hl hs hd (h1 a), fun a b d e => runCommand_answers hl hs hd (h2 a b d e),
    fun a b d e => runCommand_answers hl hs hd (h3 a b d e),
    fun a b hr => runCommand_answers hl hs hd (h4 a b (State.standbyRefuses_iff.mpr hr)),
    fun a b hr k o m => runCommand_answers hl hs hd (h5 a b (hno hr) k o m),
    fun a b hr k o => runCommand_answers hl hs hd (h6 a b (hno hr) k o)⟩

end Sys2Proof.Machine
end

section
/-!
SUPPORT. The page commands: PAGE_CANCEL, PAGE_DELETE, FALLBACK_SET and PAGE_ABORT (02_print_model.md, R545, R649).
-/

namespace Sys2Proof.Machine

variable (s : State)

/-! ### The page table -/

theorem Cmd.arg32_eq (c : Cmd) : c.arg32 = c.arg.setWidth 32 := by
  apply BitVec.eq_of_toNat_eq
  simp [Cmd.arg32]

/-- The identifier of a page found by it. -/
theorem StorePart.page_id {x : StorePart} {id : PageId} {e : PageEntry} (h : x.page id = some e) : e.desc.id = id := by
  have hp : (fun (e : PageEntry) => e.desc.id == id) e = true := List.find?_some (p := fun (e : PageEntry) => e.desc.id == id) h
  simpa using hp

theorem StorePart.page_none {x : StorePart} {id : PageId} : x.page id = none ↔ ∀ d ∈ x.pages.map (fun e => e.desc), d.id ≠ id := by
  simp [StorePart.page]

/-- Descriptors of the page table, which changes of a page's state leave. -/
theorem State.setPageState_descs (id : PageId) (st : PageState) :
    (s.setPageState id st).store.pages.map (fun e => e.desc) = s.store.pages.map (fun e => e.desc) := by
  simp only [State.setPageState, State.setPage, List.map_map]
  refine List.map_congr_left (fun e _ => ?_)
  dsimp only [Function.comp]
  split <;> rfl

theorem State.evalPages_descs : s.evalPages.store.pages.map (fun e => e.desc) = s.store.pages.map (fun e => e.desc) := by
  unfold State.evalPages
  refine foldl_same (fun t : State => t.store.pages.map (fun e => e.desc)) _ (fun t e => ?_) _ _
  unfold State.evalPage
  repeat' split
  all_goals simp [State.raiseF, State.setPageState_descs]

/-- A page dropped is in the table no more. -/
theorem State.dropPage_page (id : PageId) : (s.dropPage id).store.page id = none := by
  simp [State.dropPage, StorePart.page]

/-! ### PAGE_CANCEL (R46) -/

/-- A page that is missed leaves queue and page table, and heads the list of ended pages. -/
theorem State.missPage_page (q : QEntry) : (s.missPage q).store.page q.desc.id = none := by
  unfold State.missPage
  dsimp only
  simp only [State.rolloutEnd_store, State.logCode_store, State.endEvent_store, State.keepEnded_store]
  exact State.dropPage_page ..

theorem State.missPage_ended (q : QEntry) : (s.missPage q).print.ended.head? = some ⟨q.desc.id, 0, .missed, [], 0⟩ := by
  unfold State.missPage
  simp [State.keepEnded]

theorem State.missPage_queue (q : QEntry) : (s.missPage q).print.queue = s.print.queue.filter (fun x => x.desc.id != q.desc.id) := by
  unfold State.missPage
  dsimp only
  simp only [State.rolloutEnd_print, State.logCode_print, State.endEvent_print, State.keepEnded_printQueue]
  simp only [State.dropPage_print, apply_ite State.print, State.dropCtx_print, ite_self]
  split <;> simp

/-- A queue entry changed in what a start is keeps its page. -/
theorem State.setQ_ids (id : PageId) {f : QEntry → QEntry} (hf : ∀ q, (f q).desc = q.desc) :
    (s.setQ id f).print.queue.map (fun q => q.desc.id) = s.print.queue.map (fun q => q.desc.id) := by
  simp only [State.setQ, List.map_map]
  refine List.map_congr_left (fun q _ => ?_)
  dsimp only [Function.comp]
  split
  · rw [hf]
  · rfl

/-- A start assigned to the page at the front moves nothing in the queue and leaves the ended pages. -/
theorem State.assignBy_queue (line : QEntry → Option Nat) :
    (s.assignBy line).print.queue.map (fun q => q.desc.id) = s.print.queue.map (fun q => q.desc.id) ∧
    (s.assignBy line).print.ended = s.print.ended := by
  unfold State.assignBy
  split
  · exact ⟨rfl, rfl⟩
  · split
    · exact ⟨rfl, rfl⟩
    · dsimp only
      split
      · simp only [State.raiseF, State.raise_print, State.record_print]
        exact ⟨State.setQ_ids _ _ (fun _ => rfl), rfl⟩
      · simp only [State.record_print]
        exact ⟨State.setQ_ids _ _ (fun _ => rfl), rfl⟩

variable {s} {c : Cmd}

/-- PAGE_CANCEL of a page that waits (R46): what its state is afterwards. -/
theorem cmdPageCancel_waiting {q : QEntry} (hq : s.print.waitingQ.find? (fun q => q.desc.id == c.arg32) = some q) :
    ∃ u : State, cmdPageCancel c s = (u, okResp) ∧ u.store.page q.desc.id = none ∧
      (∀ x ∈ u.print.queue, x.desc.id ≠ q.desc.id) ∧ u.print.ended.head? = some ⟨q.desc.id, 0, .missed, [], 0⟩ := by
  have hmiss : ∀ i ∈ (s.missPage q).print.queue.map (fun x => x.desc.id), i ≠ q.desc.id := by
    simp only [State.missPage_queue, List.mem_map, List.mem_filter, bne_iff_ne]
    rintro _ ⟨x, ⟨-, hx⟩, rfl⟩
    exact hx
  unfold cmdPageCancel
  simp only [hq]
  refine ⟨_, rfl, ?_, ?_, ?_⟩
  · rw [State.evalGov_store]
    split <;> simpa using s.missPage_page q
  · rw [State.evalGov_print]
    split
    · have ha := (((s.missPage q).record 4 (word [c.arg32.toNat]) 0).assignBy_queue
        (fun q => some (max (q.commitLine.getD 0) s.sluice.barLine))).1
      rw [State.record_print] at ha
      rw [← ha] at hmiss
      exact fun x hx => hmiss _ (List.mem_map_of_mem hx)
    · rw [State.record_print]
      exact fun x hx => hmiss _ (List.mem_map_of_mem hx)
  · rw [State.evalGov_print]
    split
    · rw [(State.assignBy_queue _ _).2, State.record_print]
      exact s.missPage_ended q
    · rw [State.record_print]
      exact s.missPage_ended q

/-! ### The fallback designation ends (R66, R545) -/

/-- A fallback start that is given up moves no page of the queue and no designation. -/
theorem State.giveUpStart_fallback {b : BoundStart} (hb : b.page = none) :
    (s.giveUpStart b).print.fallback = s.print.fallback ∧ (s.giveUpStart b).print.queue = s.print.queue := by
  simp [State.giveUpStart, hb, State.unpend, State.setTrig]

/-- With nothing designated a trigger only raises its event and pulses (R62 step 6). -/
theorem State.bindFallback_undesignated (h : s.print.fallback = none) (n : TrigNo) (start : Nat) :
    (s.bindFallback n start).print.fallback = none ∧ (s.bindFallback n start).print.queue = s.print.queue := by
  have hp (t : State) : (t.pulseFor n start).print.fallback = t.print.fallback := by
    simp only [State.pulseFor, State.pulse, State.markNow, State.setTrig]
    split <;> rfl
  simp only [State.bindFallback, h, hp, State.pulseFor_printQueue, State.raiseF, State.raise_print, and_self]

/-- With nothing designated, giving up the fallback starts leaves queue and designation alone (R62 step 6, log 128). -/
theorem State.dropFallbackStarts_undesignated (h : s.print.fallback = none) :
    s.dropFallbackStarts.print.fallback = none ∧ s.dropFallbackStarts.print.queue = s.print.queue := by
  unfold State.dropFallbackStarts
  refine List.foldlRecOn (motive := fun t : State => t.print.fallback = none ∧ t.print.queue = s.print.queue) _ _ ⟨h, rfl⟩ ?_
  rintro t ⟨hf, hq⟩ b hb
  have hnone : b.page = none := by simpa using (List.mem_filter.mp hb).2
  obtain ⟨hgf, hgq⟩ := State.giveUpStart_fallback (s := t) hnone
  obtain ⟨hbf, hbq⟩ := State.bindFallback_undesignated (hgf.trans hf) b.trig b.start
  exact ⟨hbf, hbq.trans (hgq.trans hq)⟩

theorem State.dropFallbackSerial_queue : s.dropFallbackSerial.print.queue = s.print.queue := by
  unfold State.dropFallbackSerial
  split
  · simp
  · rfl

/-- The designation ends, and the queue stays. -/
theorem State.clearFallback_print : s.clearFallback.print.fallback = none ∧ s.clearFallback.print.queue = s.print.queue := by
  unfold State.clearFallback
  dsimp only
  obtain ⟨hf, hq⟩ := State.dropFallbackStarts_undesignated (s := (({ s.dropFallbackSerial with
    print := { s.dropFallbackSerial.print with fallback := none } } : State).record 11 0 0).dropFallbackBand) (by simp)
  refine ⟨hf, hq.trans ?_⟩
  rw [State.dropFallbackBand_print, State.record_print]
  exact State.dropFallbackSerial_queue

/-- A page is taken out of the table, and the descriptors of the others stay. -/
theorem State.dropPage_descs (id : PageId) : ((s.dropPage id).evalPages).store.pages.map (fun x => x.desc) =
    (s.store.pages.filter (fun x => x.desc.id != id)).map (fun x => x.desc) := State.evalPages_descs _

theorem State.dropPage_evalPages (id : PageId) : ((s.dropPage id).evalPages).store.page id = none := by
  rw [StorePart.page_none, State.dropPage_descs]
  intro d hd
  obtain ⟨x, hx, rfl⟩ := List.mem_map.mp hd
  simpa using (List.mem_filter.mp hx).2

/-- PAGE_DELETE of a page neither queued nor printing (R545). -/
theorem cmdPageDelete_deletes {e : PageEntry} (he : s.store.page c.arg32 = some e) (hc : e.state ≠ .committed) (hp : e.state ≠ .printing)
    (hb : s.print.fallbackBusy = 0 ∨ ∀ f, s.print.fallback ≠ some (c.arg32, f)) :
    ∃ u : State, cmdPageDelete c s = (u, okResp) ∧ u.store.page c.arg32 = none ∧ (∀ f, u.print.fallback ≠ some (c.arg32, f)) ∧
      u.store.pages.map (fun x => x.desc) = (s.store.pages.filter (fun x => x.desc.id != c.arg32)).map (fun x => x.desc) ∧
      u.print.queue = s.print.queue := by
  have hdrop (t : State) (hs : t.store = s.store) (hf : ∀ f, t.print.fallback ≠ some (c.arg32, f)) (hq : t.print.queue = s.print.queue) :
      ∃ u : State, ((t.dropPage c.arg32).evalPages, okResp) = (u, okResp) ∧ u.store.page c.arg32 = none ∧
        (∀ f, u.print.fallback ≠ some (c.arg32, f)) ∧
        u.store.pages.map (fun x => x.desc) = (s.store.pages.filter (fun x => x.desc.id != c.arg32)).map (fun x => x.desc) ∧
        u.print.queue = s.print.queue :=
    ⟨_, rfl, State.dropPage_evalPages _, by simpa using hf, by rw [State.dropPage_descs, hs], by simpa using hq⟩
  unfold cmdPageDelete
  simp only [he]
  rw [if_neg (by simp [hc, hp])]
  by_cases hd : ∃ f, s.print.fallback = some (c.arg32, f)
  · obtain ⟨f, hf⟩ := hd
    have hidle : s.print.fallbackBusy = 0 := hb.resolve_right (fun h => h f hf)
    obtain ⟨hcf, hcq⟩ := s.clearFallback_print
    simp only [hf, hidle, Option.any_some, beq_self_eq_true, Nat.lt_irrefl, decide_false, Bool.and_false, Bool.false_eq_true, if_false, if_true]
    exact hdrop _ (by simp) (by simp [hcf]) hcq
  · have hany : s.print.fallback.any (fun f => f.1 == c.arg32) = false := by
      cases hf : s.print.fallback with
      | none => rfl
      | some p => simpa using fun (heq : p.1 = c.arg32) => hd ⟨p.2, by rw [hf, ← heq]⟩
    simp only [hany, Bool.false_and, Bool.false_eq_true, if_false]
    exact hdrop s rfl (fun f hf => hd ⟨f, hf⟩) rfl

/-! ### FALLBACK_SET (R66, R545) -/

/-- FALLBACK_SET of page 0 ends the designation. -/
theorem cmdFallbackSet_ends (h : c.arg32 = 0) :
    ∃ u : State, cmdFallbackSet c s = (u, okResp) ∧ u.print.fallback = none ∧ u.store = s.store :=
  ⟨_, if_pos h, s.clearFallback_print.1, by simp⟩

/-- A page takes over the designation, and nothing of the queue moves. -/
theorem State.setFallback_print (d : PageDesc) :
    (s.setFallback d).print.fallback = some (d.id, (s.costCtx d).rate) ∧ (s.setFallback d).print.queue = s.print.queue := by
  unfold State.setFallback
  dsimp only
  rw [State.dropFallbackBand_print, State.record_print]
  refine ⟨rfl, ?_⟩
  dsimp only
  split
  · exact State.dropFallbackSerial_queue
  · rw [(State.dropFallbackStarts_undesignated rfl).2]
    exact State.dropFallbackSerial_queue

/-- FALLBACK_SET of a page that passes (R545). -/
theorem cmdFallbackSet_sets {e : PageEntry} (hid : c.arg32 ≠ 0) (he : s.store.page c.arg32 = some e) (hr : e.state = .ready)
    (hl : e.desc.length ≤ 64) (hx : s.fallbackExcludes e.desc = false) : cmdFallbackSet c s = (s.setFallback e.desc, okResp) := by
  unfold cmdFallbackSet
  rw [if_neg hid]
  simp only [he]
  rw [if_neg (by simp [hr]), if_neg (by simp [hr]), if_neg (by omega), hx]
  rfl

/-! ### PAGE_ABORT (R649) -/

/-- A defect moves of the printing page only its records (R649). -/
theorem State.defect_records {sp : Span} (h : s.print.span = some sp) (k : DefectKind) (a b : Int) :
    ∃ ds n, (s.defect k a b).print.span = some { sp with defects := ds, notKept := n } := by
  have hadd (r : DefectRecord) : (s.addDefect r).print.span = some (if sp.defects.length < 4096 then { sp with defects := sp.defects ++ [r] }
      else { sp with notKept := min 65535 (sp.notKept + 1) }) := by
    unfold State.addDefect
    simp only [h]
    repeat' split
    all_goals simp
  simp only [State.defect, h, hadd]
  split
  · exact ⟨_, _, rfl⟩
  · exact ⟨_, _, rfl⟩

/-- A defect of the printing page moves neither its first nor its last line. -/
theorem State.defect_span {sp : Span} (h : s.print.span = some sp) (k : DefectKind) (a b : Int) :
    ∃ q, (s.defect k a b).print.span = some q ∧ q.first = sp.first ∧ q.last = sp.last ∧ q.desc = sp.desc := by
  obtain ⟨ds, n, hq⟩ := State.defect_records h k a b
  exact ⟨_, hq, rfl, rfl, rfl⟩

/-- Printing that stops leaves no page printing. -/
theorem State.stopNow_span : s.stopNow.print.span = none := by
  unfold State.stopNow
  dsimp only
  rw [foldl_same State.print _ (fun t w => by simp), State.calPrintStop_print, State.evalGov_print, State.encCorrect_print,
    State.encCorrect_print]
  split
  · rw [State.mapTakesEffect_print, State.writeHealth_print]
    rfl
  · rw [State.writeHealth_print]
    rfl

theorem State.endPage_span : s.endPage.print.span = none := by
  unfold State.endPage
  split
  · assumption
  · dsimp only
    split
    · assumption
    · simp only [apply_ite (fun t : State => t.print.span), State.stopNow_span, State.setCause_print, State.logCode_print,
        State.rolloutEnd_print, State.dropPage_print, ite_self]

/-- What PAGE_ABORT leaves of the printing page: nothing, or the page cut at the abort line (R649). -/
theorem State.abortAt_span {sp : Span} (h : s.print.span = some sp) (ha : sp.abort = none) (a : Nat) (k : DefectKind) :
    ∀ sp', (s.abortAt a k).print.span = some sp' → sp'.abort = some (min a sp.last) ∧ sp'.first = sp.first ∧ sp'.last = min a sp.last := by
  unfold State.abortAt
  simp -zeta only [h]
  rw [if_neg (by simp [ha])]
  extract_lets line cut g s1 tr p1 s2 s2r s3 s4
  obtain ⟨q, hq, hfirst, -, -⟩ := State.defect_span h k (if cut then line + 1 else line) (if cut then sp.trailing else line)
  have hs2 : s2.print.span = some { q with abort := some line, last := line, trailing := tr } := by simp only [s2, s1, hq]
  have hs3 : s3.print.span = s2.print.span := by
    simp only [s3, s2r, apply_ite (fun t : State => t.print.span), State.assignNext_printSpan, State.record_print, State.camTrailing_print,
      ite_self]
  have hs4 : s4.print = s3.print := by
    simp only [s4]
    split
    · exact foldl_same State.print _ (fun t i => by split <;> simp) _ _
    · rfl
  clear_value s4 s3 s2
  intro sp' hs
  split at hs
  · rw [State.endPage_span] at hs
    cases hs
  · rw [hs4, hs3, hs2] at hs
    cases hs
    exact ⟨rfl, hfirst, rfl⟩

/-- PAGE_ABORT of the page that prints (R649). -/
theorem cmdPageAbort_printing {sp : Span} (h : s.print.span = some sp) (hid : sp.desc.id = c.arg32) (hf : sp.fallback = false) :
    (∀ a, sp.abort = some a → cmdPageAbort c s = (s, resp .ok a)) ∧
    (sp.abort = none → cmdPageAbort c s = ((s.abortAt s.sluice.barLine .pageAbort).evalGov, resp .ok (min s.sluice.barLine sp.last))) := by
  refine ⟨fun a ha => ?_, fun ha => ?_⟩ <;> simp [cmdPageAbort, h, hid, hf, ha]

/-- Settles O16: each command by its page. -/
theorem pageEndsAndFallback : Obligations.PageEndsAndFallback := by
  unfold Obligations.PageEndsAndFallback
  simp only [← Cmd.arg32_eq]
  refine ⟨⟨fun s c q h hq => ?_, fun s c e h he hc hp hb => ?_, fun s c h hid => ?_, fun s c e h hid he hr hl hx => ?_⟩,
    fun s c sp h hsp hid hf => ⟨fun a ha => ?_, fun ha => ?_⟩⟩
  · obtain ⟨u, hu, hpost⟩ := cmdPageCancel_waiting (s := s.start c) (c := c) (q := q) (by simpa using hq)
    exact ⟨u, command_replyAtStart rfl h hu, hpost⟩
  · obtain ⟨u, hu, hpage, hfb, hdescs, hqueue⟩ := cmdPageDelete_deletes (s := s.start c) (c := c) (e := e) (by simpa using he) hc hp (by simpa using hb)
    exact ⟨u, command_replyAtStart rfl h hu, hpage, hfb, by simpa using hdescs, by simpa using hqueue⟩
  · obtain ⟨u, hu, hfb, hstore⟩ := cmdFallbackSet_ends (s := s.begun 0x16 c) hid
    exact ⟨u, command_reply s c h hu, hfb, by simpa using hstore⟩
  · have hu := cmdFallbackSet_sets (s := s.begun 0x16 c) (e := e) hid (by simpa using he) hr hl (by simpa [State.fallbackExcludes] using hx)
    obtain ⟨hfb, hq⟩ := State.setFallback_print (s := s.begun 0x16 c) e.desc
    refine ⟨_, command_reply s c h hu, hfb.trans ?_, by simp, by simpa using hq⟩
    simp [State.costCtx, State.mapNext]
  · exact command_replyAtStart rfl h ((cmdPageAbort_printing (by simpa using hsp) hid hf).1 a ha)
  · have hu := (cmdPageAbort_printing (s := s.start c) (by simpa using hsp) hid hf).2 ha
    rw [State.start_sluice] at hu
    refine ⟨_, command_replyAtStart rfl h hu, ?_⟩
    rw [State.evalGov_print]
    exact State.abortAt_span (s := s.start c) (by simpa using hsp) ha _ _

end Sys2Proof.Machine
end

section
/-!
SUPPORT. PAGE_COMMIT: its checks in order (R49, R573, R587), and the page that passes at the end of the queue (R58, R59, R499).
-/

namespace Sys2Proof.Machine

variable {s : State} {c : Cmd} {id : PageId} {e : PageEntry}

/-! ### What the checks read -/

theorem State.readBursts_mapNext (l : List BurstRead) : (s.readBursts l).1.mapNext = s.mapNext := by simp [State.mapNext]

theorem State.begun_layerCount (op : Byte) (d : PageDesc) (k : Nat) : (s.begun op c).layerCount d k = s.layerCount d k := by
  simp [State.layerCount]

theorem State.begun_slotShort (op : Byte) (d : PageDesc) : (s.begun op c).slotShort d = s.slotShort d := by simp [State.slotShort]

/-- A page is the fallback page where it is designated. -/
theorem PrintPart.isFallback_iff {p : PrintPart} : p.fallback.any (fun f => f.1 == id) = true ↔ ∃ f, p.fallback = some (id, f) := by
  cases hf : p.fallback with
  | none => simp
  | some q =>
    obtain ⟨i, f⟩ := q
    simp

variable {lost : List (BitVec 30)}

/-- The checks of a commit in their order (R49, R573, R587). -/
theorem State.commitRefused_order :
    ((∃ f, s.print.fallback = some (id, f)) → s.commitRefused id e lost = some (.fallbackBad, 3)) ∧
    ((∀ f, s.print.fallback ≠ some (id, f)) → e.state ≠ .ready → s.commitRefused id e lost = some (.pageNotReady, 0)) ∧
    ((∀ f, s.print.fallback ≠ some (id, f)) → e.state = .ready → (∃ k, k < 16 ∧ 32 < s.layerCount e.desc k) →
      s.commitRefused id e lost = some (.layerLimit, 0)) ∧
    ((∀ f, s.print.fallback ≠ some (id, f)) → e.state = .ready → (∀ k, k < 16 → s.layerCount e.desc k ≤ 32) →
      (1024 ≤ s.print.queue.length → s.commitRefused id e lost = some (.queueFull, 0)) ∧
      (s.print.queue.length < 1024 →
        (s.slotShort e.desc = true → s.commitRefused id e lost = some (.slotIdle, e.desc.slot.val)) ∧
        (s.slotShort e.desc = false →
          (∀ b bs, lost = b :: bs → s.commitRefused id e lost = some (.dramError, burstResult b)) ∧
          (lost = [] → s.commitRefused id e lost = none)))) := by
  have hno (h : ∀ f, s.print.fallback ≠ some (id, f)) : ¬ s.print.fallback.any (fun f => f.1 == id) = true := by
    rw [PrintPart.isFallback_iff]
    exact fun ⟨f, hf⟩ => h f hf
  unfold State.commitRefused
  refine ⟨fun h => if_pos (PrintPart.isFallback_iff.mpr h), fun h hr => ?_, fun h hr hk => ?_, fun h hr hk => ?_⟩
  · rw [if_neg (hno h), if_pos (by simpa using hr)]
  · rw [if_neg (hno h), if_neg (by simp [hr]), if_pos (by simpa using hk)]
  · rw [if_neg (hno h), if_neg (by simp [hr]), if_neg (by simpa using hk)]
    refine ⟨fun hq => if_pos hq, fun hq => ?_⟩
    rw [if_neg (by omega)]
    refine ⟨fun hs => if_pos hs, fun hs => ?_⟩
    rw [if_neg (by simp [hs])]
    exact ⟨fun b bs hl => by rw [hl], fun hl => by rw [hl]⟩

/-! ### PAGE_COMMIT without SCHED -/

theorem cmdPageCommit_now (h : c.arg.getLsbD 32 = false) :
    cmdPageCommit c s = ((s.commit c.arg32 c.reads).1, some (s.commit c.arg32 c.reads).2) := by
  simp only [cmdPageCommit, h, Bool.false_eq_true, if_false]

/-- A commit that a check refuses: nothing happens, but that a lost burst has been read (R49, R587). -/
theorem State.commit_refused {rs : List BurstRead} {st : Code} {n : Nat} (he : s.store.page id = some e)
    (hr : s.commitRefused id e (s.readBursts (s.commitReads e rs)).2 = some (st, n)) :
    s.commit id rs = (if st = .dramError then (s.readBursts (s.commitReads e rs)).1 else s, st, low40 n) := by
  simp only [State.commit, he, hr]

/-- The answer of PAGE_COMMIT when a check refuses. -/
theorem execPageCommit_refused {st : Code} {n : Nat} (h : Runs s 0x10 false false c) (hs : c.arg.getLsbD 32 = false)
    (he : s.store.page c.arg32 = some e)
    (hr : (s.begun 0x10 c).commitRefused c.arg32 e ((s.begun 0x10 c).readBursts ((s.begun 0x10 c).commitReads e c.reads)).2 = some (st, n)) :
    execPageCommit c s = .next ((if st = .dramError then ((s.begun 0x10 c).readBursts ((s.begun 0x10 c).commitReads e c.reads)).1
      else s.begun 0x10 c).reply c 0x10 st (low40 n)) := by
  refine command_reply s c h ((cmdPageCommit_now hs).trans ?_)
  rw [State.commit_refused (by simpa using he) hr]

theorem execPageCommit_notFound (h : Runs s 0x10 false false c) (hs : c.arg.getLsbD 32 = false) (he : s.store.page c.arg32 = none) :
    execPageCommit c s = .next ((s.begun 0x10 c).reply c 0x10 .notFound 0) := by
  refine command_reply s c h ((cmdPageCommit_now hs).trans ?_)
  have he' : (s.begun 0x10 c).store.page c.arg32 = none := by simpa using he
  simp only [State.commit, he']

/-! ### The page enters the queue -/

/-- What a queue entry says of the page and its commit. -/
def QEntry.committed (q : QEntry) : PageDesc × Nat × Option Nat := (q.desc, q.rate, q.commitLine)

theorem State.setQ_committed (i : PageId) {f : QEntry → QEntry} (hf : ∀ q, (f q).committed = q.committed) :
    (s.setQ i f).print.queue.map QEntry.committed = s.print.queue.map QEntry.committed := by
  simp only [State.setQ, List.map_map]
  refine List.map_congr_left (fun q _ => ?_)
  dsimp only [Function.comp]
  split
  · rw [hf]
  · rfl

theorem State.assignNext_committed : s.assignNext.print.queue.map QEntry.committed = s.print.queue.map QEntry.committed := by
  unfold State.assignNext State.assignBy
  split
  · rfl
  · split
    · rfl
    · dsimp only
      split
      · simp only [State.raiseF, State.raise_print, State.record_print]
        exact State.setQ_committed _ (fun _ => rfl)
      · simp only [State.record_print]
        exact State.setQ_committed _ (fun _ => rfl)

theorem State.fixStart_queue (n : Nat) : (s.fixStart n).print.queue = s.print.queue :=
  foldl_same (fun t : State => t.print.queue) _ (fun t i => by simp) _ _

/-- The entry of a page at its commit. -/
def State.entryOf (s : State) (d : PageDesc) : QEntry :=
  { desc := d, rate := (s.costCtx d).rate, commitLine := if s.print.started then some s.sluice.barLine else none, start := none
    bound := none, held := none, serial := none }

theorem State.enqueue_print (d : PageDesc) : (s.enqueue d).print = { s.print with queue := s.print.queue ++ [s.entryOf d] } := by
  unfold State.enqueue
  extract_lets rate s1 line s2 s3
  have h3 : s3.print = s.print := by
    simp only [s3, s2, s1, apply_ite State.print, State.drew_print, State.record_print, State.setPageState_print, State.raiseF,
      State.raise_print, ite_self]
  show ({ s3.print with queue := s3.print.queue ++ [s.entryOf d] } : PrintPart) = _
  rw [h3]

theorem State.enqueue_pages (d : PageDesc) : ∀ x ∈ (s.enqueue d).store.pages, x.desc.id = d.id → x.state = .committed := by
  unfold State.enqueue
  extract_lets rate s1 line s2 s3
  have h3 : s3.store = (s1.setPageState d.id .committed).store := by
    simp only [s3, s2, apply_ite State.store, State.drew_store, State.record_store, ite_self]
  dsimp only
  rw [h3]
  intro x hx hid
  simp only [State.setPageState, State.setPage, List.mem_map] at hx
  obtain ⟨y, -, rfl⟩ := hx
  by_cases hy : (y.desc.id == d.id) = true
  · rw [if_pos hy]
  · rw [if_neg hy] at hid
    exact (hy (by simpa using hid)).elim

/-- A commit that is made (R49, R59, R65): its state, and the result the queue gives it. -/
theorem State.commit_made {rs : List BurstRead} (he : s.store.page id = some e)
    (hr : s.commitRefused id e (s.readBursts (s.commitReads e rs)).2 = none) :
    ∃ s2 : State, (s2 = (s.readBursts (s.commitReads e rs)).1.enqueue e.desc ∨
        s2 = ((s.readBursts (s.commitReads e rs)).1.enqueue e.desc).assignNext) ∧
      (s.commit id rs).2 = s2.commitResult id ∧ (s.commit id rs).1.print.queue = s2.print.queue ∧ (s.commit id rs).1.store = s2.store := by
  simp only [State.commit, he, hr]
  refine ⟨_, ?_, rfl, ?_, ?_⟩
  · split
    · exact .inr rfl
    · exact .inl rfl
  · rw [State.evalGov_print]
    repeat' split
    all_goals simp [State.fixStart_queue]
  · rw [State.evalGov_store]
    repeat' split
    all_goals simp

/-! ### The result of a commit (R58, R59) -/

theorem State.commitResult_status : (s.commitResult id).1 = .ok ∨ (s.commitResult id).1 = .lateCommit := by
  unfold State.commitResult
  repeat' split
  all_goals simp

/-- Where no entry of the page has a start, the result is 0. -/
theorem State.commitResult_unstarted (h : ∀ q ∈ s.print.queue, q.desc.id = id → q.start = none) : s.commitResult id = (.ok, 0) := by
  unfold State.commitResult
  split
  · next q qs hq =>
    have hmem : q ∈ s.print.queue := by
      have hw : q ∈ s.print.waitingQ := by simp [hq]
      unfold PrintPart.waitingQ at hw
      split at hw
      · exact List.mem_of_mem_drop hw
      · exact hw
    split
    · rfl
    · next hid => rw [h q hmem (by simpa using hid)]
  · rfl

theorem State.assignNext_stopped (h : s.print.started = false) : s.assignNext = s := by
  unfold State.assignNext State.assignBy
  split
  · rfl
  · rw [if_pos (by simp [h])]

theorem State.assignNext_pages : s.assignNext.store = s.store := by simp

/-- PAGE_COMMIT of a page that passes its checks (R49): its result, and the page as the last of the queue. -/
theorem State.commit_queues {rs : List BurstRead} (he : s.store.page id = some e)
    (hr : s.commitRefused id e (s.readBursts (s.commitReads e rs)).2 = none) (hnew : ∀ q ∈ s.print.queue, q.desc.id ≠ id) :
    ((s.commit id rs).2.1 = .ok ∨ (s.commit id rs).2.1 = .lateCommit) ∧
    (s.print.started = false → (s.commit id rs).2 = (.ok, 0)) ∧
    (s.commit id rs).1.print.queue.map QEntry.committed = (s.print.queue ++ [s.entryOf e.desc]).map QEntry.committed ∧
    (∀ x ∈ (s.commit id rs).1.store.pages, x.desc.id = id → x.state = .committed) := by
  obtain ⟨s2, hs2, hres, hqueue, hstore⟩ := State.commit_made he hr
  have hid : e.desc.id = id := StorePart.page_id he
  let s1 := (s.readBursts (s.commitReads e rs)).1.enqueue e.desc
  have hentry : (s.readBursts (s.commitReads e rs)).1.entryOf e.desc = s.entryOf e.desc := by
    simp [State.entryOf, State.costCtx, State.readBursts_mapNext]
  have hs1 : s1.print = { s.print with queue := s.print.queue ++ [s.entryOf e.desc] } := by
    rw [State.enqueue_print, hentry, State.readBursts_print]
  have hcomm : s2.print.queue.map QEntry.committed = s1.print.queue.map QEntry.committed := by
    rcases hs2 with rfl | rfl
    · rfl
    · exact State.assignNext_committed
  have hpages : s2.store = s1.store := by
    rcases hs2 with rfl | rfl
    · rfl
    · exact State.assignNext_pages
  refine ⟨hres ▸ State.commitResult_status, fun hs => ?_, ?_, ?_⟩
  · have hs1s : s1.print.started = false := by rw [hs1]; exact hs
    have heq : s2 = s1 := by
      rcases hs2 with rfl | rfl
      · rfl
      · exact State.assignNext_stopped hs1s
    rw [hres, heq]
    refine State.commitResult_unstarted fun q hq hqid => ?_
    rw [hs1] at hq
    rcases List.mem_append.mp hq with hq | hq
    · exact (hnew q hq hqid).elim
    · rw [List.mem_singleton.mp hq]
      rfl
  · rw [hqueue, hcomm, hs1]
  · rw [hstore, hpages, ← hid]
    exact State.enqueue_pages _

/-- Descriptors, rates and the last commit line, read from what the entries say of their commits. -/
theorem committed_reads {l l' : List QEntry} {x : QEntry} (h : l.map QEntry.committed = (l' ++ [x]).map QEntry.committed) :
    l.map (fun q => (q.desc, q.rate)) = l'.map (fun q => (q.desc, q.rate)) ++ [(x.desc, x.rate)] ∧
    l.getLast?.bind (fun q => q.commitLine) = x.commitLine := by
  have hpair (m : List QEntry) : m.map (fun q => (q.desc, q.rate)) = (m.map QEntry.committed).map (fun p => (p.1, p.2.1)) := by
    simp [QEntry.committed]
  have hlast (m : List QEntry) : m.getLast?.bind (fun q => q.commitLine) = (m.map QEntry.committed).getLast?.bind (fun p => p.2.2) := by
    rw [List.getLast?_map, Option.bind_map]
    rfl
  refine ⟨?_, ?_⟩
  · rw [hpair, h, ← hpair, List.map_append]
    rfl
  · rw [hlast, h, ← hlast, List.getLast?_concat]
    rfl

/-- PAGE_COMMIT with SCHED waits for its armed trigger (R499). -/
theorem cmdPageCommit_waits (hs : c.arg.getLsbD 32 = true) (ha : s.time.triggers[(Fin.ofNat 8 (c.argBits 35 33) : CmpNo)].armed = true) :
    cmdPageCommit c s = ({ s with print := { s.print with sched := s.print.sched ++
      [⟨Fin.ofNat 8 (c.argBits 35 33), c.arg32, c.origin, c.tag⟩] } }, none) := by
  simp only [cmdPageCommit, hs, ha, if_true]

/-- Settles O15: the refusals by the order of the checks, and the page that passes by the queue it enters. -/
theorem pageCommitChecksAndQueues : Obligations.PageCommitChecksAndQueues := by
  unfold Obligations.PageCommitChecksAndQueues
  refine ⟨fun s c id e h hid => ⟨fun hs he hr hf hl hq hj hlost hnew => ?_, fun hs ha => ?_⟩, fun s c id h hid hs => ⟨fun he => ?_, fun e he => ?_⟩⟩
  · rw [← Cmd.arg32_eq] at hid
    subst hid
    have hpass : (s.begun 0x10 c).commitRefused c.arg32 e
        ((s.begun 0x10 c).readBursts ((s.begun 0x10 c).commitReads e c.reads)).2 = none := by
      obtain ⟨-, -, -, hlate⟩ := State.commitRefused_order (s := s.begun 0x10 c) (id := c.arg32) (e := e)
        (lost := ((s.begun 0x10 c).readBursts ((s.begun 0x10 c).commitReads e c.reads)).2)
      exact (((hlate (by simpa using hf) hr (by simpa [State.begun_layerCount] using hl)).2 (by simpa using hq)).2
        ((State.begun_slotShort ..).trans hj)).2 hlost
    obtain ⟨hst, hstop, hqueue, hpages⟩ := State.commit_queues (s := s.begun 0x10 c) (by simpa using he) hpass (by simpa using hnew)
    obtain ⟨hpairs, hlast⟩ := committed_reads hqueue
    refine ⟨_, _, _, command_reply s c h (cmdPageCommit_now hs), hst, fun hn => ?_, ?_, ?_, hpages⟩
    · have := hstop (by simpa using hn)
      exact ⟨congrArg Prod.fst this, congrArg Prod.snd this⟩
    · rw [hpairs]
      simp [State.entryOf, State.costCtx, State.mapNext]
    · rw [hlast]
      simp [State.entryOf]
  · rw [← Cmd.arg32_eq] at hid
    subst hid
    refine ⟨_, command_waits s c h (cmdPageCommit_waits hs (by simpa using ha)), ?_, ?_⟩
    · simp
    · simp
  · rw [← Cmd.arg32_eq] at hid
    subst hid
    exact execPageCommit_notFound h hs he
  · rw [← Cmd.arg32_eq] at hid
    subst hid
    have hx {st : Code} {n : Nat} (hne : st ≠ .dramError) (hr : (s.begun 0x10 c).commitRefused c.arg32 e
        ((s.begun 0x10 c).readBursts ((s.begun 0x10 c).commitReads e c.reads)).2 = some (st, n)) :
        execPageCommit c s = .next ((s.begun 0x10 c).reply c 0x10 st (low40 n)) := by
      have h := execPageCommit_refused h hs he hr
      rwa [if_neg hne] at h
    obtain ⟨hfb, hready, hlayers, hlate⟩ := State.commitRefused_order (s := s.begun 0x10 c) (id := c.arg32) (e := e)
      (lost := ((s.begun 0x10 c).readBursts ((s.begun 0x10 c).commitReads e c.reads)).2)
    simp only [State.begun_print, State.begun_layerCount, State.begun_slotShort] at hfb hready hlayers hlate
    refine ⟨fun f hf => hx (by decide) (hfb ⟨f, hf⟩), fun hf hr => hx (by decide) (hready hf hr),
      fun hf hr hk => hx (by decide) (hlayers hf hr hk), fun hf hr hl hq => hx (by decide) ((hlate hf hr hl).1 hq),
      fun hf hr hl hq => ⟨fun hj => hx (by decide) (((hlate hf hr hl).2 hq).1 hj), fun hj b bs hlost => ?_⟩⟩
    have hdram := execPageCommit_refused h hs he ((((hlate hf hr hl).2 hq).2 hj).1 b bs hlost)
    rwa [if_pos rfl] at hdram

end Sys2Proof.Machine
end

section
/-!
SUPPORT. The commands of the page store: PARCEL_TIMEOUT, STORE_INFO, LAYER_DELETE, GENERATOR_DEFINE and GENERATOR_DELETE (R82, R96, R158, R545).
-/

namespace Sys2Proof.Machine

variable {s : State} {c : Cmd}

/-- What the judgement of pages leaves of the page store: everything but the page table (R99). -/
theorem State.evalPages_keeps {α : Type} (π : State → α) (hp : ∀ (t : State) i st, π (t.setPageState i st) = π t)
    (hb : ∀ (t : State) b, π { t with host := { t.host with batch := b } } = π t) : π s.evalPages = π s := by
  unfold State.evalPages
  refine foldl_same π _ (fun t e => ?_) _ _
  unfold State.evalPage
  repeat' split
  all_goals simp only [State.raiseF, State.raise_keeps _ π hb, hp]

@[simp] theorem State.evalPages_layers : s.evalPages.store.layers = s.store.layers :=
  State.evalPages_keeps (fun t => t.store.layers) (fun _ _ _ => rfl) (fun _ _ => rfl)

@[simp] theorem State.evalPages_generators : s.evalPages.store.generators = s.store.generators :=
  State.evalPages_keeps (fun t => t.store.generators) (fun _ _ _ => rfl) (fun _ _ => rfl)

theorem low40_setWidth {n : Nat} (x : BitVec n) : low40 x.toNat = x.setWidth 40 := by
  apply BitVec.eq_of_toNat_eq
  simp [low40]

theorem State.begun_layerUsed (op : Byte) (id : LayerId) : (s.begun op c).layerUsed id = s.layerUsed id := by
  simp [State.layerUsed, State.queuedDescs]

/-- A layer that nothing in use refers to is freed (R82). -/
theorem cmdLayerDelete_frees {l : Layer} (hl : findLayer s.store.layers c.arg32 = some l) (hu : s.layerUsed c.arg32 = false) :
    ∃ u : State, cmdLayerDelete c s = (u, okResp) ∧ u.store.layers = s.store.layers.filter (fun l => l.desc.id != c.arg32) ∧
      u.print = s.print := by
  refine ⟨(s.freeLayer c.arg32).record 12 (word [c.arg32.toNat]) 0, by simp [cmdLayerDelete, hl, hu], ?_, by simp⟩
  rw [State.record_store, State.freeLayer, State.evalPages_layers]

theorem cmdLayerDelete_inUse {l : Layer} (hl : findLayer s.store.layers c.arg32 = some l) (hu : s.layerUsed c.arg32 = true) :
    cmdLayerDelete c s = (s, some (.layerInUse, c.arg32.setWidth 40)) := by
  simp [cmdLayerDelete, hl, hu, resp, low40_setWidth]

/-- A sound generator takes the place of one with its identifier (R158). -/
theorem cmdGeneratorDefine_defines (hr : s.generatorReason c.docket = none) (hu : s.generatorUsed (parseGenerator c.docket).id = false) :
    ∃ u : State, cmdGeneratorDefine c s = (u, some (.ok, (parseGenerator c.docket).id.setWidth 40)) ∧
      u.store.generators = s.store.generators.filter (fun g => g.id != (parseGenerator c.docket).id) ++ [parseGenerator c.docket] ∧
      u.store.layers = s.store.layers ∧ u.print = s.print := by
  unfold cmdGeneratorDefine
  generalize parseGenerator c.docket = g at hu ⊢
  simp only [hr, hu, Bool.false_eq_true, if_false, resp, low40_setWidth]
  refine ⟨_, rfl, ?_, ?_, ?_⟩
  · rw [State.evalPages_generators]
  · rw [State.evalPages_layers]
    rfl
  · rw [State.evalPages_print]
    rfl

theorem cmdGeneratorDelete_removes {g : Generator} (hg : g ∈ s.store.generators) (hid : g.id = c.arg32)
    (hu : s.generatorUsed c.arg32 = false) : ∃ u : State, cmdGeneratorDelete c s = (u, okResp) ∧
      u.store.generators = s.store.generators.filter (fun g => g.id != c.arg32) ∧ u.store.layers = s.store.layers ∧ u.print = s.print := by
  have hany : s.store.generators.any (fun h => h.id == c.arg32) = true := List.any_eq_true.mpr ⟨g, hg, by simp [hid]⟩
  simp only [cmdGeneratorDelete, hany, hu, Bool.not_true, Bool.false_eq_true, if_false]
  exact ⟨_, rfl, by simp, by simp, by simp⟩

/-- Settles O20: each command by its branches. -/
theorem parcelStoreCommandsAnswer : Obligations.ParcelStoreCommandsAnswer := by
  unfold Obligations.ParcelStoreCommandsAnswer
  simp only [← Cmd.arg32_eq]
  refine ⟨fun s c => ⟨fun h h1 h2 => ?_, fun h hb => ?_, fun h => ?_⟩, fun s c id hid => ?_⟩
  · refine command_replyAtStart rfl h ?_
    have ht : c.argBits 15 0 = (c.arg.extractLsb' 0 16).toNat := Cmd.argBits_extract 15 16 rfl
    rw [cmdParcelTimeout, ht, if_neg (by omega)]
    simp [resp]
  · refine command_replyAtStart rfl h ?_
    have ht : c.argBits 15 0 = (c.arg.extractLsb' 0 16).toNat := Cmd.argBits_extract 15 16 rfl
    rw [cmdParcelTimeout, ht, if_pos hb]
    rfl
  · refine command_replyAtStart rfl h ?_
    simp [cmdStoreInfo, State.unitsFree, resp, low40, pack40, Nat.add_assoc]
  · subst hid
    refine ⟨fun l h hl hu => ?_, fun l h hl hu => ?_, fun h hr hu => ?_, fun g hg h hid hu => ?_⟩
    · obtain ⟨u, hx, hlayers, hprint⟩ := cmdLayerDelete_frees (s := s.begun 0x31 c) (c := c) (l := l) (by simpa using hl)
        ((State.begun_layerUsed ..).trans hu)
      exact ⟨u, command_reply s c h hx, by simpa using hlayers, by simpa using hprint⟩
    · exact command_reply s c h (cmdLayerDelete_inUse (l := l) (by simpa using hl) ((State.begun_layerUsed ..).trans hu))
    · obtain ⟨u, hx, hgens, hlayers, hprint⟩ := cmdGeneratorDefine_defines (s := s.begun 0x35 c) (c := c)
        (by simpa [State.generatorReason] using hr) (by simpa [State.generatorUsed, State.queuedDescs, State.usesGenerator] using hu)
      exact ⟨u, command_reply s c h hx, by simpa using hgens, by simpa using hlayers, by simpa using hprint⟩
    · obtain ⟨u, hx, hgens, hlayers, hprint⟩ := cmdGeneratorDelete_removes (s := s.begun 0x36 c) (c := c) (g := g) (by simpa using hg)
        hid (by simpa [State.generatorUsed, State.queuedDescs, State.usesGenerator] using hu)
      exact ⟨u, command_reply s c h hx, by simpa using hgens, by simpa using hlayers, by simpa using hprint⟩

end Sys2Proof.Machine
end

section
/-!
SUPPORT. Loads that wait for a slot and the slot that starts one (R79, R82, R210, R450, R515).
-/

namespace Sys2Proof.Machine

variable {s t : State} {c : Cmd}

/-! ### Requests held back (R210, R515) -/

/-- A load's flight after the headrace has asked, where it may. -/
def State.askedBy (s : State) (f : Flight) : Flight := if s.mayAsk f.req then { f with asked := true } else f

/-- What asking for one held load makes of the state, as State.askHeld does it slot by slot. -/
def State.askSlot (s : State) (k : SlotNo) : State :=
  match s.store.flights[k] with
  | some f =>
    if f.asked || !s.mayAsk f.req then s
    else if f.header.isNone then s.askHeader k f
    else { s with store := { s.store with flights := s.store.flights.set k (some { f with asked := true }) } }
  | none => s

theorem State.askHeld_slots (s : State) : s.askHeld = (List.finRange 8).foldl State.askSlot s := rfl

@[simp] theorem State.askedBy_req (f : Flight) : (s.askedBy f).req = f.req := by
  unfold State.askedBy
  split <;> rfl

theorem State.askHeader_store (k : SlotNo) (f : Flight) :
    (s.askHeader k f).store = { s.store with flights := s.store.flights.set k (some { f with asked := true }) } := by
  unfold State.askHeader
  dsimp only
  split <;> rfl

/-- Asking for one load changes its flight alone. -/
theorem State.askSlot_store (k : SlotNo) :
    (s.askSlot k).store = { s.store with flights := upd s.store.flights k (Option.map s.askedBy) } := by
  have hsame (h : s.store.flights[k].map s.askedBy = s.store.flights[k]) :
      s.store = { s.store with flights := upd s.store.flights k (Option.map s.askedBy) } := by
    rw [upd_self _ _ _ h]
  have hset {f : Flight} (h : s.store.flights[k] = some f) (hm : s.mayAsk f.req = true) :
      upd s.store.flights k (Option.map s.askedBy) = s.store.flights.set k (some { f with asked := true }) := by
    have hv : s.store.flights[k.val] = some f := h
    simp [upd, hv, State.askedBy, hm]
  unfold State.askSlot
  split
  · next f hf =>
    split
    · next ha =>
      refine hsame ?_
      rw [hf, Option.map_some, State.askedBy]
      rcases Bool.or_eq_true _ _ |>.mp ha with ha | ha
      · split
        · rw [← ha]
        · rfl
      · rw [if_neg (by simpa using ha)]
    · next ha =>
      have hm : s.mayAsk f.req = true := by simp_all
      split
      · rw [State.askHeader_store, hset hf hm]
      · rw [hset hf hm]
  · next hf => exact hsame (by rw [hf]; rfl)

theorem State.askSlot_mayAsk (k : SlotNo) (r : LoadReq) : (s.askSlot k).mayAsk r = s.mayAsk r := by
  have hk {α : Type} (π : State → α) (he : ∀ t e, π (State.emit t e) = π t)
      (hs : ∀ (t : State) x, π { t with store := x } = π t) : π (s.askSlot k) = π s := by
    unfold State.askSlot
    split
    · split
      · rfl
      · split
        · unfold State.askHeader
          dsimp only
          split
          · rw [he, hs]
          · rw [hs]
        · rw [hs]
    · rfl
  simp only [State.mayAsk, hk State.cist (fun _ _ => rfl) (fun _ _ => rfl), hk State.host (fun _ _ => rfl) (fun _ _ => rfl)]

theorem State.askSlot_askedBy (k : SlotNo) : (s.askSlot k).askedBy = s.askedBy := by
  funext f
  simp only [State.askedBy, State.askSlot_mayAsk]

/-- Asking for the loads of a list of slots. -/
theorem askSlots (l : List SlotNo) (hl : l.Nodup) (s : State) :
    (l.foldl State.askSlot s).store = { s.store with flights := (l.foldl State.askSlot s).store.flights } ∧
    ∀ j : SlotNo, (l.foldl State.askSlot s).store.flights[j] =
      if j ∈ l then s.store.flights[j].map s.askedBy else s.store.flights[j] := by
  induction l generalizing s with
  | nil => exact ⟨rfl, fun j => by simp⟩
  | cons k l ih =>
    obtain ⟨hk, hl⟩ := List.nodup_cons.mp hl
    obtain ⟨hstore, hflight⟩ := ih hl (s.askSlot k)
    rw [State.askSlot_store] at hstore
    refine ⟨hstore, fun j => (hflight j).trans ?_⟩
    rw [State.askSlot_askedBy, State.askSlot_store]
    by_cases hj : k = j
    · subst hj
      rw [if_neg hk, if_pos (List.mem_cons_self ..)]
      exact upd_same ..
    · have hu : (upd s.store.flights k (Option.map s.askedBy))[j.val] = s.store.flights[j.val] := upd_other _ _ _ _ hj
      simp [hu, Ne.symm hj]

/-- Once the headrace may ask again, every load it may ask for has been asked for, and nothing else of the page store moves. -/
theorem State.askHeld_store (s : State) :
    s.askHeld.store = { s.store with flights := s.store.flights.map (Option.map s.askedBy) } := by
  have h := askSlots (List.finRange 8) (List.nodup_finRange 8) s
  rw [State.askHeld_slots]
  generalize (List.finRange 8).foldl State.askSlot s = u at h ⊢
  obtain ⟨hstore, hflight⟩ := h
  have hv : u.store.flights = s.store.flights.map (Option.map s.askedBy) := by
    refine Vector.ext (fun j hj => ?_)
    rw [Vector.getElem_map]
    exact (hflight ⟨j, hj⟩).trans (if_pos (List.mem_finRange _))
  rw [hstore, hv]

/-- Nothing of a load but that it has been asked for is changed, so the next load and its slot stay. -/
theorem State.askHeld_freeSlotNo (s : State) : s.askHeld.store.freeSlotNo = s.store.freeSlotNo := by
  simp [StorePart.freeSlotNo, State.askHeld_store]

theorem State.askHeld_nextLoad (s : State) : s.askHeld.store.nextLoad = s.store.nextLoad := by
  have hsrc : (fun f : Option Flight => f.map (fun f => f.req.src)) ∘ Option.map s.askedBy = fun f => f.map (fun f => f.req.src) := by
    funext f
    cases f <;> simp
  have hstart (r : LoadReq) : s.askHeld.store.mayStart r = s.store.mayStart r := by
    simp only [StorePart.mayStart, State.askHeld_store, Vector.toList_map, List.filterMap_map, hsrc]
  have hw : s.askHeld.store.waiting = s.store.waiting := by rw [State.askHeld_store]
  simp only [StorePart.nextLoad, hstart, hw]

/-- Where every load has been asked for, nothing is held back. -/
theorem State.askHeld_asked (h : ∀ (j : SlotNo) f, s.store.flights[j] = some f → f.asked = true) : s.askHeld = s := by
  rw [State.askHeld_slots]
  refine foldl_keeps (fun t => t = s) _ (fun t k ht => ?_) _ _ rfl
  subst ht
  unfold State.askSlot
  split
  · next f hf => rw [if_pos (by simp [h k f hf])]
  · rfl

theorem State.askHeld_mayAsk (s : State) (r : LoadReq) : s.askHeld.mayAsk r = s.mayAsk r := by
  simp [State.mayAsk]

/-! ### A slot starts a load (R79) -/

theorem State.startLoad_store (k : SlotNo) (r : LoadReq) : ∃ f : Flight, f.req = r ∧ f.header = none ∧ f.verified = false ∧
    f.asked = s.mayAsk r ∧
    (s.startLoad k r).store = { s.store with waiting := s.store.waiting.erase r, flights := s.store.flights.set k (some f) } := by
  unfold State.startLoad
  dsimp only
  cases hm : s.mayAsk r with
  | true =>
    refine ⟨{ req := r, header := none, key := 0, salt := 0, got := [], alloc := 0, verified := false, asked := true }, rfl, rfl, rfl, rfl, ?_⟩
    rw [if_pos rfl, State.askHeader_store]
    simp
  | false => exact ⟨_, rfl, rfl, rfl, rfl, rfl⟩

/-- The header's request leaves where the headrace may ask for a host's parcel, and nothing else leaves. -/
theorem State.startLoad_sent (k : SlotNo) (r : LoadReq) : (s.startLoad k r).sent =
    if r.xfer = none ∧ s.mayAsk r = true then .parcelRead k.val :: s.sent else s.sent := by
  unfold State.startLoad
  dsimp only
  cases hm : s.mayAsk r with
  | true =>
    rw [if_pos rfl, State.askHeader]
    cases hx : r.xfer <;> simp [State.emit]
  | false => simp

/-! ### The commands that wait for a slot -/

/-- The load of PARCEL_LOAD, with the bytes of its scatter list (R77, R545). -/
def parcelLoad (c : Cmd) : LoadReq :=
  { src := loadSource c.origin, origin := c.origin, tag := c.tag, opcode := 0x30
    total := ((List.range (bits (c.dw 0) 6 0)).map (fun i => (c.dw (5 + 2 * i)).toNat)).sum
    bufAddr := c.dw 1, bufLen := bits (c.dw 2) 31 0, xfer := none }

/-- PARCEL_LOAD with a sound docket waits. -/
theorem cmdParcelLoad_waits (hb : s.host.busMaster = true) (hd : loadDocketBad c = false) :
    cmdParcelLoad c s = ({ s with store := { s.store with waiting := s.store.waiting ++ [parcelLoad c] } }, none) := by
  simp only [cmdParcelLoad, hb, hd, Bool.not_true, Bool.false_eq_true, if_false, parcelLoad]

/-- BULK_OFFER of a peer waits with the bytes of its transfer (R453). -/
theorem cmdBulkOffer_waits {n : NodeNo} {e : BitVec 32} (ho : c.origin = .peer n e) : ∃ (u : State) (r : LoadReq) (b : BulkIn),
    cmdBulkOffer c s = (u, none) ∧ u.store.waiting = s.store.waiting ++ [r] ∧
      r.xfer = some ((c.arg.extractLsb' 0 24).setWidth 32) ∧ r.total = 8 * (c.arg.extractLsb' 24 24).toNat ∧
      (r.src = .partner ∨ r.src = .peer n) ∧ b ∈ u.fab.bulkIn ∧ b.src = n ∧ b.xfer = (c.arg.extractLsb' 0 24).setWidth 32 ∧
      b.parts = [] ∧ b.total = (c.arg.extractLsb' 24 24).toNat := by
  have hxfer : BitVec.ofNat 32 (c.argBits 23 0) = (c.arg.extractLsb' 0 24).setWidth 32 := by
    rw [Cmd.argBits_extract 23 24 rfl]
    apply BitVec.eq_of_toNat_eq
    simp
  have htotal : c.argBits 47 24 = (c.arg.extractLsb' 24 24).toNat := by simp [Cmd.argBits, Nat.shiftRight_eq_div_pow]
  unfold cmdBulkOffer
  simp only [ho, hxfer, htotal]
  refine ⟨_, _, _, rfl, rfl, rfl, rfl, ?_, List.mem_append_right _ (List.mem_singleton_self _), rfl, rfl, rfl, rfl⟩
  split
  · exact .inl rfl
  · exact .inr rfl

/-- Settles O19: both commands by the load that waits, and the slot by what it starts and what it asks for. -/
theorem loadsWaitAndGetSlots : Obligations.LoadsWaitAndGetSlots := by
  unfold Obligations.LoadsWaitAndGetSlots
  refine ⟨⟨fun s c h hb hd => ?_, fun s c n e h ho => ?_⟩, fun s k r hq hk hr hp => ?_⟩
  · have hx := cmdParcelLoad_waits (s := s.start c) (c := c) (by simpa using hb) hd
    rw [State.start_store] at hx
    refine ⟨parcelLoad c, command_waits s c h (by rw [s.begun_other c rfl]; exact hx), rfl, rfl, rfl, rfl, rfl, rfl, rfl, fun n e ho => ?_⟩
    rw [parcelLoad, ho]
    rfl
  · obtain ⟨u, r, b, hx, hpost⟩ := cmdBulkOffer_waits (s := s.start c) ho
    rw [State.start_store] at hpost
    exact ⟨u, r, b, command_waits s c h (by rw [s.begun_other c rfl]; exact hx), hpost⟩
  · have hpow : (s.sys.power == Power.dormant) = false := by simpa using hp
    have hx : execParcelSlotStart s = .next (s.askHeld.startLoad k r) := by
      rw [execParcelSlotStart, hpow]
      simp only [Bool.false_eq_true, if_false, State.askHeld_freeSlotNo, State.askHeld_nextLoad, hk, hr]
      refine State.done_quiet _ ?_
      rw [State.quiet, State.startLoad_host, State.askHeld_host]
      exact hq
    obtain ⟨f, hreq, hhead, hver, hask, hstore⟩ := State.startLoad_store (s := s.askHeld) k r
    rw [State.askHeld_mayAsk] at hask
    rw [State.askHeld_store] at hstore
    refine ⟨_, hx, ⟨f, ?_, hreq, hhead, hver, hask⟩, fun j hj => ?_, ?_, fun hxf hl hd => ?_, fun hall hno => ?_⟩
    · rw [hstore]
      simp
    · rw [hstore]
      have hne : ¬ k.val = j.val := fun h => hj (Fin.ext h.symm)
      simp only [Fin.getElem_fin, Vector.getElem_set, if_neg hne, Vector.getElem_map]
      rfl
    · rw [hstore]
    · have hm : s.mayAsk r = true := by simp [State.mayAsk, hl, hd]
      rw [State.startLoad_sent, if_pos ⟨hxf, (s.askHeld_mayAsk r).trans hm⟩]
      rfl
    · rw [State.startLoad_sent, State.askHeld_asked hall, if_neg]
      rintro ⟨hxf, hm⟩
      rcases hno with h | h | h
      · exact h hxf
      · simp [State.mayAsk, hxf, h] at hm
      · simp [State.mayAsk, hxf, h] at hm

end Sys2Proof.Machine
end

section
/-!
SUPPORT. The two passes of a settings command (R541), and what follows PAIR_CONFIG and TIME_CONFIG (R461, R463, R500).
-/

namespace Sys2Proof.Machine

variable {s : State} {c : Cmd} {T : Settings} {es : List Entry}

/-! ### The passes of R541 -/

/-- The first entry for which a judgement says something gives the answer. -/
theorem findSome_first {α β : Type} {f : α → Option β} {before after : List α} {a : α} (h : ∀ x ∈ before, f x = none) {b : β}
    (ha : f a = some b) : (before ++ a :: after).findSome? f = some b := by
  rw [List.findSome?_append, List.findSome?_eq_none_iff.mpr h, List.findSome?_cons, ha]
  rfl

/-- A settings docket whose entries pass takes effect entry by entry. -/
theorem runSettings_passes (h : Passes T s c es) : runSettings T c s = (es.foldl T.apply s, okResp) := by
  have hafter : T.after s es = es.foldl T.apply s := by
    rw [Settings.after, List.filter_eq_self.mpr (fun e he => by rw [h.valid e he]; rfl)]
  have hfault : firstFault (T.fault s es) es = none :=
    List.findSome?_eq_none_iff.mpr (fun e he => by simp [Settings.fault, h.valid e he, hafter, h.whole e he])
  have hbusy : es.findSome? (T.busy s) = none := List.findSome?_eq_none_iff.mpr h.free
  simp only [runSettings, h.parsed, hfault, hbusy]

theorem runSettings_unparsed (h : parseEntries T.isTable c = none) : runSettings T c s = (s, some (T.bad, low40 T.range)) := by
  simp only [runSettings, h, resp]

variable {before after : List Entry} {e : Entry}

/-- The first entry that fails the first pass names its reason and its row, and nothing changes. -/
theorem runSettings_fault (hp : parseEntries T.isTable c = some es) (hes : es = before ++ e :: after)
    (hbefore : ∀ x ∈ before, T.check s x = none ∧ T.whole (T.after s es) x = none) {reason : Nat}
    (he : T.check s e = some reason ∨ (T.check s e = none ∧ T.whole (T.after s es) e = some reason)) :
    runSettings T c s = (s, some (T.bad, low40 (reason + 256 * e.row))) := by
  have hfirst : firstFault (T.fault s es) es = some (reason, e.row) := by
    rw [firstFault, hes]
    refine findSome_first (fun x hx => ?_) ?_
    · obtain ⟨h1, h2⟩ := hbefore x hx
      rw [hes] at h2
      simp [Settings.fault, h1, h2]
    · rw [hes] at he
      rcases he with h1 | ⟨h1, h2⟩
      · simp [Settings.fault, h1]
      · simp [Settings.fault, h1, h2]
  simp only [runSettings, hp, hfirst, resp]

/-- Of a good docket, the first entry that may not act now gives its busy status, and nothing changes. -/
theorem runSettings_busy (hp : parseEntries T.isTable c = some es) (hes : es = before ++ e :: after)
    (hgood : ∀ x ∈ es, T.check s x = none ∧ T.whole (T.after s es) x = none) (hbefore : ∀ x ∈ before, T.busy s x = none)
    {st : Code} {r : BitVec 40} (he : T.busy s e = some (st, r)) : runSettings T c s = (s, some (st, r)) := by
  have hnone : firstFault (T.fault s es) es = none := List.findSome?_eq_none_iff.mpr (fun x hx => by
    obtain ⟨h1, h2⟩ := hgood x hx
    simp [Settings.fault, h1, h2])
  have hbusy : es.findSome? (T.busy s) = some (st, r) := by
    rw [hes]
    exact findSome_first hbefore he
  simp only [runSettings, hp, hnone, hbusy]

/-! ### The commands of the pair and of time -/

/-- What PAIR_CONFIG sets of a unit's role (R489). -/
def PairPart.role (q : PairPart) : Bool × Bool × NodeNo × Rider × Nat := (q.paired, q.unitB, q.partner, q.rider, q.timeoutPs)

theorem State.beat_role : s.beat.pair.role = s.pair.role :=
  s.beat_keeps (fun t => t.pair.role) (fun _ _ => rfl) (fun t kind dest ws => congrArg PairPart.role (t.sendTagged_pair kind dest ws))

/-- What follows PAIR_CONFIG leaves the role that was set (R461, R463). -/
theorem State.roleSet_role (old : PairPart) : (s.roleSet old).pair.role = s.pair.role := by
  unfold State.roleSet
  extract_lets q hp s1 t p s2
  have h1 : s1.pair.role = s.pair.role := by
    simp only [s1]
    split
    · rw [State.announce_pair]
      rfl
    · split <;> rfl
  have h2 : s2.pair.role = s1.pair.role := by
    simp only [s2]
    split
    · show t.pair.role = _
      simp only [t]
      rw [State.announce_pair]
      rfl
    · rfl
  split
  · rw [State.beat_role, h2, h1]
  · rw [h2, h1]

/-- A device that becomes the master keeps what TIME_CONFIG set (R500). -/
theorem State.masterCheck_settings : s.masterCheck.time.master = s.time.master ∧ s.masterCheck.time.stepLimit = s.time.stepLimit ∧
    s.masterCheck.time.ppsWidth = s.time.ppsWidth := by
  unfold State.masterCheck
  repeat' split
  all_goals simp [State.raiseF]

/-- A command of R541 answers for the pair as its settings table does, where it refuses. -/
theorem cmdPairConfig_refuses {r : Code × BitVec 40} (h : runSettings pairTable c s = (s, some r)) (hr : r.1 ≠ .ok) :
    cmdPairConfig c s = (s, some r) := by
  have hne : ¬ some r = okResp := fun h => hr (by rw [Option.some.inj h])
  simp only [cmdPairConfig, h, if_neg hne]

theorem cmdTimeConfig_refuses {r : Code × BitVec 40} (h : runSettings timeTable c s = (s, some r)) (hr : r.1 ≠ .ok) :
    cmdTimeConfig c s = (s, some r) := by
  have hne : ¬ some r = okResp := fun h => hr (by rw [Option.some.inj h])
  simp only [cmdTimeConfig, h, if_neg hne]

theorem cmdPairConfig_passes (h : Passes pairTable s c es) :
    cmdPairConfig c s = ((es.foldl pairTable.apply s).roleSet s.pair, okResp) := by
  simp only [cmdPairConfig, runSettings_passes h, if_true]

theorem cmdTimeConfig_passes (h : Passes timeTable s c es) : cmdTimeConfig c s = ((es.foldl timeTable.apply s).masterCheck, okResp) := by
  simp only [cmdTimeConfig, runSettings_passes h, if_true]

/-- A settings command that refuses: its answer is that of its table, and it has no other effect. -/
theorem settings_refuse : ∀ k ∈ [((0x40 : Byte), cameraTable, Instr.cameraConfig), (0x48, healthTable, .healthConfig), (0x50, axisTable, .axisConfig),
       (0x60, encoderTable, .encoderConfig), (0x61, sluiceTable, .sluiceConfig), (0x62, triggerTable, .triggerConfig),
       (0x63, governorTable, .governorConfig), (0x70, fabricTable, .fabricConfig), (0x80, pairTable, .pairConfig),
       (0x81, riderTable, .riderConfig), (0x90, timeTable, .timeConfig)], k.2.1.bad ≠ .ok ∧ ∀ (s : State) (c : Cmd) (r : Code × BitVec 40),
    Runs s k.1 true false c → runSettings k.2.1 c (s.start c) = (s.start c, some r) → r.1 ≠ .ok →
    exec (k.2.2 c) s = .next ((s.start c).reply c k.1 r.1 r.2) := by
  simp only [List.forall_mem_cons, List.not_mem_nil, false_imp_iff, implies_true, and_true]
  refine ⟨⟨by decide, ?_⟩, ⟨by decide, ?_⟩, ⟨by decide, ?_⟩, ⟨by decide, ?_⟩, ⟨by decide, ?_⟩, ⟨by decide, ?_⟩, ⟨by decide, ?_⟩,
    ⟨by decide, ?_⟩, ⟨by decide, fun s c r h hr hne => command_replyAtStart rfl h (cmdPairConfig_refuses hr hne)⟩, ⟨by decide, ?_⟩,
    ⟨by decide, fun s c r h hr hne => command_replyAtStart rfl h (cmdTimeConfig_refuses hr hne)⟩⟩
  all_goals exact fun s c r h hr _ => command_replyAtStart rfl h hr

/-- Settles O23: the two passes on each table, and what the pair's and time's commands do after them. -/
theorem settingsPassBothPassesOrNothing : Obligations.SettingsPassBothPassesOrNothing := by
  unfold Obligations.SettingsPassBothPassesOrNothing
  refine ⟨fun s c es => ?_, fun s c k hk h => ?_⟩
  · have hpass {op : Byte} {T : Settings} (hg : (needsGated op || readsObjects op) = false) (h : Runs s op true false c)
        (hp : Passes T (s.start c) c es) : (runCommand op true false (runSettings T) c s).done =
          .next ((es.foldl T.apply (s.start c)).reply c op .ok 0) := command_replyAtStart hg h (runSettings_passes hp)
    refine ⟨hpass rfl, hpass rfl, hpass rfl, hpass rfl, hpass rfl, hpass rfl, hpass rfl, hpass rfl, hpass rfl, fun h hp => ?_, fun h hp => ?_⟩
    · have hrole := State.roleSet_role (s := es.foldl pairTable.apply (s.start c)) (s.start c).pair
      simp only [PairPart.role, Prod.mk.injEq] at hrole
      exact ⟨_, command_replyAtStart rfl h (cmdPairConfig_passes hp), hrole⟩
    · exact ⟨_, command_replyAtStart rfl h (cmdTimeConfig_passes hp), State.masterCheck_settings⟩
  · obtain ⟨hbad, hno⟩ := settings_refuse k hk
    refine ⟨fun hp => hno s c (k.2.1.bad, low40 k.2.1.range) h (runSettings_unparsed hp) hbad, fun es before after e hp hes => ⟨fun hb reason he => ?_, fun hg hb st r he hne => ?_⟩⟩
    · exact hno s c (k.2.1.bad, low40 (reason + 256 * e.row)) h (runSettings_fault hp hes hb he) hbad
    · exact hno s c (st, r) h (runSettings_busy hp hes hg hb he) hne

end Sys2Proof.Machine
end

section
/-!
SUPPORT. A parcel's way through the steps of R80: its header, its words, its tag, and how it is discarded whole.
-/

namespace Sys2Proof.Machine

variable {s : State} {k : SlotNo} {f : Flight} {h : List Word}

/-! ### Discarding a parcel (R80, R81) -/

/-- An answer leaves the page store as it is, but for DOCKET parcels that wait for it (R544). -/
theorem State.respond_store (s : State) (o : Origin) (op : Byte) (tag : BitVec 5) (st : Code) (r : BitVec 40) :
    ∃ d, (s.respond o op tag st r).store = { s.store with docketRuns := d } := by
  have hkeep : (s.flush).store = s.store := by simp
  unfold State.respond
  dsimp only
  cases o with
  | host n e =>
    dsimp only
    split
    · exact ⟨s.store.docketRuns, by simp⟩
    · exact ⟨_, hkeep⟩
  | peer n e =>
    dsimp only
    repeat' split
    · exact ⟨s.store.docketRuns, by simp⟩
    · exact ⟨_, hkeep⟩
    · exact ⟨_, hkeep⟩
  | parcel a => exact ⟨_, by rw [hkeep]⟩

theorem State.loadFails_store (s : State) (r : LoadReq) (id : Nat) (c : Code) (extra : Nat) (reason : Option Nat) :
    ∃ d, (s.loadFails r id c extra reason).store = { s.store with docketRuns := d } := by
  unfold State.loadFails State.loadAnswer
  dsimp only
  split
  · exact s.respond_store ..
  · obtain ⟨d, hd⟩ := (s.raise c (low40 (id + fld 32 4 r.src.code + fld 36 4 extra))).respond_store r.origin r.opcode r.tag c _
    exact ⟨d, hd.trans (by rw [State.raise_store])⟩

theorem State.freeSlot_store (s : State) (k : SlotNo) : (s.freeSlot k).store = { s.store with flights := s.store.flights.set k none } := by
  unfold State.freeSlot
  dsimp only
  split
  · rw [State.endTransfer_store]
  · rfl

/-- A parcel discarded frees its slot, and nothing else of the page store moves but DOCKET parcels that wait (R80). -/
theorem State.discardFlight_store (s : State) (k : SlotNo) (f : Flight) (c : Code) (extra : Nat) :
    ∃ d, (s.discardFlight k f c extra).store = { s.store with flights := s.store.flights.set k none, docketRuns := d } := by
  unfold State.discardFlight
  dsimp only
  obtain ⟨d, hd⟩ := ((s.flightId f).1.freeSlot k).loadFails_store f.req (s.flightId f).2 c extra none
  refine ⟨d, hd.trans ?_⟩
  rw [State.freeSlot_store, State.flightId_store]

/-- What a step leaves of a parcel discarded in it, where no SESSION_OPEN waits. -/
theorem State.discardFlight_end (hw : s.sec.openWaits = []) (c : Code) (extra : Nat) :
    ∃ t : State, (s.discardFlight k f c extra).serveOpens.done = .next t ∧ t.store.flights[k] = none ∧ t.store.layers = s.store.layers ∧
      t.store.pages = s.store.pages ∧ t.store.verified = s.store.verified := by
  rw [State.serveOpens_none (by rw [State.discardFlight_sec]; exact hw)]
  obtain ⟨d, hd⟩ := s.discardFlight_store k f c extra
  refine ⟨_, rfl, ?_⟩
  rw [State.settle_store, hd]
  exact ⟨by simp, rfl, rfl, rfl⟩

/-! ### The header (R80 steps 2 to 4) -/

/-- Where transfers put their data moves only what the fabric holds (R450). -/
theorem State.placeHeld_reads (s : State) :
    (∀ r h, s.placeHeld.loadRefused r h = s.loadRefused r h) ∧ (∀ r h, s.placeHeld.headerField r h = s.headerField r h) ∧
    (∀ r h, s.placeHeld.highestSeq r h = s.highestSeq r h) ∧ s.placeHeld.unitsFree = s.unitsFree ∧
    (∀ src n, s.placeHeld.parcelKey src n = s.parcelKey src n) ∧ (∀ r, s.placeHeld.mayAsk r = s.mayAsk r) := by
  refine ⟨fun r h => ?_, fun r h => ?_, fun r h => ?_, ?_, fun src n => ?_, fun r => ?_⟩
  · simp [State.loadRefused, State.noClaim]
  · simp [State.headerField, State.parcelKey]
  · simp [State.highestSeq]
  · simp [State.unitsFree]
  · simp [State.parcelKey]
  · simp [State.mayAsk]

/-- The header's step, where the slot waits for it and its words have arrived. -/
theorem execParcelHeaderArrival_takes (hf : s.store.flights[k] = some f) (hh : f.header = none) (ha : f.asked = true)
    (hl : h.length = 8) (harr : s.placeHeld.arrived f.req 0 h = true) :
    execParcelHeaderArrival k h s = (s.placeHeld.takeHeader k f h).serveOpens.done := by
  have hf' : s.placeHeld.store.flights[k] = some f := by rw [State.placeHeld_store]; exact hf
  unfold execParcelHeaderArrival
  simp only [hf', hh, hl, ha, harr]
  rfl

variable {n : Nat}

/-- A header with a field that fails discards the parcel. -/
theorem State.takeHeader_badField (hr : s.loadRefused f.req h = false) (hn : s.headerField f.req h = some n) :
    s.takeHeader k f h = s.discardFlight k { f with header := some h } .parcelHeaderBad n := by
  simp only [State.takeHeader, hr, hn, Bool.false_eq_true, if_false]

/-- A SEQUENCE not above the highest verified discards the parcel. -/
theorem State.takeHeader_replay (hr : s.loadRefused f.req h = false) (hn : s.headerField f.req h = none)
    (hs : seqCount h ≤ s.highestSeq f.req h) : s.takeHeader k f h = s.discardFlight k { f with header := some h } .parcelReplay 0 := by
  simp only [State.takeHeader, hr, hn, hs, Bool.false_eq_true, if_false, if_true]

/-- More units than are free discard the parcel. -/
theorem State.takeHeader_full (hr : s.loadRefused f.req h = false) (hn : s.headerField f.req h = none)
    (hs : s.highestSeq f.req h < seqCount h) (hu : s.unitsFree < parcelUnits h) :
    s.takeHeader k f h = s.discardFlight k { f with header := some h } .pageStoreFull 0 := by
  simp only [State.takeHeader, hr, hn, Nat.not_le.mpr hs, hu, Bool.false_eq_true, if_false, if_true]

/-- A header that passes is kept with its key and its place. -/
theorem State.takeHeader_kept {key : BitVec 256 × BitVec 32} (hr : s.loadRefused f.req h = false) (hn : s.headerField f.req h = none)
    (hs : s.highestSeq f.req h < seqCount h) (hu : parcelUnits h ≤ s.unitsFree)
    (hk : s.parcelKey f.req.src (bits (wordAt h 0) 23 16) = some key) : s.takeHeader k f h =
      { s with store := { s.store with flights := s.store.flights.set k (some { f with
        header := some h, key := key.1, salt := key.2, alloc := parcelUnits h, base := firstFit s.store.allocs (parcelUnits h)
        asked := s.mayAsk f.req }) } } := by
  simp only [State.takeHeader, hr, hn, Nat.not_le.mpr hs, Nat.not_lt.mpr hu, hk, Bool.false_eq_true, if_false]

/-! ### The words and the tag (R80 steps 5 to 9) -/

/-- Words of a parcel that have arrived are staged, and a staging that is lost discards it (R82, R587). -/
theorem execParcelCompletion_data {ws : List Word} (hf : s.store.flights[k] = some f) (hh : f.header = some h) (ha : f.asked = true)
    (hv : f.verified = false) (hl : f.got.length + ws.length ≤ bodyWords h)
    (harr : s.placeHeld.arrived f.req (8 + f.got.length) ws = true) :
    execParcelCompletion k (.data ws) s =
      let w := s.placeHeld.stage f h f.got.length ws.length
      if w.2 then (w.1.discardFlight k f .parcelDmaError 0).serveOpens.done
      else ({ w.1 with store := { w.1.store with flights := w.1.store.flights.set k (some { f with got := f.got ++ ws }) } }).done := by
  have hf' : s.placeHeld.store.flights[k] = some f := by rw [State.placeHeld_store]; exact hf
  unfold execParcelCompletion
  simp only [hf', hh, hv, ha, harr, Nat.not_lt.mpr hl]
  rfl

theorem execParcelCompletion_error (hf : s.store.flights[k] = some f) (ha : f.asked = true) (hv : f.verified = false)
    (hx : f.req.xfer = none) : execParcelCompletion k .error s = (s.placeHeld.discardFlight k f .parcelDmaError 0).serveOpens.done := by
  have hf' : s.placeHeld.store.flights[k] = some f := by rw [State.placeHeld_store]; exact hf
  unfold execParcelCompletion
  simp only [hf', hv, ha, hx]
  rfl

theorem execParcelTimerExpiry_discards (hf : s.store.flights[k] = some f) (hh : f.header = some h) (hv : f.verified = false)
    (hl : f.got.length < bodyWords h) (hlevel : s.cist.level ≠ 3) :
    execParcelTimerExpiry k s = (s.discardFlight k f .parcelTimeout 0).serveOpens.done := by
  have hlev : (s.cist.level == 3) = false := by simpa using hlevel
  have hgot : (f.got.length == bodyWords h) = false := by simpa using Nat.ne_of_lt hl
  unfold execParcelTimerExpiry
  simp only [hf, hv, hh, hlev, hgot]
  simp

theorem execParcelTimerExpiry_urgent (hq : s.quiet) (hlevel : s.cist.level = 3) : execParcelTimerExpiry k s = .next s := by
  unfold execParcelTimerExpiry
  split
  · rw [if_pos (by simp [hlevel])]
    exact s.done_quiet hq
  · exact s.done_quiet hq

theorem execParcelTagCheck_whole (hf : s.store.flights[k] = some f) (hh : f.header = some h) (hv : f.verified = false)
    (hl : f.got.length = bodyWords h) : execParcelTagCheck k s = (s.checkTag k f h).serveOpens.done := by
  unfold execParcelTagCheck
  simp only [hf, hh, hv, hl]
  simp

/-- Only the keys of sessions and of the pair move when a SEQUENCE is taken. -/
theorem State.advanceSeq_openWaits (r : LoadReq) (h : List Word) : (s.advanceSeq r h).sec.openWaits = s.sec.openWaits := by
  unfold State.advanceSeq
  split
  · split <;> rfl
  · rfl

/-- The decrypted payload of a parcel whose body is whole (R80 step 8). -/
def Flight.clear (f : Flight) (h : List Word) : List Word :=
  Config.gcmDecrypt f.key (gcmNonce f.salt (parcelSeq h)) (f.got.take (parcelLength h / 8))

/-- The tag of a parcel matches (R80 step 8). -/
def Flight.tagMatches (f : Flight) (h : List Word) : Prop :=
  Config.gcmTag f.key (gcmNonce f.salt (parcelSeq h)) h (f.got.take (parcelLength h / 8)) = trailerTag (f.got.drop (parcelLength h / 8))

theorem State.checkTag_mismatch (ht : ¬ f.tagMatches h) : s.checkTag k f h = s.discardFlight k f .parcelAuthFail 0 := if_pos ht

/-- A parcel whose content fails after its tag is discarded with the reason of its content (R80 step 9). -/
theorem State.checkTag_fault {c : Code} {reason : Option Nat} (ht : f.tagMatches h)
    (hc : (s.advanceSeq f.req h).contentFault f.req h (f.clear h) = some (c, reason)) :
    s.checkTag k f h = ((s.advanceSeq f.req h).freeSlot k).loadFails f.req (parcelId h) c 0 reason := by
  unfold Flight.tagMatches at ht
  unfold State.checkTag
  dsimp only
  rw [if_neg (not_not_intro ht)]
  unfold Flight.clear at hc
  simp only [hc]

/-- A parcel whose tag matches and whose content passes waits for publication. -/
theorem State.checkTag_verified (ht : f.tagMatches h) (hc : (s.advanceSeq f.req h).contentFault f.req h (f.clear h) = none) :
    s.checkTag k f h = { s.advanceSeq f.req h with store := { s.store with
      flights := s.store.flights.set k (some { f with verified := true, got := [] })
      verified := s.store.verified ++ [⟨k, f.req, h, f.clear h, (f.base, f.alloc)⟩] } } := by
  unfold Flight.tagMatches at ht
  unfold State.checkTag
  dsimp only
  rw [if_neg (not_not_intro ht)]
  unfold Flight.clear at hc ⊢
  simp only [hc, State.advanceSeq_store]

/-- What a step leaves of a parcel whose tag matches. -/
theorem State.checkTag_end (ht : f.tagMatches h) (hw : s.sec.openWaits = []) :
    ∃ t : State, (s.checkTag k f h).serveOpens.done = .next t ∧
      ((s.advanceSeq f.req h).contentFault f.req h (f.clear h) = none →
        t.store.flights[k] = some { f with verified := true, got := [] } ∧
        t.store.verified = s.store.verified ++ [⟨k, f.req, h, f.clear h, (f.base, f.alloc)⟩]) ∧
      (∀ p, (s.advanceSeq f.req h).contentFault f.req h (f.clear h) = some p →
        t.store.flights[k] = none ∧ t.store.verified = s.store.verified) := by
  cases hc : (s.advanceSeq f.req h).contentFault f.req h (f.clear h) with
  | none =>
    rw [State.checkTag_verified ht hc, State.serveOpens_none (by exact (State.advanceSeq_openWaits ..).trans hw)]
    refine ⟨_, rfl, fun _ => ?_, fun p hp => (Option.some_ne_none _ hp.symm).elim⟩
    rw [State.settle_store]
    exact ⟨by simp, rfl⟩
  | some p =>
    obtain ⟨c, reason⟩ := p
    rw [State.checkTag_fault ht hc,
      State.serveOpens_none (by rw [State.loadFails_sec, State.freeSlot_sec, State.advanceSeq_openWaits]; exact hw)]
    obtain ⟨d, hd⟩ := ((s.advanceSeq f.req h).freeSlot k).loadFails_store f.req (parcelId h) c 0 reason
    refine ⟨_, rfl, fun hn => (Option.some_ne_none _ hn).elim, fun p _ => ?_⟩
    rw [State.settle_store, hd, State.freeSlot_store, State.advanceSeq_store]
    exact ⟨by simp, rfl⟩

/-- Settles O21: the header, the words, the timer and the tag of a parcel, each by its branch of R80. -/
theorem parcelsAreKeptOrDiscardedWhole : Obligations.ParcelsAreKeptOrDiscardedWhole := by
  unfold Obligations.ParcelsAreKeptOrDiscardedWhole
  refine ⟨fun s k f h hq hw hf hh ha hl harr hr => ?_, fun s k f h hq hw hf hh ha hv => ?_⟩
  · obtain ⟨hrefused, hfield, hseq, hunits, hkey, hask⟩ := s.placeHeld_reads
    have hx : exec (.parcelHeaderArrival k h) s = _ := execParcelHeaderArrival_takes hf hh ha hl harr
    have hw' : s.placeHeld.sec.openWaits = [] := by rw [State.placeHeld_sec]; exact hw
    have hr' : s.placeHeld.loadRefused f.req h = false := (hrefused _ _).trans hr
    have hgone {c : Code} {extra : Nat} (htake : s.placeHeld.takeHeader k f h = s.placeHeld.discardFlight k { f with header := some h } c extra) :
        ∃ t : State, exec (.parcelHeaderArrival k h) s = .next t ∧ t.store.flights[k] = none := by
      obtain ⟨t, ht, hnone, -⟩ := State.discardFlight_end (k := k) (f := { f with header := some h }) hw' c extra
      rw [htake] at hx
      exact ⟨t, hx.trans ht, hnone⟩
    refine ⟨fun key hn hs hu hk => ?_, fun n hn => ?_, fun hn hs => ?_, fun hn hs hu => ?_⟩
    · rw [State.takeHeader_kept hr' ((hfield _ _).trans hn) ((hseq _ _).trans_lt hs) (hu.trans_eq hunits.symm) ((hkey _ _).trans hk),
        State.serveOpens_none (by exact hw')] at hx
      refine ⟨_, hx, ?_⟩
      rw [State.settle_store]
      simp [hask]
    · exact hgone (State.takeHeader_badField hr' ((hfield _ _).trans hn))
    · exact hgone (State.takeHeader_replay hr' ((hfield _ _).trans hn) (hs.trans_eq (hseq _ _).symm))
    · exact hgone (State.takeHeader_full hr' ((hfield _ _).trans hn) ((hseq _ _).trans_lt hs) (hunits.trans_lt hu))
  · have hgone {i : Instr} {u : State} {c : Code} {extra : Nat} (hx : exec i s = (u.discardFlight k f c extra).serveOpens.done)
        (hsec : u.sec = s.sec) (hstore : u.store = s.store) :
        ∃ t : State, exec i s = .next t ∧ t.store.flights[k] = none ∧ t.store.layers = s.store.layers ∧ t.store.pages = s.store.pages := by
      obtain ⟨t, ht, hnone, hlayers, hpages, -⟩ := State.discardFlight_end (s := u) (k := k) (f := f) (by rw [hsec]; exact hw) c extra
      exact ⟨t, hx.trans ht, hnone, by rw [hlayers, hstore], by rw [hpages, hstore]⟩
    refine ⟨fun ws hl harr => ?_, fun hx => ?_, fun hl hlev => ?_, fun hlev => ?_, fun hl ht => ?_, fun hl ht => ?_⟩
    · have hx : exec (.parcelCompletion k (.data ws)) s = _ := execParcelCompletion_data hf hh ha hv hl harr
      refine ⟨fun hkept => ?_, fun hlost => ?_⟩
      · dsimp only at hx
        rw [if_neg (by simp [hkept])] at hx
        refine ⟨_, hx, ?_⟩
        rw [State.settle_store, State.stage_store, State.placeHeld_store]
      · dsimp only at hx
        rw [if_pos hlost] at hx
        exact hgone hx (by rw [State.stage_sec, State.placeHeld_sec]) (by rw [State.stage_store, State.placeHeld_store])
    · exact hgone (execParcelCompletion_error hf ha hv hx) (by rw [State.placeHeld_sec]) (by rw [State.placeHeld_store])
    · exact hgone (execParcelTimerExpiry_discards hf hh hv hl hlev) rfl rfl
    · exact execParcelTimerExpiry_urgent hq hlev
    · have hx : exec (.parcelTagCheck k) s = _ := execParcelTagCheck_whole hf hh hv hl
      rw [State.checkTag_mismatch ht] at hx
      obtain ⟨t, ht, hnone, -, -, hver⟩ := State.discardFlight_end (k := k) (f := f) hw .parcelAuthFail 0
      exact ⟨t, hx.trans ht, hnone, hver⟩
    · have hx : exec (.parcelTagCheck k) s = _ := execParcelTagCheck_whole hf hh hv hl
      obtain ⟨t, htag, hnone, hsome⟩ := State.checkTag_end (k := k) ht hw
      refine ⟨t, hx.trans htag, ?_⟩
      split
      · next hc => exact hnone hc
      · next hc => exact hsome _ hc

end Sys2Proof.Machine
end

section
/-!
SUPPORT. The publication of a verified parcel (R77, R80 step 10, R83, R93, R99, R155, R559, R587).
-/

namespace Sys2Proof.Machine

variable {s t u : State} {v : Verified}

/-! ### What follows a publication moves of the page store only states of pages and DOCKET parcels -/

/-- The page store stands, but for the states of its pages and for DOCKET parcels. -/
def State.StoreStands (s t : State) : Prop :=
  ∃ ps ds, t.store = { s.store with pages := ps, docketRuns := ds } ∧ ps.map (fun e => e.desc) = s.store.pages.map (fun e => e.desc)

theorem State.StoreStands.of_eq (h : t.store = s.store) : s.StoreStands t := ⟨_, _, h, rfl⟩

theorem State.StoreStands.refl (s : State) : s.StoreStands s := .of_eq rfl

theorem State.StoreStands.trans (h : s.StoreStands t) (g : t.StoreStands u) : s.StoreStands u := by
  obtain ⟨ps, ds, ht, hps⟩ := h
  obtain ⟨qs, es, hu, hqs⟩ := g
  rw [ht] at hu hqs
  exact ⟨qs, es, hu, hqs.trans hps⟩

theorem State.StoreStands.foldl {β : Type} {g : State → β → State} (hg : ∀ (t : State) b, t.StoreStands (g t b)) (l : List β) (s : State) :
    s.StoreStands (l.foldl g s) :=
  foldl_keeps (fun t => s.StoreStands t) g (fun t b h => h.trans (hg t b)) l s (.refl s)

theorem State.setPage_stands (id : PageId) {f : PageEntry → PageEntry} (hf : ∀ e, (f e).desc = e.desc) : s.StoreStands (s.setPage id f) := by
  refine ⟨_, _, rfl, ?_⟩
  rw [List.map_map]
  refine List.map_congr_left (fun e _ => ?_)
  dsimp only [Function.comp]
  split
  · exact hf e
  · rfl

theorem State.evalPages_stands (s : State) : s.StoreStands s.evalPages := by
  refine State.StoreStands.foldl (fun t e => ?_) _ s
  have hset (st : PageState) : t.StoreStands (t.setPageState e.desc.id st) := t.setPage_stands _ (fun _ => rfl)
  unfold State.evalPage
  repeat' split
  · exact .refl t
  · exact .of_eq (by simp [State.raiseF])
  · exact (hset .ready).trans (.of_eq (by simp [State.raiseF]))
  · exact .refl t
  · exact .refl t
  · exact hset _
  · exact .refl t

theorem State.loadAnswer_stands (s : State) (r : LoadReq) (st : Code) (n : Nat) : s.StoreStands (s.loadAnswer r st n) := by
  obtain ⟨d, hd⟩ := s.respond_store r.origin r.opcode r.tag st (low40 n)
  exact ⟨_, d, hd, rfl⟩

theorem State.loadVerified_stands (s : State) (v : Verified) : s.StoreStands (s.loadVerified v) :=
  (State.StoreStands.of_eq (s.raise_store _ _)).trans (State.loadAnswer_stands ..)

theorem State.loadFails_stands (s : State) (r : LoadReq) (id : Nat) (c : Code) (extra : Nat) (reason : Option Nat) :
    s.StoreStands (s.loadFails r id c extra reason) := by
  obtain ⟨d, hd⟩ := s.loadFails_store r id c extra reason
  exact ⟨_, d, hd, rfl⟩

theorem State.refreshQueue_stands (s : State) : s.StoreStands s.refreshQueue := by
  unfold State.refreshQueue
  split
  · exact .refl s
  · refine (State.StoreStands.of_eq rfl).trans (.foldl (fun t q => t.setPage_stands _ (fun e => ?_)) _ _)
    split <;> rfl

theorem State.publishMap_stands (s : State) (m : NozzleMap) : s.StoreStands (s.publishMap m) := by
  have htakes (t : State) (rolls : Bool) : t.StoreStands (t.mapTakesEffect m rolls) := by
    unfold State.mapTakesEffect
    refine State.StoreStands.trans (.of_eq ?_) (State.evalPages_stands _)
    split <;> simp [State.raiseF]
  unfold State.publishMap
  extract_lets rolls p s1 s2
  have h2 : s.StoreStands s2 := .of_eq (by
    simp only [s2]
    split
    · rw [State.startRollout_store]
    · rfl)
  split
  · exact h2
  · exact h2.trans (htakes _ _)

/-! ### What the content of a parcel changes (R77) -/

/-- The parts of the page store that a publication replaces. -/
structure StoreSlots {α : Type} (π : StorePart → α) : Prop where
  pages : ∀ x p, π { x with pages := p } = π x
  layers : ∀ x l, π { x with layers := l } = π x
  glyphs : ∀ x g, π { x with glyphs := g } = π x
  arrays : ∀ x a, π { x with arrays := a } = π x
  sets : ∀ x a, π { x with sets := a } = π x
  kept : ∀ x k, π { x with kept := k } = π x
  staged : ∀ x k, π { x with staged := k } = π x
  runs : ∀ x d, π { x with docketRuns := d } = π x

variable {α : Type} {π : StorePart → α}

theorem State.StoreStands.slots (hπ : StoreSlots π) (h : s.StoreStands t) : π t.store = π s.store := by
  obtain ⟨ps, ds, ht, -⟩ := h
  rw [ht]
  exact (hπ.runs { s.store with pages := ps } ds).trans (hπ.pages _ _)

theorem State.keepParcel_store (s : State) (v : Verified) : ∃ k, (s.keepParcel v).store = { s.store with kept := k } := by
  unfold State.keepParcel
  repeat' split
  all_goals exact ⟨_, rfl⟩

theorem State.publishPage_store (s : State) (d : PageDesc) : ∃ p, p.desc = d ∧
    (s.publishPage d).store = { s.store with pages := s.store.pages.filter (fun e => e.desc.id != d.id) ++ [p] } := by
  unfold State.publishPage
  exact ⟨_, rfl, State.wrote_store ..⟩

theorem State.publishLayer_store (s : State) (v : Verified) (a : Nat × Nat) :
    ∃ l, (s.publishLayer v a).store = { s.store with layers := l } := by
  unfold State.publishLayer
  split
  · exact ⟨_, rfl⟩
  · refine ⟨_, foldl_same State.store _ (fun t b => by simp) _ _⟩

theorem State.publishSection_slots (hπ : StoreSlots π) (s : State) (x : Section) : π (s.publishSection x).store = π s.store := by
  cases x with
  | array i a => exact hπ.arrays ..
  | redist es => exact hπ.sets ..
  | weights es => exact hπ.sets ..

/-- The state in which the content of a parcel has been placed (R77), as State.publishContent goes on from it. -/
def State.placed (s : State) (v : Verified) : State :=
  match content v.header with
  | 1 => (parsePages 64 v.payload).foldl (fun (s : State) d => s.publishPage d) s
  | 2 => s.publishLayer v v.alloc
  | 4 => match parseGlyphSet v.payload with
    | some g => { s with store := { s.store with glyphs := s.store.glyphs.filter (fun (x : GlyphSet) => x.id != g.id) ++ [g] } }
    | none => s
  | 5 => ((parseScreen v.payload).getD []).foldl (fun (s : State) x => s.publishSection x) s
  | 6 => s.publishMap (parseMap v.payload)
  | 7 => { s with store := { s.store with staged := some (BitVec.ofNat 32 (parcelId v.header), v.payload) } }
  | _ => s

/-- After its content has been placed, a publication moves of the page store only what StoreStands names. -/
theorem State.publishContent_stands (s : State) (v : Verified) : ((s.keepParcel v).placed v).StoreStands (s.publishContent v) := by
  have hx : s.publishContent v = if content v.header = 6 ∧ ¬ (s.keepParcel v).print.started then
      ((s.keepParcel v).placed v).wroteIn (contentRegion (content v.header))
      else (((s.keepParcel v).placed v).wroteIn (contentRegion (content v.header))).evalPages := rfl
  rw [hx]
  split
  · exact .of_eq (by simp)
  · exact (State.StoreStands.of_eq (by simp)).trans (State.evalPages_stands _)

theorem State.placed_slots (hπ : StoreSlots π) (s : State) (v : Verified) : π (s.placed v).store = π s.store := by
  unfold State.placed
  split
  · refine foldl_same (fun t : State => π t.store) _ (fun t d => ?_) _ _
    obtain ⟨p, -, hp⟩ := t.publishPage_store d
    rw [hp]
    exact hπ.pages ..
  · obtain ⟨l, hl⟩ := s.publishLayer_store v v.alloc
    rw [hl]
    exact hπ.layers ..
  · split
    · exact hπ.glyphs ..
    · rfl
  · exact foldl_same (fun t : State => π t.store) _ (fun t x => t.publishSection_slots hπ x) _ _
  · exact (s.publishMap_stands _).slots hπ
  · exact hπ.staged ..
  · rfl

/-! ### The content by its kind -/

/-- Pages published one after the other, no two of one identifier, all stand in the page table (R99). -/
theorem publishPages_stand (l : List PageDesc) (hl : (l.map (fun d => d.id)).Nodup) (s : State) (d : PageDesc)
    (hd : d ∈ l ∨ (∃ e ∈ s.store.pages, e.desc = d) ∧ d.id ∉ l.map (fun d => d.id)) :
    ∃ e ∈ (l.foldl (fun (s : State) d => s.publishPage d) s).store.pages, e.desc = d := by
  induction l generalizing s with
  | nil => simpa using hd
  | cons x l ih =>
    rw [List.map_cons] at hl hd
    obtain ⟨hx, hl⟩ := List.nodup_cons.mp hl
    obtain ⟨p, hp, hstore⟩ := s.publishPage_store x
    refine ih hl (s.publishPage x) ?_
    rw [hstore]
    dsimp only
    rcases hd with hd | ⟨⟨e, he, rfl⟩, hid⟩
    · rcases List.mem_cons.mp hd with rfl | hd
      · exact .inr ⟨⟨p, List.mem_append_right _ (List.mem_singleton_self _), hp⟩, hx⟩
      · exact .inl hd
    · obtain ⟨hne, hnot⟩ := not_or.mp (fun h => hid (List.mem_cons.mpr h))
      exact .inr ⟨⟨e, List.mem_append_left _ (List.mem_filter.mpr ⟨he, by simpa using hne⟩), rfl⟩, hnot⟩

/-- No two pages of a parcel that passes its checks have one identifier (R99). -/
theorem State.pagesFault_none {ws : List Word} (h : s.pagesFault ws = none) : ((parsePages 64 ws).map (fun d => d.id)).Nodup := by
  unfold State.pagesFault at h
  dsimp only at h
  split at h
  · cases h
  · next hn => exact of_not_not (fun hd => hn (.inl hd))

/-- A layer that stands and takes a further part has the descriptor of the part (R93). -/
theorem State.layerPartFault_none {ws : List Word} {d : LayerDesc} (hd : parseLayerDesc (slice ws 0 4) = some d)
    (h : s.layerPartFault ws = none) : ∀ l, findLayer s.store.layers d.id = some l → l.desc = d := by
  intro l hl
  unfold State.layerPartFault at h
  simp only [hd, hl] at h
  by_contra hne
  have hany : (some l).any (fun l => l.desc != d) = true := by simpa using hne
  rw [hany] at h
  repeat' split at h
  all_goals simp_all

/-- The allocation of a layer's part belongs to its layer once it is published (R93, R104). -/
theorem State.publishLayer_layer {d : LayerDesc} {a : Nat × Nat} (hd : parseLayerDesc (slice v.payload 0 4) = some d)
    (hold : ∀ l, findLayer s.store.layers d.id = some l → l.desc = d) :
    ∃ l ∈ (s.publishLayer v a).store.layers, l.desc = d ∧ a ∈ l.allocs := by
  unfold State.publishLayer
  simp only [hd]
  rw [foldl_same (fun t : State => t.store.layers) _ (fun t b => by simp)]
  dsimp only
  cases hl : findLayer s.store.layers d.id with
  | none => exact ⟨_, List.mem_append_right _ (List.mem_singleton_self _), rfl, List.mem_singleton_self _⟩
  | some l =>
    have hmem : l ∈ s.store.layers := List.mem_of_find?_eq_some hl
    refine ⟨_, List.mem_map_of_mem hmem, ?_⟩
    rw [if_pos (by simp [hold l hl])]
    exact ⟨hold l hl, List.mem_append_right _ (List.mem_singleton_self _)⟩

/-! ### The publication of the oldest parcel (R80 step 10, R83) -/

/-- The content checks read nothing that reads of DRAM change (R80 step 9). -/
theorem State.readBursts_contentFault (l : List BurstRead) (r : LoadReq) (h ws : List Word) :
    (s.readBursts l).1.contentFault r h ws = s.contentFault r h ws := by
  have hused (g : BitVec 32) : (s.readBursts l).1.generatorUsed g = s.generatorUsed g := by
    simp [State.generatorUsed, State.queuedDescs, State.usesGenerator]
  have hpages : (s.readBursts l).1.pagesFault ws = s.pagesFault ws := by simp [State.pagesFault]
  have hlayer : (s.readBursts l).1.layerPartFault ws = s.layerPartFault ws := by simp [State.layerPartFault, State.entryBad]
  have hglyph : (s.readBursts l).1.glyphFault ws = s.glyphFault ws := by simp [State.glyphFault, hused]
  have hscreen : (s.readBursts l).1.screenFault ws = s.screenFault ws := by simp [State.screenFault, State.arrayUsed, State.queuedDescs]
  have hmap : (s.readBursts l).1.mapFault ws = s.mapFault ws := by
    unfold State.mapFault
    rw [State.readBursts_mapper, State.readBursts_print]
  simp only [State.contentFault, hpages, hlayer, hglyph, hscreen, hmap, State.readBursts_sec]

/-- Reads of the staging leave the page store. -/
theorem State.queueMirror_freeSlot_store (k : SlotNo) (v : Verified) :
    ((s.freeSlot k).queueMirror v).store = { s.store with flights := s.store.flights.set k none } := by
  rw [State.queueMirror_store, State.freeSlot_store]

variable {rest : List Verified} {r : PublishRead}

/-- The state in which the oldest parcel has left the queue of verified ones, and its staging has been read (R83). -/
def State.stagingRead (s : State) (v : Verified) (r : PublishRead) : State × List (BitVec 30) :=
  let s0 : State := { s with store := { s.store with verified := s.store.verified.drop 1 } }
  s0.readBursts (s0.rangeReads (regionBase 8 + 1024 * v.alloc.1) (v.payload.length / 8) r.reads)

theorem State.publish_lost (h : (s.stagingRead v r).2 ≠ []) :
    s.publish v r = ((s.stagingRead v r).1.freeSlot v.slot).loadFails v.req (parcelId v.header) .parcelDmaError 0 none := by
  unfold State.stagingRead at h ⊢
  exact if_pos (by simpa using h)

theorem State.publish_content (h : (s.stagingRead v r).2 = []) (hc : content v.header ≠ 3)
    (hf : (s.stagingRead v r).1.contentFault v.req v.header v.payload = none) :
    s.publish v r = ((((s.stagingRead v r).1.freeSlot v.slot).queueMirror v).publishContent v).loadVerified v := by
  unfold State.publish
  refine (if_neg ((Bool.not_eq_true _).mpr (congrArg (!·) (List.isEmpty_iff.mpr h)))).trans ?_
  have hf' : (s.stagingRead v r).1.contentFault v.req v.header v.payload = none := hf
  unfold State.stagingRead at hf' ⊢
  simp only [hf', if_neg hc]

/-- The end of a step that publishes the oldest verified parcel. -/
theorem execParcelPublish_oldest (hw : (s.publish v r).sec.openWaits = []) (hd : ∀ d ∈ s.store.docketRuns, d.waiting ≠ none)
    (hv : s.store.verified = v :: rest) : ∃ t : State, execParcelPublish r s = .next t ∧ (s.publish v r).StoreStands t := by
  have hnone : s.store.docketRuns.find? (fun d => d.waiting.isNone) = none := by
    rw [List.find?_eq_none]
    exact fun d h => by simpa using hd d h
  unfold execParcelPublish
  simp only [hnone, hv]
  rw [State.serveOpens_none (by rw [State.refreshQueue_sec]; exact hw)]
  exact ⟨_, rfl, (State.refreshQueue_stands _).trans (.of_eq (State.settle_store _))⟩

/-- Settles O22: a parcel published stands in the page store by its content, and one whose staging is lost leaves nothing. -/
theorem publicationIsAtomicPerParcel : Obligations.PublicationIsAtomicPerParcel := by
  unfold Obligations.PublicationIsAtomicPerParcel
  intro s v rest r hw hd hv s0 reads
  have hs0 : ({ s with store := { s.store with verified := s.store.verified.drop 1 } } : State) = s0 := by
    simp only [s0, hv, List.drop_one, List.tail_cons]
  have hread : s.stagingRead v r = s0.readBursts reads := by
    unfold State.stagingRead
    dsimp only
    rw [hs0]
  have hstore : (s.stagingRead v r).1.store = { s.store with verified := rest } := by rw [hread, State.readBursts_store]
  have hsec : (s.stagingRead v r).1.sec = s.sec := by rw [hread, State.readBursts_sec]
  have hflights : StoreSlots (fun x => x.flights[v.slot]) := by constructor <;> intros <;> rfl
  have hverified : StoreSlots (fun x => x.verified) := by constructor <;> intros <;> rfl
  refine ⟨fun hok hc hf => ?_, fun hlost => ?_⟩
  · have hpub := State.publish_content (s := s) (v := v) (r := r) (by rw [hread]; exact hok) hc
      (by rw [hread, State.readBursts_contentFault]; exact hf)
    let x := ((s.stagingRead v r).1.freeSlot v.slot).queueMirror v
    have hx : x.store = { s.store with verified := rest, flights := s.store.flights.set v.slot none } := by
      rw [State.queueMirror_freeSlot_store, hstore]
    obtain ⟨kept, hk⟩ := x.keepParcel_store v
    obtain ⟨t, ht, hstands⟩ := execParcelPublish_oldest (r := r) (by rw [hpub]; simpa [hsec] using hw) hd hv
    rw [hpub] at hstands
    have hall : ((x.keepParcel v).placed v).StoreStands t :=
      ((x.publishContent_stands v).trans (State.loadVerified_stands _ _)).trans hstands
    have hstart {α : Type} {π : StorePart → α} (hπ : StoreSlots π) : π t.store = π x.store := by
      rw [hall.slots hπ, State.placed_slots hπ, hk]
      exact hπ.kept ..
    have hpass := hf
    unfold State.contentFault at hpass
    obtain ⟨ps, ds, htstore, hps⟩ := hall
    refine ⟨t, ht, ?_, ?_, fun h1 d hmem => ?_, fun h2 d hparse => ?_, fun h4 g hparse => ?_, fun h7 => ?_⟩
    · rw [hstart hverified, hx]
    · have hfl := hstart hflights
      rw [hx] at hfl
      simpa using hfl
    · simp only [h1] at hpass
      have hnodup := State.pagesFault_none (Option.map_eq_none_iff.mp hpass)
      obtain ⟨e, he, hed⟩ := publishPages_stand (parsePages 64 v.payload) hnodup (x.keepParcel v) d (.inl hmem)
      have hplaced : (x.keepParcel v).placed v = (parsePages 64 v.payload).foldl (fun (s : State) d => s.publishPage d) (x.keepParcel v) := by
        simp only [State.placed, h1]
      have hin : d ∈ t.store.pages.map (fun e => e.desc) := by
        rw [htstore, hps, hplaced]
        exact List.mem_map.mpr ⟨e, he, hed⟩
      exact List.mem_map.mp hin
    · simp only [h2] at hpass
      have hold := State.layerPartFault_none hparse (Option.map_eq_none_iff.mp hpass)
      have hlayers : (x.keepParcel v).store.layers = s0.store.layers := by rw [hk, hx]
      obtain ⟨l, hl, hpost⟩ := State.publishLayer_layer (s := x.keepParcel v) (a := v.alloc) hparse (by rw [hlayers]; exact hold)
      refine ⟨l, ?_, hpost⟩
      rw [htstore]
      simpa only [State.placed, h2] using hl
    · rw [htstore]
      simp only [State.placed, h4, hparse]
      exact List.mem_append_right _ (List.mem_singleton_self _)
    · rw [htstore]
      simp only [State.placed, h7]
  · have hpub := State.publish_lost (s := s) (v := v) (r := r) (by rw [hread]; exact hlost)
    obtain ⟨t, ht, hstands⟩ := execParcelPublish_oldest (r := r) (by rw [hpub]; simpa [hsec] using hw) hd hv
    rw [hpub] at hstands
    obtain ⟨ps, ds, htstore, hps⟩ := (State.loadFails_stands ((s.stagingRead v r).1.freeSlot v.slot) v.req (parcelId v.header)
      .parcelDmaError 0 none).trans hstands
    rw [State.freeSlot_store, hstore] at htstore hps
    refine ⟨t, ht, ?_⟩
    rw [htstore]
    exact ⟨rfl, by simp, rfl, rfl, rfl, hps⟩

end Sys2Proof.Machine
end

section
/-!
SUPPORT. Self-tests (R616 to R621).
-/

namespace Sys2Proof.Machine

variable {s : State} {c : Cmd}

theorem State.setPower_tests (q : Power) (src : PowerSource) : (s.setPower q src).sys.tests = s.sys.tests := by
  unfold State.setPower
  split <;> simp

theorem State.wakeFor_tests (op : Byte) : (s.wakeFor op).sys.tests = s.sys.tests := by
  unfold State.wakeFor
  split
  · exact State.setPower_tests _ _
  · rfl

theorem State.begun_selftest (c : Cmd) : s.begun 0xD2 c = (s.start c).wakeFor 0xD2 := rfl

theorem State.begun_tests (c : Cmd) : (s.begun 0xD2 c).sys.tests = s.sys.tests := by
  rw [State.begun_selftest, State.wakeFor_tests, State.start_sys]

/-! ### SELFTEST_RUN -/

/-- A test of R616 waits for its end, unless an active unit prints (log 45). -/
theorem cmdSelftestRun_waits (t : Fin 16) (h1 : 1 ≤ t.val) (h6 : t.val ≤ 6) (ht : c.argBits 3 0 = t.val)
    (ha : s.print.started = false ∨ s.pair.paired = false ∨ s.pair.st ≠ .active) :
    cmdSelftestRun c s = (({ s with sys := { s.sys with
      tests := s.sys.tests ++ [⟨t, c.origin, c.tag, s.testUnits t.val⟩] } } : State).testLanes t.val, none) := by
  have hact : ¬(s.print.started && s.pair.paired && s.pair.st == .active) = true := by
    rcases ha with h | h | h <;> simp [h]
  have h15 : ¬ t.val = 15 := by omega
  have h07 : ¬(t.val = 0 ∨ 7 ≤ t.val) := by omega
  unfold cmdSelftestRun
  rw [ht]
  simp only [if_neg h15, if_neg h07, if_neg hact, Fin.ofNat_val_eq_self]

/-- Test 15 in a parcel that may reset the device orders the reset (R603, R616). -/
theorem cmdSelftestRun_resets (ht : c.argBits 3 0 = 15) (ho : resetOrigin c.origin = true) :
    ∃ t : State, cmdSelftestRun c s = (t, none) ∧ t.sys.resetDue = true := by
  unfold cmdSelftestRun
  rw [ht]
  exact ⟨_, by simp only [if_pos, ho]; rfl, rfl⟩

theorem cmdSelftestRun_secure (ht : c.argBits 3 0 = 15) (ho : resetOrigin c.origin = false) :
    cmdSelftestRun c s = (s, resp .secureRequired 0) := by
  unfold cmdSelftestRun
  rw [ht]
  simp [ho]

theorem resetOrigin_iff (o : Origin) : resetOrigin o = true ↔ (∃ ch, o = .parcel (.session ch)) ∨ o = .parcel .offered := by
  unfold resetOrigin
  split
  · simp
  · simp
  · next h1 h2 =>
    simp only [Bool.false_eq_true, false_iff, not_or, not_exists]
    exact ⟨h1, h2⟩

theorem Cmd.testNo (v : Nat) (h : c.arg.extractLsb' 0 4 = BitVec.ofNat 4 v) (hv : v < 16) : c.argBits 3 0 = v := by
  rw [Cmd.argBits_extract 3 4 rfl, h, BitVec.toNat_ofNat]
  exact Nat.mod_eq_of_lt hv

/-! ### The ends of tests and slices -/

/-- The outcome of one of the tests 1 to 6 is kept (R621). -/
theorem SysPart.outcome_get (y : SysPart) (t v : Nat) (h : 1 ≤ t ∧ t ≤ 6) : (y.outcome t v).outcomes[t - 1] = v := by
  simp [SysPart.outcome, h]

theorem SysPart.outcome_keeps (y : SysPart) (t v : Nat) :
    (y.outcome t v).tests = y.tests ∧ (y.outcome t v).fails = y.fails ∧ (y.outcome t v).slices = y.slices ∧
      (y.outcome t v).passes = y.passes ∧ (y.outcome t v).testFault = y.testFault := ⟨rfl, rfl, rfl, rfl, rfl⟩

theorem notRunReason_none {w : TestWait} {r : TestRun} (hv : vddOk r = true) (hs : sysclkOk r = true) (hu : w.units ≠ []) :
    notRunReason w r = none := by
  simp [notRunReason, hv, hs, hu]

/-- What a test that passed leaves (R621). -/
theorem State.testPass_ends {n : Nat} (h : 1 ≤ n ∧ n ≤ 6) :
    (s.testPass n).sys.outcomes[n - 1] = 1 ∧ (s.testPass n).sys.tests = s.sys.tests ∧ (s.testPass n).sys.fails = s.sys.fails ∧
      (s.testPass n).sys.testFault = s.sys.testFault :=
  ⟨SysPart.outcome_get _ _ 1 h, rfl, rfl, rfl⟩

/-- What a test that failed leaves (R621). -/
theorem State.testFail_ends {n : Nat} (us : List Nat) (h : 1 ≤ n ∧ n ≤ 6) :
    (s.testFail n us).sys.outcomes[n - 1] = 2 ∧ (s.testFail n us).sys.tests = s.sys.tests ∧
      (s.testFail n us).sys.fails = min 65535 (s.sys.fails + 1) :=
  ⟨SysPart.outcome_get _ _ 2 h, rfl, rfl⟩

/-- What a background test that failed leaves (R620). -/
theorem State.backgroundFail_ends {n : Nat} (us : List Nat) (ms : Nat) (h : 1 ≤ n ∧ n ≤ 6) :
    (s.backgroundFail n us ms).sys.outcomes[n - 1] = 2 ∧ (s.backgroundFail n us ms).sys.testFault = true := by
  unfold State.backgroundFail
  simp only [State.raise_sys]
  exact ⟨SysPart.outcome_get _ _ 2 h, trivial⟩

/-- A commanded test that was run: its outcome is kept, and a failure is counted (R619, R621). -/
theorem State.testEnd_runs {w : TestWait} {r : TestRun} (hw : 1 ≤ w.test.val ∧ w.test.val ≤ 6) (hn : notRunReason w r = none) :
    (s.testEnd w r).sys.tests = s.sys.tests.erase w ∧
      (s.testEnd w r).sys.outcomes[w.test.val - 1] = (if failingUnits r w.units ≠ [] then 2 else 1) ∧
      (s.testEnd w r).sys.fails = (if failingUnits r w.units ≠ [] then min 65535 (s.sys.fails + 1) else s.sys.fails) ∧
      (s.testEnd w r).mapper = s.mapper := by
  have hl : (State.testLanesEnd { s with sys := { s.sys with tests := s.sys.tests.erase w } } w).sys =
      { s.sys with tests := s.sys.tests.erase w } := State.testLanesEnd_sys _ _
  unfold State.testEnd
  simp only [hn]
  cases hf : failingUnits r w.units with
  | nil =>
    obtain ⟨ho, ht, hfs, -⟩ := State.testPass_ends (s := State.testLanesEnd { s with sys := { s.sys with tests := s.sys.tests.erase w } } w) hw
    rw [hl] at ht hfs
    simp [ho, ht, hfs]
  | cons u us =>
    obtain ⟨ho, ht, hfs⟩ := State.testFail_ends (s := State.testLanesEnd { s with sys := { s.sys with tests := s.sys.tests.erase w } } w) (u :: us) hw
    rw [hl] at ht hfs
    simp [ho, ht, hfs]

/-- The end of a waiting test is the end of the first order of it. -/
theorem execSelftestRunEnd_ends {r : TestRun} {w : TestWait} (hw : s.sys.tests.find? (fun w => w.test == r.test) = some w) :
    execSelftestRunEnd r s = (s.testEnd w r).done := by
  unfold execSelftestRunEnd
  rw [hw]

theorem State.find_test {r : TestRun} {w : TestWait} (hw : s.sys.tests.find? (fun w => w.test == r.test) = some w) : w.test = r.test := by
  simpa using List.find?_some (p := fun w : TestWait => w.test == r.test) hw

/-- A background test whose conditions hold passes or fails (R620). -/
theorem execSelftestBackground_runs {r : TestRun} (h : r.test.val = 2 ∨ r.test.val = 6) (hr : s.testRuns r.test.val = true)
    (hv : vddOk r = true) (hs : sysclkOk r = true) :
    execSelftestBackground r s = (if failingUnits r (s.testUnits r.test.val) ≠ [] then
      s.backgroundFail r.test.val (failingUnits r (s.testUnits r.test.val)) r.durationMs else s.testPass r.test.val).done := by
  have hc : ¬((r.test.val ≠ 2 ∧ r.test.val ≠ 6) ∨ (!s.testRuns r.test.val || !vddOk r || !sysclkOk r) = true) := by
    simp only [hr, hv, hs]
    simp only [Bool.not_true, Bool.or_self, Bool.false_eq_true, or_false]
    omega
  unfold execSelftestBackground
  rw [if_neg hc]
  cases failingUnits r (s.testUnits r.test.val) <;> rfl

/-- A slice that matches, on an engine that waits, counts (R618). -/
theorem execEngineSlice_counts {k : EngineNo} (hb : s.eng.engines[k].busy = none) (hl : s.cist.w1 ≤ s.cist.lead) (hr : s.testRuns 2 = true)
    (hp : s.sys.power = .run) (hs : s.sys.stage = 7) :
    execEngineSlice k true s = ({ s with sys := (s.sys.slice k).passed s.sys } : State).done := by
  have hc : ¬(s.eng.engines[k].busy.isSome || decide (s.cist.lead < s.cist.w1) || !s.testRuns 2 || s.sys.power != .run ||
      s.sys.stage != 7) = true := by
    simp only [hb, hr, hp, hs]
    simpa using hl
  unfold execEngineSlice
  rw [if_neg hc]
  rfl

theorem SysPart.passed_keeps (y old : SysPart) : (y.passed old).slices = y.slices ∧ (y.passed old).passes = y.passes := by
  unfold SysPart.passed
  split <;> exact ⟨rfl, rfl⟩

theorem SysPart.slice_counts {y : SysPart} {k : EngineNo} (h : y.slices[k] + 1 < 256) :
    (y.slice k).slices[k] = y.slices[k] + 1 ∧ (y.slice k).passes = y.passes := by
  unfold SysPart.slice
  rw [if_pos h]
  exact ⟨upd_same _ _ _, rfl⟩

theorem SysPart.slice_passes {y : SysPart} {k : EngineNo} (h : 256 ≤ y.slices[k] + 1) :
    (y.slice k).slices[k] = 0 ∧ (y.slice k).passes[k] = min 65535 (y.passes[k] + 1) := by
  unfold SysPart.slice
  rw [if_neg (Nat.not_lt.mpr h)]
  exact ⟨by simp, upd_same _ _ _⟩

/-- Settles O11, from what SELFTEST_RUN, the ends of tests and the engines' slices do. -/
theorem selftestsRunAndEnd : Obligations.SelftestsRunAndEnd := by
  unfold Obligations.SelftestsRunAndEnd
  refine ⟨fun s c h => ⟨?_, ?_, ?_⟩, ?_, ?_, ?_⟩
  · intro t h1 h6 ht ha
    have hf := cmdSelftestRun_waits (s := s.begun 0xD2 c) t h1 h6 (Cmd.testNo t.val ht t.isLt) (by simpa using ha)
    rw [State.begun_tests] at hf
    exact command_waits s c h hf
  · intro ht ho
    obtain ⟨t, hf, hr⟩ := cmdSelftestRun_resets (s := s.begun 0xD2 c) (Cmd.testNo 15 ht (by decide)) ((resetOrigin_iff _).mpr ho)
    exact ⟨t.settle, command_waits s c h hf, by rwa [State.settle_sys]⟩
  · intro ht hn ho
    have hr : resetOrigin c.origin = false := by
      rw [Bool.eq_false_iff, Ne, resetOrigin_iff]
      exact not_or.mpr ⟨not_exists.mpr hn, ho⟩
    exact command_reply s c h (cmdSelftestRun_secure (Cmd.testNo 15 ht (by decide)) hr)
  · intro s r w hw hv hs hu ht
    have hwt : w.test = r.test := State.find_test hw
    have hn := notRunReason_none (r := r) hv hs hu
    have hend := State.testEnd_runs (s := s) (w := w) (by rwa [hwt]) hn
    simp only [hwt] at hend
    exact ⟨(s.testEnd w r).settle, execSelftestRunEnd_ends hw, by simpa using hend⟩
  · intro s r h hr hv hs
    refine ⟨_, execSelftestBackground_runs h hr hv hs, ?_⟩
    have h6 : 1 ≤ r.test.val ∧ r.test.val ≤ 6 := by omega
    simp only [State.settle_sys, State.settle_print]
    split
    · next hf =>
      obtain ⟨ho, ht⟩ := State.backgroundFail_ends (s := s) (failingUnits r (s.testUnits r.test.val)) r.durationMs h6
      exact ⟨ho, by simp [ht, hf], State.backgroundFail_print ..⟩
    · next hf =>
      obtain ⟨ho, -, -, ht⟩ := State.testPass_ends (s := s) h6
      exact ⟨ho, by simp [ht, hf], State.testPass_print ..⟩
  · intro s k hb hl hr hp hs
    refine ⟨_, execEngineSlice_counts hb hl hr hp hs, ?_⟩
    simp only [State.settle_sys, State.settle_eng, (SysPart.passed_keeps _ _).1, (SysPart.passed_keeps _ _).2]
    exact ⟨SysPart.slice_counts, SysPart.slice_passes, trivial⟩

end Sys2Proof.Machine
end

section
/-!
SUPPORT. Device resets (R599, R600, R603).
-/

namespace Sys2Proof.Machine

variable {s : State} {c : Cmd}

theorem State.deviceReset_settle (cause : Nat) : (s.deviceReset cause).settle = s.deviceReset cause := State.settle_quiet _ rfl

/-- The four causes of a device reset (R600, R603). -/
theorem exec_resets {i : Instr} {cause : Nat}
    (h : (i = .supplyMonitorReset ∧ cause = 1) ∨ (i = .resetN ∧ cause = 2) ∨ (i = .commandedReset ∧ cause = 4 ∧ s.sys.resetDue = true) ∨
      (i = .perstN ∧ cause = 3 ∧ ∃ b, s.sys.board = some b ∧ b.g7Fabric = false ∧ b.perstDevice = true)) :
    exec i s = (s.deviceReset cause).done := by
  rcases h with ⟨rfl, rfl⟩ | ⟨rfl, rfl⟩ | ⟨rfl, rfl, hd⟩ | ⟨rfl, rfl, b, hb, h7, hp⟩
  · rfl
  · rfl
  · change execCommandedReset s = _
    unfold execCommandedReset
    rw [if_pos hd]
  · change execPerstN s = _
    unfold execPerstN
    simp only [hb, Option.getD_some, h7, hp, Bool.false_eq_true, if_false, if_true]

/-- PERST_N where G7 serves as fabric ports (R25). -/
theorem execPerstN_fabric {b : BoardRecord} (hb : s.sys.board = some b) (h7 : b.g7Fabric = true) : execPerstN s = s.done := by
  unfold execPerstN
  simp only [hb, Option.getD_some, h7, if_true]

/-- What a device reset keeps of the key vault: the fuses, MRAM and flash (R569, R572, R600). -/
theorem SecPart.afterReset_keeps (x : SecPart) (on : Bool) :
    (x.afterReset on).lifecycle = x.lifecycle ∧ (x.afterReset on).svn = x.svn ∧ (x.afterReset on).imageKey = x.imageKey ∧
      (x.afterReset on).caKey = x.caKey ∧ (x.afterReset on).identity = x.identity ∧ (x.afterReset on).chain = x.chain ∧
      (x.afterReset on).ownerHash = x.ownerHash ∧ (x.afterReset on).count = x.count ∧ (x.afterReset on).chainHash = x.chainHash ∧
      (x.afterReset on).released = x.released ∧ (x.afterReset on).ring = [] := ⟨rfl, rfl, rfl, rfl, rfl, rfl, rfl, rfl, rfl, rfl, rfl⟩

theorem SecPart.afterReset_sessions (x : SecPart) (on : Bool) (n : Chan) : (x.afterReset on).sessions[n] = none := by
  simp [SecPart.afterReset]

theorem SecPart.afterReset_jobs (x : SecPart) (on : Bool) (j : Fin 16) : (x.afterReset on).jobs[j] = x.jobs[j].afterReset := by
  simp [SecPart.afterReset]

theorem State.deviceReset_record (cause : Nat) (p : HeadPort) : (s.deviceReset cause).health.ports[p].record = s.health.ports[p].record := by
  simp [State.deviceReset]

/-- Settles O25, from the state that a device reset builds. -/
theorem deviceResetsKeepWhatSurvives : Obligations.DeviceResetsKeepWhatSurvives := by
  unfold Obligations.DeviceResetsKeepWhatSurvives
  refine ⟨fun s i cause h => ?_, fun s b hq hb h7 => ?_⟩
  · have he : exec i s = .next (s.deviceReset cause) := by
      rw [exec_resets h, State.done, State.deviceReset_settle]
    obtain ⟨hlc, hsvn, hik, hck, hid, hch, hoh, hct, hcs, hrl, hrg⟩ := s.sec.afterReset_keeps (cause == 1)
    refine ⟨_, he, rfl, rfl, rfl, rfl, rfl, rfl, rfl, rfl, rfl, rfl, rfl, rfl, rfl, rfl, rfl, rfl, rfl, rfl, rfl, ?_, hlc, hsvn, hik, hck,
      hid, hch, hoh, hct, hcs, hrl, hrg, ?_, fun j => ?_⟩
    · exact State.deviceReset_record cause
    · exact SecPart.afterReset_sessions _ _
    · have hj := SecPart.afterReset_jobs s.sec (cause == 1) j
      exact ⟨(congrArg Job.next hj).trans rfl, (congrArg Job.reservedEnd hj).trans rfl⟩
  · change execPerstN s = _
    rw [execPerstN_fabric hb h7, State.done_quiet s hq]

end Sys2Proof.Machine
end

section
/-!
SUPPORT. Boot, stage by stage (R557, R604 to R609).
-/

namespace Sys2Proof.Machine

variable {s : State} {c : Cmd}

theorem State.settle_eligible : s.settle.fab.eligible = s.fab.eligible := by
  have h := congrArg FabPart.eligible (State.settle_fabConfig s)
  exact h

/-! ### The smallest by an order, found by insertion -/

theorem insertBy_eq {α : Type} (le : α → α → Bool) (x : α) (l : List α) : insertBy le x l = l.orderedInsert (fun a b => le a b = true) x := by
  induction l with
  | nil => rfl
  | cons a l ih => simp only [insertBy, ih, List.orderedInsert_cons]

/-- The model's insertion sort is the library's. -/
theorem sortBy_eq {α : Type} (le : α → α → Bool) (l : List α) : sortBy le l = l.insertionSort (fun a b => le a b = true) := by
  induction l with
  | nil => rfl
  | cons a l ih =>
    rw [List.insertionSort_cons, ← ih, ← insertBy_eq]
    rfl

theorem sortBy_mem {α : Type} {le : α → α → Bool} (y : α) (l : List α) : y ∈ sortBy le l ↔ y ∈ l := by
  rw [sortBy_eq, List.mem_insertionSort]

/-! ### The training failure that stops boot -/

/-- The place of a training failure in the order in which they are taken: the step, then subchannel and rank. -/
def failPlace (f : TrainFail) : Nat := f.step.toNat * 8 + f.subchannel.toNat * 2 + f.rank.toNat

theorem failsBefore_iff (a b : TrainFail) : failsBefore a b = true ↔ failPlace a ≤ failPlace b := by
  unfold failsBefore failPlace
  exact decide_eq_true_iff

theorem failPlace_step {f g : TrainFail} (h : failPlace f ≤ failPlace g) : f.step.toNat ≤ g.step.toNat := by
  unfold failPlace at h
  have hf := f.subchannel.isLt
  have hg := g.subchannel.isLt
  have hr : g.rank.toNat ≤ 1 := Bool.toNat_le _
  omega

theorem failsBefore_sorted (l : List TrainFail) : (sortBy failsBefore l).Pairwise (fun a b => failsBefore a b = true) := by
  have : Std.Total (fun a b => failsBefore a b = true) := ⟨fun a b => by simpa only [failsBefore_iff] using Nat.le_total (failPlace a) (failPlace b)⟩
  have : IsTrans TrainFail (fun a b => failsBefore a b = true) :=
    ⟨fun a b c hab hbc => by rw [failsBefore_iff] at *; exact hab.trans hbc⟩
  rw [sortBy_eq]
  exact List.pairwise_insertionSort _ l

/-- Of failures there is a first one, whose step is the earliest. -/
theorem firstFail {fails : List TrainFail} (h : fails ≠ []) :
    ∃ f, (sortBy failsBefore fails).head? = some f ∧ f ∈ fails ∧ ∀ g ∈ fails, f.step.toNat ≤ g.step.toNat := by
  have hmem := fun x => sortBy_mem (le := failsBefore) x fails
  have hs := failsBefore_sorted fails
  cases hl : sortBy failsBefore fails with
  | nil =>
    obtain ⟨x, hx⟩ := List.exists_mem_of_ne_nil _ h
    rw [← hmem, hl] at hx
    cases hx
  | cons f l =>
    rw [hl] at hmem hs
    refine ⟨f, rfl, (hmem f).mp List.mem_cons_self, fun g hg => ?_⟩
    rcases List.mem_cons.mp ((hmem g).mpr hg) with rfl | hgl
    · exact Nat.le_refl _
    · exact failPlace_step ((failsBefore_iff f g).mp (List.rel_of_pairwise_cons hs hgl))

/-! ### The stages -/

theorem execBootStageDone_runs (r : BootResult) (hh : s.sys.halted = false) (hs : s.sys.stopped = false) :
    execBootStageDone r s = (match r, s.sys.stage with
    | .rom o, 1 => (s.bootRom o).done
    | .image p o, 2 => (s.bootImage p o).done
    | .firmware t, 3 => (s.bootFirmware t).done
    | .dram f d, 4 => (s.bootDram f d).done
    | .lanes ms up, 5 =>
      if !(s.lanesUp || up) then s.done
      else if s.fabricFitted then ({ s with sys := { s.sys with stage := 6 } } : State).done else (s.bootReady ms).done
    | .fabric ms up, 6 => if s.numbered || up then (s.bootReady ms).done else s.done
    | _, _ => s.done) := by
  unfold execBootStageDone
  exact if_neg (by simp [hh, hs])

/-- A halt leaves every lane down and the endpoint absent (R605). -/
theorem State.halt_lanes (n : LaneNo) : s.halt.lanes.lanes[n].st = .down := by simp [State.halt]

theorem State.bootRom_fails : (s.bootRom .lockkeeperFail) = s.halt := rfl

theorem State.applyBoard_sys (b : BoardRecord) : (s.applyBoard b).sys = { s.sys with board := some b } := rfl

theorem State.applyBoard_eligible (b : BoardRecord) : (s.applyBoard b).fab.eligible = b.rootEligible := rfl

theorem State.bootImage_chosen {p o : Option ImageRead} {i : RunningImage} {b : BoardRecord} (h : s.sec.chooseImage p o = some (i, b)) :
    (s.bootImage p o).sys = { s.sys with board := some b, image := some i, stage := 3 } ∧
      (s.bootImage p o).fab.eligible = b.rootEligible ∧ (s.bootImage p o).sec = s.sec := by
  unfold State.bootImage
  rw [h]
  simp only [State.applyBoard_sys, State.applyBoard_eligible, State.applyBoard_sec]
  exact ⟨trivial, trivial, trivial⟩

theorem State.bootImage_none {p o : Option ImageRead} (h : s.sec.chooseImage p o = none) : s.bootImage p o = s.halt := by
  unfold State.bootImage
  rw [h]

/-! ### Stage FIRMWARE -/

theorem State.bootFirmware_eng (temps : Vector Int 8) : (s.bootFirmware temps).eng = s.loadKernels.eng := by
  unfold State.bootFirmware
  dsimp only
  split <;> simp

/-- A kernel set whose signatures all stand is loaded (R171). -/
theorem State.loadKernels_good {i : RunningImage} (hi : s.sys.image = some i) (hb : badKernels i.kernels = []) :
    s.loadKernels.eng = { s.eng with kernels := i.kernels.kernels.map (fun k => k.code) } := by
  unfold State.loadKernels
  simp only [hi, hb]

/-- Of a kernel set with a signature that fails no kernel is loaded (R173). -/
theorem State.loadKernels_bad {i : RunningImage} {k : Nat} {ks : List Nat} (hi : s.sys.image = some i) (hb : badKernels i.kernels = k :: ks) :
    s.loadKernels.eng = { s.eng with kernelFail := some (BitVec.ofNat 4 k) } := by
  unfold State.loadKernels
  simp only [hi, hb]
  exact foldl_same State.eng _ (fun t n => State.raiseF_eng ..) _ _

/-! ### Stage DRAM -/

/-- The first step that fails stops boot (R606; log 27). -/
theorem State.bootDram_stops {fails : List TrainFail} {dqs : List Nat} {f : TrainFail} (h : (sortBy failsBefore fails).head? = some f) :
    (s.bootDram fails dqs).sys = { s.sys with stopped := true } ∧ (s.bootDram fails dqs).dram = { s.dram with failure := some f } := by
  unfold State.bootDram
  rw [h]
  exact ⟨State.raiseF_sys .., State.raiseF_dram ..⟩

theorem State.bootDram_trains (dqs : List Nat) :
    s.bootDram [] dqs = State.lanesBegin { s with dram := { s.dram with trained := true, dqsBase := dqs }, sys := { s.sys with stage := 5 } } :=
  rfl

/-! ### Stages LANES and FABRIC, and READY -/

/-- READY (R604, R609). -/
theorem State.bootReady_ends (ms : BitVec 12) :
    (s.bootReady ms).sys = { s.sys with stage := 7, bootMs := ms.toNat, faultN := s.sys.fatal.isSome } ∧
      (s.bootReady ms).pair.driving = !s.pair.paired ∧ (s.bootReady ms).sec.lifecycle = s.sec.lifecycle ∧ (s.bootReady ms).print = s.print := by
  unfold State.bootReady State.commitSvn
  split
  · split <;> exact ⟨rfl, rfl, rfl, rfl⟩
  · exact ⟨rfl, rfl, rfl, rfl⟩

theorem State.serves_of_sys {t : State} (h : t.sys = { s.sys with stopped := true }) (hh : s.sys.halted = false) :
    t.serves = !s.sys.restarting := by
  unfold State.serves SysPart.restarting
  simp [h, hh]

/-- Settles O26, stage by stage. -/
theorem bootGoesStageByStage : Obligations.BootGoesStageByStage := by
  unfold Obligations.BootGoesStageByStage
  intro s hh hs
  have hrun := fun r => execBootStageDone_runs r hh hs
  refine ⟨fun h1 => ?_, fun h1 => ?_, fun h2 p o => ?_, fun h3 temps => ?_, fun h4 fails dqs hf => ?_, fun h4 hq dqs => ?_,
    fun h5 hq ms up => ⟨fun hfab hup => ?_, fun hl hup => ?_⟩, fun h6 hq hn ms => ?_, fun ms up r hr => ?_⟩
  · refine ⟨(s.bootRom .pass).settle, ?_, ?_⟩
    · change execBootStageDone _ s = _
      rw [hrun, h1]
      rfl
    · simp only [State.settle_sys, State.settle_time]
      exact ⟨rfl, rfl, rfl⟩
  · refine ⟨s.halt.settle, ?_, ?_⟩
    · change execBootStageDone _ s = _
      rw [hrun, h1]
      rfl
    · simp only [State.settle_sys, State.settle_lanes, State.endpoint]
      exact ⟨rfl, rfl, by simp [State.halt], State.halt_lanes⟩
  · refine ⟨(s.bootImage p o).settle, ?_, ?_⟩
    · change execBootStageDone _ s = _
      rw [hrun, h2]
      rfl
    · cases hc : s.sec.chooseImage p o with
      | none =>
        simp only [State.settle_sys, State.bootImage_none hc]
        exact ⟨rfl, rfl⟩
      | some ib =>
        obtain ⟨hy, he, hx⟩ := State.bootImage_chosen hc
        simp only [State.settle_sys, State.settle_eligible, State.settle_sec, hy, he, hx]
        exact ⟨trivial, trivial, trivial, trivial, trivial⟩
  · refine ⟨(s.bootFirmware temps).settle, ?_, ?_⟩
    · change execBootStageDone _ s = _
      rw [hrun, h3]
      rfl
    · simp only [State.settle_sys, State.settle_print, State.settle_eng, State.bootFirmware_eng, State.bootFirmware_print]
      refine ⟨rfl, trivial, fun i hi hb => ?_, fun i k ks hi hb => ?_⟩
      · rw [State.loadKernels_good hi hb]
        exact ⟨rfl, rfl⟩
      · rw [State.loadKernels_bad hi hb]
        exact ⟨rfl, rfl⟩
  · obtain ⟨f, hfst, hmem, hle⟩ := firstFail hf
    obtain ⟨hy, hd⟩ := State.bootDram_stops (s := s) (dqs := dqs) hfst
    refine ⟨(s.bootDram fails dqs).settle, f, ?_, hmem, hle, ?_⟩
    · change execBootStageDone _ s = _
      rw [hrun, h4]
      rfl
    · have hv := State.serves_of_sys (t := (s.bootDram fails dqs).settle) ((State.settle_sys _).trans hy) hh
      simp only [State.settle_sys, State.settle_dram, hy, hd]
      exact ⟨trivial, h4, trivial, trivial, hv⟩
  · refine ⟨s.bootDram [] dqs, ?_, ?_⟩
    · change execBootStageDone _ s = _
      rw [hrun, h4]
      exact State.done_quiet _ (by simpa [State.quiet, State.bootDram_trains] using hq)
    · simp only [State.bootDram_trains, State.lanesBegin_sys, State.lanesBegin_host]
      exact ⟨trivial, rfl, rfl, trivial⟩
  · change execBootStageDone _ s = _
    have hu : ¬(!(s.lanesUp || up)) = true := by rcases hup with h | h <;> simp [h]
    rw [hrun, h5]
    simp only [if_neg hu, hfab, if_true]
    exact State.done_quiet _ hq
  · change execBootStageDone _ s = _
    rw [hrun, h5]
    simp only [hl, hup, Bool.or_self, Bool.not_false, if_true]
    exact State.done_quiet s hq
  · change execBootStageDone _ s = _
    rw [hrun, h6]
    simp only [hn, Bool.or_self, Bool.false_eq_true, if_false]
    exact State.done_quiet s hq
  · have he : execBootStageDone r s = (s.bootReady ms).done := by
      rw [hrun]
      rcases hr with ⟨h6, rfl, hup⟩ | ⟨h5, hfab, rfl, hup⟩
      · have hu : (s.numbered || up) = true := by rcases hup with h | h <;> simp [h]
        simp only [h6, hu, if_true]
      · have hu : ¬(!(s.lanesUp || up)) = true := by rcases hup with h | h <;> simp [h]
        simp only [h5, if_neg hu, hfab, Bool.false_eq_true, if_false]
    obtain ⟨hy, hd, hl, hp⟩ := State.bootReady_ends (s := s) ms
    refine ⟨(s.bootReady ms).settle, he, ?_⟩
    simp only [State.settle_sys, State.settle_pair, State.settle_sec, State.settle_print, hy]
    exact ⟨trivial, trivial, trivial, hd, hl, hp⟩

end Sys2Proof.Machine
end

section
/-!
SUPPORT. DORMANT (R353, R594, R614), and the steps of the DRAM controller (R584 to R588, R591, R593, R596).
-/

namespace Sys2Proof.Machine

variable {s : State} {c : Cmd}

/-! ### What DORMANT does to lanes, axes and time -/

/-- Any entry of a vector after one entry has changed. -/
theorem upd_fin {α : Type} {n : Nat} (v : Vector α n) (i j : Fin n) (f : α → α) : (upd v i f)[j] = if i = j then f v[j] else v[j] := by
  refine (upd_get v i f j.val j.isLt).trans ?_
  simp only [Fin.val_inj]
  rfl

/-- A lane goes down with DORMANT; no other lane moves. -/
theorem State.laneRest_lanes (n : LaneNo) :
    (s.laneRest n).lanes.lanes = s.lanes.lanes ∨ (s.laneRest n).lanes.lanes = upd s.lanes.lanes n (fun l =>
      { l with st := .down, detections := 0, backoff := 0, blockLock := false, lockRun := 0, readyRun := 0 }) := by
  unfold State.laneRest
  dsimp only
  split
  · right
    rw [State.laneLeft_lanes]
    rfl
  · left
    rfl

/-- What any lane is after one has gone down with DORMANT. -/
theorem State.laneRest_get (n k : LaneNo) :
    (s.laneRest n).lanes.lanes[k].vendor = s.lanes.lanes[k].vendor ∧
      (s.lanes.lanes[k].st = .down → (s.laneRest n).lanes.lanes[k].st = .down) := by
  rcases s.laneRest_lanes n with h | h
  · rw [h]
    exact ⟨rfl, id⟩
  · rw [h, upd_fin]
    split
    · exact ⟨rfl, fun _ => rfl⟩
    · exact ⟨rfl, id⟩

theorem State.laneRest_down (n : LaneNo) (hv : s.lanes.lanes[n].vendor = true) : (s.laneRest n).lanes.lanes[n].st = .down := by
  by_cases hd : s.lanes.lanes[n].st = .down
  · exact (s.laneRest_get n n).2 hd
  · unfold State.laneRest
    dsimp only
    rw [if_pos (by rw [hv]; simpa using hd)]
    have h := State.laneLeft_lanes (s.setLane n (fun l =>
      { l with st := .down, detections := 0, backoff := 0, blockLock := false, lockRun := 0, readyRun := 0 })) n s.lanes.lanes[n]
    rw [h]
    exact congrArg LaneState.st (upd_same _ _ _)

/-- The lanes go down with DORMANT, one after the other. -/
def State.lanesRest (s : State) (l : List LaneNo) : State := l.foldl (fun s n => s.laneRest n) s

/-- After DORMANT has taken the lanes of a list, each vendor lane among them is down. -/
theorem State.lanesRest_down (l : List LaneNo) (s : State) (k : LaneNo) (hv : s.lanes.lanes[k].vendor = true)
    (hk : k ∈ l ∨ s.lanes.lanes[k].st = .down) : (s.lanesRest l).lanes.lanes[k].st = .down := by
  induction l generalizing s with
  | nil => exact hk.resolve_left List.not_mem_nil
  | cons n l ih =>
    refine ih (s.laneRest n) (by rw [(s.laneRest_get n k).1, hv]) ?_
    rcases hk with hk | hk
    · rcases List.mem_cons.mp hk with rfl | hk
      · exact .inr (State.laneRest_down _ hv)
      · exact .inl hk
    · exact .inr ((s.laneRest_get n k).2 hk)

/-- The parts of the state that DORMANT leaves alone or sets (R353, R503, R594). -/
theorem State.rest_parts (s : State) :
    s.rest.sys = { s.sys with power := .dormant } ∧ s.rest.dram.selfRefresh = true ∧
      s.rest.time = { s.time with sync := .free, lastReq := none, best := none, goodSecs := 0 } ∧ s.rest.print = s.print ∧
      s.rest.motion.axes = s.motion.axes.map (fun a => ({ a with homed := false, set := { a.set with enable := false } } : AxisState).drive) ∧
      s.rest.lanes = (s.lanesRest (List.finRange 64)).lanes := by
  have hl : ∀ {γ : Type} (π : State → γ), (∀ (t : State) n, π (t.laneRest n) = π t) →
      π ((List.finRange 64).foldl (fun s n => s.laneRest n) s) = π s := fun π h => foldl_same π _ (fun t n => h t n) _ s
  have hc : ∀ {γ : Type} (π : State → γ) (u : State), (∀ (t : State) p, π (t.camRest p) = π t) →
      π ((List.finRange 4).foldl (fun s p => s.camRest p) u) = π u := fun π u h => foldl_same π _ (fun t n => h t n) _ u
  unfold State.rest
  dsimp only
  simp only [State.setPower_dram, State.writeHealth_dram, State.setPower_time, State.writeHealth_time,
    State.setPower_print, State.writeHealth_print, State.setPower_motion, State.writeHealth_motion, State.setPower_lanes, State.writeHealth_lanes]
  refine ⟨?_, trivial, ?_, ?_, ?_, ?_⟩
  · unfold State.setPower
    simp only [State.raiseF_sys, State.writeHealth_sys]
    rw [hc State.sys _ (fun t p => State.camRest_sys ..), hl State.sys (fun t p => State.laneRest_sys ..)]
  · rw [hc State.time _ (fun t p => State.camRest_time ..), hl State.time (fun t p => State.laneRest_time ..)]
  · rw [hc State.print _ (fun t p => State.camRest_print ..), hl State.print (fun t p => State.laneRest_print ..)]
  · rw [hc State.motion _ (fun t p => State.camRest_motion ..), hl State.motion (fun t p => State.laneRest_motion ..)]
  · rw [hc State.lanes _ (fun t p => State.camRest_lanes ..)]
    rfl

theorem State.restLane_down (k : LaneNo) (hv : s.lanes.lanes[k].vendor = true) : s.rest.lanes.lanes[k].st = .down := by
  obtain ⟨-, -, -, -, -, hl⟩ := s.rest_parts
  have h := State.lanesRest_down (List.finRange 64) s k hv (.inl (List.mem_finRange k))
  rw [← hl] at h
  exact h

/-- An entry to DORMANT answers the commands that ordered it, and rests (R594). -/
theorem execDormantEntry_rests (he : s.sys.entering ≠ []) (hp : s.sys.power ≠ .dormant) (hm : s.mayRest = true) :
    execDormantEntry s = (s.sys.entering.foldl (fun (t : State) w => t.respond w.origin 0xE0 w.tag .ok (low40 s.sys.power.code))
      ({ s with sys := { s.sys with entering := [] } } : State).rest).done := by
  unfold execDormantEntry
  rw [if_neg (by simp [he, hp, hm])]

theorem execDormantEntry_stays (h : s.sys.entering = [] ∨ s.mayRest = false) : execDormantEntry s = s.done := by
  unfold execDormantEntry
  rw [if_pos (by rcases h with h | h <;> simp [h])]

theorem State.laneBegins (n : LaneNo) (hv : s.lanes.lanes[n].vendor = true) (hf : s.lanes.lanes[n].fitted = true)
    (he : s.lanes.lanes[n].enabled = true) (hd : s.lanes.lanes[n].st = .down) : s.lanesBegin.lanes.lanes[n].st = .detect := by
  have hc : (s.lanes.lanes[n.val].vendor && s.lanes.lanes[n.val].fitted && s.lanes.lanes[n.val].enabled && s.lanes.lanes[n.val].st == .down) = true := by
    simpa using ⟨⟨⟨hv, hf⟩, he⟩, hd⟩
  simp only [State.lanesBegin, Fin.getElem_fin, Vector.getElem_map, if_pos hc]

/-- An exit from DORMANT that no command waits for (R594). -/
theorem execDormantExit_runs {src : PowerSource} (hp : s.sys.power = .dormant) (hw : s.sys.wake = some src) (hr : s.sys.runWaits = []) :
    execDormantExit s = (State.setPower (State.lanesBegin { s with
      draws := s.draws + s.dram.dqsBase.length
      dram := { s.dram with selfRefresh := false, dqsDrift := s.dram.drift s.dqsReadings }
      sys := { s.sys with wake := none, runWaits := [] } }) .run src).done := by
  unfold execDormantExit
  simp only [hp, hw, hr, List.foldl_nil]

theorem State.setPower_sys (q : Power) (src : PowerSource) : (s.setPower q src).sys = { s.sys with power := q } := by
  unfold State.setPower
  split <;> simp only [State.raiseF_sys]

/-- Settles O28, from what the lanes, axes and time are after the entry, and what the exit applies. -/
theorem dormantIsEnteredAndLeft : Obligations.DormantIsEnteredAndLeft := by
  unfold Obligations.DormantIsEnteredAndLeft
  refine ⟨fun s he hp hm => ?_, fun s hq h => ?_, fun s src hp hw hr => ?_⟩
  · refine ⟨_, execDormantEntry_rests he hp hm, ?_⟩
    have hf : ∀ {γ : Type} (π : State → γ), (∀ (t : State) (w : PowerWait), π (t.respond w.origin 0xE0 w.tag .ok (low40 s.sys.power.code)) = π t) →
        ∀ u : State, π (s.sys.entering.foldl (fun (t : State) w => t.respond w.origin 0xE0 w.tag .ok (low40 s.sys.power.code)) u) = π u :=
      fun π h u => foldl_same π _ h _ u
    have hl : ∀ n : LaneNo, s.lanes.lanes[n].vendor = true →
        ({ s with sys := { s.sys with entering := [] } } : State).rest.lanes.lanes[n].st = .down := fun n hv => State.restLane_down n hv
    obtain ⟨hy, hd, ht, hpr, hm, -⟩ := ({ s with sys := { s.sys with entering := [] } } : State).rest_parts
    generalize ({ s with sys := { s.sys with entering := [] } } : State).rest = r at hl hy hd ht hpr hm ⊢
    have hsys := (State.settle_sys _).trans (hf State.sys (fun t w => State.respond_sys ..) r)
    have hdram := (State.settle_dram _).trans (hf State.dram (fun t w => State.respond_dram ..) r)
    have htime := (State.settle_time _).trans (hf State.time (fun t w => State.respond_time ..) r)
    have hmotion := (State.settle_motion _).trans (hf State.motion (fun t w => State.respond_motion ..) r)
    have hlanes := (State.settle_lanes _).trans (hf State.lanes (fun t w => State.respond_lanes ..) r)
    have hprint := (State.settle_print _).trans (hf State.print (fun t w => State.respond_print ..) r)
    rw [hsys, hdram, htime, hmotion, hlanes, hprint, hy, ht, hpr, hm]
    refine ⟨rfl, rfl, hd, rfl, rfl, fun ax => ?_, hl, rfl⟩
    simp only [Fin.getElem_fin, Vector.getElem_map]
    exact ⟨rfl, rfl⟩
  · change execDormantEntry s = _
    rw [execDormantEntry_stays h]
    exact State.done_quiet s hq
  · refine ⟨_, s.dqsReadings, execDormantExit_runs hp hw hr, ?_⟩
    simp only [State.settle_sys, State.settle_dram, State.settle_time, State.settle_lanes, State.settle_print, State.setPower_sys,
      State.setPower_dram, State.setPower_time, State.setPower_lanes, State.setPower_print, State.lanesBegin_sys, State.lanesBegin_time,
      State.lanesBegin_print]
    refine ⟨by simp [State.dqsReadings], trivial, trivial, rfl, rfl, trivial, trivial, fun n hv hf he hd => ?_⟩
    exact State.laneBegins (s := { s with
      draws := s.draws + s.dram.dqsBase.length
      dram := { s.dram with selfRefresh := false, dqsDrift := s.dram.drift s.dqsReadings }
      sys := { s.sys with wake := none, runWaits := [] } }) n hv hf he hd

/-! ### Reads of the patrol scrub -/

theorem readOutcome_elsewhere {r : DramRead} (free : Nat) (h : r.elsewhere = true) : readOutcome r free = .uncorrectable := by
  unfold readOutcome
  rw [if_pos h]

/-- The outcome by the symbols in error of the worst codeword (R584). -/
theorem readOutcome_symbols {r : DramRead} (free : Nat) (h : r.elsewhere = false) :
    (worstCodeword r = 0 → readOutcome r free = .clean) ∧ (worstCodeword r = 1 → readOutcome r free = .corrected) ∧
      (worstCodeword r = 2 ∨ worstCodeword r = 3 → readOutcome r free = .uncorrectable) := by
  unfold readOutcome
  rw [h]
  refine ⟨fun h => by simp [h], fun h => by simp [h], fun h => ?_⟩
  rcases h with h | h <;> simp [h]

theorem State.readBurst_clean {b : BurstRead} (src : Nat) (hp : b.burst ∉ s.dram.poisoned) (he : b.read.elsewhere = false) (hw : worstCodeword b.read = 0) :
    s.readBurst src b = (s, false) := by
  unfold State.readBurst
  simp [hw, hp, (readOutcome_symbols s.free.toNat he).1 hw]

theorem State.readBurst_corrected {b : BurstRead} (src : Nat) (hp : b.burst ∉ s.dram.poisoned) (he : b.read.elsewhere = false)
    (hw : worstCodeword b.read = 1) : s.readBurst src b = (s.correctedError b.burst.toNat, false) := by
  unfold State.readBurst
  simp [hw, hp, (readOutcome_symbols s.free.toNat he).2.1 hw]

theorem State.correctedError_dram (n : Nat) : (s.correctedError n).dram.corrected = min (2 ^ 64 - 1) (s.dram.corrected + 1) ∧
    (s.correctedError n).dram.uncorrected = s.dram.uncorrected ∧ (s.correctedError n).dram.poisoned = s.dram.poisoned ∧
    (s.correctedError n).dram.scrubNext = s.dram.scrubNext := by
  unfold State.correctedError
  dsimp only
  split
  · exact ⟨rfl, rfl, rfl, rfl⟩
  · split
    · exact ⟨rfl, rfl, rfl, rfl⟩
    · rw [State.raiseF_dram]
      exact ⟨rfl, rfl, rfl, rfl⟩

theorem State.readBurst_lost {b : BurstRead} (src : Nat)
    (h : b.burst ∈ s.dram.poisoned ∨ b.read.elsewhere = true ∨ worstCodeword b.read = 2 ∨ worstCodeword b.read = 3) :
    ∃ t : State, t.dram = s.dram ∧ s.readBurst src b = (t.uncorrectable b.burst src, true) := by
  have ho : (if s.dram.poisoned.contains b.burst then Ecc.uncorrectable else readOutcome b.read s.free.toNat) = .uncorrectable := by
    by_cases hp : b.burst ∈ s.dram.poisoned
    · simp [hp]
    · rw [if_neg (by simpa using hp)]
      rcases h with h | h | h
      · exact absurd h hp
      · exact readOutcome_elsewhere _ h
      · cases he : b.read.elsewhere with
        | true => exact readOutcome_elsewhere _ he
        | false => exact (readOutcome_symbols _ he).2.2 h
  unfold State.readBurst
  rw [ho]
  refine ⟨if 3 < worstCodeword b.read then s.drew else s, ?_, rfl⟩
  split <;> rfl

theorem State.uncorrectable_dram (b : BitVec 30) (src : Nat) : (s.uncorrectable b src).dram.corrected = s.dram.corrected ∧
    (s.uncorrectable b src).dram.uncorrected = min (2 ^ 64 - 1) (s.dram.uncorrected + 1) ∧ b ∈ (s.uncorrectable b src).dram.poisoned ∧
    (s.uncorrectable b src).dram.scrubNext = s.dram.scrubNext := by
  unfold State.uncorrectable
  rw [State.raiseF_dram]
  refine ⟨rfl, rfl, ?_, rfl⟩
  dsimp only
  split
  · next h => simpa using h
  · exact List.mem_cons_self

theorem State.readBurst_scrubNext (src : Nat) (b : BurstRead) : (s.readBurst src b).1.dram.scrubNext = s.dram.scrubNext := by
  have hd : (if 3 < worstCodeword b.read then s.drew else s).dram = s.dram := by split <;> rfl
  unfold State.readBurst
  dsimp only
  generalize (if 3 < worstCodeword b.read then s.drew else s) = t at hd
  rw [← hd]
  split
  · rfl
  · obtain ⟨-, -, -, h⟩ := State.correctedError_dram (s := t) b.burst.toNat
    exact h
  · obtain ⟨-, -, -, h⟩ := State.uncorrectable_dram (s := t) b.burst src
    exact h

theorem State.scrubbed_counts (s : State) : s.scrubbed.dram.corrected = s.dram.corrected ∧ s.scrubbed.dram.uncorrected = s.dram.uncorrected ∧
    s.scrubbed.dram.poisoned = s.dram.poisoned := ⟨rfl, rfl, rfl⟩

/-- Settles O29, by the outcomes of a read. -/
theorem dramStepsFollowTheController : Obligations.DramStepsFollowTheController := by
  unfold Obligations.DramStepsFollowTheController
  refine ⟨fun s r hr hl => ?_, fun s r hq h => ?_, fun s ns hq hr => ?_, fun s l hq hr => ?_⟩
  · have he : exec (.patrolScrubBurst r) s = (s.scrubbed.readBurst 2 ⟨BitVec.ofNat 30 s.dram.scrubNext, r⟩).1.done := by
      change execPatrolScrubBurst r s = _
      unfold execPatrolScrubBurst
      rw [if_neg (by simpa [hr] using hl)]
    refine ⟨_, he, ?_⟩
    simp only [State.settle_dram, State.settle_print, State.settle_time, State.readBurst_print, State.readBurst_time,
      State.scrubbed_print, State.scrubbed_time, State.readBurst_scrubNext]
    obtain ⟨sc, su, sp⟩ := s.scrubbed_counts
    refine ⟨rfl, fun hp he hw => ?_, fun hp he hw => ?_, fun h => ?_, trivial, trivial⟩
    · rw [State.readBurst_clean (s := s.scrubbed) (b := ⟨BitVec.ofNat 30 s.dram.scrubNext, r⟩) 2 hp he hw]
      exact s.scrubbed_counts
    · rw [State.readBurst_corrected (s := s.scrubbed) (b := ⟨BitVec.ofNat 30 s.dram.scrubNext, r⟩) 2 hp he hw]
      obtain ⟨hc, hu, hpo, -⟩ := State.correctedError_dram (s := s.scrubbed) (BitVec.ofNat 30 s.dram.scrubNext).toNat
      rw [sc] at hc
      rw [su] at hu
      rw [sp] at hpo
      dsimp only
      exact ⟨hc, hu, hpo⟩
    · obtain ⟨t, ht, hb⟩ := State.readBurst_lost (s := s.scrubbed) (b := ⟨BitVec.ofNat 30 s.dram.scrubNext, r⟩) 2 h
      obtain ⟨hc, hu, hpo, -⟩ := State.uncorrectable_dram (s := t) (BitVec.ofNat 30 s.dram.scrubNext) 2
      rw [ht, sc] at hc
      rw [ht, su] at hu
      rw [hb]
      dsimp only
      exact ⟨hc, hu, hpo⟩
  · change execPatrolScrubBurst r s = _
    unfold execPatrolScrubBurst
    rw [if_pos (by rcases h with h | h <;> simp [h])]
    exact State.done_quiet s hq
  · change execDqsDriftUpdate ns s = _
    unfold execDqsDriftUpdate
    rw [if_neg (by simp [hr])]
    exact State.done_quiet _ hq
  · change execRefreshRateRead l s = _
    unfold execRefreshRateRead
    rw [if_neg (by simp [hr])]
    exact State.done_quiet _ hq

end Sys2Proof.Machine
end

section
/-!
SUPPORT. The governor's outputs and its peers' messages (R221, R222, R225, R226).
-/

namespace Sys2Proof.Machine

variable {s : State} {c : Cmd}

/-- A change of the causes moves of the governor only them, HOLD_REQ and its release (R222, R226). -/
theorem State.setCauses_gov (v : BitVec 5) :
    ∃ hold wait, (s.setCauses v).gov = { s.gov with causes := v, holdReq := hold, releaseWait := wait } := by
  unfold State.setCauses
  dsimp only
  split
  · split
    · exact ⟨s.gov.holdReq, none, rfl⟩
    · rw [State.raiseF_gov, State.irq_gov]
      exact ⟨true, none, rfl⟩
  · split
    · exact ⟨s.gov.holdReq, some (lowCause s.gov.causes), rfl⟩
    · exact ⟨s.gov.holdReq, s.gov.releaseWait, rfl⟩

/-- What a peer's message or its loss leaves of the governor's kept messages and its limit. -/
theorem State.peerHold_gov : s.peerHold.gov.kept = s.gov.kept ∧ s.peerHold.gov.limit = s.gov.limit := by
  obtain ⟨hold, wait, h⟩ := State.setCauses_gov (s := s)
    (if s.gov.kept.any (fun k => k.hold && s.gov.peers.contains k.node) then s.gov.causes ||| (1#5 <<< 3) else s.gov.causes &&& ~~~(1#5 <<< 3))
  have hp : s.peerHold.gov = _ := h
  rw [hp]
  exact ⟨rfl, rfl⟩

theorem GovPart.keep_find (g : GovPart) (src : NodeNo) (w : Word) : (g.keep src w).kept.find? (fun k => k.node == src) =
    some ⟨src, 2000 * bits w 7 0, bitAt w 12, BitVec.ofNat 16 (bits w 31 16)⟩ := by
  have hn : (g.kept.filter (fun k => k.node != src)).find? (fun k => k.node == src) = none := by
    rw [List.find?_eq_none]
    intro k hk
    simpa using (List.mem_filter.mp hk).2
  simp [GovPart.keep, List.find?_append, hn]

/-- A peer's message of a newer SEQ is kept (R225). -/
theorem execGovernorMessage_keeps {src : NodeNo} {w : Word} (hs : src ≠ 0) (hp : s.gov.peers.contains src = true)
    (hq : ∀ q, s.gov.lastSeq.find? (fun k => k.1 == src) = some q → seqAfter (BitVec.ofNat 16 (bits w 31 16)) q.2 = true) :
    execGovernorMessage src w s = (State.peerHold { s.takeFrame 2 [w] with gov := s.gov.keep src w }).done := by
  have hold : ((s.gov.lastSeq.find? (fun k => k.1 == src)).map (fun k => k.2)).any
      (fun q => !seqAfter (BitVec.ofNat 16 (bits w 31 16)) q) = false := by
    cases hf : s.gov.lastSeq.find? (fun k => k.1 == src) with
    | none => rfl
    | some q => simp [hq q hf]
  unfold execGovernorMessage
  simp only [State.takeFrame_gov]
  rw [if_neg (by simpa [hold, List.contains_iff_mem.mp hp] using hs)]

theorem execGovernorMessage_foreign {src : NodeNo} {w : Word} (h : src = 0 ∨ s.gov.peers.contains src = false) :
    execGovernorMessage src w s = (s.takeFrame 2 [w]).done := by
  unfold execGovernorMessage
  simp only [State.takeFrame_gov]
  rw [if_pos]
  rcases h with h | h
  · simp [h]
  · have hm : src ∉ s.gov.peers := by simpa using h
    simp [hm]

/-- Settles O33, output by output. -/
theorem governorOutputsAndPeers : Obligations.GovernorOutputsAndPeers := by
  unfold Obligations.GovernorOutputsAndPeers
  refine ⟨fun s hq hd => ?_, fun s hq hd => ?_, fun s c hw hh hc => ?_, fun s hq hc => ?_, fun s hq hd => ?_, fun s src w h0 hp hs => ?_,
    fun s src w hq h => ?_, fun s hn => ?_, fun s src hk => ?_⟩
  · change execSpdlimPeriod s = _
    unfold execSpdlimPeriod
    rw [if_pos hd]
    exact State.done_quiet _ hq
  · change execSpdlimPeriod s = _
    unfold execSpdlimPeriod
    rw [if_neg (by simp [hd])]
    exact State.done_quiet s hq
  · have he : execHoldReqRelease s = ((({ s with gov := { s.gov with holdReq := false, releaseWait := none } } : State).irq 18).raiseF
        .governorHold [0, fld 1 3 c]).done := by
      unfold execHoldReqRelease
      simp only [hw]
      rw [if_pos ⟨hh, hc⟩]
    refine ⟨_, he, ?_⟩
    simp only [State.settle_gov, State.raiseF_gov, State.irq_gov, State.settle_print, State.raiseF_print, State.irq_print]
    exact ⟨trivial, trivial⟩
  · change execHoldReqRelease s = _
    unfold execHoldReqRelease
    split
    · rw [if_neg (fun h => hc h.2)]
      exact State.done_quiet s hq
    · exact State.done_quiet s hq
  · refine ⟨s.drive, ?_, rfl, rfl, rfl, rfl, rfl⟩
    change execDrivingBegins s = _
    unfold execDrivingBegins
    rw [if_pos hd]
    exact State.done_quiet _ hq
  · refine ⟨_, execGovernorMessage_keeps h0 hp hs, ?_⟩
    simp only [State.settle_gov, State.settle_print, State.peerHold_gov.1, State.peerHold_gov.2, State.peerHold_print, State.takeFrame_print]
    exact ⟨GovPart.keep_find _ _ _, rfl, trivial⟩
  · change execGovernorMessage src w s = _
    rw [execGovernorMessage_foreign h]
    exact State.done_quiet _ (by rw [State.quiet, State.takeFrame_host]; exact hq)
  · have he : execGovernorMessageSend s = ((s.gov.peers.filter (fun n => n != 0)).foldl (fun (t : State) n => t.fabSend 2 n [s.gov.message])
        { s with gov := { s.gov with seq := s.gov.seq + 1 } }).done := by
      unfold execGovernorMessageSend
      rw [if_neg (by simp [hn])]
    refine ⟨_, he, ?_⟩
    rw [State.settle_gov, State.settle_print, foldl_same State.gov _ (fun t n => State.fabSend_gov ..),
      foldl_same State.print _ (fun t n => State.fabSend_print ..)]
    exact ⟨rfl, rfl, rfl⟩
  · have he : execGovernorPeerLost src s = (State.peerHold (State.raiseF { s with gov := { s.gov with kept := s.gov.kept.filter (fun k => k.node != src) } }
        .governorPeerLost [fld 0 12 src.toNat])).done := by
      unfold execGovernorPeerLost
      rw [if_pos hk]
    refine ⟨_, he, ?_⟩
    simp only [State.settle_gov, State.settle_print, State.peerHold_gov.1, State.peerHold_print, State.raiseF_gov, State.raiseF_print]
    exact ⟨trivial, trivial⟩

end Sys2Proof.Machine
end

section
/-!
SUPPORT. The items of head ports (R269, R290), bar lines taken one by one (R14), and the hold limit (R248).
-/

namespace Sys2Proof.Machine

variable {s : State} {c : Cmd}

/-! ### An item that is ready on a port stays ready -/

theorem placeItem_mem (x : TxItem) (l : List TxItem) : x ∈ placeItem x l := by
  induction l with
  | nil => exact List.mem_singleton.mpr rfl
  | cons y l ih =>
    unfold placeItem
    split
    · exact List.mem_cons_self
    · exact List.mem_cons_of_mem y ih

/-- A block slot moves of a head port only its slots and its queue. -/
def HeadState.LinkMoves (h k : HeadState) : Prop := ∃ a b q, k = { h with slot := a, skipFrom := b, queue := q }

theorem HeadState.sendSlot_moves (h : HeadState) (k : Nat) : h.LinkMoves (h.sendSlot k).1 := by
  unfold HeadState.sendSlot
  dsimp only
  split
  · split
    · exact ⟨_, _, _, rfl⟩
    · exact ⟨_, _, _, rfl⟩
  · split
    · exact ⟨_, _, _, rfl⟩
    · exact ⟨_, _, _, rfl⟩

theorem HeadState.LinkMoves.trans {h k l : HeadState} (hk : h.LinkMoves k) (kl : k.LinkMoves l) : h.LinkMoves l := by
  obtain ⟨a, b, q, rfl⟩ := hk
  obtain ⟨a', b', q', rfl⟩ := kl
  exact ⟨a', b', q', rfl⟩

theorem HeadState.sendSlots_moves (to_ fuel : Nat) (h : HeadState) : h.LinkMoves (HeadState.sendSlots to_ fuel h).1 := by
  induction fuel generalizing h with
  | zero => exact ⟨_, _, _, rfl⟩
  | succ fuel ih =>
    unfold HeadState.sendSlots
    dsimp only
    generalize (if h.queue = [] then max h.slot h.skipFrom else h.slot) = k
    split
    · exact ⟨_, _, _, rfl⟩
    · exact (h.sendSlot_moves k).trans (ih _)

theorem State.portSlots_other (p q : HeadPort) (h : p ≠ q) : (s.portSlots p).heads.ports[q] = s.heads.ports[q] := by
  unfold State.portSlots
  split
  · rfl
  · simp [Vector.getElem_set, Fin.val_inj, h]

theorem State.portSlots_moves (p : HeadPort) : s.heads.ports[p].LinkMoves (s.portSlots p).heads.ports[p] := by
  unfold State.portSlots
  split
  · exact ⟨_, _, _, rfl⟩
  · have hm : s.heads.ports[p].LinkMoves (s.heads.ports[p].slotsTo s.slotNow).1 := HeadState.sendSlots_moves _ _ _
    simpa using hm

/-- An item offered on a port moves no other port; on its own it waits in the queue (R269). -/
theorem State.offer_other (p q : HeadPort) (x : TxItem) (h : p ≠ q) : (s.offer p x).heads.ports[q] = s.heads.ports[q] := by
  unfold State.offer State.setHead
  dsimp only
  rw [upd_fin, if_neg h, State.portSlots_other p q h]

theorem State.offer_waits (p : HeadPort) (x : TxItem) : x ∈ (s.offer p x).heads.ports[p].queue := by
  unfold State.offer State.setHead
  dsimp only
  rw [upd_fin, if_pos rfl]
  exact placeItem_mem x _

/-- An offer leaves of a port all but its slots and its queue. -/
theorem State.offer_moves (p q : HeadPort) (x : TxItem) : s.heads.ports[q].LinkMoves (s.offer p x).heads.ports[q] := by
  by_cases h : p = q
  · subst h
    unfold State.offer State.setHead
    dsimp only
    rw [upd_fin, if_pos rfl]
    exact (s.portSlots_moves p).trans ⟨_, _, _, rfl⟩
  · rw [s.offer_other p q x h]
    exact ⟨_, _, _, rfl⟩

theorem State.portUsed_moves {t : State} (hl : t.lanes = s.lanes) {p : HeadPort} (hm : s.heads.ports[p].LinkMoves t.heads.ports[p]) :
    t.portUsed p = s.portUsed p := by
  obtain ⟨a, b, q, hq⟩ := hm
  unfold State.portUsed State.headActive
  rw [hl, hq]

/-- An item is offered on the ports in use of a list, one after the other. -/
def State.offerUsed (s : State) (x : TxItem) (l : List HeadPort) : State := l.foldl (fun s p => if s.portUsed p then s.offer p x else s) s

theorem State.offerUsed_cons (x : TxItem) (p : HeadPort) (l : List HeadPort) :
    s.offerUsed x (p :: l) = (if s.portUsed p then s.offer p x else s).offerUsed x l := rfl

/-- Each port in use of a list without repetitions holds the item then, and every other port is as it was. -/
theorem State.offerUsed_ports (x : TxItem) (l : List HeadPort) (hn : l.Nodup) (s : State) (q : HeadPort) :
    (q ∈ l → s.portUsed q = true → x ∈ (s.offerUsed x l).heads.ports[q].queue) ∧
      (q ∉ l → (s.offerUsed x l).heads.ports[q] = s.heads.ports[q]) := by
  induction l generalizing s with
  | nil => exact ⟨fun h => absurd h List.not_mem_nil, fun _ => rfl⟩
  | cons p l ih =>
    obtain ⟨hpl, hn⟩ := List.nodup_cons.mp hn
    rw [State.offerUsed_cons]
    obtain ⟨hin, hout⟩ := ih hn (if s.portUsed p then s.offer p x else s)
    refine ⟨fun hq hu => ?_, fun hq => ?_⟩
    · rcases List.mem_cons.mp hq with rfl | hq
      · rw [hout hpl, if_pos hu]
        exact State.offer_waits q x
      · refine hin hq ?_
        split
        · rw [State.portUsed_moves (State.offer_lanes ..) (State.offer_moves p q x), hu]
        · exact hu
    · rw [List.mem_cons, not_or] at hq
      rw [hout hq.2]
      split
      · exact State.offer_other p q x (Ne.symm hq.1)
      · rfl

/-! ### A bar line is taken -/

theorem State.lineTaken_lines (n : Nat) : (s.lineTaken n).sluice.coreLine = n ∧ (s.lineTaken n).sluice.barLine = s.sluice.barLine := by
  unfold State.lineTaken
  extract_lets q s1 s2 s3 s5 s6 s7
  have h7 : s7.sluice.coreLine = n ∧ s7.sluice.barLine = s.sluice.barLine := by
    have h5 : s5.sluice.coreLine = n ∧ s5.sluice.barLine = s.sluice.barLine := by simp [s5, s3, s2, s1, q]
    have h6 : s6.sluice = s5.sluice := by
      simp only [s6]
      split <;> simp
    simpa [s7, h6] using h5
  split
  · split <;> simpa using h7
  · exact h7

theorem exec_lineBoundary (s : State) (a : Word) : exec (.lineBoundary a) s = execLineBoundary a s := rfl

/-- A line boundary takes the next line while printing is started and a line waits (R14). -/
theorem execLineBoundary_takes (a : Word) (hp : s.print.started = true) (hl : s.sluice.coreLine < s.sluice.barLine) :
    execLineBoundary a s = ((s.reach a).allSlots.lineTaken (s.sluice.coreLine + 1)).done := by
  unfold execLineBoundary
  have hc : ((s.reach a).allSlots.print.started && decide ((s.reach a).allSlots.sluice.coreLine < (s.reach a).allSlots.sluice.barLine)) = true := by
    simp [hp, hl]
  simp only [hc, if_true]
  simp

theorem execLineBoundary_stays (a : Word) (h : s.print.started = false ∨ s.sluice.barLine ≤ s.sluice.coreLine) :
    execLineBoundary a s = (s.reach a).allSlots.done := by
  unfold execLineBoundary
  have hc : ¬((s.reach a).allSlots.print.started && decide ((s.reach a).allSlots.sluice.coreLine < (s.reach a).allSlots.sluice.barLine)) = true := by
    rcases h with h | h
    · simp [h]
    · simp [Nat.not_lt.mpr h]
  rw [if_neg hc]

/-- A tickle goes to every port in use once no line waits to fire (R247, R290). -/
theorem execKeepWetTickle_offers (a : Word) (hp : s.print.started = true) (hl : (s.reach a).retire.sluice.lines = []) (hs : s.silenced = false) :
    ∃ t : State, execKeepWetTickle a s = .next t ∧ t.heads = ((s.reach a).retire.offerUsed tickleItem (List.finRange 32)).heads ∧
      t.sluice = { ((s.reach a).retire).sluice with tickled := some (s.reach a).time.raw, wetTold := true } ∧ t.print = s.print := by
  have hc : ¬(!(s.reach a).retire.print.started || !(s.reach a).retire.sluice.lines.isEmpty || (s.reach a).retire.silenced) = true := by
    have hsil : (s.reach a).retire.silenced = s.silenced := by simp [State.silenced]
    rw [hsil, hs, hl]
    simp [hp]
  have hf : ∀ {γ : Type} (π : State → γ), (∀ (t : State) (p : HeadPort), π (t.offer p tickleItem) = π t) →
      π ((s.reach a).retire.offerUsed tickleItem (List.finRange 32)) = π (s.reach a).retire := fun π h =>
    foldl_same π _ (fun t p => by
      split
      · exact h t p
      · rfl) _ _
  have hslu := hf State.sluice (fun t p => State.offer_sluice ..)
  have htim := hf State.time (fun t p => State.offer_time ..)
  have hpri := hf State.print (fun t p => State.offer_print ..)
  have he : (List.finRange 32).foldl (fun (t : State) p => if t.portUsed p then t.offer p tickleItem else t) (s.reach a).retire =
      (s.reach a).retire.offerUsed tickleItem (List.finRange 32) := rfl
  unfold execKeepWetTickle
  simp only [if_neg hc, he]
  generalize (s.reach a).retire.offerUsed tickleItem (List.finRange 32) = u at hslu htim hpri ⊢
  split
  · refine ⟨_, rfl, ?_⟩
    simp only [State.settle_heads, State.settle_sluice, State.settle_print, hslu, htim, hpri]
    simp
  · refine ⟨_, rfl, ?_⟩
    simp only [State.settle_heads, State.settle_sluice, State.settle_print, State.raise_heads, State.raise_sluice, State.raise_print]
    exact ⟨trivial, by rw [← hslu]; simp [htim], by rw [hpri]; simp⟩

/-- The hold limit interrupts the page that prints (R248). -/
theorem execHoldLimitExpiry_interrupts {sp : Span} (hsp : s.print.span = some sp) (hf : sp.fallback = false) (ht : s.sluice.holdTold = false)
    (hsh : s.shadow = false) (hh : sp.desc.holdAbort = false) :
    execHoldLimitExpiry s = ((State.raiseF { s with sluice := { s.sluice with holdTold := true }, print := { s.print with
      span := some { sp with interrupted := true } } } .pageInterrupted [sp.desc.id.toNat, fld 32 1 (b2n sp.desc.holdAbort)]).defect
        .interruption s.sluice.barLine s.sluice.barLine).done := by
  have hshd : ({ s with sluice := { s.sluice with holdTold := true } } : State).shadow = false := hsh
  unfold execHoldLimitExpiry
  simp only [hsp, ht, hf, hh, hshd, Bool.or_self, Bool.false_eq_true, if_false]

/-- Settles O31, command by command. -/
theorem barLinesAreTakenOneByOne : Obligations.BarLinesAreTakenOneByOne := by
  unfold Obligations.BarLinesAreTakenOneByOne
  refine ⟨fun s a hp hl => ?_, fun s a hq h => ?_, fun s n hq => ?_, fun s a hp hl hs => ?_, fun s sp hsp hf ht hsh hh => ?_,
    fun s sp hq hsp h => ?_, fun s hq hn => ?_⟩
  · refine ⟨State.settle _, (exec_lineBoundary s a).trans (execLineBoundary_takes a hp hl), ?_⟩
    obtain ⟨hc, hb⟩ := State.lineTaken_lines (s := (s.reach a).allSlots) (s.sluice.coreLine + 1)
    simp only [State.settle_sluice, State.settle_time, State.settle_lanes, hc, hb, State.lineTaken_time, State.lineTaken_lanes]
    simp
  · refine ⟨State.settle _, (exec_lineBoundary s a).trans (execLineBoundary_stays a h), ?_⟩
    simp
  · exact State.done_quiet _ hq
  · obtain ⟨t, he, hheads, hslu, hpri⟩ := execKeepWetTickle_offers a hp hl hs
    refine ⟨t, he, by rw [hslu], by rw [hslu], fun p hu => ?_, by rw [hslu]; simp, hpri⟩
    rw [hheads]
    refine (State.offerUsed_ports tickleItem _ (List.nodup_finRange 32) _ p).1 (List.mem_finRange p) ?_
    simpa [State.portUsed, State.headActive] using hu
  · obtain ⟨ds, n, hd⟩ := State.defect_records (s := ((({ s with sluice := { s.sluice with holdTold := true }, print := { s.print with
        span := some { sp with interrupted := true } } } : State).raiseF .pageInterrupted [sp.desc.id.toNat, fld 32 1 (b2n sp.desc.holdAbort)])))
      (sp := { sp with interrupted := true }) (by rw [State.raiseF_print]) .interruption s.sluice.barLine s.sluice.barLine
    refine ⟨State.settle _, _, execHoldLimitExpiry_interrupts hsp hf ht hsh hh, (congrArg PrintPart.span (State.settle_print _)).trans hd, rfl, rfl, rfl, ?_⟩
    rw [State.settle_sluice, State.defect_sluice, State.raiseF_sluice]
  · change execHoldLimitExpiry s = _
    unfold execHoldLimitExpiry
    simp only [hsp]
    rw [if_pos (by rcases h with h | h <;> simp [h])]
    exact State.done_quiet _ hq
  · change execHoldLimitExpiry s = _
    unfold execHoldLimitExpiry
    simp only [hn]
    exact State.done_quiet s hq

end Sys2Proof.Machine
end

section
/-!
SUPPORT. Product detection (R61 to R69).
-/

namespace Sys2Proof.Machine

variable {s : State} {c : Cmd}

theorem State.wakeBy_sleeping (src : PowerSource) (h : s.asleep = true) :
    s.wakeBy src = { s with sys := { s.sys with wake := some (s.sys.wake.getD src) } } := by
  unfold State.wakeBy
  cases hw : s.sys.wake with
  | none => rw [if_pos (by simp [h])]; rfl
  | some x =>
    have hy : ({ s.sys with wake := some ((some x).getD src) } : SysPart) = s.sys := by
      rw [Option.getD_some, ← hw]
    rw [if_neg (by simp), hy]

theorem State.fixStart_bounds (n : Nat) : (s.fixStart n).print.bounds = s.print.bounds :=
  foldl_printBounds _ (fun t i => State.assemble_printBounds ..) _ _

theorem State.fixStart_pendings (n : Nat) : (s.fixStart n).print.pendings = s.print.pendings :=
  foldl_printPendings _ (fun t i => State.assemble_printPendings ..) _ _

theorem PrintPart.pendings_get (p : PrintPart) (n : TrigNo) : p.pendings[n] = p.trigs[n].pending := by
  simp [PrintPart.pendings]

/-- What a start bound to a trigger input moves of printing: the bounds, and the starts its input waits for. -/
theorem State.bindStart_print (b : BoundStart) :
    (s.bindStart b).print.bounds = s.print.bounds.takeWhile (fun x => decide (x.start ≤ b.start)) ++
        b :: s.print.bounds.dropWhile (fun x => decide (x.start ≤ b.start)) ∧
      (s.bindStart b).print.trigs[b.trig].pending = s.print.trigs[b.trig].pending.takeWhile (fun l => decide (l ≤ b.start)) ++
        b.start :: s.print.trigs[b.trig].pending.dropWhile (fun l => decide (l ≤ b.start)) ∧
      (s.bindStart b).print.queue = s.print.queue := by
  unfold State.bindStart
  refine ⟨?_, ?_, ?_⟩
  · rw [State.fixStart_bounds]
    rfl
  · rw [← PrintPart.pendings_get, State.fixStart_pendings, PrintPart.pendings_get]
    simp only [State.setTrig, upd_fin, if_true]
  · rw [State.fixStart_queue]
    rfl

/-- A trigger that is refused tells of it, with its MARK_MISS pulse (R62, R68). -/
theorem State.refused_print (e : Code) (l : List Nat) (n : TrigNo) (start k : Nat) (w1 w2 : Word) :
    ((((s.raiseF e l).pulseFor n start).record k w1 w2).print.bounds = s.print.bounds ∧
      (((s.raiseF e l).pulseFor n start).record k w1 w2).print.queue = s.print.queue) ∧
      (((s.raiseF e l).pulseFor n start).record k w1 w2).print.trigs[n].pending = s.print.trigs[n].pending := by
  simp only [State.record_print]
  rw [← PrintPart.pendings_get, State.pulseFor_printPendings, State.pulseFor_printBounds, State.pulseFor_printQueue, State.raiseF_print,
    PrintPart.pendings_get]
  exact ⟨⟨rfl, rfl⟩, rfl⟩

/-- A trigger that comes while sixteen starts wait or too early binds nothing (R62 steps 1 and 2). -/
theorem State.decideTrigger_refuses (n : TrigNo) (line : Nat)
    (h : 16 ≤ s.print.trigs[n].pending.length ∨ line + s.print.trigs[n].set.delay < s.lastEdge + 96) :
    (s.decideTrigger n line).print.bounds = s.print.bounds ∧ (s.decideTrigger n line).print.queue = s.print.queue ∧
      (s.decideTrigger n line).print.trigs[n].pending = s.print.trigs[n].pending := by
  unfold State.decideTrigger
  by_cases h16 : 16 ≤ s.print.trigs[n].pending.length
  · simp only [if_pos h16]
    obtain ⟨⟨hb, hq⟩, hp⟩ := State.refused_print (s := s) .triggerOverflow
      [fld 0 32 (line + s.print.trigs[n].set.delay), fld 38 2 n.val] n (line + s.print.trigs[n].set.delay) 6 _ _
    exact ⟨hb, hq, hp⟩
  · simp only [if_neg h16, if_pos (h.resolve_left h16)]
    obtain ⟨⟨hb, hq⟩, hp⟩ := State.refused_print (s := s) .triggerEarly
      [fld 0 32 (line + s.print.trigs[n].set.delay), fld 38 2 n.val] n (line + s.print.trigs[n].set.delay) 6 _ _
    exact ⟨hb, hq, hp⟩

/-- A trigger binds the first eligible page (R62 step 3). -/
theorem State.decideTrigger_binds {n : TrigNo} {line : Nat} {q : QEntry} (hl : s.print.trigs[n].pending.length < 16)
    (he : s.lastEdge + 96 ≤ line + s.print.trigs[n].set.delay) (hu : s.unbound = some q) (hh : q.held = none) (hg : q.eligible line = true) :
    ∃ w1 w2, s.decideTrigger n line = (s.bindPage q n (line + s.print.trigs[n].set.delay)).record 6 w1 w2 := by
  unfold State.decideTrigger
  simp only [if_neg (Nat.not_le.mpr hl), if_neg (Nat.not_lt.mpr he), hu, hh, hg, Option.isSome_none, Bool.false_eq_true, if_false, if_true]
  exact ⟨_, _, rfl⟩

theorem PrintPart.waitingQ_mem {p : PrintPart} {q : QEntry} (h : q ∈ p.waitingQ) : q ∈ p.queue := by
  unfold PrintPart.waitingQ at h
  split at h
  · exact List.mem_of_mem_drop h
  · exact h

/-- The page that a trigger binds has its start and its input. -/
theorem State.bindPage_print {q : QEntry} (hq : q ∈ s.print.queue) (n : TrigNo) (start : Nat) :
    (∃ before after, s.print.bounds = before ++ after ∧ (s.bindPage q n start).print.bounds = before ++ ⟨n, start, some q.desc.id⟩ :: after ∧
      ∀ b ∈ before, b.start ≤ start) ∧
    (∃ before after, s.print.trigs[n].pending = before ++ after ∧
      (s.bindPage q n start).print.trigs[n].pending = before ++ start :: after ∧ ∀ l ∈ before, l ≤ start) ∧
    (∃ q' ∈ (s.bindPage q n start).print.queue, q'.desc = q.desc ∧ q'.start = some start ∧ q'.bound = some n) := by
  unfold State.bindPage
  obtain ⟨hb, hp, hqu⟩ := State.bindStart_print (s := s.setQ q.desc.id (fun q => { q with start := some start, bound := some n }))
    ⟨n, start, some q.desc.id⟩
  refine ⟨⟨_, _, (List.takeWhile_append_dropWhile).symm, hb, fun b hm => ?_⟩, ⟨_, _, (List.takeWhile_append_dropWhile).symm, hp, fun l hm => ?_⟩,
    { q with start := some start, bound := some n }, ?_, rfl, rfl, rfl⟩
  · simpa using List.mem_takeWhile_imp hm
  · simpa using List.mem_takeWhile_imp hm
  · rw [hqu]
    exact List.mem_map.mpr ⟨q, hq, by simp⟩

/-- A qualified edge on an input that takes it is decided (R61, R62). -/
theorem execProductDetect_decides {n : TrigNo} (ha : s.asleep = false) (hs : s.print.started = true) (hst : s.print.stopping = false)
    (hm : s.print.trigMode = true) (he : s.print.trigEnable.getLsbD n.val = true) (hsh : s.shadow = false) :
    execProductDetect n s = (s.decideTrigger n s.sluice.barLine).done := by
  unfold execProductDetect
  simp [ha, hs, hst, hm, he, hsh]

/-- Settles O32, by the branches of R62. -/
theorem productDetectBindsAPage : Obligations.ProductDetectBindsAPage := by
  unfold Obligations.ProductDetectBindsAPage
  refine ⟨fun s n hq ha => ?_, fun s n hq ha h => ?_, fun s n ha hs hst hm he hsh => ⟨fun h => ?_, fun q hl hg hu hh hel => ?_⟩⟩
  · change execProductDetect n s = _
    unfold execProductDetect
    rw [if_pos ha, State.wakeBy_sleeping _ ha]
    exact State.done_quiet _ hq
  · change execProductDetect n s = _
    unfold execProductDetect
    rw [if_neg (by simp [ha]), if_pos ?_]
    · exact State.done_quiet s hq
    · simp only [Bool.or_eq_true, Bool.not_eq_true', or_assoc]
      exact h
  · refine ⟨_, execProductDetect_decides ha hs hst hm he hsh, ?_⟩
    simp only [State.settle_print]
    exact State.decideTrigger_refuses n s.sluice.barLine h
  · refine ⟨_, execProductDetect_decides ha hs hst hm he hsh, ?_⟩
    obtain ⟨w1, w2, hd⟩ := State.decideTrigger_binds hl hg hu hh hel
    simp only [State.settle_print, State.settle_sluice, hd, State.record_print, State.record_sluice]
    obtain ⟨hb, hp, hqu⟩ := State.bindPage_print (PrintPart.waitingQ_mem (List.mem_of_find?_eq_some hu)) n
      (s.sluice.barLine + s.print.trigs[n].set.delay)
    refine ⟨hb, hp, hqu, ?_⟩
    simp [State.bindPage]

end Sys2Proof.Machine
end

section
/-!
SUPPORT. Samples and transitions of the encoder interfaces (R304 to R311).
-/

namespace Sys2Proof.Machine

variable {s : State} {c : Cmd}

theorem State.setEnc_get (k j : EncNo) (f : EncState → EncState) :
    (s.setEnc k f).enc.encs[j] = if k = j then f s.enc.encs[j] else s.enc.encs[j] := upd_fin _ _ _ _

theorem State.setEnc_same (k : EncNo) (f : EncState → EncState) : (s.setEnc k f).enc.encs[k] = f s.enc.encs[k] := by
  rw [State.setEnc_get, if_pos rfl]

theorem State.setEnc_other {k j : EncNo} (h : j ≠ k) (f : EncState → EncState) : (s.setEnc k f).enc.encs[j] = s.enc.encs[j] := by
  rw [State.setEnc_get, if_neg (Ne.symm h)]

/-- From s to t only one interface changes, of the sluice only a switch that is ordered, and nothing of printing. -/
structure State.EncMoves (s : State) (k : EncNo) (t : State) : Prop where
  others : ∀ j : EncNo, j ≠ k → t.enc.encs[j] = s.enc.encs[j]
  sluice : t.sluice = { s.sluice with switchTo := t.sluice.switchTo }
  print : t.print = s.print

theorem State.EncMoves.refl (s : State) (k : EncNo) : s.EncMoves k s := ⟨fun _ _ => rfl, rfl, rfl⟩

theorem State.EncMoves.trans {t u : State} {k : EncNo} (h : s.EncMoves k t) (g : t.EncMoves k u) : s.EncMoves k u where
  others j hj := (g.others j hj).trans (h.others j hj)
  sluice := by rw [g.sluice, h.sluice]
  print := g.print.trans h.print

theorem State.setEnc_moves (k : EncNo) (f : EncState → EncState) : s.EncMoves k (s.setEnc k f) :=
  ⟨fun _ hj => State.setEnc_other hj f, rfl, rfl⟩

theorem State.EncMoves.of_eq {t : State} (k : EncNo) (he : t.enc = s.enc) (hs : t.sluice = s.sluice) (hp : t.print = s.print) : s.EncMoves k t :=
  ⟨fun _ _ => by rw [he], by rw [hs], hp⟩

theorem State.EncMoves.settle {t : State} {k : EncNo} (h : s.EncMoves k t) : s.EncMoves k t.settle :=
  h.trans (.of_eq k t.settle_enc t.settle_sluice t.settle_print)

/-! ### A fault that opens moves no interface -/

theorem State.disagree_moves (v : EncNo) (reason : Nat) (d : Rat) (k : EncNo) :
    s.EncMoves k (s.disagree v reason d) ∧ (s.disagree v reason d).enc.encs = s.enc.encs := by
  unfold State.disagree
  dsimp only
  split
  · exact ⟨⟨fun _ _ => by rw [State.raiseF_enc], by rw [State.raiseF_sluice], by rw [State.raiseF_print]⟩, by rw [State.raiseF_enc]⟩
  · refine ⟨⟨fun _ _ => ?_, ?_, ?_⟩, ?_⟩
    · rw [State.record_enc]
      dsimp only
      rw [State.raiseF_enc]
    · rw [State.record_sluice]
      dsimp only
      rw [State.raiseF_sluice]
    · rw [State.record_print]
      dsimp only
      rw [State.raiseF_print]
    · rw [State.record_enc]
      dsimp only
      rw [State.raiseF_enc]

theorem State.faultOpens_moves (j k : EncNo) : s.EncMoves k (s.faultOpens j) ∧ (s.faultOpens j).enc.encs = s.enc.encs := by
  unfold State.faultOpens
  split
  · exact State.disagree_moves _ _ _ k
  · exact ⟨.refl s k, rfl⟩

/-- The events of a fault, and what they open, move no interface. -/
theorem State.faultEvents_moves (e : Code) (l : List Nat) (n : Nat) (k : EncNo) :
    s.EncMoves k (((s.raiseF e l).encEvent n k).faultOpens k) ∧ (((s.raiseF e l).encEvent n k).faultOpens k).enc.encs = s.enc.encs := by
  obtain ⟨hm, he⟩ := State.faultOpens_moves (s := (s.raiseF e l).encEvent n k) k k
  refine ⟨.trans (.of_eq k ?_ ?_ ?_) hm, he.trans ?_⟩
  · rw [State.encEvent_enc, State.raiseF_enc]
  · rw [State.encEvent_sluice, State.raiseF_sluice]
  · rw [State.encEvent_print, State.raiseF_print]
  · rw [State.encEvent_enc, State.raiseF_enc]

/-! ### Samples -/

/-- A sample outside the window leaves the position where it is (R308). -/
theorem State.discardSample_moves (k : EncNo) (high : Bool) : s.EncMoves k (s.discardSample k high) ∧
    (s.discardSample k high).enc.encs[k] = { s.enc.encs[k] with sigLoss := true, accepted := false, lossEp := true } := by
  by_cases h : s.enc.encs[k].lossEp = true
  · have hs : s.discardSample k high = s.setEnc k (fun e => { e with sigLoss := true, accepted := false, lossEp := true }) := if_pos h
    rw [hs]
    exact ⟨State.setEnc_moves k _, State.setEnc_same k _⟩
  · have hs : s.discardSample k high = ((((s.setEnc k (fun e => { e with sigLoss := true, accepted := false, lossEp := true })).raiseF
        .encSignalLoss [fld 0 1 k.val, fld 1 2 (if high then 2 else 1)]).encEvent 3 k).faultOpens k).calCheck (fun p => p == .encTrim k) :=
      if_neg h
    obtain ⟨hm, he⟩ := State.faultEvents_moves (s := s.setEnc k (fun e => { e with sigLoss := true, accepted := false, lossEp := true }))
      .encSignalLoss [fld 0 1 k.val, fld 1 2 (if high then 2 else 1)] 3 k
    rw [hs]
    refine ⟨(State.setEnc_moves k _).trans (hm.trans (.of_eq k (State.calCheck_enc ..) (State.calCheck_sluice ..) (State.calCheck_print ..))), ?_⟩
    rw [State.calCheck_enc, he]
    exact State.setEnc_same k _

/-- Counting leaves all but position, angle, the sense of the last count, and the relay's debt. -/
theorem EncState.count_keeps (e : EncState) (n : Int) : (e.count n).position = e.position + BitVec.ofInt 64 n ∧ (e.count n).sigLoss = e.sigLoss ∧
    (e.count n).overrate = e.overrate ∧ (e.count n).a = e.a ∧ (e.count n).b = e.b ∧ (e.count n).quadCount = e.quadCount := by
  unfold EncState.count
  split
  · next h =>
    subst h
    simp
  · unfold EncState.relayCounts
    dsimp only
    repeat' split
    all_goals exact ⟨rfl, rfl, rfl, rfl, rfl, rfl⟩

/-- An accepted sample moves the position by the phase step (R306, R307). -/
theorem State.acceptSample_moves (k : EncNo) (p : Int × Int) (up : Bool) : s.EncMoves k (s.acceptSample k p up) ∧
    (s.acceptSample k p up).enc.encs[k].position = s.enc.encs[k].position +
      BitVec.ofInt 64 (s.enc.encs[k].sense (phaseStep (phase12 p.1 p.2 up) s.enc.encs[k].phiPrev)) ∧
    (s.acceptSample k p up).enc.encs[k].phiPrev = phase12 p.1 p.2 up ∧ (s.acceptSample k p up).enc.encs[k].sigLoss = s.enc.encs[k].sigLoss ∧
    (s.acceptSample k p up).enc.encs[k].overrate =
      (s.enc.encs[k].overrate || decide (1024 < (phaseStep (phase12 p.1 p.2 up) s.enc.encs[k].phiPrev).natAbs)) := by
  unfold State.acceptSample
  extract_lets e phi d s1 s2
  obtain ⟨hpos, hloss, hover, -, -, -⟩ := EncState.count_keeps e (e.sense d)
  have h1 : s1.enc.encs[k] = { (e.count (e.sense d)) with phiPrev := phi, lastDelta := e.sense d, accepted := true } := State.setEnc_same k _
  have h2 : s2.enc.encs[k] = { s1.enc.encs[k] with overrate := true, overEp := some s.time.raw } := State.setEnc_same k _
  have m1 : s.EncMoves k s1 := State.setEnc_moves k _
  have m2 : s.EncMoves k s2 := m1.trans (State.setEnc_moves k _)
  obtain ⟨hm, he⟩ := State.faultOpens_moves (s := s2.raiseF .encOverrate [fld 0 1 k.val, fld 1 11 d.natAbs]) k k
  have hr : s2.EncMoves k (s2.raiseF .encOverrate [fld 0 1 k.val, fld 1 11 d.natAbs]) :=
    .of_eq k (State.raiseF_enc ..) (State.raiseF_sluice ..) (State.raiseF_print ..)
  rw [State.raiseF_enc] at he
  by_cases hd : d.natAbs ≤ 1024
  · rw [if_pos hd, h1]
    exact ⟨m1, hpos, rfl, hloss, by rw [decide_eq_false (Nat.not_lt.mpr hd), Bool.or_false]; exact hover⟩
  · have hdt : decide (1024 < d.natAbs) = true := decide_eq_true (Nat.lt_of_not_le hd)
    rw [if_neg hd]
    by_cases ho : e.overEp.any (fun t => openSince s.time.raw t) = true
    · rw [if_pos ho, h2, h1]
      exact ⟨m2, hpos, rfl, hloss, by rw [hdt, Bool.or_true]⟩
    · rw [if_neg ho, he, h2, h1]
      exact ⟨m2.trans (hr.trans hm), hpos, rfl, hloss, by rw [hdt, Bool.or_true]⟩

/-! ### Transitions -/

/-- An impossible transition counts nothing but QUAD_COUNT (R311, R313). -/
theorem State.badQuadrature_moves (k : EncNo) : s.EncMoves k (s.badQuadrature k) ∧
    ∃ ep, (s.badQuadrature k).enc.encs[k] = { s.enc.encs[k] with quadErr := true, quadCount := min 65535 (s.enc.encs[k].quadCount + 1), quadEp := ep } := by
  unfold State.badQuadrature
  extract_lets raw s1
  have h1 : s1.enc.encs[k] = { s.enc.encs[k] with quadErr := true, quadCount := min 65535 (s.enc.encs[k].quadCount + 1) } := State.setEnc_same k _
  have m1 : s.EncMoves k s1 := State.setEnc_moves k _
  cases hf : s.enc.encs[k].quadEp.filter (fun p => openSince raw p.1) with
  | some q =>
    refine ⟨m1.trans (State.setEnc_moves k _), some (raw, min 65535 (q.2 + 1)), ?_⟩
    exact (State.setEnc_same k _).trans (by rw [h1])
  | none =>
    obtain ⟨hm, he⟩ := State.faultEvents_moves (s := s1.setEnc k (fun e => { e with quadEp := some (raw, 1) })) .quadError
      [fld 0 1 k.val, fld 1 16 1] 5 k
    refine ⟨m1.trans ((State.setEnc_moves k _).trans hm), some (raw, 1), ?_⟩
    have h2 := State.setEnc_same (s := s1) k (fun e => { e with quadEp := some (raw, 1) })
    rw [h1] at h2
    exact (congrArg (fun v : Vector EncState 2 => v[k]) he).trans h2

/-- Places of the sequence of R311 from the old levels to the new ones. -/
def quadSteps (a b a' b' : Bool) : Int := (quadIndex a' b' - quadIndex a b) % 4

theorem quadSteps_cases (a b a' b' : Bool) :
    ((a', b') = (a, b) ↔ quadSteps a b a' b' = 0) ∧ ((a', b') = quadNext a b true ↔ quadSteps a b a' b' = 1) ∧
      ((a', b') = quadNext a b false ↔ quadSteps a b a' b' = 3) ∧ ((a' ≠ a ∧ b' ≠ b) ↔ quadSteps a b a' b' = 2) := by
  revert a b a' b'
  decide

/-- The levels of an interface after a transition. -/
def State.qualified (s : State) (e : EncNo) (a b : HeldLevel) : State :=
  s.setEnc e (fun _ => { s.enc.encs[e] with a := qualify s.enc.encs[e].filter s.enc.encs[e].a a.level a.held,
                                            b := qualify s.enc.encs[e].filter s.enc.encs[e].b b.level b.held })

theorem State.qualified_moves (e : EncNo) (a b : HeldLevel) : s.EncMoves e (s.qualified e a b) ∧
    (s.qualified e a b).enc.encs[e] = { s.enc.encs[e] with
      a := qualify s.enc.encs[e].filter s.enc.encs[e].a a.level a.held
      b := qualify s.enc.encs[e].filter s.enc.encs[e].b b.level b.held } :=
  ⟨State.setEnc_moves e _, State.setEnc_same e _⟩

/-- The state before the end of a transition: a count by the place of the new levels in the sequence of R311, or an error. -/
def State.transited (s : State) (e : EncNo) (a b : HeldLevel) : State :=
  let d := quadSteps s.enc.encs[e].a s.enc.encs[e].b (qualify s.enc.encs[e].filter s.enc.encs[e].a a.level a.held)
    (qualify s.enc.encs[e].filter s.enc.encs[e].b b.level b.held)
  if d = 0 then s.qualified e a b
  else if d = 1 then (s.qualified e a b).setEnc e (fun i => i.count (i.sense 1))
  else if d = 3 then (s.qualified e a b).setEnc e (fun i => i.count (i.sense (-1)))
  else (s.qualified e a b).badQuadrature e

theorem State.setEnc_at (k : EncNo) (f g : EncState → EncState) (h : f s.enc.encs[k] = g s.enc.encs[k]) : s.setEnc k f = s.setEnc k g := by
  have hu : upd s.enc.encs k f = upd s.enc.encs k g := by
    unfold upd
    rw [h]
  unfold State.setEnc
  rw [hu]

theorem execQuadratureTransition_transits {e : EncNo} {a b : HeldLevel} (hm : s.enc.encs[e].mode = .digital) :
    execQuadratureTransition e a b s = (s.transited e a b).done := by
  have hq : s.qualified e a b = s.setEnc e (fun i => { i with
      a := qualify s.enc.encs[e].filter s.enc.encs[e].a a.level a.held
      b := qualify s.enc.encs[e].filter s.enc.encs[e].b b.level b.held }) := State.setEnc_at e _ _ rfl
  have hmode : ¬(s.enc.encs[e].mode != .digital) = true := by simpa using hm
  unfold execQuadratureTransition State.transited quadSteps
  rw [hq]
  dsimp only
  rw [if_neg hmode]
  split
  · next h => rw [if_pos h]
  · next h => rw [if_neg (by rw [h]; decide), if_pos h]
  · next h => rw [if_neg (by rw [h]; decide), if_neg (by rw [h]; decide), if_pos h]
  · next h0 h1 h3 => rw [if_neg h0, if_neg h1, if_neg h3]

/-- What a transition leaves of its interface (R310, R311). -/
theorem State.transited_enc (e : EncNo) (a b : HeldLevel) :
    let i := s.enc.encs[e]
    let j := (s.transited e a b).enc.encs[e]
    let a' := qualify i.filter i.a a.level a.held
    let b' := qualify i.filter i.b b.level b.held
    s.EncMoves e (s.transited e a b) ∧ j.a = a' ∧ j.b = b' ∧
      (quadSteps i.a i.b a' b' = 0 → j.position = i.position ∧ j.quadCount = i.quadCount) ∧
      (quadSteps i.a i.b a' b' = 1 → j.position = i.position + BitVec.ofInt 64 (i.sense 1) ∧ j.quadCount = i.quadCount) ∧
      (quadSteps i.a i.b a' b' = 3 → j.position = i.position + BitVec.ofInt 64 (i.sense (-1)) ∧ j.quadCount = i.quadCount) ∧
      (quadSteps i.a i.b a' b' = 2 → j.position = i.position ∧ j.quadCount = min 65535 (i.quadCount + 1) ∧ j.quadErr = true) := by
  intro i j a' b'
  obtain ⟨qm, qe⟩ := s.qualified_moves e a b
  have hj : j = (s.transited e a b).enc.encs[e] := rfl
  clear_value j
  unfold State.transited at hj ⊢
  change j = (if quadSteps i.a i.b a' b' = 0 then _ else if quadSteps i.a i.b a' b' = 1 then _ else if quadSteps i.a i.b a' b' = 3 then _ else _ : State).enc.encs[e] at hj
  change s.EncMoves e (if quadSteps i.a i.b a' b' = 0 then _ else if quadSteps i.a i.b a' b' = 1 then _ else if quadSteps i.a i.b a' b' = 3 then _ else _) ∧ _
  by_cases h0 : quadSteps i.a i.b a' b' = 0
  · rw [if_pos h0] at hj ⊢
    rw [hj, qe]
    exact ⟨qm, rfl, rfl, fun _ => ⟨rfl, rfl⟩, fun h => absurd (h0.symm.trans h) (by decide), fun h => absurd (h0.symm.trans h) (by decide),
      fun h => absurd (h0.symm.trans h) (by decide)⟩
  rw [if_neg h0] at hj ⊢
  by_cases h1 : quadSteps i.a i.b a' b' = 1
  · obtain ⟨hp, -, -, ha, hb, hq⟩ := EncState.count_keeps (s.qualified e a b).enc.encs[e] ((s.qualified e a b).enc.encs[e].sense 1)
    rw [if_pos h1, State.setEnc_same] at hj
    rw [if_pos h1, hj, hp, ha, hb, hq, qe]
    exact ⟨qm.trans (State.setEnc_moves e _), rfl, rfl, fun h => absurd h h0, fun _ => ⟨rfl, rfl⟩, fun h => absurd (h1.symm.trans h) (by decide),
      fun h => absurd (h1.symm.trans h) (by decide)⟩
  rw [if_neg h1] at hj ⊢
  by_cases h3 : quadSteps i.a i.b a' b' = 3
  · obtain ⟨hp, -, -, ha, hb, hq⟩ := EncState.count_keeps (s.qualified e a b).enc.encs[e] ((s.qualified e a b).enc.encs[e].sense (-1))
    rw [if_pos h3, State.setEnc_same] at hj
    rw [if_pos h3, hj, hp, ha, hb, hq, qe]
    exact ⟨qm.trans (State.setEnc_moves e _), rfl, rfl, fun h => absurd h h0, fun h => absurd h h1, fun _ => ⟨rfl, rfl⟩,
      fun h => absurd (h3.symm.trans h) (by decide)⟩
  · obtain ⟨hm, ep, he⟩ := State.badQuadrature_moves (s := s.qualified e a b) e
    rw [if_neg h3, he, qe] at hj
    rw [if_neg h3, hj]
    exact ⟨qm.trans hm, rfl, rfl, fun h => absurd h h0, fun h => absurd h h1, fun h => absurd h h3, fun _ => ⟨rfl, rfl, rfl⟩⟩

/-- The state in which a sample is judged: a value has been drawn, and AMPLITUDE shows the sample. -/
def State.sampled (s : State) (e : EncNo) (a b : BitVec 14) : State :=
  let amp := amplitude32 (amplitudeSq (trimmed s.enc.encs[e].trim a b))
  s.drew.setEnc e (fun i => { i with amplitude := if amp < 256 then amp else s.free.toNat / 2 % 256 })

theorem State.sampled_moves (e : EncNo) (a b : BitVec 14) :
    s.EncMoves e (s.sampled e a b) ∧ ∃ n, (s.sampled e a b).enc.encs[e] = { s.enc.encs[e] with amplitude := n } :=
  ⟨State.EncMoves.trans (t := s.drew) (.of_eq e rfl rfl rfl) (State.setEnc_moves (s := s.drew) e _), _, State.setEnc_same (s := s.drew) e _⟩

theorem execEncoderAdcSample_analogue {e : EncNo} {a b : BitVec 14} (hm : s.enc.encs[e].mode = .analogue) :
    execEncoderAdcSample e a b s = (if amplitudeSq (trimmed s.enc.encs[e].trim a b) < (s.enc.encs[e].sigMin * 2 ^ 30) ^ 2 then
        (s.sampled e a b).discardSample e false
      else if (s.enc.encs[e].sigMax * 2 ^ 30) ^ 2 < amplitudeSq (trimmed s.enc.encs[e].trim a b) then (s.sampled e a b).discardSample e true
      else (s.sampled e a b).acceptSample e (trimmed s.enc.encs[e].trim a b) (bitAt s.free 0)).done := by
  unfold execEncoderAdcSample
  dsimp only
  rw [if_neg (by simpa using hm)]
  change (if _ then ((s.sampled e a b).discardSample e false).done else if _ then ((s.sampled e a b).discardSample e true).done
    else ((s.sampled e a b).acceptSample e _ _).done) = _
  split
  · rfl
  · split <;> rfl

/-- Settles O34, by what samples and transitions do to their own interface. -/
theorem encodersCountTheirInputs : Obligations.EncodersCountTheirInputs := by
  unfold Obligations.EncodersCountTheirInputs
  refine ⟨fun s e a b hq hm => ?_, fun s e a b hm => ?_, fun s e a b ha hb hq hm => ?_, fun s e a b ha hb hm => ?_⟩
  · change execEncoderAdcSample e a b s = _
    unfold execEncoderAdcSample
    dsimp only
    rw [if_pos (by simpa using hm)]
    exact State.done_quiet s hq
  · intro i p out
    obtain ⟨sm, n, se⟩ := s.sampled_moves e a b
    by_cases ho : out
    · have hd : ∃ high, execEncoderAdcSample e a b s = ((s.sampled e a b).discardSample e high).done := by
        rw [execEncoderAdcSample_analogue hm]
        by_cases hl : amplitudeSq p < (i.sigMin * 2 ^ 30) ^ 2
        · exact ⟨false, by rw [if_pos hl]⟩
        · exact ⟨true, by rw [if_neg hl, if_pos (ho.resolve_left hl)]⟩
      obtain ⟨high, he⟩ := hd
      obtain ⟨dm, de⟩ := State.discardSample_moves (s := s.sampled e a b) e high
      have hm := (sm.trans dm).settle
      refine ⟨_, false, he, fun _ => ?_, fun h => absurd ho h, hm.others, hm.sluice, hm.print⟩
      rw [State.settle_enc, de, se]
      exact ⟨rfl, rfl, rfl, rfl⟩
    · obtain ⟨hl, hh⟩ := not_or.mp ho
      have he : execEncoderAdcSample e a b s = ((s.sampled e a b).acceptSample e p (bitAt s.free 0)).done := by
        rw [execEncoderAdcSample_analogue hm, if_neg hl, if_neg hh]
      obtain ⟨am, hpos, hphi, hloss, hover⟩ := State.acceptSample_moves (s := s.sampled e a b) e p (bitAt s.free 0)
      have hm := (sm.trans am).settle
      rw [se] at hpos hloss hover
      refine ⟨_, bitAt s.free 0, he, fun h => absurd h ho, fun _ => ?_, hm.others, hm.sluice, hm.print⟩
      rw [State.settle_enc]
      exact ⟨hpos, hphi, hloss, hover⟩
  · change execQuadratureTransition e _ _ s = _
    unfold execQuadratureTransition
    dsimp only
    rw [if_pos (by simpa using hm)]
    exact State.done_quiet s hq
  · intro i a' b'
    obtain ⟨tm, ha', hb', h0, h1, h3, h2⟩ := State.transited_enc (s := s) e ⟨a, ha⟩ ⟨b, hb⟩
    obtain ⟨c0, c1, c3, c2⟩ := quadSteps_cases i.a i.b a' b'
    refine ⟨(s.transited e ⟨a, ha⟩ ⟨b, hb⟩).settle, execQuadratureTransition_transits hm, ?_⟩
    rw [State.settle_enc]
    exact ⟨ha', hb', fun h => h0 (c0.mp h), fun h => h1 (c1.mp h), fun h => h3 (c3.mp h), fun h => h2 (c2.mp h), tm.others, tm.settle.sluice,
      tm.settle.print⟩

end Sys2Proof.Machine
end

section
/-!
SUPPORT. Index events and relays (R316 to R319, R326 to R328), switch sets (R325), and REST entry (R243).
-/

namespace Sys2Proof.Machine

variable {s : State} {c : Cmd}

/-! ### Index events -/

/-- Rounded to the nearest, a quotient differs from its number by at most half the divisor (R316). -/
theorem nearestFree_near (up : Bool) (a : Int) : (50 * nearestFree up a 50 - a).natAbs ≤ 25 := by
  unfold nearestFree
  dsimp only
  split
  · next h =>
    have hr : 2 * (a % 50) ≤ 50 := h.elim (fun h => Int.le_of_lt h) (fun h => Int.le_of_eq h.1)
    omega
  · next h =>
    have hr : 50 ≤ 2 * (a % 50) := Int.not_lt.mp (fun h' => h (.inl h'))
    omega

/-- The correction of a slip that is pending (R317): the angle moves back where INDEX_REREF was on at the event. -/
theorem State.encCorrect_enc (k : EncNo) (d : Int) (hp : s.enc.encs[k].pending = some d) :
    (s.encCorrect k).enc = if s.enc.encs[k].rerefNow then
      (s.setEnc k (fun e => { e with angle := moveAngle e.cpr e.angle (-d), pending := none })).enc else s.enc := by
  unfold State.encCorrect
  dsimp only
  rw [hp]
  dsimp only
  by_cases h : s.enc.encs[k].rerefNow = true
  · rw [if_pos h, if_pos h, State.raiseF_enc]
    rfl
  · rw [if_neg h, if_neg h]

/-- An interface after the judgement of an index event (R317). -/
def EncState.judged (e : EncState) (started : Bool) (ahead : Int) : EncState :=
  let d := indexDeviation e.cpr (moveAngle e.cpr e.angle ahead)
  if e.cpr = 0 then e
  else if e.referenced = false then { e with angle := 0, referenced := true }
  else if d = 0 then { e with pending := none }
  else if d.natAbs ≤ e.idxTol then
    if started = false ∧ e.rerefNow = true then { e with angle := moveAngle e.cpr e.angle (-d), pending := none } else { e with pending := some d }
  else { e with indexFault := true }

theorem State.judgeIndex_enc (k : EncNo) (ahead : Int) :
    (s.judgeIndex k ahead).enc = (s.setEnc k (fun _ => s.enc.encs[k].judged s.print.started ahead)).enc := by
  have hid : s.enc = (s.setEnc k (fun _ => s.enc.encs[k])).enc := by
    have h := State.setEnc_at (s := s) k (fun _ => s.enc.encs[k]) id rfl
    rw [h]
    unfold State.setEnc upd
    simp
  have hset (f : EncState → EncState) : s.setEnc k f = s.setEnc k (fun _ => f s.enc.encs[k]) := State.setEnc_at k _ _ rfl
  unfold State.judgeIndex EncState.judged
  generalize hd : indexDeviation s.enc.encs[k].cpr (moveAngle s.enc.encs[k].cpr s.enc.encs[k].angle ahead) = d
  dsimp only
  by_cases hc : s.enc.encs[k].cpr = 0
  · rw [if_pos hc, if_pos hc]
    exact hid
  rw [if_neg hc, if_neg hc]
  by_cases hr : s.enc.encs[k].referenced = false
  · rw [if_pos hr, if_pos (by rw [hr]; rfl), State.raiseF_enc, hset]
  rw [if_neg hr, if_neg (by simpa using hr)]
  rw [hd]
  by_cases h0 : d = 0
  · rw [if_pos h0, if_pos h0, hset]
  rw [if_neg h0, if_neg h0]
  by_cases ht : d.natAbs ≤ s.enc.encs[k].idxTol
  · rw [if_pos ht, if_pos ht]
    by_cases hp : s.print.started = true
    · rw [if_pos hp, if_neg (by simp [hp]), State.raiseF_enc, hset]
    · generalize hu : (s.setEnc k (fun e => { e with pending := some d })).raiseF .indexSlip _ = u
      have hue : u.enc = (s.setEnc k (fun _ => { s.enc.encs[k] with pending := some d })).enc := by
        rw [← hu, State.raiseF_enc, hset]
      have huk : u.enc.encs[k] = { s.enc.encs[k] with pending := some d } :=
        (congrArg (fun x : EncPart => x.encs[k]) hue).trans (State.setEnc_same k _)
      rw [if_neg hp, State.encCorrect_enc k d (by rw [huk]), huk]
      by_cases hn : s.enc.encs[k].rerefNow = true
      · rw [if_pos hn, if_pos ⟨by simpa using hp, hn⟩]
        unfold State.setEnc
        dsimp only
        rw [hue]
        unfold State.setEnc
        dsimp only
        rw [upd_upd]
        rfl
      · rw [if_neg hn, if_neg (fun h => hn h.2), hue]
  · rw [if_neg ht, if_neg ht, State.raiseF_enc, hset]

/-! ### At most one bar line at an update of the source -/

/-- From s to t the sluice allocates at most one bar line; its loops, its settings and the line of the core blocks stay. -/
structure State.OneLine (s t : State) : Prop where
  steady : t.sluice.steady = s.sluice.steady
  lines : t.sluice.barLine = s.sluice.barLine ∨ t.sluice.barLine = s.sluice.barLine + 1
  encs : t.enc.encs = s.enc.encs

theorem State.OneLine.of_eq {t : State} (h : t.sluice.steady = s.sluice.steady) (hb : t.sluice.barLine = s.sluice.barLine) (he : t.enc.encs = s.enc.encs) :
    s.OneLine t := ⟨h, .inl hb, he⟩

/-- What stands between s and t, and t and u, with one line in all. -/
theorem State.OneLine.before {t u : State} (h : t.sluice.steady = s.sluice.steady) (hb : t.sluice.barLine = s.sluice.barLine)
    (he : t.enc.encs = s.enc.encs) (g : t.OneLine u) : s.OneLine u :=
  ⟨g.steady.trans h, by rw [← hb]; exact g.lines, g.encs.trans he⟩

theorem State.OneLine.after {t u : State} (g : s.OneLine t) (h : u.sluice.steady = t.sluice.steady) (hb : u.sluice.barLine = t.sluice.barLine)
    (he : u.enc.encs = t.enc.encs) : s.OneLine u :=
  ⟨h.trans g.steady, by rw [hb]; exact g.lines, he.trans g.encs⟩

theorem State.fireLine_lines (n : Nat) (nl : NextLine) (pl : Place) (tc tf : Rat) :
    (s.fireLine n nl pl tc tf).sluice.steady = s.sluice.steady := by
  unfold State.fireLine
  extract_lets k period base r late l s1
  rw [State.lateness_sluiceSteady]
  exact eachPort_sluiceSteady s.drew (fun t p => by rw [State.token_sluice]) _

theorem State.allocate_one (nl : NextLine) (tc : Rat) : s.OneLine (s.allocate nl tc) := by
  unfold State.allocate
  extract_lets n tf s1 q first car q1 q2 joins
  have h1 : s1.sluice.steady = s.sluice.steady ∧ s1.enc = s.enc := by
    simp only [s1]
    split
    · exact ⟨State.fireLine_lines .., State.fireLine_enc ..⟩
    · exact ⟨rfl, rfl⟩
  have h2 : q2.steady = s1.sluice.steady ∧ q2.barLine = n := by
    simp only [q2]
    split <;> exact ⟨rfl, rfl⟩
  exact ⟨h2.1.trans h1.1, .inr h2.2, by rw [h1.2]⟩

theorem State.tryLine_one (nl : NextLine) : s.OneLine (s.tryLine nl) := by
  unfold State.tryLine
  extract_lets car slip q s1
  have h1 : s.OneLine s1 := .of_eq rfl rfl rfl
  split
  · exact h1
  · split
    · exact .before (t := s1) rfl rfl rfl (State.allocate_one ..)
    · exact h1

theorem State.tryIdle_one : s.OneLine s.tryIdle := by
  unfold State.tryIdle
  extract_lets q p s1
  split
  · exact .before (t := { s1 with sluice := { s1.sluice with path := s1.sluice.path - q } }) rfl rfl rfl (State.allocate_one ..)
  · exact .of_eq rfl rfl rfl

theorem State.tryStart_one {q : QEntry} {t : State} (h : s.tryStart q = some t) : s.OneLine t := by
  unfold State.tryStart at h
  dsimp only at h
  split at h
  · cases h
    exact .before (t := { s with sluice := { s.sluice with passedOver := none } }) rfl rfl rfl State.tryIdle_one
  · split at h
    · cases h
    · split at h
      · cases h
      · split at h
        · cases h
          refine State.OneLine.after (.before ?_ ?_ ?_ (State.allocate_one ..)) (by rw [State.fixStart_sluice]) (by rw [State.fixStart_sluice])
            (by rw [State.fixStart_enc])
          · rw [State.record_sluice]
            rfl
          · rw [State.record_sluice]
            rfl
          · rw [State.record_enc]
            rfl
        · split at h
          · cases h
          · cases h
            exact .of_eq (by rw [State.raiseF_sluice]) (by rw [State.raiseF_sluice]) (by rw [State.raiseF_enc])

theorem State.tryAllocate_one : s.OneLine s.tryAllocate := by
  have hid : s.OneLine s := .of_eq rfl rfl rfl
  unfold State.tryAllocate
  dsimp only
  split
  · exact hid
  · split
    · exact State.tryLine_one _
    · split
      · split
        · split
          · exact State.tryIdle_one
          · split
            · next h => exact State.tryStart_one h
            · exact State.tryIdle_one
        · exact State.tryIdle_one
      · exact State.tryLine_one _

/-- A device that may not allocate allocates nothing. -/
theorem State.tryAllocate_none (h : s.silenced = true) : s.tryAllocate = s := by
  unfold State.tryAllocate
  rw [if_pos]
  simp [State.allocates, h]

theorem State.crossCheck_encs : s.crossCheck.enc.encs = s.enc.encs := by
  have hd (t : State) (v : EncNo) (n : Nat) (d : Rat) (h : t.enc.encs = s.enc.encs) : (t.disagree v n d).enc.encs = s.enc.encs :=
    (State.disagree_moves v n d 0).2.trans h
  unfold State.crossCheck
  dsimp only
  split
  · rfl
  · split
    · rfl
    · split
      · rfl
      · split <;> exact hd _ _ _ _ rfl

/-- What the sluice does at an update of its source (R232 to R245): at most one line, and none while printing is stopped or silenced. -/
theorem State.trackSource_one (moved : Rat) : s.OneLine (s.trackSource moved) ∧
    (s.print.started = false ∨ s.silenced = true → (s.trackSource moved).sluice.barLine = s.sluice.barLine) := by
  unfold State.trackSource
  split
  · next hp =>
    have hr : s.OneLine s.reviseLines := .of_eq (State.reviseLines_sluiceSteady s) (State.reviseLines_sluiceBarLine s) (by rw [State.reviseLines_enc])
    split
    · exact ⟨.of_eq rfl rfl rfl, fun _ => rfl⟩
    · exact ⟨hr, fun _ => State.reviseLines_sluiceBarLine s⟩
  · next hp =>
    extract_lets nl idle web p1 p2 q s1 s2 s3 s4
    have h1 : s1.sluice.steady = s.sluice.steady ∧ s1.sluice.barLine = s.sluice.barLine := by
      simp only [s1, q]
      split <;> exact ⟨rfl, rfl⟩
    have h2 : s2.sluice.steady = s1.sluice.steady ∧ s2.sluice.barLine = s1.sluice.barLine ∧ s2.enc = s1.enc ∧ s2.silenced = s1.silenced := by
      simp only [s2]
      split
      · simp [State.silenced]
      · exact ⟨rfl, rfl, rfl, rfl⟩
    have h3 : s3.sluice.steady = s2.sluice.steady ∧ s3.sluice.barLine = s2.sluice.barLine ∧ s3.enc.encs = s2.enc.encs ∧ s3.silenced = s2.silenced := by
      simp only [s3]
      exact ⟨State.crossCheck_sluiceSteady _, State.crossCheck_sluiceBarLine _, State.crossCheck_encs, by simp [State.silenced]⟩
    have h4 : s4.sluice.steady = s3.sluice.steady ∧ s4.sluice.barLine = s3.sluice.barLine ∧ s4.enc = s3.enc ∧ s4.silenced = s3.silenced := by
      simp only [s4]
      split
      · exact ⟨rfl, rfl, rfl, rfl⟩
      · exact ⟨State.reviseLines_sluiceSteady _, State.reviseLines_sluiceBarLine _, State.reviseLines_enc _, by simp [State.silenced]⟩
    have he : s4.enc.encs = s.enc.encs := by rw [h4.2.2.1, h3.2.2.1, h2.2.2.1]
    have hs : s4.sluice.steady = s.sluice.steady := h4.1.trans (h3.1.trans (h2.1.trans h1.1))
    have hb : s4.sluice.barLine = s.sluice.barLine := h4.2.1.trans (h3.2.1.trans (h2.2.1.trans h1.2))
    have hsil : s4.silenced = s.silenced := h4.2.2.2.trans (h3.2.2.2.trans h2.2.2.2)
    refine ⟨(State.OneLine.before hs hb he State.tryAllocate_one).after (State.switchEncoder_sluiceSteady _) (State.switchEncoder_sluiceBarLine _)
      (by rw [State.switchEncoder_enc]), fun h => ?_⟩
    have hsl : s4.silenced = true := hsil.trans (h.resolve_left (by simpa using hp))
    rw [State.switchEncoder_sluiceBarLine, State.tryAllocate_none hsl, hb]

/-! ### Index events, relays and switch sets as steps -/

/-- An interface as its index event finds it (R316, R328). -/
def EncState.atIndex (i : EncState) (edge : IndexEdge) : EncState :=
  let j := { i with idx := qualify i.filter i.idx edge.input.level edge.input.held }
  { j with rerefNow := j.reref, idxOwed := if j.relay = .off then [] else j.idxOwed ++ [j.indexPlace] }

/-- An interface that has been set is judged from what it was set to. -/
theorem State.judgeIndex_set (e : EncNo) (j : EncState) (ahead : Int) :
    ((s.drew.setEnc e (fun _ => j)).judgeIndex e ahead).enc = (s.setEnc e (fun _ => j.judged s.print.started ahead)).enc := by
  rw [State.judgeIndex_enc, State.setEnc_same (s := s.drew) e (fun _ => j)]
  unfold State.setEnc
  dsimp only
  rw [upd_upd]
  rfl

/-- The index event of an interface that is not off (R316). -/
theorem execIndexEvent_rises {e : EncNo} {edge : IndexEdge} (hm : s.enc.encs[e].mode ≠ .off) (hi : s.enc.encs[e].idxActive = false)
    (hj : ({ s.enc.encs[e] with idx := qualify s.enc.encs[e].filter s.enc.encs[e].idx edge.input.level edge.input.held } : EncState).idxActive = true)
    (hu : s.enc.encs[e].lastUp = true) :
    ∃ t : State, execIndexEvent e edge s = .next t ∧ t.sluice = s.sluice ∧ t.print = s.print ∧
      t.enc = (s.setEnc e (fun _ => (s.enc.encs[e].atIndex edge).judged s.print.started
        (s.enc.encs[e].indexAhead edge.after (bitAt s.free 0)))).enc := by
  have hset := State.judgeIndex_set (s := s) e (s.enc.encs[e].atIndex edge) (s.enc.encs[e].indexAhead edge.after (bitAt s.free 0))
  unfold execIndexEvent
  dsimp only
  rw [if_neg (by simpa using hm), if_neg (by rw [hi, hj, hu]; decide)]
  change ∃ t : State, (if e ≠ s.sluice.source then State.done (((s.drew.setEnc e (fun _ => s.enc.encs[e].atIndex edge)).judgeIndex e _).encEvent 1 e)
    else _) = _ ∧ _
  split
  · exact ⟨_, rfl, by simp, by simp, by rw [State.settle_enc, State.encEvent_enc]; exact hset⟩
  · split
    · exact ⟨_, rfl, by simp, by simp, by rw [State.settle_enc, State.ownIndex_enc, State.encEvent_enc]; exact hset⟩
    · exact ⟨_, rfl, by simp, by simp, by rw [State.settle_enc, State.record_enc, State.encEvent_enc]; exact hset⟩

theorem execIndexEvent_level {e : EncNo} {edge : IndexEdge} (hm : s.enc.encs[e].mode ≠ .off)
    (h : ¬(s.enc.encs[e].idxActive = false ∧
      ({ s.enc.encs[e] with idx := qualify s.enc.encs[e].filter s.enc.encs[e].idx edge.input.level edge.input.held } : EncState).idxActive = true ∧
      s.enc.encs[e].lastUp = true)) :
    execIndexEvent e edge s = (s.setEnc e (fun i => { i with idx := qualify s.enc.encs[e].filter s.enc.encs[e].idx edge.input.level edge.input.held })).done := by
  unfold execIndexEvent
  dsimp only
  rw [if_neg (by simpa using hm), if_pos]
  · rw [State.setEnc_at e (fun i => { i with idx := qualify s.enc.encs[e].filter s.enc.encs[e].idx edge.input.level edge.input.held })
      (fun _ => { s.enc.encs[e] with idx := qualify s.enc.encs[e].filter s.enc.encs[e].idx edge.input.level edge.input.held }) rfl]
  · revert h
    generalize s.enc.encs[e].idxActive = x
    generalize ({ s.enc.encs[e] with idx := qualify s.enc.encs[e].filter s.enc.encs[e].idx edge.input.level edge.input.held } : EncState).idxActive = y
    generalize s.enc.encs[e].lastUp = z
    revert x y z
    decide

/-- The relay emits one owed transition in its sense (R326, R327). -/
theorem State.relayStep_get (e : EncNo) :
    let i := s.enc.encs[e]
    let j := (s.relayStep e).enc.encs[e]
    (j.outA, j.outB) = quadNext i.outA i.outB (decide (0 < i.owed)) ∧ j.owed = (if decide (0 < i.owed) = true then i.owed - 1 else i.owed + 1) ∧
      j.position = i.position := by
  intro i j
  have hj : j = (s.relayStep e).enc.encs[e] := rfl
  clear_value j
  unfold State.relayStep at hj
  extract_lets e' up n s1 at hj
  have h1 : s1.enc.encs[e] = { i with outA := n.1, outB := n.2, owed := if up then i.owed - 1 else i.owed + 1
                                      idxOwed := (i.idxOwed.filter (fun j => decide (0 < j))).map (fun j => j - 1) } := State.setEnc_same e _
  by_cases hc : e'.idxOwed.contains 0 = true
  · rw [if_pos hc] at hj
    have h2 := State.setEnc_same (s := s1) e (fun e => { e with outI := some (s.time.raw + 40) })
    rw [hj.trans h2, h1]
    exact ⟨rfl, rfl, rfl⟩
  · rw [if_neg hc] at hj
    rw [hj, h1]
    exact ⟨rfl, rfl, rfl⟩

/-- A forbidden combination of a switch set that is not in its episode begins one (R325). -/
theorem execSwitchSetBad_begins {j : Fin 5} {i : SwitchNo × SwitchNo × SwitchNo} (hi : s.enc.sets[j].inputs = some i)
    (ha : s.enc.sets[j].allowed.getLsbD (s.setValue i) = false) (hr : s.enc.sets[j].runs s.time.raw = false) :
    ∃ t : State, execSwitchSetBad j s = .next t ∧ t.enc.sets[j].episode = true ∧ t.enc.encs = s.enc.encs ∧
      (s.enc.sets[j].stop = false → t.motion = s.motion) ∧ t.print = s.print := by
  unfold execSwitchSetBad
  dsimp only
  rw [hi]
  dsimp only
  rw [if_neg (by rw [ha, hr]; decide)]
  generalize hu : (State.raiseF { s with enc := { s.enc with sets := upd s.enc.sets j (fun j => { j with episode := true, allowedSince := none }) } }
    .switchSetBad [fld 0 3 j.val, fld 3 3 (s.setValue i)]) = u
  have he : u.enc = { s.enc with sets := upd s.enc.sets j (fun j => { j with episode := true, allowedSince := none }) } := by
    rw [← hu, State.raiseF_enc]
  have hep : u.enc.sets[j].episode = true := by
    rw [he]
    exact congrArg SwitchSet.episode (upd_same _ _ _)
  have hm : u.motion = s.motion := by rw [← hu, State.raiseF_motion]
  have hp : u.print = s.print := by rw [← hu, State.raiseF_print]
  have hq : u.enc.encs = s.enc.encs := by rw [he]
  split
  · next a _ =>
    by_cases hs : s.enc.sets[j].stop = true
    · rw [if_pos hs]
      refine ⟨_, rfl, ?_, ?_, fun h => absurd (hs.symm.trans h) (by decide), ?_⟩
      · rw [State.settle_enc, State.limitStop_enc, hep]
      · rw [State.settle_enc, State.limitStop_enc, hq]
      · rw [State.settle_print, State.limitStop_print, hp]
    · rw [if_neg hs]
      exact ⟨_, rfl, by rw [State.settle_enc, hep], by rw [State.settle_enc, hq], fun _ => by rw [State.settle_motion, hm], by rw [State.settle_print, hp]⟩
  · exact ⟨_, rfl, by rw [State.settle_enc, hep], by rw [State.settle_enc, hq], fun _ => by rw [State.settle_motion, hm], by rw [State.settle_print, hp]⟩

/-- The tracking loop of an interface after an update (R234). -/
def State.loopNext (s : State) (e : EncNo) : Loop :=
  s.sluice.loops[e].update s.sluice.set.alpha s.sluice.set.beta s.enc.encs[e].position.toInt s.enc.encs[e].mode.period s.free

/-- The update of the loop of an interface that is not off, and what the sluice does with it (R234). -/
theorem execTrackingLoopUpdate_moves (e : EncNo) (a : Word) (hm : s.enc.encs[e].mode ≠ .off) :
    ∃ (t u : State), execTrackingLoopUpdate e a s = .next t ∧
      u.sluice = { s.sluice with loops := s.sluice.loops.set e (s.loopNext e) } ∧
      u.enc = s.enc ∧ u.OneLine t ∧
      (s.print.started = false ∨ s.silenced = true ∨ e ≠ s.sluice.source → t.sluice.barLine = s.sluice.barLine) := by
  generalize hr : (s.reach a).allSlots = r
  have hslu : r.sluice = s.sluice := by rw [← hr]; simp
  have henc : r.enc = s.enc := by rw [← hr]; simp
  have hpri : r.print = s.print := by rw [← hr]; simp
  have hfree : r.free = s.free := by rw [← hr]; simp [State.free]
  have hsil : r.silenced = s.silenced := by rw [← hr]; simp [State.silenced]
  have hu : (r.updateLoop e).sluice = { s.sluice with loops := s.sluice.loops.set e (s.loopNext e) } := by
    unfold State.updateLoop State.loopNext
    rw [hslu, henc, hfree]
  have hue : (r.updateLoop e).enc = s.enc := by rw [State.updateLoop_enc, henc]
  unfold execTrackingLoopUpdate
  dsimp only
  rw [hr, if_neg (by rw [henc]; simpa using hm)]
  generalize r.sluice.loops[e].pos = before
  by_cases hs : e = r.sluice.source
  · rw [if_pos hs]
    obtain ⟨hone, hnone⟩ := State.trackSource_one (s := (r.updateLoop e).retire) ((r.updateLoop e).sluice.loops[e].pos - before)
    refine ⟨_, r.updateLoop e, rfl, hu, hue, (State.OneLine.before (State.retire_sluiceSteady _) (State.retire_sluiceBarLine _)
      (by rw [State.retire_enc]) hone).after (by rw [State.settle_sluice]) (by rw [State.settle_sluice]) (by rw [State.settle_enc]), fun h => ?_⟩
    rw [State.settle_sluice, hnone, State.retire_sluiceBarLine, hu]
    rw [State.retire_print, State.updateLoop_print, hpri]
    rcases h with h | h | h
    · exact .inl h
    · refine .inr ?_
      rw [← h, ← hsil]
      simp [State.silenced]
    · exact absurd (hs.trans (by rw [hslu])) h
  · rw [if_neg hs]
    refine ⟨_, r.updateLoop e, rfl, hu, hue, .of_eq (by rw [State.settle_sluice]) (by rw [State.settle_sluice]) (by rw [State.settle_enc]), fun _ => ?_⟩
    rw [State.settle_sluice, hu]

theorem execRestEntry_rests : ∃ t : State, execRestEntry s = .next t ∧ t.enc = s.enc ∧ t.print = s.print ∧
    t.sluice.loops = upd s.sluice.loops s.sluice.source (fun l => { l with rest := true, hyst := s.enc.encs[s.sluice.source].position.toInt }) := by
  unfold execRestEntry
  dsimp only
  split
  · exact ⟨_, rfl, by rw [State.settle_enc], by rw [State.settle_print], by rw [State.settle_sluice]⟩
  · exact ⟨_, rfl, by rw [State.settle_enc, State.record_enc], by rw [State.settle_print, State.record_print],
      by rw [State.settle_sluice, State.record_sluice]⟩

/-- An index event is judged with the counts from the last sample to it (R316). -/
theorem indexEvents_judged (s : State) (e : EncNo) (l : Bool) (h : Nat) (n : Fin 51) (hm : s.enc.encs[e].mode ≠ .off) :
    let i := s.enc.encs[e]
    let idx := if i.filter ≤ h then l else i.idx
    xor i.idx i.idxLow = false ∧ xor idx i.idxLow = true ∧ i.lastUp = true →
    ∃ (t : State) (ahead : Int), exec (.indexEvent e ⟨⟨l, h⟩, n⟩) s = .next t ∧ (i.mode = .digital → ahead = 0) ∧
      (i.mode = .analogue → (50 * ahead - i.lastDelta * n.val).natAbs ≤ 25) ∧
      t.enc = (s.setEnc e (fun _ => (i.atIndex ⟨⟨l, h⟩, n⟩).judged s.print.started ahead)).enc ∧ t.sluice = s.sluice ∧ t.print = s.print := by
  intro i idx hr
  obtain ⟨hi, hj, hu⟩ := hr
  obtain ⟨t, he, hs, hp, hen⟩ := execIndexEvent_rises (edge := ⟨⟨l, h⟩, n⟩) hm hi hj hu
  refine ⟨t, i.indexAhead n (bitAt s.free 0), he, fun hd => ?_, fun ha => ?_, hen, hs, hp⟩
  · unfold EncState.indexAhead
    rw [hd]
    rfl
  · unfold EncState.indexAhead
    rw [ha]
    exact nearestFree_near _ _

/-- What the judgement of an index event leaves (R317), case by case. -/
theorem EncState.judged_cases (i : EncState) (edge : IndexEdge) (started : Bool) (ahead : Int) :
    let d := indexDeviation i.cpr (moveAngle i.cpr i.angle ahead)
    let k := (i.atIndex edge).judged started ahead
    k.position = i.position ∧ k.idx = qualify i.filter i.idx edge.input.level edge.input.held ∧
      (i.cpr ≠ 0 → i.referenced = false → k.angle = 0 ∧ k.referenced = true) ∧
      (i.cpr ≠ 0 → i.referenced = true → d = 0 → k.pending = none ∧ k.angle = i.angle) ∧
      (i.cpr ≠ 0 → i.referenced = true → d ≠ 0 → d.natAbs ≤ i.idxTol → started = true ∨ i.reref = false → k.pending = some d ∧ k.angle = i.angle) ∧
      (i.cpr ≠ 0 → i.referenced = true → d ≠ 0 → d.natAbs ≤ i.idxTol → started = false → i.reref = true →
        k.pending = none ∧ k.angle = moveAngle i.cpr i.angle (-d)) ∧
      (i.cpr ≠ 0 → i.referenced = true → i.idxTol < d.natAbs → k.indexFault = true ∧ k.pending = i.pending ∧ k.angle = i.angle) := by
  intro d k
  have hk : k = (i.atIndex edge).judged started ahead := rfl
  clear_value k
  unfold EncState.judged at hk
  change k = (if i.cpr = 0 then _ else if i.referenced = false then _ else if d = 0 then _ else if d.natAbs ≤ i.idxTol then
    if started = false ∧ i.reref = true then _ else _ else _) at hk
  have h0 : i.idxTol < d.natAbs → d ≠ 0 := fun h hd => by simp [hd] at h
  subst hk
  refine ⟨?_, ?_, fun hc hr => ?_, fun hc hr hd => ?_, fun hc hr hd ht hs => ?_, fun hc hr hd ht hs hrr => ?_, fun hc hr ht => ?_⟩
  · repeat' split
    all_goals rfl
  · repeat' split
    all_goals rfl
  · rw [if_neg hc, if_pos hr]
    exact ⟨rfl, rfl⟩
  · rw [if_neg hc, if_neg (by simp [hr]), if_pos hd]
    exact ⟨rfl, rfl⟩
  · rw [if_neg hc, if_neg (by simp [hr]), if_neg hd, if_pos ht, if_neg (by rcases hs with h | h <;> simp [h])]
    exact ⟨rfl, rfl⟩
  · rw [if_neg hc, if_neg (by simp [hr]), if_neg hd, if_pos ht, if_pos ⟨hs, hrr⟩]
    exact ⟨rfl, rfl⟩
  · rw [if_neg hc, if_neg (by simp [hr]), if_neg (h0 ht), if_neg (Nat.not_le.mpr ht)]
    exact ⟨rfl, rfl, rfl⟩

/-- Settles O35, by the judgement of index events, the relay's step, and the one line that an update can allocate. -/
theorem indexRelaysAndTrackingLoops : Obligations.IndexRelaysAndTrackingLoops := by
  unfold Obligations.IndexRelaysAndTrackingLoops
  refine ⟨⟨fun s e l h n hq hm => ?_, fun s e l h n hm => ?_, fun s e hl => ?_, fun s e hq hr => ?_, fun s e hr ho => ?_, fun s j i hi ha hr => ?_,
    fun s j hq hi => ?_⟩, fun s e a hq hm => ?_, fun s e a hm => ?_, fun s => ?_⟩
  · change execIndexEvent e _ s = _
    unfold execIndexEvent
    dsimp only
    rw [if_pos (by simpa using hm)]
    exact State.done_quiet s hq
  · intro i idx rise
    refine ⟨fun hn hq => ?_, fun hr => ?_⟩
    · refine Eq.trans (execIndexEvent_level (edge := ⟨⟨l, h⟩, n⟩) hm hn) ?_
      exact State.done_quiet _ hq
    · obtain ⟨t, ahead, he, h1, h2, hen, hs, hp⟩ := indexEvents_judged s e l h n hm hr
      have hk : t.enc.encs[e] = (i.atIndex ⟨⟨l, h⟩, n⟩).judged s.print.started ahead :=
        (congrArg (fun x : EncPart => x.encs[e]) hen).trans (State.setEnc_same e _)
      refine ⟨t, ahead, he, h1, h2, ?_⟩
      intro d
      rw [hk]
      obtain ⟨c1, c2, c3, c4, c5, c6, c7⟩ := EncState.judged_cases i ⟨⟨l, h⟩, n⟩ s.print.started ahead
      exact ⟨c1, c2, c3, c4, c5, c6, c7, fun k hk =>
        (congrArg (fun x : EncPart => x.encs[k]) hen).trans (State.setEnc_other hk _), hs, hp⟩
  · have he : execEncSignalRestored e s = (((s.setEnc e (fun i => { i with lossEp := false })).raiseF .encSignalRestored [fld 0 1 e.val]).encEvent 4 e).done := by
      unfold execEncSignalRestored
      rw [if_pos hl]
    refine ⟨_, he, ?_, ?_, ?_⟩
    · rw [State.settle_enc, State.encEvent_enc, State.raiseF_enc]
      exact State.setEnc_same e _
    · rw [State.settle_sluice, State.encEvent_sluice, State.raiseF_sluice]
      rfl
    · rw [State.settle_print, State.encEvent_print, State.raiseF_print]
      rfl
  · change execRelayTransition e s = _
    unfold execRelayTransition
    dsimp only
    rw [if_pos (by rcases hr with h | h
                   · rw [h]; rfl
                   · rw [h]; simp)]
    exact State.done_quiet s hq
  · intro i up
    have he : execRelayTransition e s = (s.relayStep e).done := by
      unfold execRelayTransition
      dsimp only
      rw [if_neg]
      simpa using ⟨hr, ho⟩
    obtain ⟨h1, h2, h3⟩ := s.relayStep_get e
    refine ⟨_, he, ?_⟩
    rw [State.settle_enc, State.settle_sluice, State.settle_print, State.relayStep_sluice, State.relayStep_print]
    refine ⟨h1, h2.trans ?_, h3, rfl, rfl⟩
    change (if up = true then i.owed - 1 else i.owed + 1) = _
    split <;> omega
  · exact execSwitchSetBad_begins hi ha hr
  · change execSwitchSetBad j s = _
    unfold execSwitchSetBad
    dsimp only
    rw [hi]
    exact State.done_quiet s hq
  · have he : execTrackingLoopUpdate e a s = (s.reach a).allSlots.done := by
      unfold execTrackingLoopUpdate
      dsimp only
      rw [if_pos]
      rw [State.allSlots_enc, State.reach_enc]
      simpa using hm
    refine ⟨State.settle _, he, ?_⟩
    simp
  · intro i
    obtain ⟨t, u, he, hu, hue, hone, hline⟩ := execTrackingLoopUpdate_moves (s := s) e a hm
    obtain ⟨hst, hb, henc⟩ := hone
    obtain ⟨hl, hset, hcore⟩ : t.sluice.loops = u.sluice.loops ∧ t.sluice.set = u.sluice.set ∧ t.sluice.coreLine = u.sluice.coreLine := by
      simpa [SluicePart.steady] using hst
    rw [hu] at hl hset hcore hb
    refine ⟨t, he, ?_, fun k hk => ?_, henc.trans (by rw [hue]), hset, hb, hline, hcore⟩
    · rw [hl]
      exact Vector.getElem_set_self e.isLt
    · rw [hl]
      exact Vector.getElem_set_ne e.isLt k.isLt (fun h => hk (Fin.ext h.symm))
  · obtain ⟨t, he, henc, hp, hl⟩ := execRestEntry_rests (s := s)
    refine ⟨t, he, ?_, ?_, ?_, fun k hk => ?_, henc, hp⟩
    · rw [hl, upd_fin, if_pos rfl]
    · rw [hl, upd_fin, if_pos rfl]
    · rw [hl, upd_fin, if_pos rfl]
    · rw [hl, upd_fin, if_neg (Ne.symm hk)]

end Sys2Proof.Machine
end

section
/-!
SUPPORT. Head ports: what leaves on them, what they report, and probes (R281, R282, R287, R288, R294 to R303).
-/

namespace Sys2Proof.Machine

variable {s : State} {c : Cmd}

/-! ### One port changed -/

theorem State.setHead_get (p q : HeadPort) (f : HeadState → HeadState) :
    (s.setHead p f).heads.ports[q] = if p = q then f s.heads.ports[q] else s.heads.ports[q] := upd_fin _ _ _ _

theorem State.setHead_same (p : HeadPort) (f : HeadState → HeadState) : (s.setHead p f).heads.ports[p] = f s.heads.ports[p] := by
  rw [State.setHead_get, if_pos rfl]

theorem State.setHead_other {p q : HeadPort} (h : q ≠ p) (f : HeadState → HeadState) : (s.setHead p f).heads.ports[q] = s.heads.ports[q] := by
  rw [State.setHead_get, if_neg (Ne.symm h)]

/-- From s to t no head port changes but p, and nothing of printing. -/
structure State.PortMoves (s : State) (p : HeadPort) (t : State) : Prop where
  others : ∀ q : HeadPort, q ≠ p → t.heads.ports[q] = s.heads.ports[q]
  print : t.print = s.print

theorem State.PortMoves.trans {t u : State} {p : HeadPort} (h : s.PortMoves p t) (g : t.PortMoves p u) : s.PortMoves p u :=
  ⟨fun q hq => (g.others q hq).trans (h.others q hq), g.print.trans h.print⟩

theorem State.PortMoves.of_eq {t : State} (p : HeadPort) (hh : t.heads = s.heads) (hp : t.print = s.print) : s.PortMoves p t :=
  ⟨fun q _ => by rw [hh], hp⟩

theorem State.PortMoves.settle {t : State} {p : HeadPort} (h : s.PortMoves p t) : s.PortMoves p t.settle :=
  h.trans (.of_eq p t.settle_heads t.settle_print)

theorem State.setHead_moves (p : HeadPort) (f : HeadState → HeadState) : s.PortMoves p (s.setHead p f) :=
  ⟨fun _ hq => State.setHead_other hq f, rfl⟩

theorem State.settle_port (t : State) (p : HeadPort) : t.settle.heads.ports[p] = t.heads.ports[p] := by rw [State.settle_heads]

/-! ### What leaves on the ports moves of them only slots and queues -/

/-- From s to t head ports move only their slots and their queues. -/
def State.LinksMove (s t : State) : Prop := ∀ q : HeadPort, s.heads.ports[q].LinkMoves t.heads.ports[q]

theorem State.LinksMove.of_eq {t : State} (h : t.heads.ports = s.heads.ports) : s.LinksMove t := fun q => by rw [h]; exact ⟨_, _, _, rfl⟩

theorem State.LinksMove.trans {t u : State} (h : s.LinksMove t) (g : t.LinksMove u) : s.LinksMove u := fun q => (h q).trans (g q)

theorem State.offerUsed_links (x : TxItem) (l : List HeadPort) (s : State) : s.LinksMove (s.offerUsed x l) :=
  foldl_keeps (fun t => s.LinksMove t) _ (fun t p h => by
    split
    · exact h.trans (fun q => State.offer_moves p q x)
    · exact h) l s (.of_eq rfl)

/-- The STATUS block that leaves (R281). -/
def State.statusNow (s : State) : Word := statusBlock (s.pair.paired && s.pair.unitB) s.pair.paired s.heads.fromLine s.heads.claim

theorem State.sendStatus_offers (h : s.silenced = false) : s.sendStatus = s.offerUsed (statusItem s.statusNow) (List.finRange 32) := by
  unfold State.sendStatus
  rw [if_neg (by rw [h]; decide)]
  rfl

theorem State.sendStatus_silent (h : s.silenced = true) : s.sendStatus = s := if_pos h

theorem State.sendStatus_links : s.LinksMove s.sendStatus := by
  cases h : s.silenced with
  | true =>
    rw [State.sendStatus_silent h]
    exact .of_eq rfl
  | false =>
    rw [State.sendStatus_offers h]
    exact State.offerUsed_links _ _ s

theorem State.announce_links (v : BitVec 32) : s.LinksMove (s.announce v) := by
  unfold State.announce
  split
  · exact .of_eq rfl
  · exact .trans (t := { s with heads := { s.heads with claim := v, fromLine := if s.print.started then s.sluice.barLine + 1 else 0 } })
      (.of_eq rfl) State.sendStatus_links

theorem State.takeClaim_links (v : BitVec 32) : s.LinksMove (s.takeClaim v) :=
  State.LinksMove.trans (t := (s.sawClaim v).announce v) (.trans (t := s.sawClaim v) (.of_eq rfl) (State.announce_links v)) (.of_eq rfl)

theorem State.claimCheck_links : s.LinksMove s.claimCheck := by
  unfold State.claimCheck
  split
  · exact .of_eq rfl
  · exact State.takeClaim_links _

theorem State.releaseCheck_links : s.LinksMove s.releaseCheck := by
  unfold State.releaseCheck
  split
  · split
    · exact .trans (t := { s with pair := { s.pair with releasing := none } }) (.of_eq rfl) (State.announce_links 0)
    · exact .of_eq rfl
  · exact .of_eq rfl

/-- A port whose slots and queue alone have moved is the same but for them. -/
theorem HeadState.LinkMoves.same {h k : HeadState} (m : h.LinkMoves k) : { k with queue := h.queue, slot := h.slot, skipFrom := h.skipFrom } = h := by
  obtain ⟨a, b, q, rfl⟩ := m
  rfl

/-! ### Reports -/

/-- What an ALIVE reports enters its port; what it makes leave moves only slots and queues (R282, R294, R467). -/
theorem execAlive_reports {p : HeadPort} {w : Word} (hw : bits w 7 0 = 0x80) (ha : s.headActive p = true) :
    ∃ t : State, execAlive p w s = .next t ∧ t.print = s.print ∧ (s.setHead p (fun h =>
      { h with alive := true, silent := false, selected := bitAt w 9, stopped := bitAt w 10
               lastFired := BitVec.ofNat 16 (bits w 31 16), maxClaim := BitVec.ofNat 32 (bits w 63 32) })).LinksMove t := by
  have hset : ∀ t : State, t.settle.heads.ports = t.heads.ports := fun t => by rw [State.settle_heads]
  unfold execAlive
  rw [if_neg (by rw [ha]; simp [hw])]
  extract_lets v s1
  have h1 : (s.setHead p (fun h => { h with alive := true, silent := false, selected := bitAt w 9, stopped := bitAt w 10
                                            lastFired := BitVec.ofNat 16 (bits w 31 16), maxClaim := v })).LinksMove s1 := .of_eq rfl
  have hp : s1.print = s.print := rfl
  split
  · exact ⟨_, rfl, by rw [State.settle_print, State.releaseCheck_print, hp], h1.trans (State.releaseCheck_links.trans (.of_eq (hset _)))⟩
  · split
    · split
      · exact ⟨_, rfl, by rw [State.settle_print, State.takeClaim_print, hp], h1.trans ((State.takeClaim_links _).trans (.of_eq (hset _)))⟩
      · exact ⟨_, rfl, by rw [State.settle_print, hp], h1.trans (.of_eq (hset _))⟩
    · exact ⟨_, rfl, by rw [State.settle_print, State.claimCheck_print, hp], h1.trans (State.claimCheck_links.trans (.of_eq (hset _)))⟩

theorem HeadState.miss_none {h : HeadState} (e : h.miss = none) : { h with miss := none } = h := by rw [← e]

theorem HeadState.disagree_none {h : HeadState} (e : h.disagree = none) : { h with disagree := none } = h := by rw [← e]

/-- A line report moves of its port the run since its last miss (R303). -/
theorem State.missReport_port (p : HeadPort) (n : Nat) (fired : Bool) (reason : Nat) :
    s.PortMoves p (s.missReport p n fired reason) ∧ ∃ m, (s.missReport p n fired reason).heads.ports[p] = { s.heads.ports[p] with miss := m } ∧
      (fired = false → s.heads.ports[p].fires.contains n = true → m = some 0) ∧ (fired = true → s.heads.ports[p].miss = none → m = none) := by
  have hid : s.PortMoves p s := .of_eq p rfl rfl
  unfold State.missReport
  dsimp only
  cases fired with
  | true =>
    rw [if_pos rfl]
    cases hm : s.heads.ports[p].miss with
    | some k => exact ⟨State.setHead_moves p _, _, State.setHead_same p _, fun h => absurd h (by decide), fun _ h => absurd h (by simp)⟩
    | none => exact ⟨hid, none, (HeadState.miss_none hm).symm, fun h => absurd h (by decide), fun _ _ => rfl⟩
  | false =>
    rw [if_neg (by decide)]
    by_cases hf : s.heads.ports[p].fires.contains n = true
    · rw [if_pos hf]
      refine ⟨?_, some 0, ?_, fun _ _ => rfl, fun h => absurd h (by decide)⟩
      · split
        · exact State.setHead_moves p _
        · exact (State.setHead_moves p _).trans (.of_eq p (State.raiseF_heads ..) (State.raiseF_print ..))
      · by_cases hm : s.heads.ports[p].miss.isSome = true
        · rw [if_pos hm]
          exact State.setHead_same p _
        · rw [if_neg hm, State.raiseF_heads]
          exact State.setHead_same p _
    · rw [if_neg hf]
      exact ⟨hid, _, rfl, fun _ h => absurd h hf, fun h => absurd h (by decide)⟩

theorem State.disagreeReport_port (p : HeadPort) (n : Nat) (both agree : Bool) :
    s.PortMoves p (s.disagreeReport p n both agree) ∧ ∃ m, (s.disagreeReport p n both agree).heads.ports[p] = { s.heads.ports[p] with disagree := m } ∧
      (both = true → agree = false → m = some 0) := by
  have hid : s.PortMoves p s := .of_eq p rfl rfl
  unfold State.disagreeReport
  dsimp only
  by_cases hb : (both && !agree) = true
  · rw [if_pos hb]
    refine ⟨?_, some 0, ?_, fun _ _ => rfl⟩
    · split
      · exact State.setHead_moves p _
      · exact (State.setHead_moves p _).trans (.of_eq p (State.raiseF_heads ..) (State.raiseF_print ..))
    · by_cases hm : s.heads.ports[p].disagree.isSome = true
      · rw [if_pos hm]
        exact State.setHead_same p _
      · rw [if_neg hm, State.raiseF_heads]
        exact State.setHead_same p _
  · have hn {m : Option Nat} : both = true → agree = false → m = some 0 := fun h1 h2 => absurd (by rw [h1, h2]; rfl) hb
    rw [if_neg hb]
    cases agree with
    | false => exact ⟨hid, _, rfl, hn⟩
    | true =>
      rw [if_pos rfl]
      cases hd : s.heads.ports[p].disagree with
      | some k => exact ⟨State.setHead_moves p _, _, State.setHead_same p _, hn⟩
      | none => exact ⟨hid, none, (HeadState.disagree_none hd).symm, hn⟩

/-- A LINE_ACK is taken by its port, and by the pair (R295, R303). -/
theorem execLineAck_reports {p : HeadPort} {w : Word} (hw : bits w 7 0 = 0x81) (ha : s.headActive p = true) :
    ∃ t : State, execLineAck p w s = .next t ∧ s.PortMoves p t ∧
      (bitAt w 25 = false → s.heads.ports[p].fires.contains (expandLine s.sluice.barLine (bits w 23 8)) = true → t.heads.ports[p].miss = some 0) ∧
      (bitAt w 25 = true → s.heads.ports[p].miss = none → t.heads.ports[p].miss = none) ∧
      (bitAt w 29 = true → bitAt w 30 = false → t.heads.ports[p].disagree = some 0) ∧ t.heads.ports[p].lam = s.heads.ports[p].lam := by
  unfold execLineAck
  rw [if_neg (by rw [ha]; simp [hw])]
  extract_lets n fired reason both agree
  obtain ⟨m1, miss, h1, hmiss, hkeep⟩ := State.missReport_port (s := s) p n fired reason
  obtain ⟨m2, dis, h2, hdis⟩ := State.disagreeReport_port (s := s.missReport p n fired reason) p n both agree
  have hheads := State.pairReport_heads (s := (s.missReport p n fired reason).disagreeReport p n both agree) p n fired reason both agree
  have hprint := State.pairReport_print (s := (s.missReport p n fired reason).disagreeReport p n both agree) p n fired reason both agree
  rw [h1] at h2
  refine ⟨_, rfl, ((m1.trans m2).trans (.of_eq p hheads hprint)).settle, ?_⟩
  rw [State.settle_heads, hheads, h2]
  exact ⟨hmiss, hkeep, hdis, rfl⟩

/-! ### Temperatures -/

theorem State.setTemp_get (p q : HeadPort) (f : HeadTemp → HeadTemp) :
    (s.setTemp p f).sluice.temps[q] = if p = q then f s.sluice.temps[q] else s.sluice.temps[q] := upd_fin _ _ _ _

/-- From s to t no head's temperature state changes but p's, and no head port. -/
structure State.TempMoves (s : State) (p : HeadPort) (t : State) : Prop where
  others : ∀ q : HeadPort, q ≠ p → t.sluice.temps[q] = s.sluice.temps[q]
  heads : t.heads = s.heads

theorem State.TempMoves.trans {t u : State} {p : HeadPort} (h : s.TempMoves p t) (g : t.TempMoves p u) : s.TempMoves p u :=
  ⟨fun q hq => (g.others q hq).trans (h.others q hq), g.heads.trans h.heads⟩

theorem State.TempMoves.of_eq {t : State} (p : HeadPort) (hs : t.sluice = s.sluice) (hh : t.heads = s.heads) : s.TempMoves p t :=
  ⟨fun q _ => by rw [hs], hh⟩

theorem State.setTemp_moves (p : HeadPort) (f : HeadTemp → HeadTemp) : s.TempMoves p (s.setTemp p f) :=
  ⟨fun q hq => by rw [State.setTemp_get, if_neg (Ne.symm hq)], rfl⟩

theorem State.setTemp_raised (p : HeadPort) (f : HeadTemp → HeadTemp) (e : Code) (l : List Nat) :
    s.TempMoves p ((s.setTemp p f).raiseF e l) ∧ ((s.setTemp p f).raiseF e l).sluice.temps[p] = f s.sluice.temps[p] := by
  refine ⟨(State.setTemp_moves p f).trans (.of_eq p (State.raiseF_sluice ..) (State.raiseF_heads ..)), ?_⟩
  rw [State.raiseF_sluice, State.setTemp_get, if_pos rfl]

theorem HeadTemp.derateFrom_keeps (t : HeadTemp) (started : Bool) (n : Nat) (b : Bool) :
    (t.derateFrom started n b).warn = t.warn ∧ (t.derateFrom started n b).hard = t.hard := by
  unfold HeadTemp.derateFrom
  split <;> exact ⟨rfl, rfl⟩

theorem State.enterWarn_temp (p : HeadPort) (x : Int) (n : Nat) : s.TempMoves p (s.enterWarn p x n) ∧
    (s.enterWarn p x n).sluice.temps[p].warn = true ∧ (s.enterWarn p x n).sluice.temps[p].hard = s.sluice.temps[p].hard := by
  unfold State.enterWarn
  by_cases hw : s.sluice.temps[p].warn = true
  · rw [if_pos hw]
    exact ⟨.of_eq p rfl rfl, hw, rfl⟩
  · obtain ⟨m, h⟩ := State.setTemp_raised (s := s) p (fun h => { h.derateFrom s.print.started n true with warn := true }) .headTempWarn (tempDetail p x n)
    rw [if_neg hw, h]
    exact ⟨m, rfl, (HeadTemp.derateFrom_keeps ..).2⟩

theorem State.enterHard_temp (p : HeadPort) (x : Int) (n : Nat) : s.TempMoves p (s.enterHard p x n) ∧
    (s.enterHard p x n).sluice.temps[p].hard = true ∧ (s.enterHard p x n).sluice.temps[p].warn = s.sluice.temps[p].warn := by
  unfold State.enterHard
  by_cases hh : s.sluice.temps[p].hard = true
  · rw [if_pos hh]
    exact ⟨.of_eq p rfl rfl, hh, rfl⟩
  rw [if_neg hh]
  extract_lets o was q s0 s1
  obtain ⟨m, h⟩ := State.setTemp_raised (s := s0) p (fun h => { h with hard := true, back := none, out := some (was.getD o) }) .headTempHard (tempDetail p x n)
  have m0 : s.TempMoves p s1 := .trans (t := s0) (.of_eq p rfl rfl) m
  have h1 : s1.sluice.temps[p] = { s.sluice.temps[p] with hard := true, back := none, out := some (was.getD o) } := h
  have hs : (if (s.print.started && was.isNone) = true then s1.headOut p n else s1).sluice = s1.sluice := by
    split
    · exact State.headOut_sluice ..
    · rfl
  have hk : (if (s.print.started && was.isNone) = true then s1.headOut p n else s1).heads = s1.heads := by
    split
    · exact State.headOut_heads ..
    · rfl
  refine ⟨m0.trans (.of_eq p hs hk), ?_⟩
  rw [hs, h1]
  exact ⟨rfl, rfl⟩

theorem State.clearTemp_temp (p : HeadPort) (x : Int) (n : Nat) : s.TempMoves p (s.clearTemp p x n) ∧
    (s.clearTemp p x n).sluice.temps[p].warn = false ∧ (s.clearTemp p x n).sluice.temps[p].hard = false := by
  unfold State.clearTemp
  dsimp only
  by_cases hc : (!s.sluice.temps[p].warn && !s.sluice.temps[p].hard) = true
  · rw [if_pos hc]
    simp only [Bool.and_eq_true, Bool.not_eq_true'] at hc
    exact ⟨.of_eq p rfl rfl, hc⟩
  · rw [if_neg hc]
    obtain ⟨m, h⟩ := State.setTemp_raised (s := s) p (fun h =>
      { h.derateFrom s.print.started n false with
        warn := false, hard := false
        back := if s.print.started && h.out.isSome then some n else none
        out := if s.print.started then h.out else none }) .headTempClear (tempDetail p x n)
    rw [h]
    exact ⟨m, rfl, rfl⟩

/-- A temperature judged (R255, R257 to R259). -/
theorem State.judgeTemp_temp (p : HeadPort) (x : Int) (n : Nat) : s.TempMoves p (s.judgeTemp p x n) ∧
    (s.sluice.set.temps[p].hard ≤ x → (s.judgeTemp p x n).sluice.temps[p].hard = true ∧ (s.judgeTemp p x n).sluice.temps[p].warn = true) ∧
    (x < s.sluice.set.temps[p].hard → s.sluice.set.temps[p].warn ≤ x →
      (s.judgeTemp p x n).sluice.temps[p].warn = true ∧ (s.judgeTemp p x n).sluice.temps[p].hard = s.sluice.temps[p].hard) ∧
    (x < s.sluice.set.temps[p].hard → x < s.sluice.set.temps[p].warn →
      (x ≤ s.sluice.set.temps[p].warn - s.sluice.set.hyst →
        (s.judgeTemp p x n).sluice.temps[p].warn = false ∧ (s.judgeTemp p x n).sluice.temps[p].hard = false) ∧
      (s.sluice.set.temps[p].warn - s.sluice.set.hyst < x → (s.judgeTemp p x n).sluice.temps[p] = s.sluice.temps[p])) := by
  unfold State.judgeTemp
  dsimp only
  by_cases hh : s.sluice.set.temps[p].hard ≤ x
  · obtain ⟨m1, w1, -⟩ := State.enterWarn_temp (s := s) p x n
    obtain ⟨m2, h2, w2⟩ := State.enterHard_temp (s := s.enterWarn p x n) p x n
    rw [if_pos hh]
    exact ⟨m1.trans m2, fun _ => ⟨h2, w2.trans w1⟩, fun h => absurd hh (Int.not_le.mpr h), fun h => absurd hh (Int.not_le.mpr h)⟩
  rw [if_neg hh]
  by_cases hw : s.sluice.set.temps[p].warn ≤ x
  · obtain ⟨m1, w1, k1⟩ := State.enterWarn_temp (s := s) p x n
    rw [if_pos hw]
    exact ⟨m1, fun h => absurd h hh, fun _ _ => ⟨w1, k1⟩, fun _ h => absurd hw (Int.not_le.mpr h)⟩
  rw [if_neg hw]
  by_cases hy : x ≤ s.sluice.set.temps[p].warn - s.sluice.set.hyst
  · obtain ⟨m1, w1, k1⟩ := State.clearTemp_temp (s := s) p x n
    rw [if_pos hy]
    exact ⟨m1, fun h => absurd h hh, fun _ h => absurd h hw, fun _ _ => ⟨fun _ => ⟨w1, k1⟩, fun h => absurd hy (Int.not_le.mpr h)⟩⟩
  · rw [if_neg hy]
    exact ⟨.of_eq p rfl rfl, fun h => absurd h hh, fun _ h => absurd h hw, fun _ _ => ⟨fun h => absurd h hy, fun _ => rfl⟩⟩

theorem State.drew_temps : s.drew.sluice = s.sluice ∧ s.drew.heads = s.heads := ⟨State.drew_sluice _, State.drew_heads _⟩

/-- A TEMP report is judged as a temperature of its port (R257). -/
theorem execTemp_judges {p : HeadPort} {w : Word} (hw : bits w 7 0 = 0x82) (ha : s.headActive p = true) :
    ∃ (u : State) (n : Nat), execTemp p w s = (u.judgeTemp p (sbits w 31 24) n).done ∧ u.sluice = s.sluice ∧ u.heads = s.heads := by
  unfold execTemp
  rw [if_neg (by rw [ha]; simp [hw])]
  dsimp only
  split
  · exact ⟨s, _, rfl, rfl, rfl⟩
  · exact ⟨s.drew, _, rfl, State.drew_temps.1, State.drew_temps.2⟩

/-- A head driver's event is reported, and one of no kind is not (R299). -/
theorem execHdEvent_reports {p : HeadPort} {w : Word} (hw : bits w 7 0 = 0x84) (ha : s.headActive p = true) :
    ∃ t : State, execHdEvent p w s = .next t ∧ t.heads = s.heads ∧ t.sluice = s.sluice ∧ t.print = s.print ∧
      (bits w 15 8 = 0 → s.quiet → t = s) := by
  have hr (e : Code) (l : List Nat) : (s.raiseF e l).settle.heads = s.heads ∧ (s.raiseF e l).settle.sluice = s.sluice ∧
      (s.raiseF e l).settle.print = s.print := by
    simp only [State.settle_heads, State.settle_sluice, State.settle_print, State.raiseF_heads, State.raiseF_sluice, State.raiseF_print, and_self]
  unfold execHdEvent
  rw [if_neg (by rw [ha]; simp [hw])]
  dsimp only
  split
  case h_1 h => exact ⟨_, rfl, (hr _ _).1, (hr _ _).2.1, (hr _ _).2.2, fun h0 => absurd (h.symm.trans h0) (by decide)⟩
  case h_2 h => exact ⟨_, rfl, (hr _ _).1, (hr _ _).2.1, (hr _ _).2.2, fun h0 => absurd (h.symm.trans h0) (by decide)⟩
  case h_3 h => exact ⟨_, rfl, (hr _ _).1, (hr _ _).2.1, (hr _ _).2.2, fun h0 => absurd (h.symm.trans h0) (by decide)⟩
  case h_4 => exact ⟨_, rfl, State.settle_heads _, State.settle_sluice _, State.settle_print _, fun _ hq => State.settle_quiet _ hq⟩

/-! ### CAPS, and a port that becomes ready -/

/-- From s to t port p alone moves, and of it only whether it is up, its λ, its frames and its capabilities' fault. -/
structure State.Readies (s : State) (p : HeadPort) (t : State) : Prop where
  moves : s.PortMoves p t
  port : ∃ u f l b, t.heads.ports[p] = { s.heads.ports[p] with up := u, framesFrom := f, lam := l, capsBad := b }

theorem State.Readies.of_eq {t : State} (p : HeadPort) (hh : t.heads = s.heads) (hp : t.print = s.print) : s.Readies p t :=
  ⟨.of_eq p hh hp, _, _, _, _, by rw [hh]⟩

theorem State.Readies.trans {t u : State} {p : HeadPort} (h : s.Readies p t) (g : t.Readies p u) : s.Readies p u := by
  obtain ⟨m, _, _, _, _, hp⟩ := h
  obtain ⟨m', _, _, _, _, hp'⟩ := g
  rw [hp] at hp'
  exact ⟨m.trans m', _, _, _, _, hp'⟩

theorem State.capsHealed_readies (p : HeadPort) : s.Readies p (s.capsHealed p) := by
  unfold State.capsHealed
  split
  · split
    · exact ⟨State.setHead_moves p _, _, _, _, _, State.setHead_same p _⟩
    · exact .of_eq p rfl rfl
  · exact .of_eq p rfl rfl

/-- A port that comes up keeps its λ (R282). -/
theorem State.headUp_readies (p : HeadPort) : s.Readies p (s.headUp p) ∧ (s.headUp p).heads.ports[p].lam = s.heads.ports[p].lam := by
  unfold State.headUp
  split
  · by_cases hc : (s.heads.ports[p].up || !s.headActive p) = true
    · rw [if_pos hc]
      exact ⟨.of_eq p rfl rfl, rfl⟩
    · rw [if_neg hc]
      have h := State.setHead_same (s := s) p (fun h => { h with up := true, framesFrom := s.heads.assembleTo })
      refine ⟨.trans (t := s.setHead p (fun h => { h with up := true, framesFrom := s.heads.assembleTo }))
        ⟨State.setHead_moves p _, _, _, _, _, h⟩ (.of_eq p (State.raiseF_heads ..) (State.raiseF_print ..)), ?_⟩
      rw [State.raiseF_heads, h]
  · exact ⟨.of_eq p rfl rfl, rfl⟩

theorem State.judgeNow_readies (p : HeadPort) : s.Readies p (s.judgeNow p) := .of_eq p (State.judgeNow_heads ..) (State.judgeNow_print ..)

theorem State.headReady_readies (p : HeadPort) : s.Readies p (s.headReady p) := by
  unfold State.headReady
  dsimp only
  by_cases hc : (s.headInCaps p && s.heads.ports[p].capsSeen && s.heads.ports[p].capsSent == 16 && s.heads.ports[p].probes.isEmpty) = true
  · rw [if_pos hc]
    generalize hl : s.setLane (headLane p) (fun l => { l with st := .active, backoff := 0, detections := 0 }) = sl
    have h1 : s.Readies p sl := by
      rw [← hl]
      exact .of_eq p rfl rfl
    have h2 : s.Readies p ((sl.setHead p (fun h => { h with lam := median h.capsMeas })).headUp p) :=
      (h1.trans ⟨State.setHead_moves p _, _, _, _, _, State.setHead_same p _⟩).trans (State.headUp_readies p).1
    split
    · split
      · exact h2
      · exact h2.trans (State.judgeNow_readies p)
    · exact h2
  · rw [if_neg hc]
    exact .of_eq p rfl rfl

/-- What CAPS announces enters its port (R287, R288); a block without its data is a frame error. -/
theorem execCaps_reports {p : HeadPort} {w : Word} (hw : bits w 7 0 = 0x90) (ha : s.headActive p = true ∨ s.headInCaps p = true) :
    (∀ d, ∃ t : State, execCaps p w (some d) s = .next t ∧ t.heads.ports[p].caps = some (parseCaps w d) ∧ t.heads.ports[p].capsSeen = true ∧
      s.PortMoves p t) ∧
    ∃ t : State, execCaps p w none s = .next t ∧ t.heads = s.heads ∧ t.print = s.print ∧
      t.lanes.lanes[headLane p].frameErr = min 65535 (s.lanes.lanes[headLane p].frameErr + 1) := by
  have hg : ¬(bits w 7 0 ≠ 0x90 ∨ (!(s.headActive p || s.headInCaps p)) = true) := by
    rcases ha with h | h <;> simp [hw, h]
  refine ⟨fun d => ?_, ?_⟩
  · unfold execCaps
    rw [if_neg hg]
    dsimp only
    generalize hs1 : s.setHead p (fun h => { h with caps := some (parseCaps w d), capsSeen := true }) = s1
    have h0 : s.PortMoves p s1 ∧ s1.heads.ports[p].caps = some (parseCaps w d) ∧ s1.heads.ports[p].capsSeen = true := by
      rw [← hs1]
      exact ⟨State.setHead_moves p _, by rw [State.setHead_same], by rw [State.setHead_same]⟩
    have h2 : s1.Readies p (if (s1.capsHealed p).health.ports[p].judged.isNone then (s1.capsHealed p).judgeNow p else s1.capsHealed p) := by
      split
      · exact (State.capsHealed_readies p).trans (State.judgeNow_readies p)
      · exact State.capsHealed_readies p
    obtain ⟨m, _, _, _, _, hp⟩ := h2.trans (State.headReady_readies p)
    refine ⟨_, rfl, ?_, ?_, (h0.1.trans m).settle⟩
    · rw [State.settle_port, hp]
      exact h0.2.1
    · rw [State.settle_port, hp]
      exact h0.2.2
  · unfold execCaps
    rw [if_neg hg]
    refine ⟨_, rfl, State.settle_heads _, State.settle_print _, ?_⟩
    rw [State.settle_lanes]
    have h := (upd_fin s.lanes.lanes (headLane p) (headLane p) (fun l => { l with frameErr := min 65535 (l.frameErr + 1) })).trans (if_pos rfl)
    exact congrArg LaneState.frameErr h

/-! ### Probes -/

/-- A probe that may leave is offered, and kept as outstanding (R297). -/
theorem execLatProbeSend_offers {p : HeadPort} (n : Nat) (h : s.headActive p = true ∨ (s.headInCaps p = true ∧ s.heads.ports[p].capsSent < 16)) :
    ∃ t : State, execLatProbeSend p n s = .next t ∧ t.heads.ports[p].probes = s.heads.ports[p].probes ++ [(s.heads.ports[p].probeSeq, n)] ∧
      t.heads.ports[p].probeSeq = s.heads.ports[p].probeSeq + 1 ∧ probeItem s.heads.ports[p].probeSeq ∈ t.heads.ports[p].queue ∧
      t.heads.ports[p].capsSent = s.heads.ports[p].capsSent + (if s.headInCaps p = true then 1 else 0) ∧ s.PortMoves p t := by
  unfold execLatProbeSend
  dsimp only
  have hg : ¬(!(s.headActive p || (s.headInCaps p && decide (s.heads.ports[p].capsSent < 16)))) = true := by
    rcases h with h | ⟨h, h'⟩
    · rw [h]
      simp
    · rw [h, decide_eq_true h']
      simp
  rw [if_neg hg]
  generalize hu : s.setHead p (fun h => { h with probes := h.probes ++ [(h.probeSeq, n)], probeSeq := h.probeSeq + 1
                                                 capsSent := if s.headInCaps p then h.capsSent + 1 else h.capsSent }) = u
  have hm : s.PortMoves p u := by
    rw [← hu]
    exact State.setHead_moves p _
  have hp : u.heads.ports[p] = { s.heads.ports[p] with probes := s.heads.ports[p].probes ++ [(s.heads.ports[p].probeSeq, n)], probeSeq := s.heads.ports[p].probeSeq + 1, capsSent := if s.headInCaps p then s.heads.ports[p].capsSent + 1 else s.heads.ports[p].capsSent } := by
    rw [← hu]
    exact State.setHead_same p _
  have ho := State.offer_waits (s := u) p (probeItem s.heads.ports[p].probeSeq)
  obtain ⟨_, _, _, hl⟩ := State.offer_moves (s := u) p p (probeItem s.heads.ports[p].probeSeq)
  rw [hp] at hl
  refine ⟨_, rfl, ?_, ?_, ?_, ?_, (hm.trans ⟨fun q hq => State.offer_other p q _ (Ne.symm hq), State.offer_print ..⟩).settle⟩
  · rw [State.settle_port, hl]
  · rw [State.settle_port, hl]
  · rw [State.settle_port]
    exact ho
  · rw [State.settle_port, hl]
    dsimp only
    split <;> rfl

/-- A probe that times out is dropped (R297). -/
theorem execLatProbeTimeout_drops (p : HeadPort) (q : Byte) :
    ∃ t : State, execLatProbeTimeout p q s = .next t ∧ t.heads.ports[p].probes = s.heads.ports[p].probes.filter (fun x => x.1 != q) ∧ s.PortMoves p t := by
  obtain ⟨m, _, _, _, _, hp⟩ := State.headReady_readies (s := s.setHead p (fun h => { h with probes := h.probes.filter (fun x => x.1 != q) })) p
  rw [State.setHead_same] at hp
  refine ⟨_, rfl, ?_, ((State.setHead_moves p _).trans m).settle⟩
  rw [State.settle_port, hp]

/-- A measurement in ACTIVE: λ is the median of the last five (R298). -/
theorem State.measure_active {p : HeadPort} (l : Nat) (ha : s.headActive p = true) : s.PortMoves p (s.measure p l) ∧
    (s.measure p l).heads.ports[p].meas = l :: s.heads.ports[p].meas.take 4 ∧
    (s.measure p l).heads.ports[p].lam = median (l :: s.heads.ports[p].meas.take 4) := by
  unfold State.measure
  dsimp only
  rw [if_pos ha]
  generalize hu : (s.setHead p (fun h => { h with meas := l :: h.meas.take 4, capsMeas := if s.headInCaps p then h.capsMeas ++ [l] else h.capsMeas })).setHead p
    (fun h => { h with lam := median h.meas }) = u
  have hm : s.PortMoves p u := by
    rw [← hu]
    exact (State.setHead_moves p _).trans (State.setHead_moves p _)
  have hp : u.heads.ports[p].meas = l :: s.heads.ports[p].meas.take 4 ∧ u.heads.ports[p].lam = median (l :: s.heads.ports[p].meas.take 4) := by
    rw [← hu, State.setHead_same, State.setHead_same]
    exact ⟨rfl, rfl⟩
  obtain ⟨⟨m, _, _, _, _, hr⟩, hlam⟩ := State.headUp_readies (s := u) p
  refine ⟨hm.trans m, ?_, hlam.trans hp.2⟩
  rw [hr]
  exact hp.1

theorem execLatEcho_measures {p : HeadPort} {w : Word} {a : Nat} {x : Byte × Nat} (hw : bits w 7 0 = 0x87) (ha : s.headActive p = true)
    (hx : s.heads.ports[p].probes.find? (fun y => y.1 == BitVec.ofNat 8 (bits w 15 8)) = some x) :
    ∃ t : State, execLatEcho p w a s = .next t ∧ t.heads.ports[p].meas = (a - x.2 - bits w 39 16) :: s.heads.ports[p].meas.take 4 ∧
      t.heads.ports[p].lam = median ((a - x.2 - bits w 39 16) :: s.heads.ports[p].meas.take 4) ∧ s.PortMoves p t := by
  unfold execLatEcho
  dsimp only
  rw [if_neg (by simp [hw, ha]), hx]
  obtain ⟨m, hmeas, hlam⟩ := State.measure_active
    (s := s.setHead p (fun h => { h with probes := h.probes.filter (fun y => y.1 != BitVec.ofNat 8 (bits w 15 8)) })) (p := p) (a - x.2 - bits w 39 16) ha
  rw [State.setHead_same] at hmeas hlam
  refine ⟨_, rfl, ?_, ?_, ((State.setHead_moves p _).trans m).settle⟩
  · rw [State.settle_port]
    exact hmeas
  · rw [State.settle_port]
    exact hlam

/-! ### STATUS -/

theorem State.offerUsed_heads (x : TxItem) (l : List HeadPort) (s : State) : ∃ v, (s.offerUsed x l).heads = { s.heads with ports := v } :=
  foldl_keeps (fun t => ∃ v, t.heads = { s.heads with ports := v }) _ (fun t p h => by
    split
    · obtain ⟨v, hv⟩ := h
      have hp : ∃ v, (t.portSlots p).heads = { t.heads with ports := v } := by
        unfold State.portSlots
        split
        · exact ⟨_, rfl⟩
        · exact ⟨_, rfl⟩
      obtain ⟨v', hv'⟩ := hp
      unfold State.offer State.setHead
      rw [hv', hv]
      exact ⟨_, rfl⟩
    · exact h) l s ⟨_, rfl⟩

theorem State.sendStatus_heads : ∃ v, s.sendStatus.heads = { s.heads with ports := v } := by
  cases h : s.silenced with
  | true =>
    rw [State.sendStatus_silent h]
    exact ⟨_, rfl⟩
  | false =>
    rw [State.sendStatus_offers h]
    exact State.offerUsed_heads _ _ s

theorem State.claimCheck_silenced : s.claimCheck.silenced = s.silenced := by
  unfold State.silenced
  rw [State.claimCheck_sys, State.claimCheck_sec]

theorem State.claimCheck_paired : s.claimCheck.pair.paired = s.pair.paired ∧ s.claimCheck.pair.unitB = s.pair.unitB := by
  unfold State.claimCheck
  split
  · exact ⟨rfl, rfl⟩
  · unfold State.takeClaim
    dsimp only
    rw [State.announce_pair]
    exact ⟨rfl, rfl⟩

theorem State.claimCheck_silent (h : s.silenced = true) : s.claimCheck.sent = s.sent := by
  unfold State.claimCheck
  split
  · rfl
  · unfold State.takeClaim State.announce
    dsimp only
    split
    · rfl
    · rw [State.sendStatus_silent]
      · rfl
      · exact h

/-- A device of no pair takes its claim once its heads are alive (R467). -/
theorem State.claimCheck_takes (hp : s.pair.paired = false) (ho : s.heads.ownClaim = false) (ha : s.headsAlive = true) :
    s.claimCheck.heads.ownClaim = true ∧ s.claimCheck.pair.claim = s.pair.highest + 1 := by
  unfold State.claimCheck
  rw [if_neg (by rw [hp, ho, ha]; decide)]
  exact ⟨rfl, rfl⟩

/-- STATUS goes to every port in use (R281), and takes the claim of a device of no pair first (R467). -/
theorem execStatusSend_sends : ∃ t : State, execStatusSend s = .next t ∧
    (s.silenced = false → ∀ p : HeadPort, s.portUsed p = true →
      statusItem (statusBlock (s.pair.paired && s.pair.unitB) s.pair.paired t.heads.fromLine t.heads.claim) ∈ t.heads.ports[p].queue) ∧
    (s.silenced = true → s.quiet → t.sent = s.sent) ∧
    (s.pair.paired = false → s.heads.ownClaim = false → s.headsAlive = true → t.heads.ownClaim = true ∧ t.pair.claim = s.pair.highest + 1) ∧
    s.LinksMove t ∧ t.print = s.print := by
  obtain ⟨v, hv⟩ := State.sendStatus_heads (s := s.claimCheck)
  refine ⟨s.claimCheck.sendStatus.settle, rfl, fun hs p hu => ?_, fun hs hq => ?_, fun hp ho ha => ?_, ?_, ?_⟩
  · have hw : s.claimCheck.statusNow = statusBlock (s.pair.paired && s.pair.unitB) s.pair.paired s.claimCheck.heads.fromLine s.claimCheck.heads.claim := by
      rw [State.statusNow, State.claimCheck_paired.1, State.claimCheck_paired.2]
    have hu' : s.claimCheck.portUsed p = true := (State.portUsed_moves (State.claimCheck_lanes _) (State.claimCheck_links p)).trans hu
    have ho := State.sendStatus_offers (State.claimCheck_silenced.trans hs)
    have hm := (State.offerUsed_ports (statusItem s.claimCheck.statusNow) _ (List.nodup_finRange 32) s.claimCheck p).1 (List.mem_finRange p) hu'
    rw [← ho, hw] at hm
    have h1 : s.claimCheck.sendStatus.heads.fromLine = s.claimCheck.heads.fromLine := by rw [hv]
    have h2 : s.claimCheck.sendStatus.heads.claim = s.claimCheck.heads.claim := by rw [hv]
    rw [State.settle_heads, h1, h2]
    exact hm
  · have hq' : s.claimCheck.quiet := (congrArg HostPart.batch (State.claimCheck_host _)).trans hq
    rw [State.sendStatus_silent (State.claimCheck_silenced.trans hs), State.settle_quiet _ hq']
    exact State.claimCheck_silent hs
  · obtain ⟨h1, h2⟩ := State.claimCheck_takes hp ho ha
    rw [State.settle_heads, State.settle_pair, hv, State.sendStatus_pair]
    exact ⟨h1, h2⟩
  · exact (State.claimCheck_links.trans State.sendStatus_links).trans (.of_eq (by rw [State.settle_heads]))
  · rw [State.settle_print, State.sendStatus_print, State.claimCheck_print]

/-! ### O36 -/

/-- A block of another TYPE, or on a port that is not ACTIVE, does nothing. -/
theorem headReports_ignored (p : HeadPort) (w : Word) (d : Option Word) (hq : s.quiet) :
    (bits w 7 0 ≠ 0x80 ∨ s.headActive p = false → exec (.alive p w) s = .next s) ∧
    (bits w 7 0 ≠ 0x81 ∨ s.headActive p = false → exec (.lineAck p w) s = .next s) ∧
    (bits w 7 0 ≠ 0x82 ∨ s.headActive p = false → exec (.temp p w) s = .next s) ∧
    (bits w 7 0 ≠ 0x84 ∨ s.headActive p = false → exec (.hdEvent p w) s = .next s) ∧
    (bits w 7 0 ≠ 0x90 ∨ (s.headActive p = false ∧ s.headInCaps p = false) → exec (.caps p w d) s = .next s) := by
  have hc {n : Nat} (h : bits w 7 0 ≠ n ∨ s.headActive p = false) : bits w 7 0 ≠ n ∨ (!s.headActive p) = true :=
    h.imp_right (fun h => by rw [h]; rfl)
  have hd := s.done_quiet hq
  refine ⟨fun h => (if_pos (hc h)).trans hd, fun h => (if_pos (hc h)).trans hd, fun h => (if_pos (hc h)).trans hd, fun h => (if_pos (hc h)).trans hd, fun h => ?_⟩
  exact (if_pos (h.imp_right (fun ⟨h1, h2⟩ => by rw [h1, h2]; rfl))).trans hd

/-- Settles O36: each report is taken by its own port's lemma, and what leaves moves only slots and queues. -/
theorem headReportsAndProbes : Obligations.HeadReportsAndProbes := by
  unfold Obligations.HeadReportsAndProbes
  refine ⟨⟨fun s p w d hq => headReports_ignored p w d hq, fun s p w ha => ⟨fun hw => ?_, fun hs => ?_, fun hw => ?_, fun hw => ?_, fun hw => ?_⟩,
    fun s p w hw ha => ⟨fun d => ?_, (execCaps_reports hw ha).2⟩⟩,
    fun s p n => ⟨fun h => ?_, fun hq h1 h2 => ?_⟩, fun s p q => ?_, fun s p w a x hw ha hx => ?_, fun s p w a hq h => ?_, fun s => ?_⟩
  · obtain ⟨t, ht, hp, hl⟩ := execAlive_reports hw ha
    obtain ⟨_, _, _, hm⟩ := hl p
    rw [State.setHead_same] at hm
    refine ⟨t, ht, by rw [hm], by rw [hm], by rw [hm], by rw [hm], by rw [hm], fun q hq => ?_, hp⟩
    have h := (hl q).same
    rw [State.setHead_other hq] at h
    exact h
  · have hx : exec (.aliveTimeout p) s =
        ((s.setHead p (fun h => { h with alive := false, silent := true })).raiseF .headLinkDown [fld 0 5 p.val, fld 5 2 2]).done :=
      if_neg (by rw [ha, hs]; decide)
    have hm := ((State.setHead_moves (s := s) p (fun h => { h with alive := false, silent := true })).trans
      (.of_eq p (State.raiseF_heads (e := .headLinkDown) (l := [fld 0 5 p.val, fld 5 2 2]) ..) (State.raiseF_print ..))).settle
    refine ⟨_, hx, ?_, ?_, hm.others, hm.print⟩
    · rw [State.settle_heads, State.raiseF_heads, State.setHead_same]
    · rw [State.settle_heads, State.raiseF_heads, State.setHead_same]
  · obtain ⟨t, ht, hm, h1, h2, h3, h4⟩ := execLineAck_reports hw ha
    exact ⟨t, ht, h1, h2, h3, h4, hm.others, hm.print⟩
  · obtain ⟨u, n, he, hu, hk⟩ := execTemp_judges hw ha
    obtain ⟨m, h1, h2, h3⟩ := State.judgeTemp_temp (s := u) p (sbits w 31 24) n
    have ho := m.others
    rw [hu] at h1 h2 h3 ho
    refine ⟨_, he, ?_⟩
    rw [State.settle_sluice, State.settle_heads]
    exact ⟨h1, h2, h3, ho, m.heads.trans hk⟩
  · exact execHdEvent_reports hw ha
  · obtain ⟨t, ht, h1, h2, hm⟩ := (execCaps_reports hw ha).1 d
    exact ⟨t, ht, h1, h2, hm.others, hm.print⟩
  · obtain ⟨t, ht, h1, h2, h3, h4, hm⟩ := execLatProbeSend_offers n h
    exact ⟨t, ht, h1, h2, h3, h4, hm.others, hm.print⟩
  · refine (if_pos ?_).trans (s.done_quiet hq)
    rcases h2 with h | h
    · rw [h1, h]
      rfl
    · rw [h1, decide_eq_false (Nat.not_lt.mpr h), Bool.and_false]
      rfl
  · obtain ⟨t, ht, h1, hm⟩ := execLatProbeTimeout_drops (s := s) p q
    exact ⟨t, ht, h1, hm.others, hm.print⟩
  · obtain ⟨t, ht, h1, h2, hm⟩ := execLatEcho_measures (a := a) hw ha hx
    exact ⟨t, ht, h1, h2, hm.others, hm.print⟩
  · show execLatEcho p w a s = _
    unfold execLatEcho
    dsimp only
    split
    · exact s.done_quiet hq
    · next hg =>
      rcases h with h | h
      · exact absurd (.inl h) hg
      · rw [h]
        exact s.done_quiet hq
  · obtain ⟨t, ht, h1, h2, h3, hl, hp⟩ := execStatusSend_sends (s := s)
    exact ⟨t, ht, h1, h2, h3, fun q => (hl q).same, hp⟩

end Sys2Proof.Machine
end

section
/-!
SUPPORT. Waveform loads of the head ports (R291 to R293).
-/

namespace Sys2Proof.Machine

variable {s : State} {c : Cmd}

theorem foldl_fixed_mem {α β : Type} (f : α → β → α) (a : α) (l : List β) (h : ∀ b ∈ l, f a b = a) : l.foldl f a = a := by
  induction l with
  | nil => rfl
  | cons b l ih =>
    rw [List.foldl_cons, h b List.mem_cons_self]
    exact ih fun x hx => h x (List.mem_cons_of_mem b hx)

/-! ### Answers -/

/-- A command of which a load still stands is not answered (R293). -/
theorem State.waveAnswer_stands {o : Origin} {tag : BitVec 5} (h : ∃ q : HeadPort, ∃ x ∈ s.heads.ports[q].waves, x.origin = o ∧ x.tag = tag) :
    s.waveAnswer o tag = s := by
  obtain ⟨q, x, hx, ho, ht⟩ := h
  refine if_pos (List.any_eq_true.mpr ⟨s.heads.ports[q], ?_, List.any_eq_true.mpr ⟨x, hx, by simp [ho, ht]⟩⟩)
  exact Vector.mem_toList_iff.mpr (Vector.getElem_mem q.isLt)

theorem State.waveAnswer_ports (o : Origin) (tag : BitVec 5) : (s.waveAnswer o tag).heads.ports = s.heads.ports := by
  unfold State.waveAnswer
  split
  · rfl
  · split
    · rfl
    · dsimp only
      split
      · rw [State.respond_heads]
      · rw [State.respond_heads]

/-- A load that ends leaves its port, and counts against its command where it failed (R293). -/
theorem State.waveEnd_ends (p : HeadPort) (w : WaveLoad) (reason : Nat) :
    s.PortMoves p (s.waveEnd p w reason) ∧ (s.waveEnd p w reason).heads.ports[p].waves = s.heads.ports[p].waves.filter (fun x => x.seq != w.seq) ∧
      ((∃ q : HeadPort, ∃ x ∈ (s.waveEnd p w reason).heads.ports[q].waves, x.origin = w.origin ∧ x.tag = w.tag) →
        (s.waveEnd p w reason).heads.waveWaits = s.heads.waveWaits.map (fun (x : WaveWait) =>
          if (reason != 0) && (x.origin == w.origin && x.tag == w.tag) then { x with failed := x.failed ||| (1#32 <<< p.val) } else x)) := by
  unfold State.waveEnd
  dsimp only
  generalize hu : (if reason = 0 then _ else _ : State) = u
  have h : s.PortMoves p u ∧ u.heads.ports[p].waves = s.heads.ports[p].waves.filter (fun x => x.seq != w.seq) ∧
      u.heads.waveWaits = s.heads.waveWaits.map (fun (x : WaveWait) =>
        if (reason != 0) && (x.origin == w.origin && x.tag == w.tag) then { x with failed := x.failed ||| (1#32 <<< p.val) } else x) := by
    rw [← hu]
    by_cases hr : reason = 0
    · rw [if_pos hr]
      refine ⟨(State.setHead_moves p _).trans (.of_eq p (State.raiseF_heads ..) (State.raiseF_print ..)), ?_, ?_⟩
      · rw [State.raiseF_heads, State.setHead_same]
      · rw [State.raiseF_heads]
        simp [hr, State.setHead]
    · rw [if_neg hr]
      have hb : (reason != 0) = true := by simpa using hr
      refine ⟨.trans (t := s.setHead p (fun h => { h with waves := h.waves.filter (fun x => x.seq != w.seq) })) (State.setHead_moves p _)
        ⟨fun q _ => by rw [State.raiseF_heads], by rw [State.raiseF_print]⟩, ?_, ?_⟩
      · rw [State.raiseF_heads]
        exact congrArg HeadState.waves (State.setHead_same (s := s) p _)
      · rw [State.raiseF_heads, hb]
        rfl
  obtain ⟨m, hw, hf⟩ := h
  refine ⟨m.trans ⟨fun q _ => by rw [State.waveAnswer_ports], State.waveAnswer_print ..⟩, ?_, fun hx => ?_⟩
  · rw [State.waveAnswer_ports]
    exact hw
  · rw [State.waveAnswer_ports] at hx
    rw [State.waveAnswer_stands hx]
    exact hf

/-! ### WAVE_LOAD -/

/-- Ports changed one after the other: each port of a list without repetitions once, the others not. -/
theorem State.setHeads_get (f : HeadState → HeadState) (l : List HeadPort) (hn : l.Nodup) (s : State) (q : HeadPort) :
    (l.foldl (fun s p => s.setHead p f) s).heads.ports[q] = if q ∈ l then f s.heads.ports[q] else s.heads.ports[q] := by
  induction l generalizing s with
  | nil => rfl
  | cons p l ih =>
    obtain ⟨hp, hn⟩ := List.nodup_cons.mp hn
    rw [List.foldl_cons, ih hn, State.setHead_get]
    by_cases hq : p = q
    · subst hq
      rw [if_neg hp, if_pos rfl, if_pos List.mem_cons_self]
    · have hm : q ∈ p :: l ↔ q ∈ l := List.mem_cons.trans (or_iff_right (Ne.symm hq))
      simp only [if_neg hq, hm]

/-- The ports a mask names. -/
def portsOf (mask : Nat) : List HeadPort := (List.finRange 32).filter (fun p => mask.testBit p.val)

theorem portsOf_nodup (mask : Nat) : (portsOf mask).Nodup := (List.nodup_finRange 32).filter _

theorem mem_portsOf {mask : Nat} {p : HeadPort} : p ∈ portsOf mask ↔ mask.testBit p.val = true := by
  rw [portsOf, List.mem_filter]
  exact and_iff_right (List.mem_finRange p)

/-- WAVE_LOAD with its fields sound and every port ACTIVE: a load on every port named, answered later (R291, R293). -/
theorem cmdWaveLoad_queues (hz : bits (c.dw 2) 5 0 = 0) (hd : bits (c.dw 1) 1 0 ≠ 3) (h1 : 1 ≤ bits (c.dw 3) 14 0) (h2 : bits (c.dw 3) 14 0 ≤ 16384)
    (he : ∃ p : HeadPort, (bits (c.dw 0) 31 0).testBit p.val = true)
    (ha : ∀ p : HeadPort, (bits (c.dw 0) 31 0).testBit p.val = true → s.headActive p = true) :
    ∃ t : State, cmdWaveLoad c s = (t, none) ∧ t.heads.waveWaits = s.heads.waveWaits ++ [⟨c.origin, c.tag, 0⟩] ∧
      (∀ p : HeadPort, t.heads.ports[p].waves = if (bits (c.dw 0) 31 0).testBit p.val then
        s.heads.ports[p].waves ++ [⟨s.heads.ports[p].waveSeq, bits (c.dw 1) 1 0, slice (c.table 0) 0 (bits (c.dw 3) 14 0), false, c.origin, c.tag⟩]
        else s.heads.ports[p].waves) ∧ t.print = s.print := by
  unfold cmdWaveLoad
  have hg : ¬(bits (c.dw 2) 5 0 ≠ 0 ∨ bits (c.dw 1) 1 0 = 3 ∨ bits (c.dw 3) 14 0 = 0 ∨ 16384 < bits (c.dw 3) 14 0) := by
    rintro (h | h | h | h)
    · exact h hz
    · exact hd h
    · exact absurd (h ▸ h1) (by decide)
    · exact absurd h (Nat.not_lt.mpr h2)
  rw [if_neg hg]
  have hp : (List.finRange 32).filter (fun p => (bits (c.dw 0) 31 0).testBit p.val) = portsOf (bits (c.dw 0) 31 0) := rfl
  simp only [hp]
  set l := portsOf (bits (c.dw 0) 31 0) with hl
  set s1 : State := { s with heads := { s.heads with waveWaits := s.heads.waveWaits ++ [⟨c.origin, c.tag, 0⟩] } } with hs1
  set f : HeadState → HeadState := fun h =>
    { h with waves := h.waves ++ [WaveLoad.mk h.waveSeq (bits (c.dw 1) 1 0) (slice (c.table 0) 0 (bits (c.dw 3) 14 0)) false c.origin c.tag], waveSeq := h.waveSeq + 1 } with hf
  have hports (q : HeadPort) := State.setHeads_get f l (portsOf_nodup _) s1 q
  have hkeep {γ : Type} (π : State → γ) (h : ∀ (t : State) (p : HeadPort), π (t.setHead p f) = π t) :=
    foldl_same π (fun t p => t.setHead p f) h l s1
  have hwaits := hkeep (fun t => t.heads.waveWaits) fun _ _ => rfl
  have hprint := hkeep State.print fun _ _ => rfl
  have hlanes := hkeep State.lanes fun _ _ => rfl
  generalize l.foldl (fun t p => t.setHead p f) s1 = s2 at hports hwaits hprint hlanes ⊢
  have hact (p : HeadPort) (h : p ∈ l) : s2.headActive p = true := by
    have : s2.headActive p = s.headActive p := by
      unfold State.headActive
      rw [hlanes]
    rw [this]
    exact ha p (mem_portsOf.mp h)
  rw [foldl_fixed_mem _ s2 l (fun p h => if_pos (hact p h))]
  have hwaves (p : HeadPort) : s2.heads.ports[p].waves = if (bits (c.dw 0) 31 0).testBit p.val then
      s.heads.ports[p].waves ++ [⟨s.heads.ports[p].waveSeq, bits (c.dw 1) 1 0, slice (c.table 0) 0 (bits (c.dw 3) 14 0), false, c.origin, c.tag⟩]
      else s.heads.ports[p].waves := by
    have h := hports p
    rw [h]
    by_cases hm : (bits (c.dw 0) 31 0).testBit p.val = true
    · rw [if_pos (mem_portsOf.mpr hm), if_pos hm]
    · rw [if_neg fun hx => hm (mem_portsOf.mp hx), if_neg hm]
  rw [State.waveAnswer_stands]
  · exact ⟨s2, rfl, hwaits, hwaves, hprint⟩
  · obtain ⟨p, hp⟩ := he
    have hm := List.mem_append_right s.heads.ports[p].waves (List.mem_singleton_self
      (⟨s.heads.ports[p].waveSeq, bits (c.dw 1) 1 0, slice (c.table 0) 0 (bits (c.dw 3) 14 0), false, c.origin, c.tag⟩ : WaveLoad))
    exact ⟨p, _, by rw [hwaves, if_pos hp]; exact hm, rfl, rfl⟩

/-! ### O37 -/

/-- Settles O37: each clause is what its instruction does to the loads of the ports. -/
theorem waveformLoadsGoToTheirPorts : Obligations.WaveformLoadsGoToTheirPorts := by
  unfold Obligations.WaveformLoadsGoToTheirPorts
  refine ⟨fun s c hr => ⟨fun hb => ?_, fun hz hd h1 h2 he ha => ?_⟩, fun s p w _ ha hw => ?_, fun s p hq h => ?_, fun s p b w i bad h => ?_⟩
  · exact command_replyAtStart (f := cmdWaveLoad) rfl hr (if_pos hb)
  · have hlanes (p : HeadPort) : (s.start c).headActive p = s.headActive p := by
      unfold State.headActive
      rw [State.start_lanes]
    obtain ⟨t, ht, hwt, hws, hp⟩ := cmdWaveLoad_queues (s := s.start c) hz hd h1 h2 he fun p h => (hlanes p).trans (ha p h)
    rw [← s.begun_other c (op := 0x1A) rfl] at ht
    rw [State.start_heads] at hwt hws
    refine ⟨t.settle, command_waits s c hr ht, ?_, fun p => ?_, ?_⟩
    · rw [State.settle_heads]
      exact hwt
    · rw [State.settle_heads]
      exact hws p
    · rw [State.settle_print, hp, State.start_print]
  · generalize hu : s.setHead p (fun h => { h with waves := h.waves.map (fun (x : WaveLoad) => if x.seq == w.seq then { x with sent := true } else x) }) = u
    have hx : exec (.waveLoadSend p) s = .next (u.offer p (waveItem w)).settle := by
      show execWaveLoadSend p s = _
      unfold execWaveLoadSend
      rw [if_neg (by rw [ha]; decide), hw, ← hu]
      rfl
    have hm : s.PortMoves p u ∧ u.heads.ports[p].waves = s.heads.ports[p].waves.map (fun x => if x.seq = w.seq then { x with sent := true } else x) ∧
        u.heads.waveWaits = s.heads.waveWaits := by
      rw [← hu]
      refine ⟨State.setHead_moves p _, ?_, rfl⟩
      rw [State.setHead_same]
      simp only [beq_iff_eq]
    obtain ⟨_, _, _, hl⟩ := State.offer_moves (s := u) p p (waveItem w)
    have hwv : (u.offer p (waveItem w)).heads.ports[p].waves = u.heads.ports[p].waves := by rw [hl]
    have hwaits : (u.offer p (waveItem w)).heads.waveWaits = u.heads.waveWaits := by
      unfold State.offer State.setHead State.portSlots
      split <;> rfl
    have ho := (hm.1.trans ⟨fun q hq => State.offer_other (s := u) p q (waveItem w) (Ne.symm hq), State.offer_print ..⟩).settle
    refine ⟨_, hx, ?_, ?_, ho.others, ?_, ho.print⟩
    · rw [State.settle_port, hwv]
      exact hm.2.1
    · rw [State.settle_port]
      exact State.offer_waits p _
    · rw [State.settle_heads, hwaits]
      exact hm.2.2
  · show execWaveLoadSend p s = _
    unfold execWaveLoadSend
    split
    · exact s.done_quiet hq
    · next ha =>
      rcases h with h | h
      · exact absurd (by rw [h]; rfl) ha
      · rw [h]
        exact s.done_quiet hq
  · have hends : ∃ r : Nat, exec i s = (s.waveEnd p w r).done ∧ bad = (r != 0) := by
      rcases h with ⟨rfl, hb, ha, hbad, hw⟩ | ⟨rfl, hbad, hw⟩
      · refine ⟨if bitAt b 10 then 0 else 1, ?_, ?_⟩
        · show execWaveAck p b s = _
          unfold execWaveAck
          rw [if_neg (by simp [hb, ha]), hw]
        · rw [hbad]
          split <;> simp [*]
      · refine ⟨2, ?_, hbad⟩
        show execWaveAckTimeout p s = _
        unfold execWaveAckTimeout
        rw [hw]
    obtain ⟨r, he, rfl⟩ := hends
    obtain ⟨m, h1, h2⟩ := State.waveEnd_ends (s := s) p w r
    refine ⟨_, he, ?_, m.settle.others, ?_, m.settle.print⟩
    · rw [State.settle_port]
      exact h1
    · rw [State.settle_heads]
      exact h2

end Sys2Proof.Machine
end

section
/-!
SUPPORT. LANE_CONTROL, LOOPBACK and JTAG_INSTRUCTION (R420, R422 to R424, R580).
-/

namespace Sys2Proof.Machine

variable {s : State} {c : Cmd}

theorem State.laneLeft_moves {t : State} {n : LaneNo} {f : LaneState → LaneState} (h : LaneMoves s t n f) (l : LaneState) :
    LaneMoves s (t.laneLeft n l) n f := h.keeps (State.laneLeft_lanes ..) (State.laneLeft_print ..)

/-- A test that ends leaves its lane (R424). -/
theorem State.loopAnswer_moves (n : LaneNo) (r : LoopbackResult) : LaneMoves s (s.loopAnswer n r) n (fun l => { l with test := none }) := by
  unfold State.loopAnswer
  cases ht : s.lanes.lanes[n].test with
  | none =>
    have hl : upd s.lanes.lanes n (fun l => { l with test := none }) = s.lanes.lanes := by
      refine upd_self _ n _ ?_
      show { s.lanes.lanes[n] with test := none } = s.lanes.lanes[n]
      rw [← ht]
    exact ⟨hl.symm, rfl⟩
  | some t =>
    have hm := State.setLane_moves (s := s) (n := n) (fun l => { l with test := none })
    dsimp only
    split
    · exact hm.keeps (State.respond_lanes ..) (State.respond_print ..)
    · exact hm.keeps (State.respond_lanes ..) (State.respond_print ..)

/-! ### LANE_CONTROL -/

theorem cmdLaneControl_busy (ho : c.argBits 6 6 = 0) (hr : s.lanes.lanes[(Fin.ofNat 64 (c.argBits 5 0) : LaneNo)].role = .head)
    (hp : s.print.started = true) : cmdLaneControl c s = (s, resp .laneBusy (Fin.ofNat 64 (c.argBits 5 0) : LaneNo).val) := by
  unfold cmdLaneControl
  dsimp only
  rw [if_pos (by rw [ho, hr, hp]; rfl)]

section NotBusy

variable (hb : c.argBits 6 6 = 1 ∨ s.lanes.lanes[(Fin.ofNat 64 (c.argBits 5 0) : LaneNo)].role ≠ .head ∨ s.print.started = false)
include hb

theorem laneControl_free : ¬(!(c.argBits 6 6 == 1) && s.lanes.lanes[(Fin.ofNat 64 (c.argBits 5 0) : LaneNo)].role == .head &&
    s.print.started) = true := by
  intro h
  simp only [Bool.and_eq_true, Bool.not_eq_true', beq_iff_eq, beq_eq_false_iff_ne] at h
  obtain ⟨⟨h1, h2⟩, h3⟩ := h
  rcases hb with hb | hb | hb
  · exact h1 hb
  · exact hb h2
  · exact absurd (h3.symm.trans hb) (by decide)

theorem cmdLaneControl_bad (hv : s.lanes.lanes[(Fin.ofNat 64 (c.argBits 5 0) : LaneNo)].vendor = false) :
    cmdLaneControl c s = (s, laneBad (Fin.ofNat 64 (c.argBits 5 0)) 3) := by
  unfold cmdLaneControl
  dsimp only
  rw [if_neg (laneControl_free hb), if_pos (by rw [hv]; rfl)]

theorem cmdLaneControl_enables (hv : s.lanes.lanes[(Fin.ofNat 64 (c.argBits 5 0) : LaneNo)].vendor = true) (ho : c.argBits 6 6 = 1) :
    cmdLaneControl c s = (s.setLane (Fin.ofNat 64 (c.argBits 5 0)) (fun l =>
      { l with enabled := true, st := if l.st = .down then .detect else l.st }), okResp) := by
  unfold cmdLaneControl
  dsimp only
  rw [if_neg (laneControl_free hb), if_neg (by rw [hv]; decide), if_pos (by rw [ho]; rfl)]

theorem cmdLaneControl_disables (hv : s.lanes.lanes[(Fin.ofNat 64 (c.argBits 5 0) : LaneNo)].vendor = true) (ho : c.argBits 6 6 = 0) :
    ∃ u : State, cmdLaneControl c s = (u, okResp) ∧ LaneMoves s u (Fin.ofNat 64 (c.argBits 5 0)) (fun l =>
      { l with enabled := false, st := .down, backoff := 0, detections := 0, blockLock := false, test := none }) := by
  unfold cmdLaneControl
  dsimp only
  rw [if_neg (laneControl_free hb), if_neg (by rw [hv]; decide), if_neg (by rw [ho]; decide)]
  have h1 := State.laneLeft_moves (State.setLane_moves (s := s) (n := Fin.ofNat 64 (c.argBits 5 0)) (fun l =>
    { l with enabled := false, st := .down, backoff := 0, detections := 0, blockLock := false })) s.lanes.lanes[(Fin.ofNat 64 (c.argBits 5 0) : LaneNo)]
  exact ⟨_, rfl, (h1.keeps (State.drew_lanes _) (State.drew_print _)).trans (State.loopAnswer_moves ..)⟩

end NotBusy

/-! ### LOOPBACK -/

theorem State.loopBusy_start (n : LaneNo) : (s.start c).loopBusy n = s.loopBusy n := by simp [State.loopBusy, State.cameraLane, State.camExists]

theorem State.permits_start (n : LaneNo) (mode : Nat) : (s.start c).permits n mode = s.permits n mode := by simp [State.permits, State.cameraLane, State.camExists]

/-- A lane whose test begins, and one whose test has ended (R423, R424). -/
def LaneState.underTest (t : LoopTest) (l : LaneState) : LaneState :=
  { l with test := some t, st := if l.vendor then .loopback else l.st, detections := 0, backoff := 0, blockLock := false }

def LaneState.released (l : LaneState) : LaneState := if l.vendor then { l with st := .detect, detections := 0, backoff := 0 } else l

theorem LaneState.released_vendor (l : LaneState) (h : l.vendor = true) : l.released = { l with st := .detect, detections := 0, backoff := 0 } := if_pos h

theorem LaneState.released_other (l : LaneState) (h : l.vendor = false) : l.released = l := if_neg (by rw [h]; decide)

theorem LaneState.released_test (l : LaneState) : l.released.test = l.test := by
  unfold LaneState.released
  split <;> rfl

/-- A loopback that is permitted takes its lane out of the bring-up (R422, R423). -/
theorem cmdLoopback_begins (hb : s.loopBusy (Fin.ofNat 64 (c.argBits 5 0)) = false)
    (hm : s.permits (Fin.ofNat 64 (c.argBits 5 0)) (c.argBits 8 6) = true) (h1 : 1 ≤ c.argBits 24 9) (h2 : c.argBits 24 9 ≤ 60000) :
    ∃ u : State, cmdLoopback c s = (u, none) ∧ LaneMoves s u (Fin.ofNat 64 (c.argBits 5 0)) (LaneState.underTest ⟨c.argBits 8 6, c.origin, c.tag, 0xD1⟩) := by
  unfold cmdLoopback
  dsimp only
  rw [if_neg (by rw [hb]; decide), if_neg (by rw [hm]; decide), if_neg (by omega)]
  exact ⟨_, rfl, State.laneLeft_moves (State.setLane_moves (LaneState.underTest ⟨c.argBits 8 6, c.origin, c.tag, 0xD1⟩)) _⟩

/-! ### O39 -/

/-- Settles O39: each command is what it does to its one lane. -/
theorem laneCommandsAndLoopback : Obligations.LaneCommandsAndLoopback := by
  unfold Obligations.LaneCommandsAndLoopback
  refine ⟨fun s c hr => ⟨fun ho hl hp => ?_, fun hb => ⟨fun hv => ?_, fun hv ho => ?_, fun hv ho => ?_⟩⟩,
    fun s c hr => ⟨fun h => ?_, fun h hm => ?_, fun h hm hms => ?_, fun h hm h1 h2 => ?_⟩, fun s n r x hx => ?_, fun s i hq => ?_⟩
  · refine command_replyAtStart (f := cmdLaneControl) rfl hr (cmdLaneControl_busy ho ?_ ?_)
    · rw [State.start_lanes]
      exact hl
    · rw [State.start_print]
      exact hp
  · refine command_replyAtStart (f := cmdLaneControl) rfl hr (cmdLaneControl_bad ?_ ?_)
    · rw [State.start_lanes, State.start_print]
      exact hb
    · rw [State.start_lanes]
      exact hv
  · refine command_replyAtStart (f := cmdLaneControl) rfl hr (cmdLaneControl_enables ?_ ?_ ho)
    · rw [State.start_lanes, State.start_print]
      exact hb
    · rw [State.start_lanes]
      exact hv
  · obtain ⟨u, hu, hm⟩ := cmdLaneControl_disables (s := s.start c) (c := c) (by rw [State.start_lanes, State.start_print]; exact hb)
      (by rw [State.start_lanes]; exact hv) ho
    have hm := hm.after (s := s) (State.start_lanes ..) (State.start_print ..)
    refine ⟨u, command_replyAtStart (f := cmdLaneControl) rfl hr hu, ?_, ?_, ?_, hm.other, hm.print⟩
    · rw [hm.lane]
    · rw [hm.lane]
    · rw [hm.lane]
  · exact command_replyAtStart (f := cmdLoopback) rfl hr (if_pos ((State.loopBusy_start _).trans h))
  · exact command_replyAtStart (f := cmdLoopback) rfl hr ((if_neg (by rw [State.loopBusy_start, h]; decide)).trans (if_pos (by
      rw [State.permits_start, hm]; rfl)))
  · exact command_replyAtStart (f := cmdLoopback) rfl hr ((if_neg (by rw [State.loopBusy_start, h]; decide)).trans ((if_neg (by
      rw [State.permits_start, hm]; decide)).trans (if_pos hms)))
  · obtain ⟨u, hu, hm⟩ := cmdLoopback_begins (s := s.start c) (c := c) ((State.loopBusy_start _).trans h) ((State.permits_start _ _).trans hm) h1 h2
    rw [← s.begun_other c (op := 0xD1) rfl] at hu
    have hm := (hm.after (s := s) (State.start_lanes ..) (State.start_print ..)).keeps (u := u.settle) (State.settle_lanes _) (State.settle_print _)
    refine ⟨u.settle, command_waits s c hr hu, ?_, ?_, hm.other, hm.print⟩
    · rw [hm.lane]
      rfl
    · rw [hm.lane]
      rfl
  · have hx' : exec (.loopbackEnd n r) s = ((s.loopAnswer n r).setLane n LaneState.released).done := if_neg (by rw [hx]; simp)
    have hm := ((State.loopAnswer_moves (s := s) n r).trans (State.setLane_moves LaneState.released)).keeps (State.settle_lanes _) (State.settle_print _)
    refine ⟨_, hx', ?_, fun hv => ?_, fun hv => ?_, hm.other, hm.print⟩
    · rw [hm.lane, Function.comp, LaneState.released_test]
    · rw [hm.lane, Function.comp, LaneState.released_vendor _ (by exact hv)]
      exact ⟨rfl, rfl⟩
    · rw [hm.lane, Function.comp, LaneState.released_other _ (by exact hv)]
  · cases i with
    | idcode => exact State.done_quiet _ hq
    | _ => exact State.done_quiet _ hq

end Sys2Proof.Machine
end

section
/-!
SUPPORT. Fabric frames, credit and CAPS (R431 to R434, R437, R438, R444).
-/

namespace Sys2Proof.Machine

variable {s : State} {c : Cmd}

/-! ### Fabric ports and frames delivered -/

theorem State.setPort_get (p q : FabPort) (f : FabPortState → FabPortState) :
    (s.setPort p f).fab.ports[q] = if p = q then f s.fab.ports[q] else s.fab.ports[q] := upd_fin _ _ _ _

theorem State.setPort_same (p : FabPort) (f : FabPortState → FabPortState) : (s.setPort p f).fab.ports[p] = f s.fab.ports[p] := by
  rw [State.setPort_get, if_pos rfl]

/-- What a port holds but for its traffic. -/
theorem FabPart.wires_get {f g : FabPart} (h : f.wires = g.wires) (p : FabPort) : f.ports[p].wire = g.ports[p].wire := by
  have hp := congrArg (fun v => v[p]) h
  simpa [FabPart.wires] using hp

theorem FabPart.freed_inbox (f : FabPart) (w : WaitFrame) : (f.freed w).inbox = f.inbox := by
  unfold FabPart.freed
  split <;> rfl

theorem State.fabSlots_inbox (p : FabPort) : (s.fabSlots p).fab.inbox = s.fab.inbox :=
  foldl_same FabPart.inbox _ (fun g w => g.freed_inbox w) _ _

theorem State.fabFreed_inbox (src : Option FabPort) (cls : Fin 4) (n : Nat) : (s.fabFreed src cls n).fab.inbox = s.fab.inbox := by
  cases src <;> rfl

/-- Blocks freed are counted on the port they came in on (R433). -/
theorem State.fabFreed_given (p : FabPort) (cls : Fin 4) (n : Nat) :
    (s.fabFreed (some p) cls n).fab.ports[p].given[cls] = (s.fab.ports[p].given[cls] + n) % 4096 := by
  have h := State.setPort_same (s := s) p (fun q => { q with given := upd q.given cls (fun g => (g + n) % 4096) })
  refine (congrArg (fun q : FabPortState => q.given[cls]) h).trans ?_
  exact (upd_fin _ _ _ _).trans (if_pos rfl)

/-- A frame that leaves on an ACTIVE port is the last that waits there (R432, R434). -/
theorem State.fabOutFrom_waits {q : FabPort} (ha : s.fabActive q = true) (src : Option FabPort) (cls : Fin 4) (ws : List Word) :
    (s.fabOutFrom src q cls ws).fab.inbox = s.fab.inbox ∧ (s.fabOutFrom src q cls ws).fab.ports[q].waiting.getLast? = some ⟨cls, ws, src⟩ := by
  unfold State.fabOutFrom
  rw [if_neg (by rw [ha]; decide)]
  refine ⟨State.fabSlots_inbox q, ?_⟩
  rw [State.setPort_same]
  exact List.getLast?_concat ..

/-! ### FABRIC_FRAME -/

/-- A frame that passes is counted as received (R432). -/
def State.frameGot (s : State) (p : FabPort) (f : FabFrame) : State :=
  s.setPort p (fun q => { q with got := upd q.got (Fin.ofNat 4 (bits f.header 9 8)) (fun g => (g + (f.data.length + 2)) % 4096) })

/-- A frame lost in step 4 or 5 of R431 is counted, and its blocks are freed. -/
def State.frameLost (s : State) (p : FabPort) (f : FabFrame) : State :=
  ((s.frameGot p f).fabErr p).fabFreed (some p) (Fin.ofNat 4 (bits f.header 9 8)) (f.data.length + 2)

/-- Steps 4 and 5 of R431 refuse a frame: its TTL is spent, or its CRC is wrong and it is not forwarded with BAD set. -/
def frameLoses (f : FabFrame) (fate : FrameFate) (again : Bool) : Bool :=
  again && bits f.header 19 14 == 0 || (bitAt f.trailer 8 || bits f.trailer 63 32 != (frameCrc f.header f.data).toNat) &&
    !((Fin.ofNat 4 (bits f.header 9 8) : Fin 4) == 0 && fate.forwards)

/-- A frame that passes steps 1 to 3 of R431 is lost or takes its way. -/
theorem execFabricFrame_passes {p : FabPort} {f : FabFrame} (ha : s.fabActive p = true) (hh : bits f.header 7 0 = 0xA0) (hs : frameSound f = true)
    (he : s.fab.ports[p].exceeds (Fin.ofNat 4 (bits f.header 9 8)) (f.data.length + 2) = false) :
    execFabricFrame p f s = if frameLoses f (s.fate (BitVec.ofNat 12 (bits f.header 31 20)) (bits f.header 13 10))
        (s.leavesAgain (s.fate (BitVec.ofNat 12 (bits f.header 31 20)) (bits f.header 13 10)) (BitVec.ofNat 12 (bits f.header 31 20)) (bits f.header 13 10))
      then (s.frameLost p f).done
      else ((s.frameGot p f).frameGoes p f (Fin.ofNat 4 (bits f.header 9 8)) (s.fate (BitVec.ofNat 12 (bits f.header 31 20)) (bits f.header 13 10))
        (bitAt f.trailer 8 || bits f.trailer 63 32 != (frameCrc f.header f.data).toNat)).done := by
  have hfate (d : NodeNo) (k : Nat) : (s.frameGot p f).fate d k = s.fate d k := rfl
  have hagain (x : FrameFate) (d : NodeNo) (k : Nat) : (s.frameGot p f).leavesAgain x d k = s.leavesAgain x d k := rfl
  unfold execFabricFrame
  rw [if_neg (by rw [ha, hh]; decide), if_neg (by rw [hs]; decide)]
  dsimp only
  rw [if_neg (by rw [he]; decide)]
  rw [show s.setPort p (fun q => { q with got := upd q.got (Fin.ofNat 4 (bits f.header 9 8)) (fun g => (g + (f.data.length + 2)) % 4096) }) =
    s.frameGot p f from rfl]
  simp only [hfate, hagain]
  generalize s.fate (BitVec.ofNat 12 (bits f.header 31 20)) (bits f.header 13 10) = fate
  generalize s.leavesAgain fate (BitVec.ofNat 12 (bits f.header 31 20)) (bits f.header 13 10) = again
  unfold frameLoses
  by_cases h1 : (again && bits f.header 19 14 == 0) = true
  · rw [if_pos h1, h1, Bool.true_or, if_pos rfl]
    rfl
  · rw [if_neg h1, Bool.eq_false_iff.mpr h1, Bool.false_or]
    rfl

/-- What a frame leaves alone, lost or not. -/
structure State.FrameKeeps (s t : State) : Prop where
  print : t.print = s.print
  host : t.host = s.host
  channels : t.fab.channels = s.fab.channels
  root : t.fab.root = s.fab.root

theorem State.frameLost_keeps (p : FabPort) (f : FabFrame) : s.FrameKeeps (s.frameLost p f) := ⟨rfl, rfl, rfl, rfl⟩

theorem FabPart.config_root {f g : FabPart} (h : f.config = g.config) : f.root = g.root := by
  have hr := congrArg FabPart.root h
  exact hr

theorem State.fabOuts_keep (cls : Fin 4) (ws : List Word) (l : List FabPort) (s : State) :
    (l.foldl (fun s q => s.fabOut q cls ws) s).fab.channels = s.fab.channels ∧ (l.foldl (fun s q => s.fabOut q cls ws) s).fab.root = s.fab.root :=
  ⟨foldl_same (fun s : State => s.fab.channels) _ (fun t q => t.fabOutFrom_channels none q cls ws) l s,
    foldl_same (fun s : State => s.fab.root) _ (fun t q => FabPart.config_root (t.fabOutFrom_fabConfig none q cls ws)) l s⟩

theorem State.frameGoes_keeps (p : FabPort) (f : FabFrame) (cls : Fin 4) (fate : FrameFate) (bad : Bool) :
    s.FrameKeeps (s.frameGoes p f cls fate bad) ∧ (s.frameGoes p f cls fate bad).lanes = s.lanes := by
  have h : (s.frameGoes p f cls fate bad).fab.channels = s.fab.channels ∧ (s.frameGoes p f cls fate bad).fab.root = s.fab.root := by
    unfold State.frameGoes
    cases fate with
    | deliver => exact ⟨rfl, rfl⟩
    | forward q => exact ⟨State.fabOutFrom_channels .., FabPart.config_root (State.fabOutFrom_fabConfig ..)⟩
    | route => exact ⟨State.fabRoute_channels .., FabPart.config_root (State.fabRoute_fabConfig ..)⟩
    | broadcast => exact State.fabOuts_keep ..
    | discard => exact ⟨rfl, rfl⟩
  exact ⟨⟨State.frameGoes_print .., State.frameGoes_host .., h.1, h.2⟩, State.frameGoes_lanes ..⟩

theorem State.frameLost_given (p : FabPort) (f : FabFrame) : (s.frameLost p f).fab.inbox = s.fab.inbox ∧
    (s.frameLost p f).fab.ports[p].given[(Fin.ofNat 4 (bits f.header 9 8) : Fin 4)] =
      (s.fab.ports[p].given[(Fin.ofNat 4 (bits f.header 9 8) : Fin 4)] + (f.data.length + 2)) % 4096 ∧
    (s.frameLost p f).lanes.lanes[fabLane p].frameErr = min 65535 (s.lanes.lanes[fabLane p].frameErr + 1) := by
  refine ⟨rfl, ?_, ?_⟩
  · refine (State.fabFreed_given ..).trans ?_
    show ((s.frameGot p f).fab.ports[p].given[_] + _) % 4096 = _
    unfold State.frameGot
    rw [State.setPort_same]
  · have h := (upd_fin s.lanes.lanes (fabLane p) (fabLane p) (fun l => { l with frameErr := min 65535 (l.frameErr + 1) })).trans (if_pos rfl)
    exact congrArg LaneState.frameErr h

/-- Where a frame that is not lost goes (R444). -/
theorem State.frameGoes_way (p : FabPort) (f : FabFrame) (bad : Bool) :
    (((s.frameGot p f).frameGoes p f (Fin.ofNat 4 (bits f.header 9 8)) .deliver bad).fab.inbox = s.fab.inbox ++ [(p, f.header, f.data)] ∧
      ((s.frameGot p f).frameGoes p f (Fin.ofNat 4 (bits f.header 9 8)) .deliver bad).fab.ports[p].given[(Fin.ofNat 4 (bits f.header 9 8) : Fin 4)] =
        (s.fab.ports[p].given[(Fin.ofNat 4 (bits f.header 9 8) : Fin 4)] + (f.data.length + 2)) % 4096) ∧
    (((s.frameGot p f).frameGoes p f (Fin.ofNat 4 (bits f.header 9 8)) .discard bad).fab.inbox = s.fab.inbox ∧
      ((s.frameGot p f).frameGoes p f (Fin.ofNat 4 (bits f.header 9 8)) .discard bad).fab.ports[p].given[(Fin.ofNat 4 (bits f.header 9 8) : Fin 4)] =
        (s.fab.ports[p].given[(Fin.ofNat 4 (bits f.header 9 8) : Fin 4)] + (f.data.length + 2)) % 4096) ∧
    ∀ q : FabPort, s.fabActive q = true → ((s.frameGot p f).frameGoes p f (Fin.ofNat 4 (bits f.header 9 8)) (.forward q) bad).fab.inbox = s.fab.inbox ∧
      ((s.frameGot p f).frameGoes p f (Fin.ofNat 4 (bits f.header 9 8)) (.forward q) bad).fab.ports[q].waiting.getLast? =
        some ⟨Fin.ofNat 4 (bits f.header 9 8), forwardWords f bad, some p⟩ := by
  have hg : (s.frameGot p f).fab.ports[p].given = s.fab.ports[p].given := by
    unfold State.frameGot
    rw [State.setPort_same]
  have hgiven (t : State) (ht : t.fab.ports = (s.frameGot p f).fab.ports) :
      (t.fabFreed (some p) (Fin.ofNat 4 (bits f.header 9 8)) (f.data.length + 2)).fab.ports[p].given[(Fin.ofNat 4 (bits f.header 9 8) : Fin 4)] =
        (s.fab.ports[p].given[(Fin.ofNat 4 (bits f.header 9 8) : Fin 4)] + (f.data.length + 2)) % 4096 := by
    refine (State.fabFreed_given ..).trans ?_
    rw [ht, hg]
  exact ⟨⟨rfl, hgiven _ rfl⟩, ⟨rfl, hgiven _ rfl⟩, fun q ha => State.fabOutFrom_waits (s := s.frameGot p f) ha _ _ _⟩

/-! ### FABRIC_CAPS -/

/-- What a change of this node's ports leaves of them (R440, R443). -/
theorem State.portsChanged_wire (p : FabPort) : s.portsChanged.fab.ports[p].wire = s.fab.ports[p].wire :=
  FabPart.wires_get (State.portsChanged_fabWires s) p

/-- A lane whose exchange is complete enters ACTIVE, with its neighbour kept and no ANNOUNCE (R432, R437). -/
theorem State.fabReady_enters (p : FabPort) : (s.fabReady p).print = s.print ∧
    (s.fabReady p).lanes.lanes[fabLane p].st = .active ∧ (s.fabReady p).fab.ports[p].neighbour = s.fab.ports[p].neighbour ∧
    (s.fabReady p).fab.ports[p].seen = s.fab.ports[p].seen ∧ (s.fabReady p).fab.ports[p].announce = none := by
  have hl : (s.fabReady p).lanes.lanes[fabLane p].st = .active := by
    unfold State.fabReady State.fabUpLane
    dsimp only
    rw [State.portsChanged_lanes]
    have h := (upd_fin s.lanes.lanes (fabLane p) (fabLane p) (fun l => { l with st := .active, backoff := 0, detections := 0 })).trans (if_pos rfl)
    exact congrArg LaneState.st h
  refine ⟨State.fabReady_print .., hl, ?_⟩
  unfold State.fabReady State.fabUpLane
  dsimp only
  generalize hu : State.setPort _ p _ = u
  have hw := State.portsChanged_wire (s := u) p
  have hp : u.fab.ports[p].neighbour = s.fab.ports[p].neighbour ∧ u.fab.ports[p].seen = s.fab.ports[p].seen ∧ u.fab.ports[p].announce = none := by
    rw [← hu, State.setPort_same]
    exact ⟨rfl, rfl, rfl⟩
  simp only [FabPortState.wire, Prod.mk.injEq] at hw
  obtain ⟨h1, h2, -, -, -, -, -, h3⟩ := hw
  exact ⟨h1.trans hp.1, h2.trans hp.2.1, h3.trans hp.2.2⟩

/-- A CAPS of this device's own identity shows a loop: the lane goes back to DETECT (R438). -/
theorem fabricCaps_loops {p : FabPort} {w d : Word} (hr : s.lanes.lanes[fabLane p].role = .fabric) (hc : s.lanes.lanes[fabLane p].st = .caps)
    (hw : bits w 7 0 = 0xC0) (hd : d = s.fab.id) : ∃ t : State, exec (.fabricCaps p w d) s = .next t ∧ t.lanes.lanes[fabLane p].st = .detect ∧
      t.fab.ports[p].loopTold = true ∧ t.print = s.print := by
  have hx : exec (.fabricCaps p w d) s = if s.fab.ports[p].loopTold then ((s.laneDetect (fabLane p)).setPort p (fun q => { q with loopTold := true })).done
      else (((s.laneDetect (fabLane p)).setPort p (fun q => { q with loopTold := true })).raiseF .fabricLoop [fld 0 6 (32 + p.val)]).done := by
    show execFabricCaps p w d s = _
    unfold execFabricCaps
    dsimp only
    rw [if_neg (by rw [hr, hc, hw]; decide), if_pos hd]
  have hend (u : State) (hl : u.lanes = (s.laneDetect (fabLane p)).lanes) (hp : u.print = (s.laneDetect (fabLane p)).print)
      (hf : u.fab.ports[p].loopTold = true) : u.settle.lanes.lanes[fabLane p].st = .detect ∧ u.settle.fab.ports[p].loopTold = true ∧
      u.settle.print = s.print := by
    have hm := (State.laneDetect_moves (s := s) (n := fabLane p)).keeps (u := u.settle) ((State.settle_lanes _).trans hl) ((State.settle_print _).trans hp)
    refine ⟨by rw [hm.lane]; rfl, ?_, hm.print⟩
    exact (congrArg (fun x => x.2.2.2.1) (FabPart.wires_get (State.settle_fabWires u) p)).trans hf
  have h1 : ((s.laneDetect (fabLane p)).setPort p (fun q => { q with loopTold := true })).fab.ports[p].loopTold = true := by
    rw [State.setPort_same]
  rw [hx]
  split
  · exact ⟨_, rfl, hend _ rfl rfl h1⟩
  · exact ⟨_, rfl, hend _ (State.raiseF_lanes ..) (State.raiseF_print ..) (by rw [State.raiseF_fab]; exact h1)⟩

/-- A CAPS of another device: its identity is the neighbour's, and PEER_SEEN in it completes the exchange (R437). -/
theorem fabricCaps_seen {p : FabPort} {w d : Word} (hr : s.lanes.lanes[fabLane p].role = .fabric) (hc : s.lanes.lanes[fabLane p].st = .caps)
    (hw : bits w 7 0 = 0xC0) (hd : d ≠ s.fab.id) : ∃ t : State, exec (.fabricCaps p w d) s = .next t ∧ t.fab.ports[p].neighbour = some d ∧
      t.fab.ports[p].seen = true ∧ t.lanes.lanes[fabLane p].st = (if bitAt w 14 then .active else .caps) ∧
      (bitAt w 14 = true → t.fab.ports[p].announce = none) ∧ t.print = s.print := by
  generalize hu : (s.setPort p (fun q => { q with neighbour := some d, seen := true, capsSent := true })).sendFabCaps p true = u
  have hx : exec (.fabricCaps p w d) s = if bitAt w 14 then (u.fabReady p).done else u.done := by
    show execFabricCaps p w d s = _
    unfold execFabricCaps
    dsimp only
    rw [if_neg (by rw [hr, hc, hw]; decide), if_neg hd, hu]
  have h0 : u.fab.ports[p].neighbour = some d ∧ u.fab.ports[p].seen = true ∧ u.lanes = s.lanes ∧ u.print = s.print := by
    rw [← hu]
    have hp := State.setPort_same (s := s) p (fun q => { q with neighbour := some d, seen := true, capsSent := true })
    exact ⟨congrArg FabPortState.neighbour hp, congrArg FabPortState.seen hp, rfl, rfl⟩
  obtain ⟨hn, hs, hl, hp⟩ := h0
  have hwire (t : State) := FabPart.wires_get (State.settle_fabWires t) p
  simp only [FabPortState.wire, Prod.mk.injEq] at hwire
  rw [hx]
  cases hb : bitAt w 14 with
  | true =>
    obtain ⟨hp', hl', hn', hs', ha'⟩ := State.fabReady_enters (s := u) p
    obtain ⟨w1, w2, -, -, -, -, -, w3⟩ := hwire (u.fabReady p)
    refine ⟨_, if_pos rfl, w1.trans (hn'.trans hn), w2.trans (hs'.trans hs), ?_, fun _ => w3.trans ha', (State.settle_print _).trans (hp'.trans hp)⟩
    rw [State.settle_lanes]
    exact hl'
  | false =>
    obtain ⟨w1, w2, -⟩ := hwire u
    refine ⟨_, if_neg (by decide), w1.trans hn, w2.trans hs, ?_, fun h => absurd h (by decide), (State.settle_print _).trans hp⟩
    rw [State.settle_lanes, hl]
    exact hc

theorem frameLoses_true {f : FabFrame} {fate : FrameFate} {again : Bool} : frameLoses f fate again = true ↔
    (again = true ∧ bits f.header 19 14 = 0) ∨ ((bitAt f.trailer 8 = true ∨ bits f.trailer 63 32 ≠ (frameCrc f.header f.data).toNat) ∧
      ((Fin.ofNat 4 (bits f.header 9 8) : Fin 4) ≠ 0 ∨ fate.forwards = false)) := by
  simp only [frameLoses, Bool.or_eq_true, Bool.and_eq_true, beq_iff_eq, bne_iff_ne, Bool.not_eq_true', Bool.and_eq_false_iff, beq_eq_false_iff_ne]

/-- A frame that passes steps 1 to 3 of R431 (R431 steps 4 and 5, R432, R444). -/
theorem fabricFrame_goes {p : FabPort} {f : FabFrame} (hq : s.quiet) (ha : s.fabActive p = true) (hh : bits f.header 7 0 = 0xA0) (hs : frameSound f = true)
    (he : s.fab.ports[p].exceeds (Fin.ofNat 4 (bits f.header 9 8)) (f.data.length + 2) = false) :
    let cls : Fin 4 := Fin.ofNat 4 (bits f.header 9 8)
    let fate := s.fate (BitVec.ofNat 12 (bits f.header 31 20)) (bits f.header 13 10)
    let again := s.leavesAgain fate (BitVec.ofNat 12 (bits f.header 31 20)) (bits f.header 13 10)
    let spent : Prop := again = true ∧ bits f.header 19 14 = 0
    let bad : Prop := bitAt f.trailer 8 = true ∨ bits f.trailer 63 32 ≠ (frameCrc f.header f.data).toNat
    ∃ t : State, exec (.fabricFrame p f) s = .next t ∧ t.print = s.print ∧ t.fab.channels = s.fab.channels ∧ t.fab.root = s.fab.root ∧
      (fate = .deliver → ¬ bad → ¬ spent → t.fab.inbox = s.fab.inbox ++ [(p, f.header, f.data)] ∧
        t.fab.ports[p].given[cls] = (s.fab.ports[p].given[cls] + (f.data.length + 2)) % 4096) ∧
      (fate = .discard → t.fab.inbox = s.fab.inbox ∧
        t.fab.ports[p].given[cls] = (s.fab.ports[p].given[cls] + (f.data.length + 2)) % 4096) ∧
      (∀ q : FabPort, fate = .forward q → s.fabActive q = true → ¬ spent → (bad → cls = 0) → t.fab.inbox = s.fab.inbox ∧
        t.fab.ports[q].waiting.getLast? = some ⟨cls, forwardWords f (bitAt f.trailer 8 ||
          bits f.trailer 63 32 != (frameCrc f.header f.data).toNat), some p⟩) ∧
      (fate.forwards = false ∨ cls ≠ 0 → bad → t.fab.inbox = s.fab.inbox ∧
        t.lanes.lanes[fabLane p].frameErr = min 65535 (s.lanes.lanes[fabLane p].frameErr + 1)) ∧
      (spent → t.fab.inbox = s.fab.inbox ∧
        t.lanes.lanes[fabLane p].frameErr = min 65535 (s.lanes.lanes[fabLane p].frameErr + 1)) ∧
      (¬ bad → ¬ spent → t.lanes = s.lanes) := by
  intro cls fate again spent bad
  have hx := execFabricFrame_passes ha hh hs he
  have hlose : frameLoses f fate again = true ↔ spent ∨ (bad ∧ (cls ≠ 0 ∨ fate.forwards = false)) := frameLoses_true
  by_cases hl : frameLoses f fate again = true
  · rw [if_pos hl] at hx
    have hk := State.frameLost_keeps (s := s) p f
    obtain ⟨h1, h2, h3⟩ := State.frameLost_given (s := s) p f
    refine ⟨_, hx.trans (State.done_quiet _ ((congrArg HostPart.batch hk.host).trans hq)), hk.print, hk.channels, hk.root,
      fun _ hb hsp => ?_, fun _ => ⟨h1, h2⟩, fun q hf _ hsp hb => ?_, fun _ _ => ⟨h1, h3⟩, fun _ => ⟨h1, h3⟩, fun hb hsp => ?_⟩
    · rcases hlose.mp hl with h | ⟨h, -⟩
      · exact absurd h hsp
      · exact absurd h hb
    · rcases hlose.mp hl with h | ⟨h, h' | h'⟩
      · exact absurd h hsp
      · exact absurd (hb h) h'
      · rw [hf] at h'
        exact absurd h' (by simp [FrameFate.forwards])
    · rcases hlose.mp hl with h | ⟨h, -⟩
      · exact absurd h hsp
      · exact absurd h hb
  · rw [if_neg hl] at hx
    obtain ⟨hk, hlanes⟩ := State.frameGoes_keeps (s := s.frameGot p f) p f cls fate (bitAt f.trailer 8 || bits f.trailer 63 32 != (frameCrc f.header f.data).toNat)
    obtain ⟨hdel, hdis, hfor⟩ := State.frameGoes_way (s := s) p f (bitAt f.trailer 8 || bits f.trailer 63 32 != (frameCrc f.header f.data).toNat)
    refine ⟨_, hx.trans (State.done_quiet _ ((congrArg HostPart.batch hk.host).trans hq)), hk.print, hk.channels, hk.root,
      fun hf _ _ => ?_, fun hf => ?_, fun q hf hq' _ _ => ?_, fun h hb => ?_, fun hsp => absurd (hlose.mpr (.inl hsp)) hl, fun _ _ => hlanes⟩
    · rw [show s.fate (BitVec.ofNat 12 (bits f.header 31 20)) (bits f.header 13 10) = .deliver from hf]
      exact hdel
    · rw [show s.fate (BitVec.ofNat 12 (bits f.header 31 20)) (bits f.header 13 10) = .discard from hf]
      exact hdis
    · rw [show s.fate (BitVec.ofNat 12 (bits f.header 31 20)) (bits f.header 13 10) = .forward q from hf]
      exact hfor q hq'
    · exact absurd (hlose.mpr (.inr ⟨hb, h.symm⟩)) hl

/-! ### O40 -/

/-- Settles O40: frames by the steps of R431, credit and CAPS by their ports. -/
theorem fabricFramesPassTheirChecks : Obligations.FabricFramesPassTheirChecks := by
  unfold Obligations.FabricFramesPassTheirChecks
  refine ⟨fun s p f hq h => ?_, fun s p f hq ha hh h => ?_, fun s p f hq ha hh hs he => ?_, fun s p b hq => ⟨fun h => ?_, fun v ha hv => ?_, fun ha => ?_, fun ha => ?_⟩,
    fun s p w d hr hc hw => ⟨fun hd => ?_, fun hd => ?_⟩, fun s p w d hq h => ?_⟩
  · refine (if_pos ?_).trans (s.done_quiet hq)
    rcases h with h | h
    · rw [h]
      rfl
    · rw [bne_iff_ne.mpr h, Bool.or_true]
  · have hx : exec (.fabricFrame p f) s = (s.fabErr p).done := by
      show execFabricFrame p f s = _
      unfold execFabricFrame
      rw [if_neg (by rw [ha, hh]; decide)]
      by_cases hs : frameSound f = true
      · rw [if_neg (by rw [hs]; decide)]
        exact if_pos (h.resolve_left (by rw [hs]; decide))
      · exact if_pos (by simpa using hs)
    exact hx.trans (State.done_quiet _ hq)
  · exact fabricFrame_goes hq ha hh hs he
  · refine Eq.trans ?_ (s.done_quiet hq)
    show execCredit p b s = _
    unfold execCredit
    split
    · rfl
    · next ha =>
      rcases h with h | h
      · exact absurd (by rw [h]; rfl) ha
      · rw [h]
  · have hx : exec (.credit p b) s = ((s.fabSlots p).setPort p (fun q => { q with freed := v })).done := by
      show execCredit p b s = _
      unfold execCredit
      rw [if_neg (by rw [ha]; decide), hv]
    have hb : ((s.fabSlots p).setPort p (fun q => { q with freed := v })).quiet := (congrArg HostPart.batch (State.fabSlots_host s p)).trans hq
    refine ⟨_, hx.trans (State.done_quiet _ hb), ?_, fun q hqp => ?_, FabPart.config_root (State.fabSlots_fabConfig s p), State.fabSlots_lanes s p⟩
    · rw [State.setPort_same]
    · rw [State.setPort_get, if_neg (Ne.symm hqp)]
      exact congrArg (fun x => x.2.2.2.2.1) (FabPart.wires_get (State.fabSlots_fabWires s p) q)
  · have hb : ((s.fabSlots p).setPort p (fun q => { q with told := q.given, due := q.due ++ [control (creditBlock q.given)] })).quiet :=
      (congrArg HostPart.batch (State.fabSlots_host s p)).trans hq
    exact (if_pos ha).trans (State.done_quiet _ hb)
  · exact (if_neg (by rw [ha]; decide)).trans (s.done_quiet hq)
  · exact fabricCaps_loops hr hc hw hd
  · exact fabricCaps_seen hr hc hw hd
  · refine (if_pos ?_).trans (s.done_quiet hq)
    simp only [Bool.or_eq_true, bne_iff_ne]
    rcases h with h | h | h
    · exact .inl (.inl h)
    · exact .inl (.inr h)
    · exact .inr h

end Sys2Proof.Machine
end

section
/-!
SUPPORT. The election of the fabric's root (R440 to R443).
-/

namespace Sys2Proof.Machine

variable {s : State} {c : Cmd}

/-! ### The fabric but for its traffic -/

/-- The election's outcome and the numbers of a node: what its traffic leaves. -/
theorem FabPart.config_fields {f g : FabPart} (h : f.config = g.config) : f.root = g.root ∧ f.node = g.node ∧ f.table = g.table ∧
    f.ownSeq = g.ownSeq ∧ f.settled = g.settled ∧ f.rootTold = g.rootTold ∧ f.noRootTold = g.noRootTold := by
  simp only [FabPart.config, FabPart.mk.injEq] at h
  tauto

/-- A frame taken is one out of those delivered. -/
theorem State.takeFrame_config (kind : Nat) (d : List Word) : (s.takeFrame kind d).fab.config = s.fab.config ∧
    (s.takeFrame kind d).fab.ports = s.fab.ports ∧ (s.takeFrame kind d).fab.channels = s.fab.channels := by
  unfold State.takeFrame
  split <;> exact ⟨rfl, rfl, rfl⟩

theorem State.takeFrame_quiet (kind : Nat) (d : List Word) (hq : s.quiet) : (s.takeFrame kind d).quiet :=
  (congrArg HostPart.batch (State.takeFrame_host ..)).trans hq

/-- Frames of this device on the ACTIVE ports leave the fabric but for its traffic. -/
theorem State.fabOuts_config (cls : Fin 4) (ws : State → List Word) (l : List FabPort) (s : State) :
    (l.foldl (fun s p => if s.fabActive p then s.fabOut p cls (ws s) else s) s).fab.config = s.fab.config :=
  foldl_same (fun s : State => s.fab.config) _ (fun t p => by
    split
    · exact State.fabOut_fabConfig ..
    · rfl) l s

/-- The root counts an ANNOUNCE it sends (R440). -/
def State.announceCounted (s : State) : State :=
  if s.fab.isRoot then { s with fab := { s.fab with ownSeq := s.fab.ownSeq + 1
                                                    root := s.fab.root.map (fun r => (r.1, r.2.1, r.2.2.1, s.fab.ownSeq + 1)) } }
  else s

theorem State.announceAll_config : s.announceAll.fab.config = s.announceCounted.fab.config := by
  unfold State.announceAll
  dsimp only
  rw [show (if s.fab.isRoot then { s with fab := { s.fab with ownSeq := s.fab.ownSeq + 1, root := s.fab.root.map (fun r => (r.1, r.2.1, r.2.2.1, s.fab.ownSeq + 1)) } }
    else s) = s.announceCounted from rfl]
  split
  · rfl
  · next ws _ =>
    generalize List.finRange 32 = l
    exact State.fabOuts_config 1 (fun s => frameWords 5 0 s.fab.node ws) l s.announceCounted

/-- Where a root is known, an announcement leaves which, how far and where, and counts at the root alone (R440). -/
theorem State.announceCounted_root {r : Word × Nat × Option FabPort × BitVec 32} (hr : s.fab.root = some r) :
    s.announceCounted.fab.root.map (fun x => (x.1, x.2.1, x.2.2.1)) = some (r.1, r.2.1, r.2.2.1) ∧
    s.announceCounted.fab.ownSeq = if r.2.2.1.isNone then s.fab.ownSeq + 1 else s.fab.ownSeq := by
  obtain ⟨id, dist, port, seq⟩ := r
  unfold State.announceCounted FabPart.isRoot
  cases port with
  | none =>
    rw [if_pos (by rw [hr])]
    refine ⟨?_, rfl⟩
    dsimp only
    rw [hr]
    rfl
  | some q =>
    rw [if_neg (by rw [hr]; exact Bool.false_ne_true), hr]
    exact ⟨rfl, rfl⟩

theorem State.announceCounted_keeps : s.announceCounted.fab.node = s.fab.node ∧ s.announceCounted.fab.table = s.fab.table := by
  unfold State.announceCounted
  split <;> exact ⟨rfl, rfl⟩

theorem State.announceAll_keeps : s.announceAll.fab.node = s.fab.node ∧ s.announceAll.fab.table = s.fab.table := by
  obtain ⟨-, hn, ht, -⟩ := FabPart.config_fields (State.announceAll_config (s := s))
  exact ⟨hn.trans State.announceCounted_keeps.1, ht.trans State.announceCounted_keeps.2⟩

theorem State.reelect_keeps : s.reelect.fab.node = s.fab.node ∧ s.reelect.fab.table = s.fab.table := by
  unfold State.reelect
  dsimp only
  split
  · exact ⟨rfl, rfl⟩
  · exact State.announceAll_keeps

/-- The ANNOUNCE of each port, where ports differ in their traffic alone. -/
theorem FabPart.wires_announce {f g : FabPart} (h : f.wires = g.wires) (p : FabPort) : f.ports[p].announce = g.ports[p].announce :=
  congrArg (fun x => x.2.2.2.2.2.2.2) (FabPart.wires_get h p)

/-- Without a root in view nothing is announced (R440, log 107). -/
theorem State.announceAll_none (h : s.fab.root = none) : s.announceAll = s := by
  have hr : s.fab.isRoot = false := by
    unfold FabPart.isRoot
    rw [h]
  unfold State.announceAll
  dsimp only
  rw [if_neg (by rw [hr]; decide)]
  unfold State.announceWords
  rw [h]

/-! ### O41 -/

/-- An ANNOUNCE on an ACTIVE port is its candidate (R441). -/
theorem execAnnounce_kept {p : FabPort} (a b w : Word) (ha : s.fabActive p = true) : ∃ (t : State) (x : Announce), execAnnounce p a b w s = .next t ∧
    t.fab.ports[p].announce = some x ∧ x.root = a ∧ x.upstream = b ∧ x.dist = bits w 5 0 ∧ x.seq = BitVec.ofNat 32 (bits w 63 32) ∧
    x.at_ = s.time.raw ∧ (∀ q : FabPort, q ≠ p → t.fab.ports[q].announce = s.fab.ports[q].announce) ∧ t.fab.node = s.fab.node ∧
    t.fab.table = s.fab.table ∧ t.print = s.print := by
  have ha' : (s.takeFrame 5 [a, b, w]).fabActive p = true := by
    unfold State.fabActive at ha ⊢
    rw [State.takeFrame_lanes]
    exact ha
  obtain ⟨hcfg, hports, -⟩ := State.takeFrame_config (s := s) 5 [a, b, w]
  obtain ⟨-, hnode, htable, -⟩ := FabPart.config_fields hcfg
  have htime := State.takeFrame_time s 5 [a, b, w]
  have hprint := State.takeFrame_print s 5 [a, b, w]
  unfold execAnnounce
  generalize s.takeFrame 5 [a, b, w] = s' at ha' hports hnode htable htime hprint ⊢
  dsimp only
  rw [if_neg (by rw [ha']; decide)]
  generalize hx : ({ root := a, upstream := b, dist := bits w 5 0, seq := BitVec.ofNat 32 (bits w 63 32), at_ := s'.time.raw
                     seqAt := match s'.fab.ports[p].announce with
                       | some x => if x.root = a ∧ BitVec.ofNat 32 (bits w 63 32) ≤ x.seq then x.seqAt else s'.time.raw
                       | none => s'.time.raw } : Announce) = x
  generalize hu : s'.setPort p (fun q => { q with announce := some x }) = u
  have hann (q : FabPort) : u.reelect.settle.fab.ports[q].announce = u.fab.ports[q].announce :=
    (FabPart.wires_announce (State.settle_fabWires _) q).trans (FabPart.wires_announce (State.reelect_fabWires u) q)
  have hcfg' := FabPart.config_fields (State.settle_fabConfig u.reelect)
  refine ⟨u.reelect.settle, x, ?_, ?_, ?_, ?_, ?_, ?_, ?_, fun q hq => ?_, ?_, ?_, ?_⟩
  · rw [← hu, ← hx]
    rfl
  · rw [hann, ← hu, State.setPort_same]
  · rw [← hx]
  · rw [← hx]
  · rw [← hx]
  · rw [← hx]
  · rw [← hx, ← htime]
  · rw [hann, ← hu, State.setPort_get, if_neg (Ne.symm hq), hports]
  · rw [hcfg'.2.1, State.reelect_keeps.1, ← hnode, ← hu]
    rfl
  · rw [hcfg'.2.2.1, State.reelect_keeps.2, ← htable, ← hu]
    rfl
  · rw [State.settle_print, State.reelect_print, ← hprint, ← hu]
    rfl

/-- ANNOUNCE_SEND with a root in view (R440). -/
theorem execAnnounceSend_root {r : Word × Nat × Option FabPort × BitVec 32} (hr : s.rootView = some r) : ∃ t : State, execAnnounceSend s = .next t ∧
    (t.fab.root.map (fun x => (x.1, x.2.1, x.2.2.1))) = some (r.1, r.2.1, r.2.2.1) ∧
    t.fab.ownSeq = (if r.2.2.1.isNone then s.fab.ownSeq + 1 else s.fab.ownSeq) ∧ t.fab.node = s.fab.node ∧ t.print = s.print := by
  generalize hu : ({ s with fab := { s.fab with root := s.rootView, settled := s.fab.settled && sameView s.fab.root s.rootView } } : State) = u
  have hroot : u.fab.root = some r := by
    rw [← hu]
    exact hr
  have hcfg := FabPart.config_fields (State.settle_fabConfig u.announceAll)
  have hcfg' := FabPart.config_fields (State.announceAll_config (s := u))
  obtain ⟨h1, h2⟩ := State.announceCounted_root hroot
  refine ⟨u.announceAll.settle, ?_, ?_, ?_, ?_, ?_⟩
  · rw [← hu]
    rfl
  · rw [hcfg.1, hcfg'.1]
    exact h1
  · rw [hcfg.2.2.2.1, hcfg'.2.2.2.1, h2, ← hu]
  · rw [hcfg.2.1, State.announceAll_keeps.1, ← hu]
  · rw [State.settle_print, State.announceAll_print, ← hu]

/-- A settled election is told once for each root (R443). -/
theorem execElectionSettled_tells {r : Word × Nat × Option FabPort × BitVec 32} (hr : s.fab.root = some r) : ∃ t : State,
    execElectionSettled s = .next t ∧ t.fab.settled = true ∧ t.fab.rootTold = some r.1 ∧ t.fab.root = s.fab.root ∧ t.fab.node = s.fab.node ∧
      t.print = s.print := by
  obtain ⟨id, dist, port, seq⟩ := r
  unfold execElectionSettled
  rw [hr]
  dsimp only
  generalize hu : State.masterCheck _ = u
  have h0 : u.fab.settled = true ∧ u.fab.rootTold = some id ∧ u.fab.root = s.fab.root ∧ u.fab.node = s.fab.node ∧ u.print = s.print := by
    rw [← hu, State.masterCheck_fab, State.masterCheck_print]
    split
    · exact ⟨rfl, rfl, rfl, rfl, rfl⟩
    · rw [State.raiseF_fab, State.raiseF_print]
      exact ⟨rfl, rfl, rfl, rfl, rfl⟩
  have h1 : u.sendFabReport.fab.settled = u.fab.settled ∧ u.sendFabReport.fab.rootTold = u.fab.rootTold ∧ u.sendFabReport.fab.root = u.fab.root ∧
      u.sendFabReport.fab.node = u.fab.node := by
    unfold State.sendFabReport
    dsimp only
    split
    · exact ⟨rfl, rfl, rfl, rfl⟩
    · obtain ⟨hr, hn, -, -, hs, ht, -⟩ := FabPart.config_fields
        (State.fabSend_fabConfig { u with fab := { u.fab with reportSeq := u.fab.reportSeq + 1 } } 6 0 u.reportWords)
      exact ⟨hs, ht, hr, hn⟩
  have hend (t : State) : t.settle.fab.settled = t.fab.settled ∧ t.settle.fab.rootTold = t.fab.rootTold ∧ t.settle.fab.root = t.fab.root ∧
      t.settle.fab.node = t.fab.node := by
    obtain ⟨hr, hn, -, -, hs, ht, -⟩ := FabPart.config_fields (State.settle_fabConfig t)
    exact ⟨hs, ht, hr, hn⟩
  obtain ⟨a1, a2, a3, a4, a5⟩ := h0
  obtain ⟨b1, b2, b3, b4⟩ := h1
  split
  · obtain ⟨e1, e2, e3, e4⟩ := hend u
    exact ⟨_, rfl, e1.trans a1, e2.trans a2, (e3.trans a3).trans hr, e4.trans a4, (State.settle_print _).trans a5⟩
  · obtain ⟨e1, e2, e3, e4⟩ := hend u.sendFabReport
    exact ⟨_, rfl, e1.trans (b1.trans a1), e2.trans (b2.trans a2), (e3.trans (b3.trans a3)).trans hr, e4.trans (b4.trans a4),
      (State.settle_print _).trans ((State.sendFabReport_print _).trans a5)⟩

/-- Settles O41: a port's ANNOUNCE is its candidate, and the view, its announcement and its settling leave the numbers. -/
theorem electionFollowsTheAnnouncements : Obligations.ElectionFollowsTheAnnouncements := by
  unfold Obligations.ElectionFollowsTheAnnouncements
  refine ⟨fun s p a b w ha => execAnnounce_kept a b w ha, fun s p a b w hq ha => ?_, fun s hq hr => ?_, fun s r hr => execAnnounceSend_root hr,
    fun s hq hr => ?_, fun s r hr => execElectionSettled_tells hr, fun s hr ht ⟨p, hp⟩ => ?_, fun s hq h => ?_⟩
  · have ha' : (s.takeFrame 5 [a, b, w]).fabActive p = false := by
      unfold State.fabActive at ha ⊢
      rw [State.takeFrame_lanes]
      exact ha
    exact (if_pos (by rw [ha']; rfl)).trans (State.done_quiet _ (State.takeFrame_quiet _ _ hq))
  · show execAnnounceSend s = _
    unfold execAnnounceSend
    dsimp only
    rw [hr, State.announceAll_none rfl]
    exact State.done_quiet _ hq
  · show execElectionSettled s = _
    unfold execElectionSettled
    rw [hr]
    exact s.done_quiet hq
  · have hx : exec .fabricNoRoot s = ({ s with fab := { s.fab with noRootTold := true } }.raise .fabricNoRoot 0).done := by
      refine if_pos ?_
      rw [hr, ht, List.any_eq_true.mpr ⟨p, List.mem_finRange p, hp⟩]
      rfl
    have hf := State.raise_fab { s with fab := { s.fab with noRootTold := true } } .fabricNoRoot 0
    refine ⟨_, hx, ?_, Vector.ext fun i hi => ?_, ?_⟩
    · rw [(FabPart.config_fields (State.settle_fabConfig _)).2.2.2.2.2.2, hf]
    · have h := FabPart.wires_announce (State.settle_fabWires ({ s with fab := { s.fab with noRootTold := true } }.raise .fabricNoRoot 0)) ⟨i, hi⟩
      rw [hf] at h
      simpa using h
    · rw [State.settle_print, State.raise_print]
  · refine (if_neg ?_).trans (s.done_quiet hq)
    rcases h with h | h
    · rw [Option.isNone_eq_false_iff.mpr h]
      simp
    · rw [h]
      simp

end Sys2Proof.Machine
end

section
/-!
SUPPORT. Reports, numbers and route tables (R443 to R449).
-/

namespace Sys2Proof.Machine

variable {s : State} {c : Cmd}

/-- What discovery keeps, where fabric parts differ in their traffic alone. -/
theorem FabPart.config_discovery {f g : FabPart} (h : f.config = g.config) : f.id = g.id ∧ f.arrivals = g.arrivals ∧ f.assigns = g.assigns ∧
    f.reports = g.reports ∧ f.held = g.held ∧ f.grants = g.grants ∧ f.gen = g.gen ∧ f.partialGen = g.partialGen := by
  simp only [FabPart.config, FabPart.mk.injEq] at h
  tauto

theorem FabPart.isRoot_congr {f g : FabPart} (h : f.root = g.root) : f.isRoot = g.isRoot := by
  unfold FabPart.isRoot
  rw [h]

/-- The numbers held, the reports and the root. -/
def FabPart.census (f : FabPart) := (f.held, f.reports, f.root)

theorem FabPart.config_census {f g : FabPart} (h : f.config = g.config) : f.census = g.census := by
  obtain ⟨-, -, -, h1, h2, -⟩ := FabPart.config_discovery h
  rw [FabPart.census, h1, h2, FabPart.config_root h, FabPart.census]

/-! ### Numbers -/

/-- A node takes the number it is given, and nothing else of the fabric moves but that (R445). -/
theorem State.takeNumber_fab (n : NodeNo) : (s.takeNumber n).fab = { s.fab with node := n } := by
  unfold State.takeNumber
  dsimp only
  split
  · rw [State.raiseF_fab, State.raiseF_fab]
  · rw [State.raiseF_fab]

theorem State.learnAssign_learns (id : Word) (n : NodeNo) : (id, n) ∈ (s.learnAssign id n).fab.assigns ∧
    (s.learnAssign id n).fab.node = (if id = s.fab.id then n else s.fab.node) ∧ (s.learnAssign id n).fab.table = s.fab.table ∧
    (s.learnAssign id n).fab.census = s.fab.census := by
  unfold State.learnAssign
  dsimp only
  by_cases h : id = s.fab.id
  · rw [if_pos h, if_pos h, State.takeNumber_fab]
    exact ⟨List.mem_append_right _ List.mem_cons_self, rfl, rfl, rfl⟩
  · rw [if_neg h, if_neg h]
    exact ⟨List.mem_append_right _ List.mem_cons_self, rfl, rfl, rfl⟩

theorem State.assignAll_census (m : List (Word × NodeNo)) (s : State) : (s.assignAll m).fab.census = s.fab.census := by
  unfold State.assignAll
  refine foldl_same (fun t : State => t.fab.census) _ (fun t a => ?_) m s
  split
  · rfl
  · refine State.learnAssign_learns _ _ |>.2.2.2.trans ?_
    exact FabPart.config_census (foldl_same (fun t : State => t.fab.config) _ (fun t p => State.fabOut_fabConfig t p _ _) _ _)

/-- The root holds each number it gives (R445). -/
theorem State.holdNumbers_holds {rs : List NodeReport} {m : List (Word × NodeNo)} {a : Word × NodeNo} (ha : a ∈ m) :
    ⟨a.1, a.2, none⟩ ∈ (s.holdNumbers rs m).fab.held ∧ (s.holdNumbers rs m).fab.reports = s.fab.reports ∧
      (s.holdNumbers rs m).fab.root = s.fab.root :=
  ⟨List.mem_append_left _ (List.mem_map_of_mem (f := fun a : Word × NodeNo => (⟨a.1, a.2, none⟩ : Assigned)) ha), rfl, rfl⟩

/-! ### Route tables -/

theorem State.applyTable_fab (gen : BitVec 32) (table : List Word) :
    (s.applyTable gen table).fab = { s.fab with table := table, gen := gen, partialGen := none } := State.raiseF_fab ..

theorem State.grantTable_census (gen : BitVec 32) (m : List (Word × NodeNo)) (id : Word) : (s.grantTable gen m id).fab.census = s.fab.census := by
  unfold State.grantTable
  dsimp only
  split
  · rfl
  · split
    · rw [State.applyTable_fab]
      rfl
    · exact (FabPart.config_census (State.sendTable_fabConfig ..)).trans rfl

/-- The computation of the routes leaves the numbers it holds, the reports and the root (R443). -/
theorem State.computeRoutes_census : s.computeRoutes.fab.census = (s.holdNumbers s.reachable (s.numberNodes s.reachable)).fab.census := by
  unfold State.computeRoutes
  dsimp only
  refine (foldl_same (fun t : State => t.fab.census) _ (fun t r => State.grantTable_census ..) _ _).trans ?_
  refine Eq.trans (foldl_same (fun t : State => t.fab.census) _ (fun t r => ?_) _ _) (State.assignAll_census _ _)
  split
  · rfl
  · exact congrArg FabPart.census (State.raise_fab ..)

/-! ### The instructions -/

/-- REPORT (R443): the arrival port is recorded. -/
theorem execReport_arrives (p : FabPort) (ws : List Word) : ∃ t : State, execReport p ws s = .next t ∧
    t.fab.arrivals.find? (fun a => a.1 == wordAt ws 0) = some (wordAt ws 0, p) ∧
    (s.fab.isRoot = true → parseReport ws ∈ t.fab.reports) ∧ (s.fab.isRoot = false → t.fab.reports = s.fab.reports) ∧
    t.fab.root = s.fab.root ∧ t.fab.table = s.fab.table ∧ t.print = s.print := by
  obtain ⟨hcfg, -, -⟩ := State.takeFrame_config (s := s) 6 ws
  have hprint := State.takeFrame_print s 6 ws
  unfold execReport
  extract_lets hdr s1 r q s2
  obtain ⟨hroot1, -, htab1, -⟩ := FabPart.config_fields hcfg
  obtain ⟨-, -, -, hrep1, -⟩ := FabPart.config_discovery hcfg
  have hroot : s2.fab.root = s.fab.root := hroot1
  have hrep : s2.fab.reports = s.fab.reports := hrep1
  have htab : s2.fab.table = s.fab.table := htab1
  have hisr : s2.fab.isRoot = s.fab.isRoot := FabPart.isRoot_congr hroot
  have harr : s2.fab.arrivals.find? (fun a => a.1 == wordAt ws 0) = some (wordAt ws 0, p) := by
    have hn : (s1.fab.arrivals.filter (fun (a : Word × FabPort) => a.1 != wordAt ws 0)).find? (fun a => a.1 == wordAt ws 0) = none := by
      simp
    show (s1.fab.arrivals.filter (fun (a : Word × FabPort) => a.1 != wordAt ws 0) ++ [(wordAt ws 0, p)]).find? (fun a => a.1 == wordAt ws 0) = _
    rw [List.find?_append, hn]
    simp
  have hend (u : State) (hu : u.fab.config = s2.fab.config) (hp : u.print = s2.print) (hnr : s.fab.isRoot = false) :
      u.settle.fab.arrivals.find? (fun a => a.1 == wordAt ws 0) = some (wordAt ws 0, p) ∧
      (s.fab.isRoot = true → parseReport ws ∈ u.settle.fab.reports) ∧ (s.fab.isRoot = false → u.settle.fab.reports = s.fab.reports) ∧
      u.settle.fab.root = s.fab.root ∧ u.settle.fab.table = s.fab.table ∧ u.settle.print = s.print := by
    have hc := (State.settle_fabConfig u).trans hu
    obtain ⟨-, h1, -, h2, -⟩ := FabPart.config_discovery hc
    refine ⟨by rw [h1, harr], fun h => absurd (hnr.symm.trans h) (by decide), fun _ => h2.trans hrep, (FabPart.config_root hc).trans hroot,
      (FabPart.config_fields hc).2.2.1.trans htab, (State.settle_print _).trans (hp.trans hprint)⟩
  by_cases hr : s2.fab.isRoot = true
  · rw [if_pos hr]
    have hc := State.settle_fabConfig (s2.keepReport r)
    obtain ⟨-, h1, -, h2, -⟩ := FabPart.config_discovery hc
    refine ⟨_, rfl, by rw [h1]; exact harr, fun _ => ?_, fun h => absurd (h.symm.trans (hisr.symm.trans hr)) (by decide), (FabPart.config_root hc).trans hroot,
      (FabPart.config_fields hc).2.2.1.trans htab, (State.settle_print _).trans hprint⟩
    rw [h2]
    exact List.mem_append_right _ List.mem_cons_self
  · rw [if_neg hr]
    have hnr : s.fab.isRoot = false := by rw [← hisr, Bool.eq_false_iff.mpr hr]
    clear_value hdr
    cases hdr with
    | some h =>
      dsimp only
      split
      · exact ⟨_, rfl, hend s2 rfl rfl hnr⟩
      · exact ⟨_, rfl, hend _ (State.fabUp_fabConfig ..) (State.fabUp_print ..) hnr⟩
    | none => exact ⟨_, rfl, hend _ ((State.fabUp_fabConfig ..).trans (congrArg FabPart.config (State.drew_fab s2))) ((State.fabUp_print ..).trans (State.drew_print s2)) hnr⟩

/-- The chunks held when one of a generation comes (R448). -/
def FabPart.chunksHeld (f : FabPart) (gen : BitVec 32) : BitVec 32 × List (Nat × List Word) :=
  match f.partialGen with
  | some q => if q.1 < gen then (gen, []) else q
  | none => (gen, [])

/-- A chunk taken among those held. -/
def State.routesTaken (s : State) (words : List Word) (gen : BitVec 32) (chunk : Nat) (old : BitVec 32 × List (Nat × List Word)) : Out :=
  if old.1 ≠ gen then s.done
  else if (old.2.filter (fun (c : Nat × List Word) => c.1 != chunk) ++ [(chunk, slice words 1 64)]).length < 16 then
    ({ s with fab := { s.fab with partialGen := some (gen, old.2.filter (fun (c : Nat × List Word) => c.1 != chunk) ++ [(chunk, slice words 1 64)]) } }).done
  else
    ((s.applyTable gen ((List.range 16).flatMap (fun i =>
      match (old.2.filter (fun (c : Nat × List Word) => c.1 != chunk) ++ [(chunk, slice words 1 64)]).find? (fun (c : Nat × List Word) => c.1 == i) with | some c => c.2 | none => []))).fabSend
        9 0 [word [gen.toNat]]).done

theorem execRoutes_eq (ws : List Word) : execRoutes ws s = (s.takeFrame 8 ws).routesTaken ws (BitVec.ofNat 32 (bits (wordAt ws 0) 31 0))
    (bits (wordAt ws 0) 35 32) ((s.takeFrame 8 ws).fab.chunksHeld (BitVec.ofNat 32 (bits (wordAt ws 0) 31 0))) := rfl

/-- A chunk of a table: kept until all sixteen of a generation are held, which then apply (R448). -/
theorem execRoutes_chunk (ws : List Word) {cs : List (Nat × List Word)}
    (h : s.fab.partialGen = some (BitVec.ofNat 32 (bits (wordAt ws 0) 31 0), cs) ∨ s.fab.partialGen = none ∧ cs = [] ∨
      (∃ g old, s.fab.partialGen = some (g, old) ∧ g < BitVec.ofNat 32 (bits (wordAt ws 0) 31 0)) ∧ cs = []) :
    let gen : BitVec 32 := BitVec.ofNat 32 (bits (wordAt ws 0) 31 0)
    let chunk := bits (wordAt ws 0) 35 32
    let all := cs.filter (fun c => c.1 != chunk) ++ [(chunk, slice ws 1 64)]
    ∃ t : State, execRoutes ws s = .next t ∧ t.print = s.print ∧ t.fab.root = s.fab.root ∧
      (all.length < 16 → t.fab.partialGen = some (gen, all) ∧ t.fab.table = s.fab.table ∧ t.fab.gen = s.fab.gen) ∧
      (16 ≤ all.length → t.fab.partialGen = none ∧ t.fab.gen = gen ∧ t.fab.table = (List.range 16).flatMap (fun i =>
        match all.find? (fun c => c.1 == i) with | some c => c.2 | none => [])) := by
  intro gen chunk all
  obtain ⟨hcfg, -, -⟩ := State.takeFrame_config (s := s) 8 ws
  have hprint := State.takeFrame_print s 8 ws
  obtain ⟨-, -, -, -, -, -, hgen, hpart⟩ := FabPart.config_discovery hcfg
  obtain ⟨hroot, -, htab, -⟩ := FabPart.config_fields hcfg
  have hold : (s.takeFrame 8 ws).fab.chunksHeld gen = (gen, cs) := by
    unfold FabPart.chunksHeld
    rw [hpart]
    rcases h with h | ⟨h, rfl⟩ | ⟨⟨g, o, h, hlt⟩, rfl⟩
    · rw [h]
      exact if_neg (BitVec.lt_irrefl _)
    · rw [h]
    · rw [h]
      exact if_pos hlt
  rw [execRoutes_eq, hold]
  unfold State.routesTaken
  rw [if_neg (by simp [gen])]
  generalize s.takeFrame 8 ws = u at hprint hroot htab hgen ⊢
  by_cases hl : all.length < 16
  · rw [if_pos hl]
    refine ⟨_, rfl, (State.settle_print _).trans hprint, ?_, fun _ => ?_, fun h => absurd hl (Nat.not_lt.mpr h)⟩
    · exact (FabPart.config_root (State.settle_fabConfig _)).trans hroot
    · have hc := State.settle_fabConfig { u with fab := { u.fab with partialGen := some (gen, all) } }
      obtain ⟨-, -, -, -, -, -, h1, h2⟩ := FabPart.config_discovery hc
      exact ⟨h2, (FabPart.config_fields hc).2.2.1.trans htab, h1.trans hgen⟩
  · rw [if_neg hl]
    have hc (tb : List Word) := (State.settle_fabConfig ((u.applyTable gen tb).fabSend 9 0 [word [gen.toNat]])).trans
      ((State.fabSend_fabConfig ..).trans (congrArg FabPart.config (State.applyTable_fab gen tb)))
    refine ⟨_, rfl, ?_, ?_, fun h => absurd h hl, fun _ => ?_⟩
    · rw [State.settle_print, State.fabSend_print, State.applyTable_print, hprint]
    · exact (FabPart.config_root (hc _)).trans hroot
    · obtain ⟨-, -, -, -, -, -, h1, h2⟩ := FabPart.config_discovery (hc ((List.range 16).flatMap (fun i =>
        match all.find? (fun c => c.1 == i) with | some c => c.2 | none => [])))
      exact ⟨h2, h1, (FabPart.config_fields (hc _)).2.2.1⟩

/-- Settles O42: each instruction by what it leaves of discovery, numbers and tables. -/
theorem discoveryNumbersAndRoutes : Obligations.DiscoveryNumbersAndRoutes := by
  unfold Obligations.DiscoveryNumbersAndRoutes
  refine ⟨fun s p ws => execReport_arrives p ws, fun s hr => ?_, fun s hq hr => ?_, fun s hr => ?_, fun s p a b ha => ?_, fun s p a b hq ha => ?_,
    fun s ws => ⟨fun g cs hg hlt hq => ?_, fun cs h => execRoutes_chunk ws h⟩, fun s src w a hq ha => ?_⟩
  · have hc : s.computeRoutes.settle.fab.census = _ := (FabPart.config_census (State.settle_fabConfig _)).trans State.computeRoutes_census
    simp only [FabPart.census, Prod.mk.injEq] at hc
    obtain ⟨h1, h2, h3⟩ := hc
    exact ⟨_, if_pos hr, fun a ha => by rw [h1]; exact (State.holdNumbers_holds ha).1, h2, h3, (State.settle_print _).trans (State.computeRoutes_print _)⟩
  · exact ⟨(if_neg (by rw [hr]; decide)).trans (s.done_quiet hq), (if_neg (by rw [hr]; decide)).trans (s.done_quiet hq)⟩
  · have hf : ((s.fab.grants.filter (fun g => !g.acked)).foldl (fun s g => s.sendTable g) s).fab.config = s.fab.config :=
      foldl_same (fun t : State => t.fab.config) _ (fun t g => State.sendTable_fabConfig ..) _ _
    have hp : ((s.fab.grants.filter (fun g => !g.acked)).foldl (fun s g => s.sendTable g) s).print = s.print :=
      foldl_same State.print _ (fun t g => State.sendTable_print ..) _ _
    have hc := (State.settle_fabConfig _).trans hf
    exact ⟨_, if_pos hr, (FabPart.config_discovery hc).2.2.2.2.2.1, (FabPart.config_fields hc).2.2.1, (State.settle_print _).trans hp⟩
  · have ha' : (s.takeFrame 7 [a, b]).fabActive p = true := by
      unfold State.fabActive at ha ⊢
      rw [State.takeFrame_lanes]
      exact ha
    obtain ⟨hcfg, -, -⟩ := State.takeFrame_config (s := s) 7 [a, b]
    obtain ⟨h1, h2, h3, -⟩ := State.learnAssign_learns (s := s.takeFrame 7 [a, b]) a (BitVec.ofNat 12 (bits b 11 0))
    have hc := State.settle_fabConfig ((s.takeFrame 7 [a, b]).learnAssign a (BitVec.ofNat 12 (bits b 11 0)))
    refine ⟨_, if_pos ha', ?_, ?_, ?_, ?_⟩
    · rw [(FabPart.config_discovery hc).2.2.1]
      exact h1
    · rw [(FabPart.config_fields hc).2.1, h2, (FabPart.config_discovery hcfg).1, (FabPart.config_fields hcfg).2.1]
    · rw [(FabPart.config_fields hc).2.2.1, h3, (FabPart.config_fields hcfg).2.2.1]
    · rw [State.settle_print, State.learnAssign_print, State.takeFrame_print]
  · have ha' : (s.takeFrame 7 [a, b]).fabActive p = false := by
      unfold State.fabActive at ha ⊢
      rw [State.takeFrame_lanes]
      exact ha
    exact (if_neg (by rw [ha']; decide)).trans (State.done_quiet _ (State.takeFrame_quiet _ _ hq))
  · obtain ⟨-, -, -, -, -, -, -, hpart⟩ := FabPart.config_discovery (State.takeFrame_config (s := s) 8 ws).1
    have hold : (s.takeFrame 8 ws).fab.chunksHeld (BitVec.ofNat 32 (bits (wordAt ws 0) 31 0)) = (g, cs) := by
      unfold FabPart.chunksHeld
      rw [hpart, hg]
      exact if_neg (BitVec.not_lt.mpr (BitVec.le_of_lt hlt))
    show execRoutes ws s = _
    rw [execRoutes_eq, hold]
    refine (if_pos fun (h : g = _) => ?_).trans (State.done_quiet _ (State.takeFrame_quiet _ _ hq))
    rw [h] at hlt
    exact BitVec.lt_irrefl _ hlt
  · obtain ⟨hcfg, -, -⟩ := State.takeFrame_config (s := s) 9 [w]
    obtain ⟨-, -, hass, -, -, hgr, -⟩ := FabPart.config_discovery hcfg
    have hx : exec (.routesAck src w) s = ({ s.takeFrame 9 [w] with fab := { (s.takeFrame 9 [w]).fab with grants := (s.takeFrame 9 [w]).fab.grants.map (fun (g : RouteGrant) =>
        if g.id == a.1 && g.gen.toNat == bits w 31 0 then { g with acked := true } else g) } } : State).done := by
      show execRoutesAck src w s = _
      unfold execRoutesAck
      dsimp only
      rw [hass, ha]
    refine ⟨_, hx, ?_, (State.settle_print _).trans (State.takeFrame_print ..)⟩
    rw [(FabPart.config_discovery (State.settle_fabConfig _)).2.2.2.2.2.1, ← hgr]

end Sys2Proof.Machine
end

section
/-!
SUPPORT. Mailbox channels between nodes, PEER_POST and PEER_CLOSE (R454 to R456, R550).
-/

namespace Sys2Proof.Machine

variable {s : State} {c : Cmd}

/-! ### Channels found -/

theorem FabPart.chanOf_core (f : FabPart) (n : NodeNo) : (f.chanOf n).map FabChannel.core = f.cores.find? (fun x => x.1 == n) := by
  unfold FabPart.chanOf FabPart.cores
  rw [List.find?_map]
  rfl

section Cores

variable {f g : FabPart} {n : NodeNo} (h : f.cores = g.cores)
include h

/-- A channel found stays found, but for what its traffic moves. -/
theorem FabPart.chan_some {k : FabChannel} (hk : g.chanOf n = some k) : ∃ x, f.chanOf n = some x ∧ x.core = k.core := by
  have hc : (f.chanOf n).map FabChannel.core = some k.core := by rw [f.chanOf_core, h, ← g.chanOf_core, hk, Option.map_some]
  exact Option.map_eq_some_iff.mp hc

theorem FabPart.chan_none (hk : g.chanOf n = none) : f.chanOf n = none := by
  have hc : (f.chanOf n).map FabChannel.core = none := by rw [f.chanOf_core, h, ← g.chanOf_core, hk, Option.map_none]
  exact Option.map_eq_none_iff.mp hc

end Cores

theorem FabPart.chanOf_congr {f g : FabPart} (h : f.channels = g.channels) (n : NodeNo) : f.chanOf n = g.chanOf n := by
  unfold FabPart.chanOf
  rw [h]

/-- The channel with a node, replaced, is found as its replacement. -/
theorem State.setFabChan_replaced {n : NodeNo} {k : FabChannel} (h : s.fab.chanOf n = some k) {f : FabChannel → FabChannel} (hf : ∀ k, (f k).peer = n) :
    (s.setFabChan n f).fab.chanOf n = some (f k) := by
  have hp : (fun x : FabChannel => x.peer == n) ∘ (fun x => if x.peer == n then f x else x) = (fun x => x.peer == n) := by
    funext x
    simp only [Function.comp]
    split <;> simp [*]
  unfold FabPart.chanOf State.setFabChan at *
  dsimp only
  rw [List.find?_map, hp, h, Option.map_some, if_pos (List.find?_some h)]

/-! ### What leaves the channels but for their traffic -/

theorem State.respond_fabCores (o : Origin) (op : Byte) (tag : BitVec 5) (st : Code) (r : BitVec 40) :
    (s.respond o op tag st r).fab.cores = s.fab.cores := by
  unfold State.respond
  have hf := State.flush_fabCores s
  cases o with
  | host n v =>
    dsimp only
    split
    · unfold State.pushHost
      dsimp only
      split
      · exact (congrArg FabPart.cores (State.irq_fab ..)).trans hf
      · exact hf
    · exact hf
  | peer n v =>
    dsimp only
    split
    · split
      · exact ((State.pushFab_fabCores ..).trans (State.setFabChan_fabCores _ n _ (by exact fun _ => rfl))).trans hf
      · exact hf
    · exact hf
  | parcel a => exact hf

theorem State.answer_fabCores (x : Cmd) (op : Byte) (st : Code) (r : BitVec 40) : (s.answer x op st r).fab.cores = s.fab.cores :=
  State.respond_fabCores ..

/-- The askers of the words posted are answered. -/
theorem State.answers_fabCores (op : Byte) (st : Code) (r : BitVec 40) (l : List PeerPost) (s : State) :
    (l.foldl (fun s p => match p.asker with | some x => s.answer x op st r | none => s) s).fab.cores = s.fab.cores :=
  foldl_same (fun t : State => t.fab.cores) _ (fun t p => by
    split
    · exact State.answer_fabCores ..
    · rfl) l s

theorem State.dropChan_gone (n : NodeNo) (st : Code) (r : Nat) : (s.dropChan n st r).fab.chanOf n = none := by
  unfold State.dropChan
  split
  · next h => exact h
  · next k _ =>
    refine FabPart.chan_none (State.answers_fabCores 0x71 st (low40 r) k.posts _) ?_
    unfold FabPart.chanOf
    dsimp only
    rw [List.find?_filter]
    simp

theorem State.abortChan_gone (n : NodeNo) (cause : Nat) : (s.abortChan n cause).fab.chanOf n = none := by
  unfold State.abortChan
  rw [State.raiseF_fab]
  exact State.dropChan_gone ..

theorem State.closeChan_gone (n : NodeNo) : (s.closeChan n).fab.chanOf n = none := State.dropChan_gone ..

theorem State.settle_gone {n : NodeNo} (h : s.fab.chanOf n = none) : s.settle.fab.chanOf n = none := FabPart.chan_none s.settle_fabCores h

theorem State.mailAck_channels (n : NodeNo) (st : Nat) (seq : Byte) (v : BitVec 32) : (s.mailAck n st seq v).fab.channels = s.fab.channels :=
  State.fabSend_channels ..

theorem State.mailAck_quiet (n : NodeNo) (st : Nat) (seq : Byte) (v : BitVec 32) (hq : s.quiet) : (s.mailAck n st seq v).quiet :=
  (congrArg HostPart.batch (State.mailAck_host ..)).trans hq

/-! ### A word that awaits its ack stays (R455) -/

/-- The channel with a node has a word that awaits its ack. -/
def FabPart.Awaits (f : FabPart) (n : NodeNo) (v : Word × Nat) : Prop := ∃ x, f.chanOf n = some x ∧ x.unacked = some v

section Awaits

variable {n m : NodeNo} {v : Word × Nat}

theorem State.setFabChan_awaits (h : s.fab.Awaits n v) (f : FabChannel → FabChannel) (hp : ∀ k, (f k).peer = k.peer)
    (hu : ∀ k, (f k).unacked = k.unacked) : (s.setFabChan m f).fab.Awaits n v := by
  obtain ⟨x, hx, hv⟩ := h
  refine ⟨_, (State.setFabChan_chanOf m n hp).trans (congrArg _ hx), ?_⟩
  dsimp only
  split
  · rw [hu, hv]
  · exact hv

theorem State.fabPump_awaits (h : s.fab.Awaits n v) : (s.fabPump m).fab.Awaits n v := by
  unfold State.fabPump
  split
  · exact h
  · next k hk =>
    split
    · next w ws hst hun hout =>
      obtain ⟨x, hx, hv⟩ := h
      have hmn : n ≠ m := by
        rintro rfl
        rw [hk, Option.some.injEq] at hx
        rw [← hx, hun] at hv
        exact absurd hv (by simp)
      refine ⟨x, ?_, hv⟩
      rw [FabPart.chanOf_congr (State.fabSend_channels ..)]
      exact (State.setFabChan_chanOf_other hmn (by exact fun _ => rfl)).trans hx
    · exact h

theorem State.pushFab_awaits (h : s.fab.Awaits n v) (ws : List Word) : (s.pushFab m ws).fab.Awaits n v :=
  State.fabPump_awaits (State.setFabChan_awaits h (fun k => { k with outQ := k.outQ ++ ws }) (fun _ => rfl) (fun _ => rfl))

theorem State.eventFab_awaits (h : s.fab.Awaits n v) (e : Code × BitVec 40) : (s.eventFab e m).fab.Awaits n v := by
  unfold State.eventFab
  split
  · exact h
  · split
    · split
      · next ws _ => exact State.pushFab_awaits (State.setFabChan_awaits h (fun k => { k with dropped := 0 }) (fun _ => rfl) (fun _ => rfl)) ws
      · exact State.setFabChan_awaits h (fun k => { k with dropped := k.dropped + 1 }) (fun _ => rfl) (fun _ => rfl)
    · exact h

theorem State.deliver_awaits (h : s.fab.Awaits n v) (e : Code × BitVec 40) : (s.deliver e).fab.Awaits n v := by
  unfold State.deliver
  refine foldl_keeps (fun t : State => t.fab.Awaits n v) _ (fun t m ht => State.eventFab_awaits ht e) _ _ ?_
  have hf : ∀ l : List Chan, (l.foldl (fun s n => s.eventHost e n) s).fab = s.fab := fun l =>
    foldl_same State.fab _ (fun t m => State.eventHost_fab ..) l s
  rw [hf]
  exact h

theorem State.settle_awaits (h : s.fab.Awaits n v) : s.settle.fab.Awaits n v := by
  have hf : s.flush.fab.Awaits n v := by
    unfold State.flush
    split
    · exact h
    · exact foldl_keeps (fun t : State => t.fab.Awaits n v) _ (fun t e ht => State.deliver_awaits ht e) _ _ h
  exact hf

end Awaits

/-! ### A mailbox frame taken -/

/-- A state whose channels, quiet, print and node are those of another: a frame taken, or an ack sent. -/
structure State.MailSame (s t : State) : Prop where
  channels : t.fab.channels = s.fab.channels
  batch : t.host.batch = s.host.batch
  print : t.print = s.print
  node : t.fab.node = s.fab.node

theorem State.MailSame.trans {t u : State} (h : s.MailSame t) (g : t.MailSame u) : s.MailSame u :=
  ⟨g.channels.trans h.channels, g.batch.trans h.batch, g.print.trans h.print, g.node.trans h.node⟩

theorem State.MailSame.chanOf {t : State} (h : s.MailSame t) (n : NodeNo) : t.fab.chanOf n = s.fab.chanOf n := FabPart.chanOf_congr h.channels n

theorem State.MailSame.quiet {t : State} (h : s.MailSame t) (hq : s.quiet) : t.quiet := h.batch.trans hq

theorem State.takeFrame_mail (kind : Nat) (d : List Word) : s.MailSame (s.takeFrame kind d) := by
  obtain ⟨hc, -, hch⟩ := State.takeFrame_config (s := s) kind d
  exact ⟨hch, congrArg HostPart.batch (State.takeFrame_host ..), State.takeFrame_print .., (FabPart.config_fields hc).2.1⟩

theorem State.fabSend_mail (kind : Nat) (n : NodeNo) (d : List Word) : s.MailSame (s.fabSend kind n d) :=
  ⟨State.fabSend_channels .., congrArg HostPart.batch (State.fabSend_host ..), State.fabSend_print .., (FabPart.config_fields (State.fabSend_fabConfig ..)).2.1⟩

theorem State.mailAck_mail (n : NodeNo) (st : Nat) (seq : Byte) (v : BitVec 32) : s.MailSame (s.mailAck n st seq v) := State.fabSend_mail ..

/-- A channel found after a step's end. -/
theorem State.settle_chan {n : NodeNo} {k : FabChannel} (h : s.fab.chanOf n = some k) : ∃ x, s.settle.fab.chanOf n = some x ∧ x.core = k.core :=
  FabPart.chan_some s.settle_fabCores h

/-! ### MAILBOX_OPEN (R455) -/

theorem execMailboxOpen_fresh {n : NodeNo} {w : Word} (hq : s.quiet) (h : s.fab.chanOf n = none) : ∃ t : State, execMailboxOpen n w s = .next t ∧
    t.fab.channels = (if 64 ≤ s.fab.channels.length then s.fab.channels else s.fab.channels ++ [openChannel n (BitVec.ofNat 32 (bits w 63 32))]) ∧
    t.print = s.print := by
  have hu := State.takeFrame_mail (s := s) 4 [w, 0]
  unfold execMailboxOpen
  generalize s.takeFrame 4 [w, 0] = u at hu ⊢
  dsimp only
  rw [hu.chanOf, h]
  dsimp only
  rw [hu.channels]
  split
  · have hm := hu.trans (State.mailAck_mail n 1 0 (BitVec.ofNat 32 (bits w 63 32)))
    exact ⟨_, State.done_quiet _ (hm.quiet hq), hm.channels, hm.print⟩
  · have hm := State.mailAck_mail (s := { u with fab := { u.fab with channels := s.fab.channels ++ [openChannel n (BitVec.ofNat 32 (bits w 63 32))] } })
      n 0 0 (BitVec.ofNat 32 (bits w 63 32))
    exact ⟨_, State.done_quiet _ (hm.quiet (hu.quiet hq)), hm.channels, hm.print.trans hu.print⟩

section Known

variable {n : NodeNo} {w : Word} {k : FabChannel} (h : s.fab.chanOf n = some k)
include h

/-- An OPEN that meets this node's own (R455). -/
theorem execMailboxOpen_opening (hst : k.st = .opening) :
    (s.fab.node < n → s.quiet → execMailboxOpen n w s = .next (s.takeFrame 4 [w, 0])) ∧
    (n ≤ s.fab.node → ∃ (t : State) (x : FabChannel), execMailboxOpen n w s = .next t ∧ t.fab.chanOf n = some x ∧
      x.session = BitVec.ofNat 32 (bits w 63 32) ∧ x.st = .openCh ∧ t.print = s.print) := by
  have hu := State.takeFrame_mail (s := s) 4 [w, 0]
  unfold execMailboxOpen
  generalize s.takeFrame 4 [w, 0] = u at hu ⊢
  dsimp only
  rw [hu.chanOf, h]
  dsimp only
  rw [hst]
  dsimp only
  rw [hu.node]
  refine ⟨fun hn hq => ?_, fun hn => ?_⟩
  · rw [if_pos hn]
    exact State.done_quiet _ (hu.quiet hq)
  · rw [if_neg (BitVec.not_lt.mpr hn)]
    generalize hv : u.setFabChan n (fun k => { k with session := BitVec.ofNat 32 (bits w 63 32), st := .openCh, sendSeq := 0, recvSeq := none }) = v
    have hk : v.fab.chanOf n = some { k with session := BitVec.ofNat 32 (bits w 63 32), st := .openCh, sendSeq := 0, recvSeq := none } := by
      rw [← hv]
      exact State.setFabChan_chanOf_same ((hu.chanOf n).trans h) (by exact fun _ => rfl)
    have hm := State.mailAck_mail (s := v) n 0 0 (BitVec.ofNat 32 (bits w 63 32))
    obtain ⟨x, hx, hc⟩ := FabPart.chan_some ((State.settle_fabCores _).trans (State.fabPump_fabCores (v.mailAck n 0 0 (BitVec.ofNat 32 (bits w 63 32))) n))
      ((hm.chanOf n).trans hk)
    simp only [FabChannel.core, Prod.mk.injEq] at hc
    refine ⟨_, x, rfl, hx, hc.2.1, hc.2.2.1, ?_⟩
    rw [State.settle_print, State.fabPump_print, hm.print, ← hv]
    exact hu.print

/-- An OPEN of the session in force is acknowledged again; one of another session replaces it (R455, log 64). -/
theorem execMailboxOpen_open (hst : k.st = .openCh) :
    (s.quiet → k.session = BitVec.ofNat 32 (bits w 63 32) → ∃ t : State, execMailboxOpen n w s = .next t ∧ t.fab.channels = s.fab.channels ∧ t.print = s.print) ∧
    (k.session ≠ BitVec.ofNat 32 (bits w 63 32) → ∃ (t : State) (x : FabChannel), execMailboxOpen n w s = .next t ∧
      t.fab.chanOf n = some x ∧ x.session = BitVec.ofNat 32 (bits w 63 32) ∧ x.taken = k.taken ∧ x.posts = [] ∧ t.print = s.print) := by
  have hu := State.takeFrame_mail (s := s) 4 [w, 0]
  unfold execMailboxOpen
  generalize s.takeFrame 4 [w, 0] = u at hu ⊢
  dsimp only
  rw [hu.chanOf, h]
  dsimp only
  rw [hst]
  dsimp only
  refine ⟨fun hq he => ?_, fun hne => ?_⟩
  · rw [if_pos he]
    have hm := hu.trans (State.mailAck_mail n 0 0 (BitVec.ofNat 32 (bits w 63 32)))
    exact ⟨_, State.done_quiet _ (hm.quiet hq), hm.channels, hm.print⟩
  · rw [if_neg hne]
    have hk := State.setFabChan_replaced ((hu.chanOf n).trans h) (f := fun k => { openChannel n (BitVec.ofNat 32 (bits w 63 32)) with taken := k.taken })
      fun _ => rfl
    have hc : (u.replaceSession n k (BitVec.ofNat 32 (bits w 63 32))).fab.cores =
        (u.setFabChan n (fun k => { openChannel n (BitVec.ofNat 32 (bits w 63 32)) with taken := k.taken })).fab.cores := by
      unfold State.replaceSession
      rw [State.raiseF_fab]
      exact State.answers_fabCores 0x71 .fabricChannelAborted _ k.posts _
    have hm := State.mailAck_mail (s := u.replaceSession n k (BitVec.ofNat 32 (bits w 63 32))) n 0 0 (BitVec.ofNat 32 (bits w 63 32))
    obtain ⟨x, hx, hcore⟩ := FabPart.chan_some ((State.settle_fabCores _).trans ((congrArg (List.map FabChannel.core) hm.channels).trans hc)) hk
    simp only [FabChannel.core, Prod.mk.injEq] at hcore
    obtain ⟨-, h1, -, -, -, -, h2, h3⟩ := hcore
    exact ⟨_, x, rfl, hx, h1, h2, h3, (State.settle_print _).trans (hm.print.trans ((State.replaceSession_print ..).trans hu.print))⟩

/-! ### MAILBOX_ACK, MAILBOX_CLOSE and what ends a channel (R455) -/

theorem execMailboxAck_ends (he : k.session = BitVec.ofNat 32 (bits w 63 32)) (hst : bits w 3 2 = 1 ∨ bits w 3 2 = 2) :
    ∃ t : State, execMailboxAck n w s = .next t ∧ t.fab.chanOf n = none ∧ t.print = s.print := by
  have hu := State.takeFrame_mail (s := s) 4 [w, 0]
  unfold execMailboxAck
  generalize s.takeFrame 4 [w, 0] = u at hu ⊢
  dsimp only
  rw [hu.chanOf, h]
  dsimp only
  rw [if_neg fun hne => hne he]
  rcases hst with hst | hst
  · rw [hst]
    exact ⟨_, rfl, State.settle_gone (State.dropChan_gone ..), (State.settle_print _).trans ((State.dropChan_print ..).trans hu.print)⟩
  · rw [hst]
    exact ⟨_, rfl, State.settle_gone (State.abortChan_gone ..), (State.settle_print _).trans ((State.abortChan_print ..).trans hu.print)⟩

/-- The word that awaits its ack has it, and the next one is sent (R455). -/
theorem execMailboxAck_word (he : k.session = BitVec.ofNat 32 (bits w 63 32)) (hq : s.quiet) (h0 : bits w 3 2 = 0) (hst : k.st = .openCh)
    (hun : k.unacked.isSome = true) (hseq : k.sendSeq = BitVec.ofNat 8 (bits w 15 8)) :
    ∃ (t : State) (x : FabChannel), execMailboxAck n w s = .next t ∧ t.fab.chanOf n = some x ∧ x.sendSeq = k.sendSeq + 1 ∧
      (k.outQ = [] → x.unacked = none) ∧ (∀ v vs, k.outQ = v :: vs → x.unacked = some (v, 1) ∧ x.outQ = vs) ∧ t.print = s.print := by
  have hu := State.takeFrame_mail (s := s) 4 [w, 0]
  unfold execMailboxAck
  generalize s.takeFrame 4 [w, 0] = u at hu ⊢
  dsimp only
  rw [hu.chanOf, h]
  dsimp only
  rw [if_neg fun hne => hne he, h0, hst]
  dsimp only
  rw [if_pos (by rw [hun, hseq]; simp)]
  generalize hv : u.setFabChan n (fun k => { k with unacked := none, sendSeq := k.sendSeq + 1 }) = v
  have hk : v.fab.chanOf n = some { k with unacked := none, sendSeq := k.sendSeq + 1 } := by
    rw [← hv]
    exact State.setFabChan_chanOf_same ((hu.chanOf n).trans h) (by exact fun _ => rfl)
  have hb : v.quiet := by
    rw [← hv]
    exact hu.quiet hq
  have hpr : v.print = s.print := by
    rw [← hv]
    exact hu.print
  cases hout : k.outQ with
  | nil =>
    have hp : v.fabPump n = v := by
      unfold State.fabPump
      rw [hk]
      dsimp only
      rw [hst, hout]
    refine ⟨v, _, ?_, hk, rfl, fun _ => rfl, fun _ _ h => absurd h (by simp), hpr⟩
    rw [hp]
    exact State.done_quiet _ hb
  | cons a as =>
    have hp : v.fabPump n = (v.setFabChan n (fun k => { k with unacked := some (a, 1), outQ := as })).fabSend 4 n
        [mailboxWord0 1 0 (k.sendSeq + 1) k.session, a] := by
      unfold State.fabPump
      rw [hk]
      dsimp only
      rw [hst, hout]
    have hm := State.fabSend_mail (s := v.setFabChan n (fun k => { k with unacked := some (a, 1), outQ := as })) 4 n
        [mailboxWord0 1 0 (k.sendSeq + 1) k.session, a]
    rw [hp]
    refine ⟨_, _, State.done_quiet _ (hm.quiet hb), (hm.chanOf n).trans (State.setFabChan_chanOf_same hk (by exact fun _ => rfl)), rfl,
      fun h => absurd h (by simp), fun b bs hb => ?_, hm.print.trans hpr⟩
    rw [List.cons.injEq] at hb
    rw [hb.1, hb.2]
    exact ⟨rfl, rfl⟩

theorem execMailboxClose_ends (he : k.session = BitVec.ofNat 32 (bits w 63 32)) :
    ∃ t : State, execMailboxClose n w s = .next t ∧ t.fab.chanOf n = none ∧ t.print = s.print := by
  have hu := State.takeFrame_mail (s := s) 4 [w, 0]
  unfold execMailboxClose
  generalize s.takeFrame 4 [w, 0] = u at hu ⊢
  dsimp only
  rw [hu.chanOf, h]
  dsimp only
  rw [if_neg fun hne => hne he]
  have hm := State.mailAck_mail (s := u.closeChan n) n 0 (BitVec.ofNat 8 (bits w 15 8)) (BitVec.ofNat 32 (bits w 63 32))
  exact ⟨_, rfl, State.settle_gone ((hm.chanOf n).trans (State.closeChan_gone n)), (State.settle_print _).trans (hm.print.trans ((State.closeChan_print ..).trans hu.print))⟩

/-- A word without its ack is sent again, up to ten times in all (R455). -/
theorem execMailboxResend_word {v : Word} {i : Nat} (hst : k.st = .openCh) (hun : k.unacked = some (v, i)) : ∃ t : State,
    execMailboxResend n s = .next t ∧ t.print = s.print ∧ (10 ≤ i → t.fab.chanOf n = none) ∧
    (i < 10 → ∃ x, t.fab.chanOf n = some x ∧ x.unacked = some (v, i + 1)) := by
  unfold execMailboxResend
  rw [h]
  dsimp only
  rw [hst, hun]
  dsimp only
  by_cases hi : 10 ≤ i
  · rw [if_pos hi]
    exact ⟨_, rfl, (State.settle_print _).trans (State.abortChan_print ..), fun _ => State.settle_gone (State.abortChan_gone ..),
      fun h => absurd hi (Nat.not_le.mpr h)⟩
  · rw [if_neg hi]
    have hk := State.setFabChan_chanOf_same h (f := fun k => { k with unacked := some (v, i + 1) }) fun _ => rfl
    have hm := State.fabSend_mail (s := s.setFabChan n (fun k => { k with unacked := some (v, i + 1) })) 4 n [mailboxWord0 1 0 k.sendSeq k.session, v]
    exact ⟨_, rfl, (State.settle_print _).trans hm.print, fun h => absurd h hi, fun _ => State.settle_awaits ⟨_, (hm.chanOf n).trans hk, rfl⟩⟩

theorem execMailboxResend_open (hst : k.st = .opening) : ∃ t : State, execMailboxResend n s = .next t ∧ t.print = s.print ∧
    (10 ≤ k.openSends → t.fab.chanOf n = none) ∧ (k.openSends < 10 → ∃ x, t.fab.chanOf n = some x ∧ x.openSends = k.openSends + 1) := by
  unfold execMailboxResend
  rw [h]
  dsimp only
  rw [hst]
  dsimp only
  by_cases hi : 10 ≤ k.openSends
  · rw [if_pos hi]
    exact ⟨_, rfl, (State.settle_print _).trans (State.abortChan_print ..), fun _ => State.settle_gone (State.abortChan_gone ..),
      fun h => absurd hi (Nat.not_le.mpr h)⟩
  · rw [if_neg hi]
    have hk := State.setFabChan_chanOf_same h (f := fun k => { k with openSends := k.openSends + 1 }) fun _ => rfl
    have hm := State.fabSend_mail (s := s.setFabChan n (fun k => { k with openSends := k.openSends + 1 })) 4 n [mailboxWord0 0 0 0 k.session, 0]
    obtain ⟨x, hx, hc⟩ := State.settle_chan ((hm.chanOf n).trans hk)
    simp only [FabChannel.core, Prod.mk.injEq] at hc
    exact ⟨_, rfl, (State.settle_print _).trans hm.print, fun h => absurd h hi, fun _ => ⟨x, hx, hc.2.2.2.2.2.1⟩⟩

theorem execChannelIdle_ends : ∃ t : State, execChannelIdle n s = .next t ∧ t.fab.chanOf n = none ∧ t.print = s.print := by
  unfold execChannelIdle
  rw [h]
  exact ⟨_, rfl, State.settle_gone (State.closeChan_gone n), (State.settle_print _).trans (State.closeChan_print ..)⟩

end Known

/-! ### MAILBOX_WORD (R455, R532 to R534) -/

/-- A word of no channel here, of another session, or one that repeats the last is acknowledged and delivered to nobody. -/
theorem execMailboxWord_refused {n : NodeNo} {a b : Word} (hq : s.quiet)
    (h : ∀ k, s.fab.chanOf n = some k → k.session ≠ BitVec.ofNat 32 (bits a 63 32) ∨ k.recvSeq = some (BitVec.ofNat 8 (bits a 15 8))) :
    ∃ t : State, execMailboxWord n a b s = .next t ∧ t.fab.channels = s.fab.channels ∧ t.print = s.print := by
  have hu := State.takeFrame_mail (s := s) 4 [a, b]
  have hend (st : Nat) (seq : Byte) (v : BitVec 32) (u : State) (hu : s.MailSame u) :
      ∃ t : State, (u.mailAck n st seq v).done = .next t ∧ t.fab.channels = s.fab.channels ∧ t.print = s.print := by
    have hm := hu.trans (State.mailAck_mail n st seq v)
    exact ⟨_, State.done_quiet _ (hm.quiet hq), hm.channels, hm.print⟩
  unfold execMailboxWord
  generalize s.takeFrame 4 [a, b] = u at hu ⊢
  dsimp only
  rw [hu.chanOf]
  cases hk : s.fab.chanOf n with
  | none => exact hend _ _ _ u hu
  | some k =>
    dsimp only
    by_cases hs : k.session ≠ BitVec.ofNat 32 (bits a 63 32)
    · rw [if_pos hs]
      exact hend _ _ _ u hu
    · rw [if_neg hs, if_pos ((h k hk).resolve_left hs)]
      exact hend _ _ _ u hu

theorem takenOf_opcode (b : Word) : (takenOf b).opcode.toNat = bits b 63 56 := by
  show (BitVec.ofNat 8 (bits b 63 56)).toNat = bits b 63 56
  rw [BitVec.toNat_ofNat]
  exact Nat.mod_eq_of_lt (Nat.mod_lt _ (by decide))

/-- A command word in its turn enters the channel's storage. -/
theorem execMailboxWord_taken {n : NodeNo} {a b : Word} {k : FabChannel} (h : s.fab.chanOf n = some k) (he : k.session = BitVec.ofNat 32 (bits a 63 32))
    (hr : k.recvSeq = some (BitVec.ofNat 8 (bits a 15 8) - 1) ∨ k.recvSeq = none) (hp : k.posts = []) (hb : bitAt b 50 = false)
    (ho : bits b 63 56 ∈ assignedOpcodes) (hl : k.taken.length + k.running.length < 32) :
    ∃ (t : State) (x : FabChannel), execMailboxWord n a b s = .next t ∧ t.fab.chanOf n = some x ∧ x.recvSeq = some (BitVec.ofNat 8 (bits a 15 8)) ∧
      x.taken = k.taken ++ [takenOf b] ∧ t.print = s.print := by
  have hu := State.takeFrame_mail (s := s) 4 [a, b]
  unfold execMailboxWord
  generalize s.takeFrame 4 [a, b] = u at hu ⊢
  dsimp only
  generalize (BitVec.ofNat 8 (bits a 15 8) : Byte) = seq at hr ⊢
  rw [hu.chanOf, h]
  dsimp only
  have hne : ¬ k.recvSeq = some seq := by
    rcases hr with hr | hr
    · rw [hr, Option.some.injEq]
      bv_omega
    · rw [hr]
      simp
  have hany : ¬(k.recvSeq.any (fun r => r + 1 != seq)) = true := by
    rcases hr with hr | hr
    · rw [hr]
      simp
    · rw [hr]
      simp
  rw [if_neg fun hx => hx he, if_neg hne, if_neg hany]
  generalize hv : (u.setFabChan n (fun k => { k with recvSeq := some seq })).mailAck n 0 seq (BitVec.ofNat 32 (bits a 63 32)) = v
  have hm := State.mailAck_mail (s := u.setFabChan n (fun k => { k with recvSeq := some seq })) n 0 seq (BitVec.ofNat 32 (bits a 63 32))
  rw [hv] at hm
  have hk : v.fab.chanOf n = some { k with recvSeq := some seq } :=
    (hm.chanOf n).trans (State.setFabChan_chanOf_same ((hu.chanOf n).trans h) (by exact fun _ => rfl))
  have hd : v.deliverWord n k b = v.setFabChan n (fun k => { k with taken := k.taken ++ [takenOf b] }) := by
    unfold State.deliverWord
    dsimp only
    rw [hp, List.find?_nil]
    dsimp only
    rw [if_neg (by rw [hb]; decide), if_neg (Nat.not_le.mpr hl), if_neg]
    rw [takenOf_opcode]
    simpa using ho
  rw [hd]
  obtain ⟨x, hx, hc⟩ := State.settle_chan (State.setFabChan_chanOf_same hk (f := fun k => { k with taken := k.taken ++ [takenOf b] }) fun _ => rfl)
  simp only [FabChannel.core, Prod.mk.injEq] at hc
  obtain ⟨-, -, -, -, h1, -, h2, -⟩ := hc
  exact ⟨_, x, rfl, hx, h1, h2, (State.settle_print _).trans (hm.print.trans hu.print)⟩

/-! ### PEER_POST and PEER_CLOSE (R455, R545, R550) -/

/-- A command with a docket does not come from a fabric channel (R536 step 6, log 29). -/
theorem Runs.docket_host {op : Byte} {sec : Bool} (h : Runs s op true sec c) (n : NodeNo) (v : BitVec 32) : c.origin ≠ .peer n v := by
  intro ho
  have ha := h.admitted
  unfold State.precheck at ha
  rw [ho] at ha
  dsimp only at ha
  revert ha
  repeat' split
  all_goals simp [resp] at *

theorem State.start_fabChannels {op : Byte} {sec : Bool} (h : Runs s op true sec c) : (s.start c).fab = s.fab := by
  unfold State.start
  split
  · rfl
  · next n v ho => exact absurd ho (h.docket_host n v)
  · rfl

/-- A word posted on a channel stands there as outstanding (R550). -/
theorem State.postPeer_posts {n : NodeNo} {k : FabChannel} (h : s.fab.chanOf n = some k) (op : Byte) (arg : BitVec 48) (asker : Option Cmd)
    (slot : Option Nat) : ∃ x, (s.postPeer n op arg asker slot).fab.chanOf n = some x ∧
      x.core = ({ k with posts := k.posts ++ [⟨k.freeTag, op, asker, slot⟩] } : FabChannel).core := by
  unfold State.postPeer
  rw [h]
  have hk := State.setFabChan_chanOf_same h (f := fun x => { x with nextTag := k.freeTag + 1, posts := x.posts ++ [⟨k.freeTag, op, asker, slot⟩] }) fun _ => rfl
  obtain ⟨x, hx, hc⟩ := FabPart.chan_some (State.pushFab_fabCores _ n [word [arg.toNat, fld 51 5 k.freeTag.toNat, fld 56 8 op.toNat]]) hk
  exact ⟨x, hx, hc⟩

theorem State.settle_chan_core {n : NodeNo} {k : FabChannel} (h : ∃ x, s.fab.chanOf n = some x ∧ x.core = k.core) :
    ∃ x, s.settle.fab.chanOf n = some x ∧ x.core = k.core := by
  obtain ⟨x, hx, hc⟩ := h
  obtain ⟨y, hy, hc'⟩ := State.settle_chan hx
  exact ⟨y, hy, hc'.trans hc⟩

/-- A channel opened from here (R454, R455). -/
def openingChannel (n : NodeNo) (v : BitVec 32) : FabChannel :=
  { peer := n, session := v, st := .opening, sendSeq := 0, recvSeq := none, unacked := none, openSends := 1, outQ := [], taken := [], running := []
    mask := 0, dropped := 0, posts := [], nextTag := 0 }

theorem openingChannel_tag (n : NodeNo) (v : BitVec 32) : (openingChannel n v).freeTag = 0 := by
  have h : (List.range 32).find? (fun _ => true) = some 0 := rfl
  exact (congrArg (fun o : Option Nat => match o with | some i => (0 : BitVec 5) + BitVec.ofNat 5 i | none => 0) h).trans rfl

theorem State.openChan_opens {n : NodeNo} (h : s.fab.chanOf n = none) (hl : s.fab.channels.length < 64) :
    (s.openChan n).fab.chanOf n = some (openingChannel n s.fab.nextSession) := by
  unfold State.openChan
  rw [if_neg (by rw [h]; simpa using hl)]
  refine (FabPart.chanOf_congr (State.fabSend_channels ..) n).trans ?_
  unfold FabPart.chanOf at h ⊢
  dsimp only
  rw [List.find?_append, h, Option.none_or]
  exact List.find?_cons_of_pos (by exact beq_self_eq_true n)

theorem State.openChan_same {n : NodeNo} {k : FabChannel} (h : s.fab.chanOf n = some k) : s.openChan n = s := if_pos (.inl (by rw [h]; rfl))

theorem State.peerCheck_passes {n : NodeNo} (hr : s.fab.reaches n = true) (h : s.fab.chanOf n = none → s.fab.channels.length < 64) :
    s.peerCheck n = none := by
  unfold State.peerCheck
  rw [if_neg (by rw [hr]; decide), if_neg]
  rintro ⟨h1, h2⟩
  exact absurd (h (Option.isNone_iff_eq_none.mp h1)) (Nat.not_lt.mpr h2)

section PeerPost

variable (hr : Runs s 0x71 true false c)
include hr

theorem execPeerPost_bad (h : bitAt (c.dw 1) 48 = true ∨ bufferBad (c.dw 2) (c.dw 3) = true) :
    execPeerPost c s = .next ((s.start c).reply c 0x71 .argBad 0) :=
  command_replyAtStart (f := cmdPeerPost) rfl hr (if_pos (by simpa using h))

/-- With its words sound, PEER_POST is refused as the node and the channels are (R550). -/
theorem execPeerPost_refused (h : ¬(bitAt (c.dw 1) 48 = true ∨ bufferBad (c.dw 2) (c.dw 3) = true)) {st : Code} {r : BitVec 40}
    (hc : s.peerCheck (BitVec.ofNat 12 (bits (c.dw 0) 11 0)) = some (st, r)) : execPeerPost c s = .next ((s.start c).reply c 0x71 st r) := by
  refine command_replyAtStart (f := cmdPeerPost) rfl hr ?_
  have hc' : (s.start c).peerCheck (BitVec.ofNat 12 (bits (c.dw 0) 11 0)) = some (st, r) := by
    unfold State.peerCheck at hc ⊢
    rw [State.start_fabChannels hr]
    exact hc
  unfold cmdPeerPost
  dsimp only
  rw [if_neg (by simpa using h), hc']

/-- PEER_POST posts its word on the channel with the node, opened for it where there is none (R550). -/
theorem execPeerPost_posts (h : ¬(bitAt (c.dw 1) 48 = true ∨ bufferBad (c.dw 2) (c.dw 3) = true))
    (hc : s.peerCheck (BitVec.ofNat 12 (bits (c.dw 0) 11 0)) = none) {k : FabChannel}
    (hk : ((s.start c).openChan (BitVec.ofNat 12 (bits (c.dw 0) 11 0))).fab.chanOf (BitVec.ofNat 12 (bits (c.dw 0) 11 0)) = some k) :
    ∃ (t : State) (x : FabChannel), execPeerPost c s = .next t ∧ t.fab.chanOf (BitVec.ofNat 12 (bits (c.dw 0) 11 0)) = some x ∧
      x.core = ({ k with posts := k.posts ++ [⟨k.freeTag, BitVec.ofNat 8 (bits (c.dw 1) 63 56), some c, none⟩] } : FabChannel).core ∧ t.print = s.print := by
  have hc' : (s.start c).peerCheck (BitVec.ofNat 12 (bits (c.dw 0) 11 0)) = none := by
    unfold State.peerCheck at hc ⊢
    rw [State.start_fabChannels hr]
    exact hc
  have hf : cmdPeerPost c (s.begun 0x71 c) = (((s.start c).openChan (BitVec.ofNat 12 (bits (c.dw 0) 11 0))).postPeer (BitVec.ofNat 12 (bits (c.dw 0) 11 0))
      (BitVec.ofNat 8 (bits (c.dw 1) 63 56)) (BitVec.ofNat 48 (bits (c.dw 1) 47 0)) (some c) none, none) := by
    rw [s.begun_other c rfl]
    unfold cmdPeerPost
    dsimp only
    rw [if_neg (by simpa using h), hc']
  obtain ⟨x, hx, hcore⟩ := State.settle_chan_core (State.postPeer_posts hk (BitVec.ofNat 8 (bits (c.dw 1) 63 56)) (BitVec.ofNat 48 (bits (c.dw 1) 47 0)) (some c) none)
  refine ⟨_, x, command_waits s c hr hf, hx, hcore, ?_⟩
  rw [State.settle_print, State.postPeer_print, State.openChan_print, State.start_print]

end PeerPost

/-- PEER_CLOSE of a channel (R455). -/
theorem execPeerClose_closes (hr : Runs s 0x72 false false c) {k : FabChannel} (hk : s.fab.chanOf (BitVec.ofNat 12 (c.argBits 11 0)) = some k) :
    ∃ u : State, execPeerClose c s = .next (u.reply c 0x72 .ok 0) ∧ u.fab.chanOf (BitVec.ofNat 12 (c.argBits 11 0)) = none ∧ u.print = s.print := by
  obtain ⟨f, -, hf⟩ := State.start_chanOf (s := s) (c := c) (BitVec.ofNat 12 (c.argBits 11 0))
  rw [hk, Option.map_some] at hf
  have hm := State.fabSend_mail (s := (s.start c).closeChan (BitVec.ofNat 12 (c.argBits 11 0))) 4 (BitVec.ofNat 12 (c.argBits 11 0))
    [mailboxWord0 3 0 0 (f k).session, 0]
  refine ⟨_, command_replyAtStart (f := cmdPeerClose) rfl hr ?_, (hm.chanOf _).trans (State.closeChan_gone _), ?_⟩
  · unfold cmdPeerClose
    dsimp only
    rw [hf]
    rfl
  · rw [hm.print, State.closeChan_print, State.start_print]

/-! ### O43 -/

/-- Settles O43: each row of R455, and the two peer commands, by its own lemma. -/
theorem fabricChannelsAndPeerCommands : Obligations.FabricChannelsAndPeerCommands := by
  unfold Obligations.FabricChannelsAndPeerCommands
  refine ⟨⟨fun s n w hq h => execMailboxOpen_fresh hq h, fun s n w k h => ⟨fun hst hn hq => (execMailboxOpen_opening h hst).1 hn hq,
    fun hst hn => (execMailboxOpen_opening h hst).2 hn, fun hq hst he => (execMailboxOpen_open h hst).1 hq he, fun hst hne => (execMailboxOpen_open h hst).2 hne⟩,
    fun s n a b => ⟨fun hq h => execMailboxWord_refused hq h, fun k h he hr hp hb ho hl => execMailboxWord_taken h he hr hp hb ho hl⟩,
    fun s n w k h he => ⟨fun hst => execMailboxAck_ends h he hst, fun hq h0 hst hun hseq => execMailboxAck_word h he hq h0 hst hun hseq, execMailboxClose_ends h he⟩,
    fun s n k h => ⟨fun hst hun hq => ?_, fun v i hst hun => execMailboxResend_word h hst hun, fun hst => execMailboxResend_open h hst, execChannelIdle_ends h⟩,
    fun s n hq h => ⟨?_, ?_⟩⟩, fun s c hr => ⟨fun h => execPeerPost_bad hr h, fun h hre => ?_, fun h hre hk hl => ?_, fun h hre k hk => ?_, fun h hre hk hl => ?_⟩,
    fun s c hr => ⟨fun hk => ?_, fun k hk => execPeerClose_closes hr hk⟩, fun s n a b => ?_⟩
  · show execMailboxResend n s = _
    unfold execMailboxResend
    rw [h]
    dsimp only
    rw [hst, hun]
    exact s.done_quiet hq
  · show execMailboxResend n s = _
    unfold execMailboxResend
    rw [h]
    exact s.done_quiet hq
  · show execChannelIdle n s = _
    unfold execChannelIdle
    rw [h]
    exact s.done_quiet hq
  · exact execPeerPost_refused hr h (if_pos (by rw [hre]; rfl))
  · exact execPeerPost_refused hr h ((if_neg (by rw [hre]; decide)).trans (if_pos ⟨by rw [hk]; rfl, hl⟩))
  · have hk' : (s.start c).fab.chanOf (BitVec.ofNat 12 (bits (c.dw 0) 11 0)) = some k := by
      rw [State.start_fabChannels hr]
      exact hk
    obtain ⟨t, x, ht, hx, hcore, hp⟩ := execPeerPost_posts hr h (State.peerCheck_passes hre fun hn => absurd (hn.symm.trans hk) (by simp)) (k := k)
      (by rw [State.openChan_same hk']; exact hk')
    simp only [FabChannel.core, Prod.mk.injEq] at hcore
    exact ⟨t, x, ht, hx, hcore.2.2.2.2.2.2.2, hp⟩
  · have ho := State.openChan_opens (s := s.start c) (n := BitVec.ofNat 12 (bits (c.dw 0) 11 0)) (by rw [State.start_fabChannels hr]; exact hk)
      (by rw [State.start_fabChannels hr]; exact hl)
    rw [State.start_fabChannels hr] at ho
    obtain ⟨t, x, ht, hx, hcore, hp⟩ := execPeerPost_posts hr h (State.peerCheck_passes hre fun _ => hl) ho
    rw [openingChannel_tag] at hcore
    simp only [FabChannel.core, Prod.mk.injEq] at hcore
    obtain ⟨-, h1, h2, -, -, -, -, h3⟩ := hcore
    exact ⟨t, x, ht, hx, h2, h1, h3, hp⟩
  · refine command_replyAtStart (f := cmdPeerClose) rfl hr ?_
    obtain ⟨f, -, hf⟩ := State.start_chanOf (s := s) (c := c) (BitVec.ofNat 12 (c.argBits 11 0))
    rw [hk, Option.map_none] at hf
    unfold cmdPeerClose
    dsimp only
    rw [hf]
    rfl
  · refine ⟨_, rfl, ?_, ?_, ?_, ?_⟩
    · rw [State.settle_enc, State.raiseF_enc, State.takeFrame_enc]
    · rw [State.settle_sluice, State.raiseF_sluice, State.takeFrame_sluice]
    · rw [State.settle_print, State.raiseF_print, State.takeFrame_print]
    · rw [State.settle_gov, State.raiseF_gov, State.takeFrame_gov]

end Sys2Proof.Machine
end

section
/-!
SUPPORT. CLAIM_GRANT, and SWAP with the ditch-rider's decision (R465 to R467, R479 to R482).
-/

namespace Sys2Proof.Machine

variable {s : State} {c : Cmd}

/-! ### CLAIM_GRANT -/

theorem State.grantReason_start (b : Bool) (claim : BitVec 32) (issuer : NodeNo) : (s.start c).grantReason b claim issuer = s.grantReason b claim issuer := by
  unfold State.grantReason
  rw [State.start_pair, State.start_sec]

/-- A grant that fails no check has a claim above the highest known (R465 step 4). -/
theorem State.grantReason_higher {b : Bool} {claim : BitVec 32} {issuer : NodeNo} (h : s.grantReason b claim issuer = none) : s.pair.highest < claim := by
  by_contra hn
  unfold State.grantReason at h
  extract_lets rider at h
  split at h
  · exact absurd h (by simp)
  · split at h
    · exact absurd h (by simp)
    · split at h
      · exact absurd h (by simp)
      · rw [if_pos (BitVec.not_lt.mp hn)] at h
        exact absurd h (by simp)

theorem cmdClaimGrant_rejects {n : Nat} (h1 : bits (c.dw 0) 3 0 = 1)
    (hr : s.grantReason true (BitVec.ofNat 32 (bits (c.dw 1) 31 0)) (BitVec.ofNat 12 (bits (c.dw 2) 11 0)) = some n) :
    cmdClaimGrant c s = (s.rejectGrant n (BitVec.ofNat 12 (bits (c.dw 2) 11 0)),
      resp .claimRejected (n + fld 4 12 (BitVec.ofNat 12 (bits (c.dw 2) 11 0) : NodeNo).toNat)) := by
  unfold cmdClaimGrant
  dsimp only
  rw [if_neg fun h => h h1, hr]

theorem cmdClaimGrant_passes (h1 : bits (c.dw 0) 3 0 = 1)
    (hr : s.grantReason true (BitVec.ofNat 32 (bits (c.dw 1) 31 0)) (BitVec.ofNat 12 (bits (c.dw 2) 11 0)) = none) :
    cmdClaimGrant c s = (if bitAt (c.dw 0) 4 == s.pair.unitB
      then (s.sendTagged 1 s.pair.partner [c.dw 0, c.dw 1, c.dw 2]).takeover (BitVec.ofNat 32 (bits (c.dw 1) 31 0)) (BitVec.ofNat 32 (bits (c.dw 1) 63 32))
      else (s.sendTagged 1 s.pair.partner [c.dw 0, c.dw 1, c.dw 2]).partnerGrant (BitVec.ofNat 32 (bits (c.dw 1) 31 0)),
      resp .ok (BitVec.ofNat 32 (bits (c.dw 1) 31 0) : BitVec 32).toNat) := by
  unfold cmdClaimGrant
  dsimp only
  rw [if_neg fun h => h h1, hr]

/-- A unit that takes a claim above the highest known (R466). -/
theorem State.takeover_takes {claim prev : BitVec 32} (hc : s.pair.highest < claim) : (s.takeover claim prev).pair.st = .active ∧
    (s.takeover claim prev).pair.claim = claim ∧ (s.takeover claim prev).pair.highest = claim ∧ (s.takeover claim prev).heads.claim = claim := by
  obtain ⟨t, ht, h1, h2, h3, h4, -⟩ := takeover_done (prev := prev) hc
  cases ht
  rw [State.settle_pair] at h1 h2 h3
  rw [State.settle_heads] at h4
  exact ⟨h1, h2, h3, h4⟩

/-- The active unit with a lower claim steps down (R467). -/
theorem State.partnerGrant_demotes {claim : BitVec 32} (ha : s.pair.st = .active) (hc : s.pair.claim < claim) :
    (s.partnerGrant claim).pair.st = .sync ∧ (s.partnerGrant claim).pair.claim = 0 := by
  obtain ⟨t, ht, h1, h2, -⟩ := partnerGrant_done ha hc
  cases ht
  rw [State.settle_pair] at h1 h2
  exact ⟨h1, h2⟩

/-! ### The ditch-rider's decision (R479, R480) -/

/-- A swap always names a unit and a reason. -/
theorem RiderPair.decide_swap (r : RiderPair) (raw : Word) : ∃ (b : Bool) (reason : Nat), r.decide_ raw true = some (b, reason) := by
  have h : (r.decide_ raw true).isSome = true := by
    unfold RiderPair.decide_
    dsimp only
    repeat' split
    all_goals simp_all
  obtain ⟨⟨b, reason⟩, hd⟩ := Option.isSome_iff_exists.mp h
  exact ⟨b, reason, hd⟩

section Active

variable {r : RiderPair} {raw : Word} {swap a : Bool} (ha : r.active = some a)
include ha

theorem RiderPair.decide_silent (hs : r.silent raw a = true) : r.decide_ raw swap = some (!a, 1) := by
  unfold RiderPair.decide_
  rw [ha]
  exact if_pos hs

theorem RiderPair.decide_barSilent {m : BeatRec} (hs : r.silent raw a = false) (hm : r.beatOf (!a) = some m) (hb : m.barSilent = true) :
    r.decide_ raw swap = some (!a, 2) := by
  unfold RiderPair.decide_
  rw [ha]
  dsimp only
  rw [if_neg (by rw [hs]; decide), hm]
  exact if_pos hb

theorem RiderPair.decide_fault {m : BeatRec} (hs : r.silent raw a = false) (hb : ∀ n, r.beatOf (!a) = some n → n.barSilent = false)
    (hm : r.beatOf a = some m) (hf : m.fault = true ∨ m.claim < r.topHighest) : r.decide_ raw swap = some (!a, 3) := by
  unfold RiderPair.decide_
  rw [ha]
  dsimp only
  rw [if_neg (by rw [hs]; decide), if_neg, hm]
  · exact if_pos (by simpa using hf)
  · cases hn : r.beatOf (!a) with
    | none => simp
    | some n => simpa using hb n hn

end Active

/-! ### SWAP -/

theorem State.setRider_get (i : Fin 8) (f : RiderPair → RiderPair) : (s.setRider i f).pair.riders[i] = f s.pair.riders[i] :=
  (upd_fin _ _ _ _).trans (if_pos rfl)

section Swap

variable {i : Fin 8} {b : Bool} {reason : Nat} (hd : s.pair.riders[i].decide_ s.time.raw true = some (b, reason))
include hd

/-- A grant still open for the unit stands (R481). -/
theorem State.riderDecides_open {claim prev : BitVec 32} (ho : s.pair.riders[i].open_ = some (b, claim, prev)) : s.riderDecides i true = s := by
  unfold State.riderDecides
  dsimp only
  rw [hd]
  dsimp only
  rw [ho]
  exact if_pos (by simp)

section NotOpen

variable (ho : ∀ o, s.pair.riders[i].open_ = some o → o.1 ≠ b)
include ho

theorem rider_notOpen : ¬(s.pair.riders[i].open_.any (fun o => o.1 == b)) = true := by
  cases h : s.pair.riders[i].open_ with
  | none => simp
  | some o => simpa using ho o h

/-- A grant above every claim reported and granted (R481). -/
theorem State.riderDecides_grants (hm : s.pair.riders[i].mayGrant s.time.raw b reason = true) :
    (s.riderDecides i true).pair.riders[i].granted =
      (if s.pair.riders[i].topHighest < s.pair.riders[i].granted then s.pair.riders[i].granted else s.pair.riders[i].topHighest) + 1 ∧
    (∃ prev, (s.riderDecides i true).pair.riders[i].open_ = some (b,
      (if s.pair.riders[i].topHighest < s.pair.riders[i].granted then s.pair.riders[i].granted else s.pair.riders[i].topHighest) + 1, prev)) ∧
    (s.riderDecides i true).print = s.print ∧ (s.riderDecides i true).pair.claim = s.pair.claim := by
  have hx : s.riderDecides i true = s.grantNow i b reason := by
    unfold State.riderDecides
    dsimp only
    rw [hd]
    dsimp only
    rw [if_neg (rider_notOpen hd ho), if_pos hm]
  rw [hx]
  unfold State.grantNow
  dsimp only
  rw [State.raiseF_pair, State.raiseF_print, State.sendGrant_pair, State.sendGrant_print, State.setRider_get]
  exact ⟨rfl, ⟨_, rfl⟩, rfl, rfl⟩

/-- A standby that is not ready gets no grant (R480). -/
theorem State.riderDecides_notReady (hm : s.pair.riders[i].mayGrant s.time.raw b reason = false) :
    (s.riderDecides i true).pair.riders[i] = { s.pair.riders[i] with notReady := true } ∧
    (s.riderDecides i true).print = s.print ∧ (s.riderDecides i true).pair.claim = s.pair.claim := by
  have hx : s.riderDecides i true = if s.pair.riders[i].notReady then s else
      (s.setRider i (fun r => { r with notReady := true })).raiseF .standbyNotReady [b2n b, fld 1 3 reason] := by
    unfold State.riderDecides
    dsimp only
    rw [hd]
    dsimp only
    rw [if_neg (rider_notOpen hd ho), if_neg (by rw [hm]; decide)]
  rw [hx]
  cases hn : s.pair.riders[i].notReady with
  | true =>
    rw [if_pos rfl]
    refine ⟨?_, rfl, rfl⟩
    rw [← hn]
  | false =>
    rw [if_neg (by decide), State.raiseF_pair, State.raiseF_print, State.setRider_get]
    exact ⟨rfl, rfl, rfl⟩

end NotOpen

end Swap

theorem cmdSwap_notFound (h : s.pair.riders[(Fin.ofNat 8 (c.argBits 2 0) : Fin 8)].used = false) : cmdSwap c s = (s, resp .notFound 0) :=
  if_pos (by rw [h]; rfl)

section SwapUsed

variable {b : Bool} {reason : Nat} (hu : s.pair.riders[(Fin.ofNat 8 (c.argBits 2 0) : Fin 8)].used = true)
  (hd : s.pair.riders[(Fin.ofNat 8 (c.argBits 2 0) : Fin 8)].decide_ s.time.raw true = some (b, reason))
include hu hd

/-- SWAP answers with the claim of the grant that stands open for the unit decided (R479). -/
theorem cmdSwap_granted {claim prev : BitVec 32} {t : State} (ht : s.riderDecides (Fin.ofNat 8 (c.argBits 2 0)) true = t)
    (ho : t.pair.riders[(Fin.ofNat 8 (c.argBits 2 0) : Fin 8)].open_ = some (b, claim, prev)) : cmdSwap c s = (t, resp .ok claim.toNat) := by
  unfold cmdSwap
  dsimp only
  rw [if_neg (by rw [hu]; decide), ht, ho, hd]
  exact if_pos rfl

theorem cmdSwap_refused {t : State} (ht : s.riderDecides (Fin.ofNat 8 (c.argBits 2 0)) true = t)
    (ho : ∀ o, t.pair.riders[(Fin.ofNat 8 (c.argBits 2 0) : Fin 8)].open_ = some o → o.1 ≠ b) :
    cmdSwap c s = (t, resp .standbyNotReady (b2n b + fld 1 3 reason)) := by
  unfold cmdSwap
  dsimp only
  rw [if_neg (by rw [hu]; decide), ht, hd]
  cases h : t.pair.riders[(Fin.ofNat 8 (c.argBits 2 0) : Fin 8)].open_ with
  | none => rfl
  | some o => exact if_neg (ho o h)

end SwapUsed

/-! ### O45 -/

/-- Settles O45: CLAIM_GRANT by the checks of R465, SWAP by the ditch-rider's decision. -/
theorem claimGrantAndSwap : Obligations.ClaimGrantAndSwap := by
  unfold Obligations.ClaimGrantAndSwap
  refine ⟨fun s c hr => ⟨fun h => ?_, fun h1 n hn => ?_, fun h1 hn => ?_⟩, fun s c hr => ⟨fun hu => ?_, fun hu => ?_⟩,
    fun r raw swap a ha => ⟨fun hs => RiderPair.decide_silent ha hs, fun m hs hm hb => RiderPair.decide_barSilent ha hs hm hb,
      fun m hs hb hm hf => RiderPair.decide_fault ha hs hb hm hf⟩⟩
  · exact command_replyAtStart (f := cmdClaimGrant) rfl hr (if_pos h)
  · refine ⟨_, command_replyAtStart (f := cmdClaimGrant) rfl hr (cmdClaimGrant_rejects h1 ((State.grantReason_start ..).trans hn)), ?_, ?_, ?_⟩
    · rw [State.rejectGrant_pair, State.start_pair]
    · rw [State.rejectGrant_print, State.start_print]
    · rw [State.rejectGrant_heads, State.start_heads]
  · have hn' := (State.grantReason_start (c := c) ..).trans hn
    have hc := State.grantReason_higher hn
    refine ⟨_, command_replyAtStart (f := cmdClaimGrant) rfl hr (cmdClaimGrant_passes h1 hn'), fun ho => ?_, fun ho ha hlt => ?_, fun ho ha => ?_⟩
    · rw [if_pos (by rw [State.start_pair, ho]; exact beq_self_eq_true _)]
      exact State.takeover_takes (by rw [State.sendTagged_pair, State.start_pair]; exact hc)
    · rw [if_neg (by rw [State.start_pair]; simpa using ho)]
      exact State.partnerGrant_demotes (by rw [State.sendTagged_pair, State.start_pair]; exact ha) (by rw [State.sendTagged_pair, State.start_pair]; exact hlt)
    · rw [if_neg (by rw [State.start_pair]; simpa using ho), State.partnerGrant_idle (by rw [State.sendTagged_pair, State.start_pair]; exact ha)]
      rw [State.sendTagged_pair, State.sendTagged_print, State.start_pair, State.start_print]
      exact ⟨rfl, rfl⟩
  · exact command_replyAtStart (f := cmdSwap) rfl hr (cmdSwap_notFound (by rw [State.start_pair]; exact hu))
  · obtain ⟨b, reason, hd⟩ := RiderPair.decide_swap s.pair.riders[(Fin.ofNat 8 (c.argBits 2 0) : Fin 8)] s.time.raw
    have hu' : (s.start c).pair.riders[(Fin.ofNat 8 (c.argBits 2 0) : Fin 8)].used = true := by
      rw [State.start_pair]
      exact hu
    have hd' : (s.start c).pair.riders[(Fin.ofNat 8 (c.argBits 2 0) : Fin 8)].decide_ (s.start c).time.raw true = some (b, reason) := by
      rw [State.start_pair, State.start_time]
      exact hd
    refine ⟨b, reason, hd, fun claim prev ho => ?_, fun ho hm => ?_, fun ho hm => ?_⟩
    · have ho' : (s.start c).pair.riders[(Fin.ofNat 8 (c.argBits 2 0) : Fin 8)].open_ = some (b, claim, prev) := by
        rw [State.start_pair]
        exact ho
      exact command_replyAtStart (f := cmdSwap) rfl hr (cmdSwap_granted hu' hd' (State.riderDecides_open hd' ho') ho')
    · have h := State.riderDecides_grants (s := s.start c) hd' (by rw [State.start_pair]; exact ho) (by rw [State.start_pair, State.start_time]; exact hm)
      rw [State.start_pair, State.start_print] at h
      obtain ⟨h1, ⟨prev, h2⟩, h3, h4⟩ := h
      exact ⟨_, command_replyAtStart (f := cmdSwap) rfl hr (cmdSwap_granted hu' hd' rfl h2), h1, ⟨prev, h2⟩, h3, h4⟩
    · have h := State.riderDecides_notReady (s := s.start c) hd' (by rw [State.start_pair]; exact ho) (by rw [State.start_pair, State.start_time]; exact hm)
      rw [State.start_pair, State.start_print] at h
      obtain ⟨h1, h3, h4⟩ := h
      exact ⟨_, command_replyAtStart (f := cmdSwap) rfl hr (cmdSwap_refused hu' hd' rfl (by rw [h1]; exact ho)), h1, h3, h4⟩

end Sys2Proof.Machine
end

section
/-!
SUPPORT. Heartbeats and health reports, at a partner and at the ditch-rider (R462, R470 to R473, R478 to R481, R487).
-/

namespace Sys2Proof.Machine

variable {s : State} {c : Cmd}

/-! ### The ditch-rider's pairs -/

/-- From s to t nothing of the pair and the print changes but one pair of the ditch-rider. -/
structure State.RiderMoves (s : State) (i : Fin 8) (t : State) : Prop where
  pair : ∃ rs, t.pair = { s.pair with riders := rs }
  others : ∀ j : Fin 8, j ≠ i → t.pair.riders[j] = s.pair.riders[j]
  print : t.print = s.print

theorem State.RiderMoves.of_eq {t : State} (i : Fin 8) (hq : t.pair = s.pair) (hp : t.print = s.print) : s.RiderMoves i t :=
  ⟨⟨_, hq⟩, fun _ _ => by rw [hq], hp⟩

theorem State.RiderMoves.trans {t u : State} {i : Fin 8} (h : s.RiderMoves i t) (g : t.RiderMoves i u) : s.RiderMoves i u := by
  obtain ⟨⟨_, h1⟩, h2, h3⟩ := h
  obtain ⟨⟨_, g1⟩, g2, g3⟩ := g
  exact ⟨⟨_, by rw [g1, h1]⟩, fun j hj => (g2 j hj).trans (h2 j hj), g3.trans h3⟩

theorem State.setRider_moves (i : Fin 8) (f : RiderPair → RiderPair) : s.RiderMoves i (s.setRider i f) :=
  ⟨⟨_, rfl⟩, fun j hj => (upd_fin _ _ _ _).trans (if_neg (Ne.symm hj)), rfl⟩

/-- What a decision of the ditch-rider leaves of the pair it is about: the units, their beats and their reports. -/
theorem State.riderDecides_moves (i : Fin 8) (swap : Bool) : s.RiderMoves i (s.riderDecides i swap) ∧
    ∃ g o n, (s.riderDecides i swap).pair.riders[i] = { s.pair.riders[i] with granted := g, open_ := o, notReady := n } := by
  unfold State.riderDecides
  dsimp only
  cases s.pair.riders[i].decide_ s.time.raw swap with
  | none => exact ⟨State.setRider_moves i _, _, _, _, State.setRider_get i _⟩
  | some d =>
    obtain ⟨b, reason⟩ := d
    dsimp only
    by_cases h1 : (s.pair.riders[i].open_.any (fun o => o.1 == b)) = true
    · rw [if_pos h1]
      exact ⟨.of_eq i rfl rfl, _, _, _, rfl⟩
    rw [if_neg h1]
    by_cases h2 : s.pair.riders[i].mayGrant s.time.raw b reason = true
    · rw [if_pos h2]
      unfold State.grantNow
      dsimp only
      generalize hu : s.setRider i _ = u
      have hm : s.RiderMoves i u ∧ ∃ g o n, u.pair.riders[i] = { s.pair.riders[i] with granted := g, open_ := o, notReady := n } := by
        rw [← hu, State.setRider_get]
        exact ⟨State.setRider_moves i _, _, _, _, rfl⟩
      rw [State.raiseF_pair, State.sendGrant_pair]
      exact ⟨hm.1.trans (.of_eq i ((State.raiseF_pair ..).trans (State.sendGrant_pair ..)) ((State.raiseF_print ..).trans (State.sendGrant_print ..))), hm.2⟩
    rw [if_neg h2]
    by_cases h3 : s.pair.riders[i].notReady = true
    · rw [if_pos h3]
      exact ⟨.of_eq i rfl rfl, _, _, _, rfl⟩
    · rw [if_neg h3]
      refine ⟨(State.setRider_moves i _).trans (.of_eq i (State.raiseF_pair ..) (State.raiseF_print ..)), ?_⟩
      rw [State.raiseF_pair, State.setRider_get]
      exact ⟨_, _, _, rfl⟩

/-- A beat with a number not seen is a unit's last beat (R471, R479). -/
theorem State.riderBeat_moves (i : Fin 8) (b : Bool) (m : BeatRec) : s.RiderMoves i (s.riderBeat i b m) ∧
    ((∀ x ∈ (if b then s.pair.riders[i].seqsB else s.pair.riders[i].seqsA), x ≠ m.seq) → (s.riderBeat i b m).pair.riders[i].beatOf b = some m) := by
  unfold State.riderBeat
  dsimp only
  by_cases hc : ((if s.pair.riders[i].beats m.at_ b = true then if b = true then s.pair.riders[i].seqsB else s.pair.riders[i].seqsA else []).contains m.seq) = true
  · rw [if_pos hc]
    refine ⟨.of_eq i rfl rfl, fun h => ?_⟩
    have hm := List.contains_iff_mem.mp hc
    split at hm
    · exact absurd rfl (h _ hm)
    · exact absurd hm List.not_mem_nil
  · rw [if_neg hc]
    generalize hr : (fun _ : RiderPair => _ : RiderPair → RiderPair) = f
    obtain ⟨hm, g, o, n, hd⟩ := State.riderDecides_moves (s := s.setRider i f) i false
    refine ⟨(State.setRider_moves i f).trans hm, fun _ => ?_⟩
    rw [hd, State.setRider_get, ← hr]
    cases b <;> rfl

/-- A health report is a unit's last (R473, R479). -/
theorem State.riderHealth_moves (i : Fin 8) (b : Bool) (h : HealthMsg) : s.RiderMoves i (s.riderHealth i b h) ∧
    (s.riderHealth i b h).pair.riders[i].healthOf b = some h := by
  unfold State.riderHealth
  obtain ⟨hm, g, o, n, hd⟩ := State.riderDecides_moves
    (s := s.setRider i (fun r => if b then { r with healthB := some h } else { r with healthA := some h })) i false
  refine ⟨(State.setRider_moves i _).trans hm, ?_⟩
  rw [hd, State.setRider_get]
  cases b <;> rfl

/-- The pairs of a list that a node belongs to take its frame. -/
def State.ridersTake (n : NodeNo) (f : State → Fin 8 → Bool → State) (l : List (Fin 8)) (s : State) : State :=
  l.foldl (fun (s : State) i => match s.pair.riders[i].unitAt n with | some b => f s i b | none => s) s

section Riders

variable {n : NodeNo} {f : State → Fin 8 → Bool → State} (hf : ∀ s i b, State.RiderMoves s i (f s i b))
include hf

theorem State.ridersTake_other (l : List (Fin 8)) (s : State) : (∃ rs, (State.ridersTake n f l s).pair = { s.pair with riders := rs }) ∧
    (State.ridersTake n f l s).print = s.print ∧ ∀ i : Fin 8, i ∉ l → (State.ridersTake n f l s).pair.riders[i] = s.pair.riders[i] := by
  induction l generalizing s with
  | nil => exact ⟨⟨_, rfl⟩, rfl, fun _ _ => rfl⟩
  | cons j l ih =>
    have hj : s.RiderMoves j (match s.pair.riders[j].unitAt n with | some b => f s j b | none => s) := by
      split
      · exact hf ..
      · exact .of_eq j rfl rfl
    obtain ⟨⟨r1, hp1⟩, ho, hpr⟩ := hj
    obtain ⟨⟨r2, hp2⟩, hpr2, hi⟩ := ih (match s.pair.riders[j].unitAt n with | some b => f s j b | none => s)
    refine ⟨⟨r2, hp2.trans (by rw [hp1])⟩, hpr2.trans hpr, fun i h => ?_⟩
    exact (hi i fun hm => h (List.mem_cons_of_mem j hm)).trans (ho i fun he => h (he ▸ List.mem_cons_self))

/-- A pair that a node belongs to takes its frame once, as it stood. -/
theorem State.ridersTake_mem (l : List (Fin 8)) (hn : l.Nodup) (s : State) (i : Fin 8) (h : i ∈ l) {b : Bool} (hb : s.pair.riders[i].unitAt n = some b) :
    ∃ u : State, u.pair.riders[i] = s.pair.riders[i] ∧ (State.ridersTake n f l s).pair.riders[i] = (f u i b).pair.riders[i] := by
  induction l generalizing s with
  | nil => exact absurd h List.not_mem_nil
  | cons j l ih =>
    obtain ⟨hj, hn⟩ := List.nodup_cons.mp hn
    by_cases hij : i = j
    · subst hij
      refine ⟨s, rfl, ((State.ridersTake_other hf l _).2.2 i hj).trans ?_⟩
      dsimp only
      rw [hb]
    · have ho : (match s.pair.riders[j].unitAt n with | some b => f s j b | none => s).pair.riders[i] = s.pair.riders[i] := by
        split
        · exact (hf ..).others i hij
        · rfl
      obtain ⟨u, hu, hr⟩ := ih hn (match s.pair.riders[j].unitAt n with | some b => f s j b | none => s) ((List.mem_cons.mp h).resolve_left hij)
        (by rw [ho]; exact hb)
      exact ⟨u, hu.trans ho, hr⟩

/-- What every pair of the ditch-rider takes from a node's frame. -/
theorem State.eachRider_takes (s : State) : (∃ rs, (s.eachRider n f).pair = { s.pair with riders := rs }) ∧ (s.eachRider n f).print = s.print ∧
    ∀ (i : Fin 8) (b : Bool), s.pair.riders[i].unitAt n = some b →
      ∃ u : State, u.pair.riders[i] = s.pair.riders[i] ∧ (s.eachRider n f).pair.riders[i] = (f u i b).pair.riders[i] := by
  have he : s.eachRider n f = State.ridersTake n f (List.finRange 8) s := rfl
  rw [he]
  obtain ⟨h1, h2, -⟩ := State.ridersTake_other (n := n) hf (List.finRange 8) s
  exact ⟨h1, h2, fun i b hb => State.ridersTake_mem hf _ (List.nodup_finRange 8) s i (List.mem_finRange i) hb⟩

end Riders

/-! ### The partner's beat (R462, R467, R471, R487) -/

theorem State.sawClaim_highest (v : BitVec 32) : (s.sawClaim v).pair.highest.toNat = max s.pair.highest.toNat v.toNat := by
  unfold State.sawClaim
  dsimp only
  split
  · next h => exact (Nat.max_eq_right (Nat.le_of_lt h)).symm
  · next h => exact (Nat.max_eq_left (Nat.not_lt.mp h)).symm

/-- The records that bring a partner into step move of the pair their numbers alone (R487). -/
theorem State.sendJoin_standing (j : PageId) : (s.sendJoin j).standing = ({ s with pair := { s.pair with joinDue := none } } : State).standing := by
  unfold State.sendJoin
  dsimp only
  rw [State.record_standing]
  refine (foldl_same State.standing _ (fun t b => State.record_standing ..) _ _).trans ?_
  refine (foldl_same State.standing _ (fun t q => ?_) _ _).trans ?_
  · split
    · exact State.record_standing ..
    · rfl
  have h1 : (s.print.queue.foldl (fun (s : State) q => if q.commitLine.isSome then
      s.record 3 (word [q.desc.id.toNat]) (match q.commitLine with | some n => BitVec.ofNat 64 n | none => s.free) else
      (s.record 3 (word [q.desc.id.toNat]) (match q.commitLine with | some n => BitVec.ofNat 64 n | none => s.free)).drew)
      { s with pair := { s.pair with joinDue := none } }).standing = ({ s with pair := { s.pair with joinDue := none } } : State).standing := by
    refine foldl_same State.standing _ (fun t q => ?_) _ _
    split
    · exact State.record_standing ..
    · rw [State.drew_standing, State.record_standing]
  split
  · split
    · rw [State.record_standing]
      exact h1
    · rw [State.record_standing, State.record_standing]
      exact h1
  · rw [State.record_standing]
    exact h1

/-- The active unit that answers a partner's beat moves of the pair only what joining needs, and the records sent. -/
theorem State.activeBeat_held (m : BeatRec) (before : Nat) : (s.activeBeat m before).print = s.print ∧
    ∃ j r, (s.activeBeat m before).pair.held = { s.pair.held with joinDue := j, resyncQ := r } := by
  refine ⟨State.activeBeat_print .., ?_⟩
  unfold State.activeBeat
  split
  · exact ⟨none, s.pair.resyncQ, rfl⟩
  · split
    · unfold State.startResync
      split
      · dsimp only
        rw [State.raiseF_pair]
        exact ⟨_, _, rfl⟩
      · exact ⟨_, _, rfl⟩
    · unfold State.joinCheck
      split
      · exact ⟨_, _, rfl⟩
      · split
        · split
          · next j _ =>
            have h : (s.sendJoin j).standing = ({ s with pair := { s.pair with joinDue := none } } : State).standing := by
              exact State.sendJoin_standing j
            have hh := congrArg Prod.fst h
            exact ⟨none, s.pair.resyncQ, hh⟩
          · exact ⟨_, _, rfl⟩
        · exact ⟨_, _, rfl⟩

/-- A standby's part in a beat: in IDLE and DIVERGED it enters SYNC with an active partner (R487). -/
theorem State.standbyBeat_pair (m : BeatRec) (sched : BitVec 24) (ha : s.pair.st ≠ .active) : (s.standbyBeat m sched).print = s.print ∧
    (s.standbyBeat m sched).pair.st = (if (s.pair.st = .idle ∨ s.pair.st = .diverged) ∧ m.st = 1 then .sync else s.pair.st) ∧
    (s.standbyBeat m sched).pair.partnerAt = s.pair.partnerAt ∧ (s.standbyBeat m sched).pair.partnerSeen = s.pair.partnerSeen ∧
    (s.standbyBeat m sched).pair.lostTold = s.pair.lostTold ∧ (s.standbyBeat m sched).pair.partnerSt = s.pair.partnerSt ∧
    (s.standbyBeat m sched).pair.partnerClaim = s.pair.partnerClaim ∧ (s.standbyBeat m sched).pair.highest = s.pair.highest ∧
    (s.standbyBeat m sched).pair.riders = s.pair.riders := by
  refine ⟨State.standbyBeat_print .., ?_⟩
  unfold State.standbyBeat
  by_cases hm : m.st ≠ 1
  · rw [if_pos hm, if_neg fun h => hm h.2]
    exact ⟨rfl, rfl, rfl, rfl, rfl, rfl, rfl, rfl⟩
  rw [if_neg hm]
  have hm := not_not.mp hm
  have hin (h : s.pair.st = .idle ∨ s.pair.st = .diverged) : ∃ n,
      ({ s with pair := { s.pair.inSync false with schedSeq := sched, schedSeen := true } } : State).beat.pair =
        { s.pair.inSync false with schedSeq := sched, schedSeen := true, hbSeq := n } := State.beat_pair _
  cases hst : s.pair.st with
  | idle =>
    obtain ⟨n, hn⟩ := hin (.inl hst)
    dsimp only
    rw [hn, if_pos ⟨.inl rfl, hm⟩]
    exact ⟨rfl, rfl, rfl, rfl, rfl, rfl, rfl, rfl⟩
  | diverged =>
    obtain ⟨n, hn⟩ := hin (.inr hst)
    dsimp only
    rw [hn, if_pos ⟨.inr rfl, hm⟩]
    exact ⟨rfl, rfl, rfl, rfl, rfl, rfl, rfl, rfl⟩
  | active => exact absurd hst ha
  | sync =>
    rw [if_neg (c := (PairSt.sync = .idle ∨ PairSt.sync = .diverged) ∧ m.st = 1) (by simp)]
    dsimp only
    split
    · exact ⟨hst, rfl, rfl, rfl, rfl, rfl, rfl, rfl⟩
    · exact ⟨hst, rfl, rfl, rfl, rfl, rfl, rfl, rfl⟩
  | ready =>
    rw [if_neg (c := (PairSt.ready = .idle ∨ PairSt.ready = .diverged) ∧ m.st = 1) (by simp)]
    dsimp only
    split
    · exact ⟨hst, rfl, rfl, rfl, rfl, rfl, rfl, rfl⟩
    · exact ⟨hst, rfl, rfl, rfl, rfl, rfl, rfl, rfl⟩

theorem State.releaseCheck_pair : ∃ r, s.releaseCheck.pair = { s.pair with releasing := r } := by
  unfold State.releaseCheck
  split
  · split
    · exact ⟨none, State.announce_pair ..⟩
    · exact ⟨s.pair.releasing, rfl⟩
  · exact ⟨s.pair.releasing, rfl⟩

/-- A unit that steps down, with its release judged (R467). -/
theorem State.demote_pair (v : BitVec 32) : (∃ n r, (s.demote v).pair = { s.pair.demoted v with hbSeq := n, releasing := r }) ∧
    (s.demote v).print = { s.print with sched := [] } := by
  obtain ⟨n, hn⟩ := s.stepsDown_pair v
  obtain ⟨r, hr⟩ := State.releaseCheck_pair (s := s.stepsDown v)
  refine ⟨⟨n, r, ?_⟩, ?_⟩
  · rw [State.demote_eq, hr, hn]
  · rw [State.demote_eq, State.releaseCheck_print, State.stepsDown_print]

/-- A unit that has seen a beat of its partner (R462, R471). -/
def State.beatSeen (s : State) (m : BeatRec) (seqs : List (BitVec 32)) : State :=
  (({ s with pair := { s.pair with partnerAt := some m.at_, partnerSeen := true, lostTold := false, partnerSt := m.st
                                   partnerClaim := m.claim, partnerSeqs := seqWindow m.seq seqs } }).sawClaim m.claim).sawClaim m.highest

theorem State.beatSeen_highest (m : BeatRec) (seqs : List (BitVec 32)) :
    (s.beatSeen m seqs).pair.highest.toNat = max (max s.pair.highest.toNat m.claim.toNat) m.highest.toNat := by
  unfold State.beatSeen
  rw [State.sawClaim_highest, State.sawClaim_highest]

/-- What every beat not seen before leaves of the pair, whatever the unit's state (R462, R471). -/
structure PairPart.BeatTaken (q p : PairPart) (m : BeatRec) : Prop where
  at_ : p.partnerAt = some m.at_
  seen : p.partnerSeen = true
  told : p.lostTold = false
  st : p.partnerSt = m.st
  claim : p.partnerClaim = m.claim
  highest : p.highest.toNat = max (max q.highest.toNat m.claim.toNat) m.highest.toNat
  riders : p.riders = q.riders

/-- The HB_SEQs with which a beat is compared are among those kept (R471). -/
theorem partnerSeqs_subset {m : BeatRec} (h : ∀ x ∈ s.pair.partnerSeqs, x ≠ m.seq) :
    ¬((match s.pair.partnerAt with | some t => if tooOld m.at_ t s.pair.timeoutPs then [] else s.pair.partnerSeqs | none => []).contains m.seq) = true := by
  intro hc
  have hm := List.contains_iff_mem.mp hc
  split at hm
  · split at hm
    · exact absurd hm List.not_mem_nil
    · exact h _ hm rfl
  · exact absurd hm List.not_mem_nil

/-- A beat of the partner not seen before (R462, R467, R471, R487). -/
theorem State.partnerBeat_new {m : BeatRec} (sched : BitVec 24)
    (h : ¬((match s.pair.partnerAt with | some t => if tooOld m.at_ t s.pair.timeoutPs then [] else s.pair.partnerSeqs | none => []).contains m.seq) = true) :
    s.pair.BeatTaken (s.partnerBeat m sched).pair m ∧
    (s.pair.st = .active → s.pair.claim < m.claim → (s.partnerBeat m sched).pair.st = .sync ∧ (s.partnerBeat m sched).pair.claim = 0 ∧
      (s.partnerBeat m sched).print = { s.print with sched := [] }) ∧
    (s.pair.st = .active → ¬ s.pair.claim < m.claim → (s.partnerBeat m sched).pair.st = .active ∧
      (s.partnerBeat m sched).pair.claim = s.pair.claim ∧ (s.partnerBeat m sched).print = s.print) ∧
    ((s.pair.st = .idle ∨ s.pair.st = .diverged) → (s.partnerBeat m sched).pair.st = (if m.st = 1 then .sync else s.pair.st) ∧
      (s.partnerBeat m sched).print = s.print) ∧
    ((s.pair.st = .sync ∨ s.pair.st = .ready) → (s.partnerBeat m sched).pair.st = s.pair.st ∧ (s.partnerBeat m sched).print = s.print) := by
  generalize hs : (match s.pair.partnerAt with | some t => if tooOld m.at_ t s.pair.timeoutPs then [] else s.pair.partnerSeqs | none => []) = seqs at h
  have hx : s.partnerBeat m sched = if s.pair.st == .active then
      if s.pair.claim < m.claim then (s.beatSeen m seqs).demote m.claim else (s.beatSeen m seqs).activeBeat m s.pair.partnerSt
    else (s.beatSeen m seqs).standbyBeat m sched := by
    rw [← hs]
    rw [← hs] at h
    exact if_neg h
  have hhigh := State.beatSeen_highest (s := s) m seqs
  rw [hx]
  by_cases ha : s.pair.st = .active
  · rw [if_pos (by rw [ha]; rfl)]
    by_cases hc : s.pair.claim < m.claim
    · rw [if_pos hc]
      obtain ⟨⟨n, r, hp⟩, hpr⟩ := State.demote_pair (s := s.beatSeen m seqs) m.claim
      rw [hp]
      refine ⟨⟨rfl, rfl, rfl, rfl, rfl, hhigh, rfl⟩, fun _ _ => ⟨rfl, rfl, hpr⟩, fun _ h => absurd hc h, fun h => ?_, fun h => ?_⟩
      · exact absurd (ha ▸ h) (by decide)
      · exact absurd (ha ▸ h) (by decide)
    · rw [if_neg hc]
      obtain ⟨hpr, j, r, hp⟩ := State.activeBeat_held (s := s.beatSeen m seqs) m s.pair.partnerSt
      have hfield {α : Type} (π : PairPart → α) (hπ : ∀ q a b, π { PairPart.held q with joinDue := a, resyncQ := b } = π q) (hh : ∀ q, π (PairPart.held q) = π q) :
          π ((s.beatSeen m seqs).activeBeat m s.pair.partnerSt).pair = π (s.beatSeen m seqs).pair :=
        (hh _).symm.trans ((congrArg π hp).trans (hπ ..))
      refine ⟨⟨hfield PairPart.partnerAt (fun _ _ _ => rfl) fun _ => rfl, hfield PairPart.partnerSeen (fun _ _ _ => rfl) fun _ => rfl,
        hfield PairPart.lostTold (fun _ _ _ => rfl) fun _ => rfl, hfield PairPart.partnerSt (fun _ _ _ => rfl) fun _ => rfl,
        hfield PairPart.partnerClaim (fun _ _ _ => rfl) fun _ => rfl,
        (congrArg BitVec.toNat (hfield PairPart.highest (fun _ _ _ => rfl) fun _ => rfl)).trans hhigh,
        hfield PairPart.riders (fun _ _ _ => rfl) fun _ => rfl⟩, fun _ h => absurd h hc,
        fun _ _ => ⟨(hfield PairPart.st (fun _ _ _ => rfl) fun _ => rfl).trans ha, hfield PairPart.claim (fun _ _ _ => rfl) fun _ => rfl, hpr⟩, fun h => ?_, fun h => ?_⟩
      · exact absurd (ha ▸ h) (by decide)
      · exact absurd (ha ▸ h) (by decide)
  · rw [if_neg (by simpa using ha)]
    obtain ⟨hpr, hst, h1, h2, h3, h4, h5, h6, h7⟩ := State.standbyBeat_pair (s := s.beatSeen m seqs) m sched ha
    refine ⟨⟨h1, h2, h3, h4, h5, (congrArg BitVec.toNat h6).trans hhigh, h7⟩, fun h => absurd h ha, fun h => absurd h ha, fun h => ⟨?_, hpr⟩, fun h => ⟨?_, hpr⟩⟩
    · refine hst.trans ?_
      by_cases hm : m.st = 1
      · rw [if_pos hm]
        exact if_pos ⟨h, hm⟩
      · rw [if_neg hm]
        exact if_neg fun hh => hm hh.2
    · refine hst.trans (if_neg fun hh => ?_)
      have hh : s.pair.st = .idle ∨ s.pair.st = .diverged := hh.1
      rcases h with h | h
      · rw [h] at hh
        exact absurd hh (by decide)
      · rw [h] at hh
        exact absurd hh (by decide)

/-- A beat that repeats one still compared changes nothing (R471). -/
theorem State.partnerBeat_repeated {m : BeatRec} (sched : BitVec 24) (h : ∃ x ∈ s.pair.partnerSeqs, x = m.seq)
    (ho : ∀ a, s.pair.partnerAt = some a → tooOld m.at_ a s.pair.timeoutPs = false) (hs : s.pair.partnerAt.isSome = true) :
    s.partnerBeat m sched = s := by
  obtain ⟨a, ha⟩ := Option.isSome_iff_exists.mp hs
  obtain ⟨x, hx, rfl⟩ := h
  refine if_pos ?_
  rw [ha]
  dsimp only
  rw [if_neg (by rw [ho a ha]; decide)]
  exact List.contains_iff_mem.mpr hx

/-- A beat of the partner leaves the ditch-rider's pairs (R471). -/
theorem State.partnerBeat_riders (m : BeatRec) (sched : BitVec 24) : (s.partnerBeat m sched).pair.riders = s.pair.riders := by
  by_cases h : ((match s.pair.partnerAt with | some t => if tooOld m.at_ t s.pair.timeoutPs then [] else s.pair.partnerSeqs | none => []).contains m.seq) = true
  · have hx : s.partnerBeat m sched = s := if_pos h
    rw [hx]
  · exact (State.partnerBeat_new sched h).1.riders

/-! ### HEARTBEAT -/

/-- Queueing the events of a state moves nothing of its pair or its print. -/
theorem State.done_pair (w : State) : ∃ t : State, w.done = .next t ∧ t.pair = w.pair ∧ t.print = w.print :=
  ⟨_, rfl, State.settle_pair _, State.settle_print _⟩

/-- A valid HEARTBEAT goes to the partner's part and to the pairs of the ditch-rider (R471, R479). -/
theorem execHeartbeat_valid (src : NodeNo) {h w0 w1 w2 w3 : Word} (h1 : bits w0 3 0 = 1) (ht : s.tagOk h [w0, w1, w2] w3 = true) :
    ∃ u : State, execHeartbeat src h w0 w1 w2 w3 s =
      ((if s.fromPartner src then u.partnerBeat (parseBeat w0 w1 s.time.raw) (BitVec.ofNat 24 (bits w2 63 40)) else u).eachRider src
        (fun q i b => q.riderBeat i b (parseBeat w0 w1 s.time.raw))).done ∧ u.pair = s.pair ∧ u.print = s.print := by
  refine ⟨s.takeFrame 0 [w0, w1, w2, w3], ?_, State.takeFrame_pair .., State.takeFrame_print ..⟩
  unfold execHeartbeat
  dsimp only
  rw [State.takeFrame_tagOk, State.takeFrame_fromPartner, State.takeFrame_time, if_neg]
  rw [ht]
  simp [h1]

theorem execHeartbeat_takes (src : NodeNo) {h w0 w1 w2 w3 : Word} (h1 : bits w0 3 0 = 1) (ht : s.tagOk h [w0, w1, w2] w3 = true) :
    let m := parseBeat w0 w1 s.time.raw
    let new : Prop := ∀ x ∈ s.pair.partnerSeqs, x ≠ m.seq
    ∃ t : State, exec (.heartbeat src h w0 w1 w2 w3) s = .next t ∧
      (s.fromPartner src = false → t.pair = { s.pair with riders := t.pair.riders } ∧ t.print = s.print) ∧
      (s.fromPartner src = true → new →
        t.pair.partnerAt = some s.time.raw ∧ t.pair.partnerSeen = true ∧ t.pair.lostTold = false ∧ t.pair.partnerSt = m.st ∧
        t.pair.partnerClaim = m.claim ∧ t.pair.highest.toNat = max (max s.pair.highest.toNat m.claim.toNat) m.highest.toNat ∧
        (s.pair.st = .active → s.pair.claim < m.claim → t.pair.st = .sync ∧ t.pair.claim = 0 ∧ t.print = { s.print with sched := [] }) ∧
        (s.pair.st = .active → ¬ s.pair.claim < m.claim → t.pair.st = .active ∧ t.pair.claim = s.pair.claim ∧ t.print = s.print) ∧
        ((s.pair.st = .idle ∨ s.pair.st = .diverged) → t.pair.st = (if m.st = 1 then .sync else s.pair.st) ∧ t.print = s.print) ∧
        ((s.pair.st = .sync ∨ s.pair.st = .ready) → t.pair.st = s.pair.st ∧ t.print = s.print)) ∧
      (s.fromPartner src = true → (∃ x ∈ s.pair.partnerSeqs, x = m.seq) →
        (∀ a, s.pair.partnerAt = some a → tooOld s.time.raw a s.pair.timeoutPs = false) → s.pair.partnerAt.isSome = true →
        t.pair = { s.pair with riders := t.pair.riders } ∧ t.print = s.print) ∧
      (∀ (i : Fin 8) (b : Bool), s.pair.riders[i].unitAt src = some b →
        (∀ x ∈ (if b then s.pair.riders[i].seqsB else s.pair.riders[i].seqsA), x ≠ m.seq) → t.pair.riders[i].beatOf b = some m) := by
  dsimp only
  obtain ⟨u, hx, hup, hupr⟩ := execHeartbeat_valid src h1 ht
  generalize hv : (if s.fromPartner src then u.partnerBeat (parseBeat w0 w1 s.time.raw) (BitVec.ofNat 24 (bits w2 63 40)) else u) = v at hx
  obtain ⟨⟨rs, hp⟩, hpr, hri⟩ := State.eachRider_takes (n := src) (f := fun q i b => q.riderBeat i b (parseBeat w0 w1 s.time.raw))
    (fun _ i b => (State.riderBeat_moves i b _).1) v
  obtain ⟨t, hdone, htp, htpr⟩ := State.done_pair (v.eachRider src fun q i b => q.riderBeat i b (parseBeat w0 w1 s.time.raw))
  rw [← htp] at hp hri
  rw [← htpr] at hpr
  refine ⟨t, hx.trans hdone, fun hf => ?_, fun hf hnew => ?_, fun hf hrep ho hs => ?_, fun i b hb hseq => ?_⟩
  · have hvu : v = u := by
      rw [← hv, hf]
      rfl
    rw [hpr, hp, hvu, hup, hupr]
    exact ⟨rfl, rfl⟩
  · have hvu : v = u.partnerBeat (parseBeat w0 w1 s.time.raw) (BitVec.ofNat 24 (bits w2 63 40)) := by
      rw [← hv, hf]
      rfl
    obtain ⟨hb, h1, h2, h3, h4⟩ := State.partnerBeat_new (s := u) (m := parseBeat w0 w1 s.time.raw) (BitVec.ofNat 24 (bits w2 63 40)) (by rw [hup]; exact partnerSeqs_subset hnew)
    rw [hup, hupr, ← hvu] at h1 h2 h3 h4
    rw [hup, ← hvu] at hb
    rw [hpr, hp]
    exact ⟨hb.at_, hb.seen, hb.told, hb.st, hb.claim, hb.highest, h1, h2, h3, h4⟩
  · have hvu : v = u := by
      rw [← hv, hf]
      exact State.partnerBeat_repeated _ (by rw [hup]; exact hrep) (by rw [hup]; exact ho) (by rw [hup]; exact hs)
    rw [hpr, hp, hvu, hup, hupr]
    exact ⟨rfl, rfl⟩
  · have hvr : v.pair.riders = s.pair.riders := by
      rw [← hv, ← hup]
      split
      · exact State.partnerBeat_riders ..
      · rfl
    obtain ⟨w, hw, hr⟩ := hri i b (by rw [hvr]; exact hb)
    rw [hr]
    refine (State.riderBeat_moves i b _).2 ?_
    rw [hw, hvr]
    exact hseq

/-! ### Health reports (R470, R473, R481) -/

/-- The digest of a configuration is over the settings of six parts (R473). -/
theorem State.configDigest_congr {t : State} (hm : t.mapper = s.mapper) (hs : t.sluice = s.sluice) (hg : t.gov = s.gov) (hc : t.cist = s.cist)
    (he : t.enc = s.enc) (hh : t.health = s.health) : t.configDigest = s.configDigest := by
  unfold State.configDigest
  rw [hm, hs, hg, hc, he, hh]

theorem State.diverge_pair (page : PageId) (cause : Nat) : ∃ n, (s.diverge page cause).pair =
    { s.pair with hbSeq := n, st := if s.pair.paired = true ∧ (s.pair.st = .sync ∨ s.pair.st = .ready) then .diverged else s.pair.st } := by
  unfold State.diverge
  by_cases h : s.pair.paired = true ∧ (s.pair.st = .sync ∨ s.pair.st = .ready)
  · rw [if_pos h, if_pos h]
    obtain ⟨n, hn⟩ := State.beat_pair (({ s with pair := { s.pair with st := .diverged } } : State).raiseF .pairDiverged [page.toNat, fld 32 4 cause])
    exact ⟨n, by rw [hn, State.raiseF_pair]⟩
  · rw [if_neg h, if_neg h]
    exact ⟨s.pair.hbSeq, rfl⟩

/-- The digest a partner reported differs from this unit's (R473). -/
def State.differs (s : State) : Prop := ∃ d, s.pair.partnerDigest = some d ∧ d ≠ s.configDigest

open Classical in
/-- Comparing the digests sets what they showed, and ends SYNC and READY where they differ (R473). -/
theorem State.matchConfig_pair : ∃ n, s.matchConfig.pair =
    { s.pair with hbSeq := n, configMatch := s.pair.partnerDigest.elim s.pair.configMatch (fun d => d == s.configDigest)
                  st := if s.differs ∧ s.pair.paired = true ∧ (s.pair.st = .sync ∨ s.pair.st = .ready) then .diverged else s.pair.st } := by
  unfold State.matchConfig State.differs
  cases hd : s.pair.partnerDigest with
  | none => exact ⟨s.pair.hbSeq, by rw [if_neg (by simp)]; rfl⟩
  | some d =>
    dsimp only
    by_cases h : d = s.configDigest
    · rw [if_pos (c := (d == s.configDigest) = true) (by rw [h, beq_self_eq_true]),
        if_neg (by simp [h])]
      exact ⟨s.pair.hbSeq, rfl⟩
    · rw [if_neg (c := (d == s.configDigest) = true) (by simpa using h)]
      obtain ⟨n, hn⟩ := State.diverge_pair (s := { s with pair := { s.pair with configMatch := d == s.configDigest } }) 0 5
      refine ⟨n, hn.trans ?_⟩
      by_cases hp : s.pair.paired = true ∧ (s.pair.st = .sync ∨ s.pair.st = .ready)
      · rw [if_pos hp, if_pos ⟨⟨d, rfl, h⟩, hp⟩]
        rfl
      · rw [if_neg hp, if_neg fun hh => hp hh.2]
        rfl

/-- A standby found ready leaves SYNC alone (R470). -/
theorem State.readyCheck_pair : ∃ n st, s.readyCheck.pair = { s.pair with hbSeq := n, st := st } ∧ (s.pair.st ≠ .sync → st = s.pair.st) := by
  unfold State.readyCheck
  refine iteInduction (motive := fun u : State => ∃ n st, u.pair = { s.pair with hbSeq := n, st := st } ∧ (s.pair.st ≠ .sync → st = s.pair.st))
    (fun h => ?_) fun _ => ?_
  · have hst : s.pair.st = .sync := by
      by_contra hne
      simp [hne] at h
    obtain ⟨n, hn⟩ := State.beat_pair (({ s with pair := { s.pair with st := .ready } } : State).raiseF .pairReady [fld 0 1 (b2n s.pair.unitB)])
    exact ⟨n, .ready, by rw [hn, State.raiseF_pair], fun h => absurd hst h⟩
  · exact ⟨s.pair.hbSeq, s.pair.st, rfl, fun _ => rfl⟩

open Classical in
/-- What a partner's health report moves of the pair (R473). -/
theorem State.partnerHealth_pair (ws : List Word) (hp : s.pair.paired = true) : ∃ n st, (s.partnerHealth ws).pair =
    { s.pair with hbSeq := n, st := st, partnerDigest := some (wordAt ws 1), partnerBacklog := bits (wordAt ws 2) 39 0
                  configMatch := wordAt ws 1 == s.configDigest } ∧
    (wordAt ws 1 ≠ s.configDigest → (s.pair.st = .sync ∨ s.pair.st = .ready) → st = .diverged) := by
  unfold State.partnerHealth
  generalize hu : ({ s with pair := { s.pair with partnerDigest := some (wordAt ws 1), partnerBacklog := bits (wordAt ws 2) 39 0 } } : State) = u
  have hdig : u.configDigest = s.configDigest := by
    rw [← hu]
    rfl
  obtain ⟨n, hn⟩ := State.matchConfig_pair (s := u)
  obtain ⟨n', st, hr, hst⟩ := State.readyCheck_pair (s := u.matchConfig)
  refine ⟨n', st, ?_, fun hne hin => ?_⟩
  · rw [hr, hn, hdig, ← hu]
    rfl
  · have hdf : u.differs ∧ u.pair.paired = true ∧ (u.pair.st = .sync ∨ u.pair.st = .ready) := by
      refine ⟨⟨wordAt ws 1, by rw [← hu], by rw [hdig]; exact hne⟩, ?_⟩
      rw [← hu]
      exact ⟨hp, hin⟩
    have hs : u.matchConfig.pair.st = .diverged := by rw [hn, if_pos hdf]
    exact (hst (by rw [hs]; decide)).trans hs

/-- A valid HEALTH goes to the partner's part and to the pairs of the ditch-rider (R473, R479). -/
theorem execHealth_valid (src : NodeNo) {h : Word} {ws : List Word} (hl : ws.length = 8) (ht : s.tagOk h (ws.take 7) (wordAt ws 7) = true) :
    execHealth src h ws s = ((if s.fromPartner src then (s.takeFrame 0xC ws).partnerHealth ws else s.takeFrame 0xC ws).eachRider src
      (fun q i b => q.riderHealth i b { selfOk := bitAt (wordAt ws 0) 7, disagree := bits (wordAt ws 3) 31 0 })).done := by
  unfold execHealth
  dsimp only
  rw [State.takeFrame_tagOk, State.takeFrame_fromPartner, if_neg]
  rw [ht]
  simp [hl]

theorem execHealth_takes (src : NodeNo) {h : Word} {ws : List Word} (hl : ws.length = 8) (ht : s.tagOk h (ws.take 7) (wordAt ws 7) = true) :
    ∃ t : State, exec (.health src h ws) s = .next t ∧ t.print = s.print ∧ t.pair.claim = s.pair.claim ∧
      (s.fromPartner src = false → t.pair.st = s.pair.st ∧ t.pair.configMatch = s.pair.configMatch) ∧
      (s.fromPartner src = true → t.pair.partnerDigest = some (wordAt ws 1) ∧ t.pair.configMatch = (wordAt ws 1 == s.configDigest) ∧
        t.pair.partnerBacklog = bits (wordAt ws 2) 39 0 ∧
        (wordAt ws 1 ≠ s.configDigest → (s.pair.st = .sync ∨ s.pair.st = .ready) → t.pair.st = .diverged)) ∧
      (∀ (i : Fin 8) (b : Bool), s.pair.riders[i].unitAt src = some b → t.pair.riders[i].healthOf b =
        some { selfOk := bitAt (wordAt ws 0) 7, disagree := bits (wordAt ws 3) 31 0 }) := by
  have hx := execHealth_valid src hl ht
  generalize hu : s.takeFrame 0xC ws = u at hx
  have hup : u.pair = s.pair := by rw [← hu, State.takeFrame_pair]
  have hupr : u.print = s.print := by rw [← hu, State.takeFrame_print]
  have hdig : u.configDigest = s.configDigest := by
    rw [← hu]
    exact State.configDigest_congr (State.takeFrame_mapper ..) (State.takeFrame_sluice ..) (State.takeFrame_gov ..) (State.takeFrame_cist ..)
      (State.takeFrame_enc ..) (State.takeFrame_health ..)
  generalize hv : (if s.fromPartner src then u.partnerHealth ws else u) = v at hx
  obtain ⟨⟨rs, hp⟩, hpr, hri⟩ := State.eachRider_takes (n := src)
    (f := fun q i b => q.riderHealth i b { selfOk := bitAt (wordAt ws 0) 7, disagree := bits (wordAt ws 3) 31 0 })
    (fun _ i b => (State.riderHealth_moves i b _).1) v
  obtain ⟨t, hdone, htp, htpr⟩ := State.done_pair (v.eachRider src
    fun q i b => q.riderHealth i b { selfOk := bitAt (wordAt ws 0) 7, disagree := bits (wordAt ws 3) 31 0 })
  rw [← htp] at hp hri
  rw [← htpr] at hpr
  have hvt : v.print = s.print ∧ v.pair.claim = s.pair.claim ∧ v.pair.riders = s.pair.riders ∧
      (s.fromPartner src = false → v.pair.st = s.pair.st ∧ v.pair.configMatch = s.pair.configMatch) ∧
      (s.fromPartner src = true → v.pair.partnerDigest = some (wordAt ws 1) ∧ v.pair.configMatch = (wordAt ws 1 == s.configDigest) ∧
        v.pair.partnerBacklog = bits (wordAt ws 2) 39 0 ∧
        (wordAt ws 1 ≠ s.configDigest → (s.pair.st = .sync ∨ s.pair.st = .ready) → v.pair.st = .diverged)) := by
    cases hf : s.fromPartner src with
    | false =>
      rw [hf] at hv
      have hvu : v = u := hv.symm
      rw [hvu, hup]
      exact ⟨hupr, rfl, rfl, fun _ => ⟨rfl, rfl⟩, fun h => absurd h Bool.false_ne_true⟩
    | true =>
      rw [hf] at hv
      have hvu : v = u.partnerHealth ws := hv.symm
      have hpd : u.pair.paired = true := by
        rw [hup]
        unfold State.fromPartner at hf
        simp only [Bool.and_eq_true] at hf
        exact hf.1.1
      obtain ⟨n, st, hq, hst⟩ := State.partnerHealth_pair ws hpd
      rw [hup, hdig] at hst
      rw [hvu, State.partnerHealth_print, hq, hup, hdig]
      exact ⟨hupr, rfl, rfl, fun h => absurd h.symm Bool.false_ne_true, fun _ => ⟨rfl, rfl, rfl, hst⟩⟩
  obtain ⟨h1, h2, h3, h4, h5⟩ := hvt
  refine ⟨t, hx.trans hdone, hpr.trans h1, ?_, ?_, ?_, fun i b hb => ?_⟩
  · rw [hp]
    exact h2
  · rw [hp]
    exact h4
  · rw [hp]
    exact h5
  · obtain ⟨w, hw, hr⟩ := hri i b (by rw [h3]; exact hb)
    rw [hr]
    exact (State.riderHealth_moves i b _).2

/-! ### The beat and the report of this unit -/

/-- A beat sent counts (R471). -/
theorem State.beat_counts : s.beat.pair = (if s.pair.paired then { s.pair with hbSeq := s.pair.hbSeq + 1 } else s.pair) := by
  unfold State.beat
  cases hp : s.pair.paired with
  | false => rfl
  | true =>
    dsimp only
    exact foldl_same State.pair _ (fun t n => State.sendTagged_pair ..) _ _

open Classical in
/-- A report sent leaves the pair as comparing the digests left it, with its counts begun anew (R473). -/
theorem State.sendHealth_pair {k : PairKey} (hp : s.pair.paired = true) (hk : s.sec.pair = some k) : s.sendHealth.pair =
    { s.matchConfig.pair with reportSeq := s.matchConfig.pair.reportSeq + 1, disagree := 0, lineMiss := 0, selfFail := false } := by
  unfold State.sendHealth
  rw [hp, hk]
  exact congrArg (fun q : PairPart => { q with reportSeq := s.matchConfig.pair.reportSeq + 1, disagree := 0, lineMiss := 0, selfFail := false })
    (foldl_same State.pair (fun (t : State) n => t.sendTagged 0xC n t.healthWords) (fun t n => State.sendTagged_pair ..) _ _)

/-- HEALTH_SEND (R473). -/
theorem execHealthSend_reports {k : PairKey} (hp : s.pair.paired = true) (hk : s.sec.pair = some k) :
    let differs : Prop := ∃ d, s.pair.partnerDigest = some d ∧ d ≠ s.configDigest
    ∃ t : State, exec .healthSend s = .next t ∧ t.print = s.print ∧ t.pair.reportSeq = s.pair.reportSeq + 1 ∧ t.pair.disagree = 0 ∧
      t.pair.lineMiss = 0 ∧ t.pair.selfFail = false ∧ t.pair.claim = s.pair.claim ∧ t.pair.riders = s.pair.riders ∧
      (∀ d, s.pair.partnerDigest = some d → t.pair.configMatch = (d == s.configDigest)) ∧
      (s.pair.partnerDigest = none → t.pair.configMatch = s.pair.configMatch) ∧
      (differs → (s.pair.st = .sync ∨ s.pair.st = .ready) → t.pair.st = .diverged) ∧
      (¬ (differs ∧ (s.pair.st = .sync ∨ s.pair.st = .ready)) → t.pair.st = s.pair.st) := by
  classical
  obtain ⟨t, hdone, htp, htpr⟩ := State.done_pair s.sendHealth
  obtain ⟨n, hn⟩ := State.matchConfig_pair (s := s)
  rw [State.sendHealth_pair hp hk, hn] at htp
  refine ⟨t, hdone, htpr.trans (State.sendHealth_print _), ?_⟩
  rw [htp]
  refine ⟨rfl, rfl, rfl, rfl, rfl, rfl, fun d hd => ?_, fun hd => ?_, fun hd hin => if_pos ⟨hd, hp, hin⟩, fun hne => if_neg fun hh => hne ⟨hh.1, hh.2.2⟩⟩
  · rw [hd]
    rfl
  · rw [hd]
    rfl

/-! ### The partner is lost -/

theorem low40_node (n : NodeNo) : pack40 [fld 0 12 n.toNat] = low40 n.toNat := by
  unfold pack40 fld low40
  rw [List.sum_singleton, Nat.mod_eq_of_lt n.isLt, Nat.shiftLeft_zero]

/-- Settles O46: beats and reports, at the partner, at the ditch-rider and at this unit. -/
theorem beatsAndReportsKeepThePairInStep : Obligations.BeatsAndReportsKeepThePairInStep := by
  unfold Obligations.BeatsAndReportsKeepThePairInStep
  refine ⟨fun s src h w0 w1 w2 w3 hq hbad => ?_, fun s src h w0 w1 w2 w3 h1 ht => execHeartbeat_takes src h1 ht, fun s src h ws => ⟨fun hq hbad => ?_, fun hok => execHealth_takes src hok.1 hok.2⟩,
    fun s => ?_, fun s => ⟨fun hq hn => ?_, fun k hp hk => execHealthSend_reports hp hk⟩, fun s => ⟨fun hq hn => ?_, fun hp hl => ?_⟩⟩
  · refine Eq.trans (b := (s.takeFrame 0 [w0, w1, w2, w3]).done) (if_pos ?_) (State.takeFrame_done _ hq ..)
    rw [State.takeFrame_tagOk]
    exact hbad
  · refine Eq.trans (b := (s.takeFrame 0xC ws).done) (if_pos ?_) (State.takeFrame_done _ hq ..)
    rw [State.takeFrame_tagOk]
    rw [Classical.not_and_iff_not_or_not] at hbad
    exact hbad.imp_right fun h => by simpa using h
  · obtain ⟨t, hdone, htp, htpr⟩ := State.done_pair s.beat
    exact ⟨t, hdone, htpr.trans (State.beat_print _), htp.trans State.beat_counts⟩
  · refine Eq.trans (b := s.done) (congrArg State.done (if_pos ?_)) (State.done_quiet s hq)
    rcases hn with h | h
    · simp [h]
    · simp [h]
  · refine Eq.trans (b := s.done) (if_pos ?_) (State.done_quiet s hq)
    rcases hn with h | h
    · simp [h]
    · simp [h]
  · refine (if_neg ?_).trans ?_
    · simp [hp, hl]
    · unfold State.raiseF
      rw [low40_node]
      rfl

end Sys2Proof.Machine
end

section
/-!
SUPPORT. The active's schedule records at a standby (R471, R475 to R478, R487).
-/

namespace Sys2Proof.Machine

variable {s : State} {k : PairKey}

/-- A record that this unit takes: its number is the last taken, and it applies, late or not (R477, R478). -/
def State.runRecord (s : State) (k : PairKey) (rkind : Nat) (seq : BitVec 24) (claim : BitVec 32) (w1 w2 : Word) : State :=
  let ws := k.open_ rkind seq claim w1 w2
  let s1 := { s with pair := { s.pair with schedSeq := seq, schedSeen := true } }
  (match s1.lateRecord rkind ws.1 ws.2 with | some id => s1.diverge id 1 | none => s1).applyRecord rkind ws.1 ws.2

section Take

variable (w0 w1 w2 : Word)

theorem State.takeRecord_next (h : s.pair.schedSeen = false ∨ BitVec.ofNat 24 (bits w0 31 8) = s.pair.schedSeq + 1) :
    s.takeRecord k w0 w1 w2 = s.runRecord k (bits w0 7 4) (BitVec.ofNat 24 (bits w0 31 8)) (BitVec.ofNat 32 (bits w0 63 32)) w1 w2 := by
  unfold State.takeRecord
  dsimp only
  cases hs : s.pair.schedSeen with
  | false => rfl
  | true =>
    have h := h.resolve_left (by rw [hs]; exact Bool.noConfusion)
    have hn : seqStep s.pair.schedSeq (BitVec.ofNat 24 (bits w0 31 8)) = .next := if_pos h
    rw [hn]
    rfl

/-- A number less than half the range behind is one already taken (R471). -/
theorem State.takeRecord_again (hs : s.pair.schedSeen = true) (hn : BitVec.ofNat 24 (bits w0 31 8) ≠ s.pair.schedSeq + 1)
    (hb : (s.pair.schedSeq - BitVec.ofNat 24 (bits w0 31 8)).toNat < 2 ^ 23) : s.takeRecord k w0 w1 w2 = s := by
  have ha : seqStep s.pair.schedSeq (BitVec.ofNat 24 (bits w0 31 8)) = .again := (if_neg hn).trans (if_pos hb)
  unfold State.takeRecord
  dsimp only
  rw [hs, ha]
  rfl

/-- Any other number shows a gap (R478 cause 2). -/
theorem State.takeRecord_gap (hs : s.pair.schedSeen = true) (hn : BitVec.ofNat 24 (bits w0 31 8) ≠ s.pair.schedSeq + 1)
    (hb : 2 ^ 23 ≤ (s.pair.schedSeq - BitVec.ofNat 24 (bits w0 31 8)).toNat) : s.takeRecord k w0 w1 w2 =
      (s.diverge 0 2).runRecord k (bits w0 7 4) (BitVec.ofNat 24 (bits w0 31 8)) (BitVec.ofNat 32 (bits w0 63 32)) w1 w2 := by
  have hg : seqStep s.pair.schedSeq (BitVec.ofNat 24 (bits w0 31 8)) = .gap := (if_neg hn).trans (if_neg (Nat.not_lt.mpr hb))
  unfold State.takeRecord
  dsimp only
  rw [hs, hg]
  rfl

end Take

/-! ### SCHEDULE_RECORD -/

section Exec

variable {src : NodeNo} {h w0 w1 w2 w3 : Word}

/-- A record ignored leaves the frame taken alone (R477). -/
theorem execScheduleRecord_ignored (hq : s.quiet) (hn : bits w0 3 0 ≠ 2 ∨ s.tagOk h [w0, w1, w2] w3 = false ∨
    s.fromPartner src = false ∨ BitVec.ofNat 32 (bits w0 63 32) < s.pair.claim ∨ s.pair.st = .idle) :
    exec (.scheduleRecord src h w0 w1 w2 w3) s = .next (s.takeFrame 0 [w0, w1, w2, w3]) := by
  refine Eq.trans ?_ (State.takeFrame_done s hq 0 [w0, w1, w2, w3])
  refine Eq.trans (b := execScheduleRecord src h w0 w1 w2 w3 s) rfl ?_
  unfold execScheduleRecord
  dsimp only
  rw [State.takeFrame_tagOk, State.takeFrame_fromPartner, State.takeFrame_pair]
  by_cases hc : bits w0 3 0 ≠ 2 ∨ s.tagOk h [w0, w1, w2] w3 = false ∨ s.fromPartner src = false ∨ BitVec.ofNat 32 (bits w0 63 32) < s.pair.claim
  · exact if_pos hc
  · have hi : s.pair.st = .idle := by
      rcases hn with h1 | h2 | h3 | h4 | h5
      · exact absurd (.inl h1) hc
      · exact absurd (.inr (.inl h2)) hc
      · exact absurd (.inr (.inr (.inl h3))) hc
      · exact absurd (.inr (.inr (.inr h4))) hc
      · exact h5
    rw [if_neg hc, hi]

variable (h2 : bits w0 3 0 = 2) (hk : s.sec.pairKey = some k) (ht : k.tag h [w0, w1, w2] = w3) (hp : s.fromPartner src = true)
  (hc : s.pair.claim ≤ BitVec.ofNat 32 (bits w0 63 32))
include h2 hk ht hp hc

/-- A record that passes its checks goes to the part for this unit's state (R467, R477). -/
theorem execScheduleRecord_passes : exec (.scheduleRecord src h w0 w1 w2 w3) s =
    match s.pair.st with
    | .idle => (s.takeFrame 0 [w0, w1, w2, w3]).done
    | .active => (((s.takeFrame 0 [w0, w1, w2, w3]).sawClaim (BitVec.ofNat 32 (bits w0 63 32))).partnerGrant (BitVec.ofNat 32 (bits w0 63 32))).done
    | _ => ((s.takeFrame 0 [w0, w1, w2, w3]).takeRecord k w0 w1 w2).done := by
  refine Eq.trans (b := execScheduleRecord src h w0 w1 w2 w3 s) rfl ?_
  unfold execScheduleRecord
  dsimp only
  have htag : s.tagOk h [w0, w1, w2] w3 = true := by
    unfold State.tagOk
    rw [hk]
    exact beq_iff_eq.mpr ht
  rw [State.takeFrame_tagOk, State.takeFrame_fromPartner, State.takeFrame_pair, State.takeFrame_sec, hk, htag, hp,
    if_neg (by simp [h2, BitVec.not_lt.mpr hc])]
  cases s.pair.st <;> rfl

theorem execScheduleRecord_demotes (ha : s.pair.st = .active) (hlt : s.pair.claim < BitVec.ofNat 32 (bits w0 63 32)) :
    ∃ t : State, exec (.scheduleRecord src h w0 w1 w2 w3) s = .next t ∧ t.pair.st = .sync ∧ t.pair.claim = 0 := by
  have hx := execScheduleRecord_passes h2 hk ht hp hc
  rw [ha] at hx
  refine ⟨_, hx, ?_⟩
  rw [State.settle_pair]
  refine State.partnerGrant_demotes ?_ ?_
  · exact (congrArg PairPart.st (State.takeFrame_pair s 0 [w0, w1, w2, w3])).trans ha
  · exact (congrArg PairPart.claim (State.takeFrame_pair s 0 [w0, w1, w2, w3])).trans_lt hlt

/-- A standby takes the record (R477). -/
theorem execScheduleRecord_takes (ha : s.pair.st ≠ .active) (hi : s.pair.st ≠ .idle) : exec (.scheduleRecord src h w0 w1 w2 w3) s =
    .next ((s.takeFrame 0 [w0, w1, w2, w3]).takeRecord k w0 w1 w2).settle := by
  have hx := execScheduleRecord_passes h2 hk ht hp hc
  cases hst : s.pair.st with
  | active => exact absurd hst ha
  | idle => exact absurd hst hi
  | sync => rw [hst] at hx; exact hx
  | ready => rw [hst] at hx; exact hx
  | diverged => rw [hst] at hx; exact hx

end Exec

theorem State.serialAs_pair (id : PageId) (serial : BitVec 48) (mac : BitVec 40) : (s.serialAs id serial mac).pair =
    { s.pair with serials := (id, serial, mac) :: (s.pair.serials.filter (fun x => x.1 != id)).take 1023 } := by
  unfold State.serialAs
  dsimp only
  split
  · rfl
  · rfl

/-! ### What a record does to a unit not yet joined (R475, R477, R487) -/

section NotJoined

variable (hj : s.pair.joined = false) (seq : BitVec 24) (claim : BitVec 32) (w1 w2 : Word)
include hj

/-- A unit that has not joined finds no record late (R478). -/
theorem State.runRecord_notJoined (rkind : Nat) : s.runRecord k rkind seq claim w1 w2 =
    ({ s with pair := { s.pair with schedSeq := seq, schedSeen := true } } : State).applyRecord rkind
      (k.open_ rkind seq claim w1 w2).1 (k.open_ rkind seq claim w1 w2).2 := by
  unfold State.runRecord
  dsimp only
  have hl : ({ s with pair := { s.pair with schedSeq := seq, schedSeen := true } } : State).lateRecord rkind
      (k.open_ rkind seq claim w1 w2).1 (k.open_ rkind seq claim w1 w2).2 = none := by
    unfold State.lateRecord
    dsimp only
    rw [hj]
    rfl
  rw [hl]

/-- SWITCH: the encoder from a bar line on. -/
theorem State.runRecord_switch : (s.runRecord k 8 seq claim w1 w2).sluice.switchTo = some (Fin.ofNat 2 (bits w1 0 0), w2.toNat) ∧
    (s.runRecord k 8 seq claim w1 w2).enc.armed = false ∧ (s.runRecord k 8 seq claim w1 w2).pair.schedSeq = seq ∧
    (s.runRecord k 8 seq claim w1 w2).pair.st = s.pair.st ∧ (s.runRecord k 8 seq claim w1 w2).print = s.print := by
  rw [State.runRecord_notJoined hj]
  exact ⟨rfl, rfl, rfl, rfl, rfl⟩

/-- SERIAL: the page's serial and MAC. -/
theorem State.runRecord_serial : (s.runRecord k 9 seq claim w1 w2).pair.schedSeq = seq ∧
    (s.runRecord k 9 seq claim w1 w2).pair.st = s.pair.st ∧ (s.runRecord k 9 seq claim w1 w2).print = s.print ∧
    (s.runRecord k 9 seq claim w1 w2).pair.serials.head? =
      some (BitVec.ofNat 32 (bits (k.open_ 9 seq claim w1 w2).1 31 0), BitVec.ofNat 48 (bits (k.open_ 9 seq claim w1 w2).2 47 0),
        BitVec.ofNat 40 (bits (k.open_ 9 seq claim w1 w2).1 63 32 + fld 32 8 (bits (k.open_ 9 seq claim w1 w2).2 55 48))) := by
  rw [State.runRecord_notJoined hj]
  generalize k.open_ 9 seq claim w1 w2 = ws
  have hx (x : State) : x.applyRecord 9 ws.1 ws.2 = x.serialAs (BitVec.ofNat 32 (bits ws.1 31 0)) (BitVec.ofNat 48 (bits ws.2 47 0))
      (BitVec.ofNat 40 (bits ws.1 63 32 + fld 32 8 (bits ws.2 55 48))) := rfl
  rw [hx, State.serialAs_pair, State.serialAs_print]
  exact ⟨rfl, rfl, rfl, rfl⟩

/-- JOIN_LINE on a unit that prints. -/
theorem State.runRecord_joinLine (hs : s.print.started = true) :
    (s.runRecord k 13 seq claim w1 w2).pair.joinLine = some (BitVec.ofNat 32 (bits w1 31 0), w2.toNat) ∧
    (s.runRecord k 13 seq claim w1 w2).pair.schedSeq = seq ∧ (s.runRecord k 13 seq claim w1 w2).pair.st = s.pair.st ∧
    (s.runRecord k 13 seq claim w1 w2).print = s.print := by
  have hx : s.runRecord k 13 seq claim w1 w2 =
      ({ s with pair := { s.pair with schedSeq := seq, schedSeen := true } } : State).joinLineAs (BitVec.ofNat 32 (bits w1 31 0)) w2.toNat :=
    State.runRecord_notJoined hj ..
  rw [hx]
  unfold State.joinLineAs
  dsimp only
  rw [hs]
  exact ⟨rfl, rfl, rfl, rfl⟩

end NotJoined

/-- Settles O47: what is ignored, the order of SCHED_SEQ, and the kinds of record named. -/
theorem scheduleRecordsApplyOnceInOrder : Obligations.ScheduleRecordsApplyOnceInOrder := by
  unfold Obligations.ScheduleRecordsApplyOnceInOrder
  refine ⟨fun s src h w0 w1 w2 w3 hq hn => execScheduleRecord_ignored hq hn, fun s src h w0 w1 w2 w3 k h2 hk ht hp hc => ?_⟩
  have hsp : (s.takeFrame 0 [w0, w1, w2, w3]).pair = s.pair := State.takeFrame_pair ..
  have hspr : (s.takeFrame 0 [w0, w1, w2, w3]).print = s.print := State.takeFrame_print ..
  have hdone (hq : s.quiet) : (s.takeFrame 0 [w0, w1, w2, w3]).settle = s.takeFrame 0 [w0, w1, w2, w3] :=
    Host.Outcome.next.inj (State.takeFrame_done s hq 0 [w0, w1, w2, w3])
  dsimp only
  generalize hs0 : s.takeFrame 0 [w0, w1, w2, w3] = s0
  rw [hs0] at hsp hspr hdone
  refine ⟨fun ha hlt => execScheduleRecord_demotes h2 hk ht hp hc ha hlt, fun ha hi => ?_⟩
  have hx := execScheduleRecord_takes h2 hk ht hp hc ha hi
  rw [hs0] at hx
  have hnext (hn : s.pair.schedSeen = false ∨ BitVec.ofNat 24 (bits w0 31 8) = s.pair.schedSeq + 1) :
      exec (.scheduleRecord src h w0 w1 w2 w3) s =
        .next (s0.runRecord k (bits w0 7 4) (BitVec.ofNat 24 (bits w0 31 8)) (BitVec.ofNat 32 (bits w0 63 32)) w1 w2).settle := by
    rw [hx, State.takeRecord_next w0 w1 w2 (by rw [hsp]; exact hn)]
  refine ⟨hnext, fun hq hs hn hb => ?_, fun hs hn hb => ?_, fun hn hj => ⟨fun hr => ?_, fun hr => ?_, fun hr hst => ?_⟩⟩
  · rw [hx, State.takeRecord_again w0 w1 w2 (by rw [hsp]; exact hs) (by rw [hsp]; exact hn) (by rw [hsp]; exact hb), hdone hq]
  · rw [hx, State.takeRecord_gap w0 w1 w2 (by rw [hsp]; exact hs) (by rw [hsp]; exact hn) (by rw [hsp]; exact hb)]
    rfl
  · refine ⟨_, hnext hn, ?_⟩
    rw [State.settle_sluice, State.settle_enc, State.settle_pair, State.settle_print, ← hsp, ← hspr, hr]
    exact State.runRecord_switch (by rw [hsp]; exact hj) ..
  · refine ⟨_, hnext hn, ?_⟩
    rw [State.settle_pair, State.settle_print, ← hsp, ← hspr, hr]
    exact State.runRecord_serial (by rw [hsp]; exact hj) ..
  · refine ⟨_, hnext hn, ?_⟩
    rw [State.settle_pair, State.settle_print, ← hsp, ← hspr, hr]
    exact State.runRecord_joinLine (by rw [hsp]; exact hj) _ _ _ _ (by rw [hspr]; exact hst)

end Sys2Proof.Machine
end

section
/-!
SUPPORT. Parcels mirrored to the partner, and the data of BULK frames (R210, R453, R485, R486).
-/

namespace Sys2Proof.Machine

variable {s : State} {k : PairKey}

/-! ### PARCEL_MIRROR (R485, R486) -/

/-- What is part of the transfers of a node, and of nothing sent or delivered. -/
theorem FabPart.config_bulks {f g : FabPart} (h : f.config = g.config) : f.bulkIn = g.bulkIn ∧ f.bulkHeld = g.bulkHeld ∧ f.bulkOut = g.bulkOut :=
  ⟨(congrArg FabPart.bulkIn h :), (congrArg FabPart.bulkHeld h :), (congrArg FabPart.bulkOut h :)⟩

theorem State.openChan_bulkOut (n : NodeNo) : (s.openChan n).fab.bulkOut = s.fab.bulkOut := by
  unfold State.openChan
  split
  · rfl
  · exact (FabPart.config_bulks (State.fabSend_fabConfig ..)).2.2

/-- An offer adds its transfer to those offered, and uses the next SEQUENCE (R485, R569). -/
theorem State.offerMirror_offers (p : List Word) : ∃ b : BulkOut, (s.offerMirror k p).fab.bulkOut = s.fab.bulkOut ++ [b] ∧
    b.dest = s.pair.partner ∧ b.sent = false ∧ b.words = k.seal s.pair.unitB p ∧ (s.offerMirror k p).sec.pair = some k.useSeq ∧
    (s.offerMirror k p).pair = s.pair := by
  unfold State.offerMirror
  dsimp only
  refine ⟨_, (FabPart.config_bulks (State.postPeer_fabConfig ..)).2.2.trans (State.openChan_bulkOut _), rfl, rfl, rfl, ?_, ?_⟩
  · rw [State.postPeer_sec, State.openChan_sec]
  · rw [State.postPeer_pair, State.openChan_pair]

section Mirror

variable {p : List Word} {ps : List (List Word)} (hp : s.pair.paired = true) (ha : s.pair.st = .active) (hy : s.yields = false) (hfree : s.mirrorFree = true)
  (hb : ∀ b ∈ s.fab.bulkOut, b.sent = true ∨ b.dest ≠ s.pair.partner) (hk : s.sec.pairKey = some k) (hr : s.fab.reaches s.pair.partner = true)
  (hc : (s.fab.chanOf s.pair.partner).isSome = true ∨ s.fab.channels.length < 64) (hq : s.pair.mirrorQ = p :: ps)
include hp ha hy hfree hb hk hr hc hq

/-- The next parcel is read and offered when no transfer to the partner waits to be sent (R485, R486). -/
theorem execParcelMirror_offers : exec .parcelMirror s =
    ((({ s with pair := { s.pair with mirrorQ := ps } } : State).mirrorRead p).offerMirror k p).done := by
  refine Eq.trans (b := execParcelMirror s) rfl ?_
  have hnone : s.fab.bulkOut.find? (fun b => !b.sent && b.dest == s.pair.partner) = none := by
    rw [List.find?_eq_none]
    intro b hm
    rcases hb b hm with h | h
    · simp [h]
    · simp [h]
  have hroom : ¬(!s.fab.reaches s.pair.partner || ((s.fab.chanOf s.pair.partner).isNone && decide (64 ≤ s.fab.channels.length))) = true := by
    rcases hc with h | h
    · simp [hr, Option.isNone_eq_false_iff.mpr h]
    · simp [hr, Nat.not_le.mpr h]
  unfold execParcelMirror
  rw [if_neg (by simp [hp, ha, hy]), hnone, hk]
  dsimp only
  rw [if_neg hroom, if_neg (by simp [hfree]), hq]

theorem execParcelMirror_mirrors : ∃ (t : State) (b : BulkOut), exec .parcelMirror s = .next t ∧ t.pair.mirrorQ = ps ∧
    t.fab.bulkOut = s.fab.bulkOut ++ [b] ∧ b.dest = s.pair.partner ∧ b.sent = false ∧ b.words = k.seal s.pair.unitB p ∧
    t.sec.pair = some k.useSeq := by
  obtain ⟨b, h1, h2, h3, h4, h5, h6⟩ :=
    State.offerMirror_offers (s := ({ s with pair := { s.pair with mirrorQ := ps } } : State).mirrorRead p) (k := k) p
  refine ⟨_, b, execParcelMirror_offers hp ha hy hfree hb hk hr hc hq, ?_, ?_, h2, h3, h4, ?_⟩
  · rw [State.settle_pair, h6]
    rfl
  · exact (FabPart.config_bulks (State.settle_fabConfig _)).2.2.trans h1
  · rw [State.settle_sec, h5]

end Mirror

/-! ### BULK (R210, R453) -/

/-- Only the band fetches under way and the urgency level say whether other work yields to them (R210). -/
theorem State.yields_congr {t : State} (hc : t.cist = s.cist) (he : t.eng = s.eng) (hs : t.store = s.store) : t.yields = s.yields := by
  unfold State.yields State.bandFetchPending
  rw [hc, he, hs]

/-- The data of a frame in the transfer it belongs to (R453). -/
def bulkPlaced (f : NodeNo × List Word) (b : BulkIn) : BulkIn :=
  if b.src = f.1 ∧ b.xfer = (wordAt f.2 0).extractLsb' 0 32 then { b with parts := (bits (wordAt f.2 0) 55 32, f.2.drop 1) :: b.parts } else b

theorem State.placeFrame_eq (f : NodeNo × List Word) :
    s.placeFrame f.1 f.2 = { s with fab := { s.fab with bulkIn := s.fab.bulkIn.map (bulkPlaced f) } } := by
  unfold State.placeFrame
  dsimp only
  have hx : BitVec.ofNat 32 (bits (wordAt f.2 0) 31 0) = (wordAt f.2 0).extractLsb' 0 32 := ofNat_bits _ 0 32 (by decide)
  have hf : (fun b : BulkIn => if (b.src == f.1 && b.xfer == BitVec.ofNat 32 (bits (wordAt f.2 0) 31 0)) = true then
      { b with parts := (bits (wordAt f.2 0) 55 32, f.2.drop 1) :: b.parts } else b) = bulkPlaced f := by
    funext b
    rw [hx]
    unfold bulkPlaced
    simp only [Bool.and_eq_true, beq_iff_eq]
  exact congrArg (fun g => ({ s with fab := { s.fab with bulkIn := s.fab.bulkIn.map g } } : State)) hf

theorem State.placeFrames_eq (l : List (NodeNo × List Word)) (s : State) : l.foldl (fun (s : State) f => s.placeFrame f.1 f.2) s =
    { s with fab := { s.fab with bulkIn := l.foldl (fun bs f => bs.map (bulkPlaced f)) s.fab.bulkIn } } := by
  induction l generalizing s with
  | nil => rfl
  | cons f l ih =>
    have hf := State.placeFrame_eq (s := s) f
    refine (ih (s.placeFrame f.1 f.2)).trans ?_
    rw [hf]
    rfl

/-- What waits is placed, in its order, once no band fetch goes first (R210, R453). -/
theorem State.placeHeld_places : (s.yields = true → s.placeHeld = s) ∧ (s.yields = false → s.placeHeld =
    { s with fab := { s.fab with bulkHeld := [], bulkIn := s.fab.bulkHeld.foldl (fun bs f => bs.map (bulkPlaced f)) s.fab.bulkIn } }) := by
  refine ⟨fun h => if_pos h, fun h => ?_⟩
  refine (if_neg (by rw [h]; exact Bool.false_ne_true)).trans (State.placeFrames_eq _ _)

theorem execBulk_places (src : NodeNo) (words : List Word) : ∃ t : State, exec (.bulk src words) s = .next t ∧ t.store = s.store ∧
    (s.yields = true → t.fab.bulkHeld = s.fab.bulkHeld ++ [(src, words)] ∧ t.fab.bulkIn = s.fab.bulkIn) ∧
    (s.yields = false → t.fab.bulkHeld = [] ∧
      t.fab.bulkIn = (s.fab.bulkHeld ++ [(src, words)]).foldl (fun bs f => bs.map (bulkPlaced f)) s.fab.bulkIn) := by
  obtain ⟨hin, hheld, -⟩ := FabPart.config_bulks (State.takeFrame_config (s := s) 11 words).1
  have hyl : (s.takeFrame 11 words).yields = s.yields :=
    State.yields_congr (State.takeFrame_cist ..) (State.takeFrame_eng ..) (State.takeFrame_store ..)
  have hst : (s.takeFrame 11 words).store = s.store := State.takeFrame_store ..
  generalize hu : s.takeFrame 11 words = u at hin hheld hyl hst
  have hx : exec (.bulk src words) s = ({ u with fab := { u.fab with bulkHeld := u.fab.bulkHeld ++ [(src, words)] } } : State).placeHeld.done := by
    rw [← hu]
    rfl
  generalize hv : ({ u with fab := { u.fab with bulkHeld := u.fab.bulkHeld ++ [(src, words)] } } : State) = v at hx
  have hvy : v.yields = s.yields := by
    rw [← hv]
    exact (State.yields_congr (s := u) rfl rfl rfl).trans hyl
  obtain ⟨hbi, hbh, -⟩ := FabPart.config_bulks (State.settle_fabConfig v.placeHeld)
  refine ⟨_, hx, ?_, fun hy => ?_, fun hy => ?_⟩
  · rw [State.settle_store, State.placeHeld_store, ← hv]
    exact hst
  · rw [hbi, hbh, (State.placeHeld_places (s := v)).1 (hvy.trans hy), ← hv]
    exact ⟨by rw [← hheld], hin⟩
  · rw [hbi, hbh, (State.placeHeld_places (s := v)).2 (hvy.trans hy), ← hv, ← hheld, ← hin]
    exact ⟨rfl, rfl⟩

/-- Settles O48: the parcel offered by PARCEL_MIRROR, and the data placed by BULK. -/
theorem mirroringOffersAndPlacesParcels : Obligations.MirroringOffersAndPlacesParcels := by
  unfold Obligations.MirroringOffersAndPlacesParcels
  exact ⟨fun s k p ps hp ha hy hfree hb hk hr hc hq => execParcelMirror_mirrors hp ha hy hfree hb hk hr hc hq,
    fun s src words _ => execBulk_places src words⟩

end Sys2Proof.Machine
end

section
/-!
SUPPORT. The timebase: arming and firing triggers, steps, and PPS (R494 to R499, R504).
-/

namespace Sys2Proof.Machine

variable {s : State} {c : Cmd}

/-! ### Steps and rates (R494 to R496) -/

theorem clampTo_natAbs (b : Nat) (v : Int) : (clampTo b v).natAbs ≤ b := by
  unfold clampTo
  omega

/-- What a step moves of the timebase (R496, R498). -/
theorem State.stepTime_time (n : Int) : (s.stepTime n).time.rate = s.time.rate ∧ (s.stepTime n).time.epoch = s.time.epoch ∧
    (s.stepTime n).time.raw = s.time.raw ∧ (s.stepTime n).time.capture = s.time.capture ∧ (s.stepTime n).time.ppsSecond = s.time.ppsSecond ∧
    (s.stepTime n).time.triggers.map (fun x => (x.armed, x.value, x.fired)) = s.time.triggers.map (fun x => (x.armed, x.value, x.fired)) ∧
    (s.time.offset = wrap64 s.time.offset → (s.stepTime n).time.offset = wrap64 (s.time.offset + n)) := by
  unfold State.stepTime
  by_cases hn : n = 0
  · rw [if_pos hn, hn]
    refine ⟨rfl, rfl, rfl, rfl, rfl, rfl, fun h => ?_⟩
    rw [Int.add_zero]
    exact h
  · rw [if_neg hn]
    dsimp only
    rw [State.raiseF_time]
    refine ⟨rfl, rfl, rfl, rfl, rfl, ?_, fun _ => rfl⟩
    exact Vector.ext fun i hi => by simp only [Vector.getElem_map]

/-- A step raises TIME_STEPPED (R496). -/
theorem State.stepTime_batch {n : Int} (hn : n ≠ 0) : (s.stepTime n).host.batch =
    s.host.batch ++ [(.timeStepped, low40 (fldI 0 40 (clampTo (2 ^ 39 - 1) n)))] := by
  unfold State.stepTime
  rw [if_neg hn]
  dsimp only
  unfold State.raiseF State.raise
  rw [if_neg (by simp [Code.cls])]
  have hp : pack40 [fldI 0 40 (clampTo (2 ^ 39 - 1) n)] = low40 (fldI 0 40 (clampTo (2 ^ 39 - 1) n)) := by
    unfold pack40 low40
    rw [List.sum_singleton]
  rw [hp]

theorem cmdTimeStep_steps (h : 0 ≤ (c.dw 0).toInt ∨ s.print.started = false) : cmdTimeStep c s = (s.stepTime (c.dw 0).toInt, okResp) := by
  refine if_neg ?_
  unfold State.mayStep
  rcases h with h | h
  · simp [h]
  · simp [h]

theorem cmdTimeStep_refuses (h : (c.dw 0).toInt < 0) (hs : s.print.started = true) : cmdTimeStep c s = (s, resp .printActive 0) := by
  refine if_pos ?_
  unfold State.mayStep
  simp [hs, h]

/-! ### TRIGGER_ARM and TRIGGER_DISARM (R497, R498, R545) -/

theorem State.setCmp_get (n m : CmpNo) (f : CmpTrigger → CmpTrigger) :
    (s.setCmp n f).time.triggers[m] = if n = m then f s.time.triggers[m] else s.time.triggers[m] := upd_fin ..

theorem cmdTriggerArm_arms (h : (c.dw 2).toNat = 0 ∨ (1000 ≤ (c.dw 2).toNat ∧ (c.dw 2).toNat < 2 ^ 48)) :
    cmdTriggerArm c s = (s.setCmp (Fin.ofNat 8 (bits (c.dw 0) 2 0)) (fun d => { d with armed := true, value := (c.dw 1).toNat
                                                                                       period := (c.dw 2).toNat, fired := 0
                                                                                       passed := decide (((c.dw 1).toNat : Int) ≤ s.now) }), okResp) := by
  refine if_neg ?_
  omega

/-- Disarming forgets the commits that wait for the trigger (R545). -/
theorem State.dropSched_print (n : CmpNo) :
    (s.dropSched n).print = { s.print with sched := s.print.sched.filter (fun w => w.trigger != n) } := by
  unfold State.dropSched
  dsimp only
  exact foldl_same State.print _ (fun t c => State.respond_print ..) _ _

theorem State.start_now : (s.start c).now = s.now := congrArg (fun t : TimePart => t.correct t.raw) (State.start_time s c)

theorem State.start_batch : (s.start c).host.batch = s.host.batch :=
  s.start_keeps c (fun t => t.host.batch) (fun _ _ => rfl) (fun _ _ => rfl)

/-! ### COMPARE_TRIGGER (R497 to R499) -/

/-- What the trigger itself becomes as it fires (R497, R498). -/
theorem CmpTrigger.next_fires (d : CmpTrigger) (now : Int) : (d.next now).fired = d.fired + 1 ∧ (d.next now).late = (d.late || d.passed) ∧
    (d.next now).passed = false ∧ (d.next now).period = d.period ∧
    (d.period = 0 → (d.next now).armed = false ∧ (d.next now).value = d.value) ∧
    (d.period ≠ 0 → (d.next now).armed = d.armed ∧ (d.next now).value = d.value + ((now - d.value).toNat / d.period + 1) * d.period) := by
  unfold CmpTrigger.next
  dsimp only
  by_cases h : d.period = 0
  · rw [if_pos h]
    exact ⟨rfl, rfl, rfl, rfl, fun _ => ⟨rfl, rfl⟩, fun hn => absurd h hn⟩
  · rw [if_neg h]
    exact ⟨rfl, rfl, rfl, rfl, fun hz => absurd hz h, fun _ => ⟨rfl, rfl⟩⟩

/-- A periodic trigger moves by whole periods to the first value above T (R497). -/
theorem nextValue_first {v p : Nat} {now : Int} (hp : p ≠ 0) (hv : (v : Int) ≤ now) :
    now < ((v + ((now - v).toNat / p + 1) * p : Nat) : Int) ∧ ((v + ((now - v).toNat / p + 1) * p : Nat) : Int) ≤ now + p := by
  have h1 := Nat.div_add_mod (now - v).toNat p
  have h2 := Nat.mod_lt (now - v).toNat (Nat.pos_of_ne_zero hp)
  have h3 : ((now - v).toNat / p + 1) * p = p * ((now - v).toNat / p) + p := by rw [Nat.add_mul, Nat.one_mul, Nat.mul_comm]
  rw [h3]
  omega

/-- What a trigger that fires moves: itself, the moves that wait for it, and the commits that wait for it (R339, R497 to R499). -/
theorem State.fireTrigger_fires (n : CmpNo) : (s.fireTrigger n).time = (s.setCmp n (fun d => { d.next s.now with missed := (d.next s.now).missed || s.camMissed n })).time ∧
    (s.fireTrigger n).motion = (s.releaseMoves n).motion ∧
    (s.fireTrigger n).print.sched = s.print.sched.filter (fun w => w.trigger != n) := by
  unfold State.fireTrigger
  dsimp only
  generalize hs1 : (s.setCmp n _).irq (10 + n.val) = s1
  generalize hs2 : (if s.time.triggers[n].passed = true then s1.raiseF .tbTriggerLate (triggerDetail n s.time.triggers[n].value) else s1) = s2
  generalize hs3 : (if s.camMissed n = true then s2.raiseF .tbTriggerMissed (triggerDetail n s.time.triggers[n].value) else s2) = s3
  have h3 : s3.time = s1.time ∧ s3.motion = s1.motion ∧ s3.print = s1.print := by
    rw [← hs3, ← hs2]
    by_cases hm : s.camMissed n = true
    · rw [if_pos hm, State.raiseF_time, State.raiseF_motion, State.raiseF_print]
      by_cases hp : s.time.triggers[n].passed = true
      · rw [if_pos hp, State.raiseF_time, State.raiseF_motion, State.raiseF_print]
        exact ⟨rfl, rfl, rfl⟩
      · rw [if_neg hp]
        exact ⟨rfl, rfl, rfl⟩
    · rw [if_neg hm]
      by_cases hp : s.time.triggers[n].passed = true
      · rw [if_pos hp, State.raiseF_time, State.raiseF_motion, State.raiseF_print]
        exact ⟨rfl, rfl, rfl⟩
      · rw [if_neg hp]
        exact ⟨rfl, rfl, rfl⟩
  obtain ⟨ht, hm, hp⟩ := h3
  rw [State.runSched_time, State.camTimeStart_time, State.releaseMoves_time, State.runSched_motion, State.camTimeStart_motion, ht]
  refine ⟨?_, ?_, ?_⟩
  · rw [← hs1, State.irq_time]
  · unfold State.releaseMoves
    dsimp only
    rw [hm, ← hs1, State.irq_motion]
    rfl
  · unfold State.runSched
    dsimp only
    refine (foldl_same (fun t : State => t.print.sched) _ (fun t d => ?_) _ _).trans ?_
    · rw [State.respond_print, State.commit_printSched]
    · rw [State.camTimeStart_print, State.releaseMoves_print, hp, ← hs1, State.irq_print]
      rfl

/-- Reaching a later instant moves of the timebase the raw counter alone (R493). -/
theorem State.reach_time (a : Word) : (s.reach a).time = { s.time with raw := (s.reach a).time.raw } := by
  unfold State.reach
  split
  · rfl
  · rfl

theorem State.reach_quiet (hq : s.quiet) (a : Word) : (s.reach a).quiet := (congrArg (fun h : HostPart => h.batch = []) (State.reach_host s a)).mpr hq

theorem State.reach_done (hq : s.quiet) (a : Word) : (s.reach a).done = .next (s.reach a) := State.done_quiet _ (State.reach_quiet hq a)

theorem execCompareTrigger_waits (n : CmpNo) (a : Word) (hq : s.quiet)
    (h : s.time.triggers[n].armed = false ∨ (s.reach a).now < (s.time.triggers[n].value : Int)) :
    exec (.compareTrigger n a) s = .next (s.reach a) := by
  refine Eq.trans (b := (s.reach a).done) (if_neg ?_) (State.reach_done hq a)
  rw [State.reach_time, Bool.and_eq_true, decide_eq_true_eq]
  rintro ⟨ha, hv⟩
  rcases h with h | h
  · exact absurd (h.symm.trans ha) Bool.false_ne_true
  · exact absurd hv (Int.not_le.mpr h)

theorem execCompareTrigger_fires (n : CmpNo) (a : Word) (ha : s.time.triggers[n].armed = true)
    (hv : (s.time.triggers[n].value : Int) ≤ (s.reach a).now) : exec (.compareTrigger n a) s = .next ((s.reach a).fireTrigger n).settle := by
  refine if_pos ?_
  rw [State.reach_time, Bool.and_eq_true, decide_eq_true_eq]
  exact ⟨ha, hv⟩

/-- COMPARE_TRIGGER (R497 to R499). -/
theorem compareTrigger_holds (s : State) (n : CmpNo) (a : Word) :
    let r := s.reach a
    let c := s.time.triggers[n]
    (s.quiet → (c.armed = false ∨ r.now < (c.value : Int)) → exec (.compareTrigger n a) s = .next r) ∧
    (c.armed = true → (c.value : Int) ≤ r.now → ∃ t : State, exec (.compareTrigger n a) s = .next t ∧
      t.time.triggers[n].fired = c.fired + 1 ∧ t.time.triggers[n].late = (c.late || c.passed) ∧ t.time.triggers[n].passed = false ∧
      t.time.triggers[n].period = c.period ∧
      (c.period = 0 → t.time.triggers[n].armed = false ∧ t.time.triggers[n].value = c.value) ∧
      (c.period ≠ 0 → t.time.triggers[n].armed = true ∧ r.now < (t.time.triggers[n].value : Int) ∧
        (t.time.triggers[n].value : Int) ≤ r.now + c.period ∧ ∃ k, t.time.triggers[n].value = c.value + k * c.period) ∧
      (∀ m : CmpNo, m ≠ n → t.time.triggers[m] = s.time.triggers[m]) ∧
      t.motion = (r.releaseMoves n).motion ∧ t.print.sched = s.print.sched.filter (fun w => w.trigger != n)) := by
  refine ⟨fun hq h => execCompareTrigger_waits n a hq h, fun ha hv => ⟨_, execCompareTrigger_fires n a ha hv, ?_⟩⟩
  obtain ⟨ht, hm, hp⟩ := State.fireTrigger_fires (s := s.reach a) n
  have hsame (m : CmpNo) : (s.reach a).time.triggers[m] = s.time.triggers[m] := by rw [State.reach_time]
  have hn : ((s.reach a).fireTrigger n).settle.time.triggers[n] =
      { s.time.triggers[n].next (s.reach a).now with missed := (s.time.triggers[n].next (s.reach a).now).missed || (s.reach a).camMissed n } := by
    rw [State.settle_time, ht, State.setCmp_get, if_pos rfl, hsame]
  obtain ⟨h1, h2, h3, h4, h5, h6⟩ := CmpTrigger.next_fires s.time.triggers[n] (s.reach a).now
  rw [hn]
  refine ⟨h1, h2, h3, h4, h5, fun hz => ?_, fun m hmn => ?_, ?_, ?_⟩
  · obtain ⟨harmed, hval⟩ := h6 hz
    dsimp only
    rw [hval]
    obtain ⟨g1, g2⟩ := nextValue_first hz hv
    exact ⟨harmed.trans ha, g1, g2, _, rfl⟩
  · rw [State.settle_time, ht, State.setCmp_get, if_neg (Ne.symm hmn), hsame]
  · rw [State.settle_motion, hm]
  · rw [State.settle_print, hp, State.reach_print]

/-! ### PPS (R504) -/

/-- The time master does not depend on what is captured. -/
theorem State.isMaster_congr {t : State} (hf : t.fab = s.fab) (hm : t.time.master = s.time.master) : t.isMaster = s.isMaster := by
  unfold State.isMaster
  rw [hf, hm]

/-- Steering moves RATE within its bound, and begins it at this instant (R494, R495). -/
theorem State.steer_time : s.steer.time.capture = s.time.capture ∧ s.steer.time.ppsSecond = s.time.ppsSecond ∧
    s.steer.time.raw = s.time.raw ∧ s.steer.time.epoch = s.time.raw ∧ s.steer.time.rate.natAbs ≤ 2147484 := by
  unfold State.steer
  generalize s.free.toInt % (2 * rateLimit + 1) - rateLimit = v
  dsimp only
  have hr : (clampTo rateLimit v).natAbs ≤ 2147484 := clampTo_natAbs 2147484 v
  generalize hu : (s.drew.setRate v).drew = u
  have ht : u.time.capture = s.time.capture ∧ u.time.ppsSecond = s.time.ppsSecond ∧ u.time.raw = s.time.raw ∧ u.time.epoch = s.time.raw ∧
      u.time.rate = clampTo rateLimit v := by
    rw [← hu]
    exact ⟨rfl, rfl, rfl, rfl, rfl⟩
  obtain ⟨h1, h2, h3, h4, h5⟩ := ht
  split
  · obtain ⟨g1, g2, g3, g4, g5, -⟩ := State.stepTime_time (s := u) (s.drew.setRate v).free.toInt
    exact ⟨g4.trans h1, g5.trans h2, g3.trans h3, g2.trans h4, by rw [g1, h5]; exact hr⟩
  · exact ⟨h1, h2, h3, h4, by rw [h5]; exact hr⟩

/-- The edge of PPS_IN captures the raw counter, and its second has passed (R504). -/
def State.ppsCaptured (s : State) : State :=
  { s with time := { s.time with capture := s.time.raw, ppsSecond := s.time.ppsSecond.map (fun n => (n + 1) % 2 ^ 48) } }

section Pps

variable (a : Word)

/-- Whether this device steers is judged as it stood before the edge. -/
theorem State.ppsCaptured_master : ((s.reach a).ppsCaptured.time.pps && (s.reach a).ppsCaptured.isMaster) = (s.time.pps && s.isMaster) := by
  have ht := State.reach_time (s := s) a
  have hp : (s.reach a).ppsCaptured.time.pps = s.time.pps := (congrArg TimePart.pps ht :)
  have hm : (s.reach a).ppsCaptured.isMaster = s.isMaster := State.isMaster_congr (State.reach_fab s a) (congrArg TimePart.master ht :)
  rw [hp, hm]

theorem State.ppsCaptured_second : (s.reach a).ppsCaptured.time.ppsSecond = s.time.ppsSecond.map (fun n => (n + 1) % 2 ^ 48) :=
  congrArg (Option.map fun n => (n + 1) % 2 ^ 48) (congrArg TimePart.ppsSecond (State.reach_time (s := s) a) :)

theorem execPpsInEdge_captures (hq : s.quiet) (h : (s.time.pps && s.isMaster) = false) : exec (.ppsInEdge a) s =
    .next { s.reach a with time := { (s.reach a).time with capture := (s.reach a).time.raw
                                                           ppsSecond := s.time.ppsSecond.map (fun n => (n + 1) % 2 ^ 48) } } := by
  have hx : exec (.ppsInEdge a) s = (s.reach a).ppsCaptured.done := by
    refine if_neg (c := ((s.reach a).ppsCaptured.time.pps && (s.reach a).ppsCaptured.isMaster) = true) ?_
    rw [State.ppsCaptured_master, h]
    exact Bool.false_ne_true
  refine hx.trans ((State.done_quiet (s.reach a).ppsCaptured (State.reach_quiet hq a)).trans ?_)
  rw [← State.ppsCaptured_second a]
  rfl

theorem execPpsInEdge_steers (h : (s.time.pps && s.isMaster) = true) : ∃ t : State, exec (.ppsInEdge a) s = .next t ∧
    t.time.capture = (s.reach a).time.raw ∧ t.time.ppsSecond = s.time.ppsSecond.map (fun n => (n + 1) % 2 ^ 48) ∧
    t.time.raw = (s.reach a).time.raw ∧ t.time.epoch = (s.reach a).time.raw ∧ t.time.rate.natAbs ≤ 2147484 ∧ t.print = s.print := by
  have hx : exec (.ppsInEdge a) s = (s.reach a).ppsCaptured.steer.done := by
    refine if_pos (c := ((s.reach a).ppsCaptured.time.pps && (s.reach a).ppsCaptured.isMaster) = true) ?_
    rw [State.ppsCaptured_master, h]
  obtain ⟨g1, g2, g3, g4, g5⟩ := State.steer_time (s := (s.reach a).ppsCaptured)
  refine ⟨_, hx, ?_⟩
  rw [State.settle_time, State.settle_print, State.steer_print]
  exact ⟨g1, g2.trans (State.ppsCaptured_second a), g3, g4, g5, State.reach_print s a⟩

theorem execPpsOutSecond_rises (hq : s.quiet) : (s.time.ppsEnable = false → exec (.ppsOutSecond a) s = .next (s.reach a)) ∧
    (s.time.ppsEnable = true → exec (.ppsOutSecond a) s = .next { s.reach a with time := { (s.reach a).time with ppsOut := true } }) := by
  have ht : (s.reach a).time.ppsEnable = s.time.ppsEnable := by rw [State.reach_time]
  refine ⟨fun h => ?_, fun h => ?_⟩
  · exact (if_neg (by rw [ht, h]; exact Bool.false_ne_true)).trans (State.reach_done hq a)
  · exact (if_pos (ht.trans h)).trans (State.done_quiet _ (State.reach_quiet hq a))

end Pps

/-- Settles O49: the four commands, the triggers that fire, and PPS. -/
theorem triggersPpsAndTimeCommands : Obligations.TriggersPpsAndTimeCommands := by
  unfold Obligations.TriggersPpsAndTimeCommands
  refine ⟨⟨fun s c hr => ?_, fun s c hr => ?_, fun s c hr => ?_, fun s c hr => ?_⟩, compareTrigger_holds, fun s a hq =>
    ⟨execPpsInEdge_captures a hq, execPpsInEdge_steers a, (execPpsOutSecond_rises a hq).1, (execPpsOutSecond_rises a hq).2, State.done_quiet _ hq⟩⟩
  · refine ⟨fun h => command_replyAtStart (f := cmdTriggerArm) rfl hr (if_pos h), fun h => ?_⟩
    refine ⟨_, command_replyAtStart (f := cmdTriggerArm) rfl hr (cmdTriggerArm_arms h), ?_, fun m hm => ?_, ?_, State.start_print s c⟩
    · rw [State.setCmp_get, if_pos rfl, State.start_now, State.start_time]
    · rw [State.setCmp_get, if_neg (Ne.symm hm), State.start_time]
    · exact State.start_now
  · have hx : cmdTriggerDisarm c (s.start c) = (((s.start c).setCmp (Fin.ofNat 8 (c.argBits 2 0)) (fun d => { d with armed := false, passed := false })).dropSched
        (Fin.ofNat 8 (c.argBits 2 0)), some (Code.ok, low40 s.time.triggers[(Fin.ofNat 8 (c.argBits 2 0) : CmpNo)].fired.toNat)) := by
      unfold cmdTriggerDisarm
      dsimp only
      rw [State.start_time]
      rfl
    refine ⟨_, command_replyAtStart (f := cmdTriggerDisarm) rfl hr hx, ?_, fun m hm => ?_, ?_⟩
    · rw [State.dropSched_time, State.setCmp_get, if_pos rfl, State.start_time]
    · rw [State.dropSched_time, State.setCmp_get, if_neg (Ne.symm hm), State.start_time]
    · rw [State.dropSched_print]
      exact congrArg (fun q : PrintPart => { q with sched := q.sched.filter (fun w => w.trigger != Fin.ofNat 8 (c.argBits 2 0)) }) (State.start_print s c)
  · refine ⟨fun h hs => command_replyAtStart (f := cmdTimeStep) rfl hr (cmdTimeStep_refuses h ((congrArg PrintPart.started (State.start_print s c)).trans hs)), fun h => ?_⟩
    refine ⟨_, command_replyAtStart (f := cmdTimeStep) rfl hr (cmdTimeStep_steps (by rw [State.start_print]; exact h)), ?_⟩
    obtain ⟨g1, g2, g3, -, -, g6, g7⟩ := State.stepTime_time (s := s.start c) (c.dw 0).toInt
    rw [State.start_time] at g1 g2 g3 g6 g7
    refine ⟨g7, g1, g2, g3, g6, fun hv => ?_, ?_⟩
    · exact (State.stepTime_batch hv).trans (by rw [State.start_batch])
    · rw [State.stepTime_print, State.start_print]
  · refine ⟨_, command_replyAtStart (f := cmdPpsSecond) rfl hr rfl, ?_, State.start_print s c⟩
    exact congrArg (fun t : TimePart => { t with ppsSecond := some c.arg.toNat }) (State.start_time s c)

end Sys2Proof.Machine
end

section
/-!
SUPPORT. Network time: exchanges with the time master, the servo and the states of a follower (R500 to R503).
-/

namespace Sys2Proof.Machine

variable {s : State}

/-! ### TIME_REQ_SEND and TIME_REQ (R500, R501) -/

/-- The time of a device that looks whether it is the master (R500). -/
theorem State.masterCheck_time : (s.isMaster = true → s.masterCheck.time.sync = .master) ∧
    (s.isMaster = false → s.masterCheck.time.sync = if s.time.sync = .master then .free else s.time.sync) ∧
    ∃ y b g, s.masterCheck.time = { s.time with sync := y, best := b, goodSecs := g } := by
  unfold State.masterCheck
  cases hm : s.isMaster with
  | true =>
    rw [if_pos rfl]
    by_cases h : s.time.sync = .master
    · rw [if_pos h]
      exact ⟨fun _ => h, fun hf => absurd hf.symm Bool.false_ne_true, _, _, _, rfl⟩
    · rw [if_neg h, State.raiseF_time]
      exact ⟨fun _ => rfl, fun hf => absurd hf.symm Bool.false_ne_true, _, _, _, rfl⟩
  | false =>
    rw [if_neg Bool.false_ne_true]
    by_cases h : s.time.sync = .master
    · rw [if_pos h, if_pos h]
      exact ⟨fun hf => absurd hf Bool.false_ne_true, fun _ => rfl, _, _, _, rfl⟩
    · rw [if_neg h, if_neg h]
      exact ⟨fun hf => absurd hf Bool.false_ne_true, fun _ => rfl, _, _, _, rfl⟩

theorem State.timeMaster_congr {t : State} (hf : t.fab = s.fab) (hm : t.time.master = s.time.master) : t.timeMaster = s.timeMaster := by
  unfold State.timeMaster
  rw [hf, hm]

/-- A request leaves a follower that knows its master and is awake (R501, R503). -/
def State.sendReq (s : State) : State :=
  if s.time.sync == .master || s.timeMaster == 0 || s.sys.power == .dormant then s
  else ({ s with time := { s.time with reqSeq := s.time.reqSeq + 1, lastReq := some (s.time.reqSeq, s.time.raw) } } : State).fabSend 10 s.timeMaster
    [word [1, fld 16 16 s.time.reqSeq.toNat], BitVec.ofInt 64 s.now, 0, 0]

theorem State.sendReq_print : s.sendReq.print = s.print := by
  unfold State.sendReq
  split
  · rfl
  · exact State.fabSend_print ..

theorem State.sendReq_stays (h : s.time.sync = .master ∨ s.timeMaster = 0 ∨ s.sys.power = .dormant) : s.sendReq = s := by
  refine if_pos ?_
  rcases h with h | h | h
  · simp [h]
  · simp [h]
  · simp [h]

theorem State.sendReq_sends (h1 : s.time.sync ≠ .master) (h2 : s.timeMaster ≠ 0) (h3 : s.sys.power ≠ .dormant) :
    s.sendReq.time = { s.time with reqSeq := s.time.reqSeq + 1, lastReq := some (s.time.reqSeq, s.time.raw) } := by
  unfold State.sendReq
  rw [if_neg (by simpa [h1, h3] using h2), State.fabSend_time]

/-- A request moves of the timebase what belongs to it. -/
theorem State.sendReq_time : ∃ n l, s.sendReq.time = { s.time with reqSeq := n, lastReq := l } := by
  unfold State.sendReq
  split
  · exact ⟨_, _, rfl⟩
  · exact ⟨_, _, State.fabSend_time ..⟩

theorem execTimeReqSend_eq (a : Word) : exec (.timeReqSend a) s = .next (s.reach a).masterCheck.sendReq.settle := by
  refine Eq.trans (b := execTimeReqSend a s) rfl ?_
  unfold execTimeReqSend State.sendReq
  dsimp only
  split
  · rfl
  · rfl

/-- TIME_REQ_SEND (R501, R503). -/
theorem timeReqSend_holds (s : State) (a : Word) : ∃ t : State, exec (.timeReqSend a) s = .next t ∧ t.print = s.print ∧ t.time.rate = s.time.rate ∧
    t.time.offset = s.time.offset ∧
    (s.isMaster = true → t.time.sync = .master ∧ t.time.reqSeq = s.time.reqSeq ∧ t.time.lastReq = s.time.lastReq) ∧
    (s.isMaster = false → t.time.sync = (if s.time.sync = .master then .free else s.time.sync) ∧
      ((s.timeMaster = 0 ∨ s.sys.power = .dormant) → t.time.reqSeq = s.time.reqSeq ∧ t.time.lastReq = s.time.lastReq) ∧
      (s.timeMaster ≠ 0 → s.sys.power ≠ .dormant → t.time.reqSeq = s.time.reqSeq + 1 ∧
        t.time.lastReq = some (s.time.reqSeq, (s.reach a).time.raw))) := by
  obtain ⟨hyes, hno, y, b, g, ht⟩ := State.masterCheck_time (s := s.reach a)
  have hr := State.reach_time (s := s) a
  have hmaster : (s.reach a).isMaster = s.isMaster := State.isMaster_congr (State.reach_fab s a) (by rw [hr])
  rw [hmaster] at hyes hno
  have hsys : (s.reach a).masterCheck.sys = s.sys := (State.masterCheck_sys _).trans (State.reach_sys s a)
  have htm : (s.reach a).masterCheck.timeMaster = s.timeMaster :=
    State.timeMaster_congr ((State.masterCheck_fab _).trans (State.reach_fab s a)) (by rw [ht, hr])
  have hprint : (s.reach a).masterCheck.print = s.print := (State.masterCheck_print _).trans (State.reach_print s a)
  generalize hu : (s.reach a).masterCheck = u at hyes hno ht hsys htm hprint
  have hx := execTimeReqSend_eq (s := s) a
  rw [hu] at hx
  refine ⟨_, hx, ?_⟩
  rw [State.settle_print, State.settle_time, State.sendReq_print]
  obtain ⟨n, l, hs⟩ := State.sendReq_time (s := u)
  have hsync : u.sendReq.time.sync = u.time.sync := by rw [hs]
  have hstays (h : u.time.sync = .master ∨ u.timeMaster = 0 ∨ u.sys.power = .dormant) :
      u.sendReq.time.reqSeq = s.time.reqSeq ∧ u.sendReq.time.lastReq = s.time.lastReq := by
    rw [State.sendReq_stays h, ht, hr]
    exact ⟨rfl, rfl⟩
  rw [hsync]
  refine ⟨hprint, ?_, ?_, fun h => ⟨hyes h, hstays (.inl (hyes h))⟩, fun h => ⟨?_, fun hn => hstays (.inr (by rw [htm, hsys]; exact hn)), fun h2 h3 => ?_⟩⟩
  · rw [hs, ht, hr]
  · rw [hs, ht, hr]
  · exact (hno h).trans (by rw [hr])
  · have hne : u.time.sync ≠ .master := by
      rw [hno h]
      split
      · exact TimeSync.noConfusion
      · assumption
    rw [State.sendReq_sends hne (by rw [htm]; exact h2) (by rw [hsys]; exact h3), ht]
    have hq : (s.reach a).time.reqSeq = s.time.reqSeq := by rw [hr]
    exact ⟨congrArg (· + 1) hq, congrArg (fun q => some (q, (s.reach a).time.raw)) hq⟩

/-- TIME_REQ: only the master answers (R501). -/
theorem timeReq_holds (s : State) (src : NodeNo) (w0 w1 a : Word) :
    let r := (s.reach a).takeFrame 10 [w0, w1, 0, 0]
    let now := BitVec.ofInt 64 (s.reach a).now
    (bits w0 3 0 = 1 → s.isMaster = true → exec (.timeReq src w0 w1 a) s =
      .next ((r.fabSend 10 src [word [2, fld 16 16 (bits w0 31 16)], w1, now, now]).settle)) ∧
    (s.quiet → (bits w0 3 0 ≠ 1 ∨ s.isMaster = false) → exec (.timeReq src w0 w1 a) s = .next r) := by
  have hr := State.reach_time (s := s) a
  have ht : ((s.reach a).takeFrame 10 [w0, w1, 0, 0]).time = (s.reach a).time := State.takeFrame_time ..
  have hmaster : ((s.reach a).takeFrame 10 [w0, w1, 0, 0]).isMaster = s.isMaster := by
    have hid := FabPart.config_fields (State.takeFrame_config (s := s.reach a) 10 [w0, w1, 0, 0]).1
    unfold State.isMaster
    rw [ht, hr, FabPart.isRoot_congr hid.1, hid.2.1, State.reach_fab]
  have hnow : ((s.reach a).takeFrame 10 [w0, w1, 0, 0]).now = (s.reach a).now := by
    unfold State.now
    rw [ht]
  refine ⟨fun h1 hm => ?_, fun hq h => ?_⟩
  · refine (if_pos ⟨h1, hmaster.trans hm⟩).trans ?_
    rw [hnow]
    rfl
  · refine (if_neg ?_).trans (State.takeFrame_done _ (State.reach_quiet hq a) ..)
    rintro ⟨h1, hm⟩
    rcases h with h | h
    · exact h h1
    · exact absurd (h.symm.trans (hmaster.symm.trans hm)) Bool.false_ne_true

/-! ### TIME_RESP (R501, R502) -/

/-- An answer gives an exchange when it is the one to the last request, within 10 ms (R501). -/
theorem State.usable_iff {w0 : Word} : s.usable w0 = true ↔ bits w0 3 0 = 2 ∧ ∃ q t0, s.time.lastReq = some (q, t0) ∧ bits w0 31 16 = q.toNat ∧
    (s.time.raw - t0).toNat ≤ 10000000 := by
  unfold State.usable
  cases hl : s.time.lastReq with
  | none => simp
  | some x =>
    obtain ⟨q, t0⟩ := x
    simp only [Bool.and_eq_true, beq_iff_eq, decide_eq_true_eq]
    refine ⟨fun ⟨⟨h1, h2⟩, h3⟩ => ⟨h1, q, t0, rfl, h2, h3⟩, fun ⟨h1, q', t', he, h2, h3⟩ => ?_⟩
    obtain ⟨rfl, rfl⟩ := Prod.mk.inj (Option.some.inj he)
    exact ⟨⟨h1, h2⟩, h3⟩

/-- The exchange of least δ of the second (R502). -/
def bestOf (best : Option (Int × Int)) (theta2 delta : Int) : Option (Int × Int) :=
  match best with
  | some b => if b.2 ≤ delta then some b else some (theta2, delta)
  | none => some (theta2, delta)

theorem bestOf_some (b : Int × Int) (theta2 delta : Int) : bestOf (some b) theta2 delta = if delta < b.2 then some (theta2, delta) else some b := by
  by_cases h : delta < b.2
  · rw [if_pos h]
    exact if_neg (Int.not_le.mpr h)
  · rw [if_neg h]
    exact if_pos (Int.not_lt.mp h)

theorem timeResp_holds (s : State) (src : NodeNo) (w0 w1 w2 w3 a : Word) (hq : s.quiet) :
    let r := (s.reach a).takeFrame 10 [w0, w1, w2, w3]
    let now := BitVec.ofInt 64 (s.reach a).now
    let theta2 := (w2 - w1).toInt + (w3 - now).toInt
    let delta := (now - w1).toInt - (w3 - w2).toInt
    let ok : Prop := bits w0 3 0 = 2 ∧ s.time.sync ≠ .master ∧ ∃ q t0, s.time.lastReq = some (q, t0) ∧ bits w0 31 16 = q.toNat ∧
      ((s.reach a).time.raw - t0).toNat ≤ 10000000
    (¬ ok → exec (.timeResp src w0 w1 w2 w3 a) s = .next r) ∧
    (ok → ∃ t : State, exec (.timeResp src w0 w1 w2 w3 a) s = .next t ∧ t.time.theta2 = theta2 ∧ t.print = s.print ∧
      t.time.offset = s.time.offset ∧ t.time.rate = s.time.rate ∧
      (s.time.best = none → t.time.best = some (theta2, delta)) ∧
      (∀ b, s.time.best = some b → t.time.best = (if delta < b.2 then some (theta2, delta) else some b))) := by
  have hr := State.reach_time (s := s) a
  have ht : ((s.reach a).takeFrame 10 [w0, w1, w2, w3]).time = (s.reach a).time := State.takeFrame_time ..
  have hprint : ((s.reach a).takeFrame 10 [w0, w1, w2, w3]).print = s.print := (State.takeFrame_print ..).trans (State.reach_print s a)
  have hnow : ((s.reach a).takeFrame 10 [w0, w1, w2, w3]).now = (s.reach a).now := by
    unfold State.now
    rw [ht]
  have hstay := State.takeFrame_done (s.reach a) (State.reach_quiet hq a) 10 [w0, w1, w2, w3]
  have husable := State.usable_iff (s := (s.reach a).takeFrame 10 [w0, w1, w2, w3]) (w0 := w0)
  have hl : (s.reach a).time.lastReq = s.time.lastReq := by rw [hr]
  have hy : (s.reach a).time.sync = s.time.sync := by rw [hr]
  rw [ht, hl] at husable
  dsimp only
  generalize hu : (s.reach a).takeFrame 10 [w0, w1, w2, w3] = u at ht hprint hnow hstay husable
  have hx : exec (.timeResp src w0 w1 w2 w3 a) s = if !u.usable w0 || u.time.sync == .master then u.done else
      ({ u with time := { u.time with theta2 := (w2 - w1).toInt + (w3 - BitVec.ofInt 64 u.now).toInt
                                      best := bestOf u.time.best ((w2 - w1).toInt + (w3 - BitVec.ofInt 64 u.now).toInt)
                                        ((BitVec.ofInt 64 u.now - w1).toInt - (w3 - w2).toInt) } } : State).done := by
    rw [← hu]
    rfl
  refine ⟨fun hno => ?_, fun ⟨h2, hm, hex⟩ => ?_⟩
  · refine hx.trans ((if_pos ?_).trans hstay)
    by_cases hm : s.time.sync = .master
    · simp [ht, hy, hm]
    · have hf : u.usable w0 = false := by
        rw [← Bool.not_eq_true]
        exact fun h => hno ⟨(husable.mp h).1, hm, (husable.mp h).2⟩
      simp [hf]
  · have hn : ¬(!u.usable w0 || u.time.sync == .master) = true := by
      rw [husable.mpr ⟨h2, hex⟩, ht, hy]
      simpa using hm
    refine ⟨_, hx.trans (if_neg hn), ?_⟩
    rw [State.settle_time, State.settle_print, hnow, ht, hr]
    refine ⟨rfl, hprint, rfl, rfl, fun hb => ?_, fun b hb => ?_⟩
    · dsimp only
      rw [hb]
      rfl
    · dsimp only
      rw [hb]
      exact bestOf_some ..

/-! ### The servo and the states of a follower (R502, R503) -/

/-- RATE begins anew at this instant, from the time reached (R495). -/
theorem State.setRate_time (r : Int) : (s.setRate r).time.epoch = s.time.raw ∧ (s.setRate r).time.rate = clampTo 2147484 r ∧
    (s.setRate r).time.integ = s.time.integ ∧ (s.setRate r).time.sync = s.time.sync ∧ (s.setRate r).time.goodSecs = s.time.goodSecs ∧
    (s.setRate r).time.raw = s.time.raw := ⟨rfl, rfl, rfl, rfl, rfl, rfl⟩

/-- A step moves of the timebase OFFSET and the triggers (R496). -/
theorem State.stepTime_fields (n : Int) : ∃ o l, (s.stepTime n).time = { s.time with offset := o, triggers := l } := by
  unfold State.stepTime
  split
  · exact ⟨_, _, rfl⟩
  · exact ⟨_, _, State.raiseF_time ..⟩

section Servo

variable (theta2 : Int)

/-- The servo steps, or cannot correct by RATE, outside STEP_LIMIT and before the first second (R502). -/
def State.mustStep (s : State) (theta2 : Int) : Prop := s.time.sync = .free ∨ (s.time.stepLimit : Int) < theta2.natAbs * 500

theorem State.servo_steps (h : s.mustStep theta2) (hp : 0 < theta2 ∨ s.print.started = false) :
    s.servo theta2 = (s.drew.stepTime (s.half theta2)).setRate (s.drew.stepTime (s.half theta2)).time.rate := by
  unfold State.servo
  refine (if_pos h).trans (if_pos ?_)
  rcases hp with hp | hp
  · exact .inl hp
  · exact .inr (by rw [hp]; rfl)

theorem State.servo_slows (h : s.mustStep theta2) (h0 : theta2 ≤ 0) (hs : s.print.started = true) : s.servo theta2 = s.setRate (-rateLimit) := by
  unfold State.servo
  refine (if_pos h).trans (if_neg ?_)
  rintro (hp | hp)
  · omega
  · rw [hs] at hp
    exact absurd hp (by decide)

theorem State.servo_steers (h : ¬ s.mustStep theta2) : s.servo theta2 =
    ({ s.drew with time := { s.time with integ := s.time.integ + theta2 } } : State).setRate
      (s.rateOf (clampTo 3200000 (theta2 * 4 + (s.time.integ + theta2)))) := by
  unfold State.servo
  exact if_neg h

/-- Whatever the servo does, RATE begins anew and the follower's state stays (R495, R502). -/
theorem State.servo_keeps : (s.servo theta2).time.epoch = s.time.raw ∧ (s.servo theta2).time.sync = s.time.sync ∧
    (s.servo theta2).time.goodSecs = s.time.goodSecs := by
  by_cases h : s.mustStep theta2
  · by_cases hp : 0 < theta2 ∨ s.print.started = false
    · rw [State.servo_steps theta2 h hp]
      obtain ⟨o, l, ht⟩ := State.stepTime_fields (s := s.drew) (s.half theta2)
      obtain ⟨h1, -, -, h4, h5, -⟩ := State.setRate_time (s := s.drew.stepTime (s.half theta2)) (s.drew.stepTime (s.half theta2)).time.rate
      rw [h1, h4, h5, ht]
      exact ⟨rfl, rfl, rfl⟩
    · rw [not_or] at hp
      rw [State.servo_slows theta2 h (Int.not_lt.mp hp.1) (by simpa using hp.2)]
      exact ⟨rfl, rfl, rfl⟩
  · rw [State.servo_steers theta2 h]
    exact ⟨rfl, rfl, rfl⟩

/-- The rate chosen is the exact quotient or the next above it, and is within the greatest RATE (R494, R502). -/
theorem State.rateOf_near (v : Int) : clampTo 3200000 v * 4294967296 / 32000000000 ≤ clampTo 2147484 (s.rateOf (clampTo 3200000 v)) ∧
    clampTo 2147484 (s.rateOf (clampTo 3200000 v)) ≤ clampTo 3200000 v * 4294967296 / 32000000000 + 1 := by
  have hv := clampTo_natAbs 3200000 v
  unfold State.rateOf
  dsimp only
  generalize hx : clampTo 3200000 v = x
  rw [show ((3200000 : Nat) : Int) = 3200000 from rfl, hx] at hv
  have he : (if x * 4294967296 % 32000000000 = 0 then (0 : Int) else ((s.free.toNat % 2 : Nat) : Int)) = 0 ∨
      (if x * 4294967296 % 32000000000 = 0 then (0 : Int) else ((s.free.toNat % 2 : Nat) : Int)) = 1 := by
    split
    · exact .inl rfl
    · omega
  generalize (if x * 4294967296 % 32000000000 = 0 then (0 : Int) else ((s.free.toNat % 2 : Nat) : Int)) = e at he
  unfold clampTo
  omega

end Servo

/-- The follower's state after a second with an exchange (R503). -/
theorem State.lockCheck_time (theta2 : Int) (hm : s.time.sync ≠ .master) :
    let good := if theta2.natAbs ≤ 2000 then min 4 (s.time.goodSecs + 1) else 0
    (s.lockCheck theta2).time = { s.time with
      goodSecs := good, best := none, sync := if s.time.sync = .locked then .locked else if good = 4 then .locked else .converging } := by
  dsimp only
  unfold State.lockCheck
  dsimp only
  generalize (if theta2.natAbs ≤ 2000 then min 4 (s.time.goodSecs + 1) else 0) = n
  cases hs : s.time.sync with
  | master => exact absurd hs hm
  | free =>
    by_cases hn : n = 4
    · rw [if_pos ⟨hn, rfl⟩, State.raiseF_time, if_neg (c := TimeSync.free = .locked) (by decide), if_pos hn]
    · rw [if_neg fun h => hn h.1, if_neg (c := TimeSync.free = .locked) (by decide), if_neg hn]
      rfl
  | converging =>
    by_cases hn : n = 4
    · rw [if_pos ⟨hn, rfl⟩, State.raiseF_time, if_neg (c := TimeSync.converging = .locked) (by decide), if_pos hn]
    · rw [if_neg fun h => hn h.1, if_neg (c := TimeSync.converging = .locked) (by decide), if_neg hn]
      rfl
  | locked =>
    rw [if_neg (c := n = 4 ∧ _) fun h => absurd h.2 (by decide)]
    rfl

/-- With the timebase begun anew, the time is what it was (R493, R495). -/
theorem State.setRate_now (r : Int)
    (h : s.time.offset + (s.time.rate * ((s.time.raw.toNat : Int) - s.time.epoch.toNat)) / 4294967296 =
      wrap64 (s.time.offset + (s.time.rate * ((s.time.raw.toNat : Int) - s.time.epoch.toNat)) / 4294967296)) : (s.setRate r).now = s.now := by
  unfold State.now TimePart.correct
  have h1 : (s.setRate r).time.offset = wrap64 (s.time.offset + (s.time.rate * ((s.time.raw.toNat : Int) - s.time.epoch.toNat)) / 4294967296) := rfl
  have h2 : (s.setRate r).time.raw = s.time.raw := rfl
  have h3 : (s.setRate r).time.epoch = s.time.raw := rfl
  rw [h1, h2, h3, ← h, Int.sub_self, Int.mul_zero]
  omega

/-- A second with an exchange (R502, R503). -/
theorem timeServo_holds (s : State) (a : Word) (theta2 delta : Int) (hm : s.time.sync ≠ .master) (hb : s.time.best = some (theta2, delta)) :
    let steps : Prop := s.time.sync = .free ∨ (s.time.stepLimit : Int) < theta2.natAbs * 500
    let good := if theta2.natAbs ≤ 2000 then min 4 (s.time.goodSecs + 1) else 0
    ∃ t : State, exec (.timeServo a) s = .next t ∧ t.print = s.print ∧ t.time.best = none ∧ t.time.goodSecs = good ∧
      t.time.epoch = (s.reach a).time.raw ∧
      t.time.sync = (if s.time.sync = .locked then .locked else if good = 4 then .locked else .converging) ∧
      (steps → (0 < theta2 ∨ s.print.started = false) → t.time.rate = clampTo 2147484 s.time.rate ∧ t.time.integ = s.time.integ) ∧
      (steps → theta2 ≤ 0 → s.print.started = true → t.time.rate = -2147484 ∧ t.time.integ = s.time.integ ∧
        (let x := s.time.offset + (s.time.rate * (((s.reach a).time.raw.toNat : Int) - s.time.epoch.toNat)) / 4294967296
         x = wrap64 x → t.now = (s.reach a).now)) ∧
      (¬ steps → t.time.integ = s.time.integ + theta2 ∧
        let n := clampTo 3200000 (4 * theta2 + t.time.integ) * 4294967296
        n / 32000000000 ≤ t.time.rate ∧ t.time.rate ≤ n / 32000000000 + 1) := by
  have hr := State.reach_time (s := s) a
  have hpr : (s.reach a).print = s.print := State.reach_print s a
  generalize hu : s.reach a = u at hr hpr
  have hmust : u.mustStep theta2 ↔ (s.time.sync = .free ∨ (s.time.stepLimit : Int) < theta2.natAbs * 500) := by
    unfold State.mustStep
    rw [hr]
  have hx : exec (.timeServo a) s = .next ((u.servo theta2).lockCheck theta2).settle := by
    have hy : u.time.best = some (theta2, delta) := by rw [hr]; exact hb
    refine Eq.trans (b := execTimeServo a s) rfl ?_
    unfold execTimeServo
    rw [hu]
    dsimp only
    rw [if_neg (by rw [hr]; exact hm), hy]
    rfl
  obtain ⟨k1, k2, k3⟩ := State.servo_keeps (s := u) theta2
  have hm' : (u.servo theta2).time.sync ≠ .master := by
    rw [k2, hr]
    exact hm
  have hl := State.lockCheck_time (s := u.servo theta2) theta2 hm'
  dsimp only at hl
  rw [← State.settle_time, k2, k3] at hl
  have hsync : u.time.sync = s.time.sync := by rw [hr]
  have hgood : u.time.goodSecs = s.time.goodSecs := by rw [hr]
  have hrate : u.time.rate = s.time.rate := by rw [hr]
  have hinteg : u.time.integ = s.time.integ := by rw [hr]
  rw [hsync, hgood] at hl
  have hw : ((u.servo theta2).lockCheck theta2).settle.print = s.print := by
    rw [State.settle_print, State.lockCheck_print, State.servo_print, hpr]
  generalize ((u.servo theta2).lockCheck theta2).settle = w at hx hl hw
  have hnow : w.now = (u.servo theta2).now := by
    unfold State.now
    rw [hl]
    rfl
  refine ⟨w, hx, hw, ?_⟩
  rw [hl]
  refine ⟨rfl, rfl, k1, rfl, fun hst hp => ?_, fun hst h0 hs => ?_, fun hst => ?_⟩
  · rw [State.servo_steps theta2 (hmust.mpr hst) (by rw [hpr]; exact hp)]
    obtain ⟨o, l, ht⟩ := State.stepTime_fields (s := u.drew) (u.half theta2)
    obtain ⟨-, h2, h3, -⟩ := State.setRate_time (s := u.drew.stepTime (u.half theta2)) (u.drew.stepTime (u.half theta2)).time.rate
    dsimp only
    rw [h2, h3, ht, ← hrate, ← hinteg]
    exact ⟨rfl, rfl⟩
  · have hsv := State.servo_slows theta2 (hmust.mpr hst) h0 (by rw [hpr]; exact hs)
    rw [hnow, hsv, ← hinteg]
    refine ⟨rfl, rfl, ?_⟩
    dsimp only
    intro hwrap
    refine State.setRate_now _ ?_
    have ho : u.time.offset = s.time.offset := by rw [hr]
    have he : u.time.epoch = s.time.epoch := by rw [hr]
    rw [ho, hrate, he]
    exact hwrap
  · rw [State.servo_steers theta2 (fun h => hst (hmust.mp h)), ← hinteg]
    have hc : 4 * theta2 + (u.time.integ + theta2) = theta2 * 4 + (u.time.integ + theta2) := by rw [Int.mul_comm]
    refine ⟨rfl, ?_⟩
    dsimp only
    have hn := State.rateOf_near (s := u) (theta2 * 4 + (u.time.integ + theta2))
    rw [← hc] at hn ⊢
    exact hn

theorem execTimeServo_alone (a : Word) (hq : s.quiet) (hm : s.time.sync ≠ .master) (hb : s.time.best = none) :
    exec (.timeServo a) s = .next { s.reach a with time := { (s.reach a).time with goodSecs := 0 } } := by
  have hr := State.reach_time (s := s) a
  have hs : (s.reach a).time.sync ≠ .master := by rw [hr]; exact hm
  have hy : (s.reach a).time.best = none := by rw [hr]; exact hb
  refine Eq.trans (b := execTimeServo a s) rfl ?_
  unfold execTimeServo
  dsimp only
  rw [if_neg hs, hy]
  exact State.done_quiet _ (State.reach_quiet hq a)

theorem execTimeLost_frees (h : s.time.sync = .converging ∨ s.time.sync = .locked) : ∃ t : State, exec .timeLost s = .next t ∧
    t.time = { s.time with sync := .free, goodSecs := 0 } ∧ t.print = s.print := by
  refine ⟨_, if_pos h, ?_, ?_⟩
  · rw [State.settle_time, State.raiseF_time]
  · rw [State.settle_print, State.raiseF_print]

/-- Settles O50: the exchanges, the servo and the states of a follower. -/
theorem networkTimeFollowsTheMaster : Obligations.NetworkTimeFollowsTheMaster := by
  unfold Obligations.NetworkTimeFollowsTheMaster
  refine ⟨timeReqSend_holds, timeReq_holds, timeResp_holds, fun s a hq hm => ?_, fun s a hq hm hb => execTimeServo_alone a hq hm hb,
    timeServo_holds, fun s => ⟨fun hq h => ?_, execTimeLost_frees⟩⟩
  · refine (if_pos ?_).trans (State.reach_done hq a)
    rw [State.reach_time]
    exact hm
  · refine (if_neg ?_).trans (State.done_quiet s hq)
    rcases h with h | h
    · simp [h]
    · simp [h]

end Sys2Proof.Machine
end

section
/-!
SUPPORT. MOVE, STOP and HOME (R335 to R347): who is blocked, and what a command that is taken sets.
-/

namespace Sys2Proof.Machine

variable {s : State} {c : Cmd} {a : AxisNo}

/-! ### Who is blocked (R325, R332, R340, R343, R344, R352) -/

theorem State.setAxis_get (a b : AxisNo) (f : AxisState → AxisState) :
    (s.setAxis a f).motion.axes[b] = if a = b then f s.motion.axes[b] else s.motion.axes[b] := upd_fin ..

theorem State.setAxis_same (a : AxisNo) (f : AxisState → AxisState) : (s.setAxis a f).motion.axes[a] = f s.motion.axes[a] :=
  (State.setAxis_get a a f).trans (if_pos rfl)

theorem State.setAxis_other {a b : AxisNo} (h : b ≠ a) (f : AxisState → AxisState) : (s.setAxis a f).motion.axes[b] = s.motion.axes[b] :=
  (State.setAxis_get a b f).trans (if_neg (Ne.symm h))

/-- What an axis is blocked by depends on motion, printing, the switch sets and a free value alone. -/
theorem State.axisBlocked_congr {t : State} (hm : t.motion = s.motion) (hp : t.print = s.print) (he : t.enc = s.enc) (ht : t.time = s.time)
    (hd : t.draws = s.draws) (d : Int) : t.axisBlocked a d = s.axisBlocked a d := by
  unfold State.axisBlocked State.limitAhead State.switchOn State.setHolds State.free
  rw [hm, hp, he, ht, hd]

theorem State.start_axisBlocked (d : Int) : (s.start c).axisBlocked a d = s.axisBlocked a d :=
  State.axisBlocked_congr (State.start_motion s c) (State.start_print s c) (State.start_enc s c) (State.start_time s c) (State.start_draws s c) d

theorem State.start_axes (b : AxisNo) : (s.start c).motion.axes[b] = s.motion.axes[b] := by rw [State.start_motion]

section Blocked

variable (d : Int)

theorem State.axisBlocked_off (h : s.motion.axes[a].set.enable = false ∨ s.motion.axes[a].coilFault = true) : s.axisBlocked a d = some 0 := by
  refine if_pos ?_
  rcases h with h | h
  · rw [h]
    rfl
  · rw [h, Bool.or_true]

variable (he : s.motion.axes[a].set.enable = true) (hf : s.motion.axes[a].coilFault = false)
include he hf

/-- An axis that drives its coils is blocked by the limit deceleration, by INTERLOCK, by a limit, and by a switch set, in that order. -/
theorem State.axisBlocked_on : s.axisBlocked a d =
    if s.motion.axes[a].limitDecel then some 3
    else if s.motion.axes[a].set.interlock && s.print.started then some 2
    else if (s.limitAhead a d).isSome then some 1
    else if s.setHolds a then some (s.free.toNat % 4)
    else none :=
  if_neg (by rw [he, hf]; decide)

theorem State.axisBlocked_decel (hl : s.motion.axes[a].limitDecel = true) : s.axisBlocked a d = some 3 := by
  rw [State.axisBlocked_on d he hf, hl]
  rfl

variable (hl : s.motion.axes[a].limitDecel = false)
include hl

theorem State.axisBlocked_interlock (hi : s.motion.axes[a].set.interlock = true) (hs : s.print.started = true) : s.axisBlocked a d = some 2 := by
  rw [State.axisBlocked_on d he hf, hl, hi, hs]
  rfl

variable (hi : (s.motion.axes[a].set.interlock && s.print.started) = false)
include hi

theorem State.axisBlocked_limit (h : (s.limitAhead a d).isSome = true) : s.axisBlocked a d = some 1 := by
  rw [State.axisBlocked_on d he hf, hl, hi, h]
  rfl

theorem State.axisBlocked_free (h : s.limitAhead a d = none) : (s.setHolds a = false → s.axisBlocked a d = none) ∧
    (s.setHolds a = true → ∃ k, k < 4 ∧ s.axisBlocked a d = some k) := by
  rw [State.axisBlocked_on d he hf, hl, hi, h]
  refine ⟨fun hs => ?_, fun hs => ⟨s.free.toNat % 4, Nat.mod_lt _ (by decide), ?_⟩⟩
  · rw [hs]
    rfl
  · rw [hs]
    rfl

end Blocked

/-- A named limit at its level is ahead of the sense it limits (R343). -/
theorem State.limitAhead_named {d : Int} {k : SwitchNo} (hk : s.motion.switches[k].level = true)
    (h : d < 0 ∧ s.motion.axes[a].set.limitNeg = some k ∨ 0 < d ∧ s.motion.axes[a].set.limitPos = some k) : (s.limitAhead a d).isSome = true := by
  have hon : s.switchOn (some k) = true := hk
  unfold State.limitAhead
  dsimp only
  rcases h with ⟨hd, hn⟩ | ⟨hd, hn⟩
  · rw [hn, hon, decide_eq_true hd]
    rfl
  · rw [hn, hon, decide_eq_true hd, decide_eq_false (Int.not_lt.mpr (Int.le_of_lt hd))]
    rfl

/-! ### MOVE (R335, R336, R339) -/

/-- Ending a homing command leaves the axis unhomed (R347). -/
theorem State.abortHome_axes : (s.abortHome a).motion.axes[a] =
      { s.motion.axes[a] with homing := none, homed := s.motion.axes[a].homed && s.motion.axes[a].homing.isNone } ∧
    ∀ b : AxisNo, b ≠ a → (s.abortHome a).motion.axes[b] = s.motion.axes[b] := by
  unfold State.abortHome
  cases hh : s.motion.axes[a].homing with
  | none =>
    refine ⟨?_, fun _ _ => rfl⟩
    rw [if_neg (c := (none : Option HomeStep).isSome = true) Bool.false_ne_true]
    generalize s.motion.axes[a] = x at hh ⊢
    cases x
    subst hh
    simp
  | some k =>
    rw [if_pos (c := (some k : Option HomeStep).isSome = true) rfl]
    refine ⟨?_, fun b hb => ?_⟩
    · rw [State.raiseF_motion, State.setAxis_same]
      simp
    · rw [State.raiseF_motion, State.setAxis_other hb]

/-- A command that is taken waits for the next update, and ends a homing command (R336, R347). -/
def State.moveNext (s : State) (a : AxisNo) (k : MoveKind) (trig : Option CmpNo) : State :=
  (s.abortHome a).setAxis a (fun y => { y with next := some (⟨k, y.set.limits⟩, trig) })

theorem State.moveNext_axes (k : MoveKind) (trig : Option CmpNo) : (s.moveNext a k trig).motion.axes[a] =
      { s.motion.axes[a] with next := some (⟨k, s.motion.axes[a].set.limits⟩, trig)
                              homing := none, homed := s.motion.axes[a].homed && s.motion.axes[a].homing.isNone } ∧
    (∀ b : AxisNo, b ≠ a → (s.moveNext a k trig).motion.axes[b] = s.motion.axes[b]) ∧ (s.moveNext a k trig).print = s.print := by
  obtain ⟨h1, h2⟩ := State.abortHome_axes (s := s) (a := a)
  unfold State.moveNext
  refine ⟨?_, fun b hb => ?_, ?_⟩
  · rw [State.setAxis_same, h1]
  · rw [State.setAxis_other hb, h2 b hb]
  · rw [State.setAxis_print, State.abortHome_print]

/-- The kind of a move by its word (R335). -/
def moveKind (c : Cmd) : MoveKind := if bits (c.dw 0) 3 2 = 0 then .position (c.dw 1).toInt else .speed (c.dw 1).toInt

/-- The sense in which a move's word sends an axis. -/
def moveSense (c : Cmd) (x : AxisState) : Int := if bits (c.dw 0) 3 2 = 0 then (c.dw 1).toInt - x.micro else (c.dw 1).toInt

theorem toward_moveKind (x : AxisState) : x.toward (moveKind c) = moveSense c x := by
  unfold moveKind moveSense
  split
  · rfl
  · rfl

section MoveCmd

variable (hb : bits (c.dw 0) 3 2 < 2)
include hb

theorem cmdMove_blocked {k : Nat} (hk : s.axisBlocked (Fin.ofNat 4 (bits (c.dw 0) 1 0)) (moveSense c s.motion.axes[(Fin.ofNat 4 (bits (c.dw 0) 1 0) : AxisNo)]) = some k) :
    cmdMove c s = (s.drew, blocked (Fin.ofNat 4 (bits (c.dw 0) 1 0)) k) := by
  unfold cmdMove
  dsimp only
  rw [if_neg (Nat.not_le.mpr hb)]
  rw [← toward_moveKind] at hk
  unfold moveKind at hk
  rw [hk]

theorem cmdMove_taken (hk : s.axisBlocked (Fin.ofNat 4 (bits (c.dw 0) 1 0)) (moveSense c s.motion.axes[(Fin.ofNat 4 (bits (c.dw 0) 1 0) : AxisNo)]) = none) :
    cmdMove c s = (s.moveNext (Fin.ofNat 4 (bits (c.dw 0) 1 0)) (moveKind c) (if bitAt (c.dw 0) 4 then some (Fin.ofNat 8 (bits (c.dw 0) 7 5)) else none), okResp) := by
  unfold cmdMove
  dsimp only
  rw [if_neg (Nat.not_le.mpr hb)]
  rw [← toward_moveKind] at hk
  unfold moveKind at hk
  rw [hk]
  rfl

end MoveCmd

/-! ### STOP (R335, R344) -/

/-- An axis as a limit deceleration of a cause begins; one that decelerates already goes on (R343, R347). -/
def AxisState.limited (n : Nat) (x : AxisState) : AxisState :=
  { (if x.limitDecel then x else x.startMove .stop x.set.limitLimits) with
    next := none, homing := none, limitDecel := true, homeFail := (x.homing.isSome || x.homeFail) && n != 0
    homed := (if x.limitDecel then x else x.startMove .stop x.set.limitLimits).homed && !(x.homing.isSome || x.homeFail) }

theorem State.setAxis_congr {f g : AxisState → AxisState} (h : f s.motion.axes[a] = g s.motion.axes[a]) : s.setAxis a f = s.setAxis a g := by
  unfold State.setAxis
  have hv : upd s.motion.axes a f = upd s.motion.axes a g := by
    refine Vector.ext fun i hi => ?_
    rw [upd_get, upd_get]
    by_cases hia : a.val = i
    · subst hia
      rw [if_pos rfl, if_pos rfl]
      exact h
    · rw [if_neg hia, if_neg hia]
  rw [hv]

/-- A limit deceleration is of one axis, and of one that is not at rest (R343). -/
theorem State.limitStop_motion (n : Nat) : (s.limitStop a n).motion =
    if s.motion.axes[a].atRest then s.motion else (s.setAxis a (AxisState.limited n)).motion := by
  unfold State.limitStop
  dsimp only
  by_cases hr : s.motion.axes[a].atRest = true
  · rw [if_pos hr, if_pos hr]
  rw [if_neg hr, if_neg hr]
  have hs := State.setAxis_congr (s := s) (a := a) (f := AxisState.limited n) (g := fun x =>
    { (if x.limitDecel then x else x.startMove .stop x.set.limitLimits) with
      next := none, homing := none, limitDecel := true, homeFail := (s.motion.axes[a].homing.isSome || s.motion.axes[a].homeFail) && n != 0
      homed := (if x.limitDecel then x else x.startMove .stop x.set.limitLimits).homed && !(s.motion.axes[a].homing.isSome || s.motion.axes[a].homeFail) }) rfl
  rw [hs]
  refine iteInduction (motive := fun t : State => t.motion = _) (fun _ => ?_) fun _ => ?_
  · refine iteInduction (motive := fun t : State => t.motion = _) (fun _ => State.raiseF_motion ..) fun _ => State.raiseF_motion ..
  · refine iteInduction (motive := fun t : State => t.motion = _) (fun _ => rfl) fun _ => State.raiseF_motion ..

theorem State.limitStop_moving (n : Nat) (hr : s.motion.axes[a].atRest = false) :
    (s.limitStop a n).motion.axes[a] = s.motion.axes[a].limited n := by
  rw [State.limitStop_motion, if_neg (by rw [hr]; decide), State.setAxis_same]

theorem State.limitStop_other (n : Nat) {b : AxisNo} (h : b ≠ a) : (s.limitStop a n).motion.axes[b] = s.motion.axes[b] := by
  have hm := State.limitStop_motion (s := s) (a := a) n
  by_cases hr : s.motion.axes[a].atRest = true
  · rw [hm.trans (if_pos hr)]
  · rw [hm.trans (if_neg hr), State.setAxis_other h]

/-- A limit deceleration commanded of an axis that is free (R344). -/
theorem AxisState.limited_commanded (x : AxisState) (hl : x.limitDecel = false) :
    (x.limited 0).limitDecel = true ∧ (x.limited 0).move = some ⟨.stop, x.set.limitLimits⟩ ∧ (x.limited 0).next = none ∧ (x.limited 0).homing = none ∧
    (x.limited 0).homed = (x.homed && x.homing.isNone && !x.homeFail) ∧ (x.limited 0).homeFail = false ∧ (x.limited 0).pos = x.pos := by
  unfold AxisState.limited
  rw [hl]
  refine ⟨rfl, rfl, rfl, rfl, ?_, Bool.and_false _, rfl⟩
  cases x.homing
  · exact congrArg (· && !x.homeFail) (Bool.and_true x.homed).symm
  · simp

section StopCmd

variable (ha : a = Fin.ofNat 4 (c.argBits 1 0))
include ha

theorem cmdStop_decel (hl : s.motion.axes[a].limitDecel = true) : cmdStop c s = (s, blocked a 3) := by
  subst ha
  exact if_pos hl

theorem cmdStop_off (hl : s.motion.axes[a].limitDecel = false) (h : s.motion.axes[a].set.enable = false ∨ s.motion.axes[a].coilFault = true) :
    cmdStop c s = (s, okResp) := by
  subst ha
  refine (if_neg (by rw [hl]; decide)).trans (if_pos ?_)
  rcases h with h | h
  · rw [h]
    rfl
  · rw [h, Bool.or_true]

variable (hl : s.motion.axes[a].limitDecel = false) (he : s.motion.axes[a].set.enable = true) (hf : s.motion.axes[a].coilFault = false)
include hl he hf

theorem cmdStop_hard (h : c.arg.getLsbD 2 = true) : cmdStop c s = (s.limitStop a 0, okResp) := by
  subst ha
  exact (if_neg (by rw [hl]; decide)).trans ((if_neg (by rw [he, hf]; decide)).trans (if_pos h))

theorem cmdStop_soft (h : c.arg.getLsbD 2 = false) : cmdStop c s = (s.moveNext a .stop none, okResp) := by
  subst ha
  exact (if_neg (by rw [hl]; decide)).trans ((if_neg (by rw [he, hf]; decide)).trans (if_neg (by rw [h]; decide)))

end StopCmd

/-! ### HOME (R345) -/

/-- The sense in which homing begins. -/
def State.homeSense (s : State) (a : AxisNo) : Int :=
  if s.atHome a then -(if s.motion.axes[a].set.homePosDir then 1 else -1) else if s.motion.axes[a].set.homePosDir then 1 else -1

/-- A homing command as it begins: the settings it takes, and no move that waits (R345, R354). -/
def AxisState.beginsHome (y : AxisState) : AxisState := { y with next := none, travel := 0, home := y.set.home }

/-- What homing sets as it begins (R333, R336, R345). -/
structure AxisState.Homes (x y : AxisState) (atHome : Bool) (d : Int) : Prop where
  homing : y.homing = some (if atHome then .leave else .seek)
  next : y.next = none
  move : y.move = some ⟨.speed (d * x.set.homeSpeed), x.set.limits⟩
  travel : y.travel = 0
  home : y.home = x.set.home
  pos : y.pos = x.pos

theorem homeSpeed_sense (up : Bool) (n : Nat) : (if up then (n : Int) else -n) = (if up then 1 else -1) * n := by
  cases up with
  | true => exact (Int.one_mul _).symm
  | false => exact (Int.neg_one_mul _).symm

theorem State.homeSeek_begins : s.motion.axes[a].Homes (((s.setAxis a AxisState.beginsHome).homeSeek a).motion.axes[a]) (s.atHome a) (s.homeSense a) ∧
    ∀ b : AxisNo, b ≠ a → ((s.setAxis a AxisState.beginsHome).homeSeek a).motion.axes[b] = s.motion.axes[b] := by
  have hx := State.setAxis_same (s := s) a AxisState.beginsHome
  have hat : (s.setAxis a AxisState.beginsHome).atHome a = s.atHome a := by
    unfold State.atHome
    rw [hx]
    rfl
  unfold State.homeSeek State.homeSense
  dsimp only
  rw [hx, hat]
  cases s.atHome a with
  | true =>
    rw [if_pos rfl, if_pos rfl]
    refine ⟨?_, fun b hb => by rw [State.setAxis_other hb, State.setAxis_other hb]⟩
    rw [State.setAxis_same, hx]
    refine ⟨rfl, rfl, ?_, rfl, rfl, rfl⟩
    refine congrArg (fun v => some (⟨.speed v, s.motion.axes[a].set.limits⟩ : Move)) ?_
    exact (congrArg Neg.neg (homeSpeed_sense _ _)).trans (Int.neg_mul ..).symm
  | false =>
    rw [if_neg Bool.false_ne_true, if_neg Bool.false_ne_true]
    refine ⟨?_, fun b hb => by rw [State.setAxis_other hb, State.setAxis_other hb]⟩
    rw [State.setAxis_same, hx]
    refine ⟨rfl, rfl, ?_, rfl, rfl, rfl⟩
    refine congrArg (fun v => some (⟨.speed v, s.motion.axes[a].set.limits⟩ : Move)) ?_
    exact homeSpeed_sense _ _

section HomeCmd

variable (ha : a = Fin.ofNat 4 (c.argBits 1 0))
include ha

theorem cmdHome_blocked {k : Nat} (hk : s.axisBlocked a (s.homeSense a) = some k) : cmdHome c s = (s.drew, blocked a k) := by
  subst ha
  unfold State.homeSense at hk
  unfold cmdHome
  dsimp only
  rw [hk]

variable (hk : s.axisBlocked a (s.homeSense a) = none)
include hk

theorem cmdHome_noInput (hi : s.motion.axes[a].set.homeInput = none) : cmdHome c s = (s, resp .argBad 0) := by
  subst ha
  unfold State.homeSense at hk
  unfold cmdHome
  dsimp only
  rw [hk, hi]
  rfl

theorem cmdHome_taken (hi : s.motion.axes[a].set.homeInput.isSome = true) :
    cmdHome c s = ((s.setAxis a AxisState.beginsHome).homeSeek a, okResp) := by
  have hs := State.setAxis_congr (s := s) (a := a) (f := AxisState.beginsHome)
    (g := fun y => { y with next := none, travel := 0, home := s.motion.axes[a].set.home }) rfl
  rw [hs]
  subst ha
  unfold State.homeSense at hk
  unfold cmdHome
  dsimp only
  rw [hk]
  exact if_neg (by rw [Option.isNone_eq_false_iff.mpr hi]; decide)

end HomeCmd

theorem State.start_atHome : (s.start c).atHome a = s.atHome a := by
  unfold State.atHome
  rw [State.start_motion]

/-- Settles O51: the causes of AXIS_BLOCKED in their order, then each command blocked or taken. -/
theorem motionCommandsAreBlockedOrTaken : Obligations.MotionCommandsAreBlockedOrTaken := by
  unfold Obligations.MotionCommandsAreBlockedOrTaken
  refine ⟨fun s a d => ⟨State.axisBlocked_off d, State.axisBlocked_decel d, State.axisBlocked_interlock d,
      fun k he hf hl hi hk h => State.axisBlocked_limit d he hf hl hi (State.limitAhead_named hk h), State.axisBlocked_free d⟩,
    fun s c hr => ?_, fun s c hr => ?_, fun s c hr => ?_⟩
  · refine ⟨fun hb => command_replyAtStart (f := cmdMove) rfl hr (if_pos hb), fun hb k hk => ?_, fun hb hk => ?_⟩
    · refine command_replyAtStart (f := cmdMove) rfl hr (cmdMove_blocked hb ?_)
      rw [State.start_axisBlocked, State.start_axes]
      exact hk
    · have hx := cmdMove_taken (s := s.start c) hb (by rw [State.start_axisBlocked, State.start_axes]; exact hk)
      refine ⟨_, command_replyAtStart (f := cmdMove) rfl hr hx, ?_⟩
      obtain ⟨h1, h2, h3⟩ := State.moveNext_axes (s := s.start c) (a := Fin.ofNat 4 (bits (c.dw 0) 1 0)) (moveKind c)
        (if bitAt (c.dw 0) 4 then some (Fin.ofNat 8 (bits (c.dw 0) 7 5)) else none)
      rw [State.start_axes] at h1
      exact ⟨h1, fun b hb => (h2 b hb).trans (State.start_axes b), h3.trans (State.start_print s c)⟩
  · intro a
    have ha : a = Fin.ofNat 4 (c.argBits 1 0) := rfl
    have hax : (s.start c).motion.axes[a] = s.motion.axes[a] := State.start_axes a
    dsimp only
    refine ⟨fun hl => ?_, fun hl h => ?_, fun ⟨hl, he, hf⟩ hh => ?_, fun ⟨hl, he, hf⟩ hh => ?_⟩
    · exact command_replyAtStart (f := cmdStop) rfl hr (cmdStop_decel ha (by rw [hax]; exact hl))
    · exact command_replyAtStart (f := cmdStop) rfl hr (cmdStop_off ha (by rw [hax]; exact hl) (by rw [hax]; exact h))
    · have hx := cmdStop_hard (s := s.start c) ha (by rw [hax]; exact hl) (by rw [hax]; exact he) (by rw [hax]; exact hf) hh
      refine ⟨_, command_replyAtStart (f := cmdStop) rfl hr hx, fun hrest => ?_, fun hmoves => ?_, fun b hb => ?_, ?_⟩
      · rw [State.limitStop_motion, hax, if_pos hrest, State.start_motion]
      · rw [State.limitStop_moving 0 (by rw [hax]; exact hmoves), hax]
        exact AxisState.limited_commanded _ hl
      · rw [State.limitStop_other 0 hb, State.start_axes]
      · rw [State.limitStop_print, State.start_print]
    · have hx := cmdStop_soft (s := s.start c) ha (by rw [hax]; exact hl) (by rw [hax]; exact he) (by rw [hax]; exact hf) hh
      refine ⟨_, command_replyAtStart (f := cmdStop) rfl hr hx, ?_⟩
      obtain ⟨h1, h2, h3⟩ := State.moveNext_axes (s := s.start c) (a := a) .stop none
      rw [hax] at h1
      exact ⟨h1, fun b hb => (h2 b hb).trans (State.start_axes b), h3.trans (State.start_print s c)⟩
  · intro a
    have ha : a = Fin.ofNat 4 (c.argBits 1 0) := rfl
    have hax : (s.start c).motion.axes[a] = s.motion.axes[a] := State.start_axes a
    have hsense : (s.start c).homeSense a = s.homeSense a := by
      unfold State.homeSense
      rw [State.start_atHome, hax]
    dsimp only
    refine ⟨fun k hk => ?_, fun hk hi => ?_, fun hk hi => ?_⟩
    · exact command_replyAtStart (f := cmdHome) rfl hr (cmdHome_blocked ha (by rw [State.start_axisBlocked, hsense]; exact hk))
    · exact command_replyAtStart (f := cmdHome) rfl hr (cmdHome_noInput ha (by rw [State.start_axisBlocked, hsense]; exact hk) (by rw [hax]; exact hi))
    · have hx := cmdHome_taken (s := s.start c) ha (by rw [State.start_axisBlocked, hsense]; exact hk) (by rw [hax]; exact hi)
      obtain ⟨h, ho⟩ := State.homeSeek_begins (s := s.start c) (a := a)
      rw [State.start_atHome, hsense, hax] at h
      refine ⟨_, command_replyAtStart (f := cmdHome) rfl hr hx, h.homing, h.next, h.move, h.travel, h.home, h.pos,
        fun b hb => (ho b hb).trans (State.start_axes b), ?_⟩
      rw [State.homeSeek_print, State.setAxis_print, State.start_print]

end Sys2Proof.Machine
end

section
/-!
SUPPORT. One update of an axis's profile (R334, R336 to R340, R343, R345, R353).
-/

namespace Sys2Proof.Machine

variable {s : State} {ax : AxisNo}

/-! ### Position, speed and acceleration (R333, R334) -/

theorem jerkToward_cases (u : Nat) (goal v a j : Int) : jerkToward u goal v a j = 0 ∨ jerkToward u goal v a j = j ∨ jerkToward u goal v a j = -j := by
  unfold jerkToward
  dsimp only
  split
  · exact .inl rfl
  · split
    · exact .inr (.inl rfl)
    · split
      · exact .inr (.inr rfl)
      · split
        · exact .inl rfl
        · exact .inr (.inl rfl)
        · exact .inr (.inr rfl)

theorem roundFree_near (up : Bool) (a : Int) {b : Int} (hb : 0 < b) : (b * roundFree up a b - a).natAbs < b := by
  have h1 := Int.mul_ediv_add_emod a b
  have h2 := Int.emod_nonneg a (Int.ne_of_gt hb)
  have h3 := Int.emod_lt_of_pos a hb
  unfold roundFree
  rw [Int.mul_add]
  split
  · next h =>
    have hz : a % b ≠ 0 := by
      intro hz
      simp [hz] at h
    omega
  · omega

theorem roundFree_zero (up : Bool) (b : Int) : roundFree up 0 b = 0 := by
  unfold roundFree
  rw [Int.zero_emod, Int.zero_ediv]
  cases up <;> rfl

theorem clampAcc_zero (lim : MoveLimits) : clampAcc 0 0 lim = 0 := by
  unfold clampAcc
  dsimp only
  omega

/-- What one update does to an axis that runs a move (R333, R334). -/
structure AxisState.Advances (x : AxisState) (m : Move) (z : AxisState) : Prop where
  set : z.set = x.set
  homing : z.homing = x.homing
  homed : z.homed = x.homed
  next : z.next = x.next
  rests : m.kind = .stop → x.vel = 0 → x.acc = 0 → z.vel = 0 ∧ z.acc = 0 ∧ z.pos = x.pos
  moves : ∃ (j d : Int), (j = 0 ∨ j = m.lim.j ∨ j = -(m.lim.j : Int)) ∧
    (1000000000 * d - 131072 * (x.vel + clampAcc x.vel (x.acc + j) m.lim)).natAbs < 1000000000 ∧
    ((z.acc = clampAcc x.vel (x.acc + j) m.lim ∧ z.vel = x.vel + clampAcc x.vel (x.acc + j) m.lim ∧ z.pos = x.pos + d) ∨
      ∃ p, m.kind = .position p ∧ z.vel = 0 ∧ z.acc = 0 ∧ z.pos = p * 2 ^ 32 ∧
        ((x.pos < z.pos ∧ z.pos < x.pos + d) ∨ (z.pos < x.pos ∧ x.pos + d < z.pos)))

/-- An update that would pass a POSITION move's target names that target (R334). -/
theorem AxisState.overshoots_some {x : AxisState} {m : Move} {p t : Int} (h : x.overshoots m p = some t) :
    m.kind = .position t ∧ (x.pos < t * 2 ^ 32 ∧ t * 2 ^ 32 < p ∨ t * 2 ^ 32 < x.pos ∧ p < t * 2 ^ 32) := by
  unfold AxisState.overshoots at h
  split at h
  · next g hk =>
    dsimp only at h
    split at h
    · next hc =>
      obtain rfl := Option.some.inj h
      refine ⟨hk, ?_⟩
      simpa using (Bool.and_eq_true_iff.mp hc).2
    · exact absurd h (by simp)
  · exact absurd h (by simp)

/-- An axis at rest that is to stop stays where it is (R334). -/
theorem AxisState.advance_rests {x : AxisState} {m : Move} (hk : m.kind = .stop) (hv : x.vel = 0) (ha : x.acc = 0) (cap : Option Nat) (u : Word) :
    (x.advance m cap u).vel = 0 ∧ (x.advance m cap u).acc = 0 ∧ (x.advance m cap u).pos = x.pos := by
  have hg : x.goal m cap (bitAt u 0) = 0 := by
    unfold AxisState.goal
    dsimp only
    rw [hk]
  have hj : jerkToward (u.toNat / 4) 0 0 0 m.lim.j = 0 := by
    unfold jerkToward
    dsimp only
    exact if_pos ⟨rfl, rfl⟩
  have ho (p : Int) : x.overshoots m p = none := by
    unfold AxisState.overshoots
    rw [hk]
  unfold AxisState.advance
  dsimp only
  rw [hg, hv, ha, hj, Int.add_zero, clampAcc_zero, Int.add_zero, Int.zero_mul, roundFree_zero, ho]
  exact ⟨rfl, rfl, Int.add_zero _⟩

theorem AxisState.advance_advances (x : AxisState) (m : Move) (cap : Option Nat) (u : Word) : x.Advances m (x.advance m cap u) := by
  have hrest := fun hk hv ha => AxisState.advance_rests (x := x) (m := m) hk hv ha cap u
  unfold AxisState.advance at hrest ⊢
  dsimp only at hrest ⊢
  generalize hj : jerkToward (u.toNat / 4) (x.goal m cap (bitAt u 0)) x.vel x.acc m.lim.j = j at hrest ⊢
  have hj' := jerkToward_cases (u.toNat / 4) (x.goal m cap (bitAt u 0)) x.vel x.acc m.lim.j
  rw [hj] at hj'
  have hd : (1000000000 * roundFree (bitAt u 1) ((x.vel + clampAcc x.vel (x.acc + j) m.lim) * 131072) 1000000000 -
      131072 * (x.vel + clampAcc x.vel (x.acc + j) m.lim)).natAbs < 1000000000 := by
    have h := roundFree_near (bitAt u 1) ((x.vel + clampAcc x.vel (x.acc + j) m.lim) * 131072) (b := 1000000000) (by decide)
    rw [Int.mul_comm 131072]
    omega
  generalize ho : x.overshoots m (x.pos + roundFree (bitAt u 1) ((x.vel + clampAcc x.vel (x.acc + j) m.lim) * 131072) 1000000000) = o at hrest ⊢
  cases o with
  | some t =>
    obtain ⟨hk, hp⟩ := AxisState.overshoots_some ho
    exact ⟨rfl, rfl, rfl, rfl, hrest, j, _, hj', hd, .inr ⟨t, hk, rfl, rfl, rfl, hp⟩⟩
  | none => exact ⟨rfl, rfl, rfl, rfl, hrest, j, _, hj', hd, .inl ⟨rfl, rfl, rfl⟩⟩

/-! ### The end of a move (R335, R337, R345, R347) -/

/-- What the end of an update leaves of an axis that has advanced. -/
structure AxisState.Ends (m : Move) (z y : AxisState) : Prop where
  set : y.set = z.set
  vel : y.vel = z.vel
  acc : y.acc = z.acc
  pos : y.pos = z.pos ∨ ∃ t, m.kind = .position t ∧ z.vel = 0 ∧ z.acc = 0 ∧ (t * 2 ^ 32 - z.pos).natAbs < 2 ^ 32 ∧ y.pos = t * 2 ^ 32
  homed : z.homed = true → (∃ l, z.homing = some (.halt l)) → y.homed = true
  stops : m.kind = .stop → z.vel = 0 → z.acc = 0 → z.homing = none →
    y.move = none ∧ y.limitDecel = false ∧ y.holdWait = true ∧ y.next = z.next ∧ y.homing = none

/-- An axis that has arrived is at rest, at its target for a POSITION move (R337). -/
theorem AxisState.arrived_some {z w : AxisState} {m : Move} (h : z.arrived m = some w) :
    z.vel = 0 ∧ z.acc = 0 ∧ w.set = z.set ∧ w.vel = z.vel ∧ w.acc = z.acc ∧ w.homing = z.homing ∧ w.homed = z.homed ∧ w.next = z.next ∧
    w.move = none ∧ w.limitDecel = false ∧ w.holdWait = true ∧
    (w.pos = z.pos ∨ ∃ t, m.kind = .position t ∧ (t * 2 ^ 32 - z.pos).natAbs < 2 ^ 32 ∧ w.pos = t * 2 ^ 32) := by
  unfold AxisState.arrived at h
  split at h
  · exact absurd h (by simp)
  · next hr =>
    rw [not_or, not_not, not_not] at hr
    dsimp only at h
    split at h
    · obtain rfl := Option.some.inj h
      exact ⟨hr.1, hr.2, rfl, rfl, rfl, rfl, rfl, rfl, rfl, rfl, rfl, .inl rfl⟩
    · exact absurd h (by simp)
    · next t hk =>
      split at h
      · next hn =>
        obtain rfl := Option.some.inj h
        exact ⟨hr.1, hr.2, rfl, rfl, rfl, rfl, rfl, rfl, rfl, rfl, rfl, .inr ⟨t, hk, hn, rfl⟩⟩
      · exact absurd h (by simp)

theorem AxisState.arrived_stop {z : AxisState} {m : Move} (hk : m.kind = .stop) (hv : z.vel = 0) (ha : z.acc = 0) :
    ∃ w, z.arrived m = some w := by
  unfold AxisState.arrived
  rw [if_neg (by rw [hv, ha]; simp), hk]
  exact ⟨_, rfl⟩

/-- From s to t nothing of motion and the print changes but one axis. -/
structure State.AxisMoves (s : State) (ax : AxisNo) (t : State) : Prop where
  print : t.print = s.print
  switches : t.motion.switches = s.motion.switches
  others : ∀ b : AxisNo, b ≠ ax → t.motion.axes[b] = s.motion.axes[b]

theorem State.AxisMoves.of_eq {t : State} (hm : t.motion = s.motion) (hp : t.print = s.print) : s.AxisMoves ax t :=
  ⟨hp, by rw [hm], fun _ _ => by rw [hm]⟩

theorem State.AxisMoves.trans {t u : State} (h : s.AxisMoves ax t) (g : t.AxisMoves ax u) : s.AxisMoves ax u :=
  ⟨g.print.trans h.print, g.switches.trans h.switches, fun b hb => (g.others b hb).trans (h.others b hb)⟩

theorem State.setAxis_moves (f : AxisState → AxisState) : s.AxisMoves ax (s.setAxis ax f) :=
  ⟨rfl, rfl, fun _ hb => State.setAxis_other hb f⟩

theorem State.raiseF_moves (e : Code) (l : List Nat) : s.AxisMoves ax (s.raiseF e l) := .of_eq (State.raiseF_motion ..) (State.raiseF_print ..)

theorem State.limitStop_moves (n : Nat) : s.AxisMoves ax (s.limitStop ax n) := by
  refine ⟨State.limitStop_print .., ?_, fun b hb => State.limitStop_other n hb⟩
  rw [State.limitStop_motion]
  split
  · rfl
  · rfl

theorem State.homeSeek_moves : s.AxisMoves ax (s.homeSeek ax) := by
  unfold State.homeSeek
  exact iteInduction (motive := fun t : State => s.AxisMoves ax t) (fun _ => State.setAxis_moves _) fun _ => State.setAxis_moves _

/-- A step of homing that begins leaves the axis where it is (R345). -/
structure AxisState.Stays (w y : AxisState) : Prop where
  set : y.set = w.set
  vel : y.vel = w.vel
  acc : y.acc = w.acc
  pos : y.pos = w.pos

theorem State.homeSeek_stays : s.motion.axes[ax].Stays ((s.homeSeek ax).motion.axes[ax]) := by
  unfold State.homeSeek
  dsimp only
  refine iteInduction (motive := fun t : State => s.motion.axes[ax].Stays t.motion.axes[ax]) (fun _ => ?_) fun _ => ?_
  · rw [State.setAxis_same]
    exact ⟨rfl, rfl, rfl, rfl⟩
  · rw [State.setAxis_same]
    exact ⟨rfl, rfl, rfl, rfl⟩

theorem State.homeDone_axis (l : Int) : s.AxisMoves ax (s.homeDone ax l) ∧
    (s.homeDone ax l).motion.axes[ax] = { s.motion.axes[ax] with homing := none, homed := true } := by
  unfold State.homeDone
  refine ⟨(State.setAxis_moves _).trans (State.raiseF_moves ..), ?_⟩
  rw [State.raiseF_motion, State.setAxis_same]

/-- What follows a move at rest moves its axis nowhere, keeps an axis re-based homed, and is an event alone outside homing (R335, R345). -/
theorem State.afterMove_axis : s.AxisMoves ax (s.afterMove ax) ∧ s.motion.axes[ax].Stays ((s.afterMove ax).motion.axes[ax]) ∧
    (s.motion.axes[ax].homed = true → (∃ l, s.motion.axes[ax].homing = some (.halt l)) → (s.afterMove ax).motion.axes[ax].homed = true) ∧
    (s.motion.axes[ax].homing = none → (s.afterMove ax).motion.axes[ax] = s.motion.axes[ax]) := by
  unfold State.afterMove
  dsimp only
  cases hh : s.motion.axes[ax].homing with
  | none =>
    refine ⟨State.raiseF_moves .., ?_, fun h _ => ?_, fun _ => ?_⟩
    · rw [State.raiseF_motion]
      exact ⟨rfl, rfl, rfl, rfl⟩
    · rw [State.raiseF_motion]
      exact h
    · rw [State.raiseF_motion]
  | some k =>
    have hno {P : Prop} : (some k : Option HomeStep) = none → P := fun h => absurd h (by simp)
    cases k with
    | halt l =>
      dsimp only
      by_cases hb : s.motion.axes[ax].home.back = true
      · rw [if_pos hb, State.setAxis_same]
        exact ⟨State.setAxis_moves _, ⟨rfl, rfl, rfl, rfl⟩, fun h _ => h, hno⟩
      · rw [if_neg hb]
        obtain ⟨h1, h2⟩ := State.homeDone_axis (s := s) (ax := ax) l
        rw [h2]
        exact ⟨h1, ⟨rfl, rfl, rfl, rfl⟩, fun _ _ => rfl, hno⟩
    | back l =>
      obtain ⟨h1, h2⟩ := State.homeDone_axis (s := s) (ax := ax) l
      dsimp only
      rw [h2]
      exact ⟨h1, ⟨rfl, rfl, rfl, rfl⟩, fun _ _ => rfl, hno⟩
    | leave => exact ⟨State.homeSeek_moves, State.homeSeek_stays, fun _ ⟨l, h⟩ => absurd h (by simp), hno⟩
    | seek => exact ⟨State.homeSeek_moves, State.homeSeek_stays, fun _ ⟨l, h⟩ => absurd h (by simp), hno⟩
    | rebase l => exact ⟨State.homeSeek_moves, State.homeSeek_stays, fun _ ⟨l, h⟩ => absurd h (by simp), hno⟩

/-- The end of an update: homing lost, a move that has arrived, or one that goes on (R337, R347). -/
def State.endUpdate (s : State) (ax : AxisNo) (m : Move) : State :=
  if s.motion.axes[ax].lost then
    (s.setAxis ax (fun x => { x.startMove .stop x.set.limits with homing := none, homed := false })).raiseF .homeNotFound [fld 0 2 ax.val]
  else match s.motion.axes[ax].arrived m with
    | some y => (s.setAxis ax (fun _ => y)).afterMove ax
    | none => s

theorem AxisState.lost_homing {x : AxisState} (h : x.lost = true) : x.homing = some .leave ∨ x.homing = some .seek := by
  unfold AxisState.lost at h
  rw [Bool.and_eq_true] at h
  obtain ⟨h, -⟩ := h
  split at h
  · exact .inl (by assumption)
  · exact .inr (by assumption)
  · exact absurd h Bool.false_ne_true

theorem State.endUpdate_ends (m : Move) : s.AxisMoves ax (s.endUpdate ax m) ∧ s.motion.axes[ax].Ends m ((s.endUpdate ax m).motion.axes[ax]) := by
  unfold State.endUpdate
  by_cases hl : s.motion.axes[ax].lost = true
  · rw [if_pos hl, State.raiseF_motion, State.setAxis_same]
    have hh := AxisState.lost_homing hl
    refine ⟨(State.setAxis_moves _).trans (State.raiseF_moves ..), ⟨rfl, rfl, rfl, .inl rfl, fun _ ⟨l, h⟩ => ?_, fun _ _ _ h => ?_⟩⟩
    · rcases hh with hh | hh
      · exact absurd (hh.symm.trans h) (by simp)
      · exact absurd (hh.symm.trans h) (by simp)
    · rcases hh with hh | hh
      · exact absurd (hh.symm.trans h) (by simp)
      · exact absurd (hh.symm.trans h) (by simp)
  rw [if_neg hl]
  cases ha : s.motion.axes[ax].arrived m with
  | none =>
    refine ⟨.of_eq rfl rfl, ⟨rfl, rfl, rfl, .inl rfl, fun h _ => h, fun hk hv hac _ => ?_⟩⟩
    obtain ⟨w, hw⟩ := AxisState.arrived_stop hk hv hac
    exact absurd (ha.symm.trans hw) (by simp)
  | some w =>
    obtain ⟨hv, hac, h1, h2, h3, h4, h5, h6, h7, h8, h9, h10⟩ := AxisState.arrived_some ha
    obtain ⟨g1, g2, g3, g4⟩ := State.afterMove_axis (s := s.setAxis ax (fun _ => w)) (ax := ax)
    rw [State.setAxis_same] at g2 g3 g4
    refine ⟨(State.setAxis_moves _).trans g1, ⟨g2.set.trans h1, g2.vel.trans h2, g2.acc.trans h3, ?_, fun hh ⟨l, hl⟩ => ?_, fun _ _ _ hh => ?_⟩⟩
    · rcases h10 with hp | ⟨t, hk, hn, hp⟩
      · exact .inl (g2.pos.trans hp)
      · exact .inr ⟨t, hk, hv, hac, hn, g2.pos.trans hp⟩
    · exact g3 (h5.trans hh) ⟨l, h4.trans hl⟩
    · have hw := g4 (h4.trans hh)
      refine ⟨(congrArg AxisState.move hw).trans h7, (congrArg AxisState.limitDecel hw).trans h8, (congrArg AxisState.holdWait hw).trans h9,
        (congrArg AxisState.next hw).trans h6, (congrArg AxisState.homing hw).trans (h4.trans hh)⟩

/-! ### The move that waits (R325, R336, R339, R340, R343) -/

/-- The state in which an axis's update begins: re-based, with the move that waits started (R345). -/
def State.beginUpdate (s : State) (ax : AxisNo) : State := (s.drew.setAxis ax AxisState.rebased).startNext ax

theorem AxisState.rebased_of_not {x : AxisState} (h : ∀ l, x.homing ≠ some (.rebase l)) : x.rebased = x := by
  unfold AxisState.rebased
  split
  · next l hl => exact absurd hl (h l)
  · rfl

theorem AxisState.rebased_keeps (x : AxisState) : x.rebased.set = x.set ∧ x.rebased.next = x.next := by
  unfold AxisState.rebased
  split
  · exact ⟨rfl, rfl⟩
  · exact ⟨rfl, rfl⟩

/-- A move is held by INTERLOCK and the switch sets alone. -/
theorem State.moveHeld_congr {t : State} (ha : t.motion.axes[ax].set = s.motion.axes[ax].set) (hp : t.print = s.print) (he : t.enc = s.enc)
    (ht : t.time = s.time) (k : MoveKind) : t.moveHeld ax k = s.moveHeld ax k := by
  unfold State.moveHeld State.setHolds
  rw [ha, hp, he, ht]

theorem State.limitAhead_congr {t : State} (ha : t.motion.axes[ax].set = s.motion.axes[ax].set) (hs : t.motion.switches = s.motion.switches)
    (d : Int) : t.limitAhead ax d = s.limitAhead ax d := by
  unfold State.limitAhead State.switchOn
  rw [ha, hs]

theorem State.startNext_waits (h : ∀ m, s.motion.axes[ax].next = some (m, none) → s.moveHeld ax m.kind = true) : s.startNext ax = s := by
  unfold State.startNext
  dsimp only
  split
  · next m hm => exact if_pos (h m hm)
  · rfl

theorem State.startNext_starts {m : Move} (hn : s.motion.axes[ax].next = some (m, none)) (hh : s.moveHeld ax m.kind = false) : s.startNext ax =
    match s.limitAhead ax (s.motion.axes[ax].toward m.kind) with
    | some c => s.limitStop ax c
    | none => s.setAxis ax (fun x => { x.startMove m.kind m.lim with next := none }) := by
  unfold State.startNext
  dsimp only
  rw [hn]
  exact if_neg (by rw [hh]; decide)

theorem State.startNext_moves : s.AxisMoves ax (s.startNext ax) ∧ ((s.startNext ax).motion.axes[ax].set = s.motion.axes[ax].set) := by
  by_cases h : ∃ m, s.motion.axes[ax].next = some (m, none) ∧ s.moveHeld ax m.kind = false
  · obtain ⟨m, hn, hh⟩ := h
    rw [State.startNext_starts hn hh]
    cases s.limitAhead ax (s.motion.axes[ax].toward m.kind) with
    | none =>
      dsimp only
      rw [State.setAxis_same]
      exact ⟨State.setAxis_moves _, rfl⟩
    | some c =>
      have hr : s.motion.axes[ax].atRest = false := by
        unfold AxisState.atRest
        rw [hn]
        simp
      dsimp only
      rw [State.limitStop_moving c hr]
      refine ⟨State.limitStop_moves c, ?_⟩
      unfold AxisState.limited
      split
      · rfl
      · rfl
  · rw [State.startNext_waits fun m hm => ?_]
    · exact ⟨.of_eq rfl rfl, rfl⟩
    · by_contra hc
      exact h ⟨m, hm, by simpa using hc⟩

section Begin

/-- The axis re-based, and what says whether its move starts. -/
theorem State.rebase_frame : ((s.drew.setAxis ax AxisState.rebased).motion.axes[ax] = s.motion.axes[ax].rebased) ∧
    (∀ k, (s.drew.setAxis ax AxisState.rebased).moveHeld ax k = s.moveHeld ax k) ∧
    (∀ d, (s.drew.setAxis ax AxisState.rebased).limitAhead ax d = s.limitAhead ax d) := by
  have hx : (s.drew.setAxis ax AxisState.rebased).motion.axes[ax] = s.motion.axes[ax].rebased := State.setAxis_same ..
  have hs : (s.drew.setAxis ax AxisState.rebased).motion.axes[ax].set = s.motion.axes[ax].set := by
    rw [hx, (AxisState.rebased_keeps _).1]
  exact ⟨hx, fun k => State.moveHeld_congr hs rfl rfl rfl k, fun d => State.limitAhead_congr hs rfl d⟩

theorem State.beginUpdate_moves : s.AxisMoves ax (s.beginUpdate ax) ∧ ((s.beginUpdate ax).motion.axes[ax].set = s.motion.axes[ax].set) := by
  obtain ⟨h1, h2⟩ := State.startNext_moves (s := s.drew.setAxis ax AxisState.rebased) (ax := ax)
  have h0 : s.AxisMoves ax (s.drew.setAxis ax AxisState.rebased) :=
    State.AxisMoves.trans (t := s.drew) (.of_eq rfl rfl) (State.setAxis_moves AxisState.rebased)
  refine ⟨h0.trans h1, h2.trans ?_⟩
  rw [State.rebase_frame.1, (AxisState.rebased_keeps _).1]

theorem State.beginUpdate_waits (h : ∀ m, s.motion.axes[ax].next = some (m, none) → s.moveHeld ax m.kind = true) :
    (s.beginUpdate ax).motion.axes[ax] = s.motion.axes[ax].rebased := by
  obtain ⟨hx, hm, -⟩ := State.rebase_frame (s := s) (ax := ax)
  unfold State.beginUpdate
  rw [State.startNext_waits fun m hn => ?_]
  · exact hx
  · rw [hx, (AxisState.rebased_keeps _).2] at hn
    rw [hm]
    exact h m hn

variable (hr : ∀ l, s.motion.axes[ax].homing ≠ some (.rebase l)) {m : Move} (hn : s.motion.axes[ax].next = some (m, none))
  (hh : s.moveHeld ax m.kind = false)
include hr hn hh

theorem State.beginUpdate_starts (hl : s.limitAhead ax (s.motion.axes[ax].toward m.kind) = none) :
    (s.beginUpdate ax).motion.axes[ax] = { s.motion.axes[ax].startMove m.kind m.lim with next := none } := by
  obtain ⟨hx, hm, hla⟩ := State.rebase_frame (s := s) (ax := ax)
  rw [AxisState.rebased_of_not hr] at hx
  unfold State.beginUpdate
  rw [State.startNext_starts (by rw [hx]; exact hn) ((hm _).trans hh), hla, hx, hl]
  dsimp only
  rw [State.setAxis_same, hx]

theorem State.beginUpdate_limited {k : Nat} (hl : s.limitAhead ax (s.motion.axes[ax].toward m.kind) = some k) :
    (s.beginUpdate ax).motion.axes[ax] = s.motion.axes[ax].limited k := by
  obtain ⟨hx, hm, hla⟩ := State.rebase_frame (s := s) (ax := ax)
  rw [AxisState.rebased_of_not hr] at hx
  unfold State.beginUpdate
  rw [State.startNext_starts (by rw [hx]; exact hn) ((hm _).trans hh), hla, hx, hl]
  dsimp only
  have hrest : (s.drew.setAxis ax AxisState.rebased).motion.axes[ax].atRest = false := by
    rw [hx]
    unfold AxisState.atRest
    rw [hn]
    simp
  rw [State.limitStop_moving k hrest, hx]

end Begin

/-! ### PROFILE_UPDATE -/

section Exec

variable (hp : s.sys.power ≠ .dormant)
include hp

theorem execProfileUpdate_still {v : State} (hv : (s.beginUpdate ax).calCheck (fun p => p == .chopper ax) = v)
    (hm : v.motion.axes[ax].move = none) : exec (.profileUpdate ax) s = .next (v.setAxis ax AxisState.drive).settle := by
  refine Eq.trans (b := execProfileUpdate ax s) rfl ?_
  unfold State.beginUpdate at hv
  unfold execProfileUpdate
  rw [if_neg (by simpa using hp)]
  dsimp only
  rw [hv, hm]
  rfl

theorem execProfileUpdate_moves {v : State} (hv : (s.beginUpdate ax).calCheck (fun p => p == .chopper ax) = v) {m : Move}
    (hm : v.motion.axes[ax].move = some m) : exec (.profileUpdate ax) s =
      .next ((v.setAxis ax (fun x => x.advance m (v.capNow ax) s.free)).endUpdate ax m).settle := by
  refine Eq.trans (b := execProfileUpdate ax s) rfl ?_
  unfold State.beginUpdate at hv
  unfold execProfileUpdate
  rw [if_neg (by simpa using hp)]
  dsimp only
  rw [hv, hm]
  dsimp only
  generalize (v.setAxis ax fun x => x.advance m (v.capNow ax) s.free) = w
  unfold State.endUpdate
  by_cases hl : w.motion.axes[ax].lost = true
  · rw [if_pos hl, if_pos hl]
    rfl
  · rw [if_neg hl, if_neg hl]
    cases w.motion.axes[ax].arrived m with
    | none => rfl
    | some y => rfl

end Exec

/-- PROFILE_UPDATE of a device that is awake: an axis without a move drives its coils, one with a move advances and may end it. -/
theorem execProfileUpdate_updates (hp : s.sys.power ≠ .dormant) : ∃ t : State, exec (.profileUpdate ax) s = .next t ∧ s.AxisMoves ax t ∧
    ((s.beginUpdate ax).motion.axes[ax].move = none → t.motion.axes[ax] = (s.beginUpdate ax).motion.axes[ax].drive) ∧
    (∀ m, (s.beginUpdate ax).motion.axes[ax].move = some m → ∃ z, (s.beginUpdate ax).motion.axes[ax].Advances m z ∧ z.Ends m t.motion.axes[ax]) := by
  have hb := (State.beginUpdate_moves (s := s) (ax := ax)).1
  generalize hv : (s.beginUpdate ax).calCheck (fun p => p == .chopper ax) = v
  have hvm : v.motion = (s.beginUpdate ax).motion := by rw [← hv, State.calCheck_motion]
  have hvp : v.print = (s.beginUpdate ax).print := by rw [← hv, State.calCheck_print]
  have hsv : s.AxisMoves ax v := hb.trans (.of_eq hvm hvp)
  have hset (w : State) : w.AxisMoves ax w.settle := .of_eq (State.settle_motion w) (State.settle_print w)
  rw [← hvm]
  cases hm : v.motion.axes[ax].move with
  | none =>
    refine ⟨_, execProfileUpdate_still hp hv hm, (hsv.trans (State.setAxis_moves _)).trans (hset _), fun _ => ?_, fun m h => absurd h (by simp)⟩
    rw [State.settle_motion, State.setAxis_same]
  | some m =>
    obtain ⟨h1, h2⟩ := State.endUpdate_ends (s := v.setAxis ax (fun x => x.advance m (v.capNow ax) s.free)) (ax := ax) m
    refine ⟨_, execProfileUpdate_moves hp hv hm, ((hsv.trans (State.setAxis_moves _)).trans h1).trans (hset _), fun h => absurd h (by simp), fun m' h => ?_⟩
    obtain rfl := Option.some.inj h
    rw [State.settle_motion]
    rw [State.setAxis_same] at h2
    exact ⟨_, AxisState.advance_advances .., h2⟩

/-- An axis that a limit keeps from starting ends its move where it rests (R343). -/
theorem AxisState.limited_ends {x z y : AxisState} {c : Nat} (hd : x.limitDecel = false) (hv : x.vel = 0) (ha : x.acc = 0)
    (hz : (x.limited c).Advances ⟨.stop, x.set.limitLimits⟩ z) (hy : z.Ends ⟨.stop, x.set.limitLimits⟩ y) :
    y.next = none ∧ y.homing = none ∧ y.move = none ∧ y.pos = x.pos ∧ y.vel = 0 := by
  have hmove : (x.limited c).vel = x.vel ∧ (x.limited c).acc = x.acc ∧ (x.limited c).pos = x.pos ∧ (x.limited c).homing = none ∧
      (x.limited c).next = none := by
    unfold AxisState.limited
    rw [hd]
    exact ⟨rfl, rfl, rfl, rfl, rfl⟩
  obtain ⟨h2, h3, h4, h5, h6⟩ := hmove
  obtain ⟨g1, g2, g3⟩ := hz.rests rfl (h2.trans hv) (h3.trans ha)
  obtain ⟨e1, -, -, e4, e5⟩ := hy.stops rfl g1 g2 (hz.homing.trans h5)
  refine ⟨e4.trans (hz.next.trans h6), e5, e1, ?_, hy.vel.trans g1⟩
  rcases hy.pos with hpos | ⟨q, hq, -⟩
  · exact hpos.trans (g3.trans h4)
  · exact absurd hq (by simp)

/-- A move over a whole update (R333, R334, R337). -/
theorem AxisState.update_moves {x z y : AxisState} {m : Move} (hz : x.Advances m z) (hy : z.Ends m y) :
    ∃ (j d : Int), (j = 0 ∨ j = m.lim.j ∨ j = -(m.lim.j : Int)) ∧
      (1000000000 * d - 131072 * (x.vel + clampAcc x.vel (x.acc + j) m.lim)).natAbs < 1000000000 ∧
      ((y.acc = clampAcc x.vel (x.acc + j) m.lim ∧ y.vel = x.vel + clampAcc x.vel (x.acc + j) m.lim ∧ y.pos = x.pos + d) ∨
        ∃ p, m.kind = .position p ∧ y.vel = 0 ∧ y.acc = 0 ∧ y.pos = p * 2 ^ 32 ∧
          ((y.pos - (x.pos + d)).natAbs < 2 ^ 32 ∨ (x.pos < y.pos ∧ y.pos < x.pos + d) ∨ (y.pos < x.pos ∧ x.pos + d < y.pos))) := by
  obtain ⟨j, d, hj, hd, hz'⟩ := hz.moves
  refine ⟨j, d, hj, hd, ?_⟩
  rw [hy.vel, hy.acc]
  rcases hz' with ⟨e1, e2, e3⟩ | ⟨p, hk, e1, e2, e3, e4⟩
  · rcases hy.pos with hpos | ⟨q, hq, hzv, hza, hnear, hpos⟩
    · exact .inl ⟨e1, e2, hpos.trans e3⟩
    · rw [e3, ← hpos] at hnear
      exact .inr ⟨q, hq, hzv, hza, hpos, .inl hnear⟩
  · rcases hy.pos with hpos | ⟨q, hq, -, -, -, hpos⟩
    · rw [hpos]
      exact .inr ⟨p, hk, e1, e2, e3, .inr e4⟩
    · have hyz : y.pos = z.pos := by rw [hpos, e3, MoveKind.position.inj (hq.symm.trans hk)]
      rw [hyz]
      exact .inr ⟨p, hk, e1, e2, e3, .inr e4⟩

/-- The axis that has begun its update with a move it started or went on with. -/
theorem State.beginUpdate_goes {m : Move} (hr : ∀ l, s.motion.axes[ax].homing ≠ some (.rebase l))
    (h : (s.motion.axes[ax].next = some (m, none) ∧ s.moveHeld ax m.kind = false) ∧ s.limitAhead ax (s.motion.axes[ax].toward m.kind) = none ∨
      (∀ m, s.motion.axes[ax].next = some (m, none) → s.moveHeld ax m.kind = true) ∧ s.motion.axes[ax].move = some m) :
    let x1 := (s.beginUpdate ax).motion.axes[ax]
    x1.move = some m ∧ x1.vel = s.motion.axes[ax].vel ∧ x1.acc = s.motion.axes[ax].acc ∧ x1.pos = s.motion.axes[ax].pos ∧
      x1.homing = s.motion.axes[ax].homing := by
  dsimp only
  rcases h with ⟨⟨hn, hh⟩, hl⟩ | ⟨hw, hm⟩
  · rw [State.beginUpdate_starts hr hn hh hl]
    exact ⟨rfl, rfl, rfl, rfl, rfl⟩
  · rw [State.beginUpdate_waits hw, AxisState.rebased_of_not hr]
    exact ⟨hm, rfl, rfl, rfl, rfl⟩

/-- Driving the coils moves them alone (R348). -/
theorem AxisState.drive_coils (x : AxisState) : ∃ a b, x.drive = { x with coilA := a, coilB := b } := ⟨_, _, rfl⟩

theorem AxisState.drive_keeps (x : AxisState) : x.drive.set = x.set ∧ x.drive.pos = x.pos ∧ x.drive.vel = x.vel ∧ x.drive.acc = x.acc ∧
    x.drive.move = x.move ∧ x.drive.next = x.next := by
  obtain ⟨a, b, h⟩ := x.drive_coils
  rw [h]
  exact ⟨rfl, rfl, rfl, rfl, rfl, rfl⟩

/-- PROFILE_UPDATE (R333 to R345). -/
theorem profileUpdate_holds (s : State) (ax : AxisNo) (hp : s.sys.power ≠ .dormant) : ∃ t : State, exec (.profileUpdate ax) s = .next t ∧ t.print = s.print ∧
    t.motion.switches = s.motion.switches ∧ (∀ b : AxisNo, b ≠ ax → t.motion.axes[b] = s.motion.axes[b]) ∧
    let x := s.motion.axes[ax]
    let y := t.motion.axes[ax]
    let waits : Prop := ∀ m, x.next = some (m, none) → s.moveHeld ax m.kind = true
    let starts (m : Move) : Prop := x.next = some (m, none) ∧ s.moveHeld ax m.kind = false
    y.set = x.set ∧
    (∀ l, x.homing = some (.rebase l) → waits → y.homed = true) ∧
    ((∀ l, x.homing ≠ some (.rebase l)) → x.move = none → waits →
      y.pos = x.pos ∧ y.vel = x.vel ∧ y.acc = x.acc ∧ y.move = none ∧ y.next = x.next) ∧
    (∀ (m : Move) (c : Nat), (∀ l, x.homing ≠ some (.rebase l)) → starts m → s.limitAhead ax (x.toward m.kind) = some c →
      x.limitDecel = false → x.vel = 0 → x.acc = 0 → y.next = none ∧ y.homing = none ∧ y.move = none ∧ y.pos = x.pos ∧ y.vel = 0) ∧
    (∀ m : Move, (∀ l, x.homing ≠ some (.rebase l)) →
      (starts m ∧ s.limitAhead ax (x.toward m.kind) = none ∨ waits ∧ x.move = some m) →
      ∃ (j d : Int), (j = 0 ∨ j = m.lim.j ∨ j = -(m.lim.j : Int)) ∧
        let acc := clampAcc x.vel (x.acc + j) m.lim
        let vel := x.vel + acc
        (1000000000 * d - 131072 * vel).natAbs < 1000000000 ∧
        ((y.acc = acc ∧ y.vel = vel ∧ y.pos = x.pos + d) ∨
          ∃ p, m.kind = .position p ∧ y.vel = 0 ∧ y.acc = 0 ∧ y.pos = p * 2 ^ 32 ∧
            ((y.pos - (x.pos + d)).natAbs < 2 ^ 32 ∨ (x.pos < y.pos ∧ y.pos < x.pos + d) ∨ (y.pos < x.pos ∧ x.pos + d < y.pos))) ∧
        (m.kind = .stop → y.vel = 0 → y.acc = 0 → x.homing = none → y.move = none ∧ y.limitDecel = false ∧ y.holdWait = true)) := by
  obtain ⟨t, hx, hmv, hnone, hsome⟩ := execProfileUpdate_updates (s := s) (ax := ax) hp
  have hset := (State.beginUpdate_moves (s := s) (ax := ax)).2
  refine ⟨t, hx, hmv.print, hmv.switches, hmv.others, ?_, fun l hl hw => ?_, fun hr hm hw => ?_, fun m c hr hst hl hd hv ha => ?_, fun m hr hgo => ?_⟩
  · cases hm : (s.beginUpdate ax).motion.axes[ax].move with
    | none =>
      rw [hnone hm, (AxisState.drive_keeps _).1]
      exact hset
    | some m =>
      obtain ⟨z, hz, hy⟩ := hsome m hm
      exact (hy.set.trans hz.set).trans hset
  · have hb := State.beginUpdate_waits hw
    have hre : s.motion.axes[ax].rebased.move.isSome = true ∧ s.motion.axes[ax].rebased.homing = some (.halt l) ∧ s.motion.axes[ax].rebased.homed = true := by
      unfold AxisState.rebased
      rw [hl]
      exact ⟨rfl, rfl, rfl⟩
    rw [hb] at hsome
    obtain ⟨m, hm⟩ := Option.isSome_iff_exists.mp hre.1
    obtain ⟨z, hz, hy⟩ := hsome m hm
    exact hy.homed (hz.homed.trans hre.2.2) ⟨l, hz.homing.trans hre.2.1⟩
  · have hb := (State.beginUpdate_waits hw).trans (AxisState.rebased_of_not hr)
    rw [hnone (by rw [hb]; exact hm), hb]
    obtain ⟨-, h1, h2, h3, h4, h5⟩ := AxisState.drive_keeps s.motion.axes[ax]
    exact ⟨h1, h2, h3, h4.trans hm, h5⟩
  · have hb := State.beginUpdate_limited hr hst.1 hst.2 hl
    have h1 : (s.motion.axes[ax].limited c).move = some ⟨.stop, s.motion.axes[ax].set.limitLimits⟩ := by
      unfold AxisState.limited
      rw [hd]
      rfl
    rw [hb] at hsome
    obtain ⟨z, hz, hy⟩ := hsome _ h1
    exact AxisState.limited_ends hd hv ha hz hy
  · obtain ⟨h1, h2, h3, h4, h5⟩ := State.beginUpdate_goes hr hgo
    obtain ⟨z, hz, hy⟩ := hsome m h1
    obtain ⟨j, d, hj, hd, hm⟩ := AxisState.update_moves hz hy
    rw [h2, h3] at hd
    rw [h2, h3, h4] at hm
    refine ⟨j, d, hj, hd, hm, fun hk hv ha hh => ?_⟩
    obtain ⟨e1, e2, e3, -⟩ := hy.stops hk (hy.vel.symm.trans hv) (hy.acc.symm.trans ha) (hz.homing.trans (h5.trans hh))
    exact ⟨e1, e2, e3⟩

end Sys2Proof.Machine
end

section
/-!
SUPPORT. Switch inputs, HOLD_DELAY, the choppers and coil faults (R341 to R352).
-/

namespace Sys2Proof.Machine

variable {s : State} {ax : AxisNo}

/-! ### Switch inputs (R341 to R347) -/

section Switch

variable {sw : SwitchNo} {level : Bool} {p : Int} {x : AxisState}

/-- The latch is all of an axis that a qualified change of a named input moves at first (R342). -/
theorem AxisState.latchAt_keeps : ∃ l, x.latchAt sw level p = { x with latch := l } ∧
    ((x.set.limitNeg = some sw ∨ x.set.limitPos = some sw) →
      l = some { position := p, input := sw, level := level, overrun := x.latch.isSome }) := by
  unfold AxisState.latchAt
  dsimp only
  by_cases hn : x.set.limitNeg = some sw ∨ x.set.limitPos = some sw
  · rw [if_pos (by rcases hn with h | h <;> simp [h])]
    exact ⟨_, rfl, fun _ => rfl⟩
  · split
    · exact ⟨_, rfl, fun h => absurd h hn⟩
    · exact ⟨x.latch, rfl, fun h => absurd h hn⟩

theorem AxisState.latchAt_unnamed (hn : ¬(x.set.limitNeg = some sw ∨ x.set.limitPos = some sw)) (hh : x.set.homeInput ≠ some sw) :
    x.latchAt sw level p = x := by
  rw [not_or] at hn
  exact if_neg (by simp [hn.1, hn.2, hh])

/-- A limit deceleration keeps the settings and the latch of its axis, and where it is. -/
theorem AxisState.limited_keeps (n : Nat) : (x.limited n).set = x.set ∧ (x.limited n).latch = x.latch ∧ (x.limited n).pos = x.pos ∧
    (x.limited n).limitDecel = true ∧ (x.limited n).next = none ∧ (x.limited n).homing = none := by
  unfold AxisState.limited
  split
  · exact ⟨rfl, rfl, rfl, rfl, rfl, rfl⟩
  · exact ⟨rfl, rfl, rfl, rfl, rfl, rfl⟩

/-- What a limit does to its axis: nothing, or the limit deceleration toward it (R343, R347). -/
theorem State.limitHit_moves : s.AxisMoves ax (s.limitHit ax sw level) ∧
    (s.limitHit ax sw level = s ∨ ∃ n, (s.limitHit ax sw level).motion.axes[ax] = s.motion.axes[ax].limited n) := by
  have hstop (n : Nat) : s.AxisMoves ax (s.limitStop ax n) ∧ (s.limitStop ax n = s ∨ ∃ n', (s.limitStop ax n).motion.axes[ax] = s.motion.axes[ax].limited n') := by
    refine ⟨State.limitStop_moves n, ?_⟩
    by_cases hr : s.motion.axes[ax].atRest = true
    · left
      unfold State.limitStop
      exact if_pos hr
    · exact .inr ⟨n, State.limitStop_moving n (by simpa using hr)⟩
  have hself : s.AxisMoves ax s := .of_eq rfl rfl
  unfold State.limitHit
  dsimp only
  split
  · exact ⟨hself, .inl rfl⟩
  · split
    · exact hstop 1
    · split
      · exact hstop 2
      · exact ⟨hself, .inl rfl⟩

theorem State.limitHit_unnamed (hn : ¬(s.motion.axes[ax].set.limitNeg = some sw ∨ s.motion.axes[ax].set.limitPos = some sw)) :
    s.limitHit ax sw level = s := by
  rw [not_or] at hn
  unfold State.limitHit
  dsimp only
  split
  · rfl
  · rw [if_neg, if_neg]
    · intro h
      rw [Bool.and_eq_true, beq_iff_eq] at h
      exact hn.2 h.1
    · intro h
      rw [Bool.and_eq_true, beq_iff_eq] at h
      exact hn.1 h.1

/-- A limit in the sense of motion stops its axis (R343). -/
theorem State.limitHit_stops (hl : level = true) (hr : s.motion.axes[ax].atRest = false)
    (h : s.motion.axes[ax].set.limitNeg = some sw ∧ s.motion.axes[ax].heading < 0 ∨
      s.motion.axes[ax].set.limitPos = some sw ∧ 0 < s.motion.axes[ax].heading) :
    ∃ n, (s.limitHit ax sw level).motion.axes[ax] = s.motion.axes[ax].limited n := by
  unfold State.limitHit
  dsimp only
  rw [hl, if_neg (by decide)]
  by_cases h1 : (s.motion.axes[ax].set.limitNeg == some sw && decide (s.motion.axes[ax].heading < 0)) = true
  · rw [if_pos h1]
    exact ⟨1, State.limitStop_moving 1 hr⟩
  · rw [if_neg h1]
    have h2 : (s.motion.axes[ax].set.limitPos == some sw && decide (0 < s.motion.axes[ax].heading)) = true := by
      rw [Bool.and_eq_true, beq_iff_eq, decide_eq_true_eq] at h1 ⊢
      exact h.resolve_left h1
    rw [if_pos h2]
    exact ⟨2, State.limitStop_moving 2 hr⟩

/-- What an edge of the HOME input does to its axis: the stop of step 1, or the edge of step 3 (R345). -/
theorem State.homeEdge_moves : s.AxisMoves ax (s.homeEdge ax sw p) ∧ ((s.homeEdge ax sw p).motion.axes[ax].latch = s.motion.axes[ax].latch) ∧
    ((s.motion.axes[ax].homing = none ∨ s.motion.axes[ax].set.homeInput ≠ some sw) → s.homeEdge ax sw p = s) := by
  have hself : s.AxisMoves ax s := .of_eq rfl rfl
  unfold State.homeEdge
  dsimp only
  by_cases hi : (s.motion.axes[ax].set.homeInput != some sw) = true
  · rw [if_pos hi]
    exact ⟨hself, rfl, fun _ => rfl⟩
  rw [if_neg hi]
  have hi' : s.motion.axes[ax].set.homeInput = some sw := by simpa using hi
  have hno (h : s.motion.axes[ax].homing ≠ none) (t : State) :
      (s.motion.axes[ax].homing = none ∨ s.motion.axes[ax].set.homeInput ≠ some sw) → t = s := fun hor =>
    hor.elim (fun hn => absurd hn h) fun hn => absurd hi' hn
  cases hh : s.motion.axes[ax].homing with
  | none => exact ⟨hself, rfl, fun _ => rfl⟩
  | some k =>
    rw [hh] at hno
    cases k with
    | leave =>
      dsimp only
      by_cases ha : s.atHome ax = true
      · rw [if_pos ha]
        exact ⟨hself, rfl, fun _ => rfl⟩
      · rw [if_neg ha, State.setAxis_same]
        exact ⟨State.setAxis_moves _, rfl, hno (by simp) _⟩
    | seek =>
      dsimp only
      by_cases ha : s.atHome ax = true
      · rw [if_pos ha, State.setAxis_same]
        exact ⟨State.setAxis_moves _, rfl, hno (by simp) _⟩
      · rw [if_neg ha]
        exact ⟨hself, rfl, fun _ => rfl⟩
    | rebase l => exact ⟨hself, rfl, fun _ => rfl⟩
    | halt l => exact ⟨hself, rfl, fun _ => rfl⟩
    | back l => exact ⟨hself, rfl, fun _ => rfl⟩

/-- The edge that homing seeks (R345). -/
theorem State.homeEdge_found (hi : s.motion.axes[ax].set.homeInput = some sw) (hh : s.motion.axes[ax].homing = some .seek)
    (ha : s.motion.switches[sw].level ≠ s.motion.axes[ax].set.homeInactive) :
    (s.homeEdge ax sw p).motion.axes[ax].homing = some (.rebase p) ∧ (s.homeEdge ax sw p).motion.axes[ax].pos = s.motion.axes[ax].pos := by
  have hat : s.atHome ax = true := by
    unfold State.atHome
    dsimp only
    rw [hi]
    exact bne_iff_ne.mpr ha
  have hx : s.homeEdge ax sw p = s.setAxis ax (fun x => { x with homing := some (.rebase p) }) := by
    unfold State.homeEdge
    dsimp only
    rw [if_neg (by rw [hi]; simp), hh]
    exact if_pos hat
  rw [hx, State.setAxis_same]
  exact ⟨rfl, rfl⟩

end Switch

/-- A qualified change at one axis: its latch, its limits, its homing (R342, R343, R345). -/
def State.axisSwitched (sw : SwitchNo) (level : Bool) (rec_ : Vector Int 4) (s : State) (a : AxisNo) : State :=
  ((s.setAxis a (fun x => x.latchAt sw level rec_[a])).limitHit a sw level).homeEdge a sw rec_[a]

section OneAxis

variable {sw : SwitchNo} {level : Bool} {rec_ : Vector Int 4} {a : AxisNo}

theorem State.axisSwitched_moves : s.AxisMoves a (s.axisSwitched sw level rec_ a) :=
  ((State.setAxis_moves _).trans State.limitHit_moves.1).trans State.homeEdge_moves.1

/-- An axis that does not name the input stays as it is. -/
theorem State.axisSwitched_other (hn : ¬(s.motion.axes[a].set.limitNeg = some sw ∨ s.motion.axes[a].set.limitPos = some sw))
    (hh : s.motion.axes[a].set.homeInput ≠ some sw) : (s.axisSwitched sw level rec_ a).motion.axes[a] = s.motion.axes[a] := by
  have hx : (s.setAxis a (fun x => x.latchAt sw level rec_[a])).motion.axes[a] = s.motion.axes[a] := by
    rw [State.setAxis_same, AxisState.latchAt_unnamed hn hh]
  unfold State.axisSwitched
  rw [State.limitHit_unnamed (by rw [hx]; exact hn), State.homeEdge_moves.2.2 (.inr (by rw [hx]; exact hh)), hx]

/-- An axis with the input for a limit latches its position (R342). -/
theorem State.axisSwitched_latches (hn : s.motion.axes[a].set.limitNeg = some sw ∨ s.motion.axes[a].set.limitPos = some sw) :
    (s.axisSwitched sw level rec_ a).motion.axes[a].latch =
      some { position := rec_[a], input := sw, level := level, overrun := s.motion.axes[a].latch.isSome } := by
  obtain ⟨l, hx, hl⟩ := AxisState.latchAt_keeps (x := s.motion.axes[a]) (sw := sw) (level := level) (p := rec_[a])
  have hy : (s.setAxis a (fun x => x.latchAt sw level rec_[a])).motion.axes[a].latch = l := by rw [State.setAxis_same, hx]
  unfold State.axisSwitched
  rw [State.homeEdge_moves.2.1, ← hl hn, ← hy]
  rcases State.limitHit_moves.2 with h | ⟨n, h⟩
  · rw [h]
  · rw [h]
    exact (AxisState.limited_keeps n).2.1

/-- An axis stopped by its limit (R343). -/
theorem State.axisSwitched_stops (hl : level = true) (hr : s.motion.axes[a].atRest = false)
    (h : s.motion.axes[a].set.limitNeg = some sw ∧ s.motion.axes[a].heading < 0 ∨ s.motion.axes[a].set.limitPos = some sw ∧ 0 < s.motion.axes[a].heading) :
    let y := (s.axisSwitched sw level rec_ a).motion.axes[a]
    y.limitDecel = true ∧ y.next = none ∧ y.homing = none ∧ y.pos = s.motion.axes[a].pos := by
  obtain ⟨l, hx, -⟩ := AxisState.latchAt_keeps (x := s.motion.axes[a]) (sw := sw) (level := level) (p := rec_[a])
  have hy : (s.setAxis a (fun x => x.latchAt sw level rec_[a])).motion.axes[a] = { s.motion.axes[a] with latch := l } := by
    rw [State.setAxis_same, hx]
  obtain ⟨n, hn⟩ := State.limitHit_stops (s := s.setAxis a (fun x => x.latchAt sw level rec_[a])) (ax := a) hl (by rw [hy]; exact hr) (by rw [hy]; exact h)
  obtain ⟨-, -, h1, h2, h3, h4⟩ := AxisState.limited_keeps (x := { s.motion.axes[a] with latch := l }) n
  rw [hy] at hn
  unfold State.axisSwitched
  dsimp only
  rw [State.homeEdge_moves.2.2 (.inl (by rw [hn]; exact h4)), hn]
  exact ⟨h2, h3, h4, h1⟩

/-- The edge that homing seeks is found (R345). -/
theorem State.axisSwitched_found (hn : ¬(s.motion.axes[a].set.limitNeg = some sw ∨ s.motion.axes[a].set.limitPos = some sw))
    (hi : s.motion.axes[a].set.homeInput = some sw) (hh : s.motion.axes[a].homing = some .seek)
    (hl : s.motion.switches[sw].level ≠ s.motion.axes[a].set.homeInactive) :
    (s.axisSwitched sw level rec_ a).motion.axes[a].homing = some (.rebase rec_[a]) ∧
    (s.axisSwitched sw level rec_ a).motion.axes[a].pos = s.motion.axes[a].pos := by
  obtain ⟨l, hx, -⟩ := AxisState.latchAt_keeps (x := s.motion.axes[a]) (sw := sw) (level := level) (p := rec_[a])
  have hy : (s.setAxis a (fun x => x.latchAt sw level rec_[a])).motion.axes[a] = { s.motion.axes[a] with latch := l } := by
    rw [State.setAxis_same, hx]
  have hf := State.homeEdge_found (s := s.setAxis a (fun x => x.latchAt sw level rec_[a])) (ax := a) (sw := sw) (p := rec_[a])
    (by rw [hy]; exact hi) (by rw [hy]; exact hh) (by rw [hy]; exact hl)
  unfold State.axisSwitched
  rw [State.limitHit_unnamed (by rw [hy]; exact hn)]
  exact ⟨hf.1, hf.2.trans (by rw [hy])⟩

end OneAxis

section AllAxes

variable {f : State → AxisNo → State} (hf : ∀ (s : State) (a : AxisNo), s.AxisMoves a (f s a))
include hf

theorem State.axesTake_other (l : List AxisNo) (s : State) : (l.foldl f s).print = s.print ∧ (l.foldl f s).motion.switches = s.motion.switches ∧
    ∀ a : AxisNo, a ∉ l → (l.foldl f s).motion.axes[a] = s.motion.axes[a] := by
  induction l generalizing s with
  | nil => exact ⟨rfl, rfl, fun _ _ => rfl⟩
  | cons b l ih =>
    obtain ⟨h1, h2, h3⟩ := ih (f s b)
    have hb := hf s b
    refine ⟨h1.trans hb.print, h2.trans hb.switches, fun a ha => ?_⟩
    exact (h3 a fun h => ha (List.mem_cons_of_mem b h)).trans (hb.others a fun h => ha (h ▸ List.mem_cons_self))

/-- Each axis of a list takes its step once, as it stood. -/
theorem State.axesTake_mem (l : List AxisNo) (hn : l.Nodup) (s : State) (a : AxisNo) (h : a ∈ l) :
    ∃ u : State, u.motion.axes[a] = s.motion.axes[a] ∧ u.motion.switches = s.motion.switches ∧ (l.foldl f s).motion.axes[a] = (f u a).motion.axes[a] := by
  induction l generalizing s with
  | nil => exact absurd h List.not_mem_nil
  | cons b l ih =>
    obtain ⟨hb, hn⟩ := List.nodup_cons.mp hn
    by_cases hab : a = b
    · subst hab
      exact ⟨s, rfl, rfl, (State.axesTake_other hf l _).2.2 a hb⟩
    · obtain ⟨u, h1, h2, h3⟩ := ih hn (f s b) ((List.mem_cons.mp h).resolve_left hab)
      exact ⟨u, h1.trans ((hf s b).others a hab), h2.trans (hf s b).switches, h3⟩

end AllAxes

/-- SWITCH_QUALIFIED of a level that qualifies: the input takes it, and every axis its part (R341 to R345). -/
theorem switchQualified_changes (s : State) (sw : SwitchNo) (held : Nat) :
    let w := s.motion.switches[sw]
    let level := qualify w.filter w.level (xor w.raw w.activeLow) held
    level ≠ w.level → ∃ t : State, exec (.switchQualified sw held) s = .next t ∧ t.print = s.print ∧
    t.motion.switches[sw] = { s.motion.switches[sw] with level := level } ∧
    (∀ k : SwitchNo, k ≠ sw → t.motion.switches[k] = s.motion.switches[k]) ∧
    (∀ a : AxisNo,
      let x := s.motion.axes[a]
      let y := t.motion.axes[a]
      let named : Prop := x.set.limitNeg = some sw ∨ x.set.limitPos = some sw
      (¬ named → x.set.homeInput ≠ some sw → y = x) ∧
      (named → y.latch = some { position := s.motion.switches[sw].recorded[a], input := sw, level := level, overrun := x.latch.isSome }) ∧
      (x.atRest = false → level = true → (x.set.limitNeg = some sw ∧ x.heading < 0 ∨ x.set.limitPos = some sw ∧ 0 < x.heading) →
        y.limitDecel = true ∧ y.next = none ∧ y.homing = none ∧ y.pos = x.pos) ∧
      (¬ named → x.set.homeInput = some sw → x.homing = some .seek → level ≠ x.set.homeInactive →
        y.homing = some (.rebase s.motion.switches[sw].recorded[a]) ∧ y.pos = x.pos)) := by
  intro w level hne
  generalize hs1 : ({ s with motion := { s.motion with switches := upd s.motion.switches sw (fun w => { w with level := level }) } } : State) = s1
  have hax : s1.motion.axes = s.motion.axes := by rw [← hs1]
  have hsw (k : SwitchNo) : s1.motion.switches[k] = if sw = k then { s.motion.switches[k] with level := level } else s.motion.switches[k] := by
    rw [← hs1]
    exact upd_fin ..
  have hpr : s1.print = s.print := by rw [← hs1]
  generalize hs2 : (List.finRange 4).foldl (State.axisSwitched sw level w.recorded) s1 = s2
  have hx : exec (.switchQualified sw held) s =
      .next ({ s2 with enc := { s2.enc with sets := s2.enc.sets.map (fun j => s2.setChanged j) } } : State).settle := by
    rw [← hs2, ← hs1]
    exact if_neg fun h => hne (beq_iff_eq.mp h)
  obtain ⟨h1, h2, -⟩ := State.axesTake_other (fun s a => State.axisSwitched_moves (s := s) (sw := sw) (level := level) (rec_ := w.recorded) (a := a))
    (List.finRange 4) s1
  have hmem (a : AxisNo) := State.axesTake_mem
    (fun s a => State.axisSwitched_moves (s := s) (sw := sw) (level := level) (rec_ := w.recorded) (a := a))
    (List.finRange 4) (List.nodup_finRange 4) s1 a (List.mem_finRange a)
  rw [hs2] at h1 h2 hmem
  refine ⟨_, hx, ?_⟩
  rw [State.settle_print, State.settle_motion]
  refine ⟨h1.trans hpr, ?_, fun k hk => ?_, fun a => ?_⟩
  · dsimp only
    rw [h2, hsw, if_pos rfl]
  · dsimp only
    rw [h2, hsw, if_neg (Ne.symm hk)]
  · obtain ⟨u, hu, husw, hr⟩ := hmem a
    have hua : u.motion.axes[a] = s.motion.axes[a] := by rw [hu, hax]
    dsimp only
    rw [hr]
    refine ⟨fun hn hi => ?_, fun hn => ?_, fun hrest hl hhd => ?_, fun hn hi hh hl => ?_⟩
    · rw [State.axisSwitched_other (by rw [hua]; exact hn) (by rw [hua]; exact hi), hua]
    · rw [State.axisSwitched_latches (by rw [hua]; exact hn), hua]
    · have h := State.axisSwitched_stops (s := u) (a := a) (rec_ := w.recorded) hl (by rw [hua]; exact hrest) (by rw [hua]; exact hhd)
      rw [hua] at h
      exact h
    · have h := State.axisSwitched_found (s := u) (a := a) (level := level) (rec_ := w.recorded) (by rw [hua]; exact hn) (by rw [hua]; exact hi)
        (by rw [hua]; exact hh) (by rw [hua, husw, hsw, if_pos rfl]; exact hl)
      rw [hua] at h
      exact h

/-! ### HOLD_DELAY, the choppers and coil faults (R348 to R352) -/

theorem execHoldDelay_holds (ax : AxisNo) (h : s.motion.axes[ax].holdWait = true) : ∃ t : State, exec (.holdDelay ax) s = .next t ∧
    t.motion.axes[ax] = ({ s.motion.axes[ax] with holding := true, holdWait := false } : AxisState).drive ∧
    (∀ b : AxisNo, b ≠ ax → t.motion.axes[b] = s.motion.axes[b]) ∧ t.print = s.print := by
  refine ⟨_, if_pos h, ?_, fun b hb => ?_, ?_⟩
  · rw [State.settle_motion, State.setAxis_same]
  · rw [State.settle_motion, State.setAxis_other hb]
  · rw [State.settle_print, State.setAxis_print]

theorem AxisState.coil_setCoil (x : AxisState) (coil : Coil) (f : CoilState → CoilState) : (x.setCoil coil f).coil coil = f (x.coil coil) ∧
    (x.setCoil coil f).pos = x.pos := by
  cases coil
  · exact ⟨rfl, rfl⟩
  · exact ⟨rfl, rfl⟩

/-- A cycle without a time of its own, or too short for the offset to show, leaves OFS (R350). -/
theorem CoilState.adapt_ignored {c : CoilState} {lasted : Nat} (up : Bool)
    (h : c.tOn = none ∨ ∀ n, c.tOn = some n → n * lasted ≤ 2 * (c.cyc.delayNs * (n + lasted))) : c.adapt lasted up = (c, false) := by
  unfold CoilState.adapt
  cases hc : c.tOn with
  | none => rfl
  | some n =>
    have hle := h.elim (fun h => absurd (hc.symm.trans h) (by simp)) fun h => h n hc
    have hcyc : ofsCycle c.cyc.hyst c.cyc.delayNs n lasted = none := if_neg (Nat.not_lt.mpr hle)
    rw [Option.bind_some, hcyc]

theorem CoilState.adapt_moves {c : CoilState} {lasted n : Nat} {cyc : Int × Nat} (up : Bool) (h : c.tOn = some n)
    (hc : ofsCycle c.cyc.hyst c.cyc.delayNs n lasted = some cyc) : (c.adapt lasted up).1.ofs = clampOfs (moveOfs c.ofs cyc up) := by
  unfold CoilState.adapt
  rw [h, Option.bind_some, hc]

/-- Adapting moves of a coil OFS and its clamp (R350). -/
theorem CoilState.adapt_keeps (c : CoilState) (lasted : Nat) (up : Bool) : ∃ o k, (c.adapt lasted up).1 = { c with ofs := o, clamp := k } := by
  unfold CoilState.adapt
  split
  · exact ⟨_, _, rfl⟩
  · exact ⟨_, _, rfl⟩

section Chopper

variable {coil : Coil} {lasted sense : Nat}

/-- The coil at the end of a chop cycle: its offset adapted, unless a calibration runs or ADAPT is 0 (R349, R350). -/
def State.coilEnds (s : State) (ax : AxisNo) (coil : Coil) (lasted : Nat) : CoilState × Bool :=
  if (s.motion.axes[ax].coil coil).cyc.adapt && !s.health.runs.any (fun r => r.proc == .chopper ax) then
    (s.motion.axes[ax].coil coil).adapt lasted (bitAt s.free 0)
  else (s.motion.axes[ax].coil coil, false)

variable (hc : s.chops ax coil = true) (hb : (s.motion.axes[ax].coil coil).blanked lasted = false)
include hc hb

theorem execChopper_decays (hd : (s.motion.axes[ax].coil coil).drive = true) (hs : 256 * (s.motion.axes[ax].coil coil).upper < sense) :
    exec (.chopperTransition ax coil ⟨lasted, sense⟩) s =
      .next (s.setAxis ax (fun x => x.setCoil coil (fun c => { c with drive := false, tOn := some lasted }))).settle := by
  refine (if_neg (by rw [hc, hb]; decide)).trans ?_
  refine (if_pos hd).trans (if_pos hs)

theorem execChopper_drives (hd : (s.motion.axes[ax].coil coil).drive = false) (hs : sense < 256 * (s.motion.axes[ax].coil coil).lower) :
    ∃ t : State, exec (.chopperTransition ax coil ⟨lasted, sense⟩) s = .next t ∧ s.AxisMoves ax t ∧
      t.motion.axes[ax] = s.motion.axes[ax].setCoil coil
        (fun _ => (s.coilEnds ax coil lasted).1.begin s.motion.axes[ax].set.chop (bitAt s.free 1)) := by
  generalize hu : s.drew.setAxis ax (fun x => x.setCoil coil (fun _ => (s.coilEnds ax coil lasted).1.begin x.set.chop (bitAt s.free 1))) = u
  have hx : exec (.chopperTransition ax coil ⟨lasted, sense⟩) s = if (s.coilEnds ax coil lasted).2 then
      (u.raiseF .coilOffsetLimit [fld 0 2 ax.val, fld 2 1 coil.num, fld 3 1 (b2n (decide ((s.coilEnds ax coil lasted).1.ofs < 0)))]).done
      else u.done := by
    rw [← hu]
    refine (if_neg (by rw [hc, hb]; decide)).trans ?_
    exact (if_neg (by rw [hd]; decide)).trans (if_pos hs)
  have hm : s.AxisMoves ax u := by
    rw [← hu]
    exact State.AxisMoves.trans (t := s.drew) (.of_eq rfl rfl) (State.setAxis_moves _)
  have ha : u.motion.axes[ax] = s.motion.axes[ax].setCoil coil
      (fun _ => (s.coilEnds ax coil lasted).1.begin s.motion.axes[ax].set.chop (bitAt s.free 1)) := by
    rw [← hu, State.setAxis_same]
    rfl
  have hset (w : State) : w.AxisMoves ax w.settle := .of_eq (State.settle_motion w) (State.settle_print w)
  by_cases hl : (s.coilEnds ax coil lasted).2 = true
  · refine ⟨_, hx.trans (if_pos hl), (hm.trans (State.raiseF_moves ..)).trans (hset _), ?_⟩
    rw [State.settle_motion, State.raiseF_motion, ha]
  · refine ⟨_, hx.trans (if_neg hl), hm.trans (hset _), ?_⟩
    rw [State.settle_motion, ha]

end Chopper

theorem State.coilEnds_keeps (coil : Coil) (lasted : Nat) : ∃ o k, (s.coilEnds ax coil lasted).1 = { s.motion.axes[ax].coil coil with ofs := o, clamp := k } := by
  unfold State.coilEnds
  exact iteInduction (motive := fun q : CoilState × Bool => ∃ o k, q.1 = { s.motion.axes[ax].coil coil with ofs := o, clamp := k })
    (fun _ => CoilState.adapt_keeps ..) fun _ => ⟨_, _, rfl⟩

theorem State.coilEnds_same {coil : Coil} {lasted : Nat} (h : (s.motion.axes[ax].coil coil).cyc.adapt = false ∨ (s.motion.axes[ax].coil coil).tOn = none ∨
    (∀ n, (s.motion.axes[ax].coil coil).tOn = some n → n * lasted ≤ 2 * ((s.motion.axes[ax].coil coil).cyc.delayNs * (n + lasted)))) :
    (s.coilEnds ax coil lasted).1 = s.motion.axes[ax].coil coil := by
  unfold State.coilEnds
  rcases h with h | h
  · rw [h]
    rfl
  · rw [CoilState.adapt_ignored _ h, ite_self]

theorem State.coilEnds_moves {coil : Coil} {lasted n : Nat} {cyc : Int × Nat} (ha : (s.motion.axes[ax].coil coil).cyc.adapt = true)
    (hr : ∀ r ∈ s.health.runs, r.proc ≠ .chopper ax) (hn : (s.motion.axes[ax].coil coil).tOn = some n)
    (hc : ofsCycle (s.motion.axes[ax].coil coil).cyc.hyst (s.motion.axes[ax].coil coil).cyc.delayNs n lasted = some cyc) :
    (s.coilEnds ax coil lasted).1.ofs = clampOfs (moveOfs (s.motion.axes[ax].coil coil).ofs cyc (bitAt s.free 0)) := by
  have hany : s.health.runs.any (fun r => r.proc == .chopper ax) = false := by
    rw [List.any_eq_false]
    exact fun r hm => by simpa using hr r hm
  unfold State.coilEnds
  rw [ha, hany]
  exact CoilState.adapt_moves _ hn hc

/-- A cycle that begins (R349). -/
theorem CoilState.begin_begins (c : CoilState) (t : ChopSettings) (up : Bool) :
    (c.begin t up).target = c.target ∧ (c.begin t up).ph = c.ph ∧ (c.begin t up).drive = true ∧ (c.begin t up).tOn = none ∧ (c.begin t up).cyc = t ∧
    (c.begin t up).ofs = c.ofs ∧ roundOfs c.ofs c.ofsRem up = ((c.begin t up).ofsNow, (c.begin t up).ofsRem) :=
  ⟨rfl, rfl, rfl, rfl, rfl, rfl, rfl⟩

/-- CHOPPER_TRANSITION (R349, R350). -/
theorem chopperTransition_holds (s : State) (ax : AxisNo) (coil : Coil) (lasted sense : Nat) :
    let x := s.motion.axes[ax]
    let c := x.coil coil
    let off : Prop := s.chops ax coil = false ∨ c.blanked lasted = true ∨ (c.drive = true ∧ sense ≤ 256 * c.upper) ∨
      (c.drive = false ∧ 256 * c.lower ≤ sense)
    (s.quiet → off → exec (.chopperTransition ax coil ⟨lasted, sense⟩) s = .next s) ∧
    (¬ off → ∃ t : State, exec (.chopperTransition ax coil ⟨lasted, sense⟩) s = .next t ∧ t.print = s.print ∧
      (∀ b : AxisNo, b ≠ ax → t.motion.axes[b] = s.motion.axes[b]) ∧ t.motion.axes[ax].pos = x.pos ∧
      let d := t.motion.axes[ax].coil coil
      d.target = c.target ∧ d.ph = c.ph ∧
      (c.drive = true → d = { c with drive := false, tOn := some lasted }) ∧
      (c.drive = false → d.drive = true ∧ d.tOn = none ∧ d.cyc = x.set.chop ∧
        (∃ up, roundOfs d.ofs c.ofsRem up = (d.ofsNow, d.ofsRem)) ∧
        (c.cyc.adapt = false ∨ c.tOn = none ∨ (∀ n, c.tOn = some n → n * lasted ≤ 2 * (c.cyc.delayNs * (n + lasted))) → d.ofs = c.ofs) ∧
        (c.cyc.adapt = true → (∀ r ∈ s.health.runs, r.proc ≠ .chopper ax) → ∀ n cyc, c.tOn = some n →
          ofsCycle c.cyc.hyst c.cyc.delayNs n lasted = some cyc → ∃ up, d.ofs = clampOfs (moveOfs c.ofs cyc up)))) := by
  intro x c off
  refine ⟨fun hq hoff => ?_, fun hon => ?_⟩
  · refine Eq.trans (b := s.done) ?_ (State.done_quiet s hq)
    by_cases hcb : (!s.chops ax coil || c.blanked lasted) = true
    · exact if_pos hcb
    refine (if_neg hcb).trans ?_
    simp only [Bool.not_eq_true, Bool.or_eq_false_iff, Bool.not_eq_false'] at hcb
    have hoff := (hoff.resolve_left (by rw [hcb.1]; decide)).resolve_left (by rw [hcb.2]; decide)
    rcases hoff with ⟨hd, hs⟩ | ⟨hd, hs⟩
    · exact (if_pos hd).trans (if_neg (Nat.not_lt.mpr hs))
    · refine (if_neg ?_).trans (if_neg (Nat.not_lt.mpr hs))
      rw [hd]
      decide
  · simp only [off, not_or, not_and, Nat.not_le, Bool.not_eq_false, Bool.not_eq_true] at hon
    obtain ⟨hc, hb, hup, hlo⟩ := hon
    cases hd : c.drive with
    | true =>
      refine ⟨_, execChopper_decays hc hb hd (hup hd), ?_⟩
      obtain ⟨h1, h2⟩ := AxisState.coil_setCoil x coil (fun c => { c with drive := false, tOn := some lasted })
      rw [State.settle_print, State.settle_motion, State.setAxis_print, State.setAxis_same]
      refine ⟨rfl, fun b hb => State.setAxis_other hb _, h2, ?_⟩
      dsimp only
      rw [h1]
      exact ⟨rfl, rfl, fun _ => rfl, fun h => absurd h.symm Bool.false_ne_true⟩
    | false =>
      obtain ⟨t, hx, hm, ht⟩ := execChopper_drives hc hb hd (hlo hd)
      obtain ⟨h1, h2⟩ := AxisState.coil_setCoil x coil (fun _ => (s.coilEnds ax coil lasted).1.begin x.set.chop (bitAt s.free 1))
      obtain ⟨g1, g2, g3, g4, g5, g6, g7⟩ := CoilState.begin_begins (s.coilEnds ax coil lasted).1 x.set.chop (bitAt s.free 1)
      obtain ⟨o, k, hk⟩ := State.coilEnds_keeps (s := s) (ax := ax) coil lasted
      have hrem : (s.coilEnds ax coil lasted).1.ofsRem = c.ofsRem := by rw [hk]
      have htg : (s.coilEnds ax coil lasted).1.target = c.target ∧ (s.coilEnds ax coil lasted).1.ph = c.ph := by
        rw [hk]
        exact ⟨rfl, rfl⟩
      refine ⟨t, hx, hm.print, hm.others, by rw [ht]; exact h2, ?_⟩
      dsimp only
      rw [ht, h1]
      refine ⟨g1.trans htg.1, g2.trans htg.2, fun h => absurd h Bool.false_ne_true, fun _ => ⟨g3, g4, g5, ⟨bitAt s.free 1, ?_⟩, fun h => ?_, fun ha hr n cyc hn hcyc => ⟨bitAt s.free 0, ?_⟩⟩⟩
      · rw [g6, ← hrem]
        exact g7
      · rw [g6, State.coilEnds_same h]
      · rw [g6]
        exact State.coilEnds_moves ha hr hn hcyc

theorem coilTarget_zero (n : Nat) : coilTarget 0 n = 0 := by
  unfold coilTarget
  rw [Nat.mul_zero, Nat.zero_mul, Nat.zero_add]
  norm_num

/-- A faulted axis drives no coil (R352). -/
theorem AxisState.drive_faulted {x : AxisState} (h : x.coilFault = true) : ∃ p q, x.drive = { x with coilA := p, coilB := q } ∧
    p.target = 0 ∧ p.drive = false ∧ q.target = 0 ∧ q.drive = false := by
  have hi : (if x.set.enable && !x.coilFault then x.current else 0) = 0 := by
    rw [h]
    exact if_neg (by simp)
  refine ⟨_, _, rfl, ?_⟩
  unfold CoilState.aim
  dsimp only
  rw [hi, coilTarget_zero, coilTarget_zero]
  exact ⟨rfl, Bool.and_false _, rfl, Bool.and_false _⟩

/-- COIL_FAULT (R352). -/
theorem execCoilFault_faults (ax : AxisNo) (coil : Coil) (r : CoilFaultReason) (h : s.mayFault ax coil r = true) :
    ∃ t : State, exec (.coilFault ax coil r) s = .next t ∧ t.print = s.print ∧
      (∀ b : AxisNo, b ≠ ax → t.motion.axes[b] = s.motion.axes[b]) ∧
      let y := t.motion.axes[ax]
      y.coilFault = true ∧ y.move = none ∧ y.next = none ∧ y.homing = none ∧ y.homed = false ∧ y.vel = 0 ∧ y.acc = 0 ∧ y.pos = s.motion.axes[ax].pos ∧
      y.coilA.target = 0 ∧ y.coilA.drive = false ∧ y.coilB.target = 0 ∧ y.coilB.drive = false := by
  refine ⟨_, if_neg (by rw [h]; decide), ?_, fun b hb => ?_, ?_⟩
  · rw [State.settle_print, State.calCheck_print, State.raiseF_print, State.setAxis_print]
  · rw [State.settle_motion, State.calCheck_motion, State.raiseF_motion, State.setAxis_other hb]
  · rw [State.settle_motion, State.calCheck_motion, State.raiseF_motion, State.setAxis_same]
    obtain ⟨p, q, hd, h1, h2, h3, h4⟩ := AxisState.drive_faulted (x := { s.motion.axes[ax] with
      coilFault := true, move := none, next := none, homing := none, limitDecel := false, homeFail := false
      holdWait := !s.motion.axes[ax].holding, homed := false, vel := 0, acc := 0 }) rfl
    rw [hd]
    exact ⟨rfl, rfl, rfl, rfl, rfl, rfl, rfl, rfl, h1, h2, h3, h4⟩

/-- Settles O52: the profile, the switch inputs, the hold current, the choppers and the coil faults, each on its axis. -/
theorem axesSwitchesAndCoilsFollowTheirRules : Obligations.AxesSwitchesAndCoilsFollowTheirRules := by
  unfold Obligations.AxesSwitchesAndCoilsFollowTheirRules
  refine ⟨fun s ax hq hp => (if_pos (beq_iff_eq.mpr hp)).trans (State.done_quiet s hq), profileUpdate_holds,
    fun s sw level hq => State.done_quiet _ hq, ?_, switchQualified_changes,
    fun s ax hq => ⟨fun h => (if_neg (by rw [h]; decide)).trans (State.done_quiet s hq), execHoldDelay_holds ax⟩,
    chopperTransition_holds, fun s ax coil r => ⟨fun hq h => (if_pos (by rw [h]; rfl)).trans (State.done_quiet s hq), execCoilFault_faults ax coil r⟩⟩
  intro s sw held w level hq h
  exact (if_pos (beq_iff_eq.mpr h)).trans (State.done_quiet s hq)

end Sys2Proof.Machine
end

section
/-!
SUPPORT. The camera commands that commit, read and release (R379, R549).
-/

namespace Sys2Proof.Machine

variable {s : State} {c : Cmd} {p : CamNo}

theorem State.setCam_get (p r : CamNo) (f : CamState → CamState) :
    (s.setCam p f).cam.ports[r] = if p = r then f s.cam.ports[r] else s.cam.ports[r] := upd_fin ..

theorem State.setCam_same (p : CamNo) (f : CamState → CamState) : (s.setCam p f).cam.ports[p] = f s.cam.ports[p] :=
  (State.setCam_get p p f).trans (if_pos rfl)

theorem State.setCam_other {p r : CamNo} (h : r ≠ p) (f : CamState → CamState) : (s.setCam p f).cam.ports[r] = s.cam.ports[r] :=
  (State.setCam_get p r f).trans (if_neg (Ne.symm h))

theorem State.start_ports (r : CamNo) : (s.start c).cam.ports[r] = s.cam.ports[r] := by rw [State.start_cam]

/-! ### STATS_READ and STATS_RELEASE -/

/-- The records that a read gives: those counted, up to the first not yet (R549). -/
def CamState.readable (q : CamState) : List StatsRec := (q.stats.filter (fun r => !r.lost)).takeWhile (fun r => r.processed)

/-- The records that fit the buffer of STATS_READ. -/
def statsFitting (c : Cmd) (q : CamState) : List (List Word) := fitting (bits (c.dw 2) 31 0) (q.readable.map (fun r => r.words)) 0

section StatsRead

variable (hp : p = camOf (bits (c.dw 0) 1 0)) (hb : bufferBad (c.dw 1) (c.dw 2) = false)
include hp hb

theorem cmdStatsRead_none (h : s.cam.ports[p].readable = []) : cmdStatsRead c s = (s, resp .ok 0) := by
  subst hp
  unfold CamState.readable at h
  refine (if_neg (by rw [hb]; decide)).trans ?_
  dsimp only
  rw [h]

variable {r : StatsRec} {l : List StatsRec} (h : s.cam.ports[p].readable = r :: l)
include h

theorem cmdStatsRead_small (hw : statsFitting c s.cam.ports[p] = []) : cmdStatsRead c s = (s, resp .bufferSmall (blockBytes r.words)) := by
  subst hp
  unfold statsFitting at hw
  rw [h] at hw
  unfold CamState.readable at h
  refine (if_neg (by rw [hb]; decide)).trans ?_
  dsimp only
  rw [h, hw]
  rfl

theorem cmdStatsRead_writes (hw : statsFitting c s.cam.ports[p] ≠ []) (hwr : Writes c 1 (statsFitting c s.cam.ports[p]).flatten) : cmdStatsRead c s =
    (s.emit (.hostWrite (c.dw 1) (pad64 (statsFitting c s.cam.ports[p]).flatten)),
      resp .ok (fld 0 16 (statsFitting c s.cam.ports[p]).length + fld 16 24 r.frame)) := by
  subst hp
  unfold statsFitting at hw hwr ⊢
  rw [h] at hw hwr ⊢
  unfold CamState.readable at h
  refine (if_neg (by rw [hb]; decide)).trans ?_
  dsimp only
  rw [h]
  dsimp only
  rw [if_neg (by simpa using hw)]
  unfold State.writeBlock
  rw [if_neg (Nat.not_lt.mpr hwr.room), hwr.written]

end StatsRead

section StatsRelease

variable (hp : p = camOf (c.argBits 33 32))
include hp

theorem cmdStatsRelease_none (h : releaseCount (s.cam.ports[p].readable.map (fun r => r.frame)) (c.argBits 31 0) = 0) :
    cmdStatsRelease c s = (s, resp .notFound 0) := by
  subst hp
  exact if_pos h

theorem cmdStatsRelease_releases (h : releaseCount (s.cam.ports[p].readable.map (fun r => r.frame)) (c.argBits 31 0) ≠ 0) : cmdStatsRelease c s =
    (s.setCam p (fun q => { q with stats := q.stats.filter (fun r =>
      !((s.cam.ports[p].readable.take (releaseCount (s.cam.ports[p].readable.map (fun r => r.frame)) (c.argBits 31 0))).map (fun r => r.frame)).contains r.frame) }),
      resp .ok (releaseCount (s.cam.ports[p].readable.map (fun r => r.frame)) (c.argBits 31 0))) := by
  subst hp
  exact if_neg h

end StatsRelease

/-! ### TAP_READ and TAP_RELEASE -/

/-- The length of a block grows with its words (R538). -/
theorem blockBytes_mono {a b : List Word} (h : a.length ≤ b.length) : blockBytes a ≤ blockBytes b := by
  unfold blockBytes pad64
  rw [List.length_append, List.length_append, List.length_replicate, List.length_replicate]
  omega

theorem flatten_take_length (bs : List (List Word)) (n : Nat) : (bs.take n).flatten.length ≤ bs.flatten.length := by
  conv_rhs => rw [← List.take_append_drop n bs, List.flatten_append, List.length_append]
  exact Nat.le_add_right _ _

theorem State.writeBlock_writes {c : Cmd} {i : Nat} {ws : List Word} (hw : Writes c i ws) (ok : Nat) :
    s.writeBlock c (c.dw i) (c.dw (i + 1)) ws ok = (s.emit (.hostWrite (c.dw i) (pad64 ws)), resp .ok ok) := by
  unfold State.writeBlock
  rw [if_neg (Nat.not_lt.mpr hw.room), hw.written]

section Copy

variable {i region : Nat} {bs : List (List Word)} (hw : Writes c i bs.flatten) (ok : Nat)
include hw

/-- A copy of bursts that read whole (R538). -/
theorem State.copyBlocks_whole (hd : (s.readBursts (regionReads region c.reads)).2 = [])
    (hp : (s.readBursts (regionReads region c.reads)).1.poisonIn region = none) : s.copyBlocks c i region bs ok =
    ((s.readBursts (regionReads region c.reads)).1.emit (.hostWrite (c.dw i) (pad64 bs.flatten)), resp .ok ok) := by
  unfold State.copyBlocks
  dsimp only
  rw [hd, hp]
  exact State.writeBlock_writes hw ok

/-- A copy of bursts one of which cannot be read ends with what came before it (R538, R587). -/
theorem State.copyBlocks_lost {b : BitVec 30} {l : List (BitVec 30)} (hd : (s.readBursts (regionReads region c.reads)).2 = b :: l) :
    ∃ n, s.copyBlocks c i region bs ok =
      ((s.readBursts (regionReads region c.reads)).1.drew.emit (.hostWrite (c.dw i) (pad64 (bs.take n).flatten)), resp .dramError (burstResult b)) := by
  unfold State.copyBlocks
  dsimp only
  rw [hd]
  dsimp only [List.head?_cons]
  generalize (s.readBursts (regionReads region c.reads)).1.free.toNat % max 1 bs.length = n
  have hwn : Writes c i (bs.take n).flatten := ⟨hw.aligned, Nat.le_trans (blockBytes_mono (flatten_take_length bs n)) hw.room, hw.written⟩
  refine ⟨n, ?_⟩
  rw [State.writeBlock_writes hwn]
  rfl

end Copy

/-- The tap that TAP_READ names. -/
def State.tapOf (s : State) (c : Cmd) : TapCtx := s.cam.ports[camOf (bits (c.dw 0) 1 0)].taps[(Fin.ofNat 4 (bits (c.dw 0) 3 2) : Fin 4)]

/-- The number of whole frames that fit the buffer of TAP_READ. -/
def tapFitting (c : Cmd) (x : TapCtx) : Nat := (fitting (bits (c.dw 2) 31 0) (x.frames.map (fun f => f.2.flatten)) 0).length

section TapRead

variable (hb : bufferBad (c.dw 1) (c.dw 2) = false)
include hb

theorem cmdTapRead_none (h : (s.tapOf c).frames = []) : cmdTapRead c s = (s, resp .ok 0) := by
  unfold State.tapOf at h
  refine (if_neg (by rw [hb]; decide)).trans ?_
  dsimp only
  rw [h]

variable {f : Nat × List (List Word)} {l : List (Nat × List (List Word))} (h : (s.tapOf c).frames = f :: l)
include h

theorem cmdTapRead_small (hn : tapFitting c (s.tapOf c) = 0) : cmdTapRead c s = (s, resp .bufferSmall (blockBytes f.2.flatten)) := by
  unfold tapFitting at hn
  rw [h] at hn
  unfold State.tapOf at h
  refine (if_neg (by rw [hb]; decide)).trans ?_
  dsimp only
  rw [h]
  exact if_pos hn

theorem cmdTapRead_copies (hn : tapFitting c (s.tapOf c) ≠ 0) : cmdTapRead c s =
    s.copyBlocks c 1 7 (((s.tapOf c).frames.take (tapFitting c (s.tapOf c))).flatMap (fun f => f.2))
      (blockBytes (((s.tapOf c).frames.take (tapFitting c (s.tapOf c))).flatMap (fun f => f.2)).flatten) := by
  unfold tapFitting at hn ⊢
  rw [h] at hn ⊢
  unfold State.tapOf at h
  refine (if_neg (by rw [hb]; decide)).trans ?_
  dsimp only
  rw [h]
  exact if_neg hn

end TapRead

theorem State.start_tapOf : (s.start c).tapOf c = s.tapOf c := by
  unfold State.tapOf
  rw [State.start_cam]

/-- TAP_READ (R379, R549). -/
theorem tapRead_holds (s : State) (c : Cmd) (hr : Runs s 0x44 true false c) :
    let x := s.tapOf c
    let n := tapFitting c x
    let bs := ((x.frames.take n).flatMap (fun f => f.2)).flatten
    let d := (s.start c).readBursts (regionReads 7 c.reads)
    (bufferBad (c.dw 1) (c.dw 2) = true → exec (.tapRead c) s = .next ((s.start c).reply c 0x44 .argBad 0)) ∧
    (bufferBad (c.dw 1) (c.dw 2) = false →
      (x.frames = [] → exec (.tapRead c) s = .next ((s.start c).reply c 0x44 .ok 0)) ∧
      (∀ f l, x.frames = f :: l → (n = 0 → exec (.tapRead c) s =
          .next ((s.start c).reply c 0x44 .bufferSmall (low40 (blockBytes f.2.flatten)))) ∧
        (n ≠ 0 → d.2 = [] → d.1.poisonIn 7 = none → Writes c 1 bs → exec (.tapRead c) s =
          .next ((d.1.emit (.hostWrite (c.dw 1) (pad64 bs))).reply c 0x44 .ok (low40 (blockBytes bs)))) ∧
        (∀ b l', n ≠ 0 → d.2 = b :: l' → Writes c 1 bs → ∃ u : State, exec (.tapRead c) s =
          .next (u.reply c 0x44 .dramError (burstResult b)) ∧ u.cam = s.cam ∧ u.print = s.print))) := by
  intro x n bs d
  have hst : (s.start c).tapOf c = x := State.start_tapOf
  refine ⟨fun hb => command_replyAtStart (f := cmdTapRead) rfl hr (if_pos hb), fun hb => ⟨fun h => ?_, fun f l h => ⟨fun hn => ?_, fun hn hd hp hw => ?_, fun b l' hn hd hw => ?_⟩⟩⟩
  · exact command_replyAtStart (f := cmdTapRead) rfl hr (cmdTapRead_none hb (by rw [hst]; exact h))
  · exact command_replyAtStart (f := cmdTapRead) rfl hr (cmdTapRead_small hb (by rw [hst]; exact h) (by rw [hst]; exact hn))
  · have hx := cmdTapRead_copies hb (s := s.start c) (by rw [hst]; exact h) (by rw [hst]; exact hn)
    rw [hst] at hx
    exact command_replyAtStart (f := cmdTapRead) rfl hr (hx.trans (State.copyBlocks_whole hw _ hd hp))
  · have hx := cmdTapRead_copies hb (s := s.start c) (by rw [hst]; exact h) (by rw [hst]; exact hn)
    rw [hst] at hx
    obtain ⟨m, hm⟩ := State.copyBlocks_lost (bs := (x.frames.take n).flatMap (fun f => f.2)) hw (blockBytes bs) hd
    refine ⟨_, command_replyAtStart (f := cmdTapRead) rfl hr (hx.trans hm), ?_, ?_⟩
    · exact ((State.readBursts_cam ..).trans (State.start_cam s c))
    · exact ((State.readBursts_print ..).trans (State.start_print s c))

/-- Settles O53: each of the five commands by the lemmas about its parts. -/
theorem cameraCommandsCommitReadAndRelease : Obligations.CameraCommandsCommitReadAndRelease := by
  unfold Obligations.CameraCommandsCommitReadAndRelease
  refine ⟨fun s c hr => ?_, fun s c hr => ?_, fun s c hr => ?_, tapRead_holds, fun s c hr => ?_⟩
  · have hx : cmdCameraCommit c (s.start c) = ((s.start c).setCam (camOf (c.argBits 1 0)) (fun q =>
        { q with gen := s.cam.ports[camOf (c.argBits 1 0)].gen + 1, commits := q.commits ++ [(s.cam.ports[camOf (c.argBits 1 0)].gen + 1, q.shadow)] }),
        resp .ok (s.cam.ports[camOf (c.argBits 1 0)].gen + 1).toNat) := by
      unfold cmdCameraCommit
      dsimp only
      rw [State.start_ports]
    refine ⟨_, command_replyAtStart (f := cmdCameraCommit) rfl hr hx, ?_, fun r hne => ?_, ?_⟩
    · rw [State.setCam_same, State.start_ports]
    · rw [State.setCam_other hne, State.start_ports]
    · rw [State.setCam_print, State.start_print]
  · have hp : (s.start c).cam.ports[camOf (bits (c.dw 0) 1 0)] = s.cam.ports[camOf (bits (c.dw 0) 1 0)] := State.start_ports _
    refine ⟨fun hb => command_replyAtStart (f := cmdStatsRead) rfl hr (if_pos hb), fun hb => ⟨fun h => ?_, fun r l h => ⟨fun hw => ?_, fun hw hwr => ?_⟩⟩⟩
    · exact command_replyAtStart (f := cmdStatsRead) rfl hr (cmdStatsRead_none rfl hb (by rw [hp]; exact h))
    · exact command_replyAtStart (f := cmdStatsRead) rfl hr (cmdStatsRead_small rfl hb (by rw [hp]; exact h) (by rw [hp]; exact hw))
    · have hx := cmdStatsRead_writes (s := s.start c) (c := c) rfl hb (by rw [hp]; exact h) (by rw [hp]; exact hw) (by rw [hp]; exact hwr)
      rw [hp] at hx
      exact command_replyAtStart (f := cmdStatsRead) rfl hr hx
  · have hp : (s.start c).cam.ports[camOf (c.argBits 33 32)] = s.cam.ports[camOf (c.argBits 33 32)] := State.start_ports _
    refine ⟨fun hn => command_replyAtStart (f := cmdStatsRelease) rfl hr (cmdStatsRelease_none rfl (by rw [hp]; exact hn)), fun hn => ?_⟩
    have hx := cmdStatsRelease_releases (s := s.start c) (c := c) rfl (by rw [hp]; exact hn)
    rw [hp] at hx
    refine ⟨_, command_replyAtStart (f := cmdStatsRelease) rfl hr hx, fun x hm => ?_, fun r hne => ?_, ?_⟩
    · rw [State.setCam_same, hp] at hm
      obtain ⟨h1, h2⟩ := List.mem_filter.mp hm
      refine ⟨h1, fun y hy he => ?_⟩
      have hin : x.frame ∈ (s.cam.ports[camOf (c.argBits 33 32)].readable.take (releaseCount
          (s.cam.ports[camOf (c.argBits 33 32)].readable.map (fun r => r.frame)) (c.argBits 31 0))).map (fun r => r.frame) :=
        he ▸ List.mem_map_of_mem hy
      rw [List.contains_iff_mem.mpr hin] at h2
      exact absurd h2 (by decide)
    · rw [State.setCam_other hne, State.start_ports]
    · rw [State.setCam_print, State.start_print]
  · have hp : (s.start c).cam.ports[camOf (c.argBits 33 32)] = s.cam.ports[camOf (c.argBits 33 32)] := State.start_ports _
    refine ⟨fun hn => command_replyAtStart (f := cmdTapRelease) rfl hr (if_pos (by rw [hp]; exact hn)), fun hn => ?_⟩
    have hx : cmdTapRelease c (s.start c) = _ := if_neg (by rw [hp]; exact hn)
    rw [hp] at hx
    refine ⟨_, command_replyAtStart (f := cmdTapRelease) rfl hr hx, ?_, fun r hne => ?_, ?_, ?_⟩
    · rw [State.setCam_same, hp]
      exact (upd_fin ..).trans (if_pos rfl)
    · rw [State.setCam_other hne, State.start_ports]
    · rw [State.setCam_same, hp]
      rfl
    · rw [State.setCam_print, State.start_print]

end Sys2Proof.Machine
end

section
/-!
SUPPORT. The camera links (R357, R358, R380, R381), and what a frame that closes leaves of its port (R366, R374, R377).
-/

namespace Sys2Proof.Machine

variable {s : State} {p : CamNo}

/-- From s to t nothing of the cameras and the print changes but one port. -/
structure State.CamMoves (s : State) (p : CamNo) (t : State) : Prop where
  print : t.print = s.print
  others : ∀ r : CamNo, r ≠ p → t.cam.ports[r] = s.cam.ports[r]

theorem State.CamMoves.of_eq {t : State} (hc : t.cam = s.cam) (hp : t.print = s.print) : s.CamMoves p t := ⟨hp, fun _ _ => by rw [hc]⟩

theorem State.CamMoves.trans {t u : State} (h : s.CamMoves p t) (g : t.CamMoves p u) : s.CamMoves p u :=
  ⟨g.print.trans h.print, fun r hr => (g.others r hr).trans (h.others r hr)⟩

theorem State.setCam_moves (f : CamState → CamState) : s.CamMoves p (s.setCam p f) := ⟨rfl, fun _ hr => State.setCam_other hr f⟩

/-! ### A frame that closes (R366, R374, R377) -/

/-- A record entered is the last of its port, and nothing else of the port moves (R377). -/
theorem State.addStats_port (r : StatsRec) : s.CamMoves p (s.addStats p r) ∧ ∃ l, (s.addStats p r).cam.ports[p] = { s.cam.ports[p] with stats := l ++ [r] } := by
  unfold State.addStats
  dsimp only
  generalize (Prod.fst (α := List Nat) (β := Nat) _) = gone
  generalize hu : s.setCam p _ = u
  have hcam (l : List Nat) (t : State) : (l.foldl (fun s n => s.raiseF .statsLost [fld 0 32 n, fld 32 2 p.val]) t).cam = t.cam :=
    foldl_same State.cam (fun (s : State) n => s.raiseF .statsLost [fld 0 32 n, fld 32 2 p.val]) (fun _ _ => State.raiseF_cam ..) _ _
  have hprint (l : List Nat) (t : State) : (l.foldl (fun s n => s.raiseF .statsLost [fld 0 32 n, fld 32 2 p.val]) t).print = t.print :=
    foldl_same State.print (fun (s : State) n => s.raiseF .statsLost [fld 0 32 n, fld 32 2 p.val]) (fun _ _ => State.raiseF_print ..) _ _
  have hw : s.CamMoves p u := by
    rw [← hu]
    exact State.setCam_moves _
  refine ⟨hw.trans (.of_eq ((hcam ..).trans (State.wroteIn_cam ..)) ((hprint ..).trans (State.wroteIn_print ..))), ?_⟩
  rw [hcam, State.wroteIn_cam, ← hu, State.setCam_same]
  exact ⟨_, rfl⟩

/-- What a port is once a frame of it has closed (R364 to R367, R374, R377, R380). -/
structure CamState.Closed (q y : CamState) (f : Frame) (status : Nat) : Prop where
  frames : y.frames = q.frames.filter (fun x => x.number != f.number)
  triggers : y.triggers = q.triggers.filter (fun t => t.frame != some f.number)
  last : ∃ r, y.stats.getLast? = some r ∧ r.frame = f.number ∧ r.status = BitVec.ofNat 2 status
  link : y.link = q.link
  edge : y.lastEdge = q.lastEdge

theorem State.closeFrame_port (f : Frame) (status cause : Nat) : s.CamMoves p (s.closeFrame p f status cause) ∧
    s.cam.ports[p].Closed ((s.closeFrame p f status cause).cam.ports[p]) f status := by
  unfold State.closeFrame
  dsimp only
  generalize hs1 : s.setCam p _ = s1
  generalize hs3 : (if (s.cam.ports[p].certainty == .further f.number && status == 0) = true then (_ : State) else _) = s3
  have h3 : s3.cam = s1.cam ∧ s3.print = s1.print := by
    rw [← hs3]
    split
    · rw [State.raiseF_cam, State.raiseF_print]
      split
      · exact ⟨State.raiseF_cam .., State.raiseF_print ..⟩
      · exact ⟨State.raiseF_cam .., State.raiseF_print ..⟩
      · exact ⟨State.raiseF_cam .., State.raiseF_print ..⟩
      · exact ⟨rfl, rfl⟩
    · split
      · exact ⟨State.raiseF_cam .., State.raiseF_print ..⟩
      · exact ⟨State.raiseF_cam .., State.raiseF_print ..⟩
      · exact ⟨State.raiseF_cam .., State.raiseF_print ..⟩
      · exact ⟨rfl, rfl⟩
  obtain ⟨hm, l, hl⟩ := State.addStats_port (s := s3) (p := p) { frame := f.number, status := BitVec.ofNat 2 status
                                                                 words := statsWords p status f (viewCols f.set s.cam.ports[p].direct.width f.p f.gp).1
                                                                 processed := false, lost := false, stripLines := f.strip.map (·.1), reach := f.reach
                                                                 firstCol := (viewCols f.set s.cam.ports[p].direct.width f.p f.gp).1
                                                                 page := f.page, uncertain := f.uncertain }
  have hs : s.CamMoves p s1 := by
    rw [← hs1]
    exact State.setCam_moves _
  refine ⟨(hs.trans (.of_eq h3.1 h3.2)).trans hm, ?_⟩
  rw [hl, h3.1, ← hs1, State.setCam_same]
  exact ⟨rfl, rfl, ⟨_, List.getLast?_concat, rfl, rfl⟩, rfl, rfl⟩

/-! ### The bring-up of a link (R357) -/

theorem State.CamMoves.settle {t : State} (h : s.CamMoves p t) : s.CamMoves p t.settle :=
  h.trans (.of_eq (State.settle_cam t) (State.settle_print t))

/-- A port changed, with one thing that leaves it. -/
theorem State.setCam_emits (f : CamState → CamState) (e : Emission) : ∃ t : State, ((s.setCam p f).emit e).done = .next t ∧
    t.cam.ports[p] = f s.cam.ports[p] ∧ (∀ r : CamNo, r ≠ p → t.cam.ports[r] = s.cam.ports[r]) ∧ t.print = s.print := by
  have hm : s.CamMoves p ((s.setCam p f).emit e).settle :=
    .settle (t := (s.setCam p f).emit e) ((State.setCam_moves f).trans (.of_eq rfl rfl))
  refine ⟨_, rfl, ?_, hm.others, hm.print⟩
  rw [State.settle_cam]
  exact State.setCam_same ..

/-- A step that fails leaves the port to start again (R357 step 5). -/
theorem State.camFail_fails (n : Nat) : s.CamMoves p (s.camFail p n) ∧
    (s.camFail p n).cam.ports[p] = { s.cam.ports[p] with link := .waitReset, downTold := true } := by
  unfold State.camFail
  dsimp only
  by_cases h : s.cam.ports[p].downTold = true
  · rw [if_pos h]
    exact ⟨State.setCam_moves _, State.setCam_same ..⟩
  · rw [if_neg h]
    refine ⟨(State.setCam_moves _).trans (.of_eq (State.raiseF_cam ..) (State.raiseF_print ..)), ?_⟩
    rw [State.raiseF_cam, State.setCam_same]

theorem State.camFail_done (n : Nat) : ∃ t : State, (s.camFail p n).done = .next t ∧
    t.cam.ports[p] = { s.cam.ports[p] with link := .waitReset, downTold := true } ∧
    (∀ r : CamNo, r ≠ p → t.cam.ports[r] = s.cam.ports[r]) ∧ t.print = s.print := by
  obtain ⟨hm, hp⟩ := State.camFail_fails (s := s) (p := p) n
  refine ⟨_, rfl, ?_, hm.settle.others, hm.settle.print⟩
  rw [State.settle_cam]
  exact hp

/-- Settings that are to be written wait behind those that do (R357 step 4, R380). -/
theorem State.camWrites_port (g : BitVec 16) (regs : List (BitVec 32 × BitVec 32)) : ∃ c, (s.camWrites p g regs).cam.ports[p] =
    { s.cam.ports[p] with writes := s.cam.ports[p].writes ++ regs.map (fun r => (g, r.1, r.2)), certainty := c } := by
  unfold State.camWrites
  dsimp only
  by_cases h : regs.isEmpty = true
  · rw [if_pos h, List.isEmpty_iff.mp h, List.map_nil, List.append_nil]
    exact ⟨s.cam.ports[p].certainty, rfl⟩
  · rw [if_neg h]
    refine ⟨.writing, ?_⟩
    have hs := State.setCam_same (s := s) p (fun q => { q with writes := q.writes ++ regs.map (fun r => (g, r.1, r.2)), certainty := .writing })
    by_cases hw : s.cam.ports[p].writes.isEmpty = true
    · rw [if_pos hw, State.camWriteNext_cam, hs]
    · rw [if_neg hw, hs]

section Link

/-- The last step of the bring-up (R357 step 4). -/
theorem execCamWriteAck_up (h : s.cam.ports[p].link = .waitAck) : ∃ t : State, exec (.camWriteAck p) s = .next t ∧ t.cam.ports[p].link = .active ∧
    t.cam.ports[p].downTold = false ∧ t.cam.ports[p].writes =
      (s.cam.ports[p].active.regs.take s.cam.ports[p].active.regCount).map (fun r => (s.cam.ports[p].genActive, r.1, r.2)) ∧ t.print = s.print := by
  generalize hu : (s.setCam p (fun q => { q with link := .active, downTold := false, writes := [] })).raiseF .camLinkUp
    [fld 0 2 p.val, fld 2 1 (b2n s.cam.ports[p].direct.twoLanes), fld 3 1 (b2n s.cam.ports[p].direct.cxp12)] = u
  have hx : exec (.camWriteAck p) s = .next (u.camWrites p s.cam.ports[p].genActive
      (s.cam.ports[p].active.regs.take s.cam.ports[p].active.regCount)).settle := by
    refine Eq.trans (b := execCamWriteAck p s) rfl ?_
    unfold execCamWriteAck
    dsimp only
    rw [h, hu]
    rfl
  have hup : u.cam.ports[p] = { s.cam.ports[p] with link := .active, downTold := false, writes := [] } := by
    rw [← hu, State.raiseF_cam, State.setCam_same]
  obtain ⟨c, hc⟩ := State.camWrites_port (s := u) (p := p) s.cam.ports[p].genActive (s.cam.ports[p].active.regs.take s.cam.ports[p].active.regCount)
  refine ⟨_, hx, ?_⟩
  rw [State.settle_cam, State.settle_print, State.camWrites_print, hc, hup, ← hu, State.raiseF_print, State.setCam_print]
  exact ⟨rfl, rfl, rfl, rfl⟩

variable {w : BitVec 16 × BitVec 32 × BitVec 32} {ws : List (BitVec 16 × BitVec 32 × BitVec 32)}
  (h : s.cam.ports[p].link = .active) (hw : s.cam.ports[p].writes = w :: ws)
include h hw

/-- A write acknowledged is the oldest, and the last of them makes the settings acknowledged (R380). -/
theorem execCamWriteAck_written : ∃ t : State, exec (.camWriteAck p) s = .next t ∧ t.cam.ports[p].writes = ws ∧
    t.cam.ports[p].certainty = (if ws = [] ∧ s.cam.ports[p].certainty = .writing then .acked else s.cam.ports[p].certainty) ∧
    t.cam.ports[p].link = .active ∧ t.print = s.print := by
  have hx : exec (.camWriteAck p) s = .next (s.camWriteDone p).settle := by
    refine Eq.trans (b := execCamWriteAck p s) rfl ?_
    unfold execCamWriteAck
    dsimp only
    rw [h]
    exact if_neg (by rw [hw]; exact Bool.false_ne_true)
  refine ⟨_, hx, ?_⟩
  rw [State.settle_cam, State.settle_print, State.camWriteDone_print]
  unfold State.camWriteDone
  dsimp only
  rw [State.camWriteNext_cam, State.setCam_same, hw]
  refine ⟨rfl, ?_, h, rfl⟩
  simp only [Bool.and_eq_true, List.isEmpty_iff, beq_iff_eq, List.drop_succ_cons, List.drop_zero]

/-- A write that fails gives up its whole generation (R381). -/
theorem execCamWriteFail_failed (b : Bool) : ∃ t : State, exec (.camWriteFail p b) s = .next t ∧
    t.cam.ports[p].writes = ws.filter (fun x => x.1 != w.1) ∧
    t.cam.ports[p].certainty = (if ws.filter (fun x => x.1 != w.1) = [] then .failed else .writing) ∧ t.cam.ports[p].link = .active ∧
    t.print = s.print := by
  have hf : s.cam.ports[p].writes.filter (fun x => x.1 != w.1) = ws.filter (fun x => x.1 != w.1) := by
    rw [hw]
    exact List.filter_cons_of_neg (by simp)
  generalize hu : s.setCam p (fun q => { q with
    writes := ws.filter (fun x => x.1 != w.1), certainty := if (ws.filter (fun x => x.1 != w.1)).isEmpty then .failed else .writing }) = u
  have hx : exec (.camWriteFail p b) s =
      .next ((u.raiseF .camWriteFail [fld 0 2 p.val, fld 2 16 w.1.toNat, fld 18 2 (if b then 2 else 1)]).camWriteNext p).settle := by
    refine Eq.trans (b := execCamWriteFail p b s) rfl ?_
    rw [← hu, ← hf]
    unfold execCamWriteFail
    dsimp only
    rw [h, hw]
    rfl
  refine ⟨_, hx, ?_⟩
  rw [State.settle_cam, State.settle_print, State.camWriteNext_cam, State.camWriteNext_print, State.raiseF_cam, State.raiseF_print, ← hu,
    State.setCam_same, State.setCam_print]
  refine ⟨rfl, ?_, h, rfl⟩
  dsimp only
  simp only [List.isEmpty_iff]

end Link

/-! ### Leaving ACTIVE (R358, R366, R367) -/

/-- Closing every frame of a list leaves of a port the frames of none of them. -/
theorem State.closeAll_port (l : List Frame) (s : State) : s.CamMoves p (l.foldl (fun s f => s.closeFrame p f 1 2) s) ∧
    (l.foldl (fun s f => s.closeFrame p f 1 2) s).cam.ports[p].frames =
      s.cam.ports[p].frames.filter (fun x => l.all (fun f => x.number != f.number)) := by
  induction l generalizing s with
  | nil => exact ⟨.of_eq rfl rfl, (List.filter_eq_self.mpr fun _ _ => rfl).symm⟩
  | cons f l ih =>
    obtain ⟨h1, h2⟩ := State.closeFrame_port (s := s) (p := p) f 1 2
    obtain ⟨g1, g2⟩ := ih (s.closeFrame p f 1 2)
    refine ⟨h1.trans g1, g2.trans ?_⟩
    rw [h2.frames, List.filter_filter]
    refine List.filter_congr fun x _ => ?_
    rw [List.all_cons, Bool.and_comm]

/-- A port that leaves ACTIVE has no frame open and no trigger outstanding (R358). -/
theorem State.camLeft_port : s.CamMoves p (s.camLeft p) ∧ (s.camLeft p).cam.ports[p].frames = [] ∧ (s.camLeft p).cam.ports[p].triggers = [] ∧
    (s.camLeft p).cam.ports[p].lastEdge = none := by
  obtain ⟨h1, h2⟩ := State.closeAll_port (p := p) s.cam.ports[p].frames s
  unfold State.camLeft
  dsimp only
  refine ⟨h1.trans (State.setCam_moves _), ?_⟩
  rw [State.setCam_same]
  refine ⟨h2.trans (List.filter_eq_nil_iff.mpr fun x hx => ?_), rfl, rfl⟩
  rw [List.all_eq_true]
  exact fun h => absurd rfl (bne_iff_ne.mp (h x hx))

theorem execCamLockLoss_leaves (h : s.cam.ports[p].link = .active) : ∃ t : State, exec (.camLockLoss p) s = .next t ∧
    t.cam.ports[p].link = .waitReset ∧ t.cam.ports[p].frames = [] ∧ t.cam.ports[p].triggers = [] ∧ t.cam.ports[p].lastEdge = none ∧
    (∀ r : CamNo, r ≠ p → t.cam.ports[r] = s.cam.ports[r]) ∧ t.print = s.print := by
  obtain ⟨h1, h2, h3, h4⟩ := State.camLeft_port (s := s.camLockCount p) (p := p)
  obtain ⟨g1, g2⟩ := State.camFail_fails (s := (s.camLockCount p).camLeft p) (p := p) 1
  have hm : s.CamMoves p (((s.camLockCount p).camLeft p).camFail p 1).settle :=
    ((State.CamMoves.of_eq (p := p) (State.camLockCount_cam s p) (State.camLockCount_print s p)).trans (h1.trans g1)).settle
  refine ⟨_, if_pos h, ?_, ?_, ?_, ?_, hm.others, hm.print⟩
  · rw [State.settle_cam, g2]
  · rw [State.settle_cam, g2]
    exact h2
  · rw [State.settle_cam, g2]
    exact h3
  · rw [State.settle_cam, g2]
    exact h4

/-- While the connection configuration waits for its acknowledgement, a failed write fails the link. -/
theorem execCamWriteFail_waiting {s : State} {p : CamNo} (h : s.cam.ports[p].link = .waitAck) (b : Bool) :
    exec (.camWriteFail p b) s = (s.drew.camFail p (s.free.toNat % 4)).done := by
  refine Eq.trans (b := execCamWriteFail p b s) rfl ?_
  unfold execCamWriteFail
  dsimp only
  rw [h]

/-- An acknowledgement that no write waits for does nothing. -/
theorem execCamWriteAck_idle {s : State} {p : CamNo}
    (h : (s.cam.ports[p].link ≠ .waitAck ∧ s.cam.ports[p].link ≠ .active) ∨ (s.cam.ports[p].link = .active ∧ s.cam.ports[p].writes = [])) :
    exec (.camWriteAck p) s = s.done := by
  refine Eq.trans (b := execCamWriteAck p s) rfl ?_
  unfold execCamWriteAck
  dsimp only
  rcases h with ⟨h1, h2⟩ | ⟨h1, h2⟩
  · cases hl : s.cam.ports[p].link with
    | waitAck => exact absurd hl h1
    | active => exact absurd hl h2
    | disabled | waitReset | waitLock | waitBootstrap => rfl
  · rw [h1]
    exact if_pos (by rw [h2]; rfl)

/-- A failure that no write waits for does nothing. -/
theorem execCamWriteFail_idle {s : State} {p : CamNo}
    (h : (s.cam.ports[p].link ≠ .waitAck ∧ s.cam.ports[p].link ≠ .active) ∨ (s.cam.ports[p].link = .active ∧ s.cam.ports[p].writes = []))
    (b : Bool) : exec (.camWriteFail p b) s = s.done := by
  refine Eq.trans (b := execCamWriteFail p b s) rfl ?_
  unfold execCamWriteFail
  dsimp only
  rcases h with ⟨h1, h2⟩ | ⟨h1, h2⟩
  · cases hl : s.cam.ports[p].link with
    | waitAck => exact absurd hl h1
    | active => exact absurd hl h2
    | disabled | waitReset | waitLock | waitBootstrap => rfl
  · rw [h1, h2]

/-- Settles O54: each event of a link in its own phase. -/
theorem cameraLinksComeUpAndFall : Obligations.CameraLinksComeUpAndFall := by
  unfold Obligations.CameraLinksComeUpAndFall
  intro s p q d goes fails not same
  have hne {l : CamLink} (h : q.link ≠ l) : (q.link != l) = true := bne_iff_ne.mpr h
  have heq {l : CamLink} (h : q.link = l) : ¬(q.link != l) = true := by rw [h]; simp
  have hstay {c : Instr} (h : exec c s = s.done) : not c := fun hq => h.trans (State.done_quiet s hq)
  refine ⟨fun h hx => ?_, fun h => hstay (if_neg ?_), fun h => ⟨?_, ?_⟩, fun h b => hstay (if_pos (hne h)), fun h r => ⟨fun hr => ?_, fun hr => ?_⟩,
    fun h r => hstay (if_pos (hne h)), execCamWriteAck_up, fun h b => ?_, fun h hw => ⟨?_, fun b => ?_⟩, fun w ws h hw => execCamWriteAck_written h hw,
    fun w ws b h hw => execCamWriteFail_failed h hw b, fun h1 h2 => ⟨?_, fun b => ?_⟩, execCamLockLoss_leaves, fun h => hstay (if_neg h)⟩
  · obtain ⟨t, ht, hrest⟩ := State.setCam_emits (s := s) (p := p) (fun q => { q with link := .waitLock }) (.camReset p)
    exact ⟨t, (if_pos ⟨h, hx⟩).trans ht, hrest⟩
  · rintro ⟨h1, h2⟩
    rcases h with h | h
    · exact h h1
    · exact absurd (h.symm.trans h2) Bool.false_ne_true
  · obtain ⟨t, ht, hrest⟩ := State.setCam_emits (s := s) (p := p) (fun q => { q with link := .waitBootstrap }) (.camBootstrap p)
    exact ⟨t, (if_neg (heq h)).trans ht, hrest⟩
  · obtain ⟨t, ht, hrest⟩ := State.camFail_done (s := s) (p := p) 2
    exact ⟨t, (if_neg (heq h)).trans ht, hrest⟩
  · obtain ⟨t, ht, hrest⟩ := State.setCam_emits (s := s) (p := p) (fun q => { q with link := .waitAck }) (.camConnect p d.twoLanes d.cxp12)
    exact ⟨t, (if_neg (heq h)).trans ((if_pos hr).trans ht), hrest⟩
  · obtain ⟨t, ht, hrest⟩ := State.camFail_done (s := s) (p := p) 3
    exact ⟨t, (if_neg (heq h)).trans ((if_neg (fun h => absurd (hr.symm.trans h) Bool.false_ne_true)).trans ht), hrest⟩
  · obtain ⟨t, ht, hrest⟩ := State.camFail_done (s := s.drew) (p := p) (s.free.toNat % 4)
    exact ⟨t, (execCamWriteFail_waiting h b).trans ht, hrest⟩
  · exact hstay (execCamWriteAck_idle (.inr ⟨h, hw⟩))
  · exact hstay (execCamWriteFail_idle (.inr ⟨h, hw⟩) b)
  · exact hstay (execCamWriteAck_idle (.inl ⟨h1, h2⟩))
  · exact hstay (execCamWriteFail_idle (.inl ⟨h1, h2⟩) b)

end Sys2Proof.Machine
end

section
/-!
SUPPORT. Stream packets, camera lines and the frames they fill (R362 to R386), the tokens of the tap and LOG_EXPORT contexts (R125 to R132), and
the statistics records (R376).
-/

namespace Sys2Proof.Machine

variable {s : State} {p : CamNo}

/-! ### Stream packets (R366, R382, R383) -/

/-- The frame a stream packet belongs to: that of the oldest outstanding trigger, and none for a forgotten line (R363, R367). -/
def CamState.packetFrame (q : CamState) : Option Frame := if 0 < q.forgotten then none else q.due

theorem State.camCorrupt_some {f : Frame} (h : s.cam.ports[p].packetFrame = some f) (c : Nat) : s.camCorrupt p c = s.closeFrame p f 3 c := by
  unfold CamState.packetFrame at h
  unfold State.camCorrupt
  by_cases hf : 0 < s.cam.ports[p].forgotten
  · rw [if_pos hf] at h
    cases h
  · rw [if_neg hf] at h ⊢
    rw [h]

theorem State.camCorrupt_none (h : s.cam.ports[p].packetFrame = none) (c : Nat) : s.camCorrupt p c = s := by
  unfold CamState.packetFrame at h
  unfold State.camCorrupt
  by_cases hf : 0 < s.cam.ports[p].forgotten
  · rw [if_pos hf]
  · rw [if_neg hf] at h ⊢
    rw [h]

theorem State.camFrameErr_counts : s.camFrameErr p |>.lanes.lanes[camLane p false].frameErr =
    min 65535 (s.lanes.lanes[camLane p false].frameErr + 1) :=
  congrArg LaneState.frameErr (upd_same ..)

section Packet

variable {k : StreamPacket} (h : s.cam.ports[p].link = .active)
include h

/-- A bad packet closes its frame, and one whose check fails counts FRAME_ERR (R382). -/
theorem execStreamPacket_bad (hb : ¬(k.bytes ≤ 16384 ∧ k.crcOk = true ∧ k.headerOk = true)) : ∃ (u : State) (c : Nat),
    exec (.streamPacket p k) s = .next (u.camCorrupt p c).settle ∧ u.cam = s.cam ∧ u.print = s.print ∧
    (k.bytes ≤ 16384 → k.crcOk = false →
      u.lanes.lanes[camLane p false].frameErr = min 65535 (s.lanes.lanes[camLane p false].frameErr + 1)) := by
  have hl : ¬(s.cam.ports[p].link != .active) = true := by rw [h]; decide
  by_cases h1 : 16384 < k.bytes
  · exact ⟨s, 3, (if_neg hl).trans (if_pos h1), rfl, rfl, fun h2 => absurd h2 (by omega)⟩
  · by_cases h2 : k.crcOk = true
    · have h3 : k.headerOk = false := by
        cases h3 : k.headerOk with
        | false => rfl
        | true => exact absurd ⟨by omega, h2, h3⟩ hb
      refine ⟨s, 2, (if_neg hl).trans ((if_neg h1).trans ((if_neg (by rw [h2]; decide)).trans (if_pos (by rw [h3]; rfl)))), rfl, rfl, fun _ h4 => ?_⟩
      exact absurd (h4.symm.trans h2) Bool.false_ne_true
    · refine ⟨s.camFrameErr p, 1, (if_neg hl).trans ((if_neg h1).trans (if_pos ?_)), State.camFrameErr_cam s p, State.camFrameErr_print s p, fun _ _ => ?_⟩
      · rw [Bool.not_eq_true _ |>.mp h2]
        rfl
      · exact State.camFrameErr_counts

theorem streamPacket_corrupts (hb : ¬(k.bytes ≤ 16384 ∧ k.crcOk = true ∧ k.headerOk = true)) : ∃ t : State, exec (.streamPacket p k) s = .next t ∧
    t.print = s.print ∧
    (k.bytes ≤ 16384 → k.crcOk = false →
      t.lanes.lanes[camLane p false].frameErr = min 65535 (s.lanes.lanes[camLane p false].frameErr + 1)) ∧
    (∀ f, s.cam.ports[p].packetFrame = some f → (∀ x ∈ t.cam.ports[p].frames, x.number ≠ f.number) ∧
      ∃ r, t.cam.ports[p].stats.getLast? = some r ∧ r.frame = f.number ∧ r.status = 3) ∧
    (s.cam.ports[p].packetFrame = none → t.cam = s.cam) := by
  obtain ⟨u, c, hx, hc, hp, hl⟩ := execStreamPacket_bad h hb
  refine ⟨_, hx, ?_, fun h1 h2 => ?_, fun f hf => ?_, fun hf => ?_⟩
  · rw [State.settle_print, State.camCorrupt_print, hp]
  · rw [State.settle_lanes, State.camCorrupt_lanes]
    exact hl h1 h2
  · rw [← hc] at hf
    rw [State.settle_cam, State.camCorrupt_some hf]
    obtain ⟨hfr, -, hlast, -, -⟩ := (State.closeFrame_port (s := u) (p := p) f 3 c).2
    refine ⟨fun x hx => ?_, hlast⟩
    rw [hfr, List.mem_filter] at hx
    exact bne_iff_ne.mp hx.2
  · rw [← hc] at hf
    rw [State.settle_cam, State.camCorrupt_none hf, hc]

variable (hg : k.bytes ≤ 16384 ∧ k.crcOk = true ∧ k.headerOk = true)
include hg

/-- A good packet of a frame that goes on pays for its samples, or finds too little credit (R383). -/
theorem execStreamPacket_good (hd : ∀ f, s.cam.ports[p].packetFrame = some f → f.dropped = false) {b : Nat}
    (hb : bucketNow s.cam.ports[p].credit s.cam.ports[p].direct.budget (1000000 * s.cam.ports[p].direct.budget) s.time.raw = b) :
    exec (.streamPacket p k) s = if b < 10 * k.samples then
      (s.setCam p (fun q => { q with
        credit := (b, s.time.raw)
        frames := match s.cam.ports[p].packetFrame with
          | some d => s.cam.ports[p].frames.map (fun (f : Frame) => if f.number == d.number then { f with dropped := true } else f)
          | none => s.cam.ports[p].frames })).done
      else (s.setCam p (fun q => { q with credit := (b - 10 * k.samples, s.time.raw) })).done := by
  obtain ⟨h1, h2, h3⟩ := hg
  have hl : ¬(s.cam.ports[p].link != .active) = true := by rw [h]; decide
  have hn : ¬(s.cam.ports[p].packetFrame.any (fun f => f.dropped)) = true := by
    rw [Option.any_eq_true]
    rintro ⟨f, hf, hx⟩
    exact absurd (hd f hf |>.symm.trans hx) Bool.false_ne_true
  subst hb
  exact (if_neg hl).trans ((if_neg (by omega)).trans ((if_neg (by rw [h2]; decide)).trans ((if_neg (by rw [h3]; decide)).trans (if_neg hn))))

theorem execStreamPacket_dropped (hd : ∃ f, s.cam.ports[p].packetFrame = some f ∧ f.dropped = true) : exec (.streamPacket p k) s = s.done := by
  obtain ⟨h1, h2, h3⟩ := hg
  obtain ⟨f, hf, hx⟩ := hd
  have hl : ¬(s.cam.ports[p].link != .active) = true := by rw [h]; decide
  refine (if_neg hl).trans ((if_neg (by omega)).trans ((if_neg (by rw [h2]; decide)).trans ((if_neg (by rw [h3]; decide)).trans (if_pos ?_))))
  exact (congrArg (Option.any fun f : Frame => f.dropped) hf).trans hx

theorem streamPacket_starves (hd : ∀ f, s.cam.ports[p].packetFrame = some f → f.dropped = false)
    (hb : bucketNow s.cam.ports[p].credit s.cam.ports[p].direct.budget (1000000 * s.cam.ports[p].direct.budget) s.time.raw < 10 * k.samples) :
    ∃ t : State, exec (.streamPacket p k) s = .next t ∧
    t.cam.ports[p].credit = (bucketNow s.cam.ports[p].credit s.cam.ports[p].direct.budget (1000000 * s.cam.ports[p].direct.budget) s.time.raw,
      s.time.raw) ∧ t.print = s.print ∧
    ∀ f, s.cam.ports[p].packetFrame = some f → ∀ x ∈ t.cam.ports[p].frames, x.number = f.number → x.dropped = true := by
  refine ⟨_, (execStreamPacket_good h hg hd rfl).trans (if_pos hb), ?_, State.settle_print .., fun f hf x hx hn => ?_⟩
  · rw [State.settle_cam, State.setCam_same]
  · rw [State.settle_cam, State.setCam_same, hf, List.mem_map] at hx
    obtain ⟨y, -, rfl⟩ := hx
    by_cases hy : (y.number == f.number) = true
    · rw [if_pos hy]
    · rw [if_neg hy] at hn
      exact absurd (beq_iff_eq.mpr hn) hy

end Packet

/-! ### Frames that are full (R364, R366) -/

theorem State.settleFrames_open (h : ∀ f ∈ s.cam.ports[p].frames, f.full = false) : s.settleFrames p = s :=
  foldl_fixed_mem _ _ _ (fun f hf => if_neg (by rw [h f hf]; exact Bool.false_ne_true))

theorem State.settleFrames_one {f : Frame} (h : s.cam.ports[p].frames = [f]) (hf : f.full = true)
    (ht : ∀ t ∈ s.cam.ports[p].triggers, t.frame ≠ some f.number) : s.settleFrames p = s.closeFrame p f (if f.dropped then 2 else 0) 0 := by
  have hn : (s.cam.ports[p].triggers.any (fun t => t.frame == some f.number)) = false :=
    List.any_eq_false.mpr fun t hm => by simpa using ht t hm
  unfold State.settleFrames
  rw [h]
  exact if_pos (by rw [hf, hn]; rfl)

theorem State.settleFrames_edge : (s.settleFrames p).cam.ports[p].lastEdge = s.cam.ports[p].lastEdge :=
  foldl_same (fun t : State => t.cam.ports[p].lastEdge) _ (fun t f => by
    by_cases h : (f.full && !(t.cam.ports[p].triggers.any (fun t => t.frame == some f.number))) = true
    · rw [if_pos h]
      exact (State.closeFrame_port ..).2.edge
    · rw [if_neg h]) _ _

/-! ### Camera lines (R363, R368) -/

/-- A frame after one camera line more. -/
structure Frame.OneLineMore (x y : Frame) : Prop where
  number : y.number = x.number
  lines : y.lines = x.lines + 1
  full : y.full = x.full
  dropped : y.dropped = x.dropped

theorem Frame.countLine_one (x : Frame) (cs : List (Option LineCol)) (y : Option Int) (b : Bool) : x.OneLineMore (x.countLine cs y b) := by
  unfold Frame.countLine
  dsimp only
  split
  · exact ⟨rfl, rfl, rfl, rfl⟩
  · split
    · exact ⟨rfl, rfl, rfl, rfl⟩
    · exact ⟨rfl, rfl, rfl, rfl⟩

theorem State.pipeline_port (f : Frame) (im : Int) (v : List (BitVec 12)) (b : Bool) :
    (s.pipeline p f im v b).cam.ports[p].triggers = s.cam.ports[p].triggers ∧ (s.pipeline p f im v b).cam.ports[p].frames =
      s.cam.ports[p].frames.map (fun x => if x.number == f.number then x.countLine
        (s.lineCols f s.cam.ports[p].direct.width im ((v.take s.cam.ports[p].direct.width).zipIdx.map
          (fun e => coverage f.set e.2 (unpackCode s.cam.ports[p].direct.format e.1)))) (s.stripLine f im) b else x) := by
  unfold State.pipeline
  dsimp only
  rw [State.setCam_same]
  exact ⟨rfl, rfl⟩

section Line

variable {v : List (BitVec 12)} {r : List BurstRead} (h : s.cam.ports[p].link = .active)
include h

theorem execCameraLine_forgotten (hf : 0 < s.cam.ports[p].forgotten) :
    exec (.cameraLine p v r) s = (s.setCam p (fun q => { q with forgotten := q.forgotten - 1 })).done :=
  (if_neg (by rw [h]; decide)).trans (if_pos hf)

variable (hf : s.cam.ports[p].forgotten = 0)
include hf

theorem execCameraLine_unmatched (ht : s.cam.ports[p].triggers = []) :
    exec (.cameraLine p v r) s = (s.setCam p (fun q => { q with unmatched := min 65535 (q.unmatched + 1) })).done := by
  refine (if_neg (by rw [h]; decide)).trans ((if_neg (by omega)).trans ?_)
  rw [ht]

variable {t : CamTrigger} {ts : List CamTrigger} (ht : s.cam.ports[p].triggers = t :: ts)
include ht

theorem execCameraLine_uninspected (hn : t.frame = none ∨ ∃ n, t.frame = some n ∧ s.cam.ports[p].frame n = none) :
    exec (.cameraLine p v r) s = (s.setCam p (fun q => { q with triggers := ts })).done := by
  refine (if_neg (by rw [h]; decide)).trans ((if_neg (by omega)).trans ?_)
  rw [ht]
  dsimp only
  rcases hn with hn | ⟨n, hn, hq⟩
  · rw [hn]
  · rw [hn]
    dsimp only
    rw [hq]

/-- A line of an open frame leaves its trigger and counts in its frame (R363, R368). -/
theorem execCameraLine_counts {n : Nat} {f : Frame} (hn : t.frame = some n) (hq : s.cam.ports[p].frame n = some f) :
    ∃ (u : State) (g : Frame → Frame), exec (.cameraLine p v r) s = .next (u.settleFrames p).settle ∧ u.print = s.print ∧
      u.cam.ports[p].triggers = ts ∧ u.cam.ports[p].frames = s.cam.ports[p].frames.map (fun x => if x.number == f.number then g x else x) ∧
      ∀ x : Frame, x.OneLineMore (g x) := by
  have hx : exec (.cameraLine p v r) s = if f.dropped then
      (((s.setCam p (fun q => { q with triggers := ts })).setCam p
        (fun q => q.setFrame f.number (fun x => { x with lines := x.lines + 1 }))).settleFrames p).done
      else (((((s.setCam p (fun q => { q with triggers := ts })).readBursts (regionReads 6 r)).1.pipeline p f t.imaged v
        (!((s.setCam p (fun q => { q with triggers := ts })).readBursts (regionReads 6 r)).2.isEmpty)).settleFrames p).done) := by
    refine (if_neg (by rw [h]; decide)).trans ((if_neg (by omega)).trans ?_)
    rw [ht]
    dsimp only
    rw [hn]
    dsimp only
    rw [hq]
  by_cases hd : f.dropped = true
  · refine ⟨_, fun x => { x with lines := x.lines + 1 }, hx.trans (if_pos hd), rfl, ?_, ?_, fun x => ⟨rfl, rfl, rfl, rfl⟩⟩
    · rw [State.setCam_same, State.setCam_same]
      rfl
    · rw [State.setCam_same, State.setCam_same]
      rfl
  · obtain ⟨h1, h2⟩ := State.pipeline_port (s := ((s.setCam p (fun q => { q with triggers := ts })).readBursts (regionReads 6 r)).1) (p := p) f t.imaged v
      (!((s.setCam p (fun q => { q with triggers := ts })).readBursts (regionReads 6 r)).2.isEmpty)
    rw [State.readBursts_cam, State.setCam_same] at h1 h2
    refine ⟨_, _, hx.trans (if_neg hd), ?_, h1, h2, fun x => Frame.countLine_one ..⟩
    rw [State.pipeline_print, State.readBursts_print]
    rfl

theorem cameraLine_counts {n : Nat} {f : Frame} (hn : t.frame = some n) (hq : s.cam.ports[p].frame n = some f) :
    ∃ u : State, exec (.cameraLine p v r) s = .next u ∧ u.print = s.print ∧
      ((∀ g ∈ s.cam.ports[p].frames, g.full = false) → u.cam.ports[p].triggers = ts ∧
        ∃ x ∈ u.cam.ports[p].frames, x.number = n ∧ x.lines = f.lines + 1) ∧
      (s.cam.ports[p].frames = [f] → f.full = true → (∀ y ∈ ts, y.frame ≠ some n) → u.cam.ports[p].frames = [] ∧
        ∃ z, u.cam.ports[p].stats.getLast? = some z ∧ z.frame = n ∧ z.status = (if f.dropped then 2 else 0)) := by
  obtain ⟨u, g, hx, hp, htr, hfr, hg⟩ := execCameraLine_counts (v := v) (r := r) h hf ht hn hq
  have hfn : f.number = n := by simpa using List.find?_some hq
  have hff : f ∈ s.cam.ports[p].frames := List.mem_of_find?_eq_some hq
  refine ⟨_, hx, ?_, fun ho => ?_, fun h1 h2 h3 => ?_⟩
  · rw [State.settle_print, State.settleFrames_print, hp]
  · rw [State.settle_cam, State.settleFrames_open, htr, hfr]
    · refine ⟨rfl, g f, List.mem_map.mpr ⟨f, hff, if_pos (beq_self_eq_true _)⟩, (hg f).number.trans hfn, (hg f).lines⟩
    · intro y hy
      rw [hfr, List.mem_map] at hy
      obtain ⟨x, hxm, rfl⟩ := hy
      by_cases hb : (x.number == f.number) = true
      · rw [if_pos hb, (hg x).full]
        exact ho x hxm
      · rw [if_neg hb]
        exact ho x hxm
  · have hone : u.cam.ports[p].frames = [g f] := by
      rw [hfr, h1]
      exact congrArg (· :: []) (if_pos (beq_self_eq_true _))
    have hnum : (g f).number = n := (hg f).number.trans hfn
    obtain ⟨hcf, -, ⟨z, hz1, hz2, hz3⟩, -, -⟩ := (State.closeFrame_port (s := u) (p := p) (g f) (if (g f).dropped then 2 else 0) 0).2
    rw [State.settle_cam, State.settleFrames_one hone ((hg f).full.trans h2) (by rw [htr, hnum]; exact h3)]
    refine ⟨?_, z, hz1, hz2.trans hnum, ?_⟩
    · rw [hcf, hone]
      exact List.filter_eq_nil_iff.mpr (by simp)
    · rw [hz3, (hg f).dropped]
      cases f.dropped with
      | true => rfl
      | false => rfl

end Line

/-! ### FRAME_TIMEOUT and TIME_MODE_LINE (R362, R366) -/

theorem frameTimeout_truncates {f : Frame} (h : s.cam.ports[p].oldest = some f) : ∃ t : State, exec (.frameTimeout p) s = .next t ∧ t.print = s.print ∧
    (∀ x ∈ t.cam.ports[p].frames, x.number ≠ f.number) ∧ (∀ x ∈ t.cam.ports[p].triggers, x.frame ≠ some f.number) ∧
    ∃ r, t.cam.ports[p].stats.getLast? = some r ∧ r.frame = f.number ∧ r.status = 1 := by
  have hx : exec (.frameTimeout p) s = .next (s.closeFrame p f 1 1).settle := by
    refine Eq.trans (b := execFrameTimeout p s) rfl ?_
    unfold execFrameTimeout
    rw [h]
    rfl
  obtain ⟨hm, hfr, htr, hlast, -, -⟩ := State.closeFrame_port (s := s) (p := p) f 1 1
  refine ⟨_, hx, (State.settle_print _).trans hm.print, fun x hx => ?_, fun x hx => ?_, ?_⟩
  · rw [State.settle_cam, hfr, List.mem_filter] at hx
    exact bne_iff_ne.mp hx.2
  · rw [State.settle_cam, htr, List.mem_filter] at hx
    exact bne_iff_ne.mp hx.2
  · rw [State.settle_cam]
    exact hlast

theorem CamState.clipFrame_triggers (q : CamState) : q.clipFrame.triggers = q.triggers := by
  unfold CamState.clipFrame
  split
  · rfl
  · rfl

/-- A frame with one trigger more, sent or skipped (R362, R364). -/
def markTrigger (soon last : Bool) (im : Int) (x : Frame) : Frame :=
  let y := { x with lastIm := im, full := last || (!soon && x.issued + 1 == 4096), timeLeft := x.timeLeft.map (fun k => k - 1) }
  if soon then { y with skipped := x.skipped + 1 } else { y with issued := x.issued + 1 }

/-- A port whose frame has one trigger more. -/
def CamState.marked (q : CamState) (fr : Option Nat) (soon last : Bool) (im : Int) : CamState :=
  match fr with | some k => q.setFrame k (markTrigger soon last im) | none => q

theorem CamState.marked_same (q : CamState) (fr : Option Nat) (soon last : Bool) (im : Int) :
    (q.marked fr soon last im).triggers = q.triggers ∧ (q.marked fr soon last im).lastEdge = q.lastEdge := by
  cases fr with
  | none => exact ⟨rfl, rfl⟩
  | some k => exact ⟨rfl, rfl⟩

/-- A trigger that comes late enough is sent and waits for its line (R361, R362). -/
theorem State.sendTrigger_sent {fr : Option Nat} {n : Nat} {im : Int} {t : Rat} {last : Bool} (h : s.cam.ports[p].tooSoon t = false) :
    (s.sendTrigger p fr n im t last).cam.ports[p].lastEdge = some t ∧
    (s.sendTrigger p fr n im t last).cam.ports[p].triggers = s.cam.ports[p].triggers ++ [⟨n, im, fr⟩] := by
  have hc : (s.sendTrigger p fr n im t last).cam.ports[p] = { (if s.cam.ports[p].clips t then (s.cam.ports[p].marked fr false last im).clipFrame
      else s.cam.ports[p].marked fr false last im) with
      lastEdge := some t, lastFall := some (t + 250 * s.cam.ports[p].active.exposure, fr)
      triggers := (s.cam.ports[p].marked fr false last im).triggers ++ [{ barLine := n, imaged := im, frame := fr }] } := by
    unfold State.sendTrigger
    dsimp only
    rw [h, if_neg Bool.false_ne_true, State.emit_cam]
    by_cases hk : s.cam.ports[p].clips t = true
    · rw [if_pos hk, State.emit_cam, State.setCam_same]
      rfl
    · rw [if_neg hk, State.setCam_same]
      rfl
  rw [hc]
  exact ⟨rfl, congrArg (· ++ _) (CamState.marked_same ..).1⟩

theorem State.sendTrigger_soon {fr : Option Nat} {n : Nat} {im : Int} {t : Rat} {last : Bool} (h : s.cam.ports[p].tooSoon t = true) :
    (s.sendTrigger p fr n im t last).cam.ports[p].lastEdge = s.cam.ports[p].lastEdge := by
  have hc : s.sendTrigger p fr n im t last = (s.setCam p (fun q => q.marked fr true last im)).settleFrames p := by
    unfold State.sendTrigger
    dsimp only
    rw [h, if_pos rfl]
    rfl
  rw [hc, State.settleFrames_edge, State.setCam_same]
  exact (CamState.marked_same ..).2

theorem timeModeLine_triggers {f : Frame} (h : s.cam.ports[p].frames.find? (fun f => f.timeLeft.any (fun k => decide (0 < k))) = some f) :
    ∃ t : State, exec (.timeModeLine p) s = .next t ∧ t.print = s.print ∧
      (s.cam.ports[p].tooSoon ((s.time.raw.toNat : Rat) * 1000) = false → t.cam.ports[p].lastEdge = some ((s.time.raw.toNat : Rat) * 1000) ∧
        t.cam.ports[p].triggers = s.cam.ports[p].triggers ++ [⟨s.sluice.barLine, s.sluice.barLine, some f.number⟩]) ∧
      (s.cam.ports[p].tooSoon ((s.time.raw.toNat : Rat) * 1000) = true → t.cam.ports[p].lastEdge = s.cam.ports[p].lastEdge) := by
  have hx : exec (.timeModeLine p) s = .next (s.sendTrigger p (some f.number) s.sluice.barLine s.sluice.barLine
      ((s.time.raw.toNat : Rat) * 1000) (f.timeLeft == some 1)).settle := by
    refine Eq.trans (b := execTimeModeLine p s) rfl ?_
    unfold execTimeModeLine
    dsimp only
    rw [h]
    rfl
  refine ⟨_, hx, ?_, fun h => ?_, fun h => ?_⟩
  · rw [State.settle_print, State.sendTrigger_print]
  · rw [State.settle_cam]
    exact State.sendTrigger_sent h
  · rw [State.settle_cam]
    exact State.sendTrigger_soon h

/-! ### Tokens (R128, R129, R386) -/

theorem TapCtx.readable_same (c : TapCtx) : c.readable.stuck = c.stuck ∧ c.readable.staged = c.staged ∧ c.readable.ring = c.ring := by
  unfold TapCtx.readable
  split
  · split
    · exact ⟨rfl, rfl, rfl⟩
    · exact ⟨rfl, rfl, rfl⟩
  · exact ⟨rfl, rfl, rfl⟩

theorem compressorToken_exports {c : ExportCtx} {w x : List Word} {l : List (List Word)} (hq : s.quiet) (hy : s.yields = false)
    (hc : s.sec.exportCtx = some c) (hh : c.held = w :: x :: l) : exec (.compressorToken .logExport) s =
      .next { s with sec := { s.sec with exportCtx := some { c with held := x :: l, ring := c.ring ++ w } } } := by
  have hx : s.exportToken = { s with sec := { s.sec with exportCtx := some { c with held := x :: l, ring := c.ring ++ w } } } := by
    unfold State.exportToken
    rw [hc]
    dsimp only
    rw [hy, if_neg Bool.false_ne_true, hh]
  refine (congrArg State.done hx).trans (State.done_quiet _ hq)

theorem compressorToken_waits (hq : s.quiet) (h : s.yields = true ∨ s.sec.exportCtx = none) :
    exec (.compressorToken .logExport) s = .next s := by
  have hx : s.exportToken = s := by
    unfold State.exportToken
    cases hc : s.sec.exportCtx with
    | none => rfl
    | some c =>
      rcases h with h | h
      · exact if_pos h
      · exact absurd (hc.symm.trans h) (Option.some_ne_none c)
  exact (congrArg State.done hx).trans (State.done_quiet _ hq)

section Tap

variable {k : Fin 4} {f : TapFrame} {x : HeldToken} {l : List HeldToken}
  (hf : s.cam.ports[p].taps[k].writing.find? (fun f => !f.held.isEmpty) = some f) (hh : f.held = x :: l)
include hf hh

/-- A tap context writes its next token where its ring has room, the throttle has credit and no band fetch goes first (R128, R386). -/
theorem State.tapToken_eq {b : Nat} (hb : bucketNow s.cam.tapCredit s.cam.tapRate 655360 s.time.raw = b) : s.tapToken p k =
    if s.yields ∨ s.cam.ports[p].taps[k].ring < s.cam.ports[p].taps[k].used + x.words.length ∨ b < 80 * x.words.length then
      s.setCam p (fun q => q.setTap k (fun c => { c with stuck := true }))
    else (({ s with cam := { s.cam with tapCredit := (b - 80 * x.words.length, s.time.raw) } } : State).setCam p (fun q => q.setTap k (fun c =>
        { c.setFrame f.number TapFrame.write with
          stuck := false, staged := min (c.setFrame f.number TapFrame.write).staged (c.setFrame f.number TapFrame.write).unwritten }.readable))).wroteIn 7 := by
  subst hb
  unfold State.tapToken
  dsimp only
  rw [hf]
  dsimp only
  rw [hh]

theorem compressorToken_tap : ∃ t : State, exec (.compressorToken (.tap p k)) s = .next t ∧ t.print = s.print ∧
    ((s.yields = true ∨ s.cam.ports[p].taps[k].ring < s.cam.ports[p].taps[k].used + x.words.length ∨
        bucketNow s.cam.tapCredit s.cam.tapRate 655360 s.time.raw < 80 * x.words.length) →
      t.cam.ports[p].taps[k] = { s.cam.ports[p].taps[k] with stuck := true } ∧ t.cam.tapCredit = s.cam.tapCredit) ∧
    (s.yields = false → s.cam.ports[p].taps[k].used + x.words.length ≤ s.cam.ports[p].taps[k].ring →
      80 * x.words.length ≤ bucketNow s.cam.tapCredit s.cam.tapRate 655360 s.time.raw →
      t.cam.tapCredit = (bucketNow s.cam.tapCredit s.cam.tapRate 655360 s.time.raw - 80 * x.words.length, s.time.raw) ∧
      t.cam.ports[p].taps[k].stuck = false ∧ t.cam.ports[p].taps[k].staged ≤ s.cam.ports[p].taps[k].staged ∧
      t.cam.ports[p].taps[k].ring = s.cam.ports[p].taps[k].ring) := by
  have hx := State.tapToken_eq hf hh rfl
  refine ⟨_, rfl, ?_, fun h => ?_, fun h1 h2 h3 => ?_⟩
  · rw [State.settle_print, State.tapToken_print]
  · rw [State.settle_cam, hx, if_pos h, State.setCam_same]
    exact ⟨upd_same .., rfl⟩
  · rw [State.settle_cam, hx, if_neg (by rw [h1]; rintro (h | h | h); exacts [Bool.false_ne_true h, by omega, by omega]), State.wroteIn_cam, State.setCam_same]
    refine ⟨rfl, ?_⟩
    unfold CamState.setTap
    dsimp only
    rw [upd_fin, if_pos rfl]
    obtain ⟨h4, h5, h6⟩ := TapCtx.readable_same
      { s.cam.ports[p].taps[k].setFrame f.number TapFrame.write with
          stuck := false, staged := min (s.cam.ports[p].taps[k].setFrame f.number TapFrame.write).staged
            (s.cam.ports[p].taps[k].setFrame f.number TapFrame.write).unwritten }
    exact ⟨h4, h5.trans_le (Nat.min_le_left ..), h6⟩

end Tap

theorem statsRecordProcess_marks {r : StatsRec} (h : s.cam.ports[p].stats.find? (fun r => !r.processed) = some r) : ∃ t : State,
    exec (.statsRecordProcess p) s = .next t ∧ (∀ x ∈ t.cam.ports[p].stats, x.frame = r.frame → x.processed = true) ∧
    t.cam.ports[p].frames = s.cam.ports[p].frames ∧ t.cam.ports[p].link = s.cam.ports[p].link := by
  have hx : exec (.statsRecordProcess p) s = .next (((s.setCam p (fun q => { q with
      stats := (q.stats.map (fun x => if x.frame == r.frame then { x with processed := true } else x)).filter
        (fun x => !(x.lost && x.processed)) })).streaks p r).gatherStrip p r).settle := by
    refine Eq.trans (b := execStatsRecordProcess p s) rfl ?_
    unfold execStatsRecordProcess
    rw [h]
    rfl
  refine ⟨_, hx, ?_⟩
  rw [State.settle_cam, State.gatherStrip_cam, State.streaks_cam, State.setCam_same]
  refine ⟨fun x hm hn => ?_, rfl, rfl⟩
  rw [List.mem_filter, List.mem_map] at hm
  obtain ⟨⟨y, -, rfl⟩, -⟩ := hm
  by_cases hy : (y.frame == r.frame) = true
  · rw [if_pos hy]
  · rw [if_neg hy] at hn
    exact absurd (beq_iff_eq.mpr hn) hy

/-- Settles O55: each kind of step by the lemma of its own section. -/
theorem framesTakePacketsAndLines : Obligations.FramesTakePacketsAndLines := by
  unfold Obligations.FramesTakePacketsAndLines
  refine ⟨fun s p k => ?_, fun s p v r => ?_, fun s p => ⟨fun hq h => ?_, fun f h => frameTimeout_truncates h⟩, fun s p => ?_,
    fun s => compressorToken_waits, fun s c w x l hq => compressorToken_exports hq, fun s p k => ?_, fun s p => ⟨fun hq h => ?_, fun r h => statsRecordProcess_marks h⟩⟩
  · intro q good have_
    refine ⟨fun hq h => (if_pos (bne_iff_ne.mpr h)).trans (s.done_quiet hq), ?_⟩
    intro of_
    refine ⟨fun h hb => streamPacket_corrupts h hb, fun h hg hd hc hq => ?_, fun h hg hd hc => streamPacket_starves h hg hd hc, fun hq h hg hd =>
      (execStreamPacket_dropped h hg hd).trans (s.done_quiet hq)⟩
    exact (execStreamPacket_good h hg hd rfl).trans ((if_neg (Nat.not_lt.mpr hc)).trans (State.done_quiet _ hq))
  · intro q takes
    refine ⟨fun hq h => (if_pos (bne_iff_ne.mpr h)).trans (s.done_quiet hq), fun h hf hq => ?_, fun h hf ht hq => ?_, fun t ts h hf ht => ⟨fun hn hq => ?_, fun n f hn hf2 => ?_⟩⟩
    · exact (execCameraLine_forgotten h hf).trans (State.done_quiet _ hq)
    · exact (execCameraLine_unmatched h hf ht).trans (State.done_quiet _ hq)
    · exact (execCameraLine_uninspected h hf ht hn).trans (State.done_quiet _ hq)
    · exact cameraLine_counts h hf ht hn hf2
  · refine Eq.trans (b := execFrameTimeout p s) rfl ?_
    unfold execFrameTimeout
    rw [h]
    exact s.done_quiet hq
  · intro q f at_
    refine ⟨fun hq h => ?_, fun x h => timeModeLine_triggers h⟩
    refine Eq.trans (b := execTimeModeLine p s) rfl ?_
    unfold execTimeModeLine
    dsimp only
    rw [show s.cam.ports[p].frames.find? (fun f => f.timeLeft.any (fun k => decide (0 < k))) = none from h]
    exact s.done_quiet hq
  · intro c have_
    refine ⟨fun hq h => ?_, fun f x l hf hh => compressorToken_tap hf hh⟩
    have hx : s.tapToken p k = s := by
      unfold State.tapToken
      dsimp only
      rw [show s.cam.ports[p].taps[k].writing.find? (fun f => !f.held.isEmpty) = none from h]
    exact (congrArg State.done hx).trans (s.done_quiet hq)
  · refine Eq.trans (b := execStatsRecordProcess p s) rfl ?_
    unfold execStatsRecordProcess
    rw [h]
    exact s.done_quiet hq

end Sys2Proof.Machine
end

section
/-!
SUPPORT. The health map: the commands of R549, the reports of R398 to R400, what a verdict does to a nozzle (R393), and its records in MRAM
(R396).
-/

namespace Sys2Proof.Machine

variable {s : State} {c : Cmd}

/-! ### HEALTH_READ and HEALTH_FORCE (R549) -/

theorem State.mapHead_congr {t : State} (h : t.mapper = s.mapper) (p : HeadPort) : t.mapHead p = s.mapHead p := by
  unfold State.mapHead
  rw [h]

theorem State.nozzleState_congr {t : State} (h : t.health = s.health) (n : Nozzle) : t.nozzleState n = s.nozzleState n := by
  unfold State.nozzleState
  rw [h]

/-- The head port that HEALTH_READ names. -/
def healthReadPort (c : Cmd) : HeadPort := Fin.ofNat 32 (bits (c.dw 0) 4 0)

theorem cmdHealthRead_none (hb : bufferBad (c.dw 1) (c.dw 2) = false) (h : s.mapHead (healthReadPort c) = none) :
    cmdHealthRead c s = (s, resp .notFound 0) := by
  unfold cmdHealthRead
  dsimp only
  rw [hb, if_neg Bool.false_ne_true, show s.mapHead (Fin.ofNat 32 (bits (c.dw 0) 4 0)) = none from h]

theorem cmdHealthRead_writes {h : HeadRec} (hh : s.mapHead (healthReadPort c) = some h)
    (hw : Writes c 1 (packAll 2 ((List.range h.nozzles).map (fun i => (s.nozzleState ⟨healthReadPort c, i⟩).code)))) : cmdHealthRead c s =
      (s.emit (.hostWrite (c.dw 1) (pad64 (packAll 2 ((List.range h.nozzles).map (fun i => (s.nozzleState ⟨healthReadPort c, i⟩).code))))),
        resp .ok h.nozzles) := by
  unfold cmdHealthRead
  dsimp only
  rw [hw.aligned, if_neg Bool.false_ne_true, show s.mapHead (Fin.ofNat 32 (bits (c.dw 0) 4 0)) = some h from hh]
  exact State.writeBlock_writes hw _

/-- The nozzle that HEALTH_FORCE names. -/
def forcedNozzle (c : Cmd) : Nozzle := ⟨Fin.ofNat 32 (c.argBits 4 0), c.argBits 17 5⟩

theorem cmdHealthForce_absent (h : ∀ r, s.mapHead (forcedNozzle c).port = some r → r.nozzles ≤ (forcedNozzle c).index) :
    cmdHealthForce c s = (s, resp .notFound 0) := by
  unfold cmdHealthForce
  dsimp only
  cases hm : s.mapHead (forcedNozzle c).port with
  | none => rw [show s.mapHead (Fin.ofNat 32 (c.argBits 4 0)) = none from hm]
  | some r =>
    rw [show s.mapHead (Fin.ofNat 32 (c.argBits 4 0)) = some r from hm]
    exact if_pos (h r hm)

/-- What HEALTH_FORCE leaves: one nozzle forced or OK, and no change of it waiting (R395, R549). -/
structure State.Forces (s : State) (n : Nozzle) (x : NozzleState) (u : State) : Prop where
  nozzles : u.health.ports[n.port].nozzles =
    s.health.ports[n.port].nozzles.set n.index { s.health.ports[n.port].nozzles.getD n.index {} with state := x }
  others : ∀ q : HeadPort, q ≠ n.port → u.health.ports[q] = s.health.ports[q]
  syncs : ∀ y ∈ u.health.syncs, y.nozzle ≠ n
  print : u.print = s.print

theorem State.putNozzle_nozzles (n : Nozzle) (r : NozzleRec) :
    (s.putNozzle n r).health.ports[n.port].nozzles = s.health.ports[n.port].nozzles.set n.index r := by
  refine (congrArg HealthPort.nozzles (upd_fin ..)).trans ?_
  rw [if_pos rfl]

theorem State.putNozzle_others (n : Nozzle) (r : NozzleRec) {q : HeadPort} (hq : q ≠ n.port) :
    (s.putNozzle n r).health.ports[q] = s.health.ports[q] := by
  refine (upd_fin ..).trans ?_
  rw [if_neg (Ne.symm hq)]

theorem cmdHealthForce_forces (h : ¬∀ r, s.mapHead (forcedNozzle c).port = some r → r.nozzles ≤ (forcedNozzle c).index) : ∃ u : State,
    cmdHealthForce c s = (u, okResp) ∧ s.Forces (forcedNozzle c) (if c.argBits 18 18 = 1 then .forced else .ok) u := by
  push Not at h
  obtain ⟨r, hm, hr⟩ := h
  have hx : cmdHealthForce c s = ((({ s with health := { s.health with
      syncs := s.health.syncs.filter (fun y => y.nozzle != forcedNozzle c) } } : State).putNozzle (forcedNozzle c)
        { s.health.ports[(forcedNozzle c).port].nozzles.getD (forcedNozzle c).index {} with
          state := if c.argBits 18 18 == 1 then .forced else .ok }).raiseF (if c.argBits 18 18 == 1 then .nozzleFailed else .nozzleRecovered)
        [fld 0 5 (forcedNozzle c).port.val, fld 5 13 (forcedNozzle c).index, fld 18 2 3], okResp) := by
    unfold cmdHealthForce
    dsimp only
    rw [show s.mapHead (Fin.ofNat 32 (c.argBits 4 0)) = some r from hm]
    exact if_neg (Nat.not_le.mpr hr)
  refine ⟨_, hx, ?_, fun q hq => ?_, fun y hy => ?_, ?_⟩
  · rw [State.raiseF_health, State.putNozzle_nozzles]
    simp only [beq_iff_eq]
  · rw [State.raiseF_health, State.putNozzle_others _ _ hq]
  · rw [State.raiseF_health] at hy
    exact bne_iff_ne.mp (List.mem_filter.mp hy).2
  · rw [State.raiseF_print, State.putNozzle_print]

/-! ### Verdicts (R393, R399, R400) -/

theorem NozzleRec.apply_forced {t : HealthSettings} {n : NozzleRec} (h : n.state = .forced) (v : Verdict) : n.apply t v = n := if_pos h

theorem NozzleRec.apply_missing {t : HealthSettings} {n : NozzleRec} (h : n.state ≠ .forced) : n.apply t .missing =
    { n with miss := min (n.miss + 1) t.failCount, okRun := 0, state := if t.failCount ≤ n.miss + 1 then .failed else n.state } := if_neg h

theorem NozzleRec.apply_weak {t : HealthSettings} {n : NozzleRec} (h : n.state ≠ .forced) : n.apply t .weak =
    { n with miss := 0, okRun := 0, state := if n.state = .ok then .weak else n.state } := if_neg h

theorem NozzleRec.apply_ok {t : HealthSettings} {n : NozzleRec} (h : n.state ≠ .forced) : n.apply t .ok =
    { n with miss := 0, okRun := min (n.okRun + 1) t.recoverCount, state := if t.recoverCount ≤ n.okRun + 1 then .ok else n.state } := if_neg h

theorem State.syncChange_kept (n : Nozzle) (t : NozzleState) (x : PageId) : (s.syncChange n t x).health.kept = s.health.kept := by
  unfold State.syncChange
  dsimp only
  cases s.prepsSince x with
  | none => rfl
  | some k =>
    dsimp only
    split
    · rw [State.raiseF_health]
    · rfl

theorem State.strike_kept (n : Nozzle) (v : Verdict) : (s.strike n v).health.kept = s.health.kept := by
  unfold State.strike
  by_cases h : s.health.ports[n.port].nozzles.length ≤ n.index
  · rw [if_pos h]
  · rw [if_neg h]
    dsimp only
    rw [State.nozzleEvent_health]
    by_cases hp : s.pair.paired = true
    · rw [if_pos hp]
      by_cases hs : ((s.nozzleNow n).apply s.health.set v).state = (s.nozzleNow n).state
      · rw [if_pos hs]
        rfl
      · rw [if_neg hs, State.sendChange_health, State.syncChange_kept]
        rfl
    · rw [if_neg hp]
      rfl

/-- A verdict on a nozzle of an unpaired device, no change of which waits, takes effect at once (R393). -/
theorem State.strike_nozzles {n : Nozzle} {v : Verdict} (hp : s.pair.paired = false) (hy : s.health.syncs = [])
    (hi : n.index < s.health.ports[n.port].nozzles.length) : (s.strike n v).health.ports[n.port].nozzles =
    s.health.ports[n.port].nozzles.set n.index ((s.health.ports[n.port].nozzles.getD n.index {}).apply s.health.set v) := by
  have hn : s.nozzleNow n = s.health.ports[n.port].nozzles.getD n.index {} := by
    unfold State.nozzleNow
    dsimp only
    rw [hy]
    rfl
  unfold State.strike
  rw [if_neg (Nat.not_le.mpr hi)]
  dsimp only
  rw [State.nozzleEvent_health, hp, if_neg Bool.false_ne_true, State.putNozzle_nozzles, hn]

theorem State.stripEnd_kept : s.stripEnd.health.kept = s.health.kept := by
  unfold State.stripEnd
  split
  · rfl
  · by_cases h : s.noClaim = true
    · rw [if_pos h]
    · rw [if_neg h]
      refine foldl_same (fun t : State => t.health.kept) _ (fun t k => ?_) _ _
      split
      · exact State.strike_kept ..
      · rfl

theorem State.stripEnd_noClaim (h : s.noClaim = true) : s.stripEnd = s := by
  unfold State.stripEnd
  cases s.mapper.inForce with
  | none => rfl
  | some m => exact if_pos h

/-- A strip end with one verdict kept strikes its candidate once (R399). -/
theorem State.stripEnd_one {m : NozzleMap} {k : KeptVerdict} {x : Cand} (hp : s.pair.paired = false) (hm : s.mapper.inForce = some m)
    (hk : s.health.kept = [k]) (hx : m.candAt k.position k.candB = some x) : s.stripEnd = s.strike x.nozzle k.verdict := by
  have hc : ¬s.noClaim = true := by
    unfold State.noClaim
    rw [hp]
    exact Bool.false_ne_true
  unfold State.stripEnd
  rw [hm]
  dsimp only
  rw [if_neg hc, hk, List.foldl_cons, List.foldl_nil, hx]

/-! ### NOZZLE_REPORT (R399) -/

/-- The map in force has spares. -/
def State.hasSpares (s : State) : Prop := ∃ m, s.mapper.inForce = some m ∧ m.spares = true

theorem cmdNozzleReport_stripEnd (hv : c.argBits 19 18 = 3) : cmdNozzleReport c s = (s.stripEnd, okResp) := if_pos hv

theorem State.hasSpares_iff : (match s.mapper.inForce with | some m => m.spares | none => false) = true ↔ s.hasSpares := by
  unfold State.hasSpares
  cases s.mapper.inForce with
  | none => simp
  | some m => simp

section Verdict

variable (hv : c.argBits 19 18 ≠ 3)
include hv

theorem cmdNozzleReport_ignored (hb : (c.argBits 17 17 == 1) = true) (h : ¬s.hasSpares) : cmdNozzleReport c s = (s, okResp) := by
  refine (if_neg hv).trans (if_pos ?_)
  exact Bool.and_eq_true_iff.mpr ⟨hb, (Bool.not_eq_true' _).mpr (Bool.eq_false_iff.mpr fun g => h (State.hasSpares_iff.mp g))⟩

theorem cmdNozzleReport_keeps (h : (c.argBits 17 17 == 1) = false ∨ s.hasSpares) : cmdNozzleReport c s =
    ({ s with health := { s.health with kept := s.health.kept.filter (fun k => k.position != c.argBits 16 0 || k.candB != (c.argBits 17 17 == 1)) ++
        [⟨c.argBits 16 0, c.argBits 17 17 == 1, verdictAt (c.argBits 19 18)⟩] } }, okResp) := by
  refine (if_neg hv).trans (if_neg fun hx => ?_)
  obtain ⟨h1, h2⟩ := Bool.and_eq_true_iff.mp hx
  rcases h with h | h
  · exact absurd (h.symm.trans h1) Bool.false_ne_true
  · exact absurd (State.hasSpares_iff.mpr h) (Bool.eq_false_iff.mp ((Bool.not_eq_true' _).mp h2))

end Verdict

/-! ### HEALTH_MAP_PERSIST (R396) -/

theorem HealthPort.write_nozzles (q : HealthPort) : q.write.nozzles = q.nozzles := by
  unfold HealthPort.write
  split
  · split
    · rfl
    · rfl
  · rfl

theorem HealthPort.write_same {q : HealthPort} (h : q.changed = false ∨ q.judged = none) : q.write = q := by
  have hn : ¬(q.changed && q.judged.isSome) = true := by
    rcases h with h | h
    · rw [h]; exact Bool.false_ne_true
    · rw [h, Bool.and_comm]; exact Bool.false_ne_true
  unfold HealthPort.write
  cases q.record with
  | none => rfl
  | some r => exact if_neg hn

theorem HealthPort.write_writes {q : HealthPort} {r : HealthRecord} (h1 : q.changed = true) (h2 : q.judged.isSome = true) (h3 : q.record = some r) :
    q.write.changed = false ∧ q.write.record = some { r with states := q.nozzles.map (fun n => n.state) } := by
  have hw : q.write = { q with record := some { r with states := q.nozzles.map (fun n => n.state) }, changed := false } := by
    unfold HealthPort.write
    rw [h3]
    exact if_pos (by rw [h1, h2]; rfl)
  rw [hw]
  exact ⟨rfl, rfl⟩

theorem State.writeHealth_ports (p : HeadPort) : s.writeHealth.health.ports[p] = s.health.ports[p].write :=
  Vector.getElem_map ..

/-- Settles O56: each command, report and write by the lemmas of its own section. -/
theorem healthMapTakesVerdictsAndCommands : Obligations.HealthMapTakesVerdictsAndCommands := by
  unfold Obligations.HealthMapTakesVerdictsAndCommands
  refine ⟨fun s c hr => ?_, fun s c hr => ?_, fun s c hr => ?_, fun t n => ⟨fun h v => NozzleRec.apply_forced h v, fun h => ⟨?_, ?_, ?_⟩⟩, fun s slot n => ⟨fun hq h => ?_, fun h => ?_⟩,
    fun s => ⟨_, rfl, ?_, fun p => ?_⟩⟩
  · intro p no
    have hmap : (s.begun 0x46 c).mapHead p = s.mapHead p := State.mapHead_congr (s.begun_mapper c 0x46) p
    have hnoz (i : Nat) : (s.begun 0x46 c).nozzleState ⟨p, i⟩ = s.nozzleState ⟨p, i⟩ := State.nozzleState_congr (s.begun_health c 0x46) _
    refine ⟨fun hb => command_reply s c hr (if_pos hb), fun hb h => command_reply s c hr (cmdHealthRead_none hb (hmap.trans h)), fun h hh => ?_⟩
    intro ws hw
    have hws : packAll 2 ((List.range h.nozzles).map (fun i => ((s.begun 0x46 c).nozzleState ⟨p, i⟩).code)) = ws := by simp only [hnoz, ws]
    have hx := cmdHealthRead_writes (hmap.trans hh) (by rw [show healthReadPort c = p from rfl, hws]; exact hw)
    rw [show healthReadPort c = p from rfl, hws] at hx
    exact command_reply s c hr hx
  · intro p i old none_
    have hmap : (s.start c).mapHead p = s.mapHead p := State.mapHead_congr (s.start_mapper c) p
    refine ⟨fun h => command_replyAtStart (f := cmdHealthForce) rfl hr (cmdHealthForce_absent fun r hx => h r (hmap.symm.trans hx)), fun h => ?_⟩
    obtain ⟨u, hu, hf⟩ := cmdHealthForce_forces (s := s.start c) (c := c) (fun g => h fun r hx => g r (hmap.trans hx))
    obtain ⟨h1, h2, h3, h4⟩ := hf
    rw [s.start_health c] at h1 h2
    exact ⟨u, command_replyAtStart (f := cmdHealthForce) rfl hr hu, h1, h2, h3, h4.trans (s.start_print c)⟩
  · intro pos b v spares
    have hsp : (s.start c).hasSpares ↔ spares := by
      unfold State.hasSpares
      rw [s.start_mapper c]
    refine ⟨fun hv hb hs => ?_, fun hv h => ?_, fun hv hn => ?_, fun hv => ?_⟩
    · exact command_replyAtStart (f := cmdNozzleReport) rfl hr (cmdNozzleReport_ignored hv hb fun g => hs (hsp.mp g))
    · refine ⟨_, command_replyAtStart (f := cmdNozzleReport) rfl hr (cmdNozzleReport_keeps hv (h.imp_right hsp.mpr)), ?_, s.start_print c⟩
      dsimp only
      rw [s.start_health c]
    · refine command_replyAtStart (f := cmdNozzleReport) rfl hr ((cmdNozzleReport_stripEnd hv).trans ?_)
      rw [State.stripEnd_noClaim]
      · rfl
      · exact ((congrArg (fun x : PairPart => x.paired && (x.st != .active || x.claim == 0)) (s.start_pair c)).trans hn)
    · refine ⟨_, command_replyAtStart (f := cmdNozzleReport) rfl hr (cmdNozzleReport_stripEnd hv), ?_, ?_, fun m k x hp hm hk hx hi hy => ?_⟩
      · rw [State.stripEnd_kept, s.start_health c]
      · rw [State.stripEnd_print, s.start_print c]
      · have hh := s.start_health c
        rw [State.stripEnd_one (by rw [s.start_pair c]; exact hp) (by rw [s.start_mapper c]; exact hm) (by rw [hh]; exact hk) hx,
          State.strike_nozzles (by rw [s.start_pair c]; exact hp) (by rw [hh]; exact hy) (by rw [hh]; exact hi), hh]
  · rw [NozzleRec.apply_missing h]
    exact ⟨rfl, fun hm => ⟨if_neg (Nat.not_le.mpr hm), Nat.min_eq_left hm.le⟩, fun hm => if_pos hm⟩
  · rw [NozzleRec.apply_weak h]
    exact ⟨rfl, rfl, rfl⟩
  · rw [NozzleRec.apply_ok h]
    exact ⟨rfl, fun hm => ⟨if_neg (Nat.not_le.mpr hm), Nat.min_eq_left hm.le⟩, fun hm => if_pos hm⟩
  · exact (if_neg (by rw [List.contains_iff_mem]; exact h)).trans (s.done_quiet hq)
  · refine ⟨_, if_pos (by rw [List.contains_iff_mem]; exact h), ?_, ?_⟩
    · rw [State.settle_health]
      exact State.raiseF_health ..
    · rw [State.settle_print, State.reportLost_print]
  · rw [State.settle_print, State.writeHealth_print]
  · rw [State.settle_health, State.writeHealth_ports]
    exact ⟨HealthPort.write_nozzles _, HealthPort.write_same, fun r h1 h2 h3 => HealthPort.write_writes h1 h2 h3⟩

end Sys2Proof.Machine
end

section
/-!
SUPPORT. Calibration procedures: what they assume, how they begin, and what each leaves where it ends (R403 to R405).
-/

namespace Sys2Proof.Machine

variable {s : State} {c : Cmd}

/-! ### Assumptions (R404) -/

theorem State.printFault_congr {t : State} (hp : t.print = s.print) (hs : t.sluice = s.sluice) (ht : t.time = s.time) (hh : t.health = s.health)
    (hm : t.motion = s.motion) (hc : t.cam = s.cam) (hn : t.mapper = s.mapper) : t.printFault = s.printFault := by
  unfold State.printFault State.measured State.imagesStrip
  rw [hp, hs, ht, hh, hm, hc, hn]

theorem State.begun_calFault (op : Byte) (p : CalProc) : (s.begun op c).calFault p = s.calFault p := by
  have hf : (s.begun op c).printFault = s.printFault := State.printFault_congr (s.begun_print c op) (s.begun_sluice c op) (s.begun_time c op)
    (s.begun_health c op) (s.begun_motion c op) (s.begun_cam c op) (s.begun_mapper c op)
  cases p with
  | nozzle h => exact hf
  | density => exact hf
  | encTrim e =>
    unfold State.calFault
    rw [s.begun_enc c op]
  | chopper a =>
    unfold State.calFault
    rw [s.begun_motion c op]

theorem State.printFault_stopped (h : s.print.started = false) : s.printFault = some 1 := if_pos (by rw [h]; rfl)

/-! ### The start of a procedure (R181, R351, R405) -/

theorem State.calBegin_forced {h : HeadPort} {m : NozzleMap} (hm : s.mapper.inForce = some m) (hs : m.spares = true) :
    (s.calBegin (.nozzle h)).mapper.forced = s.mapper.forced ||| (1#32 <<< h.val) := by
  unfold State.calBegin
  dsimp only
  rw [hm]
  dsimp only
  rw [if_pos hs]

theorem State.calBegin_coils {a : AxisNo} (h : s.motion.axes[a].coilA.target < s.motion.axes[a].coilB.target) :
    (s.calBegin (.chopper a)).motion.axes[a] = { s.motion.axes[a] with coilB := { s.motion.axes[a].coilB with ofs := 0 } } := by
  unfold State.calBegin
  dsimp only
  rw [decide_eq_true h, Bool.true_or, if_pos rfl]
  exact Vector.getElem_set_self ..

/-- The run that a calibration command begins (R403). -/
def State.newRun (s : State) (c : Cmd) (op : Byte) (p : CalProc) : CalRun :=
  { proc := p, origin := c.origin, tag := c.tag, opcode := op, mode := s.print.startMode, strips := 0, tally := []
    start := match p with | .encTrim e => s.enc.encs[e].position.toInt | _ => 0 }

section Begin

variable {op : Byte} {p : CalProc}

theorem cmdCal_busy (h : (s.health.run p).isSome = true) : cmdCal op p c s = (s, resp .calBusy 0) := if_pos h

theorem cmdCal_fails (h : s.health.run p = none) {n : Nat} (hf : s.calFault p = some n) :
    cmdCal op p c s = (s.calFail (s.newRun c op p) n, none) := by
  unfold cmdCal
  rw [if_neg (by rw [h]; exact Bool.false_ne_true), hf]
  rfl

theorem cmdCal_runs (h : s.health.run p = none) (hf : s.calFault p = none) : cmdCal op p c s =
    ({ s.calBegin p with health := { s.health with runs := s.health.runs ++ [s.newRun c op p] } }, none) := by
  unfold cmdCal
  rw [if_neg (by rw [h]; exact Bool.false_ne_true), hf]
  rfl

end Begin

theorem calibration_starts {op : Byte} {p : CalProc} {i : Instr} (hr : Runs s op false false c)
    (hi : exec i s = (runCommand op false false (cmdCal op p) c s).done) :
    ((s.health.run p).isSome = true → exec i s = .next ((s.begun op c).reply c op .calBusy 0)) ∧
    (∀ n, s.health.run p = none → s.calFault p = some n →
      exec i s = .next ((((s.begun op c).dropRun p).raise .calFail (pack40 [fld 0 3 p.num, fld 3 5 p.target, fld 8 18 n])).respond c.origin op c.tag
        .calFail (pack40 [fld 0 3 p.num, fld 3 5 p.target, fld 8 18 n])).settle) ∧
    (s.health.run p = none → s.calFault p = none → ∃ (t : State) (r : CalRun), exec i s = .next t ∧
      t.health.runs = s.health.runs ++ [r] ∧ r.proc = p ∧ r.origin = c.origin ∧ r.tag = c.tag ∧ r.opcode = op ∧ r.strips = 0 ∧
      r.tally = [] ∧ r.mode = s.print.startMode ∧ t.print = s.print ∧
      (∀ m h, s.mapper.inForce = some m → m.spares = true → p = .nozzle h → t.mapper.forced = s.mapper.forced ||| (1#32 <<< h.val)) ∧
      (∀ a, p = .chopper a → s.motion.axes[a].coilA.target < s.motion.axes[a].coilB.target →
        t.motion.axes[a].coilB.ofs = 0 ∧ t.motion.axes[a].coilA = s.motion.axes[a].coilA)) := by
  have hh := s.begun_health c op
  refine ⟨fun h => ?_, fun n h hf => ?_, fun h hf => ?_⟩
  · exact hi.trans (command_reply s c hr (cmdCal_busy (by rw [hh]; exact h)))
  · exact hi.trans (command_waits s c hr (cmdCal_fails (by rw [hh]; exact h) ((State.begun_calFault op p).trans hf)))
  · refine ⟨_, (s.begun op c).newRun c op p, hi.trans (command_waits s c hr (cmdCal_runs (by rw [hh]; exact h) ((State.begun_calFault op p).trans hf))), ?_, rfl, rfl, rfl, rfl,
      rfl, rfl, ?_, ?_, fun m k hm hs hp => ?_, fun a hp ha => ?_⟩
    · rw [State.settle_health, hh]
    · exact congrArg PrintPart.startMode (s.begun_print c op)
    · rw [State.settle_print]
      exact (State.calBegin_print ..).trans (s.begun_print c op)
    · subst hp
      rw [State.settle_mapper]
      exact (State.calBegin_forced (by rw [s.begun_mapper c op]; exact hm) hs).trans (by rw [s.begun_mapper c op])
    · subst hp
      have hx : ((s.begun op c).calBegin (.chopper a)).motion.axes[a] = _ := State.calBegin_coils (by rw [s.begun_motion c op]; exact ha)
      rw [State.settle_motion]
      dsimp only
      rw [hx, s.begun_motion c op]
      exact ⟨rfl, rfl⟩

/-! ### The end of a procedure (R403, R405) -/

theorem HealthPart.run_proc {x : HealthPart} {p : CalProc} {r : CalRun} (h : x.run p = some r) : r.proc = p := by
  simpa using List.find?_some h

theorem State.calAnswer_health (r : CalRun) (st : Code) (n : Nat) : (s.calAnswer r st n).health =
    { s.health with runs := s.health.runs.filter (fun q => q.proc != r.proc) } := by
  unfold State.calAnswer
  dsimp only
  rw [State.respond_health, State.raise_health]
  unfold State.dropRun
  dsimp only
  split
  · rfl
  · rfl

theorem State.calAnswer_density {r : CalRun} (hp : r.proc = .density) (st : Code) (n : Nat) : (s.calAnswer r st n).mapper = s.mapper := by
  unfold State.calAnswer
  dsimp only
  rw [State.respond_mapper, State.raise_mapper, hp]
  rfl

/-- What nozzle detection makes of a nozzle (R405). -/
def NozzleRec.detected (old : NozzleRec) (r : CalRun) (n : Nozzle) : NozzleRec :=
  match r.tally.find? (fun t => t.nozzle == n) with
  | some t => old.detect r.strips t
  | none => { old with miss := 0, okRun := 0 }

/-- Nozzle detection of one nozzle of a head (R405). -/
def detectNozzle (r : CalRun) (h : HeadPort) (acc : State × Nat) (i : Nat) : State × Nat :=
  let old := acc.1.health.ports[h].nozzles.getD i {}
  let new := old.detected r ⟨h, i⟩
  ((acc.1.putNozzle ⟨h, i⟩ new).nozzleEvent ⟨h, i⟩ old.state new.state 2, acc.2 + (if new.state = old.state then 0 else 1))

theorem State.endDetection_folds (r : CalRun) (h : HeadPort) : s.endDetection r h =
    (((List.range s.health.ports[h].nozzles.length).foldl (detectNozzle r h) (s, 0)).1.calAnswer r .calPass
      ((List.range s.health.ports[h].nozzles.length).foldl (detectNozzle r h) (s, 0)).2) := rfl

/-- The first k nozzles of a head have been detected. -/
structure State.Detected (s : State) (r : CalRun) (h : HeadPort) (k : Nat) (t : State) : Prop where
  runs : t.health.runs = s.health.runs
  others : ∀ q : HeadPort, q ≠ h → t.health.ports[q] = s.health.ports[q]
  length : t.health.ports[h].nozzles.length = s.health.ports[h].nozzles.length
  nozzles : ∀ i, i < s.health.ports[h].nozzles.length → t.health.ports[h].nozzles.getD i {} =
    if i < k then (s.health.ports[h].nozzles.getD i {}).detected r ⟨h, i⟩ else s.health.ports[h].nozzles.getD i {}

theorem detectNozzle_next {r : CalRun} {h : HeadPort} {k : Nat} {acc : State × Nat} (hk : k < s.health.ports[h].nozzles.length)
    (hd : s.Detected r h k acc.1) : s.Detected r h (k + 1) (detectNozzle r h acc k).1 := by
  obtain ⟨h1, h2, h3, h4⟩ := hd
  have hold := h4 k hk
  rw [if_neg (Nat.lt_irrefl k)] at hold
  have hn : (detectNozzle r h acc k).1.health = (acc.1.putNozzle ⟨h, k⟩ ((acc.1.health.ports[h].nozzles.getD k {}).detected r ⟨h, k⟩)).health :=
    State.nozzleEvent_health ..
  have hnoz := State.putNozzle_nozzles (s := acc.1) ⟨h, k⟩ ((acc.1.health.ports[h].nozzles.getD k {}).detected r ⟨h, k⟩)
  refine ⟨?_, fun q hq => ?_, ?_, fun i hi => ?_⟩
  · rw [hn]
    exact h1
  · rw [hn, State.putNozzle_others _ _ hq]
    exact h2 q hq
  · rw [hn, hnoz, List.length_set]
    exact h3
  · rw [hn, hnoz, hold, List.getD_eq_getElem?_getD, List.getElem?_set]
    by_cases hik : k = i
    · subst hik
      rw [if_pos rfl, if_pos (by dsimp only; omega), if_pos (Nat.lt_succ_self k)]
      rfl
    · rw [if_neg hik, ← List.getD_eq_getElem?_getD, h4 i hi]
      by_cases hlt : i < k
      · rw [if_pos hlt, if_pos (by omega)]
      · rw [if_neg hlt, if_neg (by omega)]

theorem detectNozzles_upTo (r : CalRun) (h : HeadPort) : ∀ k, k ≤ s.health.ports[h].nozzles.length →
    s.Detected r h k ((List.range k).foldl (detectNozzle r h) (s, 0)).1
  | 0, _ => ⟨rfl, fun _ _ => rfl, rfl, fun _ _ => rfl⟩
  | k + 1, hk => by
    rw [List.range_succ, List.foldl_append]
    exact detectNozzle_next hk (detectNozzles_upTo r h k (Nat.le_of_succ_le hk))

theorem NozzleRec.detected_spec (old : NozzleRec) (r : CalRun) (n : Nozzle) :
    (old.detected r n).miss = 0 ∧ (old.detected r n).okRun = 0 ∧ (old.state = .forced → (old.detected r n).state = .forced) ∧
    (r.tally.find? (fun x => x.nozzle == n) = none → (old.detected r n).state = old.state) ∧
    (∀ x, r.tally.find? (fun x => x.nozzle == n) = some x → old.state ≠ .forced → (old.detected r n).state =
      (if r.strips < 2 * x.missing then .failed else if x.okay = r.strips then .ok else old.state)) := by
  unfold NozzleRec.detected
  cases hf : r.tally.find? (fun x => x.nozzle == n) with
  | none => exact ⟨rfl, rfl, id, fun _ => rfl, fun _ h => absurd h (by simp)⟩
  | some y =>
    refine ⟨rfl, rfl, fun h => if_pos h, fun h => absurd h (by simp), fun x hx hn => ?_⟩
    obtain rfl := Option.some.inj hx
    exact if_neg hn

theorem calProcedureEnd_detects {h : HeadPort} {r : CalRun} (hr : s.health.run (.nozzle h) = some r) :
    (s.quiet → r.strips < s.health.set.detPages → exec (.calProcedureEnd (.nozzle h) .strips) s = .next s) ∧
    (∀ n, s.health.set.detPages ≤ r.strips → s.printFault = some n →
      exec (.calProcedureEnd (.nozzle h) .strips) s = .next (s.calFail r n).settle) ∧
    (s.health.set.detPages ≤ r.strips → s.printFault = none →
      exec (.calProcedureEnd (.nozzle h) .strips) s = .next (s.endDetection r h).settle) := by
  have hx : exec (.calProcedureEnd (.nozzle h) .strips) s = if r.strips < s.health.set.detPages then s.done else
      match s.printFault with
      | some n => (s.calFail r n).done
      | none => (s.endDetection r h).done := by
    refine Eq.trans (b := execCalProcedureEnd (.nozzle h) .strips s) rfl ?_
    unfold execCalProcedureEnd
    rw [hr] <;> rfl
  refine ⟨fun hq hd => hx.trans ((if_pos hd).trans (s.done_quiet hq)), fun n hd hf => ?_, fun hd hf => ?_⟩
  · rw [hx, if_neg (Nat.not_lt.mpr hd), hf]
    rfl
  · rw [hx, if_neg (Nat.not_lt.mpr hd), hf]
    rfl

theorem calProcedureEnd_curves {r : CalRun} (hr : s.health.run .density = some r) :
    (s.quiet → r.strips < s.health.set.dcPages → exec (.calProcedureEnd .density .strips) s = .next s) ∧
    (∀ n, s.health.set.dcPages ≤ r.strips → s.printFault = some n →
      exec (.calProcedureEnd .density .strips) s = .next (s.calFail r n).settle) ∧
    (s.health.set.dcPages ≤ r.strips → s.printFault = none →
      exec (.calProcedureEnd .density .strips) s = .next (s.endDensity r).settle) := by
  have hx : exec (.calProcedureEnd .density .strips) s = if r.strips < s.health.set.dcPages then s.done else
      match s.printFault with
      | some n => (s.calFail r n).done
      | none => (s.endDensity r).done := by
    refine Eq.trans (b := execCalProcedureEnd .density .strips s) rfl ?_
    unfold execCalProcedureEnd
    rw [hr] <;> rfl
  refine ⟨fun hq hd => hx.trans ((if_pos hd).trans (s.done_quiet hq)), fun n hd hf => ?_, fun hd hf => ?_⟩
  · rw [hx, if_neg (Nat.not_lt.mpr hd), hf]
    rfl
  · rw [hx, if_neg (Nat.not_lt.mpr hd), hf]
    rfl

section Density

variable {r : CalRun} {m : NozzleMap} (hm : s.mapNext = some m)
include hm

theorem State.endDensity_few (h : 10 * ((m.positions.flatMap PosEntry.cands).filter (fun c => r.tally.any (fun t => t.nozzle == c.nozzle))).length <
    9 * (m.positions.flatMap PosEntry.cands).length) : s.endDensity r = s.calFail r 5 := by
  unfold State.endDensity
  rw [hm]
  exact if_pos h

/-- Density calibration that passes moves its candidates and begins a rollout (R194, R405). -/
theorem State.endDensity_moves (hp : r.proc = .density)
    (h : 9 * (m.positions.flatMap PosEntry.cands).length ≤
      10 * ((m.positions.flatMap PosEntry.cands).filter (fun c => r.tally.any (fun t => t.nozzle == c.nozzle))).length) :
    (s.endDensity r).mapper.rollout.isSome = true ∧ (s.endDensity r).mapper.curveIdx =
      s.mapper.curveIdx.filter (fun x => (lookupNozzle (s.densityMoves m r) x.1).isNone) ++ s.densityMoves m r := by
  unfold State.endDensity
  rw [hm]
  dsimp only
  rw [if_neg (Nat.not_lt.mpr h), State.calAnswer_density hp]
  exact ⟨rfl, rfl⟩

end Density

/-! ### Encoder trims (R330, R402, R405) -/

section Trim

variable {r : CalRun} {e : EncNo} {oS oC g ph : Int} {ppm mdeg : Nat}

/-- An encoder that gives a signal over the 16 periods of a trim (R402). -/
def State.trimSignal (s : State) (e : EncNo) (r : CalRun) : Prop :=
  s.enc.encs[e].mode = .analogue ∧ s.enc.encs[e].lossEp = false ∧ 65536 ≤ (s.enc.encs[e].position.toInt - r.start).natAbs

/-- The values of a trim lie in their ranges, and what they leave is small enough (R330, R405). -/
def trimFits (oS oC g ph : Int) (ppm mdeg : Nat) : Prop :=
  ppm ≤ 2000 ∧ mdeg ≤ 200 ∧ (-2048 ≤ oS ∧ oS ≤ 2047) ∧ (-2048 ≤ oC ∧ oC ≤ 2047) ∧ (8192 ≤ g ∧ g ≤ 32768) ∧ (-8192 ≤ ph ∧ ph ≤ 8192)

theorem trimSignal_iff : s.trimSignal e r ↔ ¬(s.enc.encs[e].mode != .analogue || s.enc.encs[e].lossEp ||
    decide ((s.enc.encs[e].position.toInt - r.start).natAbs < trimCounts)) = true := by
  rw [Bool.or_eq_true, Bool.or_eq_true, bne_iff_ne, decide_eq_true_eq, not_or, not_or, not_not, Bool.not_eq_true, and_assoc]
  exact and_congr_right' (and_congr_right' Nat.not_lt.symm)

theorem trimFits_iff : trimFits oS oC g ph ppm mdeg ↔ ¬(decide (2000 < ppm) || decide (200 < mdeg) || decide (oS < -2048) || decide (2047 < oS) ||
    decide (oC < -2048) || decide (2047 < oC) || decide (g < 8192) || decide (32768 < g) || decide (ph < -8192) || decide (8192 < ph)) = true := by
  simp only [Bool.or_eq_true, decide_eq_true_eq]
  unfold trimFits
  omega

theorem State.endTrim_noSignal (h : ¬s.trimSignal e r) : s.endTrim r e oS oC g ph ppm mdeg = s.calFail r 6 :=
  if_pos (not_not.mp fun hc => h (trimSignal_iff.mpr hc))

variable (h : s.trimSignal e r)
include h

theorem State.endTrim_noFit (hf : ¬trimFits oS oC g ph ppm mdeg) : s.endTrim r e oS oC g ph ppm mdeg = s.calFail r 8 :=
  (if_neg (trimSignal_iff.mp h)).trans (if_pos (not_not.mp fun hc => hf (trimFits_iff.mpr hc)))

/-- A trim that passes writes its values, at once or at print stop (R330, R405). -/
theorem State.endTrim_writes (hf : trimFits oS oC g ph ppm mdeg) :
    (s.endTrim r e oS oC g ph ppm mdeg).enc.encs[e].position = s.enc.encs[e].position ∧
    (s.print.started = false → (s.endTrim r e oS oC g ph ppm mdeg).enc.encs[e].trim = { ofsS := oS, ofsC := oC, gainC := g.toNat, phase := ph }) ∧
    (s.print.started = true → (s.endTrim r e oS oC g ph ppm mdeg).enc.encs[e].trim = s.enc.encs[e].trim ∧
      (s.endTrim r e oS oC g ph ppm mdeg).enc.encs[e].trimNext = some { ofsS := oS, ofsC := oC, gainC := g.toNat, phase := ph }) := by
  have hx : (s.endTrim r e oS oC g ph ppm mdeg).enc.encs[e] = if s.print.started = true then
      { s.enc.encs[e] with trimNext := some { ofsS := oS, ofsC := oC, gainC := g.toNat, phase := ph } }
      else { s.enc.encs[e] with trim := { ofsS := oS, ofsC := oC, gainC := g.toNat, phase := ph }, trimNext := none } := by
    unfold State.endTrim
    dsimp only
    rw [if_neg (trimSignal_iff.mp h), if_neg (trimFits_iff.mp hf), State.calAnswer_enc]
    exact Vector.getElem_set_self ..
  rw [hx]
  cases s.print.started with
  | true => exact ⟨rfl, fun h => absurd h.symm Bool.false_ne_true, fun _ => ⟨rfl, rfl⟩⟩
  | false => exact ⟨rfl, fun _ => rfl, fun h => absurd h Bool.false_ne_true⟩

end Trim

/-! ### Chopper trims (R354, R405) -/

section Chop

variable {r : CalRun} {a : AxisNo} {on1 off1 on2 off2 : Nat}

/-- An axis whose coils can be chopped for a trim (R405). -/
def AxisState.chops (x : AxisState) : Prop := x.set.enable = true ∧ x.atRest = true ∧ x.coilFault = false ∧ 91 ≤ x.set.runCurrent

theorem AxisState.chops_iff (x : AxisState) : x.chops ↔ ¬(!x.set.enable || !x.atRest || x.coilFault || decide (x.set.runCurrent < 91)) = true := by
  simp only [Bool.or_eq_true, decide_eq_true_eq, not_or, Bool.not_eq_true, Bool.not_eq_false', Nat.not_lt, and_assoc]
  exact Iff.rfl

theorem State.endChop_notReady (h : ¬s.motion.axes[a].chops) : s.endChop r a on1 off1 on2 off2 = s.calFail r 7 :=
  if_pos (not_not.mp fun hc => h ((AxisState.chops_iff _).mpr hc))

/-- A rational rounded down, or up where it is no integer, is off by less than 1. -/
theorem rounded_near {v : Rat} (h : 0 ≤ v) (b : Bool) :
    |(((if v = (v.floor : Rat) ∨ !b then v.floor.toNat else v.floor.toNat + 1 : Nat) : Rat)) - v| < 1 := by
  have hc : ((v.floor.toNat : Nat) : Rat) = (v.floor : Rat) := by
    have hf : 0 ≤ v.floor := Rat.le_floor_iff.mpr (by simpa using h)
    exact_mod_cast congrArg (Int.cast : Int → Rat) (Int.toNat_of_nonneg hf)
  have h1 : (v.floor : Rat) ≤ v := Rat.floor_le v
  have h2 : v < (v.floor : Rat) + 1 := by exact_mod_cast Rat.lt_floor_add_one v
  by_cases hx : v = (v.floor : Rat) ∨ !b
  · rw [if_pos hx, hc, abs_lt]
    exact ⟨by linarith, by linarith⟩
  · rw [if_neg hx, Nat.cast_add, Nat.cast_one, hc, abs_lt]
    have h3 : (v.floor : Rat) < v := lt_of_le_of_ne h1 (fun he => hx (.inl he.symm))
    exact ⟨by linarith, by linarith⟩

variable (h : s.motion.axes[a].chops)
include h

theorem State.endChop_noFit (hv : ∀ v, chopDelay s.motion.axes[a].set.hyst on1 off1 on2 off2 = some v → v < 0 ∨ 2000 < v) :
    s.endChop r a on1 off1 on2 off2 = s.calFail r 8 := by
  refine (if_neg ((AxisState.chops_iff _).mp h)).trans ?_
  cases hd : chopDelay s.motion.axes[a].set.hyst on1 off1 on2 off2 with
  | none => rfl
  | some v => exact if_pos (hv v hd)

theorem State.endChop_writes {v : Rat} (hd : chopDelay s.motion.axes[a].set.hyst on1 off1 on2 off2 = some v) (h0 : 0 ≤ v) (h1 : v ≤ 2000) :
    |((s.endChop r a on1 off1 on2 off2).motion.axes[a].set.delayNs : Rat) - v| < 1 ∧
    (s.endChop r a on1 off1 on2 off2).motion.axes[a].pos = s.motion.axes[a].pos := by
  have hx : (s.endChop r a on1 off1 on2 off2).motion.axes[a] = { s.motion.axes[a] with set := { s.motion.axes[a].set with
      delayNs := if v = (v.floor : Rat) ∨ !bitAt s.free 0 then v.floor.toNat else v.floor.toNat + 1 } } := by
    unfold State.endChop
    dsimp only
    rw [if_neg ((AxisState.chops_iff _).mp h), hd]
    dsimp only
    rw [if_neg (by rw [not_or, not_lt, not_lt]; exact ⟨h0, h1⟩), State.calAnswer_motion]
    exact Vector.getElem_set_self ..
  rw [hx]
  exact ⟨rounded_near h0 _, rfl⟩

end Chop

/-- Settles O57: each procedure by the lemmas of its own section. -/
theorem calibrationsRunToTheirOneAnswer : Obligations.CalibrationsRunToTheirOneAnswer := by
  unfold Obligations.CalibrationsRunToTheirOneAnswer
  refine ⟨fun s c op p i hi hr => calibration_starts hr ?_, fun s => ⟨fun h _ => ⟨State.printFault_stopped h, State.printFault_stopped h⟩, fun e h => if_pos ?_,
    fun a h => if_pos ?_⟩, fun s c hr => ?_, fun s p => ⟨fun hq h => ?_, fun r hr hp => ?_⟩, fun s p m hq h => ?_, fun s h r hr => ?_, fun s r hr => ?_,
    fun s e r oS oC g ph ppm mdeg hr => ?_, fun s a r on1 off1 on2 off2 hr => ?_⟩
  · rcases hi with ⟨rfl, rfl, rfl⟩ | ⟨rfl, rfl, rfl⟩ | ⟨rfl, rfl, rfl⟩ | ⟨rfl, rfl, rfl⟩
    · rfl
    · rfl
    · rfl
    · rfl
  · rcases h with h | h
    · rw [bne_iff_ne.mpr h]
      rfl
    · rw [h, Bool.or_true]
  · rcases h with h | h | h
    · rw [h]
      rfl
    · rw [h, Bool.or_true, Bool.true_or]
    · rw [decide_eq_true h, Bool.or_true]
  · intro f
    have hh := s.start_health c
    refine ⟨fun h => command_replyAtStart (f := cmdCalCancel) rfl hr ?_, fun r h => command_replyAtStart (f := cmdCalCancel) rfl hr ?_⟩
    · unfold cmdCalCancel
      rw [hh, show s.health.runs.find? _ = none from h]
      rfl
    · unfold cmdCalCancel
      rw [hh, show s.health.runs.find? _ = some r from h]
      rfl
  · refine Eq.trans (b := execCalTimeout p s) rfl ?_
    unfold execCalTimeout
    cases hr : s.health.run p with
    | none => exact s.done_quiet hq
    | some r =>
      have hp : 2 < p.num := h.resolve_left (by rw [hr]; exact Option.some_ne_none r)
      exact (if_neg (Nat.not_le.mpr hp)).trans (s.done_quiet hq)
  · refine Eq.trans (b := execCalTimeout p s) rfl ?_
    unfold execCalTimeout
    rw [hr]
    exact if_pos hp
  · refine Eq.trans (b := execCalProcedureEnd p m s) rfl ?_
    unfold execCalProcedureEnd
    rw [h]
    exact s.done_quiet hq
  · intro go
    obtain ⟨h1, h2, h3⟩ := calProcedureEnd_detects hr
    refine ⟨h1, h2, fun hd hf => ⟨_, h3 hd hf, ?_, ?_, fun q hq => ?_, fun i hi => ?_⟩⟩
    · rw [State.settle_print, State.endDetection_print]
    · rw [State.settle_health, State.endDetection_folds, State.calAnswer_health, (detectNozzles_upTo r h _ (Nat.le_refl _)).runs]
    · rw [State.settle_health, State.endDetection_folds, State.calAnswer_health]
      exact (detectNozzles_upTo r h _ (Nat.le_refl _)).others q hq
    · have hn : (s.endDetection r h).settle.health.ports[h].nozzles.getD i {} = (s.health.ports[h].nozzles.getD i {}).detected r ⟨h, i⟩ := by
        rw [State.settle_health, State.endDetection_folds, State.calAnswer_health]
        exact ((detectNozzles_upTo r h _ (Nat.le_refl _)).nozzles i hi).trans (if_pos hi)
      intro old new
      have hnew : new = old.detected r ⟨h, i⟩ := hn
      rw [hnew]
      exact NozzleRec.detected_spec old r ⟨h, i⟩
  · intro go fails
    obtain ⟨h1, h2, h3⟩ := calProcedureEnd_curves hr
    refine ⟨h1, h2, fun hd hf hm => (h3 hd hf).trans ?_, fun m hd hf hm => ?_⟩
    · unfold State.endDensity
      rw [hm]
    · intro cands seen
      refine ⟨fun hs => (h3 hd hf).trans (congrArg State.done (State.endDensity_few hm hs)), fun hs => ⟨_, h3 hd hf, ?_, ?_⟩⟩
      · rw [State.settle_print, State.endDensity_print]
      · rw [State.settle_mapper]
        exact State.endDensity_moves hm (HealthPart.run_proc hr) hs
  · intro k go signal fit
    have hx : go = .next (s.endTrim r e oS oC g ph ppm mdeg).settle := by
      refine Eq.trans (b := execCalProcedureEnd (.encTrim e) (.trim oS oC g ph ppm mdeg) s) rfl ?_
      unfold execCalProcedureEnd
      rw [hr]
      rfl
    refine ⟨fun h => hx.trans (congrArg State.done (State.endTrim_noSignal h)),
      fun h hf => hx.trans (congrArg State.done (State.endTrim_noFit h hf)), fun h hf => ⟨_, hx, ?_, ?_⟩⟩
    · rw [State.settle_print, State.endTrim_print]
    · rw [State.settle_enc]
      exact State.endTrim_writes h hf
  · intro x go ready d
    have hx : go = .next (s.endChop r a on1 off1 on2 off2).settle := by
      refine Eq.trans (b := execCalProcedureEnd (.chopper a) (.chops on1 off1 on2 off2) s) rfl ?_
      unfold execCalProcedureEnd
      rw [hr]
      rfl
    refine ⟨fun h => hx.trans (congrArg State.done (State.endChop_notReady h)),
      fun h hd => hx.trans (congrArg State.done (State.endChop_noFit h hd)), fun v h hd h0 h1 => ⟨_, hx, ?_, ?_⟩⟩
    · rw [State.settle_print, State.endChop_print]
    · rw [State.settle_motion]
      exact State.endChop_writes h hd h0 h1

end Sys2Proof.Machine
end

section
/-!
SUPPORT. Pair keys (R566), job slots (R570 to R573), and the LOG_EXPORT and LOG_RELEASE (R575, R578, R587).
-/

namespace Sys2Proof.Machine

variable {s : State} {c : Cmd}

/-! ### PAIR_KEY_ESTABLISH (R566) -/

theorem State.start_reaches (n : NodeNo) : (s.start c).fab.reaches n = s.fab.reaches n :=
  s.start_keeps c (fun t => t.fab.reaches n) (fun _ _ => rfl) (fun _ _ => rfl)

/-- The unit that may establish a pair key with a node: unit A, as its partner names it, in the state OWNED (R566 step 1). -/
def State.pairsWith (s : State) (n : NodeNo) : Prop :=
  s.pair.paired = true ∧ s.pair.unitB = false ∧ s.pair.partner = n ∧ s.sec.lifecycle = 2

theorem State.pairDenied_iff {n : NodeNo} : s.pairDenied n = true ↔ ¬s.pairsWith n := by
  unfold State.pairDenied State.pairsWith
  simp only [Bool.or_eq_true, bne_iff_ne, ne_eq, Bool.not_eq_true']
  rw [not_and_or, not_and_or, not_and_or, Bool.not_eq_true, Bool.not_eq_false, or_assoc, or_assoc]

theorem State.installPair_sec (k : BitVec 256) (id : BitVec 32) : (s.installPair k id).sec =
    { s.sec.restartLog with pair := some { pk := k, keyId := id, next := 1, bound := 1, highest := 0 }, pairLost := false } := State.raiseF_sec ..

/-- The node that a key exchange is to be made with. -/
def pairNode (c : Cmd) : NodeNo := BitVec.ofNat 12 (c.argBits 11 0)

theorem cmdPairKeyEstablish_denied (h : ¬s.pairsWith (pairNode c)) : cmdPairKeyEstablish c s = (s, resp .lifecycleDenied 1) :=
  if_pos (State.pairDenied_iff.mpr h)

/-- What a key exchange with a node that is reached may come to (R566, log 40). -/
structure State.KeyOutcome (s : State) (u : State) (st : Code) (r : Nat) : Prop where
  print : u.print = s.print
  failed : st = .sessionFail → u.sec = s.sec ∧ (r = 6 ∨ r = 7)
  unreachable : st = .nodeUnreachable → u.sec = s.sec ∧ ∃ k, s.pair.rider = .node k ∧ s.fab.reaches k = false ∧ r = k.toNat
  installed : st ≠ .sessionFail → st ≠ .nodeUnreachable → st = .ok ∧ r = 0 ∧ u.sec.count = 0 ∧ u.sec.pairLost = false ∧
    ∃ k, u.sec.pair = some k ∧ k.next = 1 ∧ k.highest = 0

section Right

variable (h : s.pairsWith (pairNode c))
include h

theorem cmdPairKeyEstablish_unreachable (hn : s.fab.reaches (pairNode c) = false) :
    cmdPairKeyEstablish c s = (s, resp .nodeUnreachable (pairNode c).toNat) := by
  refine (if_neg (fun g => State.pairDenied_iff.mp g h)).trans (if_pos ?_)
  rw [show s.fab.reaches (BitVec.ofNat 12 (c.argBits 11 0)) = false from hn]
  rfl

/-- The nodes that RIDER names. -/
def State.riderNodes (s : State) : List NodeNo := match s.pair.rider with | .node k => [k] | _ => []

theorem cmdPairKeyEstablish_exchanges (hn : s.fab.reaches (pairNode c) = true) : ∃ (u : State) (st : Code) (r : Nat),
    cmdPairKeyEstablish c s = (u, resp st r) ∧ s.KeyOutcome u st r := by
  have hx : cmdPairKeyEstablish c s = if bitAt s.free 0 then (s.drew, resp .sessionFail 6)
      else if s.riderNodes.any (fun k => !s.fab.reaches k) then (s.drew, resp .nodeUnreachable ((s.riderNodes.map BitVec.toNat).sum))
      else if bitAt s.free 1 && !s.riderNodes.isEmpty then (s.drew, resp .sessionFail 7)
      else ((s.drew.drewN 5).installPair (BitVec.ofNat 256 (s.drew.freeWide 4)) (BitVec.ofNat 32 ((s.drew.drewN 4).free.toNat)), okResp) := by
    refine (if_neg (fun g => State.pairDenied_iff.mp g h)).trans (if_neg ?_)
    rw [show s.fab.reaches (BitVec.ofNat 12 (c.argBits 11 0)) = true from hn]
    exact Bool.false_ne_true
  by_cases h1 : bitAt s.free 0 = true
  · refine ⟨_, _, _, hx.trans (if_pos h1), rfl, fun _ => ⟨rfl, .inl rfl⟩, fun h => absurd h (by decide), fun h => absurd rfl h⟩
  by_cases h2 : s.riderNodes.any (fun k => !s.fab.reaches k) = true
  · refine ⟨_, _, _, hx.trans ((if_neg h1).trans (if_pos h2)), rfl, fun h => absurd h (by decide), fun _ => ⟨rfl, ?_⟩, fun _ h => absurd rfl h⟩
    unfold State.riderNodes at h2 ⊢
    cases hr : s.pair.rider with
    | node k =>
      rw [hr] at h2
      refine ⟨k, rfl, ?_, Nat.add_zero _⟩
      simpa using h2
    | _ =>
      rw [hr] at h2
      exact absurd h2 Bool.false_ne_true
  by_cases h3 : (bitAt s.free 1 && !s.riderNodes.isEmpty) = true
  · exact ⟨_, _, _, hx.trans ((if_neg h1).trans ((if_neg h2).trans (if_pos h3))), rfl, fun _ => ⟨rfl, .inr rfl⟩, fun h => absurd h (by decide), fun h => absurd rfl h⟩
  · refine ⟨_, .ok, 0, hx.trans ((if_neg h1).trans ((if_neg h2).trans (if_neg h3))), State.installPair_print .., fun h => absurd h (by decide), fun h => absurd h (by decide),
      fun _ _ => ⟨rfl, rfl, ?_⟩⟩
    rw [State.installPair_sec]
    exact ⟨rfl, rfl, _, rfl, rfl, rfl⟩

end Right

theorem pairKeyEstablish_answers (hr : Runs s 0xA3 false true c) :
    (¬s.pairsWith (pairNode c) → exec (.pairKeyEstablish c) s = .next ((s.start c).reply c 0xA3 .lifecycleDenied 1)) ∧
    (s.pairsWith (pairNode c) → s.fab.reaches (pairNode c) = false →
      exec (.pairKeyEstablish c) s = .next ((s.start c).reply c 0xA3 .nodeUnreachable (low40 (pairNode c).toNat))) ∧
    (s.pairsWith (pairNode c) → s.fab.reaches (pairNode c) = true → ∃ (u : State) (st : Code) (r : Nat),
      exec (.pairKeyEstablish c) s = .next (u.reply c 0xA3 st (low40 r)) ∧ s.KeyOutcome u st r) := by
  have hp : (s.start c).pairsWith (pairNode c) ↔ s.pairsWith (pairNode c) := by
    unfold State.pairsWith
    rw [s.start_pair c, s.start_sec c]
  have hn : (s.start c).fab.reaches (pairNode c) = s.fab.reaches (pairNode c) := State.start_reaches _
  refine ⟨fun h => command_replyAtStart (f := cmdPairKeyEstablish) rfl hr (cmdPairKeyEstablish_denied (mt hp.mp h)),
    fun h hf => command_replyAtStart (f := cmdPairKeyEstablish) rfl hr (cmdPairKeyEstablish_unreachable (hp.mpr h) (hn.trans hf)), fun h hf => ?_⟩
  obtain ⟨u, st, r, hu, h1, h2, h3, h4⟩ := cmdPairKeyEstablish_exchanges (hp.mpr h) (hn.trans hf)
  rw [s.start_sec c] at h2 h3
  refine ⟨u, st, r, command_replyAtStart (f := cmdPairKeyEstablish) rfl hr hu, h1.trans (s.start_print c), h2, fun hst => ?_, h4⟩
  obtain ⟨h5, k, h6, h7, h8⟩ := h3 hst
  exact ⟨h5, k, (congrArg PairPart.rider (s.start_pair c)).symm.trans h6, (State.start_reaches k).symm.trans h7, h8⟩

/-! ### SERIAL_JOB_OPEN and SERIAL_JOB_CLOSE (R570 to R573) -/

theorem State.unwrapJob_start : (s.start c).unwrapJob c = s.unwrapJob c := by
  unfold State.unwrapJob State.idBytes
  rw [s.start_sec c, s.start_fabId c]

/-- The job slot that a docket of SERIAL_JOB_OPEN names. -/
def jobSlot (c : Cmd) : Fin 16 := Fin.ofNat 16 (bits (c.dw 0) 3 0)

/-- The first serial number that a job opened takes: never one below the slot's next (R571). -/
def State.jobNext (s : State) (c : Cmd) : Nat := max (bits (c.dw 1) 47 0) s.sec.jobs[jobSlot c].next

/-- The job that a docket opens (R571). -/
def State.jobOpened (s : State) (c : Cmd) (key : BitVec 256) : Job :=
  { s.sec.jobs[jobSlot c] with
    isOpen := true, jobId := BitVec.ofNat 32 (bits (c.dw 0) 63 32), next := s.jobNext c
    reservedEnd := max s.sec.jobs[jobSlot c].reservedEnd (s.jobNext c), last := bits (c.dw 2) 47 0, key := some key
    lastLogged := (s.jobNext c : Int) - 1 }

section Open

theorem cmdSerialJobOpen_noNumber (h : bits (c.dw 2) 47 0 = 2 ^ 48 - 1) : cmdSerialJobOpen c s = (s, resp .argBad 0) := if_pos h

variable (hl : bits (c.dw 2) 47 0 ≠ 2 ^ 48 - 1)
include hl

theorem cmdSerialJobOpen_busy (h : s.sec.jobs[jobSlot c].isOpen = true) : cmdSerialJobOpen c s = (s, resp .slotBusy (jobSlot c).val) :=
  (if_neg hl).trans (if_pos h)

variable (hf : s.sec.jobs[jobSlot c].isOpen = false)
include hf

theorem cmdSerialJobOpen_empty (h : bits (c.dw 2) 47 0 < bits (c.dw 1) 47 0 ∨ bits (c.dw 2) 47 0 < s.jobNext c) :
    cmdSerialJobOpen c s = (s, resp .argBad 0) :=
  (if_neg hl).trans ((if_neg (fun g => absurd (hf.symm.trans g) Bool.false_ne_true)).trans (if_pos h))

variable (h1 : bits (c.dw 1) 47 0 ≤ bits (c.dw 2) 47 0) (h2 : s.jobNext c ≤ bits (c.dw 2) 47 0)
include h1 h2

theorem cmdSerialJobOpen_sound : cmdSerialJobOpen c s = if s.sec.keyLocked then (s, resp .sessionFail 5) else match s.unwrapJob c with
    | none => (s, resp .sessionFail 8)
    | some key => ({ s with sec := { s.sec with jobs := s.sec.jobs.set (jobSlot c) (s.jobOpened c key) } }, resp .ok (jobSlot c).val) :=
  (if_neg hl).trans ((if_neg (fun g => absurd (hf.symm.trans g) Bool.false_ne_true)).trans
    (if_neg (by rintro (h | h); exacts [absurd h (Nat.not_lt.mpr h1), absurd h (Nat.not_lt.mpr h2)])))

end Open

/-- The job slot that SERIAL_JOB_CLOSE names. -/
def closedSlot (c : Cmd) : Fin 16 := Fin.ofNat 16 (c.argBits 3 0)

theorem cmdSerialJobClose_idle (h : s.sec.jobs[closedSlot c].isOpen = false) :
    cmdSerialJobClose c s = (s, resp .slotIdle (closedSlot c).val) :=
  if_pos (by rw [show s.sec.jobs[(Fin.ofNat 16 (c.argBits 3 0) : Fin 16)].isOpen = false from h]; rfl)

section Close

variable (h : s.sec.jobs[closedSlot c].isOpen = true)
include h

theorem cmdSerialJobClose_open : cmdSerialJobClose c s =
    match s.print.queue.find? (fun q => q.desc.serialised && q.desc.slot == closedSlot c) with
    | some q => (s, resp .pageBusy (match s.store.page q.desc.id with | some e => e.state.code | none => PageState.committed.code))
    | none => (({ s with sec := { s.sec with jobs := upd s.sec.jobs (closedSlot c) (fun j => { j with isOpen := false, key := none }) } }).raiseF
        .serialJobEnd [fld 0 4 (closedSlot c).val, fld 4 2 2], okResp) :=
  if_neg (by rw [show s.sec.jobs[(Fin.ofNat 16 (c.argBits 3 0) : Fin 16)].isOpen = true from h]; exact Bool.false_ne_true)

theorem cmdSerialJobClose_queued {q : QEntry} (hq : s.print.queue.find? (fun q => q.desc.serialised && q.desc.slot == closedSlot c) = some q) :
    ∃ n, cmdSerialJobClose c s = (s, resp .pageBusy n) ∧ ∀ e, s.store.page q.desc.id = some e → n = e.state.code := by
  rw [cmdSerialJobClose_open h, hq]
  exact ⟨_, rfl, fun e he => by rw [he]⟩

theorem cmdSerialJobClose_closes (hq : s.print.queue.find? (fun q => q.desc.serialised && q.desc.slot == closedSlot c) = none) : ∃ u : State,
    cmdSerialJobClose c s = (u, okResp) ∧ u.sec.jobs = upd s.sec.jobs (closedSlot c) (fun j => { j with isOpen := false, key := none }) ∧
    u.print = s.print := by
  rw [cmdSerialJobClose_open h, hq]
  exact ⟨_, rfl, congrArg SecPart.jobs (State.raiseF_sec ..), State.raiseF_print ..⟩

end Close

theorem serialJobOpen_answers (hr : Runs s 0xA4 true true c) :
    let k := jobSlot c
    let no (st : Code) (n : Nat) : Prop := exec (.serialJobOpen c) s = .next ((s.start c).reply c 0xA4 st (low40 n))
    (bits (c.dw 2) 47 0 = 2 ^ 48 - 1 → no .argBad 0) ∧
    (bits (c.dw 2) 47 0 ≠ 2 ^ 48 - 1 →
      (s.sec.jobs[k].isOpen = true → no .slotBusy k.val) ∧
      (s.sec.jobs[k].isOpen = false → (bits (c.dw 2) 47 0 < bits (c.dw 1) 47 0 ∨ bits (c.dw 2) 47 0 < s.jobNext c) → no .argBad 0) ∧
      (s.sec.jobs[k].isOpen = false → bits (c.dw 1) 47 0 ≤ bits (c.dw 2) 47 0 → s.jobNext c ≤ bits (c.dw 2) 47 0 →
        (s.sec.keyLocked = true → no .sessionFail 5) ∧
        (s.sec.keyLocked = false → match s.unwrapJob c with
          | none => no .sessionFail 8
          | some key => ∃ u : State, exec (.serialJobOpen c) s = .next (u.reply c 0xA4 .ok (low40 k.val)) ∧ u.print = s.print ∧
              (∀ m : Fin 16, m ≠ k → u.sec.jobs[m] = s.sec.jobs[m]) ∧ u.sec.jobs[k] = s.jobOpened c key))) := by
  intro k no
  have hs := s.start_sec c
  have hj : (s.start c).sec.jobs[k] = s.sec.jobs[k] := congrArg (fun x : SecPart => x.jobs[k]) hs
  have hnext : (s.start c).jobNext c = s.jobNext c := congrArg (fun j : Job => max (bits (c.dw 1) 47 0) j.next) hj
  have hopened (key : BitVec 256) : (s.start c).jobOpened c key = s.jobOpened c key := by
    unfold State.jobOpened State.jobNext
    rw [hs]
  refine ⟨fun h => command_replyAtStart (f := cmdSerialJobOpen) rfl hr (cmdSerialJobOpen_noNumber h), fun hl => ⟨fun h => ?_, fun hf h => ?_, fun hf h1 h2 => ⟨fun hk => ?_, fun hk => ?_⟩⟩⟩
  · exact command_replyAtStart (f := cmdSerialJobOpen) rfl hr (cmdSerialJobOpen_busy hl (by rw [hs]; exact h))
  · exact command_replyAtStart (f := cmdSerialJobOpen) rfl hr (cmdSerialJobOpen_empty hl (by rw [hs]; exact hf) (by rw [hnext]; exact h))
  · refine command_replyAtStart (f := cmdSerialJobOpen) rfl hr ((cmdSerialJobOpen_sound hl (by rw [hs]; exact hf) h1 (by rw [hnext]; exact h2)).trans (if_pos ?_))
    rw [hs]
    exact hk
  · have hx := (cmdSerialJobOpen_sound hl (s := s.start c) (by rw [hs]; exact hf) h1 (by rw [hnext]; exact h2)).trans (if_neg (by rw [hs, hk]; exact Bool.false_ne_true))
    rw [State.unwrapJob_start] at hx
    cases hu : s.unwrapJob c with
    | none =>
      rw [hu] at hx
      exact command_replyAtStart (f := cmdSerialJobOpen) rfl hr hx
    | some key =>
      rw [hu] at hx
      refine ⟨_, command_replyAtStart (f := cmdSerialJobOpen) rfl hr hx, s.start_print c, fun m hm => ?_, ?_⟩
      · exact (Vector.getElem_set_ne k.isLt m.isLt (Fin.val_ne_of_ne hm.symm)).trans (congrArg (fun x : SecPart => x.jobs[m]) hs)
      · exact (Vector.getElem_set_self ..).trans (hopened key)

theorem serialJobClose_answers (hr : Runs s 0xA5 false true c) :
    let k := closedSlot c
    let f := s.print.queue.find? (fun q => q.desc.serialised && q.desc.slot == k)
    (s.sec.jobs[k].isOpen = false → exec (.serialJobClose c) s = .next ((s.start c).reply c 0xA5 .slotIdle (low40 k.val))) ∧
    (∀ q, s.sec.jobs[k].isOpen = true → f = some q → ∃ n, exec (.serialJobClose c) s =
      .next ((s.start c).reply c 0xA5 .pageBusy (low40 n)) ∧ (∀ e, s.store.page q.desc.id = some e → n = e.state.code)) ∧
    (s.sec.jobs[k].isOpen = true → f = none → ∃ u : State, exec (.serialJobClose c) s = .next (u.reply c 0xA5 .ok 0) ∧
      u.sec.jobs[k] = { s.sec.jobs[k] with isOpen := false, key := none } ∧ (∀ m : Fin 16, m ≠ k → u.sec.jobs[m] = s.sec.jobs[m]) ∧
      u.print = s.print) := by
  intro k f
  have hs := s.start_sec c
  refine ⟨fun h => command_replyAtStart (f := cmdSerialJobClose) rfl hr (cmdSerialJobClose_idle (by rw [hs]; exact h)), fun q h hq => ?_, fun h hq => ?_⟩
  · obtain ⟨n, hn, he⟩ := cmdSerialJobClose_queued (s := s.start c) (by rw [hs]; exact h) (by rw [s.start_print c]; exact hq)
    rw [s.start_store c] at he
    exact ⟨n, command_replyAtStart (f := cmdSerialJobClose) rfl hr hn, he⟩
  · obtain ⟨u, hu, hj, hp⟩ := cmdSerialJobClose_closes (s := s.start c) (by rw [hs]; exact h) (by rw [s.start_print c]; exact hq)
    rw [hs] at hj
    refine ⟨u, command_replyAtStart (f := cmdSerialJobClose) rfl hr hu, ?_, fun m hm => ?_, hp.trans (s.start_print c)⟩
    · rw [hj, upd_fin, if_pos rfl]
    · rw [hj, upd_fin, if_neg hm.symm]

/-! ### LOG_EXPORT and LOG_RELEASE (R578, R587) -/

/-- The line that LOG_EXPORT begins at: the oldest, or the first not yet exported (R578). -/
def SecPart.exportStart (x : SecPart) (c : Cmd) : Nat := if bitAt (c.dw 2) 0 then 0 else x.exported

/-- The blocks of a LOG_EXPORT that its buffer takes (R578). -/
def SecPart.exportFit (x : SecPart) (c : Cmd) : List (Nat × List Word) :=
  (x.exportBlocks (x.exportStart c)).take (fitting (bits (c.dw 1) 31 0) ((x.exportBlocks (x.exportStart c)).map (fun b => b.2)) 0).length

section Export

theorem cmdLogExport_small (hb : bufferBad (c.dw 0) (c.dw 1) = false) {b : Nat × List Word} {l : List (Nat × List Word)}
    (h : s.sec.exportBlocks (s.sec.exportStart c) = b :: l) (hf : s.sec.exportFit c = []) :
    cmdLogExport c s = (s, resp .bufferSmall (blockBytes b.2)) := by
  have hf' : (s.sec.exportBlocks (if bitAt (c.dw 2) 0 then 0 else s.sec.exported)).take (fitting (bits (c.dw 1) 31 0)
      ((s.sec.exportBlocks (if bitAt (c.dw 2) 0 then 0 else s.sec.exported)).map (fun b => b.2)) 0).length = [] := hf
  unfold cmdLogExport
  dsimp only
  rw [hb, if_neg Bool.false_ne_true, hf', show s.sec.exportBlocks (if bitAt (c.dw 2) 0 then 0 else s.sec.exported) = b :: l from h]

variable (hb : bufferBad (c.dw 0) (c.dw 1) = false) (h : s.sec.exportBlocks (s.sec.exportStart c) = [] ∨ s.sec.exportFit c ≠ [])
include hb h

theorem cmdLogExport_goes : cmdLogExport c s = if s.yields then
    ({ s with sec := { s.sec with exportCtx := some { cmd := c, start := s.sec.exportStart c, blocks := s.sec.exportFit c
                                                      held := exportTokens (s.sec.exportFit c), ring := [] } } }, none)
    else s.endExport c (s.sec.exportStart c) (s.sec.exportFit c) := by
  unfold cmdLogExport
  dsimp only
  rw [hb, if_neg Bool.false_ne_true]
  split
  next b l hbs hfit => exact h.elim (fun g => absurd (hbs.symm.trans g) (List.cons_ne_nil b l)) (fun g => absurd hfit g)
  next => rfl

end Export

/-- What a LOG_EXPORT of n lines leaves of the log (R578). -/
structure State.Exports (s : State) (start n : Nat) (u : State) : Prop where
  sec : u.sec = s.sec.markExport start n
  print : u.print = s.print

section EndExport

variable {start : Nat} {bs : List (Nat × List Word)}

theorem State.endExport_whole (hd : (s.exportReads start bs c.reads).2 = none) (hw : Writes c 0 (bs.flatMap (fun b => b.2))) : ∃ u : State,
    s.endExport c start bs = (u, resp .ok ((bs.map (fun b => b.1)).sum)) ∧ s.Exports start ((bs.map (fun b => b.1)).sum) u := by
  have hx : s.endExport c start bs = ({ (s.exportReads start bs c.reads).1.emit (.hostWrite (c.dw 0) (pad64 (bs.flatMap (fun b => b.2)))) with
      sec := (s.exportReads start bs c.reads).1.sec.markExport start ((bs.map (fun b => b.1)).sum) }, resp .ok ((bs.map (fun b => b.1)).sum)) := by
    unfold State.endExport
    dsimp only
    rw [hd]
    dsimp only
    rw [State.writeBlock_writes (i := 0) hw]
    rfl
  exact ⟨_, hx, congrArg (fun x : SecPart => x.markExport start _) (State.exportReads_sec ..), State.exportReads_print ..⟩

theorem State.endExport_lost {b : BitVec 30} {n : Nat} (hd : (s.exportReads start bs c.reads).2 = some (b, n))
    (hw : Writes c 0 ((bs.take n).flatMap (fun b => b.2))) : ∃ u : State,
    s.endExport c start bs = (u, resp .dramError (burstResult b)) ∧ s.Exports start (((bs.take n).map (fun b => b.1)).sum) u := by
  have hx : s.endExport c start bs = ({ (s.exportReads start bs c.reads).1.emit (.hostWrite (c.dw 0) (pad64 ((bs.take n).flatMap (fun b => b.2)))) with
      sec := (s.exportReads start bs c.reads).1.sec.markExport start (((bs.take n).map (fun b => b.1)).sum) }, resp .dramError (burstResult b)) := by
    unfold State.endExport
    dsimp only
    rw [hd]
    dsimp only
    rw [State.writeBlock_writes (i := 0) hw]
    rfl
  exact ⟨_, hx, congrArg (fun x : SecPart => x.markExport start _) (State.exportReads_sec ..), State.exportReads_print ..⟩

/-- Whatever a LOG_EXPORT comes to, it leaves the ring, the count and its context alone. -/
theorem State.endExport_ring : (s.endExport c start bs).1.sec.ring = s.sec.ring ∧ (s.endExport c start bs).1.sec.count = s.sec.count ∧
    (s.endExport c start bs).1.sec.exportCtx = s.sec.exportCtx := by
  have hs (ws : List Word) (n : Nat) : ((s.exportReads start bs c.reads).1.writeBlock c (c.dw 0) (c.dw 1) ws n).1.sec = s.sec :=
    (State.writeBlock_sec ..).trans (State.exportReads_sec ..)
  unfold State.endExport
  dsimp only
  split
  · split
    · dsimp only [SecPart.markExport]
      rw [hs]
      exact ⟨rfl, rfl, rfl⟩
    · dsimp only [SecPart.markExport]
      rw [hs]
      exact ⟨rfl, rfl, rfl⟩
  · rw [hs]
    exact ⟨rfl, rfl, rfl⟩

end EndExport

/-- The last token of a LOG_EXPORT written, the context is free (R129, R132). -/
theorem State.exportToken_last {x : ExportCtx} (hy : s.yields = false) (hx : s.sec.exportCtx = some x) (hl : x.held.length ≤ 1) :
    s.exportToken.sec.exportCtx = none ∧ s.exportToken.sec.ring = s.sec.ring ∧ s.exportToken.sec.count = s.sec.count := by
  have ht : s.exportToken = match (({ s with sec := { s.sec with exportCtx := none } } : State).endExport x.cmd x.start x.blocks).2 with
      | some (st, v) => (({ s with sec := { s.sec with exportCtx := none } } : State).endExport x.cmd x.start x.blocks).1.answer x.cmd 0xA6 st v
      | none => (({ s with sec := { s.sec with exportCtx := none } } : State).endExport x.cmd x.start x.blocks).1 := by
    unfold State.exportToken
    rw [hx]
    dsimp only
    rw [hy, if_neg Bool.false_ne_true]
    split
    next w y l he =>
      rw [he] at hl
      exact absurd hl (by simp)
    next => rfl
  obtain ⟨h1, h2, h3⟩ := State.endExport_ring (s := ({ s with sec := { s.sec with exportCtx := none } } : State)) (c := x.cmd) (start := x.start) (bs := x.blocks)
  rw [ht]
  split
  · rw [State.answer, State.respond_sec]
    exact ⟨h3, h1, h2⟩
  · exact ⟨h3, h1, h2⟩

theorem State.begun_export_yields : (s.begun 0xA6 c).yields = s.yields :=
  State.yields_congr (s.begun_cist c 0xA6) (s.begun_eng c 0xA6) (s.begun_store c 0xA6)

theorem logExport_answers (hr : Runs s 0xA6 true false c) (hn : s.sec.exportCtx = none) :
    let start := s.sec.exportStart c
    let bs := s.sec.exportBlocks start
    let fit := s.sec.exportFit c
    let ws := fit.flatMap (fun b => b.2)
    let lines := (fit.map (fun b => b.1)).sum
    (bufferBad (c.dw 0) (c.dw 1) = true → exec (.logExport c) s = .next ((s.begun 0xA6 c).reply c 0xA6 .argBad 0)) ∧
    (∀ b l, bufferBad (c.dw 0) (c.dw 1) = false → bs = b :: l → fit = [] →
      exec (.logExport c) s = .next ((s.begun 0xA6 c).reply c 0xA6 .bufferSmall (low40 (blockBytes b.2)))) ∧
    ((bs = [] ∨ fit ≠ []) → s.yields = true → bufferBad (c.dw 0) (c.dw 1) = false → ∃ t : State, exec (.logExport c) s = .next t ∧
      t.sec = { s.sec with exportCtx := some { cmd := c, start := start, blocks := fit, held := exportTokens fit, ring := [] } } ∧
      t.print = s.print) ∧
    ((bs = [] ∨ fit ≠ []) → s.yields = false → ((s.begun 0xA6 c).exportReads start fit c.reads).2 = none → Writes c 0 ws → ∃ u : State,
      exec (.logExport c) s = .next (u.reply c 0xA6 .ok (low40 lines)) ∧ s.Exports start lines u) ∧
    (∀ b n, (bs = [] ∨ fit ≠ []) → s.yields = false → ((s.begun 0xA6 c).exportReads start fit c.reads).2 = some (b, n) →
      Writes c 0 ((fit.take n).flatMap (fun b => b.2)) → ∃ u : State,
      exec (.logExport c) s = .next (u.reply c 0xA6 .dramError (burstResult b)) ∧ s.Exports start (((fit.take n).map (fun b => b.1)).sum) u) := by
  intro start bs fit ws lines
  have hs := s.begun_sec c 0xA6
  have hx : exec (.logExport c) s = (runCommand 0xA6 true false cmdLogExport c s).done := if_neg (by rw [hn]; exact Bool.false_ne_true)
  have hgo (hb : bufferBad (c.dw 0) (c.dw 1) = false) (h : bs = [] ∨ fit ≠ []) := cmdLogExport_goes (s := s.begun 0xA6 c) hb (by rw [hs]; exact h)
  rw [State.begun_export_yields, hs] at hgo
  have hmark {n : Nat} {u : State} (h : (s.begun 0xA6 c).Exports start n u) : s.Exports start n u :=
    ⟨h.sec.trans (by rw [hs]), h.print.trans (s.begun_print c 0xA6)⟩
  refine ⟨fun hb => hx.trans (command_reply s c hr (if_pos hb)), fun b l hb h hf => ?_, fun h hy hb => ?_, fun h hy hd hw => ?_, fun b n h hy hd hw => ?_⟩
  · exact hx.trans (command_reply s c hr (cmdLogExport_small hb (by rw [hs]; exact h) (by rw [hs]; exact hf)))
  · refine ⟨_, hx.trans (command_waits s c hr ((hgo hb h).trans (if_pos hy))), ?_, ?_⟩
    · rw [State.settle_sec]
    · rw [State.settle_print]
      exact s.begun_print c 0xA6
  · obtain ⟨u, hu, he⟩ := State.endExport_whole (s := s.begun 0xA6 c) (bs := fit) hd hw
    exact ⟨u, hx.trans (command_reply s c hr ((hgo hw.aligned h).trans ((if_neg (by rw [hy]; exact Bool.false_ne_true)).trans hu))), hmark he⟩
  · obtain ⟨u, hu, he⟩ := State.endExport_lost (s := s.begun 0xA6 c) (bs := fit) hd hw
    exact ⟨u, hx.trans (command_reply s c hr ((hgo hw.aligned h).trans ((if_neg (by rw [hy]; exact Bool.false_ne_true)).trans hu))), hmark he⟩

theorem State.logLowCheck_sec : ∃ b, s.logLowCheck.sec = { s.sec with logLow := b } := by
  unfold State.logLowCheck
  split
  · split
    next h => exact ⟨s.sec.logLow, rfl⟩
    next h => exact ⟨true, State.raiseF_sec ..⟩
  · exact ⟨false, rfl⟩

/-- The lines that a release frees: those of the LOG_EXPORT named and of all earlier ones (R578). -/
def SecPart.releasedLines (x : SecPart) (i : Nat) : Nat := ((x.exports.take (i + 1)).map (fun e => e.2)).foldl max 0

theorem cmdLogRelease_none (h : s.sec.exports.findIdx? (fun e => e.1 == c.argBits 31 0) = none) : cmdLogRelease c s = (s, resp .notFound 0) := by
  unfold cmdLogRelease
  rw [h]

theorem cmdLogRelease_frees {i : Nat} (h : s.sec.exports.findIdx? (fun e => e.1 == c.argBits 31 0) = some i) : ∃ u : State,
    cmdLogRelease c s = (u, okResp) ∧ u.sec.ring = s.sec.ring.drop (s.sec.releasedLines i) ∧
    u.sec.exported = s.sec.exported - s.sec.releasedLines i ∧ u.sec.count = s.sec.count ∧ u.sec.chainHash = s.sec.chainHash ∧ u.print = s.print := by
  obtain ⟨b, hb⟩ := State.logLowCheck_sec (s := { s with
    sec := ({ s.sec with exports := s.sec.exports.drop (i + 1) } : SecPart).releaseLines (s.sec.releasedLines i) })
  refine ⟨_, by unfold cmdLogRelease; rw [h], ?_⟩
  rw [State.logLowCheck_print]
  refine ⟨(congrArg SecPart.ring hb :), (congrArg SecPart.exported hb :), (congrArg SecPart.count hb :), (congrArg SecPart.chainHash hb :), rfl⟩

/-- Settles O59: keys, jobs and the log by the lemmas of their sections. -/
theorem keysJobsAndLogAreKept : Obligations.KeysJobsAndLogAreKept := by
  unfold Obligations.KeysJobsAndLogAreKept
  refine ⟨⟨fun s c hr => ?_, fun s c hr => serialJobOpen_answers hr, fun s c hr => serialJobClose_answers hr⟩,
    fun s c hq h => (if_pos h).trans (s.done_quiet hq), fun s c hr hn => ?_, fun s x hy hx hl => ?_, fun s c hr => ?_⟩
  · obtain ⟨h1, h2, h3⟩ := pairKeyEstablish_answers hr
    refine ⟨h1, h2, fun h hn => ?_⟩
    obtain ⟨u, st, r, hu, h4, h5, h6, h7⟩ := h3 h hn
    exact ⟨u, st, r, hu, h4, h5, h6, h7⟩
  · intro start bs fit ws lines
    obtain ⟨h1, h2, h3, h4, h5⟩ := logExport_answers hr hn
    refine ⟨h1, h2, h3, fun h hy hd hw => ?_, fun b n h hy hd _ hw => ?_⟩
    · obtain ⟨u, hu, hs, hp⟩ := h4 h hy hd hw
      refine ⟨u, hu, ?_⟩
      rw [hs]
      exact ⟨rfl, rfl, rfl, rfl, rfl, hp⟩
    · obtain ⟨u, hu, hs, hp⟩ := h5 b n h hy hd hw
      refine ⟨u, hu, ?_⟩
      rw [hs]
      exact ⟨rfl, rfl, hp⟩
  · obtain ⟨h1, h2, h3⟩ := State.exportToken_last hy hx hl
    refine ⟨_, rfl, ?_⟩
    rw [State.settle_sec, State.settle_print, State.exportToken_print]
    exact ⟨h1, h2, h3, rfl⟩
  · intro at_
    have hs := s.start_sec c
    refine ⟨fun h => command_replyAtStart (f := cmdLogRelease) rfl hr (cmdLogRelease_none (by rw [hs]; exact h)), fun i h => ?_⟩
    obtain ⟨u, hu, h1, h2, h3, h4, h5⟩ := cmdLogRelease_frees (s := s.start c) (c := c) (i := i) (by rw [hs]; exact h)
    rw [hs] at h1 h2 h3 h4
    exact ⟨u, command_replyAtStart (f := cmdLogRelease) rfl hr hu, h1, h2, h3, h4, h5.trans (s.start_print c)⟩

end Sys2Proof.Machine
end

section
/-!
SUPPORT. FW_ACTIVATE (R560), LIFECYCLE_SET, DEBUG_UNLOCK and PROVISION (R553 to R555, R581).
-/

namespace Sys2Proof.Machine

variable {s : State} {c : Cmd}

/-! ### FW_ACTIVATE (R560) -/

theorem cmdFwActivate_printing (h : s.print.started = true) : cmdFwActivate c s = (s, resp .printActive 0) := if_pos h

section Activate

variable (h : s.print.started = false)
include h

theorem cmdFwActivate_notStaged (hp : ∀ p ws, s.store.staged = some (p, ws) → p ≠ c.arg32) :
    cmdFwActivate c s = (s, resp .fwRejected (c.arg32.toNat + fld 32 4 5)) := by
  unfold cmdFwActivate
  dsimp only
  rw [if_neg (by rw [h]; exact Bool.false_ne_true)]
  cases hs : s.store.staged with
  | none => rfl
  | some p => exact if_pos (hp p.1 p.2 hs)

/-- A staged image is written to the flash and preferred, or rejected (R560, log 42). -/
theorem cmdFwActivate_staged {ws : List Word} (hs : s.store.staged = some (c.arg32, ws)) : cmdFwActivate c s =
    if bitAt s.free 0 || (s.sec.imageReason ws).isSome then (s.drew, resp .fwRejected (c.arg32.toNat + fld 32 4 6))
    else ({ s.drew.emit (.flashWrite (!s.sec.preferred) ws) with
      sec := { s.sec with preferred := !s.sec.preferred }, sys := { s.sys with restart := true } }, okResp) := by
  unfold cmdFwActivate
  dsimp only
  rw [if_neg (by rw [h]; exact Bool.false_ne_true), hs]
  exact if_neg (fun g => g rfl)

end Activate

/-! ### The end of every session (R554, R564, R581) -/

theorem State.endSessions_sec : ∃ v, s.endSessions.sec = { s.sec with sessions := v } ∧ ∀ n : Chan, v[n] = none := by
  have hk (l : List Chan) (t : State) : ∃ v, (l.foldl (fun (t : State) n => t.endSession n) t).sec = { t.sec with sessions := v } ∧
      ∀ n : Chan, (n ∈ l ∨ t.sec.sessions[n] = none) → v[n] = none := by
    induction l generalizing t with
    | nil => exact ⟨t.sec.sessions, rfl, fun n h => h.resolve_left List.not_mem_nil⟩
    | cons k l ih =>
      obtain ⟨v, hv, hn⟩ := ih (t.endSession k)
      rw [State.endSession_sec] at hv hn
      refine ⟨v, hv, fun n h => hn n ?_⟩
      by_cases hnk : n = k
      · subst hnk
        exact .inr (Vector.getElem_set_self ..)
      · rcases h with h | h
        · exact .inl ((List.mem_cons.mp h).resolve_left hnk)
        · exact .inr ((Vector.getElem_set_ne k.isLt n.isLt (Fin.val_ne_of_ne (Ne.symm hnk))).trans h)
  obtain ⟨v, hv, hn⟩ := hk (List.finRange 8) s
  exact ⟨v, hv, fun n => hn n (.inl (List.mem_finRange n))⟩

/-- A waiting SESSION_OPEN opens no session outside OWNED or while the key region is locked (R553, R581). -/
theorem State.serveOpen_denied (h : s.sec.lifecycle ≠ 2 ∨ s.sec.keyLocked = true) (w : Chan × Cmd) :
    ∃ l, (s.serveOpen w).sec = { s.sec with openWaits := l } := by
  unfold State.serveOpen
  by_cases hb : s.channelBusy w.1 = true
  · rw [if_pos hb]
    exact ⟨s.sec.openWaits, rfl⟩
  · rw [if_neg hb]
    dsimp only
    have hr : ∃ n, ({ s with sec := { s.sec with openWaits := s.sec.openWaits.erase w } } : State).sessionReason w.2 w.1 = some n := by
      unfold State.sessionReason
      by_cases hl : s.sec.lifecycle ≠ 2
      · exact ⟨1, if_pos hl⟩
      · exact ⟨5, (if_neg hl).trans (if_pos (h.resolve_left hl))⟩
    obtain ⟨n, hn⟩ := hr
    rw [hn]
    exact ⟨_, State.respond_sec ..⟩

theorem State.serveOpens_denied (h : s.sec.lifecycle ≠ 2 ∨ s.sec.keyLocked = true) : ∃ l, s.serveOpens.sec = { s.sec with openWaits := l } := by
  refine foldl_keeps (fun t : State => ∃ l, t.sec = { s.sec with openWaits := l }) _ (fun t w ⟨l, hl⟩ => ?_) _ _ ⟨s.sec.openWaits, rfl⟩
  obtain ⟨l', hl'⟩ := State.serveOpen_denied (s := t) (by rw [hl]; exact h) w
  rw [hl] at hl'
  exact ⟨l', hl'⟩

/-! ### LIFECYCLE_SET and DEBUG_UNLOCK (R554, R581) -/

/-- What entry to RETURNED leaves of the secrets (R554). -/
theorem State.enterReturned_sec : ∃ v l, s.enterReturned.sec = { s.sec with
    lifecycle := 3, pair := none, ownerHash := none, ownerKey := none, jobs := s.sec.jobs.map (fun (j : Job) => { j with key := none })
    sessions := v, openWaits := l } ∧ ∀ n : Chan, v[n] = none := by
  obtain ⟨v, hv, hn⟩ := State.endSessions_sec (s := { s with sec := { s.sec with
    lifecycle := 3, pair := none, ownerHash := none, ownerKey := none, jobs := s.sec.jobs.map (fun (j : Job) => { j with key := none }) } })
  obtain ⟨l, hl⟩ := State.serveOpens_denied (s := (({ s with sec := { s.sec with
    lifecycle := 3, pair := none, ownerHash := none, ownerKey := none, jobs := s.sec.jobs.map (fun (j : Job) => { j with key := none }) } } : State).endSessions.raiseF
      .lifecycleChanged [3])) (.inl (by rw [State.raiseF_sec, hv]; dsimp only; decide))
  rw [State.raiseF_sec, hv] at hl
  exact ⟨v, l, hl, hn⟩

theorem State.enterReturned_print : s.enterReturned.print = s.print := by
  unfold State.enterReturned
  dsimp only
  rw [State.serveOpens_print, State.raiseF_print, State.endSessions_print]

/-- Debug enabled: the pair key is lost and the key region locked (R581). -/
def SecPart.unlocked (x : SecPart) : SecPart := { x with pairLost := true, keyLocked := true, debug := true }

/-- What DEBUG_UNLOCK leaves of the secrets (R581). -/
theorem cmdDebugUnlock_unlocks (h : s.print.started = false) : ∃ (u : State) (v : Vector (Option Session) 8) (l : List (Chan × Cmd)),
    cmdDebugUnlock c s = (u, okResp) ∧ u.sec = { ({ s.sec with sessions := v } : SecPart).unlocked with openWaits := l } ∧
    (∀ n : Chan, v[n] = none) ∧ u.print = s.print := by
  obtain ⟨v, hv, hn⟩ := State.endSessions_sec (s := s)
  generalize hu : ({ s.endSessions with sec := s.endSessions.sec.unlocked } : State).raise .debugUnlocked 0 = u
  have hus : u.sec = ({ s.sec with sessions := v } : SecPart).unlocked := by
    rw [← hu, State.raise_sec, hv]
  have hup : u.print = s.print := by
    rw [← hu, State.raise_print]
    dsimp only
    rw [State.endSessions_print]
  have hx : cmdDebugUnlock c s = (u.serveOpens, okResp) := by
    rw [← hu]
    exact if_neg (by rw [h]; exact Bool.false_ne_true)
  obtain ⟨l, hl⟩ := State.serveOpens_denied (s := u) (.inr (by rw [hus]; rfl))
  rw [hus] at hl
  exact ⟨_, v, l, hx, hl, hn, (State.serveOpens_print u).trans hup⟩

/-! ### PROVISION (R555) -/

theorem cmdProvision_reserved (h : bits (c.dw 0) 1 0 = 0) : cmdProvision c s = (s, resp .argBad 0) := by
  unfold cmdProvision
  rw [h]
  rfl

theorem cmdProvision_generate (h : bits (c.dw 0) 1 0 = 1) : cmdProvision c s = s.generateKey c := by
  unfold cmdProvision
  rw [h]
  rfl

theorem cmdProvision_certify (h : bits (c.dw 0) 1 0 = 2) : cmdProvision c s = s.certify c := by
  unfold cmdProvision
  rw [h]
  rfl

theorem cmdProvision_owner (h : bits (c.dw 0) 1 0 = 3) : cmdProvision c s = s.setOwner c := by
  unfold cmdProvision
  rw [h]
  rfl

section Reason

variable {right cert : Bool}

theorem State.provisionReason_state (h : right = false) : s.provisionReason right cert = some 1 := if_pos (by rw [h]; rfl)

theorem State.provisionReason_cert (h : right = true) (hc : cert = false) : s.provisionReason right cert = some 2 :=
  (if_neg (by rw [h]; exact Bool.false_ne_true)).trans (if_pos (by rw [hc]; rfl))

variable (h : right = true) (hc : cert = true)
include h hc

theorem State.provisionReason_sound : s.provisionReason right cert =
    if s.print.started then some 3 else if s.sec.keyLocked then some 4 else none :=
  (if_neg (by rw [h]; exact Bool.false_ne_true)).trans (if_neg (by rw [hc]; exact Bool.false_ne_true))

theorem State.provisionReason_printing (hp : s.print.started = true) : s.provisionReason right cert = some 3 :=
  (State.provisionReason_sound h hc).trans (if_pos hp)

theorem State.provisionReason_locked (hp : s.print.started = false) (hk : s.sec.keyLocked = true) : s.provisionReason right cert = some 4 :=
  (State.provisionReason_sound h hc).trans ((if_neg (by rw [hp]; exact Bool.false_ne_true)).trans (if_pos hk))

theorem State.provisionReason_free (hp : s.print.started = false) (hk : s.sec.keyLocked = false) : s.provisionReason right cert = none :=
  (State.provisionReason_sound h hc).trans ((if_neg (by rw [hp]; exact Bool.false_ne_true)).trans (if_neg (by rw [hk]; exact Bool.false_ne_true)))

end Reason

/-- The state in which GENERATE is right (R555). -/
def State.generates (s : State) : Bool := s.sec.lifecycle == 0 && s.sec.identity.isNone

theorem State.generateKey_refused (hb : bufferBad (c.dw 1) (c.dw 2) = false) {n : Nat} (h : s.provisionReason s.generates true = some n) :
    s.generateKey c = (s, resp .lifecycleDenied n) := by
  have h' : s.provisionReason (s.sec.lifecycle == 0 && s.sec.identity.isNone) true = some n := h
  unfold State.generateKey
  rw [hb, if_neg Bool.false_ne_true, h']

theorem State.generateKey_generates (hb : bufferBad (c.dw 1) (c.dw 2) = false) (h : s.provisionReason s.generates true = none)
    (hw : c.writeFail = none) (hl : 192 ≤ bits (c.dw 2) 31 0) : ∃ (u : State) (k : BitVec 384), s.generateKey c = (u, okResp) ∧
    u.sec = { s.sec with identity := some k } ∧ u.print = s.print := by
  have h' : s.provisionReason (s.sec.lifecycle == 0 && s.sec.identity.isNone) true = none := h
  have hfit (a b : BitVec 768) : blockBytes (words768 a ++ words768 b) ≤ bits (c.dw 2) 31 0 := by
    have h24 : (words768 a ++ words768 b).length = 24 := by rw [List.length_append, words768_length, words768_length]
    unfold blockBytes pad64
    rw [List.length_append, List.length_replicate, h24]
    exact hl
  have hx : s.generateKey c = ({ (s.drewN 6).emit (.hostWrite (c.dw 1) (pad64 (words768 (Config.publicKey (BitVec.ofNat 384 (s.freeWide 6))) ++
      words768 (Config.ecdsaSign (BitVec.ofNat 384 (s.freeWide 6)) (Config.sha384 s.idBytes))))) with
      sec := { (s.drewN 6).sec with identity := some (BitVec.ofNat 384 (s.freeWide 6)) } }, okResp) := by
    unfold State.generateKey
    rw [hb, if_neg Bool.false_ne_true, h']
    dsimp only
    rw [State.writeBlock_fits (s.drewN 6) hw (hfit _ _)]
    rfl
  exact ⟨_, BitVec.ofNat 384 (s.freeWide 6), hx, rfl, rfl⟩

section Certify

/-- The state in which CERTIFY is right (R555). -/
def State.certifies (s : State) : Bool := s.sec.lifecycle == 0 && s.sec.identity.isSome

/-- The certificate chain that CERTIFY brings. -/
def certChain (c : Cmd) : List Byte := (bytesOf (c.table 0)).take (c.dw 2).toNat

/-- The chain certifies the device's key (R555). -/
def State.chainHolds (s : State) (c : Cmd) : Bool :=
  Config.chainValid s.sec.caKey (certChain c) (Config.publicKey (s.sec.identity.getD 0)) s.fab.id

variable (ha : bits (c.dw 1) 5 0 = 0) (hn : (c.dw 2).toNat ≤ 8192)
include ha hn

theorem State.certify_eq : s.certify c = match s.provisionReason s.certifies (s.chainHolds c) with
    | some r => (s, resp .lifecycleDenied r)
    | none => ({ s with sec := { s.sec with lifecycle := 1, chain := certChain c } }, okResp) :=
  if_neg (by rintro (h | h); exacts [h ha, absurd h (Nat.not_lt.mpr hn)])

theorem State.certify_refused {n : Nat} (h : s.provisionReason s.certifies (s.chainHolds c) = some n) :
    s.certify c = (s, resp .lifecycleDenied n) := by
  rw [State.certify_eq ha hn, h]

theorem State.certify_certifies (h : s.provisionReason s.certifies (s.chainHolds c) = none) :
    s.certify c = ({ s with sec := { s.sec with lifecycle := 1, chain := certChain c } }, okResp) := by
  rw [State.certify_eq ha hn, h]

end Certify

theorem State.setOwner_refused {n : Nat} (h : s.provisionReason (s.sec.lifecycle == 1) true = some n) :
    s.setOwner c = (s, resp .lifecycleDenied n) := by
  unfold State.setOwner
  rw [h]

theorem State.setOwner_sets (h : s.provisionReason (s.sec.lifecycle == 1) true = none) : s.setOwner c =
    ({ s with sec := { s.sec.restartLog with lifecycle := 2, ownerHash := some (shaWords (slice c.docket 1 12)), ownerKey := some (big768 (slice c.docket 1 12)) } },
      okResp) := by
  unfold State.setOwner
  rw [h]

theorem State.start_provisionReason (right cert : Bool) : (s.start c).provisionReason right cert = s.provisionReason right cert := by
  unfold State.provisionReason
  rw [s.start_print c, s.start_sec c]

theorem State.start_chainHolds : (s.start c).chainHolds c = s.chainHolds c := by
  unfold State.chainHolds
  rw [s.start_sec c, s.start_fabId c]

section Provision

variable (hr : Runs s 0xAB true false c)
include hr

/-- A step of PROVISION that printing, or the locked key region, refuses (R555, log 43). -/
theorem provision_busy {right cert : Bool} (h1 : right = true) (h2 : cert = true)
    (hf : ∀ n, s.provisionReason right cert = some n → cmdProvision c (s.start c) = (s.start c, resp .lifecycleDenied n)) :
    (s.print.started = true → exec (.provision c) s = .next ((s.start c).reply c 0xAB .lifecycleDenied (low40 3))) ∧
    (s.print.started = false → s.sec.keyLocked = true → exec (.provision c) s = .next ((s.start c).reply c 0xAB .lifecycleDenied (low40 4))) :=
  ⟨fun h => command_replyAtStart (f := cmdProvision) rfl hr (hf 3 (State.provisionReason_printing h1 h2 h)),
    fun h hk => command_replyAtStart (f := cmdProvision) rfl hr (hf 4 (State.provisionReason_locked h1 h2 h hk))⟩

end Provision

/-- Settles O60: each command by the lemmas of its section. -/
theorem lifecycleOnlyAdvancesByItsCommands : Obligations.LifecycleOnlyAdvancesByItsCommands := by
  unfold Obligations.LifecycleOnlyAdvancesByItsCommands
  refine ⟨fun s c hr => ?_, fun s c hr => ?_, fun s c hr => ?_, fun s c hr => ?_⟩
  · intro no bad
    have hp := s.start_print c
    refine ⟨fun h => command_replyAtStart (f := cmdFwActivate) rfl hr (cmdFwActivate_printing (by rw [hp]; exact h)), fun h hn => ?_, fun ws h hs => ?_⟩
    · exact command_replyAtStart (f := cmdFwActivate) rfl hr (cmdFwActivate_notStaged (by rw [hp]; exact h) (by rw [s.start_store c]; exact hn))
    · have hx := cmdFwActivate_staged (s := s.start c) (c := c) (by rw [hp]; exact h) (ws := ws) (by rw [s.start_store c]; exact hs)
      rw [s.start_sec c, s.start_sys c] at hx
      by_cases hb : (bitAt (s.start c).free 0 || (s.sec.imageReason ws).isSome) = true
      · exact ⟨_, .fwRejected, bad 6, command_replyAtStart (f := cmdFwActivate) rfl hr (hx.trans (if_pos hb)), hp,
          fun _ => ⟨rfl, s.start_sec c, s.start_sys c⟩, fun g => absurd rfl g, fun _ => rfl⟩
      · refine ⟨_, .ok, 0, command_replyAtStart (f := cmdFwActivate) rfl hr (hx.trans (if_neg hb)), hp, fun g => absurd g (by decide),
          fun _ => ⟨rfl, rfl, rfl, rfl⟩, fun g => absurd (by rw [g, Bool.or_true]) hb⟩
  · have hs := s.start_sec c
    refine ⟨fun h => command_replyAtStart (f := cmdLifecycleSet) rfl hr (if_neg (by rw [hs]; exact h)), fun h hl => ?_⟩
    obtain ⟨v, l, hsec, hn⟩ := State.enterReturned_sec (s := s.start c)
    rw [hs] at hsec
    refine ⟨_, command_replyAtStart (f := cmdLifecycleSet) rfl hr (if_pos (by rw [hs]; exact ⟨h, hl⟩)), ?_⟩
    rw [hsec, State.enterReturned_print, s.start_print c]
    exact ⟨rfl, rfl, rfl, fun k => congrArg Job.key (Vector.getElem_map ..), hn, rfl, rfl, rfl, rfl⟩
  · refine ⟨fun h => command_replyAtStart (f := cmdDebugUnlock) rfl hr (if_pos (by rw [s.start_print c]; exact h)), fun h => ?_⟩
    obtain ⟨u, v, l, hu, hsec, hn, hp⟩ := cmdDebugUnlock_unlocks (s := s.start c) (c := c) (by rw [s.start_print c]; exact h)
    refine ⟨u, command_replyAtStart (f := cmdDebugUnlock) rfl hr hu, ?_⟩
    rw [hsec, hp, s.start_print c, s.start_sec c]
    exact ⟨rfl, rfl, rfl, hn, rfl, rfl, rfl⟩
  · intro step no busy free
    have hs := s.start_sec c
    refine ⟨fun h => command_replyAtStart (f := cmdProvision) rfl hr (cmdProvision_reserved h), fun h hb => ?_, fun h ha hn => ?_, fun h => ?_⟩
    · intro right
      have hgen : (s.start c).generates = s.generates := by
        unfold State.generates
        rw [hs]
      have hright : s.generates = true ↔ right := by
        unfold State.generates
        rw [Bool.and_eq_true, beq_iff_eq, Option.isNone_iff_eq_none]
      have hno {n : Nat} (g : s.provisionReason s.generates true = some n) : cmdProvision c (s.start c) = (s.start c, resp .lifecycleDenied n) :=
        (cmdProvision_generate h).trans (State.generateKey_refused hb (by rw [hgen, State.start_provisionReason]; exact g))
      refine ⟨fun g => ?_, fun g => provision_busy hr (hright.mpr g) rfl fun n => hno, fun g hf hw hl => ?_⟩
      · exact command_replyAtStart (f := cmdProvision) rfl hr (hno (State.provisionReason_state (Bool.eq_false_iff.mpr (mt hright.mp g))))
      · obtain ⟨u, k, hu, hsec, hp⟩ := State.generateKey_generates (s := s.start c) (c := c) hb (by
          rw [hgen, State.start_provisionReason]
          exact State.provisionReason_free (hright.mpr g) rfl hf.1 hf.2) hw hl
        rw [hs] at hsec
        exact ⟨u, k, command_replyAtStart (f := cmdProvision) rfl hr ((cmdProvision_generate h).trans hu), hsec, hp.trans (s.start_print c)⟩
    · intro chain
      have hcer : (s.start c).certifies = s.certifies := by
        unfold State.certifies
        rw [hs]
      have hno {n : Nat} (g : s.provisionReason s.certifies (s.chainHolds c) = some n) : cmdProvision c (s.start c) = (s.start c, resp .lifecycleDenied n) :=
        (cmdProvision_certify h).trans (State.certify_refused ha hn (by rw [hcer, State.start_chainHolds, State.start_provisionReason]; exact g))
      have hright : s.certifies = true ↔ s.sec.lifecycle = 0 ∧ s.sec.identity.isSome = true := by
        unfold State.certifies
        rw [Bool.and_eq_true, beq_iff_eq]
      refine ⟨fun g => ?_, fun k h0 hk => ?_⟩
      · exact command_replyAtStart (f := cmdProvision) rfl hr (hno (State.provisionReason_state (Bool.eq_false_iff.mpr (mt hright.mp g))))
      · have hc : s.certifies = true := hright.mpr ⟨h0, by rw [hk]; rfl⟩
        have hchain : s.chainHolds c = Config.chainValid s.sec.caKey chain (Config.publicKey k) s.fab.id := by
          unfold State.chainHolds
          rw [hk]
          rfl
        rw [← hchain]
        by_cases hv : s.chainHolds c = false
        · rw [if_pos hv]
          exact command_replyAtStart (f := cmdProvision) rfl hr (hno (State.provisionReason_cert hc hv))
        · rw [if_neg hv]
          have hv' : s.chainHolds c = true := Bool.not_eq_false _ |>.mp hv
          refine ⟨provision_busy hr hc hv' fun n => hno, fun hf => ?_⟩
          have hx := State.certify_certifies (s := s.start c) ha hn (by
            rw [hcer, State.start_chainHolds, State.start_provisionReason]
            exact State.provisionReason_free hc hv' hf.1 hf.2)
          exact ⟨_, command_replyAtStart (f := cmdProvision) rfl hr ((cmdProvision_certify h).trans hx), by rw [hs]; rfl, s.start_print c⟩
    · have hno {n : Nat} (g : s.provisionReason (s.sec.lifecycle == 1) true = some n) : cmdProvision c (s.start c) = (s.start c, resp .lifecycleDenied n) :=
        (cmdProvision_owner h).trans (State.setOwner_refused (by rw [hs, State.start_provisionReason]; exact g))
      refine ⟨fun g => ?_, fun g => provision_busy hr (beq_iff_eq.mpr g) rfl fun n => hno, fun g hf => ?_⟩
      · exact command_replyAtStart (f := cmdProvision) rfl hr (hno (State.provisionReason_state (beq_eq_false_iff_ne.mpr g)))
      · have hx := State.setOwner_sets (s := s.start c) (c := c) (by
          rw [hs, State.start_provisionReason]
          exact State.provisionReason_free (beq_iff_eq.mpr g) rfl hf.1 hf.2)
        refine ⟨_, command_replyAtStart (f := cmdProvision) rfl hr ((cmdProvision_owner h).trans hx), rfl, rfl, rfl, ?_, ?_, s.start_print c⟩
        · exact (congrArg SecPart.identity hs :)
        · exact (congrArg SecPart.svn hs :)

end Sys2Proof.Machine
end

section
/-!
SUPPORT. The preparation of pages (R56, R67, R133 step 1), the fetches and phases of a band (R118 to R121, R133 to R136), and the write stage of
the mapper (R176, R207).
-/

namespace Sys2Proof.Machine

variable {s : State}

/-! ### Contexts -/

theorem State.setCtx_same (fb : Bool) (f : PageCtx → PageCtx) : (s.setCtx fb f).eng.ctx fb = (s.eng.ctx fb).map f := by
  cases fb with
  | true => rfl
  | false => rfl

theorem State.setCtx_other (fb : Bool) (f : PageCtx → PageCtx) : (s.setCtx fb f).eng.ctx (!fb) = s.eng.ctx (!fb) := by
  cases fb with
  | true => rfl
  | false => rfl

theorem State.setCtx_engines (fb : Bool) (f : PageCtx → PageCtx) :
    (s.setCtx fb f).eng.engines = s.eng.engines ∧ (s.setCtx fb f).eng.density = s.eng.density := by
  cases fb with
  | true => exact ⟨rfl, rfl⟩
  | false => exact ⟨rfl, rfl⟩

/-- What a page fixes when its preparation begins, apart from what its reads of DRAM meet, and its bands (R133 step 1, R145). -/
def PageCtx.plan (c : PageCtx) : PageCtx := { c with next := Vector.replicate 16 0, bands := [], lost := [] }

/-- The plan of a context. -/
def EnginePart.planOf (e : EnginePart) (fb : Bool) : Option PageCtx := (e.ctx fb).map PageCtx.plan

theorem State.setCtx_planOf (fb fb' : Bool) {f : PageCtx → PageCtx} (h : ∀ c, (f c).plan = c.plan) :
    (s.setCtx fb f).eng.planOf fb' = s.eng.planOf fb' := by
  have hs : ((s.eng.ctx fb).map f).map PageCtx.plan = (s.eng.ctx fb).map PageCtx.plan := by
    rw [Option.map_map]
    exact congrArg (Option.map · (s.eng.ctx fb)) (funext h)
  unfold EnginePart.planOf
  by_cases hb : fb' = fb
  · subst hb
    rw [State.setCtx_same, hs]
  · rw [show fb' = !fb from Bool.eq_not_of_ne hb, State.setCtx_other]

/-! ### An idle engine starts a band (R133) -/

/-- An engine starts its next band of a context. -/
def State.startBand (s : State) (k : EngineNo) (fb : Bool) (c : PageCtx) : State :=
  let s1 := s.setCtx fb (fun x => { x.withBand c.next[k] with next := x.next.set k (c.next[k] + 1) })
  { s1 with eng := { s1.eng with engines := s1.eng.engines.set k { busy := some (fb, c.next[k]) } } }

theorem State.startEngine_starts (k : EngineNo) : s.startEngine k = s ∨ ∃ fb c, s.eng.ctx fb = some c ∧ s.startEngine k = s.startBand k fb c := by
  have hgo (fb : Bool) (c : PageCtx) (h : s.eng.ctx fb = some c) :
      (if (s.eng.kernelOf c.desc).isNone then s else s.startBand k fb c) = s ∨ ∃ fb' c', s.eng.ctx fb' = some c' ∧
        (if (s.eng.kernelOf c.desc).isNone then s else s.startBand k fb c) = s.startBand k fb' c' := by
    by_cases hk : (s.eng.kernelOf c.desc).isNone = true
    · exact .inl (if_pos hk)
    · exact .inr ⟨fb, c, h, if_neg hk⟩
  have hfall (d : PageCtx) (h : s.eng.fallbackCtx = some d) :
      (if d.next[k] < d.desc.bands then (if (s.eng.kernelOf d.desc).isNone then s else s.startBand k true d) else s) = s ∨ ∃ fb' c', s.eng.ctx fb' = some c' ∧
        (if d.next[k] < d.desc.bands then (if (s.eng.kernelOf d.desc).isNone then s else s.startBand k true d) else s) = s.startBand k fb' c' := by
    by_cases hn : d.next[k] < d.desc.bands
    · rw [if_pos hn]
      exact hgo true d h
    · exact .inl (if_neg hn)
  unfold State.startEngine
  by_cases hb : (s.eng.kernelFail.isSome || s.eng.engines[k].busy.isSome) = true
  · exact .inl (if_pos hb)
  rw [if_neg hb]
  cases hq : s.eng.queueCtx with
  | none =>
    cases hf : s.eng.fallbackCtx with
    | none => exact .inl rfl
    | some d => exact hfall d hf
  | some c =>
    dsimp only
    by_cases hn : c.next[k] < c.desc.bands
    · rw [if_pos hn]
      exact hgo false c hq
    · rw [if_neg hn]
      cases hf : s.eng.fallbackCtx with
      | none => exact .inl rfl
      | some d => exact hfall d hf

theorem PageCtx.withBand_plan (c : PageCtx) (i : Nat) (n : Vector Nat 16) : ({ c.withBand i with next := n } : PageCtx).plan = c.plan := by
  unfold PageCtx.withBand
  split
  · rfl
  · rfl

theorem State.startEngine_planOf (k : EngineNo) (fb : Bool) : (s.startEngine k).eng.planOf fb = s.eng.planOf fb := by
  rcases State.startEngine_starts (s := s) k with h | ⟨fb', c, -, h⟩
  · rw [h]
  · rw [h]
    exact State.setCtx_planOf fb' fb (fun x => x.withBand_plan _ _)

theorem State.startEngines_planOf (fb : Bool) : s.startEngines.eng.planOf fb = s.eng.planOf fb :=
  foldl_same (fun t : State => t.eng.planOf fb) _ (fun _ _ => State.startEngine_planOf ..) _ _

theorem State.loseObjects_planOf (fb fb' : Bool) (id : Option PageId) (o : ObjectRead) :
    (s.loseObjects fb id o).eng.planOf fb' = s.eng.planOf fb' := by
  unfold State.loseObjects
  split
  · rfl
  · dsimp only
    rw [State.setCtx_planOf, State.readBursts_eng, State.readBursts_eng]
    exact fun _ => rfl

/-! ### Preparation (R56, R67, R133 step 1) -/

theorem State.drawFor_plain {d : PageDesc} (h : d.serialised = false) (x : Option (BitVec 48 × BitVec 40)) : s.drawFor d x = (s, .none) :=
  if_pos (by rw [h]; rfl)

theorem State.rolloutStep_mapper (id : PageId) : (s.rolloutStep id).mapper.published = s.mapper.published ∧
    (s.rolloutStep id).mapper.forced = s.mapper.forced := by
  unfold State.rolloutStep
  split
  · exact ⟨rfl, rfl⟩
  · exact ⟨rfl, rfl⟩

/-- The state whose settings a queue page fixes, where no serial is drawn for it (R56, R195, R400). -/
def State.atPreparation (s : State) (q : QEntry) : State :=
  ((s.setQ q.desc.id (fun q => { q with held := none, serial := none })).applySyncs q.desc.id).rolloutStep q.desc.id

theorem State.atPreparation_store (q : QEntry) : (s.atPreparation q).store = s.store := by
  unfold State.atPreparation
  rw [State.rolloutStep_store, State.applySyncs_store, State.setQ_store]

theorem State.atPreparation_cam (q : QEntry) : (s.atPreparation q).cam = s.cam := by
  unfold State.atPreparation
  rw [State.rolloutStep_cam, State.applySyncs_cam, State.setQ_cam]

theorem State.atPreparation_eng (q : QEntry) : (s.atPreparation q).eng = s.eng := by
  unfold State.atPreparation
  rw [State.rolloutStep_eng, State.applySyncs_eng, State.setQ_eng]

theorem State.atPreparation_mapper (q : QEntry) : (s.atPreparation q).mapper.published = s.mapper.published ∧
    (s.atPreparation q).mapper.forced = s.mapper.forced := by
  unfold State.atPreparation
  rw [(State.rolloutStep_mapper _).1, (State.rolloutStep_mapper _).2, State.applySyncs_mapper, State.setQ_mapper]
  exact ⟨rfl, rfl⟩

/-- The entry of the page table of a queued page. -/
def State.preparedEntry (s : State) (q : QEntry) : PageEntry := (s.store.page q.desc.id).getD { desc := q.desc, state := .defined }

theorem State.prepareQueue_planOf {q : QEntry} {m : NozzleMap} (h : q.desc.serialised = false) :
    (s.prepareQueue q m).eng.planOf false = some ((s.atPreparation q).newCtx ((s.atPreparation q).preparedEntry q) m none).plan ∧
    (s.prepareQueue q m).eng.planOf true = s.eng.planOf true := by
  have hd (b : Bool) (id : PageId) (n : Nat) (t : State) : (if b = true then t.diverge id n else t).eng = t.eng := by
    cases b with
    | true => exact State.diverge_eng ..
    | false => rfl
  have hx (fb : Bool) : (s.prepareQueue q m).eng.planOf fb = ({ (s.atPreparation q).eng with
      queueCtx := some ((s.atPreparation q).newCtx ((s.atPreparation q).preparedEntry q) m none) } : EnginePart).planOf fb := by
    unfold State.prepareQueue
    rw [State.drawFor_plain h]
    dsimp only
    rw [State.startEngines_planOf, hd, State.sendFrom_eng]
    rfl
  refine ⟨(hx false).trans rfl, (hx true).trans ?_⟩
  exact (congrArg (fun e : EnginePart => e.planOf true) (State.atPreparation_eng q) :)

theorem State.prepareFallback_planOf {id : PageId} {rate : Nat} {e : PageEntry} {m : NozzleMap} (hf : s.print.fallback = some (id, rate))
    (hp : s.store.page id = some e) (h : e.desc.serialised = false) : (s.prepareFallback m).eng.planOf true = some (s.newCtx e m none).plan ∧
    (s.prepareFallback m).print = { s.print with fallbackSerial := none } := by
  unfold State.prepareFallback
  rw [hf]
  dsimp only
  rw [hp]
  dsimp only
  rw [State.drawFor_plain h]
  dsimp only
  rw [State.startEngines_planOf, State.startEngines_print]
  exact ⟨rfl, rfl⟩

theorem EnginePart.planOf_some {e : EnginePart} {fb : Bool} {x : PageCtx} (h : e.planOf fb = some x.plan) : ∃ c, e.ctx fb = some c ∧ c.plan = x.plan := by
  unfold EnginePart.planOf at h
  rwa [Option.map_eq_some_iff] at h

theorem pagePreparation_queue {q : QEntry} {m : NozzleMap} (hm : s.mapNext = some m) (hp : s.mayPrepareQueue = true) (hq : s.nextPage = some q)
    (hs : q.desc.serialised = false) (o : ObjectRead) : ∃ t : State, exec (.pagePreparation false o) s = .next t ∧ (∃ c, t.eng.queueCtx = some c ∧
      c.plan = ((s.atPreparation q).newCtx ((s.atPreparation q).preparedEntry q) m none).plan) ∧ t.eng.planOf true = s.eng.planOf true ∧
      t.sluice = s.sluice := by
  have hx : exec (.pagePreparation false o) s = .next ((s.prepareQueue q m).loseObjects false (some q.desc.id) o).settle := by
    refine Eq.trans (b := execPagePreparation false o s) rfl ?_
    unfold execPagePreparation
    rw [hm]
    dsimp only
    rw [if_neg Bool.false_ne_true, hp, hq]
    rfl
  obtain ⟨h1, h2⟩ := State.prepareQueue_planOf (s := s) (m := m) hs
  refine ⟨_, hx, ?_, ?_, ?_⟩
  · rw [State.settle_eng]
    exact EnginePart.planOf_some (fb := false) ((State.loseObjects_planOf ..).trans h1)
  · rw [State.settle_eng, State.loseObjects_planOf, h2]
  · rw [State.settle_sluice, State.loseObjects_sluice, State.prepareQueue_sluice]

theorem State.preparedEntry_desc (q : QEntry) :
    ((s.atPreparation q).preparedEntry q).desc = ((s.store.page q.desc.id).map (fun e => e.desc)).getD q.desc := by
  unfold State.preparedEntry
  rw [State.atPreparation_store]
  cases s.store.page q.desc.id with
  | none => rfl
  | some e => rfl

theorem pagePreparation_fallback {id : PageId} {rate : Nat} {e : PageEntry} {m : NozzleMap} (hm : s.mapNext = some m)
    (hp : s.mayPrepareFallback = true) (hf : s.print.fallback = some (id, rate)) (he : s.store.page id = some e) (hs : e.desc.serialised = false)
    (o : ObjectRead) : ∃ t : State, exec (.pagePreparation true o) s = .next t ∧ (∃ c, t.eng.fallbackCtx = some c ∧
      c.plan = (s.newCtx e m none).plan) ∧ t.print = { s.print with fallbackSerial := none } ∧ t.sluice = s.sluice := by
  have hx : exec (.pagePreparation true o) s =
      .next ((s.prepareFallback m).loseObjects true (s.print.fallback.map (fun f => f.1)) o).settle := by
    refine Eq.trans (b := execPagePreparation true o s) rfl ?_
    unfold execPagePreparation
    rw [hm]
    exact (if_pos rfl).trans (if_pos hp)
  obtain ⟨h1, h2⟩ := State.prepareFallback_planOf (m := m) hf he hs
  refine ⟨_, hx, ?_, ?_, ?_⟩
  · rw [State.settle_eng]
    exact EnginePart.planOf_some (fb := true) ((State.loseObjects_planOf ..).trans h1)
  · rw [State.settle_print, State.loseObjects_print, h2]
  · rw [State.settle_sluice, State.loseObjects_sluice, State.prepareFallback_sluice]

theorem execPagePreparation_waits (fb : Bool) (o : ObjectRead)
    (h : s.mapNext = none ∨ (fb = true ∧ s.mayPrepareFallback = false) ∨ (fb = false ∧ s.mayPrepareQueue = false)) :
    exec (.pagePreparation fb o) s = s.done := by
  refine Eq.trans (b := execPagePreparation fb o s) rfl ?_
  unfold execPagePreparation
  cases hm : s.mapNext with
  | none => rfl
  | some m =>
    rcases h with h | ⟨rfl, h⟩ | ⟨rfl, h⟩
    · exact absurd (hm.symm.trans h) (Option.some_ne_none m)
    · exact (if_pos rfl).trans (if_neg (by rw [h]; exact Bool.false_ne_true))
    · dsimp only
      rw [if_neg Bool.false_ne_true, h]

/-! ### Bands (R118 to R121, R133) -/

/-- The band of an index. -/
def PageCtx.band (c : PageCtx) (order : Nat) : Option BandWork := c.bands.find? (fun w => w.order == order)

theorem PageCtx.setBand_band (c : PageCtx) (order : Nat) {f : BandWork → BandWork} (h : ∀ w, (f w).order = w.order) :
    (c.setBand order f).band order = (c.band order).map f := by
  unfold PageCtx.band PageCtx.setBand
  dsimp only
  induction c.bands with
  | nil => rfl
  | cons w ws ih =>
    rw [List.map_cons]
    by_cases hw : (w.order == order) = true
    · rw [if_pos hw, List.find?_cons_of_pos (p := fun w : BandWork => w.order == order) hw,
        List.find?_cons_of_pos (p := fun w : BandWork => w.order == order) (by rw [h]; exact hw)]
      rfl
    · rw [if_neg hw, List.find?_cons_of_neg (p := fun w : BandWork => w.order == order) hw,
        List.find?_cons_of_neg (p := fun w : BandWork => w.order == order) hw, ih]

theorem PageCtx.withBand_band {c : PageCtx} {order : Nat} {w : BandWork} (h : c.band order = some w) (i : Nat) :
    (c.withBand i).band order = some w := by
  unfold PageCtx.withBand
  split
  · exact h
  · unfold PageCtx.band
    rw [List.find?_append, show c.bands.find? (fun w => w.order == order) = some w from h]
    rfl

/-- How a fetch stands in its band (R118, R119). -/
def fetchOf (k : EngineNo) (e : Nat × Bool × Nat × LayerDesc) (r : Except Nat (List Word)) : Fetch :=
  match r with
  | .ok ws => ⟨k, e.1, e.2.1, 0, ws⟩
  | .error n => ⟨k, e.1, e.2.1, n, []⟩

theorem PageCtx.addFetch_band {c : PageCtx} {order : Nat} {w : BandWork} (h : c.band order = some w) (k : EngineNo)
    (e : Nat × Bool × Nat × LayerDesc) (r : Except Nat (List Word)) :
    (c.addFetch k order e r).band order = some { w with fetches := w.fetches ++ [fetchOf k e r] } := by
  have hs := PageCtx.setBand_band c order (f := fun w => { w with fetches := w.fetches ++ [fetchOf k e r] }) (fun _ => rfl)
  rw [h] at hs
  cases r with
  | ok ws => exact hs
  | error n => exact hs

theorem PageCtx.addFetch_bad (c : PageCtx) (order : Nat) (k : EngineNo) (e : Nat × Bool × Nat × LayerDesc) (ws : List Word) :
    (c.addFetch k order e (.ok ws)).bad = c.bad := rfl

theorem PageCtx.planned_names {c : PageCtx} {layers : List Layer} {k : EngineNo} {order ref : Nat} {second : Bool} {e : Nat × Bool × Nat × LayerDesc}
    (h : c.planned layers k order ref second = some e) : e.1 = ref ∧ e.2.1 = second := by
  have hp := List.find?_some h
  rw [Bool.and_eq_true, beq_iff_eq, beq_iff_eq] at hp
  exact hp

theorem PageCtx.fetchResult_index (c : PageCtx) (layers : List Layer) (k : EngineNo) (e : Nat × Bool × Nat × LayerDesc) (b : Bool) :
    c.fetchResult layers k e true b = .error 10 := if_pos (Bool.or_true _)

section Fetch

variable {k : EngineNo} {ref : BitVec 9} {second : Bool} {rs : List BurstRead} {fb : Bool} {order : Nat} {c : PageCtx} {w : BandWork}
  {e : Nat × Bool × Nat × LayerDesc}

/-- What a fetch comes to, from the reads of its index entry and of its block (R118, R587). -/
def State.fetchOutcome (s : State) (c : PageCtx) (k : EngineNo) (e : Nat × Bool × Nat × LayerDesc) (rs : List BurstRead) : Except Nat (List Word) :=
  c.fetchResult s.store.layers k e (!(s.readBursts (s.fetchReads c k e rs).1).2.isEmpty)
    (!((s.readBursts (s.fetchReads c k e rs).1).1.readBursts (s.fetchReads c k e rs).2).2.isEmpty)

/-- The state once a fetch's reads are done: the block is read only where the index entry was (R95, R103). -/
def State.fetchRead (s : State) (c : PageCtx) (k : EngineNo) (e : Nat × Bool × Nat × LayerDesc) (rs : List BurstRead) : State :=
  let i := s.readBursts (s.fetchReads c k e rs).1
  if i.2.isEmpty then (i.1.readBursts (s.fetchReads c k e rs).2).1 else i.1

theorem execBlockFetchDone_ends (hb : s.eng.engines[k].busy = some (fb, order)) (hc : s.eng.ctx fb = some c)
    (hp : c.planned s.store.layers k order ref.toNat second = some e) (hw : c.band order = some w) (h1 : w.phase1[k] = none)
    (hn : w.fetches.any (fun f => f.seg == k && f.ref == e.1 && f.second == second) = false) : exec (.blockFetchDone k ref second rs) s =
      .next ((s.fetchRead c k e rs).setCtx fb (fun c' => c'.addFetch k order e (c'.fetchResult s.store.layers k e
        (!(s.readBursts (s.fetchReads c k e rs).1).2.isEmpty)
        (!(if (s.readBursts (s.fetchReads c k e rs).1).2.isEmpty then
          ((s.readBursts (s.fetchReads c k e rs).1).1.readBursts (s.fetchReads c k e rs).2).2 else []).isEmpty)))).settle := by
  refine Eq.trans (b := execBlockFetchDone k ref second rs s) rfl ?_
  unfold execBlockFetchDone
  rw [hb]
  dsimp only
  rw [hc]
  dsimp only
  rw [hp, show c.bands.find? (fun w => w.order == order) = some w from hw]
  dsimp only
  rw [if_neg (by rw [h1, hn]; exact Bool.false_ne_true)]
  unfold State.fetchRead
  by_cases hi : (s.readBursts (s.fetchReads c k e rs).1).2.isEmpty = true
  · simp only [if_pos hi]
    rfl
  · simp only [if_neg hi]
    rfl

theorem State.fetchOutcome_eq : c.fetchResult s.store.layers k e (!(s.readBursts (s.fetchReads c k e rs).1).2.isEmpty)
    (!(if (s.readBursts (s.fetchReads c k e rs).1).2.isEmpty then
      ((s.readBursts (s.fetchReads c k e rs).1).1.readBursts (s.fetchReads c k e rs).2).2 else []).isEmpty) = s.fetchOutcome c k e rs := by
  unfold State.fetchOutcome
  cases hi : (s.readBursts (s.fetchReads c k e rs).1).2.isEmpty with
  | true => rfl
  | false => exact (PageCtx.fetchResult_index ..).trans (PageCtx.fetchResult_index ..).symm

theorem State.fetchRead_eng : (s.fetchRead c k e rs).eng = s.eng := by
  unfold State.fetchRead
  dsimp only
  split
  · rw [State.readBursts_eng, State.readBursts_eng]
  · rw [State.readBursts_eng]

theorem State.fetchRead_print : (s.fetchRead c k e rs).print = s.print := by
  unfold State.fetchRead
  dsimp only
  split
  · rw [State.readBursts_print, State.readBursts_print]
  · rw [State.readBursts_print]

theorem State.fetchRead_nothing (h : s.fetchReads c k e rs = ([], [])) : s.fetchRead c k e rs = s := by
  unfold State.fetchRead
  rw [h]
  rfl

theorem fetchOf_reason (r : Except Nat (List Word)) : match r with
    | .ok ws => (fetchOf k e r).reason = 0 ∧ (fetchOf k e r).words = ws
    | .error n => (fetchOf k e r).reason = n ∧ (fetchOf k e r).words = [] := by
  cases r with
  | ok ws => exact ⟨rfl, rfl⟩
  | error n => exact ⟨rfl, rfl⟩

theorem blockFetchDone_ends (hb : s.eng.engines[k].busy = some (fb, order)) (hc : s.eng.ctx fb = some c)
    (hp : c.planned s.store.layers k order ref.toNat second = some e) (hw : c.band order = some w) (h1 : w.phase1[k] = none)
    (hn : w.fetches.any (fun f => f.seg == k && f.ref == e.1 && f.second == second) = false) : ∃ t : State,
    exec (.blockFetchDone k ref second rs) s = .next t ∧ t.eng.ctx fb = some (c.addFetch k order e (s.fetchOutcome c k e rs)) ∧
    (s.fetchReads c k e rs = ([], []) → t.dram = s.dram) ∧ t.eng.ctx (!fb) = s.eng.ctx (!fb) ∧ t.eng.engines = s.eng.engines ∧ t.print = s.print := by
  have he := State.fetchRead_eng (s := s) (c := c) (k := k) (e := e) (rs := rs)
  refine ⟨_, execBlockFetchDone_ends hb hc hp hw h1 hn, ?_, fun h => ?_, ?_, ?_, ?_⟩
  · rw [State.settle_eng, State.setCtx_same, he, hc, Option.map_some, State.fetchOutcome_eq]
  · rw [State.settle_dram, State.setCtx_dram, State.fetchRead_nothing h]
  · rw [State.settle_eng, State.setCtx_other, he]
  · rw [State.settle_eng, (State.setCtx_engines ..).1, he]
  · rw [State.settle_print, State.setCtx_print, State.fetchRead_print]

end Fetch

/-! ### The ends of the phases (R133, R134, R148, R150) -/

section Phase

variable {k : EngineNo} {sram : List (BitVec 16)} {fb : Bool} {order : Nat} {c : PageCtx} {w : BandWork}
  (hb : s.eng.engines[k].busy = some (fb, order)) (hc : s.eng.ctx fb = some c) (hw : c.band order = some w)
include hb hc hw

theorem execEngineEdgeExchange_eq : exec (.engineEdgeExchange ⟨k, sram⟩) s =
    if w.phase1[k].isSome || !c.fetchesDone s.store.layers k w then (s.sramCorrected k sram).done
    else ((s.sramCorrected k sram).setCtx fb (fun c' => c'.setBand order (fun w' =>
      { w' with phase1 := w'.phase1.set k (some (s.composePhase1 c' w' k.val)) }))).done := by
  refine Eq.trans (b := execEngineEdgeExchange ⟨k, sram⟩ s) rfl ?_
  unfold execEngineEdgeExchange
  dsimp only
  rw [show (s.sramCorrected k sram).eng = s.eng from rfl, hb]
  dsimp only
  rw [hc]
  dsimp only
  rw [show c.bands.find? (fun w => w.order == order) = some w from hw]
  rfl

/-- The band as its engine hands it over. -/
def BandWork.handed (w : BandWork) (k : EngineNo) (codes : List (List Nat)) : BandWork := { w with phase2 := w.phase2.set k (some codes) }

/-- The state in which an engine has handed over its band, before it starts the next (R133 steps 5 and 6). -/
def State.handedOver (s : State) (k : EngineNo) (sram : List (BitVec 16)) (fb : Bool) (order : Nat) (c : PageCtx) (codes : List (List Nat)) : State :=
  let s1 := ((s.sramCorrected k sram).setCtx fb (fun c' => c'.setBand order (fun w' => w'.handed k codes))).addDensity c k order codes
  { s1 with eng := { s1.eng with engines := s1.eng.engines.set k { busy := none } } }

theorem execEngineBandHandover_eq : exec (.engineBandHandover ⟨k, sram⟩) s =
    if w.phase2[k].isSome || !w.edgesIn k || !c.mapperFree order then (s.sramCorrected k sram).done
    else ((s.handedOver k sram fb order c (phase2Codes c (fun i => w.phase1.toList.getD i none) k.val)).startEngine k).done := by
  refine Eq.trans (b := execEngineBandHandover ⟨k, sram⟩ s) rfl ?_
  unfold execEngineBandHandover
  dsimp only
  rw [show (s.sramCorrected k sram).eng = s.eng from rfl, hb]
  dsimp only
  rw [hc]
  dsimp only
  rw [show c.bands.find? (fun w => w.order == order) = some w from hw]
  rfl

end Phase

/-- A context after an engine started one of its bands: what the band of an index is stands (R133). -/
theorem State.startBand_band {k : EngineNo} {fb : Bool} {order : Nat} {t : State} {x y : PageCtx} {fb' : Bool} {v : BandWork} (hx : t.eng.ctx fb = some x) (hv : x.band order = some v) :
    ∃ x', (t.startBand k fb' y).eng.ctx fb = some x' ∧ x'.band order = some v := by
  have hs : (t.startBand k fb' y).eng.ctx fb =
      (t.setCtx fb' (fun x => { x.withBand y.next[k] with next := x.next.set k (y.next[k] + 1) })).eng.ctx fb := rfl
  rw [hs]
  by_cases hf : fb = fb'
  · subst hf
    rw [State.setCtx_same, hx]
    exact ⟨_, rfl, PageCtx.withBand_band hv _⟩
  · rw [show fb = !fb' from Bool.eq_not_of_ne hf, State.setCtx_other, ← Bool.eq_not_of_ne hf, hx]
    exact ⟨x, rfl, hv⟩

theorem State.addDensity_ctx (c : PageCtx) (k : EngineNo) (order : Nat) (codes : List (List Nat)) (fb : Bool) :
    (s.addDensity c k order codes).eng.ctx fb = s.eng.ctx fb ∧ (s.addDensity c k order codes).eng.engines = s.eng.engines ∧
    (c.desc.inspect = false → (s.addDensity c k order codes).eng.density = s.eng.density) := by
  unfold State.addDensity
  by_cases h : c.desc.inspect = true
  · rw [if_pos h, State.wroteIn_eng]
    refine ⟨?_, rfl, fun g => absurd (g.symm.trans h) Bool.false_ne_true⟩
    cases fb with
    | true => rfl
    | false => rfl
  · rw [if_neg h]
    exact ⟨rfl, rfl, fun _ => rfl⟩

section HandedOver

variable {k : EngineNo} {sram : List (BitVec 16)} {fb : Bool} {order : Nat} {c : PageCtx} {w : BandWork} {codes : List (List Nat)}

theorem State.handedOver_ctx (hc : s.eng.ctx fb = some c) :
    (s.handedOver k sram fb order c codes).eng.ctx fb = some (c.setBand order (fun w' => w'.handed k codes)) := by
  refine Eq.trans (b := (((s.sramCorrected k sram).setCtx fb (fun c' => c'.setBand order (fun w' => w'.handed k codes))).addDensity c k order codes).eng.ctx fb) ?_ ?_
  · cases fb with
    | true => rfl
    | false => rfl
  · rw [(State.addDensity_ctx ..).1, State.setCtx_same, show (s.sramCorrected k sram).eng = s.eng from rfl, hc]
    rfl

theorem State.handedOver_engines : (s.handedOver k sram fb order c codes).eng.engines = s.eng.engines.set k { busy := none } := by
  refine congrArg (fun v : Vector Engine 16 => v.set k { busy := none }) ?_
  rw [(State.addDensity_ctx _ _ _ _ fb).2.1, (State.setCtx_engines ..).1]
  rfl

theorem State.handedOver_density (h : c.desc.inspect = false) : (s.handedOver k sram fb order c codes).eng.density = s.eng.density := by
  refine ((State.addDensity_ctx _ _ _ _ fb).2.2 h).trans ?_
  rw [(State.setCtx_engines ..).2]
  rfl

theorem State.handedOver_sys : (s.handedOver k sram fb order c codes).sys = (s.sramCorrected k sram).sys := by
  refine (State.addDensity_sys ..).trans ?_
  rw [State.setCtx_sys]

theorem State.handedOver_print : (s.handedOver k sram fb order c codes).print = s.print := by
  refine (State.addDensity_print ..).trans ?_
  rw [State.setCtx_print]
  rfl

end HandedOver

/-- What an idle engine that may start a band leaves of the other engines and of the density records. -/
theorem State.startEngine_others (k : EngineNo) : (∀ j : EngineNo, j ≠ k → (s.startEngine k).eng.engines[j] = s.eng.engines[j]) ∧
    (s.startEngine k).eng.density = s.eng.density := by
  rcases State.startEngine_starts (s := s) k with h | ⟨fb, c, -, h⟩
  · rw [h]
    exact ⟨fun _ _ => rfl, rfl⟩
  · rw [h]
    refine ⟨fun j hj => ?_, (State.setCtx_engines ..).2⟩
    refine (Vector.getElem_set_ne k.isLt j.isLt (Fin.val_ne_of_ne hj.symm)).trans ?_
    rw [(State.setCtx_engines ..).1]
    rfl

section Handover

variable {k : EngineNo} {sram : List (BitVec 16)} {fb : Bool} {order : Nat} {c : PageCtx} {w : BandWork}
  (hb : s.eng.engines[k].busy = some (fb, order)) (hc : s.eng.ctx fb = some c) (hw : c.band order = some w)
include hb hc hw

theorem engineBandHandover_hands (h2 : w.phase2[k] = none) (he : w.edgesIn k = true) (hm : c.mapperFree order = true) (hn : order < c.next[k]) :
    ∃ (t : State) (c' : PageCtx) (w' : BandWork),
      exec (.engineBandHandover ⟨k, sram⟩) s = .next t ∧ t.eng.ctx fb = some c' ∧ c'.band order = some w' ∧
      w'.phase2[k] = some (phase2Codes c (fun i => w.phase1.toList.getD i none) k.val) ∧ w'.phase1 = w.phase1 ∧
      t.eng.engines[k].busy ≠ some (fb, order) ∧ (∀ j : EngineNo, j ≠ k → t.eng.engines[j] = s.eng.engines[j] ∧ w'.phase2[j] = w.phase2[j]) ∧
      (c.desc.inspect = false → t.eng.density = s.eng.density) ∧ t.sys = (s.sramCorrected k sram).sys ∧ t.print = s.print := by
  have hx := execEngineBandHandover_eq (sram := sram) hb hc hw
  rw [if_neg (by rw [h2, he, hm]; exact Bool.false_ne_true)] at hx
  generalize hcodes : phase2Codes c (fun i => w.phase1.toList.getD i none) k.val = codes at hx
  generalize hu : s.handedOver k sram fb order c codes = u at hx
  have hctx : u.eng.ctx fb = some (c.setBand order (fun w' => w'.handed k codes)) := by
    rw [← hu]
    exact State.handedOver_ctx hc
  have hband : (c.setBand order (fun w' => w'.handed k codes)).band order = some (w.handed k codes) := by
    rw [PageCtx.setBand_band c order (f := fun w' => w'.handed k codes) (fun _ => rfl), hw]
    rfl
  have heng : u.eng.engines = s.eng.engines.set k { busy := none } := by
    rw [← hu]
    exact State.handedOver_engines
  obtain ⟨ho, hd⟩ := State.startEngine_others (s := u) k
  have hafter : (∃ c', (u.startEngine k).eng.ctx fb = some c' ∧ c'.band order = some (w.handed k codes)) ∧
      (u.startEngine k).eng.engines[k].busy ≠ some (fb, order) := by
    rcases State.startEngine_starts (s := u) k with h | ⟨fb', y, hy, h⟩
    · rw [h, heng]
      exact ⟨⟨_, hctx, hband⟩, by simp⟩
    · rw [h]
      refine ⟨State.startBand_band hctx hband, fun hbusy => ?_⟩
      have hs : (u.startBand k fb' y).eng.engines[k].busy = some (fb', y.next[k]) := congrArg Engine.busy (Vector.getElem_set_self ..)
      obtain ⟨rfl, hord⟩ := Prod.mk.inj (Option.some.inj (hs.symm.trans hbusy))
      obtain rfl := Option.some.inj (hctx.symm.trans hy)
      exact absurd hord (Nat.ne_of_gt hn)
  obtain ⟨⟨c', hc', hw'⟩, hbusy⟩ := hafter
  refine ⟨_, c', w.handed k codes, hx, ?_, hw', Vector.getElem_set_self .., rfl, ?_, fun j hj => ⟨?_, Vector.getElem_set_ne k.isLt j.isLt (Fin.val_ne_of_ne hj.symm)⟩,
    fun h => ?_, ?_, ?_⟩
  · rw [State.settle_eng]
    exact hc'
  · rw [State.settle_eng]
    exact hbusy
  · rw [State.settle_eng, ho j hj, heng]
    exact Vector.getElem_set_ne k.isLt j.isLt (Fin.val_ne_of_ne hj.symm)
  · rw [State.settle_eng, hd, ← hu, State.handedOver_density h]
  · rw [State.settle_sys, State.startEngine_sys, ← hu, State.handedOver_sys]
  · rw [State.settle_print, State.startEngine_print, ← hu, State.handedOver_print]

end Handover

/-! ### The write stage of the mapper (R176, R207) -/

theorem mapperWriteDone_writes {c : PageCtx} {w : BandWork} (hc : s.eng.queueCtx = some c) (hw : c.wholeBand = some w)
    (hf : s.slotFree false c w.order = true) : ∃ (t : State) (c' : PageCtx), exec .mapperWriteDone s = .next t ∧ t.eng.queueCtx = some c' ∧
      c'.bands = c.bands.filter (fun x => x.order != w.order) ∧ c'.cistern.getLast? = some (s.cisternBand c w) ∧
      t.eng.fallbackCtx = s.eng.fallbackCtx ∧ t.eng.engines = s.eng.engines ∧ t.print = s.print := by
  have hx : exec .mapperWriteDone s = .next (s.writeBand false c w).settle := by
    refine Eq.trans (b := execMapperWriteDone s) rfl ?_
    unfold execMapperWriteDone
    dsimp only
    rw [show s.eng.ctx false = some c from hc]
    dsimp only
    rw [hw]
    dsimp only
    rw [if_pos hf]
    rfl
  refine ⟨_, { c with
    bands := c.bands.filter (fun x => x.order != w.order)
    cistern := (c.cistern.filter (fun b => decide ((match s.drainBand false c with | some d => d - 1 | none => 0) ≤ b.order))) ++ [s.cisternBand c w]
    lowLead := false, goodLead := true }, hx, ?_, rfl, List.getLast?_concat, ?_, ?_, ?_⟩
  · rw [State.settle_eng]
    unfold State.writeBand
    dsimp only
    rw [State.shortfall_eng]
    refine (State.setCtx_same (s := s) false _).trans ?_
    rw [show s.eng.ctx false = some c from hc]
    rfl
  · rw [State.settle_eng]
    unfold State.writeBand
    dsimp only
    rw [State.shortfall_eng]
    rfl
  · rw [State.settle_eng]
    unfold State.writeBand
    dsimp only
    rw [State.shortfall_eng]
    rfl
  · rw [State.settle_print, State.writeBand_print]

/-- Settles O30: a preparation by the plan of its context, each step of a band by the lemma about its command. -/
theorem pagesArePreparedBandByBand : Obligations.PagesArePreparedBandByBand := by
  unfold Obligations.PagesArePreparedBandByBand
  refine ⟨⟨fun s q m hm hp hq hs o => ?_, fun s id rate e m hm hp hf he hs o => ?_, fun s fb o hq h => (execPagePreparation_waits fb o h).trans (s.done_quiet hq)⟩,
    fun s k ref second rs fb order c w e hb hc hp hw h1 hn => ?_, fun s k sram fb order c w hb hc hw => ?_, fun s c w hc hw hf => mapperWriteDone_writes hc hw hf⟩
  · obtain ⟨t, ht, ⟨c, hc, hplan⟩, hfall, hsl⟩ := pagePreparation_queue hm hp hq hs o
    obtain ⟨hpub, hforced⟩ := State.atPreparation_mapper (s := s) q
    have hst := State.atPreparation_store (s := s) q
    have hcam := State.atPreparation_cam (s := s) q
    refine ⟨t, ht, ⟨c, hc, (congrArg PageCtx.desc hplan :).trans (State.preparedEntry_desc q), (congrArg PageCtx.map hplan :), (congrArg PageCtx.fresh hplan :).trans ?_,
      (congrArg PageCtx.forced hplan :).trans hforced, (congrArg PageCtx.arrays hplan :).trans ?_, (congrArg PageCtx.sets hplan :).trans ?_,
      (congrArg PageCtx.gp hplan :).trans ?_, (congrArg PageCtx.gl hplan :).trans ?_, (congrArg PageCtx.cistern hplan :)⟩, ?_, hsl⟩
    · exact congrArg Option.isSome hpub
    · exact congrArg StorePart.arrays hst
    · exact congrArg StorePart.sets hst
    · exact congrArg CamPart.gp hcam
    · exact congrArg CamPart.gl hcam
    · have hd := congrArg (Option.map PageCtx.desc) hfall
      unfold EnginePart.planOf at hd
      rw [Option.map_map, Option.map_map] at hd
      exact hd
  · obtain ⟨t, ht, ⟨c, hc, hplan⟩, hpr, hsl⟩ := pagePreparation_fallback hm hp hf he hs o
    exact ⟨t, ht, ⟨c, hc, (congrArg PageCtx.desc hplan :), (congrArg PageCtx.map hplan :), (congrArg PageCtx.arrays hplan :), (congrArg PageCtx.sets hplan :),
      (congrArg PageCtx.cistern hplan :)⟩, hpr, hsl⟩
  · intro rd i
    obtain ⟨t, ht, hctx, hdram, hother, heng, hpr⟩ := blockFetchDone_ends hb hc hp hw h1 hn (rs := rs)
    obtain ⟨hname1, hname2⟩ := PageCtx.planned_names hp
    refine ⟨t, _, fetchOf k e (s.fetchOutcome c k e rs), ht, hctx, PageCtx.addFetch_band hw k e _, ?_, ?_, ?_, ?_, fun hi => ?_, hdram, hother, heng, hpr⟩
    · cases s.fetchOutcome c k e rs with
      | ok ws => rfl
      | error n => rfl
    · rw [← hname1]
      cases s.fetchOutcome c k e rs with
      | ok ws => rfl
      | error n => rfl
    · rw [← hname2]
      cases s.fetchOutcome c k e rs with
      | ok ws => rfl
      | error n => rfl
    · have ho : c.fetchResult s.store.layers k e (!i.2.isEmpty) (!(i.1.readBursts rd.2).2.isEmpty) = s.fetchOutcome c k e rs := rfl
      rw [ho]
      cases s.fetchOutcome c k e rs with
      | ok ws => exact ⟨rfl, rfl, rfl⟩
      | error n => exact ⟨rfl, rfl⟩
    · have ho : s.fetchOutcome c k e rs = .error 10 := by
        unfold State.fetchOutcome
        rw [show (s.readBursts (s.fetchReads c k e rs).1).2.isEmpty = false from List.isEmpty_eq_false_iff.mpr hi]
        exact PageCtx.fetchResult_index ..
      rw [ho]
      rfl
  · intro u
    have hq' (hq : s.quiet) : u.done = .next u := State.done_quiet u hq
    refine ⟨fun h1 hf hq => ?_, fun hf hq => ?_, fun h2 he hm hn => engineBandHandover_hands hb hc hw h2 he hm hn, fun he hq => ?_⟩
    · refine (execEngineEdgeExchange_eq (sram := sram) hb hc hw).trans ((if_neg (by rw [h1, hf]; exact Bool.false_ne_true)).trans ?_)
      exact State.done_quiet _ ((congrArg HostPart.batch (State.setCtx_host ..)).trans hq)
    · exact (execEngineEdgeExchange_eq (sram := sram) hb hc hw).trans ((if_pos (by rw [hf, Bool.not_false, Bool.or_true])).trans (hq' hq))
    · exact (execEngineBandHandover_eq (sram := sram) hb hc hw).trans ((if_pos (by rw [he, Bool.not_false, Bool.or_true, Bool.true_or])).trans (hq' hq))

end Sys2Proof.Machine
end
